-- ==== Sys2Proof/Word.lean ====
section
/-! DEFINITION. The plain types every other file uses: bytes, 64 B lines of data, and sparse tables
kept as lists of (key, value) pairs with strictly rising keys. -/

namespace Sys2Proof

/-- One byte. -/
abbrev Byte := BitVec 8

/-- The 64 B of one CXL.mem request; byte `i` is bits `[8i+7:8i]` (R3). -/
abbrev Data64 := BitVec 512

/-- A sparse table by key, keys strictly rising. -/
abbrev Map (α : Type) := List (Nat × α)

/-- The value a table lists for a key, if any. -/
def Map.find? {α : Type} : Map α → Nat → Option α
  | [], _ => none
  | (k, v) :: m, q => if k = q then some v else Map.find? m q

/-- The value of a key, `d` where the table lists none. -/
def Map.get {α : Type} (m : Map α) (q : Nat) (d : α) : α := (m.find? q).getD d

/-- Set a key's value, keeping the keys rising. -/
def Map.put {α : Type} : Map α → Nat → α → Map α
  | [], q, v => [(q, v)]
  | (k, w) :: m, q, v =>
    if q < k then (q, v) :: (k, w) :: m
    else if q = k then (q, v) :: m
    else (k, w) :: Map.put m q v

/-- Drop a key. -/
def Map.del {α : Type} (m : Map α) (q : Nat) : Map α := m.filter fun e => e.1 != q

/-- Change the value of a key, starting from `d` where none is listed. -/
def Map.upd {α : Type} (m : Map α) (q : Nat) (d : α) (f : α → α) : Map α := m.put q (f (m.get q d))

/-- Whether the keys of a table rise strictly. -/
def Map.sorted {α : Type} : Map α → Bool
  | [] => true
  | [_] => true
  | a :: b :: m => decide (a.1 < b.1) && Map.sorted (b :: m)

/-- Ceiling of a quotient. -/
def ceilDiv (a b : Nat) : Nat := (a + b - 1) / b

/-- A signed 32-bit value as the 4 bytes that carry it (Table 14.1, S32). -/
def s32 (i : Int) : Nat := (i % 4294967296).toNat

/-- A signed 64-bit value as the 8 bytes that carry it (Table 14.1, S64). -/
def s64 (i : Int) : Nat := (i % 18446744073709551616).toNat

/-- The signed value that 4 bytes carry. -/
def ofS32 (n : Nat) : Int := if n < 2147483648 then (n : Int) else (n : Int) - 4294967296

/-- The signed value that 8 bytes carry. -/
def ofS64 (n : Nat) : Int :=
  if n < 9223372036854775808 then (n : Int) else (n : Int) - 18446744073709551616

/-- Bits `[hi:lo]` of a number. -/
def bits (n hi lo : Nat) : Nat := (n / 2 ^ lo) % 2 ^ (hi + 1 - lo)

end Sys2Proof
end

