-- ==== Sys2Proof/Syntax.lean ====
section
/-! DEFINITION. The commands of the W9620: one constructor per row of spec/opcode_table.json, with the
operands the rules give it. What a command measures or receives from outside (a voltage, a cell's content,
a link partner's ability) is an operand. -/

namespace Sys2Proof

/-- The role of the path by which a dictionary request arrives (R350, Table 14.2). -/
inductive Role where
  | host | board | fleet | service
  deriving DecidableEq, Repr

/-- A CXL.mem write as it arrives at a head: 64 B, its byte enables and its poison mark (R50, R62).
`stamp` is the global timebase in 16 ns units at the arrival (R94). -/
structure MemWrite where
  link : Fin 4
  dpa : Nat
  data : Data64
  be : BitVec 64
  poison : Bool
  stamp : BitVec 16
  deriving DecidableEq, Repr

/-- A write to a Desk slot (R175): the slot's group ID, the path, bits `[63:8]` of the command word
(bytes not enabled read as 0), and the operand bytes 8 to 63 that the write enables. -/
structure DeskArgs where
  link : Fin 4
  mailbox : Bool
  group : Nat
  word : BitVec 56
  operands : BitVec 448
  enable : BitVec 56
  deriving DecidableEq, Repr

/-- What one beat's step 1 and the thermal monitor sample, and how the beat's work went (R8, R10, R314, R469). -/
structure BeatInputs where
  vStoreMv : Nat
  iStoreMa : Int
  vinMv : Nat
  vbusMv : Nat
  tjC : Int
  tjSensor : Nat
  thermC : Map Int
  cellMv : Map Int
  stringMa : Map Int
  batteryChargeMah : Nat
  wire : Option (BitVec 32)
  workNs : Nat
  overrun : Option Nat
  deriving DecidableEq, Repr

/-- Which entry a layout change writes (R82). -/
inductive LayoutEntry where
  | interleaveGrain | journalBytes | mirrorAreaBytes
  deriving DecidableEq, Repr

/-- Causes of channel loss (Table 6.3). -/
inductive LossCause where
  | revalidation | interfaceCrc | uncorrectable | railFault
  deriving DecidableEq, Repr

/-- Where an uncorrectable read was (R131): in host-visible memory, or in a Cupboard block, whose row is named. -/
inductive UePlace where
  | memory (dpa : Nat)
  | cupboard (row : Nat)
  deriving DecidableEq, Repr

/-- Codewords of a read of flash that the decoder corrects and those that are erasures, by channel (R244), each as often as it
happens in the read pass; `units` gives the channels on which one program unit yields 8 or more (R260). -/
structure StripeRead where
  corrected : List (Fin 18)
  erased : List (Fin 18)
  units : List (Fin 18) := []
  deriving DecidableEq, Repr

/-- A read whose codewords all come back as they were stored. -/
def StripeRead.good : StripeRead := { corrected := [], erased := [] }

/-- How a bin of a search came out, and the hottest device temperature at its training (R121, R127). -/
structure SearchResult where
  passed : Bool
  hottestC : Int
  deriving DecidableEq, Repr

/-- What triggers an online retraining (R123). -/
inductive RetrainCause where
  | temperature (hottestC : Int)
  | ceTrend (corrected : Nat)
  deriving DecidableEq, Repr

/-- Why a rehearsal or a health test falls due (R171, R306). -/
inductive DueCause where
  | period | afterSave | request
  deriving DecidableEq, Repr

/-- A link hello of the Trestle (R203). -/
structure Hello where
  member : Nat
  domain : Nat
  generation : Nat
  master : Nat
  beat : BitVec 32
  startTag : Nat
  deriving DecidableEq, Repr

/-- What a cell carries (Table 9.7); `data` is the 44 B of a message that a tunnel cell brings, the first byte lowest. -/
inductive CellBody where
  | decide (targets : List Nat) (txn : Nat) (commit : Bool)
  | ack (txns : List Nat)
  | query (txns : List Nat)
  | answer (items : List (Nat × Bool × Bool))
  | tunnelReq (tag seg count data : Nat)
  | tunnelRsp (tag seg count data : Nat)
  | wake (reason : Nat)
  | timeSync (wire : BitVec 32) (wallNs : Int) (set : Bool)
  deriving DecidableEq, Repr

/-- A cell of the frame's cell area (Table 9.6). `dest` is the destination of a cell without MULTI. -/
structure Cell where
  source : Nat
  seq : Nat
  retry : Bool
  dest : Option Nat
  taken : Nat
  crcGood : Bool
  body : CellBody
  deriving DecidableEq, Repr

/-- A beat frame as it arrives at a member (Tables 9.3 to 9.5): header fields, roll-call words by member,
cell slots, the 256 B spans whose link check failed, the lap that the master reports to every member, whose place in the frame
the spec does not give (R205), and how long after its own beat boundary, in ns, the member saw the frame start (R216). -/
structure Frame where
  domain : Nat
  wire : BitVec 32
  generation : Nat
  master : Nat
  ringB : Bool
  takeover : Bool
  wrapped : Bool
  hops : Nat
  pathPs : Nat
  crcGood : Bool
  roll : Map Nat
  badSpans : List Nat
  cells : Map Cell
  port : Fin 2
  lapNs : Nat
  arrivalNs : Nat
  deriving DecidableEq, Repr

/-- One item of a dictionary request: address, value and the value's length in bytes (R348, Table 14.5). -/
structure Item where
  index : Nat
  sub : Nat
  value : Nat
  len : Nat
  deriving DecidableEq, Repr

/-- A dictionary request message (Table 14.5). `link` is the mailbox's link for role H, `member` the requesting member for
role T. -/
structure DictMsg where
  role : Role
  link : Fin 4
  member : Nat
  tag : Nat
  target : Nat
  handle : Nat
  snapshot : Bool
  malformed : Bool
  items : List Item
  deriving DecidableEq, Repr

/-- One item of a dictionary response: address, error code (Table 14.9), type code and value. -/
structure RespItem where
  index : Nat
  sub : Nat
  error : Nat
  type : Nat
  value : Nat
  deriving DecidableEq, Repr

/-- A dictionary operation carried through the tunnel (Table 14.7). -/
inductive DictOp where
  | read | write | describe | setOpen | setAdd | setSubmit | setDiscard | setStatus
  deriving DecidableEq, Repr

/-- What the parameter pages of one NAND channel give (R238, R239): image and spare targets, LUNs of a target, planes, pages of a
block in pSLC mode, bytes of a page's main and spare area, the interface rate, blocks of a plane in pSLC mode, and whether the
targets fill the chip enables from CE0 upward, have the features of Table 10.1, and confirm pSLC mode by the profile's check
read (R240). -/
structure NandPop where
  targets : Nat
  spareTargets : Nat
  lunsPerTarget : Nat
  planes : Nat
  pages : Nat
  mainBytes : Nat
  spareBytes : Nat
  rateMts : Nat
  blocks : Nat
  fromCe0 : Bool
  features : Bool
  pslc : Bool
  deriving DecidableEq, Repr

/-- What a NAND profile of the Vorosh image gives (R240): rated cycles, times in pSLC mode and the levels of its read-retry
table. -/
structure NandProfile where
  ratedCycles : Nat
  tprogNs : Nat
  trNs : Nat
  tbersNs : Nat
  retryLevels : Nat
  deriving DecidableEq, Repr

/-- What BRING-UP finds of the module (R15, R115, R239, R240, R241): of each DRAM channel the device width, the devices per
subchannel and rank, their density in Gbit, the ranks and the stack height (Table 6.1); of the NAND channels their populations
and the image blocks marked bad, by channel, LUN, block of a plane and plane; and the profiles of the running image. -/
structure BringUpInputs where
  deviceWidth : Nat
  devices : Nat
  densityGbit : Nat
  ranks : Nat
  height : Nat
  channelsMatch : Bool
  nand : List NandPop
  badBlocks : List (Fin 18 × Nat × Nat × Fin 4)
  profiles : Map NandProfile
  deriving DecidableEq, Repr

/-- A structure of the on-chip SRAM (Table 16.2). -/
inductive SramOwner where
  | leafTable (leaves : List Nat)
  | groupTable | claimCache
  | heat (bundles : List Nat)
  | nandStaging (leaf : Nat)
  | longcaseTables
  | bureau (pair : Fin 5)
  | chestRing
  deriving DecidableEq, Repr

/-- Triggers of a COLD reset in the order of Table 13.8. -/
inductive ColdCause where
  | pin | command | rail | bureauInBringUp | rdpLowered | recoveryActivate
  deriving DecidableEq, Repr

/-- The commands. -/
inductive Instr where
  | beat (b : BeatInputs)
  | hostWrite (w : MemWrite)
  | heldWriteRelease (stamp : BitVec 16)
  | journalWaitEnd (stamp : BitVec 16)
  | hostRead (link : Fin 4) (dpa : Nat) (stamp : BitVec 16)
  | touchRestoreComplete (leaf ns : Nat) (read : StripeRead := .good)
  | backgroundRestoreLeaf (read : StripeRead := .good)
  | restoreComplete
  | gpfPhase1 (link : Fin 4)
  | gpfPhase2 (link : Fin 4)
  | linkTrained (link : Fin 4) (partnerRate partnerWidth : Nat) (flit256 : Bool)
  | linkLoss (link : Fin 4)
  | hostReset (link : Fin 4)
  | flr (link : Fin 4)
  | linkEnableWrite (role : Role) (link : Fin 4) (value : Nat)
  | linkShutdownComplete (link : Fin 4)
  | laneFault (link : Fin 4) (lane errors : Nat) (lockLost partnerL0p : Bool)
  | msixModerationExpire (link : Fin 4) (vector : Nat)
  | identify (link : Fin 4)
  | backgroundOperationStatus (link : Fin 4)
  | getEventRecords (link : Fin 4) (log : Fin 4)
  | clearEventRecords (link : Fin 4) (log : Fin 4) (all : Bool) (handles : List Nat)
  | getEventInterruptPolicy (link : Fin 4)
  | setEventInterruptPolicy (link : Fin 4) (vectors : Map Nat)
  | getFwInfo (link : Fin 4)
  | transferFw (link : Fin 4)
  | activateFw (link : Fin 4)
  | getTimestamp (link : Fin 4)
  | setTimestamp (link : Fin 4) (ns : Nat)
  | getSupportedLogs (link : Fin 4)
  | getLog (link : Fin 4) (cel : Bool)
  | identifyMemoryDevice (link : Fin 4)
  | getPartitionInfo (link : Fin 4)
  | setPartitionInfo (link : Fin 4)
  | getLsa (link : Fin 4) (offset length : Nat)
  | setLsa (link : Fin 4) (offset : Nat) (data : List Byte)
  | getHealthInfo (link : Fin 4)
  | getAlertConfiguration (link : Fin 4)
  | setAlertConfiguration (link : Fin 4) (config : Nat)
  | getShutdownState (link : Fin 4)
  | setShutdownState (link : Fin 4) (state : Nat)
  | getPoisonList (link : Fin 4) (dpa length : Nat)
  | injectPoison (link : Fin 4) (dpa : Nat) (stamp : BitVec 16)
  | clearPoison (link : Fin 4) (dpa : Nat) (data : Data64) (stamp : BitVec 16)
  | scanMediaCapabilities (link : Fin 4) (dpa length : Nat)
  | scanMedia (link : Fin 4) (dpa length : Nat)
  | getScanMediaResults (link : Fin 4)
  | scanMediaComplete (link : Fin 4)
  | sanitize (link : Fin 4)
  | sanitizeComplete
  | secureErase (link : Fin 4)
  | getSecurityState (link : Fin 4)
  | setPassphrase (link : Fin 4) (master : Bool) (current new : Nat)
  | disablePassphrase (link : Fin 4) (master : Bool) (current : Nat)
  | unlockDevice (link : Fin 4) (passphrase : Nat)
  | freezeSecurityState (link : Fin 4)
  | passphraseSecureErase (link : Fin 4) (master : Bool) (passphrase : Nat)
  | mailboxUnsupported (link : Fin 4) (opcode : BitVec 16)
  | prepareSleep (link : Fin 4) (wakeNow : BitVec 5) (memNow saveNow : Bool)
  | drowseEntry (wakeNow : BitVec 5)
  | wakeTimerFire
  | storeAlarmRise
  | svcFrameStart
  | wake (source : Fin 5) (link : Option (Fin 4))
  | wakeComplete (us : Nat)
  | deskOperandStage (a : DeskArgs)
  | deskPoisonedWrite (link : Fin 4) (group : Nat)
  | deskNop (a : DeskArgs)
  | deskInvalidOpcode (opcode : BitVec 8) (a : DeskArgs)
  | deskOpen (a : DeskArgs)
  | deskClaim (a : DeskArgs)
  | deskRelease (a : DeskArgs)
  | deskCommit (a : DeskArgs)
  | deskAbort (a : DeskArgs)
  | rollbackComplete (group : Nat)
  | deskBeginJoint (a : DeskArgs)
  | deskPrepare (a : DeskArgs)
  | deskDecide (a : DeskArgs)
  | deskAckTerminal (a : DeskArgs)
  | deskRead (link : Fin 4) (group : Nat) (canFinish : Bool)
  | decideCellReceived (source txn : Nat) (commit : Bool)
  | ackCellReceived (source : Nat) (txns : List Nat)
  | queryCellReceived (source : Nat) (txns : List Nat)
  | answerCellReceived (source : Nat) (items : List (Nat × Bool × Bool))
  | decideResend
  | prepareQueryTimer (group : Nat)
  | indoubtQuery (group : Nat)
  | decisionCacheExpire (txn : Nat)
  | forceOutcomeWrite (role : Role) (value : Nat)
  | layoutChangeWrite (role : Role) (entry : LayoutEntry) (value : Nat)
  | mirrorArmingComplete (window : Fin 64)
  | burstIssue (chan : Fin 13) (sub : Fin 2) (now : BitVec 16) (corrected : Option (Fin 10 × Bool) := none)
  | burstPromoted (chan : Fin 13) (id : Nat) (now : BitVec 16)
  | burstAncient (chan : Fin 13) (id : Nat) (now : BitVec 16)
  | class0ShareInterval (chan : Fin 13) (sub : Fin 2)
  | refreshDue (chan : Fin 13) (sub : Fin 2) (bank deviceMax : Nat) (now : BitVec 16)
  | activationLimit (chan : Fin 13) (sub : Fin 2) (banks : List Nat) (durationNs : Nat)
  | bankHashWrite (role : Role) (sub value : Nat)
  | dramTrainingComplete (chan : Fin 13) (rate : Nat) (hottestC : Int) (passed : Bool)
  | fastBootComplete (chan : Fin 13) (keyMatches crcGood passed : Bool)
  | dqsTrack (chan : Fin 13) (driftPs : Int)
  | retrainTrigger (chan : Fin 13) (cause : RetrainCause)
  | retrainRequestWrite (role : Role) (value : Nat)
  | gatherWindowClose (chan : Fin 13) (last : Bool)
  | onlineRetrainComplete (chan : Fin 13) (found previousPasses : Bool) (hottestC : Int)
  | searchBinComplete (chan : Fin 13) (result : SearchResult)
  | rateMaxWrite (role : Role) (chan : Fin 13) (value : Nat)
  | uncorrectableRead (chan : Fin 13) (place : UePlace)
  | patrolScrub (chan : Fin 13) (row : Nat) (corrected : Option (Fin 128 × Fin 10)) (again : Bool)
  | rowFailed (chan : Fin 13) (row : Nat) (spareRowLeft : Bool)
  | spareRequestWrite (role : Role) (value : Nat)
  | proactiveCopyComplete
  | channelLost (chan : Fin 13) (cause : LossCause)
  | channelRebuildComplete
  | requalifyRequestWrite (role : Role) (value : Nat)
  | deltaLazyWrite (leaf : Nat)
  | deltaSnapshotStart
  | deltaSnapshotComplete
  | heatDecay
  | trickleCandidateRebuild
  | trickleSelect
  | wearRateRecompute
  | rehearsalDue (cause : DueCause)
  | rehearsalStart
  | rehearsalIdleEnd (eIdleMj : Nat)
  | rehearsalRunEnd (eRunMj : Nat)
  | rehearsalOverdue
  | drowseTricklePeriod (start : Bool)
  | trestleLinkTrained (port : Fin 2) (delayNs : Nat) (hello : Hello)
  | trestleLinkEnableWrite (role : Role) (port : Fin 2) (value : Nat)
  | trestleShutdownComplete (port : Fin 2)
  | framePass (f : Frame)
  | frameReturn (f : Frame) (lapNs : Nat)
  | cellRetransmitTimeout (seq : Nat)
  | masterTakeover
  | startupFrameTimeout
  | trestleWrap (port : Fin 2)
  | trestleUnwrap (port : Fin 2)
  | timeSyncSend
  | timeSyncReceived (source : Nat) (wire : BitVec 32) (wallNs : Int) (set : Bool) (delayNs : Nat)
  | wakeCellReceived (source reason : Nat)
  | tunnelReqReceived (source : Nat) (op : DictOp) (m : DictMsg)
  | tunnelRspReceived (source tag status result handle beat : Nat) (items : List RespItem)
  | tunnelTimeout (tag : Nat)
  | rowFillTimeout
  | rowProgramComplete (row : Nat)
  | nandProgramFail (row slot shards : Nat) (chan : Fin 18)
  | checkpointStart
  | checkpointComplete
  | gcStart (read : StripeRead := .good)
  | gcVictimErased (segment : Nat)
  | nandLunFailed (chan : Fin 18) (lun : Nat)
  | nandRebuildDone
  | nandChannelFailed (chan : Fin 18)
  | powerFailTrip (thermalNow : Bool)
  | saveBegin
  | saveAndResume (role : Role)
  | saveAndHalt (role : Role)
  | saveDrainComplete
  | saveGroupSetComplete
  | saveRowStart
  | saveLeavesComplete
  | saveDeltasComplete
  | saveSealed (energyMj : Nat)
  | saveEnd
  | saveWithdrawal
  | inputGood
  | pfWarnAssert (vinMv : Nat)
  | storeCutoff
  | vauxFall
  | bringUpComplete (b : BringUpInputs)
  | leafMapRebuildComplete
  | groupSetLoadComplete (ms : Nat)
  | stringFailed (string : Fin 4)
  | chargerCvReached
  | prechargeDone
  | chargerFull
  | chargerRecharge
  | chargeTimeout
  | chargerFaultClear (role : Role) (value : Nat)
  | chargerFaultRecover
  | healthTestDue (cause : DueCause)
  | healthTestStart
  | healthTestEnd (capMf esrMohm : Nat) (stringCapMf : Map Nat)
  | niuraCalibration (largeMove refsDisagree : Bool)
  | niuraShellWatchdog
  | storeOvervoltage (mv : Nat)
  | cellOvervoltage (cell mv : Nat)
  | busOvervoltage (mv : Nat)
  | holdupOverload (us : Nat)
  | railStable (rail : Fin 32)
  | railDown
  | pgGlitch (rail : Fin 32)
  | seqTimeout
  | seqRetryWaitEnd
  | seqRetryRequest (role : Role) (value : Nat)
  | railFault (rail : Fin 32) (mv : Nat)
  | railGraceExpire (group : Fin 16)
  | retryRailExpire (rail : Fin 32)
  | groupEnableWrite (role : Role) (group : Fin 16) (value : Nat)
  | powerOnReset
  | coldReset (cause : ColdCause)
  | coldResetRequest (role : Role) (value : Nat)
  | bureauResetRequest (role : Role) (value : Nat)
  | bureauReloadComplete
  | blockResetRequest (role : Role) (value : Nat)
  | blockResetComplete (code : Nat)
  | dictRead (m : DictMsg)
  | dictWrite (m : DictMsg)
  | dictDescribe (m : DictMsg)
  | setOpen (m : DictMsg)
  | setAdd (m : DictMsg)
  | setSubmit (m : DictMsg)
  | setDiscard (m : DictMsg)
  | setStatus (m : DictMsg)
  | setIdleTimeout (slot : Fin 16)
  | registerWrite (role : Role) (index sub value len : Nat)
  | wallTimeWrite (role : Role) (value : Nat)
  | faultClear (role : Role) (block : Fin 17) (value : Nat)
  | injectedLiveClear (block : Fin 17)
  | chestEflashSpool
  | chestRingFailed (lost : Nat)
  | chestReadRecord (role : Role)
  | injectorFire (block : Fin 17)
  | pairFail (pair : Fin 5)
  | pairTakeoverComplete (role : Fin 4)
  | spareSelfTest (passed : Bool)
  | sramRepair (array : Nat) (column : Bool)
  | sramUe (owner : SramOwner)
  | irqSourceRaise (source : Fin 512)
  | irqClaim (role : Fin 4)
  | irqComplete (role : Fin 4) (source : Nat)
  | irqModerationExpire (group : Fin 32)
  | eflashProgram (bank : Fin 2) (start : Bool)
  | eflashSectorErase (bank : Fin 2)
  | eflashBankErase (bank : Fin 2)
  | eflashSuspend (bank : Fin 2)
  | eflashResume (bank : Fin 2)
  | eflashMarginRead (bank : Fin 2) (mode : Nat)
  | eflashReadStatus (bank : Fin 2)
  | eflashExit (bank : Fin 2)
  | eflashDataWrite (bank : Fin 2) (offset : Nat) (data : BitVec 64)
  | eflashBadStore (bank : Fin 2)
  | eflashUnlockTimeout (bank : Fin 2)
  | eflashRead (bank : Fin 2) (offset : Nat) (debug corrected uncorrectable : Bool)
  | eflashOperationComplete (bank : Fin 2) (passed : Bool)
  | eflashBrownout
  | brownoutRecover
  | scrubSweep (bank : Fin 2) (sector : Nat) (fails uncorrectable last : Bool)
  | fullRefresh (bank : Fin 2) (sector : Nat) (uncorrectable last : Bool)
  | rdpRaise (role : Role) (value : Nat)
  | rdpLowerArm (role : Role) (value : Nat)
  | rdpLower (role : Role)
  | keyRevokeArm (role : Role) (value : Nat)
  | keyRevokeRequest (role : Role) (value : Nat)
  | svcHello (seq : Nat)
  | svcSetRate (seq code : Nat)
  | svcRateFallback
  | imageBegin (seq length : Nat)
  | imageData (seq offset : Nat) (data : List Byte)
  | imageEnd (seq : Nat)
  | imageActivate (seq now : Nat)
  | imageAbort (seq : Nat)
  | svcUnknownType (seq type : Nat)
  | svcFrameBad
  | spdmGetVersion (endpoint : Nat)
  | spdmGetCapabilities (endpoint : Nat)
  | spdmNegotiateAlgorithms (endpoint : Nat)
  | spdmGetDigests (endpoint : Nat)
  | spdmGetCertificate (endpoint slot offset length : Nat)
  | spdmChallenge (endpoint slot summary nonce : Nat)
  | spdmGetMeasurements (endpoint index : Nat) (sign : Bool) (nonce : Nat)
  | spdmChunkSend (endpoint seq : Nat) (last : Bool) (chunk : List Byte)
  | spdmChunkGet (endpoint seq : Nat)
  | spdmRespondIfReady (endpoint : Nat)
  | spdmUnsupported (endpoint code : Nat)
  | ptRun (role : Role) (value bits errors line : Nat)
  | marginRun (role : Role) (value : Nat)
  | marginRunComplete (unit firstFailing : Nat)
  | tapExtest
  | tapIdcode
  | tapSamplePreload
  | tapClamp
  | tapHighz
  | tapExtestPulse
  | tapExtestTrain
  | tapTestAccess
  | tapBypass
  | avsCheck (guardMv : Int)
  | thermalLifeLog
  | hdmDecoderCommit (link : Fin 4) (decoder : Fin 4) (dpaBase size ways granularity : Nat)
  | msixVectorUnmask (link : Fin 4) (vector : Option Nat)
  | l0pHostRequest (link : Fin 4) (width : Nat)
  | doeCdatAccess (link : Fin 4) (table : Bool)
  | laneMargining (link : Fin 4) (lane : Nat) (voltage : Bool) (step : Int)
  | checkerLock (unit : Nat)
  | checkerLockLoss (unit bits errors : Nat)
  | busBelowHuBusMin (mv : Nat)
  | ocvCorrection
  | entdaa (address : Nat)
  | setdasa (static address : Nat)
  deriving DecidableEq, Repr

end Sys2Proof
end

