-- ==== Sys2Proof/Decode.lean ====
section
/-! DEFINITION. The commands that a word spells. Every row of the opcode table lists its command with no field and
no bits ("fields" is empty throughout), so no word spells a command. -/

namespace Sys2Proof

/-- The command whose bits are `w`: none, as the table gives no row any bits. -/
def decodeTableWord (_nbits _w : Nat) : Option Instr := none

end Sys2Proof
end

