-- ==== Sys2Proof/Config.lean ====
section
/-! DEFINITION. What one part or one image fixes, and the free values: constants with no body, so that no proof
can see what they are. -/

namespace Sys2Proof.Config

/-- Free values, numbered by `State.free`: a value the spec leaves open is `free n` for a fresh `n` (log entry 4). -/
opaque free : Nat → Nat

/-- Fused and factory values by index and sub-index (Default "Fused", R366, R388, R443, R457). -/
opaque fused : Nat → Nat → Nat

/-- Values that the active image gives, by its firmware version, index, sub-index and selected unit (Default "Image", R368,
R400). -/
opaque image : Nat → Nat → Nat → Nat → Nat

/-- SHA-256 of a byte string, as a number whose lowest byte is the hash's first octet (R424, R440). -/
opaque sha256 : List (BitVec 8) → Nat

/-- Whether an RSASSA-PSS signature over a message verifies under a modulus and exponent (R423). -/
opaque rsaVerify : List (BitVec 8) → Nat → List (BitVec 8) → List (BitVec 8) → Bool

/-- A signature over a message by the identity key (R440, R441). -/
opaque sign : List Nat → Nat

/-- The certificate chain of the SPDM responder by slot (R441). -/
opaque certificate : Nat → List Nat

/-- A measurement by index (R442). -/
opaque measurement : Nat → Nat

/-- Which block of a channel's carve holds a block of a Cupboard structure: by structure, copy and block (R80 gives the channel, no
rule the place on it). -/
opaque cupboardBlock : Nat → Nat → Nat → Nat

/-- The chunk that holds the n-th chunk of a group's journal entries, by group and n (R186). -/
opaque journalChunk : Nat → Nat → Nat

/-- The byte of a test pattern at a channel offset, by pattern code, user pattern and channel: no rule gives the order in which
the data lines' bits fill a row (R445, R448). -/
opaque patternByte : Nat → Nat → Nat → Nat → BitVec 8

/-- The first metadata block number of a checkpoint, which the spec does not give (R246). -/
opaque checkpointBlock : Nat

/-- The place of a page's record in the claim hash (R183). -/
opaque claimSlot : Nat → Nat

/-- AES-256-XTS (IEEE 1619) of a data unit of 4,096 B under a key of 512 bits and a tweak, as numbers whose byte `i` is byte `i`
(R246). -/
opaque aesXts : Nat → Nat → Nat → Nat

/-- The 448 B of LDPC parity of a codeword's content and header: no rule gives the code (R243). -/
opaque ldpc : Nat → Nat

/-- The first block number of a save's delta records, by the save epoch: no rule gives it (R275, Table 11.4). -/
opaque deltaBlock : Nat → Nat

/-- The format version in the journal header (Table 8.8), which no rule gives. -/
opaque journalFormat : Nat

/-- The number by which a CHARGER_FAULT record names its cause (R303), which no rule gives: 0 store overvoltage, 1 cell overvoltage,
2 charge timeout. -/
opaque chargerCause : Nat → Nat

/-- tRFC of the fitted devices in ns, for same-bank (true) or all-bank refresh (R99). -/
opaque trfcNs : Bool → Nat

/-- The time in ns of a gather window's training windows that overlaps the wait of a burst which entered after it opened: by the
time of them all and the burst, and at most that time (R99, R121). -/
opaque gatherOverlap : Nat → Nat → Nat

/-- One less than the activations of a bank at which the devices' mode registers require RFM (R109). -/
opaque activationLimit : Nat

end Sys2Proof.Config
end

