-- ==== Sys2Proof/Machine/State.lean ====
section
/-! DEFINITION. The whole state of the W9620 as plain data, and its state after reset.

Dictionary entries whose value is stored live in `regs`, keyed by index and sub-index (and by the selected
unit, where an entry acts on a selection); an unlisted entry holds its Default (R6). Entries that report other
state (the mode, a slot's status, a count) are views computed from that state and have no second home. -/

namespace Sys2Proof.Machine

/-- Why a step stops with a fault. -/
inductive Fault where
  /-- Raised by HOST_WRITE, HOST_READ and the Desk's commands in CXL.mem on a DPA that lies in no region the link reaches
  through a committed HDM decoder (R45, R49, R74): no such request can exist. Safe: the model stops where the hardware has no case. -/
  | unmappedDpa
  deriving DecidableEq, Repr

/-- Why a command is refused by the model. -/
inductive Refusal where
  /-- Raised by a dispatch arm whose command has no meaning yet; none is left. Safe. -/
  | notModelled (mnemonic : String)
  deriving DecidableEq, Repr

/-- Operating modes (Table 1.6). -/
inductive Mode where
  | dormant | bringUp | online | drowse | save | restore
  deriving DecidableEq, Repr

/-- Host link states (Table 3.9, link_state). -/
inductive LinkState where
  | down | training | l0 | l0p | l1 | disabling | pendingStart
  deriving DecidableEq, Repr

/-- Trestle link states (Table 9.2). -/
inductive PortState where
  | down | training | up | inService | fault | disabling | pendingStart
  deriving DecidableEq, Repr

/-- Leaf states (Table 7.1). -/
inductive LeafState where
  | clean | dirty | copying | pinned | unrestored | lost | restoring
  deriving DecidableEq, Repr

/-- Desk slot states (Table 8.3). -/
inductive SlotState where
  | free | opened | prepared | committed | aborted | inDoubt
  deriving DecidableEq, Repr

/-- Save states (Table 11.2). -/
inductive SaveState where
  | idle | arming | closing | draining | groupSet | leaves | deltas | sealing | sealed
  deriving DecidableEq, Repr

/-- Save triggers (Table 11.1). -/
inductive Trigger where
  | none | powerFail | planned | command | commandHalt | channelUncovered
  deriving DecidableEq, Repr

/-- Supply states (Table 12.2). -/
inductive Supply where
  | input | holdup | rehearse | test | cutoff
  deriving DecidableEq, Repr

/-- Charger states (Table 12.4). -/
inductive Charger where
  | off | precharge | cc | cv | full | paused | fault
  deriving DecidableEq, Repr

/-- Causes of the charger's FAULT (R303, Table 12.5). -/
inductive ChargerCause where
  | storeOvervoltage | cellOvervoltage | timeout
  deriving DecidableEq, Repr

/-- Number of a cause, as `Config.chargerCause` takes it. -/
def ChargerCause.code : ChargerCause → Nat
  | .storeOvervoltage => 0 | .cellOvervoltage => 1 | .timeout => 2

/-- Sources of poison (R61); a channel-loss line is of source Internal, and one record of length 4. -/
inductive PoisonSource where
  | internal | external | injected | channelLoss
  deriving DecidableEq, Repr

/-- DevLoad (Table 3.3). -/
inductive DevLoad where
  | light | optimal | moderate | severe
  deriving DecidableEq, Repr

/-- A Chest record (Table 15.3) with its snapshot values. -/
structure ChestRec where
  seq : Nat
  devNs : Nat
  wallNs : Int
  code : Nat
  severity : Nat
  inj : Bool
  clockUnset : Bool
  fallback : Bool
  beat : BitVec 32
  suppressed : Nat
  values : List Nat
  torn : Bool
  deriving DecidableEq, Repr

/-- An entry descriptor as DESCRIBE returns it (Table 14.10); `next` is `none` for the last entry. -/
structure Descriptor where
  index : Nat
  sub : Nat
  error : Nat
  type : Nat
  size : Nat
  keeping : Nat
  flags : Nat
  access : List Nat
  minimum : Int
  maximum : Int
  dflt : Int
  step : Nat
  next : Nat
  name : String
  deriving DecidableEq, Repr

/-- Return codes of mailbox commands (R56, R57), as CXL names them. -/
inductive MailRc where
  | success | backgroundStarted | invalidInput | unsupported | busy | invalidSecurityState | incorrectPassphrase
  | invalidHandle | internalError
  deriving DecidableEq, Repr

/-- What the W9620 sends out. The outputs of the last command stand in `State.out`. -/
inductive Output where
  /-- The event named by the command cannot take place in this state: nothing changed. -/
  | notApplicable
  /-- The link's credits are withheld, or the link is not up: the request is not accepted (R17, R52). -/
  | notAccepted (link : Nat)
  /-- The request waits in ingress without completion. -/
  | held (link : Nat)
  | writeDone (link dpa : Nat) (load : DevLoad)
  | readData (link dpa : Nat) (data : Data64) (poison : Bool) (load : DevLoad)
  /-- A Desk slot read: the 32 status bytes, or all ones (R47, R179). -/
  | deskData (link group : Nat) (bytes : Nat) (load : DevLoad)
  | gpfDone (link : Nat)
  | mailbox (link opcode : Nat) (rc : MailRc) (payload : List Nat)
  | doe (link : Nat) (payload : Nat)
  | laneMargin (link lane : Nat) (result : Nat)
  /-- A message, with the address and data of its table entry then in force (R69). -/
  | msix (link vector sources : Nat) (entry : Nat × Nat)
  | cxlEvent (link log : Nat) (r : ChestRec)
  | mctpEvent (endpoint : Nat) (r : ChestRec)
  | dict (role : Role) (link tag status result handle beat : Nat) (items : List RespItem)
  | describe (role : Role) (link tag status : Nat) (descriptors : List Descriptor)
  | frame (f : Frame)
  /-- The hello that a port sends (R203). -/
  | hello (port : Nat) (h : Hello)
  /-- A cell is reported undelivered to the block that sent it (R221). -/
  | undelivered (c : Cell)
  | cell (c : Cell)
  | busData (bank : Nat) (data : BitVec 64)
  | busFault (syndrome : Nat)
  | claimed (value : Nat)
  | svc (type seq status : Nat) (payload : List Nat)
  | spdm (endpoint code : Nat) (payload : List Nat)
  | tap (loaded capture data : Nat)
  | chestRecord (r : Option ChestRec)
  | i3c (address : Nat)
  | wakeLink (link : Nat)
  deriving DecidableEq, Repr

/-- Time: the device's own beat count and device time, the extended beat (R217) and the wall time (R367). -/
structure Clock where
  devNs : Nat
  beat : Nat
  ext : BitVec 64
  adopted : Bool
  wallNs : Int
  wallSet : Bool
  deriving DecidableEq, Repr

/-- Mode, resets, host access and sleep (chapter 13). -/
structure Control where
  mode : Mode
  prevMode : Mode
  modeBeat : BitVec 64
  /-- Host access is open (R52). -/
  access : Bool
  /-- VAUX is up (R463). -/
  vaux : Bool
  /-- DRAM holds its content. -/
  dramHeld : Bool
  /-- The retention flag (R276). -/
  retention : Bool
  /-- The last BRING-UP follows a COLD reset, and whether it was taken in RESTORE (Table 13.1). -/
  afterCold : Bool
  coldInRestore : Bool
  /-- This BRING-UP follows a COLD or POWER-ON reset (R111), at whose judged instant every slot was FREE and the decision
  table empty (R82). -/
  afterReset : Bool
  layoutOk : Bool
  /-- A bank-hash write was accepted and has not taken effect (R111). -/
  hashPending : Bool
  /-- Leaves from this index on are new in the layout that BRING-UP took, and start CLEAN (R82). -/
  newFrom : Option Nat
  /-- A COLD reset latched in SAVE (R280). -/
  coldPending : Option ColdCause
  /-- DORMANT is kept until a COLD or POWER-ON reset (R276, R469). -/
  haltLock : Bool
  /-- BRING-UP has stopped (R331). -/
  stopped : Bool
  /-- Boot ROM recovery mode (R439). -/
  recovery : Bool
  testHold : Nat
  /-- A Sanitize taken in DROWSE has not begun (R60). -/
  sanitizeDue : Bool
  bureauReload : Bool
  consents : BitVec 4
  waking : Bool
  wakeBeat : Nat
  workersHalted : Bool
  /-- A DROWSE trickle period runs (R173), the beat it began, and the earlier periods of the last 100,000 beats; and whether
  the copies that were in progress when DROWSE was entered are completed first (R333). -/
  tricklePeriod : Bool
  periodFrom : Nat
  periods : List (Nat × Nat)
  finishing : Bool
  /-- An admitted reset of a block: its code and whether a further one is latched (R345). -/
  blockBusy : Map Nat
  blockLatched : List Nat
  deriving DecidableEq, Repr

/-- A committed HDM decoder: the DPA span it maps (R49). -/
structure Decoder where
  base : Nat
  size : Nat
  ways : Nat
  granularity : Nat
  deriving DecidableEq, Repr

/-- A pending MSI-X vector (R68): causes waiting, the beat of the oldest, and the sources. -/
structure Pend where
  count : Nat
  since : Nat
  sources : Nat
  deriving DecidableEq, Repr

/-- One host link (chapter 3). -/
structure Link where
  state : LinkState
  rate : Nat
  width : Nat
  fullWidth : Nat
  decoders : Map Decoder
  decoderError : BitVec 4
  msixEnable : Bool
  unmasked : List Nat
  pend : Map Pend
  eventVectors : Map Nat
  logs : Map (List ChestRec)
  deferred : List ChestRec
  lsa : List Host.Cell
  shutdownState : Nat
  alert : Nat
  background : Option (Nat × Bool × Nat)
  scan : Option (Nat × Nat × Bool)
  gpfWait : Bool
  severe : Bool
  margin : Map Int
  /-- Lanes found faulty since the link was last reset and retrained (R72). -/
  faulty : Nat
  /-- MSI-X table: message address and data of each vector (R69). -/
  table : Map (Nat × Nat)
  /-- Output of a mailbox command that completed while the link was down, readable once it is back (Table 3.8). -/
  mailDue : Option Output
  /-- Width that both sides support, faults apart (R43, R72). -/
  trained : Nat
  deriving DecidableEq, Repr

/-- Why a request waits in ingress; `draining` marks a write that is complete and waits for its DRAM burst; `search` a
read of a line that awaits a channel search, or a write that journals one (R139, R186). -/
inductive Wait where
  | draining | closed | admission | journal | rollback | touch | search
  deriving DecidableEq, Repr

/-- A write in ingress, in order of arrival (R50, R51): `since` is the beat its admission hold began, `reply` whether its
completion or mailbox answer is still due (Table 3.8). -/
structure IngressWrite where
  id : Nat
  w : MemWrite
  source : PoisonSource
  wait : Wait
  since : Nat
  reply : Bool
  /-- Bursts of the journal entry that its completion waits for, until they stand in transaction queues (Table 5.5). -/
  owes : List Nat := []
  deriving DecidableEq, Repr

/-- A read held in ingress, with the stamp of its entry (R52, R94, R139, R286), and for a slot read how many waiting commands of
its slot entered before it (R180). -/
structure HeldRead where
  link : Fin 4
  dpa : Nat
  wait : Wait
  stamp : BitVec 16
  ahead : Nat
  deriving DecidableEq, Repr

/-- Ingress of all links: writes in order of arrival, held reads, and the next identifier. -/
structure Ingress where
  writes : List IngressWrite
  reads : List HeldRead
  nextId : Nat
  closed : Bool
  deriving DecidableEq, Repr

/-- The layout in force (R81, R82, R111), the DRAM population found (R115: the capacity of a channel, its ranks and stack
height), and the head modes latched (R42). -/
structure Layout where
  channelMiB : Nat
  ranks : Nat
  height : Nat
  grain : Nat
  journalBytes : Nat
  mirrorBytes : Nat
  hashEnable : Bool
  hashMasks : Map Nat
  headA : Nat
  headB : Nat
  deriving DecidableEq, Repr

/-- The leaf state table: one state for every leaf not listed, and the leaves that differ. -/
structure LeafTable where
  base : LeafState
  exc : Map LeafState
  deriving DecidableEq, Repr

/-- Heat word of a bundle (Table 7.6). -/
structure Heat where
  old : Bool
  last : Nat
  heat : Nat
  deriving DecidableEq, Repr

/-- A record of the delta log: its sequence, a leaf and the state that it sets (R150, R152). -/
structure DeltaRec where
  seq : Nat
  leaf : Nat
  state : LeafState
  deriving DecidableEq, Repr

/-- The delta log (R150 to R152): the latest complete snapshot with its slot and the sequence at which the ring is replayed
over it, the records since then, a snapshot being written with the sequence at its start, the block that its copy has
reached, and lazy changes not yet written. -/
structure DeltaLog where
  seq : Nat
  snapshot : LeafTable
  slot : Fin 2
  start : Nat
  records : List DeltaRec
  fill : Nat
  writing : Option (LeafTable × Nat)
  block : Nat
  lazy : List (Nat × LeafState × Nat)
  deriving DecidableEq, Repr

/-- Rehearsal phases (R171). -/
inductive Rehearsal where
  | none | due | idle | run
  deriving DecidableEq, Repr

/-- Trickle, wear governor, budget and rehearsal (chapter 7). -/
structure Trickle where
  cursor : Nat
  candidates : List Nat
  rebuiltAt : Nat
  written : List Nat
  tokens : Int
  rate : Nat
  overdrawn : Bool
  drawGained : Nat
  horizonPassed : Bool
  samples : List Nat
  charging : Bool
  overBudget : Bool
  rehearsal : Rehearsal
  dueBeat : Nat
  overdue : Bool
  phaseBeat : Nat
  idleMj : Nat
  runBytes : Nat
  panic : Bool
  lastHour : Nat
  /-- A SAVE has programmed a stripe since a rehearsal last fell due for one (R171). -/
  saveDue : Bool
  decayBeat : Nat
  /-- Beat at which RESTORE began, and the NAND time in ns that trickle and GC programs have taken since (R287). -/
  restoreFrom : Nat
  restoreNs : Nat
  deriving DecidableEq, Repr

/-- A Desk slot (Table 8.3) with its hidden operand stage (R175), which a COLD reset and a save keep (DESIGN CHOICE, log entry 182),
and the commands waiting behind a running one. -/
structure Slot where
  state : SlotState
  result : Nat
  running : Bool
  anchor : Bool
  part : Bool
  jfull : Bool
  restored : Bool
  forced : Bool
  journalWait : Bool
  lastOpcode : Nat
  lastSeq : BitVec 16
  lines : Nat
  discarded : Nat
  txn : Nat
  detail : Nat
  stage : BitVec 448
  openedAt : Nat
  queryBeat : Nat
  /-- Result and detail that stand once a rollback ends. -/
  after : Option (Nat × Nat)
  /-- The first waiting command is a CLAIM held for a touch restore (R286). -/
  touching : Bool
  waiting : List (Nat × DeskArgs)
  /-- Links whose DESK_COMMAND answers once RUNNING has cleared (R180). -/
  mail : List Nat
  deriving DecidableEq, Repr

/-- A claim on a page (Table 8.6). -/
structure Claim where
  group : Nat
  lines : BitVec 16
  deriving DecidableEq, Repr

/-- A journal entry (Table 8.10): the pre-image is the line's listed bytes. -/
structure JEntry where
  line : Nat
  group : Nat
  poisoned : Bool
  seq : Nat
  pre : List Host.Cell
  deriving DecidableEq, Repr

/-- A decision table entry (Table 8.12). `state` is 1 UNDECIDED, 2 COMMIT, 3 ABORT. -/
structure Decision where
  txn : Nat
  state : Nat
  roster : List Nat
  acked : Nat
  slot : Nat
  begunBeat : BitVec 64
  decidedBeat : BitVec 64
  sentBeat : Nat
  presumed : Bool
  deriving DecidableEq, Repr

/-- A decision that found no part (R195). -/
structure CachedDecision where
  txn : Nat
  commit : Bool
  beat : Nat
  deriving DecidableEq, Repr

/-- The Group engine (chapter 8). -/
structure Groups where
  slots : Map Slot
  claims : Map Claim
  journal : List JEntry
  undo : List JEntry
  nextJseq : Nat
  nextOpen : Nat
  decisions : Map Decision
  cache : List CachedDecision
  /-- The member's own beat of the last resend of DECIDE cells (R196). -/
  resendBeat : Nat
  /-- DECIDE cells are to be resent at once, after the member's own restore (R196). -/
  resendDue : Bool
  deriving DecidableEq, Repr

/-- The block copy that a burst belongs to, if any: of a mirror arming copy (R88) with the unit copied, of proactive sparing
(R136), of a rebuild (R138), of a delta-log snapshot (R151). -/
inductive Job where
  | none
  | arm (unit : Nat)
  | copyRead | copyWrite
  | carve | leafLines | touchLines
  | snapshot
  deriving DecidableEq, Repr

/-- A burst of 64 B in the DRAM scheduler (R91): its port is 0 to 3 for H0 to H3, then TR 4, RS 5, JN 6, SC 7, MG 8; its class
now and its class in ONLINE (Table 5.1); the channel offset of its 64 B; the 64 B it names (R106); and how far R99's bound is
extended for it, in ns. -/
structure Burst where
  id : Nat
  /-- Bursts that enter their transaction queues in one cycle carry the same number (Table 5.5); before it is queued, 0 for a burst that
  begins such a set, and 1 for one that belongs to the burst before it. -/
  mate : Nat
  chan : Nat
  off : Nat
  port : Nat
  cls : Nat
  own : Nat
  stamp : BitVec 16
  unit : Nat
  write : Bool
  inQueue : Bool
  promoted : Bool
  ancient : Option Nat
  ingress : Option Nat
  job : Job
  extended : Nat
  deriving DecidableEq, Repr

/-- The DRAM scheduler (chapter 5): its bursts in entry order, open rows, the class 0 share used, refreshes postponed, the
activations of each bank since RFM last served it, and the banks that RFM has served in this tREFI with the time it took, in ns
(R109). -/
structure Sched where
  bursts : List Burst
  nextId : Nat
  nextAncient : Nat
  openRow : Map Nat
  share : Map Nat
  lastPort : Map Nat
  postponed : Map Nat
  hits : Map (Nat × Nat)
  acts : Map Nat
  rfm : Map (List Nat × Nat)
  deriving DecidableEq, Repr

/-- DRAM channel work that no dictionary entry holds (chapter 6), by physical channel. -/
structure Dram where
  /-- Rate bins with a training record, in a channel's own sectors (R403). -/
  records : Map (List Nat)
  /-- Records in shared sectors, least recently used first, and those replaced (R403). -/
  shared : List (Nat × Nat)
  evicted : List (Nat × Nat)
  /-- Records, by channel and bin, found or made valid since this start (R118, R126). -/
  verified : List (Nat × Nat)
  /-- Channels trained or verified since this BRING-UP began (R117, R119, R120). -/
  ready : List Nat
  /-- The bin that a channel which must be fully trained at this start tries next (R117), and the bin at which one must be
  trained at the next reset (R126). -/
  training : Map Nat
  trainAt : Map Nat
  /-- The channel retraining and those queued (R123). -/
  retrain : Option Nat
  queue : List Nat
  /-- The rate its results were gathered at (R124), when the last gather window closed (R121), and of the gather window that is
  open the time in ns of its training windows and the first burst that entered after it opened. -/
  gathered : Map Nat
  gatherClosed : Map Nat
  gather : Option (Nat × Nat)
  /-- A rate change that waits for a boundary outside a gather window (R125, R126). -/
  deferredRate : Map Nat
  /-- Beat at which the last trigger was served (R123), and of the last DQS tracking; by how many ps tracking has corrected the
  read and write DQS delays since full training (R122). -/
  served : Map Nat
  dqsAt : Map Nat
  dqs : Map Int
  /-- Corrections by device, bank and row (R129); row errors and uncorrectable errors of a row (R130, R133). -/
  corrected : Map Nat
  /-- The 64 B of a channel that have been corrected and written back (R130). -/
  rewritten : Map (List Nat)
  rowErrors : Map Nat
  rowUe : Map Nat
  /-- sPPR repairs not yet permanent (R133). -/
  soft : Map Nat
  /-- The patrol scrub's next row, and the beat at which its sweep began (R132). -/
  scrub : Map (Nat × Nat)
  /-- The bin a search tries (R127). -/
  search : Map Nat
  /-- A copy to start once ONLINE (R142), the spare receiving a copy or a rebuild, and the 4 KiB block that the copy has
  reached (R136); in the rebuild that follows the loss of its SOURCE, blocks below it count as rebuilt (Table 6.5). -/
  copyWanted : Option Nat
  target : Option Nat
  copyPtr : Nat
  /-- The logical channel being rebuilt, the carve block reached, the leaf states when it was lost, and the leaves rebuilt,
  being rebuilt in the background, and being rebuilt on the touch path (R138, R141). -/
  lostLogical : Option Nat
  carvePtr : Nat
  rebuildFrom : LeafTable
  rebuilt : List Nat
  rebuilding : Option Nat
  rebuildTouch : List Nat
  /-- 64 B units that await the search of a lost channel (R139). -/
  awaiting : Map (List Nat)
  /-- Channels marked for requalification at the next reset, and those being requalified (R144). -/
  requalify : List Nat
  requalifying : List Nat
  /-- Logical channels without storage (R143). -/
  uncovered : List Nat
  deriving DecidableEq, Repr

/-- A flash copy: its leaf map entry (Table 10.3) and what its shard headers keep (Table 10.2). -/
structure Copy where
  seq : Nat
  segment : Nat
  row : Nat
  slot : Nat
  bySave : Bool
  degraded : Bool
  keyId : Nat
  epoch : Nat
  poison : Map PoisonSource
  /-- Number of the row in the order of forming, by which a scan orders what it finds (R255). -/
  rowId : Nat
  deriving DecidableEq, Repr

/-- A stripe being formed or programmed: a leaf, the bytes read, its poison and its kind
(0 trickle, 1 save, 2 relocation, 3 filler, 5 rehearsal). -/
structure Stripe where
  leaf : Nat
  seq : Nat
  origin : Nat
  source : Option (Nat × Nat × Nat)
  data : List Host.Cell
  poison : Map PoisonSource
  live : Bool
  degraded : Bool
  deriving DecidableEq, Repr

/-- What a stripe is encrypted under (R246, R264): the key ID in its headers, the media key, and the tweak of its first data
unit, from which the tweaks of the others count up. -/
structure Crypt where
  keyId : Nat
  key : Nat
  tweak : Nat
  deriving DecidableEq, Repr

/-- The ciphertext of a stripe, kept as what it was encrypted under and the plaintext that this gives back (log entry 57). -/
structure Cipher where
  crypt : Crypt
  plain : List Host.Cell
  deriving DecidableEq, Repr

/-- A row being programmed. -/
structure Row where
  segment : Nat
  row : Nat
  /-- Shards of each stripe that lie nowhere, for want of a channel or a LUN (R261, R262). -/
  missing : Nat
  /-- Its 16 stripes by slot; one that is programmed elsewhere is left out (R263). -/
  stripes : Map Stripe
  deriving DecidableEq, Repr

/-- A segment that is open (1) or full (2): its open number, valid-stripe count, rows written, LUN index, and its erase unit on
each channel (R247). -/
structure Segment where
  state : Nat
  openNo : Nat
  valid : Nat
  rows : Nat
  lun : Nat
  units : Map Nat
  deriving DecidableEq, Repr

/-- What the wear table keeps of an erase unit (R259): its program/erase count and its state, 0 FREE, 1 OPEN, 2 FULL, 3 RETIRED. -/
structure EraseUnit where
  cycles : Nat
  state : Nat
  deriving DecidableEq, Repr

/-- A leaf's stripe as it lies in flash: what its shard headers say (Table 10.2), its ciphertext, and how many of its shards were
never written. -/
structure Stored where
  leaf : Nat
  seq : Nat
  origin : Nat
  keyId : Nat
  epoch : Nat
  poison : Map PoisonSource
  missing : Nat
  rowId : Nat
  cipher : Cipher
  deriving DecidableEq, Repr

/-- A checkpoint (R252): the image sequence, segment open number and row at which it began, the segments that hold its stripes
and their count, the leaf map, and the D record; the segment and wear tables are those of the store, which flash itself shows
(log entry 187). -/
structure Checkpoint where
  seq : Nat
  openNo : Nat
  rowId : Nat
  stripes : Nat
  segs : List Nat
  map : Map Copy
  dGeneration : Nat
  dValues : Map Nat
  crypt : Crypt
  deriving DecidableEq, Repr

/-- A root record (R253): its root sequence, the latest complete checkpoint, the row at which it began (by its image sequence and
open number), and where the latest seal record lies (segment and row). -/
structure Root where
  seq : Nat
  checkpoint : Option Checkpoint
  fromRow : Nat
  sealAt : Option (Nat × Nat)
  deriving DecidableEq, Repr

/-- A seal record (Table 11.4). -/
structure Seal where
  epoch : Nat
  trigger : Nat
  complete : Bool
  energyMj : Nat
  headSeq : Nat
  lastSeq : Nat
  residue : Nat
  saved : Nat
  newlyLost : Nat
  poisonedLines : Nat
  bytes : Nat
  startNs : Nat
  sealNs : Nat
  deltas : Nat
  lowestOrder : Nat
  chestSeq : Nat
  deriving DecidableEq, Repr

/-- A save in NAND: its head (Table 11.3), its group set and its seal. -/
structure SaveImage where
  epoch : Nat
  trigger : Nat
  mode : Nat
  headSeq : Nat
  residue : List Nat
  carriedLost : List Nat
  credited : List Nat
  beat : BitVec 64
  keyId : Nat
  crypt : Crypt
  dGeneration : Nat
  dValues : Map Nat
  slots : Map Slot
  claims : Map Claim
  journal : List JEntry
  undo : List JEntry
  nextJseq : Nat
  decisions : Map Decision
  txnCounter : Nat
  slotsFree : Bool
  /-- This save has been counted in the Dirty Shutdown Count (R64). -/
  counted : Bool
  groupSetDone : Bool
  withdrawn : Bool
  /-- The segments that hold its metadata, and the save delta records in the order of credit (R254). -/
  segs : List Nat
  deltas : List Nat
  /-- Host access has opened since this save, so that a power loss from here on follows no save (R82). -/
  resumed : Bool
  sealRecord : Option Seal
  deriving DecidableEq, Repr

/-- The NAND image store (chapter 10). -/
structure Nand where
  /-- The leaf map (R250), and the stripes of leaves in flash by place: 65,536 × segment + 16 × row + slot. -/
  copies : Map Copy
  flash : Map Stored
  segments : Map Segment
  /-- The wear table by erase unit, 2^24 × channel + 2^16 × LUN + number (R259); units never erased and FREE are not listed. -/
  units : Map EraseUnit
  unitsPerLun : Nat
  /-- Erase units with a block marked bad, and the root erase units (R241, R253). -/
  bad : List Nat
  roots : List Nat
  openData : Map Nat
  /-- The open metadata segment, and the LUN index after the last one used for metadata (R248). -/
  openMeta : Option Nat
  metaLun : Nat
  nextOpen : Nat
  nextRow : Nat
  nextRowId : Nat
  forming : List Stripe
  formedAt : Nat
  rows : Map Row
  /-- The checkpoint being written. -/
  checkpoint : Option Checkpoint
  checkpointBeat : Nat
  sinceCheckpoint : Nat
  /-- The root records that stand, the latest first: each update goes to the other unit of the pair (R253). -/
  rootRecs : List Root
  victim : Option Nat
  /-- Segments marked for erase in the background (R264), and those whose erase was cut short (R258). -/
  marked : List Nat
  cutErases : List Nat
  /-- Stripes that wait to be relocated (R256, R158). -/
  relocating : List Stripe
  /-- Segments and channels whose erase units are to be retired (R244). -/
  retiring : List (Nat × Nat)
  rebuild : List (Nat × Nat)
  rebuildPaused : Bool
  /-- Failed LUN indices of each channel as a mask, the spare LUNs taken (32 × channel + LUN of the target), and the LUN that takes
  the place of a failed one (by 32 × channel + index; R261). -/
  lunsFailed : Map Nat
  spareUsed : List Nat
  rebound : Map Nat
  channelsFailed : List Nat
  recentRetired : Map (List Nat)
  /-- The profile in force (R240). -/
  profile : Option NandProfile
  keyPresent : Bool
  /-- The 512-bit media key (R264). -/
  mediaKey : Nat
  image : Option SaveImage
  unavailable : Bool
  deriving DecidableEq, Repr

/-- The save engine and the restore (chapter 11). -/
structure Save where
  state : SaveState
  trigger : Trigger
  /-- Beat boundaries still to pass before SAVE begins (R267, R268). -/
  arm : Nat
  startNs : Nat
  fromMode : Mode
  noWithdraw : Bool
  todo : List Nat
  credited : List Nat
  stopped : Bool
  energyStart : Nat
  poisonedLines : Nat
  bytes : Nat
  /-- Save delta records kept in the Cupboard, in the order of credit (R254, R273). -/
  deltas : List Nat
  restoreState : Nat
  loading : Nat
  startBeat : Nat
  touch : List Nat
  touchWait : List Nat
  deriving DecidableEq, Repr

/-- One Trestle port. -/
structure Port where
  state : PortState
  delayNs : Nat
  hello : Option Hello
  lastTag : Option Nat
  failed : Bool
  trainedBeat : Nat
  turned : Bool
  /-- Failed link checks, by beat, over the last 1,000 beats, and the beat of the last frame start (R229). -/
  checkFails : List (Nat × Nat)
  lastStart : Option Nat
  deriving DecidableEq, Repr

/-- A cell in flight (R218, R221). -/
structure Flight where
  cell : Cell
  port : Fin 2
  beat : Nat
  retries : Nat
  deriving DecidableEq, Repr

/-- What a target keeps of a source's cells (R220). -/
structure History where
  startTag : Nat
  highest : Option Nat
  seen : BitVec 64
  deriving DecidableEq, Repr

/-- A tunnel request outstanding (R235): its target, its beat, and the requester it answers. -/
structure Tunnel where
  target : Nat
  beat : Nat
  role : Role
  link : Fin 4
  tag : Nat
  deriving DecidableEq, Repr

/-- A tunnelled message of which some segments have been taken (R235): the 44 B of each, by index. -/
structure Partial where
  source : Nat
  response : Bool
  tag : Nat
  count : Nat
  got : Map Nat
  beat : Nat
  deriving DecidableEq, Repr

/-- The Trestle (chapter 9). -/
structure Trestle where
  ports : Map Port
  master : Option Nat
  issuing : Bool
  takeoverBeat : Option Nat
  lastFrame : Option Nat
  startBeat : Nat
  passed : List Nat
  /-- The wire beat of a frame received in this beat, which the next one follows (R216, R217). -/
  lastWire : Option (BitVec 32)
  roll : Map Nat
  rollWire : BitVec 32
  wait : List Cell
  flight : List Flight
  nextSeq : Nat
  history : Map History
  duplicate : Bool
  /-- Roll call and cells of the frames that have returned, by ring (R210). -/
  carryRoll : Map (Map Nat)
  carryCells : Map (Map Cell)
  /-- Retransmissions made of a cell in flight or waiting, by sequence (R221). -/
  retries : Map Nat
  /-- Frames that have passed, by wire beat and ring: one that a wrap sends by again is no duplicate (R209, R212). -/
  frames : List Nat
  /-- Beat of the last TIME_SYNC; none when one is due at once. -/
  sync : Option Nat
  tunnels : Map Tunnel
  partials : List Partial
  /-- Tunnelled messages whose segments have all been taken: source, whether a response, and the bytes (R235). -/
  arrived : List (Nat × Bool × Nat)
  loaded : Bool
  /-- How far the master's beat boundary lies from the own one, in ns (R216). -/
  offsetNs : Int
  deriving DecidableEq, Repr

/-- Niura (chapter 12): samples, comparator, supply, charger, store, tests. -/
structure Niura where
  vinMv : Nat
  vStoreMv : Nat
  iStoreMa : Int
  vbusMv : Nat
  high : Bool
  /-- The output is low, and the 4 µs glitch filter has not run out yet (R268, R294). -/
  falling : Bool
  highBeats : Nat
  inputGood : Bool
  tripped : Bool
  /-- The beat of the last trip: a calibration due in it is skipped (Table 12.9). -/
  tripBeat : Option Nat
  alarm : Bool
  pfWarn : Bool
  supply : Supply
  isolationOpen : Bool
  charger : Charger
  resume : Charger
  chargeBeats : Nat
  termBeats : Nat
  faultTimeout : Bool
  /-- An overvoltage stands in FAULT beside any timeout (R302). -/
  faultOver : Bool
  faultBeats : Nat
  gatesOff : Bool
  bleeding : List Nat
  openTaps : List Nat
  /-- Thermistors above their alarm (R305). -/
  hot : List Nat
  share : Map Nat
  switchedOut : List Nat
  accepted : Bool
  refFault : Bool
  shellUp : Bool
  healthDue : Bool
  /-- The test due, or running, is one on request: failed strings are switched in for it (R301). -/
  healthTrial : Bool
  healthHour : Nat
  healthBeat : Nat
  shellAt : Nat
  firstFull : Bool
  restBeats : Nat
  charge : Nat
  /-- Thermal life since its last log (R473): beats, the sum of T_j over them, and beats above 105 °C in all. -/
  lifeBeats : Nat
  lifeSum : Int
  overBeats : Nat
  /-- Beats with a guard band above 60 mV (R472). -/
  avsAbove : Nat
  deriving DecidableEq, Repr

/-- Direction of the rail sequencer. -/
inductive SeqDir where
  | idle | up | down | abortDown
  deriving DecidableEq, Repr

/-- Rail sequencing (R317 to R326). -/
structure Rails where
  dir : SeqDir
  step : Nat
  restarts : Nat
  retried : Bool
  /-- Beat at which the step, or the retry wait, began. -/
  waitFrom : Nat
  /-- Groups in grace: the beat it began, and whether a COLD reset follows it (Table 12.7). -/
  grace : Map (Nat × Bool)
  /-- Rails retried: their retries, and the beat of the last. -/
  retries : Map (Nat × Nat)
  deriving DecidableEq, Repr

/-- An open or submitted change set (R361). -/
structure ChangeSet where
  generation : Nat
  submitted : Bool
  failed : Bool
  items : List (Item × Nat)
  lastBeat : Nat
  deriving DecidableEq, Repr

/-- A change set that waits for step 4: its slot, or for a plain WRITE of a BEAT entry (R357) the reply that waits for it and
the item's place in it; its items with the selection each was staged under. -/
structure Submitted where
  slot : Option Nat
  reply : Nat
  place : Nat
  role : Role
  link : Fin 4
  member : Nat
  tag : Nat
  items : List (Item × Nat)
  deriving DecidableEq, Repr

/-- The response of a WRITE that waits for beat boundaries (R357): its items, and how many still wait. -/
structure Reply where
  role : Role
  link : Fin 4
  member : Nat
  tag : Nat
  items : List RespItem
  left : Nat
  deriving DecidableEq, Repr

/-- The dictionary's change sets, and the messages that wait for a beat boundary or a reload (chapter 14). -/
structure Dict where
  sets : Map ChangeSet
  nextGen : Nat
  submitted : List Submitted
  replies : Map Reply
  nextReply : Nat
  snapshots : List DictMsg
  deferred : List (DictOp × DictMsg)
  deriving DecidableEq, Repr

/-- One fault group (Table 15.2), less its mask, which is a setting; `detail` keeps the detail word of the
occurrence that set each live bit. -/
structure FaultGroup where
  live : BitVec 32
  sticky : BitVec 32
  ffCode : Nat
  ffBeat : BitVec 64
  valid : Bool
  inj : Bool
  overflow : Bool
  injSeen : Bool
  ffDetail : BitVec 64
  events : Nat
  details : Map (BitVec 64 × Bool)
  injLive : BitVec 32
  injBeat : Nat
  deriving DecidableEq, Repr

/-- The Chest (chapter 15). -/
structure Chest where
  nextSeq : Nat
  mark : Nat
  ring : List ChestRec
  unspooled : Nat
  cupboard : List ChestRec
  /-- The next place of the Cupboard spool (R382). -/
  cupboardAt : Nat
  eflashWait : List ChestRec
  /-- The embedded-flash spool: each record with the sector it begins in; the sector being filled and its places used. -/
  eflash : List (Nat × ChestRec)
  spoolSector : Nat
  spoolUsed : Nat
  lastGasp : List ChestRec
  ringFailed : Bool
  tokens : Map (Nat × Nat)
  suppressed : Map Nat
  deriving DecidableEq, Repr

/-- The Bureau's pairs and interrupt controller (chapter 16). -/
structure Bureau where
  roles : Map Nat
  takeover : Map Nat
  level : List Nat
  active : Map Nat
  since : Map Nat
  line : List Nat
  lost : Bool
  sparesRow : Map Nat
  sparesCol : Map Nat
  deriving DecidableEq, Repr

/-- An embedded-flash operation (Table 17.2). -/
inductive FlashOp where
  | program (units : Map (BitVec 256))
  | erase (sector : Nat)
  | bankErase
  deriving DecidableEq, Repr

/-- An open command sequence of a bank: none, program data being loaded, an erase waiting for its address, or a bank erase
waiting for its second unlock. -/
inductive FlashSeq where
  | none
  | loading (stores : Map (BitVec 64))
  | eraseAddress
  | bankConfirm
  deriving DecidableEq, Repr

/-- An erase journal entry (Table 17.6). -/
structure EraseEntry where
  kind : Nat
  sector : Nat
  seq : Nat
  opened : Bool
  deriving DecidableEq, Repr

/-- One embedded-flash bank (chapter 17): programmed units (an unlisted unit is erased), sequencer and journal. -/
structure Bank where
  units : Map (BitVec 256)
  op : Option FlashOp
  nested : Bool
  suspended : Option FlashOp
  sequence : FlashSeq
  statusMode : Bool
  margin : Nat
  sticky : BitVec 32
  lastSector : Nat
  journal : List EraseEntry
  journalRow : Nat
  nextJournal : Nat
  cycles : Map Nat
  worn : List Nat
  deriving DecidableEq, Repr

/-- Embedded flash common state. -/
structure Eflash where
  banks : Map Bank
  brownout : Bool
  rdpLevel : Nat
  rdpFuse : Bool
  lowerArm : Option Nat
  scrubAt : Nat
  deriving DecidableEq, Repr

/-- One image slot's row 0 (R428). -/
structure ImageSlot where
  state : Nat
  generation : Nat
  trials : Nat
  result : Nat
  fwVersion : Nat
  deriving DecidableEq, Repr

/-- An SPDM session (R441): its stage, when it was last used, and what it negotiated or holds in chunks. -/
structure SpdmSession where
  endpoint : Nat
  stage : Nat
  used : Nat
  request : List Byte
  response : List Nat
  deriving DecidableEq, Repr

/-- Firmware, keys, device security and the service port (chapters 3 and 18). -/
structure Security where
  slots : Map ImageSlot
  runningBank : Nat
  fwVersion : Nat
  securityVersion : Nat
  settingsFormat : Nat
  /-- The settings format under which the P values were stored (R354). -/
  storedFormat : Nat
  sequencerInterface : Nat
  /-- Measurements taken at a start, by index (R442). -/
  measured : Map Nat
  revoked : BitVec 4
  arbCounter : Nat
  revokeArm : Option Nat
  updateState : Nat
  updateLength : Nat
  updateBytes : Nat
  svcRate : Nat
  svcNext : Option (Nat × Nat)
  lastSeq : Option Nat
  lastResponse : List Output
  userPass : Option Nat
  masterPass : Option Nat
  locked : Bool
  frozen : Bool
  attempts : Nat
  sessions : List SpdmSession
  busAddress : Option Nat
  /-- The I3C static address in force (R476). -/
  staticAddress : Nat
  deriving DecidableEq, Repr

/-- Test units and the test access port (chapter 19). -/
structure Test where
  running : Map Nat
  locked : List Nat
  /-- The page register of each spare target that holds pattern: its code and user pattern (R447). -/
  page : Map (Nat × Nat)
  /-- NAND units that wait for their channel bus (R447). -/
  busWait : List Nat
  /-- Rows from 0 up of a DRAM channel that a test left the pattern in: its code, user pattern and row count (R448). -/
  rows : Map (Nat × Nat × Nat)
  instruction : Nat
  refused : Bool
  injDue : Map (Nat × Nat)
  deriving DecidableEq, Repr

/-- The state of the W9620 and of its command queue. `free` numbers the free values drawn so far; it is the
model's own. -/
structure State where
  pending : List Instr
  out : List Output
  free : Nat
  clock : Clock
  ctl : Control
  regs : Map Nat
  layout : Layout
  links : Map Link
  ingress : Ingress
  mem : List Host.Cell
  poison : Map PoisonSource
  poisonOverflow : Option Nat
  /-- Leaves with mirror lines reserved (R169). -/
  mirrorCopied : List Nat
  /-- Units of such leaves whose mirror copy stands, and leaves all of whose units have one (R88). -/
  mirrorUnits : List Nat
  mirrorWhole : List Nat
  leaves : LeafTable
  heat : Map Heat
  /-- Heat word of every bundle that `heat` does not list. -/
  heatBase : Heat
  delta : DeltaLog
  trickle : Trickle
  groups : Groups
  sched : Sched
  dram : Dram
  nand : Nand
  save : Save
  trestle : Trestle
  niura : Niura
  rails : Rails
  dict : Dict
  faults : Map FaultGroup
  chest : Chest
  bureau : Bureau
  eflash : Eflash
  security : Security
  test : Test
  deriving DecidableEq, Repr

/-! ### Values after reset

The values of the first POWER-ON reset of a part, with the Defaults of the spec's tables; where the spec gives
none, the value is zero or empty, a DESIGN CHOICE (assumption 3). -/

/-- Time after POWER-ON (Table 13.6). -/
def Clock.reset : Clock :=
  { devNs := 0, beat := 0, ext := 0, adopted := false, wallNs := 0, wallSet := false }

/-- DORMANT after POWER-ON (R330), with VAUX up and no valid image: the boot ROM is in recovery mode (R439). -/
def Control.reset : Control :=
  { mode := .dormant, prevMode := .dormant, modeBeat := 0, access := false, vaux := true, dramHeld := false,
    retention := false, afterCold := false, coldInRestore := false, afterReset := true, layoutOk := false,
    hashPending := false, newFrom := none, coldPending := none,
    haltLock := false, stopped := false, recovery := true, testHold := 0, sanitizeDue := false, bureauReload := false, consents := 0,
    waking := false, wakeBeat := 0, workersHalted := false, tricklePeriod := false, periodFrom := 0, periods := [],
    finishing := false,
    blockBusy := [], blockLatched := [] }

/-- A link before training (Table 3.9). -/
def Link.reset : Link :=
  { state := .down, rate := 0, width := 0, fullWidth := 0, decoders := [], decoderError := 0, msixEnable := false,
    unmasked := [], pend := [], eventVectors := [], logs := [], deferred := [], lsa := [], shutdownState := 0,
    alert := 0, background := none, scan := none, gpfWait := false, severe := false, margin := [], faulty := 0, table := [],
    mailDue := none, trained := 0 }

/-- Empty ingress. -/
def Ingress.reset : Ingress := { writes := [], reads := [], nextId := 0, closed := false }

/-- The layout of Defaults (Table 4.5); no DRAM has been found yet. -/
def Layout.reset : Layout :=
  { channelMiB := 0, ranks := 1, height := 1, grain := 0, journalBytes := 8589934592, mirrorBytes := 0, hashEnable := true,
    hashMasks := [(2, 0x249), (3, 0x492), (4, 0x924), (5, 0x5000), (6, 0xA000)], headA := 0, headB := 0 }

/-- Every leaf CLEAN (DESIGN CHOICE: no image exists yet; the states are loaded by BRING-UP). -/
def LeafTable.reset : LeafTable := { base := .clean, exc := [] }

/-- A delta log with a snapshot of the reset leaf states. -/
def DeltaLog.reset : DeltaLog :=
  { seq := 0, snapshot := LeafTable.reset, slot := 0, start := 0, records := [], fill := 0, writing := none, block := 0,
    lazy := [] }

/-- Trickle engine idle, in the charging interval that a reset begins (R167). -/
def Trickle.reset : Trickle :=
  { cursor := 0, candidates := [], rebuiltAt := 0, written := [], tokens := 0, rate := 0, overdrawn := false,
    drawGained := 0, horizonPassed := false, samples := [], charging := true, overBudget := true,
    rehearsal := .none, dueBeat := 0, overdue := false, phaseBeat := 0, idleMj := 0, runBytes := 0, restoreFrom := 0, restoreNs := 0,
    panic := false, lastHour := 0, saveDue := false, decayBeat := 0 }

/-- A FREE slot, its sequence 0xFFFF as at provisioning (R177). -/
def Slot.reset : Slot :=
  { state := .free, result := 0, running := false, anchor := false, part := false, jfull := false,
    restored := false, forced := false, journalWait := false, lastOpcode := 0, lastSeq := 0xFFFF, lines := 0,
    discarded := 0, txn := 0, detail := 0, stage := 0, openedAt := 0, queryBeat := 0, after := none,
    touching := false, waiting := [], mail := [] }

/-- No groups. -/
def Groups.reset : Groups :=
  { slots := [], claims := [], journal := [], undo := [], nextJseq := 0, nextOpen := 0, decisions := [], cache := [],
    resendBeat := 0, resendDue := false }

/-- No bursts queued. -/
def Sched.reset : Sched :=
  { bursts := [], nextId := 0, nextAncient := 0, openRow := [], share := [], lastPort := [], postponed := [], hits := [],
    acts := [], rfm := [] }

/-- No channel work. -/
def Dram.reset : Dram :=
  { records := [], shared := [], evicted := [], verified := [], ready := [], training := [], trainAt := [], retrain := none, queue := [],
    gathered := [], gatherClosed := [], gather := none, deferredRate := [], served := [], dqsAt := [], dqs := [], corrected := [],
    rewritten := [], rowErrors := [], rowUe := [], soft := [], scrub := [], search := [], copyWanted := none, target := none, copyPtr := 0,
    lostLogical := none, carvePtr := 0, rebuildFrom := LeafTable.reset, rebuilt := [], rebuilding := none,
    rebuildTouch := [], awaiting := [], requalify := [], requalifying := [], uncovered := [] }

/-- An erased NAND store, its media key in place (R264). -/
def Nand.reset : Nand :=
  { copies := [], flash := [], segments := [], units := [], unitsPerLun := 0, bad := [], roots := [], openData := [],
    openMeta := none, metaLun := 0, nextOpen := 0, nextRow := 0, nextRowId := 0, forming := [], formedAt := 0, rows := [],
    checkpoint := none, checkpointBeat := 0, sinceCheckpoint := 0, rootRecs := [], victim := none, marked := [],
    cutErases := [], relocating := [], retiring := [], rebuild := [], rebuildPaused := false, lunsFailed := [], spareUsed := [],
    rebound := [], channelsFailed := [], recentRetired := [], profile := none, keyPresent := true, mediaKey := 0,
    image := none, unavailable := false }

/-- No save and no restore. -/
def Save.reset : Save :=
  { state := .idle, trigger := .none, arm := 0, startNs := 0, fromMode := .dormant, noWithdraw := false, todo := [], credited := [], stopped := false, energyStart := 0,
    poisonedLines := 0, bytes := 0, deltas := [], restoreState := 0, loading := 0, startBeat := 0, touch := [], touchWait := [] }

/-- A Trestle port before training. -/
def Port.reset : Port :=
  { state := .down, delayNs := 0, hello := none, lastTag := none, failed := false, trainedBeat := 0, turned := false,
    checkFails := [], lastStart := none }

/-- Trestle stopped. -/
def Trestle.reset : Trestle :=
  { ports := [], master := none, issuing := false, takeoverBeat := none, lastFrame := none, startBeat := 0,
    passed := [], lastWire := none, roll := [], rollWire := 0, wait := [], flight := [], nextSeq := 0, history := [],
    duplicate := false, carryRoll := [], carryCells := [],
    retries := [], frames := [], sync := none, tunnels := [], partials := [], arrived := [], loaded := false, offsetNs := 0 }

/-- Niura before its first sample. -/
def Niura.reset : Niura :=
  { vinMv := 0, vStoreMv := 0, iStoreMa := 0, vbusMv := 0, high := false, falling := false, highBeats := 0, inputGood := false,
    tripped := false, tripBeat := none, alarm := false, pfWarn := false, supply := .input, isolationOpen := false, charger := .off,
    resume := .off, chargeBeats := 0, termBeats := 0, faultTimeout := false, faultOver := false, faultBeats := 0, gatesOff := false,
    bleeding := [], openTaps := [], hot := [], share := [], switchedOut := [], accepted := false, refFault := false,
    shellUp := true, healthDue := false, healthTrial := false, healthHour := 0, healthBeat := 0, shellAt := 0, firstFull := false, restBeats := 0, charge := 0,
    lifeBeats := 0, lifeSum := 0, overBeats := 0, avsAbove := 0 }

/-- Rails off. -/
def Rails.reset : Rails :=
  { dir := .idle, step := 0, restarts := 0, retried := false, waitFrom := 0, grace := [], retries := [] }

/-- No sets and no waiting messages. -/
def Dict.reset : Dict :=
  { sets := [], nextGen := 0, submitted := [], replies := [], nextReply := 0, snapshots := [], deferred := [] }

/-- An empty fault group (Table 15.2). -/
def FaultGroup.reset : FaultGroup :=
  { live := 0, sticky := 0, ffCode := 0, ffBeat := 0, valid := false, inj := false, overflow := false,
    injSeen := false, ffDetail := 0, events := 0, details := [], injLive := 0, injBeat := 0 }

/-- An empty Chest. -/
def Chest.reset : Chest :=
  { nextSeq := 0, mark := 65536, ring := [], unspooled := 0, cupboard := [], cupboardAt := 0, eflashWait := [], eflash := [], spoolSector := 0, spoolUsed := 0,
    lastGasp := [], ringFailed := false, tokens := [], suppressed := [] }

/-- The pairs of Table 16.1, no source raised. -/
def Bureau.reset : Bureau :=
  { roles := [(0, 1), (1, 2), (2, 4), (3, 8), (4, 0)], takeover := [], level := [], active := [], since := [],
    line := [], lost := false, sparesRow := [], sparesCol := [] }

/-- A bank with every unit erased. -/
def Bank.reset : Bank :=
  { units := [], op := none, nested := false, suspended := none, sequence := .none, statusMode := false,
    margin := 0, sticky := 0, lastSector := 0, journal := [], journalRow := 1, nextJournal := 0, cycles := [],
    worn := [] }

/-- Embedded flash of a part as made: read-out protection level 0. -/
def Eflash.reset : Eflash :=
  { banks := [], brownout := false, rdpLevel := 0, rdpFuse := false, lowerArm := none, scrubAt := 0 }

/-- An EMPTY image slot. -/
def ImageSlot.reset : ImageSlot := { state := 0, generation := 0, trials := 0, result := 0, fwVersion := 0 }

/-- No image, no passphrase, no session. -/
def Security.reset : Security :=
  { slots := [], runningBank := 0, fwVersion := 0, securityVersion := 0, settingsFormat := 0, storedFormat := 0,
    sequencerInterface := 0, measured := [], revoked := 0, arbCounter := 0, revokeArm := none, updateState := 0, updateLength := 0,
    updateBytes := 0, svcRate := 0, svcNext := none, lastSeq := none, lastResponse := [], userPass := none,
    masterPass := none, locked := false, frozen := false, attempts := 0, sessions := [],
    busAddress := none, staticAddress := 0x4E }

/-- No test runs. -/
def Test.reset : Test :=
  { running := [], locked := [], page := [], busWait := [], rows := [], instruction := 0, refused := false, injDue := [] }

/-- The W9620 right after the first POWER-ON reset of a part: every entry at its Default, reset_count `:01` and
start_count raised once by that reset (R339, R220). -/
def State.reset : State :=
  { pending := [], out := [], free := 0, clock := Clock.reset, ctl := Control.reset,
    regs := [(0x110201, 1), (0x480004, 1)], layout := Layout.reset, links := [], ingress := Ingress.reset,
    mem := [], poison := [], poisonOverflow := none, mirrorCopied := [], mirrorUnits := [], mirrorWhole := [],
    leaves := LeafTable.reset, heat := [],
    heatBase := { old := false, last := 0, heat := 0 }, delta := DeltaLog.reset, trickle := Trickle.reset,
    groups := Groups.reset, sched := Sched.reset,
    dram := Dram.reset, nand := Nand.reset, save := Save.reset, trestle := Trestle.reset, niura := Niura.reset,
    rails := Rails.reset, dict := Dict.reset, faults := [], chest := Chest.reset, bureau := Bureau.reset,
    eflash := Eflash.reset, security := Security.reset, test := Test.reset }

end Sys2Proof.Machine
end

