-- ==== Sys2Proof/Machine/Codes.lean ====
section
/-! DEFINITION. The event codes of stepping B0 (R369, Table 15.8): code n of block b has the value 32 × b + n. -/

namespace Sys2Proof.Machine

/-- One row of Table 15.8: code value, fault or information, severity (0 INFO to 3 FATAL), marked DPA, name. -/
structure CodeRow where
  code : Nat
  isFault : Bool
  severity : Nat
  dpa : Bool
  name : String
  deriving DecidableEq, Repr

/-- Table 15.8. -/
def codeTable : List CodeRow :=
  [
    ⟨0, true, 1, false, "BEAT_OVERRUN"⟩,
    ⟨1, false, 0, false, "CLOCK_STEP"⟩,
    ⟨2, false, 0, false, "CLOCK_SET"⟩,
    ⟨3, false, 0, false, "SLEEP_ABANDONED"⟩,
    ⟨32, true, 1, false, "FLIT_MODE_UNSUPPORTED"⟩,
    ⟨33, true, 1, false, "LANE_FAULT"⟩,
    ⟨34, false, 1, false, "DESK_RANGE_VIOLATION"⟩,
    ⟨35, false, 1, false, "DESK_POISONED_WRITE"⟩,
    ⟨64, false, 0, true, "UNCLAIMED_WRITE"⟩,
    ⟨96, true, 1, false, "ISSUE_BOUND_EXCEEDED"⟩,
    ⟨97, false, 0, false, "PANIC_HOLD"⟩,
    ⟨128, true, 3, false, "POPULATION_MISMATCH"⟩,
    ⟨129, true, 3, false, "POPULATION_UNSUPPORTED"⟩,
    ⟨130, true, 1, false, "SPARE_FAILED"⟩,
    ⟨131, true, 1, false, "CHANNEL_MARGINAL"⟩,
    ⟨132, true, 2, false, "CHANNEL_LOST"⟩,
    ⟨133, true, 2, false, "CHANNEL_FAILED"⟩,
    ⟨134, true, 3, false, "CHANNEL_UNCOVERED"⟩,
    ⟨135, true, 1, false, "PPR_EXHAUSTED"⟩,
    ⟨136, true, 2, true, "UE_POISONED"⟩,
    ⟨137, true, 2, true, "LINE_POISONED"⟩,
    ⟨138, false, 0, false, "ROW_REPAIRED"⟩,
    ⟨139, false, 0, false, "TRAINING_RECORD_EVICTED"⟩,
    ⟨160, true, 1, false, "OVER_BUDGET"⟩,
    ⟨161, true, 1, false, "REHEARSAL_OVERDUE"⟩,
    ⟨162, false, 1, false, "REHEARSAL_REJECTED"⟩,
    ⟨163, false, 1, false, "E_BYTE_RAISED"⟩,
    ⟨164, false, 1, false, "WEAR_HORIZON_PASSED"⟩,
    ⟨192, true, 2, false, "SAVE_SHORT"⟩,
    ⟨193, true, 2, false, "SAVE_UNSEALED"⟩ ]
  ++ [
    ⟨194, true, 3, false, "SAVE_BROKEN"⟩,
    ⟨195, true, 1, false, "SAVE_WITHDRAWN"⟩,
    ⟨196, true, 2, false, "LEAVES_LOST"⟩,
    ⟨197, false, 1, false, "SAVE_SHORT_RETAINED"⟩,
    ⟨198, false, 0, false, "RESTORE_COMPLETE"⟩,
    ⟨224, true, 1, false, "JOURNAL_FULL_ABORT"⟩,
    ⟨225, true, 1, false, "JOURNAL_WAIT"⟩,
    ⟨226, true, 1, false, "JOINT_UNPREPARED"⟩,
    ⟨227, true, 2, false, "FORCED_CONFLICT"⟩,
    ⟨228, false, 1, false, "FORCED_RESOLUTION"⟩,
    ⟨229, false, 1, true, "WRITE_DISCARDED"⟩,
    ⟨230, false, 1, true, "PAGE_FENCED"⟩,
    ⟨256, true, 3, false, "NAND_POPULATION_UNSUPPORTED"⟩,
    ⟨257, true, 3, false, "NAND_CAPACITY_SHORT"⟩,
    ⟨258, true, 1, false, "NAND_RATE_SHORT"⟩,
    ⟨259, true, 1, false, "NAND_LUN_FAILED"⟩,
    ⟨260, true, 2, false, "NAND_CHANNEL_FAILED"⟩,
    ⟨261, true, 3, false, "NAND_UNPROTECTED"⟩,
    ⟨262, true, 3, false, "NAND_UNAVAILABLE"⟩,
    ⟨263, false, 0, false, "ERASE_UNIT_RETIRED"⟩,
    ⟨264, false, 0, false, "NAND_REBUILD_DONE"⟩,
    ⟨288, true, 1, false, "TRESTLE_WRAP"⟩,
    ⟨289, true, 1, false, "DOMAIN_MISMATCH"⟩,
    ⟨290, true, 2, false, "DUPLICATE_MEMBER"⟩,
    ⟨291, true, 1, false, "MASTER_TAKEOVER"⟩,
    ⟨292, false, 0, false, "TRESTLE_UNWRAP"⟩,
    ⟨293, false, 0, false, "MASTER_YIELDED"⟩,
    ⟨294, false, 1, false, "FLEET_ALARM"⟩,
    ⟨295, false, 0, false, "BEAT_STEP"⟩,
    ⟨320, false, 1, false, "PF_WARN"⟩ ]
  ++ [
    ⟨321, true, 2, false, "STRING_FAILED"⟩,
    ⟨322, true, 1, false, "CHARGER_FAULT"⟩,
    ⟨323, true, 1, false, "TAP_OPEN"⟩,
    ⟨324, true, 1, false, "OVERTEMP"⟩,
    ⟨325, true, 1, false, "STORE_EOL"⟩,
    ⟨326, true, 1, false, "RAIL_FAULT"⟩,
    ⟨327, true, 2, false, "CHATTER"⟩,
    ⟨328, true, 2, false, "SEQ_TIMEOUT"⟩,
    ⟨329, true, 1, false, "NIURA_CAL_DRIFT"⟩,
    ⟨330, true, 1, false, "NIURA_REF_FAULT"⟩,
    ⟨331, true, 1, false, "NIURA_SHELL_FAULT"⟩,
    ⟨332, true, 1, false, "HOLDUP_OVERLOAD"⟩,
    ⟨333, false, 1, false, "HEALTH_TEST_REJECTED"⟩,
    ⟨334, true, 1, false, "THERMAL_WARN"⟩,
    ⟨335, true, 1, false, "THERMAL_THROTTLE"⟩,
    ⟨336, true, 3, false, "THERMAL_TRIP"⟩,
    ⟨337, true, 2, false, "AGING_LIMIT"⟩,
    ⟨338, true, 1, false, "LIFE_TEMP_EXCEEDED"⟩,
    ⟨339, false, 0, false, "AVS_STEP"⟩,
    ⟨352, true, 3, false, "CHEST_RING_FAILED"⟩,
    ⟨353, true, 1, false, "RING_OVERRUN"⟩,
    ⟨354, true, 2, false, "SPOOL_WRITE_FAILED"⟩,
    ⟨355, true, 1, false, "SPOOL_DELAYED"⟩,
    ⟨384, true, 2, false, "PAIR_MISMATCH"⟩,
    ⟨385, true, 1, false, "SPARE_PAIR_FAILED"⟩,
    ⟨386, true, 1, false, "BUREAU_DEGRADED"⟩,
    ⟨387, true, 3, false, "BUREAU_LOST"⟩,
    ⟨388, true, 1, false, "SRAM_SPARES_EXHAUSTED"⟩,
    ⟨389, true, 2, false, "SRAM_UE"⟩,
    ⟨390, false, 1, false, "PAIR_TAKEOVER"⟩ ]
  ++ [
    ⟨391, false, 0, false, "PAIR_REQUALIFIED"⟩,
    ⟨392, false, 0, false, "SRAM_ROW_REPAIRED"⟩,
    ⟨393, false, 0, false, "SRAM_COLUMN_REPAIRED"⟩,
    ⟨416, true, 2, false, "PROGRAM_FAILED"⟩,
    ⟨417, true, 2, false, "ERASE_FAILED"⟩,
    ⟨418, true, 2, false, "ECC_UE"⟩,
    ⟨419, true, 1, false, "SECTOR_WORN"⟩,
    ⟨420, true, 1, false, "BROWNOUT_ABORT"⟩,
    ⟨421, true, 2, false, "REGION_WORN"⟩,
    ⟨422, false, 0, false, "ERASE_REOPENED"⟩,
    ⟨423, false, 0, false, "ERASE_RESUMED_AFTER_RELOAD"⟩,
    ⟨424, false, 0, false, "SCRUB_REWRITE"⟩,
    ⟨425, false, 1, false, "RDP_LOWERED"⟩,
    ⟨448, true, 1, false, "IMAGE_REJECTED"⟩,
    ⟨449, true, 2, false, "IMAGE_TRIAL_FAILED"⟩,
    ⟨450, false, 0, false, "IMAGE_ACTIVATED"⟩,
    ⟨480, true, 1, false, "TEST_HOLD_REFUSED"⟩,
    ⟨481, false, 0, false, "TEST_PREEMPTED"⟩,
    ⟨512, false, 1, false, "SETTINGS_DEFAULTED"⟩,
    ⟨513, true, 1, false, "D_VALUE_OUT_OF_RANGE"⟩ ]

/-! The codes by name. -/

/-- BEAT_OVERRUN, code 0 of block 0. -/
abbrev Code.beatOverrun : Nat := 0
/-- CLOCK_STEP, code 1 of block 0. -/
abbrev Code.clockStep : Nat := 1
/-- CLOCK_SET, code 2 of block 0. -/
abbrev Code.clockSet : Nat := 2
/-- SLEEP_ABANDONED, code 3 of block 0. -/
abbrev Code.sleepAbandoned : Nat := 3
/-- FLIT_MODE_UNSUPPORTED, code 0 of block 1. -/
abbrev Code.flitModeUnsupported : Nat := 32
/-- LANE_FAULT, code 1 of block 1. -/
abbrev Code.laneFault : Nat := 33
/-- DESK_RANGE_VIOLATION, code 2 of block 1. -/
abbrev Code.deskRangeViolation : Nat := 34
/-- DESK_POISONED_WRITE, code 3 of block 1. -/
abbrev Code.deskPoisonedWrite : Nat := 35
/-- UNCLAIMED_WRITE, code 0 of block 2. -/
abbrev Code.unclaimedWrite : Nat := 64
/-- ISSUE_BOUND_EXCEEDED, code 0 of block 3. -/
abbrev Code.issueBoundExceeded : Nat := 96
/-- PANIC_HOLD, code 1 of block 3. -/
abbrev Code.panicHold : Nat := 97
/-- POPULATION_MISMATCH, code 0 of block 4. -/
abbrev Code.populationMismatch : Nat := 128
/-- POPULATION_UNSUPPORTED, code 1 of block 4. -/
abbrev Code.populationUnsupported : Nat := 129
/-- SPARE_FAILED, code 2 of block 4. -/
abbrev Code.spareFailed : Nat := 130
/-- CHANNEL_MARGINAL, code 3 of block 4. -/
abbrev Code.channelMarginal : Nat := 131
/-- CHANNEL_LOST, code 4 of block 4. -/
abbrev Code.channelLost : Nat := 132
/-- CHANNEL_FAILED, code 5 of block 4. -/
abbrev Code.channelFailed : Nat := 133
/-- CHANNEL_UNCOVERED, code 6 of block 4. -/
abbrev Code.channelUncovered : Nat := 134
/-- PPR_EXHAUSTED, code 7 of block 4. -/
abbrev Code.pprExhausted : Nat := 135
/-- UE_POISONED, code 8 of block 4. -/
abbrev Code.uePoisoned : Nat := 136
/-- LINE_POISONED, code 9 of block 4. -/
abbrev Code.linePoisoned : Nat := 137
/-- ROW_REPAIRED, code 10 of block 4. -/
abbrev Code.rowRepaired : Nat := 138
/-- TRAINING_RECORD_EVICTED, code 11 of block 4. -/
abbrev Code.trainingRecordEvicted : Nat := 139
/-- OVER_BUDGET, code 0 of block 5. -/
abbrev Code.overBudget : Nat := 160
/-- REHEARSAL_OVERDUE, code 1 of block 5. -/
abbrev Code.rehearsalOverdue : Nat := 161
/-- REHEARSAL_REJECTED, code 2 of block 5. -/
abbrev Code.rehearsalRejected : Nat := 162
/-- E_BYTE_RAISED, code 3 of block 5. -/
abbrev Code.eByteRaised : Nat := 163
/-- WEAR_HORIZON_PASSED, code 4 of block 5. -/
abbrev Code.wearHorizonPassed : Nat := 164
/-- SAVE_SHORT, code 0 of block 6. -/
abbrev Code.saveShort : Nat := 192
/-- SAVE_UNSEALED, code 1 of block 6. -/
abbrev Code.saveUnsealed : Nat := 193
/-- SAVE_BROKEN, code 2 of block 6. -/
abbrev Code.saveBroken : Nat := 194
/-- SAVE_WITHDRAWN, code 3 of block 6. -/
abbrev Code.saveWithdrawn : Nat := 195
/-- LEAVES_LOST, code 4 of block 6. -/
abbrev Code.leavesLost : Nat := 196
/-- SAVE_SHORT_RETAINED, code 5 of block 6. -/
abbrev Code.saveShortRetained : Nat := 197
/-- RESTORE_COMPLETE, code 6 of block 6. -/
abbrev Code.restoreComplete : Nat := 198
/-- JOURNAL_FULL_ABORT, code 0 of block 7. -/
abbrev Code.journalFullAbort : Nat := 224
/-- JOURNAL_WAIT, code 1 of block 7. -/
abbrev Code.journalWait : Nat := 225
/-- JOINT_UNPREPARED, code 2 of block 7. -/
abbrev Code.jointUnprepared : Nat := 226
/-- FORCED_CONFLICT, code 3 of block 7. -/
abbrev Code.forcedConflict : Nat := 227
/-- FORCED_RESOLUTION, code 4 of block 7. -/
abbrev Code.forcedResolution : Nat := 228
/-- WRITE_DISCARDED, code 5 of block 7. -/
abbrev Code.writeDiscarded : Nat := 229
/-- PAGE_FENCED, code 6 of block 7. -/
abbrev Code.pageFenced : Nat := 230
/-- NAND_POPULATION_UNSUPPORTED, code 0 of block 8. -/
abbrev Code.nandPopulationUnsupported : Nat := 256
/-- NAND_CAPACITY_SHORT, code 1 of block 8. -/
abbrev Code.nandCapacityShort : Nat := 257
/-- NAND_RATE_SHORT, code 2 of block 8. -/
abbrev Code.nandRateShort : Nat := 258
/-- NAND_LUN_FAILED, code 3 of block 8. -/
abbrev Code.nandLunFailed : Nat := 259
/-- NAND_CHANNEL_FAILED, code 4 of block 8. -/
abbrev Code.nandChannelFailed : Nat := 260
/-- NAND_UNPROTECTED, code 5 of block 8. -/
abbrev Code.nandUnprotected : Nat := 261
/-- NAND_UNAVAILABLE, code 6 of block 8. -/
abbrev Code.nandUnavailable : Nat := 262
/-- ERASE_UNIT_RETIRED, code 7 of block 8. -/
abbrev Code.eraseUnitRetired : Nat := 263
/-- NAND_REBUILD_DONE, code 8 of block 8. -/
abbrev Code.nandRebuildDone : Nat := 264
/-- TRESTLE_WRAP, code 0 of block 9. -/
abbrev Code.trestleWrap : Nat := 288
/-- DOMAIN_MISMATCH, code 1 of block 9. -/
abbrev Code.domainMismatch : Nat := 289
/-- DUPLICATE_MEMBER, code 2 of block 9. -/
abbrev Code.duplicateMember : Nat := 290
/-- MASTER_TAKEOVER, code 3 of block 9. -/
abbrev Code.masterTakeover : Nat := 291
/-- TRESTLE_UNWRAP, code 4 of block 9. -/
abbrev Code.trestleUnwrap : Nat := 292
/-- MASTER_YIELDED, code 5 of block 9. -/
abbrev Code.masterYielded : Nat := 293
/-- FLEET_ALARM, code 6 of block 9. -/
abbrev Code.fleetAlarm : Nat := 294
/-- BEAT_STEP, code 7 of block 9. -/
abbrev Code.beatStep : Nat := 295
/-- PF_WARN, code 0 of block 10. -/
abbrev Code.pfWarn : Nat := 320
/-- STRING_FAILED, code 1 of block 10. -/
abbrev Code.stringFailed : Nat := 321
/-- CHARGER_FAULT, code 2 of block 10. -/
abbrev Code.chargerFault : Nat := 322
/-- TAP_OPEN, code 3 of block 10. -/
abbrev Code.tapOpen : Nat := 323
/-- OVERTEMP, code 4 of block 10. -/
abbrev Code.overtemp : Nat := 324
/-- STORE_EOL, code 5 of block 10. -/
abbrev Code.storeEol : Nat := 325
/-- RAIL_FAULT, code 6 of block 10. -/
abbrev Code.railFault : Nat := 326
/-- CHATTER, code 7 of block 10. -/
abbrev Code.chatter : Nat := 327
/-- SEQ_TIMEOUT, code 8 of block 10. -/
abbrev Code.seqTimeout : Nat := 328
/-- NIURA_CAL_DRIFT, code 9 of block 10. -/
abbrev Code.niuraCalDrift : Nat := 329
/-- NIURA_REF_FAULT, code 10 of block 10. -/
abbrev Code.niuraRefFault : Nat := 330
/-- NIURA_SHELL_FAULT, code 11 of block 10. -/
abbrev Code.niuraShellFault : Nat := 331
/-- HOLDUP_OVERLOAD, code 12 of block 10. -/
abbrev Code.holdupOverload : Nat := 332
/-- HEALTH_TEST_REJECTED, code 13 of block 10. -/
abbrev Code.healthTestRejected : Nat := 333
/-- THERMAL_WARN, code 14 of block 10. -/
abbrev Code.thermalWarn : Nat := 334
/-- THERMAL_THROTTLE, code 15 of block 10. -/
abbrev Code.thermalThrottle : Nat := 335
/-- THERMAL_TRIP, code 16 of block 10. -/
abbrev Code.thermalTrip : Nat := 336
/-- AGING_LIMIT, code 17 of block 10. -/
abbrev Code.agingLimit : Nat := 337
/-- LIFE_TEMP_EXCEEDED, code 18 of block 10. -/
abbrev Code.lifeTempExceeded : Nat := 338
/-- AVS_STEP, code 19 of block 10. -/
abbrev Code.avsStep : Nat := 339
/-- CHEST_RING_FAILED, code 0 of block 11. -/
abbrev Code.chestRingFailed : Nat := 352
/-- RING_OVERRUN, code 1 of block 11. -/
abbrev Code.ringOverrun : Nat := 353
/-- SPOOL_WRITE_FAILED, code 2 of block 11. -/
abbrev Code.spoolWriteFailed : Nat := 354
/-- SPOOL_DELAYED, code 3 of block 11. -/
abbrev Code.spoolDelayed : Nat := 355
/-- PAIR_MISMATCH, code 0 of block 12. -/
abbrev Code.pairMismatch : Nat := 384
/-- SPARE_PAIR_FAILED, code 1 of block 12. -/
abbrev Code.sparePairFailed : Nat := 385
/-- BUREAU_DEGRADED, code 2 of block 12. -/
abbrev Code.bureauDegraded : Nat := 386
/-- BUREAU_LOST, code 3 of block 12. -/
abbrev Code.bureauLost : Nat := 387
/-- SRAM_SPARES_EXHAUSTED, code 4 of block 12. -/
abbrev Code.sramSparesExhausted : Nat := 388
/-- SRAM_UE, code 5 of block 12. -/
abbrev Code.sramUe : Nat := 389
/-- PAIR_TAKEOVER, code 6 of block 12. -/
abbrev Code.pairTakeover : Nat := 390
/-- PAIR_REQUALIFIED, code 7 of block 12. -/
abbrev Code.pairRequalified : Nat := 391
/-- SRAM_ROW_REPAIRED, code 8 of block 12. -/
abbrev Code.sramRowRepaired : Nat := 392
/-- SRAM_COLUMN_REPAIRED, code 9 of block 12. -/
abbrev Code.sramColumnRepaired : Nat := 393
/-- PROGRAM_FAILED, code 0 of block 13. -/
abbrev Code.programFailed : Nat := 416
/-- ERASE_FAILED, code 1 of block 13. -/
abbrev Code.eraseFailed : Nat := 417
/-- ECC_UE, code 2 of block 13. -/
abbrev Code.eccUe : Nat := 418
/-- SECTOR_WORN, code 3 of block 13. -/
abbrev Code.sectorWorn : Nat := 419
/-- BROWNOUT_ABORT, code 4 of block 13. -/
abbrev Code.brownoutAbort : Nat := 420
/-- REGION_WORN, code 5 of block 13. -/
abbrev Code.regionWorn : Nat := 421
/-- ERASE_REOPENED, code 6 of block 13. -/
abbrev Code.eraseReopened : Nat := 422
/-- ERASE_RESUMED_AFTER_RELOAD, code 7 of block 13. -/
abbrev Code.eraseResumedAfterReload : Nat := 423
/-- SCRUB_REWRITE, code 8 of block 13. -/
abbrev Code.scrubRewrite : Nat := 424
/-- RDP_LOWERED, code 9 of block 13. -/
abbrev Code.rdpLowered : Nat := 425
/-- IMAGE_REJECTED, code 0 of block 14. -/
abbrev Code.imageRejected : Nat := 448
/-- IMAGE_TRIAL_FAILED, code 1 of block 14. -/
abbrev Code.imageTrialFailed : Nat := 449
/-- IMAGE_ACTIVATED, code 2 of block 14. -/
abbrev Code.imageActivated : Nat := 450
/-- TEST_HOLD_REFUSED, code 0 of block 15. -/
abbrev Code.testHoldRefused : Nat := 480
/-- TEST_PREEMPTED, code 1 of block 15. -/
abbrev Code.testPreempted : Nat := 481
/-- SETTINGS_DEFAULTED, code 0 of block 16. -/
abbrev Code.settingsDefaulted : Nat := 512
/-- D_VALUE_OUT_OF_RANGE, code 1 of block 16. -/
abbrev Code.dValueOutOfRange : Nat := 513

/-- The row of a code, if the code is used. -/
def codeRow (c : Nat) : Option CodeRow := codeTable.find? fun r => r.code == c

/-- Whether a code is a fault code; an unused number is none (R483). -/
def codeFault (c : Nat) : Bool := match codeRow c with | some r => r.isFault | none => false

/-- Severity of a code's records. -/
def codeSeverity (c : Nat) : Nat := match codeRow c with | some r => r.severity | none => 0

/-- Whether a code is marked DPA. -/
def codeDpa (c : Nat) : Bool := match codeRow c with | some r => r.dpa | none => false

/-- `fault_codes` of block b: bit n is 1 when code n is a fault code. -/
def faultCodes (b : Nat) : Nat :=
  (codeTable.filter fun r => r.isFault && r.code / 32 == b).foldl (fun a r => a + 2 ^ (r.code % 32)) 0

end Sys2Proof.Machine
end

