-- ==== Sys2Proof/Machine/DictTable.lean ====
section
/-! DEFINITION. The dictionary's entries as the chapters' tables list them (R347, R365 to R368 and the tables of
the other chapters): address, type, access by role, keeping class, range, step and Default (R348 to R352).
A Default of 0 stands where the Default is not a constant; `defaultValue` (Dictionary views) gives those. -/

namespace Sys2Proof.Machine

/-- Access of a role to an entry (Table 14.3). -/
inductive Access where
  | ro | rw | wo | w1c
  deriving DecidableEq, Repr

/-- Keeping classes (Table 14.4). -/
inductive Keeping where
  | v | p | d | f
  deriving DecidableEq, Repr

/-- A family of entries of one row of a table: indices `lo` to `lo + n - 1`, sub-indices `sub` to `sub + m - 1`,
type code and size (Table 14.1), access of H, B, T and S, range, step, Default, and the values that the range
does not say: `values` replaces it, `also` adds to it. For BITS32 `max` is the map of bits that are not reserved. -/
structure Entry where
  lo : Nat
  n : Nat
  sub : Nat
  m : Nat
  type : Nat
  size : Nat
  h : Access
  b : Access
  t : Access
  s : Access
  keep : Keeping
  min : Int
  max : Int
  step : Nat
  dflt : Int
  name : String
  values : List Int := []
  also : List Int := []
  deriving DecidableEq, Repr

open Access Keeping

/-- Entries at 0x1000 to 0x10FF. -/
def rows10 : List Entry := [
    Entry.mk 0x1000 1 0x01 1 13 16 .ro .ro .ro .ro .f 0 16 1 0 "vendor_name" [] [],
    Entry.mk 0x1000 1 0x02 1 13 16 .ro .ro .ro .ro .f 0 16 1 0 "device_name" [] [],
    Entry.mk 0x1000 1 0x03 1 2 2 .ro .ro .ro .ro .f 0 65535 1 0 "pci_vendor_id" [] [],
    Entry.mk 0x1000 1 0x04 1 3 4 .ro .ro .ro .ro .f 0 4294967295 1 0 "hardware_type_id" [] [],
    Entry.mk 0x1001 1 0x00 1 13 32 .ro .ro .ro .rw .f 0 32 1 0 "unit_serial" [] [],
    Entry.mk 0x1002 1 0x00 1 1 1 .ro .ro .ro .ro .f 0 255 1 176 "silicon_stepping" [] [],
    Entry.mk 0x1003 1 0x00 1 13 64 .ro .rw .ro .rw .d 0 64 1 0 "module_name" [] [],
    Entry.mk 0x1004 1 0x00 1 13 32 .ro .rw .ro .rw .d 0 32 1 0 "module_serial" [] [] ]

/-- Entries at 0x1100 to 0x11FF. -/
def rows11 : List Entry := [
    Entry.mk 0x1100 1 0x00 1 8 1 .ro .ro .ro .ro .v 0 5 1 0 "mode" [] [],
    Entry.mk 0x1100 1 0x01 1 4 8 .ro .ro .ro .ro .v 0 18446744073709551615 1 0 "mode_entered_beat" [] [],
    Entry.mk 0x1100 1 0x02 1 8 1 .ro .ro .ro .ro .v 0 5 1 0 "mode_previous" [] [],
    Entry.mk 0x1101 1 0x00 1 8 1 .ro .ro .ro .ro .v 0 7 1 0 "last_reset" [] [],
    Entry.mk 0x1102 1 0x01 5 3 4 .ro .ro .ro .ro .d 0 4294967295 1 0 "reset_count" [] [],
    Entry.mk 0x1103 1 0x00 1 7 1 .ro .ro .ro .ro .v 0 1 1 0 "cold_pending" [] [],
    Entry.mk 0x1110 1 0x00 1 8 1 .ro .ro .ro .ro .v 0 3 1 0 "sleep_state" [] [],
    Entry.mk 0x1110 1 0x01 1 9 4 .ro .ro .ro .ro .v 0 15 1 0 "sleep_consents" [] [],
    Entry.mk 0x1111 1 0x00 1 9 4 .rw .rw .ro .rw .p 0 31 1 1 "wake_enable" [] [],
    Entry.mk 0x1112 1 0x00 1 4 8 .rw .rw .ro .rw .v 0 18446744073709551615 1 0 "wake_timer_beat" [] [],
    Entry.mk 0x1113 1 0x00 1 9 4 .ro .ro .ro .ro .v 0 4294967295 1 0 "wake_cause" [] [],
    Entry.mk 0x1114 1 0x00 1 3 4 .ro .w1c .ro .w1c .v 0 4294967295 1 0 "sleep_refusals" [] [],
    Entry.mk 0x1115 1 0x00 1 4 8 .ro .ro .ro .ro .v 0 18446744073709551615 1 0 "drowse_entries" [] [],
    Entry.mk 0x1116 1 0x00 1 3 4 .ro .ro .ro .ro .v 0 4294967295 1 0 "last_wake_us" [] [],
    Entry.mk 0x1120 1 0x00 1 7 1 .ro .wo .ro .wo .v 0 1 1 0 "cold_reset_request" [] [],
    Entry.mk 0x1121 1 0x00 1 7 1 .ro .wo .ro .wo .v 0 1 1 0 "bureau_reset_request" [] [],
    Entry.mk 0x1122 1 0x01 1 8 1 .ro .rw .ro .rw .v 1 8 1 0 "block_select" [] [],
    Entry.mk 0x1122 1 0x02 1 7 1 .ro .wo .ro .wo .v 0 1 1 0 "block_reset_request" [] [],
    Entry.mk 0x1122 1 0x03 1 8 1 .ro .ro .ro .ro .v 0 2 1 0 "block_state" [] [] ]

/-- Entries at 0x1200 to 0x12FF. -/
def rows12 : List Entry := [
    Entry.mk 0x1200 1 0x01 1 10 8 .ro .ro .ro .ro .v 0 18446744073709551615 1 0 "device_time_ns" [] [],
    Entry.mk 0x1200 1 0x02 1 6 8 .rw .rw .ro .rw .v (-9223372036854775808) 9223372036854775807 1 0 "wall_time_ns" [] [],
    Entry.mk 0x1200 1 0x03 1 7 1 .ro .ro .ro .ro .v 0 1 1 0 "wall_time_set" [] [],
    Entry.mk 0x1200 1 0x04 1 3 4 .ro .w1c .ro .w1c .v 0 4294967295 1 0 "clock_steps" [] [],
    Entry.mk 0x1201 1 0x01 1 3 4 .ro .w1c .ro .w1c .v 0 4294967295 1 0 "beat_overruns" [] [],
    Entry.mk 0x1201 1 0x02 1 3 4 .ro .w1c .ro .w1c .v 0 4294967295 1 0 "beat_work_max_ns" [] [],
    Entry.mk 0x1201 1 0x03 1 1 1 .ro .ro .ro .ro .v 0 255 1 0 "last_overrun_step" [] [],
    Entry.mk 0x1202 1 0x01 1 4 8 .ro .ro .ro .ro .v 0 18446744073709551615 1 0 "sets_applied" [] [],
    Entry.mk 0x1202 1 0x02 1 4 8 .ro .w1c .ro .w1c .v 0 18446744073709551615 1 0 "sets_refused" [] [] ]

/-- Entries at 0x2000 to 0x20FF. -/
def rows20 : List Entry := [
    Entry.mk 0x2000 1 0x01 2 8 1 .ro .rw .ro .rw .d 0 1 1 0 "head_mode" [] [],
    Entry.mk 0x2001 1 0x01 4 8 1 .ro .ro .ro .ro .v 0 6 1 0 "link_state" [] [],
    Entry.mk 0x2002 1 0x01 4 1 1 .ro .ro .ro .ro .v 0 255 1 0 "link_rate_gts" [] [],
    Entry.mk 0x2003 1 0x01 4 1 1 .ro .ro .ro .ro .v 0 255 1 0 "link_width" [] [],
    Entry.mk 0x2004 1 0x01 4 1 1 .ro .rw .ro .rw .p 0 255 1 128 "link_max_rate" [32, 64, 128] [],
    Entry.mk 0x2005 1 0x01 4 7 1 .ro .rw .ro .rw .p 0 1 1 1 "link_enable" [] [],
    Entry.mk 0x2010 1 0x01 4 4 8 .ro .rw .ro .rw .d 0 18446744073709551615 268435456 0 "partition_base" [] [],
    Entry.mk 0x2011 1 0x01 4 4 8 .ro .rw .ro .rw .d 0 18446744073709551615 268435456 0 "partition_size" [] [],
    Entry.mk 0x2013 1 0x01 4 3 4 .ro .rw .ro .rw .d 0 4294967295 1 0 "desk_group_first" [] [],
    Entry.mk 0x2014 1 0x01 4 3 4 .ro .rw .ro .rw .d 0 4294967295 1 0 "desk_group_count" [] [],
    Entry.mk 0x2015 1 0x01 4 7 1 .ro .rw .ro .rw .d 0 1 1 0 "partition_shared" [] [],
    Entry.mk 0x2030 1 0x01 4 3 4 .ro .ro .ro .ro .v 0 4294967295 1 0 "ingress_occupancy" [] [],
    Entry.mk 0x2031 1 0x01 4 3 4 .ro .ro .ro .ro .v 0 4294967295 1 0 "held_writes" [] [],
    Entry.mk 0x2032 1 0x01 4 3 4 .ro .w1c .ro .w1c .v 0 4294967295 1 0 "desk_range_violations" [] [],
    Entry.mk 0x2040 1 0x01 4 2 2 .ro .rw .ro .rw .p 0 65535 1 16 "lane_err_limit" [] [],
    Entry.mk 0x2041 1 0x01 4 9 4 .ro .w1c .ro .w1c .v 0 65535 1 0 "lane_fault_mask" [] [],
    Entry.mk 0x2050 1 0x00 1 3 4 .ro .ro .ro .ro .d 0 4294967295 1 0 "dirty_shutdown_count" [] [],
    Entry.mk 0x2060 1 0x00 1 9 4 .ro .ro .ro .ro .v 0 15 1 0 "security_state" [] [] ]

/-- Entries at 0x2100 to 0x21FF. -/
def rows21 : List Entry := [
    Entry.mk 0x2100 256 0x01 1 1 1 .rw .rw .ro .rw .p 1 255 1 1 "msix_mod_count" [] [],
    Entry.mk 0x2100 256 0x02 1 2 2 .rw .rw .ro .rw .p 0 65535 1 0 "msix_mod_beats" [] [] ]

/-- Entries at 0x2200 to 0x22FF. -/
def rows22 : List Entry := [
    Entry.mk 0x2200 4 0x01 10 1 1 .rw .rw .ro .rw .p 0 255 1 0 "irq_source_vector" [] [] ]

/-- Entries at 0x2400 to 0x24FF. -/
def rows24 : List Entry := [
    Entry.mk 0x2400 1 0x01 1 8 1 .ro .rw .ro .rw .d 0 2 1 0 "interleave_grain" [] [],
    Entry.mk 0x2400 1 0x02 1 8 1 .ro .ro .ro .ro .v 0 1 1 0 "layout_state" [] [],
    Entry.mk 0x2400 1 0x03 1 7 1 .ro .ro .ro .ro .d 0 1 1 1 "image_empty" [] [],
    Entry.mk 0x2401 1 0x00 1 4 8 .ro .ro .ro .ro .v 0 18446744073709551615 1 0 "raw_capacity" [] [],
    Entry.mk 0x2402 1 0x00 1 4 8 .ro .ro .ro .ro .v 0 18446744073709551615 1 0 "host_visible_capacity" [] [],
    Entry.mk 0x2403 1 0x00 1 4 8 .ro .ro .ro .ro .v 0 18446744073709551615 1 0 "cupboard_per_channel" [] [],
    Entry.mk 0x2404 1 0x00 1 3 4 .ro .ro .ro .ro .v 0 4294967295 1 0 "host_visible_leaves" [] [],
    Entry.mk 0x2405 1 0x01 12 1 1 .ro .ro .ro .ro .d 0 255 1 0 "channel_map" [] [],
    Entry.mk 0x2405 1 0x0D 1 1 1 .ro .ro .ro .ro .d 0 255 1 12 "spare_channel" [] [],
    Entry.mk 0x2410 1 0x00 1 4 8 .ro .rw .ro .rw .d 1073741824 68719476736 268435456 8589934592 "journal_bytes" [] [],
    Entry.mk 0x2411 1 0x00 1 4 8 .ro .rw .ro .rw .d 0 68719476736 805306368 0 "mirror_area_bytes" [] [],
    Entry.mk 0x2412 1 0x00 1 4 8 .ro .ro .ro .ro .v 0 18446744073709551615 1 0 "cupboard_headroom" [] [],
    Entry.mk 0x2420 1 0x00 1 4 8 .ro .ro .ro .ro .f 0 18446744073709551615 1 3298534883328 "desk_dpa_base" [] [],
    Entry.mk 0x2421 1 0x00 1 1 1 .ro .rw .ro .rw .d 0 7 1 7 "default_save_order" [] [],
    Entry.mk 0x2422 1 0x00 1 1 1 .ro .rw .ro .rw .d 0 3 1 0 "default_trickle_priority" [] [] ]

/-- Entries at 0x2500 to 0x25FF. -/
def rows25 : List Entry := [
    Entry.mk 0x2500 64 0x01 1 4 8 .ro .rw .ro .rw .d 0 18446744073709551615 1 0 "window_base" [] [],
    Entry.mk 0x2500 64 0x02 1 4 8 .ro .rw .ro .rw .d 0 18446744073709551615 1 0 "window_size" [] [],
    Entry.mk 0x2500 64 0x03 1 9 4 .ro .rw .ro .rw .d 0 887 1 0 "window_attr" [] [],
    Entry.mk 0x2500 64 0x04 1 4 8 .ro .w1c .ro .w1c .v 0 18446744073709551615 1 0 "unclaimed_writes" [] [],
    Entry.mk 0x2500 64 0x05 1 8 1 .ro .ro .ro .ro .v 0 2 1 0 "mirror_state" [] [] ]

/-- Entries at 0x3000 to 0x30FF. -/
def rows30 : List Entry := [
    Entry.mk 0x3000 1 0x01 7 3 4 .ro .rw .ro .rw .p 256 250000 16 0 "age_limit_ns" [] [],
    Entry.mk 0x3001 1 0x00 1 1 1 .ro .rw .ro .rw .p 25 100 1 50 "class0_share_pct" [] [],
    Entry.mk 0x3010 1 0x01 1 1 1 .ro .rw .ro .rw .p 1 99 1 25 "panic_low_pct" [] [],
    Entry.mk 0x3010 1 0x02 1 1 1 .ro .rw .ro .rw .p 2 100 1 60 "panic_high_pct" [] [],
    Entry.mk 0x3010 1 0x03 1 7 1 .ro .ro .ro .ro .v 0 1 1 0 "panic_state" [] [],
    Entry.mk 0x3010 1 0x04 1 4 8 .ro .w1c .ro .w1c .v 0 18446744073709551615 1 0 "panic_count" [] [],
    Entry.mk 0x3020 1 0x00 1 8 1 .ro .rw .ro .rw .p 0 1 1 1 "refresh_mode" [] [],
    Entry.mk 0x3021 1 0x00 1 1 1 .ro .rw .ro .rw .p 0 4 1 4 "refresh_postpone_max" [] [],
    Entry.mk 0x3030 1 0x01 1 7 1 .ro .rw .ro .rw .d 0 1 1 1 "bank_hash_enable" [] [],
    Entry.mk 0x3030 1 0x02 1 9 4 .ro .rw .ro .rw .d 0 262143 1 585 "bank_hash_mask_bg0" [] [],
    Entry.mk 0x3030 1 0x03 1 9 4 .ro .rw .ro .rw .d 0 262143 1 1170 "bank_hash_mask_bg1" [] [],
    Entry.mk 0x3030 1 0x04 1 9 4 .ro .rw .ro .rw .d 0 262143 1 2340 "bank_hash_mask_bg2" [] [],
    Entry.mk 0x3030 1 0x05 1 9 4 .ro .rw .ro .rw .d 0 262143 1 20480 "bank_hash_mask_ba0" [] [],
    Entry.mk 0x3030 1 0x06 1 9 4 .ro .rw .ro .rw .d 0 262143 1 40960 "bank_hash_mask_ba1" [] [],
    Entry.mk 0x3030 1 0x07 1 8 1 .ro .ro .ro .ro .v 0 1 1 0 "bank_hash_state" [] [] ]

/-- Entries at 0x3100 to 0x31FF. -/
def rows31 : List Entry := [
    Entry.mk 0x3100 13 0x01 8 4 8 .ro .ro .ro .ro .v 0 18446744073709551615 1 0 "bursts_issued" [] [],
    Entry.mk 0x3110 13 0x01 8 3 4 .ro .w1c .ro .w1c .v 0 4294967295 1 0 "max_age_ns" [] [],
    Entry.mk 0x3120 13 0x01 1 4 8 .ro .ro .ro .ro .v 0 18446744073709551615 1 0 "promotions" [] [],
    Entry.mk 0x3120 13 0x02 1 4 8 .ro .ro .ro .ro .v 0 18446744073709551615 1 0 "ancient_bursts" [] [],
    Entry.mk 0x3120 13 0x03 1 1 1 .ro .ro .ro .ro .v 0 255 1 0 "row_hit_pct" [] [],
    Entry.mk 0x3120 13 0x04 1 4 8 .ro .ro .ro .ro .v 0 18446744073709551615 1 0 "refresh_postponed" [] [],
    Entry.mk 0x3120 13 0x05 1 4 8 .ro .ro .ro .ro .v 0 18446744073709551615 1 0 "rfm_issued" [] [],
    Entry.mk 0x3120 13 0x06 1 4 8 .ro .ro .ro .ro .v 0 18446744073709551615 1 0 "bound_extended_ns" [] [],
    Entry.mk 0x3120 13 0x07 1 3 4 .ro .w1c .ro .w1c .v 0 4294967295 1 0 "bound_exceeded" [] [] ]

/-- Entries at 0x3400 to 0x34FF. -/
def rows34 : List Entry := [
    Entry.mk 0x3400 13 0x01 1 8 1 .ro .ro .ro .ro .d 0 6 1 0 "channel_state" [] [],
    Entry.mk 0x3400 13 0x02 1 2 2 .ro .ro .ro .ro .v 0 65535 1 0 "rate_mts" [] [],
    Entry.mk 0x3400 13 0x03 1 2 2 .ro .rw .ro .rw .p 0 65535 1 9600 "rate_max_mts" [4800, 5600, 6400, 7200, 8000, 8800, 9600] [],
    Entry.mk 0x3400 13 0x04 1 8 1 .ro .ro .ro .ro .v 0 3 1 1 "training_record" [] [],
    Entry.mk 0x3400 13 0x05 1 8 1 .ro .ro .ro .ro .v 0 4 1 0 "retrain_state" [] [],
    Entry.mk 0x3400 13 0x06 1 5 4 .ro .ro .ro .ro .p (-2147483648) 2147483647 1 0 "temp_at_train_c" [] [],
    Entry.mk 0x3420 13 0x01 1 4 8 .ro .w1c .ro .w1c .v 0 18446744073709551615 1 0 "ce_count" [] [],
    Entry.mk 0x3420 13 0x02 1 4 8 .ro .w1c .ro .w1c .v 0 18446744073709551615 1 0 "ue_recovered" [] [],
    Entry.mk 0x3420 13 0x03 1 4 8 .ro .w1c .ro .w1c .v 0 18446744073709551615 1 0 "ue_poisoned" [] [],
    Entry.mk 0x3420 13 0x04 1 2 2 .ro .ro .ro .ro .v 0 65535 1 0 "ppr_soft_pending" [] [],
    Entry.mk 0x3420 13 0x05 1 3 4 .ro .ro .ro .ro .d 0 4294967295 1 0 "ppr_hard_total" [] [],
    Entry.mk 0x3420 13 0x06 1 5 4 .ro .ro .ro .ro .v (-2147483648) 2147483647 1 0 "dqs_drift_ps" [] [],
    Entry.mk 0x3440 1 0x00 1 1 1 .ro .rw .ro .rw .p 5 40 1 20 "retrain_temp_delta_c" [] [],
    Entry.mk 0x3441 1 0x00 1 3 4 .ro .rw .ro .rw .p 0 4294967295 1 64 "ce_trend_limit" [] [],
    Entry.mk 0x3442 1 0x00 1 2 2 .ro .rw .ro .rw .p 100 10000 1 1000 "dqs_track_beats" [] [],
    Entry.mk 0x3443 1 0x00 1 2 2 .ro .rw .ro .rw .p 1 720 1 24 "scrub_period_h" [] [],
    Entry.mk 0x3444 1 0x00 1 1 1 .ro .rw .ro .rw .p 2 15 1 3 "row_fail_ce" [] [],
    Entry.mk 0x3450 1 0x00 1 8 1 .ro .ro .ro .ro .v 0 3 1 0 "sparing_state" [] [],
    Entry.mk 0x3450 1 0x01 1 1 1 .ro .ro .ro .ro .v 0 255 1 255 "sparing_source" [] [],
    Entry.mk 0x3450 1 0x02 1 1 1 .ro .ro .ro .ro .v 0 255 1 0 "copy_progress_pct" [] [],
    Entry.mk 0x3450 1 0x03 1 3 4 .ro .ro .ro .ro .v 0 4294967295 1 0 "rebuild_leaves_left" [] [],
    Entry.mk 0x3450 1 0x04 1 4 8 .ro .ro .ro .ro .v 0 18446744073709551615 1 0 "awaiting_lines" [] [],
    Entry.mk 0x3450 1 0x05 1 4 8 .ro .w1c .ro .w1c .v 0 18446744073709551615 1 0 "poisoned_lines" [] [],
    Entry.mk 0x3460 1 0x00 1 9 4 .ro .wo .ro .wo .v 0 8191 1 0 "retrain_request" [] [],
    Entry.mk 0x3461 1 0x00 1 1 1 .ro .wo .ro .wo .v 0 12 1 255 "spare_request" [] [],
    Entry.mk 0x3462 1 0x00 1 1 1 .ro .wo .ro .wo .v 0 12 1 255 "requalify_request" [] [] ]

/-- Entries at 0x4000 to 0x40FF. -/
def rows40 : List Entry := [
    Entry.mk 0x4000 1 0x01 7 3 4 .ro .ro .ro .ro .v 0 4294967295 1 0 "leaves_in_state" [] [],
    Entry.mk 0x4001 1 0x00 1 4 8 .ro .ro .ro .ro .v 0 18446744073709551615 1 0 "charged_save_bytes" [] [],
    Entry.mk 0x4002 1 0x00 1 4 8 .ro .ro .ro .ro .v 0 18446744073709551615 1 0 "save_bytes" [] [],
    Entry.mk 0x4003 1 0x00 1 4 8 .ro .ro .ro .ro .v 0 18446744073709551615 1 0 "pinned_cost_bytes" [] [],
    Entry.mk 0x4010 1 0x00 1 4 8 .ro .ro .ro .ro .v 0 18446744073709551615 1 0 "dirty_budget_bytes" [] [],
    Entry.mk 0x4011 1 0x00 1 4 8 .ro .rw .ro .rw .d 1073741824 18446744073709551615 65536 68719476736 "dirty_ceiling_bytes" [] [],
    Entry.mk 0x4012 1 0x00 1 4 8 .ro .ro .ro .ro .f 0 18446744073709551615 1 8590983168 "hold_headroom_bytes" [] [],
    Entry.mk 0x4013 1 0x00 1 1 1 .ro .rw .ro .rw .d 10 75 1 25 "budget_reserve_pct" [] [],
    Entry.mk 0x4014 1 0x00 1 11 4 .ro .ro .ro .ro .v 0 4294967295 1 0 "e_usable_mj" [] [],
    Entry.mk 0x4015 1 0x00 1 4 8 .ro .ro .ro .ro .v 0 18446744073709551615 1 0 "b_e_bytes" [] [],
    Entry.mk 0x4016 1 0x00 1 8 1 .ro .ro .ro .ro .v 0 2 1 0 "budget_state" [] [],
    Entry.mk 0x4017 1 0x00 1 9 4 .ro .ro .ro .ro .v 0 15 1 0 "hold_cause" [] [],
    Entry.mk 0x4018 1 0x01 1 4 8 .ro .w1c .ro .w1c .v 0 18446744073709551615 1 0 "holds_begun" [] [],
    Entry.mk 0x4018 1 0x02 1 3 4 .ro .w1c .ro .w1c .v 0 4294967295 1 0 "max_hold_ns" [] [],
    Entry.mk 0x4018 1 0x03 1 4 8 .ro .w1c .ro .w1c .v 0 18446744073709551615 1 0 "claims_refused" [] [],
    Entry.mk 0x4020 1 0x00 1 3 4 .ro .ro .ro .ro .d 0 4294967295 1 4600 "e_byte_pj" [] [],
    Entry.mk 0x4021 1 0x00 1 11 4 .ro .ro .ro .ro .d 0 4294967295 1 5000 "e_fixed_mj" [] [],
    Entry.mk 0x4022 1 0x00 1 2 2 .ro .rw .ro .rw .p 1 2160 1 168 "rehearsal_period_h" [] [],
    Entry.mk 0x4023 1 0x00 1 7 1 .ro .wo .ro .wo .v 0 1 1 0 "rehearsal_request" [] [],
    Entry.mk 0x4024 1 0x00 1 8 1 .ro .ro .ro .ro .v 0 3 1 0 "rehearsal_state" [] [],
    Entry.mk 0x4025 1 0x00 1 3 4 .ro .ro .ro .ro .d 0 4294967295 1 0 "last_rehearsal_hour" [] [],
    Entry.mk 0x4026 1 0x00 1 3 4 .ro .ro .ro .ro .d 0 4294967295 1 0 "last_save_e_byte_pj" [] [],
    Entry.mk 0x4030 1 0x00 1 3 4 .ro .rw .ro .rw .p 100 1600000 1 10000 "trickle_quiet_beats" [] [],
    Entry.mk 0x4031 1 0x00 1 3 4 .ro .rw .ro .rw .p 1000 100000 1 10000 "heat_decay_beats" [] [],
    Entry.mk 0x4032 1 0x00 1 4 8 .ro .ro .ro .ro .v 0 18446744073709551615 1 0 "leaves_copied" [] [],
    Entry.mk 0x4033 1 0x00 1 4 8 .ro .w1c .ro .w1c .v 0 18446744073709551615 1 0 "copies_not_credited" [] [],
    Entry.mk 0x4034 1 0x01 1 3 4 .ro .rw .ro .rw .v 0 4294967295 1 0 "heat_bundle_select" [] [],
    Entry.mk 0x4034 1 0x02 1 9 4 .ro .ro .ro .ro .v 0 4294967295 1 0 "heat_word" [] [],
    Entry.mk 0x4040 1 0x01 1 1 1 .ro .rw .ro .rw .d 1 40 1 10 "wear_horizon_years" [] [],
    Entry.mk 0x4040 1 0x02 1 3 4 .ro .ro .ro .ro .d 0 4294967295 1 0 "service_hours" [] [] ]
  ++ [
    Entry.mk 0x4041 1 0x00 1 4 8 .ro .ro .ro .ro .v 0 18446744073709551615 1 0 "wear_rate_bps" [] [],
    Entry.mk 0x4042 1 0x00 1 6 8 .ro .ro .ro .ro .v (-9223372036854775808) 9223372036854775807 1 0 "wear_tokens_bytes" [] [],
    Entry.mk 0x4043 1 0x00 1 3 4 .ro .w1c .ro .w1c .v 0 4294967295 1 0 "wear_overdraw_count" [] [],
    Entry.mk 0x4050 1 0x00 1 7 1 .ro .rw .ro .rw .p 0 1 1 0 "drowse_trickle" [] [],
    Entry.mk 0x4051 1 0x00 1 1 1 .ro .rw .ro .rw .p 1 20 1 10 "drowse_trickle_duty_pct" [] [],
    Entry.mk 0x4060 1 0x01 12 3 4 .ro .ro .ro .ro .v 0 4294967295 1 0 "mirror_lines_free" [] [],
    Entry.mk 0x4061 1 0x00 1 4 8 .ro .ro .ro .ro .v 0 18446744073709551615 1 0 "mirror_in_use_bytes" [] [],
    Entry.mk 0x4070 1 0x00 1 1 1 .ro .ro .ro .ro .v 0 255 1 0 "delta_ring_fill_pct" [] [] ]

/-- Entries at 0x4400 to 0x44FF. -/
def rows44 : List Entry := [
    Entry.mk 0x4400 1 0x01 6 3 4 .ro .ro .ro .ro .v 0 4294967295 1 0 "groups_in_state" [] [],
    Entry.mk 0x4401 1 0x00 1 3 4 .ro .ro .ro .ro .v 0 4294967295 1 0 "claimed_pages" [] [],
    Entry.mk 0x4402 1 0x01 1 3 4 .ro .ro .ro .ro .v 0 4294967295 1 0 "journal_chunks_total" [] [],
    Entry.mk 0x4402 1 0x02 1 3 4 .ro .ro .ro .ro .v 0 4294967295 1 0 "journal_chunks_free" [] [],
    Entry.mk 0x4402 1 0x03 1 3 4 .ro .ro .ro .ro .v 0 4294967295 1 0 "journal_entries_live" [] [],
    Entry.mk 0x4403 1 0x00 1 4 8 .ro .w1c .ro .w1c .v 0 18446744073709551615 1 0 "journal_full_aborts" [] [],
    Entry.mk 0x4404 1 0x00 1 4 8 .ro .w1c .ro .w1c .v 0 18446744073709551615 1 0 "discarded_writes" [] [],
    Entry.mk 0x4405 1 0x00 1 4 8 .ro .w1c .ro .w1c .v 0 18446744073709551615 1 0 "bad_sequence_count" [] [],
    Entry.mk 0x4406 1 0x00 1 3 4 .ro .w1c .ro .w1c .v 0 4294967295 1 0 "journal_wait_count" [] [],
    Entry.mk 0x4420 1 0x00 1 4 8 .ro .ro .ro .ro .d 0 18446744073709551615 1 0 "txn_counter" [] [],
    Entry.mk 0x4421 1 0x00 1 3 4 .ro .ro .ro .ro .v 0 4294967295 1 0 "decision_entries" [] [],
    Entry.mk 0x4422 1 0x00 1 2 2 .ro .rw .ro .rw .p 10 10000 1 100 "decide_resend_beats" [] [],
    Entry.mk 0x4423 1 0x00 1 3 4 .ro .rw .ro .rw .p 10000 100000000 1 1000000 "prepare_query_beats" [] [],
    Entry.mk 0x4424 1 0x00 1 4 8 .ro .w1c .ro .w1c .v 0 18446744073709551615 1 0 "late_results" [] [],
    Entry.mk 0x4425 1 0x00 1 3 4 .ro .w1c .ro .w1c .v 0 4294967295 1 0 "joint_unprepared" [] [],
    Entry.mk 0x4426 1 0x00 1 2 2 .ro .ro .ro .ro .v 0 65535 1 0 "received_decisions" [] [],
    Entry.mk 0x4430 1 0x01 1 3 4 .ro .rw .ro .rw .v 0 262143 1 0 "slot_select" [] [],
    Entry.mk 0x4430 1 0x02 1 12 32 .ro .ro .ro .ro .v 0 32 1 0 "slot_status" [] [],
    Entry.mk 0x4431 1 0x01 1 3 4 .ro .rw .ro .rw .v 0 65535 1 0 "decision_select" [] [],
    Entry.mk 0x4431 1 0x02 1 12 76 .ro .ro .ro .ro .v 0 76 1 0 "decision_entry" [] [] ]

/-- Entries at 0x4800 to 0x48FF. -/
def rows48 : List Entry := [
    Entry.mk 0x4800 1 0x01 1 4 8 .ro .rw .ro .rw .d 0 18446744073709551615 1 0 "domain_id" [] [],
    Entry.mk 0x4800 1 0x02 1 2 2 .ro .rw .ro .rw .d 0 1023 1 65535 "member_id" [] [65535],
    Entry.mk 0x4800 1 0x03 1 2 2 .ro .rw .ro .rw .d 0 65535 1 0 "roster_generation" [] [],
    Entry.mk 0x4800 1 0x04 1 3 4 .ro .ro .ro .ro .d 0 4294967295 1 0 "start_count" [] [],
    Entry.mk 0x4801 1 0x00 1 12 128 .ro .rw .ro .rw .d 0 128 1 0 "roster_members" [] [],
    Entry.mk 0x4802 1 0x00 1 8 1 .ro .ro .ro .ro .v 0 4 1 0 "domain_state" [] [],
    Entry.mk 0x4803 1 0x00 1 2 2 .ro .ro .ro .ro .v 0 65535 1 65535 "master_id" [] [],
    Entry.mk 0x4805 1 0x00 1 2 2 .ro .ro .ro .ro .v 0 65535 1 0 "ring_position" [] [],
    Entry.mk 0x4806 1 0x00 1 2 2 .ro .ro .ro .ro .v 0 65535 1 0 "members_alive" [] [],
    Entry.mk 0x4807 1 0x00 1 3 4 .ro .ro .ro .ro .v 0 4294967295 1 0 "lap_ns" [] [],
    Entry.mk 0x4808 1 0x00 1 1 1 .ro .ro .ro .ro .v 0 255 1 1 "lap_beats" [] [],
    Entry.mk 0x4809 1 0x00 1 4 8 .ro .ro .ro .ro .v 0 18446744073709551615 1 0 "beat_ext" [] [],
    Entry.mk 0x480A 1 0x00 1 5 4 .ro .ro .ro .ro .v (-2147483648) 2147483647 1 0 "beat_offset_ns" [] [],
    Entry.mk 0x4810 2 0x01 1 8 1 .ro .ro .ro .ro .v 0 6 1 0 "link_state" [] [],
    Entry.mk 0x4810 2 0x02 1 7 1 .ro .rw .ro .rw .p 0 1 1 1 "link_enable" [] [],
    Entry.mk 0x4810 2 0x03 1 3 4 .ro .ro .ro .ro .v 0 4294967295 1 0 "link_delay_ns" [] [],
    Entry.mk 0x4810 2 0x04 1 4 8 .ro .w1c .ro .w1c .v 0 18446744073709551615 1 0 "link_check_errors" [] [],
    Entry.mk 0x4810 2 0x05 1 3 4 .ro .w1c .ro .w1c .v 0 4294967295 1 0 "wraps" [] [],
    Entry.mk 0x4812 1 0x00 1 2 2 .ro .rw .ro .rw .p 0 65535 1 64 "link_check_limit" [] [],
    Entry.mk 0x4820 1 0x00 1 12 128 .ro .ro .ro .ro .v 0 128 1 0 "alive_map" [] [],
    Entry.mk 0x4821 1 0x00 1 12 128 .ro .w1c .ro .w1c .v 0 128 1 0 "alarm_map" [] [],
    Entry.mk 0x4822 1 0x01 1 2 2 .ro .rw .ro .rw .v 0 65535 1 0 "roll_select" [] [],
    Entry.mk 0x4822 1 0x02 1 9 4 .ro .ro .ro .ro .v 0 4294967295 1 0 "roll_word" [] [],
    Entry.mk 0x4830 1 0x01 1 4 8 .ro .ro .ro .ro .v 0 18446744073709551615 1 0 "cells_sent" [] [],
    Entry.mk 0x4830 1 0x02 1 4 8 .ro .ro .ro .ro .v 0 18446744073709551615 1 0 "cells_taken" [] [],
    Entry.mk 0x4830 1 0x03 1 4 8 .ro .w1c .ro .w1c .v 0 18446744073709551615 1 0 "cells_retried" [] [],
    Entry.mk 0x4830 1 0x04 1 4 8 .ro .w1c .ro .w1c .v 0 18446744073709551615 1 0 "cells_undelivered" [] [],
    Entry.mk 0x4830 1 0x05 1 4 8 .ro .w1c .ro .w1c .v 0 18446744073709551615 1 0 "duplicates_dropped" [] [],
    Entry.mk 0x4830 1 0x06 1 4 8 .ro .w1c .ro .w1c .v 0 18446744073709551615 1 0 "foreign_frames" [] [],
    Entry.mk 0x4831 1 0x00 1 1 1 .ro .rw .ro .rw .p 0 7 1 3 "cell_retry_max" [] [] ]
  ++ [
    Entry.mk 0x4832 1 0x00 1 2 2 .ro .rw .ro .rw .p 10 10000 1 100 "indoubt_query_beats" [] [],
    Entry.mk 0x4833 1 0x00 1 3 4 .ro .rw .ro .rw .p 1000 10000000 1 100000 "unwrap_beats" [] [],
    Entry.mk 0x4834 1 0x00 1 7 1 .ro .rw .ro .rw .p 0 1 1 0 "fleet_time_follow" [] [],
    Entry.mk 0x4840 1 0x01 1 4 8 .rw .rw .ro .rw .v 0 18446744073709551615 1 0 "force_txn_id" [] [],
    Entry.mk 0x4840 1 0x02 1 8 1 .wo .wo .ro .wo .v 0 1 1 0 "force_outcome" [] [],
    Entry.mk 0x4840 1 0x03 1 3 4 .ro .ro .ro .ro .v 0 4294967295 1 0 "indoubt_parts" [] [],
    Entry.mk 0x4840 1 0x04 1 3 4 .ro .ro .ro .ro .d 0 4294967295 1 0 "forced_resolutions" [] [],
    Entry.mk 0x4850 1 0x00 1 2 2 .ro .rw .ro .rw .p 100 10000 1 1000 "tunnel_timeout_beats" [] [] ]

/-- Entries at 0x5000 to 0x50FF. -/
def rows50 : List Entry := [
    Entry.mk 0x5001 1 0x00 1 8 1 .ro .rw .ro .rw .d 0 15 1 0 "nand_profile" [] [],
    Entry.mk 0x5002 1 0x01 1 1 1 .ro .ro .ro .ro .v 0 255 1 0 "image_targets" [] [],
    Entry.mk 0x5002 1 0x02 1 1 1 .ro .ro .ro .ro .v 0 255 1 0 "luns_per_target" [] [],
    Entry.mk 0x5002 1 0x03 1 2 2 .ro .ro .ro .ro .v 0 65535 1 0 "rows_per_segment" [] [],
    Entry.mk 0x5003 1 0x00 1 4 8 .ro .ro .ro .ro .v 0 18446744073709551615 1 0 "pslc_capacity_bytes" [] [],
    Entry.mk 0x5004 1 0x00 1 4 8 .ro .ro .ro .ro .v 0 18446744073709551615 1 0 "save_rate_bps" [] [],
    Entry.mk 0x5005 1 0x00 1 3 4 .ro .ro .ro .ro .v 0 4294967295 1 0 "segments_total" [] [],
    Entry.mk 0x5006 1 0x00 1 3 4 .ro .ro .ro .ro .v 0 4294967295 1 0 "segments_free" [] [],
    Entry.mk 0x5008 1 0x00 1 4 8 .ro .ro .ro .ro .v 0 18446744073709551615 1 0 "free_rows" [] [],
    Entry.mk 0x5009 1 0x00 1 4 8 .ro .ro .ro .ro .v 0 18446744073709551615 1 0 "need_rows" [] [],
    Entry.mk 0x5020 1 0x00 1 3 4 .ro .rw .ro .rw .p 16 4096 1 64 "gc_start_segments" [] [],
    Entry.mk 0x5021 1 0x00 1 4 8 .ro .ro .ro .ro .v 0 18446744073709551615 1 0 "gc_segments_reclaimed" [] [],
    Entry.mk 0x5030 1 0x00 1 3 4 .ro .rw .ro .rw .p 4096 65536 1 65536 "checkpoint_stripes" [] [],
    Entry.mk 0x5031 1 0x00 1 3 4 .ro .rw .ro .rw .p 100000 1000000 1 1000000 "checkpoint_beats" [] [],
    Entry.mk 0x5032 1 0x00 1 4 8 .ro .ro .ro .ro .v 0 18446744073709551615 1 0 "last_checkpoint_sequence" [] [],
    Entry.mk 0x5040 1 0x00 1 3 4 .ro .ro .ro .ro .v 0 4294967295 1 0 "remaining_pslc_pe_cycles" [] [],
    Entry.mk 0x5041 1 0x00 1 3 4 .ro .ro .ro .ro .d 0 4294967295 1 0 "erase_units_retired" [] [],
    Entry.mk 0x5050 1 0x00 1 2 2 .ro .ro .ro .ro .d 0 65535 1 0 "media_key_id" [] [],
    Entry.mk 0x5060 1 0x00 1 8 1 .ro .ro .ro .ro .v 0 3 1 0 "rebuild_state" [] [],
    Entry.mk 0x5060 1 0x01 1 3 4 .ro .ro .ro .ro .v 0 4294967295 1 0 "rebuild_stripes_left" [] [],
    Entry.mk 0x5070 1 0x00 1 4 8 .ro .ro .ro .ro .d 0 18446744073709551615 1 1 "image_sequence" [] [] ]

/-- Entries at 0x5100 to 0x51FF. -/
def rows51 : List Entry := [
    Entry.mk 0x5100 18 0x01 1 8 1 .ro .ro .ro .ro .v 0 3 1 0 "nand_channel_state" [] [],
    Entry.mk 0x5100 18 0x02 1 9 4 .ro .ro .ro .ro .d 0 65535 1 0 "luns_failed" [] [],
    Entry.mk 0x5100 18 0x03 1 4 8 .ro .w1c .ro .w1c .v 0 18446744073709551615 1 0 "read_corrected" [] [],
    Entry.mk 0x5100 18 0x04 1 4 8 .ro .w1c .ro .w1c .v 0 18446744073709551615 1 0 "read_erasures" [] [],
    Entry.mk 0x5100 18 0x05 1 3 4 .ro .w1c .ro .w1c .v 0 4294967295 1 0 "program_failures" [] [] ]

/-- Entries at 0x5400 to 0x54FF. -/
def rows54 : List Entry := [
    Entry.mk 0x5400 1 0x00 1 8 1 .ro .ro .ro .ro .v 0 8 1 0 "save_state" [] [],
    Entry.mk 0x5401 1 0x00 1 8 1 .ro .ro .ro .ro .d 0 5 1 0 "save_trigger" [] [],
    Entry.mk 0x5402 1 0x00 1 3 4 .ro .ro .ro .ro .d 0 4294967295 1 0 "save_epoch" [] [],
    Entry.mk 0x5403 1 0x00 1 8 1 .ro .ro .ro .ro .d 0 5 1 0 "last_save_outcome" [] [],
    Entry.mk 0x5404 1 0x01 1 4 8 .ro .ro .ro .ro .d 0 18446744073709551615 1 0 "last_save_leaves" [] [],
    Entry.mk 0x5404 1 0x02 1 4 8 .ro .ro .ro .ro .d 0 18446744073709551615 1 0 "last_save_lost" [] [],
    Entry.mk 0x5404 1 0x03 1 4 8 .ro .ro .ro .ro .d 0 18446744073709551615 1 0 "last_save_bytes" [] [],
    Entry.mk 0x5404 1 0x04 1 4 8 .ro .ro .ro .ro .d 0 18446744073709551615 1 0 "last_save_ns" [] [],
    Entry.mk 0x5404 1 0x05 1 11 4 .ro .ro .ro .ro .d 0 4294967295 1 0 "last_save_energy_mj" [] [],
    Entry.mk 0x5410 1 0x00 1 8 1 .ro .wo .ro .wo .v 1 2 1 0 "save_request" [] [],
    Entry.mk 0x5411 1 0x00 1 3 4 .ro .rw .ro .rw .p 100 100000 1 2000 "return_debounce_beats" [] [],
    Entry.mk 0x5412 1 0x00 1 11 4 .ro .rw .ro .rw .p 100 5000 1 500 "seal_reserve_mj" [] [],
    Entry.mk 0x5420 1 0x00 1 8 1 .ro .ro .ro .ro .v 0 3 1 0 "restore_state" [] [],
    Entry.mk 0x5421 1 0x00 1 3 4 .ro .ro .ro .ro .v 0 4294967295 1 0 "leaves_unrestored" [] [],
    Entry.mk 0x5422 1 0x01 1 4 8 .ro .ro .ro .ro .v 0 18446744073709551615 1 0 "touch_restores" [] [],
    Entry.mk 0x5422 1 0x02 1 3 4 .ro .w1c .ro .w1c .v 0 4294967295 1 0 "touch_max_ns" [] [],
    Entry.mk 0x5424 1 0x01 1 1 1 .ro .rw .ro .rw .p 0 50 1 10 "restore_trickle_pct" [] [],
    Entry.mk 0x5424 1 0x02 1 4 8 .ro .w1c .ro .w1c .v 0 18446744073709551615 1 0 "touch_queue_full" [] [],
    Entry.mk 0x5425 1 0x00 1 3 4 .ro .ro .ro .ro .v 0 4294967295 1 0 "access_open_ms" [] [],
    Entry.mk 0x5426 1 0x00 1 3 4 .ro .ro .ro .ro .v 0 4294967295 1 0 "restore_ms" [] [],
    Entry.mk 0x5427 1 0x00 1 4 8 .ro .ro .ro .ro .v 0 18446744073709551615 1 0 "undo_lines_pending" [] [],
    Entry.mk 0x5430 1 0x00 1 7 1 .ro .ro .ro .ro .v 0 1 1 0 "dram_retained" [] [] ]

/-- Entries at 0x6000 to 0x60FF. -/
def rows60 : List Entry := [
    Entry.mk 0x6000 1 0x01 1 8 1 .ro .rw .ro .rw .d 1 3 1 1 "store_profile" [] [],
    Entry.mk 0x6000 1 0x02 1 1 1 .ro .rw .ro .rw .d 1 24 1 16 "cells_per_string" [] [],
    Entry.mk 0x6000 1 0x03 1 1 1 .ro .rw .ro .rw .d 1 4 1 1 "strings" [] [],
    Entry.mk 0x6000 1 0x04 1 2 2 .ro .rw .ro .rw .d 0 65535 1 2700 "cell_charge_mv" [] [],
    Entry.mk 0x6000 1 0x05 1 3 4 .ro .rw .ro .rw .d 0 4294967295 1 0 "store_rated_cap_mf" [] [],
    Entry.mk 0x6000 1 0x06 1 3 4 .ro .rw .ro .rw .d 0 4294967295 1 0 "store_rated_esr_mohm" [] [],
    Entry.mk 0x6000 1 0x07 1 7 1 .ro .rw .ro .rw .d 0 1 1 1 "taps_fitted" [] [],
    Entry.mk 0x6001 1 0x00 1 3 4 .ro .rw .ro .rw .d 0 4294967295 1 0 "v_cutoff_mv" [] [],
    Entry.mk 0x6002 1 0x01 1 8 1 .ro .rw .ro .rw .d 0 1 1 0 "input_range" [] [],
    Entry.mk 0x6002 1 0x02 1 3 4 .ro .rw .ro .rw .p 8000 46000 25 10200 "pf_threshold_mv" [] [],
    Entry.mk 0x6002 1 0x03 1 2 2 .ro .rw .ro .rw .p 50 1000 1 200 "pf_hysteresis_mv" [] [],
    Entry.mk 0x6002 1 0x04 1 3 4 .ro .rw .ro .rw .p 0 4294967295 1 10800 "pf_warn_mv" [] [],
    Entry.mk 0x6003 1 0x00 1 2 2 .ro .rw .ro .rw .p 10 10000 1 100 "input_good_beats" [] [],
    Entry.mk 0x6004 1 0x00 1 8 1 .ro .ro .ro .ro .v 0 4 1 0 "supply_state" [] [],
    Entry.mk 0x6005 1 0x00 1 3 4 .ro .w1c .ro .w1c .v 0 4294967295 1 0 "pf_trips" [] [],
    Entry.mk 0x6010 1 0x00 1 11 4 .ro .ro .ro .ro .v 0 4294967295 1 0 "e_usable_now_mj" [] [],
    Entry.mk 0x6011 1 0x00 1 3 4 .ro .ro .ro .ro .v 0 4294967295 1 0 "v_store_mv" [] [],
    Entry.mk 0x6012 1 0x00 1 5 4 .ro .ro .ro .ro .v (-2147483648) 2147483647 1 0 "i_store_ma" [] [],
    Entry.mk 0x6013 1 0x00 1 3 4 .ro .ro .ro .ro .v 0 4294967295 1 0 "v_cut_eff_mv" [] [],
    Entry.mk 0x6014 1 0x00 1 3 4 .ro .ro .ro .ro .v 0 4294967295 1 0 "c_model_mf" [] [],
    Entry.mk 0x6020 1 0x00 1 8 1 .ro .ro .ro .ro .v 0 6 1 0 "charger_state" [] [],
    Entry.mk 0x6021 1 0x00 1 3 4 .ro .rw .ro .rw .p 100 20000 1 4000 "ch_current_ma" [] [],
    Entry.mk 0x6022 1 0x00 1 3 4 .ro .rw .ro .rw .p 500 20000 1 6000 "ch_input_limit_ma" [] [],
    Entry.mk 0x6023 1 0x00 1 1 1 .ro .rw .ro .rw .p 1 20 1 5 "ch_term_pct" [] [],
    Entry.mk 0x6024 1 0x00 1 1 1 .ro .rw .ro .rw .p 1 10 1 1 "recharge_delta_pct" [] [],
    Entry.mk 0x6025 1 0x00 1 2 2 .ro .rw .ro .rw .p 5 1440 1 60 "ch_timeout_min" [] [],
    Entry.mk 0x6026 1 0x00 1 7 1 .ro .wo .ro .wo .v 0 1 1 0 "charger_fault_clear" [] [],
    Entry.mk 0x6030 1 0x00 1 2 2 .ro .rw .ro .rw .p 5 200 1 20 "bal_threshold_mv" [] [],
    Entry.mk 0x6031 1 0x01 24 2 2 .ro .ro .ro .ro .v 0 65535 1 0 "cell_mv" [] [],
    Entry.mk 0x6040 4 0x01 1 8 1 .ro .ro .ro .ro .v 0 2 1 0 "string_state" [] [] ]
  ++ [
    Entry.mk 0x6040 4 0x02 1 3 4 .ro .ro .ro .ro .d 0 4294967295 1 0 "string_cap_mf" [] [],
    Entry.mk 0x6044 1 0x00 1 1 1 .ro .rw .ro .rw .p 20 90 1 50 "str_share_min_pct" [] [],
    Entry.mk 0x6050 1 0x00 1 2 2 .ro .rw .ro .rw .p 1 720 1 24 "health_period_h" [] [],
    Entry.mk 0x6051 1 0x00 1 7 1 .ro .wo .ro .wo .v 0 1 1 0 "health_request" [] [],
    Entry.mk 0x6053 1 0x00 1 3 4 .ro .rw .ro .rw .p 200 10000 1 2000 "hc_test_current_ma" [] [],
    Entry.mk 0x6054 1 0x00 1 3 4 .ro .ro .ro .ro .d 0 4294967295 1 0 "store_cap_mf" [] [],
    Entry.mk 0x6055 1 0x00 1 3 4 .ro .ro .ro .ro .d 0 4294967295 1 0 "store_esr_mohm" [] [],
    Entry.mk 0x6056 1 0x00 1 1 1 .ro .rw .ro .rw .p 50 95 1 80 "cap_eol_pct" [] [],
    Entry.mk 0x6057 1 0x00 1 2 2 .ro .rw .ro .rw .p 110 500 1 200 "esr_eol_pct" [] [],
    Entry.mk 0x6060 1 0x01 1 2 2 .ro .rw .ro .rw .d 9600 12600 1 11400 "hu_bus_mv" [] [],
    Entry.mk 0x6060 1 0x02 1 3 4 .ro .rw .ro .rw .d 6000 30000 1 8000 "hu_vin_min_mv" [] [],
    Entry.mk 0x6060 1 0x03 1 2 2 .ro .rw .ro .rw .d 50 400 1 160 "hu_power_max_w" [] [],
    Entry.mk 0x6060 1 0x04 1 2 2 .ro .rw .ro .rw .d 200 1000 1 400 "hu_fsw_khz" [] [],
    Entry.mk 0x6060 1 0x05 1 3 4 .ro .rw .ro .rw .d 2000 40000 1 20000 "hu_ilimit_ma" [] [],
    Entry.mk 0x6060 1 0x06 1 2 2 .ro .rw .ro .rw .d 8000 11000 1 9600 "hu_bus_min_mv" [] [],
    Entry.mk 0x6070 8 0x01 1 8 1 .ro .rw .ro .rw .d 0 4 1 0 "th_role" [] [],
    Entry.mk 0x6070 8 0x02 1 5 4 .ro .ro .ro .ro .v (-2147483648) 2147483647 1 0 "th_temp_c" [] [],
    Entry.mk 0x6070 8 0x03 1 5 4 .ro .rw .ro .rw .p (-20) 125 1 85 "th_alarm_c" [] [],
    Entry.mk 0x6080 1 0x00 1 9 4 .ro .w1c .ro .w1c .v 0 31 1 0 "store_alarm" [] [],
    Entry.mk 0x6090 1 0x00 1 5 4 .ro .ro .ro .ro .v (-2147483648) 2147483647 1 0 "tj_c" [] [],
    Entry.mk 0x6091 1 0x00 1 5 4 .ro .w1c .ro .w1c .v (-2147483648) 2147483647 1 0 "tj_max_c" [] [],
    Entry.mk 0x6092 1 0x00 1 5 4 .ro .rw .ro .rw .p 80 104 1 100 "tj_warn_c" [] [],
    Entry.mk 0x6093 1 0x00 1 5 4 .ro .rw .ro .rw .p 90 105 1 103 "tj_throttle_c" [] [],
    Entry.mk 0x6094 1 0x00 1 8 1 .ro .ro .ro .ro .v 0 3 1 0 "thermal_state" [] [],
    Entry.mk 0x60A0 1 0x01 1 2 2 .ro .ro .ro .ro .d 700 850 1 750 "vdd_core_set_mv" [] [],
    Entry.mk 0x60A0 1 0x02 1 5 4 .ro .ro .ro .ro .v (-2147483648) 2147483647 1 0 "guard_band_mv" [] [],
    Entry.mk 0x60A0 1 0x03 1 3 4 .ro .ro .ro .ro .d 0 4294967295 1 0 "avs_steps" [] [],
    Entry.mk 0x60A1 1 0x01 1 5 4 .ro .ro .ro .ro .d (-2147483648) 2147483647 1 0 "tj_mean_mdeg" [] [],
    Entry.mk 0x60A1 1 0x02 1 3 4 .ro .ro .ro .ro .d 0 4294967295 1 0 "hours_above_105" [] [],
    Entry.mk 0x60A1 1 0x03 1 3 4 .ro .ro .ro .ro .d 0 4294967295 1 0 "hours_logged" [] [] ]

/-- Entries at 0x6400 to 0x64FF. -/
def rows64 : List Entry := [
    Entry.mk 0x6400 32 0x01 1 8 1 .ro .rw .ro .rw .d 0 6 1 0 "rail_role" [] [],
    Entry.mk 0x6400 32 0x02 1 1 1 .ro .rw .ro .rw .d 0 12 1 0 "rail_unit" [] [],
    Entry.mk 0x6400 32 0x03 1 1 1 .ro .rw .ro .rw .d 0 15 1 0 "rail_group" [] [],
    Entry.mk 0x6400 32 0x04 1 1 1 .ro .rw .ro .rw .d 0 31 1 0 "up_step" [] [],
    Entry.mk 0x6400 32 0x05 1 2 2 .ro .rw .ro .rw .d 0 65535 1 0 "rail_nominal_mv" [] [],
    Entry.mk 0x6400 32 0x06 1 1 1 .ro .rw .ro .rw .d 1 20 1 5 "rail_tol_pct" [] [],
    Entry.mk 0x6400 32 0x07 1 8 1 .ro .ro .ro .ro .v 0 4 1 0 "rail_state" [] [],
    Entry.mk 0x6400 32 0x08 1 8 1 .ro .rw .ro .rw .d 0 4 1 0 "rail_policy" [] [],
    Entry.mk 0x6400 32 0x09 1 3 4 .ro .w1c .ro .w1c .v 0 4294967295 1 0 "rail_faults" [] [],
    Entry.mk 0x6400 32 0x0A 1 2 2 .ro .ro .ro .ro .v 0 65535 1 0 "rail_mv" [] [],
    Entry.mk 0x6420 32 0x01 1 3 4 .ro .rw .ro .rw .d 10 100000 1 1000 "step_timeout_beats" [] [],
    Entry.mk 0x6440 16 0x01 1 7 1 .ro .rw .ro .rw .v 0 1 1 1 "group_enable" [] [],
    Entry.mk 0x6440 16 0x02 1 8 1 .ro .ro .ro .ro .v 0 4 1 0 "group_state" [] [],
    Entry.mk 0x6460 1 0x00 1 2 2 .ro .rw .ro .rw .p 1 10000 1 50 "pg_stable_beats" [] [],
    Entry.mk 0x6461 1 0x00 1 1 1 .ro .rw .ro .rw .p 1 64 1 8 "pg_chatter_max" [] [],
    Entry.mk 0x6462 1 0x00 1 2 2 .ro .rw .ro .rw .p 0 1000 1 10 "rail_grace_beats" [] [],
    Entry.mk 0x6463 1 0x00 1 2 2 .ro .rw .ro .rw .p 200 50000 1 2000 "pg_fault_ns" [] [],
    Entry.mk 0x6464 1 0x00 1 8 1 .ro .ro .ro .ro .v 0 4 1 0 "seq_state" [] [],
    Entry.mk 0x6465 1 0x00 1 7 1 .ro .wo .ro .wo .v 0 1 1 0 "seq_retry_request" [] [],
    Entry.mk 0x6466 1 0x00 1 1 1 .ro .ro .ro .ro .v 0 255 1 255 "seq_fault_rail" [] [] ]

/-- Entries at 0x7000 to 0x70FF. -/
def rows70 : List Entry := [
    Entry.mk 0x7000 17 0x01 1 9 4 .ro .ro .ro .ro .v 0 4294967295 1 0 "fault_live" [] [],
    Entry.mk 0x7000 17 0x02 1 9 4 .ro .w1c .ro .w1c .v 0 4294967295 1 0 "fault_sticky" [] [],
    Entry.mk 0x7000 17 0x03 1 9 4 .ro .rw .ro .rw .p 0 4294967295 1 0 "fault_pin_mask" [] [],
    Entry.mk 0x7000 17 0x04 1 2 2 .ro .ro .ro .ro .v 0 65535 1 0 "ff_code" [] [],
    Entry.mk 0x7000 17 0x05 1 4 8 .ro .ro .ro .ro .v 0 18446744073709551615 1 0 "ff_beat" [] [],
    Entry.mk 0x7000 17 0x06 1 9 4 .ro .ro .ro .ro .v 0 15 1 0 "ff_flags" [] [],
    Entry.mk 0x7000 17 0x07 1 4 8 .ro .ro .ro .ro .v 0 18446744073709551615 1 0 "ff_detail" [] [],
    Entry.mk 0x7000 17 0x08 1 4 8 .ro .w1c .ro .w1c .v 0 18446744073709551615 1 0 "fault_events" [] [],
    Entry.mk 0x7000 17 0x09 1 9 4 .ro .ro .ro .ro .f 0 4294967295 1 0 "fault_codes" [] [],
    Entry.mk 0x7000 17 0x0A 1 7 1 .ro .wo .ro .wo .v 0 1 1 0 "fault_clear" [] [] ]

/-- Entries at 0x7400 to 0x74FF. -/
def rows74 : List Entry := [
    Entry.mk 0x7400 1 0x01 1 4 8 .ro .ro .ro .ro .v 0 18446744073709551615 1 0 "next_sequence" [] [],
    Entry.mk 0x7400 1 0x02 1 2 2 .ro .ro .ro .ro .v 0 65535 1 0 "ring_unspooled" [] [],
    Entry.mk 0x7401 1 0x01 1 2 2 .ro .rw .ro .rw .v 0 1023 1 0 "code_select" [] [],
    Entry.mk 0x7401 1 0x02 1 13 32 .ro .ro .ro .ro .f 0 32 1 0 "code_name" [] [],
    Entry.mk 0x7401 1 0x03 1 8 1 .ro .ro .ro .ro .f 0 3 1 0 "code_severity" [] [],
    Entry.mk 0x7401 1 0x04 1 1 1 .ro .rw .ro .rw .p 0 63 1 255 "code_snapshot_set" [] [255],
    Entry.mk 0x7401 1 0x05 1 2 2 .ro .rw .ro .rw .p 1 10000 1 100 "code_rate" [] [],
    Entry.mk 0x7401 1 0x06 1 2 2 .ro .rw .ro .rw .p 1 1024 1 16 "code_burst" [] [],
    Entry.mk 0x7401 1 0x07 1 9 4 .ro .rw .ro .rw .p 0 3 1 0 "code_deliver" [] [],
    Entry.mk 0x7401 1 0x08 1 3 4 .ro .ro .ro .ro .v 0 4294967295 1 0 "code_suppressed" [] [],
    Entry.mk 0x7402 1 0x01 1 1 1 .ro .rw .ro .rw .v 0 63 1 0 "set_select" [] [],
    Entry.mk 0x7402 1 0x02 1 1 1 .ro .rw .ro .rw .p 0 54 1 0 "set_count" [] [],
    Entry.mk 0x7402 1 0x03 1 12 216 .ro .rw .ro .rw .p 0 216 1 0 "set_entries" [] [],
    Entry.mk 0x7410 1 0x00 1 8 1 .ro .rw .ro .rw .p 0 3 1 1 "eflash_min_severity" [] [],
    Entry.mk 0x7411 1 0x00 1 7 1 .ro .rw .ro .rw .p 0 1 1 0 "inj_deliver_host" [] [],
    Entry.mk 0x7412 1 0x00 1 1 1 .ro .rw .ro .rw .p 0 255 1 0 "mctp_event_eid" [] [],
    Entry.mk 0x7413 1 0x00 1 12 16 .ro .ro .ro .ro .f 0 16 1 0 "event_uuid" [] [],
    Entry.mk 0x7420 1 0x01 8 12 64 .ro .ro .ro .ro .v 0 64 1 0 "last_gasp" [] [],
    Entry.mk 0x7421 1 0x00 1 1 1 .ro .ro .ro .ro .v 0 255 1 0 "fallback_count" [] [],
    Entry.mk 0x7422 1 0x00 1 3 4 .ro .w1c .ro .w1c .v 0 4294967295 1 0 "fallback_dropped" [] [],
    Entry.mk 0x7430 1 0x01 1 4 8 .rw .rw .rw .rw .v 0 18446744073709551615 1 0 "read_seq" [] [],
    Entry.mk 0x7430 1 0x02 1 8 1 .rw .rw .rw .rw .v 0 4 1 0 "read_tier" [] [],
    Entry.mk 0x7430 1 0x03 1 12 256 .ro .ro .ro .ro .v 0 256 1 0 "read_record" [] [],
    Entry.mk 0x7430 1 0x04 1 4 8 .ro .ro .ro .ro .v 0 18446744073709551615 1 0 "read_next_seq" [] [],
    Entry.mk 0x7430 1 0x05 1 4 8 .ro .w1c .ro .w1c .v 0 18446744073709551615 1 0 "torn_skipped" [] [],
    Entry.mk 0x7431 1 0x01 1 4 8 .ro .w1c .ro .w1c .v 0 18446744073709551615 1 0 "ring_dropped" [] [],
    Entry.mk 0x7431 1 0x02 1 3 4 .ro .ro .ro .ro .v 0 4294967295 1 0 "cupboard_spool_records" [] [],
    Entry.mk 0x7431 1 0x03 1 3 4 .ro .ro .ro .ro .v 0 4294967295 1 0 "eflash_spool_records" [] [] ]

/-- Entries at 0x7800 to 0x78FF. -/
def rows78 : List Entry := [
    Entry.mk 0x7800 5 0x01 1 8 1 .ro .ro .ro .ro .v 0 4 1 0 "pair_state" [] [],
    Entry.mk 0x7800 5 0x02 1 9 4 .ro .ro .ro .ro .v 0 15 1 0 "pair_roles" [] [],
    Entry.mk 0x7800 5 0x03 1 3 4 .ro .w1c .ro .w1c .d 0 4294967295 1 0 "pair_mismatches" [] [],
    Entry.mk 0x7805 1 0x00 1 3 4 .ro .ro .ro .ro .d 0 4294967295 1 0 "takeovers" [] [],
    Entry.mk 0x7806 1 0x01 1 3 4 .ro .ro .ro .ro .d 0 4294967295 1 0 "sram_rows_repaired" [] [],
    Entry.mk 0x7806 1 0x02 1 3 4 .ro .ro .ro .ro .d 0 4294967295 1 0 "sram_cols_repaired" [] [],
    Entry.mk 0x7806 1 0x03 1 3 4 .ro .ro .ro .ro .v 0 4294967295 1 6144 "sram_spares_left" [] [],
    Entry.mk 0x7806 1 0x04 1 4 8 .ro .w1c .ro .w1c .v 0 18446744073709551615 1 0 "sram_ce_count" [] [],
    Entry.mk 0x7806 1 0x05 1 3 4 .ro .w1c .ro .w1c .v 0 4294967295 1 0 "sram_ue_count" [] [],
    Entry.mk 0x7810 1 0x01 1 2 2 .ro .rw .ro .rw .v 0 511 1 0 "irq_select" [] [],
    Entry.mk 0x7810 1 0x02 1 1 1 .ro .ro .ro .rw .v 0 15 1 0 "irq_priority" [] [],
    Entry.mk 0x7810 1 0x03 1 8 1 .ro .ro .ro .rw .v 0 3 1 0 "irq_role" [] [],
    Entry.mk 0x7810 1 0x04 1 7 1 .ro .ro .ro .ro .v 0 1 1 0 "irq_level" [] [],
    Entry.mk 0x7810 1 0x05 1 7 1 .ro .ro .ro .ro .v 0 1 1 0 "irq_pending" [] [],
    Entry.mk 0x7810 1 0x06 1 7 1 .ro .ro .ro .ro .v 0 1 1 0 "irq_active" [] [],
    Entry.mk 0x7821 4 0x01 1 1 1 .ro .ro .ro .rw .v 0 15 1 0 "role_threshold" [] [],
    Entry.mk 0x7821 4 0x02 1 4 8 .ro .ro .ro .ro .v 0 18446744073709551615 1 0 "role_claims" [] [],
    Entry.mk 0x7821 4 0x03 1 7 1 .ro .ro .ro .ro .v 0 1 1 0 "role_idle" [] [],
    Entry.mk 0x7821 4 0x04 1 3 4 .ro .w1c .ro .w1c .v 0 4294967295 1 0 "bad_completes" [] [],
    Entry.mk 0x7830 32 0x01 1 1 1 .ro .ro .ro .rw .v 1 16 1 0 "mod_count" [] [],
    Entry.mk 0x7830 32 0x02 1 2 2 .ro .ro .ro .rw .v 0 10000 1 0 "mod_us" [] [] ]

/-- Entries at 0x8000 to 0x80FF. -/
def rows80 : List Entry := [
    Entry.mk 0x8000 2 0x01 1 8 1 .ro .ro .ro .ro .v 0 2 1 0 "bank_role" [] [],
    Entry.mk 0x8000 2 0x02 1 9 4 .ro .ro .ro .ro .v 0 4294967295 1 0 "bank_status" [] [],
    Entry.mk 0x8000 2 0x03 1 4 8 .ro .ro .ro .ro .v 0 18446744073709551615 1 0 "programs" [] [],
    Entry.mk 0x8000 2 0x04 1 4 8 .ro .ro .ro .ro .v 0 18446744073709551615 1 0 "sector_erases" [] [],
    Entry.mk 0x8000 2 0x05 1 4 8 .ro .w1c .ro .w1c .v 0 18446744073709551615 1 0 "ecc_corrected" [] [],
    Entry.mk 0x8000 2 0x06 1 3 4 .ro .ro .ro .ro .d 0 4294967295 1 0 "max_sector_cycles" [] [],
    Entry.mk 0x8000 2 0x07 1 2 2 .ro .ro .ro .ro .d 0 65535 1 0 "sectors_worn" [] [],
    Entry.mk 0x8010 1 0x00 1 8 1 .ro .rw .ro .rw .v 0 2 1 0 "rdp_level" [] [],
    Entry.mk 0x8011 1 0x00 1 2 2 .ro .ro .ro .wo .v 0 65535 1 0 "rdp_lower_arm" [] [],
    Entry.mk 0x8020 1 0x01 1 2 2 .ro .rw .ro .rw .p 7 365 1 90 "scrub_sweep_days" [] [],
    Entry.mk 0x8020 1 0x02 1 2 2 .ro .rw .ro .rw .p 365 1826 1 1461 "full_refresh_days" [] [],
    Entry.mk 0x8021 1 0x00 1 8 1 .ro .ro .ro .ro .v 0 3 1 0 "scrub_state" [] [],
    Entry.mk 0x8022 1 0x00 1 3 4 .ro .ro .ro .ro .d 0 4294967295 1 0 "scrub_rewrites" [] [],
    Entry.mk 0x8023 1 0x00 1 3 4 .ro .ro .ro .ro .d 0 4294967295 1 0 "last_full_refresh_hour" [] [],
    Entry.mk 0x8030 1 0x00 1 3 4 .ro .w1c .ro .w1c .v 0 4294967295 1 0 "erase_reopened" [] [],
    Entry.mk 0x8031 1 0x00 1 3 4 .ro .w1c .ro .w1c .v 0 4294967295 1 0 "brownout_blocks" [] [],
    Entry.mk 0x8032 1 0x00 1 3 4 .ro .w1c .ro .w1c .v 0 4294967295 1 0 "suspend_refused" [] [] ]

/-- Entries at 0x8400 to 0x84FF. -/
def rows84 : List Entry := [
    Entry.mk 0x8400 1 0x01 1 1 1 .ro .ro .ro .ro .v 0 255 1 0 "running_bank" [] [],
    Entry.mk 0x8400 1 0x02 1 3 4 .ro .ro .ro .ro .v 0 4294967295 1 0 "fw_version" [] [],
    Entry.mk 0x8400 1 0x03 1 3 4 .ro .ro .ro .ro .v 0 4294967295 1 0 "security_version" [] [],
    Entry.mk 0x8400 1 0x04 1 2 2 .ro .ro .ro .ro .v 0 65535 1 0 "sequencer_interface" [] [],
    Entry.mk 0x8401 1 0x00 1 1 1 .ro .ro .ro .ro .f 0 255 1 0 "arb_counter" [] [],
    Entry.mk 0x8404 4 0x00 1 12 32 .ro .ro .ro .ro .f 0 32 1 0 "key_hash" [] [],
    Entry.mk 0x8403 1 0x00 1 1 1 .ro .ro .ro .wo .v 0 3 1 255 "key_revoke_request" [] [],
    Entry.mk 0x8403 1 0x01 1 2 2 .ro .ro .ro .wo .v 0 65535 1 0 "key_revoke_arm" [] [],
    Entry.mk 0x8403 1 0x02 1 9 4 .ro .ro .ro .ro .f 0 15 1 0 "key_revoked" [] [],
    Entry.mk 0x8410 1 0x01 1 8 1 .ro .ro .ro .ro .v 0 2 1 0 "update_state" [] [],
    Entry.mk 0x8410 1 0x02 1 3 4 .ro .ro .ro .ro .v 0 4294967295 1 0 "update_bytes" [] [],
    Entry.mk 0x8411 2 0x01 1 8 1 .ro .ro .ro .ro .v 0 6 1 0 "slot_state" [] [],
    Entry.mk 0x8411 2 0x02 1 3 4 .ro .ro .ro .ro .v 0 4294967295 1 0 "slot_fw_version" [] [],
    Entry.mk 0x8411 2 0x03 1 8 1 .ro .ro .ro .ro .v 0 9 1 0 "slot_result" [] [],
    Entry.mk 0x8411 2 0x04 1 4 8 .ro .ro .ro .ro .v 0 18446744073709551615 1 0 "slot_generation" [] [],
    Entry.mk 0x8411 2 0x05 1 1 1 .ro .ro .ro .ro .v 0 255 1 0 "trial_starts" [] [],
    Entry.mk 0x8420 1 0x00 1 8 1 .ro .rw .ro .rw .p 0 2 1 0 "svc_rate" [] [],
    Entry.mk 0x8421 1 0x00 1 3 4 .ro .w1c .ro .w1c .v 0 4294967295 1 0 "svc_frames_bad" [] [],
    Entry.mk 0x8430 1 0x01 1 1 1 .ro .ro .ro .ro .v 0 255 1 0 "spdm_sessions" [] [],
    Entry.mk 0x8430 1 0x02 1 4 8 .ro .ro .ro .ro .v 0 18446744073709551615 1 0 "spdm_signatures" [] [],
    Entry.mk 0x8440 1 0x00 1 12 32 .ro .ro .ro .ro .f 0 32 1 0 "identity_key_hash" [] [],
    Entry.mk 0x8422 1 0x00 1 1 1 .ro .rw .ro .rw .d 8 119 1 78 "i3c_static_addr" [] [] ]

/-- Entries at 0x9000 to 0x90FF. -/
def rows90 : List Entry := [
    Entry.mk 0x9000 1 0x01 1 7 1 .ro .ro .ro .rw .p 0 1 1 0 "test_hold" [] [],
    Entry.mk 0x9000 1 0x02 1 8 1 .ro .ro .ro .ro .v 0 2 1 0 "test_hold_state" [] [],
    Entry.mk 0x9001 1 0x00 1 3 4 .ro .ro .ro .ro .f 0 4294967295 1 0 "jtag_idcode" [] [],
    Entry.mk 0x9002 1 0x00 1 1 1 .ro .ro .ro .ro .v 0 255 1 255 "tap_last_refused" [] [],
    Entry.mk 0x9003 1 0x00 1 7 1 .ro .ro .ro .rw .v 0 1 1 0 "inj_full_enable" [] [],
    Entry.mk 0x9010 1 0x01 1 1 1 .ro .rw .ro .rw .v 0 66 1 0 "pt_unit" [] [],
    Entry.mk 0x9010 1 0x02 1 8 1 .ro .rw .ro .rw .v 0 5 1 3 "pt_pattern" [] [],
    Entry.mk 0x9010 1 0x03 1 4 8 .ro .rw .ro .rw .v 0 18446744073709551615 1 0 "pt_user_pattern" [] [],
    Entry.mk 0x9010 1 0x04 1 1 1 .ro .rw .ro .rw .v 0 255 1 128 "pt_host_rate" [32, 64, 128] [],
    Entry.mk 0x9010 1 0x05 1 7 1 .ro .rw .ro .rw .v 0 1 1 0 "pt_run" [] [],
    Entry.mk 0x9010 1 0x06 1 8 1 .ro .ro .ro .ro .v 0 4 1 0 "pt_state" [] [],
    Entry.mk 0x9010 1 0x07 1 4 8 .ro .w1c .ro .w1c .v 0 18446744073709551615 1 0 "pt_bits_checked" [] [],
    Entry.mk 0x9010 1 0x08 1 4 8 .ro .w1c .ro .w1c .v 0 18446744073709551615 1 0 "pt_errors" [] [],
    Entry.mk 0x9010 1 0x09 1 3 4 .ro .w1c .ro .w1c .v 0 4294967295 1 0 "pt_lock_losses" [] [],
    Entry.mk 0x9010 1 0x0A 1 1 1 .ro .ro .ro .ro .v 0 255 1 255 "pt_first_error_line" [] [],
    Entry.mk 0x9020 1 0x01 1 1 1 .ro .rw .ro .rw .v 32 35 1 32 "mg_unit" [] [],
    Entry.mk 0x9020 1 0x02 1 8 1 .ro .rw .ro .rw .v 0 3 1 0 "mg_axis" [] [],
    Entry.mk 0x9020 1 0x03 1 1 1 .ro .rw .ro .rw .v 1 63 1 32 "mg_steps" [] [],
    Entry.mk 0x9020 1 0x04 1 2 2 .ro .rw .ro .rw .v 1 1024 1 4 "mg_error_limit" [] [],
    Entry.mk 0x9020 1 0x05 1 7 1 .ro .rw .ro .rw .v 0 1 1 0 "mg_run" [] [],
    Entry.mk 0x9020 1 0x06 1 1 1 .ro .ro .ro .ro .v 0 255 1 0 "mg_result" [] [] ]

/-- Entries at 0x9100 to 0x91FF. -/
def rows91 : List Entry := [
    Entry.mk 0x9100 17 0x01 1 1 1 .ro .rw .ro .rw .v 0 31 1 0 "inj_code" [] [],
    Entry.mk 0x9100 17 0x02 1 8 1 .ro .rw .ro .rw .v 0 2 1 0 "inj_mode" [] [],
    Entry.mk 0x9100 17 0x03 1 4 8 .ro .rw .ro .rw .v 0 18446744073709551615 1 0 "inj_at_beat" [] [],
    Entry.mk 0x9100 17 0x04 1 1 1 .ro .rw .ro .rw .v 1 255 1 1 "inj_count" [] [],
    Entry.mk 0x9100 17 0x05 1 3 4 .ro .rw .ro .rw .v 1 100000000 1 1 "inj_interval_beats" [] [],
    Entry.mk 0x9100 17 0x06 1 4 8 .ro .rw .ro .rw .v 0 18446744073709551615 1 0 "inj_detail" [] [],
    Entry.mk 0x9100 17 0x07 1 3 4 .ro .w1c .ro .w1c .v 0 4294967295 1 0 "inj_fired" [] [],
    Entry.mk 0x9100 17 0x08 1 3 4 .ro .w1c .ro .w1c .v 0 4294967295 1 0 "inj_skipped" [] [] ]

/-- Entries at 0xA000 to 0xA0FF. -/
def rowsA0 : List Entry := [
    Entry.mk 0xA000 1 0x00 1 2 2 .ro .ro .ro .ro .f 0 65535 1 1 "dict_format" [] [],
    Entry.mk 0xA001 1 0x00 1 3 4 .ro .ro .ro .ro .v 0 4294967295 1 0 "entry_count" [] [],
    Entry.mk 0xA002 1 0x00 1 3 4 .ro .ro .ro .ro .v 0 4294967295 1 0 "settings_format" [] [],
    Entry.mk 0xA003 1 0x00 1 4 8 .ro .ro .ro .ro .d 0 18446744073709551615 1 0 "d_generation" [] [],
    Entry.mk 0xA020 1 0x00 1 7 1 .ro .rw .ro .rw .p 0 1 1 0 "host_tunnel_enable" [] [],
    Entry.mk 0xA030 1 0x00 1 3 4 .ro .rw .ro .rw .p 10000 10000000 1 1000000 "set_idle_beats" [] [],
    Entry.mk 0xA031 1 0x00 1 1 1 .ro .ro .ro .ro .v 0 255 1 0 "sets_open" [] [],
    Entry.mk 0xA032 1 0x00 1 4 8 .ro .ro .ro .ro .v 0 18446744073709551615 1 0 "messages_served" [] [] ]

/-- The rows of the block of indices that holds `idx`. -/
def rowsOf (idx : Nat) : List Entry :=
  match idx / 256 with
  | 0x10 => rows10
  | 0x11 => rows11
  | 0x12 => rows12
  | 0x20 => rows20
  | 0x21 => rows21
  | 0x22 => rows22
  | 0x24 => rows24
  | 0x25 => rows25
  | 0x30 => rows30
  | 0x31 => rows31
  | 0x34 => rows34
  | 0x40 => rows40
  | 0x44 => rows44
  | 0x48 => rows48
  | 0x50 => rows50
  | 0x51 => rows51
  | 0x54 => rows54
  | 0x60 => rows60
  | 0x64 => rows64
  | 0x70 => rows70
  | 0x74 => rows74
  | 0x78 => rows78
  | 0x80 => rows80
  | 0x84 => rows84
  | 0x90 => rows90
  | 0x91 => rows91
  | 0xA0 => rowsA0
  | _ => []

/-- Every row, in ascending order of blocks. -/
def allRows : List Entry :=
  rows10 ++ rows11 ++ rows12 ++ rows20 ++ rows21 ++ rows22 ++ rows24 ++ rows25 ++ rows30 ++ rows31 ++ rows34 ++ rows40 ++ rows44 ++ rows48 ++ rows50 ++ rows51 ++ rows54 ++ rows60 ++ rows64 ++ rows70 ++ rows74 ++ rows78 ++ rows80 ++ rows84 ++ rows90 ++ rows91 ++ rowsA0

/-- Whether a row holds an entry at an index. -/
def Entry.hasIndex (r : Entry) (idx : Nat) : Bool := decide (r.lo ≤ idx) && decide (idx < r.lo + r.n)

/-- Whether a row holds the entry. -/
def Entry.has (r : Entry) (idx sub : Nat) : Bool :=
  r.hasIndex idx && decide (r.sub ≤ sub) && decide (sub < r.sub + r.m)

/-- The row of an entry, if the entry exists. -/
def rowOf (idx sub : Nat) : Option Entry := (rowsOf idx).find? fun r => r.has idx sub

/-- Whether an index holds any entry (Table 14.9, NO_ENTRY and NO_SUB). -/
def indexExists (idx : Nat) : Bool := (rowsOf idx).any fun r => r.hasIndex idx

/-- A row's access for a role (R350). -/
def Entry.access (r : Entry) : Role → Access
  | .host => r.h
  | .board => r.b
  | .fleet => r.t
  | .service => r.s

/-- Entries whose writes apply at a beat boundary (Table 14.17). -/
def beatEntry (idx sub : Nat) : Bool :=
  (([0x2010, 0x2011, 0x2013, 0x2014, 0x2015] : List Nat).contains idx)
  || (decide (0x2500 ≤ idx) && decide (idx ≤ 0x253F) && decide (1 ≤ sub) && decide (sub ≤ 3))
  || idx == 0x3000 || idx == 0x3001 || (idx == 0x3010 && (sub == 1 || sub == 2))
  || idx == 0x4011 || idx == 0x4013 || (idx == 0x4040 && sub == 1)
  || (idx == 0x4800 && decide (1 ≤ sub) && decide (sub ≤ 3)) || idx == 0x4801
  || (decide (0x6400 ≤ idx) && decide (idx ≤ 0x641F) && (sub == 1 || sub == 2 || sub == 3 || sub == 8))
  || (idx == 0x7401 && decide (4 ≤ sub) && decide (sub ≤ 7)) || (idx == 0x7402 && (sub == 2 || sub == 3))
  || (decide (0x9100 ≤ idx) && decide (idx ≤ 0x9110) && decide (1 ≤ sub) && decide (sub ≤ 6))

/-- Entries whose writes take effect at a COLD or POWER-ON reset (Table 14.10, RESET_LATCHED): R42, R82, R111, R476. -/
def latchedEntry (idx sub : Nat) : Bool :=
  (idx == 0x2000) || (idx == 0x2400 && sub == 1) || idx == 0x2410 || idx == 0x2411
  || (idx == 0x3030 && decide (sub ≤ 6)) || idx == 0x8422

/-- Entries accepted in SAVE (R358). -/
def saveEntry (idx : Nat) : Bool := idx == 0x1120 || idx == 0x1121

/-- The next entry after an address, in ascending index and then sub-index (R364). -/
def nextEntry (idx sub : Nat) : Option (Nat × Nat) :=
  let later := fun (r : Entry) =>
    if r.has idx (sub + 1) then some (idx, sub + 1)
    else if r.hasIndex idx && decide (sub < r.sub) then some (idx, r.sub)
    else if decide (idx < r.lo) then some (r.lo, r.sub)
    else if r.hasIndex (idx + 1) then some (idx + 1, r.sub)
    else none
  let best := fun (a : Option (Nat × Nat)) (r : Entry) =>
    match a, later r with
    | some (i, j), some (i', j') => if i' * 256 + j' < i * 256 + j then some (i', j') else some (i, j)
    | none, c => c
    | a, none => a
  allRows.foldl best none

end Sys2Proof.Machine
end

