-- ==== Sys2Proof/Machine/Ops.lean ====
section
/-! DEFINITION. Named operations on the state: the DRAM bytes, the leaf state table and its delta log, the
layout arithmetic, the register file that holds the stored dictionary entries, links and outputs. -/

namespace Sys2Proof.Machine

/-! ### DRAM and flash bytes

A byte that is not listed reads 0: host-visible DRAM reads zero at provisioning and after Sanitize (Table 7.1,
R60, R82). -/

/-- The byte at an address. -/
def Mem.byte : List Host.Cell → Nat → Byte
  | [], _ => 0
  | (k, v) :: m, a => if k = a then v else Mem.byte m a

/-- Write one byte, keeping the canonical form. -/
def Mem.put : List Host.Cell → Nat → Byte → List Host.Cell
  | [], a, b => if b = 0 then [] else [(a, b)]
  | (k, v) :: m, a, b =>
    if a < k then (if b = 0 then (k, v) :: m else (a, b) :: (k, v) :: m)
    else if a = k then (if b = 0 then m else (a, b) :: m)
    else (k, v) :: Mem.put m a b

/-- Canonical form: addresses strictly rising, no zero byte listed. -/
def Mem.wf : List Host.Cell → Bool
  | [] => true
  | [c] => c.2 != 0
  | a :: b :: m => decide (a.1 < b.1) && (a.2 != 0) && Mem.wf (b :: m)

/-- Write the enabled bytes of a 64 B unit at address `a`. -/
def Mem.write64 (m : List Host.Cell) (a : Nat) (data : Data64) (be : BitVec 64) : List Host.Cell :=
  (List.range 64).foldl
    (fun m i => if be.getLsbD i then Mem.put m (a + i) (data.extractLsb' (8 * i) 8) else m) m

/-- The 64 B at address `a`. -/
def Mem.read64 (m : List Host.Cell) (a : Nat) : Data64 :=
  (List.range 64).foldl (fun d i => d ||| ((Mem.byte m (a + i)).zeroExtend 512 <<< (8 * i))) 0

/-- The listed bytes of `[lo, lo + len)`. -/
def Mem.slice (m : List Host.Cell) (lo len : Nat) : List Host.Cell :=
  m.filter fun c => decide (lo ≤ c.1) && decide (c.1 < lo + len)

/-- Zero the bytes of `[lo, lo + len)`. -/
def Mem.clear (m : List Host.Cell) (lo len : Nat) : List Host.Cell :=
  m.filter fun c => !(decide (lo ≤ c.1) && decide (c.1 < lo + len))

/-- Store a piece's bytes over `[lo, lo + len)`; bytes the piece does not list become 0. -/
def Mem.replace (m : List Host.Cell) (lo len : Nat) (piece : List Host.Cell) : List Host.Cell :=
  piece.foldl (fun m c => Mem.put m c.1 c.2) (Mem.clear m lo len)

/-- The canonical form of some bytes. -/
def Mem.canon (m : List Host.Cell) : List Host.Cell := m.foldl (fun m c => Mem.put m c.1 c.2) []

/-- Canonical form of the flash copies' plaintexts. -/
def Flash.wf (f : Map Stored) : Bool := f.all fun e => Mem.wf e.2.cipher.plain

/-! ### Layout arithmetic (R76, R77, R81) -/

/-- Leaf map size in MiB: 8 B for each 64 KiB of raw capacity. -/
def Layout.leafMapMiB (l : Layout) : Nat := 12 * l.channelMiB * 128 / 1048576

/-- Carve per channel in MiB (R81). -/
def Layout.carveMiB (l : Layout) : Nat :=
  let dup := l.leafMapMiB + 64 + 128 + l.journalBytes / 1048576 + 16
  let single := 64 + l.mirrorBytes / 1048576
  256 * ceilDiv (2 * dup + single + 12) (12 * 256)

/-- 4 KiB blocks of a channel, which a proactive copy moves in turn (R136). -/
def Layout.copyBlocks (l : Layout) : Nat := l.channelMiB * 256

/-- 4 KiB blocks of a channel's carve, which lies at its top (R81). -/
def Layout.carveBlocks (l : Layout) : Nat := l.carveMiB * 256

/-- Host-visible capacity in bytes (R81); 0 while no DRAM has been found. -/
def Layout.hostVisible (l : Layout) : Nat :=
  if l.channelMiB = 0 then 0 else 12 * (l.channelMiB - l.carveMiB) * 1048576

/-- Cupboard space that no structure uses, in bytes (R81). -/
def Layout.headroom (l : Layout) : Nat :=
  if l.channelMiB = 0 then 0 else
    (12 * l.carveMiB - (2 * (l.leafMapMiB + 64 + 128 + l.journalBytes / 1048576 + 16) + 64
      + l.mirrorBytes / 1048576)) * 1048576

/-- Host-visible leaves (R81). -/
def Layout.leaves (l : Layout) : Nat := l.hostVisible / 65536

/-- Interleave grain in bytes (R77). -/
def Layout.grainBytes (l : Layout) : Nat :=
  match l.grain with
  | 0 => 256
  | 1 => 4096
  | _ => 65536

/-- Logical channel of a DPA (R77). -/
def Layout.logical (l : Layout) (dpa : Nat) : Nat :=
  let k := dpa / l.grainBytes
  4 * ((k / 4) % 3) + k % 4

/-- Channel offset of a DPA (R77). -/
def Layout.offset (l : Layout) (dpa : Nat) : Nat :=
  (dpa / l.grainBytes / 12) * l.grainBytes + dpa % l.grainBytes

/-- Bits of a channel offset that name the rank and the chip of a stack (Table 5.6). -/
def Layout.stackBits (l : Layout) : Nat := Nat.log2 l.ranks + Nat.log2 l.height

/-- Row of a channel offset (Table 5.6). -/
def Layout.rowOf (l : Layout) (offset : Nat) : Nat := offset / 2 ^ (19 + l.stackBits)

/-- Bank of a channel offset (Table 5.6, R110): bank group and bank, hashed as the layout says, in bits 4 to 0, and above them
the rank and chip, each of which has banks of its own. -/
def Layout.bankOf (l : Layout) (offset : Nat) : Nat :=
  let raw := offset / 2 ^ 14 % 32
  let row := l.rowOf offset
  let parity := fun (m : Nat) =>
    ((List.range 18).filter fun i => (row / 2 ^ i % 2 == 1) && (m / 2 ^ i % 2 == 1)).length % 2
  let hashed := if l.hashEnable then
      ((List.range 5).map fun i => 2 ^ i * ((raw / 2 ^ i + parity (l.hashMasks.get (i + 2) 0)) % 2)).foldl (· + ·) 0
    else raw
  hashed + 32 * (offset / 2 ^ 19 % 2 ^ l.stackBits)

/-- Rows of 8 KiB of a subchannel, over a channel of both subchannels, counted by channel offset: the row that holds an
offset. -/
def rowIndex (offset : Nat) : Nat := offset / 16384 * 2 + offset / 64 % 2

/-- Rows of a channel. -/
def Layout.rowCount (l : Layout) : Nat := l.channelMiB * 128

/-- Journal chunks of one copy (Table 8.8). -/
def Layout.chunks (l : Layout) : Nat := (l.journalBytes - 8388608 - 4096) / 4096

/-! ### The register file: stored dictionary entries -/

/-- Key of an entry in the register file. -/
def key (idx sub : Nat) : Nat := idx * 256 + sub

/-- Key of an entry that acts on a selected unit (R479). -/
def bkey (sel idx sub : Nat) : Nat := (sel + 1) * 16777216 + key idx sub

/-- Defaults that depend on the sub-index, the state or the image; `none` where Table rows give a constant. -/
def variableDefault (s : State) (sel idx sub : Nat) : Option Nat :=
  if idx = 0x2011 then some (if sub = 1 then s.layout.hostVisible / 268435456 * 268435456 else 0)
  else if idx = 0x2014 then some (if sub = 1 then 262144 else 0)
  else if 0x2200 ≤ idx ∧ idx ≤ 0x2203 then some (sub - 1)
  else if idx = 0x2405 then some (if sub = 13 then 12 else sub - 1)
  else if idx = 0x3000 then
    some (match sub with | 1 => 2000 | 2 => 4000 | 3 => 4000 | 4 => 20000 | 5 => 20000 | _ => 200000)
  else if 0x3400 ≤ idx ∧ idx ≤ 0x340C ∧ sub = 1 then some (if idx = 0x340C then 5 else 0)
  else if 0x7800 ≤ idx ∧ idx ≤ 0x7804 ∧ sub = 1 then some (if idx = 0x7804 then 3 else 0)
  else if idx = 0x7401 ∧ sub = 7 then some (if codeSeverity sel = 0 then 2 else 3)
  else if idx = 0x7810 ∧ sub = 2 then some (Config.image s.security.fwVersion idx sub sel % 16)
  else if idx = 0x7810 ∧ sub = 3 then some (Config.image s.security.fwVersion idx sub sel % 4)
  else if 0x7821 ≤ idx ∧ idx ≤ 0x7824 ∧ sub = 1 then some (Config.image s.security.fwVersion idx sub 0 % 16)
  else if 0x7830 ≤ idx ∧ idx ≤ 0x784F ∧ sub = 1 then some (Config.image s.security.fwVersion idx sub 0 % 16 + 1)
  else if 0x7830 ≤ idx ∧ idx ≤ 0x784F ∧ sub = 2 then some (Config.image s.security.fwVersion idx sub 0 % 10001)
  else if idx = 0x1000 ∧ 3 ≤ sub then some (Config.fused idx sub)
  else if idx = 0x1001 ∨ idx = 0x7413 ∨ (0x8404 ≤ idx ∧ idx ≤ 0x8407) ∨ idx = 0x8440 ∨ idx = 0x9001 then
    some (Config.fused idx sub)
  else none

/-- A value of `size` bytes as the register file keeps it: signed values in two's complement. -/
def encodeInt (size : Nat) (i : Int) : Nat := (i % ((2 ^ (8 * size) : Nat) : Int)).toNat

/-- The Default of an entry (R6). -/
def defaultValue (s : State) (sel idx sub : Nat) : Nat :=
  match variableDefault s sel idx sub with
  | some v => v
  | none =>
    match rowOf idx sub with
    | some r => encodeInt r.size r.dflt
    | none => 0

/-- The stored value of an entry, its Default where none is stored (R6). -/
def State.reg (s : State) (idx sub : Nat) : Nat :=
  match s.regs.find? (key idx sub) with
  | some v => v
  | none => defaultValue s 0 idx sub

/-- The stored value of an entry of a selected unit. -/
def State.breg (s : State) (sel idx sub : Nat) : Nat :=
  match s.regs.find? (bkey sel idx sub) with
  | some v => v
  | none => defaultValue s sel idx sub

/-- A signed 32-bit entry. -/
def State.ireg (s : State) (idx sub : Nat) : Int := ofS32 (s.reg idx sub)

/-- Store an entry. -/
def State.setReg (s : State) (idx sub v : Nat) : State := { s with regs := s.regs.put (key idx sub) v }

/-- Store an entry of a selected unit. -/
def State.setBreg (s : State) (sel idx sub v : Nat) : State :=
  { s with regs := s.regs.put (bkey sel idx sub) v }

/-- Size in bytes of an entry's value. -/
def entrySize (idx sub : Nat) : Nat := match rowOf idx sub with | some r => r.size | none => 8

/-- Add to a counter. What a counter reads once its count passes its width is not stated: a free value of that
width (log entry 5). -/
def State.addReg (s : State) (idx sub n : Nat) : State :=
  let v := s.reg idx sub + n
  let top := 2 ^ (8 * entrySize idx sub)
  { s with regs := s.regs.put (key idx sub) (if v < top then v else Config.free s.free % top),
           free := s.free + (if v < top then 0 else 1) }

/-- Raise a maximum. -/
def State.maxReg (s : State) (idx sub v : Nat) : State :=
  s.setReg idx sub (max (s.reg idx sub) (min v (2 ^ (8 * entrySize idx sub) - 1)))

/-- Draw a fresh free value. -/
def State.drawn (s : State) : State := { s with free := s.free + 1 }

/-! ### Outputs and links -/

/-- The outcome of a meaning. -/
abbrev Out := Host.Outcome State Fault Refusal

/-- The state as a command finds it: its own outputs start empty. -/
def State.fresh (s : State) : State := { s with out := [] }

/-- Send something out. -/
def State.emit (s : State) (o : Output) : State := { s with out := s.out ++ [o] }

/-- Send several things out, in order. -/
def State.emits (s : State) (os : List Output) : State := { s with out := s.out ++ os }

/-- The answer to an event whose condition does not hold: nothing changes (log entry 2). -/
def State.idle (s : State) : State := { s with out := [.notApplicable] }

/-- A host link. -/
def State.link (s : State) (i : Nat) : Link := s.links.get i Link.reset

/-- Change a host link. -/
def State.setLink (s : State) (i : Nat) (l : Link) : State := { s with links := s.links.put i l }

/-- Links formed by the head modes in force (R41). -/
def Layout.formed (l : Layout) (i : Nat) : Bool :=
  match i with
  | 0 => true
  | 1 => l.headA == 1
  | 2 => true
  | _ => l.headB == 1

/-- Whether a link is up: it carries CXL traffic in L0, L0p or L1. -/
def Link.up (l : Link) : Bool := l.state == .l0 || l.state == .l0p || l.state == .l1

/-- The four link numbers. -/
def linkNos : List Nat := [0, 1, 2, 3]

/-- The links that are up. -/
def State.upLinks (s : State) : List Nat := linkNos.filter fun i => (s.link i).up

/-- A link's ingress size in bytes (R51). -/
def State.ingressSize (s : State) (i : Nat) : Nat :=
  if (if i < 2 then s.layout.headA else s.layout.headB) = 0 then 4194304 else 2097152

/-- A link's egress size in bytes, half its ingress (R51). -/
def State.egressSize (s : State) (i : Nat) : Nat := s.ingressSize i / 2

/-- A link's Memory_Active bit: set while host access is open (R52; closing it with host access is DEDUCED, log entry 27). -/
def State.memoryActive (s : State) (i : Nat) : Bool := s.layout.formed i && s.ctl.access

/-- GPF DVSEC Phase 2 Duration as configuration space reports it, in ms (Table 3.2). -/
def gpfPhase2DurationMs : Nat := 2

/-- What a host port supports of its standards (R44, Table 3.2); those of them that act are commands of their own. -/
structure PortFeatures where
  cxlCache : Bool
  backInvalidate : Bool
  dynamicCapacity : Bool
  flitBytes : List Nat
  hdmDecoders : Nat
  mailboxBytes : Nat
  secondaryMailbox : Bool
  doeCdat : Bool
  doeSpdm : Bool
  gpf : Bool
  devLoad : Bool
  l0pWidths : List Nat
  ide : Bool
  tsp : Bool
  rates : List Nat
  sris : Bool
  commonClock : Bool
  laneMargining : Bool
  l1 : Bool
  l1_1 : Bool
  l1_2 : Bool
  aer : Bool
  flr : Bool
  deriving DecidableEq, Repr

/-- Table 3.2. -/
def portFeatures : PortFeatures :=
  { cxlCache := false, backInvalidate := false, dynamicCapacity := false, flitBytes := [256], hdmDecoders := 4,
    mailboxBytes := 4096, secondaryMailbox := false, doeCdat := true, doeSpdm := false, gpf := true, devLoad := true,
    l0pWidths := [16, 8, 4, 2], ide := false, tsp := false, rates := [32, 64, 128], sris := true, commonClock := true,
    laneMargining := true, l1 := true, l1_1 := true, l1_2 := false, aer := true, flr := true }

/-- Bytes a link holds in ingress: 64 for each write it holds (R51). -/
def State.occupancy (s : State) (i : Nat) : Nat :=
  64 * (s.ingress.writes.filter fun w => w.w.link.val == i).length

/-- Writes of a link under admission hold (Table 3.9). -/
def State.heldWrites (s : State) (i : Nat) : Nat :=
  (s.ingress.writes.filter fun w => w.w.link.val == i && w.wait == .admission).length

/-- Whether the thermal throttle holds ingress (Table 20.8, R470): THERMAL_THROTTLE stands, outside SAVE. -/
def State.throttled (s : State) : Bool :=
  (s.faults.get 10 FaultGroup.reset).live.getLsbD 15 && decide (s.ctl.mode ≠ .save)

/-- DevLoad of a link (Table 3.3, Table 20.8). -/
def State.devLoad (s : State) (i : Nat) : DevLoad :=
  let o := s.occupancy i
  let size := s.ingressSize i
  if s.throttled = true ∨ 0 < s.heldWrites i ∨ size * 90 < o * 100 then .severe
  else if size * 75 < o * 100 then .moderate
  else if size * 25 ≤ o * 100 then .optimal
  else .light

/-- A link's DPA range (R45). -/
def State.partBase (s : State) (i : Nat) : Nat := s.reg 0x2010 (i + 1)

/-- Size of a link's DPA range (R45). -/
def State.partSize (s : State) (i : Nat) : Nat := s.reg 0x2011 (i + 1)

/-- Whether a link's DPA range holds a DPA. -/
def State.inPartition (s : State) (i dpa : Nat) : Bool :=
  decide (s.partBase i ≤ dpa) && decide (dpa < s.partBase i + s.partSize i)

/-- Whether a link's Desk range holds a group (R45). -/
def State.inDesk (s : State) (i g : Nat) : Bool :=
  decide (s.reg 0x2013 (i + 1) ≤ g) && decide (g < s.reg 0x2013 (i + 1) + s.reg 0x2014 (i + 1))

/-- Whether a committed decoder of the link covers a DPA (R45, R49). -/
def Link.decodes (l : Link) (dpa : Nat) : Bool :=
  l.decoders.any fun d => decide (d.2.base ≤ dpa) && decide (dpa < d.2.base + d.2.size)

/-! ### Leaves -/

/-- State of a leaf (R146). -/
def LeafTable.get (t : LeafTable) (leaf : Nat) : LeafState := t.exc.get leaf t.base

/-- Change a leaf's state, listing only leaves that differ from the base. -/
def LeafTable.set (t : LeafTable) (leaf : Nat) (st : LeafState) : LeafTable :=
  if st = t.base then { t with exc := t.exc.del leaf } else { t with exc := t.exc.put leaf st }

/-- Leaves in a state, among `total`. -/
def LeafTable.count (t : LeafTable) (total : Nat) (st : LeafState) : Nat :=
  (t.exc.filter fun e => decide (e.2 = st)).length + (if t.base = st then total - t.exc.length else 0)

/-- The leaves listed in a state, ascending. -/
def LeafTable.listed (t : LeafTable) (st : LeafState) : List Nat :=
  (t.exc.filter fun e => decide (e.2 = st)).map (·.1)

/-- A leaf in a state, the lowest, if any among `total`. -/
def LeafTable.lowest (t : LeafTable) (total : Nat) (st : LeafState) : Option Nat :=
  if t.base = st then (List.range (t.exc.length + 1)).find? fun i => decide (i < total) && decide (t.get i = st)
  else (t.listed st).head?

/-- State of a leaf. -/
def State.leaf (s : State) (l : Nat) : LeafState := s.leaves.get l

/-- Leaves in a state, ascending. -/
def State.leavesIn (s : State) (st : LeafState) : List Nat :=
  if s.leaves.base = st then (List.range s.layout.leaves).filter fun f => decide (s.leaf f = st)
  else s.leaves.listed st

/-- A leaf is non-clean when it is DIRTY, COPYING or PINNED. -/
def LeafState.nonClean : LeafState → Bool
  | .dirty | .copying | .pinned => true
  | _ => false

/-- Code of a leaf state (Table 7.1). -/
def LeafState.code : LeafState → Nat
  | .clean => 0 | .dirty => 1 | .copying => 2 | .pinned => 3 | .unrestored => 4 | .lost => 5 | .restoring => 6

/-- Whether a state is ever recorded in the delta log (Table 7.5). -/
def LeafState.recorded : LeafState → Bool
  | .clean | .dirty | .pinned | .lost => true
  | _ => false

/-- When a leaf change is written to the delta log (Table 7.2). -/
inductive DeltaKind where
  | none | before | lazy
  deriving DecidableEq, Repr

/-- Record a leaf change in the delta log (R150), with the next sequence; a lazy change waits for its record. -/
def DeltaLog.note (d : DeltaLog) (k : DeltaKind) (leaf : Nat) (st : LeafState) (now : Nat) : DeltaLog :=
  match k with
  | .none => d
  | .before => { d with records := d.records ++ [{ seq := d.seq, leaf := leaf, state := st }], fill := d.fill + 1,
                        seq := d.seq + 1, lazy := d.lazy.filter fun e => e.1 != leaf }
  | .lazy => { d with lazy := (d.lazy.filter fun e => e.1 != leaf) ++ [(leaf, st, now)] }

/-- Change a leaf's state with its delta record (R147, R150). -/
def State.setLeaf (s : State) (leaf : Nat) (st : LeafState) (k : DeltaKind) : State :=
  { s with leaves := s.leaves.set leaf st, delta := s.delta.note k leaf st s.clock.beat }

/-! ### Poison marks: one per 64 B unit, with its source (R61) -/

/-- Unit of a DPA. -/
def unitOf (dpa : Nat) : Nat := dpa / 64

/-- A poison record: DPA, length in 64 B units, and source. -/
structure PoisonRec where
  dpa : Nat
  length : Nat
  source : PoisonSource
  deriving DecidableEq, Repr

/-- Adjacent LOST leaves merge into one record (R61). -/
def mergeLost (rs : List PoisonRec) (leaf : Nat) : List PoisonRec :=
  match rs.getLast? with
  | some r =>
    if r.dpa + 64 * r.length = leaf * 65536 then rs.dropLast ++ [{ r with length := r.length + 1024 }]
    else rs ++ [{ dpa := leaf * 65536, length := 1024, source := .internal }]
  | none => [{ dpa := leaf * 65536, length := 1024, source := .internal }]

/-- A marked unit is one record of length 1; the units of a channel-loss line are one record of length 4. -/
def markRec (rs : List PoisonRec) (e : Nat × PoisonSource) : List PoisonRec :=
  match e.2 with
  | .channelLoss =>
    let line := e.1 / 4
    if rs.any fun r => r.source == .channelLoss && r.dpa == line * 256 then rs
    else rs ++ [{ dpa := line * 256, length := 4, source := .channelLoss }]
  | src => rs ++ [{ dpa := e.1 * 64, length := 1, source := src }]

/-- Every poison record that the leaf states and the marks make (R61). -/
def State.poisonRecords (s : State) : List PoisonRec := (s.leavesIn .lost).foldl mergeLost [] ++ s.poison.foldl markRec []

/-- The poison list, at most 65,536 records (R61). -/
def State.poisonList (s : State) : List PoisonRec := s.poisonRecords.take 65536

/-- With the list full, the overflow flag and its time are set (R61); the time is device time (DESIGN CHOICE, log entry 173). -/
def State.notePoison (s : State) : State :=
  { s with poisonOverflow := if 65536 ≤ s.poisonRecords.length ∧ s.poisonOverflow = none then some s.clock.devNs
                             else s.poisonOverflow }

/-- Mark a unit poisoned (R61). -/
def State.markPoison (s : State) (unit : Nat) (src : PoisonSource) : State :=
  { s with poison := s.poison.put unit src }.notePoison

/-- Unmark a unit. -/
def State.unmarkPoison (s : State) (unit : Nat) : State := { s with poison := s.poison.del unit }

/-- The marks within `[lo, lo + len)` of DPA. -/
def State.poisonIn (s : State) (lo len : Nat) : Map PoisonSource :=
  s.poison.filter fun e => decide (lo ≤ e.1 * 64) && decide (e.1 * 64 < lo + len)

/-- Replace the marks within `[lo, lo + len)`. -/
def State.setPoisonIn (s : State) (lo len : Nat) (marks : Map PoisonSource) : State :=
  let rest := s.poison.filter fun e => !(decide (lo ≤ e.1 * 64) && decide (e.1 * 64 < lo + len))
  { s with poison := marks.foldl (fun p (e : Nat × PoisonSource) => Map.put p e.1 e.2) rest }.notePoison

/-! ### Windows (R83, R84) -/

/-- Whether a window is enabled and covers a DPA. -/
def State.windowHas (s : State) (w dpa : Nat) : Bool :=
  (s.reg (0x2500 + w) 3 % 2 == 1) && decide (s.reg (0x2500 + w) 1 ≤ dpa)
    && decide (dpa < s.reg (0x2500 + w) 1 + s.reg (0x2500 + w) 2)

/-- The window that covers a DPA. -/
def State.windowOf (s : State) (dpa : Nat) : Option Nat :=
  (List.range 64).find? fun w => s.windowHas w dpa

/-- Attribute word that governs a DPA; outside every window PLAIN with the default order and priority (R84). -/
def State.attrOf (s : State) (dpa : Nat) : Nat :=
  match s.windowOf dpa with
  | some w => s.reg (0x2500 + w) 3
  | none => 16 * s.reg 0x2421 0 + 256 * s.reg 0x2422 0

/-- ATOMIC of a DPA. -/
def State.atomicAt (s : State) (dpa : Nat) : Bool := bits (s.attrOf dpa) 1 1 == 1

/-- MIRROR of a DPA. -/
def State.mirrorAt (s : State) (dpa : Nat) : Bool := bits (s.attrOf dpa) 2 2 == 1

/-- Save order of a leaf. -/
def State.saveOrder (s : State) (leaf : Nat) : Nat := bits (s.attrOf (leaf * 65536)) 6 4

/-- Trickle priority of a leaf. -/
def State.tricklePriority (s : State) (leaf : Nat) : Nat := bits (s.attrOf (leaf * 65536)) 9 8

/-! ### Lines that await a search (R139) -/

/-- Units that await the search of a lost channel. -/
def State.awaitingUnits (s : State) : List Nat := s.dram.awaiting.flatMap (·.2)

/-- Whether a unit awaits a search. -/
def State.awaits (s : State) (unit : Nat) : Bool := s.dram.awaiting.any fun e => e.2.contains unit

/-- Whether a line of a leaf awaits a search. -/
def State.leafAwaits (s : State) (leaf : Nat) : Bool := s.dram.awaiting.any fun e => e.2.any fun u => u / 1024 == leaf

/-- A unit awaits no search any more (R140). -/
def State.unawait (s : State) (unit : Nat) : State :=
  { s with dram := { s.dram with awaiting := s.dram.awaiting.map fun e => (e.1, e.2.filter fun u => u != unit) } }

/-! ### Modes -/

/-- Code of a mode (Table 1.6). -/
def Mode.code : Mode → Nat
  | .dormant => 0 | .bringUp => 1 | .online => 2 | .drowse => 3 | .save => 4 | .restore => 5

/-- Change the mode, recording the extended beat (R330). -/
def State.setMode (s : State) (m : Mode) : State :=
  { s with ctl := { s.ctl with mode := m, prevMode := s.ctl.mode, modeBeat := s.clock.ext } }

end Sys2Proof.Machine
end

