-- ==== Sys2Proof/Machine/Operands.lean ====
section
/-! DEFINITION. How a command's operands are read: the DPA of a request (Tables 4.1 and 4.2), and a Desk
command's word and operand bytes (Tables 8.1 and 8.2). -/

namespace Sys2Proof.Machine

/-- First DPA of the Desk (R74). -/
def deskBase : Nat := 0x030000000000

/-- Where a DPA lies (Table 4.1). -/
inductive Region where
  | memory
  | desk (group : Nat)
  | unmapped
  deriving DecidableEq, Repr

/-- Region of a DPA. -/
def State.region (s : State) (dpa : Nat) : Region :=
  if dpa < s.layout.hostVisible then .memory
  else if deskBase ≤ dpa ∧ dpa < deskBase + 16777216 then .desk ((dpa - deskBase) / 64)
  else .unmapped

/-- Whether a link's CXL.mem request can reach a DPA: through one of its committed decoders, in its own
DPA range or in the Desk (R45, R49, R75). -/
def State.reaches (s : State) (link dpa : Nat) : Bool :=
  (s.link link).decodes dpa &&
    match s.region dpa with
    | .memory => s.inPartition link dpa
    | .desk _ => true
    | .unmapped => false

/-- Line index (Table 4.2). -/
def lineOf (dpa : Nat) : Nat := dpa / 256

/-- Page index. -/
def pageOf (dpa : Nat) : Nat := dpa / 4096

/-- Leaf index. -/
def leafOf (dpa : Nat) : Nat := dpa / 65536

/-- Bundle index of a leaf. -/
def bundleOf (leaf : Nat) : Nat := leaf / 64

/-- Line of its page, 0 to 15. -/
def lineInPage (dpa : Nat) : Nat := dpa / 256 % 16

/-- A write's address, aligned to its 64 B. -/
def alignUnit (dpa : Nat) : Nat := dpa / 64 * 64

/-! ### Desk command words -/

end Sys2Proof.Machine

namespace Sys2Proof

/-- Flag bit [8] of a command word; `word` is bits [63:8]. -/
def DeskArgs.flag (a : DeskArgs) : Bool := a.word.getLsbD 0

/-- Slot sequence, bits [31:16]. -/
def DeskArgs.seq (a : DeskArgs) : BitVec 16 := a.word.extractLsb' 8 16

/-- Command-specific bits [63:32]. -/
def DeskArgs.specific (a : DeskArgs) : BitVec 32 := a.word.extractLsb' 24 32

/-- Merge the enabled operand bytes into a stage (R175 step 1). -/
def DeskArgs.merge (a : DeskArgs) (stage : BitVec 448) : BitVec 448 :=
  (List.range 56).foldl
    (fun st i =>
      if a.enable.getLsbD i then
        (st &&& ~~~((0xFF : BitVec 448) <<< (8 * i))) ||| ((a.operands.extractLsb' (8 * i) 8).zeroExtend 448 <<< (8 * i))
      else st) stage

end Sys2Proof

namespace Sys2Proof.Machine

/-- Bytes `[lo, lo + n)` of a slot write, from the operands that a command took; byte 8 is stage byte 0. -/
def operandBytes (stage : BitVec 448) (lo n : Nat) : Nat := (stage.toNat / 256 ^ (lo - 8)) % 256 ^ n

/-- Start DPA of CLAIM and RELEASE, bits [11:0] ignored (Table 8.2). -/
def operandPage (stage : BitVec 448) : Nat := operandBytes stage 8 8 / 4096

/-- Roster entry `i` of BEGIN_JOINT, all 16 bits (Table 8.2). -/
def operandRoster (stage : BitVec 448) (i : Nat) : Nat := operandBytes stage (16 + 2 * i) 2

/-- Transaction ID of PREPARE (Table 8.2). -/
def operandTxn (stage : BitVec 448) : Nat := operandBytes stage 8 8

/-- Member that a transaction ID names as its anchor, bits [63:54] (R33). -/
def anchorOf (txn : Nat) : Nat := txn / 2 ^ 54 % 1024

/-- Lowest reserved bit set in a command word, as its position 0 to 63, for an opcode (R178 step 2). -/
def badField (opcode : Nat) (a : DeskArgs) : Option Nat :=
  let w := a.word.toNat * 256
  let allowFlag := opcode = 3 ∨ opcode = 8
  let high := if opcode = 2 ∨ opcode = 3 then 64 else if opcode = 6 then 37 else 32
  (List.range 64).find? fun i =>
    (w / 2 ^ i % 2 == 1) &&
      ((i == 8 && !decide allowFlag) || (decide (9 ≤ i) && decide (i ≤ 15)) || decide (high ≤ i))

end Sys2Proof.Machine
end

