-- ==== Sys2Proof/Machine/Flags.lean ====
section
/-! DEFINITION. Status words and computed quantities: the slot status (Table 8.3), heat words (Table 7.6), the
save cost and the dirty budget (R159 to R162), mirror lines (R169), the NAND reserve (R257), and the sleep,
fault and channel summaries that entries report. -/

namespace Sys2Proof.Machine

/-! ### Groups -/

/-- Code of a slot state (Table 8.3). -/
def SlotState.code : SlotState → Nat
  | .free => 0 | .opened => 1 | .prepared => 2 | .committed => 3 | .aborted => 4 | .inDoubt => 5

/-- A slot; a slot never used is FREE with sequence 0xFFFF (R177). -/
def State.slot (s : State) (g : Nat) : Slot := s.groups.slots.get g Slot.reset

/-- Change a slot. -/
def State.setSlot (s : State) (g : Nat) (x : Slot) : State :=
  { s with groups := { s.groups with slots := s.groups.slots.put g x } }

/-- Pages a group claims now (Table 8.3). -/
def State.pagesOf (s : State) (g : Nat) : List Nat :=
  (s.groups.claims.filter fun c => c.2.group == g).map (·.1)

/-- Flags byte of a slot status (Table 8.3). -/
def Slot.flags (x : Slot) : Nat :=
  x.running.toNat + 2 * x.anchor.toNat + 4 * x.part.toNat + 8 * x.jfull.toNat + 16 * x.restored.toNat
    + 32 * x.forced.toNat + 64 * x.journalWait.toNat

/-- The 32 status bytes of a slot that claims a number of pages, byte 0 least significant (Table 8.3). -/
def Slot.image (x : Slot) (pages : Nat) : Nat :=
  x.state.code + 2 ^ 8 * x.result + 2 ^ 16 * x.flags + 2 ^ 24 * x.lastOpcode + 2 ^ 32 * x.lastSeq.toNat
    + 2 ^ 64 * (x.lines % 2 ^ 32) + 2 ^ 96 * (x.discarded % 2 ^ 32) + 2 ^ 128 * x.txn
    + 2 ^ 192 * pages + 2 ^ 224 * (x.detail % 2 ^ 32)

/-- What a read of a slot returns (R179). -/
def State.slotStatus (s : State) (g : Nat) : Nat := (s.slot g).image (s.pagesOf g).length

/-- Bytes 0 to 75 of a decision table entry (Table 8.12); an unused entry reads 0. -/
def State.decisionEntry (s : State) (i : Nat) : Nat :=
  match s.groups.decisions.find? i with
  | none => 0
  | some d =>
    d.txn + 2 ^ 64 * d.state + 2 ^ 72 * d.roster.length + 2 ^ 80 * d.acked + 2 ^ 96 * d.slot
      + (((List.range 16).map fun k => 2 ^ (128 + 16 * k) * (d.roster[k]?).getD 0).foldl (· + ·) 0)
      + 2 ^ 384 * d.begunBeat.toNat + 2 ^ 448 * d.decidedBeat.toNat + 2 ^ 512 * d.sentBeat
      + 2 ^ 576 * d.presumed.toNat

/-- Journal entries of a group. -/
def State.entriesOf (s : State) (g : Nat) : List JEntry := s.groups.journal.filter fun e => e.group == g

/-- Chunks a group holds: one for each 15 entries (Table 8.9). -/
def State.chunksOf (s : State) (g : Nat) : Nat := ceilDiv (s.entriesOf g).length 15

/-- Groups that hold journal entries. -/
def State.journalGroups (s : State) : List Nat := (s.groups.journal.map (·.group)).eraseDups

/-- Free journal chunks (R187). -/
def State.chunksFree (s : State) : Nat :=
  s.layout.chunks - ((s.journalGroups.map s.chunksOf).foldl (· + ·) 0)

/-- Slots in a state among the 262,144 (Table 8.15). -/
def State.slotsIn (s : State) (st : SlotState) : Nat :=
  (s.groups.slots.filter fun e => decide (e.2.state = st)).length
    + (if st = .free then 262144 - s.groups.slots.length else 0)

/-! ### Save cost and budget -/

/-- Host-visible leaves in a state. -/
def State.leafCount (s : State) (st : LeafState) : Nat := s.leaves.count s.layout.leaves st

/-- N_dirty: non-clean leaves. -/
def State.nDirty (s : State) : Nat := s.leafCount .dirty + s.leafCount .copying + s.leafCount .pinned

/-- N_claimed: claimed pages of groups in any state. -/
def State.nClaimed (s : State) : Nat := s.groups.claims.length

/-- N_undo: undo-list entries not yet applied (R160). -/
def State.nUndo (s : State) : Nat := s.groups.undo.length

/-- Save cost (R159); the journal's live entries are those of its groups and of the undo list (R272). -/
def State.saveBytes (s : State) : Nat :=
  65536 * s.nDirty + 272 * (s.groups.journal.length + s.groups.undo.length) + (26214400 + 8 * s.nDirty + 16 * s.nClaimed)

/-- Charged save cost C (R160). -/
def State.charged (s : State) : Nat := 65544 * s.nDirty + 4368 * s.nClaimed + 272 * s.nUndo + 26214400

/-- Pinned cost P (R160). -/
def State.pinnedCost (s : State) : Nat := 65544 * s.leafCount .pinned + 4368 * s.nClaimed

/-- Hold headroom H (R162). -/
def headroomH : Nat := 8590983168

/-- Energy left after the reserve, in mJ (R161). -/
def eAvail (eUsable reservePct : Nat) : Nat := eUsable * (100 - reservePct) / 100

/-- b_e in bytes (R161). -/
def budgetBytes (eUsable reservePct eFixed eByte : Nat) : Nat :=
  if eFixed < eAvail eUsable reservePct then (eAvail eUsable reservePct - eFixed) * 1000000000 / eByte else 0

/-- dirty_budget (R161). -/
def dirtyBudget (ceiling be : Nat) : Nat := min ceiling be

/-- dirty_budget_bytes in force. -/
def State.budget (s : State) : Nat := s.reg 0x4010 0

/-! ### Mirror lines (R169) -/

/-- Mirror lines that a leaf reserves on logical channel `d`. -/
def Layout.mirrorNeed (l : Layout) (leaf d : Nat) : Nat :=
  ((List.range 256).filter fun i => (l.logical (leaf * 65536 + 256 * i) + 6) % 12 == d).length

/-- Mirror lines free on logical channel `d`. -/
def State.mirrorFree (s : State) (d : Nat) : Nat :=
  s.layout.mirrorBytes / 3072 - ((s.mirrorCopied.map fun f => s.layout.mirrorNeed f d).foldl (· + ·) 0)

/-- Whether every logical channel has the mirror lines a leaf needs. -/
def State.mirrorRoom (s : State) (leaf : Nat) : Bool :=
  s.mirrorCopied.contains leaf ||
    (List.range 12).all fun d => decide (s.layout.mirrorNeed leaf d ≤ s.mirrorFree d)

/-- Whether the mirror lines of several leaves fit together (R166, R169). -/
def State.mirrorFits (s : State) (leaves : List Nat) : Bool :=
  let new := leaves.filter fun l => s.mirrorAt (l * 65536) && !s.mirrorCopied.contains l
  (List.range 12).all fun d => decide ((new.map fun l => s.layout.mirrorNeed l d).foldl (· + ·) 0 ≤ s.mirrorFree d)

/-! ### Rebuild after a channel loss (R138) -/

/-- Whether a leaf has lines on a logical channel at or above a 4 KiB block of the channel. -/
def Layout.onChannel (l : Layout) (leaf d ptr : Nat) : Bool :=
  (List.range 256).any fun i =>
    l.logical (leaf * 65536 + 256 * i) == d && decide (ptr ≤ l.offset (leaf * 65536 + 256 * i) / 4096)

/-- Host-visible leaves with lines on a logical channel at or above a block (R77): from the leaf of the first such grain on,
all of them, or with a grain of 64 KiB those that lie on the channel. -/
def Layout.leavesOn (l : Layout) (d ptr : Nat) : Nat :=
  let first := (12 * (ptr * 4096 / l.grainBytes) + d) * l.grainBytes / 65536
  if l.grain = 2 then ceilDiv (l.leaves - first) 12 else l.leaves - first

/-- Leaf states whose lines are rebuilt (Table 6.4). -/
def LeafState.rebuilds : LeafState → Bool
  | .clean | .dirty | .copying | .pinned => true
  | _ => false

/-- Whether a leaf's lines on the lost channel are still to be rebuilt (R138 step 4). -/
def State.toRebuild (s : State) (leaf : Nat) : Bool :=
  match s.dram.lostLogical with
  | some d => s.reg 0x3450 0 == 2 && decide (leaf < s.layout.leaves) && (s.dram.rebuildFrom.get leaf).rebuilds &&
      s.layout.onChannel leaf d s.dram.copyPtr && !s.dram.rebuilt.contains leaf
  | none => false

/-- rebuild_leaves_left (R138): leaves whose lines on the lost channel are still to be rebuilt. -/
def State.rebuildLeavesLeft (s : State) : Nat :=
  match s.dram.lostLogical with
  | some d =>
    let t := s.dram.rebuildFrom
    let here := t.exc.filter fun e => s.layout.onChannel e.1 d s.dram.copyPtr
    let listed := (here.filter fun e => e.2.rebuilds).length
    let rest := if t.base.rebuilds then s.layout.leavesOn d s.dram.copyPtr - here.length else 0
    if s.reg 0x3450 0 = 2 then listed + rest - s.dram.rebuilt.length else 0
  | none => 0

/-- copy_progress_pct (R136). -/
def State.copyProgress (s : State) : Nat :=
  if s.reg 0x3450 0 = 1 ∧ 0 < s.layout.copyBlocks then s.dram.copyPtr * 100 / s.layout.copyBlocks else 0

/-! ### The NAND store's reserve (R257) -/

/-- Rows per segment of the fitted NAND. -/
def State.rowsPerSegment (s : State) : Nat := s.reg 0x5002 3

/-- Image LUNs per channel: one open data segment stands on each (R248). -/
def State.nandLuns (s : State) : Nat := s.reg 0x5002 1 * s.reg 0x5002 2

/-- The LUN that stands for a LUN index on a channel: its own, the spare target's one once the failed LUN is rebound to it, or none
(R261, R262). LUNs of the spare target are numbered after the image LUNs. -/
def State.physLun (s : State) (c l : Nat) : Option Nat :=
  if s.nand.channelsFailed.contains c then none
  else if s.nand.lunsFailed.get c 0 / 2 ^ l % 2 = 0 then some l
  else s.nand.rebound.find? (32 * c + l)

/-- Number of an erase unit in the wear table. -/
def unitKey (c lun unit : Nat) : Nat := 2 ^ 24 * c + 2 ^ 16 * lun + unit

/-- Whether an erase unit lies on a LUN of a channel. -/
def onLun (c lun k : Nat) : Bool := k / 2 ^ 16 == 256 * c + lun

/-- An erase unit of the wear table. -/
def State.eraseUnit (s : State) (k : Nat) : EraseUnit := s.nand.units.get k { cycles := 0, state := 0 }

/-- Whether an erase unit may hold a segment: no block of it is bad, and it is no root erase unit. -/
def State.unitGood (s : State) (k : Nat) : Bool := !s.nand.bad.contains k && !s.nand.roots.contains k

/-- Free erase units of a LUN. -/
def State.freeUnits (s : State) (c lun : Nat) : Nat :=
  s.nand.unitsPerLun - ((s.nand.bad ++ s.nand.roots).eraseDups.filter (onLun c lun)).length -
    (s.nand.units.filter fun e => onLun c lun e.1 && e.2.state != 0 && s.unitGood e.1).length

/-- The channels on which a segment of a LUN index has an erase unit, with the LUN there. -/
def State.segmentLuns (s : State) (l : Nat) : List (Nat × Nat) :=
  (List.range 18).filterMap fun c => (s.physLun c l).map fun p => (c, p)

/-- Segments that may still be opened on a LUN index: as many as each of its channels has free erase units, and none on fewer
than 16 channels (R247, R262). -/
def State.freeSegmentsOn (s : State) (l : Nat) : Nat :=
  let fs := (s.segmentLuns l).map fun e => s.freeUnits e.1 e.2
  if fs.length < 16 then 0 else fs.foldl min (fs.headD 0)

/-- segments_free (R256). -/
def State.segmentsFree (s : State) : Nat := ((List.range s.nandLuns).map s.freeSegmentsOn).sum

/-- Rows left in open data segments. -/
def State.openRows (s : State) : Nat :=
  (s.nand.openData.map fun e =>
    s.rowsPerSegment - (match s.nand.segments.find? e.2 with | some g => g.rows | none => 0)).foldl (· + ·) 0

/-- free_rows (R257). -/
def State.freeRows (s : State) : Nat := s.openRows + s.segmentsFree * s.rowsPerSegment

/-- need_rows for a charged cost and a count of non-clean leaves (R257). -/
def State.needRows (s : State) (c n : Nat) : Nat :=
  ceilDiv c 1048576 + s.nand.openData.length + ceilDiv (26214400 + 8 * n) 1048576

/-! ### Heat (R153, R154) -/

/-- Milliseconds of device time. -/
def State.nowMs (s : State) : Nat := s.clock.devNs / 1000000

/-- Heat word of a bundle (Table 7.6). -/
def State.heatOf (s : State) (b : Nat) : Heat := s.heat.get b s.heatBase

/-- Heat word as bits. -/
def Heat.word (h : Heat) : Nat := h.old.toNat * 2 ^ 31 + h.last % 32768 * 65536 + h.heat

/-- Whether a leaf is quiet (R154); an OLD bundle's age is the greatest 32-bit value. -/
def State.quiet (s : State) (leaf : Nat) : Bool :=
  let h := s.heatOf (bundleOf leaf)
  let age := if h.old then 4294967295 else (s.nowMs + 32768 - h.last % 32768) % 32768
  decide (s.reg 0x4030 0 ≤ age * 100)

/-! ### Sleep and security -/

/-- sleep_state (Table 13.9). -/
def State.sleepState (s : State) : Nat :=
  if s.ctl.mode = .drowse then (if s.ctl.waking then 3 else 2)
  else if s.ctl.consents ≠ 0 then 1 else 0

/-- security_state bits (Table 3.9). -/
def State.securityWord (s : State) : Nat :=
  s.security.userPass.isSome.toNat + 2 * s.security.locked.toNat + 4 * s.security.frozen.toNat
    + 8 * (decide (5 ≤ s.security.attempts)).toNat

/-! ### Fault groups (Table 15.2) -/

/-- A block's fault group. -/
def State.faultGroup (s : State) (b : Nat) : FaultGroup := s.faults.get b FaultGroup.reset

/-- ff_flags. -/
def FaultGroup.flags (g : FaultGroup) : Nat :=
  g.valid.toNat + 2 * g.inj.toNat + 4 * g.overflow.toNat + 8 * g.injSeen.toNat

/-- Whether ERR_N is driven low: some sticky bit is set and not masked, CHEST_RING_FAILED's mask bit being
ignored (R374, R385). -/
def State.errN (s : State) : Bool :=
  s.faults.any fun e =>
    let mask := BitVec.ofNat 32 (s.reg (0x7000 + e.1) 3)
    let mask := if e.1 = 11 then mask &&& ~~~1#32 else mask
    decide (e.2.sticky &&& ~~~mask ≠ 0)

end Sys2Proof.Machine
end

