-- ==== Sys2Proof/Machine/Views.lean ====
section
/-! DEFINITION. What entries that report other state read (R350, R384, R479): summaries over the state, and `State.value`, the
value of every entry as a read finds it. -/

namespace Sys2Proof.Machine

/-- Places a record takes: itself and its continuations (R377). -/
def ChestRec.places (r : ChestRec) : Nat := 1 + ceilDiv (r.values.length - 6) 16

/-- CRC-32C of a list of bytes: the reflected polynomial 0x82F63B78, begun and ended with all ones (log entry 17). -/
def crc32c (bytes : List Nat) : Nat :=
  let step := fun (c : BitVec 32) (_ : Nat) => if c.getLsbD 0 then (c >>> 1) ^^^ 0x82F63B78#32 else c >>> 1
  let out := bytes.foldl (fun (c : BitVec 32) b => (List.range 8).foldl step (c ^^^ BitVec.ofNat 32 b)) 0xFFFFFFFF#32
  (out ^^^ 0xFFFFFFFF#32).toNat

/-- `n` bytes of a number, the lowest first. -/
def bytesOf (n v : Nat) : List Nat := (List.range n).map fun i => v / 256 ^ i % 256

/-- The number that some 32-bit words make, the lowest first. -/
def wordsNat (ws : List Nat) : Nat := ws.foldr (fun w a => w % 2 ^ 32 + 2 ^ 32 * a) 0

/-- Continuation records of a record (R377). -/
def ChestRec.continuations (r : ChestRec) : Nat := ceilDiv (r.values.length - 6) 16

/-- Bytes 0 to 59 of a record (Table 15.3). -/
def ChestRec.body (r : ChestRec) : Nat :=
  let k := r.continuations
  r.seq + 2 ^ 64 * r.devNs + 2 ^ 128 * s64 r.wallNs + 2 ^ 192 * r.code + 2 ^ 208 * (r.code / 32 + 64 * r.severity)
    + 2 ^ 216 * (r.inj.toNat + 2 * r.clockUnset.toNat + 4 * r.fallback.toNat + 8 * (decide (0 < k)).toNat + 16 * k)
    + 2 ^ 224 * r.beat.toNat + 2 ^ 256 * (r.suppressed % 2 ^ 32) + 2 ^ 288 * wordsNat (r.values.take 6)

/-- The continuation records of a record, 64 B each (R377). -/
def ChestRec.tail (r : ChestRec) : List Nat :=
  (List.range r.continuations).map fun k => wordsNat ((r.values.drop (6 + 16 * k)).take 16)

/-- The 64 B base record with its CRC over itself and its continuations, and the continuations (Table 15.3, R377). -/
def ChestRec.image (r : ChestRec) : List Nat :=
  (r.body + 2 ^ 480 * crc32c (bytesOf 60 r.body ++ r.tail.flatMap (bytesOf 64))) :: r.tail

/-- Whether any write is under admission hold. -/
def State.holding (s : State) : Bool := s.ingress.writes.any fun w => w.wait == .admission

/-- Conditions of R163 that fail for an addition `dc` to C that makes `n` more leaves non-clean, as `hold_cause`
bits: BUDGET, MIRROR_FULL, NAND_RESERVE, LOG_FULL. `leaves` are those leaves. -/
def State.holdCause (s : State) (dc : Nat) (leaves : List Nat) : Nat :=
  let budget := decide (s.budget < s.charged + dc + headroomH)
  let mirror := !s.mirrorFits leaves
  let reserve := s.nand.unavailable || decide (s.freeRows < s.needRows (s.charged + dc) (s.nDirty + leaves.length))
  let log := decide (3670016 ≤ s.delta.records.length)
  budget.toNat + 2 * mirror.toNat + 4 * reserve.toNat + 8 * log.toNat

/-- Conditions failing for a first write to a leaf (R163). -/
def State.firstWriteCause (s : State) (leaf : Nat) : Nat := s.holdCause 65544 [leaf]

/-- Entry of the budget state as an entry reads it: OVER_BUDGET takes precedence over HOLDING (R165, R167). -/
def State.budgetState (s : State) : Nat := if s.trickle.overBudget then 2 else if s.holding then 1 else 0

/-- Causes that hold the writes now waiting (R165). -/
def State.standingCause (s : State) : Nat :=
  (s.ingress.writes.filter fun w => w.wait == .admission).foldl
    (fun c w => c ||| s.firstWriteCause (leafOf w.w.dpa)) 0

/-- Own member ID. -/
def State.member (s : State) : Nat := s.reg 0x4800 2

/-- Whether the domain roster names a member. -/
def State.rosterHas (s : State) (m : Nat) : Bool := s.reg 0x4801 0 / 2 ^ m % 2 == 1

/-- Whether this member belongs to a domain (R232). -/
def State.inDomain (s : State) : Bool :=
  decide (s.reg 0x4800 1 ≠ 0) && decide (s.member < 1024) && s.rosterHas s.member

/-- Own ALIVE bit (R209). -/
def State.ownAlive (s : State) : Bool :=
  s.trestle.loaded && !s.trestle.duplicate && (s.ctl.mode == .bringUp || s.ctl.mode == .online || s.ctl.mode == .restore)

/-- A Trestle port. -/
def State.port (s : State) (p : Nat) : Port := s.trestle.ports.get p Port.reset

/-- Whether a roll-call word is fresh in a frame (R210). -/
def wordFresh (word : Nat) (wire : BitVec 32) : Bool :=
  decide ((wire.toNat % 256 + 256 - word / 256 % 256) % 256 < 16)

/-- Whether a member is alive in this member's roll call (R210). -/
def State.alive (s : State) (m : Nat) : Bool :=
  match s.trestle.roll.find? m with
  | none => false
  | some w => (w % 2 == 1) && wordFresh w s.trestle.rollWire

/-- Members alive in the roll call, ascending. -/
def State.aliveList (s : State) : List Nat := (s.trestle.roll.map (·.1)).filter fun m => s.alive m

/-- A port in ring service. -/
def State.inService (s : State) (p : Nat) : Bool := decide ((s.port p).state = .inService)

/-- Whether a hello agrees on domain and generation (R203); a partner without a domain never does. -/
def State.helloAgrees (s : State) (h : Hello) : Bool :=
  decide (h.domain ≠ 0) && decide (h.domain = s.reg 0x4800 1) && decide (h.generation = s.reg 0x4800 3)

/-- Members alive, at least 1 (R218). -/
def State.membersN (s : State) : Nat := max 1 s.aliveList.length

/-- A segment of the table. -/
def State.segment (s : State) (n : Nat) : Segment :=
  s.nand.segments.get n { state := 0, openNo := 0, valid := 0, rows := 0, lun := 0, units := [] }

/-- Whether a segment is one that a rebuild has to empty (R261, R262): opened before the failure, with an erase unit on the failed
channel (576 + channel) or LUN (32 × channel + index). -/
def State.rebuilds (s : State) (r : Nat × Nat) (seg : Nat) : Bool :=
  let g := s.segment seg
  decide (g.openNo < r.2) && (if 576 ≤ r.1 then (g.units.find? (r.1 - 576)).isSome
    else g.lun == r.1 % 32 && (g.units.find? (r.1 / 32)).isSome)

/-- Valid stripes that a rebuild has still to relocate. -/
def State.rebuildLeft (s : State) (r : Nat × Nat) : Nat := (s.nand.copies.filter fun e => s.rebuilds r e.2.segment).length

/-- Roles that a pair carries, as bits. -/
def State.pairRoles (s : State) (k : Nat) : Nat := s.bureau.roles.get k 0

/-- State of a pair as it is kept: 0 RUNNING, 2 FAILED, 3 SPARE. -/
def State.pairState (s : State) (k : Nat) : Nat := s.reg (0x7800 + k) 1

/-- The five pairs. -/
def pairNos : List Nat := [0, 1, 2, 3, 4]

/-- The roles as bits of a mask. -/
def rolesOf (mask : Nat) : List Nat := ([0, 1, 2, 3] : List Nat).filter fun c => mask / 2 ^ c % 2 == 1

/-- The pair that carries a role. -/
def State.pairOf (s : State) (role : Nat) : Option Nat :=
  pairNos.find? fun k => (s.pairRoles k / 2 ^ role % 2 == 1) && s.pairState k != 2

/-- Roles for which the pair of a role claims: those it carries, and in DROWSE every role for the PRIMARY pair (R390, R398). -/
def State.claimRoles (s : State) (role : Nat) : List Nat :=
  match s.pairOf role with
  | none => []
  | some k =>
    if s.ctl.workersHalted then (if s.pairRoles k % 2 = 1 then [0, 1, 2, 3] else []) else rolesOf (s.pairRoles k)

/-- Sources whose level is always 0 (Table 16.3). -/
def irqReserved (n : Nat) : Bool := (decide (103 ≤ n) && decide (n ≤ 127)) || decide (256 ≤ n)

/-- Sources whose level is a condition that the state holds (Table 16.3): fault groups, PF_WARN_N, the store alarm, and a health test
or a rehearsal that is due. -/
def irqDerived (n : Nat) : Bool := decide (n < 17) || [48, 49, 53, 54].contains n

/-- Level of a source: that of its condition where the state holds it; the others keep what was raised. -/
def State.irqLevel (s : State) (n : Nat) : Bool :=
  if n < 17 then decide ((s.faultGroup n).sticky ≠ 0)
  else if n = 48 then s.niura.pfWarn
  else if n = 49 then decide (s.reg 0x6080 0 ≠ 0)
  else if n = 53 then s.niura.healthDue
  else if n = 54 then s.trickle.rehearsal == .due
  else s.bureau.level.contains n

/-- Priority of a source. -/
def State.irqPriority (s : State) (n : Nat) : Nat := s.breg n 0x7810 2

/-- Role of a source. -/
def State.irqRole (s : State) (n : Nat) : Nat := s.breg n 0x7810 3

/-- Whether a source is pending. -/
def State.irqPending (s : State) (n : Nat) : Bool :=
  s.irqLevel n && decide (s.irqPriority n ≠ 0) && (s.bureau.active.find? n).isNone

/-- A source's level rises (R396): one that the state does not derive keeps it, and it waits from now unless it was pending. -/
def State.raiseSource (s : State) (n : Nat) : State :=
  { s with bureau := { s.bureau with
    level := if irqDerived n ∨ s.bureau.level.contains n then s.bureau.level else s.bureau.level ++ [n],
    since := if s.irqPending n then s.bureau.since else s.bureau.since.put n s.clock.beat } }

/-- Sources whose level may be high. -/
def State.irqSources (s : State) : List Nat := List.range 17 ++ [48, 49, 53, 54] ++ s.bureau.level

/-- Whether the pair of a role is idle: it runs the role, and no source is active for a role that it carries (R397). -/
def State.roleIdle (s : State) (c : Nat) : Bool :=
  (s.bureau.takeover.find? c).isNone && !(s.bureau.active.any fun e => e.2 == c ||
    (if s.ctl.workersHalted then [0, 1, 2, 3] else s.claimRoles c).contains e.2)

/-- A bank. -/
def State.bank (s : State) (b : Nat) : Bank := s.eflash.banks.get b Bank.reset

/-- An image slot. -/
def State.slotOf (s : State) (b : Nat) : ImageSlot := s.security.slots.get b ImageSlot.reset

/-- Whether a bank is the active one: its slot is TRIAL or ACTIVE (R428). -/
def State.bankActive (s : State) (b : Nat) : Bool := (s.slotOf b).state == 4 || (s.slotOf b).state == 5

/-- Whether an operation is an erase. -/
def FlashOp.isErase : FlashOp → Bool
  | .program _ => false
  | _ => true

/-- Status word (Table 17.4). -/
def Bank.status (x : Bank) : BitVec 32 :=
  BitVec.ofNat 32 (x.op.isSome.toNat
    + 2 * (match x.suspended with | some o => o.isErase | none => false).toNat
    + 4 * (match x.suspended with | some o => !o.isErase | none => false).toNat
    + 8 * (x.op.isSome && x.nested).toNat + 65536 * (x.lastSector % 4096)) ||| x.sticky

/-- The tiers in the order in which copies are preferred; tier 0 is ANY. -/
def State.tiers (s : State) (tier : Nat) : List (List ChestRec) :=
  match tier with
  | 1 => [s.chest.ring]
  | 2 => [s.chest.cupboard]
  | 3 => [s.chest.eflash.map (·.2)]
  | 4 => [s.chest.lastGasp]
  | _ => [s.chest.lastGasp, s.chest.ring, s.chest.cupboard, s.chest.eflash.map (·.2)]

/-- The record with the lowest sequence at or above a mark, the earliest tier first, among those that are not torn. -/
def lowestRecord (mark : Nat) (rs : List ChestRec) : Option ChestRec :=
  rs.foldl (fun best r =>
    if r.seq < mark ∨ r.torn then best
    else match best with
      | none => some r
      | some b => if r.seq < b.seq then some r else some b) none

/-- UNRESTORED and RESTORING leaves. -/
def State.unrestored (s : State) : Nat := s.leafCount .unrestored + s.leafCount .restoring

/-- Whether a layout change is pending (R82). -/
def State.layoutPending (s : State) : Bool :=
  decide (s.layout.grain ≠ s.reg 0x2400 1 ∨ s.layout.journalBytes ≠ s.reg 0x2410 0 ∨ s.layout.mirrorBytes ≠ s.reg 0x2411 0)

/-! ### Codes of enumerations -/

/-- Code of a link state (Table 3.9). -/
def LinkState.code : LinkState → Nat
  | .down => 0 | .training => 1 | .l0 => 2 | .l0p => 3 | .l1 => 4 | .disabling => 5 | .pendingStart => 6

/-- Code of a Trestle link state (Table 9.2). -/
def PortState.code : PortState → Nat
  | .down => 0 | .training => 1 | .up => 2 | .inService => 3 | .fault => 4 | .disabling => 5 | .pendingStart => 6

/-- Code of a save state (Table 11.2). -/
def SaveState.code : SaveState → Nat
  | .idle => 0 | .arming => 1 | .closing => 2 | .draining => 3 | .groupSet => 4 | .leaves => 5 | .deltas => 6
  | .sealing => 7 | .sealed => 8

/-- Code of a supply state (Table 12.2). -/
def Supply.code : Supply → Nat
  | .input => 0 | .holdup => 1 | .rehearse => 2 | .test => 3 | .cutoff => 4

/-- Code of a charger state (Table 12.4). -/
def Charger.code : Charger → Nat
  | .off => 0 | .precharge => 1 | .cc => 2 | .cv => 3 | .full => 4 | .paused => 5 | .fault => 6

/-- Leaf state of a code (Table 7.1). -/
def leafStateOf : Nat → LeafState
  | 0 => .clean | 1 => .dirty | 2 => .copying | 3 => .pinned | 4 => .unrestored | 5 => .lost | _ => .restoring

/-- Slot state of a code (Table 8.3). -/
def slotStateOf : Nat → SlotState
  | 0 => .free | 1 => .opened | 2 => .prepared | 3 => .committed | 4 => .aborted | _ => .inDoubt

/-- A text as a value, byte 0 least significant (R348). -/
def textNat (t : String) : Nat := t.toList.foldr (fun c a => c.toNat + 256 * a) 0

/-! ### Summaries -/

/-- rehearsal_state (Table 7.9). -/
def State.rehearsalCode (s : State) : Nat :=
  match s.trickle.rehearsal with
  | .none => 0
  | .due => if s.trickle.overdue then 3 else 1
  | _ => 2

/-- Mirror bytes in use: the lines reserved, 256 B each (R169, R170). -/
def State.mirrorInUse (s : State) : Nat :=
  256 * ((List.range 12).map fun d => s.layout.mirrorBytes / 3072 - s.mirrorFree d).foldl (· + ·) 0

/-- domain_state (Table 9.11): MISMATCH while a port is held by a hello that disagrees (R203), JOINED with a port in service. -/
def State.domainState (s : State) : Nat :=
  let bad := fun p => decide ((s.port p).state = .fault) &&
    (match (s.port p).hello with | some h => !s.helloAgrees h | none => false)
  if s.trestle.duplicate then 4
  else if s.inDomain = false then 0
  else if bad 0 || bad 1 then 3
  else if s.inService 0 || s.inService 1 then 2
  else 1

/-- rebuild_state (Table 10.6). -/
def State.rebuildCode (s : State) : Nat :=
  match s.nand.rebuild with
  | [] => 0
  | r :: _ => if s.nand.rebuildPaused then 3 else if 576 ≤ r.1 then 2 else 1

/-- nand_channel_state (Table 10.6). -/
def State.nandChannelCode (s : State) (c : Nat) : Nat :=
  if s.nand.channelsFailed.contains c then 3
  else if s.nand.rebuild.any (fun r => decide (r.1 < 576) && r.1 / 32 == c) then 1
  else if s.nand.spareUsed.any (fun k => k / 32 == c) then 2
  else 0

/-- string_state (Table 12.10). -/
def State.stringCode (s : State) (k : Nat) : Nat :=
  if s.reg 0x6000 3 ≤ k then 0 else if s.niura.switchedOut.contains k then 2 else 1

/-- thermal_state (Table 20.11): the highest threshold that stands. -/
def State.thermalCode (s : State) : Nat :=
  let g := (s.faultGroup 10).live
  if g.getLsbD 16 then 3 else if g.getLsbD 15 then 2 else if g.getLsbD 14 then 1 else 0

/-- pair_state: the worker pairs are HALTED in DROWSE (R333). -/
def State.pairCode (s : State) (k : Nat) : Nat :=
  let st := s.reg (0x7800 + k) 1
  if st = 0 ∧ s.ctl.workersHalted = true ∧ s.pairRoles k % 2 = 0 then 1 else st

/-- bank_role (Table 17.7). -/
def State.bankRole (s : State) (b : Nat) : Nat :=
  if s.bankActive b then 2 else if (s.slotOf b).state = 0 then 0 else 1

/-- The record that a read of `read_record` returns, and those passed over as torn (R384). -/
def State.recordAt (s : State) : Option ChestRec × List Nat :=
  let mark := s.reg 0x7430 1
  let all := (s.tiers (s.reg 0x7430 2)).flatten
  let found := lowestRecord mark all
  let top := match found with | some r => r.seq | none => 2 ^ 64
  (found, ((all.filter fun r => r.torn && decide (mark ≤ r.seq) && decide (r.seq < top)).map (·.seq)).eraseDups)

/-- The 256 B value of a record with its continuations. -/
def recordValue (r : ChestRec) : Nat :=
  ((List.range r.image.length).zip r.image).foldl (fun a e => a + e.2 * 2 ^ (512 * e.1)) 0

/-- The number of places that records take in a tier. -/
def placesOf (rs : List ChestRec) : Nat := (rs.map ChestRec.places).foldl (· + ·) 0

/-! ### Views, by index range -/

/-- The unit that an entry of a selected unit acts on: its select entry (R479), and the entry's sub-index. -/
def State.selection (s : State) (idx sub : Nat) : Option Nat :=
  if sub ≤ 1 then none
  else if idx = 0x7401 ∧ 4 ≤ sub ∧ sub ≤ 7 then some (s.reg idx 1)
  else if idx = 0x7402 then some (s.reg idx 1)
  else if idx = 0x7810 ∧ sub ≤ 3 then some (s.reg idx 1)
  else if idx = 0x9010 ∨ idx = 0x9020 then some (s.reg idx 1)
  else none

/-- The stored value of an entry, by its selection where it has one. -/
def State.stored (s : State) (idx sub : Nat) : Nat :=
  match s.selection idx sub with
  | some k => s.breg k idx sub
  | none => s.reg idx sub

/-- Views of 0x1000 to 0x24FF. -/
def State.view1 (s : State) (idx sub : Nat) : Option Nat :=
  match idx, sub with
  | 0x1000, 1 => some (textNat "Tvedsia")
  | 0x1000, 2 => some (textNat "W9620")
  | 0x1100, 0 => some s.ctl.mode.code
  | 0x1100, 1 => some s.ctl.modeBeat.toNat
  | 0x1100, 2 => some s.ctl.prevMode.code
  | 0x1103, 0 => some s.ctl.coldPending.isSome.toNat
  | 0x1110, 0 => some s.sleepState
  | 0x1110, 1 => some s.ctl.consents.toNat
  | 0x1122, 3 => some (s.ctl.blockBusy.get (s.reg 0x1122 1) 0)
  | 0x1200, 1 => some (s.clock.devNs % 2 ^ 64)
  | 0x1200, 2 => some (if s.clock.wallSet then s64 s.clock.wallNs else 0)
  | 0x1200, 3 => some s.clock.wallSet.toNat
  | 0x2001, i => some (s.link (i - 1)).state.code
  | 0x2002, i => some ((s.link (i - 1)).rate)
  | 0x2003, i => some ((s.link (i - 1)).width)
  | 0x2030, i => some (s.occupancy (i - 1))
  | 0x2031, i => some (s.heldWrites (i - 1))
  | 0x2060, 0 => some s.securityWord
  | 0x2400, 2 => some s.layoutPending.toNat
  | 0x2401, 0 => some (12 * s.layout.channelMiB * 1048576)
  | 0x2402, 0 => some s.layout.hostVisible
  | 0x2403, 0 => some (if s.layout.channelMiB = 0 then 0 else s.layout.carveMiB * 1048576)
  | 0x2404, 0 => some s.layout.leaves
  | 0x2412, 0 => some s.layout.headroom
  | _, _ => none

/-- Views of 0x3000 to 0x4FFF. -/
def State.view3 (s : State) (idx sub : Nat) : Option Nat :=
  match idx, sub with
  | 0x3010, 3 => some (decide (s.ctl.mode = .save) || s.trickle.panic).toNat
  | 0x3030, 7 => some s.ctl.hashPending.toNat
  | 0x3450, 2 => some s.copyProgress
  | 0x3450, 3 => some s.rebuildLeavesLeft
  | 0x3450, 4 => some ((s.awaitingUnits.map (· / 4)).eraseDups).length
  | 0x4000, k => some (s.leafCount (leafStateOf (k - 1)))
  | 0x4001, 0 => some s.charged
  | 0x4002, 0 => some s.saveBytes
  | 0x4003, 0 => some s.pinnedCost
  | 0x4016, 0 => some s.budgetState
  | 0x4017, 0 => some (if s.nand.unavailable then s.standingCause ||| 4 else s.standingCause)
  | 0x4024, 0 => some s.rehearsalCode
  | 0x4034, 2 => some (s.heatOf (s.reg 0x4034 1)).word
  | 0x4042, 0 => some (s64 s.trickle.tokens)
  | 0x4060, d => some (s.mirrorFree (d - 1))
  | 0x4061, 0 => some s.mirrorInUse
  | 0x4070, 0 => some (s.delta.fill * 100 / 3670016)
  | 0x4400, k => some (s.slotsIn (slotStateOf (k - 1)))
  | 0x4401, 0 => some s.nClaimed
  | 0x4402, 1 => some s.layout.chunks
  | 0x4402, 2 => some s.chunksFree
  | 0x4402, 3 => some (s.groups.journal.length + s.groups.undo.length)
  | 0x4421, 0 => some s.groups.decisions.length
  | 0x4426, 0 => some s.groups.cache.length
  | 0x4430, 2 => some (s.slotStatus (s.reg 0x4430 1))
  | 0x4431, 2 => some (s.decisionEntry (s.reg 0x4431 1))
  | 0x4802, 0 => some s.domainState
  | 0x4803, 0 => some (s.trestle.master.getD 0xFFFF)
  | 0x4806, 0 => some (if s.trestle.roll = [] then 0 else s.membersN)
  | 0x4809, 0 => some s.clock.ext.toNat
  | 0x4810, 1 => some (s.port 0).state.code
  | 0x4811, 1 => some (s.port 1).state.code
  | 0x4810, 3 => some (s.port 0).delayNs
  | 0x4811, 3 => some (s.port 1).delayNs
  | 0x4820, 0 => some ((s.aliveList.map fun m => 2 ^ m).foldl (· + ·) 0)
  | 0x4822, 2 => some (s.trestle.roll.get (s.reg 0x4822 1) 0)
  | 0x4840, 3 => some (s.slotsIn .inDoubt)
  | _, _ => none

/-- Views of 0x5000 to 0x63FF. -/
def State.view5 (s : State) (idx sub : Nat) : Option Nat :=
  match idx, sub with
  | 0x5006, 0 => some s.segmentsFree
  | 0x5008, 0 => some s.freeRows
  | 0x5009, 0 => some (s.needRows s.charged s.nDirty)
  | 0x5060, 0 => some s.rebuildCode
  | 0x5060, 1 => some ((s.nand.rebuild.map s.rebuildLeft).foldl (· + ·) 0)
  | 0x5400, 0 => some s.save.state.code
  | 0x5420, 0 => some s.save.restoreState
  | 0x5421, 0 => some s.unrestored
  | 0x5427, 0 => some s.groups.undo.length
  | 0x6004, 0 => some s.niura.supply.code
  | 0x6011, 0 => some s.niura.vStoreMv
  | 0x6012, 0 => some (s32 s.niura.iStoreMa)
  | 0x6020, 0 => some s.niura.charger.code
  | 0x6094, 0 => some s.thermalCode
  | _, 1 =>
    if 0x5100 ≤ idx ∧ idx ≤ 0x5111 then some (s.nandChannelCode (idx - 0x5100))
    else if 0x6040 ≤ idx ∧ idx ≤ 0x6043 then some (s.stringCode (idx - 0x6040))
    else none
  | _, _ => none

/-- Views of fault group `b` (Table 15.2). -/
def State.viewGroup (s : State) (b sub : Nat) : Option Nat :=
  let g := s.faultGroup b
  match sub with
  | 1 => some (g.live ||| g.injLive).toNat
  | 2 => some g.sticky.toNat
  | 4 => some g.ffCode
  | 5 => some g.ffBeat.toNat
  | 6 => some g.flags
  | 7 => some g.ffDetail.toNat
  | 8 => some g.events
  | 9 => some (faultCodes b)
  | _ => none

/-- Views of 0x7400 to 0x78FF. -/
def State.view7 (s : State) (idx sub : Nat) : Option Nat :=
  match idx, sub with
  | 0x7400, 1 => some s.chest.nextSeq
  | 0x7400, 2 => some s.chest.unspooled
  | 0x7401, 2 => some (match codeRow (s.reg 0x7401 1) with | some r => textNat r.name | none => 0)
  | 0x7401, 3 => some (codeSeverity (s.reg 0x7401 1))
  | 0x7401, 8 => some (s.chest.suppressed.get (s.reg 0x7401 1) 0)
  | 0x7420, i => some (match s.chest.lastGasp[i - 1]? with | some r => r.image.headD 0 | none => 0)
  | 0x7421, 0 => some s.chest.lastGasp.length
  | 0x7430, 3 => some (match s.recordAt.1 with | some r => recordValue r | none => 0)
  | 0x7431, 2 => some (placesOf s.chest.cupboard)
  | 0x7431, 3 => some (placesOf (s.chest.eflash.map (·.2)))
  | 0x7806, 3 => some (6144 - (s.reg 0x7806 1 + s.reg 0x7806 2))
  | 0x7810, 4 => some (s.irqLevel (s.reg 0x7810 1)).toNat
  | 0x7810, 5 => some (s.irqPending (s.reg 0x7810 1)).toNat
  | 0x7810, 6 => some (s.bureau.active.find? (s.reg 0x7810 1)).isSome.toNat
  | _, 1 => if 0x7800 ≤ idx ∧ idx ≤ 0x7804 then some (s.pairCode (idx - 0x7800)) else none
  | _, 2 => if 0x7800 ≤ idx ∧ idx ≤ 0x7804 then some (s.pairRoles (idx - 0x7800)) else none
  | _, 3 => if 0x7821 ≤ idx ∧ idx ≤ 0x7824 then some (s.roleIdle (idx - 0x7821)).toNat else none
  | _, _ => none

/-- Views of 0x8000 to 0xA0FF. -/
def State.view8 (s : State) (idx sub : Nat) : Option Nat :=
  match idx, sub with
  | 0x8000, 1 => some (s.bankRole 0)
  | 0x8001, 1 => some (s.bankRole 1)
  | 0x8000, 2 => some (s.bank 0).status.toNat
  | 0x8001, 2 => some (s.bank 1).status.toNat
  | 0x8010, 0 => some s.eflash.rdpLevel
  | 0x8400, 1 => some s.security.runningBank
  | 0x8400, 2 => some s.security.fwVersion
  | 0x8400, 3 => some s.security.securityVersion
  | 0x8400, 4 => some s.security.sequencerInterface
  | 0x8401, 0 => some s.security.arbCounter
  | 0x8403, 2 => some s.security.revoked.toNat
  | 0x8410, 1 => some s.security.updateState
  | 0x8410, 2 => some s.security.updateBytes
  | 0x8430, 1 => some s.security.sessions.length
  | 0x9000, 2 => some s.ctl.testHold
  | 0xA001, 0 => some (Config.image s.security.fwVersion 0xA001 0 0 % 2 ^ 32)
  | 0xA002, 0 => some s.security.settingsFormat
  | 0xA031, 0 => some s.dict.sets.length
  | _, _ =>
    if idx = 0x8411 ∨ idx = 0x8412 then
      let x := s.slotOf (idx - 0x8411)
      match sub with
      | 1 => some x.state | 2 => some x.fwVersion | 3 => some x.result | 4 => some x.generation | 5 => some x.trials
      | _ => none
    else none

/-- The view of an entry that reports other state; `none` for a stored one. -/
def State.view (s : State) (idx sub : Nat) : Option Nat :=
  if idx < 0x3000 then s.view1 idx sub
  else if idx < 0x5000 then s.view3 idx sub
  else if idx < 0x7000 then s.view5 idx sub
  else if idx < 0x7011 then s.viewGroup (idx - 0x7000) sub
  else if idx < 0x8000 then s.view7 idx sub
  else s.view8 idx sub

/-- Value of an entry as a read finds it. -/
def State.value (s : State) (idx sub : Nat) : Nat :=
  match s.view idx sub with
  | some v => v
  | none => s.stored idx sub

end Sys2Proof.Machine
end

