-- ==== Sys2Proof/Machine/Chest.lean ====
section
/-! DEFINITION. Host interrupt messages (R67 to R69), fault groups (R371 to R375) and Chest records (R376 to
R386): what every block does to report an event. -/

namespace Sys2Proof.Machine

/-! ### Host interrupt messages -/

/-- MSI-X vectors of a link (Table 3.2). -/
def State.vectorCount (s : State) (i : Nat) : Nat :=
  if (if i < 2 then s.layout.headA else s.layout.headB) = 0 then 64 else 32

/-- Vector of a source on a link: a message number set by Set Event Interrupt Policy overrides the map for
sources 1 to 4 (R67). -/
def State.vectorOf (s : State) (i src : Nat) : Nat :=
  match (s.link i).eventVectors.find? src with
  | some v => if 1 ≤ src ∧ src ≤ 4 then v else s.reg (0x2200 + i) (src + 1)
  | none => s.reg (0x2200 + i) (src + 1)

/-- Whether a link can send a message on a vector now (R69). -/
def Link.canSend (l : Link) (v : Nat) : Bool := l.up && l.msixEnable && l.unmasked.contains v

/-- Send a link's pending message on one vector, if there is one and the link can send. -/
def State.sendPend (s : State) (i v : Nat) : State :=
  match (s.link i).pend.find? v with
  | none => s
  | some p =>
    if (s.link i).canSend v then
      { s with links := s.links.put i { s.link i with pend := (s.link i).pend.del v },
               out := s.out ++ [.msix i v p.sources ((s.link i).table.get v (0, 0))] }
    else s

/-- Whether a vector's message is sent without moderation: its threshold is 1, or consent bypasses it (R59, R68). -/
def State.unmoderated (s : State) (i v : Nat) : Bool :=
  s.ctl.consents.getLsbD i || decide (s.reg (0x2100 + 0x40 * i + v) 1 ≤ 1)

/-- Signal a host interrupt source on a link (R67, R68). -/
def State.signal (s : State) (i src : Nat) : State :=
  let v := s.vectorOf i src
  if s.vectorCount i ≤ v then s
  else
    let l := s.link i
    let p := l.pend.get v { count := 0, since := s.clock.beat, sources := 0 }
    let q : Pend := { count := p.count + 1, since := p.since, sources := p.sources ||| 2 ^ src }
    let s' := s.setLink i { l with pend := l.pend.put v q }
    if s.unmoderated i v then s'.sendPend i v else s'

/-- A mailbox command completes: its output leaves the link, or while the link is down stays readable (Table 3.8), and
source 0 is signalled (Table 3.6). -/
def State.mail (s : State) (i opcode : Nat) (rc : MailRc) (payload : List Nat) : State :=
  if (s.link i).up then (s.emit (.mailbox i opcode rc payload)).signal i 0
  else (s.setLink i { s.link i with mailDue := some (.mailbox i opcode rc payload) }).signal i 0

/-- Signal a source on several links. -/
def State.signalOn (s : State) (links : List Nat) (src : Nat) : State :=
  links.foldl (fun t i => t.signal i src) s

/-! ### Fault groups -/

/-- One occurrence in a group (R371, R372, R375): `live` when its condition stands. -/
def FaultGroup.occur (g : FaultGroup) (n : Nat) (code : Nat) (live inj : Bool) (detail ext : BitVec 64)
    (beat : Nat) : FaultGroup :=
  let bit := BitVec.ofNat 32 (2 ^ n)
  { g with
    sticky := g.sticky ||| bit
    live := if live && !inj then g.live ||| bit else g.live
    injLive := if inj then g.injLive ||| bit else g.injLive
    injBeat := if inj then beat else g.injBeat
    events := min (g.events + 1) (2 ^ 64 - 1)
    details := if live || inj then g.details.put n (detail, inj) else g.details
    ffCode := if g.valid then g.ffCode else code
    ffBeat := if g.valid then g.ffBeat else ext
    ffDetail := if g.valid then g.ffDetail else detail
    inj := if g.valid then g.inj else inj
    valid := true
    overflow := g.overflow || g.valid
    injSeen := g.injSeen || (g.valid && inj) }

/-- `fault_live` as it reads: conditions that stand and injected occurrences not yet over (R375). -/
def FaultGroup.liveWord (g : FaultGroup) : BitVec 32 := g.live ||| g.injLive

/-- The lowest live code of a group. -/
def FaultGroup.lowestLive (g : FaultGroup) : Option Nat :=
  (List.range 32).find? fun n => g.liveWord.getLsbD n

/-- `fault_clear` (R373). -/
def FaultGroup.clear (g : FaultGroup) (b : Nat) (ext : BitVec 64) : FaultGroup :=
  let base := { g with sticky := g.sticky &&& g.liveWord, ffCode := 0, ffBeat := 0, ffDetail := 0, valid := false,
                       inj := false, overflow := false, injSeen := false }
  match g.lowestLive with
  | none => base
  | some n =>
    let d := g.details.get n (0, false)
    { base with ffCode := 32 * b + n, ffBeat := ext, ffDetail := d.1, valid := true, inj := d.2 }

/-- Count an occurrence in its block's group, with no record. -/
def State.occur (s : State) (code : Nat) (live inj : Bool) (detail : Nat) : State :=
  let g := (s.faultGroup (code / 32)).occur (code % 32) code live inj (BitVec.ofNat 64 detail) s.clock.ext s.clock.beat
  { s with faults := s.faults.put (code / 32) g }

/-- A condition clears: its live bit reads 0; sticky bit and capture stay (R371). -/
def State.condClear (s : State) (code : Nat) : State :=
  let g := s.faultGroup (code / 32)
  { s with faults := s.faults.put (code / 32) { g with live := g.live &&& ~~~(BitVec.ofNat 32 (2 ^ (code % 32))) } }

/-! ### Chest records -/

/-- Tokens of a code in units of 1/100,000 record, at this beat (R379). -/
def State.chestTokens (s : State) (code : Nat) : Nat :=
  let cap := s.breg code 0x7401 6 * 100000
  match s.chest.tokens.find? code with
  | none => cap
  | some (amount, at') => min cap (amount + s.breg code 0x7401 5 * (s.clock.beat - at'))

/-- Values that a code's snapshot set supplies, at most `room` (R377, R378). -/
def State.snapshot (s : State) (code room : Nat) : List Nat :=
  let set := s.breg code 0x7401 4
  if set = 255 then [] else
    let n := min room (s.breg set 0x7402 2)
    let entries := s.breg set 0x7402 3
    (List.range n).map fun i =>
      let a := entries / 2 ^ (32 * i) % 2 ^ 32
      let idx := a % 65536
      let sub := a / 65536 % 256
      match rowOf idx sub with
      | none => 0xFFFFFFFF
      | some r =>
        if r.h = .wo ∨ r.b = .wo ∨ r.s = .wo then 0xFFFFFFFF else s.value idx sub % 2 ^ 32

/-- Put a record into the last-gasp registers (R385 step 3). -/
def Chest.gasp (c : Chest) (r : ChestRec) : Chest × Bool :=
  let r := { r with fallback := true, values := r.values.take 6 }
  if c.lastGasp.length < 8 then ({ c with lastGasp := c.lastGasp ++ [r], eflashWait := c.eflashWait ++ [r] }, true)
  else if 2 ≤ r.severity then
    match c.lastGasp.find? fun x => decide (x.severity ≤ 1) with
    | some old => ({ c with lastGasp := (c.lastGasp.filter fun x => x.seq != old.seq) ++ [r],
                            eflashWait := c.eflashWait ++ [r] }, true)
    | none => (c, false)
  else (c, false)

/-- Drop the oldest records until the list fits in `n` places. -/
def fitPlaces (n : Nat) : List ChestRec → List ChestRec
  | [] => []
  | r :: rs => if placesOf (r :: rs) ≤ n then r :: rs else fitPlaces n rs

/-- Put a record into the ring, over records already spooled (R382). -/
def Chest.push (c : Chest) (r : ChestRec) (eflash : Bool) : Chest :=
  { c with ring := fitPlaces 4096 (c.ring ++ [r]), unspooled := c.unspooled + 1,
           eflashWait := if eflash then c.eflashWait ++ [r] else c.eflashWait }

/-- Whether the ring has no place for a record among its unspooled ones (R383). -/
def Chest.ringFull (c : Chest) (r : ChestRec) : Bool :=
  decide (4096 < placesOf (c.ring.drop (c.ring.length - c.unspooled)) + r.places)

/-- The sequence mark after a sequence has been used (R381). -/
def Chest.advance (c : Chest) : Chest :=
  { c with nextSeq := c.nextSeq + 1, mark := if c.mark ≤ c.nextSeq + 1 + 32768 then c.mark + 65536 else c.mark }

/-- Links that a record goes to: those whose range holds the DPA, for a code marked DPA; else every link (R63, R386). -/
def State.recordLinks (s : State) (r : ChestRec) : List Nat :=
  if codeDpa r.code then
    let dpa := (r.values[0]?).getD 0 + 2 ^ 32 * (r.values[1]?).getD 0
    linkNos.filter fun i => s.inPartition i dpa
  else linkNos.filter fun i => s.layout.formed i

/-- Write an event record to one link's log, or keep it until the link comes up (R63). A log of 256 records keeps them and
drops the new one (DESIGN CHOICE, log entry 26: the spec does not say which is lost). -/
def State.logOn (r : ChestRec) (s : State) (i : Nat) : State :=
  let l := s.link i
  if l.up ∨ codeDpa r.code then
    let log := l.logs.get r.severity []
    let s' := s.setLink i { l with logs := l.logs.put r.severity (if log.length < 256 then log ++ [r] else log) }
    (if log = [] then s'.signal i (r.severity + 1) else s').emit (.cxlEvent i r.severity r)
  else s.setLink i { l with deferred := l.deferred ++ [r] }

/-- Deliver a record as `code_deliver` selects (R375, R386); `all` sends it whatever the settings (R385 step 2). -/
def State.deliver (s : State) (r : ChestRec) (all : Bool) : State :=
  let d := s.breg r.code 0x7401 7
  let cxl := all || (d % 2 == 1 && (!r.inj || s.reg 0x7411 0 == 1))
  let mctp := all || d / 2 % 2 == 1
  let s1 := if cxl then (s.recordLinks r).foldl (State.logOn r) s else s
  if mctp ∧ s.reg 0x7412 0 ≠ 0 then s1.emit (.mctpEvent (s.reg 0x7412 0) r) else s1

/-- The record of a code with leading snapshot values (R376 to R378, R483). -/
def State.formRecord (s : State) (code : Nat) (lead : List Nat) (inj : Bool) : ChestRec :=
  { seq := s.chest.nextSeq, devNs := s.clock.devNs, wallNs := if s.clock.wallSet then s.clock.wallNs else 0,
    code := code, severity := codeSeverity code, inj := inj, clockUnset := !s.clock.wallSet, fallback := false,
    beat := s.clock.ext.setWidth 32, suppressed := s.chest.suppressed.get code 0,
    values := lead ++ s.snapshot code (if codeFault code then min 52 (54 - lead.length) else 54 - lead.length),
    torn := false }

/-- Form and keep a record (R379, R382, R383, R385). -/
def State.record (s : State) (code : Nat) (lead : List Nat) (inj : Bool := false) : State :=
  let tok := s.chestTokens code
  let free := codeSeverity code = 3 ∨ s.chest.ringFailed
  if tok < 100000 ∧ ¬ free then
    { s with chest := { s.chest with suppressed := s.chest.suppressed.put code (s.chest.suppressed.get code 0 + 1),
                                     tokens := s.chest.tokens.put code (tok, s.clock.beat) } }
  else
    let r := s.formRecord code lead inj
    let c := { s.chest with tokens := s.chest.tokens.put code (tok - 100000, s.clock.beat) }
    let spent := { c with suppressed := c.suppressed.del code }
    if s.chest.ringFailed ∨ (s.chest.ringFull r ∧ 2 ≤ r.severity) then
      let g := (spent.advance).gasp r
      if g.2 then { s with chest := g.1 }.deliver { r with fallback := true, values := r.values.take 6 } false
      else { s with chest := c }.addReg 0x7422 0 1
    else if s.chest.ringFull r then
      ({ s with chest := c }.addReg 0x7431 1 1).occur Code.ringOverrun false false 0
    else { s with chest := spent.advance.push r (decide (s.reg 0x7410 0 ≤ r.severity)) }.deliver r false

/-- Low and high words of a 64-bit value, low word first. -/
def words2 (v : Nat) : List Nat := [v % 2 ^ 32, v / 2 ^ 32 % 2 ^ 32]

/-- An occurrence of a fault code with its record: the detail word leads the snapshot (R371, R377). `live` when its
condition stands after it; `more` are further values that the code's rule names. -/
def State.fault (s : State) (code : Nat) (detail : Nat) (live : Bool := false) (more : List Nat := []) : State :=
  (s.occur code live false detail).record code (words2 detail ++ more)

/-- An occurrence of a fault code whose detail word the spec does not lay out: a free value (R377, log entry 6). -/
def State.faultOpen (s : State) (code : Nat) (live : Bool := false) : State :=
  s.drawn.fault code (Config.free s.free) live

/-- A condition that arises: an occurrence only when it did not stand before (R371). -/
def State.condition (s : State) (code : Nat) (stands : Bool) (detail : Nat) (more : List Nat := []) : State :=
  if stands then
    (if (s.faultGroup (code / 32)).live.getLsbD (code % 32) then s else s.fault code detail true more)
  else s.condClear code

/-- A condition whose detail word the spec does not lay out. -/
def State.conditionOpen (s : State) (code : Nat) (stands : Bool) : State :=
  s.drawn.condition code stands (Config.free s.free)

/-- An information record whose values the code's rule names; a DPA leads for a code marked DPA (R483). -/
def State.note (s : State) (code : Nat) (values : List Nat := []) : State := s.record code values

end Sys2Proof.Machine
end

