-- ==== Sys2Proof/Machine/Budget.lean ====
section
/-! DEFINITION. What a write or a claim needs of the leaf tracker and the scheduler: heat (R153), bursts (R91 to
R94), panic (R102 to R105), mirror reservations (R169) and the admission conditions (R163, R166). -/

namespace Sys2Proof.Machine

/-! ### Heat -/

/-- A write to a leaf of a bundle (R153). -/
def State.touchHeat (s : State) (leaf : Nat) : State :=
  let b := bundleOf leaf
  let h := s.heatOf b
  let heat := if s.trickle.written.contains b then h.heat else min (h.heat + 256) 65535
  let h' : Heat := { old := false, last := s.nowMs % 32768, heat := heat }
  { s with heat := s.heat.put b h',
           trickle := { s.trickle with written := if s.trickle.written.contains b then s.trickle.written
                                                  else b :: s.trickle.written } }

/-! ### Bursts -/

/-- Physical channel of a logical channel (R78). -/
def State.physical (s : State) (lch : Nat) : Nat := s.reg 0x2405 (lch + 1)

/-- Class of a burst of a port whose class in ONLINE is `own` (Table 5.1, R102, R105, R171): 0 in SAVE for host, TR and JN
bursts, and for TR bursts during panic and in a rehearsal's run. BRING-UP has no column in Table 5.1; the classes of ONLINE
stand there (DESIGN CHOICE, log entry 33). -/
def State.classOf (s : State) (port own : Nat) : Nat :=
  if s.ctl.mode = .save ∧ (port ≤ 4 ∨ port = 6) then 0
  else if port = 4 ∧ (s.trickle.panic = true ∨ s.trickle.rehearsal = .run) then 0
  else own

/-- Subchannel of a burst (Table 5.6). -/
def Burst.sub (b : Burst) : Nat := b.off / 64 % 2

/-- A burst at a channel offset. -/
def State.burstAt (s : State) (chan off unit port own : Nat) (stamp : BitVec 16) (write : Bool) (ingress : Option Nat)
    (job : Job) : Burst :=
  { id := 0, mate := 0, chan := chan, off := off, port := port, cls := s.classOf port own, own := own, stamp := stamp, unit := unit,
    write := write, inQueue := false, promoted := false, ancient := none, ingress := ingress, job := job, extended := 0 }

/-- The burst of one 64 B unit of host-visible memory. -/
def State.unitBurst (s : State) (dpa port own : Nat) (stamp : BitVec 16) (write : Bool) (ingress : Option Nat) : Burst :=
  s.burstAt (s.physical (s.layout.logical dpa)) (s.layout.offset dpa / 64 * 64) (unitOf dpa) port own stamp write ingress
    .none

/-- A write below the pointer of a proactive copy is issued to both channels, with one stamp (R136). -/
def State.withTwin (s : State) (b : Burst) : List Burst :=
  match s.dram.target with
  | some t =>
    if s.reg 0x3450 0 = 1 ∧ b.write = true ∧ b.job ≠ .copyWrite ∧ b.chan = s.reg 0x3450 1 ∧ b.off / 4096 < s.dram.copyPtr then
      [b, { b with chan := t, mate := 1 }] else [b]
  | none => [b]

/-- Whether a burst of a port is issued in the mode: in SAVE none of ports RS, SC and MG is (Table 5.1). -/
def State.issued (s : State) (b : Burst) : Bool :=
  s.ctl.mode != .save || !(b.port == 5 || b.port == 7 || b.port == 8)

/-- Number bursts, and give those that enter their transaction queues together one number (Table 5.5). -/
def tieBursts : Nat → Nat → List Burst → List Burst
  | _, _, [] => []
  | id, root, b :: bs =>
    let r := if b.mate = 0 then id else root
    { b with id := id, mate := r } :: tieBursts (id + 1) r bs

/-- Queue bursts, in entry order (R91). -/
def State.queueAll (s : State) (bs : List Burst) : State :=
  let all := (bs.filter s.issued).flatMap s.withTwin
  { s with sched := { s.sched with
      bursts := s.sched.bursts ++ tieBursts s.sched.nextId s.sched.nextId all,
      nextId := s.sched.nextId + all.length } }

/-- Queue one burst for a unit. -/
def State.queueUnit (s : State) (dpa port own : Nat) (stamp : BitVec 16) (write : Bool) (ingress : Option Nat) : State :=
  s.queueAll [s.unitBurst dpa port own stamp write ingress]

/-- The bursts of the units `[u, u + n)`. -/
def State.unitBursts (s : State) (u n port own : Nat) (stamp : BitVec 16) (write : Bool) : List Burst :=
  (List.range n).map fun i => s.unitBurst ((u + i) * 64) port own stamp write none

/-- Queue a leaf's 1,024 bursts (R91). -/
def State.queueLeaf (s : State) (leaf port own : Nat) (stamp : BitVec 16) (write : Bool) : State :=
  s.queueAll (s.unitBursts (leaf * 1024) 1024 port own stamp write)

/-- Queue a line's four bursts. -/
def State.queueLine (s : State) (line port own : Nat) (stamp : BitVec 16) (write : Bool) : State :=
  s.queueAll (s.unitBursts (line * 4) 4 port own stamp write)

/-- The stamp of the present device time, in 16 ns units (R94). -/
def State.nowStamp (s : State) : BitVec 16 := BitVec.ofNat 16 (s.clock.devNs / 16)

/-- Extend R99's bound for the bursts that wait on a subchannel. -/
def State.extendBound (s : State) (chan : Nat) (sub : Option Nat) (ns : Nat) : State :=
  { s with sched := { s.sched with bursts := s.sched.bursts.map fun (b : Burst) =>
      if b.chan = chan ∧ (sub = none ∨ sub = some b.sub) then { b with extended := b.extended + ns } else b } }.addReg
    (0x3120 + chan) 6 ns

/-- Extend R99's bound for the bursts that wait on a channel, each by its own share of a time. -/
def State.extendFor (s : State) (chan : Nat) (share : Burst → Nat) (ns : Nat) : State :=
  { s with sched := { s.sched with bursts := s.sched.bursts.map fun (b : Burst) =>
      if b.chan = chan then { b with extended := b.extended + share b } else b } }.addReg (0x3120 + chan) 6 ns

/-- What an open gather window's training windows have of a burst's wait: all of their time, or for a burst that entered after the
window opened a free part of it (R99, R121). -/
def State.gatherShare (g : Nat × Nat) (b : Burst) : Nat :=
  if b.id < g.2 then g.1 else Config.gatherOverlap g.1 b.id % (g.1 + 1)

/-- A training window on a channel: R99's bound is extended by its length (R121), a free number of ns up to a limit. -/
def State.window (s : State) (c limit : Nat) : State :=
  s.drawn.extendBound c none (Config.free s.free % (limit + 1))

/-! ### The Cupboard (R79, R80) -/

/-- Cupboard structures that the machine writes as it runs (Table 4.3). -/
inductive Cup where
  | leafMap | deltaLog | claimHash | journal | decisions | mirror | spool
  deriving DecidableEq, Repr

/-- A structure's number. -/
def Cup.code : Cup → Nat
  | .leafMap => 0 | .deltaLog => 1 | .claimHash => 2 | .journal => 3 | .decisions => 4 | .mirror => 5 | .spool => 6

/-- Logical channel of a block of a structure's copy (R80): copy 0 on channels 0 to 5, copy 1 six further; the Chest spool
over all 12. -/
def Cup.channel (c : Cup) (copy block : Nat) : Nat :=
  match c with
  | .spool => block % 12
  | _ => block % 6 + 6 * copy

/-- The 64 B of a structure's copy, named apart from every host-visible unit. -/
def Cup.unit (c : Cup) (copy unit : Nat) : Nat := (2 * c.code + copy + 1) * 2 ^ 40 + unit

/-- The 4 KiB block of a channel, counted from its base, that holds a block of a structure: within the carve at the channel's top
(R81), a free one of it, as R80 gives the channel and no rule the place on it (log entry 147). -/
def Layout.cupBlock (l : Layout) (c : Cup) (copy block : Nat) : Nat :=
  l.copyBlocks - 1 - Config.cupboardBlock c.code copy block % l.carveBlocks

/-- The burst of one 64 B of a structure's copy. -/
def State.cupBurst (s : State) (c : Cup) (copy unit port own : Nat) (stamp : BitVec 16) (write : Bool) (job : Job) : Burst :=
  s.burstAt (s.physical (c.channel copy (unit / 64))) (4096 * s.layout.cupBlock c copy (unit / 64) + unit % 64 * 64)
    (c.unit copy unit) port own stamp write none job

/-- Units that `[addr, addr + len)` of a structure touches. -/
def cupUnits (addr len : Nat) : List Nat :=
  (List.range ((addr + len - 1) / 64 + 1 - addr / 64)).map fun i => addr / 64 + i

/-- Bursts that write `[addr, addr + len)` of a structure, in both copies where it has two (R80), which enter their queues together
(Table 5.5). -/
def State.cupWrites (s : State) (c : Cup) (addr len port own : Nat) (stamp : BitVec 16) (job : Job) : List Burst :=
  (cupUnits addr len).flatMap fun u =>
    if c = .spool then [s.cupBurst c 0 u port own stamp true job]
    else [s.cupBurst c 0 u port own stamp true job, { s.cupBurst c 1 u port own stamp true job with mate := 1 }]

/-- The copy that a read uses (R80): copy 1 while copy 0's channel is failed or being rebuilt. -/
def State.cupCopy (s : State) (c : Cup) (unit : Nat) : Nat :=
  let d := c.channel 0 (unit / 64)
  if s.dram.lostLogical = some d ∨ s.dram.uncovered.contains d = true then 1 else 0

/-- Bursts that read `[addr, addr + len)` of a structure. -/
def State.cupReads (s : State) (c : Cup) (addr len port own : Nat) (stamp : BitVec 16) : List Burst :=
  (cupUnits addr len).map fun u => s.cupBurst c (s.cupCopy c u) u port own stamp false .none

/-- The burst that writes a unit's mirror copy, on logical channel (c + 6) mod 12 (R80). -/
def State.mirrorBurst (s : State) (dpa : Nat) (stamp : BitVec 16) (ingress : Option Nat) (job : Job) : Burst :=
  s.burstAt (s.physical ((s.layout.logical dpa + 6) % 12))
    (4096 * s.layout.cupBlock .mirror 0 (dpa / 4096) + dpa % 4096 / 64 * 64) (Cup.mirror.unit 0 (unitOf dpa)) 6 3
    stamp true ingress job

/-- Offset of a group's n-th journal entry (Tables 8.8 and 8.9). -/
def entryOffset (group n : Nat) : Nat := 0x801000 + 4096 * Config.journalChunk group (n / 15) + 16 + 272 * (n % 15)

/-- Offset of a delta record's place in the ring (Table 7.4). -/
def ringOffset (seq : Nat) : Nat := 0x2400000 + 8 * (seq % 3670016)

/-- Keys at which two tables differ. -/
def changedKeys {α : Type} [DecidableEq α] (old new : Map α) : List Nat :=
  ((new.filter fun e => decide (old.find? e.1 ≠ some e.2)).map (·.1)) ++
    ((old.filter fun e => (new.find? e.1).isNone).map (·.1))

/-- Queue the updates of the Cupboard that a command has made (R90, R150, R183, R186, R192, R194): new records of the delta
log, changed claim records, group shadows whose state has changed, the journal header's transaction counter, and changed
decision table entries. Each goes to both copies, through port JN at class 3. -/
def State.cupboard (s before : State) (stamp : BitVec 16) : State :=
  let recs := (s.delta.records.filter fun r => decide (before.delta.seq ≤ r.seq)).map fun r => (Cup.deltaLog, ringOffset r.seq, 8)
  let claims := (changedKeys before.groups.claims s.groups.claims).map fun p => (Cup.claimHash, 16 * Config.claimSlot p, 16)
  let shadows := ((s.groups.slots.filter fun e => decide (e.2.state ≠ (before.slot e.1).state)).map fun e =>
    (Cup.journal, 32 * e.1, 32))
  let counter := if s.reg 0x4420 0 = before.reg 0x4420 0 then [] else [(Cup.journal, 0x800000, 16)]
  let decs := (changedKeys before.groups.decisions s.groups.decisions).map fun i => (Cup.decisions, 256 * i, 256)
  s.queueAll ((recs ++ claims ++ shadows ++ counter ++ decs).flatMap fun u => s.cupWrites u.1 u.2.1 u.2.2 6 3 stamp .none)

/-! ### Panic -/

/-- Bytes in the NAND staging buffer (R102): leaf data read from DRAM and not yet sent, which is that of the stripes being formed,
less their reads that have not issued. A row's data counts as sent once the row is being programmed (DEDUCED, log entry 184). -/
def State.staged (s : State) : Nat :=
  let fs := (s.nand.forming.filter fun x => x.origin != 2).map (·.leaf)
  65536 * fs.length -
    64 * (s.sched.bursts.filter fun b => b.port == 4 && b.job == .none && fs.contains (b.unit / 1024)).length

/-- Fill level of the NAND staging buffer in percent of 4.5 MiB (R102). -/
def State.fillPct (s : State) : Nat := s.staged * 100 / 4718592

/-- Whether the copier has a leaf selected for copy. -/
def State.selected (s : State) : Bool := s.leaves.exc.any fun e => e.2 == .copying

/-- Whether panic stands after an event (R102, R105). -/
def State.panicNext (s : State) : Bool :=
  match s.ctl.mode with
  | .save => true
  | .online | .drowse | .restore =>
    if s.trickle.panic then s.holding || (decide (s.fillPct < s.reg 0x3010 2) && s.selected)
    else s.holding || (decide (s.fillPct < s.reg 0x3010 1) && s.selected)
  | _ => false

/-- Queued bursts take the classes of the mode and of panic at once, and keep their stamps (R102, R113); a burst of class 0
is not promoted (R97). -/
def State.reclass (s : State) : State :=
  { s with sched := { s.sched with bursts := s.sched.bursts.map fun b =>
      let c := s.classOf b.port b.own
      { b with cls := c, promoted := b.promoted && c != 0 } } }

/-- Raise or clear panic (R102, R104). -/
def State.panicUpdate (s : State) : State :=
  let p := s.panicNext
  if p = s.trickle.panic then s else
    let s1 := ({ s with trickle := { s.trickle with panic := p } }).reclass
    if p then (if s.holding then (s1.addReg 0x3010 4 1).note Code.panicHold else s1.addReg 0x3010 4 1) else s1

/-! ### Mirror reservations -/

/-- Reserve a leaf's mirror lines in a MIRROR window, if there is room (R169). -/
def State.reserveMirror (s : State) (leaf : Nat) : State :=
  if s.mirrorAt (leaf * 65536) && !s.mirrorCopied.contains leaf && s.mirrorRoom leaf then
    { s with mirrorCopied := s.mirrorCopied ++ [leaf] } else s

/-- Free the mirror lines of the leaves that a test selects, and end their arming copy (R88, R169). -/
def State.freeMirrors (s : State) (p : Nat → Bool) : State :=
  { s with mirrorCopied := s.mirrorCopied.filter fun l => !p l,
           mirrorWhole := s.mirrorWhole.filter fun l => !p l,
           mirrorUnits := s.mirrorUnits.filter fun u => !p (u / 1024),
           sched := { s.sched with bursts := s.sched.bursts.filter fun b => match b.job with
             | .arm u => !p (u / 1024)
             | _ => true } }

/-- Free a leaf's mirror lines (R169). -/
def State.freeMirror (s : State) (leaf : Nat) : State := s.freeMirrors fun l => l == leaf

/-- A unit's mirror copy stands. -/
def State.mirrorUnit (s : State) (u : Nat) : State :=
  { s with mirrorUnits := if s.mirrorUnits.contains u then s.mirrorUnits else s.mirrorUnits ++ [u] }

/-- Queue the mirror writes of a line that is written, where its leaf has mirror lines (R88). -/
def State.mirrorLine (s : State) (line : Nat) : State :=
  let t := s.reserveMirror (line / 256)
  if t.mirrorCopied.contains (line / 256) then
    ((List.range 4).map fun i => line * 4 + i).foldl State.mirrorUnit
      (t.queueAll ((List.range 4).map fun i => t.mirrorBurst ((line * 4 + i) * 64) t.nowStamp none .none))
  else t

/-! ### Admission -/

/-- A leaf that has no valid copy becomes valid and reads zero (R25, R148). -/
def State.validate (s : State) (leaf : Nat) : State :=
  if s.leaf leaf = .lost then
    { s.setPoisonIn (leaf * 65536) 65536 [] with mem := Mem.clear s.mem (leaf * 65536) 65536 } else s

/-- A leaf that becomes non-clean reserves its mirror lines; in an ARMED window it is protected whole, by its flash copy where
nothing is written (R88, R169, Table 6.4). -/
def State.mirrorNew (s : State) (leaf : Nat) : State :=
  let t := s.reserveMirror leaf
  let armed : Bool := match t.windowOf (leaf * 65536) with | some w => t.reg (0x2500 + w) 5 == 2 | none => false
  if t.mirrorCopied.contains leaf && armed && !t.mirrorWhole.contains leaf then
    { t with mirrorWhole := t.mirrorWhole ++ [leaf] } else t

/-- Whether a unit of a non-clean leaf is protected by the mirror (Table 6.4, R88). -/
def State.mirrored (s : State) (u : Nat) : Bool := s.mirrorUnits.contains u || s.mirrorWhole.contains (u / 1024)

/-- An admitted first write makes a leaf DIRTY (R147, R163). -/
def State.makeDirty (s : State) (leaf : Nat) : State :=
  ((s.validate leaf).setLeaf leaf .dirty .before).mirrorNew leaf

/-- A copy of a leaf in progress, of trickle or of a rehearsal, is not credited (R149). -/
def State.uncredit (s : State) (leaf : Nat) : State :=
  let dead := fun (x : Stripe) => { x with live := x.live && !(x.leaf == leaf && (x.origin == 0 || x.origin == 5)) }
  { s with nand := { s.nand with forming := s.nand.forming.map dead,
                                 rows := s.nand.rows.map fun r => (r.1, { r.2 with stripes := r.2.stripes.map fun e => (e.1, dead e.2) }) } }

end Sys2Proof.Machine
end

