-- ==== Sys2Proof/Machine/Fleet.lean ====
section
/-! DEFINITION. What a member knows of its fleet: domain and roster (R232), liveness in the roll call (R209, R210),
its own roll-call word (Table 9.5) and the cells it has waiting (R218, R225). -/

namespace Sys2Proof.Machine

/-- Change a Trestle port. -/
def State.setPort (s : State) (p : Nat) (x : Port) : State :=
  { s with trestle := { s.trestle with ports := s.trestle.ports.put p x } }

/-- Whether frames turn back at a port: one that has failed in service, or that is out of service, so that frames leave by the
other one (R229; of a port that was never in service, DEDUCED, log entry 54). -/
def State.turnsAt (s : State) (p : Nat) : Bool := (s.port p).turned || !s.inService p

/-- Hold a trained link out of service (R203, R232). One that was in service has failed in service: it waits for its unwrap, with
the START_TAG that its partner had (R230). -/
def State.holdPort (s : State) (p : Nat) (x : Port) : State :=
  let served := decide (x.state = .inService)
  (s.setPort p { x with state := .fault, failed := x.failed || served, turned := x.turned || served,
                        lastTag := if served then (s.port p).hello.map (·.startTag) else x.lastTag }).faultOpen
    Code.domainMismatch true

/-- Own roll-call word for a frame of a wire beat (Table 9.5). -/
def State.ownWord (s : State) (wire : BitVec 32) : Nat :=
  s.ownAlive.toNat + 2 * s.niura.alarm.toNat + 4 * s.ctl.mode.code
    + 32 * ((s.turnsAt 0).toNat + 2 * (s.turnsAt 1).toNat)
    + 256 * (wire.toNat % 256) + 65536 * (s.member % 1024) + 2 ^ 26 * (s.reg 0x4800 4 % 64)

/-- Queue a cell; it takes the next cell sequence (R220). -/
def State.queueCell (s : State) (dest : Option Nat) (body : CellBody) : State :=
  { s with trestle := { s.trestle with
      wait := s.trestle.wait ++ [{ source := s.member, seq := s.trestle.nextSeq, retry := false, dest := dest,
                                   taken := 0, crcGood := true, body := body }],
      nextSeq := (s.trestle.nextSeq + 1) % 2 ^ 32 } }

/-- Add an ACK or a QUERY entry to a waiting cell of its kind for the same peer, if it has room (R225); a retransmission keeps what
it carried (R220). -/
def addTxn (query : Bool) (dest txn : Nat) : List Cell → Option (List Cell)
  | [] => none
  | c :: cs =>
    match c.body, query with
    | .ack txns, false =>
      if c.dest = some dest ∧ c.retry = false ∧ txns.length < 5 then
        some ((if txns.contains txn then c else { c with body := .ack (txns ++ [txn]) }) :: cs)
      else (addTxn query dest txn cs).map (c :: ·)
    | .query txns, true =>
      if c.dest = some dest ∧ c.retry = false ∧ txns.length < 5 then
        some ((if txns.contains txn then c else { c with body := .query (txns ++ [txn]) }) :: cs)
      else (addTxn query dest txn cs).map (c :: ·)
    | _, _ => (addTxn query dest txn cs).map (c :: ·)

/-- Send an ACK or QUERY for a transaction to a peer. -/
def State.sendTxn (s : State) (query : Bool) (dest txn : Nat) : State :=
  match addTxn query dest txn s.trestle.wait with
  | some ws => { s with trestle := { s.trestle with wait := ws } }
  | none => s.queueCell (some dest) (if query then .query [txn] else .ack [txn])

/-- Add an ANSWER entry to a waiting cell for the same peer, if it has room (R225); a retransmission keeps what it carried (R220). -/
def addAnswer (dest : Nat) (item : Nat × Bool × Bool) : List Cell → Option (List Cell)
  | [] => none
  | c :: cs =>
    match c.body with
    | .answer items =>
      if c.dest = some dest ∧ c.retry = false ∧ items.length < 4 then some ({ c with body := .answer (items ++ [item]) } :: cs)
      else (addAnswer dest item cs).map (c :: ·)
    | _ => (addAnswer dest item cs).map (c :: ·)

/-- Send an ANSWER for a transaction to a peer. -/
def State.sendAnswer (s : State) (dest : Nat) (item : Nat × Bool × Bool) : State :=
  match addAnswer dest item s.trestle.wait with
  | some ws => { s with trestle := { s.trestle with wait := ws } }
  | none => s.queueCell (some dest) (.answer [item])

end Sys2Proof.Machine
end

