-- ==== Sys2Proof/Machine/Messages.lean ====
section
/-! DEFINITION. The bytes of dictionary messages and descriptors (Tables 14.5 to 14.7 and 14.10), and how the bytes that a
tunnel brings are read back (R235, R360). Every field is stored least significant byte first (R3), so that an image is a number
whose byte `i` is byte `i` of the structure. -/

namespace Sys2Proof.Machine

/-- A value at a byte offset of a structure, its lowest byte first (R3). -/
def at' (offset v : Nat) : Nat := v * 256 ^ offset

/-- The field of `n` bytes at an offset of an image. -/
def fieldOf (image offset n : Nat) : Nat := image / 256 ^ offset % 256 ^ n

/-- The number that a list of bytes makes, the first lowest. -/
def ofBytes (bs : List Nat) : Nat := bs.foldr (fun b a => b % 256 + 256 * a) 0

/-- Values at a step of bytes from an offset. -/
def column (offset step : Nat) (vs : List Nat) : Nat :=
  (((List.range vs.length).zip vs).map fun e => at' (offset + step * e.1) e.2).foldl (· + ·) 0

/-- Structures of given sizes laid one behind the other. -/
def laid : List (Nat × Nat) → Nat
  | [] => 0
  | (n, v) :: rest => v % 256 ^ n + 256 ^ n * laid rest

/-- Bytes that a value takes in an item: padded to a multiple of 4 (Table 14.5). -/
def paddedBytes (n : Nat) : Nat := 8 + 4 * ceilDiv n 4

/-! ### Operations and items -/

end Sys2Proof.Machine

namespace Sys2Proof

/-- Code of an operation (Table 14.7). -/
def DictOp.code : DictOp → Nat
  | .read => 0x01 | .write => 0x02 | .describe => 0x03 | .setOpen => 0x10 | .setAdd => 0x11 | .setSubmit => 0x12
  | .setDiscard => 0x13 | .setStatus => 0x14

/-- The operation of a code. -/
def DictOp.ofCode (n : Nat) : Option DictOp :=
  [DictOp.read, .write, .describe, .setOpen, .setAdd, .setSubmit, .setDiscard, .setStatus].find? fun o => o.code == n

end Sys2Proof

namespace Sys2Proof.Machine

/-- Bytes of a request (Table 14.5). -/
def DictMsg_bytes (m : DictMsg) : Nat := m.items.foldl (fun a i => a + paddedBytes i.len) 16

/-- A request item: its size and its bytes. -/
def requestItem (i : Item) : Nat × Nat :=
  (paddedBytes i.len, at' 0 (i.index % 2 ^ 16) + at' 2 (i.sub % 256) + at' 4 (i.len % 2 ^ 16) + at' 8 (i.value % 256 ^ i.len))

/-- A request message (Table 14.5). -/
def requestImage (op : DictOp) (m : DictMsg) : Nat :=
  laid ((16, at' 0 1 + at' 1 op.code + at' 2 (m.tag % 2 ^ 16) + at' 4 (m.target % 2 ^ 16) + at' 6 m.items.length +
    at' 8 (m.handle % 2 ^ 32) + at' 12 m.snapshot.toNat) :: m.items.map requestItem)

/-- Bytes of the value that a response item carries: of a descriptor 80, of a read the entry's size. -/
def valueBytes (op : DictOp) (r : RespItem) : Nat :=
  if r.error ≠ 0 then 0
  else match op with
    | .describe => 80
    | .read => entrySize r.index r.sub
    | _ => 0

/-- A response item (Table 14.6): a request item's layout, with the error code in byte 3 and the type code in byte 6. -/
def responseItem (op : DictOp) (r : RespItem) : Nat × Nat :=
  let n := valueBytes op r
  (paddedBytes n, at' 0 (r.index % 2 ^ 16) + at' 2 (r.sub % 256) + at' 3 (r.error % 256) + at' 4 n + at' 6 (r.type % 256) +
    at' 8 (r.value % 256 ^ n))

/-- Bytes of a response. -/
def respBytes (op : DictOp) (items : List RespItem) : Nat := items.foldl (fun a i => a + paddedBytes (valueBytes op i)) 16

/-- A response message (Table 14.6). -/
def responseImage (op : DictOp) (tag status result handle beat : Nat) (items : List RespItem) : Nat :=
  laid ((16, at' 0 1 + at' 1 op.code + at' 2 (tag % 2 ^ 16) + at' 4 (status % 256) + at' 5 (result % 256) +
    at' 6 items.length + at' 8 (handle % 2 ^ 32) + at' 12 (beat % 2 ^ 32)) :: items.map (responseItem op))

/-- A bound of an entry as its 8 bytes: two's complement for signed types. -/
def boundBytes (v : Int) : Nat := (v % 2 ^ 64).toNat

/-- An entry descriptor, 80 B (Table 14.10). -/
def Descriptor.image (d : Descriptor) : Nat :=
  at' 0 (d.index % 2 ^ 16) + at' 2 (d.sub % 256) + at' 3 (d.type % 256) + at' 4 (d.size % 2 ^ 16) + at' 6 (d.keeping % 256) +
    at' 7 (d.flags % 8) + column 8 1 ((d.access.take 4).map (· % 256)) + at' 12 (boundBytes d.minimum) +
    at' 20 (boundBytes d.maximum) + at' 28 (boundBytes d.dflt) + at' 36 (d.step % 2 ^ 32) + at' 40 (d.next % 2 ^ 32) +
    at' 48 (ofBytes ((d.name.toList.take 32).map Char.toNat))

/-- A descriptor as the response item that carries it. -/
def Descriptor.item (d : Descriptor) : RespItem := ⟨d.index, d.sub, d.error, d.type, d.image⟩

/-! ### Reading messages back -/

/-- The most items that fit in the 704 B of a tunnelled message. -/
def tunnelItems : Nat := 86

/-- Whether a request item's reserved bytes and padding are 0. -/
def itemClean (v len : Nat) : Bool :=
  fieldOf v 3 1 == 0 && fieldOf v 6 2 == 0 && fieldOf v (8 + len) (paddedBytes len - 8 - len) == 0

/-- Read `n` request items; the Boolean says that every reserved byte is 0, and that nothing follows. -/
def takeItems : Nat → Nat → List Item × Bool
  | 0, v => ([], v == 0)
  | n + 1, v =>
    let len := fieldOf v 4 2
    let rest := takeItems n (v / 256 ^ paddedBytes len)
    (⟨fieldOf v 0 2, fieldOf v 2 1, fieldOf v 8 len, len⟩ :: rest.1, itemClean v len && rest.2)

/-- Read a request that another member has tunnelled: its operation and message, which is malformed where a reserved field is not
0, or the version or the operation is none (Table 14.8). It has role T, whatever it came from (R360). -/
def readRequest (source image : Nat) : DictOp × DictMsg :=
  let n := fieldOf image 6 2
  let body := takeItems (min n tunnelItems) (image / 256 ^ 16)
  let op := DictOp.ofCode (fieldOf image 1 1)
  let clean := fieldOf image 0 1 == 1 && op.isSome && fieldOf image 12 4 < 2 && decide (n ≤ tunnelItems) && body.2
  (op.getD .read,
    { role := .fleet, link := 0, member := source, tag := fieldOf image 2 2, target := fieldOf image 4 2,
      handle := fieldOf image 8 4, snapshot := fieldOf image 12 1 % 2 == 1, malformed := !clean, items := body.1 })

/-- Read `n` response items. -/
def takeRespItems : Nat → Nat → List RespItem
  | 0, _ => []
  | n + 1, v =>
    let len := fieldOf v 4 2
    ⟨fieldOf v 0 2, fieldOf v 2 1, fieldOf v 3 1, fieldOf v 6 1, fieldOf v 8 len⟩ ::
      takeRespItems n (v / 256 ^ paddedBytes len)

/-- The items of a tunnelled response. -/
def readRespItems (image : Nat) : List RespItem := takeRespItems (min (fieldOf image 6 2) tunnelItems) (image / 256 ^ 16)

/-- Segment `k` of a message: 44 B (R235). -/
def segmentOf (image k : Nat) : Nat := image / 256 ^ (44 * k) % 256 ^ 44

/-- The message that segments make, each at its index. -/
def ofSegments (got : Map Nat) : Nat := (got.map fun e => at' (44 * e.1) (e.2 % 256 ^ 44)).foldl (· + ·) 0

end Sys2Proof.Machine
end

