-- ==== Sys2Proof/Machine/Reply.lean ====
section
/-! DEFINITION. Responses of the dictionary: how one leaves by the path of its request (R235, R359, R360), and the responses
that wait for a beat boundary (R357, R361). -/

namespace Sys2Proof.Machine

/-- Send a response to the member that asked, in TUNNEL_RSP cells of 44 B each (R235). -/
def State.sendSegments (s : State) (member tag bytes image : Nat) : State :=
  let n := ceilDiv bytes 44
  (List.range n).foldl (fun t k => t.queueCell (some member) (.tunnelRsp tag k n (segmentOf image k))) s

/-- The output of a dictionary request on the host's path: discarded when a reset came between, else it completes with source 0
(R67), and is readable once the link is up (Table 3.8). -/
def State.respondHost (s : State) (i tag : Nat) (o : Output) : State :=
  let l := s.link i
  if 65536 ≤ tag then s
  else if l.up then (s.emit o).signal i 0
  else (s.setLink i { l with mailDue := some o }).signal i 0

/-- Return a response by the path of its request. -/
def State.respond (s : State) (op : DictOp) (role : Role) (link : Fin 4) (member tag status result handle beat : Nat)
    (items : List RespItem) : State :=
  let o := Output.dict role link.val tag status result handle beat items
  match role with
  | .fleet => (s.emit o).sendSegments member tag (respBytes op items) (responseImage op tag status result handle beat items)
  | .host => s.respondHost link.val tag o
  | _ => s.emit o

/-- Handle of a slot and a generation (R361). -/
def handleOf (slot generation : Nat) : Nat := slot + 16 * generation

/-- A response item of an item of a change set. -/
def respOf (i : Item) (code : Nat) : RespItem :=
  ⟨i.index, i.sub, code, (match rowOf i.index i.sub with | some r => r.type | none => 0), 0⟩

/-- One more part of a waiting WRITE is done (R357); the last one sends the response. -/
def State.settleReply (s : State) (n place code beat : Nat) : State :=
  match s.dict.replies.find? n with
  | none => s
  | some r =>
    let items := r.items.zipIdx.map fun (e : RespItem × Nat) => if e.2 = place then { e.1 with error := code } else e.1
    if r.left ≤ 1 then
      { s with dict := { s.dict with replies := s.dict.replies.del n } }.respond .write r.role r.link r.member r.tag 0 0 0 beat
        items
    else { s with dict := { s.dict with replies := s.dict.replies.put n { r with items := items, left := r.left - 1 } } }

/-- A submitted set is done: its response goes out and its slot is free (R361). `fails` gives each failing item's code. -/
def State.settle (s : State) (u : Submitted) (result beat : Nat) (fails : List RespItem) : State :=
  match u.slot with
  | some k =>
    let h := handleOf k ((s.dict.sets.find? k).elim 0 (·.generation))
    { s with dict := { s.dict with sets := s.dict.sets.del k } }.respond .setSubmit u.role u.link u.member u.tag 0 result h
      beat fails
  | none => s.settleReply u.reply u.place ((fails.head?).elim result (·.error)) beat

/-- SAVE begins: every set that waits is refused with MODE (R86, R363). -/
def State.refuseSets (s : State) : State :=
  let t := s.dict.submitted.foldl (fun (t : State) u => t.settle u 7 0 []) s
  { t with dict := { t.dict with submitted := [] } }.addReg 0x1202 2 s.dict.submitted.length

end Sys2Proof.Machine
end

