-- ==== Sys2Proof/Machine/Desk.lean ====
section
/-! DEFINITION. The Group engine: slots and their commands (R175 to R190), joint groups (R192 to R198), rollback,
and what a decision does to a member's parts. -/

namespace Sys2Proof.Machine

/-! ### Touch queue (R286) -/

/-- A leaf enters the touch queue of 1,024 leaves, or waits for an entry; only an UNRESTORED leaf does. -/
def State.requestTouch (s : State) (leaf : Nat) : State :=
  if s.leaf leaf ≠ .unrestored ∨ s.save.touchWait.contains leaf then s
  else if s.save.touch.length < 1024 then
    ({ s with save := { s.save with touch := s.save.touch ++ [leaf] } }.setLeaf leaf .restoring .none).queueLeaf
      leaf 5 0 s.nowStamp true
  else { s with save := { s.save with touchWait := s.save.touchWait ++ [leaf] } }.addReg 0x5424 2 1

/-- Whether a leaf still waits for its restore. -/
def State.awaitsRestore (s : State) (leaf : Nat) : Bool :=
  decide (s.leaf leaf = .unrestored) || decide (s.leaf leaf = .restoring)

/-! ### Slots -/

/-- Record a command's result in its slot (Table 8.4). -/
def State.answer (s : State) (g res detail : Nat) : State :=
  s.setSlot g { s.slot g with result := res, detail := detail }

/-- Links whose Desk range holds a group. -/
def State.deskLinks (s : State) (g : Nat) : List Nat :=
  linkNos.filter fun i => s.layout.formed i && s.inDesk i g

/-- Source 7 for a change of state without a command on the slot (R181). -/
def State.signalGroup (s : State) (g : Nat) : State := s.signalOn (s.deskLinks g) 7

/-- Drop a group's journal entries; its chunks are free (R187). -/
def State.dropEntries (s : State) (g : Nat) : State :=
  { s with groups := { s.groups with journal := s.groups.journal.filter fun e => e.group != g } }

/-- Leaves that lose their last claim become DIRTY (R147, R184). -/
def State.unpin (s : State) (leaves : List Nat) : State :=
  leaves.foldl (fun t f =>
    if t.leaf f = .pinned ∧ (t.groups.claims.any fun c => c.1 / 16 == f) = false then t.setLeaf f .dirty .lazy else t) s

/-- Release claims on pages. -/
def State.unclaim (s : State) (pages : List Nat) : State :=
  { s with groups := { s.groups with claims := s.groups.claims.filter fun c => !pages.contains c.1 } }.unpin
    (pages.map (· / 16)).eraseDups

/-- Commit: COMMITTED, chunks freed, claims released (R188). -/
def State.commitGroup (s : State) (g : Nat) : State :=
  ((s.setSlot g { s.slot g with state := .committed, journalWait := false }).dropEntries g).unclaim (s.pagesOf g)

/-- Leaves that hold lines of a group's journal. -/
def State.journalLeaves (s : State) (g : Nat) : List Nat := ((s.entriesOf g).map (·.line / 256)).eraseDups

/-- Begin a rollback (R189): ABORTED and RUNNING until ROLLBACK_COMPLETE. `after` is the result that stands then;
leaves still UNRESTORED are restored first, by touch (R283). A CLAIM held for a touch waits behind the rollback from now on
(R58, R187). -/
def State.startRollback (s : State) (g : Nat) (after : Option (Nat × Nat)) : State :=
  let x := { s.slot g with state := .aborted, running := true, touching := false, journalWait := false, after := after }
  (s.journalLeaves g).foldl State.requestTouch (s.setSlot g x)

/-- Write a journalled pre-image back, with its poison (R186, R189); its units await no search any more (R140). Such a write, and a
restore's, is no write for heat (DESIGN CHOICE, log entry 180). -/
def State.restoreEntry (s : State) (e : JEntry) : State :=
  let marks : Map PoisonSource :=
    if e.poisoned then (List.range 4).map fun i => (e.line * 4 + i, PoisonSource.internal) else []
  let t := { s with mem := Mem.replace s.mem (e.line * 256) 256 e.pre }.setPoisonIn (e.line * 256) 256 marks
  ((List.range 4).map fun i => e.line * 4 + i).foldl State.unawait t

/-- Write a pre-image over its line through port JN, with the line's mirror writes (R88). -/
def State.writeBack (s : State) (e : JEntry) : State :=
  ((s.restoreEntry e).queueLine e.line 6 3 s.nowStamp true).mirrorLine e.line

/-- Write every pre-image of a group back, in descending journal sequence: each is read from the journal and written over its
line. -/
def State.restoreLines (s : State) (g : Nat) : State :=
  let es := s.entriesOf g
  (((List.range es.length).zip es).reverse).foldl (fun t e =>
    (t.queueAll (t.cupReads .journal (entryOffset g e.1) 272 6 3 t.nowStamp)).writeBack e.2) s

/-! ### Decisions -/

/-- Index and entry of a transaction in the decision table. -/
def State.decisionOf (s : State) (txn : Nat) : Option (Nat × Decision) :=
  List.find? (fun d => d.2.txn == txn) s.groups.decisions

/-- Change a decision table entry. -/
def State.setDecision (s : State) (i : Nat) (d : Decision) : State :=
  { s with groups := { s.groups with decisions := s.groups.decisions.put i d } }

/-- Full acknowledgement map of a roster. -/
def fullMap (d : Decision) : Nat := 2 ^ d.roster.length - 1

/-- Free an entry once every bit is set and its anchor slot has been freed (R196). -/
def State.forget (s : State) (i : Nat) : State :=
  match s.groups.decisions.find? i with
  | none => s
  | some d =>
    if 2 ≤ d.state ∧ d.acked = fullMap d ∧ ¬ ((s.slot d.slot).anchor = true ∧ (s.slot d.slot).txn = d.txn) then
      { s with groups := { s.groups with decisions := s.groups.decisions.del i } }
    else s

/-- Position of a member in a roster. -/
def rosterIndex (roster : List Nat) (m : Nat) : Option Nat :=
  (List.range roster.length).find? fun i => decide (roster[i]? = some m)

/-- Set a member's acknowledgement bit (R196); ignored without an entry, or once the bit is set (R226). -/
def State.acknowledge (s : State) (m txn : Nat) : State :=
  match s.decisionOf txn with
  | none => s
  | some (i, d) =>
    match rosterIndex d.roster m with
    | none => s
    | some k =>
      if d.acked / 2 ^ k % 2 = 1 then s
      else (s.setDecision i { d with acked := d.acked + 2 ^ k }).forget i

/-- Parts of a transaction in the states PREPARED and IN_DOUBT. -/
def State.partsOf (s : State) (txn : Nat) : List Nat :=
  (s.groups.slots.filter fun e => e.2.txn == txn && !e.2.anchor && (decide (e.2.state = .prepared) ||
    decide (e.2.state = .inDoubt))).map (·.1)

/-- Whether every part of a transaction has finished here. -/
def State.partsDone (s : State) (txn : Nat) : Bool :=
  s.groups.slots.all fun e => !(e.2.txn == txn && !e.2.anchor &&
    (decide (e.2.state = .prepared) || decide (e.2.state = .inDoubt) || e.2.running))

/-- Once every part has finished, acknowledge: to the anchor, or in the own entry when this member is the anchor
(R194, R195). -/
def State.ackIfDone (s : State) (txn : Nat) : State :=
  if s.partsDone txn then
    (if anchorOf txn = s.member then s.acknowledge s.member txn else s.sendTxn false (anchorOf txn) txn)
  else s

/-- Apply a decision to one part (R188, R189). An IN_DOUBT part gets RESTORED set (Table 8.5). -/
def State.resolvePart (commit forced : Bool) (s : State) (g : Nat) : State :=
  let x := s.slot g
  let y := { x with restored := x.restored || decide (x.state = .inDoubt) || forced, forced := x.forced || forced }
  let s1 := s.setSlot g y
  ((if commit then s1.commitGroup g else s1.startRollback g none)).signalGroup g

/-- Apply a decision to every part of a transaction. -/
def State.resolveParts (s : State) (txn : Nat) (commit forced : Bool) : State :=
  (s.partsOf txn).foldl (State.resolvePart commit forced) s

/-- The last `n` elements of a list. -/
def lastOf {α : Type} (n : Nat) (l : List α) : List α := (l.reverse.take n).reverse

/-- Keep a decision that found no part, among the last 4,096 (R195). -/
def State.cacheDecision (s : State) (txn : Nat) (commit : Bool) : State :=
  let rest := s.groups.cache.filter fun c => c.txn != txn
  { s with groups := { s.groups with
      cache := lastOf 4095 rest ++ [{ txn := txn, commit := commit, beat := s.clock.beat }] } }

/-- The roster members that a DECIDE cell names: all but this member that have not acknowledged and are alive (R224). -/
def State.decideTargets (s : State) (d : Decision) : List Nat :=
  ((List.range d.roster.length).filter fun k => d.acked / 2 ^ k % 2 == 0).filterMap fun k =>
    match d.roster[k]? with
    | some m => if m ≠ s.member ∧ s.alive m then some m else none
    | none => none

/-- Send the DECIDE cell of a decided entry (R196, R224). -/
def State.sendDecide (s : State) (i : Nat) : State :=
  match s.groups.decisions.find? i with
  | none => s
  | some d =>
    if d.state < 2 ∨ s.decideTargets d = [] then s
    else (s.setDecision i { d with sentBeat := s.clock.ext.toNat }).queueCell none
      (.decide (s.decideTargets d) d.txn (d.state == 2))

/-- Record a decision at the anchor and apply it to the parts on the anchor itself (R194). `presumed` marks presumed
abort (R197); DECIDE cells leave afterwards. -/
def State.decideHere (s : State) (i : Nat) (d : Decision) (commit presumed : Bool) : State :=
  let e := { d with state := if commit then 2 else 3, decidedBeat := s.clock.ext, presumed := presumed }
  let s1 := s.setDecision i e
  let own := s1.partsOf d.txn
  let s2 := if own = [] then (s1.cacheDecision d.txn commit) else s1.resolveParts d.txn commit false
  (s2.ackIfDone d.txn).sendDecide i

/-! ### Commands -/

/-- Result of a command that fails its check (code and detail), or none. -/
abbrev Verdict := Option (Nat × Nat)

/-- R178 step 1: whether the slot's state admits the opcode. -/
def admits (x : Slot) (opcode : Nat) : Bool :=
  if x.anchor then (opcode == 8 && decide (x.state = .opened)) ||
    (opcode == 9 && (decide (x.state = .committed) || decide (x.state = .aborted)))
  else match opcode with
    | 1 | 6 => decide (x.state = .free)
    | 2 | 3 | 4 | 5 | 7 => decide (x.state = .opened)
    | 9 => decide (x.state = .committed) || decide (x.state = .aborted)
    | _ => false

/-- R178 steps 1 and 2 as far as the command word and the slot decide them. -/
def wordCheck (x : Slot) (opcode : Nat) (a : DeskArgs) : Verdict :=
  if opcode = 0 ∨ 9 < opcode then some (6, x.state.code)
  else if opcode = 8 ∧ x.anchor = false then some (11, 0)
  else if x.jfull = true ∧ opcode ≠ 9 then some (5, 0)
  else if admits x opcode = false then some (6, x.state.code)
  else match badField opcode a with
    | some p => some (13, p)
    | none => none

/-- The first index below a count that satisfies a test. -/
def firstIndex (p : Nat → Bool) : Nat → Nat → Option Nat
  | 0, _ => none
  | n + 1, i => if p i then some i else firstIndex p n (i + 1)

/-- Pages that a CLAIM names. -/
def claimPages (a : DeskArgs) : List Nat :=
  (List.range a.specific.toNat).map fun i => operandPage a.operands + i

/-- Whether a page lies in the link's DPA range and in an enabled ATOMIC window (Table 8.4, code 8). -/
def State.claimable (s : State) (link page : Nat) : Bool :=
  decide (page * 4096 < s.layout.hostVisible) && s.inPartition link (page * 4096) && s.atomicAt (page * 4096)

/-- CLAIM: the checks that come before the resources (R182). A count above 65,536 is refused whatever the range. -/
def State.claimRange (s : State) (a : DeskArgs) : Verdict :=
  let count := a.specific.toNat
  let first := operandPage a.operands
  if 65536 < count then some (9, 0)
  else match firstIndex (fun i => !s.claimable a.link.val (first + i)) count 0 with
    | some i => some (8, i)
    | none =>
      match firstIndex (fun i => match s.groups.claims.find? (first + i) with
                                 | some c => c.group != a.group | none => false) count 0 with
      | some i => some (4, match s.groups.claims.find? (first + i) with | some c => c.group | none => 0)
      | none => none

/-- Pages that a CLAIM would newly claim. -/
def State.newPages (s : State) (a : DeskArgs) : List Nat :=
  (claimPages a).filter fun p => (s.groups.claims.find? p).isNone

/-- CLAIM: the resource checks (R182, R166). -/
def State.claimResources (s : State) (a : DeskArgs) : Verdict :=
  let new := s.newPages a
  let leaves := (new.map (· / 16)).eraseDups
  let added := leaves.filter fun f => decide (s.leaf f = .clean) || decide (s.leaf f = .lost)
  let pinned := leaves.filter fun f => decide (s.leaf f ≠ .pinned)
  let dc := 65544 * added.length + 4368 * new.length
  let dp := 65544 * pinned.length + 4368 * new.length
  if 8388608 < s.nClaimed + new.length then some (9, 8388608 - s.nClaimed)
  else if s.nand.unavailable then some (3, 0)
  else if s.budget * 95 / 100 < s.pinnedCost + dp + headroomH then some (3, 0)
  else if s.holdCause dc added ≠ 0 then some (1, s.holdCause dc added)
  else none

/-- Leaves of a CLAIM that are not restored yet (R286). -/
def State.claimAwaits (s : State) (a : DeskArgs) : List Nat :=
  (((claimPages a).map (· / 16)).eraseDups).filter s.awaitsRestore

/-- Pin a leaf for a claim (R147, R183), making it valid first when LOST (R148); a copy of it in progress is not credited
(R149). -/
def State.pin (s : State) (leaf : Nat) : State :=
  if s.leaf leaf = .pinned then s
  else if (s.leaf leaf).nonClean then ((s.setLeaf leaf .pinned .before).uncredit leaf).reserveMirror leaf
  else ((s.validate leaf).setLeaf leaf .pinned .before).mirrorNew leaf

/-- Accept a CLAIM's new pages (R183). -/
def State.claimAll (s : State) (a : DeskArgs) : State :=
  let new := s.newPages a
  let s1 := { s with groups := { s.groups with
    claims := new.foldl (fun m p => m.put p { group := a.group, lines := 0 }) s.groups.claims } }
  ((new.map (· / 16)).eraseDups).foldl State.pin s1

/-- Pages that a RELEASE names and the group holds (R184). -/
def State.releasePages (s : State) (a : DeskArgs) : List Nat :=
  (s.pagesOf a.group).filter fun p =>
    a.flag || (decide (operandPage a.operands ≤ p) && decide (p < operandPage a.operands + a.specific.toNat))

/-- Whether a claimed page has a journalled line. -/
def State.journalled (s : State) (page : Nat) : Bool :=
  match s.groups.claims.find? page with
  | some c => decide (c.lines ≠ 0)
  | none => false

/-- Roster of a BEGIN_JOINT. -/
def rosterCount (a : DeskArgs) : Nat := a.specific.toNat % 32

/-- Roster entries of a BEGIN_JOINT, all 16 bits of each. -/
def rosterOf (a : DeskArgs) : List Nat := (List.range (rosterCount a)).map fun i => operandRoster a.operands i

/-- BEGIN_JOINT's roster check (Table 8.4, code 12). -/
def State.rosterCheck (s : State) (a : DeskArgs) : Verdict :=
  let roster := rosterOf a
  if rosterCount a = 0 ∨ 16 < rosterCount a then some (12, 0x10)
  else match (List.range roster.length).find? fun i =>
      match roster[i]? with
      | some m => decide (1024 ≤ m) || !s.rosterHas m || (roster.take i).contains m
      | none => false with
    | some i => some (12, i)
    | none => if roster.all fun m => m == s.member then some (12, 0x11) else none

/-- BEGIN_JOINT's checks in order: domain (R232), roster, liveness, room (R192). -/
def State.beginCheck (s : State) (a : DeskArgs) : Verdict :=
  if s.inDomain = false then some (7, 0x3FF)
  else match s.rosterCheck a with
    | some v => some v
    | none =>
      match (rosterOf a).find? fun m => !s.alive m with
      | some m => some (7, m)
      | none => if 65536 ≤ s.groups.decisions.length then some (1, 0) else none

/-- The lowest index that a table does not list. -/
def freeIndex {α : Type} (m : Map α) : Nat :=
  match (List.range (m.length + 1)).find? fun i => (m.find? i).isNone with
  | some i => i
  | none => m.length

/-- BEGIN_JOINT: the transaction ID, its counter advanced, and an UNDECIDED entry (R192). -/
def State.beginJoint (s : State) (a : DeskArgs) : State :=
  let counter := s.reg 0x4420 0 % 2 ^ 54
  let txn := s.member * 2 ^ 54 + counter
  let d : Decision := { txn := txn, state := 1, roster := rosterOf a, acked := 0, slot := a.group,
                        begunBeat := s.clock.ext, decidedBeat := 0, sentBeat := 0, presumed := false }
  let x := { s.slot a.group with
             state := .opened, anchor := true, part := false, jfull := false, restored := false, forced := false, lines := 0, discarded := 0, txn := txn, openedAt := s.groups.nextOpen }
  let s1 := (s.setDecision (freeIndex s.groups.decisions) d).setReg 0x4420 0 (counter + 1)
  { s1 with groups := { s1.groups with nextOpen := s.groups.nextOpen + 1 } }.setSlot a.group x

/-- PREPARE's checks in order (R193). -/
def State.prepareCheck (s : State) (a : DeskArgs) : Verdict :=
  let m := anchorOf (operandTxn a.operands)
  if s.inDomain = false then some (7, 0x3FF)
  else if s.rosterHas m = false then some (12, 0)
  else if s.alive m = false then some (7, m)
  else none

/-- Record a detectable departure from the joint protocol (R198). -/
def State.unprepared (s : State) : State :=
  (s.addReg 0x4425 0 1).faultOpen Code.jointUnprepared

/-- PREPARE on a part that the checks pass (R193): LATE with the cached decision, or PREPARED. -/
def State.prepare (s : State) (a : DeskArgs) : State :=
  let txn := operandTxn a.operands
  match s.groups.cache.find? fun c => c.txn == txn with
  | some c =>
    let s1 := ((s.addReg 0x4424 0 1).unprepared)
    if c.commit then (s1.commitGroup a.group).answer a.group 10 1
    else s1.startRollback a.group (some (10, 0))
  | none =>
    (s.setSlot a.group { s.slot a.group with state := .prepared, part := true, txn := txn,
                                             queryBeat := s.clock.beat }).answer a.group 0 0

/-- DECIDE on an OPEN anchor slot (R194). -/
def State.decide' (s : State) (a : DeskArgs) : State :=
  let x := s.slot a.group
  match s.decisionOf x.txn with
  | none => (s.setSlot a.group { x with state := .aborted }).answer a.group 10 0
  | some (i, d) =>
    if d.state = 1 then
      ((s.setSlot a.group { x with state := if a.flag then .committed else .aborted }).decideHere i d a.flag
        false).answer a.group 0 0
    else
      ((s.setSlot a.group { x with state := if d.state = 2 then .committed else .aborted }).addReg 0x4424 0 1).answer
        a.group 10 (if d.state = 2 then 1 else 0)

/-- ACK_TERMINAL (R190): the slot is FREE; on JFULL its claims are released; the anchor's entry may end. -/
def State.ackTerminal (s : State) (g : Nat) : State :=
  let x := s.slot g
  let s1 := s.setSlot g { Slot.reset with lastOpcode := x.lastOpcode, lastSeq := x.lastSeq, stage := x.stage,
                                          waiting := x.waiting, mail := x.mail, result := 0, detail := 0 }
  let s2 := if x.jfull then s1.unclaim (s1.pagesOf g) else s1
  if x.anchor then (match s.decisionOf x.txn with | some (i, _) => s2.forget i | none => s2) else s2

/-- The effect of an accepted command whose word and slot pass R178 step 1 and the field check. -/
def State.deskEffect (s : State) (opcode : Nat) (a : DeskArgs) : State :=
  let g := a.group
  match opcode with
  | 1 =>
    let x := { s.slot g with
               state := .opened, anchor := false, part := false, jfull := false, restored := false, forced := false, lines := 0, discarded := 0, txn := 0, openedAt := s.groups.nextOpen,
               result := 0, detail := 0 }
    { s with groups := { s.groups with nextOpen := s.groups.nextOpen + 1 } }.setSlot g x
  | 2 =>
    if a.specific = 0 then s.answer g 0 0
    else match s.claimRange a with
      | some v => s.answer g v.1 v.2
      | none =>
        match s.claimResources a with
        | some v => (if v.1 = 3 then s.addReg 0x4018 3 1 else s).answer g v.1 v.2
        | none => (s.claimAll a).answer g 0 0
  | 3 =>
    if a.flag = false ∧ 65536 < a.specific.toNat then s.answer g 9 0
    else
      let kept := (s.releasePages a).filter s.journalled
      let freed := (s.releasePages a).filter fun p => !s.journalled p
      (s.unclaim freed).answer g 0 kept.length
  | 4 => (s.commitGroup g).answer g 0 0
  | 5 => s.startRollback g (some (0, 0))
  | 6 =>
    match s.beginCheck a with
    | some v => s.answer g v.1 v.2
    | none => (s.beginJoint a).answer g 0 0
  | 7 =>
    match s.prepareCheck a with
    | some v => s.answer g v.1 v.2
    | none => s.prepare a
  | 8 => s.decide' a
  | 9 => s.ackTerminal g
  | _ => s

/-- A CLAIM that reaches leaves not restored yet waits for them (R286): only when nothing before the resource checks
refuses it. -/
def State.claimWaits (s : State) (opcode : Nat) (a : DeskArgs) : Bool :=
  decide (opcode = 2) && decide (a.specific ≠ 0) && (wordCheck (s.slot a.group) opcode a).isNone
    && (s.claimRange a).isNone && decide (s.claimAwaits a ≠ [])

/-- The answer of a DESK_COMMAND: the slot's status after the command (R57). -/
def State.mailAnswer (g : Nat) (s : State) (i : Nat) : State := s.mail i 0xC200 .success [s.slotStatus g]

/-- A command over the mailbox answers now, or once RUNNING has cleared (R180). -/
def State.deskDone (s : State) (a : DeskArgs) : State :=
  let x := s.slot a.group
  if a.mailbox = false then s
  else if x.running then s.setSlot a.group { x with mail := x.mail ++ [a.link.val] }
  else s.mailAnswer a.group a.link.val

/-- RUNNING has cleared: the mailbox commands that waited for it answer. -/
def State.mailFlush (s : State) (g : Nat) : State :=
  let x := s.slot g
  x.mail.foldl (State.mailAnswer g) (s.setSlot g { x with mail := [] })

/-- Execute a command that holds its operands (R177, R178): a wrong sequence changes result and detail only. -/
def State.deskRun (s : State) (opcode : Nat) (a : DeskArgs) : State :=
  let g := a.group
  let x := s.slot g
  if x.running then s.setSlot g { x with waiting := x.waiting ++ [(opcode, a)] }
  else if a.seq ≠ x.lastSeq + 1 then ((s.addReg 0x4405 0 1).answer g 2 (x.lastSeq + 1).toNat).deskDone a
  else if s.claimWaits opcode a then
    (s.claimAwaits a).foldl State.requestTouch
      (s.setSlot g { x with running := true, touching := true, waiting := (opcode, a) :: x.waiting })
  else
    let s1 := s.setSlot g { x with lastSeq := a.seq, lastOpcode := opcode }
    match wordCheck x opcode a with
    | some v => (s1.answer g v.1 v.2).deskDone a
    | none => (s1.deskEffect opcode a).deskDone a

/-- R47: an access outside the link's Desk range is not executed. -/
def State.deskViolation (s : State) (link : Nat) : State :=
  (s.addReg 0x2032 (link + 1) 1).note Code.deskRangeViolation

/-- A slot read (R179, R180). -/
def State.serveDesk (s : State) (i g : Nat) : State :=
  if s.inDesk i g then s.emit (.deskData i g (s.slotStatus g) (s.devLoad i))
  else (s.deskViolation i).emit (.deskData i g (2 ^ 512 - 1) (s.devLoad i))

/-- Whether a held read is one of a slot's status. -/
def HeldRead.ofSlot (r : HeldRead) (g : Nat) : Bool := r.wait == .rollback && r.dpa / 64 == deskBase / 64 + g

/-- The held reads of a slot with no command left before them are answered (R180). -/
def State.answerReads (s : State) (g : Nat) : State :=
  (s.ingress.reads.filter fun r => r.ofSlot g && r.ahead == 0).foldl (fun t r => t.serveDesk r.link.val g)
    { s with ingress := { s.ingress with reads := s.ingress.reads.filter fun r => !(r.ofSlot g && r.ahead == 0) } }

/-- Every slot read still held is answered. -/
def State.answerSlots (s : State) : State :=
  (s.ingress.reads.filter fun r => r.wait == .rollback).foldl (fun t r => t.serveDesk r.link.val (r.dpa / 64 - deskBase / 64))
    { s with ingress := { s.ingress with reads := s.ingress.reads.filter fun r => r.wait != .rollback } }

/-- One waiting command of a slot has been executed. -/
def State.readsAdvance (s : State) (g : Nat) : State :=
  let reads := s.ingress.reads.map fun r => if r.ofSlot g then { r with ahead := r.ahead - 1 } else r
  { s with ingress := { s.ingress with reads := reads } }

/-- Run one command that waited, and answer the reads that waited for it alone (R58, R180). -/
def State.deskNext (g : Nat) (s : State) (c : Nat × DeskArgs) : State :=
  if (s.slot g).running then s.deskRun c.1 c.2
  else
    let t := (s.deskRun c.1 c.2).readsAdvance g
    if (t.slot g).running then t else t.answerReads g

/-- Run the commands that waited behind an earlier one, in order of arrival (R58). -/
def State.deskResume (s : State) (g : Nat) : State :=
  let x := s.slot g
  x.waiting.foldl (State.deskNext g) (s.setSlot g { x with waiting := [] })

/-- A rollback ends (R189, R187): pre-images written, chunks freed, claims released unless JFULL, RUNNING clear, and the
mailbox commands that waited for that answered. A part whose ABORT came by a decision is acknowledged (R195). -/
def State.endRollback (s : State) (g : Nat) : State :=
  let s1 := (s.restoreLines g).dropEntries g
  let x := s1.slot g
  let y := { x with running := false, after := none,
                    result := (match x.after with | some r => r.1 | none => x.result),
                    detail := (match x.after with | some r => r.2 | none => x.detail) }
  let s2 := s1.setSlot g y
  let s3 := if x.jfull then s2 else s2.unclaim (s2.pagesOf g)
  (if x.part then s3.ackIfDone x.txn else s3).mailFlush g

/-- Whether a group's rollback runs and every leaf it needs is restored. -/
def State.rollbackReady (s : State) (g : Nat) : Bool :=
  let x := s.slot g
  x.running && !x.touching && decide (x.state = .aborted) && (s.journalLeaves g).all fun f => !s.awaitsRestore f

/-! ### Slot writes -/

/-- Whether a Desk access of a link is held or busy: host access is closed, or ingress has closed for SAVE. -/
def State.deskClosed (s : State) : Bool := !s.ctl.access || s.ingress.closed

/-- A slot write reaches the Group engine (R175, R176). -/
def State.deskWrite (s : State) (opcode : Nat) (a : DeskArgs) : State :=
  if s.inDesk a.link.val a.group = false then s.deskViolation a.link.val
  else
    let x := s.slot a.group
    let stage := a.merge x.stage
    if opcode = 0 then s.setSlot a.group { x with stage := stage }
    else (s.setSlot a.group { x with stage := 0 }).deskRun opcode { a with operands := stage }

end Sys2Proof.Machine
end

