-- ==== Sys2Proof/Machine/Ingress.lean ====
section
/-! DEFINITION. Host requests in ingress (R16 to R20, R50 to R53, R163 to R165, R185 to R187): what a write waits for,
what it does when it is carried out, and what a read returns. -/

namespace Sys2Proof.Machine

/-! ### Sleep consent and wake sources (R334, R335) -/

/-- Withdraw recorded consents; SLEEP_ABANDONED when there was one to withdraw (R334). -/
def State.withdraw (s : State) (mask : BitVec 4) : State :=
  if s.ctl.consents &&& mask = 0 then s
  else { s with ctl := { s.ctl with consents := s.ctl.consents &&& ~~~mask } }.note Code.sleepAbandoned

/-- Links brought out of L1 by a wake: the one the event arrived on, and those where traffic waits (R338). -/
def State.wakeLinks (s : State) (on : Option Nat) : List Nat :=
  linkNos.filter fun i => decide ((s.link i).state = .l1) && (decide (on = some i) ||
    (s.ingress.writes.any fun w => w.w.link.val == i && w.wait == .closed) ||
    (s.ingress.reads.any fun r => r.link.val == i && r.wait == .closed))

/-- A trickle period ends (R173). -/
def State.endPeriod (s : State) : State :=
  if s.ctl.tricklePeriod then
    { s with ctl := { s.ctl with tricklePeriod := false, periods := s.ctl.periods ++ [(s.ctl.periodFrom, s.clock.beat)] } }
  else s

/-- DQS is checked on every channel that runs, in one training window of at most 2 µs (R338). -/
def State.checkDqs (s : State) : State :=
  ((List.range 13).filter fun c => decide (s.reg (0x3400 + c) 2 ≠ 0)).foldl (fun t c => t.window c 2000) s

/-- Begin a wake from DROWSE: DRAM leaves self-refresh, a trickle period ends, the workers are released, links leave L1, and
consents are cleared (R338). -/
def State.beginWake (s : State) (on : Option Nat) : State :=
  let ws := s.wakeLinks on
  if s.ctl.waking then s
  else
    let t := (s.endPeriod).checkDqs
    { t with ctl := { t.ctl with waking := true, wakeBeat := s.clock.beat, workersHalted := false, consents := 0 },
             links := ws.foldl (fun m i => m.put i { m.get i Link.reset with state := .l0 }) t.links,
             out := t.out ++ ws.map Output.wakeLink }

/-- Whether a wake source is enabled; HOST always is. -/
def State.wakeEnabled (s : State) (src : Nat) : Bool := src == 0 || s.reg 0x1111 0 / 2 ^ src % 2 == 1

/-- A wake source fires (R335): its bit stands in `wake_cause`; in DROWSE an enabled one begins the wake; in ONLINE
one other than HOST withdraws every consent (R334). -/
def State.fire (s : State) (src : Nat) (on : Option Nat) : State :=
  let s1 := s.setReg 0x1113 0 (2 ^ src)
  if s.wakeEnabled src = false then s1
  else match s.ctl.mode with
    | .drowse => s1.beginWake on
    | .online => if src = 0 then s1 else s1.withdraw 15
    | _ => s1

/-- A CXL.mem request arrives: HOST fires, and the link's own consent is withdrawn (R59, R334). -/
def State.memArrives (s : State) (i : Nat) : State :=
  let s1 := s.fire 0 (some i)
  if s.ctl.mode = .online then s1.withdraw (BitVec.ofNat 4 (2 ^ i)) else s1

/-! ### Links' load -/

/-- Global Persistent Flush completes on a link whose ingress has drained (R19, R54). -/
def State.flushed (s : State) : State :=
  linkNos.foldl (fun t i =>
    if (t.link i).gpfWait ∧ t.occupancy i = 0 then
      (t.setLink i { t.link i with gpfWait := false }).emit (.gpfDone i)
    else t) s

/-- Source 9 when a link's DevLoad reaches Severe Overload (Table 3.6). -/
def State.loads (s : State) : State :=
  linkNos.foldl (fun t i =>
    let sev := decide (t.devLoad i = .severe)
    let l := t.link i
    if sev = l.severe then t
    else if sev then (t.setLink i { l with severe := sev }).signal i 9 else t.setLink i { l with severe := sev }) s.flushed

/-- Source 6 on each link where admission hold began or ended (R165); without a hold the overdraw regime is over (R158). -/
def State.holdEdges (s before : State) : State :=
  linkNos.foldl (fun t i => if decide (0 < before.heldWrites i) = decide (0 < s.heldWrites i) then t else t.signal i 6)
    (if s.holding then s else { s with trickle := { s.trickle with overdrawn := false } })

/-! ### Requests that cannot be served yet -/

/-- Whether another link's Sanitize runs (R60). -/
def State.sanitizing (s : State) (i : Nat) : Bool :=
  s.links.any fun e => e.1 != i && (match e.2.background with | some (0x4400, true, _) => true | _ => false)

/-- Whether a link's requests wait for host access: closed (R52), in DROWSE (R338), or behind a Sanitize (R60). -/
def State.shut (s : State) (i : Nat) : Bool :=
  !s.ctl.access || decide (s.ctl.mode = .drowse) || s.sanitizing i

/-- Whether a line belongs to an IN_DOUBT part (R33). -/
def State.fenced (s : State) (dpa : Nat) : Bool :=
  match s.groups.claims.find? (pageOf dpa) with
  | some c => decide ((s.slot c.group).state = .inDoubt)
  | none => false

/-! ### Reads -/

/-- Data with a write's enabled bytes merged in. -/
def mergeData (old : Data64) (w : MemWrite) : Data64 :=
  (List.range 64).foldl (fun d i =>
    if w.be.getLsbD i then
      (d &&& ~~~((0xFF : Data64) <<< (8 * i))) ||| ((w.data.extractLsb' (8 * i) 8).zeroExtend 512 <<< (8 * i))
    else d) old

/-- Whether a write enables all 64 bytes. -/
def MemWriteFull (w : MemWrite) : Bool := decide (w.be = BitVec.allOnes 64)

/-- Poison of a unit after a write (R62): a poisoned write poisons it, an ordinary write of the whole 64 B clears it.
A partial write leaves it (log entry 12). -/
def poisonAfter (old : Bool) (w : MemWrite) : Bool := w.poison || (old && !MemWriteFull w)

/-- What a read of a 64 B unit returns: the latest data in ingress over DRAM (R20), and whether it is poisoned:
marked, LOST, or fenced (R24, R61). -/
def State.readUnit (s : State) (dpa : Nat) : Data64 × Bool :=
  let a := alignUnit dpa
  let base := (Mem.read64 s.mem a, (s.poison.find? (unitOf a)).isSome || decide (s.leaf (leafOf a) = .lost))
  let r := (s.ingress.writes.filter fun e => e.wait != .draining && alignUnit e.w.dpa == a).foldl
    (fun (d : Data64 × Bool) e => (mergeData d.1 e.w, poisonAfter d.2 e.w)) base
  if r.2 || s.fenced a then (0, true) else r

/-- The burst of a read. While the channel is LOST, with no spare, the mirror's copy is read on the touch path, or the line comes
from the leaf's flash copy (R141, Table 6.4). -/
def State.readBurst (s : State) (i dpa : Nat) (stamp : BitVec 16) : List Burst :=
  let a := alignUnit dpa
  if s.reg (0x3400 + s.physical (s.layout.logical dpa)) 1 ≠ 3 then [s.unitBurst a i 1 stamp false none]
  else if s.mirrored (unitOf a) then
    [{ s.mirrorBurst a stamp none .none with port := 5, own := 0, cls := s.classOf 5 0, write := false }]
  else []

/-- Serve a read that waits for nothing: its burst and its data. -/
def State.serveRead (s : State) (i dpa : Nat) (stamp : BitVec 16) : State :=
  let r := s.readUnit dpa
  (s.queueAll (s.readBurst i dpa stamp)).emit (.readData i dpa r.1 r.2 (s.devLoad i))

/-- Whether a DPA lies on the lost channel in a leaf not yet rebuilt (R141). -/
def State.unrebuilt (s : State) (dpa : Nat) : Bool :=
  s.dram.lostLogical == some (s.layout.logical dpa) && s.toRebuild (leafOf dpa)

/-- Units of a leaf on a logical channel. -/
def Layout.unitsOn (l : Layout) (leaf d : Nat) : List Nat :=
  ((List.range 1024).map fun i => leaf * 1024 + i).filter fun u => l.logical (u * 64) == d

/-- Bursts of the rebuild of a leaf's lines (R138 step 4, Table 6.4): what the mirror holds is read, at the touch path's
class 0 or in the background at class 5, and every line is written to the spare at class 5. -/
def State.rebuildBursts (s : State) (leaf d own : Nat) (job : Job) : List Burst :=
  let us := s.layout.unitsOn leaf d
  let reads := (us.filter s.mirrored).map fun u =>
    { s.mirrorBurst (u * 64) s.nowStamp none job with port := 5, own := own, cls := s.classOf 5 own, write := false }
  reads ++ us.map fun u => { s.unitBurst (u * 64) 5 5 s.nowStamp true none with job := job }

/-- A read of a lost channel's line not yet rebuilt has the whole leaf's lines rebuilt first, on the touch path (R141). -/
def State.requestRebuild (s : State) (leaf : Nat) : State :=
  match s.dram.lostLogical with
  | some d =>
    if s.dram.rebuildTouch.contains leaf then s
    else { s with dram := { s.dram with rebuildTouch := s.dram.rebuildTouch ++ [leaf] } }.queueAll
      (s.rebuildBursts leaf d 0 .touchLines)
  | none => s

/-- Why a read waits, if it does (R52, R139, R141, R286). -/
def State.readWait (s : State) (i dpa : Nat) : Option Wait :=
  if s.shut i then some .closed
  else match s.region dpa with
    | .memory =>
      if s.awaitsRestore (leafOf dpa) then some .touch
      else if s.awaits (unitOf dpa) then some .search
      else if s.unrebuilt dpa then some .touch
      else none
    | _ => none

/-- A read in ingress: served, or held; a touch enters the touch queue (R286). -/
def State.read (s : State) (link : Fin 4) (dpa : Nat) (stamp : BitVec 16) : State :=
  match s.readWait link.val dpa with
  | none =>
    match s.region dpa with
    | .desk g => s.serveDesk link.val g
    | _ => s.serveRead link.val dpa stamp
  | some w =>
    let s1 := if w = .touch then
        (if s.awaitsRestore (leafOf dpa) then s.requestTouch (leafOf dpa) else s.requestRebuild (leafOf dpa))
      else s
    let t := { s1 with ingress := { s1.ingress with
      reads := s1.ingress.reads ++ [({ link := link, dpa := dpa, wait := w, stamp := stamp, ahead := 0 } : HeldRead)] } }
    t.emit (.held link.val)

/-! ### Writes -/

/-- A write in ingress. -/
def State.ingressWrite (s : State) (id : Nat) : Option IngressWrite := s.ingress.writes.find? fun e => e.id == id

/-- Change what a write waits for; an admission hold begins at the beat at which the write is put under it (R165). -/
def State.setWait (s : State) (id : Nat) (w : Wait) : State :=
  { s with ingress := { s.ingress with writes := s.ingress.writes.map fun e =>
      if e.id = id then { e with wait := w, since := if w = .admission ∧ e.wait ≠ .admission then s.clock.beat else e.since }
      else e } }

/-- A write leaves ingress. -/
def State.dropWrite (s : State) (id : Nat) : State :=
  { s with ingress := { s.ingress with writes := s.ingress.writes.filter fun e => e.id != id } }

/-- The completion of a carried-out write while it is still due: a CXL.mem completion on a link that is up, or the mailbox's
answer to Inject Poison and Clear Poison (R50, R62, Table 3.8). -/
def State.completeWrite (s : State) (e : IngressWrite) : State :=
  let i := e.w.link.val
  if e.reply = false then s
  else match e.source with
    | .external => if (s.link i).up then s.emit (.writeDone i e.w.dpa (s.devLoad i)) else s
    | .injected => s.mail i 0x4301 .success []
    | _ => s.mail i 0x4302 .success []

/-- A write of part of a 64 B that awaits a search ends its wait (R140); no rule says what the bytes that it does not enable then
hold, and they are free values (log entry 174). -/
def State.openAwaiting (s : State) (w : MemWrite) : State :=
  if s.awaits (unitOf w.dpa) = true ∧ MemWriteFull w = false then
    { s.drawn with mem := Mem.write64 s.mem (alignUnit w.dpa) (BitVec.ofNat 512 (Config.free s.free)) (BitVec.allOnes 64) }
  else s

/-- DRAM, poison, heat and bursts of a write that is carried out on a leaf that is not CLEAN or LOST any more
(R62, R153, R80, R90). -/
def State.storeWrite (s0 : State) (e : IngressWrite) : State :=
  let s := s0.openAwaiting e.w
  let a := alignUnit e.w.dpa
  let leaf := leafOf a
  let unit := unitOf a
  let s1 := if s.leaf leaf = .copying then (s.setLeaf leaf .dirty .none).uncredit leaf else s
  let s2 := if e.w.poison then s1.markPoison unit e.source
            else if MemWriteFull e.w then s1.unmarkPoison unit else s1
  let s3 := { s2 with mem := Mem.write64 s2.mem a e.w.data e.w.be }.unawait unit
  let s4 := ((s3.touchHeat leaf).setReg 0x2400 3 0).reserveMirror leaf
  let b := s4.unitBurst a e.w.link.val 2 e.w.stamp true (some e.id)
  if s4.mirrorCopied.contains leaf then
    (s4.queueAll [b, { s4.mirrorBurst a e.w.stamp (some e.id) .none with mate := 1 }]).mirrorUnit unit
  else s4.queueAll [b]

/-- Carry a write out: stored, completed, and left in ingress until its bursts have issued. -/
def State.landWrite (s : State) (e : IngressWrite) : State :=
  ((s.storeWrite e).completeWrite e).setWait e.id .draining

/-- Carry a journalled write out: its completion waits until both copies of the entry, the bursts named, are in their transaction
queues (R50, Table 5.5). -/
def State.landJournalled (s : State) (e : IngressWrite) (entry : List Nat) : State :=
  if entry = [] then s.landWrite e
  else
    let t := (s.storeWrite e).setWait e.id .draining
    { t with ingress := { t.ingress with writes := t.ingress.writes.map fun x => if x.id = e.id then { x with owes := entry } else x } }

/-- Discard a write to a page of a JFULL group or of an IN_DOUBT part (Table 8.7, R33). -/
def State.discardWrite (s : State) (g : Nat) (e : IngressWrite) : State :=
  let x := s.slot g
  let s1 := (s.setSlot g { x with discarded := min (x.discarded + 1) 4294967295 }).addReg 0x4404 0 1
  ((s1.note Code.writeDiscarded (words2 e.w.dpa)).completeWrite e).dropWrite e.id

/-- Whether a unit of a line awaits a search (R139). -/
def State.lineAwaits (s : State) (line : Nat) : Bool := (List.range 4).any fun i => s.awaits (line * 4 + i)

/-- Journal a line for its group (R186): the pre-image's read, the entry in both copies, the claim record's bit,
`lines_journalled`. A line that a drain journals while it awaits a search is saved as poisoned
(Table 6.5). -/
def State.journalLine (s : State) (g line : Nat) (stamp : BitVec 16) : State :=
  let page := line / 16
  let c := s.groups.claims.get page { group := g, lines := 0 }
  let e : JEntry := { line := line, group := g, poisoned := !(s.poisonIn (line * 256) 256).isEmpty || s.lineAwaits line,
                      seq := s.groups.nextJseq, pre := Mem.slice s.mem (line * 256) 256 }
  let x := s.slot g
  let s1 := { s with groups := { s.groups with
    journal := s.groups.journal ++ [e], nextJseq := s.groups.nextJseq + 1,
    claims := s.groups.claims.put page { c with lines := c.lines ||| BitVec.ofNat 16 (2 ^ (line % 16)) },
    slots := s.groups.slots.put g { x with lines := min (x.lines + 1) 4294967295, journalWait := false } } }
  (s1.queueLine line 6 3 stamp false).queueAll (s1.cupWrites .journal (entryOffset g (s.entriesOf g).length) 272 6 3 stamp .none)

/-- Whether a group needs a new chunk for its next entry, with none free (R187). -/
def State.journalFull (s : State) (g : Nat) : Bool :=
  decide ((s.entriesOf g).length % 15 = 0) && decide (s.chunksFree = 0)

/-- Whether an OPEN group holds journal space; else only PREPARED and IN_DOUBT parts, or rollbacks, do (R187). -/
def State.openHolds (s : State) : Bool :=
  s.groups.slots.any fun e => decide (e.2.state = .opened) && !e.2.anchor && decide (s.entriesOf e.1 ≠ [])

/-- Whether a rollback that holds journal space runs, so that it will free a chunk (R187). -/
def State.spaceComing (s : State) : Bool :=
  s.groups.slots.any fun e => decide (e.2.state = .aborted) && e.2.running && decide (s.entriesOf e.1 ≠ [])

/-- The journal-full victim: the OPEN group, no anchor slot, that holds or waits for journal space and whose OPEN was
accepted last (R187); none while no OPEN group holds space. -/
def State.victim (s : State) (g : Nat) : Option Nat :=
  let waits := fun (h : Nat) => s.ingress.writes.any fun e => e.wait == .journal &&
    (match s.groups.claims.find? (pageOf e.w.dpa) with | some c => c.group == h | none => false)
  let cands := s.groups.slots.filter fun e => decide (e.2.state = .opened) && !e.2.anchor &&
    (decide (s.entriesOf e.1 ≠ []) || e.1 == g || waits e.1)
  if s.openHolds = false then none else
  (cands.foldl (fun best e =>
    match best with
    | none => some (e.1, e.2.openedAt)
    | some b => if b.2 < e.2.openedAt then some (e.1, e.2.openedAt) else some b)
    (none : Option (Nat × Nat))).map (·.1)

/-- Abort the journal-full victim (R187). -/
def State.abortVictim (s : State) (v : Nat) : State :=
  ((((s.setSlot v { s.slot v with jfull := true }).startRollback v none).addReg 0x4403 0 1).fault
    Code.journalFullAbort v).signalGroup v

/-- A write whose line must be journalled with no chunk free (R187). One that waits already waits on while a rollback will
free a chunk. -/
def State.journalBlocked (s : State) (g : Nat) (e : IngressWrite) : State :=
  if s.spaceComing = true ∧ (e.wait = .journal ∨ s.openHolds = false) then s.setWait e.id .journal
  else match s.victim g with
  | some v => if v = g then (s.abortVictim v).discardWrite g e else (s.abortVictim v).setWait e.id .journal
  | none =>
    let x := s.slot g
    let s1 := s.setSlot g { x with journalWait := true }
    ((if x.journalWait then s1 else (s1.addReg 0x4406 0 1).faultOpen Code.journalWait)).setWait e.id .journal

/-- A write outside every claim: counted and recorded in an ATOMIC window (Table 8.7). -/
def State.plainWrite (s : State) (e : IngressWrite) : State :=
  let a := alignUnit e.w.dpa
  match s.windowOf a with
  | some w =>
    if s.atomicAt a then ((s.addReg (0x2500 + w) 4 1).note Code.unclaimedWrite (words2 e.w.dpa)).landWrite e
    else s.landWrite e
  | none => s.landWrite e

/-- The group that discards a write to a page: one with JFULL, or an IN_DOUBT part (Table 8.7). -/
def State.discarder (s : State) (a : Nat) : Option Nat :=
  match s.groups.claims.find? (pageOf a) with
  | some c => if (s.slot c.group).state = .inDoubt ∨ (s.slot c.group).jfull = true then some c.group else none
  | none => none

/-- A write that may change memory joins its group, or is a plain write (Table 8.7). Reading the pre-image of a line that awaits
a search waits for its end, and the write with it (DEDUCED from R139 and R186, log entry 175). `force` journals a line though no chunk
is free: R17 has a drain complete and save every write (log entry 16). -/
def State.joinWriteWith (force : Bool) (s : State) (e : IngressWrite) : State :=
  let a := alignUnit e.w.dpa
  match s.groups.claims.find? (pageOf a) with
  | none => s.plainWrite e
  | some c =>
    let x := s.slot c.group
    if x.state = .inDoubt ∨ x.jfull = true then s.discardWrite c.group e
    else if (x.state = .opened ∨ x.state = .prepared) ∧ c.lines.getLsbD (lineInPage a) = false then
      if s.lineAwaits (lineOf a) = true ∧ force = false then s.setWait e.id .search
      else if s.journalFull c.group = true ∧ force = false then s.journalBlocked c.group e
      else
        let t := s.journalLine c.group (lineOf a) e.w.stamp
        t.landJournalled e ((t.sched.bursts.filter fun b => b.write && decide (s.sched.nextId ≤ b.id)).map (·.id))
    else s.landWrite e

/-- A write joins its group or is plain, in the running machine. -/
def State.joinWrite (s : State) (e : IngressWrite) : State := s.joinWriteWith false e

/-- An earlier write of the queue that this one waits behind: to the same line, or to the same held leaf (R51, R164). -/
def State.behind (s : State) (e : IngressWrite) : Option Wait :=
  match s.ingress.writes.find? fun f => decide (f.id < e.id) && f.wait != .draining &&
      (lineOf f.w.dpa == lineOf e.w.dpa || (f.wait == .admission && leafOf f.w.dpa == leafOf e.w.dpa)) with
  | some f => some f.wait
  | none => none

/-- A write is put under admission hold (R164, R165). -/
def State.holdWrite (s : State) (e : IngressWrite) : State :=
  let begun := !s.ingress.writes.any fun f => f.wait == .admission && leafOf f.w.dpa == leafOf e.w.dpa
  let s1 := s.setWait e.id .admission
  if begun then s1.addReg 0x4018 1 1 else s1

/-- Whether the rollback of a line's group is in progress (Table 8.7). -/
def State.rolling (s : State) (dpa : Nat) : Bool :=
  match s.groups.claims.find? (pageOf dpa) with
  | some c => (s.slot c.group).running && !(s.slot c.group).touching && decide ((s.slot c.group).state = .aborted)
  | none => false

/-- The opcode and arguments of a Desk write over CXL.mem (R175). -/
def deskArgsOf (w : MemWrite) (g : Nat) : Nat × DeskArgs :=
  let word := (List.range 8).foldl (fun (d : BitVec 64) i =>
    if w.be.getLsbD i then d ||| ((w.data.extractLsb' (8 * i) 8).zeroExtend 64 <<< (8 * i)) else d) 0
  ((word.extractLsb' 0 8).toNat,
   { link := w.link, mailbox := false, group := g, word := word.extractLsb' 8 56,
     operands := w.data.extractLsb' 64 448, enable := w.be.extractLsb' 8 56 })

/-- A Desk write that has entered ingress over CXL.mem is executed, ahead of every held write, and completes
(R53, R175). -/
def State.deskMem (s : State) (e : IngressWrite) (g : Nat) : State :=
  let d := deskArgsOf e.w g
  let s1 := if s.inDesk e.w.link.val g = false then s.deskViolation e.w.link.val
    else if e.w.poison then s.note Code.deskPoisonedWrite else s.deskWrite d.1 d.2
  ((s1.completeWrite e).dropWrite e.id).cupboard s e.w.stamp

/-- Carry a write on as far as it can go: it is carried out, discarded, or left waiting with its reason. `force` admits
a first write whatever the budget (R17, R164). A write that is discarded is no first write: it leaves a LOST or CLEAN leaf as
it is (DESIGN CHOICE, log entry 28: beside R25 and R33 the spec does not say). -/
def State.progress (force : Bool) (s : State) (id : Nat) : State :=
  match s.ingressWrite id with
  | none => s
  | some e =>
    let a := alignUnit e.w.dpa
    if e.wait = .draining then s
    else if s.shut e.w.link.val ∧ force = false then s.setWait id .closed
    else match s.region a with
      | .desk g => s.deskMem e g
      | _ =>
        match s.behind e with
        | some w => s.setWait id w
        | none =>
          let leaf := leafOf a
          if s.awaitsRestore leaf then (s.requestTouch leaf).setWait id .touch
          else if s.rolling a then s.setWait id .rollback
          else match s.discarder a with
          | some g => s.discardWrite g e
          | none => match s.leaf leaf with
            | .clean | .lost =>
              if force = false ∧ s.firstWriteCause leaf ≠ 0 then s.holdWrite e
              else ((s.makeDirty leaf).joinWrite e).cupboard s e.w.stamp
            | _ => (s.joinWrite e).cupboard s e.w.stamp

/-- Identifiers of the writes that wait for a reason, in order of arrival. -/
def State.waiting (s : State) (w : Wait) : List Nat := (s.ingress.writes.filter fun e => e.wait == w).map (·.id)

/-- Carry on the writes that wait for a reason, in order of arrival. -/
def State.resume (s : State) (w : Wait) : State := (s.waiting w).foldl (State.progress false) s

/-- Give released writes the stamp of their release (R94), and note how long the longest hold lasted (R165). -/
def State.restamp (s : State) (stamp : BitVec 16) : State :=
  { s with ingress := { s.ingress with writes := s.ingress.writes.map fun e =>
      if e.wait = .admission ∧ s.firstWriteCause (leafOf e.w.dpa) = 0 then { e with w := { e.w with stamp := stamp } }
      else e } }

/-- Longest time, in ns, that a write now carried on had been held: beats of 10 µs, which is how finely the model keeps
time. -/
def State.heldNs (s before : State) : Nat :=
  (before.ingress.writes.filter fun e => e.wait == .admission && !(s.ingress.writes.any fun f =>
    f.id == e.id && f.wait == .admission)).foldl (fun m e => max m ((s.clock.beat - e.since) * 10000)) 0

/-- What the end of admission holds does (R165): the longest hold is noted, and source 6 signalled. -/
def State.endHolds (s before : State) : State :=
  let u := if s.heldNs before = 0 then s else s.maxReg 0x4018 2 (s.heldNs before)
  u.holdEdges before

/-- Admit held leaves whose conditions hold, in the order in which their first held write arrived (R164). -/
def State.releaseHeld (s : State) (stamp : BitVec 16) : State :=
  ((((s.restamp stamp).resume .admission).panicUpdate).endHolds s).loads

/-- Put a write into ingress. -/
def State.enqueue (s : State) (w : MemWrite) (src : PoisonSource) : State :=
  { s with ingress := { s.ingress with
      writes := s.ingress.writes ++ [{ id := s.ingress.nextId, w := w, source := src, wait := .closed, since := s.clock.beat,
                                       reply := true }],
      nextId := s.ingress.nextId + 1 } }

/-- A write enters ingress (R50): leaves already held go first (R164), then the write goes as far as it can. A write that
waits leaves without completion. -/
def State.acceptWrite (s : State) (w : MemWrite) (src : PoisonSource) : State :=
  let s0 := if s.holding then s.releaseHeld w.stamp else s
  let id := s0.ingress.nextId
  let t := State.progress false (s0.enqueue w src) id
  let held : Bool := match t.ingressWrite id with | some e => e.wait != .draining | none => false
  let u := if held then t.emit (.held w.link.val) else t
  ((u.panicUpdate).holdEdges s0).loads

/-- Whether a link accepts a CXL.mem request: it is up, ingress is open, and it has a credit (R17, R52). -/
def State.accepts (s : State) (i : Nat) : Bool :=
  (s.link i).up && !s.ingress.closed && decide (s.occupancy i + 64 ≤ s.ingressSize i)

/-- Serve the reads held for host access or for a reason, where it has ended, in order. -/
def State.resumeReads (s : State) (w : Wait) : State :=
  let on := fun (r : HeldRead) => r.wait == w && s.readWait r.link.val r.dpa != some w
  let rs := s.ingress.reads.filter on
  let s1 := { s with ingress := { s.ingress with reads := s.ingress.reads.filter fun r => !on r } }
  rs.foldl (fun t r => t.read r.link r.dpa r.stamp) s1

/-- Requests held while host access was not open are served (R52). -/
def State.serveHeld (s : State) : State :=
  let t := (s.resume .closed).resumeReads .closed
  ((t.panicUpdate).holdEdges s).loads

/-- After a rollback ends or a chunk is freed: the writes that waited for either (Table 8.7, R187). -/
def State.resumeGroupWrites (s : State) : State := (((s.resume .rollback).resume .journal).holdEdges s).loads

end Sys2Proof.Machine
end

