-- ==== Sys2Proof/Machine/HostPort.lean ====
section
/-! DEFINITION. Host port commands: CXL.mem requests, flushes, link training, loss and reset, lanes, HDM decoders and
MSI-X (chapter 3). -/

namespace Sys2Proof.Machine

/-! ### CXL.mem requests -/

/-- HOST_WRITE on a link that may issue it. -/
def State.hostWrite (s : State) (w : MemWrite) : State :=
  let i := w.link.val
  if s.accepts i = false then s.emit (.notAccepted i) else (s.memArrives i).acceptWrite w .external

/-- HOST_WRITE (R50). A DPA that no committed decoder of the link maps reaches nothing (R45, R49). -/
def execHostWrite (w : MemWrite) (s : State) : Out :=
  if s.reaches w.link.val w.dpa then .next (s.fresh.hostWrite w) else .fault .unmappedDpa

/-- HELD_WRITE_RELEASE (R164). -/
def execHeldWriteRelease (stamp : BitVec 16) (s : State) : Out :=
  .next (if s.ingress.writes.any fun e => e.wait == .admission && s.firstWriteCause (leafOf e.w.dpa) == 0
    then s.fresh.releaseHeld stamp else s.idle)

/-- JOURNAL_WAIT_END (R187): with a chunk free, the writes that wait for journal space go on. They keep the stamps they
have: Table 5.3 gives a second one only after an admission hold. -/
def execJournalWaitEnd (_stamp : BitVec 16) (s : State) : Out :=
  .next (if s.chunksFree ≠ 0 ∧ s.waiting .journal ≠ [] then ((s.fresh.resume .journal).holdEdges s).loads else s.idle)

/-- HOST_READ on a link that may issue it. -/
def State.hostRead (s : State) (link : Fin 4) (dpa : Nat) (stamp : BitVec 16) : State :=
  if s.accepts link.val = false then s.emit (.notAccepted link.val) else (s.memArrives link.val).read link dpa stamp

/-- HOST_READ (R20). -/
def execHostRead (link : Fin 4) (dpa : Nat) (stamp : BitVec 16) (s : State) : Out :=
  if s.reaches link.val dpa then .next (s.fresh.hostRead link dpa stamp) else .fault .unmappedDpa

/-- GPF_PHASE1: answered at once, as no host cache is held (R54). -/
def execGpfPhase1 (link : Fin 4) (s : State) : Out :=
  .next (if (s.link link.val).up then s.fresh.emit (.gpfDone link.val) else s.idle)

/-- GPF_PHASE2: completes once the link's ingress has drained (R19, R54). -/
def execGpfPhase2 (link : Fin 4) (s : State) : Out :=
  .next (if (s.link link.val).up then (s.fresh.setLink link.val { s.link link.val with gpfWait := true }).flushed
    else s.idle)

/-! ### Links -/

/-- Full width of a link by its head's mode (Table 3.1). -/
def State.headWidth (s : State) (i : Nat) : Nat :=
  if (if i < 2 then s.layout.headA else s.layout.headB) = 0 then 16 else 8

/-- Widest width a link may take: reduced by lane faults until its next reset (R72). -/
def State.maxWidth (s : State) (i : Nat) : Nat :=
  if (s.link i).fullWidth = 0 then s.headWidth i else min (s.link i).fullWidth (s.headWidth i)

/-- Highest rate that both sides support (R43); 0 when there is none. -/
def State.commonRate (s : State) (i partner : Nat) : Nat :=
  (([32, 64, 128] : List Nat).filter fun r => decide (r ≤ partner) && decide (r ≤ s.reg 0x2004 (i + 1))).foldl max 0

/-- The widest width of Table 3.2 within two limits. -/
def widest (a b : Nat) : Nat := (([2, 4, 8, 16] : List Nat).filter fun w => decide (w ≤ a) && decide (w ≤ b)).foldl max 0

/-- Widest width that both sides support (R43, Table 3.2). -/
def State.commonWidth (s : State) (i partner : Nat) : Nat := widest partner (s.maxWidth i)

/-- Widest width that a trained link may take: what it was trained at, less what lane faults have taken (R72). -/
def State.liveWidth (s : State) (i : Nat) : Nat := widest (s.link i).trained (s.maxWidth i)

/-- Send the pending messages of a link that it can send now (R69). -/
def State.flushPend (s : State) (i : Nat) : State :=
  ((s.link i).pend.map (·.1)).foldl (fun t v => if t.unmoderated i v then t.sendPend i v else t) s

/-- Send every pending message of a link, whatever its moderation (R59). -/
def State.expirePend (s : State) (i : Nat) : State := ((s.link i).pend.map (·.1)).foldl (fun t v => t.sendPend i v) s

/-- Device-wide events kept while a link was down go to its logs (R63). -/
def State.deliverDeferred (s : State) (i : Nat) : State :=
  (s.link i).deferred.foldl (fun t r => t.logOn r i) (s.setLink i { s.link i with deferred := [] })

/-- The output of a mailbox command that completed while the link was down is readable (Table 3.8). -/
def State.deliverMail (s : State) (i : Nat) : State :=
  match (s.link i).mailDue with
  | some m => (s.setLink i { s.link i with mailDue := none }).emit m
  | none => s

/-- A link trains (R43). -/
def State.train (s : State) (i rate width : Nat) (flit256 : Bool) : State :=
  if flit256 = false then
    (s.setLink i { s.link i with state := .down, rate := 0, width := 0 }).faultOpen Code.flitModeUnsupported
  else if s.commonRate i rate = 0 ∨ s.commonWidth i width = 0 then
    s.setLink i { s.link i with state := .down, rate := 0, width := 0 }
  else
    (((s.setLink i { s.link i with state := .l0, rate := s.commonRate i rate,
                                   width := s.commonWidth i width, trained := widest width (s.headWidth i) }).deliverMail i).deliverDeferred i).flushPend i

/-- LINK_TRAINED (R43): a formed and enabled link that is not up completes training. -/
def execLinkTrained (link : Fin 4) (partnerRate partnerWidth : Nat) (flit256 : Bool) (s : State) : Out :=
  let st := (s.link link.val).state
  .next (if s.layout.formed link.val ∧ (st = .down ∨ st = .training) ∧ s.reg 0x2005 (link.val + 1) = 1
      ∧ s.ctl.mode ≠ .dormant
    then s.fresh.train link.val partnerRate partnerWidth flit256 else s.idle)

/-- What link loss and HOST reset both do (Table 3.8): reads in flight are discarded and consent is withdrawn; writes
stay in ingress and are carried out, with no completion left to send over CXL.mem (DEDUCED, log entry 29). -/
def State.loseLink (s : State) (i : Nat) (st : LinkState) : State :=
  let mute := fun (e : IngressWrite) => if e.w.link.val = i ∧ e.source = .external then { e with reply := false } else e
  let s1 := { s with ingress := { s.ingress with reads := s.ingress.reads.filter fun r => r.link.val != i,
                                                 writes := s.ingress.writes.map mute } }
  (s1.setLink i { s1.link i with state := st, rate := 0, width := 0, gpfWait := false }).withdraw (BitVec.ofNat 4 (2 ^ i))

/-- LINK_LOSS (R70). -/
def execLinkLoss (link : Fin 4) (s : State) : Out :=
  .next (if (s.link link.val).up then s.fresh.loseLink link.val .down else s.idle)

/-- The mark of a request whose output a reset of its link discards (Table 3.8): a tag is 16 bits (Table 14.5), and a discarded
one stands above them. -/
def voidTag (tag : Nat) : Nat := tag % 65536 + 65536

/-- The tag of a waiting request of a role and link once link `i` is reset. -/
def tagAfter (i : Nat) (r : Role) (l : Fin 4) (tag : Nat) : Nat := if r = .host ∧ l.val = i then voidTag tag else tag

/-- A link's dictionary requests that wait for their response go on with no answer: in change sets and in plain writes of BEAT
entries, in snapshot reads, behind a reload, and in the tunnel (Table 3.8). -/
def State.voidRequests (s : State) (i : Nat) : State :=
  let d := s.dict
  { s with
    dict := { d with
      submitted := d.submitted.map fun u => { u with tag := tagAfter i u.role u.link u.tag },
      replies := d.replies.map fun (e : Nat × Reply) => (e.1, { e.2 with tag := tagAfter i e.2.role e.2.link e.2.tag }),
      snapshots := d.snapshots.map fun m => { m with tag := tagAfter i m.role m.link m.tag },
      deferred := d.deferred.map fun e => (e.1, { e.2 with tag := tagAfter i e.2.role e.2.link e.2.tag }) },
    trestle := { s.trestle with
      tunnels := s.trestle.tunnels.map fun (e : Nat × Tunnel) =>
        (e.1, { e.2 with tag := tagAfter i e.2.role e.2.link e.2.tag }) } }

/-- Drop the mailbox answers of a link that are still due: of Desk commands, of held Inject Poison and Clear Poison, of
dictionary requests, and one that completed while the link was down. -/
def State.dropMail (s : State) (i : Nat) : State :=
  let mute := fun (e : IngressWrite) => if e.w.link.val = i ∧ e.source ≠ .external then { e with reply := false } else e
  { s with groups := { s.groups with slots := s.groups.slots.map fun (e : Nat × Slot) =>
             (e.1, { e.2 with mail := e.2.mail.filter fun j => j != i }) },
           ingress := { s.ingress with writes := s.ingress.writes.map mute } }.voidRequests i |>.setLink i
    { s.link i with mailDue := none }

/-- State of a link that is reset: it trains at once, but for a shutdown in progress, which is never cut short (R71). -/
def State.resetState (s : State) (i : Nat) : LinkState :=
  match (s.link i).state with
  | .disabling => .disabling
  | .pendingStart => .pendingStart
  | _ => if s.ctl.mode = .dormant ∨ s.reg 0x2005 (i + 1) = 0 then .down else .training

/-- HOST_RESET (R70): the PERST pin of an absent link is ignored. Configuration space, MSI-X table and decoders are
reset, mailbox output is discarded; the link is retrained at its full width (R72); HOST fires (Table 13.3). -/
def State.hostReset (s : State) (i : Nat) : State :=
  let s1 := ((s.dropMail i).loseLink i (s.resetState i)).addReg 0x1102 3 1
  (s1.setLink i { s1.link i with decoders := [], decoderError := 0, msixEnable := false, unmasked := [], table := [],
                                 fullWidth := 0, faulty := 0, margin := [] }).fire 0 (some i)

/-- HOST_RESET. -/
def execHostReset (link : Fin 4) (s : State) : Out :=
  .next (if s.layout.formed link.val ∧ s.ctl.vaux then s.fresh.hostReset link.val else s.idle)

/-- FLR: the link's mailbox and MSI-X state only (R44). -/
def execFlr (link : Fin 4) (s : State) : Out :=
  .next (if (s.link link.val).up then
      let t := s.fresh.dropMail link.val
      t.setLink link.val
        { t.link link.val with msixEnable := false, unmasked := [], pend := [], table := [], eventVectors := [] }
    else s.idle)

/-- A write of `link_enable` (R71): taking the link down, PENDING_START, and its cancellation. -/
def State.linkEnable (s : State) (i v : Nat) : State :=
  let s1 := s.setReg 0x2005 (i + 1) v
  let l := s1.link i
  let st : LinkState :=
    if v = 0 then (if l.up ∨ l.state = .pendingStart then .disabling else if l.state = .training then .disabling else l.state)
    else match l.state with
      | .disabling => .pendingStart
      | .down => if s1.layout.formed i ∧ s1.ctl.mode ≠ .dormant then .training else .down
      | x => x
  let s2 := s1.setLink i { l with state := st }
  if l.up ∧ v = 0 then s2.withdraw (BitVec.ofNat 4 (2 ^ i)) else s2

/-- LINK_SHUTDOWN_COMPLETE (R71): DOWN, then training when PENDING_START stands. -/
def execLinkShutdownComplete (link : Fin 4) (s : State) : Out :=
  let l := s.link link.val
  let s1 := s.fresh.loseLink link.val (if l.state = .pendingStart then .training else .down)
  .next (if l.state = .disabling ∨ l.state = .pendingStart then s1 else s.idle)

/-- Widest width of Table 3.2 that excludes the faulty lanes of a link of `width` lanes (R72). A width is taken to use any
one aligned block of that many of the link's lanes (DESIGN CHOICE, log entry 30: the spec does not say which lanes it uses). -/
def reducedWidth (width mask : Nat) : Option Nat :=
  ([8, 4, 2] : List Nat).find? fun w =>
    decide (w < width) && (List.range (16 / w)).any fun b =>
      decide ((b + 1) * w ≤ width) && (List.range w).all fun k => mask / 2 ^ (b * w + k) % 2 == 0

/-- A lane mask with one lane set. -/
def withLane (mask lane : Nat) : Nat := if mask / 2 ^ lane % 2 = 1 then mask else mask + 2 ^ lane

/-- A lane fault reduces a link's width (R72), counting the lanes faulty since its last reset; a host's narrower L0p width
stays. A link that no width of Table 3.2 excludes the lane from keeps its width (log entry 13). -/
def State.laneFault (s : State) (i lane : Nat) (l0p : Bool) : State :=
  let l := s.link i
  let m := withLane l.faulty lane
  let l' := match reducedWidth l.trained m with
    | some w => { l with faulty := m, width := min l.width w, fullWidth := w, state := if l0p then .l0p else l.state }
    | none => { l with faulty := m }
  ((s.setReg 0x2041 (i + 1) (withLane (s.reg 0x2041 (i + 1)) lane)).setLink i l').faultOpen Code.laneFault

/-- LANE_FAULT: a lane over its error limit, or out of symbol lock. -/
def execLaneFault (link : Fin 4) (lane errors : Nat) (lockLost partnerL0p : Bool) (s : State) : Out :=
  .next (if (s.link link.val).up ∧ lane < (s.link link.val).trained ∧
      (s.reg 0x2040 (link.val + 1) < errors ∨ lockLost = true)
    then s.fresh.laneFault link.val lane partnerL0p else s.idle)

/-- MSIX_MODERATION_EXPIRE (R68): count threshold or time limit reached. -/
def execMsixModerationExpire (link : Fin 4) (vector : Nat) (s : State) : Out :=
  let idx := 0x2100 + 0x40 * link.val + vector
  let due : Bool := match (s.link link.val).pend.find? vector with
    | none => false
    | some p => decide (s.reg idx 1 ≤ p.count) ||
        (decide (s.reg idx 2 ≠ 0) && decide (s.reg idx 2 ≤ s.clock.beat - p.since))
  .next (if due ∧ (s.link link.val).canSend vector then s.fresh.sendPend link.val vector else s.idle)

/-! ### Standard features -/

/-- Interleave ways that a decoder accepts (R49). -/
def decoderWays (w : Nat) : Bool := ([1, 2, 3, 4, 6, 8, 12, 16] : List Nat).contains w

/-- Interleave granularities that a decoder accepts (R49). -/
def decoderGranularity (g : Nat) : Bool := ([256, 512, 1024, 2048, 4096, 8192, 16384] : List Nat).contains g

/-- Whether a commit succeeds (R49): the span lies in the link's DPA range, or in the Desk with 1 way, and overlaps no
other decoder of the link. -/
def State.commitGood (s : State) (i d base size ways gran : Nat) : Bool :=
  let inRange := decide (s.partBase i ≤ base) && decide (base + size ≤ s.partBase i + s.partSize i)
    && decide (base + size ≤ s.layout.hostVisible)
  let inDesk := decide (deskBase ≤ base) && decide (base + size ≤ deskBase + 16777216) && decide (ways = 1)
  decoderWays ways && decoderGranularity gran && decide (0 < size) && (inRange || inDesk) &&
    !((s.link i).decoders.any fun e => e.1 != d && decide (base < e.2.base + e.2.size) && decide (e.2.base < base + size))

/-- HDM_DECODER_COMMIT (R49). -/
def State.hdmCommit (s : State) (i d base size ways gran : Nat) : State :=
  let l := s.link i
  let bit := BitVec.ofNat 4 (2 ^ d)
  if s.commitGood i d base size ways gran then
    s.setLink i { l with decoders := l.decoders.put d { base := base, size := size, ways := ways, granularity := gran },
                         decoderError := l.decoderError &&& ~~~bit }
  else s.setLink i { l with decoderError := l.decoderError ||| bit }

/-- HDM_DECODER_COMMIT. -/
def execHdmDecoderCommit (link decoder : Fin 4) (dpaBase size ways granularity : Nat) (s : State) : Out :=
  .next (if (s.link link.val).up then s.fresh.hdmCommit link.val decoder.val dpaBase size ways granularity else s.idle)

/-- MSIX_VECTOR_UNMASK (R69): MSI-X is enabled (no vector) or a vector unmasked, and what is pending is sent. What the host has
written into the vector's table entry before is a free value, as no command writes one (log entry 146). -/
def execMsixVectorUnmask (link : Fin 4) (vector : Option Nat) (s : State) : Out :=
  let l := s.link link.val
  .next (match vector with
    | none => if l.up then (s.fresh.setLink link.val { l with msixEnable := true }).flushPend link.val else s.idle
    | some v =>
      if l.up ∧ v < s.vectorCount link.val then
        (s.fresh.drawn.drawn.setLink link.val
          { l with unmasked := if l.unmasked.contains v then l.unmasked else v :: l.unmasked,
                   table := l.table.put v (Config.free s.free, Config.free (s.free + 1)) }).flushPend link.val
      else s.idle)

/-- L0P_HOST_REQUEST (R44): a width among x16, x8, x4 and x2 that the link may take. -/
def execL0pHostRequest (link : Fin 4) (width : Nat) (s : State) : Out :=
  let l := s.link link.val
  .next (if l.up ∧ (([2, 4, 8, 16] : List Nat).contains width) ∧ width ≤ s.liveWidth link.val then
      s.fresh.setLink link.val { l with width := width, state := if width = s.liveWidth link.val then .l0 else .l0p }
    else s.idle)

/-- DOE_CDAT_ACCESS (R44): the CDAT's content is not given, a free value. Any other DOE object has no answer. -/
def execDoeCdatAccess (link : Fin 4) (table : Bool) (s : State) : Out :=
  .next (if (s.link link.val).up ∧ table then s.fresh.drawn.emit (.doe link.val (Config.free s.free)) else s.idle)

/-- LANE_MARGINING (R44): the receiver's timing or voltage margin is stepped; the result is a free value. -/
def execLaneMargining (link : Fin 4) (lane : Nat) (voltage : Bool) (step : Int) (s : State) : Out :=
  let l := s.link link.val
  .next (if l.up ∧ lane < l.width then
      (s.fresh.drawn.setLink link.val { l with margin := l.margin.put (2 * lane + voltage.toNat) step }).emit
        (.laneMargin link.val lane (Config.free s.free))
    else s.idle)

end Sys2Proof.Machine
end

