-- ==== Sys2Proof/Machine/Sleep.lean ====
section
/-! DEFINITION. Sleep: PREPARE_SLEEP, entering DROWSE, wake sources and waking (R59, R333 to R338). -/

namespace Sys2Proof.Machine

/-- A CXL.io request arrives: HOST fires outside ONLINE (Table 13.3). -/
def State.ioArrives (s : State) (i : Nat) : State := if s.ctl.mode = .online then s else s.fire 0 (some i)

/-- Wake sources other than HOST that fire now. -/
def wakesNow (now : BitVec 5) : List Nat :=
  ([1, 2, 3, 4] : List Nat).filter fun k => now.getLsbD k

/-- Whether one of the sources that fire now is enabled. -/
def State.raceLost (s : State) (now : BitVec 5) : Bool := (wakesNow now).any s.wakeEnabled

/-- The sources that fire in the cycle fire. -/
def State.fireAll (s : State) (now : BitVec 5) : State := (wakesNow now).foldl (fun t k => t.fire k none) s

/-- PREPARE_SLEEP (R59, R336, R337): refused outside ONLINE or beside a save trigger, refused when a wake that would
withdraw the consent falls in its cycle, else the moderation is flushed and the consent recorded. -/
def State.prepareSleep (s : State) (i : Nat) (wakeNow : BitVec 5) (memNow saveNow : Bool) : State :=
  let s1 := (s.ioArrives i).fireAll wakeNow
  if s.bureau.lost then s1.mail i 0xC300 .internalError []
  else if s.ctl.mode ≠ .online ∨ saveNow = true ∨ s.save.arm ≠ 0 then s1.mail i 0xC300 .success [2]
  else if memNow = true ∨ s.raceLost wakeNow = true then
    ((if memNow then s1.memArrives i else s1).addReg 0x1114 0 1).mail i 0xC300 .success [1]
  else
    let s2 := s1.expirePend i
    { s2 with ctl := { s2.ctl with consents := s2.ctl.consents ||| BitVec.ofNat 4 (2 ^ i) } }.mail i 0xC300 .success [0]

/-- PREPARE_SLEEP. -/
def execPrepareSleep (link : Fin 4) (wakeNow : BitVec 5) (memNow saveNow : Bool) (s : State) : Out :=
  .next (if (s.link link.val).up then s.fresh.prepareSleep link.val wakeNow memNow saveNow else s.idle)

/-- Whether every link that is up has consented, and one is up (R333). -/
def State.allConsent (s : State) : Bool :=
  decide (s.upLinks ≠ []) && s.upLinks.all fun i => s.ctl.consents.getLsbD i

/-- Enter DROWSE (R333): with `drowse_trickle` 0 copies in progress are completed first. -/
def State.enterDrowse (s : State) : State :=
  let ws := s.upLinks
  let s1 := (s.setMode .drowse).addReg 0x1115 0 1
  { s1 with ctl := { s1.ctl with workersHalted := true, waking := false, tricklePeriod := false,
                                 finishing := s.reg 0x4050 0 == 0 },
            links := ws.foldl (fun m i => m.put i { m.get i Link.reset with state := .l1 }) s1.links }

/-- DROWSE_ENTRY (R333): an enabled wake event in the boundary's cycle comes first (R336), and an armed SAVE before both
(R13). -/
def execDrowseEntry (wakeNow : BitVec 5) (s : State) : Out :=
  .next (if s.ctl.mode = .online ∧ s.save.arm = 0 ∧ s.allConsent = true then
      (if s.raceLost wakeNow then s.fresh.fireAll wakeNow else (s.fresh.fireAll wakeNow).enterDrowse)
    else s.idle)

/-- WAKE_TIMER_FIRE (R335): one-shot, at the boundary of `wake_timer_beat`. -/
def execWakeTimerFire (s : State) : Out :=
  .next (if s.reg 0x1112 0 ≠ 0 ∧ s.clock.ext.toNat = s.reg 0x1112 0 then (s.fresh.setReg 0x1112 0 0).fire 3 none
    else s.idle)

/-- STORE_ALARM_RISE (R335): the event is the change of `store_alarm` from 0. -/
def execStoreAlarmRise (s : State) : Out := .next (if s.reg 0x6080 0 ≠ 0 then s.fresh.fire 4 none else s.idle)

/-- SVC_FRAME_START (R335). -/
def execSvcFrameStart (s : State) : Out := .next (s.fresh.fire 2 none)

/-- WAKE (R338): an enabled source fires in DROWSE. -/
def execWake (source : Fin 5) (link : Option (Fin 4)) (s : State) : Out :=
  .next (if s.ctl.mode = .drowse ∧ s.wakeEnabled source.val = true then s.fresh.fire source.val (link.map (·.val))
    else s.idle)

end Sys2Proof.Machine
end

