-- ==== Sys2Proof/Machine/Nand.lean ====
section
/-! DEFINITION. The NAND image store (chapter 10): segments and rows, stripes and their credit, the leaf map,
checkpoints, garbage collection, wear, and failures of LUNs and channels. -/

namespace Sys2Proof.Machine

/-! ### Segments -/

/-- Change a segment. -/
def State.setSegment (s : State) (n : Nat) (g : Segment) : State :=
  { s with nand := { s.nand with segments := s.nand.segments.put n g } }

/-- The free erase unit of a LUN with the fewest program/erase cycles, the lowest among equals (R247). -/
def State.pickUnit (s : State) (c lun : Nat) : Option Nat :=
  let keys := ((List.range s.nand.unitsPerLun).map (unitKey c lun)).filter fun k => s.unitGood k && (s.eraseUnit k).state == 0
  keys.foldl (fun (best : Option Nat) k =>
    match best with
    | none => some k
    | some b => if (s.eraseUnit k).cycles < (s.eraseUnit b).cycles then some k else some b) none

/-- The erase units that a new segment of a LUN index takes, one on each channel that the index has a LUN on (R247, R261, R262). -/
def State.unitsFor (s : State) (lun : Nat) : Map Nat :=
  (s.segmentLuns lun).filterMap fun e => (s.pickUnit e.1 e.2).map fun k => (e.1, k)

/-- Set the state of erase units that are not retired. -/
def State.setUnits (s : State) (ks : List Nat) (state : Nat) : State :=
  { s with nand := { s.nand with units := ks.foldl (fun (m : Map EraseUnit) k =>
      let u := s.eraseUnit k
      m.put k { u with state := if u.state = 3 then 3 else state }) s.nand.units } }

/-- Erase units of a segment. -/
def State.unitsOf (s : State) (seg : Nat) : List Nat := (s.segment seg).units.map (·.2)

/-- Open a segment on a LUN index from free erase units, with the next open number (R247): the state and its number, if each
channel has a unit. -/
def State.newSegment (s : State) (lun : Nat) : Option (State × Nat) :=
  if s.freeSegmentsOn lun = 0 then none
  else
    let us := s.unitsFor lun
    let n := freeIndex s.nand.segments
    let t := s.setUnits (us.map (·.2)) 1
    some ({ t with nand := { t.nand with
      segments := t.nand.segments.put n { state := 1, openNo := t.nand.nextOpen, valid := 0, rows := 0, lun := lun, units := us },
      nextOpen := t.nand.nextOpen + 1 } }, n)

/-- Open a data segment on a LUN index (R248). -/
def State.openSegment (s : State) (lun : Nat) : State :=
  match s.newSegment lun with
  | none => s
  | some (t, n) => { t with nand := { t.nand with openData := t.nand.openData.put lun n } }

/-- A segment takes no more rows: it and its erase units are FULL. -/
def State.fillSegment (s : State) (n : Nat) : State := (s.setSegment n { s.segment n with state := 2 }).setUnits (s.unitsOf n) 2

/-- Close the open data segment of a LUN index as full. -/
def State.closeSegment (s : State) (lun : Nat) : State :=
  match s.nand.openData.find? lun with
  | none => s
  | some n =>
    let t := s.fillSegment n
    { t with nand := { t.nand with openData := t.nand.openData.del lun } }

/-- The LUN index from which the next metadata segment is opened: the first one, after the last used, that has one (R248). -/
def State.metaIndex (s : State) : Option Nat :=
  ((List.range s.nandLuns).map fun k => (s.nand.metaLun + k) % s.nandLuns).find? fun l => 0 < s.freeSegmentsOn l

/-- Open the metadata segment (R248). -/
def State.openMetaSegment (s : State) : State :=
  match s.metaIndex with
  | none => s
  | some l =>
    match s.newSegment l with
    | none => s
    | some (t, n) => { t with nand := { t.nand with openMeta := some n, metaLun := (l + 1) % s.nandLuns } }

/-- Open a data segment of a LUN index that has none. -/
def State.openMissing (s : State) (lun : Nat) : State :=
  if (s.nand.openData.find? lun).isSome then s else s.openSegment lun

/-- One open data segment on every LUN index, and one open metadata segment (R248). -/
def State.openAll (s : State) : State :=
  let t := (List.range s.nandLuns).foldl State.openMissing s
  if t.nand.openMeta.isSome then t else t.openMetaSegment

/-- Every open segment closes, as power or its LUNs are lost. -/
def Nand.closeAll (n : Nand) : Nand :=
  { n with
    openData := [], openMeta := none
    segments := n.segments.map fun e => if e.2.state = 1 then (e.1, { e.2 with state := 2 }) else e
    units := n.units.map fun e => if e.2.state = 1 then (e.1, { e.2 with state := 2 }) else e }

/-- Erase units of a channel in a segment that stand on a LUN in use: the shards that a row can hold. -/
def State.working (s : State) (g : Segment) : Nat :=
  (g.units.filter fun e => match s.physLun e.1 g.lun with | some p => onLun e.1 p e.2 | none => false).length

/-- Shards of a segment's stripes that lie nowhere or on a failed LUN or channel: each is an erasure (R260, R261). -/
def State.missing (s : State) (seg : Nat) : Nat := 18 - s.working (s.segment seg)

/-- Move a valid-stripe count (R251). -/
def State.countValid (s : State) (seg : Nat) (up : Bool) : State :=
  match s.nand.segments.find? seg with
  | none => s
  | some g => s.setSegment seg { g with valid := if up then g.valid + 1 else g.valid - 1 }

/-! ### Encryption (R246)

AES-256-XTS is IEEE 1619's: ciphertext is kept as what it was encrypted under and the plaintext that gives back (log entry 57). -/

/-- Tweak of data unit `j` of a leaf: the page index of its data. -/
def tweakOf (leaf j : Nat) : Nat := leaf * 16 + j

/-- Tweak of data unit `j` of a metadata block. -/
def metaTweak (block j : Nat) : Nat := 2 ^ 40 + block * 16 + j

/-- Bytes of a group set (Table 11.3), padded to 64 KiB. -/
def setBytes (leaves claims entries : Nat) : Nat :=
  65536 * ceilDiv (65536 + ceilDiv leaves 8 + 65536 * 80 + 262144 * 32 + 16 * claims + 272 * entries) 65536

/-- First block number of a save's group set (R272). -/
def groupSetBlock : Nat := 0x2000000

/-- The current key and key ID, with the tweak of a stripe's first data unit. -/
def State.cryptOf (s : State) (tweak : Nat) : Crypt := { keyId := s.reg 0x5050 0, key := s.nand.mediaKey, tweak := tweak }

/-- Whether a stripe can be read: its key is the current one, and its tweak is that of its place (R246, R264). -/
def State.opens (s : State) (c : Crypt) (tweak : Nat) : Bool := s.nand.keyPresent && c == s.cryptOf tweak

/-- The ciphertext of a stripe. -/
def State.encrypt (s : State) (tweak : Nat) (plain : List Host.Cell) : Cipher :=
  { crypt := s.cryptOf tweak, plain := Mem.canon plain }

/-- The plaintext of a stripe; one under another key counts as absent and reads zero (R264). -/
def State.decrypt (s : State) (tweak : Nat) (x : Cipher) : List Host.Cell := if s.opens x.crypt tweak then x.plain else []

/-- Place of a stripe in flash. -/
def placeOf (seg row slot : Nat) : Nat := 65536 * seg + 16 * row + slot

/-- A leaf's stripe in flash. -/
def State.storedCopy (s : State) (c : Copy) : Option Stored := s.nand.flash.find? (placeOf c.segment c.row c.slot)

/-- The bytes that a leaf's flash copy decrypts to. -/
def State.plainOf (s : State) (leaf : Nat) : List Host.Cell :=
  match s.nand.copies.find? leaf with
  | some c => (match s.storedCopy c with | some x => s.decrypt (tweakOf leaf 0) x.cipher | none => [])
  | none => []

/-- The latest save, if its metadata can be read (R264). -/
def State.liveImage (s : State) : Option SaveImage :=
  match s.nand.image with
  | some i => if s.opens i.crypt (metaTweak groupSetBlock 0) then some i else none
  | none => none

/-- The latest checkpoint: that of the root record with the highest root sequence, if its metadata can be read (R253, R264). -/
def State.liveCheckpoint (s : State) : Option Checkpoint :=
  match s.nand.rootRecs with
  | r :: _ => (match r.checkpoint with
    | some c => if s.opens c.crypt (metaTweak Config.checkpointBlock 0) then some c else none
    | none => none)
  | [] => none

/-- Write a root record: one root sequence further, to the unit of the pair not written last, on channels 0 and 9 (R253). -/
def State.writeRoot (s : State) (c : Option Checkpoint) (fromRow : Nat) (sealAt : Option (Nat × Nat)) : State :=
  let seq := match s.nand.rootRecs with | r :: _ => r.seq + 1 | [] => 0
  { s with nand := { s.nand with rootRecs := { seq := seq, checkpoint := c, fromRow := fromRow, sealAt := sealAt } ::
                                             s.nand.rootRecs.take 1 } }

/-- The row from which a scan starts: where the checkpoint of the latest root record began (R255). -/
def State.scanFrom (s : State) : Nat := match s.nand.rootRecs with | r :: _ => r.fromRow | [] => 0

/-- The checkpoint that the latest root record names. -/
def State.rootCheckpoint (s : State) : Option Checkpoint := match s.nand.rootRecs with | r :: _ => r.checkpoint | [] => none

/-! ### The leaf map and flash content -/

/-- The credited copy of a leaf, readable under the current media key (R250, R264). -/
def State.copyOf (s : State) (leaf : Nat) : Option Copy :=
  match s.nand.copies.find? leaf with
  | some c => if c.keyId = s.reg 0x5050 0 ∧ s.nand.keyPresent = true then some c else none
  | none => none

/-- Leaf map entry of a leaf (Table 10.3). -/
def State.leafMapEntry (s : State) (leaf : Nat) : Nat :=
  match s.nand.copies.find? leaf with
  | none => 0
  | some c => 1 + 2 * c.bySave.toNat + 4 * (!c.poison.isEmpty).toNat + 8 * c.degraded.toNat + 2 ^ 8 * c.segment
      + 2 ^ 28 * c.row + 2 ^ 40 * c.slot

/-- A save delta record, 8 B (Table 10.4). -/
def Copy.saveDelta (c : Copy) (leaf : Nat) : Nat :=
  leaf % 2 ^ 26 + 2 ^ 26 * (c.segment % 2 ^ 20) + 2 ^ 46 * (c.row % 2 ^ 12) + 2 ^ 58 * (c.slot % 16) +
    2 ^ 62 * (!c.poison.isEmpty).toNat + 2 ^ 63 * c.degraded.toNat

/-- Queue the update of a leaf's entry in both copies of the leaf map, as the other updates of the leaf tracker (R80; DESIGN CHOICE, log
entry 185: Table 5.1 does not name it). -/
def State.writeMap (s : State) (leaf : Nat) : State := s.queueAll (s.cupWrites .leafMap (8 * leaf) 8 6 3 s.nowStamp .none)

/-- Write a leaf's entry, moving the valid counts (R251). -/
def State.mapLeaf (s : State) (leaf : Nat) (c : Copy) : State :=
  let s1 := match s.nand.copies.find? leaf with
    | some old => s.countValid old.segment false
    | none => s
  let s2 := s1.countValid c.segment true
  { s2 with nand := { s2.nand with copies := s2.nand.copies.put leaf c } }.writeMap leaf

/-- Clear a leaf's entry (R265, R284). -/
def State.unmapLeaf (s : State) (leaf : Nat) : State :=
  match s.nand.copies.find? leaf with
  | none => s
  | some old =>
    let s1 := s.countValid old.segment false
    { s1 with nand := { s1.nand with copies := s1.nand.copies.del leaf } }.writeMap leaf

/-- Take a whole leaf map; the segment table's valid counts follow (R251, R255, R264). -/
def State.takeMap (s : State) (m : Map Copy) : State :=
  { s with nand := { s.nand with
    copies := m,
    segments := s.nand.segments.map fun e => (e.1, { e.2 with valid := (m.filter fun c => c.2.segment == e.1).length }) } }

/-- Poison that a flash copy keeps: Injected, External, and Internal for any other (R61, Table 10.2). -/
def flashPoison (p : Map PoisonSource) : Map PoisonSource :=
  p.map fun e => (e.1, match e.2 with | .channelLoss => PoisonSource.internal | x => x)

/-! ### Rows -/

/-- A stripe of a leaf as it is read from DRAM (R245): its bytes and its poison marks. -/
def State.stripeOf (s : State) (leaf origin : Nat) : Stripe :=
  { leaf := leaf, seq := 0, origin := origin, source := none, data := Mem.slice s.mem (leaf * 65536) 65536,
    poison := flashPoison (s.poisonIn (leaf * 65536) 65536), live := true, degraded := false }

/-- A filler stripe: all zero, of no leaf (R245, Table 10.2). -/
def Stripe.filler : Stripe :=
  { leaf := 0x3FFFFFF, seq := 0, origin := 3, source := none, data := [], poison := [], live := false, degraded := false }

/-- Number the stripes of a row: each takes the next image sequence, filler too, and a relocated one keeps its own (R249). -/
def numberStripes (degraded : Bool) : Nat → List Stripe → List Stripe × Nat
  | q, [] => ([], q)
  | q, x :: xs =>
    let y := if x.origin = 2 then { x with degraded := degraded } else { x with seq := q, degraded := degraded }
    let r := numberStripes degraded (if x.origin = 2 then q else q + 1) xs
    (y :: r.1, r.2)

/-- The LUN index that takes the next row: round robin over the open data segments (R248). -/
def State.nextLun (s : State) : Option Nat :=
  let n := s.nandLuns
  match (List.range n).find? fun k => (s.nand.openData.find? ((s.nand.nextRow + k) % n)).isSome with
  | some k => some ((s.nand.nextRow + k) % n)
  | none => none

/-- RESTORE begins: trickle and GC programs have taken none of its NAND time (R287). -/
def State.restoreBegins (s : State) : State :=
  { s with trickle := { s.trickle with restoreFrom := s.clock.beat, restoreNs := 0 } }

/-- Whether trickle and GC programs stay within `restore_trickle_pct` of the NAND time since RESTORE began (R287; over what time the
share counts, and that a row takes tPROG, is a DESIGN CHOICE, log entry 192). -/
def State.restoreShare (s : State) : Bool :=
  s.reg 0x5424 1 != 0 &&
    decide (s.trickle.restoreNs * 100 ≤ s.reg 0x5424 1 * (10000 * (s.clock.beat - s.trickle.restoreFrom)))

/-- A row programmed in RESTORE takes tPROG of the NAND time. -/
def State.restoreTime (s : State) : State :=
  if s.ctl.mode = .restore then
    { s with trickle := { s.trickle with
      restoreNs := s.trickle.restoreNs + (match s.nand.profile with | some p => p.tprogNs | none => 0) } }
  else s

/-- Charge bytes to the wear bucket (R158). -/
def State.chargeWear (s : State) (n : Nat) : State :=
  { s with trickle := { s.trickle with tokens := s.trickle.tokens - n } }

/-- Whether a stripe of a row is charged to the wear bucket as it programs: a relocation by garbage collection or out of an erase
unit to be retired, but not one of a rebuild (R158, R256, R261). -/
def State.chargedStripe (s : State) (x : Stripe) : Bool :=
  match x.source with
  | some (seg, _) => s.nand.victim == some seg || s.nand.retiring.any fun r => r.1 == seg
  | none => false

/-- Program the first 16 forming stripes as one row, completed with filler, if the store can take a row; a full segment is closed
and the next one opened (R247, R248). With a shard position that has no channel or LUN the stripes are DEGRADED (R262). -/
def State.programRow (s : State) : State :=
  match s.nextLun with
  | none => s
  | some lun =>
    match s.nand.openData.find? lun with
    | none => s
    | some seg =>
      if s.nand.unavailable ∨ s.nand.forming = [] then s
      else
        let g := s.segment seg
        let miss := s.missing seg
        let xs := s.nand.forming.take 16
        let taken := numberStripes (decide (miss ≠ 0)) (s.reg 0x5070 0) (xs ++ List.replicate (16 - xs.length) Stripe.filler)
        let s1 := (s.setReg 0x5070 0 taken.2).setSegment seg { g with rows := g.rows + 1 }
        let s2 := { s1 with nand := { s1.nand with
          rows := s1.nand.rows.put s1.nand.nextRowId { segment := seg, row := g.rows, missing := miss,
                                                       stripes := (List.range 16).zip taken.1 },
          nextRowId := s1.nand.nextRowId + 1, nextRow := lun + 1, forming := s1.nand.forming.drop 16,
          formedAt := s1.clock.beat } }
        let s3 := s2.restoreTime.chargeWear (73728 * (taken.1.filter s.chargedStripe).length)
        if s.rowsPerSegment ≤ g.rows + 1 then (s3.closeSegment lun).openSegment lun else s3

/-- Write rows to the open metadata segment, opening the next one as it fills; the segments written to are listed (R248). -/
def State.metaRows : Nat → Nat → State → State × List Nat
  | 0, _, s => (s, [])
  | fuel + 1, left, s =>
    if left = 0 then (s, [])
    else match s.nand.openMeta with
      | none => if s.metaIndex.isSome then State.metaRows fuel left s.openMetaSegment else (s, [])
      | some n =>
        let g := s.segment n
        let k := min left (s.rowsPerSegment - g.rows)
        let t := s.setSegment n { g with rows := g.rows + k }
        let u := if s.rowsPerSegment ≤ g.rows + k then
            { t.fillSegment n with nand := { (t.fillSegment n).nand with openMeta := none } } else t
        let r := State.metaRows fuel (left - k) u
        (r.1, n :: r.2)

/-- Write stripes of metadata: whole rows, the last completed with filler, of which every stripe takes the next image sequence and
is charged to the wear bucket (R158, R248, R249; DEDUCED, log entry 188). The segments that hold them are listed. -/
def State.writeMeta (s : State) (n : Nat) : State × List Nat :=
  let rows := ceilDiv n 16
  let m := State.metaRows (2 * rows + 2) rows s
  ({ s with
    nand := { s.nand with segments := m.1.nand.segments, units := m.1.nand.units, nextOpen := m.1.nand.nextOpen,
                          openMeta := m.1.nand.openMeta, metaLun := m.1.nand.metaLun }
    regs := s.regs.put (key 0x5070 0) (s.reg 0x5070 0 + 16 * rows) }.chargeWear (73728 * 16 * rows), m.2)

/-- Program every full row of 16 stripes; `fuel` bounds the rows. -/
def State.programRows : Nat → State → State
  | 0, s => s
  | fuel + 1, s => if 16 ≤ s.nand.forming.length then State.programRows fuel s.programRow else s

/-- Add stripes to those being formed, and program the rows they fill. -/
def State.form (s : State) (xs : List Stripe) : State :=
  let s1 := { s with nand := { s.nand with forming := s.nand.forming ++ xs,
                                           formedAt := if s.nand.forming = [] then s.clock.beat else s.nand.formedAt } }
  s1.programRows ((s.nand.forming.length + xs.length) / 16)

/-- ROW_FILL_TIMEOUT (R248): a row waits 100 beats for stripes and is then completed with filler. -/
def execRowFillTimeout (s : State) : Out :=
  .next (if s.nand.forming ≠ [] ∧ 100 ≤ s.clock.beat - s.nand.formedAt ∧ s.ctl.mode ≠ .save
    then s.fresh.programRow.panicUpdate else s.idle)

/-! ### Relocation -/

/-- Relocation stripes of the valid copies that a test selects (R256): content and sequence unchanged. -/
def State.relocations (s : State) (p : Copy → Bool) : List Stripe :=
  (s.nand.copies.filter fun e => p e.2).map fun e =>
    { leaf := e.1, seq := e.2.seq, origin := 2, source := some (e.2.segment, e.2.row, e.2.slot), data := [],
      poison := e.2.poison, live := true, degraded := false }

/-- Whether background work of the store runs in a mode (R256, R258), in RESTORE within its share of NAND time. -/
def State.storeRuns (s : State) : Bool :=
  s.ctl.mode == .online || (s.ctl.mode == .restore && s.restoreShare) || s.ctl.mode == .drowse

/-- What the wear bucket says of one leaf's program (R158): normal or overdraw, the regime below the overdraw floor, or no. -/
inductive Token where
  | take | slow | no
  deriving DecidableEq, Repr

/-- The lowest token count that overdraw allows (R158). -/
def State.overdrawFloor (s : State) : Int := -(s.trickle.rate * 3600 : Nat)

/-- The bucket's answer to a program of 73,728 B, with overdraw where `may` says so; its regime lasts until the hold ends or the
bucket holds a leaf's tokens again. -/
def State.tokenFor (s : State) (may : Bool) (tokens : Int) : Token :=
  if 73728 ≤ tokens then .take
  else if may = false then .no
  else if s.trickle.overdrawn = false ∧ s.overdrawFloor ≤ tokens - 73728 then .take
  else if s.trickle.overdrawn = true ∧ 73728 ≤ s.trickle.drawGained then .slow else .no

/-- Whether the overdraw regime begins, which is counted (R158). -/
def State.enterOverdraw (s : State) : State :=
  { s with trickle := { s.trickle with overdrawn := true, drawGained := 0 } }.addReg 0x4043 0 1

/-- Whether a hold with the NAND_RESERVE cause lets relocation overdraw the bucket (R256). -/
def State.reserveHold (s : State) : Bool := s.holding && s.standingCause / 4 % 2 == 1

/-- The bucket's answer to one more relocation, those already forming counted (R256, R158). -/
def State.relocationToken (s : State) : Token :=
  s.tokenFor s.reserveHold (s.trickle.tokens - ((73728 * (s.nand.forming.filter s.chargedStripe).length : Nat) : Int))

/-- Relocate what waits, stripe by stripe, while the bucket allows it (R256, R158); `fuel` bounds the stripes. -/
def State.relocate : Nat → State → State
  | 0, s => s
  | fuel + 1, s =>
    match s.nand.relocating with
    | [] => s
    | x :: xs =>
      if s.storeRuns = false then s
      else
        let t := { s with nand := { s.nand with relocating := xs } }
        match s.relocationToken with
        | .no => if s.reserveHold = true ∧ s.trickle.overdrawn = false then s.enterOverdraw else s
        | .take => State.relocate fuel (t.form [x])
        | .slow => State.relocate fuel ({ t with trickle := { t.trickle with drawGained := t.trickle.drawGained - 73728 } }.form [x])

/-- Relocate all that the bucket allows now. -/
def State.relocateNow (s : State) : State := State.relocate s.nand.relocating.length s

/-- Stripes to relocate join those that wait. -/
def State.scheduleRelocation (s : State) (xs : List Stripe) : State :=
  ({ s with nand := { s.nand with relocating := s.nand.relocating ++ xs } }).relocateNow

/-! ### Failed LUNs and channels (R260 to R262) -/

/-- Valid stripes that rebuilds have to relocate, other than those on their way (R261). -/
def State.rebuildStripes (s : State) : List Stripe :=
  let now := (s.nand.forming ++ s.nand.relocating ++ (s.nand.rows.flatMap fun e => e.2.stripes.map (·.2)).filter (·.live)).map (·.leaf)
  (s.relocations fun c => s.nand.rebuild.any fun r => s.rebuilds r c.segment).filter fun x => !now.contains x.leaf

/-- The open segment of a LUN index is replaced where a rebuild has to empty it. -/
def State.renewOpen (r : Nat × Nat) (s : State) (lun : Nat) : State :=
  match s.nand.openData.find? lun with
  | some n => if s.rebuilds r n then (s.closeSegment lun).openSegment lun else s
  | none => s

/-- A rebuild begins: it is listed with the open number that bounds its segments, and its stripes are relocated without regard to
the bucket, once SAVE is over (R258, R261). -/
def State.startRebuildOf (s : State) (what : Nat) : State :=
  let t := { s with nand := { s.nand with rebuild := s.nand.rebuild ++ [(what, s.nand.nextOpen)],
                                          rebuildPaused := decide (s.ctl.mode = .save) } }
  let u := (List.range t.nandLuns).foldl (State.renewOpen (what, s.nand.nextOpen)) t
  if s.ctl.mode = .save then u else (u.form u.rebuildStripes).panicUpdate

/-- NAND_CHANNEL_FAILED (R262): 17 channels DEGRADED, 16 unprotected, fewer unavailable. -/
def State.nandChannelFailed (s : State) (c : Nat) : State :=
  let failed := s.nand.channelsFailed ++ [c]
  let s1 := { s with nand := { s.nand with channelsFailed := failed, unavailable := decide (3 ≤ failed.length) } }.faultOpen
    Code.nandChannelFailed true
  let s2 := if failed.length = 2 then s1.faultOpen Code.nandUnprotected true
            else if failed.length = 3 then s1.faultOpen Code.nandUnavailable true else s1
  s2.startRebuildOf (576 + c)

/-- A LUN fails: the LUN of its index on the spare target takes its place if it is unused; the failure of that one leaves the index
without a LUN on the channel (R261). -/
def State.markLun (s : State) (c l : Nat) : State :=
  let n := s.nand
  let target := l % s.reg 0x5002 2
  let take := decide (n.lunsFailed.get c 0 / 2 ^ l % 2 = 0) && !n.spareUsed.contains (32 * c + target)
  let mask := n.lunsFailed.get c 0 ||| 2 ^ l
  { s with
    nand := { n with
      lunsFailed := n.lunsFailed.put c mask
      spareUsed := if take then n.spareUsed ++ [32 * c + target] else n.spareUsed
      rebound := if take then n.rebound.put (32 * c + l) (s.nandLuns + target) else n.rebound.del (32 * c + l) }
    regs := s.regs.put (key (0x5100 + c) 2) (mask % 65536) }

/-- Whether every LUN of a channel has failed (R262). -/
def State.channelGone (s : State) (c : Nat) : Bool :=
  decide (s.nandLuns ≠ 0) && !s.nand.channelsFailed.contains c && (List.range s.nandLuns).all fun i => (s.physLun c i).isNone

/-- NAND_LUN_FAILED (R260, R261); with no LUN left the channel fails (R262). -/
def State.lunFailed (s : State) (c l : Nat) : State :=
  let t := ((s.markLun c l).faultOpen Code.nandLunFailed).startRebuildOf (32 * c + l)
  if t.channelGone c then t.nandChannelFailed c else t

/-- Whether a LUN index has a LUN on a channel that may fail. -/
def State.lunStands (s : State) (c l : Nat) : Bool := decide (l < s.nandLuns) && (s.physLun c l).isSome

/-! ### Wear, retirement and read errors -/

/-- Rated cycles of the profile in force (R240, R259). -/
def State.ratedCycles (s : State) : Nat := match s.nand.profile with | some p => p.ratedCycles | none => 0

/-- `remaining_pslc_pe_cycles` (R259): rated cycles less the mean count over the erase units not retired, scaled by the
fraction not retired. -/
def State.remainingCycles (s : State) : Nat :=
  let units := 18 * s.nandLuns * s.nand.unitsPerLun - (s.nand.bad ++ s.nand.roots).eraseDups.length
  let live := units - (s.nand.units.filter fun e => e.2.state == 3).length
  let sum := ((s.nand.units.filter fun e => e.2.state != 3).map fun e => e.2.cycles).sum
  if live = 0 then 0 else (s.ratedCycles - sum / live) * live / units

/-- Report the remaining cycles. -/
def State.wearUpdate (s : State) : State := s.setReg 0x5040 0 s.remainingCycles

/-- Retire an erase unit (R259); the third of one LUN within 100,000 beats fails the LUN (R260). -/
def State.retireKey (s : State) (k lun : Nat) : State :=
  let u := s.eraseUnit k
  if u.state = 3 then s
  else
    let recent := ((s.nand.recentRetired.get (k / 2 ^ 16) []).filter fun b => decide (s.clock.beat < b + 100000)) ++ [s.clock.beat]
    let s1 := { s with nand := { s.nand with units := s.nand.units.put k { u with state := 3 },
                                             recentRetired := s.nand.recentRetired.put (k / 2 ^ 16) recent } }
    let s2 := ((s1.addReg 0x5041 0 1).wearUpdate).note Code.eraseUnitRetired
    let c := k / 2 ^ 24
    if 3 ≤ recent.length ∧ s2.physLun c lun = some (k / 2 ^ 16 % 256) then s2.lunFailed c lun else s2

/-- Retire the erase unit of a segment on a channel. -/
def State.retireUnit (s : State) (seg chan : Nat) : State :=
  match (s.segment seg).units.find? chan with
  | some k => s.retireKey k (s.segment seg).lun
  | none => s

/-- A segment that is open takes no further row, once an erase unit of it is to be retired (DESIGN CHOICE, log entry 189). -/
def State.leaveSegment (s : State) (seg : Nat) : State :=
  let lun := (s.segment seg).lun
  if s.nand.openData.find? lun = some seg then (s.closeSegment lun).openSegment lun else s

/-- Erase units whose valid stripes have all been relocated are retired (R244, R259). -/
def State.retireEmptied (s : State) : State :=
  (s.nand.retiring.filter fun r => (s.segment r.1).valid == 0).foldl (fun (t : State) r =>
    { t.retireUnit r.1 r.2 with nand := { (t.retireUnit r.1 r.2).nand with
      retiring := (t.retireUnit r.1 r.2).nand.retiring.filter fun x => x != r } }) s

/-- An erase unit with more than 4 erasures in one read pass is to be retired: its segment closes, and the valid stripes are
relocated (R244). -/
def State.scheduleRetire (s : State) (seg chan : Nat) : State :=
  let busy := s.nand.victim == some seg || s.nand.retiring.any fun r => r.1 == seg
  let t := s.leaveSegment seg
  let u := { t with nand := { t.nand with retiring := if t.nand.retiring.contains (seg, chan) then t.nand.retiring
                                                      else t.nand.retiring ++ [(seg, chan)] } }
  if busy then u.retireEmptied else (u.scheduleRelocation (u.relocations fun c => c.segment == seg)).retireEmptied

/-- Codewords of a segment are read in one pass: those that the decoder corrects are counted, and so are the erasures; more than 4
of one erase unit schedule its retirement, and 8 of one program unit fail the LUN (R244, R260). -/
def State.countReads (s : State) (seg : Nat) (r : StripeRead) : State :=
  let t := r.erased.foldl (fun (t : State) (c : Fin 18) => t.addReg (0x5100 + c.val) 4 1)
    (r.corrected.foldl (fun (t : State) (c : Fin 18) => t.addReg (0x5100 + c.val) 3 1) s)
  let u := (r.erased.eraseDups.filter fun c => decide (4 < r.erased.count c)).foldl
    (fun (t : State) (c : Fin 18) => t.scheduleRetire seg c.val) t
  let lun := (s.segment seg).lun
  r.units.eraseDups.foldl (fun (t : State) (c : Fin 18) => if t.lunStands c.val lun then t.lunFailed c.val lun else t) u

/-- The stripe of a leaf's flash copy is read. -/
def State.readStripe (s : State) (leaf : Nat) (r : StripeRead) : State :=
  match s.copyOf leaf with
  | some c => s.countReads c.segment r
  | none => s

/-- Whether the stripe of a leaf can be recovered (R245): at most two of its shards are missing, those of failed LUNs and channels and
those that were never written among them (R260 to R262). -/
def State.stripeRecovered (s : State) (leaf : Nat) (r : StripeRead) : Bool :=
  match s.copyOf leaf with
  | some c =>
    let g := s.segment c.segment
    let lost := (List.range 18).filter fun ch => match g.units.find? ch, s.physLun ch g.lun with
      | some k, some p => !onLun ch p k
      | _, _ => true
    decide ((lost ++ r.erased.map (·.val)).eraseDups.length ≤ 2)
  | none => true

/-! ### Credit -/

/-- The copy that a programmed stripe makes. -/
def State.copyFrom (s : State) (id : Nat) (r : Row) (slot : Nat) (x : Stripe) : Copy :=
  { seq := x.seq, segment := r.segment, row := r.row, slot := slot, bySave := x.origin == 1, degraded := x.degraded,
    keyId := s.reg 0x5050 0, epoch := if x.origin = 1 then s.reg 0x5402 0 else 0, poison := x.poison, rowId := id }

/-- Store a stripe in its place, as its leaf's copy. -/
def State.storeCopy (s : State) (id : Nat) (r : Row) (slot : Nat) (x : Stripe) : State :=
  let c := s.copyFrom id r slot x
  let s1 := s.mapLeaf x.leaf c
  let y : Stored :=
      { leaf := x.leaf, seq := x.seq, origin := x.origin, keyId := c.keyId, epoch := c.epoch, poison := x.poison,
        missing := s.missing r.segment, rowId := id, cipher := s1.encrypt (tweakOf x.leaf 0) x.data }
  { s1 with nand := { s1.nand with flash := s1.nand.flash.put (placeOf r.segment r.row slot) y } }

/-- Store a relocated stripe in its place, unchanged but for its origin, as its leaf's copy (R256). -/
def State.moveCopy (s : State) (id : Nat) (r : Row) (slot : Nat) (x : Stripe) (c : Copy) : State :=
  let s1 := s.mapLeaf x.leaf { c with segment := r.segment, row := r.row, slot := slot, bySave := false, degraded := x.degraded,
                                      rowId := id }
  match s.storedCopy c with
  | some y =>
    let z : Stored := { y with origin := 2, missing := s.missing r.segment, rowId := id }
    { s1 with nand := { s1.nand with flash := s1.nand.flash.put (placeOf r.segment r.row slot) z } }
  | none => s1

/-- A stripe with the poison that its leaf has now: a line that is lost while the stripe programs is poisoned in it (R273, R280). -/
def State.withPoison (s : State) (x : Stripe) : Stripe :=
  if x.origin = 2 then x else { x with poison := flashPoison (s.poisonIn (x.leaf * 65536) 65536) }

/-- Lines of 256 B with a poisoned unit. -/
def poisonLines (p : Map PoisonSource) : Nat := (p.map fun e => e.1 / 4).eraseDups.length

/-- Credit one stripe of a programmed row (R248, R251, R156, R273, Table 7.3): in SAVE a PINNED leaf stays PINNED, and a save delta
record is kept (R254). Outside SAVE a credited stripe counts toward the next checkpoint. A relocation is credited while the entry
still points to its source (R251). -/
def State.creditStripe (id : Nat) (r : Row) (s : State) (p : Nat × Stripe) : State :=
  let x := s.withPoison p.2
  let counted := { s with nand := { s.nand with sinceCheckpoint := s.nand.sinceCheckpoint + 1 } }
  match x.origin with
  | 1 =>
    let s1 := s.storeCopy id r p.1 x
    let s2 := if s1.leaf x.leaf = .dirty then (s1.setLeaf x.leaf .clean .none).freeMirror x.leaf else s1
    { s2 with save := { s2.save with credited := s2.save.credited ++ [x.leaf], bytes := s2.save.bytes + 65536,
                                     poisonedLines := s2.save.poisonedLines + poisonLines x.poison,
                                     deltas := s2.save.deltas ++ [(s.copyFrom id r p.1 x).saveDelta x.leaf] } }
  | 2 =>
    match s.nand.copies.find? x.leaf with
    | some c =>
      if x.source = some (c.segment, c.row, c.slot) ∧ x.live = true then counted.moveCopy id r p.1 x c else s
    | none => s
  | 3 => s
  | _ =>
    if s.leaf x.leaf = .copying ∧ x.live = true then
      let s1 := ((counted.storeCopy id r p.1 x).setLeaf x.leaf .clean .lazy).freeMirror x.leaf
      { s1 with trickle := { s1.trickle with runBytes := s1.trickle.runBytes + 65536 } }.addReg 0x4032 0 1
    else s.addReg 0x4033 0 1

/-- The pattern of a test unit: its code and its user pattern (Table 19.2). -/
def State.patternOf (s : State) (u : Nat) : Nat × Nat := (s.breg u 0x9010 2, s.breg u 0x9010 3)

/-- A NAND unit loads 16,384 B of pattern into the page register of its channel's spare target, once no operation of the store
is due (R447). -/
def State.loadPage (s : State) (u : Nat) : State :=
  if s.nand.rows = [] then { s with test := { s.test with page := s.test.page.put (u - 49) (s.patternOf u),
                                                          busWait := s.test.busWait.filter fun x => x != u } }
  else { s with test := { s.test with busWait := if s.test.busWait.contains u then s.test.busWait else s.test.busWait ++ [u] } }

/-- NAND units that wait take the bus when the store leaves it. -/
def State.loadPages (s : State) : State := s.test.busWait.foldl State.loadPage s

/-- A copy fails outside SAVE (R263): a leaf that is COPYING returns to DIRTY, and a stripe to relocate, whose source stays valid, is
relocated again. -/
def State.failStripe (s : State) (x : Stripe) : State :=
  match x.origin with
  | 3 => s
  | 2 =>
    if x.live = false then s
    else if s.chargedStripe x then s.scheduleRelocation [x]
    else s.form [x]
  | _ =>
    let t := s.addReg 0x4033 0 1
    if t.leaf x.leaf = .copying ∧ x.live = true then t.setLeaf x.leaf .dirty .none else t

/-- A row whose LUN or channel was lost while it programmed (R262, R263, R265): in SAVE its stripes are credited DEGRADED with one
shard missing, and programmed again in the next row with more; outside SAVE the copies fail. -/
def State.rowShort (s : State) (id : Nat) (r : Row) : State :=
  let xs := r.stripes.filter fun e => e.2.origin != 3
  if s.ctl.mode ≠ .save then xs.foldl (fun (t : State) e => t.failStripe e.2) s
  else if s.missing r.segment ≤ 1 then xs.foldl (fun (t : State) e => t.creditStripe id r (e.1, { e.2 with degraded := true })) s
  else { s with nand := { s.nand with forming := (xs.map (·.2)).filter (fun x => x.origin == 1) ++ s.nand.forming } }

/-- A programmed row credits its stripes (R248). -/
def State.rowProgrammed (s : State) (id : Nat) (r : Row) : State :=
  let s1 := { s with nand := { s.nand with rows := s.nand.rows.del id } }
  let t := if r.missing < s1.missing r.segment then s1.rowShort id r
    else r.stripes.foldl (fun (t : State) e => t.creditStripe id r e) s1
  (t.retireEmptied.loadPages).panicUpdate

/-- ROW_PROGRAM_COMPLETE (R248). -/
def execRowProgramComplete (row : Nat) (s : State) : Out :=
  .next (match s.nand.rows.find? row with
    | some r => s.fresh.rowProgrammed row r
    | none => s.idle)

/-! ### Program failures -/

/-- NAND_PROGRAM_FAIL (R263): outside SAVE the copy fails, is counted as one not credited (R149), and the leaf is DIRTY again; in
SAVE a stripe with one shard missing in all is DEGRADED, and one with more is programmed again in the next row. The failing erase
unit is retired. -/
def State.programFail (s : State) (id : Nat) (r : Row) (slot shards chan : Nat) (x : Stripe) : State :=
  let rest := { r with stripes := r.stripes.del slot }
  let s1 := ((s.retireUnit r.segment chan).leaveSegment r.segment).addReg (0x5100 + chan) 5 1
  if s.ctl.mode = .save then
    if shards + s.missing r.segment ≤ 1 then
      let r' := { r with stripes := r.stripes.put slot { x with degraded := true } }
      { s1 with nand := { s1.nand with rows := s1.nand.rows.put id r' } }
    else { s1 with nand := { s1.nand with rows := s1.nand.rows.put id rest,
                                          forming := if x.origin = 1 then x :: s1.nand.forming else s1.nand.forming } }
  else { s1 with nand := { s1.nand with rows := s1.nand.rows.put id rest } }.failStripe x

/-- NAND_PROGRAM_FAIL. -/
def execNandProgramFail (row slot shards : Nat) (chan : Fin 18) (s : State) : Out :=
  .next (match s.nand.rows.find? row with
    | some r =>
      match r.stripes.find? slot with
      | some x => (s.fresh.programFail row r slot shards chan.val x).panicUpdate
      | none => s.idle
    | none => s.idle)

/-! ### Garbage collection -/

/-- Segments whose metadata is in use: the latest checkpoint, the one being written, and the latest save (R252, R272). -/
def State.metaSegments (s : State) : List Nat :=
  (match s.rootCheckpoint with | some c => c.segs | none => []) ++ (match s.nand.checkpoint with | some c => c.segs | none => []) ++
    (match s.nand.image with | some i => if i.withdrawn then [] else i.segs | none => [])

/-- The victim (R256): the full segment with the lowest valid count, the lowest open number among equals. -/
def State.gcVictim (s : State) : Option Nat :=
  ((s.nand.segments.filter fun e => e.2.state == 2 && !s.metaSegments.contains e.1 && !s.nand.marked.contains e.1).foldl
    (fun best e =>
      match best with
      | none => some (e.1, e.2)
      | some b =>
        if e.2.valid < b.2.valid ∨ (e.2.valid = b.2.valid ∧ e.2.openNo < b.2.openNo) then some (e.1, e.2) else some b)
    (none : Option (Nat × Segment))).map (·.1)

/-- GC_START (R256): the victim is chosen, and its valid stripes are read and relocated. -/
def State.gcStart (s : State) (v : Nat) (r : StripeRead) : State :=
  let t := ({ s with nand := { s.nand with victim := some v } }).countReads v r
  (t.scheduleRelocation (t.relocations fun c => c.segment == v)).panicUpdate

/-- GC_START; the operand gives the codewords that the read pass over the victim corrects and those that are erasures, each as
often as it happens on a channel, with every stripe recovered. -/
def execGcStart (s : State) (read : StripeRead := .good) : Out :=
  .next (match s.gcVictim with
    | some v =>
      if s.storeRuns = true ∧ s.segmentsFree < s.reg 0x5020 0 ∧ s.nand.victim = none ∧ s.relocationToken ≠ .no
      then s.fresh.gcStart v read else s.idle
    | none => s.idle)

/-- One erase unit is erased: its count rises, and it is FREE, or at the rated cycles retired (R259). -/
def State.eraseKey (lun : Nat) (s : State) (k : Nat) : State :=
  let u := s.eraseUnit k
  if u.state = 3 then s
  else
    let t := { s with nand := { s.nand with units := s.nand.units.put k { cycles := u.cycles + 1, state := 0 } } }
    if s.ratedCycles ≠ 0 ∧ s.ratedCycles ≤ u.cycles + 1 then t.retireKey k lun else t

/-- A segment's erase units are erased; what lay in it is gone (R256, R259). -/
def State.eraseSegment (s : State) (v : Nat) : State :=
  let t := (s.unitsOf v).foldl (State.eraseKey (s.segment v).lun) s
  { t with nand := { t.nand with
    segments := t.nand.segments.del v, flash := t.nand.flash.filter fun e => e.1 / 65536 != v,
    marked := t.nand.marked.filter fun n => n != v, cutErases := t.nand.cutErases.filter fun n => n != v,
    retiring := t.nand.retiring.filter fun r => r.1 != v } }.wearUpdate

/-- GC_VICTIM_ERASED (R256): its valid count being 0, the victim's erase units are erased and free. -/
def State.eraseVictim (s : State) (v : Nat) : State :=
  let t := { s with nand := { s.nand with
    victim := if s.nand.victim = some v then none else s.nand.victim,
    relocating := s.nand.relocating.filter fun (x : Stripe) => match x.source with | some (g, _) => g != v | none => true } }
  let u := t.eraseSegment v
  (if s.nand.victim = some v then u.addReg 0x5021 0 1 else u).openAll

/-- GC_VICTIM_ERASED: of the victim, or of a segment that Sanitize or a new key has marked for erase (R264); an erase in progress
finishes in SAVE (R258). -/
def execGcVictimErased (segment : Nat) (s : State) : Out :=
  .next (if (s.nand.victim = some segment ∨ s.nand.marked.contains segment = true) ∧ (s.segment segment).valid = 0 then
      s.fresh.eraseVictim segment
    else s.idle)

/-! ### Checkpoints -/

/-- Every D-class value as the D record carries it: the stored D-class entries (R252, R272). -/
def State.dValues (s : State) : Map Nat :=
  s.regs.filter fun e => match rowOf (e.1 / 256 % 65536) (e.1 % 256) with
    | some r => r.keep == Keeping.d
    | none => false

/-- CHECKPOINT_START (R252): on its beat or stripe count. It holds the leaf map, the segment and wear tables and a D record, as
metadata stripes; those of the tables, whose size the spec does not give, are a free number (log entry 14). -/
def State.checkpointStart (s : State) : State :=
  let stripes := 16 * s.layout.leafMapMiB + Config.free s.free
  let c : Checkpoint :=
    { seq := s.reg 0x5070 0, openNo := s.nand.nextOpen, rowId := s.nand.nextRowId, stripes := stripes, segs := [],
      map := s.nand.copies, dGeneration := s.reg 0xA003 0, dValues := s.dValues,
      crypt := s.cryptOf (metaTweak Config.checkpointBlock 0) }
  let w := s.drawn.writeMeta stripes
  { w.1 with nand := { w.1.nand with checkpoint := some { c with segs := w.2 }, checkpointBeat := s.clock.beat,
                                     sinceCheckpoint := 0 } }

/-- CHECKPOINT_START. -/
def execCheckpointStart (s : State) : Out :=
  .next (if s.storeRuns = true ∧ s.nand.checkpoint = none ∧
      ((s.reg 0x5031 0 ≤ s.clock.beat - s.nand.checkpointBeat ∧ 0 < s.nand.sinceCheckpoint) ∨
        s.reg 0x5030 0 ≤ s.nand.sinceCheckpoint)
    then s.fresh.checkpointStart else s.idle)

/-- CHECKPOINT_COMPLETE (R252): the root record names it (R253); an older save head is no save any more (Table 11.5). -/
def execCheckpointComplete (s : State) : Out :=
  .next (match s.nand.checkpoint with
    | some c =>
      let t := s.fresh.writeRoot (some c) c.rowId none
      { t with nand := { t.nand with checkpoint := none,
                                     image := s.nand.image.map fun (i : SaveImage) => { i with withdrawn := true } } }.setReg
        0x5032 0 c.seq
    | none => s.idle)

/-! ### Failures as commands -/

/-- NAND_LUN_FAILED. -/
def execNandLunFailed (chan : Fin 18) (lun : Nat) (s : State) : Out :=
  .next (if s.lunStands chan.val lun then s.fresh.lunFailed chan.val lun else s.idle)

/-- NAND_REBUILD_DONE (R261): no segment with the failed LUN remains. -/
def execNandRebuildDone (s : State) : Out :=
  .next (match s.nand.rebuild.find? fun r => s.rebuildLeft r == 0 with
    | some r => { s.fresh with nand := { s.nand with rebuild := s.nand.rebuild.filter fun x => x != r } }.note
        Code.nandRebuildDone
    | none => s.idle)

/-- NAND_CHANNEL_FAILED. -/
def execNandChannelFailed (chan : Fin 18) (s : State) : Out :=
  .next (if s.nand.channelsFailed.contains chan.val then s.idle else s.fresh.nandChannelFailed chan.val)

/-! ### The media key (R264) -/

/-- Erase the whole image: the leaf map is cleared, every erase unit that is OPEN or FULL is marked for erase in the background
(GC_VICTIM_ERASED), relocation, rebuild and checkpoint stop, and a root record with an empty checkpoint is written (R264,
R265). -/
def State.clearStore (s : State) : State :=
  let t := s.takeMap []
  let u := { t with nand := { t.nand.closeAll with
    forming := [], rows := [], checkpoint := none, victim := none, relocating := [], retiring := [], rebuild := [], image := none,
    sinceCheckpoint := 0, marked := t.nand.segments.map fun (e : Nat × Segment) => e.1 } }
  (u.writeRoot none u.nand.nextRowId none).openAll

/-- A new media key (R264): its ID is one greater, and what stands under an older one counts as absent, its valid count dropped. The
key comes from the random source: a free value. -/
def State.newKey (s : State) : State :=
  { s.drawn.takeMap [] with nand := { (s.takeMap []).nand with keyPresent := true, mediaKey := Config.free s.free % 2 ^ 512 } }.setReg
    0x5050 0 ((s.reg 0x5050 0 + 1) % 65536)

/-! ### What a save paused (Table 10.5) -/

/-- Rebuild and retirement go on after a withdrawal or a restore, with the stripes that still lie where they lay. -/
def State.resumeStore (s : State) : State :=
  let t := { s with nand := { s.nand with rebuildPaused := false } }.form s.rebuildStripes
  let now := (t.nand.forming ++ t.nand.relocating ++ (t.nand.rows.flatMap fun e => e.2.stripes.map (·.2)).filter (·.live)).map (·.leaf)
  let left := (t.relocations fun _ => true).filter fun x => t.chargedStripe x && !now.contains x.leaf
  ((t.scheduleRelocation left).retireEmptied).panicUpdate

/-- Checkpoint, relocation and rebuild stop as ingress closes for SAVE; a relocation in progress is abandoned, also one in a row that
programs, and its source stays valid (R258). -/
def Nand.stopBackground (n : Nand) : Nand :=
  let quit := fun (e : Nat × Stripe) => (e.1, { e.2 with live := e.2.live && e.2.origin != 2 })
  { n with
    checkpoint := none, relocating := [], rebuildPaused := decide (n.rebuild ≠ [])
    forming := n.forming.filter fun x => x.origin != 2
    rows := n.rows.map fun r => (r.1, { r.2 with stripes := r.2.stripes.map quit }) }

/-- Power or a COLD reset ends the programs of the store: rows in progress are lost, open segments close, and an erase in progress is
to be done again (R258, R341). -/
def State.storeCut (s : State) : Nand :=
  let cut := match s.nand.victim with | some v => if (s.segment v).valid = 0 then [v] else [] | none => []
  { s.nand.closeAll with
    rows := [], forming := [], relocating := [], checkpoint := none, victim := none, cutErases := s.nand.cutErases ++ cut }

/-! ### The leaf map after a power loss (R255) -/

/-- Whether a scan accepts a stripe: it lies under the current key, with at least 16 of its shards, in a row formed after the
checkpoint began (R255, R264). -/
def State.scans (s : State) (fromRow : Nat) (x : Stored) : Bool :=
  decide (fromRow ≤ x.rowId) && x.keyId == s.reg 0x5050 0 && s.nand.keyPresent && decide (x.missing ≤ 2)

/-- Apply a stripe that the scan has found: it takes its leaf's entry when its sequence exceeds that behind the entry; a relocated
stripe keeps its source's sequence, and takes the entry from an earlier row (DEDUCED, log entry 190). -/
def scanStripe (m : Map Copy) (e : Nat × Stored) : Map Copy :=
  let x := e.2
  let c : Copy := { seq := x.seq, segment := e.1 / 65536, row := e.1 / 16 % 4096, slot := e.1 % 16, bySave := x.origin == 1,
                    degraded := x.missing != 0, keyId := x.keyId, epoch := x.epoch, poison := x.poison, rowId := x.rowId }
  match m.find? x.leaf with
  | none => m.put x.leaf c
  | some old => if old.seq < x.seq ∨ (old.seq = x.seq ∧ old.rowId < x.rowId) then m.put x.leaf c else m

/-- The leaf map as restore rebuilds it (R255): that of the checkpoint which the latest root record names, then every stripe of a
row formed since, the save's among them. Save delta records say of the save's stripes what their headers say. -/
def State.rebuiltMap (s : State) : Map Copy :=
  let base := match s.liveCheckpoint with | some c => c.map | none => []
  (s.nand.flash.filter fun e => s.scans s.scanFrom e.2).foldl scanStripe base

end Sys2Proof.Machine
end

