-- ==== Sys2Proof/Machine/Trickle.lean ====
section
/-! DEFINITION. The delta log, heat, the trickle copier, the wear governor and save rehearsal (chapter 7). -/

namespace Sys2Proof.Machine

/-! ### Delta log -/

/-- DELTA_LAZY_WRITE (R150): a lazy change is written to the log, also while the ring is full, which holds first writes and claims
only (R151; DESIGN CHOICE, log entry 179). -/
def execDeltaLazyWrite (leaf : Nat) (s : State) : Out :=
  .next (match s.delta.lazy.find? fun e => e.1 == leaf with
    | some e =>
      { s.fresh with delta := s.delta.note .before leaf e.2.1 s.clock.beat }.cupboard s s.nowStamp
    | none => s.idle)

/-- Offset of a block of the snapshot slot that is being written, the one not used last (Table 7.4). -/
def DeltaLog.blockOffset (d : DeltaLog) : Nat := (if d.slot = 0 then 0x1200000 else 0) + 4096 * d.block

/-- Queue the write of one 4 KiB block of the state table to both copies of the snapshot slot (R151). -/
def State.snapshotBlock (s : State) : State :=
  s.queueAll (s.cupWrites .deltaLog s.delta.blockOffset 4096 6 3 s.nowStamp .snapshot)

/-- DELTA_SNAPSHOT_START (R151): at 1,835,008 records since the last snapshot began. -/
def execDeltaSnapshotStart (s : State) : Out :=
  .next (if 1835008 ≤ s.delta.fill ∧ s.delta.writing = none then
      { s.fresh with delta := { s.delta with writing := some (s.leaves, s.delta.seq), fill := 0, block := 0 } }.snapshotBlock
    else s.idle)

/-- Blocks of the state table: 3 bits for each leaf (Table 7.4). -/
def Layout.snapshotBlocks (l : Layout) : Nat := ceilDiv (3 * l.leaves) 32768

/-- A block of the snapshot stands in both copies: the next one follows (R151). -/
def State.snapshotNext (s : State) : State :=
  let t := { s with delta := { s.delta with block := s.delta.block + 1 } }
  if t.delta.writing.isSome ∧ t.delta.block < t.layout.snapshotBlocks then t.snapshotBlock else t

/-- A snapshot that has been written, in the slot not used last: records older than its start may be overwritten (R151). -/
def DeltaLog.complete (d : DeltaLog) (t : LeafTable) (n : Nat) : DeltaLog :=
  { d with snapshot := t, slot := 1 - d.slot, start := n, records := d.records.filter fun r => decide (n ≤ r.seq),
           writing := none }

/-- DELTA_SNAPSHOT_COMPLETE (R151): the last block stands in both copies; the command stands for the blocks not yet written
(log entry 35). -/
def execDeltaSnapshotComplete (s : State) : Out :=
  .next (match s.delta.writing with
    | some (t, n) =>
      { s.fresh with delta := s.delta.complete t n,
                     sched := { s.sched with bursts := s.sched.bursts.filter fun b => b.job != .snapshot } }
    | none => s.idle)

/-- The records that a replay applies: those from a sequence on, up to the first that does not follow its predecessor
(R152). -/
def following : Nat → List DeltaRec → List DeltaRec
  | _, [] => []
  | q, r :: rs => if r.seq = q then r :: following (q + 1) rs else []

/-- What a reloaded state table makes of a state that the log never records (R150, R152, R289). -/
def LeafState.reloaded : LeafState → LeafState
  | .copying => .dirty
  | .restoring => .unrestored
  | x => x

/-- The state table as a COLD reset reloads it (R152): the latest snapshot, the ring replayed from its start, and
PINNED leaves without a claim DIRTY. -/
def State.reloadLeaves (s : State) : LeafTable :=
  let t0 := (following s.delta.start s.delta.records).foldl (fun (t : LeafTable) r => t.set r.leaf r.state)
    { base := s.delta.snapshot.base.reloaded, exc := s.delta.snapshot.exc.map fun e => (e.1, e.2.reloaded) }
  (t0.listed .pinned).foldl (fun t f => if s.groups.claims.any fun c => c.1 / 16 == f then t else t.set f .dirty) t0

/-! ### Heat -/

/-- One decay of a heat word (R153). -/
def State.decay (s : State) (h : Heat) : Heat :=
  { h with heat := h.heat / 2,
           old := h.old || decide (16384 ≤ (s.nowMs + 32768 - h.last % 32768) % 32768) }

/-- HEAT_DECAY (R153): every `heat_decay_beats`, for every bundle. -/
def execHeatDecay (s : State) : Out :=
  .next (if s.reg 0x4031 0 ≤ s.clock.beat - s.trickle.decayBeat then
      { s.fresh with heat := s.heat.map fun e => (e.1, s.decay e.2), heatBase := s.decay s.heatBase,
                     trickle := { s.trickle with decayBeat := s.clock.beat } }
    else s.idle)

/-! ### Candidates -/


/-- Rank of a leaf in trickle order, smaller first (R155): priority, HEAT, save order, index from the cursor. -/
def State.trickleRank (s : State) (leaf : Nat) : Nat :=
  let n := s.layout.leaves
  let dist := (leaf + n - s.trickle.cursor) % n
  (((3 - s.tricklePriority leaf) * 65536 + (s.heatOf (bundleOf leaf)).heat) * 8 + (7 - s.saveOrder leaf)) * 2 ^ 32 + dist

/-- Insert by rank, after equals. -/
def insertBy {α : Type} (f : α → Nat) (x : α) : List α → List α
  | [] => [x]
  | y :: ys => if f x < f y then x :: y :: ys else y :: insertBy f x ys

/-- Sort by rank. -/
def sortBy {α : Type} (f : α → Nat) (xs : List α) : List α := xs.foldl (fun a x => insertBy f x a) []

/-- The candidate list (R155): quiet DIRTY leaves, or while a hold stands and there is none, any DIRTY leaf. A leaf with lines that
await a search is not read, so it is no candidate until the search ends (DEDUCED from R139, log entry 175). -/
def State.candidates (s : State) : List Nat :=
  let dirty := (s.leavesIn .dirty).filter fun f => !s.leafAwaits f
  let quiet := dirty.filter s.quiet
  sortBy s.trickleRank (if quiet = [] ∧ s.holding = true then dirty else quiet)

/-- TRICKLE_CANDIDATE_REBUILD (R155). -/
def execTrickleCandidateRebuild (s : State) : Out :=
  .next { s.fresh with trickle := { s.trickle with candidates := s.candidates, rebuiltAt := s.clock.beat } }

/-! ### Selection -/

/-- Whether the copier may select now (R155, R171, R173, R333). -/
def State.trickleRuns (s : State) : Bool :=
  (s.ctl.mode == .online || (s.ctl.mode == .restore && s.restoreShare) || (s.ctl.mode == .drowse && s.ctl.tricklePeriod)) &&
    s.trickle.rehearsal != .idle && !s.nand.unavailable

/-- Leaves COPYING now; at most 64 (R156). -/
def State.copying (s : State) : Nat := s.leafCount .copying

/-- The bucket's answer to one more selection (R158). -/
def State.token (s : State) : Token := s.tokenFor s.holding s.trickle.tokens

/-- The leaf that a rehearsal's run takes when no quiet DIRTY leaf is left: a CLEAN one, ascending from the cursor, which
is marked DIRTY under R163 (R171). -/
def State.rehearsalLeaf (s : State) : Option Nat :=
  let n := s.layout.leaves
  ((List.range n).map fun k => (s.trickle.cursor + k) % n).find? fun f =>
    decide (s.leaf f = .clean) && !s.leafAwaits f && decide (s.firstWriteCause f = 0)

/-- Copy a leaf (R156): COPYING, read through TR, its stripe forming; the cursor passes it (R155). -/
def State.copyLeaf (s : State) (leaf origin : Nat) : State :=
  let x := s.stripeOf leaf origin
  let s1 := (s.setLeaf leaf .copying .none).queueLeaf leaf 4 4 s.nowStamp false
  let s2 := { s1 with trickle := { s1.trickle with
    cursor := (leaf + 1) % s1.layout.leaves, candidates := s1.trickle.candidates.filter fun f => f != leaf } }
  (s2.form [x]).panicUpdate

/-- The candidate taken (R86, R155): by the order as it stands now, a listed leaf that is DIRTY and quiet; while a hold stands
and no quiet DIRTY leaf exists, any listed DIRTY leaf. -/
def State.candidate (s : State) : Option Nat :=
  let dirty := s.trickle.candidates.filter fun f => decide (s.leaf f = .dirty) && !s.leafAwaits f
  let quiet := dirty.filter s.quiet
  let all := s.holding && !((s.leavesIn .dirty).any fun f => s.quiet f && !s.leafAwaits f)
  (sortBy s.trickleRank (if quiet = [] ∧ all = true then dirty else quiet)).head?

/-- TRICKLE_SELECT (R155, R156, R158); in a rehearsal's run nothing is charged to the bucket (R158). -/
def State.trickleSelect (s : State) : State :=
  if s.trickleRuns = false ∨ 64 ≤ s.copying then s.idle
  else if s.trickle.rehearsal = .run then
    match s.candidate with
    | some f => s.fresh.copyLeaf f 5
    | none =>
      match s.rehearsalLeaf with
      | some f => ((s.fresh.makeDirty f).cupboard s s.nowStamp).copyLeaf f 5
      | none => s.idle
  else
    match s.candidate with
    | none => s.idle
    | some f =>
      match s.token with
      | .no =>
        if s.holding = true ∧ s.trickle.overdrawn = false then s.fresh.enterOverdraw else s.idle
      | .take => ({ s.fresh with trickle := { s.trickle with overdrawn := false } }.chargeWear 73728).copyLeaf f 0
      | .slow =>
        ({ s.fresh with trickle := { s.trickle with drawGained := s.trickle.drawGained - 73728 } }.chargeWear 73728).copyLeaf f 0

/-- TRICKLE_SELECT. -/
def execTrickleSelect (s : State) : Out := .next s.trickleSelect

/-! ### Wear rate -/

/-- The average rate in bytes of program per second (R157). -/
def wearRate (peLeft cap horizonYears serviceHours : Nat) : Nat :=
  let horizon := horizonYears * 31557600
  let used := serviceHours * 3600
  let left := if used + 2592000 < horizon then horizon - used else 2592000
  peLeft * cap / left

/-- Recompute the rate; the passing of the horizon is recorded once (R157). -/
def State.wearRecompute (s : State) : State :=
  let r := wearRate (s.reg 0x5040 0) (s.reg 0x5003 0) (s.reg 0x4040 1) (s.reg 0x4040 2)
  let past := decide (s.reg 0x4040 1 * 31557600 < s.reg 0x4040 2 * 3600)
  let s1 := { s with trickle := { s.trickle with rate := r, horizonPassed := past } }.setReg 0x4041 0 r
  if past && !s.trickle.horizonPassed then s1.note Code.wearHorizonPassed else s1

/-- WEAR_RATE_RECOMPUTE (R157). -/
def execWearRateRecompute (s : State) : Out := .next s.fresh.wearRecompute

/-! ### Supply states (Table 12.2) -/

/-- The bus leaves INPUT: the charger pauses (R302). -/
def State.leaveInput (s : State) (st : Supply) (isolation : Bool) : State :=
  let pause := decide (s.niura.charger ≠ .fault) && decide (s.niura.charger ≠ .paused)
  { s with niura := { s.niura with supply := st, isolationOpen := isolation,
                                   resume := if pause then s.niura.charger else s.niura.resume,
                                   charger := if pause then .paused else s.niura.charger } }

/-- The bus returns to INPUT: the isolation closes and a paused charger goes on (R297, R302). -/
def State.toInput (s : State) : State :=
  { s with niura := { s.niura with supply := .input, isolationOpen := false,
                                   charger := if s.niura.charger = .paused then s.niura.resume else s.niura.charger } }

/-! ### Save rehearsal (R171) -/

/-- REHEARSAL_DUE. -/
def State.rehearsalFallsDue (s : State) : State :=
  { s with trickle := { s.trickle with rehearsal := .due, dueBeat := s.clock.beat, overdue := false } }

/-- Whether a cause of a rehearsal holds (R171): the period, counted in hours of service from the start of the last rehearsal
(DESIGN CHOICE, log entry 181), or a SAVE that has programmed a stripe; a request always does. -/
def State.rehearsalCause (s : State) : DueCause → Bool
  | .period => decide (s.reg 0x4022 0 ≤ s.reg 0x4040 2 - s.trickle.lastHour)
  | .afterSave => s.trickle.saveDue
  | .request => true

/-- REHEARSAL_DUE: by period, after a save, or on request; one that is due or running stays so. -/
def execRehearsalDue (cause : DueCause) (s : State) : Out :=
  .next (if s.trickle.rehearsal = .none ∧ s.rehearsalCause cause = true then
      (if cause = .afterSave then
        { s.fresh with trickle := { s.trickle with saveDue := false } }.rehearsalFallsDue
      else s.fresh.rehearsalFallsDue)
    else s.idle)

/-- REHEARSAL_START: ONLINE, the charger FULL, no write held, no SAVE trigger; a due health test runs first (R327). -/
def execRehearsalStart (s : State) : Out :=
  .next (if s.trickle.rehearsal = .due ∧ s.ctl.mode = .online ∧ s.niura.charger = .full ∧ s.holding = false ∧
      s.save.arm = 0 ∧ s.niura.tripped = false ∧ s.niura.supply = .input ∧ s.niura.healthDue = false
    then
      let t := { s.fresh with trickle := { s.trickle with rehearsal := .idle, phaseBeat := s.clock.beat,
                                                          lastHour := s.reg 0x4040 2 } }
      t.leaveInput .rehearse true
    else s.idle)

/-- REHEARSAL_IDLE_END: after 1,000 beats E_idle is taken and the full-rate run begins. -/
def execRehearsalIdleEnd (eIdleMj : Nat) (s : State) : Out :=
  .next (if s.trickle.rehearsal = .idle ∧ 1000 ≤ s.clock.beat - s.trickle.phaseBeat then
      { s.fresh with trickle := { s.trickle with rehearsal := .run, phaseBeat := s.clock.beat, idleMj := eIdleMj,
                                                 runBytes := 0 } }.reclass
    else s.idle)

/-- Whether a rehearsal's result is accepted (R171). -/
def rehearsalGood (eRunMj bytes : Nat) : Bool :=
  let e := eRunMj * 1000000000 / bytes
  decide (1000 ≤ e) && decide (e ≤ 10000) && decide (2560000000 ≤ bytes)

/-- The end of a rehearsal's run: e_byte = E_run / B and E_fixed = E_idle × 3.5, or REHEARSAL_REJECTED. -/
def State.rehearsalEnd (s : State) (eRunMj : Nat) : State :=
  let s1 := ({ s with trickle := { s.trickle with rehearsal := .none, overdue := false } }.reclass).toInput
  if rehearsalGood eRunMj s.trickle.runBytes then
    ((s1.setReg 0x4020 0 (eRunMj * 1000000000 / s.trickle.runBytes)).setReg 0x4021 0
      (s.trickle.idleMj * 35 / 10)).setReg 0x4025 0 (s.reg 0x4040 2)
  else s1.note Code.rehearsalRejected

/-- REHEARSAL_RUN_END: after 10,000 beats. -/
def execRehearsalRunEnd (eRunMj : Nat) (s : State) : Out :=
  .next (if s.trickle.rehearsal = .run ∧ 10000 ≤ s.clock.beat - s.trickle.phaseBeat then s.fresh.rehearsalEnd eRunMj
    else s.idle)

/-- REHEARSAL_OVERDUE: not started 24 h after it fell due. -/
def execRehearsalOverdue (s : State) : Out :=
  .next (if s.trickle.rehearsal = .due ∧ s.trickle.overdue = false ∧ 8640000000 ≤ s.clock.beat - s.trickle.dueBeat then
      { s.fresh with trickle := { s.trickle with overdue := true } }.faultOpen Code.rehearsalOverdue
    else s.idle)

/-- A rehearsal is discarded (R171, R297). -/
def State.dropRehearsal (s : State) : State :=
  { s with trickle := { s.trickle with rehearsal := if s.trickle.rehearsal = Rehearsal.idle ∨ s.trickle.rehearsal = Rehearsal.run
                                                    then .none else s.trickle.rehearsal } }.reclass

/-- BUS_BELOW_HU_BUS_MIN (Table 12.2): in REHEARSE the isolation closes, INPUT, REHEARSAL_REJECTED. -/
def execBusBelowHuBusMin (mv : Nat) (s : State) : Out :=
  .next (if s.niura.supply = .rehearse ∧ mv < s.reg 0x6060 6 then
      (s.fresh.dropRehearsal.toInput).note Code.rehearsalRejected
    else s.idle)

/-- Beats of the last 100,000 that trickle periods have taken (R173). -/
def State.periodSpent (s : State) : Nat :=
  let from' := s.clock.beat - 100000
  let past := (s.ctl.periods.map fun p => p.2 - max p.1 from').foldl (· + ·) 0
  past + (if s.ctl.tricklePeriod then s.clock.beat - max s.ctl.periodFrom from' else 0)

/-- Trickle pauses in DROWSE: the period ends, and copies in progress are completed before DRAM returns to self-refresh (R173). -/
def State.pausePeriod (s : State) : State := { s.endPeriod with ctl := { s.endPeriod.ctl with finishing := true } }

/-- Beats that a trickle period may still take. -/
def State.periodLeft (s : State) : Nat := s.reg 0x4051 0 * 1000 - s.periodSpent

/-- DROWSE_TRICKLE_PERIOD (R173): a period starts within its share of the last 100,000 beats, or ends. -/
def execDrowseTricklePeriod (start : Bool) (s : State) : Out :=
  .next (if s.ctl.mode = .drowse ∧ s.ctl.waking = false ∧ start = true ∧ s.reg 0x4050 0 = 1 ∧ s.ctl.tricklePeriod = false ∧
      0 < s.periodLeft ∧ s.leavesIn .dirty ≠ [] then
      { s.fresh with ctl := { s.ctl with tricklePeriod := true, periodFrom := s.clock.beat } }
    else if s.ctl.mode = .drowse ∧ start = false ∧ s.ctl.tricklePeriod = true then s.fresh.endPeriod
    else s.idle)

end Sys2Proof.Machine
end

