-- ==== Sys2Proof/Machine/Groups.lean ====
section
/-! DEFINITION. Commands to Desk slots over CXL.mem and over the mailbox, and the messages and timers of joint
groups (chapter 8, R33 to R36, R195 to R198, R224 to R228). -/

namespace Sys2Proof.Machine

/-! ### Slot commands -/

/-- The CXL.mem write that carries a slot command; `cmd` says whether it enables bytes 0 to 7 (R175). -/
def deskWriteOf (opcode : Nat) (cmd : Bool) (a : DeskArgs) : MemWrite :=
  { link := a.link, dpa := deskBase + 64 * a.group,
    data := (a.operands.zeroExtend 512 <<< 64) ||| (a.word.zeroExtend 512 <<< 8) ||| BitVec.ofNat 512 (opcode % 256),
    be := (a.enable.zeroExtend 64 <<< 8) ||| (if cmd then 0xFF else 0), poison := false, stamp := 0 }

/-- DESK_COMMAND (R57): Internal Error with no core pair left (R393), malformed, Busy while host access is not open, all ones outside the link's Desk range (R47), or
the slot's status once RUNNING has cleared. -/
def State.deskMailbox (s : State) (opcode : Nat) (a : DeskArgs) : State :=
  let i := a.link.val
  let s1 := s.ioArrives i
  if s.bureau.lost then s1.mail i 0xC200 .internalError []
  else if 262144 ≤ a.group then s1.mail i 0xC200 .invalidInput []
  else if s1.deskClosed then s1.mail i 0xC200 .busy []
  else if s1.inDesk i a.group = false then (s1.deskViolation i).mail i 0xC200 .success [2 ^ 256 - 1]
  else if opcode = 0 then (s1.deskWrite 0 a).deskDone a
  else (((s1.deskWrite opcode a).cupboard s1 s.nowStamp).resumeGroupWrites).panicUpdate

/-- A slot command by its path. -/
def State.deskCommand (s : State) (opcode : Nat) (cmd : Bool) (a : DeskArgs) : Out :=
  if a.mailbox then
    .next (if (s.link a.link.val).up then s.fresh.deskMailbox opcode a else s.idle)
  else if s.reaches a.link.val (deskBase + 64 * a.group) then
    .next ((s.fresh.hostWrite (deskWriteOf opcode cmd a)).resumeGroupWrites)
  else .fault .unmappedDpa

/-- DESK_OPERAND_STAGE (R175): a write that enables no byte of the command word. -/
def execDeskOperandStage (a : DeskArgs) (s : State) : Out := s.deskCommand 0 false a

/-- DESK_POISONED_WRITE (R175). -/
def execDeskPoisonedWrite (link : Fin 4) (group : Nat) (s : State) : Out :=
  if s.reaches link.val (deskBase + 64 * group) then
    .next (s.fresh.hostWrite { link := link, dpa := deskBase + 64 * group, data := 0, be := BitVec.allOnes 64,
                               poison := true, stamp := 0 })
  else .fault .unmappedDpa

/-- DESK_NOP: opcode 0x00 (R176). -/
def execDeskNop (a : DeskArgs) (s : State) : Out := s.deskCommand 0 true a

/-- DESK_INVALID_OPCODE: 0x0A to 0xFF (R178); any other opcode is no such command. -/
def execDeskInvalidOpcode (opcode : BitVec 8) (a : DeskArgs) (s : State) : Out :=
  if opcode.toNat < 10 then .next s.idle else s.deskCommand opcode.toNat true a

/-- OPEN (R181). -/
def execDeskOpen (a : DeskArgs) (s : State) : Out := s.deskCommand 1 true a

/-- CLAIM (R182, R183, R166). -/
def execDeskClaim (a : DeskArgs) (s : State) : Out := s.deskCommand 2 true a

/-- RELEASE (R184). -/
def execDeskRelease (a : DeskArgs) (s : State) : Out := s.deskCommand 3 true a

/-- COMMIT (R188). -/
def execDeskCommit (a : DeskArgs) (s : State) : Out := s.deskCommand 4 true a

/-- ABORT (R189). -/
def execDeskAbort (a : DeskArgs) (s : State) : Out := s.deskCommand 5 true a

/-- BEGIN_JOINT (R192). -/
def execDeskBeginJoint (a : DeskArgs) (s : State) : Out := s.deskCommand 6 true a

/-- PREPARE (R193). -/
def execDeskPrepare (a : DeskArgs) (s : State) : Out := s.deskCommand 7 true a

/-- DECIDE (R194). -/
def execDeskDecide (a : DeskArgs) (s : State) : Out := s.deskCommand 8 true a

/-- ACK_TERMINAL (R190). -/
def execDeskAckTerminal (a : DeskArgs) (s : State) : Out := s.deskCommand 9 true a

/-- A slot read that may wait up to 2 µs for a command on the slot (R180). -/
def State.deskRead (s : State) (link : Fin 4) (g : Nat) (canFinish : Bool) : State :=
  let dpa := deskBase + 64 * g
  if s.accepts link.val ∧ s.shut link.val = false ∧ s.inDesk link.val g = true ∧ (s.slot g).running ∧ canFinish then
    let s1 := s.memArrives link.val
    { s1 with ingress := { s1.ingress with
        reads := s1.ingress.reads ++
          [({ link := link, dpa := dpa, wait := .rollback, stamp := s.nowStamp, ahead := (s.slot g).waiting.length } : HeldRead)] } }.emit
      (.held link.val)
  else s.hostRead link dpa s.nowStamp

/-- DESK_READ (R179, R180). -/
def execDeskRead (link : Fin 4) (group : Nat) (canFinish : Bool) (s : State) : Out :=
  if s.reaches link.val (deskBase + 64 * group) then .next (s.fresh.deskRead link group canFinish)
  else .fault .unmappedDpa

/-- A rollback ends: the slot reads behind it are answered before the commands that came after them run (R180, R58). -/
def State.closeRollback (s : State) (g : Nat) : State :=
  (((s.endRollback g).answerReads g).deskResume g).cupboard s s.nowStamp

/-- A rollback ends and what waited for it goes on (R189, Table 8.7). -/
def State.finishRollback (s : State) (g : Nat) : State :=
  ((s.closeRollback g).resumeGroupWrites).panicUpdate

/-- ROLLBACK_COMPLETE (R189). A rollback does not run in SAVE, BRING-UP or DORMANT (R271). -/
def execRollbackComplete (group : Nat) (s : State) : Out :=
  .next (if s.rollbackReady group ∧ s.ctl.mode ≠ .save ∧ s.ctl.mode ≠ .dormant ∧ s.ctl.mode ≠ .bringUp
    then s.fresh.finishRollback group else s.idle)

/-! ### Messages of joint groups -/

/-- Whether some part of a transaction stands here in any state. -/
def State.hasPart (s : State) (txn : Nat) : Bool :=
  s.groups.slots.any fun e => e.2.txn == txn && e.2.part && !e.2.anchor

/-- A DECIDE cell is delivered (R195): applied to the PREPARED parts, acknowledged again, or cached and acknowledged. -/
def State.takeDecide (s : State) (txn : Nat) (commit : Bool) : State :=
  if s.partsOf txn ≠ [] then
    ((((s.resolveParts txn commit false).ackIfDone txn).cupboard s s.nowStamp).resumeGroupWrites).panicUpdate
  else if s.hasPart txn then s.ackIfDone txn
  else (s.cacheDecision txn commit).ackIfDone txn

/-- DECIDE_CELL_RECEIVED: a member that is not alive takes no cell (R219). -/
def execDecideCellReceived (source txn : Nat) (commit : Bool) (s : State) : Out :=
  .next (if s.ownAlive ∧ source < 1024 then s.fresh.takeDecide txn commit else s.idle)

/-- ACK entries (R196, R226). -/
def State.takeAck (s : State) (source : Nat) (txns : List Nat) : State :=
  (txns.foldl (fun t x => t.acknowledge source x) s).cupboard s s.nowStamp

/-- ACK_CELL_RECEIVED. -/
def execAckCellReceived (source : Nat) (txns : List Nat) (s : State) : Out :=
  .next (if s.ownAlive ∧ 1 ≤ txns.length ∧ txns.length ≤ 5 then s.fresh.takeAck source txns else s.idle)

/-- The answer to a QUERY entry (R34, R226), after presumed abort has been recorded for an UNDECIDED entry (R197). -/
def State.queryAnswer (s : State) (txn : Nat) : State × (Nat × Bool × Bool) :=
  match s.decisionOf txn with
  | none => (s, (txn, false, decide (anchorOf txn = s.member) && decide (txn % 2 ^ 54 < s.reg 0x4420 0)))
  | some (i, d) =>
    if d.state = 1 then (s.decideHere i d false true, (txn, false, false)) else (s, (txn, d.state == 2, false))

/-- One QUERY entry. -/
def State.takeQuery (source : Nat) (s : State) (txn : Nat) : State :=
  let r := s.queryAnswer txn
  (r.1.cupboard s s.nowStamp).sendAnswer source r.2

/-- QUERY_CELL_RECEIVED (R226). -/
def execQueryCellReceived (source : Nat) (txns : List Nat) (s : State) : Out :=
  .next (if s.ownAlive ∧ 1 ≤ txns.length ∧ txns.length ≤ 5 then
      ((txns.foldl (State.takeQuery source) s.fresh).resumeGroupWrites).panicUpdate
    else s.idle)

/-- Parts of a transaction whose forced outcome differs from an answer (R36). -/
def State.forcedOther (s : State) (txn : Nat) (commit : Bool) : Bool :=
  s.groups.slots.any fun e => e.2.txn == txn && e.2.forced && !e.2.anchor &&
    (if commit then decide (e.2.state = .aborted) else decide (e.2.state = .committed))

/-- One ANSWER entry (R33, R36, R198, R226). -/
def State.takeAnswer (s : State) (item : Nat × Bool × Bool) : State :=
  let txn := item.1
  let s0 := if s.forcedOther txn item.2.1 then s.faultOpen Code.forcedConflict else s
  if s0.partsOf txn = [] then (if s0.hasPart txn then s0.ackIfDone txn else s0)
  else
    let s1 := if item.2.2 then s0.unprepared else s0
    ((s1.resolveParts txn item.2.1 false).ackIfDone txn).cupboard s s.nowStamp

/-- ANSWER_CELL_RECEIVED. -/
def execAnswerCellReceived (source : Nat) (items : List (Nat × Bool × Bool)) (s : State) : Out :=
  .next (if s.ownAlive ∧ source < 1024 ∧ 1 ≤ items.length ∧ items.length ≤ 4 then
      ((items.foldl State.takeAnswer s.fresh).resumeGroupWrites).panicUpdate
    else s.idle)

/-- Send a QUERY for a part (R33, R197): to its anchor, or answered at once when this member is the anchor. -/
def State.sendQuery (s : State) (txn : Nat) : State :=
  if anchorOf txn = s.member then
    let r := s.queryAnswer txn
    (((r.1.cupboard s s.nowStamp).takeAnswer r.2).resumeGroupWrites).panicUpdate
  else s.sendTxn true (anchorOf txn) txn

/-! ### Timers of joint groups -/

/-- Resend every decided entry's DECIDE cell (R196). -/
def State.resendDecides (s : State) : State :=
  let s1 := { s with groups := { s.groups with resendBeat := s.clock.beat, resendDue := false } }
  ((s1.groups.decisions.map (·.1)).foldl (fun t i => t.sendDecide i) s1).cupboard s s.nowStamp

/-- DECIDE_RESEND (R196): every `decide_resend_beats`, and at once after the member's own restore. -/
def execDecideResend (s : State) : Out :=
  .next (if s.ownAlive ∧ (s.groups.resendDue = true ∨ s.reg 0x4422 0 ≤ s.clock.beat - s.groups.resendBeat)
    then s.fresh.resendDecides else s.idle)

/-- PREPARE_QUERY_TIMER (R197). -/
def execPrepareQueryTimer (group : Nat) (s : State) : Out :=
  let x := s.slot group
  .next (if x.state = .prepared ∧ x.part = true ∧ s.reg 0x4423 0 ≤ s.clock.beat - x.queryBeat ∧
      s.ownAlive = true ∧ s.alive (anchorOf x.txn) = true
    then (s.fresh.setSlot group { x with queryBeat := s.clock.beat }).sendQuery x.txn else s.idle)

/-- INDOUBT_QUERY (R33, R227): the first in a beat in which both are alive (`queryBeat` 0), then at the interval. -/
def execIndoubtQuery (group : Nat) (s : State) : Out :=
  let x := s.slot group
  .next (if x.state = .inDoubt ∧ s.ownAlive = true ∧ s.alive (anchorOf x.txn) = true ∧
      (x.queryBeat = 0 ∨ s.reg 0x4832 0 ≤ s.clock.beat - x.queryBeat)
    then (s.fresh.setSlot group { x with queryBeat := s.clock.beat }).sendQuery x.txn else s.idle)

/-- DECISION_CACHE_EXPIRE (R195): after 1,000,000 beats. -/
def execDecisionCacheExpire (txn : Nat) (s : State) : Out :=
  .next (if s.groups.cache.any fun c => c.txn == txn && decide (1000000 ≤ s.clock.beat - c.beat) then
      { s.fresh with groups := { s.groups with cache := s.groups.cache.filter fun c => c.txn != txn } }
    else s.idle)

/-! ### Forced resolution (R36, R228) -/

/-- IN_DOUBT parts of a transaction. -/
def State.inDoubtParts (s : State) (txn : Nat) : List Nat :=
  (s.groups.slots.filter fun e => e.2.txn == txn && decide (e.2.state = .inDoubt)).map (·.1)

/-- Force the IN_DOUBT parts of the transaction in `force_txn_id`. -/
def State.forceOutcome (s : State) (commit : Bool) : State :=
  let txn := s.reg 0x4840 1
  let s1 := (s.inDoubtParts txn).foldl (State.resolvePart commit true) s
  let s2 := ((s1.note Code.forcedResolution (words2 txn ++ [commit.toNat])).addReg 0x4840 4 1).ackIfDone txn
  ((s2.cupboard s s.nowStamp).resumeGroupWrites).panicUpdate

end Sys2Proof.Machine
end

