-- ==== Sys2Proof/Machine/Sched.lean ====
section
/-! DEFINITION. The DRAM scheduler (chapter 5) and the arming of mirror windows (R88). -/

namespace Sys2Proof.Machine

/-! ### Mirror arming -/

/-- Non-clean leaves of a window. -/
def State.windowLeaves (s : State) (w : Nat) : List Nat :=
  (s.leavesIn .dirty ++ s.leavesIn .copying ++ s.leavesIn .pinned).filter fun f => s.windowHas w (f * 65536)

/-- Leaves of a window that wait for their restore, and that undo or a claim will make DIRTY or PINNED (R88, R285). -/
def State.unrestoredDirty (s : State) (w : Nat) : List Nat :=
  ((s.groups.undo.map (fun (e : JEntry) => e.line / 256) ++ s.groups.claims.map fun (c : Nat × Claim) => c.1 / 16).eraseDups).filter fun f =>
    s.windowHas w (f * 65536) && s.awaitsRestore f

/-- The arming copy of a leaf (R88): its lines are read and written to the mirror through port JN, once its mirror lines are
reserved. -/
def State.armLeaf (s : State) (leaf : Nat) : State :=
  let t := s.reserveMirror leaf
  if t.mirrorCopied.contains leaf ∧ t.mirrorWhole.contains leaf = false then
    t.queueAll (t.unitBursts (leaf * 1024) 1024 6 3 t.nowStamp false ++ (List.range 1024).map fun i =>
      t.mirrorBurst ((leaf * 1024 + i) * 64) t.nowStamp none (.arm (leaf * 1024 + i)))
  else t

/-- Leaves that have mirror lines reserved are wholly copied. -/
def State.armed (s : State) (leaves : List Nat) : State :=
  let done := leaves.filter fun f => s.mirrorCopied.contains f && !s.mirrorWhole.contains f
  { s with mirrorWhole := s.mirrorWhole ++ done,
           sched := { s.sched with bursts := s.sched.bursts.filter fun b => match b.job with
             | .arm u => !done.contains (u / 1024)
             | _ => true } }

/-- MIRROR_ARMING_COMPLETE (R88, R169): each non-clean leaf of the window has its mirror copy; while one finds no room, the
window stays ARMING, and so it does while a leaf that its restore will make non-clean is not restored. The command stands for what
is left of the copy (log entry 35); in SAVE arming goes on no more. -/
def execMirrorArmingComplete (window : Fin 64) (s : State) : Out :=
  let w := window.val
  let t := (s.windowLeaves w).foldl State.reserveMirror s.fresh
  let u := t.armed (s.windowLeaves w)
  .next (if s.reg (0x2500 + w) 5 = 1 ∧ s.ctl.mode ≠ .save then
      (if (s.windowLeaves w).all (fun f => u.mirrorCopied.contains f) && (s.unrestoredDirty w).isEmpty then
        u.setReg (0x2500 + w) 5 2
      else u)
    else s.idle)

/-! ### Ages and order -/

/-- Age in ns of a stamp (R95). -/
def ageNs (now stamp : BitVec 16) : Nat := (now - stamp).toNat * 16

/-- One stamp is older than another (R95). -/
def olderStamp (a b : BitVec 16) : Bool := decide (1 ≤ (b - a).toNat) && decide ((b - a).toNat ≤ 32767)


/-- Whether burst `b` must wait for burst `a` (Table 5.5): a write behind an earlier write or read of the same 64 B, a host
write behind the pre-image read of its line, and a host access behind the RS writes of its leaf. A read behind a write does
not wait. -/
def waitsFor (b a : Burst) : Bool :=
  a.id != b.id &&
    ((b.write && a.chan == b.chan && a.unit == b.unit &&
      (if a.write && a.ancient.isNone && b.ancient.isNone then
        olderStamp a.stamp b.stamp || (a.stamp == b.stamp && decide (a.id < b.id))
      else decide (a.id < b.id))) ||
    (b.write && decide (b.port < 4) && a.port == 6 && !a.write && a.unit / 4 == b.unit / 4 && decide (a.id < b.id)) ||
    (decide (b.port < 4) && a.port == 5 && a.write && a.job == .none && a.unit / 1024 == b.unit / 1024))

/-- DRAM is out of self-refresh in DROWSE for a trickle period, or until the copies in progress at its entry have completed
(R173, R333). -/
def State.drowseAwake (s : State) : Bool := s.ctl.tricklePeriod || (s.ctl.finishing && decide (s.copying ≠ 0))

/-- DRAM is in self-refresh or off (R108, Table 5.7). -/
def State.selfRefresh (s : State) : Bool :=
  s.ctl.mode == .dormant || (s.ctl.mode == .drowse && !s.ctl.waking && !s.drowseAwake)

/-- Ports served in the mode (Table 5.7); in SAVE writes of any port are issued (R107). While a wake from DROWSE is in
progress DRAM is out of self-refresh and every port is served (DESIGN CHOICE, log entry 36: Table 5.7 does not say). -/
def State.portServed (s : State) (b : Burst) : Bool :=
  match s.ctl.mode with
  | .dormant => false
  | .bringUp => b.port == 5 || b.port == 6 || b.port == 8
  | .online | .restore => true
  | .drowse => s.ctl.waking || (s.drowseAwake && (b.port == 4 || b.port == 6 || b.port == 8))
  | .save => b.write || b.port == 4 || b.port == 6

/-- Class that ranks a burst: its own, or a higher one lent by a burst that waits for it (R106). -/
def lentClass (bs : List Burst) (b : Burst) : Nat :=
  (bs.filter fun x => waitsFor x b).foldl (fun c x => min c x.cls) b.cls

/-- Promotion, lent in the same way. -/
def lentPromotion (bs : List Burst) (b : Burst) : Bool := b.promoted || bs.any fun x => x.promoted && waitsFor x b

/-- Key of a subchannel. -/
def subKey (chan sub : Nat) : Nat := 2 * chan + sub

/-- Key of a burst's bank, its rank and chip among the bank's bits (R110). -/
def State.bankKey (s : State) (b : Burst) : Nat := subKey b.chan b.sub * 512 + s.layout.bankOf b.off

/-- Whether class 0 has share left in this interval (R101): a burst takes 16 transfers of the rate (DEDUCED, log entry 37).
The share applies in ONLINE, DROWSE and RESTORE, as R101 says, so neither in SAVE nor in BRING-UP; while the channel's rate
reads 0 there is none to count (DESIGN CHOICE, log entry 37). -/
def State.shareLeft (s : State) (chan sub : Nat) : Bool :=
  s.ctl.mode == .save || s.ctl.mode == .bringUp || s.reg (0x3400 + chan) 2 == 0 ||
    decide (16 * (s.sched.share.get (subKey chan sub) 0 + 1) * 100 ≤ s.reg 0x3001 0 * s.reg (0x3400 + chan) 2)

/-- Whether a bank's open row is the burst's row. -/
def State.rowHit (s : State) (b : Burst) : Bool :=
  s.sched.openRow.find? (s.bankKey b) == some (s.layout.rowOf b.off)

/-- Whether `a` goes before `b` by stamp, port order and entry order. -/
def ageBefore (a b : Burst) : Bool :=
  olderStamp a.stamp b.stamp || (a.stamp == b.stamp && (decide (a.port < b.port) || (a.port == b.port && decide (a.id < b.id))))

/-- The first of a list under an order. -/
def firstBy (before : Burst → Burst → Bool) (bs : List Burst) : Option Burst :=
  bs.foldl (fun best b => match best with | none => some b | some a => if before b a then some b else some a) none

/-- Whether `a` became ANCIENT before `b`. -/
def ancientBefore (a b : Burst) : Bool := decide (a.ancient.getD 0 < b.ancient.getD 0)

/-- Ranks 1 to 4 of the port and class arbiters (Table 5.2), each applied to what the ranks above it leave: class 0 within its
share, ANCIENT bursts, promoted ones, and the lowest class; `last` chooses among the bursts of that class. -/
def State.ranked (s : State) (chan sub : Nat) (last : List Burst → Option Burst) (bs : List Burst) : Option Burst :=
  let all := s.sched.bursts
  let zero := bs.filter fun b => lentClass all b == 0
  let c1 := if zero ≠ [] ∧ s.shareLeft chan sub = true then zero else bs
  let old := c1.filter fun b => b.ancient.isSome
  let promoted := c1.filter fun b => lentPromotion all b
  if old ≠ [] then firstBy ancientBefore old
  else if promoted ≠ [] then firstBy ageBefore promoted
  else
    let low := (c1.map (lentClass all)).foldl min 8
    last (c1.filter fun b => lentClass all b == low)

/-- The channel scheduler's choice among bursts of one class (Table 5.2): row hits first; in SAVE stamp order alone (R112). -/
def State.schedule (s : State) (bs : List Burst) : Option Burst :=
  let hits := bs.filter s.rowHit
  if s.ctl.mode = .save ∨ hits = [] then firstBy ageBefore bs else firstBy ageBefore hits

/-- The class arbiter and the channel scheduler (Table 5.2). -/
def State.arbitrate (s : State) (chan sub : Nat) (bs : List Burst) : Option Burst := s.ranked chan sub s.schedule bs

/-! ### The port arbiter -/

/-- A port's queue of 32 bursts for a subchannel (R92): the first bursts that wait there; later ones stand behind a full
queue. -/
def State.portQueue (s : State) (chan sub port : Nat) : List Burst :=
  (s.sched.bursts.filter fun b => b.chan == chan && b.sub == sub && b.port == port && !b.inQueue).take 32

/-- Heads of the ports' queues of a subchannel: of the nine ports that Tables 5.1 and 5.2 name, where R93's text counts ten
(DESIGN CHOICE, log entry 176). -/
def State.heads (s : State) (chan sub : Nat) : List Burst :=
  (List.range 9).filterMap fun p => (s.portQueue chan sub p).find? s.portServed

/-- Whether a transaction queue has room. -/
def State.queueRoom (s : State) (chan sub : Nat) : Bool :=
  decide ((s.sched.bursts.filter fun b => b.chan == chan && b.sub == sub && b.inQueue).length < 64)

/-- The bursts that enter their transaction queues with one, itself among them (Table 5.5). -/
def State.matesOf (s : State) (b : Burst) : List Burst := s.sched.bursts.filter fun x => x.mate == b.mate && !x.inQueue

/-- Whether a burst can enter its transaction queue now: it and its mates each stand first in a port queue, with room behind it. -/
def State.admissible (s : State) (b : Burst) : Bool :=
  (s.matesOf b).all fun m => s.queueRoom m.chan m.sub &&
    (match (s.portQueue m.chan m.sub m.port).find? s.portServed with
      | some h => h.id == m.id
      | none => false)

/-- The port arbiter's choice (Table 5.2): round robin among ports of the same class, and in SAVE stamp order (Table 5.7). -/
def State.portChoice (s : State) (chan sub : Nat) : Option Burst :=
  let last := s.sched.lastPort.get (subKey chan sub) 8
  let turn := fun (b : Burst) => (b.port + 8 - last) % 9
  s.ranked chan sub
    (fun xs => if s.ctl.mode = .save then firstBy ageBefore xs else firstBy (fun a b => decide (turn a < turn b)) xs)
    ((s.heads chan sub).filter s.admissible)

/-- Change one burst. -/
def State.setBurst (s : State) (id : Nat) (f : Burst → Burst) : State :=
  { s with sched := { s.sched with bursts := s.sched.bursts.map fun b => if b.id = id then f b else b } }

/-- A burst enters its transaction queue, and its port has had its turn (R92). -/
def State.admitOne (s : State) (b : Burst) : State :=
  let t := s.setBurst b.id fun x => { x with inQueue := true }
  { t with sched := { t.sched with lastPort := t.sched.lastPort.put (subKey b.chan b.sub) b.port } }

/-- Admit bursts into the transaction queue of 64 entries; `fuel` bounds the rounds. -/
def State.admitBursts (chan sub : Nat) : Nat → State → State
  | 0, s => s
  | fuel + 1, s =>
    if s.queueRoom chan sub = false then s
    else match s.portChoice chan sub with
      | none => s
      | some b => State.admitBursts chan sub fuel ((s.matesOf b).foldl State.admitOne s)

/-! ### Issue -/

/-- The latest age at which a burst of class 1 to 7 may issue (R99): the training windows of an open gather window extend
it. -/
def State.issueBound (s : State) (b : Burst) : Nat :=
  s.reg 0x3000 b.cls + Config.trfcNs (s.reg 0x3020 0 == 1) + b.extended +
    (if s.dram.retrain = some b.chan then s.dram.gather.elim 0 (State.gatherShare · b) else 0)

/-- Free an ingress entry once all its bursts have issued (Table 5.5, R51) and its completion has gone. -/
def State.drained (s : State) (id : Nat) : State :=
  if (s.sched.bursts.any fun b => b.ingress == some id) ∨
      (s.ingress.writes.any fun e => e.id == id && !e.owes.isEmpty) then s
  else (s.dropWrite id).loads

/-- Complete the journalled writes whose entries stand in transaction queues (Table 5.5). -/
def State.payCompletions (s : State) : State :=
  (s.ingress.writes.filter fun e => !e.owes.isEmpty &&
      !(s.sched.bursts.any fun b => e.owes.contains b.id && !b.inQueue)).foldl (fun t e =>
    let u := t.completeWrite e
    State.drained { u with ingress := { u.ingress with
      writes := u.ingress.writes.map fun x => if x.id = e.id then { x with owes := [] } else x } } e.id) s

/-- Issue one burst: it leaves its queue, its row stands open and its bank's activation is counted (R109), and it is counted
by its own class, also where it issues with a lent one, which uses no class 0 share (DESIGN CHOICE, log entry 38). -/
def State.issueBurst (s : State) (b : Burst) (now : BitVec 16) : State :=
  let age := ageNs now b.stamp
  let hit := s.rowHit b
  let h := s.sched.hits.get b.chan (0, 0)
  let k := subKey b.chan b.sub
  let s1 := { s with sched := { s.sched with
    bursts := s.sched.bursts.filter fun x => x.id != b.id,
    openRow := s.sched.openRow.put (s.bankKey b) (s.layout.rowOf b.off),
    acts := if hit then s.sched.acts else s.sched.acts.upd (s.bankKey b) 0 (· + 1),
    share := if b.cls = 0 then s.sched.share.put k (s.sched.share.get k 0 + 1) else s.sched.share,
    hits := s.sched.hits.put b.chan (h.1 + hit.toNat, h.2 + 1) } }
  let s2 := (s1.addReg (0x3100 + b.chan) (b.cls + 1) 1).maxReg (0x3110 + b.chan) (b.cls + 1) age
  let s3 := if 1 ≤ b.cls ∧ s.issueBound b < age then
      (s2.addReg (0x3120 + b.chan) 7 1).fault Code.issueBoundExceeded
        (b.chan + 16 * b.sub + 32 * b.cls + 256 * (age % 2 ^ 32))
    else s2
  let s4 := match b.ingress with
    | some id => s3.drained id
    | none => s3
  s4.panicUpdate

/-- Whether a burst needs no activation of its bank beyond the limit at which RFM comes first (R109). -/
def State.mayActivate (s : State) (b : Burst) : Bool :=
  s.rowHit b || decide (s.sched.acts.get (s.bankKey b) 0 ≤ Config.activationLimit)

/-- The burst that issues next on a subchannel, after the port arbiter has filled its queue; to a LOST channel none does (R138). -/
def State.nextBurst (s : State) (chan sub : Nat) : Option Burst :=
  let all := s.sched.bursts
  if s.reg (0x3400 + chan) 1 = 3 then none
  else s.arbitrate chan sub (all.filter fun b =>
    b.chan == chan && b.sub == sub && b.inQueue && s.portServed b && s.mayActivate b && !(all.any fun a => waitsFor b a))

/-- A burst of a channel by its identifier. -/
def State.burst (s : State) (chan id : Nat) : Option Burst := s.sched.bursts.find? fun b => b.id == id && b.chan == chan

/-- BURST_PROMOTED (R97). -/
def execBurstPromoted (chan : Fin 13) (id : Nat) (now : BitVec 16) (s : State) : Out :=
  .next (match s.burst chan.val id with
    | some b =>
      if 1 ≤ b.cls ∧ b.promoted = false ∧ s.ctl.mode ≠ .save ∧ s.reg 0x3000 b.cls ≤ ageNs now b.stamp then
        (s.fresh.setBurst id fun x => { x with promoted := true }).addReg (0x3120 + chan.val) 1 1
      else s.idle
    | none => s.idle)

/-- BURST_ANCIENT (R96): at an age of 16,384 units. -/
def execBurstAncient (chan : Fin 13) (id : Nat) (now : BitVec 16) (s : State) : Out :=
  .next (match s.burst chan.val id with
    | some b =>
      if b.ancient = none ∧ 16384 ≤ (now - b.stamp).toNat then
        let t := s.fresh.setBurst id fun x => { x with ancient := some s.sched.nextAncient }
        { t with sched := { t.sched with nextAncient := t.sched.nextAncient + 1 } }.addReg (0x3120 + chan.val) 2 1
      else s.idle
    | none => s.idle)

/-- CLASS0_SHARE_INTERVAL (R101): each 1 µs. -/
def execClass0ShareInterval (chan : Fin 13) (sub : Fin 2) (s : State) : Out :=
  .next { s.fresh with sched := { s.sched with share := s.sched.share.put (subKey chan.val sub.val) 0 } }

/-! ### Refresh -/

/-- Whether a refresh covers a bank: all of them, or in SAME_BANK the named one of each rank and chip (R108; which banks that
refresh covers is a DESIGN CHOICE, log entry 177). -/
def State.refreshes (s : State) (bank k : Nat) : Bool := s.reg 0x3020 0 == 0 || k % 32 == bank % 32

/-- Whether a class 0, promoted or ANCIENT burst waits for the banks of a refresh (R108). -/
def State.refreshBlocked (s : State) (chan sub bank : Nat) : Bool :=
  s.sched.bursts.any fun b => b.chan == chan && b.sub == sub && s.refreshes bank (s.layout.bankOf b.off) &&
    (b.cls == 0 || b.promoted || b.ancient.isSome)

/-- Refreshes that may be postponed in a row (R108). -/
def State.postponeMax (s : State) (deviceMax : Nat) : Nat := min (s.reg 0x3021 0) deviceMax

/-- REFRESH_DUE (R108): postponed within the limits, or issued, which closes the banks' rows. A tREFI begins with it, in
SAME_BANK with that of bank 0 (DESIGN CHOICE, log entry 39). In self-refresh the devices refresh themselves (Table 5.7). -/
def execRefreshDue (chan : Fin 13) (sub : Fin 2) (bank deviceMax : Nat) (_now : BitVec 16) (s : State) : Out :=
  let sk := subKey chan.val sub.val
  let k := 32 * sk + (if s.reg 0x3020 0 = 0 then 0 else bank % 32)
  let n := s.sched.postponed.get k 0
  let closed := s.sched.openRow.filter fun e => !(e.1 / 512 == sk && s.refreshes bank (e.1 % 512))
  let rfm := if s.reg 0x3020 0 = 0 ∨ bank % 32 = 0 then s.sched.rfm.del sk else s.sched.rfm
  .next (if s.selfRefresh then s.idle
    else if s.refreshBlocked chan.val sub.val bank ∧ n < s.postponeMax deviceMax then
      { s.fresh with sched := { s.sched with postponed := s.sched.postponed.put k (n + 1), rfm := rfm } }.addReg
        (0x3120 + chan.val) 4 1
    else { s.fresh with sched := { s.sched with postponed := s.sched.postponed.put k 0, openRow := closed, rfm := rfm } })


/-- ACTIVATION_LIMIT (R109): RFM is issued to banks of a subchannel, whose rolling activation counts start anew; once more
than 4 banks have had it within one tREFI, all of it is a refresh-management burst, which extends R99's bound. -/
def execActivationLimit (chan : Fin 13) (sub : Fin 2) (banks : List Nat) (durationNs : Nat) (s : State) : Out :=
  let sk := subKey chan.val sub.val
  let old := s.sched.rfm.get sk ([], 0)
  let served := (old.1 ++ banks).eraseDups
  let t := { s.fresh with sched := { s.sched with
    acts := s.sched.acts.filter fun e => !(e.1 / 512 == sk && banks.contains (e.1 % 512)),
    rfm := s.sched.rfm.put sk (served, old.2 + durationNs) } }.addReg (0x3120 + chan.val) 5 banks.length
  .next (if s.selfRefresh = true ∨ banks = [] then s.idle
    else if 4 < served.length then
      t.extendBound chan.val (some sub.val) (if 4 < old.1.length then durationNs else old.2 + durationNs)
    else t)

end Sys2Proof.Machine
end

