-- ==== Sys2Proof/Machine/Dram.lean ====
section
/-! DEFINITION. DRAM channels: the issue of bursts and what follows it, training and its records, online retraining, rates,
errors and row repair, sparing and channel loss (chapter 6, R403); and the arming of a save (R267, R268). -/

namespace Sys2Proof.Machine

/-! ### Arming a save -/

/-- A trigger starts ARMING: SAVE begins after so many beat boundaries (R267, R268). -/
def State.armSave (s : State) (t : Trigger) (boundaries : Nat) : State :=
  { s with save := { s.save with state := .arming, trigger := t, arm := boundaries + 1 } }

/-- Whether a save has been triggered or runs. -/
def State.saving (s : State) : Bool := s.save.arm != 0 || s.ctl.mode == .save

/-! ### Channels -/

/-- State of a channel (Table 6.2). -/
def State.chanState (s : State) (c : Nat) : Nat := s.reg (0x3400 + c) 1

/-- Change a channel's rate. -/
def State.setRate (s : State) (c r : Nat) : State := s.setReg (0x3400 + c) 2 r

/-- Change `retrain_state`. -/
def State.setRetrain (s : State) (c st : Nat) : State := s.setReg (0x3400 + c) 5 st

/-- The open gather window of the channel being retrained closes (R121): its training windows have extended R99's bound. -/
def State.closeGather (s : State) : State :=
  match s.dram.retrain, s.dram.gather with
  | some c, some g =>
    { s with dram := { s.dram with gatherClosed := s.dram.gatherClosed.put c s.clock.beat, gather := none } }.extendFor c
      (State.gatherShare g) g.1
  | _, _ => s

/-- A channel that is no longer retrained keeps its trigger, DEFERRED (R123). -/
def State.deferRetrain (s : State) (c : Nat) : State :=
  if s.dram.retrain = some c then
    let t := s.closeGather
    { t with dram := { t.dram with retrain := none, queue := t.dram.queue ++ [c] } }.setRetrain c 4
  else if s.dram.queue.contains c then s.setRetrain c 4
  else s

/-- Change a channel's state. A LOST or FAILED channel has no rate (R145), a trigger of a SOURCE, LOST, FAILED or TARGET channel is
DEFERRED (R123), and a pattern test of a channel that is no longer SPARE or FAILED stops, PREEMPTED (R456). -/
def State.setChan (s : State) (c st : Nat) : State :=
  let v := s.setReg (0x3400 + c) 1 st
  let t := if st = 3 ∨ st = 4 then v.setRate c 0 else v
  let u := if st = 0 ∨ st = 1 ∨ st = 5 then t else t.deferRetrain c
  if (s.test.running.find? (36 + c)).isSome ∧ st ≠ 4 ∧ st ≠ 5 ∧ s.ctl.testHold ≠ 1 then
    ({ u with test := { u.test with running := u.test.running.del (36 + c), rows := u.test.rows.del c } }.setBreg (36 + c)
      0x9010 6 4).setBreg (36 + c) 0x9010 5 0
  else u

/-- Rate bins (Table 6.1). -/
def rateBins : List Nat := [4800, 5600, 6400, 7200, 8000, 8800, 9600]

/-- The next lower bin. -/
def lowerBin (r : Nat) : Option Nat := (rateBins.filter fun b => decide (b < r)).getLast?

/-- The logical channel that a physical channel carries. -/
def State.logicalOf (s : State) (c : Nat) : Option Nat := (List.range 12).find? fun d => s.physical d == c

/-- The spare in waiting, if there is one (R78, R135). -/
def State.spare (s : State) : Option Nat :=
  let p := s.reg 0x2405 13
  if p < 13 ∧ s.chanState p = 5 then some p else none

/-- Whether a training window may start on a channel: 10 ms after its last gather window closed (R121). -/
def State.windowFree (s : State) (c : Nat) : Bool :=
  match s.dram.gatherClosed.find? c with
  | some b => decide (1000 ≤ s.clock.beat - b)
  | none => true

/-! ### Units of a channel -/

/-- DPA of a logical channel's offset, the inverse of R77. -/
def Layout.dpaAt (l : Layout) (d offset : Nat) : Nat :=
  (12 * (offset / l.grainBytes) + d) * l.grainBytes + offset % l.grainBytes

/-- The 64 B at a channel's offset: a host-visible unit, or one of the carve or of a channel that carries nothing, named by its
place. -/
def State.unitOn (s : State) (c offset : Nat) : Nat :=
  let other := 2 ^ 60 + c * 2 ^ 40 + offset / 64
  match s.logicalOf c with
  | some d => if s.layout.dpaAt d offset < s.layout.hostVisible then s.layout.dpaAt d offset / 64 else other
  | none => other

/-- Offset of the 64 B numbered `i` of a row of 8 KiB, of which each subchannel of a channel has its own. -/
def rowOffset (row i : Nat) : Nat := row / 2 * 16384 + row % 2 * 64 + 128 * i

/-- A burst at an offset of a channel, stamped now. -/
def State.chanBurst (s : State) (c offset port own : Nat) (write : Bool) (job : Job) : Burst :=
  s.burstAt c offset (s.unitOn c offset) port own s.nowStamp write none job

/-- Bursts for every 64 B of a row. -/
def State.rowBursts (s : State) (c row port own : Nat) (write : Bool) : List Burst :=
  (List.range 128).map fun i => s.chanBurst c (rowOffset row i) port own write .none

/-- Bursts for a 4 KiB block of a channel. -/
def State.blockBursts (s : State) (c block port own : Nat) (write : Bool) (job : Job) : List Burst :=
  (List.range 64).map fun i => s.chanBurst c (4096 * block + 64 * i) port own write job

/-! ### Work that goes on as its bursts issue -/

/-- Reads of the block at the copy pointer of a proactive copy (R136 step 1). -/
def State.copyBlock (s : State) : State :=
  if s.dram.copyPtr < s.layout.copyBlocks then
    s.queueAll (s.blockBursts (s.reg 0x3450 1) s.dram.copyPtr 4 4 false .copyRead)
  else s

/-- The block at the copy pointer has been read: the pointer passes it, its writes to the TARGET are queued, and the next block
is read (R136 steps 1 and 2). -/
def State.copyNext (s : State) : State :=
  match s.dram.target with
  | some t =>
    let ws := (s.blockBursts (s.reg 0x3450 1) s.dram.copyPtr 5 5 true .copyWrite).map fun b => { b with chan := t }
    ({ s with dram := { s.dram with copyPtr := s.dram.copyPtr + 1 } }.queueAll ws).copyBlock
  | none => s

/-- Blocks of a channel's carve but for its share of the mirror area (R80). -/
def Layout.copiedBlocks (l : Layout) : Nat := l.carveBlocks - l.mirrorBytes / 12 / 4096

/-- The block of the carve that the rebuild has reached: read from the channel of the surviving copies and written to the TARGET
(R80, R138 step 3). -/
def State.carveBlock (s : State) (d : Nat) : State :=
  let block := s.layout.copyBlocks - s.layout.carveBlocks + s.dram.carvePtr
  s.queueAll (s.blockBursts (s.physical ((d + 6) % 12)) block 5 5 false .carve ++
    s.blockBursts (s.physical d) block 5 5 true .carve)

/-- Units whose mirror copy lay on a logical channel. -/
def State.mirroredOn (s : State) (d : Nat) : List Nat :=
  let all := s.mirrorUnits ++ s.mirrorWhole.flatMap fun f => s.layout.unitsOn f ((d + 6) % 12)
  (all.filter fun u => s.layout.logical (u * 64) == (d + 6) % 12).eraseDups

/-- The lost mirror copies are read from their primaries and written to the TARGET (R80). -/
def State.carveMirrors (s : State) (d : Nat) : State :=
  let t := { s with dram := { s.dram with carvePtr := s.layout.carveBlocks - 1 } }
  t.queueAll ((s.mirroredOn d).flatMap fun u =>
    [{ s.unitBurst (u * 64) 5 5 s.nowStamp false none with job := .carve },
     { s.mirrorBurst (u * 64) s.nowStamp none .carve with port := 5, own := 5, cls := s.classOf 5 5 }])

/-- The first of `n` numbers from `k` on that a test selects. -/
def findFrom (p : Nat → Bool) : Nat → Nat → Option Nat
  | 0, _ => none
  | n + 1, k => if p k then some k else findFrom p n (k + 1)

/-- The next leaf to rebuild: in save order, 0 first, then in ascending index (R138 step 4). -/
def State.rebuildLeaf (s : State) : Option Nat :=
  (List.range 8).findSome? fun o =>
    findFrom (fun f => s.toRebuild f && s.saveOrder f == o && !s.dram.rebuildTouch.contains f) s.layout.leaves 0

/-- Rebuild the next leaf's lines in the background, if one is left. -/
def State.rebuildNext (s : State) : State :=
  match s.dram.lostLogical, s.rebuildLeaf with
  | some d, some f => { s with dram := { s.dram with rebuilding := some f } }.queueAll (s.rebuildBursts f d 5 .leafLines)
  | _, _ => { s with dram := { s.dram with rebuilding := none } }

/-- Go on with a rebuild: first the carve, its mirror copies last, then the leaves (R138 steps 3 and 4). -/
def State.rebuildGo (s : State) : State :=
  match s.dram.lostLogical with
  | some d =>
    if s.reg 0x3450 0 ≠ 2 then s
    else if s.dram.carvePtr < s.layout.copiedBlocks then s.carveBlock d
    else if s.dram.carvePtr < s.layout.carveBlocks ∧ s.mirroredOn d ≠ [] then s.carveMirrors d
    else s.rebuildNext
  | none => s

/-- A leaf's lines on the lost channel have been rebuilt. -/
def State.leafRebuilt (s : State) (f : Nat) : State :=
  { s with dram := { s.dram with rebuilt := if s.dram.rebuilt.contains f then s.dram.rebuilt else s.dram.rebuilt ++ [f],
                                 rebuildTouch := s.dram.rebuildTouch.filter fun x => x != f } }

/-- What follows once the last burst of a piece of work has issued. -/
def State.finishJob (s : State) (j : Job) : State :=
  if s.sched.bursts.any fun b => b.job == j then s
  else match j with
    | .arm u => s.mirrorUnit u
    | .copyRead => s.copyNext
    | .carve => { s with dram := { s.dram with carvePtr := s.dram.carvePtr + 1 } }.rebuildGo
    | .leafLines => ((match s.dram.rebuilding with | some f => s.leafRebuilt f | none => s).resumeReads .touch).rebuildNext
    | .snapshot => s.snapshotNext
    | .none | .copyWrite | .touchLines => s

/-- Key of a row of a channel. -/
def rowKey (c row : Nat) : Nat := c * 2 ^ 32 + row

/-- Key of a device and bank and row of a channel (R129). -/
def deviceKey (c device bank row : Nat) : Nat := ((c * 16 + device) * 512 + bank) * 2 ^ 32 + row

/-- A read corrected in one device (R129, R130): counted, attributed to its device, bank and row, and written back through port
SC at class 6; a 64 B corrected again after a write-back is a row error. -/
def State.corrected (s : State) (c offset unit : Nat) (device : Fin 10) : State :=
  let row := rowIndex offset
  let k := deviceKey c device.val (s.layout.bankOf offset) row
  let old := s.dram.rewritten.get c []
  let again := old.contains (offset / 64)
  let t := { s.addReg (0x3420 + c) 1 1 with dram := { s.dram with
    corrected := s.dram.corrected.upd k 0 (· + 1),
    rewritten := if again then s.dram.rewritten else s.dram.rewritten.put c (old ++ [offset / 64]),
    rowErrors := if again then s.dram.rowErrors.upd (rowKey c row) 0 (· + 1) else s.dram.rowErrors } }
  t.queueAll [t.burstAt c offset unit 7 6 t.nowStamp true none .none]

/-- The other burst of a write that a proactive copy has go to both channels, with one stamp (R136). -/
def State.twinOf (s : State) (b : Burst) : Option Burst :=
  s.sched.bursts.find? fun x => b.write && x.write && x.chan != b.chan && x.unit == b.unit && x.stamp == b.stamp &&
    x.port == b.port && (x.id == b.id + 1 || b.id == x.id + 1)

/-- Issue a burst, in the same cycle with its twin where it has one (R136). -/
def State.issuePair (s : State) (b : Burst) (now : BitVec 16) : State :=
  let t := s.issueBurst b now
  match s.twinOf b with
  | some x => t.issueBurst x now
  | none => t

/-- BURST_ISSUE (R93): the burst chosen issues, with what follows from it; a read may have been corrected (R129, R130). Whether that
is again so after a write-back is what State holds, whatever the command says. -/
def execBurstIssue (chan : Fin 13) (sub : Fin 2) (now : BitVec 16) (s : State)
    (corrected : Option (Fin 10 × Bool) := none) : Out :=
  let t := (State.admitBursts chan.val sub.val 64 s.fresh).payCompletions
  .next (match t.nextBurst chan.val sub.val with
    | some b =>
      let u := (t.issuePair b now).finishJob b.job
      match corrected with
      | some (device, _) => if b.write then u else u.corrected chan.val b.off b.unit device
      | none => u
    | none => if t.ingress = s.ingress then s.idle else t)

/-- Drop the queued bursts of a piece of work. -/
def State.dropJobs (s : State) (js : List Job) : State :=
  { s with sched := { s.sched with bursts := s.sched.bursts.filter fun b => !js.contains b.job } }

/-! ### Training records (R117, R118, R403) -/

/-- Bins of a channel with a record, own and shared. -/
def State.recordBins (s : State) (c : Nat) : List Nat :=
  s.dram.records.get c [] ++ (s.dram.shared.filter fun r => r.1 == c).map (·.2)

/-- Own records that precede the others: current rate, rate limit, the last two of the rest. -/
def State.ownKept (s : State) (c : Nat) (bins : List Nat) : List Nat :=
  let first := bins.filter fun b => b == s.reg (0x3400 + c) 2 || b == s.reg (0x3400 + c) 3
  let rest := bins.filter fun b => !first.contains b
  first ++ rest.drop (rest.length - min 2 (4 - first.length))

/-- A record goes to a shared sector; the least recently used that is no channel's current rate makes room. -/
def State.shareRecord (s : State) (r : Nat × Nat) : State :=
  let old := s.dram.shared.filter fun x => x != r
  if old.length < 12 then { s with dram := { s.dram with shared := old ++ [r] } }
  else match old.find? fun x => x.2 != s.reg (0x3400 + x.1) 2 with
    | some x => { s with dram := { s.dram with shared := (old.filter fun y => y != x) ++ [r],
                                               evicted := s.dram.evicted ++ [x] } }
    | none => { s with dram := { s.dram with evicted := s.dram.evicted ++ [r] } }

/-- Store a record of a channel at a bin. -/
def State.storeRecord (s : State) (c bin : Nat) : State :=
  let bins := ((s.dram.records.get c []).filter fun b => b != bin) ++ [bin]
  let kept := s.ownKept c bins
  let s1 := { s with dram := { s.dram with records := s.dram.records.put c kept,
                                           shared := s.dram.shared.filter fun r => r != (c, bin),
                                           verified := (s.dram.verified.filter fun r => r != (c, bin)) ++ [(c, bin)] } }
  (bins.filter fun b => !kept.contains b).foldl (fun t b => t.shareRecord (c, b)) s1

/-- A record that is not valid is kept no longer (R118). -/
def State.dropRecord (s : State) (c bin : Nat) : State :=
  { s with dram := { s.dram with records := s.dram.records.upd c [] fun bs => bs.filter fun b => b != bin,
                                 shared := s.dram.shared.filter fun r => r != (c, bin) } }

/-- The highest recorded bin up to `rate_max_mts` (R116). -/
def State.bestBin (s : State) (c : Nat) : Nat :=
  ((s.recordBins c).filter fun b => decide (b ≤ s.reg (0x3400 + c) 3)).foldl max 0

/-- The W9620 has no spare (R120). The state that a failed spare takes is FAILED (DESIGN CHOICE, log entry 41: R120 names
none). -/
def State.spareFailed (s : State) (c : Nat) : State :=
  (((s.setChan c 4).setRate c 0).setReg 0x2405 13 255).faultOpen Code.spareFailed

/-- Full training of a channel passes (R117, R124): its record, rate and temperature stand. -/
def State.trained (s : State) (c rate : Nat) (hottestC : Int) : State :=
  let t := { s with dram := { s.dram with dqs := s.dram.dqs.del c } }
  let s1 := ((t.setRate c rate).storeRecord c rate).setReg (0x3400 + c) 4 0
  (s1.setReg (0x3400 + c) 6 (s32 hottestC)).setReg (0x3420 + c) 6 0

/-! ### Training at start -/

/-- A start begins: no channel is trained or verified yet, so none has a rate (R117, R119, R120), and a search goes on (Table
6.5). -/
def State.dramStart (s : State) : State :=
  let t := (List.range 13).foldl (fun t c => t.setRate c 0)
    { s with dram := { s.dram with ready := [], training := [], verified := [] } }
  (s.dram.search.map (·.1)).foldl (fun t c => t.setRetrain c 3) t

/-- Channels that a start trains or verifies: those that serve data, and the spare (R119, R120). -/
def State.startsUp (s : State) (c : Nat) : Bool :=
  s.chanState c != 3 && s.chanState c != 4 && !s.dram.ready.contains c

/-- The bin at which a channel is fully trained next: after a failure the next lower one, 9600 MT/s to requalify (R144), the
bin that a lower limit asked for (R126), else the limit (R116, R117). A channel requalified at 9600 MT/s keeps that rate, whatever
its limit (DESIGN CHOICE, log entry 178). -/
def State.trainBin (s : State) (c : Nat) : Nat :=
  match s.dram.training.find? c with
  | some b => b
  | none => if s.dram.requalifying.contains c then 9600 else s.dram.trainAt.get c (s.reg (0x3400 + c) 3)

/-- Whether a channel must be fully trained at this start (R117, R119, R126, R144). -/
def State.mustTrain (s : State) (c : Nat) : Bool :=
  (s.dram.training.find? c).isSome || (s.dram.trainAt.find? c).isSome || s.dram.requalifying.contains c || s.bestBin c == 0

/-- A channel stands at this start. -/
def State.stands (s : State) (c : Nat) : State :=
  { s with dram := { s.dram with ready := s.dram.ready ++ [c], training := s.dram.training.del c,
                                 trainAt := s.dram.trainAt.del c,
                                 requalifying := s.dram.requalifying.filter fun x => x != c } }

/-- A logical channel whose storage is gone is rebuilt onto a channel (R138, R144); what a copy had moved counts as rebuilt (Table
6.5). -/
def State.startRebuild (s : State) (d src t : Nat) : State :=
  let s1 := (((s.setChan t 6).setReg 0x2405 (d + 1) t).setReg 0x3450 0 2).setReg 0x3450 1 src
  { s1 with dram := { s1.dram with target := some t, lostLogical := some d, copyWanted := none,
                                   carvePtr := s1.dram.copyPtr - (s1.layout.copyBlocks - s1.layout.carveBlocks),
                                   rebuildFrom := s1.leaves, rebuilt := [], rebuilding := none, rebuildTouch := [] } }

/-- A requalified channel becomes SPARE, or takes the binding that has no storage (R144). -/
def State.requalified (s : State) (c : Nat) : State :=
  match s.dram.uncovered with
  | d :: ds =>
    { s with dram := { s.dram with uncovered := ds, copyPtr := 0 } }.startRebuild d (s.physical d) c
  | [] => (s.setChan c 5).setReg 0x2405 13 (if s.spare.isSome then s.reg 0x2405 13 else c)

/-- Full training at start (R117, R120, R144): a failing bin leads to the next lower one. At the floor a channel under
requalification stays FAILED and a spare has failed; another channel becomes FAILED with CHANNEL_FAILED, and its logical
channel keeps the binding, so that BRING-UP does not end (DESIGN CHOICE, log entry 42: R117 does not say). -/
def State.trainingComplete (s : State) (c rate : Nat) (hottestC : Int) (passed : Bool) : State :=
  let gone := s.dram.evicted.contains (c, rate)
  let s1 := if gone then ({ s with dram := { s.dram with evicted := s.dram.evicted.filter fun r => r != (c, rate) } }).note
    Code.trainingRecordEvicted [c, rate] else s
  if passed then
    let s2 := (s1.trained c rate hottestC).stands c
    if s.dram.requalifying.contains c then s2.requalified c else s2
  else match lowerBin rate with
    | some b => { s1 with dram := { s1.dram with training := s1.dram.training.put c b } }
    | none =>
      if s.dram.requalifying.contains c then
        { s1 with dram := { s1.dram with requalifying := s1.dram.requalifying.filter fun x => x != c,
                                         training := s1.dram.training.del c } }
      else if s.chanState c = 5 then s1.spareFailed c
      else (s1.setChan c 4).faultOpen Code.channelFailed

/-- DRAM_TRAINING_COMPLETE (R117). -/
def execDramTrainingComplete (chan : Fin 13) (rate : Nat) (hottestC : Int) (passed : Bool) (s : State) : Out :=
  let c := chan.val
  .next (if s.ctl.mode = .bringUp ∧ rate = s.trainBin c ∧ s.mustTrain c = true ∧
      (s.startsUp c = true ∨ s.dram.requalifying.contains c = true)
    then s.fresh.trainingComplete c rate hottestC passed else s.idle)

/-- Fast boot of a channel with a record (R118, R119, R120). Of a wrong CRC and a wrong key the CRC is reported (DESIGN CHOICE,
log entry 43: R118 does not say). A record that is not valid or fails verification leads to full training, from its own bin
down (DEDUCED, log entry 43). -/
def State.fastBoot (s : State) (c : Nat) (keyMatches crcGood passed : Bool) : State :=
  let b := s.bestBin c
  let again := { s with dram := { s.dram with training := s.dram.training.put c b } }
  if crcGood = false then (again.dropRecord c b).setReg (0x3400 + c) 4 3
  else if keyMatches = false then (again.dropRecord c b).setReg (0x3400 + c) 4 2
  else if passed = false then again
  else
    let used := if s.dram.shared.contains (c, b) then
        { s with dram := { s.dram with shared := (s.dram.shared.filter fun r => r != (c, b)) ++ [(c, b)] } }
      else s
    (({ used with dram := { used.dram with verified := (used.dram.verified.filter fun r => r != (c, b)) ++ [(c, b)] } }.setRate c
      b).setReg (0x3400 + c) 4 0).stands c

/-- FAST_BOOT_COMPLETE (R119). -/
def execFastBootComplete (chan : Fin 13) (keyMatches crcGood passed : Bool) (s : State) : Out :=
  .next (if s.ctl.mode = .bringUp ∧ s.startsUp chan.val = true ∧ s.mustTrain chan.val = false
    then s.fresh.fastBoot chan.val keyMatches crcGood passed
    else s.idle)

/-! ### Tracking and online retraining -/

/-- Whether a channel is in a state that is retrained (R123). -/
def State.retrainable (s : State) (c : Nat) : Bool := s.chanState c == 0 || s.chanState c == 1 || s.chanState c == 5

/-- Whether DRAM is in use, so that it can be trained online. -/
def State.dramRuns (s : State) : Bool := s.ctl.mode == .online || s.ctl.mode == .restore

/-- DQS_TRACK (R122): each `dqs_track_beats`, in a training window, the drift since full training that is found is reported, and the
delays stand corrected by it. -/
def execDqsTrack (chan : Fin 13) (driftPs : Int) (s : State) : Out :=
  let c := chan.val
  .next (if s.reg (0x3400 + c) 2 ≠ 0 ∧ s.selfRefresh = false ∧ s.windowFree c = true ∧
      s.dram.dqsAt.get c 0 + s.reg 0x3442 0 ≤ s.clock.beat then
      let t := { s.fresh with dram := { s.dram with dqsAt := s.dram.dqsAt.put c s.clock.beat,
                                                    dqs := s.dram.dqs.put c driftPs } }
      (t.window c 2000).setReg (0x3420 + c) 6 (s32 driftPs)
    else s.idle)

/-- Open the next gather window of the channel that is being retrained, 10 ms after the one before closed (R121). The training
windows that it holds take at most half of its 2 ms; how long, is free (DESIGN CHOICE, log entry 44). -/
def State.openGather (s : State) : State :=
  match s.dram.retrain with
  | some c =>
    if s.dram.gather = none ∧ s.reg (0x3400 + c) 5 = 1 ∧ s.windowFree c = true ∧ s.dramRuns = true then
      { s.drawn with dram := { s.dram with gather := some (Config.free s.free % 1000001, s.sched.nextId) } }
    else s
  | none => s

/-- Start the next queued retraining, the lowest channel first (R123). -/
def State.nextRetrain (s : State) : State :=
  if s.dram.retrain.isSome ∨ s.dramRuns = false then s
  else match (List.range 13).find? fun c => s.dram.queue.contains c && s.retrainable c with
    | none => s
    | some c =>
      ({ s with dram := { s.dram with
          retrain := some c, queue := s.dram.queue.filter fun x => x != c,
          gathered := s.dram.gathered.put c (s.reg (0x3400 + c) 2),
          served := s.dram.served.put c s.clock.beat } }.setRetrain c 1).openGather

/-- A trigger of online retraining (R123). -/
def State.triggerRetrain (s : State) (c : Nat) : State :=
  let s1 := { s with dram := { s.dram with queue := if s.dram.queue.contains c then s.dram.queue else s.dram.queue ++ [c] } }
  (if s.retrainable c then s1 else s1.setRetrain c 4).nextRetrain

/-- Whether a trigger may fire again: 10 s after the last one served (R123). -/
def State.mayTrigger (s : State) (c : Nat) : Bool :=
  s.dram.retrain != some c &&
    (match s.dram.served.find? c with | some b => decide (1000000 ≤ s.clock.beat - b) | none => true)

/-- RETRAIN_TRIGGER (R123): the temperature has moved, or corrected errors exceed their trend limit. -/
def execRetrainTrigger (chan : Fin 13) (cause : RetrainCause) (s : State) : Out :=
  let met : Bool := match cause with
    | .temperature t => decide ((s.reg 0x3440 0 : Int) ≤ (t - s.ireg (0x3400 + chan.val) 6).natAbs)
    | .ceTrend n => decide (s.reg 0x3441 0 < n)
  .next (if met ∧ s.mayTrigger chan.val ∧ s.dramRuns = true then s.fresh.triggerRetrain chan.val else s.idle)

/-- `retrain_request` triggers the named channels (R123). -/
def State.retrainRequest (s : State) (v : Nat) : State :=
  ((List.range 13).filter fun c => v / 2 ^ c % 2 == 1 && s.mayTrigger c).foldl State.triggerRetrain s

/-- Results gathered at another rate are discarded and retraining restarts (R125). -/
def State.regather (s : State) (c : Nat) : State :=
  if s.dram.retrain = some c then
    { s with dram := { s.dram with gathered := s.dram.gathered.put c (s.reg (0x3400 + c) 2) } }.setRetrain c 1
  else s

/-- Apply a deferred rate to a channel in one training window (R125, R126); a channel out of service has no rate to change. -/
def State.applyRate (s : State) (c : Nat) : State :=
  match s.dram.deferredRate.find? c with
  | none => s
  | some r =>
    let s1 := { s with dram := { s.dram with deferredRate := s.dram.deferredRate.del c } }
    if s.reg (0x3400 + c) 2 = 0 then s1 else ((s1.setRate c r).window c 250000).regather c

/-- Whether a gather window of a channel is open. -/
def State.gatherOpen (s : State) (c : Nat) : Bool := s.dram.retrain == some c && s.dram.gather.isSome

/-- GATHER_WINDOW_CLOSE (R121, R125): its training windows have extended R99's bound. After the last one the results are
applied in a final window (R124), unless a rate change waits, which discards them. -/
def execGatherWindowClose (chan : Fin 13) (last : Bool) (s : State) : Out :=
  let c := chan.val
  let t := s.fresh.closeGather
  .next (if s.gatherOpen c then
      (if last ∧ (s.dram.deferredRate.find? c).isNone then t.setRetrain c 2 else t)
    else s.idle)

/-! ### Proactive sparing (R136) -/

/-- Start copying a channel to the spare; without a spare nothing starts (R127), and beside another copy or a rebuild the copy
waits for its end. -/
def State.startCopy (s : State) (c : Nat) : State :=
  if s.dram.target.isSome then { s with dram := { s.dram with copyWanted := some c } }
  else match s.spare with
  | none => s
  | some t =>
    let s1 := (((s.setChan c 2).setChan t 6).setReg 0x3450 0 1).setReg 0x3450 1 c
    { s1 with dram := { s1.dram with target := some t, copyWanted := none, copyPtr := 0 } }.copyBlock

/-- A copy that a save stopped, or that waits, starts in ONLINE, from offset 0 (Table 6.5); one that a reset cut goes on there, its
SOURCE and TARGET being what they were (R135). -/
def State.copyAgain (s : State) : State :=
  if s.ctl.mode = .online ∧ s.reg 0x3450 0 = 1 ∧ s.dram.target.isSome = true ∧
      (s.sched.bursts.any fun b => b.job == .copyRead) = false then s.copyBlock
  else match s.dram.copyWanted with
    | some c =>
      if s.ctl.mode = .online ∧ s.dram.target = none ∧ s.retrainable c = true then
        { s with dram := { s.dram with copyWanted := none } }.startCopy c
      else s
    | none => s

/-- The search of a channel starts at a bin (R127); with a trigger kept it reads DEFERRED (R123). -/
def State.startSearch (s : State) (c bin : Nat) : State :=
  { s with dram := { s.dram with search := s.dram.search.put c bin } }.setRetrain c (if s.dram.queue.contains c then 4 else 3)

/-- PROACTIVE_COPY_COMPLETE (R136): the logical channel is rebound, the map has no spare (R78), and the source is searched from
its bin. The command stands for what is left of the copy (log entry 35). -/
def execProactiveCopyComplete (s : State) : Out :=
  let src := s.reg 0x3450 1
  .next (match s.dram.target, s.logicalOf src with
    | some t, some d =>
      if s.reg 0x3450 0 = 1 ∧ s.ctl.mode ≠ .save then
        let s1 := ((((s.fresh.dropJobs [.copyRead]).setReg 0x2405 (d + 1) t).setReg 0x2405 13 255).setChan t
          0).setChan src 3
        let s2 := (s1.setReg 0x3450 0 0).setReg 0x3450 1 255
        let s3 := { s2 with dram := { s2.dram with target := none, copyPtr := 0 } }.startSearch src (s.reg (0x3400 + src) 2)
        (s3.setRate src 0).nextRetrain
      else s.idle
    | _, _ => s.idle)

/-- A proactive copy is abandoned: the SOURCE returns to MARGINAL and the TARGET to SPARE (Table 6.5). Its writes that are queued
issue (R107). -/
def State.abandonCopy (s : State) : State :=
  match s.dram.target with
  | some t =>
    if s.reg 0x3450 0 = 1 then
      let s1 := ((((s.dropJobs [.copyRead]).setChan (s.reg 0x3450 1) 1).setChan t 5).setReg 0x3450 0 0).setReg
        0x3450 1 255
      { s1 with dram := { s1.dram with target := none, copyPtr := 0 } }
    else s
  | none => s

/-- SAVE stops a proactive copy, which is to start again (Table 6.5). -/
def State.stopCopy (s : State) : State :=
  if s.reg 0x3450 0 = 1 then
    { s.abandonCopy with dram := { s.abandonCopy.dram with copyWanted := some (s.reg 0x3450 1) } }
  else s

/-! ### Channel loss (R137 to R143) -/

/-- Units on a logical channel that only the lost channel holds: those of non-clean leaves without a mirror copy, less those
whose write has not issued (Table 6.4, R140), and those that a proactive copy has moved (Table 6.5). -/
def State.lostUnits (s : State) (d c : Nat) : List Nat :=
  let ptr := if s.reg 0x3450 0 = 1 ∧ s.reg 0x3450 1 = c then s.dram.copyPtr else 0
  let leaves := s.leavesIn .dirty ++ s.leavesIn .copying ++ s.leavesIn .pinned
  let units := leaves.flatMap fun f => (s.layout.unitsOn f d).filter fun u =>
    !s.mirrored u && decide (ptr ≤ s.layout.offset (u * 64) / 4096)
  units.filter fun u => !(s.sched.bursts.any fun b => b.write && b.chan == c && decide (b.port < 4) && b.unit == u)

/-- One 64 B unit of a line is lost. -/
def State.poisonUnit (s : State) (u : Nat) : State := s.markPoison u .channelLoss

/-- Poison lost units and report their lines (R140): one LINE_POISONED for each line. -/
def State.poisonUnits (s : State) (us : List Nat) : State :=
  let lines := (us.map (· / 4)).eraseDups
  let s1 := us.foldl State.poisonUnit s
  lines.foldl (fun t l => (t.addReg 0x3450 5 1).fault Code.linePoisoned (l * 256)) s1

/-- Awaiting units of a channel are resolved: with the data, or poisoned; what waited for them goes on (R139). -/
def State.endAwaiting (s : State) (c : Nat) (poison : Bool) : State :=
  let us := s.dram.awaiting.get c []
  let s1 := { s with dram := { s.dram with awaiting := s.dram.awaiting.del c } }
  ((((if poison then s1.poisonUnits us else s1).resume .search).resumeReads .search).holdEdges s).loads

/-- R143: a logical channel without storage: Fatal, host access closes, and SAVE is triggered. In a save it is the save that
must not be withdrawn (DEDUCED from R143 step 3, log entry 46). -/
def State.uncover (s : State) (d : Nat) : State :=
  let s1 := { s with dram := { s.dram with uncovered := if s.dram.uncovered.contains d then s.dram.uncovered
                                                        else s.dram.uncovered ++ [d] } }.setReg 0x3450 0 3
  let s2 := ({ s1 with ctl := { s1.ctl with access := false } }).faultOpen Code.channelUncovered true
  match s.ctl.mode with
  | .online | .drowse | .restore => if s2.save.arm = 0 then s2.armSave .channelUncovered 1 else s2
  | .save => { s2 with save := { s2.save with noWithdraw := true } }
  | _ => s2

/-- Bursts queued for a lost channel go to another; host reads go to the touch path (R138 step 2). A write that the other has
in its own queue goes there once. -/
def State.rebind (s : State) (c t : Nat) : State :=
  let bs := s.sched.bursts
  let twin := fun (b : Burst) => b.chan == c && b.write && bs.any fun x => x.chan == t && x.write && x.unit == b.unit &&
    x.stamp == b.stamp && x.port == b.port
  { s with sched := { s.sched with bursts := (bs.filter fun b => !twin b).map fun (b : Burst) =>
      if b.chan = c then
        (if b.write then { b with chan := t, inQueue := false }
         else { b with chan := t, port := 5, cls := 0, own := 0, inQueue := false, promoted := false })
      else b } }

/-- The COPYING leaves that a test selects return to DIRTY. -/
def State.uncopyIf (s : State) (p : Nat → Bool) : State :=
  ((s.leavesIn .copying).filter p).foldl (fun t f => (t.setLeaf f .dirty .none).uncredit f) s

/-- Every COPYING leaf returns to DIRTY. -/
def State.uncopy (s : State) : State := s.uncopyIf fun _ => true

/-- Bin at which a lost channel's search begins: one lower (R127); at the floor, the floor again (DESIGN CHOICE, log entry 47:
R127 names no lower one). -/
def searchBin (rate : Nat) : Nat := (lowerBin rate).getD 4800

/-- SAVE has fixed what it saves (R271). -/
def State.saveFixed (s : State) : Bool :=
  s.ctl.mode == .save && s.save.state != .closing && s.save.state != .draining

/-- Loss of a channel that serves data, given the channel that takes its place, if any (R138, R143). -/
def State.loseActive (s : State) (c d : Nat) (spare : Option Nat) (search : Bool) : State :=
  let us := s.lostUnits d c
  let source : Bool := decide (s.reg 0x3450 0 = 1 ∧ s.reg 0x3450 1 = c)
  let s1 := (s.setChan c 3).uncopyIf fun f => !(s.layout.unitsOn f d).isEmpty
  let s2 := if search then
      ({ s1 with dram := { s1.dram with awaiting := s1.dram.awaiting.put c us } }.startSearch c (searchBin (s.reg (0x3400 + c) 2)))
    else s1.poisonUnits us
  let s3 := if search ∧ s.saveFixed = true then s2.endAwaiting c true else s2
  match spare with
  | some t =>
    let s4 := ({ s3 with dram := { s3.dram with copyPtr := if source then s.dram.copyPtr else 0 } }.dropJobs
      [.copyRead]).startRebuild d c t
    ((s4.setReg 0x2405 13 255).rebind c t).rebuildGo
  | none => if search then s3 else s3.uncover d

/-- Loss of a spare: without a cause that allows a search it has failed; else it is searched (R127, R137). -/
def State.loseSpare (s : State) (c : Nat) (search : Bool) : State :=
  if search then
    (((s.setChan c 3).setReg 0x2405 13 255).faultOpen Code.channelLost).startSearch c
      (searchBin (s.reg (0x3400 + c) 2))
  else s.spareFailed c

/-- Loss of a channel that is bound to no logical channel, a MARGINAL one that was the spare: searched where the cause allows it,
else FAILED (R127, R137; log entry 48). -/
def State.loseUnbound (s : State) (c : Nat) (search : Bool) : State :=
  if search then ((s.setChan c 3).faultOpen Code.channelLost).startSearch c (searchBin (s.reg (0x3400 + c) 2))
  else (s.setChan c 4).faultOpen Code.channelFailed

/-- Loss of a channel (R137, R138, R142, R143). -/
def State.loseChannel (s : State) (c : Nat) (cause : LossCause) : State :=
  let search := decide (cause ≠ .railFault)
  if s.chanState c = 5 then s.loseSpare c search
  else if s.dram.target = some c ∧ s.reg 0x3450 0 = 1 then (s.abandonCopy.dropJobs [.copyWrite]).spareFailed c
  else match s.logicalOf c with
    | none => (s.loseUnbound c search).nextRetrain
    | some d =>
      let t : Option Nat := match s.dram.target with
        | some t => if t ≠ c ∧ s.reg 0x3450 0 = 1 then some t else none
        | none => s.spare
      let s1 := (if s.reg 0x3450 1 = c then s else s.abandonCopy).faultOpen Code.channelLost
      (s1.loseActive c d t search).nextRetrain

/-- CHANNEL_LOST (R138): a channel that serves data, or the spare. -/
def execChannelLost (chan : Fin 13) (cause : LossCause) (s : State) : Out :=
  .next (if s.chanState chan.val ≠ 3 ∧ s.chanState chan.val ≠ 4 ∧ s.ctl.mode ≠ .dormant
    then s.fresh.loseChannel chan.val cause else s.idle)

/-- The rebuild is complete: each TARGET becomes ACTIVE, and reads held for it go on (R138 step 5). -/
def State.rebuildDone (s : State) : State :=
  let s1 := (List.range 13).foldl (fun (t : State) c => if t.chanState c = 6 then t.setChan c 0 else t) s
  let s2 := ((s1.setReg 0x3450 0 0).setReg 0x3450 1 255).dropJobs [.carve, .leafLines, .touchLines]
  let s3 := { s2 with dram := { s2.dram with target := none, lostLogical := none, rebuilt := [], rebuilding := none,
                                             rebuildTouch := [], copyPtr := 0, rebuildFrom := LeafTable.reset } }
  (s3.resumeReads .touch).nextRetrain

/-- CHANNEL_REBUILD_COMPLETE (R138). The command stands for what is left of the rebuild (log entry 35). -/
def execChannelRebuildComplete (s : State) : Out :=
  .next (if s.dram.target.isSome = true ∧ s.reg 0x3450 0 = 2 ∧ s.ctl.mode ≠ .save ∧ s.ctl.mode ≠ .dormant
    then s.fresh.rebuildDone else s.idle)

/-- What the searched channel still holds of the lines awaited is read and written to the TARGET (R128). -/
def State.recover (s : State) (c : Nat) : State :=
  s.queueAll ((s.dram.awaiting.get c []).flatMap fun u =>
    let w := s.unitBurst (u * 64) 5 5 s.nowStamp true none
    [{ w with chan := c, write := false }, w])

/-- A searched channel passes at its bin (R128): SPARE when its logical channel has been rebound, else back in service in
place: the TARGET of a rebuild that goes on, or ACTIVE, and without a rebuild sparing is IDLE. -/
def State.searchPassed (s : State) (c bin : Nat) (hottestC : Int) : State :=
  let s0 := { s with dram := { s.dram with search := s.dram.search.del c } }
  let s1 := (s0.trained c bin hottestC).setRetrain c 0
  let s2 := if s.ctl.mode = .bringUp then s1.stands c else s1
  let s3 := (match s2.logicalOf c with
    | none => ((s2.setChan c 5).setReg 0x2405 13 c).recover c
    | some _ =>
      if s2.dram.target = some c then (s2.setChan c 6).rebuildGo
      else if s2.dram.target.isSome then s2.setChan c 0
      else ((s2.setChan c 0).setReg 0x3450 0 0).setReg 0x3450 1 255)
  (s3.endAwaiting c false).nextRetrain

/-- A search fails at the floor (R127): FAILED; awaiting lines are poisoned; a channel without a spare is uncovered. -/
def State.searchFailed (s : State) (c : Nat) : State :=
  let s1 := ({ s with dram := { s.dram with search := s.dram.search.del c } }.setRetrain c 0).setChan c 4
  let s2 := (s1.faultOpen Code.channelFailed).endAwaiting c true
  match s2.logicalOf c with
  | none => s2
  | some d => s2.uncover d

/-- SEARCH_BIN_COMPLETE (R127, R128). A search pauses in SAVE and DORMANT, and restarts where it stopped (Table 6.5). -/
def execSearchBinComplete (chan : Fin 13) (result : SearchResult) (s : State) : Out :=
  .next (match s.dram.search.find? chan.val with
    | none => s.idle
    | some bin =>
      if s.ctl.mode = .save ∨ s.ctl.mode = .dormant then s.idle
      else if result.passed then s.fresh.searchPassed chan.val bin result.hottestC
      else match lowerBin bin with
        | some b => s.fresh.startSearch chan.val b
        | none => s.fresh.searchFailed chan.val)

/-- A channel has no setting left of its own: MARGINAL, and it is copied to the spare (R127, R134). A spare that is MARGINAL is
in waiting no more (DESIGN CHOICE, log entry 48). -/
def State.marginal (s : State) (c : Nat) : State :=
  if s.chanState c = 0 ∨ s.chanState c = 1 then (s.setChan c 1).startCopy c
  else if s.chanState c = 5 then (s.setChan c 1).setReg 0x2405 13 255
  else s

/-- Online retraining ends in its final window (R124, R127). -/
def State.retrained (s : State) (c : Nat) (found previousPasses : Bool) (hottestC : Int) : State :=
  let t := s.closeGather
  let s1 := ({ t with dram := { t.dram with retrain := none } }.setRetrain c 0).window c 250000
  if found then (s1.trained c (s.reg (0x3400 + c) 2) hottestC).nextRetrain
  else if previousPasses then ((s1.faultOpen Code.channelMarginal).marginal c).nextRetrain
  else s1.loseChannel c .revalidation

/-- ONLINE_RETRAIN_COMPLETE (R124, R127): in a training window, which R121 keeps 10 ms from the last gather window. -/
def execOnlineRetrainComplete (chan : Fin 13) (found previousPasses : Bool) (hottestC : Int) (s : State) : Out :=
  let c := chan.val
  .next (if s.dram.retrain = some c ∧ s.reg (0x3400 + c) 5 = 2 ∧ s.dramRuns = true ∧ s.windowFree c = true then
      (if s.dram.gathered.get c 0 = s.reg (0x3400 + c) 2 then s.fresh.retrained c found previousPasses hottestC
       else (s.fresh.regather c).openGather)
    else s.idle)

/-! ### Errors and row repair -/

/-- An uncorrectable read is recovered from a copy: rewritten in place, through port SC at class 6 as a correction is (DESIGN CHOICE,
log entry 49), counted, and noted for its row, where it may recur (R131, R133). -/
def State.ueRecovered (s : State) (c offset unit : Nat) : State :=
  let t := { s.addReg (0x3420 + c) 2 1 with dram := { s.dram with rowUe := s.dram.rowUe.upd (rowKey c (rowIndex offset)) 0 (· + 1) } }
  t.queueAll [t.burstAt c offset unit 7 6 t.nowStamp true none .none]

/-- An uncorrectable error without a source is noted for its row; one in a 64 B that is poisoned still, so has not been rewritten
since, is no recurrence (R133). -/
def State.ueNoted (s : State) (c offset unit : Nat) : State :=
  if (s.poison.find? unit).isSome then s
  else { s with dram := { s.dram with rowUe := s.dram.rowUe.upd (rowKey c (rowIndex offset)) 0 (· + 1) } }

/-- An uncorrectable read (R131): recovered from the other copy, the mirror or flash, else the 64 B is poisoned. A CLEAN leaf
without a flash copy reads zero, as in Table 6.4 (DESIGN CHOICE, log entry 49). -/
def State.uncorrectable (s : State) (c : Nat) (place : UePlace) : State :=
  match place with
  | .cupboard row => s.ueRecovered c (rowOffset row 0) (s.unitOn c (rowOffset row 0))
  | .memory a =>
    if s.mirrored (unitOf a) = true ∨ s.leaf (leafOf a) = .clean then
      s.ueRecovered c (s.layout.offset a / 64 * 64) (unitOf a)
    else (((s.ueNoted c (s.layout.offset a) (unitOf a)).markPoison (unitOf a) .internal).addReg (0x3420 + c) 3 1).fault
      Code.uePoisoned a

/-- Whether the place of an uncorrectable read lies on a channel. -/
def State.ueAt (s : State) (c : Nat) : UePlace → Bool
  | .cupboard row => decide (row < s.layout.rowCount)
  | .memory a => decide (a < s.layout.hostVisible) && decide (s.physical (s.layout.logical a) = c)

/-- UNCORRECTABLE_READ (R131). -/
def execUncorrectableRead (chan : Fin 13) (place : UePlace) (s : State) : Out :=
  .next (if s.ueAt chan.val place = true ∧ s.ctl.mode ≠ .dormant then s.fresh.uncorrectable chan.val place else s.idle)

/-- The scrub's next row on a channel and the beat at which its sweep began: a sweep starts once `scrub_period_h` has passed
since the one before did (R132). -/
def State.scrubNext (s : State) (c : Nat) : Nat × Nat :=
  let p := s.dram.scrub.get c (0, 0)
  if s.layout.rowCount ≤ p.1 ∧ p.2 + s.reg 0x3443 0 * 360000000 ≤ s.clock.beat then (0, s.clock.beat) else p

/-- PATROL_SCRUB (R130, R132): the next row of a channel in service is read at class 6; a 64 B of it may be corrected. -/
def execPatrolScrub (chan : Fin 13) (row : Nat) (corrected : Option (Fin 128 × Fin 10)) (_again : Bool) (s : State) : Out :=
  let c := chan.val
  let p := s.scrubNext c
  let s1 := { s.fresh with dram := { s.dram with scrub := s.dram.scrub.put c (row + 1, p.2) } }.queueAll
    (s.rowBursts c row 7 6 false)
  .next (if s.dramRuns = true ∧ s.reg (0x3400 + c) 2 ≠ 0 ∧ row = p.1 ∧ row < s.layout.rowCount then
      (match corrected with
       | some (i, device) => s1.corrected c (rowOffset row i.val) (s.unitOn c (rowOffset row i.val)) device
       | none => s1)
    else s.idle)

/-- Whether a row is failed (R133): its row errors have reached `row_fail_ce`, or an uncorrectable error in it recurred after
rewrite. -/
def State.rowFails (s : State) (c row : Nat) : Bool :=
  decide (s.reg 0x3444 0 ≤ s.dram.rowErrors.get (rowKey c row) 0) || decide (2 ≤ s.dram.rowUe.get (rowKey c row) 0)

/-- A failed row (R133, R134): copied out, mapped to a spare row by sPPR in one training window, and written back; without a
spare row the channel becomes MARGINAL and is spared. -/
def State.repairRow (s : State) (c row : Nat) (spareRow : Bool) : State :=
  let s1 := { s with dram := { s.dram with rowErrors := s.dram.rowErrors.del (rowKey c row),
                                           rowUe := s.dram.rowUe.del (rowKey c row),
                                           rewritten := s.dram.rewritten.upd c [] fun xs =>
                                             xs.filter fun x => rowIndex (64 * x) != row } }
  if spareRow then
    let s2 := s1.queueAll (s.rowBursts c row 8 7 false ++ s.rowBursts c row 8 7 true)
    (({ s2 with dram := { s2.dram with soft := s2.dram.soft.upd c 0 (· + 1) } }.addReg (0x3420 + c) 4 1).window c 250000).note
      Code.rowRepaired
  else (s1.faultOpen Code.pprExhausted).marginal c

/-- ROW_FAILED (R133). -/
def execRowFailed (chan : Fin 13) (row : Nat) (spareRowLeft : Bool) (s : State) : Out :=
  .next (if s.dramRuns = true ∧ s.rowFails chan.val row = true ∧ (spareRowLeft = false ∨ s.windowFree chan.val = true)
    then s.fresh.repairRow chan.val row spareRowLeft else s.idle)

/-- At BRING-UP each sPPR repair becomes permanent (R133). -/
def State.hardRepairs (s : State) : State :=
  let s1 := s.dram.soft.foldl (fun (t : State) (e : Nat × Nat) => (t.addReg (0x3420 + e.1) 5 e.2).setReg (0x3420 + e.1) 4 0) s
  { s1 with dram := { s1.dram with soft := [] } }

/-! ### Writes that act on channels -/

/-- `rate_max_mts` (R126): a lower limit with a valid record is applied at a boundary outside a gather window; without one the
channel is trained at that bin at the next reset. A higher limit waits for a reset. Whether a record that this start has not
verified is valid, by its key and CRC (R118), is a free value. -/
def State.rateMax (s : State) (c v : Nat) : State :=
  let s1 := s.drawn.setReg (0x3400 + c) 3 v
  let lower := decide (v < s.reg (0x3400 + c) 2)
  let known := (s.recordBins c).contains v && (s.dram.verified.contains (c, v) || Config.free s.free % 2 == 1)
  { s1 with dram := { s1.dram with
    deferredRate := if lower ∧ known = true then s1.dram.deferredRate.put c v else s1.dram.deferredRate.del c,
    trainAt := if lower ∧ known = false then s1.dram.trainAt.put c v else s1.dram.trainAt.del c } }

/-- Rate changes are applied at a beat boundary, but for a channel whose gather window is open or closed less than 10 ms ago
(R121, R125, R126). -/
def State.applyRates (s : State) : State :=
  ((List.range 13).filter fun c => !s.gatherOpen c && s.windowFree c).foldl State.applyRate s

/-- What the DRAM sequencers do at a boundary: stopped copies start again, and queued retraining and gather windows start. -/
def State.dramBeat (s : State) : State := ((s.copyAgain).nextRetrain).openGather

/-- `requalify_request` (R144). -/
def State.requalify (s : State) (c : Nat) : State :=
  { s with dram := { s.dram with requalify := if s.dram.requalify.contains c then s.dram.requalify
                                              else s.dram.requalify ++ [c] } }

/-- A COLD or POWER-ON reset takes the marks of channels to requalify (R144). -/
def State.takeRequalify (s : State) : State :=
  { s with dram := { s.dram with requalifying := s.dram.requalify, requalify := [] } }

end Sys2Proof.Machine
end

