-- ==== Sys2Proof/Machine/Restore.lean ====
section
/-! DEFINITION. Restoring leaves from flash (R285 to R287), draining ingress for SAVE and COLD resets (R17, R341, R481),
and the loading of a saved image (R255, R277, R281 to R284). -/

namespace Sys2Proof.Machine

/-! ### One leaf -/

/-- Undo entries of a leaf. -/
def State.undoOf (s : State) (leaf : Nat) : List JEntry := s.groups.undo.filter fun e => e.line / 256 == leaf

/-- Write a leaf's flash copy into DRAM, with its poison; zero where it has none (R284, R285 step 1). -/
def State.loadLeaf (s : State) (leaf : Nat) : State :=
  match s.copyOf leaf with
  | some c =>
    { s with mem := Mem.replace s.mem (leaf * 65536) 65536 (s.plainOf leaf) }.setPoisonIn
      (leaf * 65536) 65536 c.poison
  | none => { s with mem := Mem.clear s.mem (leaf * 65536) 65536 }.setPoisonIn (leaf * 65536) 65536 []

/-- Apply a leaf's undo entries in descending journal sequence, freeing them (R285 step 2). -/
def State.applyUndo (s : State) (leaf : Nat) : State :=
  let t := (s.undoOf leaf).reverse.foldl State.restoreEntry s
  { t with groups := { t.groups with undo := t.groups.undo.filter fun e => e.line / 256 != leaf } }

/-- Whether a group keeps a claim in a leaf. -/
def State.claimedLeaf (s : State) (leaf : Nat) : Bool := s.groups.claims.any fun c => c.1 / 16 == leaf

/-- A leaf is restored (R285): PINNED with a claim kept, DIRTY with undo applied, else CLEAN. -/
def State.restoreLeaf (s : State) (leaf : Nat) : State :=
  let dirty := !(s.undoOf leaf).isEmpty
  let t := (s.loadLeaf leaf).applyUndo leaf
  let u := if t.claimedLeaf leaf then (t.setLeaf leaf .pinned .before).armLeaf leaf
    else if dirty then (t.setLeaf leaf .dirty .before).armLeaf leaf else t.setLeaf leaf .clean .lazy
  { u with save := { u.save with touch := u.save.touch.filter fun f => f != leaf,
                                 touchWait := u.save.touchWait.filter fun f => f != leaf } }.cupboard s s.nowStamp

/-- A leaf whose stripe has more than two shards missing cannot be recovered; the spec names no result, and it becomes LOST
(DESIGN CHOICE, log entry 58). -/
def State.leafUnreadable (s : State) (leaf : Nat) : State :=
  let t := (s.unmapLeaf leaf).setLeaf leaf .lost .before
  ({ t with groups := { t.groups with undo := t.groups.undo.filter fun e => e.line / 256 != leaf },
            save := { t.save with touch := t.save.touch.filter fun f => f != leaf,
                                  touchWait := t.save.touchWait.filter fun f => f != leaf } }.notePoison).fault
    Code.leavesLost 1

/-- A leaf's stripe is read, and the leaf restored from it (R244, R285). -/
def State.readLeaf (s : State) (leaf : Nat) (r : StripeRead) : State :=
  if s.stripeRecovered leaf r = true then (s.readStripe leaf r).restoreLeaf leaf
  else (s.readStripe leaf r).leafUnreadable leaf

/-- A leaf of a lost channel is rebuilt on the touch path, a CLEAN one from its stripe (R141, Table 6.4). -/
def State.rebuildRead (s : State) (leaf : Nat) (r : StripeRead) : State :=
  if s.leaf leaf ≠ .clean then s.leafRebuilt leaf
  else if s.stripeRecovered leaf r = true then (s.readStripe leaf r).leafRebuilt leaf
  else ((s.readStripe leaf r).leafUnreadable leaf).leafRebuilt leaf

/-- A leaf that waited for a touch-queue entry takes the free one (R286). -/
def State.refillTouch (s : State) : State :=
  match s.save.touchWait with
  | [] => s
  | f :: rest => if s.save.touch.length < 1024 then { s with save := { s.save with touchWait := rest } }.requestTouch f else s

/-- CLAIMs held for touch restores that may go on, and the slot reads behind them (R180, R286). -/
def State.resumeClaims (s : State) : State :=
  let ready := (s.groups.slots.filter fun e => e.2.touching &&
    (match e.2.waiting with | c :: _ => decide (s.claimAwaits c.2 = []) | [] => true)).map (·.1)
  (ready.foldl (fun t g =>
    (t.setSlot g { t.slot g with running := false, touching := false }).deskResume g) s).cupboard s
    s.nowStamp

/-- What waited for restored leaves goes on (R286 step 3). -/
def State.resumeTouched (s : State) : State :=
  ((((((s.resumeClaims).resume .touch).resumeReads .touch).holdEdges s).resumeGroupWrites).panicUpdate).loads

/-- TOUCH_RESTORE_COMPLETE (R286); and for a leaf of a lost channel that the touch path rebuilds (R141), which is no touch
restore and is not counted as one. -/
def execTouchRestoreComplete (leaf ns : Nat) (s : State) (read : StripeRead := .good) : Out :=
  .next (if s.ctl.mode = .save ∨ s.ctl.mode = .dormant then s.idle
    else if s.save.touch.contains leaf ∧ s.leaf leaf = .restoring then
      let t := ((s.fresh.readLeaf leaf read).addReg 0x5422 1 1).maxReg 0x5422 2 ns
      (t.refillTouch).resumeTouched
    else if s.dram.rebuildTouch.contains leaf then (s.fresh.rebuildRead leaf read).resumeTouched
    else s.idle)

/-- The next leaf of background restore: save order, then leaf index (R287). -/
def State.backgroundLeaf (s : State) : Option Nat :=
  (sortBy (fun f => s.saveOrder f * 2 ^ 32 + f) (s.leavesIn .unrestored)).head?

/-- BACKGROUND_RESTORE_LEAF (R287). -/
def execBackgroundRestoreLeaf (s : State) (read : StripeRead := .good) : Out :=
  .next (match s.backgroundLeaf with
    | some f =>
      if s.ctl.mode = .restore ∧ s.ctl.access = true then
        ((s.fresh.queueLeaf f 5 5 s.nowStamp true).readLeaf f read).resumeTouched
      else s.idle
    | none => s.idle)

/-- RESTORE_COMPLETE (R287): ONLINE, source 8 on every link that is up, and the duration recorded. A rebuild is complete, since
restore has written the spare, and a copy that a save stopped starts again (Table 6.5). -/
def State.restoreDone (s : State) : State :=
  let ms := (s.clock.beat - s.save.startBeat) / 100
  let s1 := (s.setMode .online).setReg 0x5426 0 (ms % 2 ^ 32)
  let s2 := { s1 with save := { s1.save with restoreState := 0 } }.signalOn s.upLinks 8
  let s3 := if s2.reg 0x3450 0 = 2 then s2.rebuildDone else s2
  ((s3.note Code.restoreComplete [ms % 2 ^ 32]).resumeStore).copyAgain

/-- RESTORE_COMPLETE. -/
def execRestoreComplete (s : State) : Out :=
  .next (if s.ctl.mode = .restore ∧ s.ctl.access = true ∧ s.unrestored = 0 ∧ s.save.arm = 0 then s.fresh.restoreDone
    else s.idle)

/-! ### Draining ingress (R481, R341) -/

/-- A write behind its group's rollback: its line's pre-image is written first, and then the write is discarded with JFULL
or is plain (R481 item 1). -/
def State.drainRolling (s : State) (e : IngressWrite) : State :=
  let line := lineOf e.w.dpa
  match s.groups.claims.find? (pageOf e.w.dpa) with
  | none => s.plainWrite e
  | some c =>
    let mine := s.groups.journal.filter fun j => j.group == c.group && j.line == line
    let s1 := mine.reverse.foldl State.writeBack s
    let s2 := { s1 with groups := { s1.groups with
      journal := s1.groups.journal.filter fun j => !(j.group == c.group && j.line == line) } }
    if (s2.slot c.group).jfull then s2.discardWrite c.group e else s2.plainWrite e

/-- Carry one write out for a drain, whatever it waits for (R17, R481). -/
def State.drainWrite (s : State) (id : Nat) : State :=
  match s.ingressWrite id with
  | none => s
  | some e =>
    let a := alignUnit e.w.dpa
    let leaf := leafOf a
    if e.wait = .draining then s
    else match s.region a with
      | .desk g => s.deskMem e g
      | _ =>
        let s1 := if s.awaitsRestore leaf then s.restoreLeaf leaf else s
        if s1.rolling a then s1.drainRolling e
        else match s1.discarder a with
          | some g => s1.discardWrite g e
          | none => match s1.leaf leaf with
            | .clean | .lost => ((s1.makeDirty leaf).joinWriteWith true e).cupboard s1 e.w.stamp
            | _ => (s1.joinWriteWith true e).cupboard s1 e.w.stamp

/-- A CLAIM held for touch restores: its leaves are restored and it runs. -/
def State.drainClaims (s : State) : State :=
  let held := s.groups.slots.filter fun e => e.2.touching
  let leaves := held.flatMap fun e => match e.2.waiting with | c :: _ => s.claimAwaits c.2 | [] => []
  (leaves.eraseDups.foldl State.restoreLeaf s).resumeClaims

/-- Carry the rollback of a group to its end, its leaves restored first. -/
def State.drainRollback (s : State) (g : Nat) : State :=
  (((s.journalLeaves g).filter s.awaitsRestore).foldl State.restoreLeaf s).closeRollback g

/-- Commands that wait behind a rollback, or behind a CLAIM held for a touch, are executed before the journal is saved (Table
8.11): the work of their group is carried to its end first, in the order of R58 (DEDUCED, log entry 31). A command run so may
begin another rollback, with commands behind it: `fuel` bounds the rounds by the commands that wait. -/
def State.drainCommands : Nat → State → State
  | 0, s => s.drainClaims
  | fuel + 1, s =>
    let t := s.drainClaims
    let gs := (t.groups.slots.filter fun e => e.2.running && !e.2.touching && decide (e.2.state = .aborted) &&
      decide (e.2.waiting ≠ [])).map (·.1)
    if gs = [] then t else State.drainCommands fuel (gs.foldl State.drainRollback t)

/-- Desk commands that wait. -/
def State.waitingCommands (s : State) : Nat := (s.groups.slots.map fun e => e.2.waiting.length).sum

/-- Whether `a` issues before `b` in a drain: ANCIENT bursts in order, then by stamp (R96, R112). -/
def drainBefore (a b : Burst) : Bool :=
  match a.ancient, b.ancient with
  | some x, some y => decide (x < y)
  | some _, none => true
  | none, some _ => false
  | none, none => ageBefore a b

/-- Issue the queued writes, and the reads that a write waits for, one by one; `fuel` bounds them (R107, R112). -/
def State.issueWrites : Nat → State → State
  | 0, s => s
  | fuel + 1, s =>
    let all := s.sched.bursts
    match firstBy drainBefore (all.filter fun b => (b.write || b.port == 6 || all.any fun w => w.write && waitsFor w b) &&
        !(all.any fun a => waitsFor b a)) with
    | none => s
    | some b =>
      let t := s.issueBurst b s.nowStamp
      State.issueWrites fuel (match b.job with | .arm u => t.mirrorUnit u | _ => t)

/-- Drain ingress (R17, R19, R481, R341): every write is carried out in order, Desk commands are executed, and every queued
write issues (R107). -/
def State.drainIngress (s : State) : State :=
  let w := (s.ingress.writes.map (·.id)).foldl State.drainWrite s
  let t := State.drainCommands (2 * w.waitingCommands) w
  let u := (State.issueWrites t.sched.bursts.length t).payCompletions
  ({ u with ingress := { u.ingress with writes := [] } }.endHolds s).loads

/-- A read held when SAVE began is completed (Table 1.6). One of an UNRESTORED leaf returns what the leaf's flash copy and undo
entries give, and leaves the leaf UNRESTORED, as R481 has touches completed for writes alone (DESIGN CHOICE, log entry 135). -/
def State.drainRead (s : State) (r : HeldRead) : State :=
  match s.region r.dpa with
  | .desk g => s.serveDesk r.link.val g
  | _ =>
    if s.awaitsRestore (leafOf r.dpa) then
      let d := (s.restoreLeaf (leafOf r.dpa)).readUnit r.dpa
      s.emit (.readData r.link.val r.dpa d.1 d.2 (s.devLoad r.link.val))
    else s.serveRead r.link.val r.dpa r.stamp

/-- Reads accepted before ingress closed are completed (Table 1.6). -/
def State.drainReads (s : State) : State :=
  s.ingress.reads.foldl State.drainRead { s with ingress := { s.ingress with reads := [] } }

/-- RESTORING leaves are UNRESTORED again (R288, R482). -/
def State.dropTouches (s : State) : State :=
  let t := (s.leavesIn .restoring).foldl (fun (t : State) f => t.setLeaf f .unrestored .none) s
  { t with save := { t.save with touch := [], touchWait := [] } }

/-! ### Loading a saved image -/

/-- LEAF_MAP_REBUILD_COMPLETE (R255): the leaf map stands, and the group set may load. -/
def execLeafMapRebuildComplete (s : State) : Out :=
  .next (if s.ctl.mode = .restore ∧ s.ctl.access = false ∧ s.security.locked = false ∧ s.save.loading = 0 then
      { s.fresh.takeMap s.rebuiltMap with save := { s.save with loading := 1, restoreState := 2 } }
    else s.idle)

/-- Leaves that a save's class makes LOST (Table 11.5); every leaf of a BROKEN save is given apart. -/
def SaveImage.lost (i : SaveImage) : List Nat :=
  i.carriedLost ++ i.residue.filter fun f => !i.credited.contains f

/-- Host access opens after a save: a loss of power from here on, with no further save, follows none (R82). -/
def State.imageResumed (s : State) : State :=
  { s with nand := { s.nand with image := s.nand.image.map fun (i : SaveImage) => { i with resumed := true } } }

/-- How a save is classed at restore (Table 11.5): 1 COMPLETE, 2 SHORT, 3 UNSEALED, 4 BROKEN, 5 WITHDRAWN. -/
def SaveImage.outcome (i : SaveImage) : Nat :=
  if i.withdrawn then 5
  else match i.sealRecord with
    | some r => if r.complete then 1 else 2
    | none => if i.groupSetDone then 3 else 4

/-- The groups that a restore would take from flash: every slot is FREE and the decision table empty (R82). A save whose group
set is not used leaves every slot FREE (R277). -/
def State.imageFree (s : State) : Bool :=
  match s.liveImage with
  | some i => i.outcome == 4 || i.outcome == 5 || i.slotsFree
  | none => true

/-- Forget every group: slots FREE with sequence 0xFFFF, no claims, no journal, no decisions (R177, R277). -/
def State.emptyGroups (s : State) : State :=
  { s with groups := { s.groups with slots := [], claims := [], journal := [], undo := [], decisions := [] } }

/-- Slots have been freed: the mailbox commands and reads that waited for their rollbacks are answered, and the commands behind
them run (R58, R180). -/
def State.afterFree (s : State) (old : Map Slot) : State :=
  ((old.filter fun e => !e.2.mail.isEmpty || !e.2.waiting.isEmpty).foldl (fun t e =>
    let u := (e.2.mail.foldl (State.mailAnswer e.1) t).answerReads e.1
    (u.setSlot e.1 { u.slot e.1 with waiting := e.2.waiting }).deskResume e.1) s).answerSlots

/-- Nothing is kept: every leaf is CLEAN and reads zero, every slot is FREE, the decision table is empty, no line is poisoned, and
none awaits a search (R60, R290). -/
def State.emptyImage (s : State) : State :=
  { s.emptyGroups with
    mem := [], poison := [], poisonOverflow := none, mirrorCopied := [], mirrorUnits := [], mirrorWhole := [],
    leaves := LeafTable.reset,
    delta := { s.delta with snapshot := LeafTable.reset, start := s.delta.seq, records := [], lazy := [], fill := 0,
                            writing := none },
    dram := { s.dram with awaiting := [] } }.afterFree s.groups.slots

/-- Load the group set of a save (R281 step 6). -/
def State.loadGroups (s : State) (i : SaveImage) : State :=
  { s with groups := { s.groups with slots := i.slots, claims := i.claims, journal := i.journal, undo := i.undo,
                                     nextJseq := i.nextJseq, decisions := i.decisions, resendDue := true } }.setReg
    0x4420 0 i.txnCounter

/-- A group's entries join the undo list in ascending journal sequence; its claims are released unless JFULL (R283). -/
def State.undoGroup (s : State) (g : Nat) : State :=
  let s1 := { s with groups := { s.groups with
    undo := sortBy' (s.groups.undo ++ s.entriesOf g), journal := s.groups.journal.filter fun e => e.group != g } }
  if (s.slot g).jfull then s1
  else { s1 with groups := { s1.groups with claims := s1.groups.claims.filter fun c => c.2.group != g } }
where
  /-- Entries by journal sequence. -/
  sortBy' (es : List JEntry) : List JEntry :=
    es.foldl (fun a e => (a.filter fun x => decide (x.seq ≤ e.seq)) ++ [e] ++ (a.filter fun x => decide (e.seq < x.seq))) []

/-- Record ABORT against every UNDECIDED entry (R34, R283). -/
def State.presumeAborts (s : State) : State :=
  { s with groups := { s.groups with decisions := s.groups.decisions.map fun e =>
      if e.2.state = 1 then (e.1, { e.2 with state := 3, decidedBeat := s.clock.ext, presumed := true }) else e } }

/-- One saved group takes its state (R283, Table 8.5); a change of state without a command signals source 7 (Table 3.6). A
group ABORTED before the failure keeps its flags (R199), and a command whose rollback had stopped has its result. -/
def State.resolveSaved (s : State) (g : Nat) : State :=
  let x := { s.slot g with touching := false, waiting := [], mail := [], queryBeat := 0 }
  let aborted := { x with state := .aborted, restored := true, running := false, journalWait := false, after := none }
  let stopped := { x with running := false, journalWait := false, after := none,
                          result := (match x.after with | some r => r.1 | none => x.result),
                          detail := (match x.after with | some r => r.2 | none => x.detail) }
  match x.state with
  | .opened => ((if x.anchor then s else s.undoGroup g).setSlot g aborted).signalGroup g
  | .aborted => if x.running then (s.undoGroup g).setSlot g stopped else s.setSlot g x
  | .prepared =>
    if anchorOf x.txn ≠ s.member then (s.setSlot g { x with state := .inDoubt }).signalGroup g
    else
      let commit : Bool := match s.decisionOf x.txn with | some (_, d) => d.state == 2 | none => false
      if commit then
        let s1 := s.setSlot g { x with state := .committed, restored := true }
        ({ s1 with groups := { s1.groups with journal := s1.groups.journal.filter fun e => e.group != g,
                                              claims := s1.groups.claims.filter fun c => c.2.group != g } }.ackIfDone
          x.txn).signalGroup g
      else (((s.undoGroup g).setSlot g aborted).ackIfDone x.txn).signalGroup g
  | _ => s.setSlot g x

/-- Step 7: groups resolved (R283); a decided entry with no part left here has this member's acknowledgement (R194, R196). -/
def State.resolveGroups (s : State) : State :=
  let t := s.presumeAborts
  let u := (t.groups.slots.map (·.1)).foldl State.resolveSaved t
  ((u.groups.decisions.filter fun e => e.2.state ≠ 1).map fun e => e.2.txn).foldl State.ackIfDone u

/-- Leaves that a layout change has just added are CLEAN (R82): they lie above every other one. -/
def State.newLeavesClean (s : State) (t : LeafTable) : LeafTable :=
  match s.ctl.newFrom with
  | none => t
  | some n =>
    { t with exc := (t.exc.filter fun e => decide (e.1 < n)) ++
        ((List.range (s.layout.leaves - n)).map fun i => (n + i, LeafState.clean)) }

/-- Step 7: leaf states set (R284): UNRESTORED, except the LOST ones, whose leaf map entries are cleared and whose undo
entries have nothing left to undo (R26), and new ones. The snapshot of the delta log begins here, and a reload starts from it,
also before it is complete (R284, R289; DESIGN CHOICE, log entry 50). -/
def State.setRestored (s : State) (lost : List Nat) (all : Bool) : State :=
  let table := if all then { base := .lost, exc := [] }
    else lost.foldl (fun (l : LeafTable) f => l.set f .lost) { base := .unrestored, exc := [] }
  let t := { s with leaves := s.newLeavesClean table, ctl := { s.ctl with newFrom := none } }
  let u := if all then (t.nand.copies.map (·.1)).foldl State.unmapLeaf t else lost.foldl State.unmapLeaf t
  let n := if all then s.layout.leaves else lost.length
  let v := { u with delta := { u.delta with snapshot := u.leaves, start := u.delta.seq, records := [], lazy := [], fill := 0,
                                            writing := some (u.leaves, u.delta.seq), block := 0 },
                    dram := { u.dram with rebuildFrom := u.leaves, rebuilt := [], rebuilding := none, rebuildTouch := [] },
                    groups := { u.groups with undo := u.groups.undo.filter fun e => decide (u.leaf (e.line / 256) ≠ LeafState.lost) },
                    mirrorCopied := [], mirrorUnits := [], mirrorWhole := [], poison := [] }.notePoison
  if n = 0 then v else v.fault Code.leavesLost n

/-- The Dirty Shutdown Count rises once for a save (R64). -/
def State.countShutdown (s : State) (i : SaveImage) : State :=
  if i.counted then s
  else { s with nand := { s.nand with image := some { i with counted := true } } }.addReg 0x2050 0 1

/-- What the class of the save records (Table 11.5): its outcome, the leaves LOST of one that left none written (R277, R291), its event,
and the Dirty Shutdown Count (R64). -/
def State.recordSave (s : State) (i : SaveImage) : State :=
  let short := i.lost.length - i.carriedLost.length
  let s0 := s.setReg 0x5403 0 i.outcome
  let s1 := if i.outcome = 3 then s0.setReg 0x5404 2 short
    else if i.outcome = 4 then s0.setReg 0x5404 2 (s.layout.leaves) else s0
  match i.outcome with
  | 2 => (s1.fault Code.saveShort short).countShutdown i
  | 3 => (if 0 < short then s1.countShutdown i else s1).faultOpen Code.saveUnsealed
  | 4 => (s1.countShutdown i).faultOpen Code.saveBroken
  | _ => s1

/-- Windows with MIRROR read ARMING after a restore from flash (R88). -/
def State.rearmMirrors (s : State) : State :=
  (List.range 64).foldl (fun t w =>
    if bits (t.reg (0x2500 + w) 3) 2 2 = 1 ∧ t.reg (0x2500 + w) 3 % 2 = 1 then t.setReg (0x2500 + w) 5 1
    else t.setReg (0x2500 + w) 5 0) s

/-- Parts still IN_DOUBT when host access opens record PAGE_FENCED (R227). -/
def State.recordFences (s : State) : State :=
  (s.groups.slots.filter fun e => decide (e.2.state = .inDoubt)).foldl (fun t e =>
    match t.pagesOf e.1 with
    | p :: _ => t.note Code.pageFenced (words2 (p * 4096))
    | [] => t) s

/-- Host access opens in RESTORE (R281 step 8); DRAM then holds the content that a COLD reset reloads (R289). The snapshot of
the leaf states goes to the Cupboard, and a rebuild under way goes on. -/
def State.openAccess (s : State) (ms : Nat) : State :=
  let s1 := { s with ctl := { s.ctl with access := true, dramHeld := true }, save := { s.save with restoreState := 3, loading := 2 },
                     ingress := { s.ingress with closed := false } }.setReg 0x5425 0 (ms % 2 ^ 32)
  let s2 := if s1.nand.checkpoint = none then s1.checkpointStart else s1
  ((((if s2.delta.writing.isSome then s2.snapshotBlock else s2).rebuildGo).recordFences).imageResumed).serveHeld

/-- GROUP_SET_LOAD_COMPLETE: steps 6 to 8 of Table 11.7. -/
def State.loadImage (s : State) (ms : Nat) : State :=
  let s0 := { s with trestle := { s.trestle with loaded := true } }
  let s1 : State := match s.liveImage with
    | none => if s.liveCheckpoint = none then s0.emptyImage else s0.emptyGroups.setRestored [] false
    | some i =>
      match i.outcome with
      | 5 => s0.emptyGroups.setRestored [] false
      | 4 => (s0.emptyGroups.setRestored [] true).recordSave i
      | _ => (((s0.loadGroups i).resolveGroups).setRestored i.lost false).recordSave i
  (s1.rearmMirrors).openAccess ms

/-- GROUP_SET_LOAD_COMPLETE (R283). -/
def execGroupSetLoadComplete (ms : Nat) (s : State) : Out :=
  .next (if s.ctl.mode = .restore ∧ s.ctl.access = false ∧ s.save.loading = 1 then s.fresh.loadImage ms else s.idle)

end Sys2Proof.Machine
end

