-- ==== Sys2Proof/Machine/Mailbox.lean ====
section
/-! DEFINITION. The mailbox's standard commands (R44, R56, R59 to R66): a command is answered on its link, and completes
with source 0. Payloads carry the fields that the spec names (log entry 18). -/

namespace Sys2Proof.Machine

/-! ### Wall time (R65, R380) -/

/-- The wall time is set: CLOCK_STEP when it goes back, CLOCK_SET when it goes forward, with both times. -/
def State.setWall (s : State) (ns : Int) : State :=
  let old := if s.clock.wallSet then s.clock.wallNs else 0
  let values := words2 (s64 old) ++ words2 (s64 ns)
  let s1 := { s with clock := { s.clock with wallNs := ns, wallSet := true }, trestle := { s.trestle with sync := none } }
  if s.clock.wallSet = true ∧ ns < old then (s1.addReg 0x1200 4 1).note Code.clockStep values
  else if ns = old ∧ s.clock.wallSet = true then s1 else s1.note Code.clockSet values

/-! ### The shape of a command -/

/-- A mailbox command on a link that is up: a CXL.io request arrives, and the command acts; with no core pair left it
completes with Internal Error (R393). -/
def State.mailbox (s : State) (link : Fin 4) (opcode : Nat) (f : State → State) : Out :=
  .next (if (s.link link.val).up = false then s.idle
    else if s.bureau.lost then (s.fresh.ioArrives link.val).mail link.val opcode .internalError []
    else f (s.fresh.ioArrives link.val))

/-- A command that only answers with some payload. -/
def State.report (s : State) (link : Fin 4) (opcode : Nat) (payload : List Nat) : Out :=
  s.mailbox link opcode fun t => t.mail link.val opcode .success payload

/-- A command that the W9620 does not support. -/
def State.unsupported (s : State) (link : Fin 4) (opcode : Nat) : Out :=
  s.mailbox link opcode fun t => t.mail link.val opcode .unsupported []

/-- Whether host access is open as the mailbox judges it: not in BRING-UP, in RESTORE before it opens, or in SAVE (R57,
R60, R62). -/
def State.mailClosed (s : State) : Bool := !s.ctl.access || s.ctl.mode == .save

/-! ### Information -/

/-- IDENTIFY. -/
def execIdentify (link : Fin 4) (s : State) : Out := s.report link 0x0001 [s.reg 0x1000 3]

/-- BACKGROUND_OPERATION_STATUS: the opcode of the link's last background operation, and whether it runs. -/
def execBackgroundOperationStatus (link : Fin 4) (s : State) : Out :=
  s.report link 0x0002 (match (s.link link.val).background with | some (op, run, _) => [op, run.toNat] | none => [0, 0])

/-- GET_FW_INFO: the bank of the running image and its version. -/
def execGetFwInfo (link : Fin 4) (s : State) : Out :=
  s.report link 0x0200 [s.security.runningBank, s.security.fwVersion]

/-- TRANSFER_FW. -/
def execTransferFw (link : Fin 4) (s : State) : Out := s.unsupported link 0x0201

/-- ACTIVATE_FW. -/
def execActivateFw (link : Fin 4) (s : State) : Out := s.unsupported link 0x0202

/-- GET_SUPPORTED_LOGS: one log, the Command Effects Log. -/
def execGetSupportedLogs (link : Fin 4) (s : State) : Out := s.report link 0x0400 [1]

/-- Opcodes that the mailbox supports (Tables 3.4 and 3.5). -/
def mailOpcodes : List Nat :=
  [0x0001, 0x0002, 0x0100, 0x0101, 0x0102, 0x0103, 0x0200, 0x0300, 0x0301, 0x0400, 0x0401, 0x4000, 0x4100, 0x4102,
   0x4103, 0x4200, 0x4201, 0x4202, 0x4203, 0x4204, 0x4300, 0x4301, 0x4302, 0x4303, 0x4304, 0x4305, 0x4400]
  ++ [0x4500, 0x4501, 0x4502, 0x4503, 0x4504, 0x4505, 0xC100, 0xC200, 0xC300]

/-- GET_LOG: the CEL lists the supported opcodes; there is no other log. -/
def execGetLog (link : Fin 4) (cel : Bool) (s : State) : Out :=
  s.mailbox link 0x0401 fun t =>
    if cel then t.mail link.val 0x0401 .success mailOpcodes else t.mail link.val 0x0401 .invalidInput []

/-- IDENTIFY_MEMORY_DEVICE (R45, R56, R61): total, volatile and persistent capacity, LSA size, poison records. -/
def execIdentifyMemoryDevice (link : Fin 4) (s : State) : Out :=
  s.report link 0x4000 [s.partSize link.val, 0, s.partSize link.val, 131072, 65536]

/-- GET_PARTITION_INFO: volatile and persistent capacity. -/
def execGetPartitionInfo (link : Fin 4) (s : State) : Out := s.report link 0x4100 [0, s.partSize link.val]

/-- SET_PARTITION_INFO. -/
def execSetPartitionInfo (link : Fin 4) (s : State) : Out := s.unsupported link 0x4101

/-- GET_HEALTH_INFO (R64). -/
def execGetHealthInfo (link : Fin 4) (s : State) : Out := s.report link 0x4200 [s.reg 0x2050 0]

/-- MAILBOX_UNSUPPORTED (R56): an opcode of no supported command. -/
def execMailboxUnsupported (link : Fin 4) (opcode : BitVec 16) (s : State) : Out :=
  if mailOpcodes.contains opcode.toNat then .next s.idle else s.unsupported link opcode.toNat

/-! ### Event records (R63) -/

/-- GET_EVENT_RECORDS: handles and records, at most 31, and whether more follow. -/
def execGetEventRecords (link log : Fin 4) (s : State) : Out :=
  let rs := (s.link link.val).logs.get log.val []
  s.report link 0x0100 ((decide (31 < rs.length)).toNat ::
    (rs.take 31).flatMap fun r => r.seq :: (r.image.take 1))

/-- CLEAR_EVENT_RECORDS: all, or those named; a handle of no record clears nothing. -/
def execClearEventRecords (link log : Fin 4) (all : Bool) (handles : List Nat) (s : State) : Out :=
  s.mailbox link 0x0101 fun t =>
    let l := t.link link.val
    let rs := l.logs.get log.val []
    if all then (t.setLink link.val { l with logs := l.logs.put log.val [] }).mail link.val 0x0101 .success []
    else if handles.any fun h => !(rs.any fun r => r.seq == h) then t.mail link.val 0x0101 .invalidHandle []
    else (t.setLink link.val { l with logs := l.logs.put log.val (rs.filter fun r => !handles.contains r.seq) }).mail
      link.val 0x0101 .success []

/-- GET_EVENT_INTERRUPT_POLICY: the message numbers of sources 1 to 4 (R67). -/
def execGetEventInterruptPolicy (link : Fin 4) (s : State) : Out :=
  s.report link 0x0102 (([1, 2, 3, 4] : List Nat).map fun k => s.vectorOf link.val k)

/-- SET_EVENT_INTERRUPT_POLICY (R67). -/
def execSetEventInterruptPolicy (link : Fin 4) (vectors : Map Nat) (s : State) : Out :=
  s.mailbox link 0x0103 fun t =>
    if vectors.all fun e => decide (1 ≤ e.1) && decide (e.1 ≤ 4) && decide (e.2 < t.vectorCount link.val) then
      (t.setLink link.val { t.link link.val with
        eventVectors := vectors.foldl (fun m e => Map.put m e.1 e.2) (t.link link.val).eventVectors }).mail
        link.val 0x0103 .success []
    else t.mail link.val 0x0103 .invalidInput []

/-! ### Timestamp -/

/-- GET_TIMESTAMP: 0 while unset. -/
def execGetTimestamp (link : Fin 4) (s : State) : Out :=
  s.report link 0x0300 [if s.clock.wallSet then s64 s.clock.wallNs else 0]

/-- SET_TIMESTAMP (R65). -/
def execSetTimestamp (link : Fin 4) (ns : Nat) (s : State) : Out :=
  s.mailbox link 0x0301 fun t => (t.setWall (ofS64 (ns % 2 ^ 64))).mail link.val 0x0301 .success []

/-! ### LSA, alerts and shutdown state -/

/-- GET_LSA: bytes within the 128 KiB and the 4 KiB payload. -/
def execGetLsa (link : Fin 4) (offset length : Nat) (s : State) : Out :=
  s.mailbox link 0x4102 fun t =>
    if offset + length ≤ 131072 ∧ length ≤ 4096 then
      t.mail link.val 0x4102 .success
        ((List.range length).map fun i => (Mem.byte (t.link link.val).lsa (offset + i)).toNat)
    else t.mail link.val 0x4102 .invalidInput []

/-- SET_LSA. -/
def execSetLsa (link : Fin 4) (offset : Nat) (data : List Byte) (s : State) : Out :=
  s.mailbox link 0x4103 fun t =>
    let l := t.link link.val
    if offset + data.length ≤ 131072 ∧ data.length ≤ 4096 then
      let lsa := (List.range data.length).foldl (fun m i => Mem.put m (offset + i) ((data[i]?).getD 0)) l.lsa
      (t.setLink link.val { l with lsa := lsa }).mail link.val 0x4103 .success []
    else t.mail link.val 0x4103 .invalidInput []

/-- GET_ALERT_CONFIGURATION. -/
def execGetAlertConfiguration (link : Fin 4) (s : State) : Out := s.report link 0x4201 [(s.link link.val).alert]

/-- SET_ALERT_CONFIGURATION. -/
def execSetAlertConfiguration (link : Fin 4) (config : Nat) (s : State) : Out :=
  s.mailbox link 0x4202 fun t => (t.setLink link.val { t.link link.val with alert := config }).mail link.val 0x4202 .success []

/-- GET_SHUTDOWN_STATE (R64). -/
def execGetShutdownState (link : Fin 4) (s : State) : Out := s.report link 0x4203 [(s.link link.val).shutdownState]

/-- SET_SHUTDOWN_STATE (R64): kept per link, with no other effect. -/
def execSetShutdownState (link : Fin 4) (state : Nat) (s : State) : Out :=
  s.mailbox link 0x4204 fun t =>
    if state ≤ 1 then
      (t.setLink link.val { t.link link.val with shutdownState := state }).mail link.val 0x4204 .success []
    else t.mail link.val 0x4204 .invalidInput []

/-! ### Poison (R61, R62) -/


/-- Code of a source as a record carries it: 0 Internal, 1 External, 2 Injected (log entry 18). -/
def PoisonSource.code : PoisonSource → Nat
  | .internal | .channelLoss => 0 | .external => 1 | .injected => 2

/-- Records that fall within a range. -/
def recordsIn (rs : List PoisonRec) (lo len : Nat) : List PoisonRec :=
  rs.filter fun r => decide (lo < r.dpa + 64 * r.length) && decide (r.dpa < lo + len)

/-- Records that fall within a range, as payload: whether more follow, and at most 254, which with CXL's 32 B header and 16 B
records fill the 4 KiB of Table 3.2 (PRESUMED, log entry 18). -/
def poisonPayload (rs : List PoisonRec) (lo len : Nat) : List Nat :=
  let found := recordsIn rs lo len
  (decide (254 < found.length)).toNat :: (found.take 254).flatMap fun r => [r.dpa, r.length, r.source.code]

/-- Whether a range is whole 64 B units of the link's DPA range. -/
def State.goodRange (s : State) (i dpa length : Nat) : Bool :=
  dpa % 64 == 0 && decide (0 < length) && decide (s.partBase i ≤ dpa) &&
    decide (dpa + 64 * length ≤ s.partBase i + s.partSize i)

/-- GET_POISON_LIST (R61): `length` counts 64 B units; the overflow flag and its time lead. -/
def execGetPoisonList (link : Fin 4) (dpa length : Nat) (s : State) : Out :=
  s.mailbox link 0x4300 fun t =>
    if t.goodRange link.val dpa length then
      t.mail link.val 0x4300 .success
        ((match t.poisonOverflow with | some ns => [1, ns] | none => [0, 0]) ++ poisonPayload t.poisonList dpa (64 * length))
    else t.mail link.val 0x4300 .invalidInput []

/-- A write that the mailbox makes: Busy while host access is not open, else as a host write (R62). -/
def State.mailWrite (s : State) (link : Fin 4) (opcode dpa : Nat) (w : MemWrite) (src : PoisonSource) : State :=
  if s.mailClosed then s.mail link.val opcode .busy []
  else if s.goodRange link.val dpa 1 = false then s.mail link.val opcode .invalidInput []
  else s.acceptWrite w src

/-- INJECT_POISON (R62): a write carrying poison, of source Injected. -/
def execInjectPoison (link : Fin 4) (dpa : Nat) (stamp : BitVec 16) (s : State) : Out :=
  s.mailbox link 0x4301 fun t => t.mailWrite link 0x4301 dpa
    { link := link, dpa := dpa, data := 0, be := 0, poison := true, stamp := stamp } .injected

/-- CLEAR_POISON (R62): an ordinary write of 64 B. -/
def execClearPoison (link : Fin 4) (dpa : Nat) (data : Data64) (stamp : BitVec 16) (s : State) : Out :=
  s.mailbox link 0x4302 fun t => t.mailWrite link 0x4302 dpa
    { link := link, dpa := dpa, data := data, be := BitVec.allOnes 64, poison := false, stamp := stamp } .internal

/-- SCAN_MEDIA_CAPABILITIES: the range can be scanned. -/
def execScanMediaCapabilities (link : Fin 4) (dpa length : Nat) (s : State) : Out :=
  s.mailbox link 0x4303 fun t =>
    if t.goodRange link.val dpa length then t.mail link.val 0x4303 .success [] else t.mail link.val 0x4303 .invalidInput []

/-- Whether a link's background operation runs. -/
def Link.busy (l : Link) : Bool := match l.background with | some (_, run, _) => run | none => false

/-- A background operation starts. -/
def State.startBackground (s : State) (i opcode : Nat) : State :=
  (s.setLink i { s.link i with background := some (opcode, true, s.clock.beat) }).mail i opcode .backgroundStarted []

/-- A background operation completes, with source 0 (Table 3.6). -/
def State.endBackground (s : State) (i opcode : Nat) : State :=
  (s.setLink i { s.link i with background := some (opcode, false, s.clock.beat) }).signal i 0

/-- SCAN_MEDIA: in the background. -/
def execScanMedia (link : Fin 4) (dpa length : Nat) (s : State) : Out :=
  s.mailbox link 0x4304 fun t =>
    let i := link.val
    if (t.link i).busy then t.mail i 0x4304 .busy []
    else if t.goodRange i dpa length = false then t.mail i 0x4304 .invalidInput []
    else (t.setLink i { t.link i with scan := some (dpa, length, false) }).startBackground i 0x4304

/-- SCAN_MEDIA_COMPLETE (R61): the records are rebuilt from the leaf states and the marks; the overflow ends unless the
list is full again. -/
def execScanMediaComplete (link : Fin 4) (s : State) : Out :=
  let l := s.link link.val
  .next (match l.background, l.scan with
    | some (0x4304, true, _), some (dpa, length, _) =>
      let t := s.fresh.setLink link.val { l with scan := some (dpa, length, true) }
      { t with poisonOverflow := if s.poisonRecords.length < 65536 then none else s.poisonOverflow }.endBackground
        link.val 0x4304
    | _, _ => s.idle)

/-- GET_SCAN_MEDIA_RESULTS: the records of the range last scanned; none before a scan has completed. -/
def execGetScanMediaResults (link : Fin 4) (s : State) : Out :=
  s.mailbox link 0x4305 fun t => t.mail link.val 0x4305 .success (match (t.link link.val).scan with
    | some (dpa, length, true) => poisonPayload t.poisonList dpa (64 * length)
    | _ => poisonPayload [] 0 0)

/-! ### Sanitize (R60) -/

/-- Whether a Sanitize is refused with Busy. -/
def State.sanitizeBusy (s : State) : Bool :=
  s.mailClosed || (s.groups.decisions.any fun d => d.2.state == 1 || d.2.acked != fullMap d.2) ||
    (s.groups.slots.any fun e => decide (e.2.state = .prepared) || decide (e.2.state = .inDoubt)) ||
    s.links.any fun e => match e.2.background with | some (0x4400, true, _) => true | _ => false

/-- A Sanitize that has been taken begins: the media key is replaced, which leaves no NAND image readable, unless the W9620 is
still in DROWSE (R60, R264). -/
def State.sanitizeBegin (s : State) : State :=
  if s.ctl.sanitizeDue = true ∧ s.ctl.mode ≠ .drowse then
    ({ s with ctl := { s.ctl with sanitizeDue := false } }.newKey).clearStore
  else s

/-- WAKE_COMPLETE (R338): ONLINE at the first boundary after every channel has passed; a Sanitize taken in DROWSE begins (R60),
and what waited is served. -/
def State.wakeComplete (s : State) (us : Nat) : State :=
  let s1 := (s.setMode .online).setReg 0x1116 0 (us % 2 ^ 32)
  (({ s1 with ctl := { s1.ctl with waking := false } }).sanitizeBegin).serveHeld

/-- WAKE_COMPLETE; an armed SAVE goes before it (R13). -/
def execWakeComplete (us : Nat) (s : State) : Out :=
  .next (if s.ctl.mode = .drowse ∧ s.ctl.waking = true ∧ s.save.arm = 0 then s.fresh.wakeComplete us else s.idle)

/-- SANITIZE: in the background; other links' requests wait while it runs. One issued in DROWSE begins once the W9620 is ONLINE
(R60). -/
def execSanitize (link : Fin 4) (s : State) : Out :=
  s.mailbox link 0x4400 fun t =>
    if t.sanitizeBusy ∨ (t.link link.val).busy then t.mail link.val 0x4400 .busy []
    else ({ t with ctl := { t.ctl with sanitizeDue := true } }.sanitizeBegin).startBackground link.val 0x4400

/-- What follows the new key in a Sanitize: copies made since are erased, DRAM reads zero, slots are free, no line is
poisoned, and every leaf is CLEAN (R60). -/
def State.zeroData (s : State) : State := (s.clearStore).emptyImage

/-- The effect of a Passphrase Secure Erase on data: that of Sanitize, at once (R66, R264, R290). -/
def State.eraseData (s : State) : State := ((s.newKey).clearStore).emptyImage

/-- The link whose Sanitize runs. -/
def State.sanitizer (s : State) : Option Nat :=
  (List.find? (fun (e : Nat × Link) => match e.2.background with | some (0x4400, true, _) => true | _ => false)
    s.links).map (·.1)

/-- The data is gone: what waited for a touch restore, a search, a rollback or journal space goes on, and so does what was held. -/
def State.serveEmptied (s : State) : State :=
  ((((((s.resume .touch).resume .search).resumeReads .touch).resumeReads .search).holdEdges s).resumeGroupWrites).serveHeld

/-- SANITIZE_COMPLETE (R60): the data is gone, `image_empty` is set (R82), and held requests are served. -/
def execSanitizeComplete (s : State) : Out :=
  .next (match s.sanitizer with
    | some i =>
      if s.mailClosed ∨ s.ctl.mode = .drowse then s.idle
      else ((((s.fresh.sanitizeBegin).zeroData).setReg 0x2400 3 1).endBackground i 0x4400).serveEmptied
    | none => s.idle)

/-- SECURE_ERASE. -/
def execSecureErase (link : Fin 4) (s : State) : Out := s.unsupported link 0x4401

/-! ### Security (R66) -/

/-- `security_state`: passphrase set, locked, frozen, attempt limit reached (Table 3.9). -/
def State.securityState (s : State) : Nat :=
  let x := s.security
  x.userPass.isSome.toNat + 2 * x.locked.toNat + 4 * x.frozen.toNat + 8 * (decide (5 ≤ x.attempts)).toNat

/-- GET_SECURITY_STATE. -/
def execGetSecurityState (link : Fin 4) (s : State) : Out := s.report link 0x4500 [s.securityState]

/-- A passphrase. -/
def Security.pass (x : Security) (master : Bool) : Option Nat := if master then x.masterPass else x.userPass

/-- Set or remove a passphrase. -/
def Security.setPass (x : Security) (master : Bool) (p : Option Nat) : Security :=
  if master then { x with masterPass := p } else { x with userPass := p }

/-- SET_PASSPHRASE: not while locked or frozen; over a passphrase that is set only with that one. -/
def execSetPassphrase (link : Fin 4) (master : Bool) (current new : Nat) (s : State) : Out :=
  s.mailbox link 0x4501 fun t =>
    let x := t.security
    if x.frozen ∨ x.locked then t.mail link.val 0x4501 .invalidSecurityState []
    else if x.pass master ≠ none ∧ x.pass master ≠ some current then t.mail link.val 0x4501 .incorrectPassphrase []
    else { t with security := x.setPass master (some new) }.mail link.val 0x4501 .success []

/-- DISABLE_PASSPHRASE. -/
def execDisablePassphrase (link : Fin 4) (master : Bool) (current : Nat) (s : State) : Out :=
  s.mailbox link 0x4502 fun t =>
    let x := t.security
    if x.frozen ∨ x.locked ∨ x.pass master = none then t.mail link.val 0x4502 .invalidSecurityState []
    else if x.pass master ≠ some current then t.mail link.val 0x4502 .incorrectPassphrase []
    else { t with security := x.setPass master none }.mail link.val 0x4502 .success []

/-- The W9620 is unlocked: a restore that waited loads its image (R281 step 4). -/
def State.unlock (s : State) : State :=
  { s with security := { s.security with locked := false },
           save := { s.save with restoreState := if s.save.restoreState = 1 then 2 else s.save.restoreState } }

/-- UNLOCK_DEVICE (R66): after 5 failed attempts Invalid Security State until POWER-ON. -/
def execUnlockDevice (link : Fin 4) (passphrase : Nat) (s : State) : Out :=
  s.mailbox link 0x4503 fun t =>
    let x := t.security
    if x.frozen ∨ x.locked = false ∨ 5 ≤ x.attempts then t.mail link.val 0x4503 .invalidSecurityState []
    else if x.userPass = some passphrase then t.unlock.mail link.val 0x4503 .success []
    else { t with security := { x with attempts := x.attempts + 1 } }.mail link.val 0x4503 .incorrectPassphrase []

/-- FREEZE_SECURITY_STATE (R66): until the next COLD or POWER-ON reset. -/
def execFreezeSecurityState (link : Fin 4) (s : State) : Out :=
  s.mailbox link 0x4504 fun t => { t with security := { t.security with frozen := true } }.mail link.val 0x4504 .success []

/-- PASSPHRASE_SECURE_ERASE (R66, R290): the key is erased and replaced, the user passphrase goes, and a locked restore
continues with an empty image. -/
def execPassphraseSecureErase (link : Fin 4) (master : Bool) (passphrase : Nat) (s : State) : Out :=
  s.mailbox link 0x4505 fun t =>
    let x := t.security
    if x.frozen ∨ x.pass master = none then t.mail link.val 0x4505 .invalidSecurityState []
    else if x.pass master ≠ some passphrase then t.mail link.val 0x4505 .incorrectPassphrase []
    else
      let u := (t.eraseData).unlock
      { u with security := u.security.setPass false none }.mail link.val 0x4505 .success []

end Sys2Proof.Machine
end

