-- ==== Sys2Proof/Machine/Trestle.lean ====
section
/-! DEFINITION. The Trestle (chapter 9): links and their service, beat frames and the roll call, mastership, cells, wrap and
unwrap, and fleet time. -/

namespace Sys2Proof.Machine

/-! ### Running and links -/

/-- Whether the Trestle runs: not in DORMANT (R233), and not on a duplicate member (R212). -/
def State.trestleRuns (s : State) : Bool :=
  s.ctl.vaux && decide (s.ctl.mode ≠ .dormant) && !s.trestle.duplicate

/-- Low 32 bits of the extended beat: the wire beat of this beat (R217). -/
def State.wireBeat (s : State) : BitVec 32 := s.clock.ext.setWidth 32

/-- The hello that this member sends in its idle blocks (R203); 0xFFFF while it knows no master (log entry 19). -/
def State.ownHello (s : State) : Hello :=
  { member := s.member, domain := s.reg 0x4800 1, generation := s.reg 0x4800 3, master := s.trestle.master.getD 0xFFFF,
    beat := s.wireBeat, startTag := s.reg 0x4800 4 % 64 }

/-- A port enters ring service. -/
def State.enterService (s : State) (p : Nat) : State :=
  let first := !(s.inService 0 || s.inService 1)
  let s1 := s.setPort p { s.port p with state := .inService, failed := false, turned := false, checkFails := [],
                                        lastStart := none }
  if first then { s1 with trestle := { s1.trestle with startBeat := s.clock.beat } } else s1

/-- TRESTLE_LINK_TRAINED (R203, R204): UP, and then ring service or FAULT by the hellos; a link that failed in service waits
for its unwrap (R230). -/
def State.portTrained (s : State) (p delayNs : Nat) (hello : Hello) : State :=
  let x := s.port p
  let s1 := (s.setPort p { x with state := .up, delayNs := delayNs, hello := some hello,
                                  trainedBeat := s.clock.beat }).setReg (0x4810 + p) 3 (delayNs % 2 ^ 32)
  if s.helloAgrees hello = false then
    s1.holdPort p (s1.port p)
  else
    let s2 := s1.condClear Code.domainMismatch
    if s.inDomain = false ∨ x.failed = true then s2 else s2.enterService p

/-- A later hello arrives on a trained link: one that disagrees takes it out of service (R203, R232), and one that agrees lets it
enter. -/
def State.portHello (s : State) (p : Nat) (hello : Hello) : State :=
  let x := s.port p
  let s1 := s.setPort p { x with hello := some hello }
  if s.helloAgrees hello = false then s.holdPort p { x with hello := some hello }
  else if x.state = .up ∧ s.inDomain = true ∧ x.failed = false then (s1.condClear Code.domainMismatch).enterService p
  else s1

/-- TRESTLE_LINK_TRAINED: training completes with the hellos exchanged; on a link that is UP or IN_SERVICE, a later hello of the
partner (DEDUCED, log entry 55). The own hello goes out. -/
def execTrestleLinkTrained (port : Fin 2) (delayNs : Nat) (hello : Hello) (s : State) : Out :=
  let x := s.port port.val
  let hi := fun (t : State) => t.emit (.hello port.val s.ownHello)
  .next (if s.trestleRuns = false ∨ s.reg (0x4810 + port.val) 2 ≠ 1 then s.idle
    else if x.state = .down ∨ x.state = .training ∨ x.state = .fault then hi (s.fresh.portTrained port.val delayNs hello)
    else if x.state = .up ∨ x.state = .inService then hi (s.fresh.portHello port.val hello)
    else s.idle)

/-- A write of a port's `link_enable` (R205, R346). A port taken out of service turns frames back; a duplicate member's ports
stay in FAULT (R212). -/
def State.portEnable (s : State) (p v : Nat) : State :=
  let s1 := s.setReg (0x4810 + p) 2 v
  let x := s1.port p
  if s.trestle.duplicate then s1
  else if v = 0 then
    let served := decide (x.state = .inService)
    if x.state = .down ∨ x.state = .disabling then s1
    else s1.setPort p { x with state := .disabling, failed := x.failed || served, turned := x.turned || served,
                               lastTag := if served then x.hello.map (·.startTag) else x.lastTag }
  else match x.state with
    | .disabling => s1.setPort p { x with state := .pendingStart }
    | .down => if s1.trestleRuns then s1.setPort p { x with state := .training } else s1
    | _ => s1

/-- TRESTLE_SHUTDOWN_COMPLETE (R205). -/
def execTrestleShutdownComplete (port : Fin 2) (s : State) : Out :=
  let x := s.port port.val
  .next (match x.state with
    | .disabling => s.fresh.setPort port.val { x with state := .down }
    | .pendingStart => s.fresh.setPort port.val { x with state := .training }
    | _ => s.idle)

/-! ### Wrap and unwrap -/

/-- A link fails in service (R229): FAULT, turned back, counted and recorded. -/
def State.wrapPort (s : State) (p : Nat) : State :=
  let x := s.port p
  ((s.setPort p { x with state := .fault, failed := true, turned := true,
                         lastTag := x.hello.map (·.startTag) }).addReg (0x4810 + p) 5 1).faultOpen Code.trestleWrap true

/-- A frame starts on a port, with `bad` of its link checks wrong: more than `link_check_limit` within 1,000 beats fail the link
in service (R229). -/
def State.frameStart (s : State) (p bad : Nat) : State :=
  let x := s.port p
  let fails := (x.checkFails.filter fun e => decide (s.clock.beat < e.1 + 1000)) ++ (if bad = 0 then [] else [(s.clock.beat, bad)])
  let t := s.setPort p { x with checkFails := fails, lastStart := some s.clock.beat }
  let u := if bad = 0 then t else t.addReg (0x4810 + p) 4 bad
  if u.inService p = true ∧ u.reg 0x4812 0 < (fails.map (·.2)).sum then u.wrapPort p else u

/-- Whether no frame has started on a port for two whole beats (R229). -/
def State.startsLost (s : State) (p : Nat) : Bool :=
  match (s.port p).lastStart with | some b => decide (b + 3 ≤ s.clock.beat) | none => false

/-- A link in service on which frames have ceased to start, while they go on by the other port, fails (R229). Silence on both
ports is the loss of the master (R214; DEDUCED, log entry 186). -/
def State.linkBeat (s : State) : State :=
  let lost := fun (p : Nat) => s.inService p && s.startsLost p && s.inService (1 - p) && (s.port (1 - p)).lastStart.isSome &&
    !s.startsLost (1 - p)
  if s.trestleRuns = false then s
  else if lost 0 then s.wrapPort 0
  else if lost 1 then s.wrapPort 1
  else s

/-- TRESTLE_WRAP (R229). -/
def execTrestleWrap (port : Fin 2) (s : State) : Out :=
  .next (if s.trestleRuns = true ∧ s.inService port.val = true then s.fresh.wrapPort port.val else s.idle)

/-- Whether both ends have the same master, or one end knows none yet (log entry 19). -/
def State.sameMaster (s : State) (h : Hello) : Bool :=
  match s.trestle.master with
  | none => true
  | some m => h.master == m || h.master == 0xFFFF

/-- Whether a failed link may be taken back (R230): a wire beat that is a multiple of 256, one master, and either the wait of
`unwrap_beats` or a partner that has restarted. -/
def State.mayUnwrap (s : State) (p : Nat) : Bool :=
  let x := s.port p
  match x.hello with
  | none => false
  | some h =>
    decide (x.state = .up) && x.failed && s.inDomain && s.helloAgrees h && s.wireBeat.toNat % 256 == 0 && s.sameMaster h &&
      (x.lastTag != some h.startTag || decide (s.reg 0x4833 0 ≤ s.clock.beat - x.trainedBeat))

/-- A link is taken back into service (R230). -/
def State.unwrapPort (s : State) (p : Nat) : State :=
  let s1 := (s.enterService p).note Code.trestleUnwrap
  if (s1.port (1 - p)).turned then s1 else s1.condClear Code.trestleWrap

/-- TRESTLE_UNWRAP. -/
def execTrestleUnwrap (port : Fin 2) (s : State) : Out :=
  .next (if s.trestleRuns = true ∧ s.mayUnwrap port.val = true then s.fresh.unwrapPort port.val else s.idle)

/-! ### Cells -/

end Sys2Proof.Machine

namespace Sys2Proof

/-- Targets of a cell by position in its taken map; none for a broadcast (R222). -/
def Cell.targets (c : Cell) : List Nat :=
  match c.body with
  | .decide ts _ _ => ts
  | .timeSync _ _ _ => []
  | _ => match c.dest with | some d => [d] | none => []

/-- Whether a cell is a broadcast (R222). -/
def Cell.broadcast (c : Cell) : Bool := match c.body with | .timeSync _ _ _ => true | _ => false

/-- Whether a cell goes before others that wait (R218). -/
def Cell.urgent (c : Cell) : Bool :=
  match c.body with | .decide _ _ _ | .ack _ | .query _ | .answer _ => true | _ => false

/-- Key of a frame: its wire beat and ring. -/
def Frame.key (f : Frame) : Nat := 2 * f.wire.toNat + f.ringB.toNat

end Sys2Proof

namespace Sys2Proof.Machine

/-- Cells in flight that count against the limit (R218). -/
def State.inFlight (s : State) : Nat := (s.trestle.flight.filter fun f => !f.cell.broadcast).length

/-- The limit A of cells in flight (R218). -/
def State.cellLimit (s : State) : Nat := max 1 (188 * s.reg 0x4808 0 / s.membersN)

/-- The next waiting cell that may be inserted: urgent ones first, a broadcast whatever the limit. -/
def State.nextCell (s : State) : Option Cell :=
  let ok := fun (c : Cell) => c.broadcast || decide (s.inFlight < s.cellLimit)
  match s.trestle.wait.find? fun c => c.urgent && ok c with
  | some c => some c
  | none => s.trestle.wait.find? ok

/-- Insert waiting cells into the free slots of a frame that arrives by a port; `slots` lists the free ones. -/
def insertCells (port : Fin 2) : List Nat → State × Map Cell → State × Map Cell
  | [], x => x
  | n :: ns, (s, cells) =>
    match s.nextCell with
    | none => (s, cells)
    | some c =>
      let t := { s with trestle := { s.trestle with
        wait := s.trestle.wait.filter fun (w : Cell) => !(w.seq == c.seq),
        flight := s.trestle.flight ++ [({ cell := c, port := port, beat := s.clock.beat, retries := s.trestle.retries.get c.seq 0 } : Flight)] } }
      insertCells port ns (if c.retry then t else t.addReg 0x4830 1 1, cells.put n { c with taken := 0 })

/-- Retransmit a cell to targets (R221), or give it up: none alive, or `cell_retry_max` reached. -/
def State.retransmit (s : State) (f : Flight) (untaken : List Nat) : State :=
  let live := untaken.filter s.alive
  let gone := { s with trestle := { s.trestle with retries := s.trestle.retries.del f.cell.seq } }
  if live = [] then gone
  else if s.reg 0x4831 0 ≤ f.retries then (gone.addReg 0x4830 4 1).emit (.undelivered f.cell)
  else
    let body := match f.cell.body with | .decide _ t c => CellBody.decide live t c | b => b
    let again : Cell := { f.cell with retry := true, taken := 0, body := body }
    { s with trestle := { s.trestle with wait := again :: s.trestle.wait,
                                         retries := s.trestle.retries.put f.cell.seq (f.retries + 1) } }.addReg 0x4830 3 1

/-- Whether a cell of a frame is the copy in flight that a source waits for: a copy that was given up before it came back is not,
for its retransmission carries RETRY or names fewer targets (R221). -/
def Flight.is (g : Flight) (c : Cell) : Bool := g.cell.seq == c.seq && g.cell.retry == c.retry && g.cell.body == c.body

/-- A cell returns to its source (R219, R221). -/
def State.cellReturned (s : State) (f : Flight) (taken : Nat) : State :=
  let s1 := { s with trestle := { s.trestle with flight := s.trestle.flight.filter fun g => g.cell.seq != f.cell.seq } }
  let ts := f.cell.targets
  let untaken := ((List.range ts.length).filter fun i => taken / 2 ^ i % 2 == 0).filterMap fun i => ts[i]?
  if f.cell.broadcast ∨ untaken = [] then
    { s1 with trestle := { s1.trestle with retries := s1.trestle.retries.del f.cell.seq } }
  else s1.retransmit f untaken

/-- CELL_RETRANSMIT_TIMEOUT (R221, R222): 2 × L + 1 beats after insertion. -/
def execCellRetransmitTimeout (seq : Nat) (s : State) : Out :=
  .next (match s.trestle.flight.find? fun f => f.cell.seq == seq with
    | some f =>
      if 2 * s.reg 0x4808 0 + 1 ≤ s.clock.beat - f.beat then s.fresh.cellReturned f 0 else s.idle
    | none => s.idle)

/-- Whether this member takes a cell in its present state (R219). -/
def State.takesCell (s : State) (c : Cell) : Bool :=
  s.ownAlive || (decide (s.ctl.mode = .drowse) && (match c.body with | .wake _ => true | _ => false))

/-- What a target keeps of a source once its START_TAG is known (R220). -/
def State.historyOf (s : State) (source : Nat) : History :=
  let kept := s.trestle.history.get source { startTag := 0, highest := none, seen := 0 }
  let tag := match s.trestle.roll.find? source with | some w => w / 2 ^ 26 % 64 | none => kept.startTag
  if tag = kept.startTag then kept else { startTag := tag, highest := none, seen := 0 }

/-- Take a sequence into a history; none when it is a duplicate (R220). -/
def History.take (h : History) (seq : Nat) : Option History :=
  match h.highest with
  | none => some { h with highest := some seq, seen := 0 }
  | some top =>
    if top < seq then
      let d := seq - top
      some { h with highest := some seq, seen := (h.seen <<< d) ||| ((1 : BitVec 64) <<< (d - 1)) }
    else if seq = top ∨ 64 < top - seq ∨ h.seen.getLsbD (top - seq - 1) = true then none
    else some { h with seen := h.seen ||| ((1 : BitVec 64) <<< (top - seq - 1)) }

/-- TIME_SYNC sets the wall time of a member that follows fleet time (R234). -/
def State.followTime (s : State) (set : Bool) (wallNs : Int) (delayNs : Nat) : State :=
  if s.reg 0x4834 0 = 1 ∧ set = true then s.setWall (wallNs + delayNs) else s

/-- A WAKE cell fires the TRESTLE source (Table 13.3). -/
def State.takeWake (s : State) : State := s.fire 1 none

/-- Take a segment of a tunnelled message (R235): a message whose segments have all been taken has arrived. -/
def State.takeSegment (s : State) (source : Nat) (response : Bool) (tag seg count data : Nat) : State :=
  let same := fun (p : Partial) => p.source == source && p.response == response && p.tag == tag
  let old : Partial := (s.trestle.partials.find? same).getD
    { source := source, response := response, tag := tag, count := count, got := [], beat := s.clock.beat }
  let got := old.got.put seg data
  let rest := s.trestle.partials.filter fun p => !same p
  if count ≤ got.length then
    { s with trestle := { s.trestle with partials := rest,
                                         arrived := s.trestle.arrived ++ [(source, response, ofSegments got)] } }
  else { s with trestle := { s.trestle with partials := rest ++ [{ old with got := got }] } }

/-- Partial requests are discarded after `tunnel_timeout_beats` (R235). -/
def State.dropPartials (s : State) : State :=
  let live := s.trestle.partials.filter fun p => decide (s.clock.beat - p.beat < s.reg 0x4850 0)
  { s with trestle := { s.trestle with partials := live } }

/-- Deliver a cell to the block concerned (Table 9.7); `pathPs` is the path delay to this member, the link it came by included. -/
def State.deliverCell (s : State) (c : Cell) (wire : BitVec 32) (pathPs : Nat) : State :=
  match c.body with
  | .decide _ txn commit => s.takeDecide txn commit
  | .ack txns => s.takeAck c.source txns
  | .query txns => ((txns.foldl (State.takeQuery c.source) s).resumeGroupWrites).panicUpdate
  | .answer items => ((items.foldl State.takeAnswer s).resumeGroupWrites).panicUpdate
  | .wake _ => s.takeWake
  | .timeSync w ns set => s.followTime set ns ((wire - w).toNat * 10000 + pathPs / 1000)
  | .tunnelReq tag seg count data => s.takeSegment c.source false tag seg count data
  | .tunnelRsp tag seg count data => s.takeSegment c.source true tag seg count data

/-- This member's position among a cell's targets, or `none` when it is not addressed. -/
def State.targetIndex (s : State) (c : Cell) : Option Nat :=
  if c.broadcast then some 0 else rosterIndex c.targets s.member

/-- A cell of another member that addresses this one passes (R219, R220): delivered unless a duplicate, and its taken bit
set; a broadcast has no bit. -/
def State.takeCell (s : State) (c : Cell) (k : Nat) (wire : BitVec 32) (pathPs : Nat) : State × Cell :=
  let marked : Cell := if c.broadcast then c else { c with taken := if c.taken / 2 ^ k % 2 = 1 then c.taken else c.taken + 2 ^ k }
  match (s.historyOf c.source).take c.seq with
  | none => (s.addReg 0x4830 5 1, marked)
  | some h =>
    let t := { s with trestle := { s.trestle with history := s.trestle.history.put c.source h } }
    ((t.addReg 0x4830 2 1).deliverCell c wire pathPs, marked)

/-- Whether a cell of a frame fails its CRC: its own, or one in a span whose link check failed (R207). -/
def Frame.badCell (f : Frame) (n : Nat) (c : Cell) : Bool := !c.crcGood || f.badSpans.contains ((0x1040 + 64 * n) / 256)

/-- A cell of a frame as it is sent on: the link check is right again, the cell's own CRC is not (R207). -/
def Frame.onward (f : Frame) (n : Nat) (c : Cell) : Cell := { c with crcGood := !badCell f n c }

/-- One cell slot of a passing frame: the state after it, and the cell left in the slot, if any. An own cell leaves when it
arrives by the port of its insertion; one that is not in flight any more leaves too. -/
def State.passCell (s : State) (f : Frame) (n : Nat) (c : Cell) : State × Option Cell :=
  let bad := Frame.badCell f n c
  if c.source = s.member then
    match s.trestle.flight.find? fun g => Flight.is g c with
    | none => (s, none)
    | some g =>
      if g.port = f.port then (s.cellReturned g (if bad then 0 else c.taken), none) else (s, some (Frame.onward f n c))
  else
    match s.targetIndex c with
    | some k =>
      if bad = false ∧ s.takesCell c = true then
        let r := s.takeCell c k f.wire (f.pathPs + 1000 * (s.port f.port.val).delayNs)
        (r.1, some r.2)
      else (s, some (Frame.onward f n c))
    | none => (s, some (Frame.onward f n c))

/-- Every cell of a passing frame in slot order. -/
def State.passCells (s : State) (f : Frame) : State × Map Cell :=
  f.cells.foldl (fun (a : State × Map Cell) (e : Nat × Cell) =>
    let r := a.1.passCell f e.1 e.2
    (r.1, match r.2 with | some c => a.2.put e.1 c | none => a.2)) (s, [])

/-! ### The roll call -/

/-- Whether a member newly shows PF_ALARM (R211). -/
def newAlarm (old : Map Nat) (e : Nat × Nat) : Bool :=
  decide (e.2 / 2 % 2 = 1) && !(match old.find? e.1 with | some w => w / 2 % 2 == 1 | none => false)

/-- A member's PF_ALARM is newly set: FLEET_ALARM and its bit in `alarm_map` (R211). -/
def State.fleetAlarm (s : State) (m : Nat) : State :=
  let map := s.reg 0x4821 0
  (s.setReg 0x4821 0 (if map / 2 ^ m % 2 = 1 then map else map + 2 ^ m)).note Code.fleetAlarm [m]

/-- After an absence of the anchor or of this member, the next QUERY of an IN_DOUBT part goes in the first beat in which both are
alive (R227). -/
def State.noteAbsences (s : State) : State :=
  { s with groups := { s.groups with slots := s.groups.slots.map fun e =>
      if e.2.state = .inDoubt ∧ !(s.ownAlive && s.alive (anchorOf e.2.txn)) then (e.1, { e.2 with queryBeat := 0 }) else e } }

/-- Receive a frame's roll call (R207, R210): words under a failed link check keep what was held. -/
def State.receiveRoll (s : State) (f : Frame) : State :=
  let good := f.roll.filter fun e => !f.badSpans.contains ((0x40 + 4 * e.1) / 256)
  let kept := s.trestle.roll.filter fun e => f.badSpans.contains ((0x40 + 4 * e.1) / 256)
  let roll := good.foldl (fun (m : Map Nat) e => m.put e.1 e.2) kept
  let alarms := (good.filter fun e => decide (e.1 ≠ s.member) && newAlarm s.trestle.roll e).map (·.1)
  (alarms.foldl State.fleetAlarm { s with trestle := { s.trestle with roll := roll, rollWire := f.wire } }).noteAbsences

/-- Whether another member has written this member's word in a frame that has not passed here before (R212); a word under a wrong
link check is ignored (R207). -/
def State.duplicated (s : State) (f : Frame) : Bool :=
  !s.trestle.frames.contains f.key && !f.badSpans.contains ((0x40 + 4 * s.member) / 256) &&
    (match f.roll.find? s.member with | some w => decide (w / 256 % 256 = f.wire.toNat % 256) | none => false)

/-- DUPLICATE_MEMBER (R212): both ports in FAULT until the next COLD or POWER-ON reset. -/
def State.duplicateMember (s : State) : State :=
  let s1 := (s.setPort 0 { s.port 0 with state := .fault }).setPort 1 { s.port 1 with state := .fault }
  { s1 with trestle := { s1.trestle with duplicate := true, issuing := false } }.faultOpen Code.duplicateMember true

/-- Ring position from the first ring A frame of a beat to arrive (Table 9.11). -/
def State.notePosition (s : State) (f : Frame) : State :=
  if f.ringB = false ∧ s.trestle.frames.contains f.key = false then s.setReg 0x4805 0 ((f.hops + 1) % 65536) else s

/-- How far the master's boundary lies from the own one by a frame (R216): its arrival less the path delay that its header
carries, to which the link it came by is added as the member adds it (DEDUCED, log entry 56), within half a beat. -/
def State.boundaryOffset (s : State) (f : Frame) : Int :=
  let d : Int := (f.arrivalNs : Int) - ((f.pathPs / 1000 + (s.port f.port.val).delayNs : Nat) : Int)
  (d + 5000) % 10000 - 5000

/-- The first arrival of a frame shows where the master's boundary lies (R216). -/
def State.noteOffset (s : State) (f : Frame) : State :=
  if s.trestle.frames.contains f.key ∨ s.trestle.issuing = true then s
  else { s with trestle := { s.trestle with offsetNs := s.boundaryOffset f } }

/-- What a frame tells of master, numbering and lap (R205, R213, R214, R217). A member that issues keeps itself as master
unless the frame's is lower, and goes on with its own numbering. -/
def State.noteFrame (s : State) (f : Frame) : State :=
  let own := s.trestle.issuing && !decide (f.master < s.member)
  let s1 := { s with trestle := { s.trestle with
    master := if own then s.trestle.master else some f.master, lastFrame := some s.clock.beat,
    lastWire := if own then s.trestle.lastWire else some (f.wire + BitVec.ofNat 32 (f.pathPs / 10000000)), passed := [],
    frames := (s.trestle.frames.drop (s.trestle.frames.length - 63)) ++ [f.key] } }
  ((s1.setReg 0x4807 0 (f.lapNs % 2 ^ 32)).setReg 0x4808 0 (max 1 (ceilDiv f.lapNs 10000) % 256))

/-- The port by which a frame leaves: the other one, or the one it came by where that is turned back or out of service
(R229). -/
def State.leavePort (s : State) (p : Fin 2) : Fin 2 :=
  let q : Fin 2 := if p = 0 then 1 else 0
  if s.inService q.val = true ∧ (s.port q.val).turned = false then q else p

/-- Free cell slots of a frame: not filled on arrival, so that a slot freed in this pass is not used (R219). -/
def freeSlots (cells : Map Cell) : List Nat := (List.range 188).filter fun n => (cells.find? n).isNone

/-- A frame in which this member takes part (R206 to R219): roll call received, own word written, cells handled, header
updated; it leaves cut-through. The own forwarding delay is a free number up to 40 ns. In SAVE nothing is inserted. -/
def State.joinFrame (s : State) (f : Frame) : State :=
  let s1 := (((s.notePosition f).receiveRoll f).noteOffset f).noteFrame f
  let r := s1.passCells f
  let i := if r.1.ctl.mode = .save then r else insertCells f.port (freeSlots f.cells) r
  let out := i.1.leavePort f.port
  let own := Config.free i.1.free % 40001
  i.1.drawn.emit (.frame { f with
    hops := f.hops + 1, pathPs := f.pathPs + 1000 * (i.1.port f.port.val).delayNs + own,
    wrapped := f.wrapped || decide (out = f.port), roll := f.roll.put i.1.member (i.1.ownWord f.wire), cells := i.2,
    badSpans := [], port := out })

/-- A frame forwarded untouched but for its link checks, which every member computes anew (R207). -/
def State.forwardFrame (s : State) (f : Frame) : State :=
  s.emit (.frame { f with port := s.leavePort f.port, badSpans := [],
                          cells := f.cells.map fun (e : Nat × Cell) => (e.1, Frame.onward f e.1 e.2) })

/-- A frame of another domain or generation than the own (R208). -/
def State.foreign (s : State) (f : Frame) : Bool :=
  !s.inDomain || f.domain != s.reg 0x4800 1 || f.generation != s.reg 0x4800 3

/-- A frame that ends its travel here: its header is right, and it is this member's own (R206, R208). -/
def State.ownFrame (s : State) (f : Frame) : Bool := f.crcGood && !s.foreign f && f.master == s.member

/-- A frame passes (R206 to R212); failed link checks are counted, and may fail its link (R229). -/
def State.framePass (s : State) (f : Frame) : State :=
  let s1 := s.frameStart f.port.val f.badSpans.length
  if f.crcGood = false then s1.forwardFrame f
  else if s.foreign f then (s1.addReg 0x4830 6 1).forwardFrame f
  else if s.duplicated f then s1.duplicateMember
  else s1.joinFrame f

/-- A frame returns to its master (R206, R210): its cells are handled and its roll call and cells go into the next frame
issued on its ring; the lap is measured. -/
def State.frameReturn (s : State) (f : Frame) (lapNs : Nat) : State :=
  let s1 := s.frameStart f.port.val f.badSpans.length
  let s2 := s1.receiveRoll f
  let r := s2.passCells f
  let t := { r.1 with trestle := { r.1.trestle with
    lastFrame := some s.clock.beat, passed := [],
    carryRoll := r.1.trestle.carryRoll.put f.ringB.toNat r.1.trestle.roll,
    carryCells := r.1.trestle.carryCells.put f.ringB.toNat r.2 } }
  (t.setReg 0x4807 0 (lapNs % 2 ^ 32)).setReg 0x4808 0 (max 1 (ceilDiv lapNs 10000) % 256)

/-- Issue one frame on a ring (R206, R210): the roll call and cells that returned, the own word, and waiting cells. The ring
comes back by TA or TB, or by the other one while that is out of service (R229), and its cells are inserted for that port. A slot
freed as the frame returned may be filled here, for the issue is another pass (DEDUCED, log entry 183). -/
def State.issueFrame (ringB : Bool) (s : State) : State :=
  let back : Fin 2 := if ringB then 1 else 0
  let other : Fin 2 := if ringB then 0 else 1
  let ring := ringB.toNat
  let roll := s.trestle.carryRoll.get ring s.trestle.roll
  let cells := s.trestle.carryCells.get ring []
  let wire := s.wireBeat
  let t := { s with trestle := { s.trestle with carryRoll := s.trestle.carryRoll.del ring,
                                                carryCells := s.trestle.carryCells.del ring } }
  let i := if t.ctl.mode = .save then (t, cells)
    else insertCells (if s.turnsAt back.val then other else back) (freeSlots cells) (t, cells)
  let out := i.1.leavePort back
  let isolated := !(i.1.inService 0 || i.1.inService 1)
  let word := i.1.ownWord wire
  if isolated then
    { i.1 with trestle := { i.1.trestle with roll := [(i.1.member, word)], rollWire := wire, lastFrame := some s.clock.beat } }
  else
    i.1.emit (.frame {
      domain := i.1.reg 0x4800 1, wire := wire, generation := i.1.reg 0x4800 3, master := i.1.member, ringB := ringB,
      takeover := (match i.1.trestle.takeoverBeat with | some b => decide (s.clock.beat < b + 16) | none => false),
      wrapped := decide (out = back), hops := 0, pathPs := 0, crcGood := true, roll := roll.put i.1.member word,
      badSpans := [], cells := i.2, port := out, lapNs := i.1.reg 0x4807 0, arrivalNs := 0 })

/-- FRAME_ISSUE: within each beat, by the master. A master that has met a lower-numbered one stops (R213). -/
def State.issueFrames (s : State) : State :=
  if s.trestle.issuing = false ∨ s.trestleRuns = false ∨ s.inDomain = false then s
  else match s.trestle.master with
    | some m =>
      if m < s.member then { s with trestle := { s.trestle with issuing := false } }.note Code.masterYielded
      else (s.issueFrame false).issueFrame true
    | none => (s.issueFrame false).issueFrame true

/-! ### Mastership -/

/-- Begin issuing at the next beat boundary (R214, R215); the master stands at position 0 of the ring (Table 9.11). -/
def State.becomeMaster (s : State) : State :=
  { s with trestle := { s.trestle with issuing := true, master := some s.member, passed := [] } }.setReg 0x4805 0 0

/-- The lowest-numbered candidate that has not been passed over, this member among them (R214). -/
def State.candidateMaster (s : State) (passed : List Nat) : Nat :=
  ((s.aliveList.filter fun m => !passed.contains m && decide (m < s.member)).head?).getD s.member

/-- MASTER_TAKEOVER (R214): 2 beats of silence beyond the next frame pass over the master, and 2 more each candidate. -/
def State.takeover (s : State) : State :=
  let absent := if s.trestle.passed = [] then s.trestle.master.getD s.member else s.candidateMaster s.trestle.passed
  let passed := s.trestle.passed ++ [absent]
  if s.candidateMaster passed = s.member then
    ({ s.becomeMaster with trestle := { s.becomeMaster.trestle with takeoverBeat := some (s.clock.beat + 1) } }).faultOpen
      Code.masterTakeover
  else { s with trestle := { s.trestle with passed := passed } }

/-- MASTER_TAKEOVER. -/
def execMasterTakeover (s : State) : Out :=
  .next (match s.trestle.lastFrame with
    | some b =>
      if s.trestleRuns = true ∧ s.inDomain = true ∧ s.trestle.issuing = false ∧
          3 + 2 * s.trestle.passed.length ≤ s.clock.beat - b then s.fresh.takeover else s.idle
    | none => s.idle)

/-- STARTUP_FRAME_TIMEOUT (R214): 16 beats in service without any frame. -/
def execStartupFrameTimeout (s : State) : Out :=
  .next (if s.trestleRuns = true ∧ s.inDomain = true ∧ s.trestle.issuing = false ∧ s.trestle.lastFrame = none ∧
      (s.inService 0 = true ∨ s.inService 1 = true) ∧ 16 ≤ s.clock.beat - s.trestle.startBeat
    then s.fresh.becomeMaster else s.idle)

/-! ### Fleet time and waking -/

/-- TIME_SYNC_SEND (R222): every 100,000 beats, and after a change of the wall time. -/
def execTimeSyncSend (s : State) : Out :=
  let due : Bool := match s.trestle.sync with | none => true | some b => decide (100000 ≤ s.clock.beat - b)
  .next (if s.trestle.issuing = true ∧ s.trestleRuns = true ∧ due = true then
      let t := s.fresh.queueCell none (.timeSync s.wireBeat s.clock.wallNs s.clock.wallSet)
      { t with trestle := { t.trestle with sync := some s.clock.beat } }
    else s.idle)

/-- TIME_SYNC_RECEIVED (R234). -/
def execTimeSyncReceived (source : Nat) (_wire : BitVec 32) (wallNs : Int) (set : Bool) (delayNs : Nat) (s : State) : Out :=
  .next (if s.ownAlive = true ∧ source ≠ s.member ∧ source < 1024 then s.fresh.followTime set wallNs delayNs else s.idle)

/-- WAKE_CELL_RECEIVED (R219, R233, Table 13.3). -/
def execWakeCellReceived (source _reason : Nat) (s : State) : Out :=
  .next (if (s.ownAlive = true ∨ (s.ctl.mode = .drowse ∧ s.trestle.duplicate = false)) ∧ source < 1024 then s.fresh.takeWake else s.idle)

/-! ### Starts (R220) -/

/-- A COLD or POWER-ON reset: `start_count` rises, the cell sequence restarts, and nothing of the ring is known. -/
def State.trestleStart (s : State) : State :=
  { s with trestle := { Trestle.reset with tunnels := s.trestle.tunnels },
           clock := { s.clock with adopted := false } }.addReg 0x4800 4 1

/-- BRING-UP from DORMANT: `start_count` rises and the cell sequence restarts; what was received since the last COLD or POWER-ON
reset stands, and a duplicate stays one (R212, R214, R215, R220). -/
def State.trestleRestart (s : State) : State :=
  { s with trestle := { s.trestle with wait := [], flight := [], retries := [], nextSeq := 0, passed := [], sync := none,
                                       lastWire := none, takeoverBeat := none, offsetNs := 0 },
           clock := { s.clock with adopted := false } }.addReg 0x4800 4 1

/-- The Trestle stops in DORMANT (R233): both ports idle, but those of a duplicate, which stay in FAULT (R212). -/
def State.trestleStop (s : State) : State :=
  { s with trestle := { s.trestle with ports := if s.trestle.duplicate then s.trestle.ports else [], issuing := false,
                                       flight := [], carryRoll := [], carryCells := [], passed := [], frames := [],
                                       partials := [], arrived := [], loaded := false } }

end Sys2Proof.Machine
end

