-- ==== Sys2Proof/Machine/Eflash.lean ====
section
/-! DEFINITION. Embedded flash (chapter 17): the commands of a bank's sequencer, reads of its aperture, the erase journal,
brown-out, the refresh scrub and read-out protection. -/

namespace Sys2Proof.Machine

/-! ### Banks -/

/-- Change a bank. -/
def State.setBank (s : State) (b : Nat) (x : Bank) : State :=
  { s with eflash := { s.eflash with banks := s.eflash.banks.put b x } }

/-- Change an image slot. -/
def State.setSlotOf (s : State) (b : Nat) (x : ImageSlot) : State :=
  { s with security := { s.security with slots := s.security.slots.put b x } }

/-- Sticky bits of the status word (Table 17.4). -/
def stProgramErr : BitVec 32 := 0x10
/-- ERASE_ERR. -/
def stEraseErr : BitVec 32 := 0x20
/-- VERIFY_FAIL. -/
def stVerifyFail : BitVec 32 := 0x40
/-- SUSPEND_REFUSED. -/
def stSuspendRefused : BitVec 32 := 0x80
/-- SEQ_ERR. -/
def stSeqErr : BitVec 32 := 0x100
/-- PROTECTED. -/
def stProtected : BitVec 32 := 0x200
/-- BROWNOUT_BLOCKED. -/
def stBrownout : BitVec 32 := 0x400
/-- ECC_CORRECTED. -/
def stEccCorrected : BitVec 32 := 0x800
/-- ECC_UE. -/
def stEccUe : BitVec 32 := 0x1000

/-- Set sticky bits of a bank. -/
def State.stick (s : State) (b : Nat) (bits : BitVec 32) : State :=
  s.setBank b { s.bank b with sticky := (s.bank b).sticky ||| bits }

/-- Whether a bank is idle: nothing runs and nothing is suspended. -/
def Bank.idle (x : Bank) : Bool := x.op.isNone && x.suspended.isNone

/-- Whether an erase is suspended and nothing runs. -/
def Bank.eraseHeld (x : Bank) : Bool :=
  x.op.isNone && (match x.suspended with | some o => o.isErase | none => false)

/-- Sectors that PROGRAM and SECTOR_ERASE from the aperture may not touch: the active bank's image slot, information rows 0,
3 and 4 (R406), and row 7, which is not writable (Table 17.1). -/
def State.protectedSector (s : State) (b sector : Nat) : Bool :=
  (s.bankActive b && decide (sector < 0x680)) || sector == 0x800 || sector == 0x803 || sector == 0x804 || sector == 0x807

/-- Units of a sector: 128 of 32 B. -/
def sectorUnits (sector : Nat) : List Nat := (List.range 128).map fun i => sector * 128 + i

/-- Detail word of an EFLASH fault code: bank in bit 0, sector in [12:1]. -/
def flashDetail (b sector : Nat) : Nat := b + 2 * sector

/-- Block a command for a brown-out, and count it (R415). -/
def State.brownoutBlock (s : State) (b : Nat) : State := (s.stick b stBrownout).addReg 0x8031 0 1

/-! ### The erase journal (R413) -/

/-- Add an entry; a row without room for two more is left for the other row with its open entries. -/
def Bank.journalAdd (x : Bank) (kind sector : Nat) (opened : Bool) (seq : Nat) : Bank :=
  let y := if 128 < 1 + x.journal.length + 2 then
      { x with journal := x.journal.filter (·.opened), journalRow := 3 - x.journalRow, nextJournal := x.nextJournal + 1 }
    else x
  { y with journal := y.journal ++ [{ kind := kind, sector := sector, seq := seq, opened := opened }] }

/-- OPEN entry of an erase. -/
def Bank.journalOpen (x : Bank) (kind sector : Nat) : Bank :=
  { x.journalAdd kind sector true x.nextJournal with nextJournal := (x.journalAdd kind sector true x.nextJournal).nextJournal + 1 }

/-- CLOSE entries for the open entries of a kind and sector. -/
def Bank.journalClose (x : Bank) (kind sector : Nat) : Bank :=
  let mine := x.journal.filter fun e => e.opened && e.kind == kind && e.sector == sector
  let y := { x with journal := x.journal.map fun e =>
    if e.opened && e.kind == kind && e.sector == sector then { e with opened := false } else e }
  mine.foldl (fun z e => z.journalAdd 0x80 sector false e.seq) y

/-- Sector of a journal entry for BANK and LOWER. -/
def allSectors : Nat := 0xFFFFFFFF

/-- Kind and sector of an operation's journal entry. -/
def FlashOp.entry : FlashOp → Option (Nat × Nat)
  | .program _ => none
  | .erase s => some (1, s)
  | .bankErase => some (3, allSectors)

/-! ### Wear (R409) -/

/-- Sectors of a region that are not worn. -/
def Bank.usable (x : Bank) (lo n : Nat) : Nat := n - (x.worn.filter fun w => decide (lo ≤ w) && decide (w < lo + n)).length

/-- A sector of a rotating region reaches its endurance. -/
def State.wornCheck (s : State) (b sector : Nat) : State :=
  let x := s.bank b
  if 0x680 ≤ sector ∧ sector < 0x800 ∧ 100000 ≤ x.cycles.get sector 0 ∧ x.worn.contains sector = false then
    let s1 := ((s.setBank b { x with worn := x.worn ++ [sector] }).addReg (0x8000 + b) 7 1).fault Code.sectorWorn
      (flashDetail b sector)
    let lo := if sector < 0x780 then 0 else if sector < 0x7C0 then 0x780 else 0x7C0
    if lo ≠ 0 ∧ (s1.bank b).usable lo 64 < 16 then s1.fault Code.regionWorn (flashDetail b sector) else s1
  else s

/-- The Chest records that began in an erased sector of the spool (Table 17.1) are gone. -/
def State.spoolErased (s : State) (b sector : Nat) : State :=
  if 0x680 ≤ sector ∧ sector < 0x780 then
    { s with chest := { s.chest with eflash := s.chest.eflash.filter fun e => e.1 != 256 * b + (sector - 0x680) } }
  else s

/-- An erase of one sector has been done: counted, and its units are erased when it verified. -/
def State.sectorErased (s : State) (b sector : Nat) : State :=
  let x := s.bank b
  let units := x.units.filter fun e => e.1 / 128 != sector
  let s1 := (s.spoolErased b sector).setBank b { x with units := units, cycles := x.cycles.upd sector 0 (· + 1) }
  ((s1.maxReg (0x8000 + b) 6 ((s1.bank b).cycles.get sector 0)).addReg (0x8000 + b) 4 1).wornCheck b sector

/-- Every sector of the main array is erased. -/
def State.mainErased (s : State) (b : Nat) : State := (List.range 2048).foldl (fun t k => t.sectorErased b k) s

/-- Units of a sector hold neither their old content nor an erased state: free values (R414). -/
def State.scramble (s : State) (b : Nat) (units : List Nat) : State :=
  let x := s.bank b
  let y := (List.range units.length).zip units
  { s.setBank b { x with units := y.foldl (fun (m : Map (BitVec 256)) e =>
      m.put e.2 (BitVec.ofNat 256 (Config.free (s.free + e.1)))) x.units } with free := s.free + units.length }

/-- Programmed units of the main array, and those of a sector: what an operation cut short may spoil. -/
def Bank.spoilt (x : Bank) : FlashOp → List Nat
  | .program us => us.map (·.1)
  | .erase sec => (x.units.filter fun e => e.1 / 128 == sec).map (·.1)
  | .bankErase => (x.units.filter fun e => decide (e.1 < 262144)).map (·.1)

/-! ### Commands (Table 17.2) -/

/-- An unlock begins: sticky bits clear (R412), and an open sequence is discarded. -/
def State.unlocked (s : State) (b : Nat) : State := s.setBank b { s.bank b with sticky := 0, sequence := .none }

/-- SEQ_ERR. -/
def State.seqErr (s : State) (b : Nat) : State := s.stick b stSeqErr

/-- Open a sequence of a bank. -/
def State.openSequence (s : State) (b : Nat) (q : FlashSeq) : State := s.setBank b { s.bank b with sequence := q }

/-- Unit of a store. -/
def unitAt (offset : Nat) : Nat := offset / 32

/-- Units that stores name. -/
def storeUnits (stores : Map (BitVec 64)) : List Nat := (stores.map fun e => unitAt e.1).eraseDups

/-- Whether stores lie in one program page and cover whole units. -/
def storesGood (stores : Map (BitVec 64)) : Bool :=
  match stores with
  | [] => false
  | (a, _) :: _ =>
    stores.all (fun e => e.1 % 8 == 0 && e.1 / 512 == a / 512) &&
      (storeUnits stores).all fun u => (List.range 4).all fun i => (stores.find? (32 * u + 8 * i)).isSome

/-- The 32 B of a unit from its stores. -/
def unitData (stores : Map (BitVec 64)) (u : Nat) : BitVec 256 :=
  (List.range 4).foldl (fun d i => d ||| ((stores.get (32 * u + 8 * i) 0).zeroExtend 256 <<< (64 * i))) 0

/-- The sector that a suspended operation holds. -/
def Bank.heldSector (x : Bank) (sector : Nat) : Bool :=
  match x.suspended with
  | some (.erase k) => k == sector
  | some .bankErase => decide (sector < 2048)
  | _ => false

/-- Start a program (Table 17.2): its stores are checked, then protection, then that no unit is programmed twice. -/
def State.startProgram (s : State) (b : Nat) (stores : Map (BitVec 64)) : State :=
  let t := s.openSequence b .none
  let x := t.bank b
  let us := storeUnits stores
  let sector := (us.head?).getD 0 / 128
  if storesGood stores = false ∨ (x.idle = false ∧ x.eraseHeld = false) ∨ x.heldSector sector = true then t.seqErr b
  else if s.protectedSector b sector then t.stick b stProtected
  else if s.eflash.brownout then t.brownoutBlock b
  else if us.any fun u => (x.units.find? u).isSome then t.stick b stProgramErr
  else t.setBank b { x with op := some (.program (us.foldl (fun (m : Map (BitVec 256)) u => m.put u (unitData stores u)) [])),
                            nested := x.suspended.isSome, lastSector := sector }

/-- PROGRAM: the unlock and command byte open it, the start byte runs it. -/
def State.eflashProgram (s : State) (b : Nat) (start : Bool) : State :=
  if start then
    match (s.bank b).sequence with
    | .loading stores => s.startProgram b stores
    | _ => (s.openSequence b .none).seqErr b
  else
    let t := s.unlocked b
    if (t.bank b).idle = false ∧ (t.bank b).eraseHeld = false then t.seqErr b
    else if s.eflash.brownout then t.brownoutBlock b
    else t.openSequence b (.loading [])

/-- EFLASH_PROGRAM. -/
def execEflashProgram (bank : Fin 2) (start : Bool) (s : State) : Out := .next (s.fresh.eflashProgram bank.val start)

/-- EFLASH_SECTOR_ERASE: the unlock and command byte; the address follows. -/
def State.eflashErase (s : State) (b : Nat) : State :=
  let t := s.unlocked b
  if (t.bank b).idle = false then t.seqErr b
  else if s.eflash.brownout then t.brownoutBlock b
  else t.openSequence b .eraseAddress

/-- EFLASH_SECTOR_ERASE. -/
def execEflashSectorErase (bank : Fin 2) (s : State) : Out := .next (s.fresh.eflashErase bank.val)

/-- Start the erase of a sector: journalled first (R413). -/
def State.startErase (s : State) (b sector : Nat) : State :=
  let t := s.openSequence b .none
  let x := t.bank b
  if x.idle = false then t.seqErr b
  else if s.protectedSector b sector then t.stick b stProtected
  else if s.eflash.brownout then t.brownoutBlock b
  else t.setBank b { x.journalOpen 1 sector with op := some (.erase sector), nested := false, lastSector := sector }

/-- EFLASH_BANK_ERASE: the second unlock confirms. The sector field has no one sector: a free number. -/
def State.eflashBankErase (s : State) (b : Nat) : State :=
  let second := decide ((s.bank b).sequence = .bankConfirm)
  let t := s.unlocked b
  let x := t.bank b
  if s.bankActive b then t.stick b stProtected
  else if x.idle = false then t.seqErr b
  else if s.eflash.brownout then t.brownoutBlock b
  else if second then
    t.drawn.setBank b { x.journalOpen 3 allSectors with op := some .bankErase, nested := false,
                                                        lastSector := Config.free t.free % 4096 }
  else t.openSequence b .bankConfirm

/-- EFLASH_BANK_ERASE. -/
def execEflashBankErase (bank : Fin 2) (s : State) : Out := .next (s.fresh.eflashBankErase bank.val)

/-- SUSPEND (R410). -/
def State.eflashSuspend (s : State) (b : Nat) : State :=
  let x := s.bank b
  match x.op with
  | some op =>
    if x.nested then (s.stick b stSuspendRefused).addReg 0x8032 0 1
    else s.setBank b { x with op := none, suspended := some op }
  | none => (s.stick b stSuspendRefused).addReg 0x8032 0 1

/-- EFLASH_SUSPEND. -/
def execEflashSuspend (bank : Fin 2) (s : State) : Out := .next (s.fresh.eflashSuspend bank.val)

/-- Sector of an operation, for the status word. -/
def FlashOp.sector (last : Nat) : FlashOp → Nat
  | .program us => ((us.head?).map fun e => e.1 / 128).getD last
  | .erase k => k
  | .bankErase => last

/-- RESUME (R410). -/
def State.eflashResume (s : State) (b : Nat) : State :=
  let x := s.bank b
  match x.suspended with
  | some op =>
    if x.op.isSome then s.seqErr b
    else if s.eflash.brownout then s.brownoutBlock b
    else s.setBank b { x with op := some op, suspended := none, nested := false, lastSector := op.sector x.lastSector }
  | none => s.seqErr b

/-- EFLASH_RESUME. -/
def execEflashResume (bank : Fin 2) (s : State) : Out := .next (s.fresh.eflashResume bank.val)

/-- MARGIN_READ: mode 1 PROGRAM_VERIFY or 2 ERASE_VERIFY. -/
def State.eflashMargin (s : State) (b mode : Nat) : State :=
  let t := s.unlocked b
  let x := t.bank b
  if (mode ≠ 1 ∧ mode ≠ 2) ∨ (x.idle = false ∧ x.eraseHeld = false) then t.seqErr b
  else t.setBank b { x with margin := mode }

/-- EFLASH_MARGIN_READ. -/
def execEflashMarginRead (bank : Fin 2) (mode : Nat) (s : State) : Out := .next (s.fresh.eflashMargin bank.val mode)

/-- EFLASH_READ_STATUS. -/
def execEflashReadStatus (bank : Fin 2) (s : State) : Out :=
  .next (s.fresh.setBank bank.val { s.bank bank.val with statusMode := true })

/-- EFLASH_EXIT. -/
def execEflashExit (bank : Fin 2) (s : State) : Out :=
  .next (s.fresh.setBank bank.val { s.bank bank.val with statusMode := false, margin := 0, sequence := .none })

/-- A 64-bit store (R404): program data, the erase address, or out of a sequence. -/
def State.eflashStore (s : State) (b offset : Nat) (data : BitVec 64) : State :=
  match (s.bank b).sequence with
  | .loading stores => s.openSequence b (.loading (stores.put offset data))
  | .eraseAddress =>
    if data = 0 then s.startErase b (offset / 4096) else (s.openSequence b .none).seqErr b
  | _ => (s.openSequence b .none).seqErr b

/-- EFLASH_DATA_WRITE within the bank's aperture. -/
def execEflashDataWrite (bank : Fin 2) (offset : Nat) (data : BitVec 64) (s : State) : Out :=
  .next (if offset < 0x808000 then s.fresh.eflashStore bank.val offset data else s.idle)

/-- EFLASH_BAD_STORE (R404): SEQ_ERR, and nothing changes. -/
def execEflashBadStore (bank : Fin 2) (s : State) : Out := .next (s.fresh.seqErr bank.val)

/-- EFLASH_UNLOCK_TIMEOUT (R405): the unlock had begun, and is discarded. -/
def execEflashUnlockTimeout (bank : Fin 2) (s : State) : Out := .next ((s.fresh.unlocked bank.val).seqErr bank.val)

/-! ### Reads (Table 17.5) -/

/-- A 32 B journal entry (Table 17.6). -/
def journalImage (kind sector seq : Nat) : BitVec 256 :=
  let body := kind + 2 ^ 32 * sector + 2 ^ 64 * seq
  BitVec.ofNat 256 (body + 2 ^ 224 * crc32c (bytesOf 28 body))

/-- Content of a unit: what was programmed; the journal row in use; the read-out protection word; in the areas that the
W9620 fills itself and whose layout is not given, a free value; else erased, all ones (log entry 20). -/
def State.unitContent (s : State) (b u : Nat) : BitVec 256 :=
  let x := s.bank b
  let sector := u / 128
  match x.units.find? u with
  | some d => d
  | none =>
    if sector = 0x800 + x.journalRow then
      if u % 128 = 0 then journalImage 0xA5 (0x800 + x.journalRow) x.nextJournal
      else match x.journal[u % 128 - 1]? with
        | some e => journalImage e.kind e.sector e.seq
        | none => BitVec.allOnes 256
    else if sector = 0x804 ∧ u % 128 = 0 ∧ s.eflash.rdpLevel ≠ 0 then
      (BitVec.allOnes 256 <<< 32) ||| (if s.eflash.rdpLevel = 1 then 0x5A5AA5A5 else 0)
    else if (0x680 ≤ sector ∧ sector < 0x800) ∨ sector = 0x800 ∨ sector = 0x803 ∨ sector = 0x805 then
      BitVec.ofNat 256 (Config.free s.free)
    else BitVec.allOnes 256

/-- The 64 bits at an offset. -/
def State.flashWord (s : State) (b offset : Nat) : BitVec 64 :=
  (s.unitContent b (offset / 32)).extractLsb' (64 * (offset / 8 % 4)) 64

/-- Whether an offset lies where a suspended operation blocks reads. -/
def Bank.blocked (x : Bank) (offset : Nat) : Option Nat :=
  match x.suspended with
  | some (.program us) => if us.any fun e => e.1 / 16 == offset / 512 then some 3 else none
  | some _ => if x.heldSector (offset / 4096) then some 2 else none
  | none => none

/-- A read of a bank's aperture. `corrected` and `uncorrectable` say what the ECC finds, and in margin mode whether the read
differs from the corrected value. -/
def State.eflashRead (s : State) (b offset : Nat) (debug corrected uncorrectable : Bool) : State :=
  let x := s.bank b
  if debug ∧ s.eflash.rdpLevel ≠ 0 then s.emit (.busFault 5)
  else if x.statusMode then s.emit (.busData b (x.status.zeroExtend 64))
  else if x.op.isSome then s.emit (.busFault 1)
  else match x.blocked offset with
    | some k => s.emit (.busFault k)
    | none =>
      if x.margin ≠ 0 then
        if corrected ∨ uncorrectable then
          (s.drawn.stick b stVerifyFail).emit (.busData b (BitVec.ofNat 64 (Config.free s.free)))
        else s.drawn.emit (.busData b (s.flashWord b offset))
      else if uncorrectable then
        ((s.stick b stEccUe).fault Code.eccUe (flashDetail b (offset / 4096))).emit (.busFault 4)
      else
        let t := if corrected then (s.stick b stEccCorrected).addReg (0x8000 + b) 5 1 else s
        t.drawn.emit (.busData b (t.flashWord b offset))

/-- EFLASH_READ. -/
def execEflashRead (bank : Fin 2) (offset : Nat) (debug corrected uncorrectable : Bool) (s : State) : Out :=
  .next (if offset < 0x808000 then s.fresh.eflashRead bank.val offset debug corrected uncorrectable else s.idle)

/-! ### Completion (R408) -/

/-- An operation ends; its erase is closed in the journal. -/
def Bank.ended (x : Bank) (op : FlashOp) : Bank :=
  let y := { x with op := none, nested := false }
  match op.entry with
  | some (k, sec) => y.journalClose k sec
  | none => y

/-- A running operation verifies, or fails after its pulses. -/
def State.flashDone (s : State) (b : Nat) (op : FlashOp) (passed : Bool) : State :=
  let x := s.bank b
  let t := s.setBank b (x.ended op)
  match op with
  | .program us =>
    if passed then
      let y := t.bank b
      (t.setBank b { y with units := us.foldl (fun (m : Map (BitVec 256)) e => m.put e.1 e.2) y.units }).addReg (0x8000 + b) 3 1
    else ((t.scramble b (us.map (·.1))).stick b (stVerifyFail ||| stProgramErr)).fault Code.programFailed
      (flashDetail b (op.sector x.lastSector))
  | .erase k =>
    if passed then t.sectorErased b k
    else ((t.scramble b (x.spoilt op)).stick b (stVerifyFail ||| stEraseErr)).fault Code.eraseFailed (flashDetail b k)
  | .bankErase =>
    if passed then t.mainErased b
    else ((t.scramble b (x.spoilt op)).stick b (stVerifyFail ||| stEraseErr)).fault Code.eraseFailed
      (flashDetail b (x.lastSector % 4096))

/-- EFLASH_OPERATION_COMPLETE. -/
def execEflashOperationComplete (bank : Fin 2) (passed : Bool) (s : State) : Out :=
  .next (match (s.bank bank.val).op with
    | some op => s.fresh.flashDone bank.val op passed
    | none => s.idle)

/-! ### Brown-out (R415) -/

/-- The running operation of a bank ends; its erase stays OPEN in the journal. -/
def State.brownoutBank (s : State) (b : Nat) : State :=
  let x := s.bank b
  match x.op with
  | none => s
  | some op =>
    let t := (s.setBank b { x with op := none, nested := false }).scramble b (x.spoilt op)
    ((t.brownoutBlock b).stick b (if op.isErase then stEraseErr else stProgramErr)).fault Code.brownoutAbort
      (flashDetail b (op.sector x.lastSector))

/-- EFLASH_BROWNOUT. -/
def execEflashBrownout (s : State) : Out :=
  .next (if s.eflash.brownout then s.idle else
    let t := { s.fresh with eflash := { s.eflash with brownout := true } }
    (t.brownoutBank 0).brownoutBank 1)

/-- BROWNOUT_RECOVER: 100 µs above the threshold. -/
def execBrownoutRecover (s : State) : Out :=
  .next (if s.eflash.brownout then { s.fresh with eflash := { s.eflash with brownout := false } } else s.idle)

/-! ### Start (R414) -/

/-- An open entry is completed: its sector, or the whole bank, is erased; a slot whose sector was erased is EMPTY. A REFRESH
restores the sector from the buffer, so its content stands. -/
def State.reopen (s : State) (b : Nat) (e : EraseEntry) : State :=
  let x := s.bank b
  let t := s.setBank b (x.journalClose e.kind e.sector)
  let u :=
    if e.kind = 1 then
      let t1 := (t.sectorErased b e.sector).setBank b { (t.sectorErased b e.sector).bank b with lastSector := e.sector }
      if e.sector < 0x680 then t1.setSlotOf b { s.slotOf b with state := 0, fwVersion := 0 } else t1
    else if e.kind = 3 then (t.mainErased b).setSlotOf b { s.slotOf b with state := 0, fwVersion := 0 }
    else t
  (u.addReg 0x8030 0 1).note Code.eraseReopened [b, e.sector]

/-- A bank at a start: what ran or was suspended is gone, and every open entry is completed. -/
def State.startBank (s : State) (b : Nat) : State :=
  let x := s.bank b
  let cut := match x.op with | some (.program us) => us.map (·.1) | _ => []
  let half := match x.suspended with | some (.program us) => us.map (·.1) | _ => []
  let t := (s.scramble b (cut ++ half)).setBank b
    { (s.scramble b (cut ++ half)).bank b with
      op := none, nested := false, suspended := none, sequence := .none, statusMode := false, margin := 0, sticky := 0 }
  ((t.bank b).journal.filter (·.opened)).foldl (fun u e => u.reopen b e) t

/-- Both banks at a start. -/
def State.flashStart (s : State) : State := (s.startBank 0).startBank 1

/-! ### Refresh scrub (R416, R417) -/

/-- Rewrite a sector: journalled as REFRESH, erased and programmed back. -/
def State.rewrite (s : State) (b sector : Nat) (uncorrectable : Bool) : State :=
  let x := (s.bank b).journalOpen 2 sector
  let s1 := s.setBank b ({ x with cycles := x.cycles.upd sector 0 (· + 1) }.journalClose 2 sector)
  let s2 := (((s1.maxReg (0x8000 + b) 6 ((s1.bank b).cycles.get sector 0)).addReg (0x8000 + b) 4 1).wornCheck b sector).addReg
    0x8022 0 1
  let s3 := s2.note Code.scrubRewrite [b, sector]
  if uncorrectable then (s3.stick b stEccUe).fault Code.eccUe (flashDetail b sector) else s3

/-- Whether the scrub engine may run on a sector. -/
def State.scrubRuns (s : State) (sector : Nat) : Bool :=
  (s.ctl.mode == .online || s.ctl.mode == .drowse) && decide (sector < 0x808) && !s.eflash.brownout

/-- SCRUB_SWEEP: one sector of a sweep that is due or runs; a failing one is rewritten. -/
def execScrubSweep (bank : Fin 2) (sector : Nat) (fails uncorrectable last : Bool) (s : State) : Out :=
  let due := s.reg 0x8021 0 = 1 ∨ 24 * s.reg 0x8020 1 ≤ s.reg 0x4040 2 - s.eflash.scrubAt
  .next (if s.scrubRuns sector = true ∧ s.reg 0x8021 0 ≠ 3 ∧ due then
      let t := if fails then s.fresh.rewrite bank.val sector uncorrectable else s.fresh
      let u := { t with eflash := { t.eflash with scrubAt := if s.reg 0x8021 0 = 1 then t.eflash.scrubAt else s.reg 0x4040 2 } }
      u.setReg 0x8021 0 (if last then 0 else 1)
    else s.idle)

/-- FULL_REFRESH: one sector of a full refresh that is due or runs. -/
def execFullRefresh (bank : Fin 2) (sector : Nat) (uncorrectable last : Bool) (s : State) : Out :=
  let due := s.reg 0x8021 0 = 3 ∨ 24 * s.reg 0x8020 2 ≤ s.reg 0x4040 2 - s.reg 0x8023 0
  .next (if s.scrubRuns sector = true ∧ s.reg 0x8021 0 ≠ 1 ∧ due then
      let t := s.fresh.rewrite bank.val sector uncorrectable
      if last then (t.setReg 0x8021 0 0).setReg 0x8023 0 (s.reg 0x4040 2) else t.setReg 0x8021 0 3
    else s.idle)

/-! ### Read-out protection (R419, R420) -/

/-- Raise the level; level 2 blows the fuse. -/
def State.rdpRaise (s : State) (level : Nat) : State :=
  { s with eflash := { s.eflash with rdpLevel := level, rdpFuse := s.eflash.rdpFuse || level == 2 } }

/-- Whether a lowering is refused with LOCKED: no current arm, level 2, where Sanitize is refused, a suspended operation, or
an update under way (R420, R437). -/
def State.lowerLocked (s : State) : Bool :=
  (match s.eflash.lowerArm with | some b => decide (b + 1000 < s.clock.beat) | none => true) || s.eflash.rdpLevel == 2 ||
    s.sanitizeBusy || (s.bank 0).suspended.isSome || (s.bank 1).suspended.isSome || s.security.updateState != 0

/-- Forget the stored values of a keeping class: they read their Defaults. -/
def State.dropClass (s : State) (k : Keeping) : State :=
  { s with regs := s.regs.filter fun e => match rowOf (e.1 / 256 % 65536) (e.1 % 256) with
    | some r => r.keep != k
    | none => true }

/-- The erases of a lowering: data as Sanitize clears it, the media key, both banks with their rows
and the P and D values in them, and the level. -/
def State.rdpErase (s : State) : State :=
  let s1 := { s with ctl := { s.ctl with access := false } }.clearStore.emptyImage
  let s2 := { s1 with nand := { s1.nand with keyPresent := false },
                      eflash := { s1.eflash with banks := [(0, Bank.reset), (1, Bank.reset)], rdpLevel := 0, lowerArm := none },
                      chest := { s1.chest with eflash := [], spoolSector := 0, spoolUsed := 0 },
                      dram := { s1.dram with records := [], shared := [], evicted := [] },
                      security := { s1.security with slots := [] } }
  ((s2.dropClass .p).dropClass .d).setReg 0x2400 3 1

end Sys2Proof.Machine
end

