-- ==== Sys2Proof/Machine/Firmware.lean ====
section
/-! DEFINITION. Images and their verification, the service port and the update flow, and the boot ROM's choice of a slot
(R423 to R439). -/

namespace Sys2Proof.Machine

/-! ### Image bytes (Tables 18.1 to 18.3) -/

/-- Byte `i` of the image in a bank; an erased unit reads all ones. -/
def imgByte (units : Map (BitVec 256)) (i : Nat) : Nat :=
  ((units.get (i / 32) (BitVec.allOnes 256)).extractLsb' (8 * (i % 32)) 8).toNat

/-- `n` bytes at an offset, as a number. -/
def imgNum (units : Map (BitVec 256)) (off n : Nat) : Nat :=
  (List.range n).foldl (fun a i => a + imgByte units (off + i) * 256 ^ i) 0

/-- `n` bytes at an offset. -/
def imgBytes (units : Map (BitVec 256)) (off n : Nat) : List Byte :=
  (List.range n).map fun i => BitVec.ofNat 8 (imgByte units (off + i))

/-- Largest image: an image slot (R423). -/
def imageMax : Nat := 6815744

/-- Units of the image slot of a bank. -/
def State.imageUnits (s : State) (b : Nat) : Map (BitVec 256) := (s.bank b).units.filter fun e => decide (e.1 < 212992)

/-- A component table entry: type, instance, offset, length and hash (Table 18.3). -/
structure Component where
  type : Nat
  inst : Nat
  offset : Nat
  length : Nat
  hash : Nat
  deriving DecidableEq, Repr

/-- The components that a header counts. -/
def components (us : Map (BitVec 256)) : List Component :=
  (List.range (min 32 (imgNum us 58 2))).map fun j =>
    let a := 0x300 + 64 * j
    { type := imgByte us a, inst := imgByte us (a + 1), offset := imgNum us (a + 4) 4, length := imgNum us (a + 8) 4,
      hash := imgNum us (a + 32) 32 }

/-- Whether a component is one of Table 18.4. -/
def Component.listed (c : Component) : Bool :=
  match c.type with
  | 1 | 5 | 8 => c.inst == 0
  | 2 => decide (1 ≤ c.inst) && decide (c.inst ≤ 3)
  | 3 | 4 | 6 => c.inst == 0xFF
  | 7 => decide (c.inst ≤ 15)
  | _ => false

/-- Components that every image holds, by type and instance. -/
def requiredParts : List (Nat × Nat) := [(1, 0), (2, 1), (2, 2), (2, 3), (3, 0xFF), (4, 0xFF), (5, 0), (6, 0xFF), (8, 0)]

/-- Whether the component table is right (R424). -/
def componentsGood (us : Map (BitVec 256)) (length : Nat) : Bool :=
  let cs := components us
  decide (10 ≤ imgNum us 58 2) && decide (imgNum us 58 2 ≤ 32) &&
    cs.all (fun c => c.listed && c.offset % 256 == 0 && decide (0xB00 ≤ c.offset) && decide (c.offset + c.length + 384 ≤ length)) &&
    decide (cs.map (fun c => (c.type, c.inst))).Nodup &&
    (requiredParts.all fun r => cs.any fun c => c.type == r.1 && c.inst == r.2) && (cs.any fun c => c.type == 7) &&
    (List.range cs.length).all (fun i => (List.range i).all fun j =>
      match cs[i]?, cs[j]? with
      | some x, some y => decide (x.offset + x.length ≤ y.offset) || decide (y.offset + y.length ≤ x.offset)
      | _, _ => true) &&
    cs.all fun c => Config.sha256 (imgBytes us c.offset c.length) == c.hash

/-- Whether the reserved bits of the header are 0 (Table 18.2). -/
def headerReserved (us : Map (BitVec 256)) : Bool :=
  decide (imgNum us 12 4 < 4) && decide (imgByte us 68 < 4) && imgNum us 69 3 == 0 && imgNum us 80 176 == 0

/-- What verification finds (Table 18.6), in order; `staging` adds the check of the NAND profile. -/
def State.verify (s : State) (b : Nat) (staging : Bool) : Nat :=
  let us := s.imageUnits b
  let length := imgNum us 64 4
  let slot := imgByte us 68 % 4
  let key := s.reg (0x8404 + slot) 0
  if imgNum us 0 4 ≠ 0x48534F56 ∨ imgNum us 4 2 ≠ 1 ∨ imgNum us 6 2 ≠ 256 ∨ length < 0xB00 + 384 ∨ imageMax < length then 1
  else if Config.sha256 (imgBytes us 0x100 388) ≠ key ∨ imgNum us 0x280 4 ≠ 65537 then 2
  else if s.security.revoked.getLsbD slot then 3
  else if Config.rsaVerify (imgBytes us 0x100 384) 65537 (imgBytes us 0 (length - 384)) (imgBytes us (length - 384) 384) = false
    then 4
  else if imgNum us 8 4 ≠ s.reg 0x1000 4 then 5
  else if imgByte us 12 % 2 = 1 ∧
      imgNum us 16 32 ≠ Config.sha256 ((bytesOf 32 (s.reg 0x1001 0)).map (BitVec.ofNat 8)) then 6
  else if imgNum us 48 4 < s.security.arbCounter then 7
  else if headerReserved us = false ∨ componentsGood us length = false then 8
  else if staging ∧ ((components us).any fun c => c.type == 7 && c.inst == s.reg 0x5001 0) = false then 9
  else 0

/-- Detail word of a SECURITY fault code: bank in bit 0, result in [11:8]. -/
def securityDetail (b result : Nat) : Nat := b + 256 * result

/-- A failed verification is recorded (R426). -/
def State.rejectImage (s : State) (b result : Nat) : State :=
  (s.setSlotOf b { s.slotOf b with result := result }).fault Code.imageRejected (securityDetail b result)

/-! ### The service port -/

/-- Send a response and keep it (R436). -/
def State.svcAnswer (s : State) (seq type status : Nat) (payload : List Nat) : State :=
  let o := Output.svc (type + 0x80) seq status payload
  { s.emit o with security := { s.security with lastSeq := some seq, lastResponse := [o] } }

/-- A frame with a correct CRC arrives: a rate in trial stands (R434); the sequence of the request executed last gets the stored
response again (R436). -/
def State.svc (s : State) (seq : Nat) (f : State → State) : Out :=
  let t := { s.fresh with security := { s.security with svcNext := none } }
  .next (if s.security.lastSeq = some (seq % 256) then t.emits s.security.lastResponse else f t)

/-- SVC_HELLO: the mode, or 0xFF in recovery mode, with versions and states of both slots. -/
def execSvcHello (seq : Nat) (s : State) : Out :=
  s.svc seq fun t => t.svcAnswer (seq % 256) 1 0
    [if t.ctl.recovery then 0xFF else t.ctl.mode.code, (t.slotOf 0).fwVersion, (t.slotOf 1).fwVersion, (t.slotOf 0).state,
     (t.slotOf 1).state]

/-- SVC_SET_RATE (R434): answered at the old rate; the new rate waits for a good frame. The status for a code above 2 is not
stated: a free value. -/
def execSvcSetRate (seq code : Nat) (s : State) : Out :=
  s.svc seq fun t =>
    if code ≤ 2 then
      let u := (t.svcAnswer (seq % 256) 3 0 []).setReg 0x8420 0 code
      { u with security := { u.security with svcRate := code, svcNext := some (code, t.clock.beat) } }
    else t.drawn.svcAnswer (seq % 256) 3 (Config.free t.free % 256) []

/-- SVC_RATE_FALLBACK: no good frame at the new rate for 100,000 beats. -/
def execSvcRateFallback (s : State) : Out :=
  .next (match s.security.svcNext with
    | some (_, b) =>
      if 100000 ≤ s.clock.beat - b then
        { s.fresh.setReg 0x8420 0 0 with security := { s.security with svcRate := 0, svcNext := none } }
      else s.idle
    | none => s.idle)

/-- SVC_UNKNOWN_TYPE. -/
def execSvcUnknownType (seq type : Nat) (s : State) : Out :=
  s.svc seq fun t => t.svcAnswer (seq % 256) (type % 128) 10 []

/-- SVC_FRAME_BAD: dropped without a response and counted. -/
def execSvcFrameBad (s : State) : Out := .next (s.fresh.addReg 0x8421 0 1)

/-! ### The update flow (Table 18.11) -/

/-- The target slot: the one being written or staged, else the one that is not ACTIVE or TRIAL, the lower of two
(log entry 21). -/
def State.targetSlot (s : State) : Nat :=
  match ([0, 1] : List Nat).find? fun b => (s.slotOf b).state == 1 || (s.slotOf b).state == 2 with
  | some b => b
  | none => if s.bankActive 0 then 1 else 0

/-- Change the update state. -/
def State.setUpdate (s : State) (u : Nat) : State := { s with security := { s.security with updateState := u } }

/-- Begin writing the target slot: WRITING, and the sectors of the length are erased in ascending order. -/
def State.beginImage (s : State) (length : Nat) : State :=
  let b := s.targetSlot
  let t := s.setSlotOf b { s.slotOf b with state := 1, fwVersion := 0 }
  let u := (List.range (ceilDiv length 4096)).foldl (fun (u : State) k => u.sectorErased b k) t
  { u with security := { u.security with updateState := 1, updateLength := length, updateBytes := 0 } }

/-- IMAGE_BEGIN. -/
def execImageBegin (seq length : Nat) (s : State) : Out :=
  s.svc seq fun t =>
    let q := seq % 256
    if t.ctl.mode = .save then t.svcAnswer q 0x10 2 []
    else if t.security.updateState = 1 then t.svcAnswer q 0x10 1 []
    else if imageMax < length then t.svcAnswer q 0x10 6 []
    else if t.eflash.brownout then (t.brownoutBlock t.targetSlot).svcAnswer q 0x10 5 []
    else (t.beginImage length).svcAnswer q 0x10 0 []

/-- Program a run of image bytes. -/
def State.programImage (s : State) (offset : Nat) (data : List Byte) : State :=
  let b := s.targetSlot
  let x := s.bank b
  let word := fun (k : Nat) => (List.range 32).foldl (fun (d : BitVec 256) i =>
    d ||| (((data[32 * k + i]?).getD 0).zeroExtend 256 <<< (8 * i))) 0
  let units := (List.range (data.length / 32)).foldl (fun (m : Map (BitVec 256)) k => m.put (offset / 32 + k) (word k)) x.units
  let pages := (offset + data.length - 1) / 512 + 1 - offset / 512
  { (s.setBank b { x with units := units }).addReg (0x8000 + b) 3 pages with
    security := { s.security with updateBytes := s.security.updateBytes + data.length } }

/-- IMAGE_DATA. -/
def execImageData (seq offset : Nat) (data : List Byte) (s : State) : Out :=
  s.svc seq fun t =>
    let q := seq % 256
    let b := t.targetSlot
    if t.ctl.mode = .save then t.svcAnswer q 0x11 2 []
    else if t.security.updateState ≠ 1 then t.svcAnswer q 0x11 1 []
    else if offset % 32 ≠ 0 ∨ data.length % 32 ≠ 0 ∨ data = [] ∨ 4096 < data.length ∨ t.security.updateLength < offset + data.length
      then t.svcAnswer q 0x11 3 []
    else if (List.range (data.length / 32)).any fun k => ((t.bank b).units.find? (offset / 32 + k)).isSome then
      t.svcAnswer q 0x11 4 []
    else if t.eflash.brownout then (t.brownoutBlock b).svcAnswer q 0x11 5 []
    else (t.programImage offset data).svcAnswer q 0x11 0 []

/-- IMAGE_END: verified with the profile check; STAGED, or EMPTY. -/
def State.endImage (s : State) (q : Nat) : State :=
  let b := s.targetSlot
  let r := s.verify b true
  if r = 0 then
    ((s.setSlotOf b { s.slotOf b with state := 2, result := 0, fwVersion := imgNum (s.imageUnits b) 60 4 }).setUpdate 2).svcAnswer
      q 0x12 0 [0]
  else
    let t := s.rejectImage b r
    ((t.setSlotOf b { t.slotOf b with state := 0, fwVersion := 0 }).setUpdate 0).svcAnswer q 0x12 8 [r]

/-- IMAGE_END. -/
def execImageEnd (seq : Nat) (s : State) : Out :=
  s.svc seq fun t =>
    if t.ctl.mode = .save then t.svcAnswer (seq % 256) 0x12 2 []
    else if t.security.updateState ≠ 1 then t.svcAnswer (seq % 256) 0x12 1 []
    else t.endImage (seq % 256)

/-- IMAGE_ABORT. -/
def execImageAbort (seq : Nat) (s : State) : Out :=
  s.svc seq fun t =>
    if t.ctl.mode = .save then t.svcAnswer (seq % 256) 0x14 2 []
    else if t.security.updateState = 0 then t.svcAnswer (seq % 256) 0x14 1 []
    else
      let b := t.targetSlot
      ((t.setSlotOf b { t.slotOf b with state := 0, fwVersion := 0 }).setUpdate 0).svcAnswer (seq % 256) 0x14 0 []

/-! ### Start (R429 to R431) -/

/-- A slot left WRITING by a reset is EMPTY, and the update starts again (R437). -/
def State.dropUpdate (s : State) : State :=
  let t := ([0, 1] : List Nat).foldl (fun (t : State) b =>
    if (t.slotOf b).state = 1 then t.setSlotOf b { t.slotOf b with state := 0, fwVersion := 0 } else t) s
  { t with security := { t.security with updateState := if t.security.updateState = 1 then 0 else t.security.updateState,
                                         updateBytes := 0 } }

/-- The slot to try (R429 step 2): PENDING or TRIAL with trial starts below 3, else ACTIVE, else INACTIVE. -/
def State.slotToTry (s : State) (tried : List Nat) : Option Nat :=
  let bs := ([0, 1] : List Nat).filter fun b => !tried.contains b
  let pick := fun (p : ImageSlot → Bool) => bs.find? fun b => p (s.slotOf b)
  match pick fun x => (x.state == 3 || x.state == 4) && decide (x.trials < 3) with
  | some b => some b
  | none =>
    match pick fun x => x.state == 5 with
    | some b => some b
    | none => pick fun x => x.state == 6

/-- What a start finds in a slot (Table 18.6); 0 where the image may run. -/
def State.slotResult (s : State) (b : Nat) : Nat := s.verify b false

/-- Verify a chosen slot: a PENDING or TRIAL one becomes TRIAL and counts the start; a failed one becomes INACTIVE. -/
def State.trySlot (s : State) (b result : Nat) : State :=
  let x := s.slotOf b
  let trial := x.state == 3 || x.state == 4
  let t := s.setSlotOf b { x with state := if trial then 4 else x.state, trials := if trial then x.trials + 1 else x.trials }
  match result with
  | 0 => t.setSlotOf b { t.slotOf b with result := 0 }
  | r + 1 =>
    let u := t.rejectImage b (r + 1)
    u.setSlotOf b { u.slotOf b with state := if trial then 6 else (u.slotOf b).state }

/-- A TRIAL slot that reached 3 starts is given up (R430). -/
def State.expireTrials (s : State) : State :=
  ([0, 1] : List Nat).foldl (fun (t : State) b =>
    if ((t.slotOf b).state = 4 ∨ (t.slotOf b).state = 3) ∧ 3 ≤ (t.slotOf b).trials then
      (t.setSlotOf b { t.slotOf b with state := 6 }).fault Code.imageTrialFailed (securityDetail b (t.slotOf b).result)
    else t) s

/-- The slots that a start tries, in order, each with what verification finds; at most two tries, the last of them the one that
passes, if any. -/
def State.slotTries : Nat → List Nat → State → List (Nat × Nat)
  | 0, _, _ => []
  | fuel + 1, tried, s =>
    match s.slotToTry tried with
    | none => []
    | some b =>
      (b, s.slotResult b) ::
        (if s.slotResult b = 0 then [] else State.slotTries fuel (b :: tried) (s.trySlot b (s.slotResult b)))

/-- Measurements of the image in a bank (Table 18.14): 2, 7 and 8 with the Bureau's code, 3; and 4 for the sequencers. -/
def State.measure (s : State) (b : Nat) (sequencers : Bool) : State :=
  let us := s.imageUnits b
  let hashes := fun (p : Component → Bool) => Config.sha256 (((components us).filter p).flatMap fun c =>
    (bytesOf 32 c.hash).map (BitVec.ofNat 8))
  let m1 := (((s.security.measured.put 2 (Config.sha256 (imgBytes us 0 0xB00))).put 3
    (hashes fun c => c.type == 1 || c.type == 2 || c.type == 5 || c.type == 8)).put 7 (imgNum us 60 4)).put 8 (imgNum us 48 4)
  let profile := s.reg 0x5001 0
  let m2 := if sequencers then
      m1.put 4 (hashes fun c => c.type == 3 || c.type == 4 || c.type == 6 || (c.type == 7 && c.inst == profile))
    else m1
  { s with security := { s.security with measured := m2 } }

/-- The Bureau runs from a bank (R429 steps 5 and 6); the sequencers too where the start loads them (R433). -/
def State.loadImageCode (s : State) (b : Nat) (sequencers : Bool) : State :=
  let us := s.imageUnits b
  let t := { s with security := { s.security with
    runningBank := b, fwVersion := imgNum us 60 4, securityVersion := imgNum us 48 4, settingsFormat := imgNum us 52 4,
    sequencerInterface := if sequencers then imgNum us 56 2 else s.security.sequencerInterface } }
  t.measure b sequencers

/-- The outcome of a start whose tries are given. -/
def State.bootFrom (s : State) (sequencers : Bool) (tries : List (Nat × Nat)) : State :=
  let t := tries.foldl (fun u e => u.trySlot e.1 e.2) s
  match tries.find? fun e => e.2 == 0 with
  | some e => { (t.loadImageCode e.1 sequencers) with ctl := { t.ctl with recovery := false } }
  | none => { t with ctl := { t.ctl with recovery := true }, security := { t.security with svcRate := 0 } }

/-- The boot ROM of a start (R429): the update in progress is dropped, a slot is chosen and loaded, or recovery mode. -/
def State.bootRom (s : State) (sequencers : Bool) : State :=
  (s.dropUpdate.expireTrials).bootFrom sequencers (State.slotTries 2 [] s.dropUpdate.expireTrials)

/-- Whether any value of a keeping class is stored. -/
def State.storesClass (s : State) (k : Keeping) : Bool :=
  s.regs.any fun e => match rowOf (e.1 / 256 % 65536) (e.1 % 256) with | some r => r.keep == k | none => false

/-- P values stored under another format read their Defaults, with a record of both versions (R354, R432). -/
def State.settingsFormat (s : State) (format : Nat) : State :=
  let old := s.security.storedFormat
  let t := { s with security := { s.security with storedFormat := format } }
  if old = format ∨ s.storesClass .p = false then t
  else (t.dropClass .p).note Code.settingsDefaulted [old, format]

/-- Confirmation of a TRIAL slot (R430 to R432): the counter first, then ACTIVE with the next generation. -/
def State.confirmImage (s : State) : State :=
  let b := s.security.runningBank
  if (s.slotOf b).state ≠ 4 then s
  else
    let us := s.imageUnits b
    let other := 1 - b
    let old := (s.slotOf other).fwVersion
    let arb := if imgByte us 12 / 2 % 2 = 1 then max s.security.arbCounter (imgNum us 48 4) else s.security.arbCounter
    let gen := max (s.slotOf 0).generation (s.slotOf 1).generation + 1
    let s1 := { s with security := { s.security with arbCounter := arb } }
    let s2 := s1.setSlotOf b { s.slotOf b with state := 5, generation := gen, trials := 0, fwVersion := imgNum us 60 4 }
    let s3 := if (s2.slotOf other).state = 5 then s2.setSlotOf other { s2.slotOf other with state := 6 } else s2
    (s3.settingsFormat (imgNum us 52 4)).note Code.imageActivated [old, imgNum us 60 4]

/-! ### Key revocation (R427) -/

/-- Whether a key slot's revocation is refused with LOCKED: no current arm, in use, or the last one. -/
def State.revokeLocked (s : State) (k : Nat) : Bool :=
  (match s.security.revokeArm with | some b => decide (b + 1000 < s.clock.beat) | none => true) ||
    (([0, 1] : List Nat).any fun b => decide (2 ≤ (s.slotOf b).state) && decide ((s.slotOf b).state ≤ 5) &&
      imgByte (s.imageUnits b) 68 % 4 == k) ||
    !(([0, 1, 2, 3] : List Nat).any fun j => j != k && !s.security.revoked.getLsbD j)

/-- Blow a slot's revocation fuse. -/
def State.revoke (s : State) (k : Nat) : State :=
  { s with security := { s.security with revoked := s.security.revoked ||| BitVec.ofNat 4 (2 ^ k), revokeArm := none } }

end Sys2Proof.Machine
end

