-- ==== Sys2Proof/Machine/Spdm.lean ====
section
/-! DEFINITION. The SPDM responder and the measurements (R440 to R442). Message codes and error codes are those of DMTF
DSP0274, which the spec names but does not print (PRESUMED, log entry 22). -/

namespace Sys2Proof.Machine

/-! ### Sessions -/

/-- The session of an endpoint. -/
def State.session (s : State) (e : Nat) : Option SpdmSession := s.security.sessions.find? fun x => x.endpoint == e

/-- Put a session in place as the most recently used; the ninth replaces the least recently used, which stands first. -/
def State.putSession (s : State) (x : SpdmSession) : State :=
  let others := s.security.sessions.filter fun y => y.endpoint != x.endpoint
  let kept := if 8 ≤ others.length then others.drop (others.length - 7) else others
  { s with security := { s.security with sessions := kept ++ [{ x with used := s.clock.beat }] } }

/-- ERROR with a code. -/
def State.spdmError (s : State) (e code : Nat) : State := s.emit (.spdm e 0x7F [code])

/-- An answer; one beyond 4,096 B is kept and sent in chunks, announced by ERROR LargeResponse. -/
def State.spdmAnswer (s : State) (x : SpdmSession) (code : Nat) (payload : List Nat) : State :=
  if 4096 < payload.length then (s.putSession { x with response := code :: payload }).spdmError x.endpoint 0x0F
  else (s.putSession x).emit (.spdm x.endpoint code payload)

/-- A request that needs negotiation to a stage; one out of turn gets ERROR UnexpectedRequest. -/
def State.spdmStage (s : State) (e stage : Nat) (f : State → SpdmSession → State) : Out :=
  .next (match s.session e with
    | some x => if stage ≤ x.stage then f s.fresh x else s.fresh.spdmError e 0x04
    | none => s.fresh.spdmError e 0x04)

/-- SPDM_GET_VERSION: a session begins; versions 1.2 and 1.3. -/
def execSpdmGetVersion (endpoint : Nat) (s : State) : Out :=
  .next (s.fresh.spdmAnswer { endpoint := endpoint, stage := 1, used := 0, request := [], response := [] } 0x04 [0x12, 0x13])

/-- Capabilities: CERT, CHAL, MEAS with signature, MEAS_FRESH and CHUNK (Table 18.13). -/
def spdmCapabilities : Nat := 0x2 + 0x4 + 0x10 + 0x20 + 0x20000

/-- SPDM_GET_CAPABILITIES. -/
def execSpdmGetCapabilities (endpoint : Nat) (s : State) : Out :=
  s.spdmStage endpoint 1 fun t x => t.spdmAnswer { x with stage := max 2 x.stage } 0x61 [spdmCapabilities]

/-- SPDM_NEGOTIATE_ALGORITHMS: RSASSA-PSS 3072, SHA-256 and DMTF measurements. -/
def execSpdmNegotiateAlgorithms (endpoint : Nat) (s : State) : Out :=
  s.spdmStage endpoint 2 fun t x => t.spdmAnswer { x with stage := 3 } 0x63 [0x10, 0x1, 0x2, 0x1]

/-- SPDM_GET_DIGESTS: of slot 0. -/
def execSpdmGetDigests (endpoint : Nat) (s : State) : Out :=
  s.spdmStage endpoint 3 fun t x => t.spdmAnswer x 0x01
    [1, Config.sha256 ((Config.certificate 0).map (BitVec.ofNat 8))]

/-- SPDM_GET_CERTIFICATE: a part of the chain of slot 0; another slot gets ERROR InvalidRequest. -/
def execSpdmGetCertificate (endpoint slot offset length : Nat) (s : State) : Out :=
  s.spdmStage endpoint 3 fun t x =>
    let chain := Config.certificate 0
    if slot ≠ 0 ∨ chain.length ≤ offset then t.spdmError endpoint 0x01
    else t.spdmAnswer x 0x02 ((chain.drop offset).take length)

/-! ### Measurements (Table 18.14) -/

/-- D values in index order with `d_generation`, as bytes. -/
def State.dMeasured (s : State) : List Byte :=
  (bytesOf 8 (s.reg 0xA003 0) ++ s.dValues.flatMap fun e => bytesOf (entrySize (e.1 / 256 % 65536) (e.1 % 256)) e.2).map
    (BitVec.ofNat 8)

/-- Value of a measurement. -/
def State.measurement (s : State) (i : Nat) : Nat :=
  match i with
  | 1 => Config.measurement 1
  | 5 => s.reg 0x1000 4 + 2 ^ 32 * s.security.arbCounter + 2 ^ 40 * s.security.revoked.toNat + 2 ^ 48 * s.eflash.rdpLevel
  | 6 => Config.sha256 s.dMeasured
  | _ => s.security.measured.get i 0

/-- The measurements that a summary covers: none, index 1 only, or all. -/
def summaryOf (s : State) (summary : Nat) : List Nat :=
  if summary = 0 then [] else if summary = 1 then [s.measurement 1]
  else ((List.range 8).map fun i => s.measurement (i + 1))

/-- A signed response is counted. -/
def State.signed (s : State) (message : List Nat) : State × Nat := (s.addReg 0x8430 2 1, Config.sign message)

/-- SPDM_CHALLENGE: summary 0 none, 1 index 1, 0xFF all. -/
def execSpdmChallenge (endpoint slot summary nonce : Nat) (s : State) : Out :=
  s.spdmStage endpoint 3 fun t x =>
    if slot ≠ 0 ∨ (summary ≠ 0 ∧ summary ≠ 1 ∧ summary ≠ 0xFF) then t.spdmError endpoint 0x01
    else
      let body := [slot, Config.sha256 ((Config.certificate 0).map (BitVec.ofNat 8)), nonce] ++ summaryOf t summary
      let r := t.signed (endpoint :: body)
      r.1.spdmAnswer x 0x03 (body ++ [r.2])

/-- SPDM_GET_MEASUREMENTS: index 0 asks their number, 1 to 8 one of them, 0xFF all. -/
def execSpdmGetMeasurements (endpoint index : Nat) (sign : Bool) (nonce : Nat) (s : State) : Out :=
  s.spdmStage endpoint 3 fun t x =>
    if 8 < index ∧ index ≠ 0xFF then t.spdmError endpoint 0x01
    else
      let values := if index = 0 then [8] else if index = 0xFF then (List.range 8).map fun i => t.measurement (i + 1)
        else [t.measurement index]
      if sign then
        let r := t.signed (endpoint :: nonce :: values)
        r.1.spdmAnswer x 0x60 (values ++ [nonce, r.2])
      else t.spdmAnswer x 0x60 values

/-! ### Chunks and other requests -/

/-- SPDM_CHUNK_SEND: a part of a large request is kept until the last. -/
def execSpdmChunkSend (endpoint seq : Nat) (last : Bool) (chunk : List Byte) (s : State) : Out :=
  s.spdmStage endpoint 3 fun t x =>
    t.spdmAnswer { x with request := if last then [] else (if seq = 0 then [] else x.request) ++ chunk } 0x05 [seq]

/-- SPDM_CHUNK_GET: a part of a large response; without one, or beyond its end, ERROR InvalidRequest. -/
def execSpdmChunkGet (endpoint seq : Nat) (s : State) : Out :=
  s.spdmStage endpoint 3 fun t x =>
    let part := (x.response.drop (seq * 4096)).take 4096
    if part = [] then t.spdmError endpoint 0x01
    else
      let y := if x.response.length ≤ (seq + 1) * 4096 then { x with response := [] } else x
      (t.putSession y).emit (.spdm endpoint 0x06 (seq :: part))

/-- SPDM_RESPOND_IF_READY: every answer is given at once, so that none is ever deferred (DEDUCED,
log entry 195): ERROR UnexpectedRequest. -/
def execSpdmRespondIfReady (endpoint : Nat) (s : State) : Out := .next (s.fresh.spdmError endpoint 0x04)

/-- SPDM_UNSUPPORTED (R441). -/
def execSpdmUnsupported (endpoint _code : Nat) (s : State) : Out := .next (s.fresh.spdmError endpoint 0x07)

/-- End every session (Table 13.7). -/
def State.endSessions (s : State) : State := { s with security := { s.security with sessions := [] } }

end Sys2Proof.Machine
end

