-- ==== Sys2Proof/Machine/Bureau.lean ====
section
/-! DEFINITION. The Bureau's core pairs and roles, SRAM repair and recovery, and the interrupt controller (chapter 16). -/

namespace Sys2Proof.Machine

/-! ### Pairs and roles (Table 16.1) -/

/-- The SPARE pair. -/
def State.sparePair (s : State) : Option Nat := pairNos.find? fun k => s.pairState k == 3

/-- The pair that takes over without a spare: the lowest-numbered worker pair still running, else any pair still running
(R393). -/
def State.heir (s : State) (failed : Nat) : Option Nat :=
  let live := pairNos.filter fun k => k != failed && s.pairState k == 0
  match live.find? fun k => s.pairRoles k / 2 != 0 with
  | some k => some k
  | none => live.head?

/-- Give a role to a pair; the move completes with PAIR_TAKEOVER. -/
def State.moveRole (s : State) (role old new : Nat) : State :=
  { s with bureau := { s.bureau with
      roles := (s.bureau.roles.put new (s.pairRoles new + 2 ^ role)),
      takeover := s.bureau.takeover.put role (8 * old + new) } }

/-- Sources that some roles hold active return to pending (R391 step 2). -/
def State.unclaimRoles (s : State) (mask : Nat) : State :=
  { s with bureau := { s.bureau with active := s.bureau.active.filter fun e => mask / 2 ^ e.2 % 2 == 0 } }

/-- No pair remains (R393). -/
def State.bureauLost (s : State) : State :=
  { s with bureau := { s.bureau with lost := true } }.faultOpen Code.bureauLost true

/-- A pair that carries roles fails (R391, R393). -/
def State.pairFails (s : State) (k : Nat) : State :=
  let mask := s.pairRoles k
  let s1 := ((s.addReg (0x7800 + k) 3 1).setReg (0x7800 + k) 1 2).faultOpen Code.pairMismatch
  let s2 := s1.unclaimRoles mask
  let s3 := { s2 with bureau := { s2.bureau with roles := s2.bureau.roles.put k 0 } }
  match s3.sparePair with
  | some n => (rolesOf mask).foldl (fun t c => t.moveRole c k n) (s3.setReg (0x7800 + n) 1 0)
  | none =>
    match s3.heir k with
    | some n => (rolesOf mask).foldl (fun t c => (t.moveRole c k n).faultOpen Code.bureauDegraded true) s3
    | none => s3.bureauLost

/-- The SPARE pair fails (R393). -/
def State.spareFails (s : State) (k : Nat) : State := (s.setReg (0x7800 + k) 1 2).faultOpen Code.sparePairFailed true

/-- A pair fails: one with roles, or the spare. -/
def State.pairFailure (s : State) (k : Nat) : State :=
  (if s.pairState k = 3 then s.spareFails k else s.pairFails k).raiseSource 101

/-- PAIR_FAIL: a pair that has not failed. -/
def execPairFail (pair : Fin 5) (s : State) : Out :=
  .next (if s.pairState pair.val = 2 then s.idle else s.fresh.pairFailure pair.val)

/-- PAIR_TAKEOVER_COMPLETE (R391 step 4): recorded with the role and the old and new pair. -/
def execPairTakeoverComplete (role : Fin 4) (s : State) : Out :=
  .next (match s.bureau.takeover.find? role.val with
    | some v =>
      (({ s.fresh with bureau := { s.bureau with takeover := s.bureau.takeover.del role.val } }.addReg 0x7805 0 1).note
        Code.pairTakeover [role.val, v / 8, v % 8]).raiseSource 101
    | none => s.idle)

/-- SPARE_SELF_TEST. -/
def execSpareSelfTest (passed : Bool) (s : State) : Out :=
  .next (match s.sparePair with
    | some k => if passed then s.fresh else (s.fresh.spareFails k).raiseSource 101
    | none => s.idle)

/-- Roles by Table 16.1 over the pairs that run: each role to its default pair, else to pair 4, else to the lowest pair that
runs; a pair without a role is SPARE. -/
def State.assignRoles (s : State) : State :=
  let live := pairNos.filter fun k => s.pairState k != 2
  let step := fun (m : Map Nat) (c : Nat) =>
    let k := if live.contains c then some c
      else if live.contains 4 && m.get 4 0 == 0 then some 4 else live.head?
    match k with | some k => m.put k (m.get k 0 + 2 ^ c) | none => m
  let m := ([0, 1, 2, 3] : List Nat).foldl step (pairNos.map fun k => (k, 0))
  let s1 := { s with bureau := { s.bureau with roles := m, takeover := [] } }
  live.foldl (fun t k => t.setReg (0x7800 + k) 1 (if m.get k 0 = 0 then 3 else 0)) s1

/-- Every FAILED pair runs its self-test at a start; whether it passes is a free value (R393). -/
def State.requalifyPairs (s : State) : State :=
  let t := (pairNos.filter fun k => s.pairState k == 2).foldl (fun (t : State) k =>
    if Config.free t.free % 2 = 1 then (t.drawn.setReg (0x7800 + k) 1 3).note Code.pairRequalified [k] else t.drawn) s
  let u := t.assignRoles
  let lost := pairNos.all fun k => u.pairState k == 2
  let v := { u with bureau := { u.bureau with lost := lost } }
  if lost then v else ((v.condClear Code.bureauLost).condClear Code.bureauDegraded).condClear Code.sparePairFailed

/-! ### SRAM (R394, R395) -/

/-- SRAM_REPAIR: a spare row or column of a macro takes the place of a failed one. -/
def State.sramRepair (s : State) (array : Nat) (column : Bool) : State :=
  let used := (if column then s.bureau.sparesCol else s.bureau.sparesRow).get array 0
  if (if column then 4 else 8) ≤ used then s.faultOpen Code.sramSparesExhausted true
  else if column then
    ({ s with bureau := { s.bureau with sparesCol := s.bureau.sparesCol.put array (used + 1) } }.addReg 0x7806 2 1).note
      Code.sramColumnRepaired [array]
  else
    ({ s with bureau := { s.bureau with sparesRow := s.bureau.sparesRow.put array (used + 1) } }.addReg 0x7806 1 1).note
      Code.sramRowRepaired [array]

/-- SRAM_REPAIR: of one of the 512 macros. -/
def execSramRepair (array : Nat) (column : Bool) (s : State) : Out :=
  .next (if array < 512 then (s.fresh.sramRepair array column).raiseSource 102 else s.idle)

/-- A leaf is reloaded from the delta log (Table 16.2); a copy in progress is not credited. -/
def State.reloadLeaf (s : State) (t : LeafTable) (leaf : Nat) : State :=
  if s.leaf leaf = .restoring then s
  else
    let s1 := if s.leaf leaf = .copying then s.uncredit leaf else s
    { s1 with leaves := s1.leaves.set leaf (t.get leaf) }

/-- A staged stripe is discarded and its leaf read again (Table 16.2). -/
def State.restage (s : State) (leaf : Nat) : State :=
  let again := fun (x : Stripe) => if x.leaf = leaf ∧ x.origin ≠ 2 then
      { x with data := Mem.slice s.mem (leaf * 65536) 65536, poison := flashPoison (s.poisonIn (leaf * 65536) 65536) } else x
  { s with nand := { s.nand with forming := s.nand.forming.map again } }.queueLeaf leaf 4 4 s.nowStamp false

/-- Recovery by the structure that owns the word. -/
def State.sramRecover (s : State) : SramOwner → State
  | .leafTable ls => let t := s.reloadLeaves; ls.foldl (fun u f => u.reloadLeaf t f) s
  | .heat bs => { s with heat := bs.foldl (fun m b => Map.put m b { old := false, last := s.nowMs % 32768, heat := 0 }) s.heat }
  | .nandStaging leaf => s.restage leaf
  | .bureau k => if s.pairState k.val = 2 then s else s.pairFailure k.val
  | .groupTable | .claimCache | .longcaseTables | .chestRing => s

/-- SRAM_UE. -/
def execSramUe (owner : SramOwner) (s : State) : Out :=
  .next (((s.fresh.addReg 0x7806 5 1).faultOpen Code.sramUe).sramRecover owner)

/-! ### Interrupt controller (R396, R397) -/

/-- Threshold of a claim: the highest of the roles' thresholds (R398). -/
def State.claimThreshold (s : State) (roles : List Nat) : Nat := (roles.map fun c => s.reg (0x7821 + c) 1).foldl max 0

/-- Pending sources of a group. -/
def State.groupPending (s : State) (g : Nat) : List Nat :=
  (s.irqSources.filter fun n => n / 16 == g && s.irqPending n).eraseDups

/-- Whether a group's moderation is over: its count reached, or its oldest source has waited (R397). -/
def State.moderated (s : State) (g : Nat) : Bool :=
  let ps := s.groupPending g
  let us := s.reg (0x7830 + g) 2
  decide (s.reg (0x7830 + g) 1 ≤ ps.length) ||
    (us != 0 && ps.any fun n => decide (us ≤ (s.clock.beat - s.bureau.since.get n s.clock.beat) * 10))

/-- A role's interrupt line (R397): raised by a moderation that has run out, or by a pending source of the role whose pair is idle,
whose priority is 15 or whose group is moderated no longer. -/
def State.irqLine (s : State) (c : Nat) : Bool :=
  s.bureau.line.contains c || s.irqSources.any fun n => s.irqPending n && s.irqRole n == c &&
    (s.roleIdle c || decide (s.irqPriority n = 15) || s.moderated (n / 16))

/-- Keep a role's line raised until the next claim. -/
def State.raiseLine (s : State) (c : Nat) : State :=
  { s with bureau := { s.bureau with line := if s.bureau.line.contains c then s.bureau.line else s.bureau.line ++ [c] } }

/-- At each boundary: from when each pending source has waited. -/
def State.stampSources (s : State) : State :=
  let ps := s.irqSources.eraseDups.filter fun n => s.irqPending n
  { s with bureau := { s.bureau with since := ps.map fun n => (n, s.bureau.since.get n s.clock.beat) } }

/-- IRQ_SOURCE_RAISE: the line of an idle role, of a source at priority 15 and of a group whose count is reached rises with it. -/
def execIrqSourceRaise (source : Fin 512) (s : State) : Out :=
  .next (if irqReserved source.val then s.idle else s.fresh.raiseSource source.val)

/-- The source that a claim returns: the highest priority above the threshold, the lowest number among equals. -/
def State.claimSource (s : State) (roles : List Nat) : Option Nat :=
  let th := s.claimThreshold roles
  let cands := s.irqSources.filter fun n => s.irqPending n && roles.contains (s.irqRole n) && decide (th < s.irqPriority n)
  cands.foldl (fun best n => match best with
    | none => some n
    | some m => if s.irqPriority m < s.irqPriority n ∨ (s.irqPriority m = s.irqPriority n ∧ n < m) then some n else some m) none

/-- IRQ_CLAIM. -/
def execIrqClaim (role : Fin 4) (s : State) : Out :=
  let roles := s.claimRoles role.val
  .next (if roles = [] then s.idle else
    match s.claimSource roles with
    | none => s.fresh.emit (.claimed 0)
    | some n =>
      let t := { s.fresh with bureau := { s.bureau with active := s.bureau.active.put n (s.irqRole n),
                                                        since := s.bureau.since.del n,
                                                        line := s.bureau.line.filter fun c => !roles.contains c } }
      (t.addReg (0x7821 + role.val) 2 1).emit (.claimed (n + 2 ^ 31)))

/-- IRQ_COMPLETE. Whether the level of a source whose condition the state does not hold still stands when its handler ends
is for its block to say: a free value (log entry 23). -/
def execIrqComplete (role : Fin 4) (source : Nat) (s : State) : Out :=
  let roles := s.claimRoles role.val
  .next (match s.bureau.active.find? source with
    | some c =>
      if roles.contains c then
        let served := Config.free s.free % 2 = 1
        { s.fresh.drawn with bureau := { s.bureau with
          active := s.bureau.active.del source,
          since := s.bureau.since.put source s.clock.beat,
          level := if served then s.bureau.level.filter fun n => n != source else s.bureau.level } }
      else s.fresh.addReg (0x7821 + role.val) 4 1
    | none => s.fresh.addReg (0x7821 + role.val) 4 1)

/-- IRQ_MODERATION_EXPIRE. -/
def execIrqModerationExpire (group : Fin 32) (s : State) : Out :=
  .next (if s.groupPending group.val ≠ [] ∧ s.moderated group.val = true then
      (s.groupPending group.val).foldl (fun t n => t.raiseLine (t.irqRole n)) s.fresh
    else s.idle)

/-- The interrupt controller restarts: no source is active, and levels stand (R344). -/
def State.irqRestart (s : State) : State :=
  { s with bureau := { s.bureau with active := [], line := [], since := [] } }

end Sys2Proof.Machine
end

