-- ==== Sys2Proof/Machine/Spool.lean ====
section
/-! DEFINITION. The Chest's tiers: the Cupboard spool, the embedded-flash spool, read-out, and the failure of the ring
(R382 to R385); clearing fault groups (R373, R375). -/

namespace Sys2Proof.Machine

/-! ### Cupboard spool -/

/-- Flush the ring to the Cupboard spool (R382): its unspooled records, in order. -/
def State.flushRing (s : State) : State :=
  if s.chest.ringFailed ∨ s.chest.unspooled = 0 then s
  else
    let new := s.chest.ring.drop (s.chest.ring.length - s.chest.unspooled)
    let n := placesOf new
    { s with chest := { s.chest with cupboard := fitPlaces 1048576 (s.chest.cupboard ++ new), unspooled := 0,
                                     cupboardAt := (s.chest.cupboardAt + n) % 1048576 } }.queueAll
      ((List.range n).flatMap fun i =>
        s.cupWrites .spool ((s.chest.cupboardAt + i) % 1048576 * 64) 64 8 7 s.nowStamp .none)

/-- Whether the Cupboard can be written: DRAM is out of self-refresh, which it enters at the seal of a save (Table 11.2), and
in BRING-UP its channels stand. -/
def State.cupboardUp (s : State) : Bool :=
  !s.selfRefresh && !(s.ctl.mode == .save && s.save.state == .sealed) && (s.ctl.mode != .bringUp || decide (12 ≤ s.dram.ready.length))

/-! ### Embedded-flash spool -/

/-- Bank of a spool sector: 0 to 255 in bank 0, 256 to 511 in bank 1 (R402). -/
def spoolBank (k : Nat) : Nat := k / 256 % 2

/-- Sector of the bank that a spool sector is (Table 17.1). -/
def spoolFlash (k : Nat) : Nat := 0x680 + k % 256

/-- Whether a spool sector has been left out as worn (R409). -/
def State.spoolWorn (s : State) (k : Nat) : Bool := (s.bank (spoolBank k)).worn.contains (spoolFlash k)

/-- The next spool sector in rotation. -/
def State.nextSpool (s : State) : Nat :=
  ((List.range 512).map fun i => (s.chest.spoolSector + 1 + i) % 512).find? (fun k => !s.spoolWorn k) |>.getD s.chest.spoolSector

/-- Move to the next spool sector: the sector that holds the oldest records is erased (R382). -/
def State.turnSpool (s : State) (used : Nat) : State :=
  let k := s.nextSpool
  let t := s.sectorErased (spoolBank k) (spoolFlash k)
  { t with chest := { t.chest with spoolSector := k, spoolUsed := used } }

/-- Store a record under the sector it begins in. -/
def State.spoolPut (s : State) (sector : Nat) (r : ChestRec) : State :=
  { s with chest := { s.chest with eflash := s.chest.eflash ++ [(sector, r)] } }

/-- Use places of the sector being filled. -/
def State.spoolUse (s : State) (n : Nat) : State :=
  { s with chest := { s.chest with spoolUsed := s.chest.spoolUsed + n } }

/-- Put a record into the spool; it never straddles the end of the tier. -/
def State.spoolRecord (s : State) (r : ChestRec) : State :=
  let n := r.places
  let k := s.chest.spoolSector
  let room := 64 - s.chest.spoolUsed
  let counted := s.addReg (0x8000 + spoolBank k) 3 1
  if n ≤ room then (counted.spoolUse n).spoolPut k r
  else if room = 0 ∨ s.nextSpool ≤ k then
    let u := counted.turnSpool n
    u.spoolPut u.chest.spoolSector r
  else (counted.turnSpool (n - room)).spoolPut k r

/-- CHEST_EFLASH_SPOOL (R382, R387, R407): a bank held by a suspended erase delays the write; a low supply fails it; a running
operation makes it wait. -/
def State.eflashSpool (s : State) : State :=
  let x := s.bank (spoolBank s.chest.spoolSector)
  if x.op.isSome then s.idle
  else if x.suspended.isSome then s.fresh.faultOpen Code.spoolDelayed
  else if s.eflash.brownout then (s.fresh.brownoutBlock (spoolBank s.chest.spoolSector)).faultOpen Code.spoolWriteFailed
  else
    let ws := s.chest.eflashWait
    ws.foldl State.spoolRecord { s.fresh with chest := { s.chest with eflashWait := [] } }

/-- CHEST_EFLASH_SPOOL. -/
def execChestEflashSpool (s : State) : Out := .next (if s.chest.eflashWait = [] then s.idle else s.eflashSpool)

/-! ### Failure of the ring (R385) -/

/-- CHEST_RING_FAILED: `lost` unspooled records cannot be read. The record is formed in the last-gasp registers and sent to
every destination. -/
def State.ringFails (s : State) (lost : Nat) : State :=
  let n := min lost s.chest.unspooled
  let detail := Config.free s.free
  let kept := s.chest.ring.length - s.chest.unspooled
  let s1 := { s.drawn with chest := { s.chest with
    ringFailed := true, ring := s.chest.ring.take kept ++ s.chest.ring.drop (kept + n), unspooled := s.chest.unspooled - n } }
  let s2 := s1.occur Code.chestRingFailed true false detail
  let r := s2.formRecord Code.chestRingFailed (words2 detail ++ [lost % 2 ^ 32]) false
  let g := s2.chest.advance.gasp r
  let short := { r with fallback := true, values := r.values.take 6 }
  if g.2 then { s2 with chest := g.1 }.deliver short true else (s2.addReg 0x7422 0 1).deliver short true

/-- CHEST_RING_FAILED. -/
def execChestRingFailed (lost : Nat) (s : State) : Out :=
  .next (if s.chest.ringFailed then s.idle else s.fresh.ringFails lost)

/-- The ring is repaired (R385 step 4): the last-gasp registers go into it in sequence order. -/
def State.ringRepaired (s : State) : State :=
  if s.chest.ringFailed = false then s
  else
    let rs := s.chest.lastGasp
    { s with chest := { s.chest with ringFailed := false, ring := fitPlaces 4096 (s.chest.ring ++ rs),
                                     unspooled := s.chest.unspooled + rs.length, lastGasp := [] } }.condClear Code.chestRingFailed

/-! ### Read-out (R384) -/

/-- The Bureau reads a record's places in the Cupboard spool, through port MG (Table 5.1). -/
def State.readSpool (s : State) (x : ChestRec) : State :=
  let rest := s.chest.cupboard.dropWhile fun r => r != x
  if rest = [] then s
  else s.queueAll (s.cupReads .spool ((s.chest.cupboardAt + 1048576 - placesOf rest) % 1048576 * 64) (64 * x.places) 8 7 s.nowStamp)

/-- Read the next record: the state after it, the 256 B value and the record. -/
def State.readRecord (s : State) : State × Nat × Option ChestRec :=
  let r := s.recordAt
  let s1 := if r.2 = [] then s else s.addReg 0x7430 5 r.2.length
  match r.1 with
  | some x => ((s1.setReg 0x7430 4 (x.seq + 1)).readSpool x, recordValue x, some x)
  | none => (s1.setReg 0x7430 4 (s.reg 0x7430 1), 0, none)

/-- CHEST_READ_RECORD: every role may read. -/
def execChestReadRecord (_role : Role) (s : State) : Out :=
  let r := s.fresh.readRecord
  .next (r.1.emit (.chestRecord r.2.2))

/-! ### Fault groups -/

/-- `fault_clear` of a block (R373). -/
def State.clearFaults (s : State) (b : Nat) : State :=
  { s with faults := s.faults.put b ((s.faultGroup b).clear b s.clock.ext) }

/-- INJECTED_LIVE_CLEAR (R375): injected live bits clear at the end of the following beat. -/
def execInjectedLiveClear (block : Fin 17) (s : State) : Out :=
  let g := s.faultGroup block.val
  .next (if g.injLive ≠ 0 ∧ g.injBeat + 1 ≤ s.clock.beat then
      { s.fresh with faults := s.faults.put block.val { g with injLive := 0 } }
    else s.idle)

end Sys2Proof.Machine
end

