-- ==== Sys2Proof/Machine/TestUnits.lean ====
section
/-! DEFINITION. Pattern tests, receiver margining and boundary scan (R444 to R452, R456). -/

namespace Sys2Proof.Machine

/-! ### Test units (Table 19.1) -/

/-- The link that holds a host lane unit. -/
def State.unitLink (s : State) (u : Nat) : Nat :=
  let head := u / 16
  let split := (if head = 0 then s.layout.headA else s.layout.headB) = 1
  2 * head + (if split ∧ 8 ≤ u % 16 then 1 else 0)

/-- Whether a unit's condition holds. -/
def State.unitAllowed (s : State) (u : Nat) : Bool :=
  decide (s.ctl.mode ≠ .save) && (s.ctl.testHold == 1 ||
    (if u < 32 then s.reg 0x2005 (s.unitLink u + 1) == 0 && decide ((s.link (s.unitLink u)).state = .down)
     else if u < 36 then s.reg (0x4810 + (u - 32) / 2) 2 == 0 && decide ((s.port ((u - 32) / 2)).state = .down)
     else if u < 49 then s.chanState (u - 36) == 5 || s.chanState (u - 36) == 4
     else decide (u < 67)))

/-- Add to a counter of a unit that saturates (R446). -/
def State.satUnit (s : State) (u sub n : Nat) : State :=
  s.setBreg u 0x9010 sub (min (s.breg u 0x9010 sub + n) (2 ^ (8 * entrySize 0x9010 sub) - 1))

/-- Stop a unit in a `pt_state`. -/
def State.stopUnit (s : State) (u st : Nat) : State :=
  if (s.test.running.find? u).isSome then
    ({ s with test := { s.test with running := s.test.running.del u, locked := s.test.locked.filter fun x => x != u,
                                    busWait := s.test.busWait.filter fun x => x != u } }.setBreg u 0x9010 6 st).setBreg u
      0x9010 5 0
  else s

/-- Rows that a DRAM unit has written once it has checked a number of bits: whole rows of 8 KiB, from row 0 up (DESIGN CHOICE, log
entry 59: the spec gives no order). -/
def State.patternRows (s : State) (bits : Nat) : Nat := min (ceilDiv bits 65536) s.layout.rowCount

/-- A DRAM unit leaves its pattern in the rows it has written (R448). -/
def State.notePattern (s : State) (c rows : Nat) : State :=
  if rows = 0 then s else { s with test := { s.test with rows := s.test.rows.put c ((s.patternOf (36 + c)).1, (s.patternOf (36 + c)).2, rows) } }

/-- The pattern in one 64 B of a channel's rows. -/
def State.patternUnit (s : State) (c offset : Nat) (m : List Host.Cell) : List Host.Cell :=
  let a := 64 * s.unitOn c offset
  if a < s.layout.hostVisible then
    (List.range 64).foldl (fun m i =>
      Mem.put m (a + i) (Config.patternByte (s.patternOf (36 + c)).1 (s.patternOf (36 + c)).2 c (offset + i))) m
  else m

/-- Under test hold the rows of a channel that carries data lose it to the pattern (R448). -/
def State.leavePattern (s : State) (c rows : Nat) : State :=
  if s.ctl.testHold = 1 ∧ (s.logicalOf c).isSome then
    { s.notePattern c rows with
      mem := (List.range rows).foldl (fun m r =>
        (List.range 128).foldl (fun m i => s.patternUnit c (rowOffset r i) m) m) s.mem }
  else s.notePattern c rows

/-- A unit that starts: a DRAM channel with no valid record is first fully trained at 4800 MT/s, at a temperature that the command
does not give (R445), and a NAND unit loads its page register (R447). -/
def State.startUnit (s : State) (u : Nat) : State :=
  let t := ({ s with test := { s.test with running := s.test.running.put u s.clock.beat } }.setBreg u 0x9010 6 1).setBreg u
    0x9010 5 1
  if 36 ≤ u ∧ u < 49 ∧ s.recordBins (u - 36) = [] then
    t.drawn.trained (u - 36) 4800 ((Config.free t.free % 256 : Nat) - 128)
  else if 49 ≤ u ∧ u < 67 then t.loadPage u
  else t

/-- Rows that a DRAM unit has written when something else than `pt_run` stops it: a free number. -/
def State.cutPattern (s : State) (u : Nat) : State :=
  if 36 ≤ u ∧ u < 49 ∧ (s.test.running.find? u).isSome then
    s.drawn.leavePattern (u - 36) (s.patternRows (Config.free s.free))
  else s

/-- The same for a save, which no test hold allows, so that no channel under test carries data. -/
def State.cutRows (s : State) (u : Nat) : State :=
  if 36 ≤ u ∧ u < 49 ∧ (s.test.running.find? u).isSome then
    s.drawn.notePattern (u - 36) (s.patternRows (Config.free s.free))
  else s

/-- A COLD reset cuts every test short. -/
def State.cutTests (s : State) : State := (s.test.running.map (·.1)).foldl State.cutPattern s

/-- What a stop has counted: bits and errors, and for a DRAM or NAND unit the data line of the first error. -/
def State.countUnit (s : State) (u bits errors line : Nat) : State :=
  let t := (s.satUnit u 7 bits).satUnit u 8 errors
  if 36 ≤ u ∧ errors ≠ 0 ∧ t.breg u 0x9010 10 = 0xFF then t.setBreg u 0x9010 10 (line % 256) else t

/-- A write of `pt_run` that is admitted: start the selected unit, or stop it with what it has counted; a NAND unit still waiting
for its bus has counted nothing. -/
def State.ptWrite (s : State) (v bits errors line : Nat) : State :=
  let u := s.reg 0x9010 1
  if v = 1 then (if (s.test.running.find? u).isSome then s else s.startUnit u)
  else if (s.test.running.find? u).isNone then s
  else if s.test.busWait.contains u then s.stopUnit u 3
  else
    let t := (s.countUnit u bits errors line).stopUnit u 3
    if 36 ≤ u ∧ u < 49 then t.leavePattern (u - 36) (s.patternRows bits) else t

/-- Every running unit stops as SAVE begins (R456). -/
def State.preemptUnits (s : State) : State :=
  if s.test.running = [] then s
  else ((s.test.running.map (·.1)).foldl (fun (t : State) u => (t.cutRows u).stopUnit u 4) s).note Code.testPreempted

/-- Units of a host link, and those of a Trestle port, stop when it is enabled (R456). -/
def State.stopLinkUnits (s : State) (i : Nat) : State :=
  ((s.test.running.map (·.1)).filter fun u => u < 32 && s.unitLink u == i).foldl (fun t u => t.stopUnit u 3) s

/-- Units of a Trestle port stop. -/
def State.stopPortUnits (s : State) (p : Nat) : State :=
  ((s.test.running.map (·.1)).filter fun u => decide (32 ≤ u) && decide (u < 36) && (u - 32) / 2 == p).foldl
    (fun t u => t.stopUnit u 3) s

/-- CHECKER_LOCK: a serial checker of a running unit locks. -/
def execCheckerLock (unit : Nat) (s : State) : Out :=
  .next (if unit < 36 ∧ (s.test.running.find? unit).isSome ∧ s.test.locked.contains unit = false then
      { s.fresh with test := { s.test with locked := s.test.locked ++ [unit] } }.setBreg unit 0x9010 6 2
    else s.idle)

/-- CHECKER_LOCK_LOSS: more than 32 errors in 1,024 bits. -/
def execCheckerLockLoss (unit bits errors : Nat) (s : State) : Out :=
  .next (if s.test.locked.contains unit ∧ 32 < errors then
      let t := ((s.fresh.countUnit unit bits errors 0).satUnit unit 9 1).setBreg unit 0x9010 6 1
      { t with test := { t.test with locked := t.test.locked.filter fun x => x != unit } }
    else s.idle)

/-! ### Margining (R449) -/

/-- Whether a margin run may start: the unit's port is in service. -/
def State.marginAllowed (s : State) (u : Nat) : Bool := s.inService ((u - 32) / 2)

/-- A write of `mg_run` that is admitted. -/
def State.marginWrite (s : State) (v : Nat) : State := s.setBreg (s.reg 0x9020 1) 0x9020 5 v

/-- MARGIN_RUN_COMPLETE: the last step that passed, at most the steps asked. -/
def execMarginRunComplete (unit firstFailing : Nat) (s : State) : Out :=
  .next (if s.breg unit 0x9020 5 = 1 ∧ 32 ≤ unit ∧ unit < 36 ∧ 0 < firstFailing then
      (s.fresh.setBreg unit 0x9020 6 (min (firstFailing - 1) (s.breg unit 0x9020 3))).setBreg unit 0x9020 5 0
    else s.idle)

/-! ### Boundary scan (R450, R451) -/

/-- What the instruction register captures. -/
def State.tapCapture (s : State) : Nat := 1 + 4 * s.test.refused.toNat + 8 * (decide (s.eflash.rdpLevel ≠ 0)).toNat

/-- Whether an instruction that drives or floats pins is allowed. -/
def State.pinsFree (s : State) : Bool :=
  (decide (s.ctl.mode = .dormant) && !s.ctl.retention) || s.ctl.testHold == 1

/-- Load an instruction, or BYPASS in its place; `data` is what its register shifts out. -/
def State.tapLoad (s : State) (opcode data : Nat) (allowed : Bool) : State :=
  let op := if allowed then opcode else 0xFF
  let t := { s with test := { s.test with instruction := op, refused := !allowed } }
  (if allowed then t else t.setReg 0x9002 0 opcode).emit (.tap op s.tapCapture (if allowed then data else 0))

/-- An instruction whose register holds pin or scan data: a free value. -/
def State.tapScan (s : State) (opcode : Nat) (allowed : Bool) : Out :=
  .next (s.fresh.drawn.tapLoad opcode (Config.free s.free) allowed)

/-- TAP_EXTEST. -/
def execTapExtest (s : State) : Out := s.tapScan 0x00 s.pinsFree

/-- TAP_IDCODE: the fused `jtag_idcode`. -/
def execTapIdcode (s : State) : Out := .next (s.fresh.tapLoad 0x01 (s.reg 0x9001 0) true)

/-- TAP_SAMPLE_PRELOAD. -/
def execTapSamplePreload (s : State) : Out := s.tapScan 0x02 true

/-- TAP_CLAMP. -/
def execTapClamp (s : State) : Out := .next (s.fresh.tapLoad 0x04 0 s.pinsFree)

/-- TAP_HIGHZ. -/
def execTapHighz (s : State) : Out := .next (s.fresh.tapLoad 0x05 0 s.pinsFree)

/-- TAP_EXTEST_PULSE. -/
def execTapExtestPulse (s : State) : Out := s.tapScan 0x06 s.pinsFree

/-- TAP_EXTEST_TRAIN. -/
def execTapExtestTrain (s : State) : Out := s.tapScan 0x07 s.pinsFree

/-- TAP_TEST_ACCESS: at read-out protection level 0 only. -/
def execTapTestAccess (s : State) : Out := s.tapScan 0x80 (decide (s.eflash.rdpLevel = 0))

/-- TAP_BYPASS. -/
def execTapBypass (s : State) : Out := .next (s.fresh.tapLoad 0xFF 0 true)

end Sys2Proof.Machine
end

