-- ==== Sys2Proof/Machine/Power.lean ====
section
/-! DEFINITION. Niura's alarms and warnings, and the sequencing of rails and groups (R296, R303, R305, R317 to R321, R326). -/

namespace Sys2Proof.Machine

/-! ### Alarms -/

/-- A bit of the store alarm is set; its change from 0 fires the STORE_ALARM wake source (R305, Table 13.3). -/
def State.alarmBit (s : State) (n : Nat) : State :=
  let old := s.reg 0x6080 0
  let t := s.setReg 0x6080 0 (if old / 2 ^ n % 2 = 1 then old else old + 2 ^ n)
  if old = 0 then t.fire 4 none else t

/-- The charger enters FAULT (R303): the alarm, and CHARGER_FAULT with its cause. A cause that comes in FAULT stands beside the one
that led there (R302). -/
def State.chargerFault (s : State) (cause : ChargerCause) : State :=
  let n := { s.niura with charger := .fault, faultBeats := 0,
                          faultTimeout := s.niura.faultTimeout || decide (cause = .timeout),
                          faultOver := s.niura.faultOver || decide (cause ≠ .timeout) }
  if s.niura.charger = .fault then { s with niura := n }
  else ({ s with niura := { n with chargeBeats := 0 } }.alarmBit 3).fault Code.chargerFault (Config.chargerCause cause.code) true

/-- The charger leaves FAULT for OFF, or stops. -/
def State.chargerOff (s : State) : State :=
  ({ s with niura := { s.niura with charger := .off, faultTimeout := false, faultOver := false, chargeBeats := 0 } }).condClear
    Code.chargerFault

/-- A charge timeout clears (R302): OFF, but an overvoltage that came beside it keeps FAULT until it has been absent for 1,000
beats. -/
def State.clearTimeout (s : State) : State :=
  if s.niura.charger = .fault ∧ s.niura.faultOver = true ∧ s.niura.faultBeats < 1000 then
    { s with niura := { s.niura with faultTimeout := false } }
  else s.chargerOff

/-- PF_WARN_N is asserted (R296): the Bureau's source 48, source 5 on every link that is up, and a PF_WARN record. -/
def State.warn (s : State) : State :=
  if s.niura.pfWarn then s
  else (({ s with niura := { s.niura with pfWarn := true } }.raiseSource 48).signalOn s.upLinks 5).note Code.pfWarn

/-! ### Rails -/

/-- Role of a rail (Table 12.8). -/
def State.railRole (s : State) (r : Nat) : Nat := s.reg (0x6400 + r) 1

/-- Unit of a rail. -/
def State.railUnit (s : State) (r : Nat) : Nat := s.reg (0x6400 + r) 2

/-- Group of a rail. -/
def State.railGroup (s : State) (r : Nat) : Nat := s.reg (0x6400 + r) 3

/-- Step of a rail. -/
def State.railStep (s : State) (r : Nat) : Nat := s.reg (0x6400 + r) 4

/-- State of a rail: 0 OFF, 1 ENABLING, 2 GOOD, 3 FAULT, 4 DISABLING. -/
def State.railState (s : State) (r : Nat) : Nat := s.reg (0x6400 + r) 7

/-- Change a rail's state. -/
def State.setRail (s : State) (r st : Nat) : State := s.setReg (0x6400 + r) 7 st

/-- Change the states of several rails. -/
def State.setRails (s : State) (rs : List Nat) (st : Nat) : State := rs.foldl (fun t r => t.setRail r st) s

/-- Rails that are fitted (R317). -/
def State.rails' (s : State) : List Nat := (List.range 32).filter fun r => s.railRole r != 0

/-- Whether a rail stays up because DRAM is retained (R318, R321). -/
def State.heldRail (s : State) (r : Nat) : Bool := s.railRole r == 3 && s.railState r == 2 && s.ctl.dramHeld

/-- State of a group: 0 DOWN, 1 SEQUENCING, 2 UP, 3 DISABLING, 4 PENDING_START. -/
def State.groupState (s : State) (g : Nat) : Nat := s.reg (0x6440 + g) 2

/-- Change a group's state. -/
def State.setGroup (s : State) (g st : Nat) : State := s.setReg (0x6440 + g) 2 st

/-- Rails of a group. -/
def State.groupRails (s : State) (g : Nat) : List Nat := s.rails'.filter fun r => s.railGroup r == g

/-- The least step at or above `k` among some rails. -/
def State.stepFrom (s : State) (rs : List Nat) (k : Nat) : Option Nat :=
  (List.range 32).find? fun i => decide (k ≤ i) && rs.any fun r => s.railStep r == i

/-- The greatest step among some rails. -/
def State.topStep (s : State) (rs : List Nat) : Option Nat :=
  ((List.range 32).filter fun i => rs.any fun r => s.railStep r == i).getLast?

/-- Rails of a step. -/
def State.atStep (s : State) (rs : List Nat) (k : Nat) : List Nat := rs.filter fun r => s.railStep r == k

/-- Rails that the power-up sequence enables: those of enabled groups. -/
def State.seqRails (s : State) : List Nat := s.rails'.filter fun r => s.reg (0x6440 + s.railGroup r) 1 == 1

/-! ### DORMANT -/

/-- Every link is Down, with its reads in flight discarded; the ingress buffers, which lose their power, keep nothing that
was not drained (DEDUCED from R321, log entry 32). -/
def State.linksDown (s : State) : State :=
  { s with
    links := s.links.map fun e => (e.1, { e.2 with state := .down, rate := 0, width := 0, gpfWait := false, severe := false }),
    ingress := { s.ingress with reads := [], writes := [], closed := true } }

/-- DORMANT: links down and Trestle stopped (Tables 1.6 and 13.2, R233); PF_ALARM is clear once SAVE or DORMANT has been left (Table 9.5). -/
def State.toDormant (s : State) : State :=
  let t := (s.setMode .dormant).closeGather
  let u := { t with
    ctl := { t.ctl with access := false, consents := 0, waking := false, tricklePeriod := false, finishing := false,
                        workersHalted := false },
    niura := { t.niura with alarm := t.niura.alarm && s.ctl.mode != Mode.save },
    trickle := { t.trickle with panic := false },
    sched := { t.sched with bursts := [] },
    dram := { t.dram with rebuilding := none, rebuildTouch := [] },
    save := { t.save with restoreState := 0, loading := 0, touch := [], touchWait := [], arm := 0 } }
  u.linksDown.trestleStop

/-! ### The power-up sequence (R318) -/

/-- The sequence ends: groups whose rails it brought up are UP. -/
def State.seqFinish (s : State) : State :=
  let t := (s.seqRails.map s.railGroup).eraseDups.foldl (fun (t : State) g => t.setGroup g 2) s
  { t with rails := { t.rails with dir := .idle, restarts := 0 } }.setReg 0x6464 0 0

/-- Run the steps from `k` on: the first with a rail that is not good is begun; `fuel` bounds the steps. -/
def State.seqRun : Nat → Nat → State → State
  | 0, _, s => s.seqFinish
  | fuel + 1, k, s =>
    match s.stepFrom s.seqRails k with
    | none => s.seqFinish
    | some i =>
      let need := (s.atStep s.seqRails i).filter fun r => s.railState r != 2
      if need = [] then State.seqRun fuel (i + 1) s
      else { s.setRails need 1 with rails := { s.rails with dir := .up, step := i, restarts := 0, waitFrom := s.clock.beat } }

/-- Start the power-up sequence. -/
def State.seqUp (s : State) : State :=
  State.seqRun 33 0 ({ s with rails := { s.rails with dir := .up, step := 0 } }.setReg 0x6464 0 1)

/-- Whether the power-up sequence has ended with its rails good. -/
def State.seqDone (s : State) : Bool :=
  decide (s.rails.dir = .idle) && s.reg 0x6464 0 == 0 && s.seqRails.all fun r => s.railState r == 2 || s.railState r == 3

/-! ### The power-down sequence (R318, R321) -/

/-- Rails that a power-down has still to take: not off, and not held for retained DRAM. -/
def State.downRails (s : State) (rs : List Nat) : List Nat := rs.filter fun r => s.railState r != 0 && !s.heldRail r

/-- A second failure halts the sequencer, and the W9620 stays in DORMANT, unless a save is armed, which takes precedence (R13);
a first one waits for the retry (R320). -/
def State.abortDone (s : State) : State :=
  let r := { s.rails with dir := SeqDir.idle, waitFrom := s.clock.beat }
  let t := { s with rails := r }
  if s.rails.retried then
    let u := t.setReg 0x6464 0 4
    if u.ctl.mode = .bringUp ∧ u.save.arm = 0 then u.toDormant else u
  else t.setReg 0x6464 0 3

/-- Every group with fitted rails is DOWN. -/
def State.groupsDown (s : State) : State :=
  ((List.range 16).filter fun g => !(s.groupRails g).isEmpty).foldl (fun (t : State) g => t.setGroup g 0) s

/-- The sequencer is idle. -/
def State.seqIdle (s : State) : State := { s with rails := { s.rails with dir := .idle } }.setReg 0x6464 0 0

/-- The sequence that went down has ended: an abort goes on, a BRING-UP that waited powers up. -/
def State.downDone (s : State) : State :=
  if s.rails.dir = .abortDown ∧ s.ctl.mode ≠ .dormant then s.groupsDown.abortDone
  else if s.ctl.mode = .bringUp then s.groupsDown.seqIdle.seqUp
  else s.groupsDown.seqIdle

/-- Begin the next step down, or end. -/
def State.downStep (s : State) : State :=
  match s.topStep (s.downRails s.rails') with
  | none => s.downDone
  | some i =>
    let r := { s.rails with step := i, waitFrom := s.clock.beat }
    let t := s.setRails (s.atStep (s.downRails s.rails') i) 4
    { t with rails := r }

/-- Take every rail down but those of retained DRAM, in reverse step order. -/
def State.seqDown (s : State) : State :=
  ({ s with rails := { s.rails with dir := .down, grace := [], retries := [] } }.setReg 0x6464 0 2).downStep

/-- Abort the power-up sequence (R320). -/
def State.seqAbort (s : State) : State :=
  ({ s with rails := { s.rails with dir := .abortDown } }.setReg 0x6464 0 2).downStep

/-! ### Groups (R326) -/

/-- A group's power-up goes on from a step. -/
def State.groupUp : Nat → Nat → Nat → State → State
  | 0, g, _, s => s.setGroup g 2
  | fuel + 1, g, k, s =>
    match s.stepFrom (s.groupRails g) k with
    | none => s.setGroup g 2
    | some i =>
      let need := (s.atStep (s.groupRails g) i).filter fun r => s.railState r != 2
      if need = [] then State.groupUp fuel g (i + 1) s else (s.setRails need 1).setGroup g 1

/-- The step down of a group, or its end: DOWN, or its pending start. -/
def State.groupDownStep (s : State) (g : Nat) : State :=
  match s.topStep (s.downRails (s.groupRails g)) with
  | none => if s.groupState g = 4 then State.groupUp 33 g 0 s else s.setGroup g 0
  | some i => s.setRails (s.atStep (s.downRails (s.groupRails g)) i) 4

/-- Take a group down; retries of its rails are cancelled (R327). -/
def State.groupShut (s : State) (g : Nat) : State :=
  if s.groupState g = 3 ∨ s.groupState g = 4 then s
  else
    let t := { s with rails := { s.rails with retries := s.rails.retries.filter fun e => s.railGroup e.1 != g,
                                              grace := s.rails.grace.del g } }
    (t.setGroup g 3).groupDownStep g

/-- A write of `group_enable` (R326, R346). -/
def State.groupEnable (s : State) (g v : Nat) : State :=
  let t := s.setReg (0x6440 + g) 1 v
  if v = 0 then
    if t.groupState g = 4 then t.setGroup g 3
    else if t.groupState g = 1 ∨ t.groupState g = 2 then t.groupShut g else t
  else if t.groupState g = 3 then t.setGroup g 4
  else if t.groupState g = 0 ∧ t.ctl.mode ≠ .dormant ∧ t.rails.dir = .idle then State.groupUp 33 g 0 t
  else t

/-! ### Rows of the sequencer -/

/-- A rail has held its good input high long enough. -/
def State.railGood (s : State) (r : Nat) : State :=
  let again : Map (Nat × Nat) := match s.rails.retries.find? r with
    | some (n, _) => s.rails.retries.put r (n, s.clock.beat)
    | none => s.rails.retries
  let t := { s with rails := { s.rails with retries := again } }.setRail r 2
  let u := if s.railState r = 3 ∧ (s.rails'.any fun q => q != r && s.railState q == 3) = false then t.condClear Code.railFault else t
  if u.rails.dir = .up ∧ u.railStep r = u.rails.step then
    (if (u.atStep u.seqRails u.rails.step).all fun q => u.railState q == 2 then State.seqRun 33 (u.rails.step + 1) u else u)
  else if u.groupState (u.railGroup r) = 1 then State.groupUp 33 (u.railGroup r) 0 u
  else u

/-- RAIL_STABLE: a rail being enabled, or a faulty one that is good again. -/
def execRailStable (rail : Fin 32) (s : State) : Out :=
  .next (if s.railState rail.val = 1 ∨ s.railState rail.val = 3 then s.fresh.railGood rail.val else s.idle)

/-- Rails going down are off (R318): the whole sequence goes on, or each group that goes down. -/
def State.railsOff (s : State) : State :=
  if s.rails.dir = .down ∨ s.rails.dir = .abortDown then
    (s.setRails (s.rails'.filter fun r => s.railState r == 4) 0).downStep
  else
    let gs := (List.range 16).filter fun g => s.groupState g == 3 || s.groupState g == 4
    let t := s.setRails (s.rails'.filter fun r => s.railState r == 4 && gs.contains (s.railGroup r)) 0
    gs.foldl State.groupDownStep t

/-- RAIL_DOWN. -/
def execRailDown (s : State) : Out :=
  .next (if s.rails'.any fun r => s.railState r == 4 then s.fresh.railsOff else s.idle)

/-- PG_GLITCH (R319): the rail's timer restarts; too many restarts in a step are CHATTER, and the sequence is aborted. -/
def State.glitch (s : State) (r : Nat) : State :=
  let n := s.rails.restarts + 1
  if s.rails.dir = .up ∧ s.railStep r = s.rails.step then
    if s.reg 0x6461 0 < n then (((s.setReg 0x6466 0 r).fault Code.chatter r)).seqAbort
    else { s with rails := { s.rails with restarts := n } }
  else s

/-- PG_GLITCH: on a rail whose stable timer runs. -/
def execPgGlitch (rail : Fin 32) (s : State) : Out :=
  .next (if s.railState rail.val = 1 then s.fresh.glitch rail.val else s.idle)

/-- SEQ_TIMEOUT: a step outlasts its `step_timeout_beats`. -/
def execSeqTimeout (s : State) : Out :=
  .next (if s.rails.dir = .up ∧ s.reg (0x6420 + s.rails.step) 1 ≤ s.clock.beat - s.rails.waitFrom then
      let late := ((s.atStep s.seqRails s.rails.step).find? fun r => s.railState r != 2).getD 0xFF
      ((s.fresh.setReg 0x6466 0 late).faultOpen Code.seqTimeout).seqAbort
    else s.idle)

/-- SEQ_RETRY_WAIT_END: 10,000 beats after the last rail was down (R320). -/
def execSeqRetryWaitEnd (s : State) : Out :=
  .next (if s.reg 0x6464 0 = 3 ∧ 10000 ≤ s.clock.beat - s.rails.waitFrom ∧ s.ctl.mode = .bringUp then
      { s.fresh with rails := { s.rails with retried := true } }.seqUp
    else s.idle)

/-- RETRY_RAIL_EXPIRE: a retried rail is enabled again after 100 beats (Table 12.7). -/
def execRetryRailExpire (rail : Fin 32) (s : State) : Out :=
  .next (match s.rails.retries.find? rail.val with
    | some (_, b) =>
      if s.railState rail.val = 0 ∧ 100 ≤ s.clock.beat - b then s.fresh.setRail rail.val 1 else s.idle
    | none => s.idle)

end Sys2Proof.Machine
end

