-- ==== Sys2Proof/Machine/Reset.lean ====
section
/-! DEFINITION. The way through DORMANT and BRING-UP, and the five resets but for the HOST reset (R294, R330, R331,
R339 to R345, R433, R437). -/

namespace Sys2Proof.Machine

/-! ### DORMANT -/

/-- Enter DORMANT: every rail goes down but those of retained DRAM (R321). -/
def State.enterDormant (s : State) : State := s.toDormant.seqDown

/-! ### BRING-UP -/

/-- Links that BRING-UP trains: formed, enabled, and not in recovery mode (R70, R439). -/
def State.trainLinks (s : State) : State :=
  if s.ctl.recovery then s
  else
    let is := linkNos.filter fun i => s.layout.formed i && decide (s.reg 0x2005 (i + 1) ≠ 0)
    { s with links := is.foldl (fun m i => m.put i { m.get i Link.reset with state := .training }) s.links }

/-- Begin BRING-UP (R331): rails are sequenced, links train, DRAM is to be trained or fast-booted, and requests are held in
ingress (R52). -/
def State.startBringUp (s : State) : State :=
  let t := s.setMode .bringUp
  let u := { t with ctl := { t.ctl with stopped := false, access := false }, ingress := { t.ingress with closed := false },
                    niura := { t.niura with alarm := t.niura.alarm && s.ctl.mode != Mode.dormant },
                    save := { t.save with startBeat := t.clock.beat, restoreState := 0, loading := 0, state := .idle } }
  (u.trainLinks.dramStart).seqUp

/-- Whether the sequencer holds BRING-UP off (R320). -/
def State.seqHalted (s : State) : Bool := s.reg 0x6464 0 == 4

/-- Input good (R294): DORMANT is left for BRING-UP, but not after a seal or a trip that keeps it (R276, R469), and not
while `seq_state` reads HALTED. Each BRING-UP from DORMANT raises `start_count` (R220). -/
def State.inputIsGood (s : State) : State :=
  let t := { s with niura := { s.niura with inputGood := true } }
  if t.ctl.mode = .dormant ∧ t.ctl.haltLock = false ∧ t.seqHalted = false then
    ((t.toInput).trestleRestart).startBringUp
  else t

/-- A write of 1 to `seq_retry_request` leaves HALTED (R320); where the input is good, nothing holds BRING-UP off any more. -/
def State.seqRetry (s : State) : State :=
  if s.reg 0x6464 0 = 4 then
    let t := { s with rails := { s.rails with retried := false } }.setReg 0x6464 0 0
    if t.niura.inputGood then t.inputIsGood else t
  else s

/-- INPUT_GOOD: the comparator output has been high for `input_good_beats` (R294). CUTOFF is left only through a POWER-ON reset (Table
12.2). -/
def execInputGood (s : State) : Out :=
  .next (if s.ctl.vaux = true ∧ s.niura.high = true ∧ s.niura.inputGood = false ∧ s.reg 0x6003 0 ≤ s.niura.highBeats ∧
      s.niura.supply ≠ .cutoff
    then s.fresh.inputIsGood else s.idle)

/-- BRING-UP stops without leaving the mode (R331). -/
def State.stopBringUp (s : State) : State := { s with ctl := { s.ctl with stopped := true } }

/-- Whether NAND holds an image (R281 step 3): a save, or a checkpoint. -/
def State.imagePresent (s : State) : Bool := s.liveImage.isSome || s.liveCheckpoint.isSome

/-- DRAM content is retained: by the retention flag, or across a COLD reset (Table 13.1). -/
def State.retained (s : State) : Bool := s.ctl.dramHeld && (s.ctl.retention || s.ctl.afterCold)

/-- Whether the population of a channel lies within Table 10.1 (R238). -/
def nandSupported (p : NandPop) : Bool :=
  decide (6 ≤ p.targets) && decide (p.targets ≤ 8) && p.spareTargets == 1 && [1, 2, 4].contains p.lunsPerTarget && p.planes == 4 &&
    p.mainBytes == 16384 && decide (2048 ≤ p.spareBytes) && decide (256 ≤ p.pages) && decide (p.pages ≤ 4096) &&
    decide (1800 ≤ p.rateMts) && decide (p.rateMts ≤ 3600) && p.fromCe0 && p.features && p.pslc

/-- Whether the NAND found is supported (R239, R240): 18 channels fitted identically, each within Table 10.1, and a profile selected
that the image holds. -/
def State.nandGood (s : State) (b : BringUpInputs) : Bool :=
  b.nand.length == 18 && b.nand.all nandSupported && b.nand.all (fun p => some p == b.nand.head?) &&
    (b.profiles.find? (s.reg 0x5001 0)).isSome

/-- The erase units that hold a block marked bad (R241, R259). -/
def badUnits (b : BringUpInputs) : List Nat := (b.badBlocks.map fun e => unitKey e.1.val e.2.1 e.2.2.1).eraseDups

/-- The root erase units: the first two good ones of LUN index 0 on channels 0 and 9 (R253). -/
def rootUnits (units : Nat) (bad : List Nat) : List Nat :=
  [0, 9].flatMap fun c => (((List.range units).map (unitKey c 0)).filter fun k => !bad.contains k).take 2

/-- pSLC capacity (R241): main-area bytes of every image block, less the root erase units and the blocks marked bad. -/
def pslcCapacity (p : NandPop) (bad : List (Fin 18 × Nat × Nat × Fin 4)) : Nat :=
  (18 * p.targets * p.lunsPerTarget * p.blocks * 4 - 16 - bad.eraseDups.length) * p.pages * 16384

/-- What the parameter pages and the profile give (R239 to R241, R247): segments exclude the root erase units (R253). An erase that
was cut short is done again (R258). -/
def State.nandFound (s : State) (b : BringUpInputs) : State :=
  match b.nand.head? with
  | none => s
  | some p =>
    let bad := badUnits b
    let s1 := (((s.setReg 0x5002 1 p.targets).setReg 0x5002 2 p.lunsPerTarget).setReg 0x5002 3 p.pages).setReg 0x5003 0
      (pslcCapacity p b.badBlocks)
    let s2 := { s1 with nand := { s1.nand with
      unitsPerLun := p.blocks, bad := bad, roots := rootUnits p.blocks bad, profile := b.profiles.find? (s.reg 0x5001 0) } }
    let none' := { s2 with nand := { s2.nand with units := [], channelsFailed := [], lunsFailed := [] } }
    let s3 := s2.setReg 0x5005 0 none'.segmentsFree
    (s3.nand.cutErases.foldl State.eraseSegment s3).wearUpdate

/-- Bus time of a program unit, in ns (R242). -/
def xferNs (rateMbs : Nat) : Nat := 73728 * 1000 / rateMbs

/-- Image LUNs a channel needs to keep its bus saturated (R242). -/
def lunsNeeded (rateMbs tprogNs : Nat) : Nat := ceilDiv (xferNs rateMbs + tprogNs) (xferNs rateMbs)

/-- Image data per second of a save (R242): the full rate, or the lower one of too few LUNs. -/
def saveRate (rateMbs tprogNs luns : Nat) : Nat :=
  if luns < lunsNeeded rateMbs tprogNs then 16 * luns * 65536 * 1000000000 / (xferNs rateMbs + tprogNs)
  else 16 * 65536 * 1000000000 / xferNs rateMbs

/-- The save rate, and NAND_RATE_SHORT when a channel has too few LUNs (R242). -/
def State.rateCheck (s : State) (b : BringUpInputs) : State :=
  match b.nand.head?, s.nand.profile with
  | some p, some f =>
    let luns := p.targets * p.lunsPerTarget
    (s.setReg 0x5004 0 (saveRate p.rateMts f.tprogNs luns)).conditionOpen Code.nandRateShort
      (decide (luns < lunsNeeded p.rateMts f.tprogNs))
  | _, _ => s

/-- Channel capacity in GiB (Table 6.1): 16 data devices × density × ranks × height. -/
def popGiB (b : BringUpInputs) : Nat := 2 * b.densityGbit * b.ranks * b.height

/-- Whether the population found lies within Table 6.1 (R115). -/
def popSupported (b : BringUpInputs) : Bool :=
  b.deviceWidth == 4 && b.devices == 10 && [16, 24, 32].contains b.densityGbit && [1, 2].contains b.ranks &&
    [1, 2, 4, 8].contains b.height && [64, 96, 128, 192, 256].contains (popGiB b)

/-- A layout over the population found. -/
def Layout.found (l : Layout) (b : BringUpInputs) : Layout :=
  { l with channelMiB := 1024 * popGiB b, ranks := b.ranks, height := b.height }

/-- The layout that the entries ask for, over the population found (R81, R82). -/
def State.wantedLayout (s : State) (b : BringUpInputs) : Layout :=
  { s.layout.found b with grain := s.reg 0x2400 1, journalBytes := s.reg 0x2410 0, mirrorBytes := s.reg 0x2411 0 }

/-- A leaf table cut to `n` leaves, in which those from `old` on are new and CLEAN (R82). -/
def LeafTable.resize (t : LeafTable) (old n : Nat) : LeafTable :=
  let kept := t.exc.filter fun e => decide (e.1 < n)
  { t with exc := if t.base = .clean then kept else kept ++ (List.range (n - old)).map fun i => (old + i, LeafState.clean) }

/-- A layout takes effect: leaves at or above the new capacity go with their flash copies, and new ones start CLEAN and read
zero (R82, Table 10.5). The first population found brings no new leaf. -/
def State.takeLayout (s : State) (l : Layout) : State :=
  let n := l.leaves
  let old := if s.layout.leaves = 0 then n else s.layout.leaves
  let gone := (s.nand.copies.map (·.1)).filter fun f => decide (n ≤ f)
  let t := { s with layout := l }
  let u := gone.foldl State.unmapLeaf t
  { u with leaves := u.leaves.resize old n,
           ctl := { u.ctl with newFrom := if old < n then some old else u.ctl.newFrom },
           delta := { u.delta with snapshot := u.delta.snapshot.resize old n,
                                   records := u.delta.records.map fun r => if r.leaf < n then r else { r with leaf := r.leaf, state := .clean },
                                   lazy := u.delta.lazy.filter fun r => decide (r.1 < n) },
           mem := u.mem.filter fun c => decide (c.1 < l.hostVisible),
           poison := u.poison.filter fun e => decide (e.1 * 64 < l.hostVisible) }

/-- The bank hash of the entries takes effect, after a COLD or POWER-ON reset (R111). -/
def State.takeHash (s : State) : State :=
  if s.ctl.afterReset then
    { s with ctl := { s.ctl with hashPending := false },
             layout := { s.layout with
      hashEnable := s.reg 0x3030 1 == 1,
      hashMasks := [(2, s.reg 0x3030 2), (3, s.reg 0x3030 3), (4, s.reg 0x3030 4), (5, s.reg 0x3030 5), (6, s.reg 0x3030 6)] } }
  else s

/-- Take the D values of a copy with a higher generation than those in force. -/
def State.takeD (s : State) (g : Nat) (vs : Map Nat) : State :=
  if s.reg 0xA003 0 < g then
    { s with regs := vs.foldl (fun (m : Map Nat) (e : Nat × Nat) => Map.put m e.1 e.2) s.regs }.setReg 0xA003 0 g
  else s

/-- The D values in force take the place of an older copy in the save head and in the checkpoint. -/
def State.writeBackD (s : State) : State :=
  let g := s.reg 0xA003 0
  { s with nand := { s.nand with
      image := s.nand.image.map fun i =>
        if s.liveImage.isSome ∧ i.dGeneration < g then { i with dGeneration := g, dValues := s.dValues } else i,
      rootRecs := s.nand.rootRecs.map fun r => { r with checkpoint := r.checkpoint.map fun c =>
        if s.liveCheckpoint.isSome ∧ c.dGeneration < g then { c with dGeneration := g, dValues := s.dValues } else c } } }

/-- The copy of the D values with the higher generation governs: embedded flash, the latest checkpoint or the latest save head
(R353). It is written back over the others. -/
def State.adoptD (s : State) : State :=
  let t := match s.liveCheckpoint with | some c => s.takeD c.dGeneration c.dValues | none => s
  match s.liveImage with
  | some i => (t.takeD i.dGeneration i.dValues).writeBackD
  | none => t.writeBackD

/-- The bucket of an hour's tokens at the rate in force. -/
def State.fullTokens (s : State) : State :=
  { s with trickle := { s.trickle with tokens := (s.trickle.rate : Int) * 3600 } }

/-- The wear bucket starts full after a POWER-ON reset (R158). -/
def State.fillTokens (s : State) : State :=
  if s.trickle.rate = 0 then (s.wearRecompute).fullTokens else s.wearRecompute

/-- A SHORT save whose DRAM never lost power is recorded with the leaves it left out (R276). -/
def State.shortRetained (s : State) : State :=
  match s.nand.image with
  | some i =>
    (match i.sealRecord with
      | some r => if r.complete then s else s.note Code.saveShortRetained [r.newlyLost % 2 ^ 32]
      | none => s)
  | none => s

/-- A save that ends without its seal leaves in flash what it has credited (R277). -/
def State.saveCut (s : State) : State :=
  match s.nand.image with
  | some i =>
    if s.ctl.mode = .save ∧ i.epoch = s.reg 0x5402 0 ∧ i.sealRecord.isNone then
      { s with nand := { s.nand with image := some { i with credited := s.save.credited } } }
    else s
  | none => s

/-- Host access opens at the end of BRING-UP with DRAM retained: leaf states and tables come from the Cupboard, and heat
words start anew (R152, R199, Table 13.6). -/
def State.reopen' (s : State) : State :=
  let t := { s with leaves := s.reloadLeaves, heat := [],
                    heatBase := { old := false, last := s.nowMs % 32768, heat := 0 } }
  let left := decide (0 < t.leafCount .unrestored)
  let m : Mode := if left ∨ s.ctl.coldInRestore = true then .restore else .online
  let u := t.restoreBegins.setMode m
  let v := { u with ctl := { u.ctl with access := true, dramHeld := true, afterCold := false, coldInRestore := false,
                                        retention := false, newFrom := none },
                    save := { u.save with restoreState := if m = Mode.restore then 3 else 0, loading := 2 },
                    ingress := { u.ingress with closed := false },
                    trestle := { u.trestle with loaded := true } }
  (((((v.rebuildGo).copyAgain).resumeStore).recordFences).imageResumed).serveHeld

/-- No image: ONLINE with every leaf CLEAN (R281 step 3). -/
def State.openEmpty (s : State) : State :=
  let t := ((s.takeMap []).emptyImage).setMode .online
  let u := { t with ctl := { t.ctl with access := true, dramHeld := true, afterCold := false, coldInRestore := false,
                                        retention := false, newFrom := none },
                    heat := [], heatBase := { old := false, last := s.nowMs % 32768, heat := 0 },
                    ingress := { t.ingress with closed := false },
                    trestle := { t.trestle with loaded := true } }
  (((if u.reg 0x3450 0 = 2 then u.rebuildDone else u).copyAgain).imageResumed).serveHeld

/-- An image is restored from flash (R281 step 4). -/
def State.toRestore (s : State) : State :=
  let t := s.restoreBegins.setMode .restore
  { t with ctl := { t.ctl with access := false, dramHeld := false, afterCold := false, coldInRestore := false,
                               retention := false },
           heat := [], heatBase := { old := false, last := s.nowMs % 32768, heat := 0 },
           save := { t.save with restoreState := if t.security.locked then 1 else 2, loading := 0 } }

/-- The outcome of BRING-UP (R331 step 5, Table 13.1). -/
def State.bringUpOutcome (s : State) : State :=
  let t := s.setReg 0x5430 0 s.ctl.retention.toNat
  if t.retained then (if t.ctl.retention then t.shortRetained.reopen' else t.reopen')
  else if t.imagePresent then t.toRestore
  else t.openEmpty

/-- Whether DRAM is ready (R331 step 3): each channel that serves data and the spare has been trained or verified since this
BRING-UP began (R117, R119, R120), each requalification has ended (R144), and no logical channel waits for a search (R142) or
stands on a channel that failed its training (log entry 42). -/
def State.dramReady (s : State) : Bool :=
  ((List.range 13).all fun c => s.chanState c == 3 || s.chanState c == 4 || s.dram.ready.contains c) &&
    s.dram.requalifying.isEmpty &&
    (List.range 12).all fun d => s.chanState (s.physical d) != 3 && s.chanState (s.physical d) != 4

/-- BRING-UP need not wait for DRAM: it will stop (R15, R115, R143). -/
def State.willStop (s : State) (b : BringUpInputs) : Bool :=
  !b.channelsMatch || !popSupported b || (!s.dram.uncovered.isEmpty && s.dram.requalifying.isEmpty)

/-- A reset's layout change and bank hash belong to its own BRING-UP (R82, R111). -/
def State.resetSpent (s : State) : State := { s with ctl := { s.ctl with layoutOk := false, afterReset := false } }

/-- Steps 3 to 5 of BRING-UP once the population is good. -/
def State.bringUpRest (s : State) (b : BringUpInputs) : State :=
  let old := s.layout.found b
  let wanted := s.wantedLayout b
  let change := s.layoutPending && s.ctl.layoutOk
  let s1 := (s.nandFound b).rateCheck b
  let short := fun (l : Layout) => decide (s1.reg 0x5003 0 * 10 < l.hostVisible * 16)
  if short old || (change && short wanted) then (s1.faultOpen Code.nandCapacityShort true).stopBringUp
  else
    let s2 := ((s1.condClear Code.nandCapacityShort).takeLayout (if change then wanted else old)).takeHash
    let s3 := s2.hardRepairs
    if s3.ctl.testHold = 1 then s3.stopBringUp
    else
      let s4 := ((s3.adoptD).fillTokens).openAll
      let s5 := (s4.confirmImage).settingsFormat s4.security.settingsFormat
      s5.resetSpent.bringUpOutcome

/-- BRING_UP_COMPLETE: the checks of R15, R115, R143, R239 and R241, then the outcome. -/
def State.bringUpComplete (s : State) (b : BringUpInputs) : State :=
  if b.channelsMatch = false then (s.faultOpen Code.populationMismatch true).stopBringUp
  else if popSupported b = false then (s.faultOpen Code.populationUnsupported true).stopBringUp
  else if s.dram.uncovered ≠ [] then (s.faultOpen Code.channelUncovered true).stopBringUp
  else if s.nandGood b = false then
    (s.faultOpen Code.nandPopulationUnsupported true).stopBringUp
  else s.bringUpRest b

/-- BRING_UP_COMPLETE (R331): the rails are good, the programmable elements are loaded and DRAM is trained. -/
def execBringUpComplete (b : BringUpInputs) (s : State) : Out :=
  .next (if s.ctl.mode = .bringUp ∧ s.ctl.stopped = false ∧ s.ctl.recovery = false ∧ s.seqDone = true ∧ s.save.arm = 0 ∧
      (s.dramReady = true ∨ s.willStop b = true)
    then s.fresh.bringUpComplete b else s.idle)

/-! ### COLD and POWER-ON resets -/

/-- Code of a COLD reset's cause in `last_reset` (Table 13.9); where two fall together the lesser of Table 13.8 stands. -/
def coldCode : ColdCause → Nat
  | .pin => 1 | .command => 2 | .rail => 3 | .bureauInBringUp => 5 | .rdpLowered => 6 | .recoveryActivate => 7

/-- Whether a stored value outlasts a COLD reset (R352, Table 13.6): every class but V, the always-on domain's entries of
Niura, and the live state of DRAM channels, windows, NAND and core pairs. -/
def keptCold (k : Nat) : Bool :=
  let idx := k / 256 % 65536
  let sub := k % 256
  (match rowOf idx sub with | some r => r.keep != .v | none => true) ||
  (decide (0x6000 ≤ idx) && decide (idx ≤ 0x6466) && !(decide (0x6440 ≤ idx) && decide (idx ≤ 0x644F) && sub == 1)) ||
  (decide (0x5002 ≤ idx) && decide (idx ≤ 0x5006)) || idx == 0x5040 || (idx == 0x3450 && decide (sub ≤ 1)) ||
  (decide (0x2500 ≤ idx) && decide (idx ≤ 0x253F) && sub == 5) ||
  (decide (0x3420 ≤ idx) && decide (idx ≤ 0x342C) && sub == 4) ||
  (decide (0x7800 ≤ idx) && decide (idx ≤ 0x7804) && sub == 1)

/-- Whether a stored value outlasts a POWER-ON reset: every class but V; sparing goes on with the channel states (R135, R143);
failed pairs are known for their self-test. -/
def keptPowerOn (k : Nat) : Bool :=
  let idx := k / 256 % 65536
  let sub := k % 256
  (match rowOf idx sub with | some r => r.keep != .v | none => true) || (idx == 0x3450 && decide (sub ≤ 1)) ||
  (decide (0x7800 ≤ idx) && decide (idx ≤ 0x7804) && sub == 1)

/-- A link after a COLD reset: its messages, logs and label storage stay (Table 13.6, R69). -/
def Link.cold (l : Link) : Link :=
  { Link.reset with pend := l.pend, logs := l.logs, deferred := l.deferred, lsa := l.lsa, shutdownState := l.shutdownState }

/-- Test hold of a reset (R452): 1 HOLDING, 2 REFUSED. -/
def State.holdTest (s : State) : State :=
  if s.reg 0x9000 1 = 0 then { s with ctl := { s.ctl with testHold := 0 } }
  else if s.reg 0x2400 3 = 1 ∧ s.eflash.rdpLevel = 0 then { s with ctl := { s.ctl with testHold := 1 } }
  else { s with ctl := { s.ctl with testHold := 2 } }.faultOpen Code.testHoldRefused

/-- Steps 2 to 4 of R341: ingress drains, copies and programs stop, open segments close, and the ring is flushed. -/
def State.coldDrain (s : State) : State :=
  let t := if s.ctl.access then s.drainIngress.uncopy else s
  let u := t.flushRing.cutTests
  { u with nand := u.storeCut }

/-- Step 6 of R341: the logic outside the always-on domain is reset. -/
def State.coldLogic (s : State) : State :=
  { s with
    regs := s.regs.filter fun e => keptCold e.1
    links := s.links.map fun e => (e.1, e.2.cold)
    ingress := { s.ingress with reads := [], closed := true }
    sched := Sched.reset
    dram := { s.dram with ready := [], training := [], retrain := none, queue := [], gathered := [], gatherClosed := [],
                          gather := none, deferredRate := [], served := [], dqsAt := [], dqs := [], corrected := [],
                          rewritten := [], rowErrors := [], rowUe := [], rebuilding := none, rebuildTouch := [],
                          copyPtr := if s.reg 0x3450 0 = 1 then 0 else s.dram.copyPtr }
    delta := { s.delta with lazy := [], writing := none, block := 0 }
    trickle := { Trickle.reset with tokens := s.trickle.tokens, rate := s.trickle.rate, horizonPassed := s.trickle.horizonPassed,
                                    lastHour := s.trickle.lastHour, saveDue := s.trickle.saveDue,
                                    dueBeat := s.trickle.dueBeat }
    groups := { s.groups with cache := [], slots := s.groups.slots.map fun e => (e.1, { e.2 with mail := [] }) }
    save := { Save.reset with startBeat := s.save.startBeat }
    dict := { Dict.reset with nextGen := s.dict.nextGen }
    chest := { s.chest with ring := [], unspooled := 0, tokens := [], suppressed := [] }
    bureau := { s.bureau with level := [], active := [], since := [], line := [] }
    eflash := { s.eflash with lowerArm := none }
    security := { s.security with sessions := [], frozen := false, revokeArm := none, svcRate := 0, svcNext := none,
                                  lastSeq := none, lastResponse := [], busAddress := none,
                                  staticAddress := s.reg 0x8422 0 }
    test := { s.test with running := [], locked := [], busWait := [], injDue := [] } }

/-- The mode and its flags after step 6. -/
def State.coldControl (s : State) : State :=
  let fresh := decide (s.ctl.mode = .bringUp ∨ s.ctl.mode = .dormant)
  { s with
    ctl := { s.ctl with
      access := false, coldPending := none, haltLock := false, stopped := false, recovery := false, bureauReload := false,
      consents := 0, waking := false, workersHalted := false, tricklePeriod := false, periodFrom := 0, periods := [],
      finishing := false, blockBusy := [], blockLatched := [], afterCold := true, afterReset := true,
      coldInRestore := if fresh then s.ctl.coldInRestore else decide (s.ctl.mode = .restore) }
    layout := { s.layout with headA := s.reg 0x2000 1, headB := s.reg 0x2000 2 }
    rails := { s.rails with retried := false } }

/-- Niura leaves REHEARSE and TEST, and a charge timeout clears (R302); HALTED is left (R320). -/
def State.coldNiura (s : State) : State :=
  let t := if s.niura.supply = .rehearse then s.toInput
    else if s.niura.supply = .test then { s with niura := { s.niura with healthTrial := false } }.toInput
    else s
  let u := if t.niura.charger = .fault ∧ t.niura.faultTimeout = true then t.clearTimeout else t
  if u.seqHalted then u.setReg 0x6464 0 0 else u

/-- What both resets start: embedded flash, the boot ROM, the core pairs, the media key and test hold (R264, R393, R414,
R429, R452). -/
def State.startUp (s : State) : State :=
  let t := (((s.flashStart).bootRom true).requalifyPairs).holdTest
  if t.nand.keyPresent then t else t.newKey

/-- BRING-UP begins if the input is good, HOLDUP being left for INPUT with it (R297), or DORMANT is entered otherwise. -/
def State.coldEnd (s : State) : State :=
  if s.niura.inputGood then (if s.niura.supply = .holdup then s.toInput else s).startBringUp else s.enterDormant

/-- A COLD reset (R341, R343): latched in SAVE and while a SAVE is armed, which goes first (R13), one reset where two fall
together. -/
def State.coldReset (s : State) (cause : ColdCause) : State :=
  if s.ctl.mode = .save ∨ s.save.arm ≠ 0 then
    (if s.ctl.coldPending = none then { s with ctl := { s.ctl with coldPending := some cause } } else s)
  else
    let ok := if s.ctl.dramHeld then s.groups.slots.all (fun e => e.2.state == .free) && s.groups.decisions.isEmpty
      else s.imageFree
    let t := { s with ctl := { s.ctl with layoutOk := ok } }
    let u := (((((t.coldDrain).coldControl).coldLogic).coldNiura).setReg 0x1101 0 (coldCode cause)).addReg 0x1102 2 1
    ((u.takeRequalify.trestleStart).startUp).coldEnd

/-- A COLD reset latched in SAVE is applied when SAVE ends (R280). -/
def State.coldLatched (s : State) : State :=
  match s.ctl.coldPending with
  | some c => s.coldReset c
  | none => s

/-- COLD_RESET: by the pin, or by another of its triggers (Table 13.5). -/
def execColdReset (cause : ColdCause) (s : State) : Out :=
  .next (if s.ctl.vaux then s.fresh.coldReset cause else s.idle)

/-- The highest Chest sequence that outlasts power (R381). -/
def State.chestResume (s : State) : Nat :=
  let spool := (s.chest.eflash.map fun e => e.2.seq + 1).foldl max 0
  let sealed : Nat := match s.nand.image with
    | some i => (match i.sealRecord with | some r => r.chestSeq + 1 | none => 0)
    | none => 0
  max s.chest.mark (max spool sealed)

/-- Whether the latest save lets a layout change take effect at a POWER-ON reset (R82). -/
def State.savedFree (s : State) : Bool :=
  match s.liveImage with
  | some i => (i.outcome == 1 || i.outcome == 2) && i.slotsFree && !i.resumed
  | none => false

/-- DRAM channel work that outlasts power, as the channel states do (R135): records and repairs, searches, a copy, which begins at
offset 0 again (log entry 45), a rebuild and uncovered channels (R142, R143). -/
def State.dramKept (s : State) : Dram :=
  { Dram.reset with
    records := s.dram.records, shared := s.dram.shared, evicted := s.dram.evicted, trainAt := s.dram.trainAt,
    soft := s.dram.soft, search := s.dram.search, copyWanted := s.dram.copyWanted, target := s.dram.target,
    lostLogical := s.dram.lostLogical, requalifying := s.dram.requalify, uncovered := s.dram.uncovered }

/-- Everything but what non-volatile memory holds is reset (R339, Table 13.6). -/
def State.powerLost (s : State) : State :=
  let seq := s.chestResume
  { State.reset with
    pending := s.pending
    free := s.free
    regs := s.regs.filter fun e => keptPowerOn e.1
    layout := { s.layout with headA := s.reg 0x2000 1, headB := s.reg 0x2000 2 }
    links := s.links.map fun e => (e.1, { Link.reset with lsa := e.2.lsa, shutdownState := e.2.shutdownState })
    trickle := { Trickle.reset with horizonPassed := s.trickle.horizonPassed, lastHour := s.trickle.lastHour,
                                    saveDue := s.trickle.saveDue }
    nand := { s.storeCut with rebuildPaused := decide (s.nand.rebuild ≠ []) }
    dram := s.dramKept
    niura := { Niura.reset with switchedOut := s.niura.switchedOut }
    chest := { Chest.reset with nextSeq := seq, mark := (seq / 65536 + 1) * 65536, eflash := s.chest.eflash,
                                spoolSector := s.chest.spoolSector, spoolUsed := s.chest.spoolUsed }
    bureau := { s.bureau with level := [], active := [], since := [], line := [], takeover := [] }
    eflash := { s.eflash with lowerArm := none, brownout := false }
    security := { s.security with
      locked := s.security.userPass.isSome, frozen := false, attempts := 0, sessions := [], revokeArm := none, svcRate := 0,
      svcNext := none, lastSeq := none, lastResponse := [], busAddress := none, staticAddress := s.reg 0x8422 0 }
    ctl := { Control.reset with vaux := true, recovery := false, layoutOk := s.savedFree } }

/-- A POWER-ON reset (R339, R463): DORMANT, with the boot ROM's choice made and the start counted. -/
def State.powerOn (s : State) : State :=
  let t := ((s.powerLost).addReg 0x1102 1 1).trestleStart
  (t.startUp).trestleStop

/-- POWER_ON_RESET: VAUX rises through 2.90 V. -/
def execPowerOnReset (s : State) : Out := .next (if s.ctl.vaux then s.idle else s.fresh.powerOn)

/-- VAUX_FALL (R463, Table 11.6): the always-on domain stops, and a save ends at once. -/
def State.vauxFall (s : State) : State :=
  let t := s.saveCut.setMode .dormant
  { t with
    ctl := { t.ctl with vaux := false, access := false, dramHeld := false, retention := false, coldPending := none },
    save := Save.reset,
    rails := Rails.reset,
    ingress := Ingress.reset }.linksDown

/-- VAUX_FALL. -/
def execVauxFall (s : State) : Out := .next (if s.ctl.vaux then s.fresh.vauxFall else s.idle)

/-- The store at its effective cutoff (R298): the converter stops, DRAM loses power and the retention flag is lost. -/
def State.cutoff (s : State) : State :=
  { s with niura := { s.niura with supply := .cutoff }, ctl := { s.ctl with dramHeld := false, retention := false } }

/-! ### BUREAU and BLOCK resets -/

/-- A BUREAU reset (R344, R433): the pairs reload and the interrupt controller restarts; staged change sets are
discarded, submitted ones stand. In BRING-UP it is a COLD reset (Table 13.8). -/
def State.bureauReset (s : State) : State :=
  if s.ctl.mode = .bringUp then s.coldReset .bureauInBringUp
  else
    let t := (s.setReg 0x1101 0 4).addReg 0x1102 4 1
    let u := { t with ctl := { t.ctl with bureauReload := true },
                      dict := { t.dict with sets := t.dict.sets.filter fun e => e.2.submitted } }
    (((u.bootRom false).assignRoles).irqRestart)

/-- A port leaves service, its neighbour wraps, and it trains again (Table 13.7). -/
def State.resetPort (s : State) (p : Nat) : State :=
  if s.reg (0x4810 + p) 2 = 1 then (s.portEnable p 0).portEnable p 1 else s

/-- Every generator, checker and injector stops, with counters cleared (Table 13.7). -/
def State.resetTest (s : State) : State :=
  let t := (s.test.running.map (·.1)).foldl (fun (t : State) u => (t.cutPattern u).stopUnit u 3) s
  { t with test := { t.test with injDue := [] },
           regs := t.regs.filter fun e =>
             let idx := e.1 / 256 % 65536
             let sub := e.1 % 256
             !(idx == 0x9010 && decide (7 ≤ sub)) && !(decide (0x9100 ≤ idx) && decide (idx ≤ 0x9110)) }

/-- Sequences that a bank holds open are dropped, and it reads the array. -/
def State.resetFlash (s : State) : State :=
  let clear := fun (x : Bank) => { x with sequence := FlashSeq.none, statusMode := false, margin := 0 }
  (s.setBank 0 (clear (s.bank 0))).setBank 1 (clear (s.bank 1))

/-- What the shutdown of a block does (Table 13.7). -/
def State.shutBlock (s : State) (c : Nat) : State :=
  match c with
  | 1 =>
    let t := s.flushRing.ringRepaired
    { t with chest := { t.chest with tokens := [] } }
  | 2 => s.resetTest
  | 3 => { s with niura := { s.niura with shellUp := false, shellAt := s.clock.beat } }
  | 4 => s.resetFlash
  | 5 => s.endSessions.measure s.security.runningBank false
  | 6 => s.resetPort 0
  | 7 => s.resetPort 1
  | 8 => { s with security := { s.security with busAddress := none },
                  dict := { s.dict with deferred := s.dict.deferred.filter (fun d => d.2.role != .board),
                                         snapshots := s.dict.snapshots.filter (fun m => m.role != .board) } }
  | _ => s

/-- Begin a BLOCK reset: it is counted, and the block shuts down. -/
def State.beginBlock (s : State) (c : Nat) : State :=
  let t := (s.shutBlock c).addReg 0x1102 5 1
  { t with ctl := { t.ctl with blockBusy := t.ctl.blockBusy.put c 1 } }

/-- A write of 1 to `block_reset_request` (R345): absorbed in SHUTTING_DOWN, latched in STARTING. -/
def State.blockReset (s : State) (c : Nat) : State :=
  match s.ctl.blockBusy.find? c with
  | none => s.beginBlock c
  | some 2 =>
    { s with ctl := { s.ctl with blockLatched := if s.ctl.blockLatched.contains c then s.ctl.blockLatched
                                                 else c :: s.ctl.blockLatched } }
  | some _ => s

/-- A start has completed: a latched request applies (R345). -/
def State.blockStarted (s : State) (c : Nat) : State :=
  let t := { s with ctl := { s.ctl with blockBusy := s.ctl.blockBusy.del c,
                                        blockLatched := s.ctl.blockLatched.filter fun x => x != c } }
  let u := if c = 3 then { t with niura := { t.niura with shellUp := true } } else t
  if s.ctl.blockLatched.contains c then u.beginBlock c else u

/-- BLOCK_RESET_COMPLETE: the shutdown, then the start, of a block completes. -/
def execBlockResetComplete (code : Nat) (s : State) : Out :=
  .next (match s.ctl.blockBusy.find? code with
    | some 1 => { s.fresh with ctl := { s.ctl with blockBusy := s.ctl.blockBusy.put code 2 } }
    | some _ => s.fresh.blockStarted code
    | none => s.idle)

/-! ### Activation (R433, R437, R439) -/

/-- The STAGED image becomes PENDING, with the reset that NOW or recovery mode brings. -/
def State.activate (s : State) (q now : Nat) : State :=
  let b := s.targetSlot
  let t := ((s.setSlotOf b { s.slotOf b with state := 3, trials := 0 }).setUpdate 0).svcAnswer q 0x13 0 []
  if s.ctl.recovery then t.coldReset .recoveryActivate
  else if now = 1 then t.bureauReset
  else t

/-- IMAGE_ACTIVATE (Table 18.11): MODE in SAVE, and with NOW in RESTORE and BRING-UP; INTERFACE_MISMATCH with NOW where the
running sequencers differ. A value of NOW above 1 is not stated: its status is free (log entry 18). -/
def execImageActivate (seq now : Nat) (s : State) : Out :=
  s.svc seq fun t =>
    let q := seq % 256
    let busy := decide (t.ctl.mode = .save) || (now == 1 && !t.ctl.recovery &&
      (decide (t.ctl.mode = .restore) || decide (t.ctl.mode = .bringUp)))
    if busy then t.svcAnswer q 0x13 2 []
    else if t.security.updateState ≠ 2 then t.svcAnswer q 0x13 1 []
    else if 1 < now then t.drawn.svcAnswer q 0x13 (Config.free t.free % 256) []
    else if now = 1 ∧ t.ctl.recovery = false ∧ imgNum (t.imageUnits t.targetSlot) 56 2 ≠ t.security.sequencerInterface then
      t.svcAnswer q 0x13 9 []
    else t.activate q now

end Sys2Proof.Machine
end

