-- ==== Sys2Proof/Machine/Save.lean ====
section
/-! DEFINITION. The trip, the save sequence and its end (R267 to R280, R295, R327, R469, R470, R481, R482). -/

namespace Sys2Proof.Machine

/-! ### Triggers -/

/-- Whether every rail that a save needs is good (R327): CONTROLLER, DRAM and NAND. -/
def State.saveRails (s : State) : Bool :=
  s.rails'.all fun r => !(s.railRole r == 2 || s.railRole r == 3 || s.railRole r == 4) || s.railState r == 2

/-- Whether the sequencer aborts or waits for its retry (Table 12.9). -/
def State.seqAborting (s : State) : Bool := decide (s.rails.dir = .abortDown) || s.reg 0x6464 0 == 3

/-- The trip ends a power-up that aborts: the abort completes, and the mode is DORMANT (Table 12.9). -/
def State.tripAborting (s : State) : State :=
  let t := s.setMode .dormant
  let u := { t with ctl := { t.ctl with access := false } }.linksDown.trestleStop
  if u.rails.dir = .abortDown then u else u.seqDown

/-- A trip arms SAVE with trigger POWER_FAIL or PLANNED; over a dictionary command still arming it takes precedence (R13). SAVE
begins at the second boundary after the fall (R268): a fall that a boundary has sampled lies before that one. -/
def State.tripArms (s : State) (t : Trigger) (boundaries : Nat) : State :=
  if s.save.arm = 0 ∨ s.save.trigger = .command ∨ s.save.trigger = .commandHalt then s.armSave t boundaries else s

/-- What a trip leads to in each mode (Table 11.1, Table 13.1, R288, R295, R327). -/
def State.tripMode (s : State) (boundaries : Nat) : State :=
  match s.ctl.mode with
  | .online => s.tripArms .powerFail boundaries
  | .drowse => s.tripArms .planned boundaries
  | .restore => if s.ctl.access then s.tripArms .powerFail boundaries else s.enterDormant
  | .bringUp =>
    if s.seqAborting then s.tripAborting
    else if s.retained = true ∧ s.saveRails = true ∧ s.ctl.testHold ≠ 1 then s.tripArms .powerFail boundaries
    else s.enterDormant
  | _ => s

/-- THERMAL_TRIP (R469, R470): SAVE with trigger COMMAND_HALT where a mode allows it; in a save or with one armed no chance
of withdrawal is left; in any other mode DORMANT. -/
def State.thermalTrip (s : State) (detail : Nat) : State :=
  let t := s.fault Code.thermalTrip detail true
  if t.ctl.mode = .save ∨ t.save.arm ≠ 0 then { t with save := { t.save with noWithdraw := true } }
  else match t.ctl.mode with
    | .online => t.armSave .commandHalt 1
    | .drowse => t.armSave .commandHalt 1
    | .restore =>
      if t.ctl.access then t.armSave .commandHalt 1
      else { t with ctl := { t.ctl with haltLock := true } }.enterDormant
    | .dormant => { t with ctl := { t.ctl with haltLock := true } }
    | _ => { t with ctl := { t.ctl with haltLock := true } }.enterDormant

/-- A comparator trip (R295): the isolation opens, the converter starts, PF_ALARM and PF_WARN_N are set; a rehearsal or a
health test ends, and a sleep request is cancelled (R13). -/
def State.trip (s : State) (thermalNow : Bool) : State :=
  let a := (s.dropRehearsal).leaveInput .holdup true
  let n := { a.niura with
    high := false, falling := false, highBeats := 0, inputGood := false, tripped := true, tripBeat := some a.clock.beat, alarm := true
    healthTrial := a.niura.healthTrial && !decide (s.niura.supply = .test) }
  let b := { a with niura := n, ctl := { a.ctl with consents := 0 } }
  let c := ((b.addReg 0x6005 0 1).warn).tripMode (if s.niura.falling then 1 else 2)
  if thermalNow then c.drawn.thermalTrip (Config.free c.free) else c

/-- POWER_FAIL_TRIP: the comparator output has been low through the glitch filter; the fall came since the last boundary, or that
boundary has sampled it (R294). -/
def execPowerFailTrip (thermalNow : Bool) (s : State) : Out :=
  .next (if s.ctl.vaux = true ∧ (s.niura.high = true ∨ s.niura.falling = true) ∧ s.niura.supply ≠ .cutoff then s.fresh.trip thermalNow else s.idle)

/-! ### Steps 1 and 2 -/

/-- What a save that begins in BRING-UP or DROWSE needs first: the leaf states of the Cupboard (R327), or DRAM out of self-refresh with
DQS checked on each channel in one training window (Table 11.2). -/
def State.wakeForSave (s : State) : State :=
  if s.ctl.mode = .bringUp then { s with leaves := s.reloadLeaves } else if s.selfRefresh then s.checkDqs else s

/-- SAVE_BEGIN: step 1 of Table 11.2. Queued bursts take the classes of SAVE at once (R113); those of ports that are not served
there, and are no writes, are not issued (Table 5.7). Panic stands in SAVE (R105) without a raise that R104 would count (DESIGN
CHOICE, log entry 51: the spec does not say). -/
def State.saveBegin (s : State) : State :=
  let m := s.ctl.mode
  let t1 := (((s.wakeForSave.setMode .save).addReg 0x5402 0 1).setReg 0x5401 0 (trigCode s.save.trigger)).refuseSets
  let t3 := (((t1.endPeriod).stopCopy).dropRehearsal).preemptUnits
  State.reclass { t3 with
    ctl := { t3.ctl with access := false, consents := 0, waking := false, workersHalted := false, finishing := false,
                         layoutOk := false, afterReset := false }
    niura := { t3.niura with alarm := true }
    ingress := { t3.ingress with closed := true }
    sched := { t3.sched with bursts := t3.sched.bursts.filter fun b => b.write || b.port == 4 || b.port == 6 }
    trickle := { t3.trickle with panic := true }
    nand := { t3.nand.stopBackground with
      victim := match t3.nand.victim with | some v => if (t3.segment v).valid = 0 then some v else none | none => none }
    save := { t3.save with state := .closing, arm := 0, startNs := t3.clock.devNs, fromMode := m, todo := [], credited := [],
                           stopped := false, energyStart := t3.reg 0x6010 0, poisonedLines := 0, bytes := 0, deltas := [],
                           restoreState := 0 } }
where
  /-- Code of a trigger (Table 11.1). -/
  trigCode : Trigger → Nat
    | .none => 0 | .powerFail => 1 | .planned => 2 | .command => 3 | .commandHalt => 4 | .channelUncovered => 5

/-- SAVE_BEGIN: at its boundary, one after the trigger, and for a trip the second after the fall (R267, R268). -/
def execSaveBegin (s : State) : Out :=
  .next (if s.ctl.mode ≠ .save ∧ s.save.arm = 1 then s.fresh.saveBegin else s.idle)

/-- Bytes of the group set that step 3 fixes. -/
def State.groupSetBytes (s : State) : Nat :=
  setBytes s.layout.leaves s.groups.claims.length (s.groups.journal.length + s.groups.undo.length)

/-- The save head and the group set as step 3 fixes them (R271, R272). -/
def State.saveHead (s : State) : SaveImage :=
  { epoch := s.reg 0x5402 0, trigger := s.reg 0x5401 0, mode := s.save.fromMode.code, headSeq := s.reg 0x5070 0,
    residue := s.leavesIn .dirty ++ s.leavesIn .pinned, carriedLost := s.leavesIn .lost, credited := [],
    beat := s.clock.ext, keyId := s.reg 0x5050 0, crypt := s.cryptOf (metaTweak groupSetBlock 0), dGeneration := s.reg 0xA003 0, dValues := s.dValues,
    slots := s.groups.slots, claims := s.groups.claims, journal := s.groups.journal, undo := s.groups.undo,
    nextJseq := s.groups.nextJseq, decisions := s.groups.decisions, txnCounter := s.reg 0x4420 0,
    slotsFree := s.groups.slots.all (fun e => e.2.state == .free) && s.groups.decisions.isEmpty, counted := false,
    groupSetDone := false, withdrawn := false, segs := [], deltas := [], resumed := false, sealRecord := none }

/-- Awaiting lines are saved as poisoned (Table 6.5); the searches stop, and go on after the save (DEDUCED, log entry 52). -/
def State.poisonAwaiting (s : State) : State := (s.dram.awaiting.map (·.1)).foldl (fun t c => t.endAwaiting c true) s

/-- Step 2 ends: writes and reads are carried out, awaiting lines are poisoned, COPYING and RESTORING leaves go back, and
step 3 fixes the residue set (R270, R271, R481, Table 6.5). -/
def State.saveDrained (s : State) : State :=
  let t := (((s.drainIngress.poisonAwaiting).drainReads).uncopy).dropTouches
  let u := { t with sched := { t.sched with bursts := [] }, nand := { t.nand with forming := [] } }
  let gs := u.groupSetBytes
  let w := u.writeMeta (gs / 65536)
  { w.1 with save := { w.1.save with state := .groupSet, bytes := gs },
             nand := { w.1.nand with image := some { u.saveHead with segs := w.2 } } }

/-- SAVE_DRAIN_COMPLETE (R270). -/
def execSaveDrainComplete (s : State) : Out :=
  .next (if s.ctl.mode = .save ∧ (s.save.state = .closing ∨ s.save.state = .draining) then s.fresh.saveDrained else s.idle)

/-! ### Steps 3 to 5 -/

/-- Change the save's image in NAND. -/
def State.setImage (s : State) (f : SaveImage → SaveImage) : State :=
  { s with nand := { s.nand with image := s.nand.image.map f } }

/-- SAVE_GROUP_SET_COMPLETE (R272): the leaves follow, in save order and then in leaf index (R273). -/
def State.groupSetWritten (s : State) : State :=
  let todo : List Nat := match s.nand.image with
    | some i => sortBy (fun f => s.saveOrder f * 2 ^ 32 + f) i.residue
    | none => []
  { s.setImage (fun i => { i with groupSetDone := true }) with
    save := { s.save with state := .leaves, todo := todo }, trickle := { s.trickle with saveDue := true } }

/-- SAVE_GROUP_SET_COMPLETE. -/
def execSaveGroupSetComplete (s : State) : Out :=
  .next (if s.ctl.mode = .save ∧ s.save.state = .groupSet then s.fresh.groupSetWritten else s.idle)

/-- Leaf rows started and not finished. -/
def State.saveRows (s : State) : Nat :=
  (s.nand.rows.filter fun e => e.2.stripes.any fun x => x.2.origin == 1).length

/-- Energy needed before the next leaf row (R274), in mJ. -/
def State.needMj (s : State) : Nat :=
  let flight := s.saveRows * 16 * 65536
  let next := 16 * 65536
  let meta' := 8 * (s.save.credited.length + 16 * (s.saveRows + 1)) + 65536
  s.reg 0x5412 0 + s.reg 0x4020 0 * (flight + next + meta') / 1000000000

/-- Start a row of leaves, at most 16, in order (R273). -/
def State.startRow (s : State) : State :=
  let n := 16 - s.nand.forming.length
  let xs := (s.save.todo.take n).map fun f => s.stripeOf f 1
  let t := (s.save.todo.take n).foldl (fun (t : State) f => t.queueLeaf f 4 4 s.nowStamp false) s
  let u := { t with nand := { t.nand with forming := t.nand.forming ++ xs },
                    save := { t.save with todo := t.save.todo.drop n } }
  u.programRow.chargeWear (16 * 73728)

/-- SAVE_ROW_START (R274): the energy check starts the row, or stops the leaves. -/
def execSaveRowStart (s : State) : Out :=
  .next (if s.ctl.mode = .save ∧ s.save.state = .leaves ∧ s.save.stopped = false ∧
      (s.save.todo ≠ [] ∨ s.nand.forming ≠ []) then
      (if s.reg 0x6010 0 < s.needMj then { s.fresh with save := { s.save with stopped := true } } else s.fresh.startRow)
    else s.idle)

/-- SAVE_LEAVES_COMPLETE (R270): every row has finished, and no further one starts. -/
def execSaveLeavesComplete (s : State) : Out :=
  .next (if s.ctl.mode = .save ∧ s.save.state = .leaves ∧ s.saveRows = 0 ∧
      (s.save.stopped = true ∨ (s.save.todo = [] ∧ s.nand.forming = [])) then
      { s.fresh with save := { s.save with state := .deltas }, nand := { s.nand with forming := [] } }
    else s.idle)

/-- Add metadata stripes to the save (R272, R275): the state, with the segments that hold them. -/
def State.saveMeta (s : State) (n : Nat) : State :=
  let w := s.writeMeta n
  w.1.setImage fun i => { i with segs := i.segs ++ w.2 }

/-- Step 5 (R254, R270): the save delta records are written as metadata stripes. -/
def State.deltasWritten (s : State) : State :=
  let t := (s.saveMeta (ceilDiv (8 * s.save.deltas.length) 65536)).setImage fun i => { i with deltas := s.save.deltas }
  { t with save := { t.save with state := .sealing } }

/-- SAVE_DELTAS_COMPLETE (R270). -/
def execSaveDeltasComplete (s : State) : Out :=
  .next (if s.ctl.mode = .save ∧ s.save.state = .deltas then s.fresh.deltasWritten else s.idle)

/-! ### The seal -/

/-- Residue leaves that the save has not credited. -/
def State.unsaved (s : State) : List Nat :=
  match s.nand.image with
  | some i => i.residue.filter fun f => !s.save.credited.contains f
  | none => []

/-- The seal record (Table 11.4). -/
def State.sealOf (s : State) (energyMj : Nat) : Seal :=
  let lost := s.unsaved
  { epoch := s.reg 0x5402 0, trigger := s.reg 0x5401 0, complete := lost.isEmpty, energyMj := energyMj,
    headSeq := match s.nand.image with | some i => i.headSeq | none => 0, lastSeq := s.reg 0x5070 0 - 1,
    residue := s.save.credited.length + lost.length, saved := s.save.credited.length, newlyLost := lost.length,
    poisonedLines := s.save.poisonedLines, bytes := s.save.bytes, startNs := s.save.startNs, sealNs := s.clock.devNs,
    deltas := s.save.credited.length, lowestOrder := (lost.map s.saveOrder).foldl min 0xFF, chestSeq := s.chest.nextSeq }

/-- The energy per byte that a save measured (R172). With less drawn than `e_fixed_mj` the value is negative, which the entry
cannot hold, a free value, and never exceeds the one in force. -/
def State.measureSave (s : State) (energyMj : Nat) : State :=
  let fixed := s.reg 0x4021 0
  let t := if energyMj < fixed then s.drawn else s
  let v := if energyMj < fixed then Config.free s.free % 2 ^ 32 else (energyMj - fixed) * 1000000000 / s.save.bytes
  let u := t.setReg 0x4026 0 v
  if fixed ≤ energyMj ∧ s.reg 0x4020 0 * 110 < v * 100 then (u.setReg 0x4020 0 v).note Code.eByteRaised else u

/-- The delta log holds what the save credited, so that a return through BRING-UP finds the same leaf states (R276, R482). -/
def State.logCredits (s : State) : State :=
  let fs := s.save.credited.filter fun f => decide (s.leaf f = .clean)
  { s with delta := fs.foldl (fun d f => d.note .before f .clean s.clock.beat) s.delta }

/-- The seal block is written, the last metadata stripe of the save, and the root record that names it (R253, R275). -/
def State.writeSeal (s : State) : State :=
  let t := s.saveMeta 1
  let last := match t.nand.image with | some i => i.segs.getLast? | none => none
  t.writeRoot t.rootCheckpoint t.scanFrom (last.map fun n => (n, (t.segment n).rows - 1))

/-- SAVE_SEALED (R275): the seal block and root record stand, and DRAM is in self-refresh with the retention flag set. -/
def State.saveSealed (s0 : State) (energyMj : Nat) : State :=
  let s := s0.writeSeal
  let r := s.sealOf energyMj
  let t := (s.setImage fun i => { i with sealRecord := some r, credited := s.save.credited }).logCredits
  let u := (((((t.setReg 0x5403 0 (if r.complete then 1 else 2)).setReg 0x5404 1 r.saved).setReg 0x5404 2 r.newlyLost).setReg
    0x5404 3 r.bytes).setReg 0x5404 4 (s.clock.devNs - s.save.startNs)).setReg 0x5404 5 energyMj
  let v := if r.complete then u else u.fault Code.saveShort r.newlyLost
  let w := v.measureSave energyMj
  { w with save := { w.save with state := .sealed }, ctl := { w.ctl with retention := true, dramHeld := true } }

/-- SAVE_SEALED. -/
def execSaveSealed (energyMj : Nat) (s : State) : Out :=
  .next (if s.ctl.mode = .save ∧ s.save.state = .sealing then s.fresh.saveSealed energyMj else s.idle)

/-! ### Leaving SAVE -/

/-- Links that went down in SAVE train again (R279, R70). -/
def State.retrainDown (s : State) : State :=
  let is := linkNos.filter fun i => s.layout.formed i && decide (s.reg 0x2005 (i + 1) ≠ 0) && decide ((s.link i).state = .down)
  { s with links := is.foldl (fun m i => m.put i { m.get i Link.reset with state := .training }) s.links }

/-- ONLINE or RESTORE again with DRAM intact (R276, R279, R482): ingress reopens, held requests are served, stopped work
resumes, and a checkpoint begins. The classes of ONLINE return at once, and panic goes on under R102 (R113). -/
def State.leaveSave (s : State) : State :=
  let left := decide (0 < s.unrestored)
  let m : Mode := if left then .restore else .online
  let t := (s.restoreBegins.setMode m).retrainDown
  let u := { t with
    ctl := { t.ctl with access := true, retention := false, dramHeld := true, afterCold := false, coldInRestore := false }
    trestle := { t.trestle with loaded := true }
    niura := { t.niura with alarm := false, tripped := false, firstFull := true }
    trickle := { t.trickle with charging := true, overBudget := true }
    save := { t.save with state := .idle, noWithdraw := false, restoreState := if left then 3 else 0, loading := 2, todo := [] }
    nand := { t.nand with forming := [] }
    ingress := { t.ingress with closed := false } }
  let v := if u.niura.supply = .holdup then u.toInput else u
  ((((((v.reclass.copyAgain).rebuildGo).resumeStore).checkpointStart).serveHeld).imageResumed).coldLatched

/-- SAVE ends in DORMANT, which it may have to keep (R276, R469); with the input good BRING-UP begins at once (Table 1.6). -/
def State.saveDormant (s : State) (keep : Bool) : State :=
  let t := { s with ctl := { s.ctl with haltLock := keep || s.ctl.haltLock },
                    niura := { s.niura with firstFull := true },
                    trickle := { s.trickle with charging := true, overBudget := true },
                    save := { s.save with state := .idle, noWithdraw := false, todo := [] } }
  let u := (t.enterDormant).coldLatched
  if u.niura.inputGood then u.inputIsGood else u

/-- The withdrawal conditions (R278): the input above the threshold for `return_debounce_beats`, and b_e at least C. -/
def State.mayWithdraw (s : State) : Bool :=
  s.niura.high && decide (s.reg 0x5411 0 ≤ s.niura.highBeats) && decide (s.charged ≤ s.reg 0x4015 0)

/-- SAVE_END (R276): ONLINE, RESTORE or DORMANT by trigger and input. -/
def State.saveEnd (s : State) : State :=
  if s.save.noWithdraw then s.saveDormant true
  else match s.save.trigger with
    | .commandHalt => s.saveDormant true
    | .channelUncovered => s.saveDormant true
    | .command => if s.niura.high then s.shortRetained.leaveSave else s.saveDormant false
    | _ => if s.mayWithdraw then s.shortRetained.leaveSave else s.saveDormant false

/-- SAVE_END. -/
def execSaveEnd (s : State) : Out :=
  .next (if s.ctl.mode = .save ∧ s.save.state = .sealed then s.fresh.saveEnd else s.idle)

/-- Rows in progress finish and are credited (R279 step 1). -/
def State.finishRows (s : State) : State :=
  s.nand.rows.foldl (fun (t : State) e => t.rowProgrammed e.1 e.2) s

/-- SAVE_WITHDRAWAL (R279): the image is withdrawn, and the leaves keep what they have. -/
def State.saveWithdrawn (s : State) : State :=
  let t := (((s.finishRows).drainIngress.uncopy).dropTouches).logCredits
  let u := if s.save.state = .closing ∨ s.save.state = .draining then t
    else t.setImage fun i => { i with withdrawn := true, credited := t.save.credited }
  ((u.setReg 0x5403 0 5).fault Code.saveWithdrawn u.save.credited.length).leaveSave

/-- SAVE_WITHDRAWAL: a POWER_FAIL or PLANNED save, in any step, step 7 included, once the conditions of R278 hold (R470). -/
def execSaveWithdrawal (s : State) : Out :=
  .next (if s.ctl.mode = .save ∧ (s.save.trigger = .powerFail ∨ s.save.trigger = .planned) ∧
      s.save.noWithdraw = false ∧ s.mayWithdraw = true
    then s.fresh.saveWithdrawn else s.idle)

end Sys2Proof.Machine
end

