-- ==== Sys2Proof/Machine/Niura.lean ====
section
/-! DEFINITION. Niura: the energy model, the charger, the store's strings and cells, health tests, calibration, hard
protections, and the adaptive core voltage (R296, R299 to R316, R472, R473). -/

namespace Sys2Proof.Machine

/-! ### The store and its energy (R299, R308, R309) -/

/-- Charged voltage, in mV. -/
def State.chargedMv (s : State) : Nat := s.reg 0x6000 4 * s.reg 0x6000 2

/-- Default cutoff of a profile, per string (Table 12.3), in mV. -/
def profileCutoff (profile cells charged : Nat) : Nat :=
  match profile with
  | 1 => charged / 2
  | 2 => max (charged / 2) (2300 * cells)
  | _ => 3200 * cells

/-- Maximum cell voltage of a profile (Table 12.3), in mV. -/
def profileMaxMv (profile : Nat) : Nat :=
  match profile with
  | 1 => 3000 | 2 => 4000 | _ => 4200

/-- Charge temperature window of a profile (Table 12.3), in °C. -/
def profileWindow (profile : Nat) : Int × Int :=
  match profile with
  | 1 => (-40, 70) | 2 => (-20, 70) | _ => (0, 45)

/-- ESR in force, in mΩ: the measured one, or the rated one until a health test has been accepted. -/
def State.esr (s : State) : Nat := if s.niura.accepted then s.reg 0x6055 0 else s.reg 0x6000 6

/-- Nominal cutoff: `v_cutoff_mv`, or the profile's where it is 0. -/
def State.vNom (s : State) : Nat :=
  if s.reg 0x6001 0 ≠ 0 then s.reg 0x6001 0 else profileCutoff (s.reg 0x6000 1) (s.reg 0x6000 2) s.chargedMv

/-- Effective cutoff (R308), in mV. -/
def State.vCut (s : State) : Nat :=
  let iCut := s.reg 0x6060 3 * 1000000 / s.vNom
  max s.vNom (s.reg 0x6060 2 + s.esr * iCut / 1000)

/-- Strings that are fitted. -/
def State.stringNos (s : State) : List Nat := List.range (s.reg 0x6000 3)

/-- Strings in service. -/
def State.stringsIn (s : State) : List Nat := s.stringNos.filter fun k => !s.niura.switchedOut.contains k

/-- Capacitance of a string (R308): its measured one, or its part of the rated one. -/
def State.stringCap (s : State) (k : Nat) : Nat :=
  if s.niura.accepted then s.reg (0x6040 + k) 2 else s.reg 0x6000 5 / s.reg 0x6000 3

/-- Capacitance of the strings in service, in mF. -/
def State.cModel (s : State) : Nat := (s.stringsIn.map s.stringCap).foldl (· + ·) 0

/-- Store voltage as the model takes it: 1% low while the references disagree (R315). -/
def State.vModel (s : State) : Nat :=
  if s.niura.refFault then s.niura.vStoreMv * 99 / 100 else s.niura.vStoreMv

/-- Open-circuit voltage (R308), in mV. -/
def State.vOc (s : State) : Nat := ((s.vModel : Int) + Int.tdiv (s.niura.iStoreMa * s.esr) 1000).toNat

/-- Usable energy of the capacitor model (R308), in mJ. -/
def capEnergy (cMf vOc vCut : Nat) : Nat :=
  if vCut < vOc then cMf * (vOc * vOc - vCut * vCut) / 2000000 else 0

/-- The coldest STORE thermistor. -/
def State.coldestStore (s : State) : Int :=
  let ts := ((List.range 8).filter fun t => s.reg (0x6070 + t) 1 == 1).map fun t => s.ireg (0x6070 + t) 2
  ts.foldl min 125

/-- The hottest STORE thermistor. -/
def State.hottestStore (s : State) : Int :=
  let ts := ((List.range 8).filter fun t => s.reg (0x6070 + t) 1 == 1).map fun t => s.ireg (0x6070 + t) 2
  ts.foldl max (-40)

/-- Usable energy of the battery model (R309), in mJ: charge above the cutoff's, in mAh, at the cutoff voltage. The
profile's OCV and derating tables are not in the spec: free tables (log entry 4). -/
def State.batteryEnergy (s : State) : Nat :=
  let derate := Config.image s.security.fwVersion 0x6000 5 (s.coldestStore + 128).toNat % 101
  let qCut := Config.image s.security.fwVersion 0x6013 0 s.vCut
  (s.niura.charge * derate / 100 - qCut) * s.vCut * 36 / 10000

/-- Usable energy now (R308, R309). -/
def State.energyNow (s : State) : Nat :=
  if s.stringsIn = [] then 0
  else if s.reg 0x6000 1 = 3 then s.batteryEnergy
  else capEnergy s.cModel s.vOc s.vCut

/-- STORE_CUTOFF: V_oc at or below `v_cut_eff_mv` in HOLDUP (Table 12.2). -/
def execStoreCutoff (s : State) : Out :=
  .next (if s.niura.supply = .holdup ∧ s.vOc ≤ s.vCut then s.fresh.cutoff else s.idle)

/-! ### Strings (R301) -/

/-- Whether a judged sample puts a string's share outside its limits. -/
def State.shareBad (s : State) (mA : Int) : Bool :=
  let n := s.reg 0x6000 3
  let net := s.niura.iStoreMa.natAbs
  let own := if s.niura.iStoreMa < 0 then (-mA).toNat else mA.toNat
  decide (own * n * 100 < s.reg 0x6044 0 * net) || decide (2 * net < own * n)

/-- STRING_FAILED (R301): the string's switch opens. -/
def State.stringFails (s : State) (k : Nat) : State :=
  ({ s with niura := { s.niura with switchedOut := s.niura.switchedOut ++ [k], share := s.niura.share.del k } }.alarmBit
    0).faultOpen Code.stringFailed true

/-- STRING_FAILED: ten judged samples in a row outside the limits. -/
def execStringFailed (string : Fin 4) (s : State) : Out :=
  .next (if s.stringsIn.contains string.val = true ∧ 10 ≤ s.niura.share.get string.val 0 then s.fresh.stringFails string.val
    else s.idle)

/-! ### Charger (Table 12.4) -/

/-- Change the charger's state. -/
def State.setCharger (s : State) (c : Charger) : State := { s with niura := { s.niura with charger := c, termBeats := 0 } }

/-- A health test falls due; only one on request switches failed strings in for it (R301). -/
def State.healthFallsDue (s : State) (request : Bool) : State :=
  { s with niura := { s.niura with healthDue := true, healthTrial := s.niura.healthTrial || request } }.raiseSource 53

/-- Whether a cell exceeds a voltage, with its tap's reading given: a string with an open tap, or without taps, is judged by its
voltage over `cells_per_string` (R299, R304). -/
def State.cellOver (s : State) (limit k mv : Nat) : Bool :=
  let n := s.reg 0x6000 2
  if s.reg 0x6000 7 = 1 ∧ s.niura.openTaps.all (fun j => j / n != k / n) then decide (limit < mv)
  else decide (limit * n < s.niura.vStoreMv)

/-- Whether every cell exceeds a voltage (R302), each as it is judged. -/
def State.cellsAbove (s : State) (mv : Nat) : Bool :=
  (List.range (s.reg 0x6000 2 * s.reg 0x6000 3)).all fun k => s.cellOver mv k (s.reg 0x6031 (k + 1))

/-- PRECHARGE_DONE: every cell exceeds 3.00 V. -/
def execPrechargeDone (s : State) : Out :=
  .next (if s.niura.charger = .precharge ∧ s.cellsAbove 3000 = true then s.fresh.setCharger .cc else s.idle)

/-- CHARGER_CV_REACHED: the charged voltage is reached. -/
def execChargerCvReached (s : State) : Out :=
  .next (if s.niura.charger = .cc ∧ s.chargedMv ≤ s.niura.vStoreMv then s.fresh.setCharger .cv else s.idle)

/-- CHARGER_FULL: the current has stayed below `ch_term_pct` for 100 beats. The first FULL after a SAVE makes a health test
due (R306). -/
def execChargerFull (s : State) : Out :=
  .next (if s.niura.charger = .cv ∧ 100 ≤ s.niura.termBeats then
      let t := s.fresh.setCharger .full
      let u := { t with niura := { t.niura with chargeBeats := 0, firstFull := false } }
      if t.niura.firstFull then u.healthFallsDue false else u
    else s.idle)

/-- CHARGER_RECHARGE: V_oc has fallen by `recharge_delta_pct`. -/
def execChargerRecharge (s : State) : Out :=
  .next (if s.niura.charger = .full ∧ s.vOc * 100 < s.chargedMv * (100 - s.reg 0x6024 0) then s.fresh.setCharger .cc
    else s.idle)

/-- CHARGE_TIMEOUT (R303). -/
def execChargeTimeout (s : State) : Out :=
  .next (if (s.niura.charger = .precharge ∨ s.niura.charger = .cc ∨ s.niura.charger = .cv) ∧
      s.reg 0x6025 0 * 6000000 < s.niura.chargeBeats then s.fresh.chargerFault .timeout else s.idle)

/-- CHARGER_FAULT_RECOVER: the cause has been absent for 1,000 beats; a timeout does not clear so. -/
def execChargerFaultRecover (s : State) : Out :=
  .next (if s.niura.charger = .fault ∧ s.niura.faultTimeout = false ∧ 1000 ≤ s.niura.faultBeats then s.fresh.chargerOff
    else s.idle)

/-- A write of 1 to `charger_fault_clear` clears a charge timeout. -/
def State.clearCharger (s : State) : State :=
  if s.niura.charger = .fault ∧ s.niura.faultTimeout = true then s.clearTimeout else s

/-! ### Health tests (R306, R307) -/

/-- HEALTH_TEST_DUE: its period has run, a SAVE is followed by the first FULL, or it is requested. -/
def execHealthTestDue (cause : DueCause) (s : State) : Out :=
  let ok : Bool := match cause with
    | .period => decide (s.reg 0x6050 0 ≤ s.reg 0x4040 2 - s.niura.healthHour)
    | .afterSave => s.niura.firstFull && decide (s.niura.charger = .full)
    | .request => true
  .next (if ok then s.fresh.healthFallsDue (decide (cause = .request)) else s.idle)

/-- HEALTH_TEST_START: it comes before a rehearsal that is due too (Table 12.9), and waits for the shell (R316). -/
def execHealthTestStart (s : State) : Out :=
  .next (if s.niura.healthDue = true ∧ (s.ctl.mode = .online ∨ s.ctl.mode = .drowse) ∧ s.niura.charger = .full ∧
      (s.trickle.rehearsal = .none ∨ s.trickle.rehearsal = .due) ∧ s.holding = false ∧ s.niura.supply = .input ∧
      s.niura.shellUp = true then
      { s.fresh.leaveInput .test false with
        niura := { (s.leaveInput .test false).niura with healthDue := false, healthHour := s.reg 0x4040 2,
                                                         healthBeat := s.clock.beat } }
    else s.idle)

/-- Whether a result is accepted (R307). -/
def State.healthGood (s : State) (capMf esrMohm : Nat) : Bool :=
  let c := s.reg 0x6000 5
  let e := s.reg 0x6000 6
  decide (c * 25 ≤ capMf * 100) && decide (capMf * 100 ≤ c * 150) &&
    decide (e * 10 ≤ esrMohm * 100) && decide (esrMohm * 100 ≤ e * 1000)

/-- An accepted result: parameters stored, end of life judged. A failed string that a test on request measured switched in is in
service again (R301). -/
def State.healthStore (s : State) (capMf esrMohm : Nat) (stringCapMf : Map Nat) : State :=
  let t := (s.setReg 0x6054 0 capMf).setReg 0x6055 0 esrMohm
  let u := stringCapMf.foldl (fun (u : State) (e : Nat × Nat) => u.setReg (0x6040 + e.1) 2 e.2) t
  let out := u.niura.switchedOut.filter fun k => !u.niura.healthTrial || (stringCapMf.find? k).isNone
  let v := { u with niura := { u.niura with accepted := true, switchedOut := out } }
  let w := if out = [] then v.condClear Code.stringFailed else v
  let eol := decide (capMf * 100 < s.reg 0x6056 0 * s.reg 0x6000 5) || decide (s.reg 0x6057 0 * s.reg 0x6000 6 < esrMohm * 100)
  (if eol then w.alarmBit 1 else w).conditionOpen Code.storeEol eol

/-- HEALTH_TEST_END: back to INPUT; the charger recharges. -/
def execHealthTestEnd (capMf esrMohm : Nat) (stringCapMf : Map Nat) (s : State) : Out :=
  .next (if s.niura.supply = .test then
      let t := s.fresh.toInput
      let u := if s.healthGood capMf esrMohm then t.healthStore capMf esrMohm stringCapMf else t.note Code.healthTestRejected
      { u with niura := { u.niura with healthTrial := false } }
    else s.idle)

/-! ### The shell (R315, R316) and the OCV correction (R309) -/

/-- NIURA_CALIBRATION: every 1,000 beats, while the shell runs; one that is due in the beat of a trip is skipped (Table 12.9). -/
def execNiuraCalibration (largeMove refsDisagree : Bool) (s : State) : Out :=
  .next (if s.niura.shellUp = true ∧ s.niura.tripBeat ≠ some s.clock.beat then
      let t := if largeMove then s.fresh.faultOpen Code.niuraCalDrift else s.fresh
      { t with niura := { t.niura with refFault := refsDisagree } }.conditionOpen Code.niuraRefFault refsDisagree
    else s.idle)

/-- NIURA_SHELL_WATCHDOG: missed for 100 beats; the Bureau primary reloads the shell. -/
def execNiuraShellWatchdog (s : State) : Out :=
  .next (if s.niura.shellUp then
      ({ s.fresh with niura := { s.niura with shellUp := false, shellAt := s.clock.beat } }.faultOpen
        Code.niuraShellFault true).raiseSource 100
    else s.idle)

/-- OCV_CORRECTION: after 30 min at rest the charge is that of the OCV table, which the spec does not give: a free value. -/
def execOcvCorrection (s : State) : Out :=
  .next (if s.reg 0x6000 1 = 3 ∧ s.niura.shellUp = true ∧ 180000000 ≤ s.niura.restBeats then
      { s.fresh.drawn with niura := { s.niura with charge := Config.free s.free, restBeats := 0 } }
    else s.idle)

/-! ### Hard protections (Table 12.5) -/

/-- STORE_OVERVOLTAGE: above 1.05 times the charged voltage, or 62 V. -/
def execStoreOvervoltage (mv : Nat) (s : State) : Out :=
  .next (if s.chargedMv * 105 < mv * 100 ∨ 62000 < mv then s.fresh.chargerFault .storeOvervoltage else s.idle)

/-- CELL_OVERVOLTAGE: above the profile's maximum; the cell is bled. Cells are numbered from 1, as the sub-indices of 0x6031 are; a
string with an open tap is judged by its voltage (R304). -/
def execCellOvervoltage (cell mv : Nat) (s : State) : Out :=
  let k := cell - 1
  .next (if s.cellOver (profileMaxMv (s.reg 0x6000 1)) k mv = true ∧ 1 ≤ cell ∧ cell ≤ s.reg 0x6000 2 * s.reg 0x6000 3 then
      let t := s.fresh.chargerFault .cellOvervoltage
      { t with niura := { t.niura with bleeding := if t.niura.bleeding.contains k then t.niura.bleeding
                                                   else k :: t.niura.bleeding } }
    else s.idle)

/-- BUS_OVERVOLTAGE: above 13.8 V the gates go off, until the bus is below 13.2 V. -/
def execBusOvervoltage (mv : Nat) (s : State) : Out :=
  .next (if 13800 < mv then { s.fresh with niura := { s.niura with gatesOff := true } } else s.idle)

/-- HOLDUP_OVERLOAD: the cycle-by-cycle limit for more than 50 µs. -/
def execHoldupOverload (us : Nat) (s : State) : Out :=
  .next (if 50 ≤ us ∧ s.niura.supply ≠ .input ∧ s.niura.supply ≠ .cutoff then s.fresh.faultOpen Code.holdupOverload
    else s.idle)

/-- PF_WARN_ASSERT (R296): VIN below `pf_warn_mv` through the filter. -/
def execPfWarnAssert (vinMv : Nat) (s : State) : Out :=
  .next (if s.ctl.vaux = true ∧ vinMv < s.reg 0x6002 4 then s.fresh.warn else s.idle)

/-! ### Adaptive core voltage and thermal life (R472, R473) -/

/-- Move the core setpoint, with its record. -/
def State.avsMove (s : State) (mv : Nat) (guardMv : Int) : State :=
  let old := s.reg 0x60A0 1
  ((s.setReg 0x60A0 1 mv).addReg 0x60A0 3 1).note Code.avsStep [old, mv, s32 guardMv]

/-- AVS_CHECK: the guard band is reported, and the setpoint moves; it never moves in BRING-UP or SAVE. -/
def State.avsCheck (s : State) (guardMv : Int) : State :=
  let above := if 60 < guardMv then s.niura.avsAbove + 100000 else 0
  let t := { s with niura := { s.niura with avsAbove := above } }.setReg 0x60A0 2 (s32 guardMv)
  let set := s.reg 0x60A0 1
  let low := decide (guardMv < 30)
  let u := t.conditionOpen Code.agingLimit (low && decide (set = 850))
  if s.ctl.mode = .bringUp ∨ s.ctl.mode = .save then u
  else if low = true ∧ set + 5 ≤ 850 then u.avsMove (set + 5) guardMv
  else if 8640000 ≤ above ∧ 705 ≤ set then
    { u with niura := { u.niura with avsAbove := 0 } }.avsMove (set - 5) guardMv
  else u

/-- AVS_CHECK (R472). -/
def execAvsCheck (guardMv : Int) (s : State) : Out :=
  .next (if s.ctl.mode ≠ .dormant then s.fresh.avsCheck guardMv else s.idle)

/-- THERMAL_LIFE_LOG (R473): the mean T_j since provisioning and the hours above 105 °C. -/
def State.lifeLog (s : State) : State :=
  let h := s.reg 0x60A1 3
  let hour := s.niura.lifeSum * 1000 / (s.niura.lifeBeats : Int)
  let mean := (s.ireg 0x60A1 1 * (h : Int) + hour) / ((h : Int) + 1)
  let t := ((s.setReg 0x60A1 1 (s32 mean)).setReg 0x60A1 2 (s.niura.overBeats / 360000000)).addReg 0x60A1 3 1
  let u := { t with niura := { t.niura with lifeSum := 0, lifeBeats := 0 } }
  u.conditionOpen Code.lifeTempExceeded (decide (95000 < mean) && decide (8760 ≤ h + 1))

/-- THERMAL_LIFE_LOG: once per hour of service. -/
def execThermalLifeLog (s : State) : Out :=
  .next (if s.niura.lifeBeats ≠ 0 then s.fresh.lifeLog else s.idle)

end Sys2Proof.Machine
end

