-- ==== Sys2Proof/Machine/RailFaults.lean ====
section
/-! DEFINITION. Faults on running rails (R322 to R325, Tables 12.7 to 12.9), and the injectors (R375, R453 to R455). -/

namespace Sys2Proof.Machine

/-- A NAND channel fails, once (R262). -/
def State.nandOff (s : State) (c : Nat) : State := if s.nand.channelsFailed.contains c then s else s.nandChannelFailed c

/-- What the role of a faulty rail adds at detection (Table 12.8). -/
def State.railRoleFault (s : State) (r : Nat) : State :=
  let u := s.railUnit r
  match s.railRole r with
  | 3 => if u < 13 then s.loseChannel u .railFault else s
  | 4 => if u < 9 then (s.nandOff (2 * u)).nandOff (2 * u + 1) else s
  | 5 => ((linkNos.filter fun i => i / 2 == u && (s.link i).up)).foldl (fun (t : State) i => t.loseLink i .down) s
  | 6 => ([0, 1] : List Nat).foldl (fun (t : State) p => if t.inService p then t.wrapPort p
      else t.setPort p { t.port p with state := .fault }) s
  | _ => s

/-- A group's grace begins; whether a COLD reset follows it (R323, Table 12.7). A second fault joins the same shutdown. -/
def State.beginGrace (s : State) (g : Nat) (reset : Bool) : State :=
  let old : Bool := match s.rails.grace.find? g with | some (_, x) => x | none => false
  let since : Nat := match s.rails.grace.find? g with | some (b, _) => b | none => s.clock.beat
  { s.warn with rails := { s.warn.rails with grace := s.rails.grace.put g (since, old || reset) } }

/-- A CONTROLLER rail fault ends a save (Table 12.8): it is classed at restore under R277. -/
def State.controllerEndsSave (s : State) : State :=
  let t := s.saveCut
  { t with save := { Save.reset with startBeat := t.save.startBeat }, ctl := { t.ctl with retention := false } }.enterDormant

/-- The policy of a faulty rail (R323, R324, Table 12.8): CONTROLLER acts as SYSTEM_RESET unless it has RETRY_RAIL. In SAVE
no grace applies. -/
def State.railPolicy (s : State) (r : Nat) : State :=
  let g := s.railGroup r
  let p := if s.railRole r = 2 ∧ s.reg (0x6400 + r) 8 ≠ 2 then 4 else s.reg (0x6400 + r) 8
  let tries : Nat := match s.rails.retries.find? r with
    | some (n, b) => if s.clock.beat < b + 1000000 then n else 0
    | none => 0
  let saving := decide (s.ctl.mode = .save)
  if saving = true ∧ s.railRole r = 2 then s.controllerEndsSave
  else if saving = true ∧ (s.railRole r = 3 ∨ s.railRole r = 4) ∧ p ≠ 1 then s
  else match p with
    | 1 => s.raiseSource 50
    | 2 =>
      if tries < 3 then
        { s with rails := { s.rails with retries := s.rails.retries.put r (tries + 1, s.clock.beat) } }.setRail r 0
      else if saving then s.warn.groupShut g else s.beginGrace g false
    | 3 => s.warn.groupShut g
    | 4 => if saving then s.coldReset .rail else s.beginGrace g true
    | _ => if saving then s.warn.groupShut g else s.beginGrace g false

/-- RAIL_FAULT (R322): counted and recorded, then the role and the policy act. -/
def State.railFault (s : State) (r mv : Nat) : State :=
  let t := (((s.setReg (0x6400 + r) 10 mv).addReg (0x6400 + r) 9 1).setRail r 3).fault Code.railFault r true
  (t.railRoleFault r).railPolicy r

/-- RAIL_FAULT: on a rail in service. -/
def execRailFault (rail : Fin 32) (mv : Nat) (s : State) : Out :=
  .next (if s.railState rail.val = 2 ∧ s.railRole rail.val ≠ 0 then s.fresh.railFault rail.val mv else s.idle)

/-- RAIL_GRACE_EXPIRE (R323): the group goes down, or a COLD reset follows. -/
def State.graceEnds (s : State) (g : Nat) (reset : Bool) : State :=
  if reset then { s with rails := { s.rails with grace := s.rails.grace.del g } }.coldReset .rail
  else s.groupShut g

/-- RAIL_GRACE_EXPIRE. -/
def execRailGraceExpire (group : Fin 16) (s : State) : Out :=
  .next (match s.rails.grace.find? group.val with
    | some (b, reset) =>
      if s.reg 0x6462 0 ≤ s.clock.beat - b then s.fresh.graceEnds group.val reset else s.idle
    | none => s.idle)

/-! ### Injectors (R453 to R455) -/

/-- An injected NAND_LUN_FAILED, on a LUN that stands. -/
def State.injectLun (s : State) (c l : Nat) : State := if s.lunStands c l then s.lunFailed c l else s

/-- The real reaction of an injected occurrence in FULL_REACTION, where the code's rule has one (R453); the unit that the
detail does not name is free. -/
def State.injectReaction (s : State) (code detail : Nat) : State :=
  let f := Config.free s.free
  if code = Code.railFault then ((s.setRail (detail % 32) 3).railRoleFault (detail % 32)).railPolicy (detail % 32)
  else if code = Code.channelLost then s.drawn.loseChannel (f % 13) .uncorrectable
  else if code = Code.channelUncovered then s.drawn.uncover (f % 12)
  else if code = Code.nandChannelFailed then s.drawn.nandOff (f % 18)
  else if code = Code.nandLunFailed then s.drawn.injectLun (f % 18) (f / 18 % max 1 s.nandLuns)
  else if code = Code.stringFailed then s.drawn.stringFails (f % 4)
  else if code = Code.chargerFault then { s with niura := { s.niura with charger := .fault, faultOver := true } }.alarmBit 3
  else if code = Code.chatter ∨ code = Code.seqTimeout then s.seqAbort
  else if code = Code.chestRingFailed then s.drawn.ringFails f
  else if code = Code.pairMismatch then s.drawn.pairFailure (f % 5)
  else if code = Code.bureauLost then s.bureauLost
  else if code = Code.trestleWrap then s.drawn.wrapPort (f % 2)
  else if code = Code.duplicateMember then s.duplicateMember
  else if code = Code.thermalTrip then s.thermalTrip detail
  else if code = Code.overtemp then s.alarmBit 2
  else if code = Code.tapOpen then s.alarmBit 4
  else if code = Code.storeEol then s.alarmBit 1
  else s

/-- Whether the mode holds an injector off (R455). -/
def State.injectHeld (s : State) : Bool :=
  decide (s.ctl.mode = .save) || (decide (s.ctl.mode = .restore) && !s.ctl.access)

/-- One firing (R454, R455): counted as skipped, or an occurrence with INJ; the count runs down and the interval is added. -/
def State.inject (s : State) (b due left : Nat) : State :=
  let code := b * 32 + s.reg (0x9100 + b) 1 % 32
  let detail := s.reg (0x9100 + b) 6
  let t := if s.injectHeld then s.addReg (0x9100 + b) 8 1
    else
      let u := ((s.occur code true true detail).record code (words2 detail) true).addReg (0x9100 + b) 7 1
      if s.reg (0x9100 + b) 2 = 2 then u.injectReaction code detail else u
  if left ≤ 1 then
    { t with test := { t.test with injDue := t.test.injDue.del b } }.setReg (0x9100 + b) 2 0
  else { t with test := { t.test with injDue := t.test.injDue.put b (due + s.reg (0x9100 + b) 5, left - 1) } }

/-- INJECTOR_FIRE: an armed injector whose beat has come. -/
def execInjectorFire (block : Fin 17) (s : State) : Out :=
  .next (match s.test.injDue.find? block.val with
    | some (due, left) =>
      if s.reg (0x9100 + block.val) 2 ≠ 0 ∧ due ≤ s.clock.ext.toNat then s.fresh.inject block.val due left else s.idle
    | none => s.idle)

end Sys2Proof.Machine
end

