-- ==== Sys2Proof/Machine/Checks.lean ====
section
/-! DEFINITION. The checks of a dictionary write: an item's own (R348 to R351), those against the device's state and other
entries as the chapters state them, and the relations of R480. A check answers an error code of Table 14.9, 0 for none. -/

namespace Sys2Proof.Machine

/-! ### An item's own checks -/

/-- Whether bytes are valid UTF-8; `need` continuation bytes are due, the next one in `[lo, hi]`. -/
def utf8Good : Nat → Nat → Nat → List Nat → Bool
  | need, _, _, [] => need == 0
  | 0, _, _, b :: bs =>
    if b < 0x80 then utf8Good 0 0 0 bs
    else if 0xC2 ≤ b ∧ b ≤ 0xDF then utf8Good 1 0x80 0xBF bs
    else if b = 0xE0 then utf8Good 2 0xA0 0xBF bs
    else if b = 0xED then utf8Good 2 0x80 0x9F bs
    else if 0xE1 ≤ b ∧ b ≤ 0xEF then utf8Good 2 0x80 0xBF bs
    else if b = 0xF0 then utf8Good 3 0x90 0xBF bs
    else if 0xF1 ≤ b ∧ b ≤ 0xF3 then utf8Good 3 0x80 0xBF bs
    else if b = 0xF4 then utf8Good 3 0x80 0x8F bs
    else false
  | n + 1, lo, hi, b :: bs => decide (lo ≤ b) && decide (b ≤ hi) && utf8Good n 0x80 0xBF bs

/-- Whether a TEXT value is valid (Table 14.1): UTF-8 before the first zero byte, zeros after it. -/
def textGood (size v : Nat) : Bool :=
  let bytes := bytesOf size v
  let text := bytes.takeWhile fun b => b != 0
  utf8Good 0 0 0 text && (bytes.drop text.length).all fun b => b == 0

/-- The number that a value stands for: signed for S32 and S64. -/
def valueOf (type v : Nat) : Int :=
  match type with
  | 5 => ofS32 v
  | 6 => ofS64 v
  | _ => v

/-- Whether a value lies in its entry's stated range and step (R5, R348, R349). -/
def Entry.inRange (r : Entry) (v : Nat) : Bool :=
  match r.type with
  | 7 => decide (v ≤ 1)
  | 9 => v &&& (2 ^ 32 - 1 - r.max.toNat) == 0
  | 12 => true
  | 13 => textGood r.size v
  | t =>
    let i := valueOf t v
    if r.values ≠ [] then r.values.contains i
    else r.also.contains i || (decide (r.min ≤ i) && decide (i ≤ r.max) && i % (r.step : Int) == 0)

/-- An item's own checks: NO_ENTRY, NO_SUB, TYPE, ACCESS, LOCKED for an F-class entry, and its RANGE (R361, R348 to R351). -/
def State.itemCheck (s : State) (role : Role) (i : Item) : Nat :=
  match rowOf i.index i.sub with
  | none => if indexExists i.index then 2 else 1
  | some r =>
    if i.len ≠ r.size then 3
    else if r.access role = .ro then 5
    else if r.keep = .f ∧ s.eflash.rdpLevel ≠ 0 then 6
    else if r.inRange i.value = false then 4
    else if i.index = 0x1111 ∧ i.value % 2 = 0 then 4
    else 0

/-! ### Checks against state: `s` is the device, `t` the device with every value of the set stored -/

/-- The first code that is not 0. -/
def firstCode (cs : List Nat) : Nat := (cs.find? fun c => c != 0).getD 0

/-- A code, where its condition holds. -/
def codeIf (c : Nat) (b : Bool) : Nat := if b then c else 0

/-- Whether the mode is SAVE or RESTORE. -/
def State.saveOrRestore (s : State) : Bool := s.ctl.mode == .save || s.ctl.mode == .restore

/-- Whether two ranges share anything. -/
def rangesMeet (a n b m : Nat) : Bool := decide (max a b < min (a + n) (b + m))

/-- Whether a committed decoder of link `i` covers DPA that leaves the link's range (R48). -/
def State.decoderLoses (s t : State) (i : Nat) : Bool :=
  (s.link i).decoders.any fun d =>
    let lo := max d.2.base (s.partBase i)
    let hi := min (d.2.base + d.2.size) (s.partBase i + s.partSize i)
    decide (lo < hi) && !(decide (t.partBase i ≤ lo) && decide (hi ≤ t.partBase i + t.partSize i))

/-- Whether a slot that leaves link `i`'s Desk range is not FREE (R48). -/
def State.deskLoses (s t : State) (i : Nat) : Bool :=
  s.groups.slots.any fun e => decide (e.2.state ≠ .free) && s.inDesk i e.1 && !t.inDesk i e.1

/-- Checks of R46 to R48 on an entry of link `i`. -/
def State.partitionCheck (s t : State) (idx i : Nat) : Nat :=
  let dpa := idx == 0x2010 || idx == 0x2011
  let desk := idx == 0x2013 || idx == 0x2014
  let others := linkNos.filter fun j => j != i
  let alters := decide (t.partBase i ≠ s.partBase i) || decide (t.partSize i ≠ s.partSize i) ||
    decide (t.reg 0x2013 (i + 1) ≠ s.reg 0x2013 (i + 1)) || decide (t.reg 0x2014 (i + 1) ≠ s.reg 0x2014 (i + 1))
  let meet := fun j => rangesMeet (t.partBase i) (t.partSize i) (t.partBase j) (t.partSize j) &&
    !(t.reg 0x2015 (i + 1) == 1 && t.reg 0x2015 (j + 1) == 1)
  let deskMeet := fun j => rangesMeet (t.reg 0x2013 (i + 1)) (t.reg 0x2014 (i + 1)) (t.reg 0x2013 (j + 1)) (t.reg 0x2014 (j + 1))
  firstCode [
    codeIf 4 (dpa && decide (s.layout.hostVisible < t.partBase i + t.partSize i)),
    codeIf 4 (desk && decide (262144 < t.reg 0x2013 (i + 1) + t.reg 0x2014 (i + 1))),
    codeIf 6 (dpa && s.decoderLoses t i),
    codeIf 6 (desk && s.deskLoses t i),
    codeIf 7 (s.saveOrRestore && alters),
    codeIf 9 (!desk && others.any meet),
    codeIf 9 (desk && others.any deskMeet)]

/-- Whether a window is enabled. -/
def State.windowOn (s : State) (w : Nat) : Bool := s.reg (0x2500 + w) 3 % 2 == 1

/-- Whether two enabled windows overlap. -/
def State.windowsMeet (s : State) (w v : Nat) : Bool :=
  s.windowOn w && s.windowOn v &&
    rangesMeet (s.reg (0x2500 + w) 1) (s.reg (0x2500 + w) 2) (s.reg (0x2500 + v) 1) (s.reg (0x2500 + v) 2)

/-- Whether a page that holds a claim loses ATOMIC in window `w` (R87). -/
def State.claimLoses (s t : State) (w : Nat) : Bool :=
  s.groups.claims.any fun c => s.windowHas w (c.1 * 4096) && s.atomicAt (c.1 * 4096) && !t.atomicAt (c.1 * 4096)

/-- Checks of R85, R87 and R88 on window `w`. -/
def State.windowCheck (s t : State) (w : Nat) : Nat :=
  let base := t.reg (0x2500 + w) 1
  let size := t.reg (0x2500 + w) 2
  let sets := bits (t.reg (0x2500 + w) 3) 2 2 == 1 && bits (s.reg (0x2500 + w) 3) 2 2 == 0
  firstCode [
    codeIf 4 (t.windowOn w && (base % 65536 != 0 || size % 65536 != 0 || decide (size < 65536)
      || decide (s.layout.hostVisible < base + size))),
    codeIf 4 (sets && (s.layout.mirrorBytes == 0 || s.layout.mirrorBytes != s.reg 0x2411 0)),
    codeIf 6 (s.claimLoses t w),
    codeIf 7 s.saveOrRestore,
    codeIf 9 ((List.range 64).any fun v => v != w && t.windowsMeet w v)]

/-- The layout that the layout entries ask for (R82). -/
def State.layoutAsked (s : State) : Layout :=
  { s.layout with grain := s.reg 0x2400 1, journalBytes := s.reg 0x2410 0, mirrorBytes := s.reg 0x2411 0 }

/-- End of the highest partition or enabled window. -/
def State.lastUsed (s : State) : Nat :=
  let parts := linkNos.map fun i => if s.partSize i = 0 then 0 else s.partBase i + s.partSize i
  let windows := (List.range 64).map fun w => if s.windowOn w then s.reg (0x2500 + w) 1 + s.reg (0x2500 + w) 2 else 0
  (parts ++ windows).foldl max 0

/-- Checks of R82 on a layout entry. -/
def State.layoutCheck (s t : State) (idx : Nat) : Nat :=
  codeIf 6 (decide (t.layoutAsked.hostVisible < s.lastUsed) ||
    (idx == 0x2400 && t.reg 0x2400 1 != s.reg 0x2400 1 && s.reg 0x2400 3 != 1))

/-- Whether rails of two DRAM channels, of two NAND channel pairs, or DRAM rails with others lie in a group (R317). -/
def State.groupMixed (s : State) (g : Nat) : Bool :=
  let rs := (List.range 32).filter fun r => s.reg (0x6400 + r) 1 != 0 && s.reg (0x6400 + r) 3 == g
  rs.any fun a => rs.any fun b =>
    let ra := s.reg (0x6400 + a) 1
    let rb := s.reg (0x6400 + b) 1
    let units := s.reg (0x6400 + a) 2 != s.reg (0x6400 + b) 2
    (ra == 3 && (rb != 3 || units)) || (ra == 4 && rb == 4 && units)

/-- Policies that a role allows (Table 12.8). -/
def policyAllowed (role policy : Nat) : Bool :=
  policy == 0 || (match role with
    | 2 => policy == 2 || policy == 4
    | 3 | 4 => policy == 1
    | _ => true)

/-- Checks of R317, R324 and Table 12.8 on rail `r`. -/
def State.railCheck (t : State) (r sub : Nat) : Nat :=
  let unit := t.reg (0x6400 + r) 2
  let role := t.reg (0x6400 + r) 1
  firstCode [
    codeIf 4 ((sub == 1 || sub == 2) && role == 4 && decide (8 < unit)),
    codeIf 9 (decide (sub ≤ 3) && t.groupMixed (t.reg (0x6400 + r) 3)),
    codeIf 9 ((sub == 1 || sub == 8) && !policyAllowed role (t.reg (0x6400 + r) 8)),
    codeIf 9 (sub == 8 && decide (4 < ((List.range 32).filter fun k => t.reg (0x6400 + k) 8 != 0).length))]

/-- The relations of R480 that an entry takes part in. -/
def State.relationCheck (t : State) (idx sub : Nat) : Nat :=
  let cells := t.reg 0x6000 2
  let cut := t.reg 0x6001 0
  let cutDefault := profileCutoff (t.reg 0x6000 1) cells (t.reg 0x6000 4 * cells)
  let threshold := t.reg 0x6002 2
  let lo := if t.reg 0x6002 1 = 0 then 8000 else 32000
  let hi := if t.reg 0x6002 1 = 0 then 11500 else 46000
  codeIf 4 (
    (idx == 0x3010 && decide (t.reg 0x3010 2 ≤ t.reg 0x3010 1)) ||
    (idx == 0x6002 && sub != 1 && decide (t.reg 0x6002 4 ≤ threshold + t.reg 0x6002 3)) ||
    (idx == 0x6002 && decide (sub ≤ 2) && (decide (threshold < lo) || decide (hi < threshold))) ||
    (idx == 0x6000 && (sub == 1 || sub == 4) && decide (profileMaxMv (t.reg 0x6000 1) < t.reg 0x6000 4)) ||
    ((idx == 0x6001 || (idx == 0x6000 && (sub == 1 || sub == 2 || sub == 4))) && cut != 0 && decide (cut < cutDefault)) ||
    (idx == 0x6000 && (sub == 2 || sub == 3) && decide (24 < t.reg 0x6000 3 * cells)) ||
    ((idx == 0x6092 || idx == 0x6093) && decide (t.ireg 0x6093 0 < t.ireg 0x6092 0)))

/-- Checks of R453 and R454 on the injector of block `b`. -/
def State.injectorCheck (s t : State) (role : Role) (b sub v : Nat) : Nat :=
  firstCode [
    codeIf 4 ((sub == 1 || (sub == 2 && v != 0)) && !(faultCodes b).testBit (t.reg (0x9100 + b) 1)),
    codeIf 6 (sub == 2 && v == 2 && (s.eflash.rdpLevel == 2 || role != .service || s.reg 0x9003 0 != 1))]

/-- Whether a domain change is LOCKED: a decision table entry is not FREE, or a part is PREPARED or IN_DOUBT (R232). -/
def State.domainLocked (s : State) : Bool :=
  !s.groups.decisions.isEmpty || s.groups.slots.any fun e =>
    e.2.part && (e.2.state == .prepared || e.2.state == .inDoubt)

/-- Whether an image that is STAGED or PENDING lacks a NAND profile (R438). -/
def State.profileAbsent (s : State) (v : Nat) : Bool :=
  ([0, 1] : List Nat).any fun b => ((s.slotOf b).state == 2 || (s.slotOf b).state == 3) &&
    !(components (s.imageUnits b)).any fun c => c.type == 7 && c.inst == v

/-- Whether a program or an erase runs or is suspended in either bank. -/
def State.flashBusy (s : State) : Bool :=
  ([0, 1] : List Nat).any fun b => (s.bank b).op.isSome || (s.bank b).suspended.isSome

/-- Checks of a write that asks for a BLOCK reset (R345). -/
def State.blockCheck (s : State) : Nat :=
  let c := s.reg 0x1122 1
  firstCode [codeIf 4 (c == 0 || decide (8 < c)), codeIf 6 (c == 4 && s.flashBusy), codeIf 7 s.saveOrRestore]

/-- Checks of a write of `save_request` (R267, R269). -/
def State.saveRequestCheck (s : State) (v : Nat) : Nat :=
  let m := s.ctl.mode
  codeIf 7 (s.save.arm != 0 || !(m == .online || m == .drowse || (v == 2 && m == .restore && s.ctl.access)))

/-- Checks of a write of `rdp_level` (R419, R420): a rise by B or S, a lowering to 0 by S. -/
def State.rdpCheck (s : State) (role : Role) (v : Nat) : Nat :=
  if s.eflash.rdpLevel ≤ v then 0
  else firstCode [codeIf 5 (role != .service), codeIf 6 (s.lowerLocked || v != 0), codeIf 7 s.saveOrRestore]

/-- Checks of the entries that ask for an action, and of others with a state check of their own. -/
def State.requestCheck (s : State) (role : Role) (idx sub v : Nat) : Nat :=
  match idx, sub with
  | 0x1122, 2 => if v = 0 then 0 else s.blockCheck
  | 0x3030, _ => codeIf 6 (s.reg 0x2400 3 != 1)
  | 0x3460, _ | 0x3461, _ | 0x3462, _ => codeIf 7 s.saveOrRestore
  | 0x4011, _ => codeIf 4 (decide (s.layout.hostVisible < v))
  | 0x4840, 2 => codeIf 4 (s.inDoubtParts (s.reg 0x4840 1)).isEmpty
  | 0x5001, _ => codeIf 6 (s.profileAbsent v)
  | 0x5410, _ => s.saveRequestCheck v
  | 0x8010, _ => s.rdpCheck role v
  | 0x8403, 0 => firstCode [codeIf 6 (s.revokeLocked v), codeIf 7 s.saveOrRestore]
  | 0x9010, 2 => codeIf 6 (s.test.running.find? (s.reg 0x9010 1)).isSome
  | 0x9010, 5 => codeIf 6 (v == 1 && !s.unitAllowed (s.reg 0x9010 1))
  | 0x9020, 3 => codeIf 4 (decide (s.breg (s.reg 0x9020 1) 0x9020 2 ≤ 1) && decide (32 < v))
  | 0x9020, 5 => codeIf 6 (v == 1 && !s.marginAllowed (s.reg 0x9020 1))
  | _, _ => 0

/-- Every check of an item against state. `staged` says which entries the set writes: a fault of a window is the fault of
its `window_attr`, where the set writes that entry (worked example of R364). -/
def State.stateCheck (s t : State) (role : Role) (staged : Nat → Nat → Bool) (idx sub v : Nat) : Nat :=
  if idx = 0x2010 ∨ idx = 0x2011 ∨ idx = 0x2013 ∨ idx = 0x2014 ∨ idx = 0x2015 then s.partitionCheck t idx (sub - 1)
  else if 0x2500 ≤ idx ∧ idx ≤ 0x253F ∧ sub ≤ 3 then
    (if sub ≠ 3 ∧ staged idx 3 = true then 0 else s.windowCheck t (idx - 0x2500))
  else if idx = 0x2400 ∨ idx = 0x2410 ∨ idx = 0x2411 then s.layoutCheck t idx
  else if (idx = 0x4800 ∧ sub ≤ 3) ∨ idx = 0x4801 then codeIf 6 (v != s.reg idx sub && s.domainLocked)
  else if 0x6400 ≤ idx ∧ idx ≤ 0x641F ∧ sub ≤ 8 then t.railCheck (idx - 0x6400) sub
  else if idx = 0x3010 ∨ idx = 0x6000 ∨ idx = 0x6001 ∨ idx = 0x6002 ∨ idx = 0x6092 ∨ idx = 0x6093 then t.relationCheck idx sub
  else if 0x9100 ≤ idx ∧ idx ≤ 0x9110 ∧ sub ≤ 2 then s.injectorCheck t role (idx - 0x9100) sub v
  else s.requestCheck role idx sub v

end Sys2Proof.Machine
end

