-- ==== Sys2Proof/Machine/Writes.lean ====
section
/-! DEFINITION. What a dictionary write does once its checks have passed (R350, Table 14.3). -/

namespace Sys2Proof.Machine

/-! ### Storing a value -/

/-- The selection an entry's write acts on, as a number: the selected unit, 0 for an entry without one (R479). -/
def State.selNo (s : State) (idx sub : Nat) : Nat := (s.selection idx sub).getD 0

/-- Store an entry under a selection. -/
def State.put (s : State) (idx sub sel v : Nat) : State :=
  if (s.selection idx sub).isSome then s.setBreg sel idx sub v else s.setReg idx sub v

/-- The stored value of an entry under a selection. -/
def State.held (s : State) (idx sub sel : Nat) : Nat :=
  if (s.selection idx sub).isSome then s.breg sel idx sub else s.reg idx sub

/-- A W1C write (Table 14.3): a BITS32 or BYTES entry loses the bits written, another one clears on a non-zero value. A sticky
bit stays while its live bit is 1 (R371). -/
def State.clearEntry (s : State) (r : Entry) (idx sub sel v : Nat) : State :=
  if 0x7000 ≤ idx ∧ idx ≤ 0x7010 then
    let g := s.faultGroup (idx - 0x7000)
    let h := if sub = 2 then { g with sticky := g.sticky &&& (~~~(BitVec.ofNat 32 v) ||| g.liveWord) }
             else if v = 0 then g else { g with events := 0 }
    { s with faults := s.faults.put (idx - 0x7000) h }
  else if r.type = 9 ∨ r.type = 12 then
    let old := s.held idx sub sel
    s.put idx sub sel (old - (old &&& v))
  else if v = 0 then s else s.put idx sub sel 0

/-! ### Effects of entries that do more than hold a value -/

/-- A window's entries change (R88): MIRROR newly in force, or over other leaves, arms; MIRROR no longer in force frees the
copies. -/
def State.windowApplied (before s : State) (w : Nat) : State :=
  let on := fun (t : State) => t.windowOn w && bits (t.reg (0x2500 + w) 3) 2 2 == 1
  let moved := before.reg (0x2500 + w) 1 != s.reg (0x2500 + w) 1 || before.reg (0x2500 + w) 2 != s.reg (0x2500 + w) 2
  let t := s.freeMirrors fun f => before.windowHas w (f * 65536) && !s.mirrorAt (f * 65536)
  if on s = false then t.setReg (0x2500 + w) 5 0
  else if on before = false ∨ moved = true then (t.windowLeaves w).foldl State.armLeaf (t.setReg (0x2500 + w) 5 1)
  else t

/-- Hellos are compared again once the domain or the generation has changed (R203, R232): a port whose hello disagrees leaves
service, and one that now agrees enters it. -/
def State.recheckPort (s : State) (p : Nat) : State :=
  let x := s.port p
  match x.hello with
  | none => s
  | some h =>
    if x.state = .inService ∧ (s.helloAgrees h = false ∨ s.inDomain = false) then
      s.holdPort p x
    else if x.state = .up ∧ s.helloAgrees h = true ∧ s.inDomain = true ∧ x.failed = false then s.enterService p
    else s

/-- Arm or disarm the injector of block `b` as its mode now stands (R454); an `inj_at_beat` that has passed is never met. -/
def State.armInjector (s : State) (b : Nat) : State :=
  if s.reg (0x9100 + b) 2 = 0 then { s with test := { s.test with injDue := s.test.injDue.del b } }
  else
    let at' := s.reg (0x9100 + b) 3
    let now := s.clock.ext.toNat
    let due := if at' = 0 then now + 1 else if at' ≤ now then at' + 2 ^ 64 else at'
    { s with test := { s.test with injDue := s.test.injDue.put b (due, s.reg (0x9100 + b) 4) } }

/-- A write of `rdp_level` (R419, R420): the current level does nothing; a lowering ends in a COLD reset. -/
def State.rdpWrite (s : State) (v : Nat) : State :=
  if v = s.eflash.rdpLevel then s
  else if s.eflash.rdpLevel < v then s.rdpRaise v
  else (s.rdpErase.note Code.rdpLowered).coldReset .rdpLowered

/-- Arm a lowering of read-out protection (R420). -/
def State.armLower (s : State) (v : Nat) : State :=
  if v = 0x5A5A then { s with eflash := { s.eflash with lowerArm := some s.clock.beat } } else s

/-- Arm a key revocation (R427). -/
def State.armRevoke (s : State) (v : Nat) : State :=
  if v = 0xC0DE then { s with security := { s.security with revokeArm := some s.clock.beat } } else s

/-- Arm a save (R267). -/
def State.saveRequest (s : State) (v : Nat) : State := s.armSave (if v = 1 then .command else .commandHalt) 1

/-- Start proactive sparing of an ACTIVE channel (R136). -/
def State.spareRequest (s : State) (v : Nat) : State :=
  if s.chanState v = 0 ∧ s.dram.target = none then s.startCopy v else s

/-- Mark a FAILED channel for requalification (R144), or one that is LOST with no search to end its loss (DEDUCED, log
entry 53). -/
def State.requalifyRequest (s : State) (v : Nat) : State :=
  if s.chanState v = 4 ∨ (s.chanState v = 3 ∧ s.dram.search.find? v = none) then s.requalify v else s

/-- Request a rehearsal (R171). -/
def State.rehearsalRequest (s : State) : State := if s.trickle.rehearsal = .none then s.rehearsalFallsDue else s

/-- A host link's `link_enable` (R71, R456). -/
def State.linkWrite (s : State) (i v : Nat) : State := (if v = 1 then s.stopLinkUnits i else s).linkEnable i v

/-- A Trestle port's `link_enable` (R205, R456). -/
def State.portWrite (s : State) (p v : Nat) : State := (if v = 1 then s.stopPortUnits p else s).portEnable p v

/-- A write of `pt_run` by a message: what a stopped unit has counted is not in the message, a free value (log entry 24). -/
def State.ptRunWrite (s : State) (v : Nat) : State :=
  { s with free := s.free + 3 }.ptWrite v (Config.free s.free) (Config.free (s.free + 1)) (Config.free (s.free + 2))

/-- Entries of 0x1000 to 0x4FFF whose write acts. -/
def State.act1 (s : State) (idx sub v : Nat) : Option State :=
  match idx, sub with
  | 0x1120, _ => some (if v = 1 then s.coldReset .command else s)
  | 0x1121, _ => some (if v = 1 then s.bureauReset else s)
  | 0x1122, 2 => some (if v = 1 then s.blockReset (s.reg 0x1122 1) else s)
  | 0x1200, 2 => some (s.setWall (ofS64 v))
  | 0x2005, i => some (s.linkWrite (i - 1) v)
  | 0x3460, _ => some (s.retrainRequest v)
  | 0x3461, _ => some (s.spareRequest v)
  | 0x3462, _ => some (s.requalifyRequest v)
  | 0x4023, _ => some (if v = 1 then s.rehearsalRequest else s)
  | 0x4050, _ =>
    some (if v = 0 ∧ s.ctl.tricklePeriod = true then (s.setReg 0x4050 0 v).pausePeriod else s.setReg 0x4050 0 v)
  | 0x4810, 2 => some (s.portWrite 0 v)
  | 0x4811, 2 => some (s.portWrite 1 v)
  | 0x4840, 2 => some (s.forceOutcome (v == 1))
  | _, _ => if 0x3400 ≤ idx ∧ idx ≤ 0x340C ∧ sub = 3 then some (s.rateMax (idx - 0x3400) v) else none

/-- Entries of 0x5000 on whose write acts. -/
def State.act5 (s : State) (idx sub v : Nat) : Option State :=
  match idx, sub with
  | 0x5410, _ => some (s.saveRequest v)
  | 0x6026, _ => some (if v = 1 then s.clearCharger else s)
  | 0x6051, _ => some (if v = 1 then s.healthFallsDue true else s)
  | 0x6465, _ => some (if v = 1 then s.seqRetry else s)
  | 0x8010, _ => some (s.rdpWrite v)
  | 0x8011, _ => some (s.armLower v)
  | 0x8403, 0 => some (s.revoke v)
  | 0x8403, 1 => some (s.armRevoke v)
  | 0x9010, 5 => some (s.ptRunWrite v)
  | 0x9020, 5 => some (s.marginWrite v)
  | _, _ =>
    if 0x6440 ≤ idx ∧ idx ≤ 0x644F ∧ sub = 1 then some (s.groupEnable (idx - 0x6440) v)
    else if 0x7000 ≤ idx ∧ idx ≤ 0x7010 ∧ sub = 10 then some (if v = 1 then s.clearFaults (idx - 0x7000) else s)
    else none

/-- The action of an entry whose write acts. -/
def State.act (s : State) (idx sub v : Nat) : Option State := if idx < 0x5000 then s.act1 idx sub v else s.act5 idx sub v

/-- What the stored values of some entries bring with them, once for all of them, as a set is atomic (R361): windows, the domain
(R232), injectors, and a bank hash that waits for a reset (R111). -/
def State.follow (before s : State) (es : List (Nat × Nat)) : State :=
  let ws := ((es.filter fun e => decide (0x2500 ≤ e.1) && decide (e.1 ≤ 0x253F) && decide (e.2 ≤ 3)).map (·.1 - 0x2500)).eraseDups
  let bs := ((es.filter fun e => decide (0x9100 ≤ e.1) && decide (e.1 ≤ 0x9110) && e.2 == 2).map (·.1 - 0x9100)).eraseDups
  let domain := es.any fun e => (e.1 == 0x4800 && decide (e.2 ≤ 3)) || e.1 == 0x4801
  let hash := es.any fun e => e.1 == 0x3030 && decide (1 ≤ e.2) && decide (e.2 ≤ 6)
  let t := bs.foldl State.armInjector (ws.foldl before.windowApplied s)
  let u := if domain then (t.recheckPort 0).recheckPort 1 else t
  { u with ctl := { u.ctl with hashPending := u.ctl.hashPending || hash } }

/-- Count an applied write of a D entry (R353), and keep the settings format under which a P value was stored (R354). -/
def State.kept (s : State) (r : Entry) : State :=
  match r.keep with
  | .d => s.setReg 0xA003 0 ((s.reg 0xA003 0 + 1) % 2 ^ 64)
  | .p => { s with security := { s.security with storedFormat := s.security.settingsFormat } }
  | _ => s

/-- Store the value of a write that has passed its checks, clear what it clears, or take the action that it asks for. -/
def State.storeValue (s : State) (role : Role) (idx sub sel v : Nat) : State :=
  match rowOf idx sub with
  | none => s
  | some r =>
    (if r.access role = .w1c then s.clearEntry r idx sub sel v
     else match s.act idx sub v with
       | some t => t
       | none => s.put idx sub sel v).kept r

/-- Apply a write that has passed its checks. -/
def State.applyWrite (s : State) (role : Role) (idx sub sel v : Nat) : State :=
  s.follow (s.storeValue role idx sub sel v) [(idx, sub)]

/-- Whether a set that is submitted and not yet applied writes an entry (R357). -/
def State.entryPending (s : State) (idx sub sel : Nat) : Bool :=
  s.dict.submitted.any fun u => u.items.any fun e => e.1.index == idx && e.1.sub == sub && e.2 == sel

/-- The code that a WRITE of one item gets, its application apart (R349, R357, R358). -/
def State.writeCode (s : State) (role : Role) (i : Item) : Nat :=
  let sel := s.selNo i.index i.sub
  let own := s.itemCheck role i
  if s.ctl.mode = .save ∧ saveEntry i.index = false then 7
  else if own ≠ 0 then own
  else if s.entryPending i.index i.sub sel then 8
  else if beatEntry i.index i.sub then 0
  else s.stateCheck (s.put i.index i.sub sel i.value) role (fun _ _ => false) i.index i.sub i.value

/-- Stage a plain WRITE of a BEAT entry as a set of one item, for place `place` of reply `reply` (R357). -/
def State.stageBeat (s : State) (role : Role) (link : Fin 4) (member tag reply place : Nat) (i : Item) : State :=
  { s with dict := { s.dict with submitted := s.dict.submitted ++
      [{ slot := none, reply := reply, place := place, role := role, link := link, member := member, tag := tag,
         items := [(i, s.selNo i.index i.sub)] }] } }

/-- One item of a WRITE: its code, applied or staged where the code is 0. -/
def State.writeItem (s : State) (role : Role) (link : Fin 4) (member tag reply place : Nat) (i : Item) : State × Nat :=
  let code := s.writeCode role i
  if code ≠ 0 then (s, code)
  else if beatEntry i.index i.sub then (s.stageBeat role link member tag reply place i, 0)
  else (s.applyWrite role i.index i.sub (s.selNo i.index i.sub) i.value, 0)

/-- The items of a WRITE, in order, each on its own (R355): the state, their response items, and the parts that wait. -/
def State.writeItems (s : State) (role : Role) (link : Fin 4) (member tag reply : Nat) :
    Nat → List Item → State × List RespItem × Nat
  | _, [] => (s, [], 0)
  | place, i :: is =>
    let w := s.writeItem role link member tag reply place i
    let waits := decide (w.2 = 0) && beatEntry i.index i.sub
    let rest := w.1.writeItems role link member tag reply (place + 1) is
    (rest.1, respOf i w.2 :: rest.2.1, rest.2.2 + waits.toNat)

/-- A WRITE of items by a role: at once, or its response after the boundary at which its last BEAT item applied. -/
def State.write (s : State) (role : Role) (link : Fin 4) (member tag : Nat) (items : List Item) : State :=
  let n := s.dict.nextReply
  let w := s.writeItems role link member tag n 0 items
  if w.2.2 = 0 then w.1.respond .write role link member tag 0 0 0 0 w.2.1
  else
    { w.1 with dict := { w.1.dict with
        replies := w.1.dict.replies.put n
          { role := role, link := link, member := member, tag := tag, items := w.2.1, left := w.2.2 },
        nextReply := n + 1 } }

end Sys2Proof.Machine
end

