-- ==== Sys2Proof/Machine/Dict.lean ====
section
/-! DEFINITION. Dictionary messages (R353 to R364): their limits and routes, reads, writes, descriptors and change sets, and the
commands that write one entry. -/

namespace Sys2Proof.Machine

/-! ### Reads and descriptors -/

/-- Read one entry. A read of `read_record` also moves `read_next_seq` (R384). -/
def State.readItem (s : State) (role : Role) (i : Item) : State × RespItem :=
  match rowOf i.index i.sub with
  | none => (s, ⟨i.index, i.sub, if indexExists i.index then 2 else 1, 0, 0⟩)
  | some r =>
    if r.access role = .wo then (s, ⟨i.index, i.sub, 5, r.type, 0⟩)
    else if i.index = 0x7430 ∧ i.sub = 3 then
      let x := s.readRecord
      (x.1, ⟨i.index, i.sub, 0, r.type, x.2.1⟩)
    else (s, ⟨i.index, i.sub, 0, r.type, s.value i.index i.sub⟩)

/-- Read entries in order (R355). -/
def State.readItems (role : Role) : List Item → State → State × List RespItem
  | [], s => (s, [])
  | i :: is, s =>
    let x := s.readItem role i
    let rest := State.readItems role is x.1
    (rest.1, x.2 :: rest.2)

/-- Code of an access (Table 14.10). -/
def Access.code : Access → Nat
  | .ro => 0 | .rw => 1 | .wo => 2 | .w1c => 3

/-- Code of a keeping class (Table 14.10). -/
def Keeping.code : Keeping → Nat
  | .v => 0 | .p => 1 | .d => 2 | .f => 3

/-- The next address as a descriptor holds it (R364). -/
def nextAddress (idx sub : Nat) : Nat :=
  match nextEntry idx sub with
  | some (i, j) => i + 65536 * j
  | none => 0xFFFFFFFF

/-- A descriptor of no entry: an error, or the one that starts the enumeration. -/
def Descriptor.none' (idx sub error next : Nat) : Descriptor :=
  { index := idx, sub := sub, error := error, type := 0, size := 0, keeping := 0, flags := 0, access := [0, 0, 0, 0],
    minimum := 0, maximum := 0, dflt := 0, step := 0, next := next, name := "" }

/-- The descriptor of an entry (Table 14.10). -/
def State.describe (s : State) (idx sub : Nat) : Descriptor :=
  match rowOf idx sub with
  | none =>
    if idx = 0 ∧ sub = 0 then Descriptor.none' 0 0 0 (nextAddress 0 0)
    else Descriptor.none' idx sub (if indexExists idx then 2 else 1) 0
  | some r =>
    let raw := r.type == 12 || r.type == 13
    { index := idx, sub := sub, error := 0, type := r.type, size := r.size, keeping := r.keep.code,
      flags := (beatEntry idx sub).toNat + 2 * (latchedEntry idx sub).toNat + 4 * (saveEntry idx).toNat,
      access := [r.h.code, r.b.code, r.t.code, r.s.code],
      minimum := if raw then 0 else r.min, maximum := if raw then r.size else r.max,
      dflt := if raw then 0 else valueOf r.type (defaultValue s (s.selNo idx sub) idx sub),
      step := r.step, next := nextAddress idx sub, name := r.name }

/-! ### Change sets (R361 to R363) -/

/-- The slot and the set that a handle names. -/
def State.setOf (s : State) (handle : Nat) : Option (Nat × ChangeSet) :=
  match s.dict.sets.find? (handle % 16) with
  | some c => if c.generation = handle / 16 then some (handle % 16, c) else none
  | none => none

/-- Keep a set in its slot. -/
def State.putSet (s : State) (k : Nat) (c : ChangeSet) : State := { s with dict := { s.dict with sets := s.dict.sets.put k c } }

/-- Free a slot. -/
def State.dropSet (s : State) (k : Nat) : State := { s with dict := { s.dict with sets := s.dict.sets.del k } }

/-- Answer a message about a set. -/
def State.answerSet (s : State) (op : DictOp) (m : DictMsg) (result handle : Nat) (items : List RespItem) : State :=
  s.respond op m.role m.link m.member m.tag 0 result handle 0 items

/-- SET_OPEN: one of 16 slots. -/
def State.openSet (s : State) (m : DictMsg) : State :=
  match (List.range 16).find? fun k => (s.dict.sets.find? k).isNone with
  | none => s.answerSet .setOpen m 10 0 []
  | some k =>
    let g := s.dict.nextGen
    let t := s.putSet k { generation := g, submitted := false, failed := false, items := [], lastBeat := s.clock.beat }
    { t with dict := { t.dict with nextGen := (g + 1) % 2 ^ 28 } }.answerSet .setOpen m 0 (handleOf k g) []

/-- Bytes of the values that a set holds. -/
def ChangeSet.bytes (c : ChangeSet) : Nat := c.items.foldl (fun a e => a + e.1.len) 0

/-- Stage one item: an entry already staged takes the new value; beyond 256 items or 16 KiB the set is FAILED. -/
def State.stageItem (s : State) (role : Role) (c : ChangeSet) (i : Item) : ChangeSet × Nat :=
  let code := s.itemCheck role i
  let sel := s.selNo i.index i.sub
  let same := fun (e : Item × Nat) => e.1.index == i.index && e.1.sub == i.sub && e.2 == sel
  if code ≠ 0 then ({ c with failed := true }, code)
  else if c.items.any same then ({ c with items := c.items.map fun e => if same e then (i, sel) else e }, 0)
  else if 256 ≤ c.items.length ∨ 16384 < c.bytes + i.len then ({ c with failed := true }, 10)
  else ({ c with items := c.items ++ [(i, sel)] }, 0)

/-- Stage items in order. -/
def State.stageItems (s : State) (role : Role) : List Item → ChangeSet → ChangeSet × List RespItem
  | [], c => (c, [])
  | i :: is, c =>
    let x := s.stageItem role c i
    let rest := s.stageItems role is x.1
    (rest.1, respOf i x.2 :: rest.2)

/-- SET_ADD. -/
def State.addSet (s : State) (m : DictMsg) : State :=
  if s.ctl.mode = .save then s.answerSet .setAdd m 7 m.handle []
  else match s.setOf m.handle with
    | none => s.answerSet .setAdd m 1 m.handle []
    | some (k, c) =>
      if c.submitted then s.answerSet .setAdd m 8 m.handle []
      else
        let x := s.stageItems m.role m.items { c with lastBeat := s.clock.beat }
        (s.putSet k x.1).answerSet .setAdd m 0 m.handle x.2

/-- Refuse a set at SET_SUBMIT: freed, nothing applied. -/
def State.refuseSubmit (s : State) (m : DictMsg) (k code : Nat) : State :=
  ((s.dropSet k).addReg 0x1202 2 1).answerSet .setSubmit m code m.handle []

/-- SET_SUBMIT: the set closes and waits for step 4. -/
def State.submitSet (s : State) (m : DictMsg) : State :=
  if s.ctl.mode = .save then s.answerSet .setSubmit m 7 m.handle []
  else match s.setOf m.handle with
    | none => s.answerSet .setSubmit m 1 m.handle []
    | some (k, c) =>
      if c.submitted then s.answerSet .setSubmit m 8 m.handle []
      else if c.failed then s.refuseSubmit m k 9
      else if c.items.any fun e => s.entryPending e.1.index e.1.sub e.2 then s.refuseSubmit m k 8
      else
        let t := s.putSet k { c with submitted := true }
        let u : Submitted := { slot := some k, reply := 0, place := 0, role := m.role, link := m.link, member := m.member,
                               tag := m.tag, items := c.items }
        { t with dict := { t.dict with submitted := t.dict.submitted ++ [u] } }

/-- SET_DISCARD. -/
def State.discardSet (s : State) (m : DictMsg) : State :=
  match s.setOf m.handle with
  | none => s.answerSet .setDiscard m 1 m.handle []
  | some (k, c) => if c.submitted then s.answerSet .setDiscard m 8 m.handle [] else (s.dropSet k).answerSet .setDiscard m 0 m.handle []

/-- SET_STATUS. -/
def State.statusSet (s : State) (m : DictMsg) : State :=
  match s.setOf m.handle with
  | none => s.answerSet .setStatus m 1 m.handle []
  | some (k, c) =>
    (s.putSet k { c with lastBeat := s.clock.beat }).answerSet .setStatus m
      (if c.submitted then 8 else if c.failed then 9 else 0) m.handle []

/-! ### Step 4 of a beat: submitted sets and snapshots -/

/-- The device with every item of a set stored, an entry that is cleared or asks for an action left as it is. -/
def State.stagedWith (s : State) (role : Role) (items : List (Item × Nat)) : State :=
  items.foldl (fun (t : State) e =>
    match rowOf e.1.index e.1.sub with
    | some r => if r.access role = .rw then t.put e.1.index e.1.sub e.2 e.1.value else t
    | none => t) s

/-- The items of a set that fail validation, with their codes (R361 step 4). -/
def State.setFails (s : State) (u : Submitted) : List RespItem :=
  let t := s.stagedWith u.role u.items
  let staged := fun idx sub => u.items.any fun e => e.1.index == idx && e.1.sub == sub
  u.items.filterMap fun e =>
    let code := s.stateCheck t u.role staged e.1.index e.1.sub e.1.value
    if code = 0 then none else some (respOf e.1 code)

/-- Apply every item of a set, and then what their values bring with them. -/
def State.applyItems (s : State) (u : Submitted) : State :=
  s.follow (u.items.foldl (fun (t : State) e => t.storeValue u.role e.1.index e.1.sub e.2 e.1.value) s)
    (u.items.map fun e => (e.1.index, e.1.sub))

/-- Validate a set, and apply it or refuse it whole. -/
def State.applySet (s : State) (u : Submitted) : State :=
  let beat := s.clock.ext.toNat % 2 ^ 32
  let fails := s.setFails u
  if fails = [] then ((s.applyItems u).addReg 0x1202 1 1).settle u 0 beat []
  else (s.addReg 0x1202 2 1).settle u 9 beat fails

/-- The sets that one step 4 takes: at most 4, with at most 1,024 items in all, in order of submission (R362). -/
def setsOfStep : Nat → Nat → List Submitted → List Submitted
  | 0, _, _ => []
  | _, _, [] => []
  | n + 1, room, u :: us => if u.items.length ≤ room then u :: setsOfStep n (room - u.items.length) us else []

/-- Apply the submitted sets of this step 4. -/
def State.applySets (s : State) : State :=
  let now := setsOfStep 4 1024 s.dict.submitted
  let t := { s with dict := { s.dict with submitted := s.dict.submitted.drop now.length } }
  now.foldl State.applySet t

/-- Answer the SNAPSHOT reads (R356), with the beat. -/
def State.takeSnapshots (s : State) : State :=
  let t := { s with dict := { s.dict with snapshots := [] } }
  s.dict.snapshots.foldl (fun (t : State) m =>
    let x := State.readItems m.role m.items t
    x.1.respond .read m.role m.link m.member m.tag 0 0 0 (t.clock.ext.toNat % 2 ^ 32) x.2) t

/-! ### Messages -/

/-- Bytes of the response that an operation needs; a descriptor travels as a value of 80 B. -/
def responseBytes (op : DictOp) (m : DictMsg) : Nat :=
  match op with
  | .read => m.items.foldl (fun a i => a + paddedBytes (match rowOf i.index i.sub with | some r => r.size | none => 0)) 16
  | .write | .setAdd => 16 + 8 * m.items.length
  | .describe => 16 + 88 * m.items.length
  | _ => 16

/-- Request and response limit of a role's transport (Table 14.11). -/
def messageLimit (r : Role) : Nat := if r = .fleet then 704 else 4096

/-- Whether a message's layout is invalid (Tables 14.5, 14.8). -/
def malformed (op : DictOp) (m : DictMsg) : Bool :=
  let target := m.target != 0xFFFF && decide (1024 ≤ m.target)
  let lens := m.items.any fun i => i.len != 0
  m.malformed || target || (match op with
    | .read => lens || m.handle != 0 || (m.snapshot && decide (64 < m.items.length))
    | .describe => lens || m.handle != 0
    | .write => m.handle != 0
    | .setOpen => m.handle != 0 || !m.items.isEmpty
    | .setAdd => false
    | .setSubmit | .setDiscard | .setStatus => !m.items.isEmpty)

/-- Execute a message whole (R355); it is counted. -/
def State.runMsg (s : State) (op : DictOp) (m : DictMsg) : State :=
  let t := s.addReg 0xA032 0 1
  match op with
  | .read =>
    if m.snapshot then { t with dict := { t.dict with snapshots := t.dict.snapshots ++ [m] } }
    else
      let x := State.readItems m.role m.items t
      x.1.respond .read m.role m.link m.member m.tag 0 0 0 0 x.2
  | .write => t.write m.role m.link m.member m.tag m.items
  | .describe =>
    let ds := m.items.map fun i => t.describe i.index i.sub
    let u := t.emit (.describe m.role m.link.val m.tag 0 ds)
    match m.role with
    | .fleet =>
      let rs := ds.map Descriptor.item
      u.sendSegments m.member m.tag (respBytes .describe rs) (responseImage .describe m.tag 0 0 0 0 rs)
    | .host => u.signal m.link.val 0
    | _ => u
  | .setOpen => t.openSet m
  | .setAdd => t.addSet m
  | .setSubmit => t.submitSet m
  | .setDiscard => t.discardSet m
  | .setStatus => t.statusSet m

/-- A response that says only a transport status (Table 14.8). -/
def State.transportStatus (s : State) (op : DictOp) (m : DictMsg) (status : Nat) : State :=
  s.respond op m.role m.link m.member m.tag status 0 m.handle 0 []

/-- The lowest key under which a tunnel request with a tag may stand. -/
def State.tunnelKey (s : State) (tag : Nat) : Nat :=
  tag + 65536 * ((List.range 9).find? fun n => (s.trestle.tunnels.find? (tag + 65536 * n)).isNone).getD 0

/-- Send a request to another member (R235, R360). -/
def State.sendTunnel (s : State) (op : DictOp) (m : DictMsg) : State :=
  let n := ceilDiv (DictMsg_bytes m) 44
  let x : Tunnel := { target := m.target, beat := s.clock.beat, role := m.role, link := m.link, tag := m.tag }
  let t := { s with trestle := { s.trestle with tunnels := s.trestle.tunnels.put (s.tunnelKey m.tag) x } }
  (List.range n).foldl (fun t k => t.queueCell (some m.target) (.tunnelReq m.tag k n (segmentOf (requestImage op m) k))) t

/-- A message for another member: refused by role, by route, by size or by number, or tunnelled (R360, Table 14.8). -/
def State.forward (s : State) (op : DictOp) (m : DictMsg) : State :=
  if m.role = .fleet then s.transportStatus op m 6
  else if m.role = .host ∧ s.reg 0xA020 0 = 0 then s.transportStatus op m 7
  else if s.inDomain = false ∨ s.alive m.target = false then s.transportStatus op m 3
  else if 704 < DictMsg_bytes m then s.transportStatus op m 2
  else if 8 ≤ s.trestle.tunnels.length then s.transportStatus op m 5
  else s.sendTunnel op m

/-- A message that the Bureau takes: layout, limits and target, and then its execution. -/
def State.takeMsg (s : State) (op : DictOp) (m : DictMsg) : State :=
  if malformed op m then s.transportStatus op m 1
  else if messageLimit m.role < DictMsg_bytes m ∨ messageLimit m.role < responseBytes op m then s.transportStatus op m 2
  else if m.target ≠ 0xFFFF ∧ m.target ≠ s.member then s.forward op m
  else s.runMsg op m

/-- A message arrives: the boot ROM of a part in recovery mode answers a service frame with NO_FIRMWARE (R439); with no pair left
every message gets BUSY (R393); during a BUREAU reload it waits (R344). A frame with a good CRC confirms the service port's
rate (R434). -/
def State.takeRequest (s : State) (op : DictOp) (m : DictMsg) : State :=
  let t := if m.role = .service then { s with security := { s.security with svcNext := none } } else s
  if s.ctl.recovery then (if m.role = .service then t.emit (.svc 0x82 (m.tag % 256) 7 []) else s)
  else if s.bureau.lost then t.transportStatus op m 5
  else if s.ctl.bureauReload then { t with dict := { t.dict with deferred := t.dict.deferred ++ [(op, m)] } }
  else t.takeMsg op m

/-- A message arrives by its path, which VAUX and a host's link must hold open. -/
def State.request (s : State) (op : DictOp) (m : DictMsg) : Out :=
  .next (if s.ctl.vaux = false ∨ (s.ctl.recovery = true ∧ m.role ≠ .service) then s.idle
    else if m.role = .host ∧ (s.link m.link.val).up = false then s.idle
    else s.fresh.takeRequest op m)

/-- DICT_READ. -/
def execDictRead (m : DictMsg) (s : State) : Out := s.request .read m

/-- DICT_WRITE. -/
def execDictWrite (m : DictMsg) (s : State) : Out := s.request .write m

/-- DICT_DESCRIBE. -/
def execDictDescribe (m : DictMsg) (s : State) : Out := s.request .describe m

/-- SET_OPEN. -/
def execSetOpen (m : DictMsg) (s : State) : Out := s.request .setOpen m

/-- SET_ADD. -/
def execSetAdd (m : DictMsg) (s : State) : Out := s.request .setAdd m

/-- SET_SUBMIT. -/
def execSetSubmit (m : DictMsg) (s : State) : Out := s.request .setSubmit m

/-- SET_DISCARD. -/
def execSetDiscard (m : DictMsg) (s : State) : Out := s.request .setDiscard m

/-- SET_STATUS. -/
def execSetStatus (m : DictMsg) (s : State) : Out := s.request .setStatus m

/-- SET_IDLE_TIMEOUT (R361): an open set that got no operation for `set_idle_beats`. -/
def execSetIdleTimeout (slot : Fin 16) (s : State) : Out :=
  .next (match s.dict.sets.find? slot.val with
    | some c => if c.submitted = false ∧ s.reg 0xA030 0 ≤ s.clock.beat - c.lastBeat then s.fresh.dropSet slot.val else s.idle
    | none => s.idle)

/-! ### The tunnel (R235) -/

/-- TUNNEL_REQ_RECEIVED: a request from another member, its role T, taken by a member that takes cells (R219). -/
def execTunnelReqReceived (source : Nat) (op : DictOp) (m : DictMsg) (s : State) : Out :=
  if s.inDomain = true ∧ s.ownAlive = true ∧ source < 1024 then s.request op { m with role := .fleet, member := source }
  else .next s.idle

/-- The outstanding tunnel request that a response answers. -/
def State.tunnelFor (s : State) (source tag : Nat) : Option (Nat × Tunnel) :=
  List.find? (fun (e : Nat × Tunnel) => e.2.tag % 65536 == tag && e.2.target == source) s.trestle.tunnels

/-- A tunnel request ends: its response leaves unchanged by the requester's path. -/
def State.endTunnel (s : State) (e : Nat × Tunnel) (status result handle beat : Nat) (items : List RespItem) : State :=
  { s with trestle := { s.trestle with tunnels := s.trestle.tunnels.del e.1 } }.respond .read e.2.role e.2.link 0 e.2.tag
    status result handle beat items

/-- TUNNEL_RSP_RECEIVED, by a member that takes cells (R219). -/
def execTunnelRspReceived (source tag status result handle beat : Nat) (items : List RespItem) (s : State) : Out :=
  .next (match s.tunnelFor source tag with
    | some e => if s.ownAlive then s.fresh.endTunnel e status result handle beat items else s.idle
    | none => s.idle)

/-- A tunnelled message whose last segment a frame has brought: a request is executed, and a response ends its request (R235). -/
def State.takeMessage (s : State) (a : Nat × Bool × Nat) : State :=
  let v := a.2.2
  if a.2.1 then
    match s.tunnelFor a.1 (fieldOf v 2 2) with
    | some e => s.endTunnel e (fieldOf v 4 1) (fieldOf v 5 1) (fieldOf v 8 4) (fieldOf v 12 4) (readRespItems v)
    | none => s
  else
    let x := readRequest a.1 v
    s.takeRequest x.1 x.2

/-- Messages that a frame has completed are taken in order. -/
def State.takeArrived (s : State) : State :=
  s.trestle.arrived.foldl State.takeMessage { s with trestle := { s.trestle with arrived := [] } }

/-- FRAME_PASS: a frame that does not end here arrives by a port in service. -/
def execFramePass (f : Frame) (s : State) : Out :=
  .next (if s.trestleRuns = true ∧ s.inService f.port.val = true ∧ s.ownFrame f = false then (s.fresh.framePass f).takeArrived else s.idle)

/-- FRAME_RETURN: of a member that still issues, and a frame whose header is right. -/
def execFrameReturn (f : Frame) (lapNs : Nat) (s : State) : Out :=
  .next (if s.trestleRuns = true ∧ s.trestle.issuing = true ∧ s.inService f.port.val = true ∧ s.ownFrame f = true
    then (s.fresh.frameReturn f lapNs).takeArrived else s.idle)

/-- TUNNEL_TIMEOUT: no response within `tunnel_timeout_beats`, or the target is no longer alive; TIMEOUT, for the request was
sent. -/
def execTunnelTimeout (tag : Nat) (s : State) : Out :=
  .next (match List.find? (fun (e : Nat × Tunnel) => e.2.tag % 65536 == tag &&
        (decide (s.reg 0x4850 0 ≤ s.clock.beat - e.2.beat) || !s.alive e.2.target)) s.trestle.tunnels with
    | some e => s.fresh.endTunnel e 4 0 0 0 []
    | none => s.idle)

/-! ### BUREAU reload -/

/-- The reloaded PRIMARY resumes a suspended erase of a bank (Table 17.9). -/
def State.resumeErase (s : State) (b : Nat) : State :=
  match (s.bank b).suspended with
  | some o => if o.isErase ∧ (s.bank b).op = none then (s.eflashResume b).note Code.eraseResumedAfterReload else s
  | none => s

/-- The reload is over: the image is confirmed, suspended erases go on, and the messages that waited are taken in order. -/
def State.reloaded (s : State) : State :=
  let t := { s with ctl := { s.ctl with bureauReload := false }, dict := { s.dict with deferred := [] } }.confirmImage
  let u := (((t.settingsFormat t.security.settingsFormat).resumeErase 0).resumeErase 1)
  s.dict.deferred.foldl (fun (t : State) d => t.takeMsg d.1 d.2) u

/-- BUREAU_RELOAD_COMPLETE (R344). -/
def execBureauReloadComplete (s : State) : Out := .next (if s.ctl.bureauReload then s.fresh.reloaded else s.idle)

/-! ### The commands that write one entry -/

/-- The link by which a host's write arrives: the lowest that is up. -/
def State.hostLink (s : State) : Fin 4 := Fin.ofNat 4 (s.upLinks.headD 0)

/-- A WRITE of one entry as its own command: a message of one item with the entry's own size, tag 0. -/
def State.writeEntry (s : State) (role : Role) (idx sub v : Nat) : Out :=
  s.request .write { role := role, link := s.hostLink, member := 0, tag := 0, target := 0xFFFF, handle := 0, snapshot := false,
                     malformed := false,
                     items := [Item.mk idx sub (v % 2 ^ (8 * entrySize idx sub)) (entrySize idx sub)] }

/-- LINK_ENABLE_WRITE (R71). -/
def execLinkEnableWrite (role : Role) (link : Fin 4) (value : Nat) (s : State) : Out :=
  s.writeEntry role 0x2005 (link.val + 1) value

/-- FORCE_OUTCOME_WRITE (R228). -/
def execForceOutcomeWrite (role : Role) (value : Nat) (s : State) : Out := s.writeEntry role 0x4840 2 value

/-- LAYOUT_CHANGE_WRITE (R82). -/
def execLayoutChangeWrite (role : Role) (entry : LayoutEntry) (value : Nat) (s : State) : Out :=
  match entry with
  | .interleaveGrain => s.writeEntry role 0x2400 1 value
  | .journalBytes => s.writeEntry role 0x2410 0 value
  | .mirrorAreaBytes => s.writeEntry role 0x2411 0 value

/-- BANK_HASH_WRITE (R111). -/
def execBankHashWrite (role : Role) (sub value : Nat) (s : State) : Out :=
  if 1 ≤ sub ∧ sub ≤ 6 then s.writeEntry role 0x3030 sub value else .next s.idle

/-- RETRAIN_REQUEST_WRITE (R123). -/
def execRetrainRequestWrite (role : Role) (value : Nat) (s : State) : Out := s.writeEntry role 0x3460 0 value

/-- RATE_MAX_WRITE (R126). -/
def execRateMaxWrite (role : Role) (chan : Fin 13) (value : Nat) (s : State) : Out :=
  s.writeEntry role (0x3400 + chan.val) 3 value

/-- SPARE_REQUEST_WRITE (R136). -/
def execSpareRequestWrite (role : Role) (value : Nat) (s : State) : Out := s.writeEntry role 0x3461 0 value

/-- REQUALIFY_REQUEST_WRITE (R144). -/
def execRequalifyRequestWrite (role : Role) (value : Nat) (s : State) : Out := s.writeEntry role 0x3462 0 value

/-- TRESTLE_LINK_ENABLE_WRITE (R205). -/
def execTrestleLinkEnableWrite (role : Role) (port : Fin 2) (value : Nat) (s : State) : Out :=
  s.writeEntry role (0x4810 + port.val) 2 value

/-- CHARGER_FAULT_CLEAR (R302). -/
def execChargerFaultClear (role : Role) (value : Nat) (s : State) : Out := s.writeEntry role 0x6026 0 value

/-- SEQ_RETRY_REQUEST (R320). -/
def execSeqRetryRequest (role : Role) (value : Nat) (s : State) : Out := s.writeEntry role 0x6465 0 value

/-- GROUP_ENABLE_WRITE (R326). -/
def execGroupEnableWrite (role : Role) (group : Fin 16) (value : Nat) (s : State) : Out :=
  s.writeEntry role (0x6440 + group.val) 1 value

/-- COLD_RESET_REQUEST (R339, R280). -/
def execColdResetRequest (role : Role) (value : Nat) (s : State) : Out := s.writeEntry role 0x1120 0 value

/-- BUREAU_RESET_REQUEST (R344). -/
def execBureauResetRequest (role : Role) (value : Nat) (s : State) : Out := s.writeEntry role 0x1121 0 value

/-- BLOCK_RESET_REQUEST (R345): of the block in `block_select`. -/
def execBlockResetRequest (role : Role) (value : Nat) (s : State) : Out := s.writeEntry role 0x1122 2 value

/-- SAVE_AND_RESUME (R267). -/
def execSaveAndResume (role : Role) (s : State) : Out := s.writeEntry role 0x5410 0 1

/-- SAVE_AND_HALT (R267). -/
def execSaveAndHalt (role : Role) (s : State) : Out := s.writeEntry role 0x5410 0 2

/-- REGISTER_WRITE (R350): a write of any entry, its length as given. -/
def execRegisterWrite (role : Role) (index sub value len : Nat) (s : State) : Out :=
  s.request .write { role := role, link := s.hostLink, member := 0, tag := 0, target := 0xFFFF, handle := 0, snapshot := false,
                     malformed := false, items := [Item.mk (index % 65536) (sub % 256) (value % 2 ^ (8 * len)) len] }

/-- WALL_TIME_WRITE (R367). -/
def execWallTimeWrite (role : Role) (value : Nat) (s : State) : Out := s.writeEntry role 0x1200 2 value

/-- FAULT_CLEAR (R373). -/
def execFaultClear (role : Role) (block : Fin 17) (value : Nat) (s : State) : Out :=
  s.writeEntry role (0x7000 + block.val) 10 value

/-- RDP_RAISE (R419): a write of `rdp_level`. -/
def execRdpRaise (role : Role) (value : Nat) (s : State) : Out := s.writeEntry role 0x8010 0 value

/-- RDP_LOWER_ARM (R420). -/
def execRdpLowerArm (role : Role) (value : Nat) (s : State) : Out := s.writeEntry role 0x8011 0 value

/-- RDP_LOWER (R420): a write of 0 to `rdp_level`. -/
def execRdpLower (role : Role) (s : State) : Out := s.writeEntry role 0x8010 0 0

/-- KEY_REVOKE_ARM (R427). -/
def execKeyRevokeArm (role : Role) (value : Nat) (s : State) : Out := s.writeEntry role 0x8403 1 value

/-- KEY_REVOKE_REQUEST (R427). -/
def execKeyRevokeRequest (role : Role) (value : Nat) (s : State) : Out := s.writeEntry role 0x8403 0 value

/-- Whether the Bureau executes a role's one-entry message at once: VAUX is up, no recovery mode, a pair left, no reload, and
a host's link up. -/
def State.takesNow (s : State) (role : Role) : Bool :=
  s.ctl.vaux && !s.ctl.recovery && !s.bureau.lost && !s.ctl.bureauReload &&
    (role != .host || (s.link s.hostLink.val).up)

/-- PT_RUN (R444): start the unit in `pt_unit`, or stop it with what it has counted. -/
def execPtRun (role : Role) (value bits errors line : Nat) (s : State) : Out :=
  let i : Item := { index := 0x9010, sub := 5, value := value % 256, len := 1 }
  let t := if role = .service then { s.fresh with security := { s.security with svcNext := none } } else s.fresh
  if s.takesNow role = true ∧ s.writeCode role i = 0 then
    .next (((t.addReg 0xA032 0 1).ptWrite (value % 256) bits errors line).respond .write role s.hostLink 0 0 0 0 0 0
      [respOf i 0])
  else s.writeEntry role 0x9010 5 value

/-- MARGIN_RUN (R449). -/
def execMarginRun (role : Role) (value : Nat) (s : State) : Out := s.writeEntry role 0x9020 5 value

end Sys2Proof.Machine
end

