-- ==== Sys2Proof/Machine/Beat.lean ====
section
/-! DEFINITION. The beat: the work of Table 1.2 in order, what time alone changes, and the assignment of an I3C address. -/

namespace Sys2Proof.Machine

/-! ### Step 1: what Niura samples (R314) -/

/-- Store a signed entry. -/
def State.setInt (s : State) (idx sub : Nat) (v : Int) : State := s.setReg idx sub (s32 v)

/-- The first four conversions, and the channels that the ADC rotates over. -/
def State.sample (s : State) (b : BeatInputs) : State :=
  let t := { s with niura := { s.niura with vinMv := b.vinMv, vStoreMv := b.vStoreMv, iStoreMa := b.iStoreMa, vbusMv := b.vbusMv } }
  let u := ((List.range 24).filter fun k => (b.cellMv.find? (k + 1)).isSome).foldl
    (fun (t : State) k => t.setReg 0x6031 (k + 1) ((b.cellMv.get (k + 1) 0).toNat % 65536)) t
  ((List.range 8).filter fun k => (b.thermC.find? k).isSome).foldl
    (fun (t : State) k => t.setInt (0x6070 + k) 2 (b.thermC.get k 0)) u

/-- The comparator output as sampled (R294): a rise above threshold and hysteresis ends a trip; `highBeats` counts the beats
without a break. A fall that the sample finds is a trip only once the glitch filter has run out (R268); the input stays good until
then (DEDUCED, log entry 191). -/
def State.comparator (s : State) : State :=
  let thr := s.reg 0x6002 2
  let high := if s.niura.high then decide (thr ≤ s.niura.vinMv) else decide (thr + s.reg 0x6002 3 < s.niura.vinMv)
  { s with niura := { s.niura with high := high, falling := (s.niura.high || s.niura.falling) && !high,
                                   tripped := s.niura.tripped && !high,
                                   highBeats := if high then s.niura.highBeats + 1 else 0 } }

/-- PF_WARN_N is released once the input is good, above `pf_warn_mv`, and no rail grace runs (R296). -/
def State.releaseWarn (s : State) : State :=
  if s.niura.inputGood = true ∧ s.rails.grace = [] ∧ s.reg 0x6002 4 ≤ s.niura.vinMv then
    { s with niura := { s.niura with pfWarn := false } }
  else s

/-- Each string's share of the current, judged once every 12 beats (R301). -/
def State.judgeShares (s : State) (b : BeatInputs) : State :=
  if s.clock.beat % 12 ≠ 0 ∨ s.niura.iStoreMa.natAbs < 500 then s
  else s.stringsIn.foldl (fun (t : State) k =>
    match b.stringMa.find? k with
    | none => t
    | some mA =>
      let n := if t.shareBad mA then t.niura.share.get k 0 + 1 else 0
      { t with niura := { t.niura with share := t.niura.share.put k n } }) s

/-! ### The charger, balancing and thermistors (R302 to R305) -/

/-- Whether the store lies in its charge window, with the charger's gates on (Tables 12.3, 12.5). -/
def State.chargeWindow (s : State) : Bool :=
  let w := profileWindow (s.reg 0x6000 1)
  decide (w.1 ≤ s.hottestStore) && decide (s.hottestStore ≤ w.2) && !s.niura.gatesOff

/-- Whether an overvoltage that puts the charger in FAULT stands (Table 12.5). -/
def State.chargerCause (s : State) : Bool :=
  decide (s.chargedMv * 105 < s.niura.vStoreMv * 100) || decide (62000 < s.niura.vStoreMv) ||
    ((List.range (s.reg 0x6000 2 * s.reg 0x6000 3)).any fun k => s.cellOver (profileMaxMv (s.reg 0x6000 1)) k (s.reg 0x6031 (k + 1)))

/-- Whether the charger is in a state. -/
def State.charging (s : State) (c : Charger) : Bool := decide (s.niura.charger = c)

/-- Whether the charger feeds the store. -/
def State.feeding (s : State) : Bool := s.charging .precharge || s.charging .cc || s.charging .cv

/-- The charger at a beat: OFF starts, overtemperature stops, FAULT counts the beats without its cause, and the counts of the
charge and of the termination current run; a pause keeps that of the charge (R303). -/
def State.chargerBeat (s : State) : State :=
  let n := { s.niura with gatesOff := s.niura.gatesOff && decide (13200 ≤ s.niura.vbusMv) }
  let s := { s with niura := n }
  if s.charging .fault then
    { s with niura := { n with faultBeats := if s.chargerCause then 0 else n.faultBeats + 1 } }
  else if s.charging .off ∧ n.supply = .input ∧ s.chargeWindow = true ∧ s.chargerCause = false then
    s.setCharger (if s.reg 0x6000 1 = 3 then .precharge else .cc)
  else if (s.feeding ∨ s.charging .full) ∧ s.chargeWindow = false then s.chargerOff
  else if s.feeding then
    let low := s.charging .cv && decide (n.iStoreMa.natAbs * 100 < s.reg 0x6021 0 * s.reg 0x6023 0)
    { s with niura := { n with chargeBeats := n.chargeBeats + 1, termBeats := if low then n.termBeats + 1 else 0 } }
  else if s.charging .paused then s
  else { s with niura := { n with chargeBeats := 0 } }

/-- The taps that read open: negative, or above the profile's maximum while its string's total is within range (R304). -/
def State.openTap (s : State) (b : BeatInputs) (k : Nat) : Bool :=
  match b.cellMv.find? (k + 1) with
  | none => false
  | some mv => decide (mv < 0) ||
    (decide (((profileMaxMv (s.reg 0x6000 1) : Nat) : Int) < mv) && decide (s.niura.vStoreMv ≤ s.chargedMv))

/-- Open taps are recorded (R304). -/
def State.findTaps (s : State) (b : BeatInputs) : State :=
  let cells := s.reg 0x6000 2 * s.reg 0x6000 3
  let new := if s.reg 0x6000 7 = 1 then
    (List.range cells).filter fun k => s.openTap b k && !s.niura.openTaps.contains k else []
  if new = [] then s
  else ({ s with niura := { s.niura with openTaps := s.niura.openTaps ++ new } }.alarmBit 4).faultOpen Code.tapOpen true

/-- The mean of a string's cells. -/
def State.stringMean (s : State) (k : Nat) : Nat :=
  let n := s.reg 0x6000 2
  ((List.range n).foldl (fun a j => a + s.reg 0x6031 (n * k + j + 1)) 0) / n

/-- Balancing in CV and FULL (R304): a cell is bled from `bal_threshold_mv` above its string's mean down to half of it. -/
def State.balance (s : State) : State :=
  let n := s.reg 0x6000 2
  let thr := s.reg 0x6030 0
  let on := s.reg 0x6000 7 == 1 && decide (s.niura.supply = .input) && (s.charging .cv || s.charging .full)
  let bleeds := fun k =>
    let mean := s.stringMean (k / n)
    let mv := s.reg 0x6031 (k + 1)
    !(s.niura.openTaps.any fun j => j / n == k / n) &&
      (decide (mean + thr < mv) || (s.niura.bleeding.contains k && decide (2 * mean + thr < 2 * mv)))
  { s with niura := { s.niura with bleeding := if on then (List.range (n * s.reg 0x6000 3)).filter bleeds else [] } }

/-- Whether a thermistor is above its alarm. -/
def State.hot (s : State) (t : Nat) : Bool := s.reg (0x6070 + t) 1 != 0 && decide (s.ireg (0x6070 + t) 3 < s.ireg (0x6070 + t) 2)

/-- OVERTEMP of each thermistor that has come above its alarm, and the store alarm for a STORE one (R305). -/
def State.overtemp (s : State) : State :=
  let hot := (List.range 8).filter s.hot
  let new := hot.filter fun k => !s.niura.hot.contains k
  let u := new.foldl (fun t _ => t.faultOpen Code.overtemp true) { s with niura := { s.niura with hot := hot } }
  let t := if hot = [] then u.condClear Code.overtemp else u
  if (hot.any fun k => s.reg (0x6070 + k) 1 == 1) && t.reg 0x6080 0 / 4 % 2 == 0 then t.alarmBit 2 else t

/-! ### Step 2: energy and the budget (R161, R167, R309) -/

/-- Usable energy now, with the cutoff and the capacitance it rests on. -/
def State.energy (s : State) (b : BeatInputs) : State :=
  let rest := decide (s.niura.iStoreMa.natAbs * 100 < s.reg 0x6000 5)
  let t := { s with niura := { s.niura with charge := if s.reg 0x6000 1 = 3 then b.batteryChargeMah else s.niura.charge,
                                            restBeats := if rest then s.niura.restBeats + 1 else 0 } }
  ((t.setReg 0x6013 0 t.vCut).setReg 0x6014 0 t.cModel).setReg 0x6010 0 (t.energyNow % 2 ^ 32)

/-- The dirty budget from the lowest of the last 16 samples. -/
def State.recompute (s : State) : State :=
  let samples := (s.reg 0x6010 0 :: s.trickle.samples).take 16
  let low := samples.foldl min (s.reg 0x6010 0)
  let be := budgetBytes low (s.reg 0x4013 0) (s.reg 0x4021 0) (s.reg 0x4020 0)
  let t := { s with trickle := { s.trickle with samples := samples } }
  ((t.setReg 0x4014 0 low).setReg 0x4015 0 be).setReg 0x4010 0 (dirtyBudget (s.reg 0x4011 0) be)

/-- OVER_BUDGET, recorded on entry outside a charging interval; the interval ends once C fits (R167). -/
def State.judgeBudget (s : State) : State :=
  let excess := decide (s.budget < s.charged + headroomH)
  let charging := s.trickle.charging && excess
  let t := { s with trickle := { s.trickle with overBudget := excess, charging := charging } }
  t.condition Code.overBudget (excess && !charging) s.charged (words2 s.budget)

/-- The wear bucket gains one beat's share, up to an hour of the average rate (R158). -/
def State.gainTokens (s : State) : State :=
  let gain := s.trickle.rate / 100000
  let top : Int := ((s.trickle.rate * 3600 : Nat) : Int)
  { s with trickle := { s.trickle with tokens := min top (s.trickle.tokens + (gain : Int)),
                                       drawGained := if s.trickle.overdrawn then s.trickle.drawGained + gain else 0 } }

/-! ### The thermal monitor (R469, R473) -/

/-- Whether a threshold stands: reached, and not yet 3 °C below it. -/
def State.thermalStands (s : State) (code : Nat) (limit tj : Int) : Bool :=
  decide (limit ≤ tj) || ((s.faultGroup 10).live.getLsbD (code % 32) && decide (limit - 3 < tj))

/-- T_j, its maximum, the thresholds of Table 20.8 and the sums of thermal life. -/
def State.thermal (s : State) (tj : Int) (sensor : Nat) : State :=
  let detail := s32 tj % 65536 + 65536 * (sensor % 16)
  let n := s.niura
  let t := { s with niura := { n with lifeBeats := n.lifeBeats + 1, lifeSum := n.lifeSum + tj,
                                      overBeats := n.overBeats + (decide (105 < tj)).toNat } }
  let u := (t.setInt 0x6090 0 tj).setInt 0x6091 0 (max (t.ireg 0x6091 0) tj)
  let v := u.condition Code.thermalWarn (u.thermalStands Code.thermalWarn (u.ireg 0x6092 0) tj) detail
  let w := v.condition Code.thermalThrottle (v.thermalStands Code.thermalThrottle (v.ireg 0x6093 0) tj) detail
  let trips := w.thermalStands Code.thermalTrip 110 tj
  if trips = true ∧ (w.faultGroup 10).live.getLsbD 16 = false then w.thermalTrip detail
  else if trips then w else w.condClear Code.thermalTrip

/-! ### Time -/

/-- The wire beat of this beat: the one given, the one that follows a frame received in the beat before, or the own count, which
follows the last frame received (R215, R216, R217). -/
def State.wireNow (s : State) (b : BeatInputs) : BitVec 32 :=
  match b.wire with
  | some w => w
  | none =>
    match s.trestle.lastWire with
    | some w => w + 1
    | none => s.wireBeat + 1

/-- The boundary moves toward the master's by at most 40 ns, and the difference left is reported (R216). A member that issues
frames is aligned with itself. -/
def State.alignBeat (s : State) : State :=
  let o := if s.trestle.issuing then 0 else s.trestle.offsetNs
  let left := o - max (-40) (min 40 o)
  { s with trestle := { s.trestle with offsetNs := left } }.setInt 0x480A 0 left

/-- A beat boundary passes: device time, the own beat, the wall time and the extended beat; a step other than 1 is recorded but
for the first adoption (R217). -/
def State.tick (s : State) (b : BeatInputs) : State :=
  let old := s.clock.ext
  let step := (s.wireNow b - s.wireBeat).toInt
  let ext := old + BitVec.ofInt 64 step
  let heard := b.wire.isSome || s.trestle.lastWire.isSome
  let t := { s with clock := { s.clock with devNs := s.clock.devNs + 10000, beat := s.clock.beat + 1, ext := ext,
                                            wallNs := s.clock.wallNs + 10000, adopted := s.clock.adopted || heard } }
  let u := { t with trestle := { t.trestle with lastWire := none } }.alignBeat
  if step ≠ 1 ∧ s.clock.adopted = true then u.note Code.beatStep (words2 old.toNat ++ words2 ext.toNat) else u

/-- Hours of service: one for each 360,000,000 beats with power. -/
def State.serviceHour (s : State) : State := if s.clock.beat % 360000000 = 0 then s.addReg 0x4040 2 1 else s

/-- The shell stands again 5,000 beats after it was lost (R316). -/
def State.shellReload (s : State) : State :=
  if s.niura.shellUp = false ∧ 5000 ≤ s.clock.beat - s.niura.shellAt then
    { s with niura := { s.niura with shellUp := true } }.condClear Code.niuraShellFault
  else s

/-- Row hits among the bursts issued over the last 1,000 beats (R114). -/
def State.rowHits (s : State) : State :=
  if s.clock.beat % 1000 ≠ 0 then s
  else
    let t := s.sched.hits.foldl (fun (t : State) e =>
      t.setReg (0x3120 + e.1) 3 (if e.2.2 = 0 then 0 else e.2.1 * 100 / e.2.2)) s
    { t with sched := { t.sched with hits := t.sched.hits.map fun e => (e.1, (0, 0)) } }

/-- A DROWSE trickle period ends once its share of the last 100,000 beats is used, or no DIRTY leaf is left (R173). -/
def State.periodBeat (s : State) : State :=
  let t := { s with ctl := { s.ctl with periods := s.ctl.periods.filter fun p => decide (s.clock.beat < p.2 + 100000) } }
  if t.periodLeft = 0 then t.endPeriod
  else if s.ctl.tricklePeriod = true ∧ (s.leavesIn .dirty).isEmpty = true then t.pausePeriod else t

/-- What a save counts by beats: the boundaries before it begins (R267, R268), and the end of CLOSING one beat after
step 1 (Table 11.2). -/
def State.saveBeat (s : State) : State :=
  { s with save := { s.save with arm := if 1 < s.save.arm then s.save.arm - 1 else s.save.arm,
                                 state := if s.save.state = .closing then .draining else s.save.state } }


/-! ### The beat -/

/-- Step 1 and what fixed logic and time do at the same boundary. -/
def State.beatStep1 (s : State) (b : BeatInputs) : State :=
  let t := (((s.tick b).sample b).comparator).releaseWarn
  let u := ((((t.judgeShares b).chargerBeat).findTaps b).balance).overtemp
  let v := (((({ u with trickle := { u.trickle with written := [] } }.gainTokens).serviceHour).shellReload).rowHits).periodBeat
  v.saveBeat.dropPartials

/-- Step 2. -/
def State.beatStep2 (s : State) (b : BeatInputs) : State := (((s.energy b).recompute).judgeBudget).panicUpdate

/-- Step 4, and what the DRAM sequencers do at a boundary (R126). -/
def State.beatStep4 (s : State) : State := (((s.applySets).takeSnapshots).applyRates).dramBeat

/-- The work of a beat. An overrun finishes the late step and leaves those after it out (R10). The first frames of a takeover carry
the generation that a set of the same boundary gives (Table 9.10). -/
def State.beatWork (s : State) (b : BeatInputs) : State :=
  let upTo := b.overrun.getD 6
  let s1 := (s.beatStep1 b).thermal b.tjC b.tjSensor
  let s2 := if 2 ≤ upTo then s1.beatStep2 b else s1
  let takeover := decide (s2.trestle.takeoverBeat = some s2.clock.beat)
  let s3 := if 3 ≤ upTo then (if takeover then s2.linkBeat else s2.linkBeat.issueFrames) else s2
  let s4 := if 4 ≤ upTo then s3.beatStep4 else s3
  let s5 := if takeover = true ∧ 3 ≤ upTo then s4.issueFrames else s4
  (if 5 ≤ upTo ∧ s5.cupboardUp = true then s5.flushRing else s5).relocateNow

/-- Step 6: the longest work, and an overrun (R10). -/
def State.beatCheck (s : State) (b : BeatInputs) : State :=
  let t := s.maxReg 0x1201 2 b.workNs
  match b.overrun with
  | some k => (((t.addReg 0x1201 1 1).setReg 0x1201 3 (k % 256)).raiseSource 52).faultOpen Code.beatOverrun
  | none => t

/-- BEAT (R8): the beat work of Table 1.2; nothing runs without VAUX. -/
def execBeat (b : BeatInputs) (s : State) : Out :=
  .next (if s.ctl.vaux then ((((s.fresh.beatWork b).beatCheck b).loads).stampSources) else s.idle)

/-! ### I3C addresses (R476) -/

/-- ENTDAA: a part without a dynamic address takes the one that the controller assigns. -/
def execEntdaa (address : Nat) (s : State) : Out :=
  .next (if s.ctl.vaux = true ∧ s.security.busAddress = none ∧ address < 128 then
      { s.fresh with security := { s.security with busAddress := some address } }.emit (.i3c address)
    else s.idle)

/-- SETDASA: the part whose static address is named takes a dynamic one. -/
def execSetdasa (static address : Nat) (s : State) : Out :=
  .next (if s.ctl.vaux = true ∧ s.security.busAddress = none ∧ static = s.security.staticAddress ∧ address < 128 then
      { s.fresh with security := { s.security with busAddress := some address } }.emit (.i3c address)
    else s.idle)

end Sys2Proof.Machine
end

