-- ==== Sys2Proof/Machine/Dispatch.lean ====
section
/-! DEFINITION. One arm per command: its meaning, or its rejection by name. -/

namespace Sys2Proof.Machine

/-- The effect of a command on everything but the queue. -/
def exec (i : Instr) (s : State) : Host.Outcome State Fault Refusal :=
  match i with
  | .beat b => Sys2Proof.Machine.execBeat b s
  | .hostWrite w => Sys2Proof.Machine.execHostWrite w s
  | .heldWriteRelease stamp => Sys2Proof.Machine.execHeldWriteRelease stamp s
  | .journalWaitEnd stamp => Sys2Proof.Machine.execJournalWaitEnd stamp s
  | .hostRead link dpa stamp => Sys2Proof.Machine.execHostRead link dpa stamp s
  | .touchRestoreComplete leaf ns read => Sys2Proof.Machine.execTouchRestoreComplete leaf ns s read
  | .backgroundRestoreLeaf read => Sys2Proof.Machine.execBackgroundRestoreLeaf s read
  | .restoreComplete => Sys2Proof.Machine.execRestoreComplete s
  | .gpfPhase1 link => Sys2Proof.Machine.execGpfPhase1 link s
  | .gpfPhase2 link => Sys2Proof.Machine.execGpfPhase2 link s
  | .linkTrained link partnerRate partnerWidth flit256 => Sys2Proof.Machine.execLinkTrained link partnerRate partnerWidth flit256 s
  | .linkLoss link => Sys2Proof.Machine.execLinkLoss link s
  | .hostReset link => Sys2Proof.Machine.execHostReset link s
  | .flr link => Sys2Proof.Machine.execFlr link s
  | .linkEnableWrite role link value => Sys2Proof.Machine.execLinkEnableWrite role link value s
  | .linkShutdownComplete link => Sys2Proof.Machine.execLinkShutdownComplete link s
  | .laneFault link lane errors lockLost partnerL0p => Sys2Proof.Machine.execLaneFault link lane errors lockLost partnerL0p s
  | .msixModerationExpire link vector => Sys2Proof.Machine.execMsixModerationExpire link vector s
  | .identify link => Sys2Proof.Machine.execIdentify link s
  | .backgroundOperationStatus link => Sys2Proof.Machine.execBackgroundOperationStatus link s
  | .getEventRecords link log => Sys2Proof.Machine.execGetEventRecords link log s
  | .clearEventRecords link log all handles => Sys2Proof.Machine.execClearEventRecords link log all handles s
  | .getEventInterruptPolicy link => Sys2Proof.Machine.execGetEventInterruptPolicy link s
  | .setEventInterruptPolicy link vectors => Sys2Proof.Machine.execSetEventInterruptPolicy link vectors s
  | .getFwInfo link => Sys2Proof.Machine.execGetFwInfo link s
  | .transferFw link => Sys2Proof.Machine.execTransferFw link s
  | .activateFw link => Sys2Proof.Machine.execActivateFw link s
  | .getTimestamp link => Sys2Proof.Machine.execGetTimestamp link s
  | .setTimestamp link ns => Sys2Proof.Machine.execSetTimestamp link ns s
  | .getSupportedLogs link => Sys2Proof.Machine.execGetSupportedLogs link s
  | .getLog link cel => Sys2Proof.Machine.execGetLog link cel s
  | .identifyMemoryDevice link => Sys2Proof.Machine.execIdentifyMemoryDevice link s
  | .getPartitionInfo link => Sys2Proof.Machine.execGetPartitionInfo link s
  | .setPartitionInfo link => Sys2Proof.Machine.execSetPartitionInfo link s
  | .getLsa link offset length => Sys2Proof.Machine.execGetLsa link offset length s
  | .setLsa link offset data => Sys2Proof.Machine.execSetLsa link offset data s
  | .getHealthInfo link => Sys2Proof.Machine.execGetHealthInfo link s
  | .getAlertConfiguration link => Sys2Proof.Machine.execGetAlertConfiguration link s
  | .setAlertConfiguration link config => Sys2Proof.Machine.execSetAlertConfiguration link config s
  | .getShutdownState link => Sys2Proof.Machine.execGetShutdownState link s
  | .setShutdownState link state => Sys2Proof.Machine.execSetShutdownState link state s
  | .getPoisonList link dpa length => Sys2Proof.Machine.execGetPoisonList link dpa length s
  | .injectPoison link dpa stamp => Sys2Proof.Machine.execInjectPoison link dpa stamp s
  | .clearPoison link dpa data stamp => Sys2Proof.Machine.execClearPoison link dpa data stamp s
  | .scanMediaCapabilities link dpa length => Sys2Proof.Machine.execScanMediaCapabilities link dpa length s
  | .scanMedia link dpa length => Sys2Proof.Machine.execScanMedia link dpa length s
  | .getScanMediaResults link => Sys2Proof.Machine.execGetScanMediaResults link s
  | .scanMediaComplete link => Sys2Proof.Machine.execScanMediaComplete link s
  | .sanitize link => Sys2Proof.Machine.execSanitize link s
  | .sanitizeComplete => Sys2Proof.Machine.execSanitizeComplete s
  | .secureErase link => Sys2Proof.Machine.execSecureErase link s
  | .getSecurityState link => Sys2Proof.Machine.execGetSecurityState link s
  | .setPassphrase link master current new => Sys2Proof.Machine.execSetPassphrase link master current new s
  | .disablePassphrase link master current => Sys2Proof.Machine.execDisablePassphrase link master current s
  | .unlockDevice link passphrase => Sys2Proof.Machine.execUnlockDevice link passphrase s
  | .freezeSecurityState link => Sys2Proof.Machine.execFreezeSecurityState link s
  | .passphraseSecureErase link master passphrase => Sys2Proof.Machine.execPassphraseSecureErase link master passphrase s
  | .mailboxUnsupported link opcode => Sys2Proof.Machine.execMailboxUnsupported link opcode s
  | .prepareSleep link wakeNow memNow saveNow => Sys2Proof.Machine.execPrepareSleep link wakeNow memNow saveNow s
  | .drowseEntry wakeNow => Sys2Proof.Machine.execDrowseEntry wakeNow s
  | .wakeTimerFire => Sys2Proof.Machine.execWakeTimerFire s
  | .storeAlarmRise => Sys2Proof.Machine.execStoreAlarmRise s
  | .svcFrameStart => Sys2Proof.Machine.execSvcFrameStart s
  | .wake source link => Sys2Proof.Machine.execWake source link s
  | .wakeComplete us => Sys2Proof.Machine.execWakeComplete us s
  | .deskOperandStage a => Sys2Proof.Machine.execDeskOperandStage a s
  | .deskPoisonedWrite link group => Sys2Proof.Machine.execDeskPoisonedWrite link group s
  | .deskNop a => Sys2Proof.Machine.execDeskNop a s
  | .deskInvalidOpcode opcode a => Sys2Proof.Machine.execDeskInvalidOpcode opcode a s
  | .deskOpen a => Sys2Proof.Machine.execDeskOpen a s
  | .deskClaim a => Sys2Proof.Machine.execDeskClaim a s
  | .deskRelease a => Sys2Proof.Machine.execDeskRelease a s
  | .deskCommit a => Sys2Proof.Machine.execDeskCommit a s
  | .deskAbort a => Sys2Proof.Machine.execDeskAbort a s
  | .rollbackComplete group => Sys2Proof.Machine.execRollbackComplete group s
  | .deskBeginJoint a => Sys2Proof.Machine.execDeskBeginJoint a s
  | .deskPrepare a => Sys2Proof.Machine.execDeskPrepare a s
  | .deskDecide a => Sys2Proof.Machine.execDeskDecide a s
  | .deskAckTerminal a => Sys2Proof.Machine.execDeskAckTerminal a s
  | .deskRead link group canFinish => Sys2Proof.Machine.execDeskRead link group canFinish s
  | .decideCellReceived source txn commit => Sys2Proof.Machine.execDecideCellReceived source txn commit s
  | .ackCellReceived source txns => Sys2Proof.Machine.execAckCellReceived source txns s
  | .queryCellReceived source txns => Sys2Proof.Machine.execQueryCellReceived source txns s
  | .answerCellReceived source items => Sys2Proof.Machine.execAnswerCellReceived source items s
  | .decideResend => Sys2Proof.Machine.execDecideResend s
  | .prepareQueryTimer group => Sys2Proof.Machine.execPrepareQueryTimer group s
  | .indoubtQuery group => Sys2Proof.Machine.execIndoubtQuery group s
  | .decisionCacheExpire txn => Sys2Proof.Machine.execDecisionCacheExpire txn s
  | .forceOutcomeWrite role value => Sys2Proof.Machine.execForceOutcomeWrite role value s
  | .layoutChangeWrite role entry value => Sys2Proof.Machine.execLayoutChangeWrite role entry value s
  | .mirrorArmingComplete window => Sys2Proof.Machine.execMirrorArmingComplete window s
  | .burstIssue chan sub x_now corrected => Sys2Proof.Machine.execBurstIssue chan sub x_now s corrected
  | .burstPromoted chan id x_now => Sys2Proof.Machine.execBurstPromoted chan id x_now s
  | .burstAncient chan id x_now => Sys2Proof.Machine.execBurstAncient chan id x_now s
  | .class0ShareInterval chan sub => Sys2Proof.Machine.execClass0ShareInterval chan sub s
  | .refreshDue chan sub bank deviceMax x_now => Sys2Proof.Machine.execRefreshDue chan sub bank deviceMax x_now s
  | .activationLimit chan sub banks durationNs => Sys2Proof.Machine.execActivationLimit chan sub banks durationNs s
  | .bankHashWrite role sub value => Sys2Proof.Machine.execBankHashWrite role sub value s
  | .dramTrainingComplete chan rate hottestC passed => Sys2Proof.Machine.execDramTrainingComplete chan rate hottestC passed s
  | .fastBootComplete chan keyMatches crcGood passed => Sys2Proof.Machine.execFastBootComplete chan keyMatches crcGood passed s
  | .dqsTrack chan driftPs => Sys2Proof.Machine.execDqsTrack chan driftPs s
  | .retrainTrigger chan cause => Sys2Proof.Machine.execRetrainTrigger chan cause s
  | .retrainRequestWrite role value => Sys2Proof.Machine.execRetrainRequestWrite role value s
  | .gatherWindowClose chan last => Sys2Proof.Machine.execGatherWindowClose chan last s
  | .onlineRetrainComplete chan found previousPasses hottestC => Sys2Proof.Machine.execOnlineRetrainComplete chan found previousPasses hottestC s
  | .searchBinComplete chan result => Sys2Proof.Machine.execSearchBinComplete chan result s
  | .rateMaxWrite role chan value => Sys2Proof.Machine.execRateMaxWrite role chan value s
  | .uncorrectableRead chan place => Sys2Proof.Machine.execUncorrectableRead chan place s
  | .patrolScrub chan row corrected again => Sys2Proof.Machine.execPatrolScrub chan row corrected again s
  | .rowFailed chan row spareRowLeft => Sys2Proof.Machine.execRowFailed chan row spareRowLeft s
  | .spareRequestWrite role value => Sys2Proof.Machine.execSpareRequestWrite role value s
  | .proactiveCopyComplete => Sys2Proof.Machine.execProactiveCopyComplete s
  | .channelLost chan cause => Sys2Proof.Machine.execChannelLost chan cause s
  | .channelRebuildComplete => Sys2Proof.Machine.execChannelRebuildComplete s
  | .requalifyRequestWrite role value => Sys2Proof.Machine.execRequalifyRequestWrite role value s
  | .deltaLazyWrite leaf => Sys2Proof.Machine.execDeltaLazyWrite leaf s
  | .deltaSnapshotStart => Sys2Proof.Machine.execDeltaSnapshotStart s
  | .deltaSnapshotComplete => Sys2Proof.Machine.execDeltaSnapshotComplete s
  | .heatDecay => Sys2Proof.Machine.execHeatDecay s
  | .trickleCandidateRebuild => Sys2Proof.Machine.execTrickleCandidateRebuild s
  | .trickleSelect => Sys2Proof.Machine.execTrickleSelect s
  | .wearRateRecompute => Sys2Proof.Machine.execWearRateRecompute s
  | .rehearsalDue cause => Sys2Proof.Machine.execRehearsalDue cause s
  | .rehearsalStart => Sys2Proof.Machine.execRehearsalStart s
  | .rehearsalIdleEnd eIdleMj => Sys2Proof.Machine.execRehearsalIdleEnd eIdleMj s
  | .rehearsalRunEnd eRunMj => Sys2Proof.Machine.execRehearsalRunEnd eRunMj s
  | .rehearsalOverdue => Sys2Proof.Machine.execRehearsalOverdue s
  | .drowseTricklePeriod start => Sys2Proof.Machine.execDrowseTricklePeriod start s
  | .trestleLinkTrained port delayNs hello => Sys2Proof.Machine.execTrestleLinkTrained port delayNs hello s
  | .trestleLinkEnableWrite role port value => Sys2Proof.Machine.execTrestleLinkEnableWrite role port value s
  | .trestleShutdownComplete port => Sys2Proof.Machine.execTrestleShutdownComplete port s
  | .framePass f => Sys2Proof.Machine.execFramePass f s
  | .frameReturn f lapNs => Sys2Proof.Machine.execFrameReturn f lapNs s
  | .cellRetransmitTimeout seq => Sys2Proof.Machine.execCellRetransmitTimeout seq s
  | .masterTakeover => Sys2Proof.Machine.execMasterTakeover s
  | .startupFrameTimeout => Sys2Proof.Machine.execStartupFrameTimeout s
  | .trestleWrap port => Sys2Proof.Machine.execTrestleWrap port s
  | .trestleUnwrap port => Sys2Proof.Machine.execTrestleUnwrap port s
  | .timeSyncSend => Sys2Proof.Machine.execTimeSyncSend s
  | .timeSyncReceived source wire wallNs set delayNs => Sys2Proof.Machine.execTimeSyncReceived source wire wallNs set delayNs s
  | .wakeCellReceived source reason => Sys2Proof.Machine.execWakeCellReceived source reason s
  | .tunnelReqReceived source op m => Sys2Proof.Machine.execTunnelReqReceived source op m s
  | .tunnelRspReceived source tag status result handle beat items => Sys2Proof.Machine.execTunnelRspReceived source tag status result handle beat items s
  | .tunnelTimeout tag => Sys2Proof.Machine.execTunnelTimeout tag s
  | .rowFillTimeout => Sys2Proof.Machine.execRowFillTimeout s
  | .rowProgramComplete row => Sys2Proof.Machine.execRowProgramComplete row s
  | .nandProgramFail row slot shards chan => Sys2Proof.Machine.execNandProgramFail row slot shards chan s
  | .checkpointStart => Sys2Proof.Machine.execCheckpointStart s
  | .checkpointComplete => Sys2Proof.Machine.execCheckpointComplete s
  | .gcStart read => Sys2Proof.Machine.execGcStart s read
  | .gcVictimErased segment => Sys2Proof.Machine.execGcVictimErased segment s
  | .nandLunFailed chan lun => Sys2Proof.Machine.execNandLunFailed chan lun s
  | .nandRebuildDone => Sys2Proof.Machine.execNandRebuildDone s
  | .nandChannelFailed chan => Sys2Proof.Machine.execNandChannelFailed chan s
  | .powerFailTrip thermalNow => Sys2Proof.Machine.execPowerFailTrip thermalNow s
  | .saveBegin => Sys2Proof.Machine.execSaveBegin s
  | .saveAndResume role => Sys2Proof.Machine.execSaveAndResume role s
  | .saveAndHalt role => Sys2Proof.Machine.execSaveAndHalt role s
  | .saveDrainComplete => Sys2Proof.Machine.execSaveDrainComplete s
  | .saveGroupSetComplete => Sys2Proof.Machine.execSaveGroupSetComplete s
  | .saveRowStart => Sys2Proof.Machine.execSaveRowStart s
  | .saveLeavesComplete => Sys2Proof.Machine.execSaveLeavesComplete s
  | .saveDeltasComplete => Sys2Proof.Machine.execSaveDeltasComplete s
  | .saveSealed energyMj => Sys2Proof.Machine.execSaveSealed energyMj s
  | .saveEnd => Sys2Proof.Machine.execSaveEnd s
  | .saveWithdrawal => Sys2Proof.Machine.execSaveWithdrawal s
  | .inputGood => Sys2Proof.Machine.execInputGood s
  | .pfWarnAssert vinMv => Sys2Proof.Machine.execPfWarnAssert vinMv s
  | .storeCutoff => Sys2Proof.Machine.execStoreCutoff s
  | .vauxFall => Sys2Proof.Machine.execVauxFall s
  | .bringUpComplete b => Sys2Proof.Machine.execBringUpComplete b s
  | .leafMapRebuildComplete => Sys2Proof.Machine.execLeafMapRebuildComplete s
  | .groupSetLoadComplete ms => Sys2Proof.Machine.execGroupSetLoadComplete ms s
  | .stringFailed string => Sys2Proof.Machine.execStringFailed string s
  | .chargerCvReached => Sys2Proof.Machine.execChargerCvReached s
  | .prechargeDone => Sys2Proof.Machine.execPrechargeDone s
  | .chargerFull => Sys2Proof.Machine.execChargerFull s
  | .chargerRecharge => Sys2Proof.Machine.execChargerRecharge s
  | .chargeTimeout => Sys2Proof.Machine.execChargeTimeout s
  | .chargerFaultClear role value => Sys2Proof.Machine.execChargerFaultClear role value s
  | .chargerFaultRecover => Sys2Proof.Machine.execChargerFaultRecover s
  | .healthTestDue cause => Sys2Proof.Machine.execHealthTestDue cause s
  | .healthTestStart => Sys2Proof.Machine.execHealthTestStart s
  | .healthTestEnd capMf esrMohm stringCapMf => Sys2Proof.Machine.execHealthTestEnd capMf esrMohm stringCapMf s
  | .niuraCalibration largeMove refsDisagree => Sys2Proof.Machine.execNiuraCalibration largeMove refsDisagree s
  | .niuraShellWatchdog => Sys2Proof.Machine.execNiuraShellWatchdog s
  | .storeOvervoltage mv => Sys2Proof.Machine.execStoreOvervoltage mv s
  | .cellOvervoltage cell mv => Sys2Proof.Machine.execCellOvervoltage cell mv s
  | .busOvervoltage mv => Sys2Proof.Machine.execBusOvervoltage mv s
  | .holdupOverload us => Sys2Proof.Machine.execHoldupOverload us s
  | .railStable rail => Sys2Proof.Machine.execRailStable rail s
  | .railDown => Sys2Proof.Machine.execRailDown s
  | .pgGlitch rail => Sys2Proof.Machine.execPgGlitch rail s
  | .seqTimeout => Sys2Proof.Machine.execSeqTimeout s
  | .seqRetryWaitEnd => Sys2Proof.Machine.execSeqRetryWaitEnd s
  | .seqRetryRequest role value => Sys2Proof.Machine.execSeqRetryRequest role value s
  | .railFault rail mv => Sys2Proof.Machine.execRailFault rail mv s
  | .railGraceExpire group => Sys2Proof.Machine.execRailGraceExpire group s
  | .retryRailExpire rail => Sys2Proof.Machine.execRetryRailExpire rail s
  | .groupEnableWrite role group value => Sys2Proof.Machine.execGroupEnableWrite role group value s
  | .powerOnReset => Sys2Proof.Machine.execPowerOnReset s
  | .coldReset cause => Sys2Proof.Machine.execColdReset cause s
  | .coldResetRequest role value => Sys2Proof.Machine.execColdResetRequest role value s
  | .bureauResetRequest role value => Sys2Proof.Machine.execBureauResetRequest role value s
  | .bureauReloadComplete => Sys2Proof.Machine.execBureauReloadComplete s
  | .blockResetRequest role value => Sys2Proof.Machine.execBlockResetRequest role value s
  | .blockResetComplete code => Sys2Proof.Machine.execBlockResetComplete code s
  | .dictRead m => Sys2Proof.Machine.execDictRead m s
  | .dictWrite m => Sys2Proof.Machine.execDictWrite m s
  | .dictDescribe m => Sys2Proof.Machine.execDictDescribe m s
  | .setOpen m => Sys2Proof.Machine.execSetOpen m s
  | .setAdd m => Sys2Proof.Machine.execSetAdd m s
  | .setSubmit m => Sys2Proof.Machine.execSetSubmit m s
  | .setDiscard m => Sys2Proof.Machine.execSetDiscard m s
  | .setStatus m => Sys2Proof.Machine.execSetStatus m s
  | .setIdleTimeout slot => Sys2Proof.Machine.execSetIdleTimeout slot s
  | .registerWrite role x_index sub value len => Sys2Proof.Machine.execRegisterWrite role x_index sub value len s
  | .wallTimeWrite role value => Sys2Proof.Machine.execWallTimeWrite role value s
  | .faultClear role block value => Sys2Proof.Machine.execFaultClear role block value s
  | .injectedLiveClear block => Sys2Proof.Machine.execInjectedLiveClear block s
  | .chestEflashSpool => Sys2Proof.Machine.execChestEflashSpool s
  | .chestRingFailed lost => Sys2Proof.Machine.execChestRingFailed lost s
  | .chestReadRecord role => Sys2Proof.Machine.execChestReadRecord role s
  | .injectorFire block => Sys2Proof.Machine.execInjectorFire block s
  | .pairFail pair => Sys2Proof.Machine.execPairFail pair s
  | .pairTakeoverComplete role => Sys2Proof.Machine.execPairTakeoverComplete role s
  | .spareSelfTest passed => Sys2Proof.Machine.execSpareSelfTest passed s
  | .sramRepair array column => Sys2Proof.Machine.execSramRepair array column s
  | .sramUe owner => Sys2Proof.Machine.execSramUe owner s
  | .irqSourceRaise source => Sys2Proof.Machine.execIrqSourceRaise source s
  | .irqClaim role => Sys2Proof.Machine.execIrqClaim role s
  | .irqComplete role source => Sys2Proof.Machine.execIrqComplete role source s
  | .irqModerationExpire group => Sys2Proof.Machine.execIrqModerationExpire group s
  | .eflashProgram bank start => Sys2Proof.Machine.execEflashProgram bank start s
  | .eflashSectorErase bank => Sys2Proof.Machine.execEflashSectorErase bank s
  | .eflashBankErase bank => Sys2Proof.Machine.execEflashBankErase bank s
  | .eflashSuspend bank => Sys2Proof.Machine.execEflashSuspend bank s
  | .eflashResume bank => Sys2Proof.Machine.execEflashResume bank s
  | .eflashMarginRead bank mode => Sys2Proof.Machine.execEflashMarginRead bank mode s
  | .eflashReadStatus bank => Sys2Proof.Machine.execEflashReadStatus bank s
  | .eflashExit bank => Sys2Proof.Machine.execEflashExit bank s
  | .eflashDataWrite bank offset data => Sys2Proof.Machine.execEflashDataWrite bank offset data s
  | .eflashBadStore bank => Sys2Proof.Machine.execEflashBadStore bank s
  | .eflashUnlockTimeout bank => Sys2Proof.Machine.execEflashUnlockTimeout bank s
  | .eflashRead bank offset debug corrected uncorrectable => Sys2Proof.Machine.execEflashRead bank offset debug corrected uncorrectable s
  | .eflashOperationComplete bank passed => Sys2Proof.Machine.execEflashOperationComplete bank passed s
  | .eflashBrownout => Sys2Proof.Machine.execEflashBrownout s
  | .brownoutRecover => Sys2Proof.Machine.execBrownoutRecover s
  | .scrubSweep bank sector fails uncorrectable last => Sys2Proof.Machine.execScrubSweep bank sector fails uncorrectable last s
  | .fullRefresh bank sector uncorrectable last => Sys2Proof.Machine.execFullRefresh bank sector uncorrectable last s
  | .rdpRaise role value => Sys2Proof.Machine.execRdpRaise role value s
  | .rdpLowerArm role value => Sys2Proof.Machine.execRdpLowerArm role value s
  | .rdpLower role => Sys2Proof.Machine.execRdpLower role s
  | .keyRevokeArm role value => Sys2Proof.Machine.execKeyRevokeArm role value s
  | .keyRevokeRequest role value => Sys2Proof.Machine.execKeyRevokeRequest role value s
  | .svcHello seq => Sys2Proof.Machine.execSvcHello seq s
  | .svcSetRate seq code => Sys2Proof.Machine.execSvcSetRate seq code s
  | .svcRateFallback => Sys2Proof.Machine.execSvcRateFallback s
  | .imageBegin seq length => Sys2Proof.Machine.execImageBegin seq length s
  | .imageData seq offset data => Sys2Proof.Machine.execImageData seq offset data s
  | .imageEnd seq => Sys2Proof.Machine.execImageEnd seq s
  | .imageActivate seq x_now => Sys2Proof.Machine.execImageActivate seq x_now s
  | .imageAbort seq => Sys2Proof.Machine.execImageAbort seq s
  | .svcUnknownType seq type => Sys2Proof.Machine.execSvcUnknownType seq type s
  | .svcFrameBad => Sys2Proof.Machine.execSvcFrameBad s
  | .spdmGetVersion endpoint => Sys2Proof.Machine.execSpdmGetVersion endpoint s
  | .spdmGetCapabilities endpoint => Sys2Proof.Machine.execSpdmGetCapabilities endpoint s
  | .spdmNegotiateAlgorithms endpoint => Sys2Proof.Machine.execSpdmNegotiateAlgorithms endpoint s
  | .spdmGetDigests endpoint => Sys2Proof.Machine.execSpdmGetDigests endpoint s
  | .spdmGetCertificate endpoint slot offset length => Sys2Proof.Machine.execSpdmGetCertificate endpoint slot offset length s
  | .spdmChallenge endpoint slot summary nonce => Sys2Proof.Machine.execSpdmChallenge endpoint slot summary nonce s
  | .spdmGetMeasurements endpoint x_index sign nonce => Sys2Proof.Machine.execSpdmGetMeasurements endpoint x_index sign nonce s
  | .spdmChunkSend endpoint seq last chunk => Sys2Proof.Machine.execSpdmChunkSend endpoint seq last chunk s
  | .spdmChunkGet endpoint seq => Sys2Proof.Machine.execSpdmChunkGet endpoint seq s
  | .spdmRespondIfReady endpoint => Sys2Proof.Machine.execSpdmRespondIfReady endpoint s
  | .spdmUnsupported endpoint code => Sys2Proof.Machine.execSpdmUnsupported endpoint code s
  | .ptRun role value bits errors line => Sys2Proof.Machine.execPtRun role value bits errors line s
  | .marginRun role value => Sys2Proof.Machine.execMarginRun role value s
  | .marginRunComplete unit firstFailing => Sys2Proof.Machine.execMarginRunComplete unit firstFailing s
  | .tapExtest => Sys2Proof.Machine.execTapExtest s
  | .tapIdcode => Sys2Proof.Machine.execTapIdcode s
  | .tapSamplePreload => Sys2Proof.Machine.execTapSamplePreload s
  | .tapClamp => Sys2Proof.Machine.execTapClamp s
  | .tapHighz => Sys2Proof.Machine.execTapHighz s
  | .tapExtestPulse => Sys2Proof.Machine.execTapExtestPulse s
  | .tapExtestTrain => Sys2Proof.Machine.execTapExtestTrain s
  | .tapTestAccess => Sys2Proof.Machine.execTapTestAccess s
  | .tapBypass => Sys2Proof.Machine.execTapBypass s
  | .avsCheck guardMv => Sys2Proof.Machine.execAvsCheck guardMv s
  | .thermalLifeLog => Sys2Proof.Machine.execThermalLifeLog s
  | .hdmDecoderCommit link decoder dpaBase size ways granularity => Sys2Proof.Machine.execHdmDecoderCommit link decoder dpaBase size ways granularity s
  | .msixVectorUnmask link vector => Sys2Proof.Machine.execMsixVectorUnmask link vector s
  | .l0pHostRequest link width => Sys2Proof.Machine.execL0pHostRequest link width s
  | .doeCdatAccess link table => Sys2Proof.Machine.execDoeCdatAccess link table s
  | .laneMargining link lane voltage step => Sys2Proof.Machine.execLaneMargining link lane voltage step s
  | .checkerLock unit => Sys2Proof.Machine.execCheckerLock unit s
  | .checkerLockLoss unit bits errors => Sys2Proof.Machine.execCheckerLockLoss unit bits errors s
  | .busBelowHuBusMin mv => Sys2Proof.Machine.execBusBelowHuBusMin mv s
  | .ocvCorrection => Sys2Proof.Machine.execOcvCorrection s
  | .entdaa address => Sys2Proof.Machine.execEntdaa address s
  | .setdasa x_static address => Sys2Proof.Machine.execSetdasa x_static address s

end Sys2Proof.Machine
end

