-- ==== Sys2Proof/Safety.lean ====
section
/-! DEFINITION. What counts as a sound state and a safe step, in the terms that statements use: canonical tables, and the
promises that hold between fields of the state. -/

namespace Sys2Proof.Machine

/-- DRAM and flash are in canonical form: addresses rise strictly, and no zero byte is listed. -/
def State.memWf (s : State) : Bool := Mem.wf s.mem && Flash.wf s.nand.flash

/-- The outcome of a step is not a fault and not a refusal. -/
def Completes (o : Host.Outcome State Fault Refusal) : Prop := ∃ t, o = .next t

/-- A step from `s` completes, and nothing of the queue but the command it took is gone. -/
def SafeStep (s : State) : Prop := ∃ t, step s = .next t ∧ t.pending = s.pending.tail

/-- The changes of mode that Table 13.1 and the resets of Table 13.5 allow between two states, in one step. -/
def ModeStep (a b : Mode) : Prop :=
  a = b ∨ match a, b with
    | .dormant, .bringUp => True
    | .bringUp, .online => True
    | .bringUp, .restore => True
    | .bringUp, .dormant => True
    | .bringUp, .save => True
    | .online, .drowse => True
    | .online, .save => True
    | .online, .bringUp => True
    | .online, .dormant => True
    | .drowse, .online => True
    | .drowse, .save => True
    | .drowse, .bringUp => True
    | .drowse, .dormant => True
    | .save, .online => True
    | .save, .restore => True
    | .save, .dormant => True
    | .restore, .online => True
    | .restore, .save => True
    | .restore, .bringUp => True
    | .restore, .dormant => True
    | _, _ => False

/-! ### What a report may touch

A record, its delivery, a message to a host and a wake source that fires touch the same few fields whatever reports them:
the outputs, the Chest, the fault groups, the messages and logs of links, and the wake in progress. -/

/-- A link before and after reports: its state may leave L1, messages wait or go, records enter its logs, and while it is
down an output waits to be read. -/
def Link.SameButReports (a b : Link) : Prop :=
  b = { a with
        state := b.state, pend := b.pend, logs := b.logs, deferred := b.deferred, severe := b.severe,
        mailDue := b.mailDue }
    ∧ (b.state = a.state ∨ (a.state = .l1 ∧ b.state = .l0)) ∧ (a.up = true → b.mailDue = a.mailDue)

/-- Entries that reports count or set: `wake_cause`, and the counters of dropped records. -/
def reportEntries : List Nat := [key 0x1113 0, key 0x7422 0, key 0x7431 1]

/-- What a wake out of DROWSE moves besides (R338, R121): the extensions of R99's bounds by the DQS check of each channel. -/
def windowEntries : List Nat := (List.range 13).map fun c => key (0x3120 + c) 6

/-- A burst but for the extension of its bound. -/
def Burst.unextended (b : Burst) : Burst := { b with extended := 0 }

/-- Entries are as they were, but for those that reports write, and in DROWSE for those that a wake moves. -/
def EntriesKept (s t : State) : Prop :=
  ∀ k, k ∉ reportEntries → (s.ctl.mode = .drowse → k ∉ windowEntries) → t.regs.find? k = s.regs.find? k

/-- What a wake may do to the trickle period and to the bounds of bursts; outside DROWSE nothing. -/
def WakeOnly (s t : State) : Prop :=
  t.sched = { s.sched with bursts := t.sched.bursts }
    ∧ t.sched.bursts.map Burst.unextended = s.sched.bursts.map Burst.unextended
    ∧ (s.ctl.mode ≠ .drowse →
        t.sched = s.sched ∧ t.ctl.tricklePeriod = s.ctl.tricklePeriod ∧ t.ctl.periods = s.ctl.periods)

/-- `t` is `s` but for reports: outputs only grow, and only the fields named may differ. -/
def SameButReports (s t : State) : Prop :=
  t = { s with out := t.out, free := t.free, ctl := t.ctl, regs := t.regs, links := t.links, faults := t.faults,
               chest := t.chest, sched := t.sched }
    ∧ t.ctl = { s.ctl with waking := t.ctl.waking, wakeBeat := t.ctl.wakeBeat, workersHalted := t.ctl.workersHalted,
                           consents := t.ctl.consents, tricklePeriod := t.ctl.tricklePeriod, periods := t.ctl.periods }
    ∧ WakeOnly s t ∧ EntriesKept s t
    ∧ (∀ i, Link.SameButReports (s.link i) (t.link i))
    ∧ ∃ os, t.out = s.out ++ os

/-- A counter has risen by `n`, unless that passes its width (log entry 5). -/
def Counted (s t : State) (idx sub n : Nat) : Prop :=
  s.reg idx sub + n < 2 ^ (8 * entrySize idx sub) → t.reg idx sub = s.reg idx sub + n

/-- Stored entries are as they were, but for those named and those that reports write. -/
def RegsKept (s t : State) (except : List Nat) : Prop :=
  ∀ k, k ∉ reportEntries → (s.ctl.mode = .drowse → k ∉ windowEntries) → k ∉ except → t.regs.find? k = s.regs.find? k

/-- A mailbox command has its effect `m` and is answered on its link. -/
def Answered (m t : State) (i opcode : Nat) (rc : MailRc) (payload : List Nat) : Prop :=
  SameButReports m t ∧ Output.mailbox i opcode rc payload ∈ t.out

/-- A fault code has occurred since its group was last cleared (Table 15.2). -/
def State.hasFault (s : State) (code : Nat) : Bool := (s.faultGroup (code / 32)).sticky.getLsbD (code % 32)

/-! ### Slot commands that the Group engine runs at once -/

/-- A slot access that is taken at once: over the mailbox, or over CXL.mem through a decoder; the link is up, host access
is open, ingress is open and holds no write, and the slot is in the link's Desk range. -/
def State.deskTakes (s : State) (a : DeskArgs) : Prop :=
  (s.link a.link.val).up = true ∧ s.bureau.lost = false ∧ s.ctl.access = true ∧ s.ingress.closed = false
    ∧ s.ingress.writes = [] ∧ a.group < 262144 ∧ s.inDesk a.link.val a.group = true
    ∧ (a.mailbox = false → s.reaches a.link.val (deskBase + 64 * a.group) = true ∧ s.layout.hostVisible ≤ deskBase
        ∧ s.ctl.mode ≠ .drowse ∧ s.sanitizing a.link.val = false)
    ∧ (s.slot a.group).running = false

/-- A command that is accepted: its sequence is the next one and no reserved bit of its word is set (R177, R178). -/
def State.deskAccepts (s : State) (opcode : Nat) (a : DeskArgs) : Prop :=
  s.deskTakes a ∧ a.seq = (s.slot a.group).lastSeq + 1 ∧ badField opcode a = none

/-- The command with the operands it takes: its own enabled bytes over the slot's stage (R175). -/
def State.taken (s : State) (a : DeskArgs) : DeskArgs := { a with operands := a.merge (s.slot a.group).stage }

/-- A slot once a command has been accepted: the stage is used up, its sequence and opcode are kept (R175, R177). -/
def Slot.accepted (x : Slot) (opcode : Nat) (a : DeskArgs) : Slot :=
  { x with stage := 0, lastSeq := a.seq, lastOpcode := opcode }

/-! ### Host writes -/

/-- Memory `m'` is `m` with the enabled bytes of a write stored at its 64 B unit, and every other byte as it was. -/
def StoredBy (w : MemWrite) (m m' : List Host.Cell) : Prop :=
  ∀ x, Mem.byte m' x =
    if alignUnit w.dpa ≤ x ∧ x < alignUnit w.dpa + 64 ∧ w.be.getLsbD (x - alignUnit w.dpa) = true
    then w.data.extractLsb' (8 * (x - alignUnit w.dpa)) 8 else Mem.byte m x

/-- A HOST_WRITE to host-visible memory that is accepted and waits for nothing but its leaf's admission: host access is
open, no write waits in ingress, the leaf is not restored still and no rollback of its line runs. -/
def State.writeEnters (s : State) (w : MemWrite) : Prop :=
  s.reaches w.link.val w.dpa = true ∧ s.accepts w.link.val = true ∧ s.shut w.link.val = false ∧ s.ingress.writes = []
    ∧ w.dpa < s.layout.hostVisible ∧ s.awaitsRestore (leafOf w.dpa) = false ∧ s.rolling w.dpa = false

/-! ### Frames -/

/-- No byte of DRAM or flash, no leaf, no slot, claim or journal entry, no mode and no clock differs. -/
def DataKept (s t : State) : Prop :=
  t.mem = s.mem ∧ t.nand.flash = s.nand.flash ∧ t.leaves = s.leaves ∧ t.groups = s.groups ∧ t.ctl.mode = s.ctl.mode
    ∧ t.clock = s.clock

/-! ### Dictionary messages that are taken at once -/

/-- The Bureau takes a message of a role at once: VAUX is up, the part is not in recovery mode, a pair is left, no reload
runs, and a host has a link that is up (R344, R359, R393, R439). -/
def State.serves (s : State) (role : Role) (link : Fin 4) : Prop :=
  s.ctl.vaux = true ∧ s.ctl.recovery = false ∧ s.bureau.lost = false ∧ s.ctl.bureauReload = false
    ∧ (role = .host → (s.link link.val).up = true)

/-- The state in which a message is executed: its outputs start empty and it has been counted (R355); a service frame
has confirmed the port's rate (R434). -/
def State.asked (s : State) (role : Role) : State :=
  (if role = .service then { s.fresh with security := { s.security with svcNext := none } } else s.fresh).addReg 0xA032 0 1

/-- A message whose layout is valid, that fits its role's transport, and that is for this member (R359, R360). -/
def State.fits (s : State) (op : DictOp) (m : DictMsg) : Prop :=
  malformed op m = false ∧ DictMsg_bytes m ≤ messageLimit m.role ∧ responseBytes op m ≤ messageLimit m.role
    ∧ (m.target = 0xFFFF ∨ m.target = s.member) ∧ m.tag < 65536

/-- The item of a command that writes one entry. -/
def entryItem (idx sub v : Nat) : Item := Item.mk idx sub (v % 2 ^ (8 * entrySize idx sub)) (entrySize idx sub)

/-- A write of one entry is taken and passes every check, its step-4 check apart (R349, R361). -/
def State.writePasses (s : State) (role : Role) (idx sub v : Nat) : Prop :=
  s.serves role s.hostLink ∧ (s.asked role).writeCode role (entryItem idx sub v) = 0

/-- The response of a one-entry write leaves, with the item's code. -/
def WriteAnswered (s t : State) (role : Role) (idx sub v code : Nat) : Prop :=
  Output.dict role s.hostLink.val 0 0 0 0 0 [respOf (entryItem idx sub v) code] ∈ t.out

/-- Entries that every dictionary message may move: the count of operations, and the generation of D values (R353). -/
def dictEntries : List Nat := [key 0xA032 0, key 0xA003 0]

/-! ### Embedded flash, the service port and attestation -/

/-- Only a bank of the embedded flash, free values and outputs differ. -/
def FlashOnly (s t : State) (b : Nat) : Prop :=
  t = { s with out := t.out, free := t.free, eflash := { s.eflash with banks := t.eflash.banks } }
    ∧ ∀ k, k ≠ b → t.bank k = s.bank k

/-- A service frame is answered, and the answer is kept for a repeated sequence (R436). -/
def SvcAnswered (t : State) (type seq status : Nat) (payload : List Nat) : Prop :=
  Output.svc (type + 0x80) (seq % 256) status payload ∈ t.out ∧ t.security.lastSeq = some (seq % 256)
    ∧ t.security.lastResponse = [Output.svc (type + 0x80) (seq % 256) status payload]

end Sys2Proof.Machine

namespace Sys2Proof

/-! ### What a command may change -/

/-- Commands that can change the operating mode: those of Table 13.1, the resets of Table 13.5, and the dictionary
messages and one-entry writes that ask for a save or a reset. -/
def Instr.changesMode : Instr → Bool
  | .beat .. | .restoreComplete .. | .linkEnableWrite .. | .drowseEntry .. | .wakeComplete .. |
    .forceOutcomeWrite .. | .layoutChangeWrite .. | .bankHashWrite .. | .retrainRequestWrite .. |
    .rateMaxWrite .. | .spareRequestWrite .. | .requalifyRequestWrite .. | .trestleLinkEnableWrite .. |
    .tunnelReqReceived .. | .powerFailTrip .. | .saveBegin .. | .saveAndResume .. | .saveAndHalt .. |
    .saveEnd .. | .saveWithdrawal .. | .inputGood .. | .vauxFall .. | .bringUpComplete .. |
    .chargerFaultClear .. | .railDown .. | .pgGlitch .. | .seqTimeout .. | .seqRetryRequest .. | .railFault .. |
    .railGraceExpire .. | .groupEnableWrite .. | .powerOnReset .. | .coldReset .. | .coldResetRequest .. |
    .bureauResetRequest .. | .bureauReloadComplete .. | .blockResetRequest .. | .dictRead .. | .dictWrite .. |
    .dictDescribe .. | .setOpen .. | .setAdd .. | .setSubmit .. | .setDiscard .. | .setStatus .. |
    .registerWrite .. | .wallTimeWrite .. | .faultClear .. | .injectorFire .. | .rdpRaise .. | .rdpLowerArm .. |
    .rdpLower .. | .keyRevokeArm .. | .keyRevokeRequest .. | .imageActivate .. | .ptRun .. |
    .marginRun .. => true
  | _ => false

/-- Commands that can change a byte of DRAM: host writes and what releases them, poison, Sanitize, slot commands and joint
cells that end a rollback or a wait, restores, resets, the pattern that a test of a DRAM channel leaves under test hold, and the
dictionary messages that can start a save or a reset. -/
def Instr.writesMem : Instr → Bool
  | .beat .. | .hostWrite .. | .heldWriteRelease .. | .journalWaitEnd .. | .touchRestoreComplete .. |
    .backgroundRestoreLeaf .. | .linkEnableWrite .. | .injectPoison .. | .clearPoison .. |
    .sanitizeComplete .. | .passphraseSecureErase .. | .wakeComplete .. | .deskOperandStage .. |
    .deskPoisonedWrite .. | .deskNop .. | .deskInvalidOpcode .. | .deskOpen .. | .deskClaim .. |
    .deskRelease .. | .deskCommit .. | .deskAbort .. | .rollbackComplete .. | .deskBeginJoint .. |
    .deskPrepare .. | .deskDecide .. | .deskAckTerminal .. | .decideCellReceived .. | .queryCellReceived .. |
    .answerCellReceived .. | .prepareQueryTimer .. | .indoubtQuery .. | .forceOutcomeWrite .. |
    .layoutChangeWrite .. | .bankHashWrite .. | .retrainRequestWrite .. | .rateMaxWrite .. |
    .spareRequestWrite .. | .requalifyRequestWrite .. | .trickleSelect .. | .rehearsalStart .. |
    .rehearsalRunEnd .. | .trestleLinkEnableWrite .. | .framePass .. | .frameReturn .. | .tunnelReqReceived .. |
    .powerFailTrip .. | .saveAndResume .. | .saveAndHalt .. | .saveDrainComplete .. | .saveEnd .. |
    .saveWithdrawal .. | .inputGood .. | .bringUpComplete .. | .groupSetLoadComplete .. |
    .chargerFaultClear .. | .healthTestStart .. | .healthTestEnd .. | .seqRetryRequest .. | .railFault .. |
    .railGraceExpire .. | .groupEnableWrite .. | .powerOnReset .. | .coldReset .. | .coldResetRequest .. |
    .bureauResetRequest .. | .bureauReloadComplete .. | .blockResetRequest .. | .dictRead .. | .dictWrite .. |
    .dictDescribe .. | .setOpen .. | .setAdd .. | .setSubmit .. | .setDiscard .. | .setStatus .. |
    .registerWrite .. | .wallTimeWrite .. | .faultClear .. | .injectorFire .. | .rdpRaise .. | .rdpLowerArm .. |
    .rdpLower .. | .keyRevokeArm .. | .keyRevokeRequest .. | .imageActivate .. | .ptRun .. | .marginRun .. |
    .busBelowHuBusMin .. | .blockResetComplete .. => true
  | _ => false

/-- Commands that can change a byte of the NAND image store: programmed rows, Sanitize, withdrawals, the load of an
image, a leaf whose copy cannot be read back, and the dictionary messages that can start one of these. -/
def Instr.writesFlash : Instr → Bool
  | .beat .. | .touchRestoreComplete .. | .backgroundRestoreLeaf .. | .sanitize .. |
    .linkEnableWrite .. | .sanitizeComplete .. | .passphraseSecureErase .. | .forceOutcomeWrite .. |
    .layoutChangeWrite .. | .bankHashWrite .. | .retrainRequestWrite .. | .rateMaxWrite .. |
    .spareRequestWrite .. | .requalifyRequestWrite .. | .trestleLinkEnableWrite .. | .tunnelReqReceived .. |
    .rowProgramComplete .. | .saveAndResume .. | .saveAndHalt .. | .saveWithdrawal .. | .bringUpComplete .. |
    .groupSetLoadComplete .. | .chargerFaultClear .. | .seqRetryRequest .. | .groupEnableWrite .. |
    .coldResetRequest .. | .bureauResetRequest .. | .bureauReloadComplete .. | .blockResetRequest .. |
    .dictRead .. | .dictWrite .. | .dictDescribe .. | .setOpen .. | .setAdd .. | .setSubmit .. |
    .setDiscard .. | .setStatus .. | .registerWrite .. | .wallTimeWrite .. | .faultClear .. | .rdpRaise .. |
    .rdpLowerArm .. | .rdpLower .. | .keyRevokeArm .. | .keyRevokeRequest .. | .ptRun .. | .marginRun .. => true
  | _ => false

end Sys2Proof
end

