-- ==== Sys2Proof/Certificates/Slice0/Obligations.lean ====
section
/-! DEFINITION. The statements that the provers answer, chapter by chapter of the spec. -/

open Sys2Proof Sys2Proof.Machine

/-- With command c at the front of the queue, a step is exec of c on the state with the rest of the queue; it takes
nothing else from the queue and adds nothing to it. With an empty queue the block idles and the step answers the
same state, which is the model's choice (log entry 1): time passes at the BEAT command only.
(spec/opcode_table.json) -/
def Obligations.StepTakesFront : Prop :=
  (∀ (s : State) (c : Instr) (rest : List Instr), s.pending = c :: rest →
    step s = exec c { s with pending := rest } ∧ ∀ t, step s = .next t → t.pending = rest)
  ∧ ∀ s : State, s.pending = [] → step s = .next s

/-- Whatever command runs, the commands that wait stay as they are: the queue belongs to the sender.
(spec/opcode_table.json) -/
def Obligations.CommandsKeepTheQueue : Prop :=
  ∀ (c : Instr) (s t : State), exec c s = .next t → t.pending = s.pending

/-- In every state, reachable or not, whose DRAM and NAND flash bytes are listed by strictly rising address with no
zero byte, a step that answers a next state keeps that form, so equal memories are equal data.
(07_leaves_trickle_budget.md, 10_nand_image_store.md) -/
def Obligations.MemoryStaysCanonical : Prop :=
  ∀ s t : State, s.memWf = true → step s = .next t → t.memWf = true

/-- A command outside the list of Instr.changesMode leaves the operating mode as it is: no host request, slot
command, cell other than a tunnel request, NAND event or flash command changes it. (R13, R330) -/
def Obligations.ModeChangesOnlyBy : Prop :=
  ∀ (c : Instr) (s t : State), c.changesMode = false → exec c s = .next t → t.ctl.mode = s.ctl.mode

/-- A command outside the list of Instr.writesMem leaves every byte of DRAM as it is, and one outside
Instr.writesFlash every byte of the NAND image store. (R16, R147, R285) -/
def Obligations.DramChangesOnlyBy : Prop :=
  (∀ (c : Instr) (s t : State), c.writesMem = false → exec c s = .next t → t.mem = s.mem)
  ∧ (∀ (c : Instr) (s t : State), c.writesFlash = false → exec c s = .next t → t.nand.flash = s.nand.flash)

/-- After reset memory and flash are in canonical form with nothing listed, no command waits, the mode is DORMANT,
host access is closed, no link is up, every slot is FREE, no fault bit is set, and every entry holds its Default but
for the two counters that this POWER-ON reset has counted. Which instant State.reset stands for is the model's
choice (log entry 3). (R6, R146, R177, R276) -/
def Obligations.ResetState : Prop :=
  State.reset.memWf = true ∧ State.reset.mem = [] ∧ State.reset.pending = [] ∧ State.reset.ctl.mode = .dormant
  ∧ State.reset.ctl.access = false ∧ (∀ i, (State.reset.link i).up = false)
  ∧ (∀ g, (State.reset.slot g).state = .free ∧ (State.reset.slot g).lastSeq = 0xFFFF)
  ∧ (∀ idx sub, key idx sub ≠ key 0x1102 1 → key idx sub ≠ key 0x4800 4 →
      State.reset.reg idx sub = defaultValue State.reset 0 idx sub)
  ∧ State.reset.reg 0x1102 1 = 1 ∧ State.reset.reg 0x4800 4 = 1
  ∧ (∀ code, State.reset.hasFault code = false)

/-- An accepted write that waits for nothing, to a page that no group claims, stores exactly its enabled bytes and
completes: its leaf is DIRTY after it, but a PINNED one stays PINNED, and a LOST one is first cleared to zero; no
other leaf, slot, claim or flash copy changes. A first write to a CLEAN or LOST leaf for which a condition of
admission fails is held, stores nothing and changes no leaf. A write on a link that accepts none changes nothing but
the output, and a write or a read that no committed decoder maps ends in the fault unmappedDpa. (R17, R25, R45, R49,
R50, R147, R148, R163, R164) -/
def Obligations.HostWriteStores : Prop :=
  (∀ (s : State) (w : MemWrite), s.writeEnters w → Mem.wf s.mem = true → s.groups.claims.find? (pageOf w.dpa) = none →
    (s.leaf (leafOf w.dpa) = .clean ∨ s.leaf (leafOf w.dpa) = .lost → s.firstWriteCause (leafOf w.dpa) = 0) →
    ∃ t, exec (.hostWrite w) s = .next t
      ∧ StoredBy w (if s.leaf (leafOf w.dpa) = .lost then Mem.clear s.mem (leafOf w.dpa * 65536) 65536 else s.mem) t.mem
      ∧ t.leaf (leafOf w.dpa) = (if s.leaf (leafOf w.dpa) = .pinned then .pinned else .dirty)
      ∧ (∀ l, l ≠ leafOf w.dpa → t.leaf l = s.leaf l) ∧ t.groups = s.groups ∧ t.nand.flash = s.nand.flash
      ∧ ∃ l, Output.writeDone w.link.val w.dpa l ∈ t.out)
  ∧ (∀ (s : State) (w : MemWrite), s.writeEnters w →
    (s.leaf (leafOf w.dpa) = .clean ∨ s.leaf (leafOf w.dpa) = .lost) → s.firstWriteCause (leafOf w.dpa) ≠ 0 →
    ∃ t, exec (.hostWrite w) s = .next t ∧ t.mem = s.mem ∧ t.leaves = s.leaves ∧ t.groups = s.groups
      ∧ (∃ e ∈ t.ingress.writes, e.w = w ∧ e.wait = .admission) ∧ .held w.link.val ∈ t.out)
  ∧ (∀ (s : State) (w : MemWrite), s.reaches w.link.val w.dpa = true → s.accepts w.link.val = false →
    exec (.hostWrite w) s = .next { s with out := [.notAccepted w.link.val] })
  ∧ (∀ (s : State) (w : MemWrite), s.reaches w.link.val w.dpa = false →
    exec (.hostWrite w) s = .fault .unmappedDpa)
  ∧ (∀ (s : State) (link : Fin 4) (dpa : Nat) (stamp : BitVec 16), s.reaches link.val dpa = false →
    exec (.hostRead link dpa stamp) s = .fault .unmappedDpa)

/-- The first write to a LOST leaf makes it DIRTY and valid: from then on a read of a line of it returns the data
written, or zero for a byte not written since the loss, and is not poisoned. (R25) -/
def Obligations.LostLeafTakesAWrite : Prop :=
  ∀ (s : State) (w : MemWrite), s.writeEnters w → Mem.wf s.mem = true → s.groups.claims.find? (pageOf w.dpa) = none →
    s.leaf (leafOf w.dpa) = .lost → s.firstWriteCause (leafOf w.dpa) = 0 → w.poison = false →
    ∃ t, exec (.hostWrite w) s = .next t ∧ t.leaf (leafOf w.dpa) = .dirty
      ∧ (∀ x, leafOf x = leafOf w.dpa → Mem.byte t.mem x =
          if alignUnit w.dpa ≤ x ∧ x < alignUnit w.dpa + 64 ∧ w.be.getLsbD (x - alignUnit w.dpa) = true
          then w.data.extractLsb' (8 * (x - alignUnit w.dpa)) 8 else 0)
      ∧ ∀ x, leafOf x = leafOf w.dpa → s.fenced x = false →
          (t.readUnit x).2 = false
          ∧ ∀ k, k < 64 → (t.readUnit x).1.extractLsb' (8 * k) 8 = Mem.byte t.mem (alignUnit x + k)

/-- An accepted write that waits for nothing, to a claimed page of a PINNED leaf: to a line of an OPEN or PREPARED
group that no entry covers yet it first journals the line's bytes as they were, where the journal has room and the
line awaits no search, and is stored with its completion owed until the entry's bursts stand in transaction queues,
or completes at once where the entry has none; a further write to that line stores without a new entry; in an
IN_DOUBT or JFULL group it is discarded, counted and completed, and stores nothing. (R33, R185, R186, R187) -/
def Obligations.ClaimedLineIsJournalledFirst : Prop :=
  (∀ (s : State) (w : MemWrite) (c : Claim), s.writeEnters w → Mem.wf s.mem = true →
    s.groups.claims.find? (pageOf w.dpa) = some c → s.leaf (leafOf w.dpa) = .pinned →
    ((s.slot c.group).state = .opened ∨ (s.slot c.group).state = .prepared) → (s.slot c.group).jfull = false →
    c.lines.getLsbD (lineInPage w.dpa) = false → s.lineAwaits (lineOf w.dpa) = false → s.journalFull c.group = false →
    ∃ t e, exec (.hostWrite w) s = .next t ∧ StoredBy w s.mem t.mem ∧ t.groups.journal = s.groups.journal ++ [e]
      ∧ e.group = c.group ∧ e.line = lineOf w.dpa ∧ e.pre = Mem.slice s.mem (lineOf w.dpa * 256) 256
      ∧ ((∃ x ∈ t.ingress.writes, x.w = w ∧ x.wait = .draining ∧ x.owes ≠ []
            ∧ ∀ n ∈ x.owes, s.sched.nextId ≤ n ∧ ∃ b ∈ t.sched.bursts, b.id = n)
          ∨ ∃ l, Output.writeDone w.link.val w.dpa l ∈ t.out) ∧ t.leaves = s.leaves)
  ∧ (∀ (s : State) (w : MemWrite) (c : Claim), s.writeEnters w → Mem.wf s.mem = true →
    s.groups.claims.find? (pageOf w.dpa) = some c → s.leaf (leafOf w.dpa) = .pinned →
    (s.slot c.group).state ≠ .inDoubt → (s.slot c.group).jfull = false → c.lines.getLsbD (lineInPage w.dpa) = true →
    ∃ t, exec (.hostWrite w) s = .next t ∧ StoredBy w s.mem t.mem ∧ t.groups = s.groups ∧ t.leaves = s.leaves
      ∧ ∃ l, Output.writeDone w.link.val w.dpa l ∈ t.out)
  ∧ (∀ (s : State) (w : MemWrite) (c : Claim), s.writeEnters w →
    s.groups.claims.find? (pageOf w.dpa) = some c → s.leaf (leafOf w.dpa) = .pinned →
    ((s.slot c.group).state = .inDoubt ∨ (s.slot c.group).jfull = true) →
    ∃ t, exec (.hostWrite w) s = .next t ∧ t.mem = s.mem ∧ t.leaves = s.leaves
      ∧ (t.slot c.group).discarded = min ((s.slot c.group).discarded + 1) 4294967295
      ∧ ∃ l, Output.writeDone w.link.val w.dpa l ∈ t.out)

/-- A host's write held for admission, alone in ingress, whose CLEAN leaf may now be admitted and that no group
claims, is stored and completes, and its leaf is DIRTY. A host's write that waited for journal space, alone in
ingress, to a line of an OPEN group that no entry covers, is journalled and stored once a chunk is free, and its
completion is sent or owed. BURST_ISSUE completes every write whose journal entry's bursts all stand in transaction
queues. (R17, R106, R164, R187) -/
def Obligations.WaitingWritesGoOn : Prop :=
  (∀ (s : State) (e : IngressWrite) (stamp : BitVec 16), s.ingress.writes = [e] → e.wait = .admission → e.source = .external → e.reply = true →
    e.w.dpa < s.layout.hostVisible → s.shut e.w.link.val = false → s.rolling e.w.dpa = false → Mem.wf s.mem = true →
    s.leaf (leafOf e.w.dpa) = .clean → s.groups.claims.find? (pageOf e.w.dpa) = none →
    s.firstWriteCause (leafOf e.w.dpa) = 0 → (s.link e.w.link.val).up = true →
    ∃ t, exec (.heldWriteRelease stamp) s = .next t ∧ StoredBy e.w s.mem t.mem ∧ t.leaf (leafOf e.w.dpa) = .dirty
      ∧ (∀ l, l ≠ leafOf e.w.dpa → t.leaf l = s.leaf l) ∧ t.groups = s.groups
      ∧ ∃ l, Output.writeDone e.w.link.val e.w.dpa l ∈ t.out)
  ∧ (∀ (s : State) (e : IngressWrite) (c : Claim) (stamp : BitVec 16), s.ingress.writes = [e] → e.wait = .journal →
    e.source = .external → e.reply = true → e.w.dpa < s.layout.hostVisible → s.shut e.w.link.val = false → Mem.wf s.mem = true →
    s.leaf (leafOf e.w.dpa) = .pinned → s.groups.claims.find? (pageOf e.w.dpa) = some c →
    (s.slot c.group).state = .opened → (s.slot c.group).jfull = false → c.lines.getLsbD (lineInPage e.w.dpa) = false →
    s.lineAwaits (lineOf e.w.dpa) = false → s.chunksFree ≠ 0 → (s.link e.w.link.val).up = true →
    ∃ t j, exec (.journalWaitEnd stamp) s = .next t ∧ StoredBy e.w s.mem t.mem ∧ t.leaves = s.leaves
      ∧ t.groups.journal = s.groups.journal ++ [j] ∧ j.group = c.group ∧ j.line = lineOf e.w.dpa
      ∧ j.pre = Mem.slice s.mem (lineOf e.w.dpa * 256) 256
      ∧ ((∃ x ∈ t.ingress.writes, x.w = e.w ∧ x.wait = .draining ∧ x.owes ≠ [])
          ∨ ∃ l, Output.writeDone e.w.link.val e.w.dpa l ∈ t.out))
  ∧ (∀ (s : State) (e : IngressWrite) (chan : Fin 13) (sub : Fin 2) (now : BitVec 16), e ∈ s.ingress.writes → e.owes ≠ [] →
    (∀ b ∈ s.sched.bursts, b.id ∈ e.owes → b.inQueue = true) → e.source = .external → e.reply = true →
    (s.link e.w.link.val).up = true →
    ∃ t l, exec (.burstIssue chan sub now) s = .next t ∧ Output.writeDone e.w.link.val e.w.dpa l ∈ t.out)

/-- An accepted read that waits for nothing returns its 64 B with poison as marked, and changes no byte, leaf state
or slot. A read that waits for nothing, by any link, after an ordinary write of its whole 64 B to an unclaimed page
that waited for nothing, returns that write's data unpoisoned. (R20, R61, R62) -/
def Obligations.HostReadReturnsTheLatest : Prop :=
  (∀ (s : State) (link : Fin 4) (dpa : Nat) (stamp : BitVec 16), s.reaches link.val dpa = true →
    s.accepts link.val = true → s.readWait link.val dpa = none → dpa < s.layout.hostVisible →
    ∃ t l, exec (.hostRead link dpa stamp) s = .next t ∧ t.mem = s.mem ∧ t.leaves = s.leaves ∧ t.groups = s.groups
      ∧ Output.readData link.val dpa (s.readUnit dpa).1 (s.readUnit dpa).2 l ∈ t.out)
  ∧ (∀ (s t : State) (w : MemWrite) (link : Fin 4) (stamp : BitVec 16), s.writeEnters w → Mem.wf s.mem = true →
    s.groups.claims.find? (pageOf w.dpa) = none → w.be = BitVec.allOnes 64 → w.poison = false →
    (s.leaf (leafOf w.dpa) = .clean ∨ s.leaf (leafOf w.dpa) = .lost → s.firstWriteCause (leafOf w.dpa) = 0) →
    exec (.hostWrite w) s = .next t → t.reaches link.val w.dpa = true → t.accepts link.val = true →
    t.readWait link.val w.dpa = none →
    ∃ u l, exec (.hostRead link w.dpa stamp) t = .next u
      ∧ Output.readData link.val w.dpa w.data false l ∈ u.out)

/-- GPF Phase 1 on a link that is up is answered at once and changes nothing else. GPF Phase 2 on a link that is up,
with no other link waiting for one, completes at once with an empty ingress of that link, and waits with writes in
it; only the outputs and that link's wait change. (R19, R54) -/
def Obligations.FlushesAnswer : Prop :=
  (∀ (s : State) (link : Fin 4), (s.link link.val).up = true →
    exec (.gpfPhase1 link) s = .next { s with out := [.gpfDone link.val] })
  ∧ (∀ (s : State) (link : Fin 4), (s.link link.val).up = true →
      (∀ j : Fin 4, j ≠ link → (s.link j.val).gpfWait = false) →
      ∃ t, exec (.gpfPhase2 link) s = .next t ∧ t = { s with out := t.out, links := t.links }
        ∧ (if s.occupancy link.val = 0 then t.out = [.gpfDone link.val] ∧ (t.link link.val).gpfWait = false
           else t.out = [] ∧ (t.link link.val).gpfWait = true)
        ∧ (∀ j : Fin 4, j ≠ link → t.link j.val = s.link j.val)
        ∧ t.link link.val = { s.link link.val with gpfWait := (t.link link.val).gpfWait })

/-- A formed and enabled link that is down or in training, outside DORMANT, comes to L0 at the highest rate in 32,
64 and 128 that the partner supports and link_max_rate allows, and at the widest of x2, x4, x8 and x16 that both
sides support; but for reports only that link changes. A partner without 256 B flit mode leaves it DOWN with
FLIT_MODE_UNSUPPORTED recorded. (R43) -/
def Obligations.LinkTrainsToTheBestCommonSetting : Prop :=
  (∀ (s : State) (link : Fin 4) (pr pw r w : Nat),
    s.layout.formed link.val = true → ((s.link link.val).state = .down ∨ (s.link link.val).state = .training) →
    s.reg 0x2005 (link.val + 1) = 1 → s.ctl.mode ≠ .dormant →
    r ∈ [32, 64, 128] → r ≤ pr → r ≤ s.reg 0x2004 (link.val + 1) →
    (∀ q ∈ [32, 64, 128], q ≤ pr → q ≤ s.reg 0x2004 (link.val + 1) → q ≤ r) →
    w ∈ [2, 4, 8, 16] → w ≤ pw → w ≤ s.maxWidth link.val →
    (∀ q ∈ [2, 4, 8, 16], q ≤ pw → q ≤ s.maxWidth link.val → q ≤ w) →
    ∃ t, exec (.linkTrained link pr pw true) s = .next t
      ∧ SameButReports { s with
        out := [], links := s.links.put link.val
          { s.link link.val with
            state := .l0, rate := r, width := w, mailDue := none, trained := (t.link link.val).trained } } t
      ∧ (t.link link.val).state = .l0 ∧ (t.link link.val).rate = r ∧ (t.link link.val).width = w
      ∧ (t.link link.val).trained ≤ pw ∧ (t.link link.val).trained ≤ s.headWidth link.val
      ∧ ∀ q ∈ [2, 4, 8, 16], q ≤ pw → q ≤ s.headWidth link.val → q ≤ (t.link link.val).trained)
  ∧ (∀ (s : State) (link : Fin 4) (pr pw : Nat),
    s.layout.formed link.val = true → ((s.link link.val).state = .down ∨ (s.link link.val).state = .training) →
    s.reg 0x2005 (link.val + 1) = 1 → s.ctl.mode ≠ .dormant →
    ∃ t, exec (.linkTrained link pr pw false) s = .next t
      ∧ SameButReports { s with
        out := [], links := s.links.put link.val
          { s.link link.val with state := .down, rate := 0, width := 0 } } t
      ∧ t.hasFault Code.flitModeUnsupported = true)

/-- Link loss and the end of a shutdown discard the link's reads and keep every write in ingress, whose completion
is no longer sent (log entry 29). A HOST reset does the same, discards the mailbox answers due on the link, those of
dictionary requests that go on among them, resets decoders, MSI-X table and lane masks, retrains an enabled link
outside DORMANT but never cuts a shutdown short, and is counted. FLR clears the mailbox answers and MSI-X state of
the link and changes nothing else. Link loss and HOST reset withdraw the link's consent. But for reports nothing
else changes. (R44, R70, R71) -/
def Obligations.LinkLossAndResetsKeepWrites : Prop :=
  (∀ (s : State) (link : Fin 4), (s.link link.val).up = true →
    ∃ t, exec (.linkLoss link) s = .next t
      ∧ SameButReports { s with
          out := [],
          ingress := { s.ingress with
            reads := s.ingress.reads.filter fun r => r.link.val != link.val,
            writes := s.ingress.writes.map fun e =>
              if e.w.link.val = link.val ∧ e.source = .external then { e with reply := false } else e },
          links := s.links.put link.val { s.link link.val with state := .down, rate := 0, width := 0, gpfWait := false } } t
      ∧ t.ctl.consents &&& BitVec.ofNat 4 (2 ^ link.val) = 0)
  ∧ (∀ (s : State) (link : Fin 4), s.layout.formed link.val = true → s.ctl.vaux = true →
    ∃ t, exec (.hostReset link) s = .next t
      ∧ SameButReports { s with
          out := [],
          ingress := { s.ingress with
            reads := s.ingress.reads.filter fun r => r.link.val != link.val,
            writes := s.ingress.writes.map fun e => if e.w.link.val = link.val then { e with reply := false } else e },
          groups := { s.groups with
          slots := s.groups.slots.map fun (e : Nat × Slot) =>
            (e.1, { e.2 with mail := e.2.mail.filter fun j => j != link.val }) },
          dict := (s.voidRequests link.val).dict, trestle := (s.voidRequests link.val).trestle,
          regs := t.regs,
          links := s.links.put link.val { s.link link.val with
            state := match (s.link link.val).state with
              | .disabling => .disabling
              | .pendingStart => .pendingStart
              | _ => if s.ctl.mode = Mode.dormant ∨ s.reg 0x2005 (link.val + 1) = 0 then .down else .training,
            rate := 0, width := 0, gpfWait := false, decoders := [], decoderError := 0, msixEnable := false,
            unmasked := [], table := [], fullWidth := 0, faulty := 0, margin := [], mailDue := none } } t
      ∧ RegsKept s t [key 0x1102 3] ∧ Counted s t 0x1102 3 1 ∧ t.ctl.consents &&& BitVec.ofNat 4 (2 ^ link.val) = 0)
  ∧ (∀ (s : State) (link : Fin 4), (s.link link.val).up = true →
    exec (.flr link) s = .next { s with
      out := [],
      ingress := { s.ingress with
        writes := s.ingress.writes.map fun e =>
          if e.w.link.val = link.val ∧ e.source ≠ .external then { e with reply := false } else e },
      links := s.links.put link.val
        { s.link link.val with
          msixEnable := false, unmasked := [], pend := [], table := [], eventVectors := [], mailDue := none },
      groups := { s.groups with
      slots := s.groups.slots.map fun (e : Nat × Slot) =>
        (e.1, { e.2 with mail := e.2.mail.filter fun j => j != link.val }) },
      dict := (s.voidRequests link.val).dict, trestle := (s.voidRequests link.val).trestle })
  ∧ (∀ (s : State) (link : Fin 4), (s.link link.val).state = .disabling ∨ (s.link link.val).state = .pendingStart →
    ∃ t, exec (.linkShutdownComplete link) s = .next t
      ∧ SameButReports { s with
          out := [],
          ingress := { s.ingress with
            reads := s.ingress.reads.filter fun r => r.link.val != link.val,
            writes := s.ingress.writes.map fun e =>
              if e.w.link.val = link.val ∧ e.source = .external then { e with reply := false } else e },
          links := s.links.put link.val { s.link link.val with
            state := if (s.link link.val).state = LinkState.pendingStart then .training else .down,
            rate := 0, width := 0, gpfWait := false } } t)

/-- On a link that is up: a lane over its limit or out of lock is marked, LANE_FAULT is recorded, and the link is
reduced to the widest narrower width that excludes the lanes faulty since its reset, or keeps its width where none
does (log entry 13). A decoder commits when its ways and granularity are among those of R49, its span is not empty,
lies in the link's range, or in the Desk with one way, and overlaps no other decoder of the link; else its error bit
is set and nothing else changes. A due message is sent with its table entry; MSI-X is enabled and a vector unmasked;
an L0p width is taken; the CDAT and a margining step answer with a free value (log entry 4). But for reports only
the link named changes. On a link that is not up each of these does nothing. (R44, R49, R68, R69, R72) -/
def Obligations.LaneFaultsAndDecoders : Prop :=
  (∀ (s : State) (link : Fin 4) (lane errors : Nat) (lost l0p : Bool),
    (s.link link.val).up = true → lane < (s.link link.val).trained →
    (s.reg 0x2040 (link.val + 1) < errors ∨ lost = true) →
    ∃ t, exec (.laneFault link lane errors lost l0p) s = .next t
      ∧ SameButReports { s with
          out := [], regs := s.regs.put (key 0x2041 (link.val + 1)) (withLane (s.reg 0x2041 (link.val + 1)) lane),
          links := s.links.put link.val
            (match reducedWidth (s.link link.val).trained (withLane (s.link link.val).faulty lane) with
             | some w => { s.link link.val with
                 faulty := withLane (s.link link.val).faulty lane, width := min (s.link link.val).width w,
                 fullWidth := w, state := if l0p then .l0p else (s.link link.val).state }
             | none => { s.link link.val with faulty := withLane (s.link link.val).faulty lane }) } t
      ∧ t.hasFault Code.laneFault = true)
  ∧ (∀ (s : State) (link d : Fin 4) (base size ways gran : Nat), (s.link link.val).up = true →
    exec (.hdmDecoderCommit link d base size ways gran) s = .next { s with
      out := [], links := s.links.put link.val
        (if ways ∈ [1, 2, 3, 4, 6, 8, 12, 16] ∧ gran ∈ [256, 512, 1024, 2048, 4096, 8192, 16384] ∧ 0 < size ∧
            ((s.partBase link.val ≤ base ∧ base + size ≤ s.partBase link.val + s.partSize link.val
                ∧ base + size ≤ s.layout.hostVisible)
              ∨ (deskBase ≤ base ∧ base + size ≤ deskBase + 16777216 ∧ ways = 1)) ∧
            (∀ e ∈ (s.link link.val).decoders, e.1 ≠ d.val → base + size ≤ e.2.base ∨ e.2.base + e.2.size ≤ base)
         then { s.link link.val with
           decoders := (s.link link.val).decoders.put d.val
             { base := base, size := size, ways := ways, granularity := gran },
           decoderError := (s.link link.val).decoderError &&& ~~~BitVec.ofNat 4 (2 ^ d.val) }
         else { s.link link.val with
           decoderError := (s.link link.val).decoderError ||| BitVec.ofNat 4 (2 ^ d.val) }) })
  ∧ (∀ (s : State) (link : Fin 4) (v : Nat) (p : Pend), (s.link link.val).pend.find? v = some p →
    (s.reg (0x2100 + 0x40 * link.val + v) 1 ≤ p.count ∨
      (s.reg (0x2100 + 0x40 * link.val + v) 2 ≠ 0 ∧ s.reg (0x2100 + 0x40 * link.val + v) 2 ≤ s.clock.beat - p.since)) →
    (s.link link.val).up = true → (s.link link.val).msixEnable = true → v ∈ (s.link link.val).unmasked →
    exec (.msixModerationExpire link v) s = .next { s with
      out := [.msix link.val v p.sources ((s.link link.val).table.get v (0, 0))],
      links := s.links.put link.val { s.link link.val with pend := (s.link link.val).pend.del v } })
  ∧ (∀ (s : State) (link : Fin 4) (v : Nat), (s.link link.val).up = true → v < s.vectorCount link.val →
    ∃ t, exec (.msixVectorUnmask link (some v)) s = .next t ∧ v ∈ (t.link link.val).unmasked
      ∧ ((t.link link.val).table.find? v).isSome = true
      ∧ SameButReports { s with
        out := [], links := s.links.put link.val
          { s.link link.val with unmasked := (t.link link.val).unmasked, table := (t.link link.val).table } } t)
  ∧ (∀ (s : State) (link : Fin 4), (s.link link.val).up = true →
    ∃ t, exec (.msixVectorUnmask link none) s = .next t
      ∧ SameButReports { s with out := [], links := s.links.put link.val { s.link link.val with msixEnable := true } } t)
  ∧ (∀ (s : State) (link : Fin 4) (w : Nat), (s.link link.val).up = true → w ∈ [2, 4, 8, 16] → w ≤ s.liveWidth link.val →
    exec (.l0pHostRequest link w) s = .next { s with
    out := [], links := s.links.put link.val
      { s.link link.val with width := w, state := if w = s.liveWidth link.val then .l0 else .l0p } })
  ∧ (∀ (s : State) (link : Fin 4), (s.link link.val).up = true →
    exec (.doeCdatAccess link true) s = .next { s with out := [.doe link.val (Config.free s.free)], free := s.free + 1 })
  ∧ (∀ (s : State) (link : Fin 4) (lane : Nat) (voltage : Bool) (step : Int),
    (s.link link.val).up = true → lane < (s.link link.val).width →
    exec (.laneMargining link lane voltage step) s = .next { s with
      out := [.laneMargin link.val lane (Config.free s.free)], free := s.free + 1,
      links := s.links.put link.val
        { s.link link.val with margin := (s.link link.val).margin.put (2 * lane + voltage.toNat) step } })
  ∧ (∀ (s : State) (link d : Fin 4) (lane errors base size ways gran w : Nat) (lost l0p voltage table : Bool)
      (v : Option Nat) (step : Int), (s.link link.val).up = false →
    exec (.laneFault link lane errors lost l0p) s = .next { s with out := [.notApplicable] }
      ∧ exec (.hdmDecoderCommit link d base size ways gran) s = .next { s with out := [.notApplicable] }
      ∧ exec (.msixVectorUnmask link v) s = .next { s with out := [.notApplicable] }
      ∧ exec (.l0pHostRequest link w) s = .next { s with out := [.notApplicable] }
      ∧ exec (.doeCdatAccess link table) s = .next { s with out := [.notApplicable] }
      ∧ exec (.laneMargining link lane voltage step) s = .next { s with out := [.notApplicable] })

/-- On a link that is up, with a core pair left, each reporting command named completes with Success and the fields
of its payload that the spec names (log entry 18), and changes nothing but what reports change. (R45, R56, R57, R63,
R64, R66, R67, R61) -/
def Obligations.MailboxReportsAnswer : Prop :=
  ∀ (s : State) (link : Fin 4), (s.link link.val).up = true → s.bureau.lost = false →
    (∃ t, exec (.identify link) s = .next t
      ∧ Answered { s with out := [] } t link.val 0x0001 .success [s.reg 0x1000 3])
    ∧ (∃ t, exec (.backgroundOperationStatus link) s = .next t
      ∧ Answered { s with out := [] } t link.val 0x0002 .success
          (match (s.link link.val).background with | some (op, run, _) => [op, run.toNat] | none => [0, 0]))
    ∧ (∀ log : Fin 4, ∃ t p, exec (.getEventRecords link log) s = .next t
      ∧ Answered { s with out := [] } t link.val 0x0100 .success p
      ∧ p = (if 31 < ((s.link link.val).logs.get log.val []).length then 1 else 0) ::
          ((((s.link link.val).logs.get log.val []).take 31).flatMap fun r => r.seq :: (r.image.take 1)))
    ∧ (∃ t, exec (.getEventInterruptPolicy link) s = .next t
      ∧ Answered { s with out := [] } t link.val 0x0102 .success
          [s.vectorOf link.val 1, s.vectorOf link.val 2, s.vectorOf link.val 3, s.vectorOf link.val 4])
    ∧ (∃ t, exec (.getFwInfo link) s = .next t
      ∧ Answered { s with out := [] } t link.val 0x0200 .success [s.security.runningBank, s.security.fwVersion])
    ∧ (∃ t, exec (.getTimestamp link) s = .next t
      ∧ Answered { s with out := [] } t link.val 0x0300 .success [if s.clock.wallSet then s64 s.clock.wallNs else 0])
    ∧ (∃ t, exec (.getSupportedLogs link) s = .next t ∧ Answered { s with out := [] } t link.val 0x0400 .success [1])
    ∧ (∃ t, exec (.getLog link true) s = .next t ∧ Answered { s with out := [] } t link.val 0x0401 .success mailOpcodes)
    ∧ (∃ t, exec (.identifyMemoryDevice link) s = .next t
      ∧ Answered { s with out := [] } t link.val 0x4000 .success
          [s.partSize link.val, 0, s.partSize link.val, 131072, 65536])
    ∧ (∃ t, exec (.getPartitionInfo link) s = .next t
      ∧ Answered { s with out := [] } t link.val 0x4100 .success [0, s.partSize link.val])
    ∧ (∃ t, exec (.getHealthInfo link) s = .next t
      ∧ Answered { s with out := [] } t link.val 0x4200 .success [s.reg 0x2050 0])
    ∧ (∃ t, exec (.getAlertConfiguration link) s = .next t
      ∧ Answered { s with out := [] } t link.val 0x4201 .success [(s.link link.val).alert])
    ∧ (∃ t, exec (.getShutdownState link) s = .next t
      ∧ Answered { s with out := [] } t link.val 0x4203 .success [(s.link link.val).shutdownState])
    ∧ (∃ t, exec (.getSecurityState link) s = .next t
      ∧ Answered { s with out := [] } t link.val 0x4500 .success
          [s.security.userPass.isSome.toNat + 2 * s.security.locked.toNat + 4 * s.security.frozen.toNat
            + 8 * (if 5 ≤ s.security.attempts then 1 else 0)])

/-- The spec gives each form named here one effect on every path, an answer or a mark that turns it away, and that
effect is the conclusion, a next state. On a link that is up, with a core pair left, Transfer FW, Activate FW, Set
Partition Info, Secure Erase and every opcode outside Tables 3.4 and 3.5 complete with Unsupported (R56); with no
core pair left these, and Set Timestamp, complete with Internal Error (R393). A poisoned write to a slot completes
and executes nothing (R175); an accepted opcode above 0x09 returns NOT_OPEN in every slot state (R178). A store that
is neither a command nor a data write sets SEQ_ERR and changes nothing else of the bank (R404). A service frame of
an unknown type is answered UNKNOWN_TYPE, or with the last response again where it repeats a sequence, and a bad
frame is dropped and counted (R435, R436). An SPDM request outside Table 18.13 is answered UnsupportedRequest
(R441); RESPOND_IF_READY, with no response ever deferred, is answered with an error (log entry 195). (R56, R57,
R175, R177, R178, R393, R404, R435, R436, R441) -/
def Obligations.UnsupportedMailboxCommands : Prop :=
  (∀ (s : State) (link : Fin 4), (s.link link.val).up = true → s.bureau.lost = false →
    (∃ t, exec (.transferFw link) s = .next t ∧ Answered { s with out := [] } t link.val 0x0201 .unsupported [])
    ∧ (∃ t, exec (.activateFw link) s = .next t ∧ Answered { s with out := [] } t link.val 0x0202 .unsupported [])
    ∧ (∃ t, exec (.setPartitionInfo link) s = .next t ∧ Answered { s with out := [] } t link.val 0x4101 .unsupported [])
    ∧ (∃ t, exec (.secureErase link) s = .next t ∧ Answered { s with out := [] } t link.val 0x4401 .unsupported [])
    ∧ (∀ op : BitVec 16, op.toNat ∉ mailOpcodes →
      ∃ t, exec (.mailboxUnsupported link op) s = .next t
        ∧ Answered { s with out := [] } t link.val op.toNat .unsupported []))
  ∧ (∀ (s : State) (link : Fin 4), (s.link link.val).up = true → s.bureau.lost = true →
    (∃ t, exec (.transferFw link) s = .next t ∧ Answered { s with out := [] } t link.val 0x0201 .internalError [])
    ∧ (∃ t, exec (.activateFw link) s = .next t ∧ Answered { s with out := [] } t link.val 0x0202 .internalError [])
    ∧ (∃ t, exec (.setPartitionInfo link) s = .next t
        ∧ Answered { s with out := [] } t link.val 0x4101 .internalError [])
    ∧ (∃ t, exec (.secureErase link) s = .next t ∧ Answered { s with out := [] } t link.val 0x4401 .internalError [])
    ∧ (∀ op : BitVec 16, op.toNat ∉ mailOpcodes →
      ∃ t, exec (.mailboxUnsupported link op) s = .next t
        ∧ Answered { s with out := [] } t link.val op.toNat .internalError [])
    ∧ ∃ t, exec (.setTimestamp link 0) s = .next t ∧ Answered { s with out := [] } t link.val 0x0301 .internalError [])
  ∧ (∀ (s : State) (a : DeskArgs), s.deskTakes a → a.mailbox = false →
    ∃ t, exec (.deskPoisonedWrite a.link a.group) s = .next t
      ∧ t.mem = s.mem ∧ t.leaves = s.leaves ∧ t.groups = s.groups
      ∧ ∃ l, Output.writeDone a.link.val (deskBase + 64 * a.group) l ∈ t.out)
  ∧ (∀ (s : State) (a : DeskArgs) (op : BitVec 8), s.deskTakes a → 10 ≤ op.toNat →
    ∃ t, exec (.deskInvalidOpcode op a) s = .next t ∧ t.mem = s.mem ∧ t.leaves = s.leaves
      ∧ (a.seq = (s.slot a.group).lastSeq + 1 →
        t.groups = { s.groups with
        slots := s.groups.slots.put a.group
          { (s.slot a.group).accepted op.toNat a with result := 6, detail := (s.slot a.group).state.code } })
      ∧ (a.seq ≠ (s.slot a.group).lastSeq + 1 →
        t.groups = { s.groups with
        slots := s.groups.slots.put a.group
          { s.slot a.group with
            stage := 0, result := 2, detail := ((s.slot a.group).lastSeq + 1).toNat } }))
  ∧ (∀ (s : State) (b : Fin 2), ∃ t, exec (.eflashBadStore b) s = .next t ∧ FlashOnly s t b.val ∧ t.out = []
    ∧ t.bank b.val = { s.bank b.val with sticky := (s.bank b.val).sticky ||| stSeqErr })
  ∧ (∀ (s : State) (seq type : Nat),
    (s.security.lastSeq ≠ some (seq % 256) →
      ∃ t, exec (.svcUnknownType seq type) s = .next t ∧ DataKept s t ∧ t.regs = s.regs
        ∧ SvcAnswered t (type % 128) seq 10 [])
    ∧ (s.security.lastSeq = some (seq % 256) →
      exec (.svcUnknownType seq type) s = .next { s with
        out := s.security.lastResponse, security := { s.security with svcNext := none } })
    ∧ exec .svcFrameBad s = .next (({ s with out := [] } : State).addReg 0x8421 0 1))
  ∧ (∀ (s : State) (e code : Nat), exec (.spdmUnsupported e code) s = .next { s with out := [.spdm e 0x7F [0x07]] }
    ∧ exec (.spdmRespondIfReady e) s = .next { s with out := [.spdm e 0x7F [0x04]] })

/-- On a link that is up, with a core pair left, each setting command completes with Success and changes, but for
reports, only what it sets: of its own link the records of the log it clears, the message numbers, the LSA bytes,
the alert configuration or the shutdown state, or the wall time, whose backward step is counted. Get LSA returns its
bytes. An unknown record handle completes with Invalid Handle; a message number, an LSA range or a shutdown state
out of range completes with Invalid Input; both change nothing but reports. (R56, R63, R64, R65, R67) -/
def Obligations.MailboxSettings : Prop :=
  ∀ (s : State) (link : Fin 4), (s.link link.val).up = true → s.bureau.lost = false →
    (∀ log : Fin 4, ∃ t, exec (.clearEventRecords link log true []) s = .next t
      ∧ Answered { s with
        out := [], links := s.links.put link.val
          { s.link link.val with logs := (s.link link.val).logs.put log.val [] } } t link.val 0x0101 .success []
      ∧ ∀ k, (t.link link.val).logs.get k [] = if k = log.val then [] else (s.link link.val).logs.get k [])
    ∧ (∀ (log : Fin 4) (handles : List Nat),
      (∀ h ∈ handles, ∃ r ∈ (s.link link.val).logs.get log.val [], r.seq = h) →
      ∃ t, exec (.clearEventRecords link log false handles) s = .next t
        ∧ Answered { s with out := [], links := s.links.put link.val { s.link link.val with
            logs := (s.link link.val).logs.put log.val
              (((s.link link.val).logs.get log.val []).filter fun r => !handles.contains r.seq) } } t
            link.val 0x0101 .success []
        ∧ ∀ k, (t.link link.val).logs.get k [] =
            if k = log.val then ((s.link link.val).logs.get log.val []).filter fun r => !handles.contains r.seq
            else (s.link link.val).logs.get k [])
    ∧ (∀ (log : Fin 4) (handles : List Nat),
      (∃ h ∈ handles, ∀ r ∈ (s.link link.val).logs.get log.val [], r.seq ≠ h) →
      ∃ t, exec (.clearEventRecords link log false handles) s = .next t
        ∧ Answered { s with out := [] } t link.val 0x0101 .invalidHandle [])
    ∧ (∀ v : Map Nat, (∀ e ∈ v, 1 ≤ e.1 ∧ e.1 ≤ 4 ∧ e.2 < s.vectorCount link.val) →
      ∃ t, exec (.setEventInterruptPolicy link v) s = .next t
        ∧ Answered { s with out := [], links := s.links.put link.val { s.link link.val with
            eventVectors := v.foldl (fun m e => m.put e.1 e.2) (s.link link.val).eventVectors } } t
            link.val 0x0103 .success [])
    ∧ (∀ v : Map Nat, (∃ e ∈ v, e.1 = 0 ∨ 4 < e.1 ∨ s.vectorCount link.val ≤ e.2) →
      ∃ t, exec (.setEventInterruptPolicy link v) s = .next t
        ∧ Answered { s with out := [] } t link.val 0x0103 .invalidInput [])
    ∧ (∀ ns : Nat, ∃ t, exec (.setTimestamp link ns) s = .next t
      ∧ Answered { s with
          out := [], clock := { s.clock with wallNs := ofS64 (ns % 2 ^ 64), wallSet := true },
          regs := t.regs, trestle := { s.trestle with sync := none } } t link.val 0x0301 .success []
      ∧ RegsKept s t [key 0x1200 4]
      ∧ (if s.clock.wallSet = true ∧ ofS64 (ns % 2 ^ 64) < s.clock.wallNs then Counted s t 0x1200 4 1
         else t.reg 0x1200 4 = s.reg 0x1200 4))
    ∧ (∀ (off len : Nat), off + len ≤ 131072 → len ≤ 4096 →
      ∃ t, exec (.getLsa link off len) s = .next t ∧ Answered { s with out := [] } t link.val 0x4102 .success
        ((List.range len).map fun i => (Mem.byte (s.link link.val).lsa (off + i)).toNat))
    ∧ (∀ (off len : Nat), 131072 < off + len ∨ 4096 < len →
      ∃ t, exec (.getLsa link off len) s = .next t ∧ Answered { s with out := [] } t link.val 0x4102 .invalidInput [])
    ∧ (∀ (off : Nat) (data : List Byte), off + data.length ≤ 131072 → data.length ≤ 4096 →
      Mem.wf (s.link link.val).lsa = true →
      ∃ t, exec (.setLsa link off data) s = .next t
        ∧ Answered { s with
          out := [], links := s.links.put link.val
            { s.link link.val with lsa := (t.link link.val).lsa } } t link.val 0x4103 .success []
        ∧ ∀ a, Mem.byte (t.link link.val).lsa a =
            if off ≤ a ∧ a < off + data.length then (data[a - off]?).getD 0 else Mem.byte (s.link link.val).lsa a)
    ∧ (∀ (off : Nat) (data : List Byte), 131072 < off + data.length ∨ 4096 < data.length →
      ∃ t, exec (.setLsa link off data) s = .next t ∧ Answered { s with out := [] } t link.val 0x4103 .invalidInput [])
    ∧ (∀ c : Nat, ∃ t, exec (.setAlertConfiguration link c) s = .next t
      ∧ Answered { s with out := [], links := s.links.put link.val { s.link link.val with alert := c } } t
          link.val 0x4202 .success [])
    ∧ (∀ x : Nat, x ≤ 1 → ∃ t, exec (.setShutdownState link x) s = .next t
      ∧ Answered { s with out := [], links := s.links.put link.val { s.link link.val with shutdownState := x } } t
          link.val 0x4204 .success [])
    ∧ (∀ x : Nat, 1 < x → ∃ t, exec (.setShutdownState link x) s = .next t
      ∧ Answered { s with out := [] } t link.val 0x4204 .invalidInput [])

/-- On a link that is up, with a core pair left: poison lists and scan capabilities answer for a range of the link;
in ONLINE, with host access open and no write in ingress, an injection into an unclaimed unit of a DIRTY leaf marks
it and changes no byte, and a clear there stores the data and removes the mark; a scan and a Sanitize start in the
background where none runs, the Sanitize with a new media key under which no copy or image exists. A completed scan
ends and its results are those of its range. A Sanitize that completes with an empty ingress leaves no data, no
poison, no copy, no image and no slot in use, with every leaf CLEAN, and image_empty set. (R56, R60, R61, R62, R264)
-/
def Obligations.PoisonScanAndSanitize : Prop :=
  (∀ (s : State) (link : Fin 4) (dpa len : Nat), (s.link link.val).up = true → s.bureau.lost = false →
    s.goodRange link.val dpa len = true →
    (∃ t, exec (.getPoisonList link dpa len) s = .next t
      ∧ Answered { s with out := [] } t link.val 0x4300 .success
          ((match s.poisonOverflow with | some ns => [1, ns] | none => [0, 0]) ++
            poisonPayload s.poisonList dpa (64 * len)))
    ∧ (∃ t, exec (.scanMediaCapabilities link dpa len) s = .next t
      ∧ Answered { s with out := [] } t link.val 0x4303 .success [])
    ∧ ((s.link link.val).busy = false → ∃ t, exec (.scanMedia link dpa len) s = .next t
      ∧ Answered { s with out := [], links := s.links.put link.val { s.link link.val with
          scan := some (dpa, len, false), background := some (0x4304, true, s.clock.beat) } } t
          link.val 0x4304 .backgroundStarted []))
  ∧ (∀ (s : State) (link : Fin 4) (dpa len b : Nat) (d : Bool),
    (s.link link.val).background = some (0x4304, true, b) → (s.link link.val).scan = some (dpa, len, d) →
    ∃ t, exec (.scanMediaComplete link) s = .next t
      ∧ SameButReports { s with
          out := [], poisonOverflow := if s.poisonList.length < 65536 then none else s.poisonOverflow,
          links := s.links.put link.val { s.link link.val with
            scan := some (dpa, len, true), background := some (0x4304, false, s.clock.beat) } } t)
  ∧ (∀ (s : State) (link : Fin 4) (dpa len : Nat), (s.link link.val).up = true → s.bureau.lost = false →
    (s.link link.val).scan = some (dpa, len, true) →
    ∃ t, exec (.getScanMediaResults link) s = .next t
      ∧ Answered { s with out := [] } t link.val 0x4305 .success (poisonPayload s.poisonList dpa (64 * len)))
  ∧ (∀ (s : State) (link : Fin 4) (dpa : Nat) (stamp : BitVec 16),
    (s.link link.val).up = true → s.bureau.lost = false → s.ctl.access = true → s.ctl.mode = .online →
    s.sanitizing link.val = false → s.ingress.writes = [] → s.goodRange link.val dpa 1 = true →
    s.region dpa = .memory → s.leaf (leafOf dpa) = .dirty → s.groups.claims.find? (pageOf dpa) = none →
    (∃ t, exec (.injectPoison link dpa stamp) s = .next t ∧ t.poison.find? (unitOf dpa) = some .injected
      ∧ t.mem = s.mem ∧ t.leaves = s.leaves ∧ t.groups = s.groups)
    ∧ (∀ data : Data64, Mem.wf s.mem = true →
      ∃ t, exec (.clearPoison link dpa data stamp) s = .next t ∧ t.poison.find? (unitOf dpa) = none
        ∧ t.leaves = s.leaves ∧ t.groups = s.groups
        ∧ ∀ a, Mem.byte t.mem a = if dpa ≤ a ∧ a < dpa + 64 then data.extractLsb' (8 * (a - dpa)) 8 else Mem.byte s.mem a))
  ∧ (∀ (s : State) (link : Fin 4), (s.link link.val).up = true → s.bureau.lost = false →
    s.sanitizeBusy = false → (s.link link.val).busy = false →
    ∃ t, exec (.sanitize link) s = .next t
      ∧ (if s.ctl.mode = .drowse then t.nand = s.nand ∧ t.reg 0x5050 0 = s.reg 0x5050 0 ∧ t.ctl.sanitizeDue = true
         else t.nand.copies = [] ∧ (∀ e ∈ s.nand.segments, e.1 ∈ t.nand.marked) ∧ t.nand.image = none
           ∧ t.reg 0x5050 0 = (s.reg 0x5050 0 + 1) % 65536)
      ∧ t.mem = s.mem ∧ t.poison = s.poison ∧ t.leaves = s.leaves ∧ t.groups = s.groups ∧ t.ctl.mode = s.ctl.mode
      ∧ (t.link link.val).background = some (0x4400, true, s.clock.beat)
      ∧ (∀ i, i ≠ link.val → (t.link i).background = (s.link i).background)
      ∧ Output.mailbox link.val 0x4400 .backgroundStarted [] ∈ t.out)
  ∧ (∀ (s : State) (i : Nat), s.sanitizer = some i → s.mailClosed = false → s.ctl.mode ≠ .drowse →
    s.ingress.writes = [] → s.ingress.reads = [] →
    ∃ t, exec .sanitizeComplete s = .next t ∧ t.mem = [] ∧ t.poison = [] ∧ t.poisonOverflow = none
      ∧ t.leaves = LeafTable.reset ∧ t.nand.copies = [] ∧ (∀ e ∈ s.nand.segments, e.1 ∈ t.nand.marked)
      ∧ t.nand.image = none
      ∧ t.groups.slots = [] ∧ t.groups.claims = [] ∧ t.groups.journal = [] ∧ t.groups.decisions = []
      ∧ t.reg 0x2400 3 = 1 ∧ t.security = s.security
      ∧ t.reg 0x5050 0 = (if s.ctl.sanitizeDue = true then (s.reg 0x5050 0 + 1) % 65536 else s.reg 0x5050 0))

/-- On a link that is up, with a core pair left: where neither frozen nor locked, a passphrase is set over none or
over the one given, and removed by the one given; where locked and not frozen, with fewer than 5 failed attempts, an
unlock with the user passphrase unlocks, and one with another is counted; after 5 an unlock completes with Invalid
Security State; freezing stands; where not frozen, a secure erase with its passphrase erases the data, replaces the
media key, removes the user passphrase and unlocks. (R66, R290) -/
def Obligations.DeviceSecurity : Prop :=
  ∀ (s : State) (link : Fin 4), (s.link link.val).up = true → s.bureau.lost = false →
    (∀ (m : Bool) (cur new : Nat), s.security.frozen = false → s.security.locked = false →
      (s.security.pass m = none ∨ s.security.pass m = some cur) →
      ∃ t, exec (.setPassphrase link m cur new) s = .next t
        ∧ Answered { s with out := [], security := s.security.setPass m (some new) } t link.val 0x4501 .success [])
    ∧ (∀ (m : Bool) (cur : Nat), s.security.frozen = false → s.security.locked = false →
      s.security.pass m = some cur →
      ∃ t, exec (.disablePassphrase link m cur) s = .next t
        ∧ Answered { s with out := [], security := s.security.setPass m none } t link.val 0x4502 .success [])
    ∧ (∀ p : Nat, s.security.frozen = false → s.security.locked = true → s.security.attempts < 5 →
      s.security.userPass = some p →
      ∃ t, exec (.unlockDevice link p) s = .next t
        ∧ Answered { s with
            out := [], security := { s.security with locked := false },
            save := { s.save with restoreState := if s.save.restoreState = 1 then 2 else s.save.restoreState } } t
            link.val 0x4503 .success [])
    ∧ (∀ p : Nat, s.security.frozen = false → s.security.locked = true → s.security.attempts < 5 →
      s.security.userPass ≠ some p →
      ∃ t, exec (.unlockDevice link p) s = .next t
        ∧ Answered { s with out := [], security := { s.security with attempts := s.security.attempts + 1 } } t
            link.val 0x4503 .incorrectPassphrase [])
    ∧ (∀ p : Nat, 5 ≤ s.security.attempts →
      ∃ t, exec (.unlockDevice link p) s = .next t
        ∧ Answered { s with out := [] } t link.val 0x4503 .invalidSecurityState [])
    ∧ (∃ t, exec (.freezeSecurityState link) s = .next t
      ∧ Answered { s with out := [], security := { s.security with frozen := true } } t link.val 0x4504 .success [])
    ∧ (∀ (m : Bool) (p : Nat), s.security.frozen = false → s.security.pass m = some p →
      ∃ t, exec (.passphraseSecureErase link m p) s = .next t
        ∧ t.mem = [] ∧ t.poison = [] ∧ t.leaves = LeafTable.reset ∧ t.nand.copies = []
        ∧ (∀ e ∈ s.nand.segments, e.1 ∈ t.nand.marked) ∧ t.nand.image = none ∧ t.groups.slots = [] ∧ t.reg 0x5050 0 = (s.reg 0x5050 0 + 1) % 65536
        ∧ t.security = { s.security with locked := false, userPass := none }
        ∧ Output.mailbox link.val 0x4505 .success [] ∈ t.out)

/-- The age of a burst is the distance of its stamp from now, modulo 2^16, in units of 16 ns; one stamp is older
than another when the distance lies between 1 and 32,767; equal stamps are ranked by port, then by entry order.
(R95) -/
def Obligations.AgesOfBursts : Prop :=
  (∀ now stamp : BitVec 16, ageNs now stamp = 16 * ((now.toNat + 65536 - stamp.toNat) % 65536))
  ∧ (∀ a b : BitVec 16, olderStamp a b = true ↔
      1 ≤ (b.toNat + 65536 - a.toNat) % 65536 ∧ (b.toNat + 65536 - a.toNat) % 65536 ≤ 32767)
  ∧ (∀ a b : Burst, a.stamp = b.stamp → (ageBefore a b = true ↔ a.port < b.port ∨ (a.port = b.port ∧ a.id < b.id)))

/-- A lone burst in the transaction queue of its subchannel, of a port served in the mode and no part of a longer
piece of work, issues: it leaves the queue, its row stands open, and its class is counted. A read so issued that was
corrected in one device is counted and attributed to its device, bank and row, and queues a write of its 64 B
through port SC at class 6, one more only where a proactive copy runs. Of two such bursts of class 2 that neither
wait for each other nor hit an open row, neither promoted nor ANCIENT, the older issues first. (R93, R94, R99, R129,
R130) -/
def Obligations.SchedulerIssues : Prop :=
  (∀ (s : State) (chan : Fin 13) (sub : Fin 2) (now : BitVec 16) (b : Burst), s.sched.bursts = [b] → b.chan = chan.val →
    b.sub = sub.val → b.inQueue = true → b.cls ≤ 7 → b.job = .none → s.portServed b = true →
    (∃ t, exec (.burstIssue chan sub now none) s = .next t ∧ DataKept s t ∧ t.sched.bursts = []
      ∧ t.sched.openRow.find? (s.bankKey b) = some (s.layout.rowOf b.off)
      ∧ Counted s t (0x3100 + chan.val) (b.cls + 1) 1
      ∧ RegsKept s t [key (0x3100 + chan.val) (b.cls + 1), key (0x3110 + chan.val) (b.cls + 1), key (0x3120 + chan.val) 7,
          key 0x3010 4])
    ∧ (∀ (device : Fin 10) (again : Bool), b.write = false →
      ∃ t w ws, exec (.burstIssue chan sub now (some (device, again))) s = .next t ∧ DataKept s t
        ∧ t.sched.bursts = w :: ws ∧ (s.dram.target = none → ws = [])
        ∧ w.write = true ∧ w.port = 7 ∧ w.own = 6 ∧ w.chan = b.chan ∧ w.off = b.off ∧ w.unit = b.unit
        ∧ Counted s t (0x3420 + chan.val) 1 1
        ∧ (∀ k, t.dram.corrected.get k 0 = s.dram.corrected.get k 0 +
            if k = deviceKey chan.val device.val (s.layout.bankOf b.off) (rowIndex b.off) then 1 else 0)
        ∧ ∀ k, t.dram.rowErrors.get k 0 = s.dram.rowErrors.get k 0 +
            if k = rowKey chan.val (rowIndex b.off) ∧ b.off / 64 ∈ s.dram.rewritten.get chan.val [] then 1 else 0))
  ∧ (∀ (s : State) (chan : Fin 13) (sub : Fin 2) (now : BitVec 16) (a b : Burst), s.sched.bursts = [b, a] →
    a.chan = chan.val → a.sub = sub.val → b.chan = chan.val → b.sub = sub.val → a.inQueue = true → b.inQueue = true →
    a.cls = 2 → b.cls = 2 → a.promoted = false → b.promoted = false → a.ancient = none → b.ancient = none →
    a.id ≠ b.id → a.job = .none → waitsFor a b = false → waitsFor b a = false → s.rowHit a = false → s.rowHit b = false →
    s.portServed a = true → s.portServed b = true → olderStamp a.stamp b.stamp = true →
    ∃ t, exec (.burstIssue chan sub now none) s = .next t ∧ DataKept s t ∧ t.sched.bursts.map (·.id) = [b.id]
      ∧ Counted s t (0x3100 + chan.val) 3 1)

/-- Outside SAVE a burst of class 1 to 7 past its age limit is promoted; one that reaches 16,384 units becomes
ANCIENT, in order. A share interval starts anew. Out of self-refresh, a refresh for which a class 0, promoted or
ANCIENT burst waits is postponed within the limits, and any other closes the rows of its banks. Refresh management
is counted for each bank it serves, whose activations count anew, and extends the bound of the bursts that wait on
its subchannel once more than 4 banks have had it in a tREFI. A window in ARMING whose non-clean leaves have mirror
lines, or find room for them, is ARMED, and one with a leaf that finds none stays ARMING. No byte, leaf or slot
changes. (R88, R96, R97, R101, R108, R109, R169) -/
def Obligations.SchedulerEvents : Prop :=
  (∀ (s : State) (chan : Fin 13) (id : Nat) (now : BitVec 16) (b : Burst), s.burst chan.val id = some b → 1 ≤ b.cls →
    b.promoted = false → s.ctl.mode ≠ .save → s.reg 0x3000 b.cls ≤ ageNs now b.stamp →
    ∃ t, exec (.burstPromoted chan id now) s = .next t ∧ DataKept s t
      ∧ t.burst chan.val id = some { b with promoted := true } ∧ Counted s t (0x3120 + chan.val) 1 1
      ∧ RegsKept s t [key (0x3120 + chan.val) 1])
  ∧ (∀ (s : State) (chan : Fin 13) (id : Nat) (now : BitVec 16) (b : Burst), s.burst chan.val id = some b →
    b.ancient = none → 16384 ≤ (now - b.stamp).toNat →
    ∃ t, exec (.burstAncient chan id now) s = .next t ∧ DataKept s t
      ∧ t.burst chan.val id = some { b with ancient := some s.sched.nextAncient }
      ∧ t.sched.nextAncient = s.sched.nextAncient + 1 ∧ Counted s t (0x3120 + chan.val) 2 1
      ∧ RegsKept s t [key (0x3120 + chan.val) 2])
  ∧ (∀ (s : State) (chan : Fin 13) (sub : Fin 2),
    exec (.class0ShareInterval chan sub) s = .next { s with
      out := [], sched := { s.sched with share := s.sched.share.put (subKey chan.val sub.val) 0 } })
  ∧ (∀ (s : State) (chan : Fin 13) (sub : Fin 2) (bank deviceMax : Nat) (now : BitVec 16), s.selfRefresh = false →
    s.refreshBlocked chan.val sub.val bank = false →
    ∃ t, exec (.refreshDue chan sub bank deviceMax now) s = .next t ∧ DataKept s t ∧ t.regs = s.regs
      ∧ t.sched.bursts = s.sched.bursts
      ∧ (∀ e ∈ t.sched.openRow, ¬ (e.1 / 512 = 2 * chan.val + sub.val ∧ (s.reg 0x3020 0 = 0 ∨ e.1 % 32 = bank % 32)))
      ∧ ∀ e ∈ s.sched.openRow, (e.1 / 512 ≠ 2 * chan.val + sub.val ∨ (s.reg 0x3020 0 ≠ 0 ∧ e.1 % 32 ≠ bank % 32)) →
          e ∈ t.sched.openRow)
  ∧ (∀ (s : State) (chan : Fin 13) (sub : Fin 2) (bank deviceMax : Nat) (now : BitVec 16), s.selfRefresh = false →
    s.refreshBlocked chan.val sub.val bank = true →
    s.sched.postponed.get (32 * (2 * chan.val + sub.val) + (if s.reg 0x3020 0 = 0 then 0 else bank % 32)) 0
      < s.postponeMax deviceMax →
    ∃ t, exec (.refreshDue chan sub bank deviceMax now) s = .next t ∧ DataKept s t
      ∧ t.sched.openRow = s.sched.openRow ∧ Counted s t (0x3120 + chan.val) 4 1
      ∧ RegsKept s t [key (0x3120 + chan.val) 4])
  ∧ (∀ (s : State) (chan : Fin 13) (sub : Fin 2) (banks : List Nat) (ns : Nat), s.selfRefresh = false → banks ≠ [] →
    ∃ t, exec (.activationLimit chan sub banks ns) s = .next t ∧ DataKept s t
      ∧ Counted s t (0x3120 + chan.val) 5 banks.length
      ∧ RegsKept s t [key (0x3120 + chan.val) 5, key (0x3120 + chan.val) 6]
      ∧ (∀ b ∈ banks, b < 512 → t.sched.acts.find? (512 * (2 * chan.val + sub.val) + b) = none)
      ∧ t.sched.bursts =
          (if ((s.sched.rfm.get (2 * chan.val + sub.val) ([], 0)).1 ++ banks).eraseDups.length ≤ 4 then s.sched.bursts
           else s.sched.bursts.map fun b => if b.chan = chan.val ∧ b.sub = sub.val then
            { b with
              extended := b.extended + (if 4 < (s.sched.rfm.get (2 * chan.val + sub.val) ([], 0)).1.length then ns
                else (s.sched.rfm.get (2 * chan.val + sub.val) ([], 0)).2 + ns) } else b))
  ∧ (∀ (s : State) (window : Fin 64), s.reg (0x2500 + window.val) 5 = 1 → s.ctl.mode ≠ .save →
    s.unrestoredDirty window.val = [] →
    (∀ f ∈ s.windowLeaves window.val, f ∈ s.mirrorCopied) →
    ∃ t, exec (.mirrorArmingComplete window) s = .next t ∧ DataKept s t ∧ t.reg (0x2500 + window.val) 5 = 2
      ∧ RegsKept s t [key (0x2500 + window.val) 5] ∧ t.mirrorCopied = s.mirrorCopied
      ∧ ∀ f ∈ s.windowLeaves window.val, f ∈ t.mirrorWhole)
  ∧ (∀ (s : State) (window : Fin 64) (f : Nat), s.reg (0x2500 + window.val) 5 = 1 → s.ctl.mode ≠ .save →
    s.unrestoredDirty window.val = [] → s.windowLeaves window.val = [f] →
    s.mirrorAt (f * 65536) = true → f ∉ s.mirrorCopied →
    ∃ t, exec (.mirrorArmingComplete window) s = .next t ∧ DataKept s t
      ∧ RegsKept s t [key (0x2500 + window.val) 5]
      ∧ (if s.mirrorRoom f = true then
          t.reg (0x2500 + window.val) 5 = 2 ∧ t.mirrorCopied = s.mirrorCopied ++ [f] ∧ f ∈ t.mirrorWhole
        else t.reg (0x2500 + window.val) 5 = 1 ∧ t.mirrorCopied = s.mirrorCopied))

/-- In BRING-UP, of a channel that starts up and must be trained at a bin: a training that passes leaves it at that
rate with a VALID record of the bin and the hottest temperature; one that fails goes on at the next lower bin, and
at 4800 MT/s leaves a channel other than the spare FAILED with CHANNEL_FAILED (log entry 42), and the spare FAILED
with SPARE_FAILED and out of the map. A fast boot of a channel with a record takes its best bin, or reports BAD_CRC
before STALE (log entry 43) and drops the record, or where it fails leads to training from that bin. DQS tracking
that is due in a free window reports the drift. No data, leaf or slot changes, and no entry of another channel but
the map. (R116, R117, R118, R119, R120, R122) -/
def Obligations.TrainingSetsTheChannel : Prop :=
  (∀ (s : State) (chan : Fin 13) (rate : Nat) (hot : Int), s.ctl.mode = .bringUp → s.startsUp chan.val = true →
    s.mustTrain chan.val = true → rate = s.trainBin chan.val → s.dram.requalifying.contains chan.val = false →
    s.dram.evicted.contains (chan.val, rate) = false →
    ∃ t, exec (.dramTrainingComplete chan rate hot true) s = .next t ∧ DataKept s t
      ∧ t.reg (0x3400 + chan.val) 2 = rate ∧ t.reg (0x3400 + chan.val) 4 = 0 ∧ t.reg (0x3400 + chan.val) 6 = s32 hot
      ∧ t.reg (0x3420 + chan.val) 6 = 0 ∧ t.chanState chan.val = s.chanState chan.val ∧ chan.val ∈ t.dram.ready
      ∧ (s.recordBins chan.val = [] → t.recordBins chan.val = [rate])
      ∧ RegsKept s t [key (0x3400 + chan.val) 2, key (0x3400 + chan.val) 4, key (0x3400 + chan.val) 6,
          key (0x3420 + chan.val) 6])
  ∧ (∀ (s : State) (chan : Fin 13) (rate lower : Nat) (hot : Int), s.ctl.mode = .bringUp → s.startsUp chan.val = true →
    s.mustTrain chan.val = true → rate = s.trainBin chan.val → lowerBin rate = some lower →
    ∃ t, exec (.dramTrainingComplete chan rate hot false) s = .next t ∧ DataKept s t
      ∧ t.trainBin chan.val = lower ∧ t.mustTrain chan.val = true ∧ RegsKept s t [])
  ∧ (∀ (s : State) (chan : Fin 13) (hot : Int), s.ctl.mode = .bringUp → s.startsUp chan.val = true →
    s.mustTrain chan.val = true → s.trainBin chan.val = 4800 → s.dram.requalifying.contains chan.val = false →
    ∃ t, exec (.dramTrainingComplete chan 4800 hot false) s = .next t ∧ DataKept s t ∧ t.chanState chan.val = 4
      ∧ (if s.chanState chan.val = 5 then t.hasFault Code.spareFailed = true ∧ t.reg 0x2405 13 = 255
         else t.hasFault Code.channelFailed = true ∧ t.reg 0x2405 13 = s.reg 0x2405 13))
  ∧ (∀ (s : State) (chan : Fin 13) (keyMatches crcGood passed : Bool), s.ctl.mode = .bringUp →
    s.startsUp chan.val = true → s.mustTrain chan.val = false →
    ∃ t, exec (.fastBootComplete chan keyMatches crcGood passed) s = .next t ∧ DataKept s t
      ∧ (crcGood = false → t.reg (0x3400 + chan.val) 4 = 3)
      ∧ (crcGood = true → keyMatches = false → t.reg (0x3400 + chan.val) 4 = 2)
      ∧ (crcGood = true → keyMatches = true → passed = true →
          t.reg (0x3400 + chan.val) 4 = 0 ∧ t.reg (0x3400 + chan.val) 2 = s.bestBin chan.val ∧ chan.val ∈ t.dram.ready)
      ∧ ((crcGood && keyMatches) = false → ∀ b ∈ t.recordBins chan.val, b ≠ s.bestBin chan.val)
      ∧ ((crcGood && keyMatches && passed) = false →
          t.mustTrain chan.val = true ∧ t.trainBin chan.val = s.bestBin chan.val)
      ∧ RegsKept s t [key (0x3400 + chan.val) 2, key (0x3400 + chan.val) 4])
  ∧ (∀ (s : State) (chan : Fin 13) (drift : Int), s.reg (0x3400 + chan.val) 2 ≠ 0 → s.selfRefresh = false →
    s.windowFree chan.val = true → s.dram.dqsAt.get chan.val 0 + s.reg 0x3442 0 ≤ s.clock.beat →
    ∃ t, exec (.dqsTrack chan drift) s = .next t ∧ DataKept s t ∧ t.reg (0x3420 + chan.val) 6 = s32 drift
      ∧ t.dram.dqsAt.get chan.val 0 = s.clock.beat
      ∧ RegsKept s t [key (0x3420 + chan.val) 6, key (0x3120 + chan.val) 6])

/-- In ONLINE or RESTORE, a temperature trigger that may fire on a channel that is retrained starts gathering at
once where no channel retrains and none waits, and a trend trigger waits behind another channel's retraining. A
gather window closes, and the last one, with no rate change waiting, leads to the apply phase; results gathered at
the present rate are applied in a free window, the record VALID. Outside SAVE and DORMANT, a search that fails at a
bin goes on at the next lower one, and one that passes brings the channel back at its bin with the hottest
temperature, as spare where its logical channel has been rebound, and its awaited lines wait no more. (R123, R124,
R125, R127, R128) -/
def Obligations.OnlineRetraining : Prop :=
  (∀ (s : State) (chan : Fin 13) (temp : Int), (s.reg 0x3440 0 : Int) ≤ (temp - s.ireg (0x3400 + chan.val) 6).natAbs →
    s.mayTrigger chan.val = true → (s.ctl.mode = .online ∨ s.ctl.mode = .restore) → s.retrainable chan.val = true →
    s.dram.retrain = none → s.dram.queue = [] →
    ∃ t, exec (.retrainTrigger chan (.temperature temp)) s = .next t ∧ DataKept s t ∧ t.dram.retrain = some chan.val
      ∧ t.reg (0x3400 + chan.val) 5 = 1 ∧ RegsKept s t [key (0x3400 + chan.val) 5])
  ∧ (∀ (s : State) (chan : Fin 13) (errors other : Nat), s.reg 0x3441 0 < errors → s.mayTrigger chan.val = true →
    (s.ctl.mode = .online ∨ s.ctl.mode = .restore) → s.retrainable chan.val = true → s.dram.retrain = some other →
    ∃ t, exec (.retrainTrigger chan (.ceTrend errors)) s = .next t ∧ DataKept s t ∧ t.dram.retrain = some other
      ∧ chan.val ∈ t.dram.queue ∧ t.regs = s.regs)
  ∧ (∀ (s : State) (chan : Fin 13) (last : Bool), s.gatherOpen chan.val = true →
    ∃ t, exec (.gatherWindowClose chan last) s = .next t ∧ DataKept s t ∧ t.dram.gather = none
      ∧ t.dram.gatherClosed.find? chan.val = some s.clock.beat
      ∧ t.reg (0x3400 + chan.val) 5 =
          (if last = true ∧ s.dram.deferredRate.find? chan.val = none then 2 else s.reg (0x3400 + chan.val) 5)
      ∧ RegsKept s t [key (0x3400 + chan.val) 5, key (0x3120 + chan.val) 6])
  ∧ (∀ (s : State) (chan : Fin 13) (prev : Bool) (hot : Int), s.dram.retrain = some chan.val →
    s.reg (0x3400 + chan.val) 5 = 2 → (s.ctl.mode = .online ∨ s.ctl.mode = .restore) → s.windowFree chan.val = true →
    s.dram.gathered.get chan.val 0 = s.reg (0x3400 + chan.val) 2 → s.dram.queue = [] →
    ∃ t, exec (.onlineRetrainComplete chan true prev hot) s = .next t ∧ DataKept s t ∧ t.dram.retrain = none
      ∧ t.reg (0x3400 + chan.val) 5 = 0 ∧ t.reg (0x3400 + chan.val) 4 = 0 ∧ t.reg (0x3400 + chan.val) 6 = s32 hot
      ∧ t.reg (0x3400 + chan.val) 2 = s.reg (0x3400 + chan.val) 2)
  ∧ (∀ (s : State) (chan : Fin 13) (bin lower : Nat) (hot : Int), s.dram.search.find? chan.val = some bin → lowerBin bin = some lower →
    s.ctl.mode ≠ .save → s.ctl.mode ≠ .dormant →
    ∃ t, exec (.searchBinComplete chan { passed := false, hottestC := hot }) s = .next t ∧ DataKept s t ∧ t.dram.search.find? chan.val = some lower
      ∧ t.reg (0x3400 + chan.val) 5 = 3 ∧ RegsKept s t [key (0x3400 + chan.val) 5])
  ∧ (∀ (s : State) (chan : Fin 13) (bin : Nat) (hot : Int), s.dram.search.find? chan.val = some bin → s.ctl.mode ≠ .save →
    s.ctl.mode ≠ .dormant → s.ingress.reads = [] → s.dram.queue = [] →
    ∃ t, exec (.searchBinComplete chan { passed := true, hottestC := hot }) s = .next t ∧ DataKept s t ∧ t.dram.search.find? chan.val = none
      ∧ t.reg (0x3400 + chan.val) 2 = bin ∧ t.reg (0x3400 + chan.val) 4 = 0 ∧ t.dram.awaiting.find? chan.val = none ∧ t.reg (0x3400 + chan.val) 6 = s32 hot
      ∧ t.chanState chan.val = (if s.logicalOf chan.val = none then 5 else if s.dram.target = some chan.val then 6 else 0)
      ∧ (s.logicalOf chan.val = none → t.reg 0x2405 13 = chan.val))

/-- Outside DORMANT an uncorrectable read in the Cupboard, or of a unit whose mirror copy stands or whose leaf is
CLEAN, is counted as recovered; of any other unit of the channel it poisons the unit, with UE_POISONED. In ONLINE or
RESTORE: a patrol scrub of the next row of a running channel counts a correction and, where it is corrected again, a
row error; a row that has failed is mapped to a spare row in a free window, or, without one, an ACTIVE channel is
copied to the spare. A finished copy rebinds the logical channel and searches the source. An ACTIVE channel lost for
a cause that allows a search is rebound to the spare and searched, and outside SAVE poisons nothing yet. A finished
rebuild makes the target ACTIVE. No byte of DRAM changes. (R127, R129, R131, R132, R133, R134, R136, R138) -/
def Obligations.ErrorsAndSparing : Prop :=
  (∀ (s : State) (chan : Fin 13) (row : Nat), s.ctl.mode ≠ .dormant → row < s.layout.rowCount →
    ∃ t, exec (.uncorrectableRead chan (.cupboard row)) s = .next t ∧ DataKept s t ∧ t.poison = s.poison
      ∧ Counted s t (0x3420 + chan.val) 2 1 ∧ RegsKept s t [key (0x3420 + chan.val) 2])
  ∧ (∀ (s : State) (chan : Fin 13) (a : Nat), s.ctl.mode ≠ .dormant → a < s.layout.hostVisible →
    s.physical (s.layout.logical a) = chan.val →
    ∃ t, exec (.uncorrectableRead chan (.memory a)) s = .next t ∧ DataKept s t
      ∧ (if s.mirrored (unitOf a) = true ∨ s.leaf (leafOf a) = .clean then
          t.poison = s.poison ∧ Counted s t (0x3420 + chan.val) 2 1 ∧ RegsKept s t [key (0x3420 + chan.val) 2]
        else t.poison = s.poison.put (unitOf a) .internal ∧ Counted s t (0x3420 + chan.val) 3 1
          ∧ RegsKept s t [key (0x3420 + chan.val) 3] ∧ t.hasFault Code.uePoisoned = true))
  ∧ (∀ (s : State) (chan : Fin 13) (row : Nat), s.ctl.mode = .online ∨ s.ctl.mode = .restore →
    s.reg (0x3400 + chan.val) 2 ≠ 0 → row = (s.scrubNext chan.val).1 → row < s.layout.rowCount →
    (∀ again : Bool, ∃ t, exec (.patrolScrub chan row none again) s = .next t ∧ DataKept s t ∧ t.regs = s.regs
      ∧ (t.dram.scrub.get chan.val (0, 0)).1 = row + 1)
    ∧ (∀ (i : Fin 128) (device : Fin 10) (again : Bool),
      ∃ t, exec (.patrolScrub chan row (some (i, device)) again) s = .next t ∧ DataKept s t
        ∧ (t.dram.scrub.get chan.val (0, 0)).1 = row + 1
        ∧ Counted s t (0x3420 + chan.val) 1 1 ∧ RegsKept s t [key (0x3420 + chan.val) 1]
        ∧ ∀ k, t.dram.rowErrors.get k 0 = s.dram.rowErrors.get k 0 +
            if k = rowKey chan.val row ∧ rowOffset row i.val / 64 ∈ s.dram.rewritten.get chan.val [] then 1 else 0))
  ∧ (∀ (s : State) (chan : Fin 13) (row : Nat), s.ctl.mode = .online ∨ s.ctl.mode = .restore →
    s.rowFails chan.val row = true → s.windowFree chan.val = true →
    ∃ t, exec (.rowFailed chan row true) s = .next t ∧ DataKept s t ∧ Counted s t (0x3420 + chan.val) 4 1
      ∧ t.dram.rowErrors.find? (rowKey chan.val row) = none ∧ t.dram.rowUe.find? (rowKey chan.val row) = none
      ∧ t.dram.soft.get chan.val 0 = s.dram.soft.get chan.val 0 + 1
      ∧ RegsKept s t [key (0x3420 + chan.val) 4, key (0x3120 + chan.val) 6])
  ∧ (∀ (s : State) (chan : Fin 13) (row spare : Nat), s.ctl.mode = .online ∨ s.ctl.mode = .restore →
    s.rowFails chan.val row = true → s.chanState chan.val = 0 → s.spare = some spare → s.dram.target = none →
    ∃ t, exec (.rowFailed chan row false) s = .next t ∧ DataKept s t ∧ t.hasFault Code.pprExhausted = true
      ∧ t.chanState chan.val = 2 ∧ t.chanState spare = 6 ∧ t.reg 0x3450 0 = 1 ∧ t.reg 0x3450 1 = chan.val
      ∧ t.dram.target = some spare ∧ t.dram.copyPtr = 0)
  ∧ (∀ (s : State) (target d : Nat), s.dram.target = some target → s.logicalOf (s.reg 0x3450 1) = some d →
    target ≠ s.reg 0x3450 1 → target < 13 → s.reg 0x3450 1 < 13 → s.reg 0x3450 0 = 1 → s.ctl.mode ≠ .save →
    ∃ t, exec .proactiveCopyComplete s = .next t ∧ DataKept s t ∧ t.physical d = target ∧ t.chanState target = 0
      ∧ t.chanState (s.reg 0x3450 1) = 3 ∧ t.reg 0x3450 0 = 0 ∧ t.dram.target = none
      ∧ t.dram.search.find? (s.reg 0x3450 1) = some (s.reg (0x3400 + s.reg 0x3450 1) 2))
  ∧ (∀ (s : State) (chan : Fin 13) (d spare : Nat) (cause : LossCause), cause ≠ .railFault → s.ctl.mode ≠ .dormant →
    s.chanState chan.val = 0 → s.logicalOf chan.val = some d → s.dram.target = none → s.spare = some spare →
    s.reg 0x3450 0 = 0 → Map.sorted s.leaves.exc = true →
    ∃ t, exec (.channelLost chan cause) s = .next t ∧ t.mem = s.mem ∧ t.groups = s.groups
      ∧ (s.ctl.mode ≠ .save → t.poison = s.poison)
      ∧ t.chanState chan.val = 3 ∧ t.chanState spare = 6 ∧ t.physical d = spare ∧ t.reg 0x3450 0 = 2
      ∧ t.dram.lostLogical = some d ∧ t.reg 0x3450 1 = chan.val ∧ t.dram.target = some spare
      ∧ (∀ l, s.leaf l ≠ .copying → t.leaf l = s.leaf l) ∧ t.hasFault Code.channelLost = true)
  ∧ (∀ (s : State) (target : Nat), s.dram.target = some target → s.reg 0x3450 0 = 2 → s.ctl.mode ≠ .save →
    s.ctl.mode ≠ .dormant → target < 13 → s.chanState target = 6 →
    ∃ t, exec .channelRebuildComplete s = .next t ∧ DataKept s t ∧ t.chanState target = 0 ∧ t.reg 0x3450 0 = 0
      ∧ t.dram.target = none ∧ t.dram.lostLogical = none)

/-- A lazy change that waits is written to the log with the next sequence and no longer waits; where none is being
written, a snapshot starts at 1,835,008 records and, once complete, stands in the other slot, with the records from
its start on; a heat decay that is due halves the heat of every bundle, and a bundle that is old stays so. No byte,
leaf, slot or entry changes. (R150, R151, R153) -/
def Obligations.DeltaLogAndHeat : Prop :=
  (∀ (s : State) (leaf : Nat) (e : Nat × LeafState × Nat), s.delta.lazy.find? (fun e => e.1 == leaf) = some e →
    ∃ t, exec (.deltaLazyWrite leaf) s = .next t ∧ DataKept s t ∧ t.regs = s.regs
      ∧ (∃ r, t.delta.records = s.delta.records ++ [r] ∧ r.leaf = leaf ∧ r.state = e.2.1 ∧ r.seq = s.delta.seq)
      ∧ t.delta.seq = s.delta.seq + 1
      ∧ ∀ x ∈ t.delta.lazy, x.1 ≠ leaf)
  ∧ (∀ s : State, 1835008 ≤ s.delta.fill → s.delta.writing = none →
    ∃ t, exec .deltaSnapshotStart s = .next t ∧ DataKept s t ∧ t.regs = s.regs
      ∧ t.delta.writing = some (s.leaves, s.delta.seq) ∧ t.delta.fill = 0
      ∧ t.delta.records = s.delta.records ∧ t.delta.snapshot = s.delta.snapshot)
  ∧ (∀ (s : State) (table : LeafTable) (n : Nat), s.delta.writing = some (table, n) →
    ∃ t, exec .deltaSnapshotComplete s = .next t ∧ DataKept s t ∧ t.regs = s.regs ∧ t.delta.snapshot = table
      ∧ t.delta.start = n ∧ t.delta.slot = 1 - s.delta.slot ∧ t.delta.writing = none
      ∧ ∀ r, r ∈ t.delta.records ↔ r ∈ s.delta.records ∧ n ≤ r.seq)
  ∧ (∀ s : State, s.reg 0x4031 0 ≤ s.clock.beat - s.trickle.decayBeat →
    ∃ t, exec .heatDecay s = .next t ∧ DataKept s t ∧ t.regs = s.regs ∧ t.trickle.decayBeat = s.clock.beat
      ∧ ∀ b, (t.heatOf b).heat = (s.heatOf b).heat / 2 ∧ ((s.heatOf b).old = true → (t.heatOf b).old = true))

/-- A rebuild lists the quiet DIRTY leaves, or any DIRTY leaf while a hold stands and none is quiet, in rank order.
Where the copier runs with fewer than 64 copies, outside a rehearsal's run, a selection that the wear bucket allows
makes the candidate COPYING, charges the bucket, moves the cursor past it and changes no byte, slot or other leaf.
The wear rate is recomputed as R157 says. In DROWSE a trickle period starts where it is enabled, its share of the
last 100,000 beats is not used up, no wake runs and a leaf is DIRTY, and ends. (R155, R156, R157, R158) -/
def Obligations.TrickleCopies : Prop :=
  (∀ s : State, ∃ t, exec .trickleCandidateRebuild s = .next t ∧ DataKept s t ∧ t.regs = s.regs
    ∧ t.trickle.rebuiltAt = s.clock.beat
    ∧ (∀ f, f ∈ t.trickle.candidates ↔ f ∈ s.leavesIn .dirty ∧
        (s.quiet f = true ∨ (s.holding = true ∧ ∀ g ∈ s.leavesIn .dirty, s.quiet g = false)))
    ∧ t.trickle.candidates.Pairwise fun a b => s.trickleRank a ≤ s.trickleRank b)
  ∧ (∀ (s : State) (f : Nat), s.trickleRuns = true → s.copying < 64 → s.trickle.rehearsal ≠ .run →
    s.candidate = some f → s.token = .take →
    ∃ t, exec .trickleSelect s = .next t ∧ t.mem = s.mem ∧ t.nand.flash = s.nand.flash ∧ t.groups = s.groups
      ∧ t.leaf f = .copying ∧ (∀ g, g ≠ f → t.leaf g = s.leaf g) ∧ t.trickle.cursor = (f + 1) % s.layout.leaves
      ∧ t.trickle.overdrawn = false ∧ t.trickle.tokens = s.trickle.tokens - 73728 ∧ ∀ g ∈ t.trickle.candidates, g ≠ f ∧ g ∈ s.trickle.candidates)
  ∧ (∀ s : State, ∃ t, exec .wearRateRecompute s = .next t ∧ DataKept s t
    ∧ t.reg 0x4041 0 = wearRate (s.reg 0x5040 0) (s.reg 0x5003 0) (s.reg 0x4040 1) (s.reg 0x4040 2)
    ∧ t.trickle.rate = t.reg 0x4041 0 ∧ RegsKept s t [key 0x4041 0])
  ∧ (∀ s : State, s.ctl.mode = .drowse → s.ctl.waking = false → s.reg 0x4050 0 = 1 → s.ctl.tricklePeriod = false →
    0 < s.periodLeft → s.leavesIn .dirty ≠ [] →
    exec (.drowseTricklePeriod true) s = .next { s with out := [], ctl := { s.ctl with
      tricklePeriod := true, periodFrom := s.clock.beat } })
  ∧ (∀ s : State, s.ctl.mode = .drowse → s.ctl.tricklePeriod = true →
    exec (.drowseTricklePeriod false) s = .next { s with out := [], ctl := { s.ctl with
      tricklePeriod := false, periods := s.ctl.periods ++ [(s.ctl.periodFrom, s.clock.beat)] } })

/-- Where none is due or runs, a rehearsal falls due, by period once its hours have passed and after a SAVE that
programmed a stripe. It starts in ONLINE on the input with the charger FULL, no write held, no save armed or tripped
and no health test due, takes its idle phase of 1,000 beats on the store with the isolation open, runs for 10,000
beats, and ends: an accepted result sets e_byte, e_fixed and the hour of the last rehearsal, a rejected one changes
no entry. One that is due and not started for 24 h is reported. A bus that sags below its minimum ends it at once.
No byte of memory, leaf or slot changes. (R171, R297) -/
def Obligations.Rehearsal : Prop :=
  (∀ (s : State) (cause : DueCause), s.trickle.rehearsal = .none →
    (cause = .period → s.reg 0x4022 0 ≤ s.reg 0x4040 2 - s.trickle.lastHour) →
    (cause = .afterSave → s.trickle.saveDue = true) →
    ∃ t, exec (.rehearsalDue cause) s = .next t ∧ DataKept s t ∧ t.regs = s.regs ∧ t.trickle.rehearsal = .due
      ∧ t.trickle.dueBeat = s.clock.beat)
  ∧ (∀ s : State, s.trickle.rehearsal = .due → s.ctl.mode = .online → s.niura.charger = .full → s.holding = false →
    s.save.arm = 0 → s.niura.tripped = false → s.niura.supply = .input → s.niura.healthDue = false →
    ∃ t, exec .rehearsalStart s = .next t ∧ DataKept s t ∧ t.regs = s.regs ∧ t.trickle.rehearsal = .idle
      ∧ t.niura.supply = .rehearse ∧ t.niura.isolationOpen = true ∧ t.niura.charger = .paused ∧ t.niura.resume = .full)
  ∧ (∀ (s : State) (mj : Nat), s.trickle.rehearsal = .idle → 1000 ≤ s.clock.beat - s.trickle.phaseBeat →
    ∃ t, exec (.rehearsalIdleEnd mj) s = .next t ∧ DataKept s t ∧ t.regs = s.regs ∧ t.trickle.rehearsal = .run
      ∧ t.trickle.idleMj = mj ∧ t.trickle.runBytes = 0)
  ∧ (∀ (s : State) (mj : Nat), s.trickle.rehearsal = .run → 10000 ≤ s.clock.beat - s.trickle.phaseBeat →
    rehearsalGood mj s.trickle.runBytes = true →
    ∃ t, exec (.rehearsalRunEnd mj) s = .next t ∧ DataKept s t ∧ t.trickle.rehearsal = .none ∧ t.niura.supply = .input
      ∧ t.reg 0x4020 0 = mj * 1000000000 / s.trickle.runBytes ∧ t.reg 0x4021 0 = s.trickle.idleMj * 35 / 10
      ∧ t.reg 0x4025 0 = s.reg 0x4040 2 ∧ RegsKept s t [key 0x4020 0, key 0x4021 0, key 0x4025 0])
  ∧ (∀ (s : State) (mj : Nat), s.trickle.rehearsal = .run → 10000 ≤ s.clock.beat - s.trickle.phaseBeat →
    rehearsalGood mj s.trickle.runBytes = false →
    ∃ t, exec (.rehearsalRunEnd mj) s = .next t ∧ DataKept s t ∧ t.trickle.rehearsal = .none ∧ t.niura.supply = .input
      ∧ RegsKept s t [])
  ∧ (∀ s : State, s.trickle.rehearsal = .due → s.trickle.overdue = false →
    8640000000 ≤ s.clock.beat - s.trickle.dueBeat →
    ∃ t, exec .rehearsalOverdue s = .next t
      ∧ SameButReports { s with out := [], trickle := { s.trickle with overdue := true }, free := s.free } t
      ∧ t.hasFault Code.rehearsalOverdue = true)
  ∧ (∀ (s : State) (mv : Nat), s.niura.supply = .rehearse → mv < s.reg 0x6060 6 →
    ∃ t, exec (.busBelowHuBusMin mv) s = .next t ∧ DataKept s t ∧ t.niura.supply = .input
      ∧ t.niura.isolationOpen = false ∧ t.trickle.rehearsal ≠ .idle ∧ t.trickle.rehearsal ≠ .run ∧ RegsKept s t [])

/-- On a link that is up, with a core pair left: a sleep request in ONLINE, with no save armed or triggered and
beside no wake event, records the link's consent; outside ONLINE or with a save armed or triggered it is refused
with 2, else beside a memory request or an enabled wake event with 1, and counted. From ONLINE with no save armed,
DROWSE begins with the consent of every link that is up, and those links enter L1; an enabled wake event in the
cycle comes first and withdraws the consents instead. A timer that matches, an alarm that stands and a service frame
set their bit of wake_cause; in DROWSE an enabled source begins the wake, which ends in ONLINE where no save is
armed. (R59, R333, R334, R335, R336, R337, R338) -/
def Obligations.SleepAndWake : Prop :=
  (∀ (s : State) (link : Fin 4) (wakeNow : BitVec 5), (s.link link.val).up = true → s.bureau.lost = false →
    s.ctl.mode = .online → s.save.arm = 0 → s.raceLost wakeNow = false →
    ∃ t, exec (.prepareSleep link wakeNow false false) s = .next t
      ∧ Answered { s with out := [] } t link.val 0xC300 .success [0]
      ∧ t.ctl.consents = s.ctl.consents ||| BitVec.ofNat 4 (2 ^ link.val))
  ∧ (∀ (s : State) (link : Fin 4) (wakeNow : BitVec 5) (memNow saveNow : Bool), (s.link link.val).up = true →
    s.bureau.lost = false → (s.ctl.mode ≠ .online ∨ saveNow = true ∨ s.save.arm ≠ 0) →
    ∃ t, exec (.prepareSleep link wakeNow memNow saveNow) s = .next t
      ∧ Answered { s with out := [] } t link.val 0xC300 .success [2])
  ∧ (∀ (s : State) (link : Fin 4) (wakeNow : BitVec 5) (memNow : Bool), (s.link link.val).up = true →
    s.bureau.lost = false → s.ctl.mode = .online → s.save.arm = 0 → (memNow = true ∨ s.raceLost wakeNow = true) →
    ∃ t, exec (.prepareSleep link wakeNow memNow false) s = .next t
      ∧ Answered { s with out := [], regs := t.regs, free := t.free } t link.val 0xC300 .success [1]
      ∧ Counted s t 0x1114 0 1 ∧ RegsKept s t [key 0x1114 0])
  ∧ (∀ (s : State) (wakeNow : BitVec 5), s.ctl.mode = .online → s.save.arm = 0 → s.allConsent = true → s.raceLost wakeNow = false →
    ∃ t, exec (.drowseEntry wakeNow) s = .next t ∧ t.mem = s.mem ∧ t.leaves = s.leaves ∧ t.groups = s.groups
      ∧ t.ctl.mode = .drowse ∧ t.ctl.prevMode = .online ∧ t.ctl.modeBeat = s.clock.ext ∧ t.ctl.workersHalted = true
      ∧ t.ctl.waking = false ∧ Counted s t 0x1115 0 1 ∧ RegsKept s t [key 0x1115 0]
      ∧ ∀ i ∈ s.upLinks, (t.link i).state = .l1)
  ∧ (∀ (s : State) (wakeNow : BitVec 5), s.ctl.mode = .online → s.save.arm = 0 → s.allConsent = true → s.raceLost wakeNow = true →
    ∃ t, exec (.drowseEntry wakeNow) s = .next t ∧ SameButReports { s with out := [] } t ∧ t.ctl.consents = 0)
  ∧ (∀ s : State, s.reg 0x1112 0 ≠ 0 → s.clock.ext.toNat = s.reg 0x1112 0 →
    ∃ t, exec .wakeTimerFire s = .next t ∧ SameButReports { s with out := [], regs := t.regs } t
      ∧ t.reg 0x1112 0 = 0 ∧ t.reg 0x1113 0 = 8 ∧ RegsKept s t [key 0x1112 0])
  ∧ (∀ s : State, s.reg 0x6080 0 ≠ 0 →
    ∃ t, exec .storeAlarmRise s = .next t ∧ SameButReports { s with out := [] } t ∧ t.reg 0x1113 0 = 16)
  ∧ (∀ s : State, ∃ t, exec .svcFrameStart s = .next t ∧ SameButReports { s with out := [] } t ∧ t.reg 0x1113 0 = 4)
  ∧ (∀ (s : State) (source : Fin 5) (link : Option (Fin 4)), s.ctl.mode = .drowse → s.wakeEnabled source.val = true →
    ∃ t, exec (.wake source link) s = .next t ∧ SameButReports { s with out := [] } t ∧ t.ctl.waking = true
      ∧ t.reg 0x1113 0 = 2 ^ source.val ∧ (s.ctl.waking = false → t.ctl.wakeBeat = s.clock.beat ∧ t.ctl.consents = 0
        ∧ ∀ l, link = some l → (s.link l.val).state = .l1 → (t.link l.val).state = .l0))
  ∧ (∀ (s : State) (us : Nat), s.ctl.mode = .drowse → s.ctl.waking = true → s.save.arm = 0 → s.ingress.writes = [] → s.ingress.reads = [] →
    ∃ t, exec (.wakeComplete us) s = .next t ∧ t.mem = s.mem ∧ t.leaves = s.leaves ∧ t.groups = s.groups
      ∧ t.ctl.mode = .online ∧ t.ctl.prevMode = .drowse ∧ t.ctl.waking = false ∧ t.reg 0x1116 0 = us % 2 ^ 32)

/-- A slot access that acts at once (its link up, host access and ingress open, no write waiting in ingress, the
slot of the link's range and idle; over CXL.mem also reached through a decoder, outside DROWSE and Sanitize) acts
so: a write without a command, or with NOP, merges its enabled operand bytes into the stage and changes nothing else
of the Group engine; a poisoned write completes and changes nothing there; an accepted opcode above 0x09 returns
NOT_OPEN and the state's code; a slot read returns the slot status. Memory and leaf states stay. (R175, R176, R178,
R179, R180) -/
def Obligations.SlotAccessesActAtOnce : Prop :=
  (∀ (s : State) (a : DeskArgs), s.deskTakes a →
    (∃ t, exec (.deskOperandStage a) s = .next t ∧ t.mem = s.mem ∧ t.leaves = s.leaves
      ∧ t.groups = { s.groups with
        slots := s.groups.slots.put a.group
          { s.slot a.group with stage := a.merge (s.slot a.group).stage } })
    ∧ (∃ t, exec (.deskNop a) s = .next t ∧ t.mem = s.mem ∧ t.leaves = s.leaves
      ∧ t.groups = { s.groups with
        slots := s.groups.slots.put a.group
          { s.slot a.group with stage := a.merge (s.slot a.group).stage } })
    ∧ (a.mailbox = false → ∃ t, exec (.deskPoisonedWrite a.link a.group) s = .next t
      ∧ t.mem = s.mem ∧ t.leaves = s.leaves ∧ t.groups = s.groups
      ∧ ∃ l, Output.writeDone a.link.val (deskBase + 64 * a.group) l ∈ t.out)
    ∧ (a.mailbox = false → ∀ fin : Bool, ∃ t, exec (.deskRead a.link a.group fin) s = .next t
      ∧ t.mem = s.mem ∧ t.leaves = s.leaves ∧ t.groups = s.groups
      ∧ ∃ l, Output.deskData a.link.val a.group (s.slotStatus a.group) l ∈ t.out))
  ∧ (∀ (s : State) (a : DeskArgs) (op : BitVec 8), s.deskTakes a → a.seq = (s.slot a.group).lastSeq + 1 →
    10 ≤ op.toNat →
    ∃ t, exec (.deskInvalidOpcode op a) s = .next t ∧ t.mem = s.mem ∧ t.leaves = s.leaves
      ∧ t.groups = { s.groups with
        slots := s.groups.slots.put a.group
          { (s.slot a.group).accepted op.toNat a with result := 6, detail := (s.slot a.group).state.code } })

/-- An accepted command of a slot that is no anchor and has no JFULL, and that passes its checks, does what its rule
says over either path: OPEN of a FREE slot opens it; CLAIM gives the group each page of its list that is unclaimed,
with its leaf PINNED; RELEASE frees the pages without a journalled line and reports how many stay; COMMIT drops the
group's entries and claims; ABORT begins the rollback; ACK_TERMINAL, also with JFULL, frees a COMMITTED or ABORTED
slot. Every other slot stays as it was, and memory too, but for the leaves that were LOST and that a CLAIM makes
valid. (R175, R177, R178, R181, R183, R184, R188, R189, R190) -/
def Obligations.GroupCommands : Prop :=
  (∀ (s : State) (a : DeskArgs), s.deskAccepts 1 a → (s.slot a.group).state = .free →
    (s.slot a.group).anchor = false → (s.slot a.group).jfull = false →
    ∃ t, exec (.deskOpen a) s = .next t ∧ t.mem = s.mem ∧ t.leaves = s.leaves
      ∧ t.groups = { s.groups with
          nextOpen := s.groups.nextOpen + 1,
          slots := s.groups.slots.put a.group { (s.slot a.group).accepted 1 a with
            state := .opened, part := false, restored := false, forced := false, lines := 0, discarded := 0, txn := 0,
            openedAt := s.groups.nextOpen, result := 0, detail := 0 } })
  ∧ (∀ (s : State) (a : DeskArgs), s.deskAccepts 2 a → (s.slot a.group).state = .opened →
    (s.slot a.group).anchor = false → (s.slot a.group).jfull = false → a.specific ≠ 0 →
    s.claimRange (s.taken a) = none → s.claimResources (s.taken a) = none → s.claimAwaits (s.taken a) = [] →
    ∃ t, exec (.deskClaim a) s = .next t
      ∧ t.slot a.group = { (s.slot a.group).accepted 2 a with result := 0, detail := 0 }
      ∧ (∀ h, h ≠ a.group → t.slot h = s.slot h)
      ∧ (∀ p ∈ claimPages (s.taken a), s.groups.claims.find? p = none →
          t.groups.claims.find? p = some { group := a.group, lines := 0 } ∧ t.leaf (p / 16) = .pinned)
      ∧ (∀ p, p ∉ s.newPages (s.taken a) → t.groups.claims.find? p = s.groups.claims.find? p)
      ∧ (∀ f, (∀ p ∈ s.newPages (s.taken a), p / 16 ≠ f) → t.leaf f = s.leaf f)
      ∧ ∀ x, s.leaf (x / 65536) ≠ .lost → Mem.byte t.mem x = Mem.byte s.mem x)
  ∧ (∀ (s : State) (a : DeskArgs), s.deskAccepts 3 a → (s.slot a.group).state = .opened →
    (s.slot a.group).anchor = false → (s.slot a.group).jfull = false → (a.flag = true ∨ a.specific.toNat ≤ 65536) →
    ∃ t, exec (.deskRelease a) s = .next t ∧ t.mem = s.mem
      ∧ t.slot a.group = { (s.slot a.group).accepted 3 a with
          result := 0, detail := ((s.releasePages (s.taken a)).filter s.journalled).length }
      ∧ (∀ h, h ≠ a.group → t.slot h = s.slot h)
      ∧ (∀ p ∈ s.releasePages (s.taken a), s.journalled p = false → t.groups.claims.find? p = none)
      ∧ (∀ p, p ∉ s.releasePages (s.taken a) ∨ s.journalled p = true →
          t.groups.claims.find? p = s.groups.claims.find? p))
  ∧ (∀ (s : State) (a : DeskArgs), s.deskAccepts 4 a → (s.slot a.group).state = .opened →
    (s.slot a.group).anchor = false → (s.slot a.group).jfull = false →
    ∃ t, exec (.deskCommit a) s = .next t ∧ t.mem = s.mem
      ∧ t.slot a.group = { (s.slot a.group).accepted 4 a with
          state := .committed, journalWait := false, result := 0, detail := 0 }
      ∧ (∀ h, h ≠ a.group → t.slot h = s.slot h) ∧ t.pagesOf a.group = [] ∧ t.entriesOf a.group = []
      ∧ (∀ p, p ∉ s.pagesOf a.group → t.groups.claims.find? p = s.groups.claims.find? p)
      ∧ (∀ e ∈ s.groups.journal, e.group ≠ a.group → e ∈ t.groups.journal))
  ∧ (∀ (s : State) (a : DeskArgs), s.deskAccepts 5 a → (s.slot a.group).state = .opened →
    (s.slot a.group).anchor = false → (s.slot a.group).jfull = false →
    ∃ t, exec (.deskAbort a) s = .next t ∧ t.mem = s.mem
      ∧ t.groups = { s.groups with slots := s.groups.slots.put a.group { (s.slot a.group).accepted 5 a with
          state := .aborted, running := true, journalWait := false, after := some (0, 0),
          mail := if a.mailbox then (s.slot a.group).mail ++ [a.link.val] else (s.slot a.group).mail } })
  ∧ (∀ (s : State) (a : DeskArgs), s.deskAccepts 9 a →
    ((s.slot a.group).state = .committed ∨ (s.slot a.group).state = .aborted) →
    ∃ t, exec (.deskAckTerminal a) s = .next t ∧ t.mem = s.mem
      ∧ t.slot a.group = { Slot.reset with
          lastOpcode := 9, lastSeq := a.seq, stage := 0, waiting := (s.slot a.group).waiting, mail := (s.slot a.group).mail,
          result := 0, detail := 0 }
      ∧ (∀ h, h ≠ a.group → t.slot h = s.slot h)
      ∧ ((s.slot a.group).jfull = true → t.pagesOf a.group = [])
      ∧ ((s.slot a.group).jfull = false → t.groups.claims = s.groups.claims))

/-- When a rollback ends in a mode that serves it, with no write in ingress and no command waiting behind it, every
line of the group with one entry holds its pre-image again, every line without an entry is as it was, the group is
ABORTED with RUNNING clear and no journal entry, its claims are released unless JFULL stands, and every other slot
is as it was. (R187, R189) -/
def Obligations.RollbackRestoresTheLines : Prop :=
  ∀ (s : State) (g : Nat), s.rollbackReady g = true → s.ctl.mode ≠ .save → s.ctl.mode ≠ .dormant → s.ctl.mode ≠ .bringUp →
    s.ingress.writes = [] → (s.slot g).waiting = [] → Mem.wf s.mem = true →
    (∀ e ∈ s.entriesOf g, Mem.wf e.pre = true ∧ ∀ c ∈ e.pre, c.1 / 256 = e.line) →
    ∃ t, exec (.rollbackComplete g) s = .next t
      ∧ (t.slot g).running = false ∧ (t.slot g).state = .aborted ∧ t.entriesOf g = []
      ∧ ((s.slot g).jfull = false → t.pagesOf g = [])
      ∧ (∀ h, h ≠ g → t.slot h = s.slot h)
      ∧ (∀ x, (∀ e ∈ s.entriesOf g, e.line ≠ x / 256) → Mem.byte t.mem x = Mem.byte s.mem x)
      ∧ (∀ e ∈ s.entriesOf g, (∀ f ∈ s.entriesOf g, f.line = e.line → f = e) →
          ∀ x, x / 256 = e.line → Mem.byte t.mem x = Mem.byte e.pre x)

/-- Accepted commands of slots without JFULL: a BEGIN_JOINT that passes its checks opens an anchor slot with the
next transaction ID and an UNDECIDED entry of its roster; a PREPARE that passes its checks, with no decision cached,
makes the part PREPARED; a DECIDE of the anchor on its UNDECIDED entry records COMMIT or ABORT in the entry, at this
beat, and in the anchor slot. Memory stays. (R192, R193, R194) -/
def Obligations.JointCommands : Prop :=
  (∀ (s : State) (a : DeskArgs), s.deskAccepts 6 a → (s.slot a.group).state = .free →
    (s.slot a.group).anchor = false → (s.slot a.group).jfull = false → s.beginCheck (s.taken a) = none →
    ∃ t, exec (.deskBeginJoint a) s = .next t ∧ t.mem = s.mem ∧ t.leaves = s.leaves
      ∧ t.slot a.group = { (s.slot a.group).accepted 6 a with
          state := .opened, anchor := true, part := false, restored := false, forced := false, lines := 0,
          discarded := 0, txn := s.member * 2 ^ 54 + s.reg 0x4420 0 % 2 ^ 54, openedAt := s.groups.nextOpen,
          result := 0, detail := 0 }
      ∧ (∀ h, h ≠ a.group → t.slot h = s.slot h)
      ∧ t.reg 0x4420 0 = s.reg 0x4420 0 % 2 ^ 54 + 1
      ∧ t.groups.decisions.find? (freeIndex s.groups.decisions) = some
          { txn := s.member * 2 ^ 54 + s.reg 0x4420 0 % 2 ^ 54, state := 1, roster := rosterOf (s.taken a), acked := 0,
            slot := a.group, begunBeat := s.clock.ext, decidedBeat := 0, sentBeat := 0, presumed := false })
  ∧ (∀ (s : State) (a : DeskArgs), s.deskAccepts 7 a → (s.slot a.group).state = .opened →
    (s.slot a.group).anchor = false → (s.slot a.group).jfull = false → s.prepareCheck (s.taken a) = none →
    (∀ c ∈ s.groups.cache, c.txn ≠ operandTxn (s.taken a).operands) →
    ∃ t, exec (.deskPrepare a) s = .next t ∧ t.mem = s.mem ∧ t.leaves = s.leaves
      ∧ t.groups = { s.groups with slots := s.groups.slots.put a.group { (s.slot a.group).accepted 7 a with
          state := .prepared, part := true, txn := operandTxn (s.taken a).operands, queryBeat := s.clock.beat,
          result := 0, detail := 0 } })
  ∧ (∀ (s : State) (a : DeskArgs) (i : Nat) (d : Decision), s.deskAccepts 8 a → (s.slot a.group).state = .opened →
    (s.slot a.group).anchor = true → (s.slot a.group).jfull = false → Map.sorted s.groups.decisions = true →
    s.decisionOf (s.slot a.group).txn = some (i, d) → d.state = 1 → d.slot = a.group →
    ∃ t, exec (.deskDecide a) s = .next t ∧ t.mem = s.mem
      ∧ (t.slot a.group).state = (if a.flag then .committed else .aborted) ∧ (t.slot a.group).result = 0
      ∧ ∃ e, t.groups.decisions.find? i = some e ∧ e.txn = d.txn ∧ e.state = (if a.flag then 2 else 3)
          ∧ e.decidedBeat = s.clock.ext)

/-- At a member that is alive: a decision that reaches it is applied to every PREPARED or IN_DOUBT part of the
transaction, and kept where it holds no part; an acknowledgement sets the sender's bit in the entry, which is freed
once complete; a query about a decided transaction is answered by the decision; an answer resolves the parts;
decided entries are sent again when the period has passed; a PREPARED or IN_DOUBT part whose time has come asks an
anchor that is alive. A kept decision expires after 10 s. The parts are stated with no write in ingress. Memory
stays, and slots that are not named. (R33, R194, R195, R196, R197, R226, R227) -/
def Obligations.JointCellsAndTimers : Prop :=
  (∀ (s : State) (source txn : Nat) (commit : Bool), s.ownAlive = true → source < 1024 → s.ingress.writes = [] →
    Map.sorted s.groups.slots = true → s.partsOf txn ≠ [] →
    ∃ t, exec (.decideCellReceived source txn commit) s = .next t ∧ t.mem = s.mem
      ∧ (∀ g ∈ s.partsOf txn, (t.slot g).state = if commit then .committed else .aborted)
      ∧ (∀ g, g ∉ s.partsOf txn → t.slot g = s.slot g))
  ∧ (∀ (s : State) (source txn : Nat) (commit : Bool), s.ownAlive = true → source < 1024 → s.partsOf txn = [] →
    s.hasPart txn = false →
    ∃ t, exec (.decideCellReceived source txn commit) s = .next t ∧ t.mem = s.mem ∧ t.groups.slots = s.groups.slots
      ∧ { txn := txn, commit := commit, beat := s.clock.beat } ∈ t.groups.cache)
  ∧ (∀ (s : State) (source txn i k : Nat) (d : Decision), s.ownAlive = true → s.decisionOf txn = some (i, d) →
    Map.sorted s.groups.decisions = true → rosterIndex d.roster source = some k → d.acked / 2 ^ k % 2 = 0 →
    ∃ t, exec (.ackCellReceived source [txn]) s = .next t ∧ t.mem = s.mem ∧ t.groups.slots = s.groups.slots
      ∧ (t.groups.decisions.find? i = none ∨ t.groups.decisions.find? i = some { d with acked := d.acked + 2 ^ k }))
  ∧ (∀ (s : State) (source txn i : Nat) (d : Decision), s.ownAlive = true → s.ingress.writes = [] →
    s.decisionOf txn = some (i, d) → 2 ≤ d.state →
    ∃ t, exec (.queryCellReceived source [txn]) s = .next t ∧ t.mem = s.mem ∧ t.groups = s.groups
      ∧ ∃ c ∈ t.trestle.wait, c.dest = some source ∧ ∃ items, c.body = .answer items
          ∧ (txn, d.state == 2, false) ∈ items)
  ∧ (∀ (s : State) (source txn : Nat) (commit un : Bool), s.ownAlive = true → source < 1024 → s.ingress.writes = [] →
    Map.sorted s.groups.slots = true → s.partsOf txn ≠ [] →
    ∃ t, exec (.answerCellReceived source [(txn, commit, un)]) s = .next t ∧ t.mem = s.mem
      ∧ (∀ g ∈ s.partsOf txn, (t.slot g).state = if commit then .committed else .aborted)
      ∧ (∀ g, g ∉ s.partsOf txn → t.slot g = s.slot g))
  ∧ (∀ s : State, s.ownAlive = true → s.reg 0x4422 0 ≤ s.clock.beat - s.groups.resendBeat →
    Map.sorted s.groups.decisions = true →
    ∃ t, exec .decideResend s = .next t ∧ t.mem = s.mem ∧ t.groups.slots = s.groups.slots
      ∧ t.groups.resendBeat = s.clock.beat
      ∧ ∀ e ∈ s.groups.decisions, 2 ≤ e.2.state → s.decideTargets e.2 ≠ [] →
          ∃ c ∈ t.trestle.wait, c.body = .decide (s.decideTargets e.2) e.2.txn (e.2.state == 2))
  ∧ (∀ (s : State) (g : Nat), (s.slot g).state = .prepared → (s.slot g).part = true →
    s.reg 0x4423 0 ≤ s.clock.beat - (s.slot g).queryBeat → s.ownAlive = true →
    s.alive (anchorOf (s.slot g).txn) = true → anchorOf (s.slot g).txn ≠ s.member →
    ∃ t, exec (.prepareQueryTimer g) s = .next t ∧ t.mem = s.mem
      ∧ t.groups = { s.groups with slots := s.groups.slots.put g { s.slot g with queryBeat := s.clock.beat } }
      ∧ ∃ c ∈ t.trestle.wait, c.dest = some (anchorOf (s.slot g).txn)
          ∧ ∃ txns, c.body = .query txns ∧ (s.slot g).txn ∈ txns)
  ∧ (∀ (s : State) (g : Nat), (s.slot g).state = .inDoubt →
    ((s.slot g).queryBeat = 0 ∨ s.reg 0x4832 0 ≤ s.clock.beat - (s.slot g).queryBeat) → s.ownAlive = true →
    s.alive (anchorOf (s.slot g).txn) = true → anchorOf (s.slot g).txn ≠ s.member →
    ∃ t, exec (.indoubtQuery g) s = .next t ∧ t.mem = s.mem
      ∧ t.groups = { s.groups with slots := s.groups.slots.put g { s.slot g with queryBeat := s.clock.beat } }
      ∧ ∃ c ∈ t.trestle.wait, c.dest = some (anchorOf (s.slot g).txn)
          ∧ ∃ txns, c.body = .query txns ∧ (s.slot g).txn ∈ txns)
  ∧ (∀ (s : State) (txn : Nat) (c : CachedDecision), c ∈ s.groups.cache → c.txn = txn →
    1000000 ≤ s.clock.beat - c.beat →
    exec (.decisionCacheExpire txn) s = .next { s with
      out := [], groups := { s.groups with cache := s.groups.cache.filter fun x => x.txn != txn } })

/-- A link that trains while the Trestle runs sends the own hello and reports its delay; with an agreeing hello it
enters ring service, or stands UP outside a domain or where it failed in service before, and with another hello it
stands in FAULT and is reported. A link shutdown ends DOWN or in training; a link lost in service stands in FAULT,
turned back, counted and reported, and is taken back into service where R230 allows. No byte of memory, leaf or slot
changes. (R203, R204, R205, R229, R230) -/
def Obligations.TrestleLinks : Prop :=
  (∀ (s : State) (port : Fin 2) (delay : Nat) (hello : Hello), s.trestleRuns = true → s.reg (0x4810 + port.val) 2 = 1 →
    ((s.port port.val).state = .down ∨ (s.port port.val).state = .training ∨ (s.port port.val).state = .fault) →
    ∃ t, exec (.trestleLinkTrained port delay hello) s = .next t ∧ DataKept s t
      ∧ t.reg (0x4810 + port.val) 3 = delay % 2 ^ 32 ∧ RegsKept s t [key (0x4810 + port.val) 3]
      ∧ (t.port port.val).hello = some hello
      ∧ (t.port port.val).state = (if s.helloAgrees hello = false then .fault
          else if s.inDomain = false ∨ (s.port port.val).failed = true then .up else .inService)
      ∧ Output.hello port.val s.ownHello ∈ t.out
      ∧ (s.helloAgrees hello = false → t.hasFault Code.domainMismatch = true)
      ∧ t.port (1 - port.val) = s.port (1 - port.val))
  ∧ (∀ (s : State) (port : Fin 2), (s.port port.val).state = .disabling →
    exec (.trestleShutdownComplete port) s = .next { s with
      out := [], trestle := { s.trestle with
      ports := s.trestle.ports.put port.val
        { s.port port.val with state := .down } } })
  ∧ (∀ (s : State) (port : Fin 2), (s.port port.val).state = .pendingStart →
    exec (.trestleShutdownComplete port) s = .next { s with
      out := [], trestle := { s.trestle with
      ports := s.trestle.ports.put port.val
        { s.port port.val with state := .training } } })
  ∧ (∀ (s : State) (port : Fin 2), s.trestleRuns = true → s.inService port.val = true →
    ∃ t, exec (.trestleWrap port) s = .next t ∧ DataKept s t ∧ (t.port port.val).state = .fault
      ∧ (t.port port.val).turned = true ∧ (t.port port.val).failed = true ∧ t.hasFault Code.trestleWrap = true
      ∧ Counted s t (0x4810 + port.val) 5 1 ∧ RegsKept s t [key (0x4810 + port.val) 5])
  ∧ (∀ (s : State) (port : Fin 2), s.trestleRuns = true → s.mayUnwrap port.val = true →
    ∃ t, exec (.trestleUnwrap port) s = .next t ∧ DataKept s t ∧ (t.port port.val).state = .inService
      ∧ (t.port port.val).turned = false ∧ (t.port port.val).failed = false ∧ RegsKept s t [])

/-- A frame with a bad header CRC leaves untouched; a good frame of the domain leaves with one hop more, its link's
delay and up to 40 ns more on its path, and the member's own roll-call word; a frame that returns to its master has
its lap measured and its roll call kept for the next frame of its ring. Without cells in them they change no byte of
memory and no leaf, claim or journal entry, and of the slots only when an IN_DOUBT part asks again. A member becomes
master after 16 beats of service without a frame, or when every lower candidate has been passed over. (R206, R207,
R210, R213, R214, R215) -/
def Obligations.FramesAndMastership : Prop :=
  (∀ (s : State) (f : Frame), s.trestleRuns = true → s.inService f.port.val = true → f.crcGood = false →
    f.badSpans = [] → (s.port f.port.val).checkFails = [] →
    ∃ t, exec (.framePass f) s = .next t ∧ DataKept s t ∧ t.regs = s.regs
      ∧ t.out = [.frame { f with
          port := s.leavePort f.port, cells := f.cells.map fun (e : Nat × Cell) => (e.1, Frame.onward f e.1 e.2) }])
  ∧ (∀ (s : State) (f : Frame), s.trestleRuns = true → s.inService f.port.val = true → f.master ≠ s.member →
    f.crcGood = true → f.badSpans = [] → f.cells = [] → s.inDomain = true → f.domain = s.reg 0x4800 1 →
    f.generation = s.reg 0x4800 3 → s.duplicated f = false →
    ∃ t g, exec (.framePass f) s = .next t ∧ t.mem = s.mem ∧ t.nand.flash = s.nand.flash ∧ t.leaves = s.leaves
      ∧ t.ctl.mode = s.ctl.mode ∧ t.clock = s.clock ∧ t.groups = { s.groups with slots := t.groups.slots }
      ∧ (∀ n, t.slot n = { s.slot n with queryBeat := (t.slot n).queryBeat }
          ∧ ((s.slot n).state ≠ .inDoubt → t.slot n = s.slot n))
      ∧ .frame g ∈ t.out ∧ g.hops = f.hops + 1
      ∧ g.roll = f.roll.put s.member (s.ownWord f.wire) ∧ g.wire = f.wire ∧ g.master = f.master
      ∧ f.pathPs + 1000 * (s.port f.port.val).delayNs ≤ g.pathPs
      ∧ g.pathPs ≤ f.pathPs + 1000 * (s.port f.port.val).delayNs + 40000
      ∧ t.trestle.lastFrame = some s.clock.beat ∧ t.reg 0x4807 0 = f.lapNs % 2 ^ 32)
  ∧ (∀ (s : State) (f : Frame) (lap : Nat), s.trestleRuns = true → s.trestle.issuing = true → f.master = s.member →
    s.foreign f = false → s.inService f.port.val = true → f.crcGood = true → f.badSpans = [] → f.cells = [] →
    ∃ t, exec (.frameReturn f lap) s = .next t ∧ t.mem = s.mem ∧ t.nand.flash = s.nand.flash ∧ t.leaves = s.leaves
      ∧ t.ctl.mode = s.ctl.mode ∧ t.clock = s.clock ∧ t.groups = { s.groups with slots := t.groups.slots }
      ∧ (∀ n, t.slot n = { s.slot n with queryBeat := (t.slot n).queryBeat }
          ∧ ((s.slot n).state ≠ .inDoubt → t.slot n = s.slot n))
      ∧ t.reg 0x4807 0 = lap % 2 ^ 32
      ∧ t.trestle.lastFrame = some s.clock.beat ∧ t.trestle.carryRoll.find? f.ringB.toNat = some t.trestle.roll
      ∧ t.trestle.carryCells.find? f.ringB.toNat = some [])
  ∧ (∀ s : State, s.trestleRuns = true → s.inDomain = true → s.trestle.issuing = false → s.trestle.lastFrame = none →
    (s.inService 0 = true ∨ s.inService 1 = true) → 16 ≤ s.clock.beat - s.trestle.startBeat →
    exec .startupFrameTimeout s = .next (({ s with
      out := [], trestle := { s.trestle with issuing := true, master := some s.member, passed := [] } } : State).setReg
        0x4805 0 0))
  ∧ (∀ (s : State) (b absent : Nat), s.trestle.lastFrame = some b → s.trestleRuns = true → s.inDomain = true →
    s.trestle.issuing = false → 3 + 2 * s.trestle.passed.length ≤ s.clock.beat - b →
    absent = (if s.trestle.passed = [] then s.trestle.master.getD s.member else s.candidateMaster s.trestle.passed) →
    ∃ t, exec .masterTakeover s = .next t ∧ DataKept s t
      ∧ (if s.candidateMaster (s.trestle.passed ++ [absent]) = s.member then
          t.trestle.issuing = true ∧ t.trestle.master = some s.member ∧ t.hasFault Code.masterTakeover = true
        else t.trestle.issuing = false ∧ t.trestle.passed = s.trestle.passed ++ [absent] ∧ t.regs = s.regs))

/-- A cell not back in time leaves flight: a broadcast ends, another goes out again to its live targets while
retries remain, and is given up and counted after that. The master sends fleet time when it is due; a member that is
alive and follows it sets its wall time, and another ignores it; a WAKE cell to a member that is alive or in DROWSE
fires the TRESTLE source. A tunnelled response leaves unchanged by the requester's path and ends the tunnel; where
the response of the one tunnel open does not come, TIMEOUT answers. No byte of memory, leaf or slot changes. (R219,
R221, R222, R234, R235) -/
def Obligations.CellsOfTheTrestle : Prop :=
  (∀ (s : State) (seq : Nat) (f : Flight), s.trestle.flight.find? (fun f => f.cell.seq == seq) = some f →
    2 * s.reg 0x4808 0 + 1 ≤ s.clock.beat - f.beat →
    ∃ t, exec (.cellRetransmitTimeout seq) s = .next t ∧ DataKept s t
      ∧ (∀ g ∈ t.trestle.flight, g.cell.seq ≠ seq)
      ∧ (f.cell.broadcast = true → t.regs = s.regs ∧ t.trestle.wait = s.trestle.wait)
      ∧ (f.cell.broadcast = false → f.cell.targets.filter s.alive ≠ [] → f.retries < s.reg 0x4831 0 →
          Counted s t 0x4830 3 1 ∧ ∃ c, t.trestle.wait = c :: s.trestle.wait ∧ c.retry = true ∧ c.seq = seq
            ∧ c.targets = f.cell.targets.filter s.alive)
      ∧ (f.cell.broadcast = false → f.cell.targets.filter s.alive ≠ [] → s.reg 0x4831 0 ≤ f.retries →
          Counted s t 0x4830 4 1 ∧ t.trestle.wait = s.trestle.wait))
  ∧ (∀ s : State, s.trestle.issuing = true → s.trestleRuns = true →
    (∀ b, s.trestle.sync = some b → 100000 ≤ s.clock.beat - b) →
    ∃ t, exec .timeSyncSend s = .next t ∧ DataKept s t ∧ t.regs = s.regs ∧ t.trestle.sync = some s.clock.beat
      ∧ ∃ c, t.trestle.wait = s.trestle.wait ++ [c] ∧ c.dest = none
          ∧ c.body = .timeSync s.wireBeat s.clock.wallNs s.clock.wallSet)
  ∧ (∀ (s : State) (source delay : Nat) (wire : BitVec 32) (wall : Int), s.ownAlive = true → source ≠ s.member →
    source < 1024 → s.reg 0x4834 0 = 1 →
    ∃ t, exec (.timeSyncReceived source wire wall true delay) s = .next t ∧ t.mem = s.mem ∧ t.leaves = s.leaves
      ∧ t.groups = s.groups ∧ t.clock = { s.clock with wallNs := wall + delay, wallSet := true }
      ∧ RegsKept s t [key 0x1200 4])
  ∧ (∀ (s : State) (source delay : Nat) (wire : BitVec 32) (wall : Int) (set : Bool), s.ownAlive = true →
    source ≠ s.member → source < 1024 → (s.reg 0x4834 0 ≠ 1 ∨ set = false) →
    exec (.timeSyncReceived source wire wall set delay) s = .next { s with out := [] })
  ∧ (∀ (s : State) (source reason : Nat), (s.ownAlive = true ∨ s.ctl.mode = .drowse) → source < 1024 →
    ∃ t, exec (.wakeCellReceived source reason) s = .next t ∧ SameButReports { s with out := [] } t ∧ t.reg 0x1113 0 = 2)
  ∧ (∀ (s : State) (source tag status result handle beat : Nat) (items : List RespItem) (e : Nat × Tunnel),
    s.tunnelFor source tag = some e → s.ownAlive = true → e.2.role ≠ .fleet →
    (e.2.role ≠ .host →
      exec (.tunnelRspReceived source tag status result handle beat items) s = .next { s with
        out := [.dict e.2.role e.2.link.val e.2.tag status result handle beat items],
        trestle := { s.trestle with tunnels := s.trestle.tunnels.del e.1 } })
    ∧ (e.2.role = .host → (s.link e.2.link.val).up = true → e.2.tag < 65536 →
      ∃ t, exec (.tunnelRspReceived source tag status result handle beat items) s = .next t ∧ DataKept s t
        ∧ t.regs = s.regs ∧ t.trestle = { s.trestle with tunnels := s.trestle.tunnels.del e.1 }
        ∧ Output.dict .host e.2.link.val e.2.tag status result handle beat items ∈ t.out))
  ∧ (∀ (s : State) (tag key : Nat) (x : Tunnel), s.trestle.tunnels = [(key, x)] → x.tag = tag → tag < 65536 →
    x.role ≠ .fleet → x.role ≠ .host →
    (s.reg 0x4850 0 ≤ s.clock.beat - x.beat ∨ s.alive x.target = false) →
    exec (.tunnelTimeout tag) s = .next { s with
      out := [.dict x.role x.link.val x.tag 4 0 0 0 []], trestle := { s.trestle with tunnels := [] } })

/-- Outside SAVE, on a store that is available, a row that has waited 100 beats is programmed with the stripes that
stand ready, up to 16, and filler behind them. A programmed row of one live trickle stripe of a COPYING leaf, no
shard of whose segment has failed since, makes the leaf CLEAN and stores the stripe, encrypted for its leaf, at its
place as the leaf's copy, and changes no other leaf or stripe. Outside SAVE a failed program of such a stripe makes
the leaf DIRTY again, is counted as a copy not credited, and retires the erase unit. No byte of DRAM and no slot
changes. (R156, R245, R247, R248, R249, R259, R263) -/
def Obligations.NandRows : Prop :=
  (∀ (s : State) (lun : Nat), s.nand.forming ≠ [] → 100 ≤ s.clock.beat - s.nand.formedAt → s.ctl.mode ≠ .save →
    s.nextLun = some lun → s.nand.unavailable = false →
    ∃ t r, exec .rowFillTimeout s = .next t ∧ DataKept s t ∧ t.nand.forming = s.nand.forming.drop 16
      ∧ t.nand.rows.find? s.nand.nextRowId = some r ∧ r.stripes.length = 16
      ∧ t.nand.nextRowId = s.nand.nextRowId + 1)
  ∧ (∀ (s : State) (row slot : Nat) (r : Row) (x : Stripe), s.nand.rows.find? row = some r → r.stripes = [(slot, x)] → x.origin = 0 →
    row < s.nand.nextRowId → s.missing r.segment ≤ r.missing → s.leaf x.leaf = .copying → x.live = true → Mem.wf x.data = true →
    ∃ t, exec (.rowProgramComplete row) s = .next t ∧ t.mem = s.mem ∧ t.groups = s.groups ∧ t.ctl.mode = s.ctl.mode
      ∧ t.leaf x.leaf = .clean ∧ (∀ g, g ≠ x.leaf → t.leaf g = s.leaf g)
      ∧ (∃ st, t.nand.flash.find? (placeOf r.segment r.row slot) = some st ∧ st.leaf = x.leaf ∧ st.seq = x.seq
          ∧ st.cipher.crypt = s.cryptOf (tweakOf x.leaf 0) ∧ ∀ a, Mem.byte st.cipher.plain a = Mem.byte x.data a)
      ∧ (∀ p, p ≠ placeOf r.segment r.row slot → t.nand.flash.find? p = s.nand.flash.find? p)
      ∧ (∃ c, t.nand.copies.find? x.leaf = some c ∧ c.seq = x.seq ∧ c.segment = r.segment ∧ c.row = r.row ∧ c.slot = slot)
      ∧ t.nand.rows.find? row = none ∧ Counted s t 0x4032 0 1)
  ∧ (∀ (s : State) (row slot shards k : Nat) (chan : Fin 18) (r : Row) (x : Stripe), s.nand.rows.find? row = some r →
    r.stripes.find? slot = some x → s.ctl.mode ≠ .save → x.origin ≠ 2 → x.origin ≠ 3 → s.leaf x.leaf = .copying →
    x.live = true → (s.segment r.segment).units.find? chan.val = some k → (s.eraseUnit k).state ≠ 3 →
    ∃ t, exec (.nandProgramFail row slot shards chan) s = .next t ∧ t.mem = s.mem ∧ t.nand.flash = s.nand.flash
      ∧ t.groups = s.groups ∧ t.leaf x.leaf = .dirty ∧ (∀ g, g ≠ x.leaf → t.leaf g = s.leaf g)
      ∧ Counted s t 0x5041 0 1 ∧ Counted s t (0x5100 + chan.val) 5 1 ∧ Counted s t 0x4033 0 1)

/-- While the store's background work runs, a checkpoint that is due by beats or stripes begins with the image
sequence, the leaf map and the D values of that moment, and its stripes take the sequences behind it; once complete
it is named by its register and by a new root record. Garbage collection below its reserve, with tokens, takes the
victim of R256, and a victim that holds nothing valid is erased, counted, each erase unit of it worn by one cycle,
and no stripe of it stands in flash any more. A LUN or a channel that fails anew is recorded, and the third failed
channel makes the store unavailable; a rebuild of which no segment is left ends. No byte of memory, leaf or slot
changes, and no other byte of flash. (R252, R253, R256, R259, R260, R261, R262) -/
def Obligations.NandUpkeep : Prop :=
  (∀ s : State, s.storeRuns = true → s.nand.checkpoint = none →
    ((s.reg 0x5031 0 ≤ s.clock.beat - s.nand.checkpointBeat ∧ 0 < s.nand.sinceCheckpoint)
      ∨ s.reg 0x5030 0 ≤ s.nand.sinceCheckpoint) →
    ∃ t c, exec .checkpointStart s = .next t ∧ DataKept s t ∧ RegsKept s t [key 0x5070 0]
      ∧ t.nand.checkpoint = some c ∧ c.seq = s.reg 0x5070 0 ∧ c.map = s.nand.copies ∧ c.dGeneration = s.reg 0xA003 0
      ∧ c.dValues = s.dValues ∧ t.reg 0x5070 0 = s.reg 0x5070 0 + 16 * ceilDiv c.stripes 16
      ∧ t.nand.checkpointBeat = s.clock.beat ∧ t.nand.sinceCheckpoint = 0)
  ∧ (∀ (s : State) (c : Checkpoint), s.nand.checkpoint = some c →
    ∃ t r, exec .checkpointComplete s = .next t ∧ DataKept s t ∧ t.nand.checkpoint = none ∧ t.reg 0x5032 0 = c.seq
      ∧ t.nand.rootRecs.head? = some r ∧ r.checkpoint = some c ∧ (∀ o ∈ s.nand.rootRecs.head?, r.seq = o.seq + 1)
      ∧ RegsKept s t [key 0x5032 0])
  ∧ (∀ (s : State) (v : Nat) (read : StripeRead), s.gcVictim = some v → s.storeRuns = true →
    s.segmentsFree < s.reg 0x5020 0 → s.nand.victim = none → s.relocationToken ≠ .no →
    ∃ t, exec (.gcStart read) s = .next t ∧ DataKept s t ∧ t.nand.victim = some v)
  ∧ (∀ (s : State) (v : Nat), s.nand.victim = some v → (s.segment v).valid = 0 → (s.unitsOf v).Nodup →
    ∃ t, exec (.gcVictimErased v) s = .next t ∧ t.mem = s.mem ∧ t.leaves = s.leaves ∧ t.groups = s.groups
      ∧ t.ctl.mode = s.ctl.mode ∧ t.nand.victim = none ∧ Counted s t 0x5021 0 1
      ∧ t.nand.flash = s.nand.flash.filter (fun e => e.1 / 65536 != v)
      ∧ (∀ k ∈ s.unitsOf v, (s.eraseUnit k).state ≠ 3 → (t.eraseUnit k).cycles = (s.eraseUnit k).cycles + 1))
  ∧ (∀ (s : State) (chan : Fin 18) (lun : Nat), s.lunStands chan.val lun = true →
    ∃ t, exec (.nandLunFailed chan lun) s = .next t ∧ DataKept s t
      ∧ t.nand.lunsFailed.get chan.val 0 = s.nand.lunsFailed.get chan.val 0 ||| 2 ^ lun
      ∧ t.reg (0x5100 + chan.val) 2 = (s.nand.lunsFailed.get chan.val 0 ||| 2 ^ lun) % 65536
      ∧ t.hasFault Code.nandLunFailed = true)
  ∧ (∀ (s : State) (r : Nat × Nat), s.nand.rebuild = [r] → s.rebuildLeft r = 0 →
    ∃ t, exec .nandRebuildDone s = .next t
      ∧ SameButReports { s with out := [], nand := { s.nand with rebuild := [] } } t)
  ∧ (∀ (s : State) (chan : Fin 18), s.nand.channelsFailed.contains chan.val = false →
    ∃ t, exec (.nandChannelFailed chan) s = .next t ∧ DataKept s t
      ∧ t.nand.channelsFailed = s.nand.channelsFailed ++ [chan.val]
      ∧ t.nand.unavailable = decide (3 ≤ s.nand.channelsFailed.length + 1)
      ∧ t.hasFault Code.nandChannelFailed = true)

/-- A trip in ONLINE opens the isolation, raises PF_ALARM and arms a POWER_FAIL save, for the second boundary after
it; in DROWSE a PLANNED one. SAVE begins at its boundary: the epoch counts, its trigger is recorded, host access and
ingress close. With nothing in ingress its drain fixes the residue set as the DIRTY and PINNED leaves and writes no
byte of DRAM. (R267, R268, R270, R271, R295) -/
def Obligations.SaveBegins : Prop :=
  (∀ s : State, s.ctl.vaux = true → (s.niura.high = true ∨ s.niura.falling = true) → s.niura.supply ≠ .cutoff →
    (s.ctl.mode = .online ∨ s.ctl.mode = .drowse) → s.save.arm = 0 →
    ∃ t, exec (.powerFailTrip false) s = .next t ∧ DataKept s t ∧ t.niura.tripped = true ∧ t.niura.alarm = true
      ∧ t.niura.supply = .holdup ∧ t.niura.isolationOpen = true ∧ t.niura.pfWarn = true ∧ t.save.arm = (if s.niura.falling then 2 else 3)
      ∧ t.save.state = .arming ∧ t.save.trigger = (if s.ctl.mode = .online then .powerFail else .planned)
      ∧ Counted s t 0x6005 0 1 ∧ RegsKept s t [key 0x6005 0])
  ∧ (∀ s : State, s.ctl.mode ≠ .save → s.ctl.mode ≠ .bringUp → s.save.arm = 1 →
    ∃ t, exec .saveBegin s = .next t ∧ t.mem = s.mem ∧ t.nand.flash = s.nand.flash ∧ t.leaves = s.leaves
      ∧ t.groups = s.groups ∧ t.ctl.mode = .save ∧ t.ctl.prevMode = s.ctl.mode ∧ t.ctl.access = false
      ∧ t.ingress.closed = true ∧ t.ingress.writes = s.ingress.writes ∧ t.save.state = .closing
      ∧ t.reg 0x5401 0 = State.saveBegin.trigCode s.save.trigger ∧ Counted s t 0x5402 0 1 ∧ t.dict.submitted = [])
  ∧ (∀ s : State, s.ctl.mode = .save → (s.save.state = .closing ∨ s.save.state = .draining) → s.ingress.writes = [] →
    s.dram.awaiting = [] → s.ingress.reads = [] → (∀ e ∈ s.groups.slots, e.2.touching = false) →
    Map.sorted s.leaves.exc = true →
    ∃ t i, exec .saveDrainComplete s = .next t ∧ t.mem = s.mem ∧ t.nand.flash = s.nand.flash ∧ t.groups = s.groups
      ∧ t.ctl.mode = .save ∧ t.save.state = .groupSet ∧ t.nand.image = some i ∧ i.epoch = s.reg 0x5402 0
      ∧ i.trigger = s.reg 0x5401 0 ∧ i.slots = s.groups.slots ∧ i.claims = s.groups.claims
      ∧ (∀ f ∈ i.residue, s.leaf f = .dirty ∨ s.leaf f = .copying ∨ s.leaf f = .pinned)
      ∧ ∀ f, f < s.layout.leaves →
          (s.leaf f = .dirty ∨ s.leaf f = .copying ∨ s.leaf f = .pinned) → f ∈ i.residue)

/-- The leaves follow in save order once the group set is written; a row starts while its energy stands, else the
leaves stop; the seal is written when every started row has finished and the delta records are written in metadata
stripes of their own, and says COMPLETE only where every residue leaf was credited. No byte of DRAM or flash, leaf
or slot changes by these commands. (R270, R272, R273, R274, R275) -/
def Obligations.SaveRuns : Prop :=
  (∀ (s : State) (i : SaveImage), s.ctl.mode = .save → s.save.state = .groupSet → s.nand.image = some i →
    ∃ t, exec .saveGroupSetComplete s = .next t ∧ DataKept s t ∧ t.regs = s.regs ∧ t.save.state = .leaves
      ∧ t.nand.image = some { i with groupSetDone := true } ∧ t.save.todo.Perm i.residue
      ∧ t.save.todo.Pairwise fun a b => s.saveOrder a * 2 ^ 32 + a ≤ s.saveOrder b * 2 ^ 32 + b)
  ∧ (∀ s : State, s.ctl.mode = .save → s.save.state = .leaves → s.save.stopped = false →
    (s.save.todo ≠ [] ∨ s.nand.forming ≠ []) → s.reg 0x6010 0 < s.needMj →
    exec .saveRowStart s = .next { s with out := [], save := { s.save with stopped := true } })
  ∧ (∀ s : State, s.ctl.mode = .save → s.save.state = .leaves → s.save.stopped = false →
    (s.save.todo ≠ [] ∨ s.nand.forming ≠ []) → s.needMj ≤ s.reg 0x6010 0 →
    ∃ t, exec .saveRowStart s = .next t ∧ DataKept s t ∧ t.save.stopped = false
      ∧ t.save.todo = s.save.todo.drop (16 - s.nand.forming.length))
  ∧ (∀ s : State, s.ctl.mode = .save → s.save.state = .leaves → s.saveRows = 0 →
    (s.save.stopped = true ∨ (s.save.todo = [] ∧ s.nand.forming = [])) →
    exec .saveLeavesComplete s = .next { s with
      out := [], save := { s.save with state := .deltas }, nand := { s.nand with forming := [] } })
  ∧ (∀ s : State, s.ctl.mode = .save → s.save.state = .deltas →
    ∃ t, exec .saveDeltasComplete s = .next t ∧ DataKept s t ∧ t.save.state = .sealing
      ∧ RegsKept s t [key 0x5070 0]
      ∧ t.reg 0x5070 0 = s.reg 0x5070 0 + 16 * ceilDiv (ceilDiv (8 * s.save.deltas.length) 65536) 16
      ∧ (∀ i, s.nand.image = some i → ∃ j, t.nand.image = some j ∧ j.deltas = s.save.deltas ∧ j.residue = i.residue))
  ∧ (∀ (s : State) (mj : Nat) (i : SaveImage), s.ctl.mode = .save → s.save.state = .sealing → s.nand.image = some i →
    ∃ t r, exec (.saveSealed mj) s = .next t ∧ DataKept s t ∧ t.save.state = .sealed ∧ t.ctl.retention = true
      ∧ t.ctl.dramHeld = true ∧ (∃ j, t.nand.image = some j ∧ j = { i with sealRecord := some r, credited := s.save.credited, segs := j.segs })
      ∧ r.complete = s.unsaved.isEmpty ∧ r.epoch = s.reg 0x5402 0 ∧ r.energyMj = mj
      ∧ t.reg 0x5403 0 = (if s.unsaved = [] then 1 else 2) ∧ t.reg 0x5404 2 = s.unsaved.length
      ∧ (s.unsaved ≠ [] → t.hasFault Code.saveShort = true))

/-- A save by COMMAND with the input there ends in ONLINE or RESTORE with host access open and ingress serving
again; a save with COMMAND_HALT, or with no withdrawal left, ends in DORMANT, which it keeps; a withdrawn save goes
back to ONLINE or RESTORE, and its image counts for nothing. No byte of DRAM changes where nothing waits in ingress.
(R276, R278, R279, R469, R470) -/
def Obligations.SaveEnds : Prop :=
  (∀ s : State, s.ctl.mode = .save → s.save.state = .sealed → s.save.trigger = .command → s.save.noWithdraw = false →
    s.niura.high = true → s.ctl.coldPending = none → s.ingress.writes = [] → s.ingress.reads = [] →
    ∃ t, exec .saveEnd s = .next t ∧ t.mem = s.mem ∧ t.leaves = s.leaves ∧ t.groups = s.groups
      ∧ t.ctl.mode = (if 0 < s.unrestored then .restore else .online) ∧ t.ctl.access = true
      ∧ t.ctl.retention = false ∧ t.ingress.closed = false ∧ t.save.state = .idle)
  ∧ (∀ s : State, s.ctl.mode = .save → s.save.state = .sealed →
    (s.save.trigger = .commandHalt ∨ s.save.trigger = .channelUncovered ∨ s.save.noWithdraw = true) →
    s.ctl.coldPending = none →
    ∃ t, exec .saveEnd s = .next t ∧ t.mem = s.mem ∧ t.nand.flash = s.nand.flash ∧ t.leaves = s.leaves
      ∧ t.groups = s.groups ∧ t.ctl.mode = .dormant ∧ t.ctl.haltLock = true ∧ t.ctl.access = false
      ∧ t.save.state = .idle)
  ∧ (∀ (s : State) (i : SaveImage), s.ctl.mode = .save → (s.save.trigger = .powerFail ∨ s.save.trigger = .planned) →
    s.save.noWithdraw = false → s.save.state = .leaves → s.mayWithdraw = true → s.nand.image = some i →
    s.ctl.coldPending = none → s.ingress.writes = [] → s.ingress.reads = [] → s.nand.rows = [] →
    (∀ e ∈ s.groups.slots, e.2.touching = false) →
    ∃ t, exec .saveWithdrawal s = .next t ∧ t.mem = s.mem ∧ t.nand.flash = s.nand.flash ∧ t.groups = s.groups
      ∧ (t.ctl.mode = .online ∨ t.ctl.mode = .restore) ∧ t.ctl.access = true ∧ t.reg 0x5403 0 = 5
      ∧ t.hasFault Code.saveWithdrawn = true ∧ t.save.state = .idle
      ∧ ∃ j, t.nand.image = some j ∧ j.withdrawn = true)

/-- With nothing in ingress and no held CLAIM: a leaf of the touch queue whose stripe can be recovered holds its
decrypted flash copy, or zero where it has none, and without claim or undo is CLEAN; one whose stripe cannot be
recovered is LOST (log entry 58); one of a lost channel is rebuilt. The leaf of background restore holds its copy
with its undo entry applied and is DIRTY. The leaf map that a restore takes is that of the last checkpoint with what
the rows programmed since add to it (R255). A group set loaded with a COMPLETE save leaves every leaf UNRESTORED but
its LOST ones and opens host access; without any readable save or checkpoint every leaf is CLEAN and reads zero.
With host access open, no leaf left and no save armed, the mode becomes ONLINE. (R141, R245, R255, R281, R284, R285,
R286, R287) -/
def Obligations.LeavesAreRestored : Prop :=
  (∀ (s : State) (leaf ns : Nat) (read : StripeRead), s.save.touch.contains leaf = true → s.leaf leaf = .restoring →
    s.ctl.mode ≠ .save → s.ctl.mode ≠ .dormant → s.undoOf leaf = [] → s.claimedLeaf leaf = false → s.ingress.writes = [] →
    s.ingress.reads = [] → s.save.touchWait = [] → (∀ e ∈ s.groups.slots, e.2.touching = false) →
    Mem.wf s.mem = true → Mem.wf (s.plainOf leaf) = true → (∀ c ∈ s.plainOf leaf, c.1 / 65536 = leaf) →
    ∃ t, exec (.touchRestoreComplete leaf ns read) s = .next t ∧ t.groups.slots = s.groups.slots
      ∧ (∀ f, f ≠ leaf → t.leaf f = s.leaf f) ∧ leaf ∉ t.save.touch ∧ Counted s t 0x5422 1 1
      ∧ (if s.stripeRecovered leaf read = true then
          t.leaf leaf = .clean ∧ t.nand.flash = s.nand.flash
          ∧ ∀ a, Mem.byte t.mem a = if a / 65536 = leaf then
              (if (s.copyOf leaf).isSome then Mem.byte (s.plainOf leaf) a else 0) else Mem.byte s.mem a
        else t.leaf leaf = .lost ∧ t.mem = s.mem ∧ t.nand.copies.find? leaf = none ∧ t.hasFault Code.leavesLost = true))
  ∧ (∀ (s : State) (leaf ns : Nat) (read : StripeRead), s.save.touch.contains leaf = false → leaf ∈ s.dram.rebuildTouch →
    s.ctl.mode ≠ .save → s.ctl.mode ≠ .dormant → s.ingress.writes = [] → s.ingress.reads = [] →
    (∀ e ∈ s.groups.slots, e.2.touching = false) → s.stripeRecovered leaf read = true →
    ∃ t, exec (.touchRestoreComplete leaf ns read) s = .next t ∧ DataKept s t ∧ leaf ∈ t.dram.rebuilt
      ∧ leaf ∉ t.dram.rebuildTouch)
  ∧ (∀ (s : State) (leaf : Nat) (e : JEntry) (read : StripeRead), s.backgroundLeaf = some leaf → s.ctl.mode = .restore →
    s.ctl.access = true → s.undoOf leaf = [e] → e.line / 256 = leaf → s.claimedLeaf leaf = false → s.ingress.writes = [] →
    s.ingress.reads = [] → (∀ e ∈ s.groups.slots, e.2.touching = false) → Mem.wf s.mem = true →
    Mem.wf (s.plainOf leaf) = true → (∀ c ∈ s.plainOf leaf, c.1 / 65536 = leaf) → Mem.wf e.pre = true →
    (∀ c ∈ e.pre, c.1 / 256 = e.line) → s.stripeRecovered leaf read = true →
    ∃ t, exec (.backgroundRestoreLeaf read) s = .next t ∧ t.nand.flash = s.nand.flash ∧ t.groups.slots = s.groups.slots
      ∧ t.undoOf leaf = [] ∧ t.leaf leaf = .dirty ∧ (∀ f, f ≠ leaf → t.leaf f = s.leaf f)
      ∧ (∀ a, Mem.byte t.mem a = if a / 256 = e.line then Mem.byte e.pre a
          else if a / 65536 = leaf then (if (s.copyOf leaf).isSome then Mem.byte (s.plainOf leaf) a else 0)
          else Mem.byte s.mem a))
  ∧ (∀ s : State, s.ctl.mode = .restore → s.ctl.access = true → s.unrestored = 0 → s.save.arm = 0 →
    ∃ t, exec .restoreComplete s = .next t ∧ t.mem = s.mem ∧ t.nand.flash = s.nand.flash ∧ t.leaves = s.leaves
      ∧ t.groups = s.groups ∧ t.ctl.mode = .online ∧ t.ctl.prevMode = .restore ∧ t.save.restoreState = 0
      ∧ t.reg 0x5426 0 = (s.clock.beat - s.save.startBeat) / 100 % 2 ^ 32
      ∧ (s.reg 0x3450 0 ≠ 2 → s.dram.copyWanted = none → s.nand.copies = [] → s.nand.forming = [] →
          s.nand.relocating = [] → s.nand.retiring = [] → RegsKept s t [key 0x5426 0]))
  ∧ (∀ s : State, s.ctl.mode = .restore → s.ctl.access = false → s.security.locked = false → s.save.loading = 0 →
    ∃ t, exec .leafMapRebuildComplete s = .next t ∧ DataKept s t ∧ t.regs = s.regs ∧ t.nand.copies = s.rebuiltMap
      ∧ t.save.loading = 1 ∧ t.save.restoreState = 2 ∧ ∀ n, (t.segment n).units = (s.segment n).units)
  ∧ (∀ (s : State) (ms : Nat), s.ctl.mode = .restore → s.ctl.access = false → s.save.loading = 1 → s.liveImage = none →
    s.liveCheckpoint = none → s.ingress.writes = [] → s.ingress.reads = [] →
    ∃ t, exec (.groupSetLoadComplete ms) s = .next t ∧ t.mem = [] ∧ t.poison = [] ∧ (∀ l, t.leaf l = .clean)
      ∧ (∀ g, (t.slot g).state = .free) ∧ t.ctl.access = true ∧ t.save.loading = 2 ∧ t.ctl.mode = .restore)
  ∧ (∀ (s : State) (ms : Nat) (i : SaveImage), s.ctl.mode = .restore → s.ctl.access = false → s.save.loading = 1 →
    s.liveImage = some i → i.outcome = 1 → s.ctl.newFrom = none → s.ingress.writes = [] → s.ingress.reads = [] →
    ∃ t, exec (.groupSetLoadComplete ms) s = .next t ∧ t.mem = s.mem ∧ t.ctl.access = true ∧ t.ctl.mode = .restore
      ∧ t.save.loading = 2 ∧ t.reg 0x5403 0 = 1
      ∧ ∀ l, t.leaf l = if l ∈ i.lost then .lost else .unrestored)

/-- Each charger event moves the charger as Table 12.4 says and nothing else; a charge timeout puts it in FAULT with
its alarm; a failed string is switched out; the cutoff stops the converter and ends the retention of DRAM; the input
below its warning raises PF_WARN_N. No byte of memory, leaf or slot changes. (R296, R298, R301, R302, R303, R305) -/
def Obligations.ChargerAndStore : Prop :=
  (∀ s : State, s.niura.charger = .precharge → s.cellsAbove 3000 = true →
    exec .prechargeDone s = .next { s with out := [], niura := { s.niura with charger := .cc, termBeats := 0 } })
  ∧ (∀ s : State, s.niura.charger = .cc → s.chargedMv ≤ s.niura.vStoreMv →
    exec .chargerCvReached s = .next { s with out := [], niura := { s.niura with charger := .cv, termBeats := 0 } })
  ∧ (∀ s : State, s.niura.charger = .cv → 100 ≤ s.niura.termBeats →
    ∃ t, exec .chargerFull s = .next t ∧ SameButReports { s with
      out := [], bureau := t.bureau,
      niura := { s.niura with
        charger := .full, termBeats := 0, chargeBeats := 0, firstFull := false,
        healthDue := s.niura.healthDue || s.niura.firstFull } } t
      ∧ (s.niura.firstFull = false → t.bureau = s.bureau))
  ∧ (∀ s : State, s.niura.charger = .full → s.vOc * 100 < s.chargedMv * (100 - s.reg 0x6024 0) →
    exec .chargerRecharge s = .next { s with out := [], niura := { s.niura with charger := .cc, termBeats := 0 } })
  ∧ (∀ s : State, (s.niura.charger = .precharge ∨ s.niura.charger = .cc ∨ s.niura.charger = .cv) →
    s.reg 0x6025 0 * 6000000 < s.niura.chargeBeats →
    ∃ t, exec .chargeTimeout s = .next t ∧ DataKept s t ∧ t.niura.charger = .fault ∧ t.niura.faultTimeout = true
      ∧ t.reg 0x6080 0 / 8 % 2 = 1 ∧ t.hasFault Code.chargerFault = true ∧ RegsKept s t [key 0x6080 0])
  ∧ (∀ s : State, s.niura.charger = .fault → s.niura.faultTimeout = false → 1000 ≤ s.niura.faultBeats →
    ∃ t, exec .chargerFaultRecover s = .next t
      ∧ SameButReports { s with
          out := [],
          niura := { s.niura with charger := .off, faultTimeout := false, faultOver := false, chargeBeats := 0 } } t)
  ∧ (∀ (s : State) (k : Fin 4), s.stringsIn.contains k.val = true → 10 ≤ s.niura.share.get k.val 0 →
    ∃ t, exec (.stringFailed k) s = .next t ∧ DataKept s t ∧ t.niura.switchedOut = s.niura.switchedOut ++ [k.val]
      ∧ t.reg 0x6080 0 % 2 = 1 ∧ t.hasFault Code.stringFailed = true ∧ RegsKept s t [key 0x6080 0])
  ∧ (∀ s : State, s.niura.supply = .holdup → s.vOc ≤ s.vCut →
    exec .storeCutoff s = .next { s with
      out := [], niura := { s.niura with supply := .cutoff },
      ctl := { s.ctl with dramHeld := false, retention := false } })
  ∧ (∀ (s : State) (mv : Nat), s.ctl.vaux = true → mv < s.reg 0x6002 4 →
    ∃ t, exec (.pfWarnAssert mv) s = .next t
      ∧ SameButReports { s with out := [], bureau := t.bureau, niura := { s.niura with pfWarn := true } } t)

/-- A health test falls due; it starts in ONLINE or DROWSE with the shell up, the charger FULL, no hold and no
rehearsal running, and puts the store in TEST; it ends on the input: an accepted result stores the measured capacity
and resistance and, after a request, takes back the strings it names, a rejected one changes no entry. Calibration
keeps what it found of the reference, and the shell's watchdog reports the shell as down; after the rest of profile
3 the charge is set anew. No byte of memory, leaf or slot changes. (R306, R307, R309, R315, R316) -/
def Obligations.HealthTests : Prop :=
  (∀ (s : State) (cause : DueCause), (cause = .period → s.reg 0x6050 0 ≤ s.reg 0x4040 2 - s.niura.healthHour) →
    (cause = .afterSave → s.niura.firstFull = true ∧ s.niura.charger = .full) →
    ∃ t, exec (.healthTestDue cause) s = .next t ∧ SameButReports { s with
      out := [], bureau := t.bureau,
      niura := { s.niura with
        healthDue := true, healthTrial := s.niura.healthTrial || decide (cause = .request) } } t)
  ∧ (∀ s : State, s.niura.healthDue = true → (s.ctl.mode = .online ∨ s.ctl.mode = .drowse) → s.niura.charger = .full →
    (s.trickle.rehearsal = .none ∨ s.trickle.rehearsal = .due) → s.holding = false → s.niura.supply = .input →
    s.niura.shellUp = true →
    ∃ t, exec .healthTestStart s = .next t ∧ DataKept s t ∧ t.regs = s.regs ∧ t.niura.supply = .test
      ∧ t.niura.isolationOpen = false ∧ t.niura.charger = .paused ∧ t.niura.resume = .full ∧ t.niura.healthDue = false
      ∧ t.niura.healthHour = s.reg 0x4040 2)
  ∧ (∀ (s : State) (cap esr : Nat) (strings : Map Nat), s.niura.supply = .test → s.healthGood cap esr = true →
    ∃ t, exec (.healthTestEnd cap esr strings) s = .next t ∧ DataKept s t ∧ t.niura.supply = .input
      ∧ t.niura.accepted = true ∧ t.reg 0x6054 0 = cap ∧ t.reg 0x6055 0 = esr
      ∧ (∀ k, k ∈ t.niura.switchedOut ↔
          k ∈ s.niura.switchedOut ∧ (s.niura.healthTrial = true → strings.find? k = none)))
  ∧ (∀ (s : State) (cap esr : Nat) (strings : Map Nat), s.niura.supply = .test → s.healthGood cap esr = false →
    ∃ t, exec (.healthTestEnd cap esr strings) s = .next t ∧ DataKept s t ∧ t.niura.supply = .input
      ∧ t.niura.accepted = s.niura.accepted ∧ RegsKept s t [])
  ∧ (∀ (s : State) (move disagree : Bool), s.niura.shellUp = true → s.niura.tripBeat ≠ some s.clock.beat →
    ∃ t, exec (.niuraCalibration move disagree) s = .next t
      ∧ SameButReports { s with out := [], niura := { s.niura with refFault := disagree } } t
      ∧ (move = true → t.hasFault Code.niuraCalDrift = true))
  ∧ (∀ s : State, s.niura.shellUp = true →
    ∃ t, exec .niuraShellWatchdog s = .next t
      ∧ SameButReports { s with
          out := [], bureau := t.bureau,
          niura := { s.niura with shellUp := false, shellAt := s.clock.beat } } t
      ∧ t.irqLevel 100 = true ∧ t.hasFault Code.niuraShellFault = true)
  ∧ (∀ s : State, s.reg 0x6000 1 = 3 → s.niura.shellUp = true → 180000000 ≤ s.niura.restBeats →
    ∃ c, exec .ocvCorrection s = .next { s with
      out := [], free := s.free + 1, niura := { s.niura with charge := c, restBeats := 0 } })

/-- An overvoltage of store or cell puts the charger in FAULT, is reported with the alarm on entry, and the cell is
bled; a bus overvoltage turns the gates off; an overload on the store is reported. In ONLINE, DROWSE and RESTORE a
core voltage check reports the guard band and moves the setpoint by 5 mV where R472 says so; the life log counts its
record and clears its sums. No byte of memory, leaf or slot changes. (R313, R472, R473) -/
def Obligations.HardProtections : Prop :=
  (∀ (s : State) (mv : Nat), (s.chargedMv * 105 < mv * 100 ∨ 62000 < mv) →
    ∃ t, exec (.storeOvervoltage mv) s = .next t ∧ DataKept s t ∧ t.niura.charger = .fault
      ∧ t.niura.faultTimeout = s.niura.faultTimeout ∧ t.niura.faultOver = true
      ∧ (s.niura.charger ≠ .fault → t.reg 0x6080 0 / 8 % 2 = 1 ∧ t.hasFault Code.chargerFault = true)
      ∧ RegsKept s t [key 0x6080 0])
  ∧ (∀ (s : State) (cell mv : Nat), s.cellOver (profileMaxMv (s.reg 0x6000 1)) (cell - 1) mv = true → 1 ≤ cell →
    cell ≤ s.reg 0x6000 2 * s.reg 0x6000 3 →
    ∃ t, exec (.cellOvervoltage cell mv) s = .next t ∧ DataKept s t ∧ t.niura.charger = .fault
      ∧ cell - 1 ∈ t.niura.bleeding
      ∧ (s.niura.charger ≠ .fault → t.reg 0x6080 0 / 8 % 2 = 1 ∧ t.hasFault Code.chargerFault = true)
      ∧ RegsKept s t [key 0x6080 0])
  ∧ (∀ (s : State) (mv : Nat), 13800 < mv →
    exec (.busOvervoltage mv) s = .next { s with out := [], niura := { s.niura with gatesOff := true } })
  ∧ (∀ (s : State) (us : Nat), 50 ≤ us → s.niura.supply ≠ .input → s.niura.supply ≠ .cutoff →
    ∃ t, exec (.holdupOverload us) s = .next t ∧ SameButReports { s with out := [] } t
      ∧ t.hasFault Code.holdupOverload = true)
  ∧ (∀ (s : State) (guardMv : Int), s.ctl.mode ≠ .dormant → s.ctl.mode ≠ .bringUp → s.ctl.mode ≠ .save →
    ∃ t, exec (.avsCheck guardMv) s = .next t ∧ DataKept s t ∧ t.reg 0x60A0 2 = s32 guardMv
      ∧ t.reg 0x60A0 1 = (if guardMv < 30 ∧ s.reg 0x60A0 1 + 5 ≤ 850 then s.reg 0x60A0 1 + 5
          else if 60 < guardMv ∧ 8640000 ≤ s.niura.avsAbove + 100000 ∧ 705 ≤ s.reg 0x60A0 1 then s.reg 0x60A0 1 - 5
          else s.reg 0x60A0 1)
      ∧ RegsKept s t [key 0x60A0 1, key 0x60A0 2, key 0x60A0 3])
  ∧ (∀ s : State, s.niura.lifeBeats ≠ 0 →
    ∃ t, exec .thermalLifeLog s = .next t ∧ DataKept s t ∧ Counted s t 0x60A1 3 1
      ∧ t.reg 0x60A1 2 = s.niura.overBeats / 360000000 ∧ t.niura.lifeBeats = 0 ∧ t.niura.lifeSum = 0
      ∧ RegsKept s t [key 0x60A1 1, key 0x60A1 2, key 0x60A1 3])

/-- A rail held good stands GOOD, and the last rail of the last step ends the power-up; rails going down are OFF at
the end of their step; a glitch restarts the step's timers, too many abort it, and so does a step that outlasts its
limit; after the wait the sequence is tried once more; a retried rail is enabled again. No byte of memory, leaf or
slot changes. (R318, R319, R320, R326) -/
def Obligations.RailSequencing : Prop :=
  (∀ (s : State) (r : Fin 32), (s.railState r.val = 1 ∨ s.railState r.val = 3) →
    ∃ t, exec (.railStable r) s = .next t ∧ DataKept s t ∧ t.railState r.val = 2
      ∧ (s.rails.dir = .up → s.railStep r.val = s.rails.step → s.seqRails = [r.val] →
          t.rails.dir = .idle ∧ t.reg 0x6464 0 = 0))
  ∧ (∀ (s : State) (r : Nat), s.rails.dir = .down → s.ctl.mode = .dormant → r ∈ s.rails' → s.railState r = 4 →
    ∃ t, exec .railDown s = .next t ∧ DataKept s t ∧ t.railState r = 0)
  ∧ (∀ (s : State) (r : Fin 32), s.railState r.val = 1 → s.rails.dir = .up → s.railStep r.val = s.rails.step →
    s.rails.restarts < s.reg 0x6461 0 →
    exec (.pgGlitch r) s = .next { s with out := [], rails := { s.rails with restarts := s.rails.restarts + 1 } })
  ∧ (∀ (s : State) (r : Fin 32), s.railState r.val = 1 → s.rails.dir = .up → s.railStep r.val = s.rails.step →
    s.reg 0x6461 0 ≤ s.rails.restarts →
    ∃ t, exec (.pgGlitch r) s = .next t ∧ t.mem = s.mem ∧ t.leaves = s.leaves ∧ t.groups = s.groups
      ∧ t.reg 0x6466 0 = r.val ∧ t.hasFault Code.chatter = true ∧ t.rails.dir ≠ .up)
  ∧ (∀ s : State, s.rails.dir = .up → s.reg (0x6420 + s.rails.step) 1 ≤ s.clock.beat - s.rails.waitFrom →
    ∃ t, exec .seqTimeout s = .next t ∧ t.mem = s.mem ∧ t.leaves = s.leaves ∧ t.groups = s.groups
      ∧ t.hasFault Code.seqTimeout = true ∧ t.rails.dir ≠ .up)
  ∧ (∀ s : State, s.reg 0x6464 0 = 3 → 10000 ≤ s.clock.beat - s.rails.waitFrom → s.ctl.mode = .bringUp →
    ∃ t, exec .seqRetryWaitEnd s = .next t ∧ DataKept s t ∧ t.rails.retried = true ∧ t.reg 0x6464 0 ≤ 1)
  ∧ (∀ (s : State) (r : Fin 32) (n b : Nat), s.rails.retries.find? r.val = some (n, b) → s.railState r.val = 0 →
    100 ≤ s.clock.beat - b →
    ∃ t, exec (.retryRailExpire r) s = .next t ∧ DataKept s t ∧ t.railState r.val = 1
      ∧ RegsKept s t [key (0x6400 + r.val) 7])

/-- Outside SAVE a fault of a GOOD rail of role 1 is counted and recorded with its voltage. By its policy the rail
is kept as it is, is switched off for a retry, or begins its group's grace with PF_WARN_N raised; once the grace is
over an ON group goes down, or, with no SAVE running or armed, a COLD reset follows. But for that reset no byte of
memory, leaf or slot changes. (R322, R323, R324) -/
def Obligations.RailFaultsAct : Prop :=
  (∀ (s : State) (r : Fin 32) (mv : Nat), s.railState r.val = 2 → s.railRole r.val = 1 → s.ctl.mode ≠ .save →
    ∃ t, exec (.railFault r mv) s = .next t ∧ DataKept s t ∧ t.reg (0x6400 + r.val) 10 = mv
      ∧ Counted s t (0x6400 + r.val) 9 1 ∧ t.hasFault Code.railFault = true
      ∧ (s.reg (0x6400 + r.val) 8 = 1 → t.railState r.val = 3 ∧ t.rails = s.rails)
      ∧ (s.reg (0x6400 + r.val) 8 = 2 → s.rails.retries.find? r.val = none →
          t.railState r.val = 0 ∧ t.rails.retries.find? r.val = some (1, s.clock.beat))
      ∧ (s.reg (0x6400 + r.val) 8 = 0 → s.rails.grace.find? (s.railGroup r.val) = none →
          t.railState r.val = 3 ∧ t.niura.pfWarn = true
          ∧ t.rails.grace.find? (s.railGroup r.val) = some (s.clock.beat, false))
      ∧ (s.reg (0x6400 + r.val) 8 = 4 → s.rails.grace.find? (s.railGroup r.val) = none →
          t.rails.grace.find? (s.railGroup r.val) = some (s.clock.beat, true)))
  ∧ (∀ (s : State) (g : Fin 16) (b : Nat), s.rails.grace.find? g.val = some (b, false) →
    s.reg 0x6462 0 ≤ s.clock.beat - b → s.groupState g.val = 2 →
    ∃ t, exec (.railGraceExpire g) s = .next t ∧ DataKept s t ∧ t.rails.grace.find? g.val = none
      ∧ (t.groupState g.val = 3 ∨ t.groupState g.val = 0))
  ∧ (∀ (s : State) (g : Fin 16) (b : Nat), s.rails.grace.find? g.val = some (b, true) →
    s.reg 0x6462 0 ≤ s.clock.beat - b → s.ctl.mode ≠ .save → s.save.arm = 0 →
    ∃ t, exec (.railGraceExpire g) s = .next t ∧ t.reg 0x1101 0 = 3 ∧ Counted s t 0x1102 2 1 ∧ t.ctl.access = false
      ∧ t.ctl.mode = (if s.niura.inputGood then .bringUp else .dormant))

/-- A COLD reset with no SAVE running or armed closes host access, records its cause, is counted, and leads to
BRING-UP or DORMANT by the input with the credited copies of flash kept; with host access closed it leaves the leaf
states, and DRAM too outside test hold. In SAVE, and while a SAVE is armed, it is latched. A POWER-ON reset leaves
DORMANT with every slot FREE, DRAM empty and flash kept; VAUX falling drops what stands in ingress and the retention
of DRAM, and keeps flash and the stored entries. A good input leaves DORMANT for BRING-UP with data kept. BRING-UP
stops with POPULATION_MISMATCH, and where DRAM is ready, the populations are supported, no channel is uncovered and
neither image nor checkpoint can be read, it opens ONLINE with every leaf CLEAN and the capacity found. A BUREAU
reload, and the shutdown and the start of a BLOCK reset, complete. (R13, R115, R280, R294, R331, R339, R341, R344,
R345, R463) -/
def Obligations.ResetsAndBringUp : Prop :=
  (∀ (s : State) (cause : ColdCause), s.ctl.vaux = true → s.ctl.mode ≠ .save → s.save.arm = 0 → s.nand.keyPresent = true →
    ∃ t, exec (.coldReset cause) s = .next t ∧ t.nand.copies = s.nand.copies ∧ t.reg 0x1101 0 = coldCode cause
      ∧ Counted s t 0x1102 2 1 ∧ t.ctl.access = false ∧ t.ctl.consents = 0 ∧ t.ctl.vaux = true
      ∧ t.ctl.mode = (if s.niura.inputGood then .bringUp else .dormant)
      ∧ (s.ctl.access = false → t.leaves = s.leaves ∧ (s.ctl.testHold ≠ 1 → t.mem = s.mem)))
  ∧ (∀ (s : State) (cause : ColdCause), s.ctl.vaux = true → s.ctl.mode = .save ∨ s.save.arm ≠ 0 → s.ctl.coldPending = none →
    exec (.coldReset cause) s = .next { s with out := [], ctl := { s.ctl with coldPending := some cause } })
  ∧ (∀ s : State, s.ctl.vaux = false →
    ∃ t, exec .powerOnReset s = .next t ∧ t.mem = [] ∧ t.nand.flash = s.nand.flash
      ∧ t.ctl.mode = .dormant ∧ t.ctl.vaux = true ∧ t.ctl.access = false ∧ t.ctl.dramHeld = false ∧ Counted s t 0x1102 1 1
      ∧ (∀ g, (t.slot g).state = .free))
  ∧ (∀ s : State, s.ctl.vaux = true →
    ∃ t, exec .vauxFall s = .next t ∧ t.nand.flash = s.nand.flash ∧ t.regs = s.regs ∧ t.ctl.mode = .dormant
      ∧ t.ctl.vaux = false ∧ t.ctl.access = false ∧ t.ctl.dramHeld = false ∧ t.ctl.retention = false
      ∧ t.ingress.writes = [] ∧ t.ingress.reads = [])
  ∧ (∀ s : State, s.ctl.vaux = true → s.niura.high = true → s.niura.inputGood = false →
    s.reg 0x6003 0 ≤ s.niura.highBeats → s.niura.supply ≠ .cutoff →
    ∃ t, exec .inputGood s = .next t ∧ t.mem = s.mem ∧ t.nand.flash = s.nand.flash ∧ t.leaves = s.leaves
      ∧ t.groups = s.groups ∧ t.niura.inputGood = true
      ∧ t.ctl.mode = (if s.ctl.mode = .dormant ∧ s.ctl.haltLock = false ∧ s.seqHalted = false then .bringUp
          else s.ctl.mode))
  ∧ (∀ (s : State) (b : BringUpInputs), s.ctl.mode = .bringUp → s.ctl.stopped = false → s.ctl.recovery = false →
    s.seqDone = true → s.save.arm = 0 → b.channelsMatch = false →
    ∃ t, exec (.bringUpComplete b) s = .next t ∧ DataKept s t ∧ t.ctl.stopped = true
      ∧ t.hasFault Code.populationMismatch = true ∧ RegsKept s t [])
  ∧ (∀ (s : State) (b : BringUpInputs) (p : NandPop), s.ctl.mode = .bringUp → s.ctl.stopped = false → s.ctl.recovery = false →
    s.seqDone = true → s.save.arm = 0 → s.dramReady = true → b.channelsMatch = true → popSupported b = true →
    s.dram.uncovered = [] → s.nandGood b = true → b.nand.head? = some p → s.layoutPending = false →
    s.ctl.testHold ≠ 1 → s.ctl.dramHeld = false → s.liveImage = none → s.liveCheckpoint = none →
    s.ingress.writes = [] → s.ingress.reads = [] →
    (s.layout.found b).hostVisible * 16 ≤ pslcCapacity p b.badBlocks * 10 →
    ∃ t, exec (.bringUpComplete b) s = .next t ∧ t.ctl.mode = .online ∧ t.ctl.access = true ∧ t.ingress.closed = false
      ∧ t.mem = [] ∧ (∀ l, t.leaf l = .clean) ∧ (∀ g, (t.slot g).state = .free)
      ∧ t.layout.channelMiB = 1024 * popGiB b)
  ∧ (∀ s : State, s.ctl.bureauReload = true → s.dict.deferred = [] →
    ∃ t, exec .bureauReloadComplete s = .next t ∧ DataKept s t ∧ t.ctl.bureauReload = false)
  ∧ (∀ (s : State) (c : Nat), s.ctl.blockBusy.find? c = some 1 →
    exec (.blockResetComplete c) s = .next { s with
      out := [], ctl := { s.ctl with blockBusy := s.ctl.blockBusy.put c 2 } })
  ∧ (∀ (s : State) (c : Nat), s.ctl.blockBusy.find? c = some 2 → s.ctl.blockLatched.contains c = false →
    ∃ t, exec (.blockResetComplete c) s = .next t ∧ DataKept s t ∧ t.regs = s.regs
      ∧ t.ctl.blockBusy.find? c = none ∧ (c = 3 → t.niura.shellUp = true))

/-- Each write that passes its checks is answered and acts: link_enable takes a link or, where no duplicate was
found, a Trestle port down or starts it; a layout entry or bank hash bit is stored while the layout in force stays;
a forced outcome, with nothing waiting on it, resolves every IN_DOUBT part of the transaction in `force_txn_id`;
retraining begins in ONLINE or RESTORE when no other runs, a lower rate limit with a record waits for a boundary, an
ACTIVE channel is copied to the spare, and a FAILED one is marked for requalification. No byte of memory changes.
(R71, R82, R111, R123, R126, R136, R144, R205, R228) -/
def Obligations.WritesOfLinksAndLayout : Prop :=
  (∀ (s : State) (role : Role) (link : Fin 4) (v : Nat), s.writePasses role 0x2005 (link.val + 1) v → v ≤ 1 →
    ∃ t, exec (.linkEnableWrite role link v) s = .next t ∧ DataKept s t ∧ WriteAnswered s t role 0x2005 (link.val + 1) v 0
      ∧ t.reg 0x2005 (link.val + 1) = v
      ∧ (v = 0 → (s.link link.val).up = true → (t.link link.val).state = .disabling)
      ∧ (v = 1 → (s.link link.val).state = .disabling → (t.link link.val).state = .pendingStart)
      ∧ (v = 1 → (s.link link.val).state = .down → s.layout.formed link.val = true → s.ctl.mode ≠ .dormant →
          (t.link link.val).state = .training))
  ∧ (∀ (s : State) (role : Role) (v : Nat), s.writePasses role 0x4840 2 v → v ≤ 1 → s.ingress.writes = [] →
    Map.sorted s.groups.slots = true → (∀ e ∈ s.groups.slots, e.2.waiting = []) →
    ∃ t, exec (.forceOutcomeWrite role v) s = .next t ∧ t.mem = s.mem ∧ WriteAnswered s t role 0x4840 2 v 0
      ∧ (∀ g ∈ s.inDoubtParts (s.reg 0x4840 1), (t.slot g).forced = true
          ∧ (t.slot g).state = if v = 1 then .committed else .aborted)
      ∧ ∀ g, g ∉ s.inDoubtParts (s.reg 0x4840 1) → t.slot g = s.slot g)
  ∧ (∀ (s : State) (role : Role) (v : Nat),
    (s.writePasses role 0x2400 1 v → ∃ t, exec (.layoutChangeWrite role .interleaveGrain v) s = .next t ∧ DataKept s t
      ∧ WriteAnswered s t role 0x2400 1 v 0 ∧ t.reg 0x2400 1 = v % 2 ^ 8 ∧ t.layout = s.layout
      ∧ RegsKept s t (key 0x2400 1 :: dictEntries))
    ∧ (s.writePasses role 0x2410 0 v → ∃ t, exec (.layoutChangeWrite role .journalBytes v) s = .next t ∧ DataKept s t
      ∧ WriteAnswered s t role 0x2410 0 v 0 ∧ t.reg 0x2410 0 = v % 2 ^ 64 ∧ t.layout = s.layout
      ∧ RegsKept s t (key 0x2410 0 :: dictEntries))
    ∧ (s.writePasses role 0x2411 0 v → ∃ t, exec (.layoutChangeWrite role .mirrorAreaBytes v) s = .next t ∧ DataKept s t
      ∧ WriteAnswered s t role 0x2411 0 v 0 ∧ t.reg 0x2411 0 = v % 2 ^ 64 ∧ t.layout = s.layout
      ∧ RegsKept s t (key 0x2411 0 :: dictEntries))
    ∧ ∀ sub, 1 ≤ sub → sub ≤ 6 → s.writePasses role 0x3030 sub v →
      ∃ t, exec (.bankHashWrite role sub v) s = .next t ∧ DataKept s t ∧ WriteAnswered s t role 0x3030 sub v 0
        ∧ t.reg 0x3030 sub = (entryItem 0x3030 sub v).value ∧ t.layout = s.layout
        ∧ RegsKept s t (key 0x3030 sub :: dictEntries))
  ∧ (∀ (s : State) (role : Role) (c : Fin 13), s.writePasses role 0x3460 0 (2 ^ c.val) → s.mayTrigger c.val = true →
    (s.ctl.mode = .online ∨ s.ctl.mode = .restore) → s.retrainable c.val = true → s.dram.retrain = none →
    s.dram.queue = [] →
    ∃ t, exec (.retrainRequestWrite role (2 ^ c.val)) s = .next t ∧ DataKept s t
      ∧ WriteAnswered s t role 0x3460 0 (2 ^ c.val) 0 ∧ t.dram.retrain = some c.val ∧ t.reg (0x3400 + c.val) 5 = 1)
  ∧ (∀ (s : State) (role : Role) (c : Fin 13) (v : Nat), s.writePasses role (0x3400 + c.val) 3 v → v < 65536 →
    ∃ t, exec (.rateMaxWrite role c v) s = .next t ∧ DataKept s t ∧ WriteAnswered s t role (0x3400 + c.val) 3 v 0
      ∧ t.reg (0x3400 + c.val) 3 = v ∧ t.reg (0x3400 + c.val) 2 = s.reg (0x3400 + c.val) 2
      ∧ (v < s.reg (0x3400 + c.val) 2 → v ∈ s.recordBins c.val → (c.val, v) ∈ s.dram.verified →
          t.dram.deferredRate.find? c.val = some v ∧ t.dram.trainAt.find? c.val = none)
      ∧ (v < s.reg (0x3400 + c.val) 2 → v ∉ s.recordBins c.val →
          t.dram.deferredRate.find? c.val = none ∧ t.dram.trainAt.find? c.val = some v)
      ∧ (s.reg (0x3400 + c.val) 2 ≤ v → t.dram.deferredRate.find? c.val = none ∧ t.dram.trainAt.find? c.val = none))
  ∧ (∀ (s : State) (role : Role) (c spare : Nat), s.writePasses role 0x3461 0 c → c < 13 → s.chanState c = 0 →
    s.dram.target = none → s.spare = some spare →
    ∃ t, exec (.spareRequestWrite role c) s = .next t ∧ DataKept s t ∧ WriteAnswered s t role 0x3461 0 c 0
      ∧ t.chanState c = 2 ∧ t.chanState spare = 6 ∧ t.reg 0x3450 0 = 1 ∧ t.reg 0x3450 1 = c
      ∧ t.dram.target = some spare)
  ∧ (∀ (s : State) (role : Role) (c : Nat), s.writePasses role 0x3462 0 c → c < 13 → s.chanState c = 4 →
    ∃ t, exec (.requalifyRequestWrite role c) s = .next t ∧ DataKept s t ∧ WriteAnswered s t role 0x3462 0 c 0
      ∧ c ∈ t.dram.requalify)
  ∧ (∀ (s : State) (role : Role) (port : Fin 2) (v : Nat), s.writePasses role (0x4810 + port.val) 2 v → v ≤ 1 →
    s.trestle.duplicate = false →
    ∃ t, exec (.trestleLinkEnableWrite role port v) s = .next t ∧ DataKept s t
      ∧ WriteAnswered s t role (0x4810 + port.val) 2 v 0 ∧ t.reg (0x4810 + port.val) 2 = v
      ∧ (v = 0 → (s.port port.val).state = .inService →
          (t.port port.val).state = .disabling ∧ (t.port port.val).turned = true)
      ∧ (v = 1 → (s.port port.val).state = .disabling → (t.port port.val).state = .pendingStart)
      ∧ (v = 1 → (s.port port.val).state = .down → s.trestleRuns = true → (t.port port.val).state = .training))

/-- Each write that passes its checks is answered and acts: a save is armed for the next boundaries; a COLD reset is
taken with no SAVE running or armed, and latched otherwise; a BUREAU reset starts the reload and a BLOCK reset its
shutdown; a charge timeout and a HALTED sequencer are cleared; the wall time is set; a fault group is cleared;
read-out protection rises, is armed to fall, and falls from level 1 with every byte of DRAM and flash; a key is
revoked. Where no such effect is named, no byte of memory, leaf or slot changes. (R267, R280, R302, R320, R326,
R339, R344, R345, R367, R373, R419, R420) -/
def Obligations.WritesThatAsk : Prop :=
  (∀ (s : State) (role : Role), s.writePasses role 0x5410 0 1 →
    ∃ t, exec (.saveAndResume role) s = .next t ∧ DataKept s t ∧ WriteAnswered s t role 0x5410 0 1 0
      ∧ t.save = { s.save with state := .arming, trigger := .command, arm := 2 } ∧ RegsKept s t dictEntries)
  ∧ (∀ (s : State) (role : Role), s.writePasses role 0x5410 0 2 →
    ∃ t, exec (.saveAndHalt role) s = .next t ∧ DataKept s t ∧ WriteAnswered s t role 0x5410 0 2 0
      ∧ t.save = { s.save with state := .arming, trigger := .commandHalt, arm := 2 } ∧ RegsKept s t dictEntries)
  ∧ (∀ (s : State) (role : Role), s.writePasses role 0x1120 0 1 → s.ctl.mode ≠ .save →
    s.save.arm = 0 →
    ∃ t, exec (.coldResetRequest role 1) s = .next t ∧ WriteAnswered s t role 0x1120 0 1 0 ∧ t.reg 0x1101 0 = 2
      ∧ Counted s t 0x1102 2 1 ∧ t.ctl.access = false
      ∧ t.ctl.mode = (if s.niura.inputGood then .bringUp else .dormant))
  ∧ (∀ (s : State) (role : Role), s.writePasses role 0x1120 0 1 →
    s.ctl.mode = .save ∨ s.save.arm ≠ 0 → s.ctl.coldPending = none →
    ∃ t, exec (.coldResetRequest role 1) s = .next t ∧ DataKept s t ∧ WriteAnswered s t role 0x1120 0 1 0
      ∧ t.ctl.coldPending = some .command ∧ RegsKept s t dictEntries)
  ∧ (∀ (s : State) (role : Role), s.writePasses role 0x1121 0 1 → s.ctl.mode ≠ .bringUp →
    ∃ t, exec (.bureauResetRequest role 1) s = .next t ∧ DataKept s t ∧ WriteAnswered s t role 0x1121 0 1 0
      ∧ t.ctl.bureauReload = true ∧ t.reg 0x1101 0 = 4 ∧ Counted s t 0x1102 4 1 ∧ t.bureau.active = [])
  ∧ (∀ (s : State) (role : Role) (c : Nat), s.writePasses role 0x1122 2 1 → s.reg 0x1122 1 = c → 1 ≤ c → c ≤ 8 →
    s.ctl.blockBusy.find? c = none →
    ∃ t, exec (.blockResetRequest role 1) s = .next t ∧ (c ≠ 2 ∨ s.ctl.testHold ≠ 1 → t.mem = s.mem)
      ∧ t.nand.flash = s.nand.flash ∧ t.leaves = s.leaves ∧ t.groups = s.groups
      ∧ t.ctl.mode = s.ctl.mode ∧ WriteAnswered s t role 0x1122 2 1 0 ∧ t.ctl.blockBusy.find? c = some 1
      ∧ Counted s t 0x1102 5 1)
  ∧ (∀ (s : State) (role : Role), s.writePasses role 0x6026 0 1 → s.niura.charger = .fault →
    s.niura.faultTimeout = true →
    ∃ t, exec (.chargerFaultClear role 1) s = .next t ∧ DataKept s t ∧ WriteAnswered s t role 0x6026 0 1 0
      ∧ t.niura.charger = (if s.niura.faultOver = true ∧ s.niura.faultBeats < 1000 then .fault else .off)
      ∧ t.niura.faultTimeout = false ∧ RegsKept s t dictEntries)
  ∧ (∀ (s : State) (role : Role), s.writePasses role 0x6465 0 1 → s.reg 0x6464 0 = 4 → s.niura.inputGood = true →
    s.ctl.mode = .dormant → s.ctl.haltLock = false →
    ∃ t, exec (.seqRetryRequest role 1) s = .next t ∧ t.mem = s.mem ∧ t.nand.flash = s.nand.flash ∧ t.groups = s.groups
      ∧ t.ctl.mode = .bringUp)
  ∧ (∀ (s : State) (role : Role), s.writePasses role 0x6465 0 1 → s.reg 0x6464 0 = 4 →
    s.niura.inputGood = false ∨ s.ctl.mode ≠ .dormant ∨ s.ctl.haltLock = true →
    ∃ t, exec (.seqRetryRequest role 1) s = .next t ∧ DataKept s t ∧ WriteAnswered s t role 0x6465 0 1 0
      ∧ t.reg 0x6464 0 = 0 ∧ t.rails.retried = false ∧ RegsKept s t (key 0x6464 0 :: dictEntries))
  ∧ (∀ (s : State) (role : Role) (g : Fin 16) (v : Nat), s.writePasses role (0x6440 + g.val) 1 v → v ≤ 1 →
    ∃ t, exec (.groupEnableWrite role g v) s = .next t ∧ DataKept s t ∧ WriteAnswered s t role (0x6440 + g.val) 1 v 0
      ∧ t.reg (0x6440 + g.val) 1 = v ∧ (v = 1 → s.groupState g.val = 3 → t.groupState g.val = 4)
      ∧ (v = 0 → s.groupState g.val = 4 → t.groupState g.val = 3))
  ∧ (∀ (s : State) (role : Role) (v : Nat), s.writePasses role 0x1200 2 v → v < 2 ^ 64 →
    ∃ t, exec (.wallTimeWrite role v) s = .next t ∧ t.mem = s.mem ∧ t.leaves = s.leaves ∧ t.groups = s.groups
      ∧ WriteAnswered s t role 0x1200 2 v 0 ∧ t.clock = { s.clock with wallNs := ofS64 v, wallSet := true }
      ∧ RegsKept s t (key 0x1200 4 :: dictEntries))
  ∧ (∀ (s : State) (role : Role) (b : Fin 17), s.writePasses role (0x7000 + b.val) 10 1 →
    ∃ t, exec (.faultClear role b 1) s = .next t ∧ DataKept s t ∧ WriteAnswered s t role (0x7000 + b.val) 10 1 0
      ∧ t.faultGroup b.val = (s.faultGroup b.val).clear b.val s.clock.ext ∧ RegsKept s t dictEntries)
  ∧ (∀ (s : State) (role : Role) (v : Nat), s.writePasses role 0x8010 0 v → s.eflash.rdpLevel < v → v ≤ 2 →
    ∃ t, exec (.rdpRaise role v) s = .next t ∧ DataKept s t ∧ WriteAnswered s t role 0x8010 0 v 0
      ∧ t.eflash.rdpLevel = v ∧ (v = 2 → t.eflash.rdpFuse = true) ∧ RegsKept s t dictEntries)
  ∧ (∀ (s : State) (role : Role), s.writePasses role 0x8011 0 0x5A5A →
    ∃ t, exec (.rdpLowerArm role 0x5A5A) s = .next t ∧ DataKept s t ∧ WriteAnswered s t role 0x8011 0 0x5A5A 0
      ∧ t.eflash.lowerArm = some s.clock.beat ∧ RegsKept s t dictEntries)
  ∧ (∀ (s : State) (role : Role), s.writePasses role 0x8010 0 0 → s.eflash.rdpLevel = 1 → s.ctl.mode ≠ .save →
    s.save.arm = 0 → s.test.running = [] →
    ∃ t, exec (.rdpLower role) s = .next t ∧ WriteAnswered s t role 0x8010 0 0 0 ∧ t.eflash.rdpLevel = 0 ∧ t.mem = []
      ∧ t.nand.copies = [] ∧ (∀ e ∈ s.nand.segments, e.1 ∈ t.nand.marked) ∧ t.reg 0x1101 0 = 6 ∧ t.ctl.access = false)
  ∧ (∀ (s : State) (role : Role), s.writePasses role 0x8403 1 0xC0DE →
    ∃ t, exec (.keyRevokeArm role 0xC0DE) s = .next t ∧ DataKept s t ∧ WriteAnswered s t role 0x8403 1 0xC0DE 0
      ∧ t.security.revokeArm = some s.clock.beat ∧ RegsKept s t dictEntries)
  ∧ (∀ (s : State) (role : Role) (k : Fin 4), s.writePasses role 0x8403 0 k.val →
    ∃ t, exec (.keyRevokeRequest role k.val) s = .next t ∧ DataKept s t ∧ WriteAnswered s t role 0x8403 0 k.val 0
      ∧ t.security.revoked.getLsbD k.val = true ∧ t.security.revokeArm = none ∧ RegsKept s t dictEntries)

/-- A valid message is counted and answered by its own path, and reads change nothing else: a READ answers every
item with its value or its own error, a READ with SNAPSHOT waits for the boundary, a DESCRIBE answers every
descriptor, a WRITE item that fails a check answers its code and stores nothing, a WRITE of a BEAT entry waits for
the boundary, a malformed message gets MALFORMED, and a request from another member is executed as role T with its
response queued in cells of 44 B. (R235, R348, R350, R355, R356, R357, R359, R360, R364) -/
def Obligations.DictionaryMessages : Prop :=
  (∀ (s : State) (m : DictMsg), s.serves m.role m.link → s.fits .read m → m.snapshot = false →
    (∀ i ∈ m.items, ¬(i.index = 0x7430 ∧ i.sub = 3)) →
    ∃ t, exec (.dictRead m) s = .next t ∧ DataKept s t ∧ Counted s t 0xA032 0 1 ∧ RegsKept s t [key 0xA032 0]
      ∧ Output.dict m.role m.link.val m.tag 0 0 0 0 (m.items.map fun i => ((s.asked m.role).readItem m.role i).2) ∈ t.out)
  ∧ (∀ (s : State) (m : DictMsg), s.serves m.role m.link → s.fits .read m → m.snapshot = true →
    exec (.dictRead m) s = .next { s.asked m.role with
      dict := { s.dict with snapshots := s.dict.snapshots ++ [m] } })
  ∧ (∀ (s : State) (m : DictMsg), s.serves m.role m.link → malformed .read m = true → m.tag < 65536 →
    ∃ t, exec (.dictRead m) s = .next t ∧ DataKept s t ∧ t.regs = s.regs
      ∧ Output.dict m.role m.link.val m.tag 1 0 m.handle 0 [] ∈ t.out)
  ∧ (∀ (s : State) (m : DictMsg), s.serves m.role m.link → s.fits .describe m →
    ∃ t, exec (.dictDescribe m) s = .next t ∧ DataKept s t ∧ Counted s t 0xA032 0 1 ∧ RegsKept s t [key 0xA032 0]
      ∧ Output.describe m.role m.link.val m.tag 0 (m.items.map fun i => (s.asked m.role).describe i.index i.sub) ∈ t.out)
  ∧ (∀ (s : State) (m : DictMsg) (i : Item), s.serves m.role m.link → s.fits .write m → m.items = [i] →
    (s.asked m.role).writeCode m.role i ≠ 0 →
    ∃ t, exec (.dictWrite m) s = .next t ∧ DataKept s t ∧ Counted s t 0xA032 0 1 ∧ RegsKept s t [key 0xA032 0]
      ∧ Output.dict m.role m.link.val m.tag 0 0 0 0 [respOf i ((s.asked m.role).writeCode m.role i)] ∈ t.out)
  ∧ (∀ (s : State) (m : DictMsg) (i : Item), s.serves m.role m.link → s.fits .write m → m.items = [i] →
    (s.asked m.role).writeCode m.role i = 0 → beatEntry i.index i.sub = true →
    ∃ t, exec (.dictWrite m) s = .next t ∧ DataKept s t ∧ Counted s t 0xA032 0 1 ∧ RegsKept s t [key 0xA032 0]
      ∧ t.out = [] ∧ ∃ u, t.dict.submitted = s.dict.submitted ++ [u] ∧ u.slot = none
        ∧ u.items = [(i, (s.asked m.role).selNo i.index i.sub)])
  ∧ (∀ (s : State) (source : Nat) (m m' : DictMsg), s.inDomain = true → s.ownAlive = true → source < 1024 →
    m' = { m with role := .fleet, member := source } → s.serves .fleet m.link → s.fits .read m' → m.snapshot = false →
    (∀ i ∈ m.items, ¬(i.index = 0x7430 ∧ i.sub = 3)) →
    ∃ t, exec (.tunnelReqReceived source .read m) s = .next t ∧ DataKept s t ∧ Counted s t 0xA032 0 1
      ∧ RegsKept s t [key 0xA032 0]
      ∧ Output.dict .fleet m.link.val m.tag 0 0 0 0 (m.items.map fun i => ((s.asked .fleet).readItem .fleet i).2) ∈ t.out
      ∧ t.trestle.wait.length = s.trestle.wait.length
          + ceilDiv (respBytes .read (m.items.map fun i => ((s.asked .fleet).readItem .fleet i).2)) 44)

/-- Any write of one entry that a check refuses answers its code and leaves every entry unchanged. A write by a role
that may write the entry that sets a reserved bit of a BITS32 entry, or writes a reserved value to an ENUM8 entry,
gets RANGE; a write of an F-class entry passes only through role S, where the entry lists S as RW, at read-out
protection level 0, and gets LOCKED at level 1 or 2. The order of the checks is the model's choice (log entry 25):
the length, the role's access, and mode SAVE are judged first. (R5, R351) -/
def Obligations.WritesAreChecked : Prop :=
  (∀ (s : State) (role : Role) (idx sub v len : Nat) (i : Item), s.serves role s.hostLink → len ≤ 256 →
    i = Item.mk (idx % 65536) (sub % 256) (v % 2 ^ (8 * len)) len → (s.asked role).writeCode role i ≠ 0 →
    ∃ t, exec (.registerWrite role idx sub v len) s = .next t ∧ DataKept s t ∧ RegsKept s t [key 0xA032 0]
      ∧ Output.dict role s.hostLink.val 0 0 0 0 0 [respOf i ((s.asked role).writeCode role i)] ∈ t.out)
  ∧ (∀ (s : State) (role : Role) (idx sub v : Nat) (r : Entry), s.serves role s.hostLink → s.ctl.mode ≠ .save →
    idx < 65536 → sub < 256 → rowOf idx sub = some r → r.access role ≠ .ro →
    (r.keep = .f → s.eflash.rdpLevel = 0) → v < 2 ^ (8 * r.size) →
    ((r.type = 9 ∧ ∃ n, v.testBit n = true ∧ n < 32 ∧ r.max.toNat.testBit n = false)
      ∨ (r.type = 8 ∧ r.values ≠ [] ∧ (v : Int) ∉ r.values)
      ∨ (r.type = 8 ∧ r.values = [] ∧ (v : Int) ∉ r.also ∧ ((v : Int) < r.min ∨ r.max < (v : Int)))) →
    ∃ t, exec (.registerWrite role idx sub v r.size) s = .next t ∧ DataKept s t ∧ RegsKept s t [key 0xA032 0]
      ∧ Output.dict role s.hostLink.val 0 0 0 0 0 [⟨idx, sub, 4, r.type, 0⟩] ∈ t.out)
  ∧ (∀ (s : State) (role : Role) (i : Item) (r : Entry), rowOf i.index i.sub = some r → r.keep = .f →
    (s.writeCode role i = 0 → role = .service ∧ r.s = .rw ∧ s.eflash.rdpLevel = 0)
    ∧ (s.eflash.rdpLevel ≠ 0 → role = .service → r.s = .rw → i.len = r.size → s.ctl.mode ≠ .save →
        s.writeCode role i = 6))

/-- A write that passes its checks, of an entry that acts on no selected unit and takes effect at once, is stored
and answered with code 0; every other entry stays, but for the generation of the D values and the count of messages.
(R348, R350, R353, R354) -/
def Obligations.WritesAreStored : Prop :=
  ∀ (s : State) (role : Role) (idx sub v : Nat) (r : Entry), s.writePasses role idx sub v → idx < 65536 → sub < 256 →
    rowOf idx sub = some r → r.access role ≠ .w1c → beatEntry idx sub = false →
    (s.asked role).selection idx sub = none →
    (s.asked role).act idx sub (v % 2 ^ (8 * r.size)) = none →
    ∃ t, exec (.registerWrite role idx sub v r.size) s = .next t ∧ DataKept s t ∧ WriteAnswered s t role idx sub v 0
      ∧ t.reg idx sub = v % 2 ^ (8 * r.size) ∧ (r.keep = .d → t.reg 0xA003 0 = (s.reg 0xA003 0 + 1) % 2 ^ 64)
      ∧ RegsKept s t (key idx sub :: dictEntries)

/-- SET_OPEN reserves the first free slot under a new handle, or answers SET_TOO_LARGE; SET_ADD stages an item that
passes its own checks and marks the set FAILED by one that does not, with no entry changed; SET_SUBMIT closes the
set for the next step 4, or frees a FAILED set with nothing applied; SET_DISCARD and the idle time free it; a handle
of another generation gets NO_ENTRY. A set of which an item fails at step 4 changes no entry. (R361, R362, R363) -/
def Obligations.ChangeSets : Prop :=
  (∀ (s : State) (m : DictMsg) (k : Nat), s.serves m.role m.link → s.fits .setOpen m →
    (List.range 16).find? (fun j => (s.dict.sets.find? j).isNone) = some k →
    ∃ t, exec (.setOpen m) s = .next t ∧ DataKept s t ∧ RegsKept s t [key 0xA032 0]
      ∧ t.dict.sets.find? k = some { generation := s.dict.nextGen, submitted := false, failed := false, items := [],
                                     lastBeat := s.clock.beat }
      ∧ Output.dict m.role m.link.val m.tag 0 0 (handleOf k s.dict.nextGen) 0 [] ∈ t.out)
  ∧ (∀ (s : State) (m : DictMsg), s.serves m.role m.link → s.fits .setOpen m →
    (∀ k < 16, (s.dict.sets.find? k).isSome = true) →
    ∃ t, exec (.setOpen m) s = .next t ∧ DataKept s t ∧ RegsKept s t [key 0xA032 0] ∧ t.dict = s.dict
      ∧ Output.dict m.role m.link.val m.tag 0 10 0 0 [] ∈ t.out)
  ∧ (∀ (s : State) (m : DictMsg) (i : Item) (k : Nat) (c : ChangeSet), s.serves m.role m.link → s.fits .setAdd m →
    s.ctl.mode ≠ .save → s.setOf m.handle = some (k, c) → c.submitted = false → m.items = [i] →
    (s.itemCheck m.role i ≠ 0 →
      ∃ t, exec (.setAdd m) s = .next t ∧ DataKept s t ∧ RegsKept s t [key 0xA032 0]
        ∧ t.dict.sets.find? k = some { c with lastBeat := s.clock.beat, failed := true }
        ∧ Output.dict m.role m.link.val m.tag 0 0 m.handle 0 [respOf i (s.itemCheck m.role i)] ∈ t.out)
    ∧ (s.itemCheck m.role i = 0 → (∀ e ∈ c.items, ¬(e.1.index = i.index ∧ e.1.sub = i.sub)) → c.items.length < 256 →
        c.bytes + i.len ≤ 16384 →
      ∃ t, exec (.setAdd m) s = .next t ∧ DataKept s t ∧ RegsKept s t [key 0xA032 0]
        ∧ t.dict.sets.find? k = some { c with
            lastBeat := s.clock.beat, items := c.items ++ [(i, (s.asked m.role).selNo i.index i.sub)] }
        ∧ Output.dict m.role m.link.val m.tag 0 0 m.handle 0 [respOf i 0] ∈ t.out))
  ∧ (∀ (s : State) (m : DictMsg) (k : Nat) (c : ChangeSet), s.serves m.role m.link → s.fits .setSubmit m →
    s.ctl.mode ≠ .save → s.setOf m.handle = some (k, c) → c.submitted = false →
    (c.failed = false → (∀ e ∈ c.items, s.entryPending e.1.index e.1.sub e.2 = false) →
      ∃ t, exec (.setSubmit m) s = .next t ∧ DataKept s t ∧ RegsKept s t [key 0xA032 0] ∧ t.out = []
        ∧ t.dict.sets.find? k = some { c with submitted := true }
        ∧ t.dict.submitted = s.dict.submitted ++ [Submitted.mk (some k) 0 0 m.role m.link m.member m.tag c.items])
    ∧ (c.failed = true →
      ∃ t, exec (.setSubmit m) s = .next t ∧ DataKept s t ∧ RegsKept s t [key 0xA032 0, key 0x1202 2]
        ∧ Counted s t 0x1202 2 1 ∧ t.dict.sets.find? k = none ∧ t.dict.submitted = s.dict.submitted
        ∧ Output.dict m.role m.link.val m.tag 0 9 m.handle 0 [] ∈ t.out))
  ∧ (∀ (s : State) (m : DictMsg) (k : Nat) (c : ChangeSet), s.serves m.role m.link → s.fits .setDiscard m →
    s.setOf m.handle = some (k, c) → c.submitted = false →
    ∃ t, exec (.setDiscard m) s = .next t ∧ DataKept s t ∧ RegsKept s t [key 0xA032 0]
      ∧ t.dict = { s.dict with sets := s.dict.sets.del k }
      ∧ Output.dict m.role m.link.val m.tag 0 0 m.handle 0 [] ∈ t.out)
  ∧ (∀ (s : State) (m : DictMsg), s.serves m.role m.link → s.fits .setStatus m →
    ∃ t, exec (.setStatus m) s = .next t ∧ DataKept s t ∧ RegsKept s t [key 0xA032 0]
      ∧ Output.dict m.role m.link.val m.tag 0
          (match s.setOf m.handle with
            | none => 1
            | some (_, c) => if c.submitted then 8 else if c.failed then 9 else 0) m.handle 0 [] ∈ t.out)
  ∧ (∀ (s : State) (k : Fin 16) (c : ChangeSet), s.dict.sets.find? k.val = some c → c.submitted = false →
    s.reg 0xA030 0 ≤ s.clock.beat - c.lastBeat →
    exec (.setIdleTimeout k) s = .next { s with
      out := [], dict := { s.dict with sets := s.dict.sets.del k.val } })
  ∧ (∀ (s : State) (u : Submitted), s.setFails u ≠ [] →
    DataKept s (s.applySet u) ∧ ∀ k, k ≠ key 0x1202 2 → (s.applySet u).regs.find? k = s.regs.find? k)

/-- Spooled records leave for the embedded flash, delayed by a suspended erase; a failed ring is recorded and its
unreadable records are gone; a read of a record moves only the read pointer and the count of torn ones; an injector
counts, disarms or waits for its next occurrence; a failed pair gives its roles to the spare and a takeover is
recorded, with no pair left the Bureau is lost; SRAM repairs take spares and an uncorrectable word is recovered by
its owner; a claim returns the pending source of highest priority and marks it active, and a completion ends that.
(R375, R382, R384, R385, R391, R393, R394, R395, R396, R397, R454, R455) -/
def Obligations.ChestInjectorsAndBureau : Prop :=
  (∀ (s : State) (b : Fin 17), (s.faultGroup b.val).injLive ≠ 0 → (s.faultGroup b.val).injBeat + 1 ≤ s.clock.beat →
    exec (.injectedLiveClear b) s = .next { s with
      out := [], faults := s.faults.put b.val { s.faultGroup b.val with injLive := 0 } })
  ∧ (∀ (s : State) (r : ChestRec) (b : Nat), s.chest.eflashWait = [r] → b = spoolBank s.chest.spoolSector →
    (s.bank b).op = none →
    ((s.bank b).suspended = none → s.eflash.brownout = false → s.chest.spoolUsed + r.places ≤ 64 →
      ∃ t, exec .chestEflashSpool s = .next t ∧ DataKept s t ∧ Counted s t (0x8000 + b) 3 1
        ∧ t.chest = { s.chest with
            eflashWait := [], eflash := s.chest.eflash ++ [(s.chest.spoolSector, r)],
            spoolUsed := s.chest.spoolUsed + r.places }
        ∧ RegsKept s t [key (0x8000 + b) 3])
    ∧ ((s.bank b).suspended ≠ none →
      ∃ t, exec .chestEflashSpool s = .next t ∧ SameButReports { s with out := [] } t
        ∧ t.hasFault Code.spoolDelayed = true ∧ t.chest.eflash = s.chest.eflash)
    ∧ ((s.bank b).suspended = none → s.eflash.brownout = true →
      ∃ t, exec .chestEflashSpool s = .next t ∧ DataKept s t ∧ Counted s t 0x8031 0 1
        ∧ t.hasFault Code.spoolWriteFailed = true ∧ t.chest.eflash = s.chest.eflash ∧ RegsKept s t [key 0x8031 0]))
  ∧ (∀ (s : State) (lost : Nat), s.chest.ringFailed = false →
    ∃ t, exec (.chestRingFailed lost) s = .next t ∧ SameButReports { s with out := [] } t ∧ t.chest.ringFailed = true
      ∧ t.chest.unspooled = s.chest.unspooled - min lost s.chest.unspooled
      ∧ t.hasFault Code.chestRingFailed = true)
  ∧ (∀ (s : State) (role : Role), ∃ t, exec (.chestReadRecord role) s = .next t ∧ DataKept s t ∧ t.chest = s.chest
      ∧ RegsKept s t [key 0x7430 4, key 0x7430 5]
      ∧ (∀ r, s.recordAt.1 = some r → s.reg 0x7430 1 ≤ r.seq ∧ r.torn = false ∧ t.reg 0x7430 4 = r.seq + 1
          ∧ t.out = [.chestRecord (some r)])
      ∧ (s.recordAt.1 = none → t.reg 0x7430 4 = s.reg 0x7430 1 ∧ t.out = [.chestRecord none]))
  ∧ (∀ (s : State) (b : Fin 17) (due left : Nat), s.test.injDue.find? b.val = some (due, left) →
    due ≤ s.clock.ext.toNat → s.reg (0x9100 + b.val) 2 ≠ 0 →
    (s.injectHeld = true →
      ∃ t, exec (.injectorFire b) s = .next t ∧ DataKept s t ∧ Counted s t (0x9100 + b.val) 8 1 ∧ t.faults = s.faults
        ∧ RegsKept s t [key (0x9100 + b.val) 8, key (0x9100 + b.val) 2])
    ∧ (s.injectHeld = false → s.reg (0x9100 + b.val) 2 = 1 →
      ∃ t, exec (.injectorFire b) s = .next t ∧ DataKept s t ∧ Counted s t (0x9100 + b.val) 7 1
        ∧ t.hasFault (32 * b.val + s.reg (0x9100 + b.val) 1 % 32) = true
        ∧ (left ≤ 1 → t.test.injDue.find? b.val = none ∧ t.reg (0x9100 + b.val) 2 = 0)
        ∧ (1 < left → t.test.injDue.find? b.val = some (due + s.reg (0x9100 + b.val) 5, left - 1))
        ∧ RegsKept s t [key (0x9100 + b.val) 7, key (0x9100 + b.val) 2]))
  ∧ (∀ (s : State) (k : Fin 5) (n : Nat), s.pairState k.val ≠ 2 → s.pairState k.val ≠ 3 → s.sparePair = some n →
    ∃ t, exec (.pairFail k) s = .next t ∧ DataKept s t ∧ t.pairState k.val = 2 ∧ t.pairState n = 0
      ∧ Counted s t (0x7800 + k.val) 3 1 ∧ t.pairRoles k.val = 0 ∧ t.hasFault Code.pairMismatch = true ∧ t.irqLevel 101 = true
      ∧ (∀ c ∈ rolesOf (s.pairRoles k.val), t.bureau.takeover.find? c = some (8 * k.val + n))
      ∧ RegsKept s t [key (0x7800 + k.val) 1, key (0x7800 + k.val) 3, key (0x7800 + n) 1])
  ∧ (∀ (s : State) (k : Fin 5), s.pairState k.val ≠ 2 → s.pairState k.val ≠ 3 →
    (∀ j < 5, j ≠ k.val → s.pairState j = 2) →
    ∃ t, exec (.pairFail k) s = .next t ∧ DataKept s t ∧ t.pairState k.val = 2 ∧ t.bureau.lost = true
      ∧ t.hasFault Code.bureauLost = true)
  ∧ (∀ (s : State) (c : Fin 4) (v : Nat), s.bureau.takeover.find? c.val = some v →
    ∃ t, exec (.pairTakeoverComplete c) s = .next t ∧ DataKept s t ∧ Counted s t 0x7805 0 1
      ∧ t.bureau = { s.bureau with takeover := s.bureau.takeover.del c.val, level := t.bureau.level, since := t.bureau.since }
      ∧ t.irqLevel 101 = true ∧ RegsKept s t [key 0x7805 0])
  ∧ (∀ (s : State) (k : Nat), s.sparePair = some k →
    exec (.spareSelfTest true) s = .next { s with out := [] }
    ∧ ∃ t, exec (.spareSelfTest false) s = .next t ∧ DataKept s t ∧ t.pairState k = 2
      ∧ t.hasFault Code.sparePairFailed = true ∧ t.irqLevel 101 = true ∧ RegsKept s t [key (0x7800 + k) 1])
  ∧ (∀ (s : State) (array : Nat) (column : Bool), array < 512 →
    ((if column then s.bureau.sparesCol.get array 0 < 4 else s.bureau.sparesRow.get array 0 < 8) →
      ∃ t, exec (.sramRepair array column) s = .next t ∧ DataKept s t ∧ Counted s t 0x7806 (if column then 2 else 1) 1
        ∧ (if column then t.bureau.sparesCol.get array 0 = s.bureau.sparesCol.get array 0 + 1
            else t.bureau.sparesRow.get array 0 = s.bureau.sparesRow.get array 0 + 1)
        ∧ RegsKept s t [key 0x7806 (if column then 2 else 1)])
    ∧ ((if column then 4 ≤ s.bureau.sparesCol.get array 0 else 8 ≤ s.bureau.sparesRow.get array 0) →
      ∃ t, exec (.sramRepair array column) s = .next t ∧ SameButReports { s with out := [], bureau := t.bureau } t
        ∧ t.irqLevel 102 = true
        ∧ t.hasFault Code.sramSparesExhausted = true))
  ∧ (∀ s : State,
    (∀ o : SramOwner, o = .groupTable ∨ o = .claimCache ∨ o = .longcaseTables ∨ o = .chestRing →
      ∃ t, exec (.sramUe o) s = .next t ∧ DataKept s t ∧ Counted s t 0x7806 5 1 ∧ t.hasFault Code.sramUe = true
        ∧ RegsKept s t [key 0x7806 5])
    ∧ (∀ b, ∃ t, exec (.sramUe (.heat [b])) s = .next t ∧ DataKept s t ∧ Counted s t 0x7806 5 1
        ∧ t.hasFault Code.sramUe = true ∧ RegsKept s t [key 0x7806 5]
        ∧ t.heat.find? b = some { old := false, last := s.nowMs % 32768, heat := 0 })
    ∧ (∀ l, s.leaf l ≠ .restoring → s.leaf l ≠ .copying →
        ∃ t, exec (.sramUe (.leafTable [l])) s = .next t ∧ t.mem = s.mem ∧ t.groups = s.groups
          ∧ t.leaves = s.leaves.set l (s.reloadLeaves.get l) ∧ Counted s t 0x7806 5 1
          ∧ t.hasFault Code.sramUe = true ∧ RegsKept s t [key 0x7806 5])
    ∧ (∀ k : Fin 5, s.pairState k.val ≠ 2 → ∃ t, exec (.sramUe (.bureau k)) s = .next t ∧ DataKept s t
        ∧ t.pairState k.val = 2 ∧ Counted s t 0x7806 5 1 ∧ t.hasFault Code.sramUe = true))
  ∧ (∀ (s : State) (n : Fin 512), irqReserved n.val = false →
    ∃ t, exec (.irqSourceRaise n) s = .next t ∧ t = { s with out := [], bureau := t.bureau }
      ∧ (irqDerived n.val = false → n.val ∈ t.bureau.level)
      ∧ t.bureau.active = s.bureau.active
      ∧ (t.irqPending n.val = true → s.roleIdle (s.irqRole n.val) = true ∨ s.irqPriority n.val = 15 →
          t.irqLine (s.irqRole n.val) = true))
  ∧ (∀ (s : State) (roles : List Nat) (n : Nat), s.claimSource roles = some n →
    s.irqPending n = true ∧ s.irqRole n ∈ roles ∧ s.claimThreshold roles < s.irqPriority n
    ∧ ∀ m ∈ s.irqSources, s.irqPending m = true → s.irqRole m ∈ roles →
        s.irqPriority m < s.irqPriority n ∨ (s.irqPriority m = s.irqPriority n ∧ n ≤ m))
  ∧ (∀ (s : State) (c : Fin 4), s.claimRoles c.val ≠ [] →
    (s.claimSource (s.claimRoles c.val) = none →
      exec (.irqClaim c) s = .next { s with out := [.claimed 0] })
    ∧ ∀ n, s.claimSource (s.claimRoles c.val) = some n →
      ∃ t, exec (.irqClaim c) s = .next t ∧ DataKept s t ∧ t.out = [.claimed (n + 2 ^ 31)]
        ∧ t.bureau.active.find? n = some (s.irqRole n) ∧ t.irqPending n = false
        ∧ Counted s t (0x7821 + c.val) 2 1 ∧ RegsKept s t [key (0x7821 + c.val) 2])
  ∧ (∀ (s : State) (c : Fin 4) (n r : Nat), s.bureau.active.find? n = some r → r ∈ s.claimRoles c.val →
    ∃ t, exec (.irqComplete c n) s = .next t ∧ DataKept s t ∧ t.regs = s.regs
      ∧ t.bureau.active = s.bureau.active.del n ∧ (t.irqPending n = true → n ∈ t.irqSources →
          t.roleIdle (t.irqRole n) = true → t.irqLine (t.irqRole n) = true))
  ∧ (∀ (s : State) (c : Fin 4) (n : Nat), (∀ r, s.bureau.active.find? n = some r → r ∉ s.claimRoles c.val) →
    exec (.irqComplete c n) s = .next (({ s with out := [] } : State).addReg (0x7821 + c.val) 4 1))
  ∧ (∀ (s : State) (g : Fin 32), s.groupPending g.val ≠ [] → s.moderated g.val = true →
    ∃ t, exec (.irqModerationExpire g) s = .next t
      ∧ t = { s with out := [], bureau := { s.bureau with line := t.bureau.line } }
      ∧ ∀ n ∈ s.groupPending g.val, t.irqLine (s.irqRole n) = true)

/-- Each command of a bank changes that bank alone: an unlock clears the sticky bits and opens its sequence; stores
load program data or start the erase that is named, journalled first; the start byte runs a program of erased units;
SUSPEND holds the running operation and RESUME goes on; MARGIN_READ, READ_STATUS and EXIT set the read mode; a store
out of sequence sets SEQ_ERR. Reads answer data, the status word or a bus fault. A finished program leaves its data
and a finished erase its sector erased; a failed one sets VERIFY_FAIL and its fault. A brown-out ends what runs. A
scrub rewrites a failing sector with its content kept. (R404, R405, R406, R407, R408, R410, R412, R413, R415, R416,
R417) -/
def Obligations.EmbeddedFlashSequencer : Prop :=
  (∀ (s : State) (b : Fin 2), (s.bank b.val).idle = true → s.eflash.brownout = false →
    (∃ t, exec (.eflashProgram b false) s = .next t ∧ FlashOnly s t b.val ∧ t.out = []
      ∧ t.bank b.val = { s.bank b.val with sticky := 0, sequence := .loading [] })
    ∧ (∃ t, exec (.eflashSectorErase b) s = .next t ∧ FlashOnly s t b.val ∧ t.out = []
      ∧ t.bank b.val = { s.bank b.val with sticky := 0, sequence := .eraseAddress })
    ∧ (s.bankActive b.val = false → (s.bank b.val).sequence ≠ .bankConfirm →
        ∃ t, exec (.eflashBankErase b) s = .next t ∧ FlashOnly s t b.val ∧ t.out = []
          ∧ t.bank b.val = { s.bank b.val with sticky := 0, sequence := .bankConfirm })
    ∧ (s.bankActive b.val = false → (s.bank b.val).sequence = .bankConfirm →
        ∃ t, exec (.eflashBankErase b) s = .next t ∧ FlashOnly s t b.val ∧ (t.bank b.val).op = some .bankErase
          ∧ (t.bank b.val).sequence = .none ∧ (t.bank b.val).units = (s.bank b.val).units
          ∧ ∃ e ∈ (t.bank b.val).journal, e.kind = 3 ∧ e.opened = true)
    ∧ ∀ mode, mode = 1 ∨ mode = 2 →
        ∃ t, exec (.eflashMarginRead b mode) s = .next t ∧ FlashOnly s t b.val ∧ t.out = []
          ∧ t.bank b.val = { s.bank b.val with sticky := 0, sequence := .none, margin := mode })
  ∧ (∀ (s : State) (b : Fin 2), s.bankActive b.val = true →
    ∃ t, exec (.eflashBankErase b) s = .next t ∧ FlashOnly s t b.val
      ∧ t.bank b.val = { s.bank b.val with sticky := stProtected, sequence := .none })
  ∧ (∀ (s : State) (b : Fin 2) (stores : Map (BitVec 64)) (u : Nat), (s.bank b.val).sequence = .loading stores →
    (s.bank b.val).idle = true → storesGood stores = true → (storeUnits stores).head? = some u →
    s.protectedSector b.val (u / 128) = false → s.eflash.brownout = false →
    ((∀ v ∈ storeUnits stores, (s.bank b.val).units.find? v = none) →
      ∃ t ps, exec (.eflashProgram b true) s = .next t ∧ FlashOnly s t b.val ∧ t.out = []
        ∧ t.bank b.val = { s.bank b.val with
            sequence := .none, op := some (.program ps), nested := false, lastSector := u / 128 }
        ∧ ∀ v, ps.find? v = if v ∈ storeUnits stores then some (unitData stores v) else none)
    ∧ ((∃ v ∈ storeUnits stores, (s.bank b.val).units.find? v ≠ none) →
      ∃ t, exec (.eflashProgram b true) s = .next t ∧ FlashOnly s t b.val
        ∧ t.bank b.val = { s.bank b.val with
            sequence := .none, sticky := (s.bank b.val).sticky ||| stProgramErr }))
  ∧ (∀ (s : State) (b : Fin 2) (offset : Nat) (data : BitVec 64), offset < 0x808000 →
    (∀ stores, (s.bank b.val).sequence = .loading stores →
      ∃ t, exec (.eflashDataWrite b offset data) s = .next t ∧ FlashOnly s t b.val ∧ t.out = []
        ∧ t.bank b.val = { s.bank b.val with sequence := .loading (stores.put offset data) })
    ∧ ((s.bank b.val).sequence = .eraseAddress → data = 0 → (s.bank b.val).idle = true →
        s.protectedSector b.val (offset / 4096) = false → s.eflash.brownout = false →
        ∃ t, exec (.eflashDataWrite b offset data) s = .next t ∧ FlashOnly s t b.val ∧ t.out = []
          ∧ (t.bank b.val).op = some (.erase (offset / 4096)) ∧ (t.bank b.val).sequence = .none
          ∧ (t.bank b.val).units = (s.bank b.val).units
          ∧ ∃ e ∈ (t.bank b.val).journal, e.kind = 1 ∧ e.sector = offset / 4096 ∧ e.opened = true)
    ∧ ((s.bank b.val).sequence = .none →
        ∃ t, exec (.eflashDataWrite b offset data) s = .next t ∧ FlashOnly s t b.val
          ∧ t.bank b.val = { s.bank b.val with sticky := (s.bank b.val).sticky ||| stSeqErr }))
  ∧ (∀ (s : State) (b : Fin 2),
    (∀ o, (s.bank b.val).op = some o → (s.bank b.val).nested = false →
      ∃ t, exec (.eflashSuspend b) s = .next t ∧ FlashOnly s t b.val
        ∧ t.bank b.val = { s.bank b.val with op := none, suspended := some o })
    ∧ ((s.bank b.val).op = none →
        ∃ t, exec (.eflashSuspend b) s = .next t ∧ DataKept s t ∧ Counted s t 0x8032 0 1
          ∧ t.bank b.val = { s.bank b.val with sticky := (s.bank b.val).sticky ||| stSuspendRefused }
          ∧ RegsKept s t [key 0x8032 0])
    ∧ (∀ o, (s.bank b.val).suspended = some o → (s.bank b.val).op = none → s.eflash.brownout = false →
        ∃ t, exec (.eflashResume b) s = .next t ∧ FlashOnly s t b.val
          ∧ t.bank b.val = { s.bank b.val with
              op := some o, suspended := none, nested := false, lastSector := o.sector (s.bank b.val).lastSector })
    ∧ (∃ t, exec (.eflashReadStatus b) s = .next t ∧ FlashOnly s t b.val ∧ t.out = []
        ∧ t.bank b.val = { s.bank b.val with statusMode := true })
    ∧ (∃ t, exec (.eflashExit b) s = .next t ∧ FlashOnly s t b.val ∧ t.out = []
        ∧ t.bank b.val = { s.bank b.val with statusMode := false, margin := 0, sequence := .none })
    ∧ (∃ t, exec (.eflashBadStore b) s = .next t ∧ FlashOnly s t b.val ∧ t.out = []
        ∧ t.bank b.val = { s.bank b.val with sticky := (s.bank b.val).sticky ||| stSeqErr })
    ∧ (∃ t, exec (.eflashUnlockTimeout b) s = .next t ∧ FlashOnly s t b.val ∧ t.out = []
        ∧ t.bank b.val = { s.bank b.val with sticky := stSeqErr, sequence := .none }))
  ∧ (∀ (s : State) (b : Fin 2) (offset : Nat) (debug c u : Bool), offset < 0x808000 →
    (debug = true → s.eflash.rdpLevel ≠ 0 →
      exec (.eflashRead b offset debug c u) s = .next { s with out := [.busFault 5] })
    ∧ ((debug = false ∨ s.eflash.rdpLevel = 0) → (s.bank b.val).statusMode = true →
      exec (.eflashRead b offset debug c u) s = .next { s with
        out := [.busData b.val ((s.bank b.val).status.zeroExtend 64)] })
    ∧ ((debug = false ∨ s.eflash.rdpLevel = 0) → (s.bank b.val).statusMode = false → (s.bank b.val).op.isSome = true →
      exec (.eflashRead b offset debug c u) s = .next { s with out := [.busFault 1] })
    ∧ ((debug = false ∨ s.eflash.rdpLevel = 0) → (s.bank b.val).statusMode = false → (s.bank b.val).idle = true →
        (s.bank b.val).margin = 0 → u = false → c = false →
      exec (.eflashRead b offset debug c u) s = .next { s with
        out := [.busData b.val (s.flashWord b.val offset)], free := s.free + 1 })
    ∧ ((debug = false ∨ s.eflash.rdpLevel = 0) → (s.bank b.val).statusMode = false → (s.bank b.val).idle = true →
        (s.bank b.val).margin = 0 → u = true →
      ∃ t, exec (.eflashRead b offset debug c u) s = .next t ∧ DataKept s t ∧ t.hasFault Code.eccUe = true
        ∧ Output.busFault 4 ∈ t.out ∧ (t.bank b.val).units = (s.bank b.val).units ∧ RegsKept s t []))
  ∧ (∀ (s : State) (b : Fin 2) (us : Map (BitVec 256)), (s.bank b.val).op = some (.program us) →
    (Map.sorted us = true →
      ∃ t, exec (.eflashOperationComplete b true) s = .next t ∧ DataKept s t ∧ (t.bank b.val).op = none
        ∧ Counted s t (0x8000 + b.val) 3 1
        ∧ (∀ v, (t.bank b.val).units.find? v =
            match us.find? v with | some d => some d | none => (s.bank b.val).units.find? v)
        ∧ RegsKept s t [key (0x8000 + b.val) 3])
    ∧ ∃ t, exec (.eflashOperationComplete b false) s = .next t ∧ DataKept s t ∧ (t.bank b.val).op = none
        ∧ (t.bank b.val).sticky = (s.bank b.val).sticky ||| (stVerifyFail ||| stProgramErr)
        ∧ t.hasFault Code.programFailed = true
        ∧ (∀ v, (∀ e ∈ us, e.1 ≠ v) → (t.bank b.val).units.find? v = (s.bank b.val).units.find? v) ∧ RegsKept s t [])
  ∧ (∀ (s : State) (b : Fin 2) (k : Nat), (s.bank b.val).op = some (.erase k) →
    (∃ t, exec (.eflashOperationComplete b true) s = .next t ∧ DataKept s t ∧ (t.bank b.val).op = none
      ∧ Counted s t (0x8000 + b.val) 4 1
      ∧ (∀ v, (t.bank b.val).units.find? v = if v / 128 = k then none else (s.bank b.val).units.find? v)
      ∧ (t.bank b.val).cycles.get k 0 = (s.bank b.val).cycles.get k 0 + 1
      ∧ RegsKept s t [key (0x8000 + b.val) 4, key (0x8000 + b.val) 6, key (0x8000 + b.val) 7])
    ∧ ∃ t, exec (.eflashOperationComplete b false) s = .next t ∧ DataKept s t ∧ (t.bank b.val).op = none
        ∧ (t.bank b.val).sticky = (s.bank b.val).sticky ||| (stVerifyFail ||| stEraseErr)
        ∧ t.hasFault Code.eraseFailed = true ∧ RegsKept s t [])
  ∧ (∀ s : State, s.eflash.brownout = false →
    ∃ t, exec .eflashBrownout s = .next t ∧ DataKept s t ∧ t.eflash.brownout = true ∧ (t.bank 0).op = none
      ∧ (t.bank 1).op = none ∧ (t.bank 0).suspended = (s.bank 0).suspended
      ∧ ((s.bank 0).op ≠ none → t.hasFault Code.brownoutAbort = true) ∧ RegsKept s t [key 0x8031 0])
  ∧ (∀ s : State, s.eflash.brownout = true →
    exec .brownoutRecover s = .next { s with out := [], eflash := { s.eflash with brownout := false } })
  ∧ (∀ (s : State) (b : Fin 2) (sector : Nat) (fails u last : Bool), s.scrubRuns sector = true →
    s.reg 0x8021 0 ≠ 3 → (s.reg 0x8021 0 = 1 ∨ 24 * s.reg 0x8020 1 ≤ s.reg 0x4040 2 - s.eflash.scrubAt) →
    ∃ t, exec (.scrubSweep b sector fails u last) s = .next t ∧ DataKept s t
      ∧ t.reg 0x8021 0 = (if last then 0 else 1) ∧ (t.bank b.val).units = (s.bank b.val).units
      ∧ (fails = true → Counted s t 0x8022 0 1)
      ∧ RegsKept s t [key 0x8021 0, key 0x8022 0, key (0x8000 + b.val) 4, key (0x8000 + b.val) 6, key (0x8000 + b.val) 7])
  ∧ (∀ (s : State) (b : Fin 2) (sector : Nat) (u last : Bool), s.scrubRuns sector = true →
    s.reg 0x8021 0 ≠ 1 → (s.reg 0x8021 0 = 3 ∨ 24 * s.reg 0x8020 2 ≤ s.reg 0x4040 2 - s.reg 0x8023 0) →
    ∃ t, exec (.fullRefresh b sector u last) s = .next t ∧ DataKept s t ∧ t.reg 0x8021 0 = (if last then 0 else 3)
      ∧ (t.bank b.val).units = (s.bank b.val).units ∧ Counted s t 0x8022 0 1
      ∧ (last = true → t.reg 0x8023 0 = s.reg 0x4040 2)
      ∧ RegsKept s t [key 0x8021 0, key 0x8022 0, key 0x8023 0, key (0x8000 + b.val) 4, key (0x8000 + b.val) 6,
          key (0x8000 + b.val) 7])

/-- A service frame is answered once and its answer kept: a repeated sequence gets the same answer and executes
nothing; HELLO tells mode and slots, a rate change waits for a good frame or falls back. An update writes the target
slot: its sectors are erased, its bytes programmed, the image verified into STAGED or refused with its result,
activated or aborted; in SAVE each request is refused with MODE. The SPDM responder answers GET_VERSION at once,
everything else only at its negotiated stage, and counts every signature; requests it does not support get an error.
(R434, R436, R437, R438, R440, R441, R442) -/
def Obligations.ServicePortAndAttestation : Prop :=
  (∀ (s : State) (seq length : Nat), s.security.lastSeq = some (seq % 256) →
    exec (.imageBegin seq length) s = .next { s with
      out := s.security.lastResponse, security := { s.security with svcNext := none } }
    ∧ exec (.imageEnd seq) s = .next { s with
      out := s.security.lastResponse, security := { s.security with svcNext := none } })
  ∧ (∀ (s : State) (seq type code : Nat), s.security.lastSeq ≠ some (seq % 256) →
    (∃ t, exec (.svcHello seq) s = .next t ∧ DataKept s t ∧ t.regs = s.regs ∧ t.security.svcNext = none
      ∧ SvcAnswered t 1 seq 0 [if s.ctl.recovery then 0xFF else s.ctl.mode.code, (s.slotOf 0).fwVersion,
          (s.slotOf 1).fwVersion, (s.slotOf 0).state, (s.slotOf 1).state])
    ∧ (code ≤ 2 → ∃ t, exec (.svcSetRate seq code) s = .next t ∧ DataKept s t ∧ SvcAnswered t 3 seq 0 []
        ∧ t.reg 0x8420 0 = code ∧ t.security.svcRate = code ∧ t.security.svcNext = some (code, s.clock.beat)
        ∧ RegsKept s t [key 0x8420 0])
    ∧ (2 < code → ∃ t st, exec (.svcSetRate seq code) s = .next t ∧ DataKept s t ∧ t.regs = s.regs
        ∧ t.security.svcRate = s.security.svcRate ∧ SvcAnswered t 3 seq st [])
    ∧ (∃ t, exec (.svcUnknownType seq type) s = .next t ∧ DataKept s t ∧ t.regs = s.regs
        ∧ SvcAnswered t (type % 128) seq 10 []))
  ∧ (∀ (s : State) (c b : Nat), s.security.svcNext = some (c, b) → 100000 ≤ s.clock.beat - b →
    ∃ t, exec .svcRateFallback s = .next t ∧ DataKept s t ∧ t.reg 0x8420 0 = 0
      ∧ t.security = { s.security with svcRate := 0, svcNext := none } ∧ RegsKept s t [key 0x8420 0])
  ∧ (∀ s : State, exec .svcFrameBad s = .next (({ s with out := [] } : State).addReg 0x8421 0 1))
  ∧ (∀ (s : State) (seq length now : Nat), s.security.lastSeq ≠ some (seq % 256) → s.ctl.mode = .save →
    (∃ t, exec (.imageBegin seq length) s = .next t ∧ DataKept s t ∧ t.regs = s.regs ∧ t.eflash = s.eflash
      ∧ SvcAnswered t 0x10 seq 2 [])
    ∧ (∃ t, exec (.imageActivate seq now) s = .next t ∧ DataKept s t ∧ t.regs = s.regs ∧ SvcAnswered t 0x13 seq 2 []))
  ∧ (∀ (s : State) (seq length b : Nat), s.security.lastSeq ≠ some (seq % 256) → s.ctl.mode ≠ .save →
    s.security.updateState ≠ 1 → length ≤ imageMax → s.eflash.brownout = false → s.targetSlot = b →
    ∃ t, exec (.imageBegin seq length) s = .next t ∧ DataKept s t ∧ SvcAnswered t 0x10 seq 0 []
      ∧ (t.slotOf b).state = 1 ∧ t.security.updateState = 1 ∧ t.security.updateLength = length
      ∧ t.security.updateBytes = 0
      ∧ (∀ v, v / 128 < ceilDiv length 4096 → (t.bank b).units.find? v = none)
      ∧ (∀ v, ceilDiv length 4096 ≤ v / 128 → (t.bank b).units.find? v = (s.bank b).units.find? v)
      ∧ RegsKept s t [key (0x8000 + b) 4, key (0x8000 + b) 6, key (0x8000 + b) 7])
  ∧ (∀ (s : State) (seq offset b : Nat) (data : List Byte), s.security.lastSeq ≠ some (seq % 256) →
    s.ctl.mode ≠ .save → s.security.updateState = 1 → offset % 32 = 0 → data.length % 32 = 0 → data ≠ [] →
    data.length ≤ 4096 → offset + data.length ≤ s.security.updateLength → s.eflash.brownout = false →
    s.targetSlot = b →
    ((∀ k < data.length / 32, (s.bank b).units.find? (offset / 32 + k) = none) →
      ∃ t, exec (.imageData seq offset data) s = .next t ∧ DataKept s t ∧ SvcAnswered t 0x11 seq 0 []
        ∧ t.security.updateBytes = s.security.updateBytes + data.length
        ∧ (∀ i, (h : i < data.length) → imgByte (t.bank b).units (offset + i) = data[i].toNat)
        ∧ RegsKept s t [key (0x8000 + b) 3])
    ∧ ((∃ k < data.length / 32, (s.bank b).units.find? (offset / 32 + k) ≠ none) →
      ∃ t, exec (.imageData seq offset data) s = .next t ∧ DataKept s t ∧ t.regs = s.regs ∧ t.eflash = s.eflash
        ∧ SvcAnswered t 0x11 seq 4 []))
  ∧ (∀ (s : State) (seq b r : Nat), s.security.lastSeq ≠ some (seq % 256) → s.ctl.mode ≠ .save →
    s.security.updateState = 1 → s.targetSlot = b → s.verify b true = r →
    ∃ t, exec (.imageEnd seq) s = .next t ∧ DataKept s t ∧ (t.slotOf b).result = r ∧ RegsKept s t []
      ∧ (r = 0 → (t.slotOf b).state = 2 ∧ t.security.updateState = 2 ∧ SvcAnswered t 0x12 seq 0 [0])
      ∧ (r ≠ 0 → (t.slotOf b).state = 0 ∧ t.security.updateState = 0 ∧ t.hasFault Code.imageRejected = true
          ∧ SvcAnswered t 0x12 seq 8 [r]))
  ∧ (∀ (s : State) (seq b : Nat), s.security.lastSeq ≠ some (seq % 256) → s.ctl.mode ≠ .save → s.targetSlot = b →
    (s.security.updateState = 2 → s.ctl.recovery = false →
      ∃ t, exec (.imageActivate seq 0) s = .next t ∧ DataKept s t ∧ t.regs = s.regs ∧ (t.slotOf b).state = 3
        ∧ t.security.updateState = 0 ∧ SvcAnswered t 0x13 seq 0 [])
    ∧ (s.security.updateState ≠ 0 →
      ∃ t, exec (.imageAbort seq) s = .next t ∧ DataKept s t ∧ t.regs = s.regs ∧ (t.slotOf b).state = 0
        ∧ t.security.updateState = 0 ∧ SvcAnswered t 0x14 seq 0 []))
  ∧ (∀ (s : State) (e : Nat), ∃ t, exec (.spdmGetVersion e) s = .next t ∧ t.out = [.spdm e 0x04 [0x12, 0x13]]
      ∧ t = { s with out := t.out, security := { s.security with sessions := t.security.sessions } }
      ∧ t.session e = some { endpoint := e, stage := 1, used := s.clock.beat, request := [], response := [] })
  ∧ (∀ (s : State) (e : Nat), (∀ x, s.session e = some x → x.stage < 2) →
    exec (.spdmNegotiateAlgorithms e) s = .next { s with out := [.spdm e 0x7F [0x04]] }
    ∧ ∀ slot summary nonce, exec (.spdmChallenge e slot summary nonce) s = .next { s with out := [.spdm e 0x7F [0x04]] })
  ∧ (∀ (s : State) (e : Nat) (x : SpdmSession), s.session e = some x → 1 ≤ x.stage →
    ∃ t, exec (.spdmGetCapabilities e) s = .next t ∧ t.out = [.spdm e 0x61 [spdmCapabilities]] ∧ DataKept s t
      ∧ t.regs = s.regs ∧ t.session e = some { x with endpoint := e, stage := max 2 x.stage, used := s.clock.beat })
  ∧ (∀ (s : State) (e : Nat) (x : SpdmSession), s.session e = some x → 2 ≤ x.stage →
    ∃ t, exec (.spdmNegotiateAlgorithms e) s = .next t ∧ t.out = [.spdm e 0x63 [0x10, 0x1, 0x2, 0x1]] ∧ DataKept s t
      ∧ t.regs = s.regs ∧ t.session e = some { x with endpoint := e, stage := 3, used := s.clock.beat })
  ∧ (∀ (s : State) (e : Nat) (x : SpdmSession), s.session e = some x → 3 ≤ x.stage →
    (∃ t, exec (.spdmGetDigests e) s = .next t ∧ DataKept s t ∧ t.regs = s.regs
      ∧ t.out = [.spdm e 0x01 [1, Config.sha256 ((Config.certificate 0).map (BitVec.ofNat 8))]])
    ∧ (∀ slot offset length, slot ≠ 0 →
        exec (.spdmGetCertificate e slot offset length) s = .next { s with out := [.spdm e 0x7F [0x01]] })
    ∧ (∀ offset length, length ≤ 4096 →
        ∃ t, exec (.spdmGetCertificate e 0 offset length) s = .next t ∧ DataKept s t ∧ t.regs = s.regs
          ∧ t.out = (if offset < (Config.certificate 0).length
              then [.spdm e 0x02 (((Config.certificate 0).drop offset).take length)] else [.spdm e 0x7F [0x01]]))
    ∧ (∀ nonce, ∃ t sig, exec (.spdmChallenge e 0 1 nonce) s = .next t ∧ DataKept s t ∧ Counted s t 0x8430 2 1
        ∧ t.out = [.spdm e 0x03 [0, Config.sha256 ((Config.certificate 0).map (BitVec.ofNat 8)), nonce,
            s.measurement 1, sig]] ∧ RegsKept s t [key 0x8430 2])
    ∧ (∀ i nonce, 1 ≤ i → i ≤ 8 →
        (∃ t, exec (.spdmGetMeasurements e i false nonce) s = .next t ∧ DataKept s t ∧ t.regs = s.regs
          ∧ t.out = [.spdm e 0x60 [s.measurement i]])
        ∧ ∃ t sig, exec (.spdmGetMeasurements e i true nonce) s = .next t ∧ DataKept s t ∧ Counted s t 0x8430 2 1
          ∧ t.out = [.spdm e 0x60 [s.measurement i, nonce, sig]] ∧ RegsKept s t [key 0x8430 2])
    ∧ (∀ seq last chunk, ∃ t, exec (.spdmChunkSend e seq last chunk) s = .next t ∧ DataKept s t ∧ t.regs = s.regs
        ∧ t.out = [.spdm e 0x05 [seq]]
        ∧ t.session e = some { x with
            endpoint := e, used := s.clock.beat,
            request := if last then [] else (if seq = 0 then [] else x.request) ++ chunk })
    ∧ (∀ seq, seq * 4096 < x.response.length →
        ∃ t, exec (.spdmChunkGet e seq) s = .next t ∧ DataKept s t ∧ t.regs = s.regs
          ∧ t.out = [.spdm e 0x06 (seq :: (x.response.drop (seq * 4096)).take 4096)]))
  ∧ (∀ (s : State) (e code : Nat), exec (.spdmRespondIfReady e) s = .next { s with out := [.spdm e 0x7F [0x04]] }
    ∧ exec (.spdmUnsupported e code) s = .next { s with out := [.spdm e 0x7F [0x07]] })

/-- An admitted start of a pattern test runs its unit, and first trains a channel without a record at 4800 MT/s; an
admitted stop adds what it counted to the unit's counters, which saturate, but for a NAND unit still waiting for its
bus. A checker's lock and its loss set the unit's state, and the loss is counted; a margin run reports the last step
that passed. An instruction that drives pins is loaded in DORMANT without retention or under a test hold, and
replaced by BYPASS and reported elsewhere, as TEST_ACCESS is under read-out protection; IDCODE gives the fused code.
A part without a bus address takes one. A beat on which no change set waits advances time by 10 us, stores what
Niura sampled, and, when the work of the beat does not overrun, leaves the dirty budget equal to the formula of R161
over the entries it rests on. DRAM, leaves and slots stay but for beats, and for the rows of a channel that is
stopped under test hold. (R8, R161, R167, R217, R444, R445, R446, R447, R449, R450, R451, R476) -/
def Obligations.TestsScanAddressesAndBeats : Prop :=
  (∀ (s : State) (role : Role) (bits errors line u : Nat), s.serves role s.hostLink →
    s.reg 0x9010 1 = u →
    (s.writeCode role (Item.mk 0x9010 5 1 1) = 0 → s.test.running.find? u = none →
      ∃ t, exec (.ptRun role 1 bits errors line) s = .next t ∧ DataKept s t ∧ WriteAnswered s t role 0x9010 5 1 0
        ∧ t.test.running.find? u = some s.clock.beat ∧ t.breg u 0x9010 6 = 1 ∧ t.breg u 0x9010 5 = 1
        ∧ (if 36 ≤ u ∧ u < 49 ∧ s.recordBins (u - 36) = [] then
            t.reg (0x3400 + (u - 36)) 2 = 4800 ∧ 4800 ∈ t.recordBins (u - 36)
              ∧ RegsKept s t [key 0xA032 0, bkey u 0x9010 5, bkey u 0x9010 6, key (0x3400 + (u - 36)) 2,
                  key (0x3400 + (u - 36)) 4, key (0x3400 + (u - 36)) 6, key (0x3420 + (u - 36)) 6]
          else RegsKept s t [key 0xA032 0, bkey u 0x9010 5, bkey u 0x9010 6]))
    ∧ (s.writeCode role (Item.mk 0x9010 5 0 1) = 0 → s.test.running.find? u ≠ none →
      ∃ t, exec (.ptRun role 0 bits errors line) s = .next t ∧ WriteAnswered s t role 0x9010 5 0 0
        ∧ t.nand.flash = s.nand.flash ∧ t.leaves = s.leaves ∧ t.groups = s.groups ∧ t.ctl.mode = s.ctl.mode
        ∧ t.clock = s.clock ∧ (u < 36 ∨ 49 ≤ u ∨ s.ctl.testHold ≠ 1 → t.mem = s.mem)
        ∧ t.test.running.find? u = none ∧ t.breg u 0x9010 6 = 3 ∧ t.breg u 0x9010 5 = 0
        ∧ (if s.test.busWait.contains u then t.breg u 0x9010 7 = s.breg u 0x9010 7 ∧ t.breg u 0x9010 8 = s.breg u 0x9010 8
          else t.breg u 0x9010 7 = min (s.breg u 0x9010 7 + bits) (2 ^ (8 * entrySize 0x9010 7) - 1)
            ∧ t.breg u 0x9010 8 = min (s.breg u 0x9010 8 + errors) (2 ^ (8 * entrySize 0x9010 8) - 1))))
  ∧ (∀ (s : State) (u : Nat), u < 36 → s.test.running.find? u ≠ none → s.test.locked.contains u = false →
    ∃ t, exec (.checkerLock u) s = .next t ∧ DataKept s t ∧ u ∈ t.test.locked ∧ t.breg u 0x9010 6 = 2
      ∧ RegsKept s t [bkey u 0x9010 6])
  ∧ (∀ (s : State) (u bits errors : Nat), s.test.locked.contains u = true → 32 < errors →
    ∃ t, exec (.checkerLockLoss u bits errors) s = .next t ∧ DataKept s t ∧ u ∉ t.test.locked
      ∧ t.breg u 0x9010 6 = 1
      ∧ t.breg u 0x9010 9 = min (s.breg u 0x9010 9 + 1) (2 ^ (8 * entrySize 0x9010 9) - 1)
      ∧ RegsKept s t [bkey u 0x9010 6, bkey u 0x9010 7, bkey u 0x9010 8, bkey u 0x9010 9, bkey u 0x9010 10])
  ∧ (∀ (s : State) (role : Role) (v u : Nat), s.writePasses role 0x9020 5 v → v < 256 → s.reg 0x9020 1 = u →
    ∃ t, exec (.marginRun role v) s = .next t ∧ DataKept s t ∧ WriteAnswered s t role 0x9020 5 v 0
      ∧ t.breg u 0x9020 5 = v)
  ∧ (∀ (s : State) (u first : Nat), s.breg u 0x9020 5 = 1 → 32 ≤ u → u < 36 → 0 < first →
    ∃ t, exec (.marginRunComplete u first) s = .next t ∧ DataKept s t ∧ t.out = []
      ∧ t.breg u 0x9020 6 = min (first - 1) (s.breg u 0x9020 3) ∧ t.breg u 0x9020 5 = 0
      ∧ RegsKept s t [bkey u 0x9020 5, bkey u 0x9020 6])
  ∧ (∀ s : State, s.pinsFree = true → ∀ c op, (c, op) ∈ [(Instr.tapExtest, 0x00), (Instr.tapClamp, 0x04),
      (Instr.tapHighz, 0x05), (Instr.tapExtestPulse, 0x06), (Instr.tapExtestTrain, 0x07)] →
    ∃ t data, exec c s = .next t ∧ DataKept s t ∧ t.regs = s.regs ∧ t.out = [.tap op s.tapCapture data]
      ∧ t.test = { s.test with instruction := op, refused := false })
  ∧ (∀ s : State, s.pinsFree = false → ∀ c op, (c, op) ∈ [(Instr.tapExtest, 0x00), (Instr.tapClamp, 0x04),
      (Instr.tapHighz, 0x05), (Instr.tapExtestPulse, 0x06), (Instr.tapExtestTrain, 0x07)] →
    ∃ t, exec c s = .next t ∧ DataKept s t ∧ t.reg 0x9002 0 = op ∧ t.out = [.tap 0xFF s.tapCapture 0]
      ∧ t.test = { s.test with instruction := 0xFF, refused := true } ∧ RegsKept s t [key 0x9002 0])
  ∧ (∀ s : State,
    exec .tapIdcode s = .next { s with
      out := [.tap 0x01 s.tapCapture (s.reg 0x9001 0)], test := { s.test with instruction := 0x01, refused := false } }
    ∧ exec .tapBypass s = .next { s with
      out := [.tap 0xFF s.tapCapture 0], test := { s.test with instruction := 0xFF, refused := false } }
    ∧ (∃ t data, exec .tapSamplePreload s = .next t ∧ DataKept s t ∧ t.regs = s.regs
        ∧ t.out = [.tap 0x02 s.tapCapture data])
    ∧ (s.eflash.rdpLevel = 0 → ∃ t data, exec .tapTestAccess s = .next t ∧ DataKept s t ∧ t.regs = s.regs
        ∧ t.out = [.tap 0x80 s.tapCapture data])
    ∧ (s.eflash.rdpLevel ≠ 0 → ∃ t, exec .tapTestAccess s = .next t ∧ DataKept s t ∧ t.reg 0x9002 0 = 0x80
        ∧ t.out = [.tap 0xFF s.tapCapture 0] ∧ RegsKept s t [key 0x9002 0]))
  ∧ (∀ (s : State) (a : Nat), s.ctl.vaux = true → s.security.busAddress = none → a < 128 →
    exec (.entdaa a) s = .next { s with
      out := [.i3c a], security := { s.security with busAddress := some a } }
    ∧ exec (.setdasa s.security.staticAddress a) s = .next { s with
      out := [.i3c a], security := { s.security with busAddress := some a } })
  ∧ (∀ (s : State) (b : BeatInputs), s.ctl.vaux = true → s.dict.submitted = [] →
    ∃ t, exec (.beat b) s = .next t ∧ t.clock.devNs = s.clock.devNs + 10000 ∧ t.clock.beat = s.clock.beat + 1
      ∧ t.clock.wallNs = s.clock.wallNs + 10000 ∧ t.clock.wallSet = s.clock.wallSet ∧ t.niura.vinMv = b.vinMv
      ∧ t.niura.vStoreMv = b.vStoreMv ∧ t.niura.iStoreMa = b.iStoreMa ∧ t.niura.vbusMv = b.vbusMv
      ∧ (b.overrun = none → t.reg 0x4010 0 = dirtyBudget (t.reg 0x4011 0) (t.reg 0x4015 0)
          ∧ t.reg 0x4015 0 = budgetBytes (t.reg 0x4014 0) (t.reg 0x4013 0) (t.reg 0x4021 0) (t.reg 0x4020 0)))
end

