-- ==== Sys2Proof/Laws/Mem.lean ====
section
/-! SUPPORT. What the byte operations of DRAM and flash do: a read after a write, and the canonical form kept. -/

namespace Sys2Proof.Machine

theorem Mem.wf_cons {c : Host.Cell} {m : List Host.Cell} :
    Mem.wf (c :: m) = true ↔ (c.2 ≠ 0 ∧ (∀ d ∈ m.head?, c.1 < d.1) ∧ Mem.wf m = true) := by
  cases m with
  | nil => simp [Mem.wf]
  | cons d m => simp [Mem.wf]; tauto

theorem Mem.wf_tail {c : Host.Cell} {m : List Host.Cell} (h : Mem.wf (c :: m) = true) : Mem.wf m = true :=
  (Mem.wf_cons.mp h).2.2

/-- In canonical form the head's address is below every other. -/
theorem Mem.wf_lt {c : Host.Cell} {m : List Host.Cell} (h : Mem.wf (c :: m) = true) : ∀ d ∈ m, c.1 < d.1 := by
  induction m generalizing c with
  | nil => simp
  | cons e m ih =>
    obtain ⟨-, h1, h2⟩ := Mem.wf_cons.mp h
    have h1 : c.1 < e.1 := by simpa using h1
    intro d hd
    rcases List.mem_cons.mp hd with rfl | hd
    · exact h1
    · exact lt_trans h1 (ih h2 d hd)

theorem Mem.wf_of_lt {c : Host.Cell} {m : List Host.Cell} (hc : c.2 ≠ 0) (hl : ∀ d ∈ m, c.1 < d.1)
    (hm : Mem.wf m = true) : Mem.wf (c :: m) = true := by
  refine Mem.wf_cons.mpr ⟨hc, ?_, hm⟩
  cases m <;> simp_all

theorem Mem.mem_put {m : List Host.Cell} {a : Nat} {b : Byte} {d : Host.Cell} (h : d ∈ Mem.put m a b) :
    d = (a, b) ∨ d ∈ m := by
  induction m with
  | nil => unfold Mem.put at h; split at h <;> simp_all
  | cons e m ih =>
    obtain ⟨k, v⟩ := e
    unfold Mem.put at h
    split at h
    · split at h <;> simp_all
    · split at h
      · split at h
        · exact .inr (List.mem_cons_of_mem _ h)
        · rcases List.mem_cons.mp h with h | h
          · exact .inl h
          · exact .inr (List.mem_cons_of_mem _ h)
      · rcases List.mem_cons.mp h with h | h
        · exact .inr (h ▸ List.mem_cons_self ..)
        · rcases ih h with h | h
          · exact .inl h
          · exact .inr (List.mem_cons_of_mem _ h)

@[simp] theorem Mem.wf_put (m : List Host.Cell) (a : Nat) (b : Byte) (h : Mem.wf m = true) : Mem.wf (Mem.put m a b) = true := by
  induction m with
  | nil => unfold Mem.put; split <;> simp_all [Mem.wf]
  | cons e m ih =>
    obtain ⟨k, v⟩ := e
    have ht := Mem.wf_tail h
    have hl := Mem.wf_lt h
    have hv : v ≠ 0 := (Mem.wf_cons.mp h).1
    unfold Mem.put
    split
    · split
      · exact h
      · rename_i hak hb
        refine Mem.wf_of_lt hb ?_ h
        intro d hd
        rcases List.mem_cons.mp hd with rfl | hd
        · exact hak
        · exact lt_trans hak (hl d hd)
    · split
      · split
        · exact ht
        · rename_i hak hb
          subst hak
          exact Mem.wf_of_lt hb hl ht
      · rename_i h1 h2
        refine Mem.wf_of_lt hv ?_ (ih ht)
        intro d hd
        rcases Mem.mem_put hd with rfl | hd
        · show k < a; omega
        · exact hl d hd

@[simp] theorem Mem.wf_filter (m : List Host.Cell) (p : Host.Cell → Bool) (h : Mem.wf m = true) : Mem.wf (m.filter p) = true := by
  induction m with
  | nil => rfl
  | cons e m ih =>
    have ht := ih (Mem.wf_tail h)
    by_cases hp : p e
    · rw [List.filter_cons_of_pos hp]
      exact Mem.wf_of_lt (Mem.wf_cons.mp h).1 (fun d hd => Mem.wf_lt h d (List.mem_of_mem_filter hd)) ht
    · rw [List.filter_cons_of_neg hp]; exact ht

@[simp] theorem Mem.wf_clear (m : List Host.Cell) (lo len : Nat) (h : Mem.wf m = true) : Mem.wf (Mem.clear m lo len) = true :=
  Mem.wf_filter _ _ h

@[simp] theorem Mem.wf_slice (m : List Host.Cell) (lo len : Nat) (h : Mem.wf m = true) : Mem.wf (Mem.slice m lo len) = true :=
  Mem.wf_filter _ _ h

@[simp] theorem Mem.wf_replace (m : List Host.Cell) (lo len : Nat) (p : List Host.Cell) (h : Mem.wf m = true) :
    Mem.wf (Mem.replace m lo len p) = true := by
  unfold Mem.replace
  have : Mem.wf (Mem.clear m lo len) = true := Mem.wf_clear _ _ _ h
  revert this
  generalize Mem.clear m lo len = n
  induction p generalizing n with
  | nil => exact id
  | cons c p ih => exact fun hn => ih _ (Mem.wf_put _ _ _ hn)

@[simp] theorem Mem.wf_write64 (m : List Host.Cell) (a : Nat) (d : Data64) (be : BitVec 64) (h : Mem.wf m = true) :
    Mem.wf (Mem.write64 m a d be) = true := by
  unfold Mem.write64
  generalize List.range 64 = l
  induction l generalizing m with
  | nil => exact h
  | cons i l ih =>
    rw [List.foldl_cons]
    exact ih _ (by split <;> simp [h])

@[simp] theorem Mem.wf_nil : Mem.wf [] = true := rfl

/-- Putting bytes one by one keeps the canonical form. -/
theorem Mem.wf_foldl_put (p m : List Host.Cell) (h : Mem.wf m = true) :
    Mem.wf (p.foldl (fun m c => Mem.put m c.1 c.2) m) = true := by
  induction p generalizing m with
  | nil => exact h
  | cons c p ih => exact ih _ (Mem.wf_put _ _ _ h)

@[simp] theorem Mem.wf_canon (m : List Host.Cell) : Mem.wf (Mem.canon m) = true := Mem.wf_foldl_put m [] rfl

/-! ### The canonical form of flash copies -/

@[simp] theorem Flash.wf_nil : Flash.wf [] = true := rfl

/-- A copy in canonical form joins copies in canonical form. -/
@[simp] theorem Flash.wf_put (f : Map Stored) (place : Nat) (c : Stored) (hc : Mem.wf c.cipher.plain = true)
    (h : Flash.wf f = true) : Flash.wf (Map.put f place c) = true := by
  induction f with
  | nil => simp [Map.put, Flash.wf, hc]
  | cons e f ih =>
    obtain ⟨k, w⟩ := e
    simp only [Flash.wf, List.all_cons, Bool.and_eq_true] at h ih
    unfold Map.put
    split
    · simp [Flash.wf, hc, h.1, h.2]
    · split
      · simp [Flash.wf, hc, h.2]
      · simp [Flash.wf, h.1, ih h.2]

@[simp] theorem Flash.wf_filter (f : Map Stored) (p : Nat × Stored → Bool) (h : Flash.wf f = true) :
    Flash.wf (List.filter p f) = true := by
  simp only [Flash.wf, List.all_eq_true, List.mem_filter] at h ⊢
  exact fun e he => h e he.1

@[simp] theorem Flash.wf_del (f : Map Stored) (place : Nat) (h : Flash.wf f = true) : Flash.wf (Map.del f place) = true :=
  Flash.wf_filter _ _ h

/-- A stripe found in flash is in canonical form. -/
theorem Flash.wf_find (f : Map Stored) (place : Nat) (c : Stored) (h : Flash.wf f = true) (hf : Map.find? f place = some c) :
    Mem.wf c.cipher.plain = true := by
  induction f with
  | nil => simp [Map.find?] at hf
  | cons e f ih =>
    obtain ⟨k, w⟩ := e
    simp only [Flash.wf, List.all_cons, Bool.and_eq_true] at h ih
    unfold Map.find? at hf
    split at hf
    · cases hf; exact h.1
    · exact ih h.2 hf

/-! ### A read after a write, in canonical form -/

theorem Mem.byte_of_lt {m : List Host.Cell} {a : Nat} (h : ∀ d ∈ m, a < d.1) : Mem.byte m a = 0 := by
  induction m with
  | nil => rfl
  | cons e m ih =>
    obtain ⟨k, v⟩ := e
    have : a < k := h (k, v) (List.mem_cons_self ..)
    unfold Mem.byte
    rw [if_neg (by omega)]
    exact ih fun d hd => h d (List.mem_cons_of_mem _ hd)

/-- The byte written reads back, and every other byte reads as before. -/
theorem Mem.byte_put (m : List Host.Cell) (a : Nat) (b : Byte) (x : Nat) (h : Mem.wf m = true) :
    Mem.byte (Mem.put m a b) x = if x = a then b else Mem.byte m x := by
  induction m with
  | nil =>
    unfold Mem.put
    by_cases hb : b = 0
    · rw [if_pos hb, hb]; simp [Mem.byte]
    · rw [if_neg hb]; simp only [Mem.byte]
      by_cases hx : x = a
      · rw [if_pos hx.symm, if_pos hx]
      · rw [if_neg (Ne.symm hx), if_neg hx]
  | cons e m ih =>
    obtain ⟨k, v⟩ := e
    have ht := Mem.wf_tail h
    have hl := Mem.wf_lt h
    by_cases h1 : a < k
    · have h0 : Mem.byte ((k, v) :: m) a = 0 := by
        refine Mem.byte_of_lt fun d hd => ?_
        rcases List.mem_cons.mp hd with rfl | hd
        · exact h1
        · exact lt_trans h1 (hl d hd)
      unfold Mem.put
      rw [if_pos h1]
      by_cases hb : b = 0
      · rw [if_pos hb]; split
        · rename_i hx; rw [hx, h0, hb]
        · rfl
      · rw [if_neg hb]
        by_cases hx : x = a
        · simp [Mem.byte, hx]
        · rw [if_neg hx]; conv_lhs => unfold Mem.byte
          rw [if_neg (Ne.symm hx)]
    · by_cases h2 : a = k
      · subst h2
        unfold Mem.put
        rw [if_neg h1, if_pos rfl]
        by_cases hb : b = 0
        · rw [if_pos hb]
          by_cases hx : x = a
          · rw [if_pos hx, hx, hb]; exact Mem.byte_of_lt hl
          · rw [if_neg hx]; conv_rhs => unfold Mem.byte
            rw [if_neg (Ne.symm hx)]
        · rw [if_neg hb]
          by_cases hx : x = a
          · simp [Mem.byte, hx]
          · rw [if_neg hx]; simp [Mem.byte, Ne.symm hx]
      · unfold Mem.put
        rw [if_neg h1, if_neg h2]
        unfold Mem.byte
        by_cases hk : k = x
        · rw [if_pos hk, if_pos hk, if_neg (by omega)]
        · rw [if_neg hk, if_neg hk]; exact ih ht

end Sys2Proof.Machine
end

