-- ==== Sys2Proof/Laws/State.lean ====
section
/-! SUPPORT. One lemma for each field of the state and each named update of it, and folds that keep a field. -/

namespace Sys2Proof.Machine

/-! ### State.setReg -/

@[simp] theorem State.setReg_pending (s : State) (idx sub v : Nat) : (s.setReg idx sub v).pending = s.pending := (rfl)
@[simp] theorem State.setReg_out (s : State) (idx sub v : Nat) : (s.setReg idx sub v).out = s.out := (rfl)
@[simp] theorem State.setReg_free (s : State) (idx sub v : Nat) : (s.setReg idx sub v).free = s.free := (rfl)
@[simp] theorem State.setReg_clock (s : State) (idx sub v : Nat) : (s.setReg idx sub v).clock = s.clock := (rfl)
@[simp] theorem State.setReg_ctl (s : State) (idx sub v : Nat) : (s.setReg idx sub v).ctl = s.ctl := (rfl)
@[simp] theorem State.setReg_layout (s : State) (idx sub v : Nat) : (s.setReg idx sub v).layout = s.layout := (rfl)
@[simp] theorem State.setReg_links (s : State) (idx sub v : Nat) : (s.setReg idx sub v).links = s.links := (rfl)
@[simp] theorem State.setReg_ingress (s : State) (idx sub v : Nat) : (s.setReg idx sub v).ingress = s.ingress := (rfl)
@[simp] theorem State.setReg_mem (s : State) (idx sub v : Nat) : (s.setReg idx sub v).mem = s.mem := (rfl)
@[simp] theorem State.setReg_poison (s : State) (idx sub v : Nat) : (s.setReg idx sub v).poison = s.poison := (rfl)
@[simp] theorem State.setReg_poisonOverflow (s : State) (idx sub v : Nat) :
    (s.setReg idx sub v).poisonOverflow = s.poisonOverflow := (rfl)
@[simp] theorem State.setReg_mirrorCopied (s : State) (idx sub v : Nat) :
    (s.setReg idx sub v).mirrorCopied = s.mirrorCopied := (rfl)
@[simp] theorem State.setReg_mirrorUnits (s : State) (idx sub v : Nat) :
    (s.setReg idx sub v).mirrorUnits = s.mirrorUnits := (rfl)
@[simp] theorem State.setReg_mirrorWhole (s : State) (idx sub v : Nat) :
    (s.setReg idx sub v).mirrorWhole = s.mirrorWhole := (rfl)
@[simp] theorem State.setReg_leaves (s : State) (idx sub v : Nat) : (s.setReg idx sub v).leaves = s.leaves := (rfl)
@[simp] theorem State.setReg_heat (s : State) (idx sub v : Nat) : (s.setReg idx sub v).heat = s.heat := (rfl)
@[simp] theorem State.setReg_heatBase (s : State) (idx sub v : Nat) : (s.setReg idx sub v).heatBase = s.heatBase :=
  (rfl)
@[simp] theorem State.setReg_delta (s : State) (idx sub v : Nat) : (s.setReg idx sub v).delta = s.delta := (rfl)
@[simp] theorem State.setReg_trickle (s : State) (idx sub v : Nat) : (s.setReg idx sub v).trickle = s.trickle := (rfl)
@[simp] theorem State.setReg_groups (s : State) (idx sub v : Nat) : (s.setReg idx sub v).groups = s.groups := (rfl)
@[simp] theorem State.setReg_sched (s : State) (idx sub v : Nat) : (s.setReg idx sub v).sched = s.sched := (rfl)
@[simp] theorem State.setReg_dram (s : State) (idx sub v : Nat) : (s.setReg idx sub v).dram = s.dram := (rfl)
@[simp] theorem State.setReg_nand (s : State) (idx sub v : Nat) : (s.setReg idx sub v).nand = s.nand := (rfl)
@[simp] theorem State.setReg_save (s : State) (idx sub v : Nat) : (s.setReg idx sub v).save = s.save := (rfl)
@[simp] theorem State.setReg_trestle (s : State) (idx sub v : Nat) : (s.setReg idx sub v).trestle = s.trestle := (rfl)
@[simp] theorem State.setReg_niura (s : State) (idx sub v : Nat) : (s.setReg idx sub v).niura = s.niura := (rfl)
@[simp] theorem State.setReg_rails (s : State) (idx sub v : Nat) : (s.setReg idx sub v).rails = s.rails := (rfl)
@[simp] theorem State.setReg_dict (s : State) (idx sub v : Nat) : (s.setReg idx sub v).dict = s.dict := (rfl)
@[simp] theorem State.setReg_faults (s : State) (idx sub v : Nat) : (s.setReg idx sub v).faults = s.faults := (rfl)
@[simp] theorem State.setReg_chest (s : State) (idx sub v : Nat) : (s.setReg idx sub v).chest = s.chest := (rfl)
@[simp] theorem State.setReg_bureau (s : State) (idx sub v : Nat) : (s.setReg idx sub v).bureau = s.bureau := (rfl)
@[simp] theorem State.setReg_eflash (s : State) (idx sub v : Nat) : (s.setReg idx sub v).eflash = s.eflash := (rfl)
@[simp] theorem State.setReg_security (s : State) (idx sub v : Nat) : (s.setReg idx sub v).security = s.security :=
  (rfl)
@[simp] theorem State.setReg_test (s : State) (idx sub v : Nat) : (s.setReg idx sub v).test = s.test := (rfl)

/-! ### State.setBreg -/

@[simp] theorem State.setBreg_pending (s : State) (sel idx sub v : Nat) :
    (s.setBreg sel idx sub v).pending = s.pending := (rfl)
@[simp] theorem State.setBreg_out (s : State) (sel idx sub v : Nat) : (s.setBreg sel idx sub v).out = s.out := (rfl)
@[simp] theorem State.setBreg_free (s : State) (sel idx sub v : Nat) : (s.setBreg sel idx sub v).free = s.free :=
  (rfl)
@[simp] theorem State.setBreg_clock (s : State) (sel idx sub v : Nat) : (s.setBreg sel idx sub v).clock = s.clock :=
  (rfl)
@[simp] theorem State.setBreg_ctl (s : State) (sel idx sub v : Nat) : (s.setBreg sel idx sub v).ctl = s.ctl := (rfl)
@[simp] theorem State.setBreg_layout (s : State) (sel idx sub v : Nat) :
    (s.setBreg sel idx sub v).layout = s.layout := (rfl)
@[simp] theorem State.setBreg_links (s : State) (sel idx sub v : Nat) : (s.setBreg sel idx sub v).links = s.links :=
  (rfl)
@[simp] theorem State.setBreg_ingress (s : State) (sel idx sub v : Nat) :
    (s.setBreg sel idx sub v).ingress = s.ingress := (rfl)
@[simp] theorem State.setBreg_mem (s : State) (sel idx sub v : Nat) : (s.setBreg sel idx sub v).mem = s.mem := (rfl)
@[simp] theorem State.setBreg_poison (s : State) (sel idx sub v : Nat) :
    (s.setBreg sel idx sub v).poison = s.poison := (rfl)
@[simp] theorem State.setBreg_poisonOverflow (s : State) (sel idx sub v : Nat) :
    (s.setBreg sel idx sub v).poisonOverflow = s.poisonOverflow := (rfl)
@[simp] theorem State.setBreg_mirrorCopied (s : State) (sel idx sub v : Nat) :
    (s.setBreg sel idx sub v).mirrorCopied = s.mirrorCopied := (rfl)
@[simp] theorem State.setBreg_mirrorUnits (s : State) (sel idx sub v : Nat) :
    (s.setBreg sel idx sub v).mirrorUnits = s.mirrorUnits := (rfl)
@[simp] theorem State.setBreg_mirrorWhole (s : State) (sel idx sub v : Nat) :
    (s.setBreg sel idx sub v).mirrorWhole = s.mirrorWhole := (rfl)
@[simp] theorem State.setBreg_leaves (s : State) (sel idx sub v : Nat) :
    (s.setBreg sel idx sub v).leaves = s.leaves := (rfl)
@[simp] theorem State.setBreg_heat (s : State) (sel idx sub v : Nat) : (s.setBreg sel idx sub v).heat = s.heat :=
  (rfl)
@[simp] theorem State.setBreg_heatBase (s : State) (sel idx sub v : Nat) :
    (s.setBreg sel idx sub v).heatBase = s.heatBase := (rfl)
@[simp] theorem State.setBreg_delta (s : State) (sel idx sub v : Nat) : (s.setBreg sel idx sub v).delta = s.delta :=
  (rfl)
@[simp] theorem State.setBreg_trickle (s : State) (sel idx sub v : Nat) :
    (s.setBreg sel idx sub v).trickle = s.trickle := (rfl)
@[simp] theorem State.setBreg_groups (s : State) (sel idx sub v : Nat) :
    (s.setBreg sel idx sub v).groups = s.groups := (rfl)
@[simp] theorem State.setBreg_sched (s : State) (sel idx sub v : Nat) : (s.setBreg sel idx sub v).sched = s.sched :=
  (rfl)
@[simp] theorem State.setBreg_dram (s : State) (sel idx sub v : Nat) : (s.setBreg sel idx sub v).dram = s.dram :=
  (rfl)
@[simp] theorem State.setBreg_nand (s : State) (sel idx sub v : Nat) : (s.setBreg sel idx sub v).nand = s.nand :=
  (rfl)
@[simp] theorem State.setBreg_save (s : State) (sel idx sub v : Nat) : (s.setBreg sel idx sub v).save = s.save :=
  (rfl)
@[simp] theorem State.setBreg_trestle (s : State) (sel idx sub v : Nat) :
    (s.setBreg sel idx sub v).trestle = s.trestle := (rfl)
@[simp] theorem State.setBreg_niura (s : State) (sel idx sub v : Nat) : (s.setBreg sel idx sub v).niura = s.niura :=
  (rfl)
@[simp] theorem State.setBreg_rails (s : State) (sel idx sub v : Nat) : (s.setBreg sel idx sub v).rails = s.rails :=
  (rfl)
@[simp] theorem State.setBreg_dict (s : State) (sel idx sub v : Nat) : (s.setBreg sel idx sub v).dict = s.dict :=
  (rfl)
@[simp] theorem State.setBreg_faults (s : State) (sel idx sub v : Nat) :
    (s.setBreg sel idx sub v).faults = s.faults := (rfl)
@[simp] theorem State.setBreg_chest (s : State) (sel idx sub v : Nat) : (s.setBreg sel idx sub v).chest = s.chest :=
  (rfl)
@[simp] theorem State.setBreg_bureau (s : State) (sel idx sub v : Nat) :
    (s.setBreg sel idx sub v).bureau = s.bureau := (rfl)
@[simp] theorem State.setBreg_eflash (s : State) (sel idx sub v : Nat) :
    (s.setBreg sel idx sub v).eflash = s.eflash := (rfl)
@[simp] theorem State.setBreg_security (s : State) (sel idx sub v : Nat) :
    (s.setBreg sel idx sub v).security = s.security := (rfl)
@[simp] theorem State.setBreg_test (s : State) (sel idx sub v : Nat) : (s.setBreg sel idx sub v).test = s.test :=
  (rfl)

/-! ### State.addReg -/

@[simp] theorem State.addReg_pending (s : State) (idx sub n : Nat) : (s.addReg idx sub n).pending = s.pending := (rfl)
@[simp] theorem State.addReg_out (s : State) (idx sub n : Nat) : (s.addReg idx sub n).out = s.out := (rfl)
@[simp] theorem State.addReg_clock (s : State) (idx sub n : Nat) : (s.addReg idx sub n).clock = s.clock := (rfl)
@[simp] theorem State.addReg_ctl (s : State) (idx sub n : Nat) : (s.addReg idx sub n).ctl = s.ctl := (rfl)
@[simp] theorem State.addReg_layout (s : State) (idx sub n : Nat) : (s.addReg idx sub n).layout = s.layout := (rfl)
@[simp] theorem State.addReg_links (s : State) (idx sub n : Nat) : (s.addReg idx sub n).links = s.links := (rfl)
@[simp] theorem State.addReg_ingress (s : State) (idx sub n : Nat) : (s.addReg idx sub n).ingress = s.ingress := (rfl)
@[simp] theorem State.addReg_mem (s : State) (idx sub n : Nat) : (s.addReg idx sub n).mem = s.mem := (rfl)
@[simp] theorem State.addReg_poison (s : State) (idx sub n : Nat) : (s.addReg idx sub n).poison = s.poison := (rfl)
@[simp] theorem State.addReg_poisonOverflow (s : State) (idx sub n : Nat) :
    (s.addReg idx sub n).poisonOverflow = s.poisonOverflow := (rfl)
@[simp] theorem State.addReg_mirrorCopied (s : State) (idx sub n : Nat) :
    (s.addReg idx sub n).mirrorCopied = s.mirrorCopied := (rfl)
@[simp] theorem State.addReg_mirrorUnits (s : State) (idx sub n : Nat) :
    (s.addReg idx sub n).mirrorUnits = s.mirrorUnits := (rfl)
@[simp] theorem State.addReg_mirrorWhole (s : State) (idx sub n : Nat) :
    (s.addReg idx sub n).mirrorWhole = s.mirrorWhole := (rfl)
@[simp] theorem State.addReg_leaves (s : State) (idx sub n : Nat) : (s.addReg idx sub n).leaves = s.leaves := (rfl)
@[simp] theorem State.addReg_heat (s : State) (idx sub n : Nat) : (s.addReg idx sub n).heat = s.heat := (rfl)
@[simp] theorem State.addReg_heatBase (s : State) (idx sub n : Nat) : (s.addReg idx sub n).heatBase = s.heatBase :=
  (rfl)
@[simp] theorem State.addReg_delta (s : State) (idx sub n : Nat) : (s.addReg idx sub n).delta = s.delta := (rfl)
@[simp] theorem State.addReg_trickle (s : State) (idx sub n : Nat) : (s.addReg idx sub n).trickle = s.trickle := (rfl)
@[simp] theorem State.addReg_groups (s : State) (idx sub n : Nat) : (s.addReg idx sub n).groups = s.groups := (rfl)
@[simp] theorem State.addReg_sched (s : State) (idx sub n : Nat) : (s.addReg idx sub n).sched = s.sched := (rfl)
@[simp] theorem State.addReg_dram (s : State) (idx sub n : Nat) : (s.addReg idx sub n).dram = s.dram := (rfl)
@[simp] theorem State.addReg_nand (s : State) (idx sub n : Nat) : (s.addReg idx sub n).nand = s.nand := (rfl)
@[simp] theorem State.addReg_save (s : State) (idx sub n : Nat) : (s.addReg idx sub n).save = s.save := (rfl)
@[simp] theorem State.addReg_trestle (s : State) (idx sub n : Nat) : (s.addReg idx sub n).trestle = s.trestle := (rfl)
@[simp] theorem State.addReg_niura (s : State) (idx sub n : Nat) : (s.addReg idx sub n).niura = s.niura := (rfl)
@[simp] theorem State.addReg_rails (s : State) (idx sub n : Nat) : (s.addReg idx sub n).rails = s.rails := (rfl)
@[simp] theorem State.addReg_dict (s : State) (idx sub n : Nat) : (s.addReg idx sub n).dict = s.dict := (rfl)
@[simp] theorem State.addReg_faults (s : State) (idx sub n : Nat) : (s.addReg idx sub n).faults = s.faults := (rfl)
@[simp] theorem State.addReg_chest (s : State) (idx sub n : Nat) : (s.addReg idx sub n).chest = s.chest := (rfl)
@[simp] theorem State.addReg_bureau (s : State) (idx sub n : Nat) : (s.addReg idx sub n).bureau = s.bureau := (rfl)
@[simp] theorem State.addReg_eflash (s : State) (idx sub n : Nat) : (s.addReg idx sub n).eflash = s.eflash := (rfl)
@[simp] theorem State.addReg_security (s : State) (idx sub n : Nat) : (s.addReg idx sub n).security = s.security :=
  (rfl)
@[simp] theorem State.addReg_test (s : State) (idx sub n : Nat) : (s.addReg idx sub n).test = s.test := (rfl)

/-! ### State.maxReg -/

@[simp] theorem State.maxReg_pending (s : State) (idx sub v : Nat) : (s.maxReg idx sub v).pending = s.pending := (rfl)
@[simp] theorem State.maxReg_out (s : State) (idx sub v : Nat) : (s.maxReg idx sub v).out = s.out := (rfl)
@[simp] theorem State.maxReg_free (s : State) (idx sub v : Nat) : (s.maxReg idx sub v).free = s.free := (rfl)
@[simp] theorem State.maxReg_clock (s : State) (idx sub v : Nat) : (s.maxReg idx sub v).clock = s.clock := (rfl)
@[simp] theorem State.maxReg_ctl (s : State) (idx sub v : Nat) : (s.maxReg idx sub v).ctl = s.ctl := (rfl)
@[simp] theorem State.maxReg_layout (s : State) (idx sub v : Nat) : (s.maxReg idx sub v).layout = s.layout := (rfl)
@[simp] theorem State.maxReg_links (s : State) (idx sub v : Nat) : (s.maxReg idx sub v).links = s.links := (rfl)
@[simp] theorem State.maxReg_ingress (s : State) (idx sub v : Nat) : (s.maxReg idx sub v).ingress = s.ingress := (rfl)
@[simp] theorem State.maxReg_mem (s : State) (idx sub v : Nat) : (s.maxReg idx sub v).mem = s.mem := (rfl)
@[simp] theorem State.maxReg_poison (s : State) (idx sub v : Nat) : (s.maxReg idx sub v).poison = s.poison := (rfl)
@[simp] theorem State.maxReg_poisonOverflow (s : State) (idx sub v : Nat) :
    (s.maxReg idx sub v).poisonOverflow = s.poisonOverflow := (rfl)
@[simp] theorem State.maxReg_mirrorCopied (s : State) (idx sub v : Nat) :
    (s.maxReg idx sub v).mirrorCopied = s.mirrorCopied := (rfl)
@[simp] theorem State.maxReg_mirrorUnits (s : State) (idx sub v : Nat) :
    (s.maxReg idx sub v).mirrorUnits = s.mirrorUnits := (rfl)
@[simp] theorem State.maxReg_mirrorWhole (s : State) (idx sub v : Nat) :
    (s.maxReg idx sub v).mirrorWhole = s.mirrorWhole := (rfl)
@[simp] theorem State.maxReg_leaves (s : State) (idx sub v : Nat) : (s.maxReg idx sub v).leaves = s.leaves := (rfl)
@[simp] theorem State.maxReg_heat (s : State) (idx sub v : Nat) : (s.maxReg idx sub v).heat = s.heat := (rfl)
@[simp] theorem State.maxReg_heatBase (s : State) (idx sub v : Nat) : (s.maxReg idx sub v).heatBase = s.heatBase :=
  (rfl)
@[simp] theorem State.maxReg_delta (s : State) (idx sub v : Nat) : (s.maxReg idx sub v).delta = s.delta := (rfl)
@[simp] theorem State.maxReg_trickle (s : State) (idx sub v : Nat) : (s.maxReg idx sub v).trickle = s.trickle := (rfl)
@[simp] theorem State.maxReg_groups (s : State) (idx sub v : Nat) : (s.maxReg idx sub v).groups = s.groups := (rfl)
@[simp] theorem State.maxReg_sched (s : State) (idx sub v : Nat) : (s.maxReg idx sub v).sched = s.sched := (rfl)
@[simp] theorem State.maxReg_dram (s : State) (idx sub v : Nat) : (s.maxReg idx sub v).dram = s.dram := (rfl)
@[simp] theorem State.maxReg_nand (s : State) (idx sub v : Nat) : (s.maxReg idx sub v).nand = s.nand := (rfl)
@[simp] theorem State.maxReg_save (s : State) (idx sub v : Nat) : (s.maxReg idx sub v).save = s.save := (rfl)
@[simp] theorem State.maxReg_trestle (s : State) (idx sub v : Nat) : (s.maxReg idx sub v).trestle = s.trestle := (rfl)
@[simp] theorem State.maxReg_niura (s : State) (idx sub v : Nat) : (s.maxReg idx sub v).niura = s.niura := (rfl)
@[simp] theorem State.maxReg_rails (s : State) (idx sub v : Nat) : (s.maxReg idx sub v).rails = s.rails := (rfl)
@[simp] theorem State.maxReg_dict (s : State) (idx sub v : Nat) : (s.maxReg idx sub v).dict = s.dict := (rfl)
@[simp] theorem State.maxReg_faults (s : State) (idx sub v : Nat) : (s.maxReg idx sub v).faults = s.faults := (rfl)
@[simp] theorem State.maxReg_chest (s : State) (idx sub v : Nat) : (s.maxReg idx sub v).chest = s.chest := (rfl)
@[simp] theorem State.maxReg_bureau (s : State) (idx sub v : Nat) : (s.maxReg idx sub v).bureau = s.bureau := (rfl)
@[simp] theorem State.maxReg_eflash (s : State) (idx sub v : Nat) : (s.maxReg idx sub v).eflash = s.eflash := (rfl)
@[simp] theorem State.maxReg_security (s : State) (idx sub v : Nat) : (s.maxReg idx sub v).security = s.security :=
  (rfl)
@[simp] theorem State.maxReg_test (s : State) (idx sub v : Nat) : (s.maxReg idx sub v).test = s.test := (rfl)

/-! ### State.drawn -/

@[simp] theorem State.drawn_pending (s : State) : s.drawn.pending = s.pending := (rfl)
@[simp] theorem State.drawn_out (s : State) : s.drawn.out = s.out := (rfl)
@[simp] theorem State.drawn_clock (s : State) : s.drawn.clock = s.clock := (rfl)
@[simp] theorem State.drawn_ctl (s : State) : s.drawn.ctl = s.ctl := (rfl)
@[simp] theorem State.drawn_regs (s : State) : s.drawn.regs = s.regs := (rfl)
@[simp] theorem State.drawn_layout (s : State) : s.drawn.layout = s.layout := (rfl)
@[simp] theorem State.drawn_links (s : State) : s.drawn.links = s.links := (rfl)
@[simp] theorem State.drawn_ingress (s : State) : s.drawn.ingress = s.ingress := (rfl)
@[simp] theorem State.drawn_mem (s : State) : s.drawn.mem = s.mem := (rfl)
@[simp] theorem State.drawn_poison (s : State) : s.drawn.poison = s.poison := (rfl)
@[simp] theorem State.drawn_poisonOverflow (s : State) : s.drawn.poisonOverflow = s.poisonOverflow := (rfl)
@[simp] theorem State.drawn_mirrorCopied (s : State) : s.drawn.mirrorCopied = s.mirrorCopied := (rfl)
@[simp] theorem State.drawn_mirrorUnits (s : State) : s.drawn.mirrorUnits = s.mirrorUnits := (rfl)
@[simp] theorem State.drawn_mirrorWhole (s : State) : s.drawn.mirrorWhole = s.mirrorWhole := (rfl)
@[simp] theorem State.drawn_leaves (s : State) : s.drawn.leaves = s.leaves := (rfl)
@[simp] theorem State.drawn_heat (s : State) : s.drawn.heat = s.heat := (rfl)
@[simp] theorem State.drawn_heatBase (s : State) : s.drawn.heatBase = s.heatBase := (rfl)
@[simp] theorem State.drawn_delta (s : State) : s.drawn.delta = s.delta := (rfl)
@[simp] theorem State.drawn_trickle (s : State) : s.drawn.trickle = s.trickle := (rfl)
@[simp] theorem State.drawn_groups (s : State) : s.drawn.groups = s.groups := (rfl)
@[simp] theorem State.drawn_sched (s : State) : s.drawn.sched = s.sched := (rfl)
@[simp] theorem State.drawn_dram (s : State) : s.drawn.dram = s.dram := (rfl)
@[simp] theorem State.drawn_nand (s : State) : s.drawn.nand = s.nand := (rfl)
@[simp] theorem State.drawn_save (s : State) : s.drawn.save = s.save := (rfl)
@[simp] theorem State.drawn_trestle (s : State) : s.drawn.trestle = s.trestle := (rfl)
@[simp] theorem State.drawn_niura (s : State) : s.drawn.niura = s.niura := (rfl)
@[simp] theorem State.drawn_rails (s : State) : s.drawn.rails = s.rails := (rfl)
@[simp] theorem State.drawn_dict (s : State) : s.drawn.dict = s.dict := (rfl)
@[simp] theorem State.drawn_faults (s : State) : s.drawn.faults = s.faults := (rfl)
@[simp] theorem State.drawn_chest (s : State) : s.drawn.chest = s.chest := (rfl)
@[simp] theorem State.drawn_bureau (s : State) : s.drawn.bureau = s.bureau := (rfl)
@[simp] theorem State.drawn_eflash (s : State) : s.drawn.eflash = s.eflash := (rfl)
@[simp] theorem State.drawn_security (s : State) : s.drawn.security = s.security := (rfl)
@[simp] theorem State.drawn_test (s : State) : s.drawn.test = s.test := (rfl)

/-! ### State.fresh -/

@[simp] theorem State.fresh_pending (s : State) : s.fresh.pending = s.pending := (rfl)
@[simp] theorem State.fresh_free (s : State) : s.fresh.free = s.free := (rfl)
@[simp] theorem State.fresh_clock (s : State) : s.fresh.clock = s.clock := (rfl)
@[simp] theorem State.fresh_ctl (s : State) : s.fresh.ctl = s.ctl := (rfl)
@[simp] theorem State.fresh_regs (s : State) : s.fresh.regs = s.regs := (rfl)
@[simp] theorem State.fresh_layout (s : State) : s.fresh.layout = s.layout := (rfl)
@[simp] theorem State.fresh_links (s : State) : s.fresh.links = s.links := (rfl)
@[simp] theorem State.fresh_ingress (s : State) : s.fresh.ingress = s.ingress := (rfl)
@[simp] theorem State.fresh_mem (s : State) : s.fresh.mem = s.mem := (rfl)
@[simp] theorem State.fresh_poison (s : State) : s.fresh.poison = s.poison := (rfl)
@[simp] theorem State.fresh_poisonOverflow (s : State) : s.fresh.poisonOverflow = s.poisonOverflow := (rfl)
@[simp] theorem State.fresh_mirrorCopied (s : State) : s.fresh.mirrorCopied = s.mirrorCopied := (rfl)
@[simp] theorem State.fresh_mirrorUnits (s : State) : s.fresh.mirrorUnits = s.mirrorUnits := (rfl)
@[simp] theorem State.fresh_mirrorWhole (s : State) : s.fresh.mirrorWhole = s.mirrorWhole := (rfl)
@[simp] theorem State.fresh_leaves (s : State) : s.fresh.leaves = s.leaves := (rfl)
@[simp] theorem State.fresh_heat (s : State) : s.fresh.heat = s.heat := (rfl)
@[simp] theorem State.fresh_heatBase (s : State) : s.fresh.heatBase = s.heatBase := (rfl)
@[simp] theorem State.fresh_delta (s : State) : s.fresh.delta = s.delta := (rfl)
@[simp] theorem State.fresh_trickle (s : State) : s.fresh.trickle = s.trickle := (rfl)
@[simp] theorem State.fresh_groups (s : State) : s.fresh.groups = s.groups := (rfl)
@[simp] theorem State.fresh_sched (s : State) : s.fresh.sched = s.sched := (rfl)
@[simp] theorem State.fresh_dram (s : State) : s.fresh.dram = s.dram := (rfl)
@[simp] theorem State.fresh_nand (s : State) : s.fresh.nand = s.nand := (rfl)
@[simp] theorem State.fresh_save (s : State) : s.fresh.save = s.save := (rfl)
@[simp] theorem State.fresh_trestle (s : State) : s.fresh.trestle = s.trestle := (rfl)
@[simp] theorem State.fresh_niura (s : State) : s.fresh.niura = s.niura := (rfl)
@[simp] theorem State.fresh_rails (s : State) : s.fresh.rails = s.rails := (rfl)
@[simp] theorem State.fresh_dict (s : State) : s.fresh.dict = s.dict := (rfl)
@[simp] theorem State.fresh_faults (s : State) : s.fresh.faults = s.faults := (rfl)
@[simp] theorem State.fresh_chest (s : State) : s.fresh.chest = s.chest := (rfl)
@[simp] theorem State.fresh_bureau (s : State) : s.fresh.bureau = s.bureau := (rfl)
@[simp] theorem State.fresh_eflash (s : State) : s.fresh.eflash = s.eflash := (rfl)
@[simp] theorem State.fresh_security (s : State) : s.fresh.security = s.security := (rfl)
@[simp] theorem State.fresh_test (s : State) : s.fresh.test = s.test := (rfl)

/-! ### State.emit -/

@[simp] theorem State.emit_pending (s : State) (o : Output) : (s.emit o).pending = s.pending := (rfl)
@[simp] theorem State.emit_free (s : State) (o : Output) : (s.emit o).free = s.free := (rfl)
@[simp] theorem State.emit_clock (s : State) (o : Output) : (s.emit o).clock = s.clock := (rfl)
@[simp] theorem State.emit_ctl (s : State) (o : Output) : (s.emit o).ctl = s.ctl := (rfl)
@[simp] theorem State.emit_regs (s : State) (o : Output) : (s.emit o).regs = s.regs := (rfl)
@[simp] theorem State.emit_layout (s : State) (o : Output) : (s.emit o).layout = s.layout := (rfl)
@[simp] theorem State.emit_links (s : State) (o : Output) : (s.emit o).links = s.links := (rfl)
@[simp] theorem State.emit_ingress (s : State) (o : Output) : (s.emit o).ingress = s.ingress := (rfl)
@[simp] theorem State.emit_mem (s : State) (o : Output) : (s.emit o).mem = s.mem := (rfl)
@[simp] theorem State.emit_poison (s : State) (o : Output) : (s.emit o).poison = s.poison := (rfl)
@[simp] theorem State.emit_poisonOverflow (s : State) (o : Output) : (s.emit o).poisonOverflow = s.poisonOverflow :=
  (rfl)
@[simp] theorem State.emit_mirrorCopied (s : State) (o : Output) : (s.emit o).mirrorCopied = s.mirrorCopied := (rfl)
@[simp] theorem State.emit_mirrorUnits (s : State) (o : Output) : (s.emit o).mirrorUnits = s.mirrorUnits := (rfl)
@[simp] theorem State.emit_mirrorWhole (s : State) (o : Output) : (s.emit o).mirrorWhole = s.mirrorWhole := (rfl)
@[simp] theorem State.emit_leaves (s : State) (o : Output) : (s.emit o).leaves = s.leaves := (rfl)
@[simp] theorem State.emit_heat (s : State) (o : Output) : (s.emit o).heat = s.heat := (rfl)
@[simp] theorem State.emit_heatBase (s : State) (o : Output) : (s.emit o).heatBase = s.heatBase := (rfl)
@[simp] theorem State.emit_delta (s : State) (o : Output) : (s.emit o).delta = s.delta := (rfl)
@[simp] theorem State.emit_trickle (s : State) (o : Output) : (s.emit o).trickle = s.trickle := (rfl)
@[simp] theorem State.emit_groups (s : State) (o : Output) : (s.emit o).groups = s.groups := (rfl)
@[simp] theorem State.emit_sched (s : State) (o : Output) : (s.emit o).sched = s.sched := (rfl)
@[simp] theorem State.emit_dram (s : State) (o : Output) : (s.emit o).dram = s.dram := (rfl)
@[simp] theorem State.emit_nand (s : State) (o : Output) : (s.emit o).nand = s.nand := (rfl)
@[simp] theorem State.emit_save (s : State) (o : Output) : (s.emit o).save = s.save := (rfl)
@[simp] theorem State.emit_trestle (s : State) (o : Output) : (s.emit o).trestle = s.trestle := (rfl)
@[simp] theorem State.emit_niura (s : State) (o : Output) : (s.emit o).niura = s.niura := (rfl)
@[simp] theorem State.emit_rails (s : State) (o : Output) : (s.emit o).rails = s.rails := (rfl)
@[simp] theorem State.emit_dict (s : State) (o : Output) : (s.emit o).dict = s.dict := (rfl)
@[simp] theorem State.emit_faults (s : State) (o : Output) : (s.emit o).faults = s.faults := (rfl)
@[simp] theorem State.emit_chest (s : State) (o : Output) : (s.emit o).chest = s.chest := (rfl)
@[simp] theorem State.emit_bureau (s : State) (o : Output) : (s.emit o).bureau = s.bureau := (rfl)
@[simp] theorem State.emit_eflash (s : State) (o : Output) : (s.emit o).eflash = s.eflash := (rfl)
@[simp] theorem State.emit_security (s : State) (o : Output) : (s.emit o).security = s.security := (rfl)
@[simp] theorem State.emit_test (s : State) (o : Output) : (s.emit o).test = s.test := (rfl)

/-! ### State.emits -/

@[simp] theorem State.emits_pending (s : State) (os : List Output) : (s.emits os).pending = s.pending := (rfl)
@[simp] theorem State.emits_free (s : State) (os : List Output) : (s.emits os).free = s.free := (rfl)
@[simp] theorem State.emits_clock (s : State) (os : List Output) : (s.emits os).clock = s.clock := (rfl)
@[simp] theorem State.emits_ctl (s : State) (os : List Output) : (s.emits os).ctl = s.ctl := (rfl)
@[simp] theorem State.emits_regs (s : State) (os : List Output) : (s.emits os).regs = s.regs := (rfl)
@[simp] theorem State.emits_layout (s : State) (os : List Output) : (s.emits os).layout = s.layout := (rfl)
@[simp] theorem State.emits_links (s : State) (os : List Output) : (s.emits os).links = s.links := (rfl)
@[simp] theorem State.emits_ingress (s : State) (os : List Output) : (s.emits os).ingress = s.ingress := (rfl)
@[simp] theorem State.emits_mem (s : State) (os : List Output) : (s.emits os).mem = s.mem := (rfl)
@[simp] theorem State.emits_poison (s : State) (os : List Output) : (s.emits os).poison = s.poison := (rfl)
@[simp] theorem State.emits_poisonOverflow (s : State) (os : List Output) :
    (s.emits os).poisonOverflow = s.poisonOverflow := (rfl)
@[simp] theorem State.emits_mirrorCopied (s : State) (os : List Output) :
    (s.emits os).mirrorCopied = s.mirrorCopied := (rfl)
@[simp] theorem State.emits_mirrorUnits (s : State) (os : List Output) : (s.emits os).mirrorUnits = s.mirrorUnits :=
  (rfl)
@[simp] theorem State.emits_mirrorWhole (s : State) (os : List Output) : (s.emits os).mirrorWhole = s.mirrorWhole :=
  (rfl)
@[simp] theorem State.emits_leaves (s : State) (os : List Output) : (s.emits os).leaves = s.leaves := (rfl)
@[simp] theorem State.emits_heat (s : State) (os : List Output) : (s.emits os).heat = s.heat := (rfl)
@[simp] theorem State.emits_heatBase (s : State) (os : List Output) : (s.emits os).heatBase = s.heatBase := (rfl)
@[simp] theorem State.emits_delta (s : State) (os : List Output) : (s.emits os).delta = s.delta := (rfl)
@[simp] theorem State.emits_trickle (s : State) (os : List Output) : (s.emits os).trickle = s.trickle := (rfl)
@[simp] theorem State.emits_groups (s : State) (os : List Output) : (s.emits os).groups = s.groups := (rfl)
@[simp] theorem State.emits_sched (s : State) (os : List Output) : (s.emits os).sched = s.sched := (rfl)
@[simp] theorem State.emits_dram (s : State) (os : List Output) : (s.emits os).dram = s.dram := (rfl)
@[simp] theorem State.emits_nand (s : State) (os : List Output) : (s.emits os).nand = s.nand := (rfl)
@[simp] theorem State.emits_save (s : State) (os : List Output) : (s.emits os).save = s.save := (rfl)
@[simp] theorem State.emits_trestle (s : State) (os : List Output) : (s.emits os).trestle = s.trestle := (rfl)
@[simp] theorem State.emits_niura (s : State) (os : List Output) : (s.emits os).niura = s.niura := (rfl)
@[simp] theorem State.emits_rails (s : State) (os : List Output) : (s.emits os).rails = s.rails := (rfl)
@[simp] theorem State.emits_dict (s : State) (os : List Output) : (s.emits os).dict = s.dict := (rfl)
@[simp] theorem State.emits_faults (s : State) (os : List Output) : (s.emits os).faults = s.faults := (rfl)
@[simp] theorem State.emits_chest (s : State) (os : List Output) : (s.emits os).chest = s.chest := (rfl)
@[simp] theorem State.emits_bureau (s : State) (os : List Output) : (s.emits os).bureau = s.bureau := (rfl)
@[simp] theorem State.emits_eflash (s : State) (os : List Output) : (s.emits os).eflash = s.eflash := (rfl)
@[simp] theorem State.emits_security (s : State) (os : List Output) : (s.emits os).security = s.security := (rfl)
@[simp] theorem State.emits_test (s : State) (os : List Output) : (s.emits os).test = s.test := (rfl)

/-! ### State.idle -/

@[simp] theorem State.idle_pending (s : State) : s.idle.pending = s.pending := (rfl)
@[simp] theorem State.idle_free (s : State) : s.idle.free = s.free := (rfl)
@[simp] theorem State.idle_clock (s : State) : s.idle.clock = s.clock := (rfl)
@[simp] theorem State.idle_ctl (s : State) : s.idle.ctl = s.ctl := (rfl)
@[simp] theorem State.idle_regs (s : State) : s.idle.regs = s.regs := (rfl)
@[simp] theorem State.idle_layout (s : State) : s.idle.layout = s.layout := (rfl)
@[simp] theorem State.idle_links (s : State) : s.idle.links = s.links := (rfl)
@[simp] theorem State.idle_ingress (s : State) : s.idle.ingress = s.ingress := (rfl)
@[simp] theorem State.idle_mem (s : State) : s.idle.mem = s.mem := (rfl)
@[simp] theorem State.idle_poison (s : State) : s.idle.poison = s.poison := (rfl)
@[simp] theorem State.idle_poisonOverflow (s : State) : s.idle.poisonOverflow = s.poisonOverflow := (rfl)
@[simp] theorem State.idle_mirrorCopied (s : State) : s.idle.mirrorCopied = s.mirrorCopied := (rfl)
@[simp] theorem State.idle_mirrorUnits (s : State) : s.idle.mirrorUnits = s.mirrorUnits := (rfl)
@[simp] theorem State.idle_mirrorWhole (s : State) : s.idle.mirrorWhole = s.mirrorWhole := (rfl)
@[simp] theorem State.idle_leaves (s : State) : s.idle.leaves = s.leaves := (rfl)
@[simp] theorem State.idle_heat (s : State) : s.idle.heat = s.heat := (rfl)
@[simp] theorem State.idle_heatBase (s : State) : s.idle.heatBase = s.heatBase := (rfl)
@[simp] theorem State.idle_delta (s : State) : s.idle.delta = s.delta := (rfl)
@[simp] theorem State.idle_trickle (s : State) : s.idle.trickle = s.trickle := (rfl)
@[simp] theorem State.idle_groups (s : State) : s.idle.groups = s.groups := (rfl)
@[simp] theorem State.idle_sched (s : State) : s.idle.sched = s.sched := (rfl)
@[simp] theorem State.idle_dram (s : State) : s.idle.dram = s.dram := (rfl)
@[simp] theorem State.idle_nand (s : State) : s.idle.nand = s.nand := (rfl)
@[simp] theorem State.idle_save (s : State) : s.idle.save = s.save := (rfl)
@[simp] theorem State.idle_trestle (s : State) : s.idle.trestle = s.trestle := (rfl)
@[simp] theorem State.idle_niura (s : State) : s.idle.niura = s.niura := (rfl)
@[simp] theorem State.idle_rails (s : State) : s.idle.rails = s.rails := (rfl)
@[simp] theorem State.idle_dict (s : State) : s.idle.dict = s.dict := (rfl)
@[simp] theorem State.idle_faults (s : State) : s.idle.faults = s.faults := (rfl)
@[simp] theorem State.idle_chest (s : State) : s.idle.chest = s.chest := (rfl)
@[simp] theorem State.idle_bureau (s : State) : s.idle.bureau = s.bureau := (rfl)
@[simp] theorem State.idle_eflash (s : State) : s.idle.eflash = s.eflash := (rfl)
@[simp] theorem State.idle_security (s : State) : s.idle.security = s.security := (rfl)
@[simp] theorem State.idle_test (s : State) : s.idle.test = s.test := (rfl)

/-! ### State.setLink -/

@[simp] theorem State.setLink_pending (s : State) (i : Nat) (l : Link) : (s.setLink i l).pending = s.pending := (rfl)
@[simp] theorem State.setLink_out (s : State) (i : Nat) (l : Link) : (s.setLink i l).out = s.out := (rfl)
@[simp] theorem State.setLink_free (s : State) (i : Nat) (l : Link) : (s.setLink i l).free = s.free := (rfl)
@[simp] theorem State.setLink_clock (s : State) (i : Nat) (l : Link) : (s.setLink i l).clock = s.clock := (rfl)
@[simp] theorem State.setLink_ctl (s : State) (i : Nat) (l : Link) : (s.setLink i l).ctl = s.ctl := (rfl)
@[simp] theorem State.setLink_regs (s : State) (i : Nat) (l : Link) : (s.setLink i l).regs = s.regs := (rfl)
@[simp] theorem State.setLink_layout (s : State) (i : Nat) (l : Link) : (s.setLink i l).layout = s.layout := (rfl)
@[simp] theorem State.setLink_ingress (s : State) (i : Nat) (l : Link) : (s.setLink i l).ingress = s.ingress := (rfl)
@[simp] theorem State.setLink_mem (s : State) (i : Nat) (l : Link) : (s.setLink i l).mem = s.mem := (rfl)
@[simp] theorem State.setLink_poison (s : State) (i : Nat) (l : Link) : (s.setLink i l).poison = s.poison := (rfl)
@[simp] theorem State.setLink_poisonOverflow (s : State) (i : Nat) (l : Link) :
    (s.setLink i l).poisonOverflow = s.poisonOverflow := (rfl)
@[simp] theorem State.setLink_mirrorCopied (s : State) (i : Nat) (l : Link) :
    (s.setLink i l).mirrorCopied = s.mirrorCopied := (rfl)
@[simp] theorem State.setLink_mirrorUnits (s : State) (i : Nat) (l : Link) :
    (s.setLink i l).mirrorUnits = s.mirrorUnits := (rfl)
@[simp] theorem State.setLink_mirrorWhole (s : State) (i : Nat) (l : Link) :
    (s.setLink i l).mirrorWhole = s.mirrorWhole := (rfl)
@[simp] theorem State.setLink_leaves (s : State) (i : Nat) (l : Link) : (s.setLink i l).leaves = s.leaves := (rfl)
@[simp] theorem State.setLink_heat (s : State) (i : Nat) (l : Link) : (s.setLink i l).heat = s.heat := (rfl)
@[simp] theorem State.setLink_heatBase (s : State) (i : Nat) (l : Link) : (s.setLink i l).heatBase = s.heatBase :=
  (rfl)
@[simp] theorem State.setLink_delta (s : State) (i : Nat) (l : Link) : (s.setLink i l).delta = s.delta := (rfl)
@[simp] theorem State.setLink_trickle (s : State) (i : Nat) (l : Link) : (s.setLink i l).trickle = s.trickle := (rfl)
@[simp] theorem State.setLink_groups (s : State) (i : Nat) (l : Link) : (s.setLink i l).groups = s.groups := (rfl)
@[simp] theorem State.setLink_sched (s : State) (i : Nat) (l : Link) : (s.setLink i l).sched = s.sched := (rfl)
@[simp] theorem State.setLink_dram (s : State) (i : Nat) (l : Link) : (s.setLink i l).dram = s.dram := (rfl)
@[simp] theorem State.setLink_nand (s : State) (i : Nat) (l : Link) : (s.setLink i l).nand = s.nand := (rfl)
@[simp] theorem State.setLink_save (s : State) (i : Nat) (l : Link) : (s.setLink i l).save = s.save := (rfl)
@[simp] theorem State.setLink_trestle (s : State) (i : Nat) (l : Link) : (s.setLink i l).trestle = s.trestle := (rfl)
@[simp] theorem State.setLink_niura (s : State) (i : Nat) (l : Link) : (s.setLink i l).niura = s.niura := (rfl)
@[simp] theorem State.setLink_rails (s : State) (i : Nat) (l : Link) : (s.setLink i l).rails = s.rails := (rfl)
@[simp] theorem State.setLink_dict (s : State) (i : Nat) (l : Link) : (s.setLink i l).dict = s.dict := (rfl)
@[simp] theorem State.setLink_faults (s : State) (i : Nat) (l : Link) : (s.setLink i l).faults = s.faults := (rfl)
@[simp] theorem State.setLink_chest (s : State) (i : Nat) (l : Link) : (s.setLink i l).chest = s.chest := (rfl)
@[simp] theorem State.setLink_bureau (s : State) (i : Nat) (l : Link) : (s.setLink i l).bureau = s.bureau := (rfl)
@[simp] theorem State.setLink_eflash (s : State) (i : Nat) (l : Link) : (s.setLink i l).eflash = s.eflash := (rfl)
@[simp] theorem State.setLink_security (s : State) (i : Nat) (l : Link) : (s.setLink i l).security = s.security :=
  (rfl)
@[simp] theorem State.setLink_test (s : State) (i : Nat) (l : Link) : (s.setLink i l).test = s.test := (rfl)

/-! ### State.setLeaf -/

@[simp] theorem State.setLeaf_pending (s : State) (leaf : Nat) (st : LeafState) (k : DeltaKind) :
    (s.setLeaf leaf st k).pending = s.pending := (rfl)
@[simp] theorem State.setLeaf_out (s : State) (leaf : Nat) (st : LeafState) (k : DeltaKind) :
    (s.setLeaf leaf st k).out = s.out := (rfl)
@[simp] theorem State.setLeaf_free (s : State) (leaf : Nat) (st : LeafState) (k : DeltaKind) :
    (s.setLeaf leaf st k).free = s.free := (rfl)
@[simp] theorem State.setLeaf_clock (s : State) (leaf : Nat) (st : LeafState) (k : DeltaKind) :
    (s.setLeaf leaf st k).clock = s.clock := (rfl)
@[simp] theorem State.setLeaf_ctl (s : State) (leaf : Nat) (st : LeafState) (k : DeltaKind) :
    (s.setLeaf leaf st k).ctl = s.ctl := (rfl)
@[simp] theorem State.setLeaf_regs (s : State) (leaf : Nat) (st : LeafState) (k : DeltaKind) :
    (s.setLeaf leaf st k).regs = s.regs := (rfl)
@[simp] theorem State.setLeaf_layout (s : State) (leaf : Nat) (st : LeafState) (k : DeltaKind) :
    (s.setLeaf leaf st k).layout = s.layout := (rfl)
@[simp] theorem State.setLeaf_links (s : State) (leaf : Nat) (st : LeafState) (k : DeltaKind) :
    (s.setLeaf leaf st k).links = s.links := (rfl)
@[simp] theorem State.setLeaf_ingress (s : State) (leaf : Nat) (st : LeafState) (k : DeltaKind) :
    (s.setLeaf leaf st k).ingress = s.ingress := (rfl)
@[simp] theorem State.setLeaf_mem (s : State) (leaf : Nat) (st : LeafState) (k : DeltaKind) :
    (s.setLeaf leaf st k).mem = s.mem := (rfl)
@[simp] theorem State.setLeaf_poison (s : State) (leaf : Nat) (st : LeafState) (k : DeltaKind) :
    (s.setLeaf leaf st k).poison = s.poison := (rfl)
@[simp] theorem State.setLeaf_poisonOverflow (s : State) (leaf : Nat) (st : LeafState) (k : DeltaKind) :
    (s.setLeaf leaf st k).poisonOverflow = s.poisonOverflow := (rfl)
@[simp] theorem State.setLeaf_mirrorCopied (s : State) (leaf : Nat) (st : LeafState) (k : DeltaKind) :
    (s.setLeaf leaf st k).mirrorCopied = s.mirrorCopied := (rfl)
@[simp] theorem State.setLeaf_mirrorUnits (s : State) (leaf : Nat) (st : LeafState) (k : DeltaKind) :
    (s.setLeaf leaf st k).mirrorUnits = s.mirrorUnits := (rfl)
@[simp] theorem State.setLeaf_mirrorWhole (s : State) (leaf : Nat) (st : LeafState) (k : DeltaKind) :
    (s.setLeaf leaf st k).mirrorWhole = s.mirrorWhole := (rfl)
@[simp] theorem State.setLeaf_heat (s : State) (leaf : Nat) (st : LeafState) (k : DeltaKind) :
    (s.setLeaf leaf st k).heat = s.heat := (rfl)
@[simp] theorem State.setLeaf_heatBase (s : State) (leaf : Nat) (st : LeafState) (k : DeltaKind) :
    (s.setLeaf leaf st k).heatBase = s.heatBase := (rfl)
@[simp] theorem State.setLeaf_trickle (s : State) (leaf : Nat) (st : LeafState) (k : DeltaKind) :
    (s.setLeaf leaf st k).trickle = s.trickle := (rfl)
@[simp] theorem State.setLeaf_groups (s : State) (leaf : Nat) (st : LeafState) (k : DeltaKind) :
    (s.setLeaf leaf st k).groups = s.groups := (rfl)
@[simp] theorem State.setLeaf_sched (s : State) (leaf : Nat) (st : LeafState) (k : DeltaKind) :
    (s.setLeaf leaf st k).sched = s.sched := (rfl)
@[simp] theorem State.setLeaf_dram (s : State) (leaf : Nat) (st : LeafState) (k : DeltaKind) :
    (s.setLeaf leaf st k).dram = s.dram := (rfl)
@[simp] theorem State.setLeaf_nand (s : State) (leaf : Nat) (st : LeafState) (k : DeltaKind) :
    (s.setLeaf leaf st k).nand = s.nand := (rfl)
@[simp] theorem State.setLeaf_save (s : State) (leaf : Nat) (st : LeafState) (k : DeltaKind) :
    (s.setLeaf leaf st k).save = s.save := (rfl)
@[simp] theorem State.setLeaf_trestle (s : State) (leaf : Nat) (st : LeafState) (k : DeltaKind) :
    (s.setLeaf leaf st k).trestle = s.trestle := (rfl)
@[simp] theorem State.setLeaf_niura (s : State) (leaf : Nat) (st : LeafState) (k : DeltaKind) :
    (s.setLeaf leaf st k).niura = s.niura := (rfl)
@[simp] theorem State.setLeaf_rails (s : State) (leaf : Nat) (st : LeafState) (k : DeltaKind) :
    (s.setLeaf leaf st k).rails = s.rails := (rfl)
@[simp] theorem State.setLeaf_dict (s : State) (leaf : Nat) (st : LeafState) (k : DeltaKind) :
    (s.setLeaf leaf st k).dict = s.dict := (rfl)
@[simp] theorem State.setLeaf_faults (s : State) (leaf : Nat) (st : LeafState) (k : DeltaKind) :
    (s.setLeaf leaf st k).faults = s.faults := (rfl)
@[simp] theorem State.setLeaf_chest (s : State) (leaf : Nat) (st : LeafState) (k : DeltaKind) :
    (s.setLeaf leaf st k).chest = s.chest := (rfl)
@[simp] theorem State.setLeaf_bureau (s : State) (leaf : Nat) (st : LeafState) (k : DeltaKind) :
    (s.setLeaf leaf st k).bureau = s.bureau := (rfl)
@[simp] theorem State.setLeaf_eflash (s : State) (leaf : Nat) (st : LeafState) (k : DeltaKind) :
    (s.setLeaf leaf st k).eflash = s.eflash := (rfl)
@[simp] theorem State.setLeaf_security (s : State) (leaf : Nat) (st : LeafState) (k : DeltaKind) :
    (s.setLeaf leaf st k).security = s.security := (rfl)
@[simp] theorem State.setLeaf_test (s : State) (leaf : Nat) (st : LeafState) (k : DeltaKind) :
    (s.setLeaf leaf st k).test = s.test := (rfl)

/-! ### State.markPoison -/

@[simp] theorem State.markPoison_pending (s : State) (unit : Nat) (src : PoisonSource) :
    (s.markPoison unit src).pending = s.pending := (rfl)
@[simp] theorem State.markPoison_out (s : State) (unit : Nat) (src : PoisonSource) :
    (s.markPoison unit src).out = s.out := (rfl)
@[simp] theorem State.markPoison_free (s : State) (unit : Nat) (src : PoisonSource) :
    (s.markPoison unit src).free = s.free := (rfl)
@[simp] theorem State.markPoison_clock (s : State) (unit : Nat) (src : PoisonSource) :
    (s.markPoison unit src).clock = s.clock := (rfl)
@[simp] theorem State.markPoison_ctl (s : State) (unit : Nat) (src : PoisonSource) :
    (s.markPoison unit src).ctl = s.ctl := (rfl)
@[simp] theorem State.markPoison_regs (s : State) (unit : Nat) (src : PoisonSource) :
    (s.markPoison unit src).regs = s.regs := (rfl)
@[simp] theorem State.markPoison_layout (s : State) (unit : Nat) (src : PoisonSource) :
    (s.markPoison unit src).layout = s.layout := (rfl)
@[simp] theorem State.markPoison_links (s : State) (unit : Nat) (src : PoisonSource) :
    (s.markPoison unit src).links = s.links := (rfl)
@[simp] theorem State.markPoison_ingress (s : State) (unit : Nat) (src : PoisonSource) :
    (s.markPoison unit src).ingress = s.ingress := (rfl)
@[simp] theorem State.markPoison_mem (s : State) (unit : Nat) (src : PoisonSource) :
    (s.markPoison unit src).mem = s.mem := (rfl)
@[simp] theorem State.markPoison_mirrorCopied (s : State) (unit : Nat) (src : PoisonSource) :
    (s.markPoison unit src).mirrorCopied = s.mirrorCopied := (rfl)
@[simp] theorem State.markPoison_mirrorUnits (s : State) (unit : Nat) (src : PoisonSource) :
    (s.markPoison unit src).mirrorUnits = s.mirrorUnits := (rfl)
@[simp] theorem State.markPoison_mirrorWhole (s : State) (unit : Nat) (src : PoisonSource) :
    (s.markPoison unit src).mirrorWhole = s.mirrorWhole := (rfl)
@[simp] theorem State.markPoison_leaves (s : State) (unit : Nat) (src : PoisonSource) :
    (s.markPoison unit src).leaves = s.leaves := (rfl)
@[simp] theorem State.markPoison_heat (s : State) (unit : Nat) (src : PoisonSource) :
    (s.markPoison unit src).heat = s.heat := (rfl)
@[simp] theorem State.markPoison_heatBase (s : State) (unit : Nat) (src : PoisonSource) :
    (s.markPoison unit src).heatBase = s.heatBase := (rfl)
@[simp] theorem State.markPoison_delta (s : State) (unit : Nat) (src : PoisonSource) :
    (s.markPoison unit src).delta = s.delta := (rfl)
@[simp] theorem State.markPoison_trickle (s : State) (unit : Nat) (src : PoisonSource) :
    (s.markPoison unit src).trickle = s.trickle := (rfl)
@[simp] theorem State.markPoison_groups (s : State) (unit : Nat) (src : PoisonSource) :
    (s.markPoison unit src).groups = s.groups := (rfl)
@[simp] theorem State.markPoison_sched (s : State) (unit : Nat) (src : PoisonSource) :
    (s.markPoison unit src).sched = s.sched := (rfl)
@[simp] theorem State.markPoison_dram (s : State) (unit : Nat) (src : PoisonSource) :
    (s.markPoison unit src).dram = s.dram := (rfl)
@[simp] theorem State.markPoison_nand (s : State) (unit : Nat) (src : PoisonSource) :
    (s.markPoison unit src).nand = s.nand := (rfl)
@[simp] theorem State.markPoison_save (s : State) (unit : Nat) (src : PoisonSource) :
    (s.markPoison unit src).save = s.save := (rfl)
@[simp] theorem State.markPoison_trestle (s : State) (unit : Nat) (src : PoisonSource) :
    (s.markPoison unit src).trestle = s.trestle := (rfl)
@[simp] theorem State.markPoison_niura (s : State) (unit : Nat) (src : PoisonSource) :
    (s.markPoison unit src).niura = s.niura := (rfl)
@[simp] theorem State.markPoison_rails (s : State) (unit : Nat) (src : PoisonSource) :
    (s.markPoison unit src).rails = s.rails := (rfl)
@[simp] theorem State.markPoison_dict (s : State) (unit : Nat) (src : PoisonSource) :
    (s.markPoison unit src).dict = s.dict := (rfl)
@[simp] theorem State.markPoison_faults (s : State) (unit : Nat) (src : PoisonSource) :
    (s.markPoison unit src).faults = s.faults := (rfl)
@[simp] theorem State.markPoison_chest (s : State) (unit : Nat) (src : PoisonSource) :
    (s.markPoison unit src).chest = s.chest := (rfl)
@[simp] theorem State.markPoison_bureau (s : State) (unit : Nat) (src : PoisonSource) :
    (s.markPoison unit src).bureau = s.bureau := (rfl)
@[simp] theorem State.markPoison_eflash (s : State) (unit : Nat) (src : PoisonSource) :
    (s.markPoison unit src).eflash = s.eflash := (rfl)
@[simp] theorem State.markPoison_security (s : State) (unit : Nat) (src : PoisonSource) :
    (s.markPoison unit src).security = s.security := (rfl)
@[simp] theorem State.markPoison_test (s : State) (unit : Nat) (src : PoisonSource) :
    (s.markPoison unit src).test = s.test := (rfl)

/-! ### State.unmarkPoison -/

@[simp] theorem State.unmarkPoison_pending (s : State) (unit : Nat) : (s.unmarkPoison unit).pending = s.pending :=
  (rfl)
@[simp] theorem State.unmarkPoison_out (s : State) (unit : Nat) : (s.unmarkPoison unit).out = s.out := (rfl)
@[simp] theorem State.unmarkPoison_free (s : State) (unit : Nat) : (s.unmarkPoison unit).free = s.free := (rfl)
@[simp] theorem State.unmarkPoison_clock (s : State) (unit : Nat) : (s.unmarkPoison unit).clock = s.clock := (rfl)
@[simp] theorem State.unmarkPoison_ctl (s : State) (unit : Nat) : (s.unmarkPoison unit).ctl = s.ctl := (rfl)
@[simp] theorem State.unmarkPoison_regs (s : State) (unit : Nat) : (s.unmarkPoison unit).regs = s.regs := (rfl)
@[simp] theorem State.unmarkPoison_layout (s : State) (unit : Nat) : (s.unmarkPoison unit).layout = s.layout := (rfl)
@[simp] theorem State.unmarkPoison_links (s : State) (unit : Nat) : (s.unmarkPoison unit).links = s.links := (rfl)
@[simp] theorem State.unmarkPoison_ingress (s : State) (unit : Nat) : (s.unmarkPoison unit).ingress = s.ingress :=
  (rfl)
@[simp] theorem State.unmarkPoison_mem (s : State) (unit : Nat) : (s.unmarkPoison unit).mem = s.mem := (rfl)
@[simp] theorem State.unmarkPoison_poisonOverflow (s : State) (unit : Nat) :
    (s.unmarkPoison unit).poisonOverflow = s.poisonOverflow := (rfl)
@[simp] theorem State.unmarkPoison_mirrorCopied (s : State) (unit : Nat) :
    (s.unmarkPoison unit).mirrorCopied = s.mirrorCopied := (rfl)
@[simp] theorem State.unmarkPoison_mirrorUnits (s : State) (unit : Nat) :
    (s.unmarkPoison unit).mirrorUnits = s.mirrorUnits := (rfl)
@[simp] theorem State.unmarkPoison_mirrorWhole (s : State) (unit : Nat) :
    (s.unmarkPoison unit).mirrorWhole = s.mirrorWhole := (rfl)
@[simp] theorem State.unmarkPoison_leaves (s : State) (unit : Nat) : (s.unmarkPoison unit).leaves = s.leaves := (rfl)
@[simp] theorem State.unmarkPoison_heat (s : State) (unit : Nat) : (s.unmarkPoison unit).heat = s.heat := (rfl)
@[simp] theorem State.unmarkPoison_heatBase (s : State) (unit : Nat) : (s.unmarkPoison unit).heatBase = s.heatBase :=
  (rfl)
@[simp] theorem State.unmarkPoison_delta (s : State) (unit : Nat) : (s.unmarkPoison unit).delta = s.delta := (rfl)
@[simp] theorem State.unmarkPoison_trickle (s : State) (unit : Nat) : (s.unmarkPoison unit).trickle = s.trickle :=
  (rfl)
@[simp] theorem State.unmarkPoison_groups (s : State) (unit : Nat) : (s.unmarkPoison unit).groups = s.groups := (rfl)
@[simp] theorem State.unmarkPoison_sched (s : State) (unit : Nat) : (s.unmarkPoison unit).sched = s.sched := (rfl)
@[simp] theorem State.unmarkPoison_dram (s : State) (unit : Nat) : (s.unmarkPoison unit).dram = s.dram := (rfl)
@[simp] theorem State.unmarkPoison_nand (s : State) (unit : Nat) : (s.unmarkPoison unit).nand = s.nand := (rfl)
@[simp] theorem State.unmarkPoison_save (s : State) (unit : Nat) : (s.unmarkPoison unit).save = s.save := (rfl)
@[simp] theorem State.unmarkPoison_trestle (s : State) (unit : Nat) : (s.unmarkPoison unit).trestle = s.trestle :=
  (rfl)
@[simp] theorem State.unmarkPoison_niura (s : State) (unit : Nat) : (s.unmarkPoison unit).niura = s.niura := (rfl)
@[simp] theorem State.unmarkPoison_rails (s : State) (unit : Nat) : (s.unmarkPoison unit).rails = s.rails := (rfl)
@[simp] theorem State.unmarkPoison_dict (s : State) (unit : Nat) : (s.unmarkPoison unit).dict = s.dict := (rfl)
@[simp] theorem State.unmarkPoison_faults (s : State) (unit : Nat) : (s.unmarkPoison unit).faults = s.faults := (rfl)
@[simp] theorem State.unmarkPoison_chest (s : State) (unit : Nat) : (s.unmarkPoison unit).chest = s.chest := (rfl)
@[simp] theorem State.unmarkPoison_bureau (s : State) (unit : Nat) : (s.unmarkPoison unit).bureau = s.bureau := (rfl)
@[simp] theorem State.unmarkPoison_eflash (s : State) (unit : Nat) : (s.unmarkPoison unit).eflash = s.eflash := (rfl)
@[simp] theorem State.unmarkPoison_security (s : State) (unit : Nat) : (s.unmarkPoison unit).security = s.security :=
  (rfl)
@[simp] theorem State.unmarkPoison_test (s : State) (unit : Nat) : (s.unmarkPoison unit).test = s.test := (rfl)

/-! ### State.setPoisonIn -/

@[simp] theorem State.setPoisonIn_pending (s : State) (lo len : Nat) (marks : Map PoisonSource) :
    (s.setPoisonIn lo len marks).pending = s.pending := (rfl)
@[simp] theorem State.setPoisonIn_out (s : State) (lo len : Nat) (marks : Map PoisonSource) :
    (s.setPoisonIn lo len marks).out = s.out := (rfl)
@[simp] theorem State.setPoisonIn_free (s : State) (lo len : Nat) (marks : Map PoisonSource) :
    (s.setPoisonIn lo len marks).free = s.free := (rfl)
@[simp] theorem State.setPoisonIn_clock (s : State) (lo len : Nat) (marks : Map PoisonSource) :
    (s.setPoisonIn lo len marks).clock = s.clock := (rfl)
@[simp] theorem State.setPoisonIn_ctl (s : State) (lo len : Nat) (marks : Map PoisonSource) :
    (s.setPoisonIn lo len marks).ctl = s.ctl := (rfl)
@[simp] theorem State.setPoisonIn_regs (s : State) (lo len : Nat) (marks : Map PoisonSource) :
    (s.setPoisonIn lo len marks).regs = s.regs := (rfl)
@[simp] theorem State.setPoisonIn_layout (s : State) (lo len : Nat) (marks : Map PoisonSource) :
    (s.setPoisonIn lo len marks).layout = s.layout := (rfl)
@[simp] theorem State.setPoisonIn_links (s : State) (lo len : Nat) (marks : Map PoisonSource) :
    (s.setPoisonIn lo len marks).links = s.links := (rfl)
@[simp] theorem State.setPoisonIn_ingress (s : State) (lo len : Nat) (marks : Map PoisonSource) :
    (s.setPoisonIn lo len marks).ingress = s.ingress := (rfl)
@[simp] theorem State.setPoisonIn_mem (s : State) (lo len : Nat) (marks : Map PoisonSource) :
    (s.setPoisonIn lo len marks).mem = s.mem := (rfl)
@[simp] theorem State.setPoisonIn_mirrorCopied (s : State) (lo len : Nat) (marks : Map PoisonSource) :
    (s.setPoisonIn lo len marks).mirrorCopied = s.mirrorCopied := (rfl)
@[simp] theorem State.setPoisonIn_mirrorUnits (s : State) (lo len : Nat) (marks : Map PoisonSource) :
    (s.setPoisonIn lo len marks).mirrorUnits = s.mirrorUnits := (rfl)
@[simp] theorem State.setPoisonIn_mirrorWhole (s : State) (lo len : Nat) (marks : Map PoisonSource) :
    (s.setPoisonIn lo len marks).mirrorWhole = s.mirrorWhole := (rfl)
@[simp] theorem State.setPoisonIn_leaves (s : State) (lo len : Nat) (marks : Map PoisonSource) :
    (s.setPoisonIn lo len marks).leaves = s.leaves := (rfl)
@[simp] theorem State.setPoisonIn_heat (s : State) (lo len : Nat) (marks : Map PoisonSource) :
    (s.setPoisonIn lo len marks).heat = s.heat := (rfl)
@[simp] theorem State.setPoisonIn_heatBase (s : State) (lo len : Nat) (marks : Map PoisonSource) :
    (s.setPoisonIn lo len marks).heatBase = s.heatBase := (rfl)
@[simp] theorem State.setPoisonIn_delta (s : State) (lo len : Nat) (marks : Map PoisonSource) :
    (s.setPoisonIn lo len marks).delta = s.delta := (rfl)
@[simp] theorem State.setPoisonIn_trickle (s : State) (lo len : Nat) (marks : Map PoisonSource) :
    (s.setPoisonIn lo len marks).trickle = s.trickle := (rfl)
@[simp] theorem State.setPoisonIn_groups (s : State) (lo len : Nat) (marks : Map PoisonSource) :
    (s.setPoisonIn lo len marks).groups = s.groups := (rfl)
@[simp] theorem State.setPoisonIn_sched (s : State) (lo len : Nat) (marks : Map PoisonSource) :
    (s.setPoisonIn lo len marks).sched = s.sched := (rfl)
@[simp] theorem State.setPoisonIn_dram (s : State) (lo len : Nat) (marks : Map PoisonSource) :
    (s.setPoisonIn lo len marks).dram = s.dram := (rfl)
@[simp] theorem State.setPoisonIn_nand (s : State) (lo len : Nat) (marks : Map PoisonSource) :
    (s.setPoisonIn lo len marks).nand = s.nand := (rfl)
@[simp] theorem State.setPoisonIn_save (s : State) (lo len : Nat) (marks : Map PoisonSource) :
    (s.setPoisonIn lo len marks).save = s.save := (rfl)
@[simp] theorem State.setPoisonIn_trestle (s : State) (lo len : Nat) (marks : Map PoisonSource) :
    (s.setPoisonIn lo len marks).trestle = s.trestle := (rfl)
@[simp] theorem State.setPoisonIn_niura (s : State) (lo len : Nat) (marks : Map PoisonSource) :
    (s.setPoisonIn lo len marks).niura = s.niura := (rfl)
@[simp] theorem State.setPoisonIn_rails (s : State) (lo len : Nat) (marks : Map PoisonSource) :
    (s.setPoisonIn lo len marks).rails = s.rails := (rfl)
@[simp] theorem State.setPoisonIn_dict (s : State) (lo len : Nat) (marks : Map PoisonSource) :
    (s.setPoisonIn lo len marks).dict = s.dict := (rfl)
@[simp] theorem State.setPoisonIn_faults (s : State) (lo len : Nat) (marks : Map PoisonSource) :
    (s.setPoisonIn lo len marks).faults = s.faults := (rfl)
@[simp] theorem State.setPoisonIn_chest (s : State) (lo len : Nat) (marks : Map PoisonSource) :
    (s.setPoisonIn lo len marks).chest = s.chest := (rfl)
@[simp] theorem State.setPoisonIn_bureau (s : State) (lo len : Nat) (marks : Map PoisonSource) :
    (s.setPoisonIn lo len marks).bureau = s.bureau := (rfl)
@[simp] theorem State.setPoisonIn_eflash (s : State) (lo len : Nat) (marks : Map PoisonSource) :
    (s.setPoisonIn lo len marks).eflash = s.eflash := (rfl)
@[simp] theorem State.setPoisonIn_security (s : State) (lo len : Nat) (marks : Map PoisonSource) :
    (s.setPoisonIn lo len marks).security = s.security := (rfl)
@[simp] theorem State.setPoisonIn_test (s : State) (lo len : Nat) (marks : Map PoisonSource) :
    (s.setPoisonIn lo len marks).test = s.test := (rfl)

/-! ### State.setMode -/

@[simp] theorem State.setMode_pending (s : State) (m : Mode) : (s.setMode m).pending = s.pending := (rfl)
@[simp] theorem State.setMode_out (s : State) (m : Mode) : (s.setMode m).out = s.out := (rfl)
@[simp] theorem State.setMode_free (s : State) (m : Mode) : (s.setMode m).free = s.free := (rfl)
@[simp] theorem State.setMode_clock (s : State) (m : Mode) : (s.setMode m).clock = s.clock := (rfl)
@[simp] theorem State.setMode_regs (s : State) (m : Mode) : (s.setMode m).regs = s.regs := (rfl)
@[simp] theorem State.setMode_layout (s : State) (m : Mode) : (s.setMode m).layout = s.layout := (rfl)
@[simp] theorem State.setMode_links (s : State) (m : Mode) : (s.setMode m).links = s.links := (rfl)
@[simp] theorem State.setMode_ingress (s : State) (m : Mode) : (s.setMode m).ingress = s.ingress := (rfl)
@[simp] theorem State.setMode_mem (s : State) (m : Mode) : (s.setMode m).mem = s.mem := (rfl)
@[simp] theorem State.setMode_poison (s : State) (m : Mode) : (s.setMode m).poison = s.poison := (rfl)
@[simp] theorem State.setMode_poisonOverflow (s : State) (m : Mode) :
    (s.setMode m).poisonOverflow = s.poisonOverflow := (rfl)
@[simp] theorem State.setMode_mirrorCopied (s : State) (m : Mode) : (s.setMode m).mirrorCopied = s.mirrorCopied :=
  (rfl)
@[simp] theorem State.setMode_mirrorUnits (s : State) (m : Mode) : (s.setMode m).mirrorUnits = s.mirrorUnits := (rfl)
@[simp] theorem State.setMode_mirrorWhole (s : State) (m : Mode) : (s.setMode m).mirrorWhole = s.mirrorWhole := (rfl)
@[simp] theorem State.setMode_leaves (s : State) (m : Mode) : (s.setMode m).leaves = s.leaves := (rfl)
@[simp] theorem State.setMode_heat (s : State) (m : Mode) : (s.setMode m).heat = s.heat := (rfl)
@[simp] theorem State.setMode_heatBase (s : State) (m : Mode) : (s.setMode m).heatBase = s.heatBase := (rfl)
@[simp] theorem State.setMode_delta (s : State) (m : Mode) : (s.setMode m).delta = s.delta := (rfl)
@[simp] theorem State.setMode_trickle (s : State) (m : Mode) : (s.setMode m).trickle = s.trickle := (rfl)
@[simp] theorem State.setMode_groups (s : State) (m : Mode) : (s.setMode m).groups = s.groups := (rfl)
@[simp] theorem State.setMode_sched (s : State) (m : Mode) : (s.setMode m).sched = s.sched := (rfl)
@[simp] theorem State.setMode_dram (s : State) (m : Mode) : (s.setMode m).dram = s.dram := (rfl)
@[simp] theorem State.setMode_nand (s : State) (m : Mode) : (s.setMode m).nand = s.nand := (rfl)
@[simp] theorem State.setMode_save (s : State) (m : Mode) : (s.setMode m).save = s.save := (rfl)
@[simp] theorem State.setMode_trestle (s : State) (m : Mode) : (s.setMode m).trestle = s.trestle := (rfl)
@[simp] theorem State.setMode_niura (s : State) (m : Mode) : (s.setMode m).niura = s.niura := (rfl)
@[simp] theorem State.setMode_rails (s : State) (m : Mode) : (s.setMode m).rails = s.rails := (rfl)
@[simp] theorem State.setMode_dict (s : State) (m : Mode) : (s.setMode m).dict = s.dict := (rfl)
@[simp] theorem State.setMode_faults (s : State) (m : Mode) : (s.setMode m).faults = s.faults := (rfl)
@[simp] theorem State.setMode_chest (s : State) (m : Mode) : (s.setMode m).chest = s.chest := (rfl)
@[simp] theorem State.setMode_bureau (s : State) (m : Mode) : (s.setMode m).bureau = s.bureau := (rfl)
@[simp] theorem State.setMode_eflash (s : State) (m : Mode) : (s.setMode m).eflash = s.eflash := (rfl)
@[simp] theorem State.setMode_security (s : State) (m : Mode) : (s.setMode m).security = s.security := (rfl)
@[simp] theorem State.setMode_test (s : State) (m : Mode) : (s.setMode m).test = s.test := (rfl)

/-! ### Values that updates write -/

@[simp] theorem State.fresh_out (s : State) : s.fresh.out = [] := rfl
@[simp] theorem State.idle_out (s : State) : s.idle.out = [.notApplicable] := rfl
@[simp] theorem State.emit_out (s : State) (o : Output) : (s.emit o).out = s.out ++ [o] := rfl
@[simp] theorem State.emits_out (s : State) (os : List Output) : (s.emits os).out = s.out ++ os := rfl
@[simp] theorem State.setReg_regs (s : State) (idx sub v : Nat) :
    (s.setReg idx sub v).regs = s.regs.put (key idx sub) v := rfl
@[simp] theorem State.setBreg_regs (s : State) (sel idx sub v : Nat) :
    (s.setBreg sel idx sub v).regs = s.regs.put (bkey sel idx sub) v := rfl
@[simp] theorem State.setLink_links (s : State) (i : Nat) (l : Link) : (s.setLink i l).links = s.links.put i l := rfl
@[simp] theorem State.setMode_mode (s : State) (m : Mode) : (s.setMode m).ctl.mode = m := rfl
@[simp] theorem State.setMode_prevMode (s : State) (m : Mode) : (s.setMode m).ctl.prevMode = s.ctl.mode := rfl
@[simp] theorem State.setMode_modeBeat (s : State) (m : Mode) : (s.setMode m).ctl.modeBeat = s.clock.ext := rfl

/-! ### Tables: a read after a write -/

@[simp] theorem Map.find?_put_self {α : Type} (m : Map α) (q : Nat) (v : α) : Map.find? (Map.put m q v) q = some v := by
  induction m with
  | nil => simp [Map.put, Map.find?]
  | cons e m ih =>
    obtain ⟨k, w⟩ := e
    unfold Map.put
    split
    · simp [Map.find?]
    · split
      · simp [Map.find?]
      · rename_i h1 h2
        unfold Map.find?
        rw [if_neg (Ne.symm h2)]
        exact ih

@[simp] theorem Map.find?_put_of_ne {α : Type} (m : Map α) (q r : Nat) (v : α) (h : r ≠ q) :
    Map.find? (Map.put m q v) r = Map.find? m r := by
  induction m with
  | nil => simp [Map.put, Map.find?, Ne.symm h]
  | cons e m ih =>
    obtain ⟨k, w⟩ := e
    unfold Map.put
    split
    · conv_lhs => unfold Map.find?
      rw [if_neg (Ne.symm h)]
    · split
      · rename_i h1 h2
        subst h2
        simp [Map.find?, Ne.symm h]
      · unfold Map.find?
        split
        · rfl
        · exact ih

@[simp] theorem Map.get_put_self {α : Type} (m : Map α) (q : Nat) (v d : α) : Map.get (Map.put m q v) q d = v := by
  simp [Map.get]

@[simp] theorem Map.get_put_of_ne {α : Type} (m : Map α) (q r : Nat) (v d : α) (h : r ≠ q) :
    Map.get (Map.put m q v) r d = Map.get m r d := by simp [Map.get, h]

/-- A stored entry reads back. -/
@[simp] theorem State.reg_setReg_self (s : State) (idx sub v : Nat) : (s.setReg idx sub v).reg idx sub = v := by
  simp [State.reg]

/-! ### Choices and folds -/

@[simp] theorem State.ite_pending (c : Prop) [Decidable c] (a b : State) :
    (if c then a else b).pending = if c then a.pending else b.pending := by split <;> rfl
@[simp] theorem State.ite_mem (c : Prop) [Decidable c] (a b : State) :
    (if c then a else b).mem = if c then a.mem else b.mem := by split <;> rfl
@[simp] theorem State.ite_flash (c : Prop) [Decidable c] (a b : State) :
    (if c then a else b).nand.flash = if c then a.nand.flash else b.nand.flash := by split <;> rfl
@[simp] theorem State.ite_mode (c : Prop) [Decidable c] (a b : State) :
    (if c then a else b).ctl.mode = if c then a.ctl.mode else b.ctl.mode := by split <;> rfl

theorem State.ite_wf_mem (c : Prop) [Decidable c] (a b : State) (ha : Mem.wf a.mem = true) (hb : Mem.wf b.mem = true) :
    Mem.wf (if c then a else b).mem = true := by split <;> assumption

theorem State.foldl_keeps {α β : Type} (f : State → β) (g : State → α → State) (h : ∀ s a, f (g s a) = f s) (l : List α)
    (s : State) : f (l.foldl g s) = f s := by
  induction l generalizing s with
  | nil => rfl
  | cons a l ih => rw [List.foldl_cons, ih, h]

theorem State.foldl_holds {α : Type} (p : State → Prop) (g : State → α → State) (h : ∀ s a, p s → p (g s a)) (l : List α)
    (s : State) (hs : p s) : p (l.foldl g s) := by
  induction l generalizing s with
  | nil => exact hs
  | cons a l ih => exact ih _ (h _ _ hs)

@[simp] theorem State.foldl_pending {α : Type} (g : State → α → State) (l : List α) (s : State)
    (h : ∀ s a, (g s a).pending = s.pending) : (l.foldl g s).pending = s.pending := State.foldl_keeps (·.pending) g h l s
@[simp] theorem State.foldl_mem {α : Type} (g : State → α → State) (l : List α) (s : State)
    (h : ∀ s a, (g s a).mem = s.mem) : (l.foldl g s).mem = s.mem := State.foldl_keeps (·.mem) g h l s
@[simp] theorem State.foldl_flash {α : Type} (g : State → α → State) (l : List α) (s : State)
    (h : ∀ s a, (g s a).nand.flash = s.nand.flash) : (l.foldl g s).nand.flash = s.nand.flash :=
  State.foldl_keeps (·.nand.flash) g h l s
@[simp] theorem State.foldl_mode {α : Type} (g : State → α → State) (l : List α) (s : State)
    (h : ∀ s a, (g s a).ctl.mode = s.ctl.mode) : (l.foldl g s).ctl.mode = s.ctl.mode :=
  State.foldl_keeps (·.ctl.mode) g h l s
@[simp] theorem State.foldl_wf_mem {α : Type} (g : State → α → State) (l : List α) (s : State)
    (h : ∀ s a, Mem.wf s.mem = true → Mem.wf (g s a).mem = true) (hs : Mem.wf s.mem = true) :
    Mem.wf (l.foldl g s).mem = true := State.foldl_holds (fun s => Mem.wf s.mem = true) g h l s hs
@[simp] theorem State.foldl_wf_flash {α : Type} (g : State → α → State) (l : List α) (s : State)
    (h : ∀ s a, Flash.wf s.nand.flash = true → Flash.wf (g s a).nand.flash = true) (hs : Flash.wf s.nand.flash = true) :
    Flash.wf (l.foldl g s).nand.flash = true := State.foldl_holds (fun s => Flash.wf s.nand.flash = true) g h l s hs

end Sys2Proof.Machine
end

