-- ==== Sys2Proof/Laws/OpsFrame.lean ====
section
/-! SUPPORT. What the operations and commands of Machine/Ops.lean keep: the queue, and the mode, the bytes of DRAM and of
flash, or the canonical form of those bytes. -/

namespace Sys2Proof.Machine

@[simp] theorem State.setReg_frame (s : State) (idx sub v : Nat) :
    (State.setReg s idx sub v).pending = s.pending ∧ (State.setReg s idx sub v).ctl.mode = s.ctl.mode ∧ (State.setReg s idx sub v).mem = s.mem ∧ (State.setReg s idx sub v).nand.flash = s.nand.flash := by
  exact ⟨rfl, rfl, rfl, rfl⟩

@[simp] theorem State.setBreg_frame (s : State) (sel idx sub v : Nat) :
    (State.setBreg s sel idx sub v).pending = s.pending ∧ (State.setBreg s sel idx sub v).ctl.mode = s.ctl.mode ∧ (State.setBreg s sel idx sub v).mem = s.mem ∧ (State.setBreg s sel idx sub v).nand.flash = s.nand.flash := by
  exact ⟨rfl, rfl, rfl, rfl⟩

@[simp] theorem State.addReg_frame (s : State) (idx sub n : Nat) :
    (State.addReg s idx sub n).pending = s.pending ∧ (State.addReg s idx sub n).ctl.mode = s.ctl.mode ∧ (State.addReg s idx sub n).mem = s.mem ∧ (State.addReg s idx sub n).nand.flash = s.nand.flash := by
  exact ⟨rfl, rfl, rfl, rfl⟩

@[simp] theorem State.maxReg_frame (s : State) (idx sub v : Nat) :
    (State.maxReg s idx sub v).pending = s.pending ∧ (State.maxReg s idx sub v).ctl.mode = s.ctl.mode ∧ (State.maxReg s idx sub v).mem = s.mem ∧ (State.maxReg s idx sub v).nand.flash = s.nand.flash := by
  exact ⟨rfl, rfl, rfl, rfl⟩

@[simp] theorem State.drawn_frame (s : State) :
    (State.drawn s).pending = s.pending ∧ (State.drawn s).ctl.mode = s.ctl.mode ∧ (State.drawn s).mem = s.mem ∧ (State.drawn s).nand.flash = s.nand.flash := by
  exact ⟨rfl, rfl, rfl, rfl⟩

@[simp] theorem State.fresh_frame (s : State) :
    (State.fresh s).pending = s.pending ∧ (State.fresh s).ctl.mode = s.ctl.mode ∧ (State.fresh s).mem = s.mem ∧ (State.fresh s).nand.flash = s.nand.flash := by
  exact ⟨rfl, rfl, rfl, rfl⟩

@[simp] theorem State.emit_frame (s : State) (o : Output) :
    (State.emit s o).pending = s.pending ∧ (State.emit s o).ctl.mode = s.ctl.mode ∧ (State.emit s o).mem = s.mem ∧ (State.emit s o).nand.flash = s.nand.flash := by
  exact ⟨rfl, rfl, rfl, rfl⟩

@[simp] theorem State.emits_frame (s : State) (os : List Output) :
    (State.emits s os).pending = s.pending ∧ (State.emits s os).ctl.mode = s.ctl.mode ∧ (State.emits s os).mem = s.mem ∧ (State.emits s os).nand.flash = s.nand.flash := by
  exact ⟨rfl, rfl, rfl, rfl⟩

@[simp] theorem State.idle_frame (s : State) :
    (State.idle s).pending = s.pending ∧ (State.idle s).ctl.mode = s.ctl.mode ∧ (State.idle s).mem = s.mem ∧ (State.idle s).nand.flash = s.nand.flash := by
  exact ⟨rfl, rfl, rfl, rfl⟩

@[simp] theorem State.setLink_frame (s : State) (i : Nat) (l : Link) :
    (State.setLink s i l).pending = s.pending ∧ (State.setLink s i l).ctl.mode = s.ctl.mode ∧ (State.setLink s i l).mem = s.mem ∧ (State.setLink s i l).nand.flash = s.nand.flash := by
  exact ⟨rfl, rfl, rfl, rfl⟩

@[simp] theorem State.setLeaf_frame (s : State) (leaf : Nat) (st : LeafState) (k : DeltaKind) :
    (State.setLeaf s leaf st k).pending = s.pending ∧ (State.setLeaf s leaf st k).ctl.mode = s.ctl.mode ∧ (State.setLeaf s leaf st k).mem = s.mem ∧ (State.setLeaf s leaf st k).nand.flash = s.nand.flash := by
  exact ⟨rfl, rfl, rfl, rfl⟩

@[simp] theorem State.notePoison_frame (s : State) :
    (State.notePoison s).pending = s.pending ∧ (State.notePoison s).ctl.mode = s.ctl.mode ∧ (State.notePoison s).mem = s.mem ∧ (State.notePoison s).nand.flash = s.nand.flash := by
  exact ⟨rfl, rfl, rfl, rfl⟩

@[simp] theorem State.markPoison_frame (s : State) (unit : Nat) (src : PoisonSource) :
    (State.markPoison s unit src).pending = s.pending ∧ (State.markPoison s unit src).ctl.mode = s.ctl.mode ∧ (State.markPoison s unit src).mem = s.mem ∧ (State.markPoison s unit src).nand.flash = s.nand.flash := by
  exact ⟨rfl, rfl, rfl, rfl⟩

@[simp] theorem State.unmarkPoison_frame (s : State) (unit : Nat) :
    (State.unmarkPoison s unit).pending = s.pending ∧ (State.unmarkPoison s unit).ctl.mode = s.ctl.mode ∧ (State.unmarkPoison s unit).mem = s.mem ∧ (State.unmarkPoison s unit).nand.flash = s.nand.flash := by
  exact ⟨rfl, rfl, rfl, rfl⟩

@[simp] theorem State.setPoisonIn_frame (s : State) (lo len : Nat) (marks : Map PoisonSource) :
    (State.setPoisonIn s lo len marks).pending = s.pending ∧ (State.setPoisonIn s lo len marks).ctl.mode = s.ctl.mode ∧ (State.setPoisonIn s lo len marks).mem = s.mem ∧ (State.setPoisonIn s lo len marks).nand.flash = s.nand.flash := by
  exact ⟨rfl, rfl, rfl, rfl⟩

@[simp] theorem State.unawait_frame (s : State) (unit : Nat) :
    (State.unawait s unit).pending = s.pending ∧ (State.unawait s unit).ctl.mode = s.ctl.mode ∧ (State.unawait s unit).mem = s.mem ∧ (State.unawait s unit).nand.flash = s.nand.flash := by
  exact ⟨rfl, rfl, rfl, rfl⟩

@[simp] theorem State.setMode_frame (s : State) (m : Mode) :
    (State.setMode s m).pending = s.pending ∧ (State.setMode s m).mem = s.mem ∧ (State.setMode s m).nand.flash = s.nand.flash := by
  exact ⟨rfl, rfl, rfl⟩

end Sys2Proof.Machine
end

