-- ==== Sys2Proof/Laws/Flags.lean ====
section
/-! SUPPORT. What the operations and commands of Machine/Flags.lean keep: the queue, and the mode, the bytes of DRAM and of
flash, or the canonical form of those bytes. -/

namespace Sys2Proof.Machine

@[simp] theorem State.setSlot_frame (s : State) (g : Nat) (x : Slot) :
    (State.setSlot s g x).pending = s.pending ∧ (State.setSlot s g x).ctl.mode = s.ctl.mode ∧ (State.setSlot s g x).mem = s.mem ∧ (State.setSlot s g x).nand.flash = s.nand.flash := by
  exact ⟨rfl, rfl, rfl, rfl⟩

end Sys2Proof.Machine
end

