-- ==== Sys2Proof/Laws/Views.lean ====
section
/-! SUPPORT. What the operations and commands of Machine/Views.lean keep: the queue, and the mode, the bytes of DRAM and of
flash, or the canonical form of those bytes. -/

namespace Sys2Proof.Machine

@[simp] theorem State.raiseSource_frame (s : State) (n : Nat) :
    (State.raiseSource s n).pending = s.pending ∧ (State.raiseSource s n).ctl.mode = s.ctl.mode ∧ (State.raiseSource s n).mem = s.mem ∧ (State.raiseSource s n).nand.flash = s.nand.flash := by
  simp [State.raiseSource]

end Sys2Proof.Machine
end

