-- ==== Sys2Proof/Laws/Chest.lean ====
section
/-! SUPPORT. What the operations and commands of Machine/Chest.lean keep: the queue, and the mode, the bytes of DRAM and of
flash, or the canonical form of those bytes. -/

namespace Sys2Proof.Machine

@[simp] theorem State.sendPend_frame (s : State) (i v : Nat) :
    (State.sendPend s i v).pending = s.pending ∧ (State.sendPend s i v).ctl.mode = s.ctl.mode ∧ (State.sendPend s i v).mem = s.mem ∧ (State.sendPend s i v).nand.flash = s.nand.flash := by
  refine ⟨?_, ?_, ?_, ?_⟩ <;> (unfold State.sendPend; (try dsimp only); repeat' split) <;> simp

@[simp] theorem State.signal_frame (s : State) (i src : Nat) :
    (State.signal s i src).pending = s.pending ∧ (State.signal s i src).ctl.mode = s.ctl.mode ∧ (State.signal s i src).mem = s.mem ∧ (State.signal s i src).nand.flash = s.nand.flash := by
  simp [State.signal]

@[simp] theorem State.mail_frame (s : State) (i opcode : Nat) (rc : MailRc) (payload : List Nat) :
    (State.mail s i opcode rc payload).pending = s.pending ∧ (State.mail s i opcode rc payload).ctl.mode = s.ctl.mode ∧ (State.mail s i opcode rc payload).mem = s.mem ∧ (State.mail s i opcode rc payload).nand.flash = s.nand.flash := by
  simp [State.mail]

@[simp] theorem State.signalOn_frame (s : State) (links : List Nat) (src : Nat) :
    (State.signalOn s links src).pending = s.pending ∧ (State.signalOn s links src).ctl.mode = s.ctl.mode ∧ (State.signalOn s links src).mem = s.mem ∧ (State.signalOn s links src).nand.flash = s.nand.flash := by
  simp [State.signalOn]

@[simp] theorem State.occur_frame (s : State) (code : Nat) (live inj : Bool) (detail : Nat) :
    (State.occur s code live inj detail).pending = s.pending ∧ (State.occur s code live inj detail).ctl.mode = s.ctl.mode ∧ (State.occur s code live inj detail).mem = s.mem ∧ (State.occur s code live inj detail).nand.flash = s.nand.flash := by
  exact ⟨rfl, rfl, rfl, rfl⟩

@[simp] theorem State.condClear_frame (s : State) (code : Nat) :
    (State.condClear s code).pending = s.pending ∧ (State.condClear s code).ctl.mode = s.ctl.mode ∧ (State.condClear s code).mem = s.mem ∧ (State.condClear s code).nand.flash = s.nand.flash := by
  exact ⟨rfl, rfl, rfl, rfl⟩

@[simp] theorem State.logOn_frame (r : ChestRec) (s : State) (i : Nat) :
    (State.logOn r s i).pending = s.pending ∧ (State.logOn r s i).ctl.mode = s.ctl.mode ∧ (State.logOn r s i).mem = s.mem ∧ (State.logOn r s i).nand.flash = s.nand.flash := by
  simp [State.logOn]

@[simp] theorem State.deliver_frame (s : State) (r : ChestRec) (all : Bool) :
    (State.deliver s r all).pending = s.pending ∧ (State.deliver s r all).ctl.mode = s.ctl.mode ∧ (State.deliver s r all).mem = s.mem ∧ (State.deliver s r all).nand.flash = s.nand.flash := by
  simp [State.deliver]

@[simp] theorem State.record_frame (s : State) (code : Nat) (lead : List Nat) (inj : Bool := false) :
    (State.record s code lead inj).pending = s.pending ∧ (State.record s code lead inj).ctl.mode = s.ctl.mode ∧ (State.record s code lead inj).mem = s.mem ∧ (State.record s code lead inj).nand.flash = s.nand.flash := by
  simp [State.record]

@[simp] theorem State.fault_frame (s : State) (code : Nat) (detail : Nat) (live : Bool := false) (more : List Nat := []) :
    (State.fault s code detail live more).pending = s.pending ∧ (State.fault s code detail live more).ctl.mode = s.ctl.mode ∧ (State.fault s code detail live more).mem = s.mem ∧ (State.fault s code detail live more).nand.flash = s.nand.flash := by
  simp [State.fault]

@[simp] theorem State.faultOpen_frame (s : State) (code : Nat) (live : Bool := false) :
    (State.faultOpen s code live).pending = s.pending ∧ (State.faultOpen s code live).ctl.mode = s.ctl.mode ∧ (State.faultOpen s code live).mem = s.mem ∧ (State.faultOpen s code live).nand.flash = s.nand.flash := by
  simp [State.faultOpen]

@[simp] theorem State.condition_frame (s : State) (code : Nat) (stands : Bool) (detail : Nat) (more : List Nat := []) :
    (State.condition s code stands detail more).pending = s.pending ∧ (State.condition s code stands detail more).ctl.mode = s.ctl.mode ∧ (State.condition s code stands detail more).mem = s.mem ∧ (State.condition s code stands detail more).nand.flash = s.nand.flash := by
  simp [State.condition]

@[simp] theorem State.conditionOpen_frame (s : State) (code : Nat) (stands : Bool) :
    (State.conditionOpen s code stands).pending = s.pending ∧ (State.conditionOpen s code stands).ctl.mode = s.ctl.mode ∧ (State.conditionOpen s code stands).mem = s.mem ∧ (State.conditionOpen s code stands).nand.flash = s.nand.flash := by
  simp [State.conditionOpen]

@[simp] theorem State.note_frame (s : State) (code : Nat) (values : List Nat := []) :
    (State.note s code values).pending = s.pending ∧ (State.note s code values).ctl.mode = s.ctl.mode ∧ (State.note s code values).mem = s.mem ∧ (State.note s code values).nand.flash = s.nand.flash := by
  simp [State.note]

end Sys2Proof.Machine
end

