-- ==== Sys2Proof/Laws/Budget.lean ====
section
/-! SUPPORT. What the operations and commands of Machine/Budget.lean keep: the queue, and the mode, the bytes of DRAM and of
flash, or the canonical form of those bytes. -/

namespace Sys2Proof.Machine

@[simp] theorem State.touchHeat_frame (s : State) (leaf : Nat) :
    (State.touchHeat s leaf).pending = s.pending ∧ (State.touchHeat s leaf).ctl.mode = s.ctl.mode ∧ (State.touchHeat s leaf).mem = s.mem ∧ (State.touchHeat s leaf).nand.flash = s.nand.flash := by
  exact ⟨rfl, rfl, rfl, rfl⟩

@[simp] theorem State.queueAll_frame (s : State) (bs : List Burst) :
    (State.queueAll s bs).pending = s.pending ∧ (State.queueAll s bs).ctl.mode = s.ctl.mode ∧ (State.queueAll s bs).mem = s.mem ∧ (State.queueAll s bs).nand.flash = s.nand.flash := by
  exact ⟨rfl, rfl, rfl, rfl⟩

@[simp] theorem State.queueUnit_frame (s : State) (dpa port own : Nat) (stamp : BitVec 16) (write : Bool) (ingress : Option Nat) :
    (State.queueUnit s dpa port own stamp write ingress).pending = s.pending ∧ (State.queueUnit s dpa port own stamp write ingress).ctl.mode = s.ctl.mode ∧ (State.queueUnit s dpa port own stamp write ingress).mem = s.mem ∧ (State.queueUnit s dpa port own stamp write ingress).nand.flash = s.nand.flash := by
  exact ⟨rfl, rfl, rfl, rfl⟩

@[simp] theorem State.queueLeaf_frame (s : State) (leaf port own : Nat) (stamp : BitVec 16) (write : Bool) :
    (State.queueLeaf s leaf port own stamp write).pending = s.pending ∧ (State.queueLeaf s leaf port own stamp write).ctl.mode = s.ctl.mode ∧ (State.queueLeaf s leaf port own stamp write).mem = s.mem ∧ (State.queueLeaf s leaf port own stamp write).nand.flash = s.nand.flash := by
  simp [State.queueLeaf]

@[simp] theorem State.queueLine_frame (s : State) (line port own : Nat) (stamp : BitVec 16) (write : Bool) :
    (State.queueLine s line port own stamp write).pending = s.pending ∧ (State.queueLine s line port own stamp write).ctl.mode = s.ctl.mode ∧ (State.queueLine s line port own stamp write).mem = s.mem ∧ (State.queueLine s line port own stamp write).nand.flash = s.nand.flash := by
  exact ⟨rfl, rfl, rfl, rfl⟩

@[simp] theorem State.extendBound_frame (s : State) (chan : Nat) (sub : Option Nat) (ns : Nat) :
    (State.extendBound s chan sub ns).pending = s.pending ∧ (State.extendBound s chan sub ns).ctl.mode = s.ctl.mode ∧ (State.extendBound s chan sub ns).mem = s.mem ∧ (State.extendBound s chan sub ns).nand.flash = s.nand.flash := by
  exact ⟨rfl, rfl, rfl, rfl⟩

@[simp] theorem State.extendFor_frame (s : State) (chan : Nat) (share : Burst → Nat) (ns : Nat) :
    (State.extendFor s chan share ns).pending = s.pending ∧ (State.extendFor s chan share ns).ctl.mode = s.ctl.mode ∧ (State.extendFor s chan share ns).mem = s.mem ∧ (State.extendFor s chan share ns).nand.flash = s.nand.flash := by
  exact ⟨rfl, rfl, rfl, rfl⟩

@[simp] theorem State.window_frame (s : State) (c limit : Nat) :
    (State.window s c limit).pending = s.pending ∧ (State.window s c limit).ctl.mode = s.ctl.mode ∧ (State.window s c limit).mem = s.mem ∧ (State.window s c limit).nand.flash = s.nand.flash := by
  exact ⟨rfl, rfl, rfl, rfl⟩

@[simp] theorem State.cupboard_frame (s before : State) (stamp : BitVec 16) :
    (State.cupboard s before stamp).pending = s.pending ∧ (State.cupboard s before stamp).ctl.mode = s.ctl.mode ∧ (State.cupboard s before stamp).mem = s.mem ∧ (State.cupboard s before stamp).nand.flash = s.nand.flash := by
  exact ⟨rfl, rfl, rfl, rfl⟩

@[simp] theorem State.reclass_frame (s : State) :
    (State.reclass s).pending = s.pending ∧ (State.reclass s).ctl.mode = s.ctl.mode ∧ (State.reclass s).mem = s.mem ∧ (State.reclass s).nand.flash = s.nand.flash := by
  exact ⟨rfl, rfl, rfl, rfl⟩

@[simp] theorem State.panicUpdate_frame (s : State) :
    (State.panicUpdate s).pending = s.pending ∧ (State.panicUpdate s).ctl.mode = s.ctl.mode ∧ (State.panicUpdate s).mem = s.mem ∧ (State.panicUpdate s).nand.flash = s.nand.flash := by
  simp [State.panicUpdate]

@[simp] theorem State.reserveMirror_frame (s : State) (leaf : Nat) :
    (State.reserveMirror s leaf).pending = s.pending ∧ (State.reserveMirror s leaf).ctl.mode = s.ctl.mode ∧ (State.reserveMirror s leaf).mem = s.mem ∧ (State.reserveMirror s leaf).nand.flash = s.nand.flash := by
  simp [State.reserveMirror]

@[simp] theorem State.freeMirrors_frame (s : State) (p : Nat → Bool) :
    (State.freeMirrors s p).pending = s.pending ∧ (State.freeMirrors s p).ctl.mode = s.ctl.mode ∧ (State.freeMirrors s p).mem = s.mem ∧ (State.freeMirrors s p).nand.flash = s.nand.flash := by
  exact ⟨rfl, rfl, rfl, rfl⟩

@[simp] theorem State.freeMirror_frame (s : State) (leaf : Nat) :
    (State.freeMirror s leaf).pending = s.pending ∧ (State.freeMirror s leaf).ctl.mode = s.ctl.mode ∧ (State.freeMirror s leaf).mem = s.mem ∧ (State.freeMirror s leaf).nand.flash = s.nand.flash := by
  exact ⟨rfl, rfl, rfl, rfl⟩

@[simp] theorem State.mirrorUnit_frame (s : State) (u : Nat) :
    (State.mirrorUnit s u).pending = s.pending ∧ (State.mirrorUnit s u).ctl.mode = s.ctl.mode ∧ (State.mirrorUnit s u).mem = s.mem ∧ (State.mirrorUnit s u).nand.flash = s.nand.flash := by
  exact ⟨rfl, rfl, rfl, rfl⟩

@[simp] theorem State.mirrorLine_frame (s : State) (line : Nat) :
    (State.mirrorLine s line).pending = s.pending ∧ (State.mirrorLine s line).ctl.mode = s.ctl.mode ∧ (State.mirrorLine s line).mem = s.mem ∧ (State.mirrorLine s line).nand.flash = s.nand.flash := by
  simp [State.mirrorLine]

@[simp] theorem State.validate_frame (s : State) (leaf : Nat) :
    (State.validate s leaf).pending = s.pending ∧ (State.validate s leaf).ctl.mode = s.ctl.mode ∧ (State.validate s leaf).nand.flash = s.nand.flash := by
  simp [State.validate]

@[simp] theorem State.validate_wf_mem (s : State) (leaf : Nat) (h : Mem.wf s.mem = true) :
    Mem.wf (State.validate s leaf).mem = true := by
  unfold State.validate; (try dsimp only); repeat' split
  all_goals simp (maxDischargeDepth := 40) [h]

@[simp] theorem State.mirrorNew_frame (s : State) (leaf : Nat) :
    (State.mirrorNew s leaf).pending = s.pending ∧ (State.mirrorNew s leaf).ctl.mode = s.ctl.mode ∧ (State.mirrorNew s leaf).mem = s.mem ∧ (State.mirrorNew s leaf).nand.flash = s.nand.flash := by
  simp [State.mirrorNew]

@[simp] theorem State.makeDirty_frame (s : State) (leaf : Nat) :
    (State.makeDirty s leaf).pending = s.pending ∧ (State.makeDirty s leaf).ctl.mode = s.ctl.mode ∧ (State.makeDirty s leaf).nand.flash = s.nand.flash := by
  simp [State.makeDirty]

@[simp] theorem State.makeDirty_wf_mem (s : State) (leaf : Nat) (h : Mem.wf s.mem = true) :
    Mem.wf (State.makeDirty s leaf).mem = true := by
  simp (maxDischargeDepth := 40) [State.makeDirty, h]

@[simp] theorem State.uncredit_frame (s : State) (leaf : Nat) :
    (State.uncredit s leaf).pending = s.pending ∧ (State.uncredit s leaf).ctl.mode = s.ctl.mode ∧ (State.uncredit s leaf).mem = s.mem ∧ (State.uncredit s leaf).nand.flash = s.nand.flash := by
  exact ⟨rfl, rfl, rfl, rfl⟩

end Sys2Proof.Machine
end

