-- ==== Sys2Proof/Laws/Fleet.lean ====
section
/-! SUPPORT. What the operations and commands of Machine/Fleet.lean keep: the queue, and the mode, the bytes of DRAM and of
flash, or the canonical form of those bytes. -/

namespace Sys2Proof.Machine

@[simp] theorem State.setPort_frame (s : State) (p : Nat) (x : Port) :
    (State.setPort s p x).pending = s.pending ∧ (State.setPort s p x).ctl.mode = s.ctl.mode ∧ (State.setPort s p x).mem = s.mem ∧ (State.setPort s p x).nand.flash = s.nand.flash := by
  exact ⟨rfl, rfl, rfl, rfl⟩

@[simp] theorem State.holdPort_frame (s : State) (p : Nat) (x : Port) :
    (State.holdPort s p x).pending = s.pending ∧ (State.holdPort s p x).ctl.mode = s.ctl.mode ∧ (State.holdPort s p x).mem = s.mem ∧ (State.holdPort s p x).nand.flash = s.nand.flash := by
  simp [State.holdPort]

@[simp] theorem State.queueCell_frame (s : State) (dest : Option Nat) (body : CellBody) :
    (State.queueCell s dest body).pending = s.pending ∧ (State.queueCell s dest body).ctl.mode = s.ctl.mode ∧ (State.queueCell s dest body).mem = s.mem ∧ (State.queueCell s dest body).nand.flash = s.nand.flash := by
  exact ⟨rfl, rfl, rfl, rfl⟩

@[simp] theorem State.sendTxn_frame (s : State) (query : Bool) (dest txn : Nat) :
    (State.sendTxn s query dest txn).pending = s.pending ∧ (State.sendTxn s query dest txn).ctl.mode = s.ctl.mode ∧ (State.sendTxn s query dest txn).mem = s.mem ∧ (State.sendTxn s query dest txn).nand.flash = s.nand.flash := by
  refine ⟨?_, ?_, ?_, ?_⟩ <;> (unfold State.sendTxn; (try dsimp only); repeat' split) <;> simp

@[simp] theorem State.sendAnswer_frame (s : State) (dest : Nat) (item : Nat × Bool × Bool) :
    (State.sendAnswer s dest item).pending = s.pending ∧ (State.sendAnswer s dest item).ctl.mode = s.ctl.mode ∧ (State.sendAnswer s dest item).mem = s.mem ∧ (State.sendAnswer s dest item).nand.flash = s.nand.flash := by
  refine ⟨?_, ?_, ?_, ?_⟩ <;> (unfold State.sendAnswer; (try dsimp only); repeat' split) <;> simp

end Sys2Proof.Machine
end

