-- ==== Sys2Proof/Laws/Reply.lean ====
section
/-! SUPPORT. What the operations and commands of Machine/Reply.lean keep: the queue, and the mode, the bytes of DRAM and of
flash, or the canonical form of those bytes. -/

namespace Sys2Proof.Machine

@[simp] theorem State.sendSegments_frame (s : State) (member tag bytes image : Nat) :
    (State.sendSegments s member tag bytes image).pending = s.pending ∧ (State.sendSegments s member tag bytes image).ctl.mode = s.ctl.mode ∧ (State.sendSegments s member tag bytes image).mem = s.mem ∧ (State.sendSegments s member tag bytes image).nand.flash = s.nand.flash := by
  simp [State.sendSegments]

@[simp] theorem State.respondHost_frame (s : State) (i tag : Nat) (o : Output) :
    (State.respondHost s i tag o).pending = s.pending ∧ (State.respondHost s i tag o).ctl.mode = s.ctl.mode ∧ (State.respondHost s i tag o).mem = s.mem ∧ (State.respondHost s i tag o).nand.flash = s.nand.flash := by
  simp [State.respondHost]

@[simp] theorem State.respond_frame (s : State) (op : DictOp) (role : Role) (link : Fin 4) (member tag status result handle beat : Nat) (items : List RespItem) :
    (State.respond s op role link member tag status result handle beat items).pending = s.pending ∧ (State.respond s op role link member tag status result handle beat items).ctl.mode = s.ctl.mode ∧ (State.respond s op role link member tag status result handle beat items).mem = s.mem ∧ (State.respond s op role link member tag status result handle beat items).nand.flash = s.nand.flash := by
  refine ⟨?_, ?_, ?_, ?_⟩ <;> (unfold State.respond; (try dsimp only); repeat' split) <;> simp

@[simp] theorem State.settleReply_frame (s : State) (n place code beat : Nat) :
    (State.settleReply s n place code beat).pending = s.pending ∧ (State.settleReply s n place code beat).ctl.mode = s.ctl.mode ∧ (State.settleReply s n place code beat).mem = s.mem ∧ (State.settleReply s n place code beat).nand.flash = s.nand.flash := by
  refine ⟨?_, ?_, ?_, ?_⟩ <;> (unfold State.settleReply; (try dsimp only); repeat' split) <;> simp

@[simp] theorem State.settle_frame (s : State) (u : Submitted) (result beat : Nat) (fails : List RespItem) :
    (State.settle s u result beat fails).pending = s.pending ∧ (State.settle s u result beat fails).ctl.mode = s.ctl.mode ∧ (State.settle s u result beat fails).mem = s.mem ∧ (State.settle s u result beat fails).nand.flash = s.nand.flash := by
  refine ⟨?_, ?_, ?_, ?_⟩ <;> (unfold State.settle; (try dsimp only); repeat' split) <;> simp

@[simp] theorem State.refuseSets_frame (s : State) :
    (State.refuseSets s).pending = s.pending ∧ (State.refuseSets s).ctl.mode = s.ctl.mode ∧ (State.refuseSets s).mem = s.mem ∧ (State.refuseSets s).nand.flash = s.nand.flash := by
  simp [State.refuseSets]

end Sys2Proof.Machine
end

