-- ==== Sys2Proof/Laws/Desk.lean ====
section
/-! SUPPORT. What the operations and commands of Machine/Desk.lean keep: the queue, and the mode, the bytes of DRAM and of
flash, or the canonical form of those bytes. -/

namespace Sys2Proof.Machine

@[simp] theorem State.requestTouch_frame (s : State) (leaf : Nat) :
    (State.requestTouch s leaf).pending = s.pending ∧ (State.requestTouch s leaf).ctl.mode = s.ctl.mode ∧ (State.requestTouch s leaf).mem = s.mem ∧ (State.requestTouch s leaf).nand.flash = s.nand.flash := by
  simp [State.requestTouch]

@[simp] theorem State.answer_frame (s : State) (g res detail : Nat) :
    (State.answer s g res detail).pending = s.pending ∧ (State.answer s g res detail).ctl.mode = s.ctl.mode ∧ (State.answer s g res detail).mem = s.mem ∧ (State.answer s g res detail).nand.flash = s.nand.flash := by
  exact ⟨rfl, rfl, rfl, rfl⟩

@[simp] theorem State.signalGroup_frame (s : State) (g : Nat) :
    (State.signalGroup s g).pending = s.pending ∧ (State.signalGroup s g).ctl.mode = s.ctl.mode ∧ (State.signalGroup s g).mem = s.mem ∧ (State.signalGroup s g).nand.flash = s.nand.flash := by
  simp [State.signalGroup]

@[simp] theorem State.dropEntries_frame (s : State) (g : Nat) :
    (State.dropEntries s g).pending = s.pending ∧ (State.dropEntries s g).ctl.mode = s.ctl.mode ∧ (State.dropEntries s g).mem = s.mem ∧ (State.dropEntries s g).nand.flash = s.nand.flash := by
  exact ⟨rfl, rfl, rfl, rfl⟩

@[simp] theorem State.unpin_frame (s : State) (leaves : List Nat) :
    (State.unpin s leaves).pending = s.pending ∧ (State.unpin s leaves).ctl.mode = s.ctl.mode ∧ (State.unpin s leaves).mem = s.mem ∧ (State.unpin s leaves).nand.flash = s.nand.flash := by
  simp [State.unpin]

@[simp] theorem State.unclaim_frame (s : State) (pages : List Nat) :
    (State.unclaim s pages).pending = s.pending ∧ (State.unclaim s pages).ctl.mode = s.ctl.mode ∧ (State.unclaim s pages).mem = s.mem ∧ (State.unclaim s pages).nand.flash = s.nand.flash := by
  simp [State.unclaim]

@[simp] theorem State.commitGroup_frame (s : State) (g : Nat) :
    (State.commitGroup s g).pending = s.pending ∧ (State.commitGroup s g).ctl.mode = s.ctl.mode ∧ (State.commitGroup s g).mem = s.mem ∧ (State.commitGroup s g).nand.flash = s.nand.flash := by
  simp [State.commitGroup]

@[simp] theorem State.startRollback_frame (s : State) (g : Nat) (after : Option (Nat × Nat)) :
    (State.startRollback s g after).pending = s.pending ∧ (State.startRollback s g after).ctl.mode = s.ctl.mode ∧ (State.startRollback s g after).mem = s.mem ∧ (State.startRollback s g after).nand.flash = s.nand.flash := by
  simp [State.startRollback]

@[simp] theorem State.restoreEntry_frame (s : State) (e : JEntry) :
    (State.restoreEntry s e).pending = s.pending ∧ (State.restoreEntry s e).ctl.mode = s.ctl.mode ∧ (State.restoreEntry s e).nand.flash = s.nand.flash := by
  exact ⟨rfl, rfl, rfl⟩

@[simp] theorem State.restoreEntry_wf_mem (s : State) (e : JEntry) (h : Mem.wf s.mem = true) :
    Mem.wf (State.restoreEntry s e).mem = true := by
  simp (maxDischargeDepth := 40) [State.restoreEntry, h]

@[simp] theorem State.writeBack_frame (s : State) (e : JEntry) :
    (State.writeBack s e).pending = s.pending ∧ (State.writeBack s e).ctl.mode = s.ctl.mode ∧ (State.writeBack s e).nand.flash = s.nand.flash := by
  simp [State.writeBack]

@[simp] theorem State.writeBack_wf_mem (s : State) (e : JEntry) (h : Mem.wf s.mem = true) :
    Mem.wf (State.writeBack s e).mem = true := by
  simp (maxDischargeDepth := 40) [State.writeBack, h]

@[simp] theorem State.restoreLines_frame (s : State) (g : Nat) :
    (State.restoreLines s g).pending = s.pending ∧ (State.restoreLines s g).ctl.mode = s.ctl.mode ∧ (State.restoreLines s g).nand.flash = s.nand.flash := by
  simp [State.restoreLines, -List.foldl_reverse]

@[simp] theorem State.restoreLines_wf_mem (s : State) (g : Nat) (h : Mem.wf s.mem = true) :
    Mem.wf (State.restoreLines s g).mem = true := by
  simp (maxDischargeDepth := 40) +contextual [State.restoreLines, h, -List.foldl_reverse]

@[simp] theorem State.setDecision_frame (s : State) (i : Nat) (d : Decision) :
    (State.setDecision s i d).pending = s.pending ∧ (State.setDecision s i d).ctl.mode = s.ctl.mode ∧ (State.setDecision s i d).mem = s.mem ∧ (State.setDecision s i d).nand.flash = s.nand.flash := by
  exact ⟨rfl, rfl, rfl, rfl⟩

@[simp] theorem State.forget_frame (s : State) (i : Nat) :
    (State.forget s i).pending = s.pending ∧ (State.forget s i).ctl.mode = s.ctl.mode ∧ (State.forget s i).mem = s.mem ∧ (State.forget s i).nand.flash = s.nand.flash := by
  refine ⟨?_, ?_, ?_, ?_⟩ <;> (unfold State.forget; (try dsimp only); repeat' split) <;> simp

@[simp] theorem State.acknowledge_frame (s : State) (m txn : Nat) :
    (State.acknowledge s m txn).pending = s.pending ∧ (State.acknowledge s m txn).ctl.mode = s.ctl.mode ∧ (State.acknowledge s m txn).mem = s.mem ∧ (State.acknowledge s m txn).nand.flash = s.nand.flash := by
  refine ⟨?_, ?_, ?_, ?_⟩ <;> (simp only [State.acknowledge]; repeat' split) <;> simp

@[simp] theorem State.ackIfDone_frame (s : State) (txn : Nat) :
    (State.ackIfDone s txn).pending = s.pending ∧ (State.ackIfDone s txn).ctl.mode = s.ctl.mode ∧ (State.ackIfDone s txn).mem = s.mem ∧ (State.ackIfDone s txn).nand.flash = s.nand.flash := by
  simp [State.ackIfDone]

@[simp] theorem State.resolvePart_frame (commit forced : Bool) (s : State) (g : Nat) :
    (State.resolvePart commit forced s g).pending = s.pending ∧ (State.resolvePart commit forced s g).ctl.mode = s.ctl.mode ∧ (State.resolvePart commit forced s g).mem = s.mem ∧ (State.resolvePart commit forced s g).nand.flash = s.nand.flash := by
  simp [State.resolvePart]

@[simp] theorem State.resolveParts_frame (s : State) (txn : Nat) (commit forced : Bool) :
    (State.resolveParts s txn commit forced).pending = s.pending ∧ (State.resolveParts s txn commit forced).ctl.mode = s.ctl.mode ∧ (State.resolveParts s txn commit forced).mem = s.mem ∧ (State.resolveParts s txn commit forced).nand.flash = s.nand.flash := by
  simp [State.resolveParts]

@[simp] theorem State.cacheDecision_frame (s : State) (txn : Nat) (commit : Bool) :
    (State.cacheDecision s txn commit).pending = s.pending ∧ (State.cacheDecision s txn commit).ctl.mode = s.ctl.mode ∧ (State.cacheDecision s txn commit).mem = s.mem ∧ (State.cacheDecision s txn commit).nand.flash = s.nand.flash := by
  exact ⟨rfl, rfl, rfl, rfl⟩

@[simp] theorem State.sendDecide_frame (s : State) (i : Nat) :
    (State.sendDecide s i).pending = s.pending ∧ (State.sendDecide s i).ctl.mode = s.ctl.mode ∧ (State.sendDecide s i).mem = s.mem ∧ (State.sendDecide s i).nand.flash = s.nand.flash := by
  refine ⟨?_, ?_, ?_, ?_⟩ <;> (simp only [State.sendDecide]; repeat' split) <;> simp

@[simp] theorem State.decideHere_frame (s : State) (i : Nat) (d : Decision) (commit presumed : Bool) :
    (State.decideHere s i d commit presumed).pending = s.pending ∧ (State.decideHere s i d commit presumed).ctl.mode = s.ctl.mode ∧ (State.decideHere s i d commit presumed).mem = s.mem ∧ (State.decideHere s i d commit presumed).nand.flash = s.nand.flash := by
  refine ⟨?_, ?_, ?_, ?_⟩ <;> (simp only [State.decideHere]; repeat' split) <;> simp

@[simp] theorem State.pin_frame (s : State) (leaf : Nat) :
    (State.pin s leaf).pending = s.pending ∧ (State.pin s leaf).ctl.mode = s.ctl.mode ∧ (State.pin s leaf).nand.flash = s.nand.flash := by
  simp [State.pin]

@[simp] theorem State.pin_wf_mem (s : State) (leaf : Nat) (h : Mem.wf s.mem = true) :
    Mem.wf (State.pin s leaf).mem = true := by
  unfold State.pin; (try dsimp only); repeat' split
  all_goals simp (maxDischargeDepth := 40) [h]

@[simp] theorem State.claimAll_frame (s : State) (a : DeskArgs) :
    (State.claimAll s a).pending = s.pending ∧ (State.claimAll s a).ctl.mode = s.ctl.mode ∧ (State.claimAll s a).nand.flash = s.nand.flash := by
  simp [State.claimAll]

@[simp] theorem State.claimAll_wf_mem (s : State) (a : DeskArgs) (h : Mem.wf s.mem = true) :
    Mem.wf (State.claimAll s a).mem = true := by
  unfold State.claimAll; (try dsimp only); repeat' split
  all_goals simp_all (maxDischargeDepth := 40)

@[simp] theorem State.beginJoint_frame (s : State) (a : DeskArgs) :
    (State.beginJoint s a).pending = s.pending ∧ (State.beginJoint s a).ctl.mode = s.ctl.mode ∧ (State.beginJoint s a).mem = s.mem ∧ (State.beginJoint s a).nand.flash = s.nand.flash := by
  exact ⟨rfl, rfl, rfl, rfl⟩

@[simp] theorem State.unprepared_frame (s : State) :
    (State.unprepared s).pending = s.pending ∧ (State.unprepared s).ctl.mode = s.ctl.mode ∧ (State.unprepared s).mem = s.mem ∧ (State.unprepared s).nand.flash = s.nand.flash := by
  simp [State.unprepared]

@[simp] theorem State.prepare_frame (s : State) (a : DeskArgs) :
    (State.prepare s a).pending = s.pending ∧ (State.prepare s a).ctl.mode = s.ctl.mode ∧ (State.prepare s a).mem = s.mem ∧ (State.prepare s a).nand.flash = s.nand.flash := by
  refine ⟨?_, ?_, ?_, ?_⟩ <;> (unfold State.prepare; (try dsimp only); repeat' split) <;> simp

@[simp] theorem State.decide'_frame (s : State) (a : DeskArgs) :
    (State.decide' s a).pending = s.pending ∧ (State.decide' s a).ctl.mode = s.ctl.mode ∧ (State.decide' s a).mem = s.mem ∧ (State.decide' s a).nand.flash = s.nand.flash := by
  refine ⟨?_, ?_, ?_, ?_⟩ <;> (unfold State.decide'; (try dsimp only); repeat' split) <;> simp

@[simp] theorem State.ackTerminal_frame (s : State) (g : Nat) :
    (State.ackTerminal s g).pending = s.pending ∧ (State.ackTerminal s g).ctl.mode = s.ctl.mode ∧ (State.ackTerminal s g).mem = s.mem ∧ (State.ackTerminal s g).nand.flash = s.nand.flash := by
  refine ⟨?_, ?_, ?_, ?_⟩ <;> (unfold State.ackTerminal; (try dsimp only); repeat' split) <;> simp

@[simp] theorem State.deskEffect_frame (s : State) (opcode : Nat) (a : DeskArgs) :
    (State.deskEffect s opcode a).pending = s.pending ∧ (State.deskEffect s opcode a).ctl.mode = s.ctl.mode ∧ (State.deskEffect s opcode a).nand.flash = s.nand.flash := by
  refine ⟨?_, ?_, ?_⟩ <;> (unfold State.deskEffect; (try dsimp only); repeat' split) <;> simp

@[simp] theorem State.deskEffect_wf_mem (s : State) (opcode : Nat) (a : DeskArgs) (h : Mem.wf s.mem = true) :
    Mem.wf (State.deskEffect s opcode a).mem = true := by
  unfold State.deskEffect; (try dsimp only); repeat' split
  all_goals simp (maxDischargeDepth := 40) +contextual [h]

@[simp] theorem State.mailAnswer_frame (g : Nat) (s : State) (i : Nat) :
    (State.mailAnswer g s i).pending = s.pending ∧ (State.mailAnswer g s i).ctl.mode = s.ctl.mode ∧ (State.mailAnswer g s i).mem = s.mem ∧ (State.mailAnswer g s i).nand.flash = s.nand.flash := by
  simp [State.mailAnswer]

@[simp] theorem State.deskDone_frame (s : State) (a : DeskArgs) :
    (State.deskDone s a).pending = s.pending ∧ (State.deskDone s a).ctl.mode = s.ctl.mode ∧ (State.deskDone s a).mem = s.mem ∧ (State.deskDone s a).nand.flash = s.nand.flash := by
  simp [State.deskDone]

@[simp] theorem State.mailFlush_frame (s : State) (g : Nat) :
    (State.mailFlush s g).pending = s.pending ∧ (State.mailFlush s g).ctl.mode = s.ctl.mode ∧ (State.mailFlush s g).mem = s.mem ∧ (State.mailFlush s g).nand.flash = s.nand.flash := by
  simp [State.mailFlush]

@[simp] theorem State.deskRun_frame (s : State) (opcode : Nat) (a : DeskArgs) :
    (State.deskRun s opcode a).pending = s.pending ∧ (State.deskRun s opcode a).ctl.mode = s.ctl.mode ∧ (State.deskRun s opcode a).nand.flash = s.nand.flash := by
  refine ⟨?_, ?_, ?_⟩ <;> (unfold State.deskRun; (try dsimp only); repeat' split) <;> simp

@[simp] theorem State.deskRun_wf_mem (s : State) (opcode : Nat) (a : DeskArgs) (h : Mem.wf s.mem = true) :
    Mem.wf (State.deskRun s opcode a).mem = true := by
  unfold State.deskRun; (try dsimp only); repeat' split
  all_goals simp (maxDischargeDepth := 40) [h]

@[simp] theorem State.deskViolation_frame (s : State) (link : Nat) :
    (State.deskViolation s link).pending = s.pending ∧ (State.deskViolation s link).ctl.mode = s.ctl.mode ∧ (State.deskViolation s link).mem = s.mem ∧ (State.deskViolation s link).nand.flash = s.nand.flash := by
  simp [State.deskViolation]

@[simp] theorem State.serveDesk_frame (s : State) (i g : Nat) :
    (State.serveDesk s i g).pending = s.pending ∧ (State.serveDesk s i g).ctl.mode = s.ctl.mode ∧ (State.serveDesk s i g).mem = s.mem ∧ (State.serveDesk s i g).nand.flash = s.nand.flash := by
  simp [State.serveDesk]

@[simp] theorem State.answerReads_frame (s : State) (g : Nat) :
    (State.answerReads s g).pending = s.pending ∧ (State.answerReads s g).ctl.mode = s.ctl.mode ∧ (State.answerReads s g).mem = s.mem ∧ (State.answerReads s g).nand.flash = s.nand.flash := by
  simp [State.answerReads]

@[simp] theorem State.answerSlots_frame (s : State) :
    (State.answerSlots s).pending = s.pending ∧ (State.answerSlots s).ctl.mode = s.ctl.mode ∧ (State.answerSlots s).mem = s.mem ∧ (State.answerSlots s).nand.flash = s.nand.flash := by
  simp [State.answerSlots]

@[simp] theorem State.readsAdvance_frame (s : State) (g : Nat) :
    (State.readsAdvance s g).pending = s.pending ∧ (State.readsAdvance s g).ctl.mode = s.ctl.mode ∧ (State.readsAdvance s g).mem = s.mem ∧ (State.readsAdvance s g).nand.flash = s.nand.flash := by
  exact ⟨rfl, rfl, rfl, rfl⟩

@[simp] theorem State.deskNext_frame (g : Nat) (s : State) (c : Nat × DeskArgs) :
    (State.deskNext g s c).pending = s.pending ∧ (State.deskNext g s c).ctl.mode = s.ctl.mode ∧ (State.deskNext g s c).nand.flash = s.nand.flash := by
  simp [State.deskNext]

@[simp] theorem State.deskNext_wf_mem (g : Nat) (s : State) (c : Nat × DeskArgs) (h : Mem.wf s.mem = true) :
    Mem.wf (State.deskNext g s c).mem = true := by
  simp (maxDischargeDepth := 40) [State.deskNext, h]

@[simp] theorem State.deskResume_frame (s : State) (g : Nat) :
    (State.deskResume s g).pending = s.pending ∧ (State.deskResume s g).ctl.mode = s.ctl.mode ∧ (State.deskResume s g).nand.flash = s.nand.flash := by
  simp [State.deskResume]

@[simp] theorem State.deskResume_wf_mem (s : State) (g : Nat) (h : Mem.wf s.mem = true) :
    Mem.wf (State.deskResume s g).mem = true := by
  unfold State.deskResume; (try dsimp only); repeat' split
  all_goals simp_all (maxDischargeDepth := 40)

@[simp] theorem State.endRollback_frame (s : State) (g : Nat) :
    (State.endRollback s g).pending = s.pending ∧ (State.endRollback s g).ctl.mode = s.ctl.mode ∧ (State.endRollback s g).nand.flash = s.nand.flash := by
  refine ⟨?_, ?_, ?_⟩ <;> (simp only [State.endRollback]; repeat' split) <;> simp

@[simp] theorem State.endRollback_wf_mem (s : State) (g : Nat) (h : Mem.wf s.mem = true) :
    Mem.wf (State.endRollback s g).mem = true := by
  unfold State.endRollback; (try dsimp only); repeat' split
  all_goals simp (maxDischargeDepth := 40) +contextual [h]

@[simp] theorem State.deskWrite_frame (s : State) (opcode : Nat) (a : DeskArgs) :
    (State.deskWrite s opcode a).pending = s.pending ∧ (State.deskWrite s opcode a).ctl.mode = s.ctl.mode ∧ (State.deskWrite s opcode a).nand.flash = s.nand.flash := by
  simp [State.deskWrite]

@[simp] theorem State.deskWrite_wf_mem (s : State) (opcode : Nat) (a : DeskArgs) (h : Mem.wf s.mem = true) :
    Mem.wf (State.deskWrite s opcode a).mem = true := by
  unfold State.deskWrite; (try dsimp only); repeat' split
  all_goals simp (maxDischargeDepth := 40) [h]

end Sys2Proof.Machine
end

