-- ==== Sys2Proof/Laws/Ingress.lean ====
section
/-! SUPPORT. What the operations and commands of Machine/Ingress.lean keep: the queue, and the mode, the bytes of DRAM and of
flash, or the canonical form of those bytes. -/

namespace Sys2Proof.Machine

@[simp] theorem State.withdraw_frame (s : State) (mask : BitVec 4) :
    (State.withdraw s mask).pending = s.pending ∧ (State.withdraw s mask).ctl.mode = s.ctl.mode ∧ (State.withdraw s mask).mem = s.mem ∧ (State.withdraw s mask).nand.flash = s.nand.flash := by
  simp [State.withdraw]

@[simp] theorem State.endPeriod_frame (s : State) :
    (State.endPeriod s).pending = s.pending ∧ (State.endPeriod s).ctl.mode = s.ctl.mode ∧ (State.endPeriod s).mem = s.mem ∧ (State.endPeriod s).nand.flash = s.nand.flash := by
  simp [State.endPeriod]

@[simp] theorem State.checkDqs_frame (s : State) :
    (State.checkDqs s).pending = s.pending ∧ (State.checkDqs s).ctl.mode = s.ctl.mode ∧ (State.checkDqs s).mem = s.mem ∧ (State.checkDqs s).nand.flash = s.nand.flash := by
  simp [State.checkDqs]

@[simp] theorem State.beginWake_frame (s : State) (on : Option Nat) :
    (State.beginWake s on).pending = s.pending ∧ (State.beginWake s on).ctl.mode = s.ctl.mode ∧ (State.beginWake s on).mem = s.mem ∧ (State.beginWake s on).nand.flash = s.nand.flash := by
  simp [State.beginWake]

@[simp] theorem State.fire_frame (s : State) (src : Nat) (on : Option Nat) :
    (State.fire s src on).pending = s.pending ∧ (State.fire s src on).ctl.mode = s.ctl.mode ∧ (State.fire s src on).mem = s.mem ∧ (State.fire s src on).nand.flash = s.nand.flash := by
  refine ⟨?_, ?_, ?_, ?_⟩ <;> (unfold State.fire; (try dsimp only); repeat' split) <;> simp

@[simp] theorem State.memArrives_frame (s : State) (i : Nat) :
    (State.memArrives s i).pending = s.pending ∧ (State.memArrives s i).ctl.mode = s.ctl.mode ∧ (State.memArrives s i).mem = s.mem ∧ (State.memArrives s i).nand.flash = s.nand.flash := by
  simp [State.memArrives]

@[simp] theorem State.flushed_frame (s : State) :
    (State.flushed s).pending = s.pending ∧ (State.flushed s).ctl.mode = s.ctl.mode ∧ (State.flushed s).mem = s.mem ∧ (State.flushed s).nand.flash = s.nand.flash := by
  simp [State.flushed]

@[simp] theorem State.loads_frame (s : State) :
    (State.loads s).pending = s.pending ∧ (State.loads s).ctl.mode = s.ctl.mode ∧ (State.loads s).mem = s.mem ∧ (State.loads s).nand.flash = s.nand.flash := by
  simp [State.loads]

@[simp] theorem State.holdEdges_frame (s before : State) :
    (State.holdEdges s before).pending = s.pending ∧ (State.holdEdges s before).ctl.mode = s.ctl.mode ∧ (State.holdEdges s before).mem = s.mem ∧ (State.holdEdges s before).nand.flash = s.nand.flash := by
  simp [State.holdEdges]

@[simp] theorem State.serveRead_frame (s : State) (i dpa : Nat) (stamp : BitVec 16) :
    (State.serveRead s i dpa stamp).pending = s.pending ∧ (State.serveRead s i dpa stamp).ctl.mode = s.ctl.mode ∧ (State.serveRead s i dpa stamp).mem = s.mem ∧ (State.serveRead s i dpa stamp).nand.flash = s.nand.flash := by
  exact ⟨rfl, rfl, rfl, rfl⟩

@[simp] theorem State.requestRebuild_frame (s : State) (leaf : Nat) :
    (State.requestRebuild s leaf).pending = s.pending ∧ (State.requestRebuild s leaf).ctl.mode = s.ctl.mode ∧ (State.requestRebuild s leaf).mem = s.mem ∧ (State.requestRebuild s leaf).nand.flash = s.nand.flash := by
  refine ⟨?_, ?_, ?_, ?_⟩ <;> (unfold State.requestRebuild; (try dsimp only); repeat' split) <;> simp

@[simp] theorem State.read_frame (s : State) (link : Fin 4) (dpa : Nat) (stamp : BitVec 16) :
    (State.read s link dpa stamp).pending = s.pending ∧ (State.read s link dpa stamp).ctl.mode = s.ctl.mode ∧ (State.read s link dpa stamp).mem = s.mem ∧ (State.read s link dpa stamp).nand.flash = s.nand.flash := by
  refine ⟨?_, ?_, ?_, ?_⟩ <;> (unfold State.read; (try dsimp only); repeat' split) <;> simp

@[simp] theorem State.setWait_frame (s : State) (id : Nat) (w : Wait) :
    (State.setWait s id w).pending = s.pending ∧ (State.setWait s id w).ctl.mode = s.ctl.mode ∧ (State.setWait s id w).mem = s.mem ∧ (State.setWait s id w).nand.flash = s.nand.flash := by
  exact ⟨rfl, rfl, rfl, rfl⟩

@[simp] theorem State.dropWrite_frame (s : State) (id : Nat) :
    (State.dropWrite s id).pending = s.pending ∧ (State.dropWrite s id).ctl.mode = s.ctl.mode ∧ (State.dropWrite s id).mem = s.mem ∧ (State.dropWrite s id).nand.flash = s.nand.flash := by
  exact ⟨rfl, rfl, rfl, rfl⟩

@[simp] theorem State.completeWrite_frame (s : State) (e : IngressWrite) :
    (State.completeWrite s e).pending = s.pending ∧ (State.completeWrite s e).ctl.mode = s.ctl.mode ∧ (State.completeWrite s e).mem = s.mem ∧ (State.completeWrite s e).nand.flash = s.nand.flash := by
  refine ⟨?_, ?_, ?_, ?_⟩ <;> (unfold State.completeWrite; (try dsimp only); repeat' split) <;> simp

@[simp] theorem State.openAwaiting_frame (s : State) (w : MemWrite) :
    (State.openAwaiting s w).pending = s.pending ∧ (State.openAwaiting s w).ctl.mode = s.ctl.mode ∧ (State.openAwaiting s w).nand.flash = s.nand.flash := by
  simp [State.openAwaiting]

@[simp] theorem State.openAwaiting_wf_mem (s : State) (w : MemWrite) (h : Mem.wf s.mem = true) :
    Mem.wf (State.openAwaiting s w).mem = true := by
  unfold State.openAwaiting; (try dsimp only); repeat' split
  all_goals simp (maxDischargeDepth := 40) [h]

@[simp] theorem State.storeWrite_frame (s0 : State) (e : IngressWrite) :
    (State.storeWrite s0 e).pending = s0.pending ∧ (State.storeWrite s0 e).ctl.mode = s0.ctl.mode ∧ (State.storeWrite s0 e).nand.flash = s0.nand.flash := by
  simp [State.storeWrite]

@[simp] theorem State.storeWrite_wf_mem (s0 : State) (e : IngressWrite) (h : Mem.wf s0.mem = true) :
    Mem.wf (State.storeWrite s0 e).mem = true := by
  simp (maxDischargeDepth := 40) [State.storeWrite, h]

@[simp] theorem State.landWrite_frame (s : State) (e : IngressWrite) :
    (State.landWrite s e).pending = s.pending ∧ (State.landWrite s e).ctl.mode = s.ctl.mode ∧ (State.landWrite s e).nand.flash = s.nand.flash := by
  simp [State.landWrite]

@[simp] theorem State.landWrite_wf_mem (s : State) (e : IngressWrite) (h : Mem.wf s.mem = true) :
    Mem.wf (State.landWrite s e).mem = true := by
  simp (maxDischargeDepth := 40) [State.landWrite, h]

@[simp] theorem State.landJournalled_frame (s : State) (e : IngressWrite) (entry : List Nat) :
    (State.landJournalled s e entry).pending = s.pending ∧ (State.landJournalled s e entry).ctl.mode = s.ctl.mode ∧ (State.landJournalled s e entry).nand.flash = s.nand.flash := by
  simp [State.landJournalled]

@[simp] theorem State.landJournalled_wf_mem (s : State) (e : IngressWrite) (entry : List Nat) (h : Mem.wf s.mem = true) :
    Mem.wf (State.landJournalled s e entry).mem = true := by
  unfold State.landJournalled; (try dsimp only); repeat' split
  all_goals simp (maxDischargeDepth := 40) [h]

@[simp] theorem State.discardWrite_frame (s : State) (g : Nat) (e : IngressWrite) :
    (State.discardWrite s g e).pending = s.pending ∧ (State.discardWrite s g e).ctl.mode = s.ctl.mode ∧ (State.discardWrite s g e).mem = s.mem ∧ (State.discardWrite s g e).nand.flash = s.nand.flash := by
  simp [State.discardWrite]

@[simp] theorem State.journalLine_frame (s : State) (g line : Nat) (stamp : BitVec 16) :
    (State.journalLine s g line stamp).pending = s.pending ∧ (State.journalLine s g line stamp).ctl.mode = s.ctl.mode ∧ (State.journalLine s g line stamp).mem = s.mem ∧ (State.journalLine s g line stamp).nand.flash = s.nand.flash := by
  simp [State.journalLine]

@[simp] theorem State.abortVictim_frame (s : State) (v : Nat) :
    (State.abortVictim s v).pending = s.pending ∧ (State.abortVictim s v).ctl.mode = s.ctl.mode ∧ (State.abortVictim s v).mem = s.mem ∧ (State.abortVictim s v).nand.flash = s.nand.flash := by
  simp [State.abortVictim]

@[simp] theorem State.journalBlocked_frame (s : State) (g : Nat) (e : IngressWrite) :
    (State.journalBlocked s g e).pending = s.pending ∧ (State.journalBlocked s g e).ctl.mode = s.ctl.mode ∧ (State.journalBlocked s g e).mem = s.mem ∧ (State.journalBlocked s g e).nand.flash = s.nand.flash := by
  refine ⟨?_, ?_, ?_, ?_⟩ <;> (unfold State.journalBlocked; (try dsimp only); repeat' split) <;> simp

@[simp] theorem State.plainWrite_frame (s : State) (e : IngressWrite) :
    (State.plainWrite s e).pending = s.pending ∧ (State.plainWrite s e).ctl.mode = s.ctl.mode ∧ (State.plainWrite s e).nand.flash = s.nand.flash := by
  refine ⟨?_, ?_, ?_⟩ <;> (unfold State.plainWrite; (try dsimp only); repeat' split) <;> simp

@[simp] theorem State.plainWrite_wf_mem (s : State) (e : IngressWrite) (h : Mem.wf s.mem = true) :
    Mem.wf (State.plainWrite s e).mem = true := by
  unfold State.plainWrite; (try dsimp only); repeat' split
  all_goals simp (maxDischargeDepth := 40) [h]

@[simp] theorem State.joinWriteWith_frame (force : Bool) (s : State) (e : IngressWrite) :
    (State.joinWriteWith force s e).pending = s.pending ∧ (State.joinWriteWith force s e).ctl.mode = s.ctl.mode ∧ (State.joinWriteWith force s e).nand.flash = s.nand.flash := by
  refine ⟨?_, ?_, ?_⟩ <;> (unfold State.joinWriteWith; (try dsimp only); repeat' split) <;> simp

@[simp] theorem State.joinWriteWith_wf_mem (force : Bool) (s : State) (e : IngressWrite) (h : Mem.wf s.mem = true) :
    Mem.wf (State.joinWriteWith force s e).mem = true := by
  unfold State.joinWriteWith; (try dsimp only); repeat' split
  all_goals simp (maxDischargeDepth := 40) [h]

@[simp] theorem State.joinWrite_frame (s : State) (e : IngressWrite) :
    (State.joinWrite s e).pending = s.pending ∧ (State.joinWrite s e).ctl.mode = s.ctl.mode ∧ (State.joinWrite s e).nand.flash = s.nand.flash := by
  refine ⟨?_, ?_, ?_⟩ <;> (unfold State.joinWrite; (try dsimp only); repeat' split) <;> simp

@[simp] theorem State.joinWrite_wf_mem (s : State) (e : IngressWrite) (h : Mem.wf s.mem = true) :
    Mem.wf (State.joinWrite s e).mem = true := by
  unfold State.joinWrite; (try dsimp only); repeat' split
  all_goals simp (maxDischargeDepth := 40) [h]

@[simp] theorem State.holdWrite_frame (s : State) (e : IngressWrite) :
    (State.holdWrite s e).pending = s.pending ∧ (State.holdWrite s e).ctl.mode = s.ctl.mode ∧ (State.holdWrite s e).mem = s.mem ∧ (State.holdWrite s e).nand.flash = s.nand.flash := by
  simp [State.holdWrite]

@[simp] theorem State.deskMem_frame (s : State) (e : IngressWrite) (g : Nat) :
    (State.deskMem s e g).pending = s.pending ∧ (State.deskMem s e g).ctl.mode = s.ctl.mode ∧ (State.deskMem s e g).nand.flash = s.nand.flash := by
  simp [State.deskMem]

@[simp] theorem State.deskMem_wf_mem (s : State) (e : IngressWrite) (g : Nat) (h : Mem.wf s.mem = true) :
    Mem.wf (State.deskMem s e g).mem = true := by
  unfold State.deskMem; (try dsimp only); repeat' split
  all_goals simp (maxDischargeDepth := 40) [h]

@[simp] theorem State.progress_frame (force : Bool) (s : State) (id : Nat) :
    (State.progress force s id).pending = s.pending ∧ (State.progress force s id).ctl.mode = s.ctl.mode ∧ (State.progress force s id).nand.flash = s.nand.flash := by
  refine ⟨?_, ?_, ?_⟩ <;> (unfold State.progress; (try dsimp only); repeat' split) <;> simp

@[simp] theorem State.progress_wf_mem (force : Bool) (s : State) (id : Nat) (h : Mem.wf s.mem = true) :
    Mem.wf (State.progress force s id).mem = true := by
  unfold State.progress; (try dsimp only); repeat' split
  all_goals simp (maxDischargeDepth := 40) [h]

@[simp] theorem State.resume_frame (s : State) (w : Wait) :
    (State.resume s w).pending = s.pending ∧ (State.resume s w).ctl.mode = s.ctl.mode ∧ (State.resume s w).nand.flash = s.nand.flash := by
  simp [State.resume]

@[simp] theorem State.resume_wf_mem (s : State) (w : Wait) (h : Mem.wf s.mem = true) :
    Mem.wf (State.resume s w).mem = true := by
  unfold State.resume; (try dsimp only); repeat' split
  all_goals simp_all (maxDischargeDepth := 40)

@[simp] theorem State.restamp_frame (s : State) (stamp : BitVec 16) :
    (State.restamp s stamp).pending = s.pending ∧ (State.restamp s stamp).ctl.mode = s.ctl.mode ∧ (State.restamp s stamp).mem = s.mem ∧ (State.restamp s stamp).nand.flash = s.nand.flash := by
  exact ⟨rfl, rfl, rfl, rfl⟩

@[simp] theorem State.endHolds_frame (s before : State) :
    (State.endHolds s before).pending = s.pending ∧ (State.endHolds s before).ctl.mode = s.ctl.mode ∧ (State.endHolds s before).mem = s.mem ∧ (State.endHolds s before).nand.flash = s.nand.flash := by
  simp [State.endHolds]

@[simp] theorem State.releaseHeld_frame (s : State) (stamp : BitVec 16) :
    (State.releaseHeld s stamp).pending = s.pending ∧ (State.releaseHeld s stamp).ctl.mode = s.ctl.mode ∧ (State.releaseHeld s stamp).nand.flash = s.nand.flash := by
  simp [State.releaseHeld]

@[simp] theorem State.releaseHeld_wf_mem (s : State) (stamp : BitVec 16) (h : Mem.wf s.mem = true) :
    Mem.wf (State.releaseHeld s stamp).mem = true := by
  simp (maxDischargeDepth := 40) [State.releaseHeld, h]

@[simp] theorem State.enqueue_frame (s : State) (w : MemWrite) (src : PoisonSource) :
    (State.enqueue s w src).pending = s.pending ∧ (State.enqueue s w src).ctl.mode = s.ctl.mode ∧ (State.enqueue s w src).mem = s.mem ∧ (State.enqueue s w src).nand.flash = s.nand.flash := by
  exact ⟨rfl, rfl, rfl, rfl⟩

@[simp] theorem State.acceptWrite_frame (s : State) (w : MemWrite) (src : PoisonSource) :
    (State.acceptWrite s w src).pending = s.pending ∧ (State.acceptWrite s w src).ctl.mode = s.ctl.mode ∧ (State.acceptWrite s w src).nand.flash = s.nand.flash := by
  simp [State.acceptWrite]

@[simp] theorem State.acceptWrite_wf_mem (s : State) (w : MemWrite) (src : PoisonSource) (h : Mem.wf s.mem = true) :
    Mem.wf (State.acceptWrite s w src).mem = true := by
  unfold State.acceptWrite; (try dsimp only); repeat' split
  all_goals simp (maxDischargeDepth := 40) [h]

@[simp] theorem State.resumeReads_frame (s : State) (w : Wait) :
    (State.resumeReads s w).pending = s.pending ∧ (State.resumeReads s w).ctl.mode = s.ctl.mode ∧ (State.resumeReads s w).mem = s.mem ∧ (State.resumeReads s w).nand.flash = s.nand.flash := by
  simp [State.resumeReads]

@[simp] theorem State.serveHeld_frame (s : State) :
    (State.serveHeld s).pending = s.pending ∧ (State.serveHeld s).ctl.mode = s.ctl.mode ∧ (State.serveHeld s).nand.flash = s.nand.flash := by
  simp [State.serveHeld]

@[simp] theorem State.serveHeld_wf_mem (s : State) (h : Mem.wf s.mem = true) :
    Mem.wf (State.serveHeld s).mem = true := by
  simp (maxDischargeDepth := 40) [State.serveHeld, h]

@[simp] theorem State.resumeGroupWrites_frame (s : State) :
    (State.resumeGroupWrites s).pending = s.pending ∧ (State.resumeGroupWrites s).ctl.mode = s.ctl.mode ∧ (State.resumeGroupWrites s).nand.flash = s.nand.flash := by
  simp [State.resumeGroupWrites]

@[simp] theorem State.resumeGroupWrites_wf_mem (s : State) (h : Mem.wf s.mem = true) :
    Mem.wf (State.resumeGroupWrites s).mem = true := by
  simp (maxDischargeDepth := 40) [State.resumeGroupWrites, h]

end Sys2Proof.Machine
end

