-- ==== Sys2Proof/Laws/HostPort.lean ====
section
/-! SUPPORT. What the operations and commands of Machine/HostPort.lean keep: the queue, and the mode, the bytes of DRAM and of
flash, or the canonical form of those bytes. -/

namespace Sys2Proof.Machine

@[simp] theorem State.hostWrite_frame (s : State) (w : MemWrite) :
    (State.hostWrite s w).pending = s.pending ∧ (State.hostWrite s w).ctl.mode = s.ctl.mode ∧ (State.hostWrite s w).nand.flash = s.nand.flash := by
  simp [State.hostWrite]

@[simp] theorem State.hostWrite_wf_mem (s : State) (w : MemWrite) (h : Mem.wf s.mem = true) :
    Mem.wf (State.hostWrite s w).mem = true := by
  unfold State.hostWrite; (try dsimp only); repeat' split
  all_goals simp (maxDischargeDepth := 40) [h]

theorem execHostWrite_frame (w : MemWrite) (s : State) (t : State)
    (h : execHostWrite w s = .next t) : t.pending = s.pending ∧ t.ctl.mode = s.ctl.mode ∧ t.nand.flash = s.nand.flash := by
  unfold execHostWrite at h; (try dsimp only at h); repeat' split at h
  all_goals (first | (cases h; done) | (cases h; simp; done) | (cases h; simp_all; done))

theorem execHostWrite_wf_mem (w : MemWrite) (s : State) (t : State)
    (h : execHostWrite w s = .next t) (hm : Mem.wf s.mem = true) : Mem.wf t.mem = true := by
  unfold execHostWrite at h; (try dsimp only at h); repeat' split at h
  all_goals (first | (cases h; done) | (cases h; simp (maxDischargeDepth := 40) [hm]; done) | (cases h; simp_all (maxDischargeDepth := 40); done))

theorem execHeldWriteRelease_frame (stamp : BitVec 16) (s : State) (t : State)
    (h : execHeldWriteRelease stamp s = .next t) : t.pending = s.pending ∧ t.ctl.mode = s.ctl.mode ∧ t.nand.flash = s.nand.flash := by
  unfold execHeldWriteRelease at h; cases h; simp

theorem execHeldWriteRelease_wf_mem (stamp : BitVec 16) (s : State) (t : State)
    (h : execHeldWriteRelease stamp s = .next t) (hm : Mem.wf s.mem = true) : Mem.wf t.mem = true := by
  unfold execHeldWriteRelease at h; cases h; (try dsimp only); repeat' split
  all_goals simp (maxDischargeDepth := 40) [hm]

theorem execJournalWaitEnd_frame (_stamp : BitVec 16) (s : State) (t : State)
    (h : execJournalWaitEnd _stamp s = .next t) : t.pending = s.pending ∧ t.ctl.mode = s.ctl.mode ∧ t.nand.flash = s.nand.flash := by
  unfold execJournalWaitEnd at h; cases h; simp

theorem execJournalWaitEnd_wf_mem (_stamp : BitVec 16) (s : State) (t : State)
    (h : execJournalWaitEnd _stamp s = .next t) (hm : Mem.wf s.mem = true) : Mem.wf t.mem = true := by
  unfold execJournalWaitEnd at h; cases h; (try dsimp only); repeat' split
  all_goals simp (maxDischargeDepth := 40) [hm]

@[simp] theorem State.hostRead_frame (s : State) (link : Fin 4) (dpa : Nat) (stamp : BitVec 16) :
    (State.hostRead s link dpa stamp).pending = s.pending ∧ (State.hostRead s link dpa stamp).ctl.mode = s.ctl.mode ∧ (State.hostRead s link dpa stamp).mem = s.mem ∧ (State.hostRead s link dpa stamp).nand.flash = s.nand.flash := by
  simp [State.hostRead]

theorem execHostRead_frame (link : Fin 4) (dpa : Nat) (stamp : BitVec 16) (s : State) (t : State)
    (h : execHostRead link dpa stamp s = .next t) : t.pending = s.pending ∧ t.ctl.mode = s.ctl.mode ∧ t.mem = s.mem ∧ t.nand.flash = s.nand.flash := by
  unfold execHostRead at h; (try dsimp only at h); repeat' split at h
  all_goals (first | (cases h; done) | (cases h; simp; done) | (cases h; simp_all; done))

theorem execGpfPhase1_frame (link : Fin 4) (s : State) (t : State)
    (h : execGpfPhase1 link s = .next t) : t.pending = s.pending ∧ t.ctl.mode = s.ctl.mode ∧ t.mem = s.mem ∧ t.nand.flash = s.nand.flash := by
  unfold execGpfPhase1 at h; cases h; simp

theorem execGpfPhase2_frame (link : Fin 4) (s : State) (t : State)
    (h : execGpfPhase2 link s = .next t) : t.pending = s.pending ∧ t.ctl.mode = s.ctl.mode ∧ t.mem = s.mem ∧ t.nand.flash = s.nand.flash := by
  unfold execGpfPhase2 at h; cases h; simp

@[simp] theorem State.flushPend_frame (s : State) (i : Nat) :
    (State.flushPend s i).pending = s.pending ∧ (State.flushPend s i).ctl.mode = s.ctl.mode ∧ (State.flushPend s i).mem = s.mem ∧ (State.flushPend s i).nand.flash = s.nand.flash := by
  simp [State.flushPend]

@[simp] theorem State.expirePend_frame (s : State) (i : Nat) :
    (State.expirePend s i).pending = s.pending ∧ (State.expirePend s i).ctl.mode = s.ctl.mode ∧ (State.expirePend s i).mem = s.mem ∧ (State.expirePend s i).nand.flash = s.nand.flash := by
  simp [State.expirePend]

@[simp] theorem State.deliverDeferred_frame (s : State) (i : Nat) :
    (State.deliverDeferred s i).pending = s.pending ∧ (State.deliverDeferred s i).ctl.mode = s.ctl.mode ∧ (State.deliverDeferred s i).mem = s.mem ∧ (State.deliverDeferred s i).nand.flash = s.nand.flash := by
  simp [State.deliverDeferred]

@[simp] theorem State.deliverMail_frame (s : State) (i : Nat) :
    (State.deliverMail s i).pending = s.pending ∧ (State.deliverMail s i).ctl.mode = s.ctl.mode ∧ (State.deliverMail s i).mem = s.mem ∧ (State.deliverMail s i).nand.flash = s.nand.flash := by
  refine ⟨?_, ?_, ?_, ?_⟩ <;> (unfold State.deliverMail; (try dsimp only); repeat' split) <;> simp

@[simp] theorem State.train_frame (s : State) (i rate width : Nat) (flit256 : Bool) :
    (State.train s i rate width flit256).pending = s.pending ∧ (State.train s i rate width flit256).ctl.mode = s.ctl.mode ∧ (State.train s i rate width flit256).mem = s.mem ∧ (State.train s i rate width flit256).nand.flash = s.nand.flash := by
  simp [State.train]

theorem execLinkTrained_frame (link : Fin 4) (partnerRate partnerWidth : Nat) (flit256 : Bool) (s : State) (t : State)
    (h : execLinkTrained link partnerRate partnerWidth flit256 s = .next t) : t.pending = s.pending ∧ t.ctl.mode = s.ctl.mode ∧ t.mem = s.mem ∧ t.nand.flash = s.nand.flash := by
  unfold execLinkTrained at h; cases h; simp

@[simp] theorem State.loseLink_frame (s : State) (i : Nat) (st : LinkState) :
    (State.loseLink s i st).pending = s.pending ∧ (State.loseLink s i st).ctl.mode = s.ctl.mode ∧ (State.loseLink s i st).mem = s.mem ∧ (State.loseLink s i st).nand.flash = s.nand.flash := by
  simp [State.loseLink]

theorem execLinkLoss_frame (link : Fin 4) (s : State) (t : State)
    (h : execLinkLoss link s = .next t) : t.pending = s.pending ∧ t.ctl.mode = s.ctl.mode ∧ t.mem = s.mem ∧ t.nand.flash = s.nand.flash := by
  unfold execLinkLoss at h; cases h; simp

@[simp] theorem State.voidRequests_frame (s : State) (i : Nat) :
    (State.voidRequests s i).pending = s.pending ∧ (State.voidRequests s i).ctl.mode = s.ctl.mode ∧ (State.voidRequests s i).mem = s.mem ∧ (State.voidRequests s i).nand.flash = s.nand.flash := by
  exact ⟨rfl, rfl, rfl, rfl⟩

@[simp] theorem State.dropMail_frame (s : State) (i : Nat) :
    (State.dropMail s i).pending = s.pending ∧ (State.dropMail s i).ctl.mode = s.ctl.mode ∧ (State.dropMail s i).mem = s.mem ∧ (State.dropMail s i).nand.flash = s.nand.flash := by
  exact ⟨rfl, rfl, rfl, rfl⟩

@[simp] theorem State.hostReset_frame (s : State) (i : Nat) :
    (State.hostReset s i).pending = s.pending ∧ (State.hostReset s i).ctl.mode = s.ctl.mode ∧ (State.hostReset s i).mem = s.mem ∧ (State.hostReset s i).nand.flash = s.nand.flash := by
  simp [State.hostReset]

theorem execHostReset_frame (link : Fin 4) (s : State) (t : State)
    (h : execHostReset link s = .next t) : t.pending = s.pending ∧ t.ctl.mode = s.ctl.mode ∧ t.mem = s.mem ∧ t.nand.flash = s.nand.flash := by
  unfold execHostReset at h; cases h; simp

theorem execFlr_frame (link : Fin 4) (s : State) (t : State)
    (h : execFlr link s = .next t) : t.pending = s.pending ∧ t.ctl.mode = s.ctl.mode ∧ t.mem = s.mem ∧ t.nand.flash = s.nand.flash := by
  unfold execFlr at h; cases h; simp

@[simp] theorem State.linkEnable_frame (s : State) (i v : Nat) :
    (State.linkEnable s i v).pending = s.pending ∧ (State.linkEnable s i v).ctl.mode = s.ctl.mode ∧ (State.linkEnable s i v).mem = s.mem ∧ (State.linkEnable s i v).nand.flash = s.nand.flash := by
  simp [State.linkEnable]

theorem execLinkShutdownComplete_frame (link : Fin 4) (s : State) (t : State)
    (h : execLinkShutdownComplete link s = .next t) : t.pending = s.pending ∧ t.ctl.mode = s.ctl.mode ∧ t.mem = s.mem ∧ t.nand.flash = s.nand.flash := by
  unfold execLinkShutdownComplete at h; cases h; simp

@[simp] theorem State.laneFault_frame (s : State) (i lane : Nat) (l0p : Bool) :
    (State.laneFault s i lane l0p).pending = s.pending ∧ (State.laneFault s i lane l0p).ctl.mode = s.ctl.mode ∧ (State.laneFault s i lane l0p).mem = s.mem ∧ (State.laneFault s i lane l0p).nand.flash = s.nand.flash := by
  simp [State.laneFault]

theorem execLaneFault_frame (link : Fin 4) (lane errors : Nat) (lockLost partnerL0p : Bool) (s : State) (t : State)
    (h : execLaneFault link lane errors lockLost partnerL0p s = .next t) : t.pending = s.pending ∧ t.ctl.mode = s.ctl.mode ∧ t.mem = s.mem ∧ t.nand.flash = s.nand.flash := by
  unfold execLaneFault at h; cases h; simp

theorem execMsixModerationExpire_frame (link : Fin 4) (vector : Nat) (s : State) (t : State)
    (h : execMsixModerationExpire link vector s = .next t) : t.pending = s.pending ∧ t.ctl.mode = s.ctl.mode ∧ t.mem = s.mem ∧ t.nand.flash = s.nand.flash := by
  unfold execMsixModerationExpire at h; cases h; simp

@[simp] theorem State.hdmCommit_frame (s : State) (i d base size ways gran : Nat) :
    (State.hdmCommit s i d base size ways gran).pending = s.pending ∧ (State.hdmCommit s i d base size ways gran).ctl.mode = s.ctl.mode ∧ (State.hdmCommit s i d base size ways gran).mem = s.mem ∧ (State.hdmCommit s i d base size ways gran).nand.flash = s.nand.flash := by
  simp [State.hdmCommit]

theorem execHdmDecoderCommit_frame (link decoder : Fin 4) (dpaBase size ways granularity : Nat) (s : State) (t : State)
    (h : execHdmDecoderCommit link decoder dpaBase size ways granularity s = .next t) : t.pending = s.pending ∧ t.ctl.mode = s.ctl.mode ∧ t.mem = s.mem ∧ t.nand.flash = s.nand.flash := by
  unfold execHdmDecoderCommit at h; cases h; simp

theorem execMsixVectorUnmask_frame (link : Fin 4) (vector : Option Nat) (s : State) (t : State)
    (h : execMsixVectorUnmask link vector s = .next t) : t.pending = s.pending ∧ t.ctl.mode = s.ctl.mode ∧ t.mem = s.mem ∧ t.nand.flash = s.nand.flash := by
  unfold execMsixVectorUnmask at h; cases h; (try dsimp only); refine ⟨?_, ?_, ?_, ?_⟩ <;> (repeat' split) <;> simp

theorem execL0pHostRequest_frame (link : Fin 4) (width : Nat) (s : State) (t : State)
    (h : execL0pHostRequest link width s = .next t) : t.pending = s.pending ∧ t.ctl.mode = s.ctl.mode ∧ t.mem = s.mem ∧ t.nand.flash = s.nand.flash := by
  unfold execL0pHostRequest at h; cases h; simp

theorem execDoeCdatAccess_frame (link : Fin 4) (table : Bool) (s : State) (t : State)
    (h : execDoeCdatAccess link table s = .next t) : t.pending = s.pending ∧ t.ctl.mode = s.ctl.mode ∧ t.mem = s.mem ∧ t.nand.flash = s.nand.flash := by
  unfold execDoeCdatAccess at h; cases h; simp

theorem execLaneMargining_frame (link : Fin 4) (lane : Nat) (voltage : Bool) (step : Int) (s : State) (t : State)
    (h : execLaneMargining link lane voltage step s = .next t) : t.pending = s.pending ∧ t.ctl.mode = s.ctl.mode ∧ t.mem = s.mem ∧ t.nand.flash = s.nand.flash := by
  unfold execLaneMargining at h; cases h; simp

end Sys2Proof.Machine
end

