-- ==== Sys2Proof/Laws/Sleep.lean ====
section
/-! SUPPORT. What the operations and commands of Machine/Sleep.lean keep: the queue, and the mode, the bytes of DRAM and of
flash, or the canonical form of those bytes. -/

namespace Sys2Proof.Machine

@[simp] theorem State.ioArrives_frame (s : State) (i : Nat) :
    (State.ioArrives s i).pending = s.pending ∧ (State.ioArrives s i).ctl.mode = s.ctl.mode ∧ (State.ioArrives s i).mem = s.mem ∧ (State.ioArrives s i).nand.flash = s.nand.flash := by
  simp [State.ioArrives]

@[simp] theorem State.fireAll_frame (s : State) (now : BitVec 5) :
    (State.fireAll s now).pending = s.pending ∧ (State.fireAll s now).ctl.mode = s.ctl.mode ∧ (State.fireAll s now).mem = s.mem ∧ (State.fireAll s now).nand.flash = s.nand.flash := by
  simp [State.fireAll]

@[simp] theorem State.prepareSleep_frame (s : State) (i : Nat) (wakeNow : BitVec 5) (memNow saveNow : Bool) :
    (State.prepareSleep s i wakeNow memNow saveNow).pending = s.pending ∧ (State.prepareSleep s i wakeNow memNow saveNow).ctl.mode = s.ctl.mode ∧ (State.prepareSleep s i wakeNow memNow saveNow).mem = s.mem ∧ (State.prepareSleep s i wakeNow memNow saveNow).nand.flash = s.nand.flash := by
  simp [State.prepareSleep]

theorem execPrepareSleep_frame (link : Fin 4) (wakeNow : BitVec 5) (memNow saveNow : Bool) (s : State) (t : State)
    (h : execPrepareSleep link wakeNow memNow saveNow s = .next t) : t.pending = s.pending ∧ t.ctl.mode = s.ctl.mode ∧ t.mem = s.mem ∧ t.nand.flash = s.nand.flash := by
  unfold execPrepareSleep at h; cases h; simp

@[simp] theorem State.enterDrowse_frame (s : State) :
    (State.enterDrowse s).pending = s.pending ∧ (State.enterDrowse s).mem = s.mem ∧ (State.enterDrowse s).nand.flash = s.nand.flash := by
  exact ⟨rfl, rfl, rfl⟩

theorem execDrowseEntry_frame (wakeNow : BitVec 5) (s : State) (t : State)
    (h : execDrowseEntry wakeNow s = .next t) : t.pending = s.pending ∧ t.mem = s.mem ∧ t.nand.flash = s.nand.flash := by
  unfold execDrowseEntry at h; cases h; simp

theorem execWakeTimerFire_frame (s : State) (t : State)
    (h : execWakeTimerFire s = .next t) : t.pending = s.pending ∧ t.ctl.mode = s.ctl.mode ∧ t.mem = s.mem ∧ t.nand.flash = s.nand.flash := by
  unfold execWakeTimerFire at h; cases h; simp

theorem execStoreAlarmRise_frame (s : State) (t : State)
    (h : execStoreAlarmRise s = .next t) : t.pending = s.pending ∧ t.ctl.mode = s.ctl.mode ∧ t.mem = s.mem ∧ t.nand.flash = s.nand.flash := by
  unfold execStoreAlarmRise at h; cases h; simp

theorem execSvcFrameStart_frame (s : State) (t : State)
    (h : execSvcFrameStart s = .next t) : t.pending = s.pending ∧ t.ctl.mode = s.ctl.mode ∧ t.mem = s.mem ∧ t.nand.flash = s.nand.flash := by
  unfold execSvcFrameStart at h; cases h; simp

theorem execWake_frame (source : Fin 5) (link : Option (Fin 4)) (s : State) (t : State)
    (h : execWake source link s = .next t) : t.pending = s.pending ∧ t.ctl.mode = s.ctl.mode ∧ t.mem = s.mem ∧ t.nand.flash = s.nand.flash := by
  unfold execWake at h; cases h; simp

end Sys2Proof.Machine
end

