-- ==== Sys2Proof/Laws/Nand.lean ====
section
/-! SUPPORT. What the operations and commands of Machine/Nand.lean keep: the queue, and the mode, the bytes of DRAM and of
flash, or the canonical form of those bytes. -/

namespace Sys2Proof.Machine

@[simp] theorem State.setSegment_frame (s : State) (n : Nat) (g : Segment) :
    (State.setSegment s n g).pending = s.pending ∧ (State.setSegment s n g).ctl.mode = s.ctl.mode ∧ (State.setSegment s n g).mem = s.mem ∧ (State.setSegment s n g).nand.flash = s.nand.flash := by
  exact ⟨rfl, rfl, rfl, rfl⟩

@[simp] theorem State.setUnits_frame (s : State) (ks : List Nat) (state : Nat) :
    (State.setUnits s ks state).pending = s.pending ∧ (State.setUnits s ks state).ctl.mode = s.ctl.mode ∧ (State.setUnits s ks state).mem = s.mem ∧ (State.setUnits s ks state).nand.flash = s.nand.flash := by
  exact ⟨rfl, rfl, rfl, rfl⟩

theorem State.newSegment_frame {s t : State} {lun n : Nat} (h : s.newSegment lun = some (t, n)) :
    t.pending = s.pending ∧ t.ctl.mode = s.ctl.mode ∧ t.mem = s.mem ∧ t.nand.flash = s.nand.flash := by
  unfold State.newSegment at h
  split at h
  · cases h
  · cases h; simp

@[simp] theorem State.openSegment_frame (s : State) (lun : Nat) :
    (State.openSegment s lun).pending = s.pending ∧ (State.openSegment s lun).ctl.mode = s.ctl.mode
      ∧ (State.openSegment s lun).mem = s.mem ∧ (State.openSegment s lun).nand.flash = s.nand.flash := by
  unfold State.openSegment
  split
  · exact ⟨rfl, rfl, rfl, rfl⟩
  · rename_i h; have hf := State.newSegment_frame h; exact hf

@[simp] theorem State.fillSegment_frame (s : State) (n : Nat) :
    (State.fillSegment s n).pending = s.pending ∧ (State.fillSegment s n).ctl.mode = s.ctl.mode ∧ (State.fillSegment s n).mem = s.mem ∧ (State.fillSegment s n).nand.flash = s.nand.flash := by
  exact ⟨rfl, rfl, rfl, rfl⟩

@[simp] theorem State.closeSegment_frame (s : State) (lun : Nat) :
    (State.closeSegment s lun).pending = s.pending ∧ (State.closeSegment s lun).ctl.mode = s.ctl.mode ∧ (State.closeSegment s lun).mem = s.mem ∧ (State.closeSegment s lun).nand.flash = s.nand.flash := by
  refine ⟨?_, ?_, ?_, ?_⟩ <;> (unfold State.closeSegment; (try dsimp only); repeat' split) <;> simp

@[simp] theorem State.openMetaSegment_frame (s : State) :
    (State.openMetaSegment s).pending = s.pending ∧ (State.openMetaSegment s).ctl.mode = s.ctl.mode
      ∧ (State.openMetaSegment s).mem = s.mem ∧ (State.openMetaSegment s).nand.flash = s.nand.flash := by
  unfold State.openMetaSegment
  split
  · exact ⟨rfl, rfl, rfl, rfl⟩
  · split
    · exact ⟨rfl, rfl, rfl, rfl⟩
    · rename_i h; have hf := State.newSegment_frame h; exact hf

@[simp] theorem State.openMissing_frame (s : State) (lun : Nat) :
    (State.openMissing s lun).pending = s.pending ∧ (State.openMissing s lun).ctl.mode = s.ctl.mode ∧ (State.openMissing s lun).mem = s.mem ∧ (State.openMissing s lun).nand.flash = s.nand.flash := by
  simp [State.openMissing]

@[simp] theorem State.openAll_frame (s : State) :
    (State.openAll s).pending = s.pending ∧ (State.openAll s).ctl.mode = s.ctl.mode ∧ (State.openAll s).mem = s.mem ∧ (State.openAll s).nand.flash = s.nand.flash := by
  simp [State.openAll]

@[simp] theorem State.countValid_frame (s : State) (seg : Nat) (up : Bool) :
    (State.countValid s seg up).pending = s.pending ∧ (State.countValid s seg up).ctl.mode = s.ctl.mode ∧ (State.countValid s seg up).mem = s.mem ∧ (State.countValid s seg up).nand.flash = s.nand.flash := by
  refine ⟨?_, ?_, ?_, ?_⟩ <;> (unfold State.countValid; (try dsimp only); repeat' split) <;> simp

@[simp] theorem State.encrypt_wf (s : State) (tweak : Nat) (p : List Host.Cell) : Mem.wf (s.encrypt tweak p).plain = true :=
  Mem.wf_canon p

@[simp] theorem State.writeRoot_frame (s : State) (c : Option Checkpoint) (fromRow : Nat) (sealAt : Option (Nat × Nat)) :
    (State.writeRoot s c fromRow sealAt).pending = s.pending ∧ (State.writeRoot s c fromRow sealAt).ctl.mode = s.ctl.mode ∧ (State.writeRoot s c fromRow sealAt).mem = s.mem ∧ (State.writeRoot s c fromRow sealAt).nand.flash = s.nand.flash := by
  exact ⟨rfl, rfl, rfl, rfl⟩

@[simp] theorem State.writeMap_frame (s : State) (leaf : Nat) :
    (State.writeMap s leaf).pending = s.pending ∧ (State.writeMap s leaf).ctl.mode = s.ctl.mode ∧ (State.writeMap s leaf).mem = s.mem ∧ (State.writeMap s leaf).nand.flash = s.nand.flash := by
  exact ⟨rfl, rfl, rfl, rfl⟩

@[simp] theorem State.mapLeaf_frame (s : State) (leaf : Nat) (c : Copy) :
    (State.mapLeaf s leaf c).pending = s.pending ∧ (State.mapLeaf s leaf c).ctl.mode = s.ctl.mode ∧ (State.mapLeaf s leaf c).mem = s.mem ∧ (State.mapLeaf s leaf c).nand.flash = s.nand.flash := by
  refine ⟨?_, ?_, ?_, ?_⟩ <;> (unfold State.mapLeaf; (try dsimp only); repeat' split) <;> simp

@[simp] theorem State.unmapLeaf_frame (s : State) (leaf : Nat) :
    (State.unmapLeaf s leaf).pending = s.pending ∧ (State.unmapLeaf s leaf).ctl.mode = s.ctl.mode ∧ (State.unmapLeaf s leaf).mem = s.mem ∧ (State.unmapLeaf s leaf).nand.flash = s.nand.flash := by
  refine ⟨?_, ?_, ?_, ?_⟩ <;> (unfold State.unmapLeaf; (try dsimp only); repeat' split) <;> simp

@[simp] theorem State.takeMap_frame (s : State) (m : Map Copy) :
    (State.takeMap s m).pending = s.pending ∧ (State.takeMap s m).ctl.mode = s.ctl.mode ∧ (State.takeMap s m).mem = s.mem ∧ (State.takeMap s m).nand.flash = s.nand.flash := by
  exact ⟨rfl, rfl, rfl, rfl⟩

@[simp] theorem State.restoreBegins_frame (s : State) :
    (State.restoreBegins s).pending = s.pending ∧ (State.restoreBegins s).ctl.mode = s.ctl.mode ∧ (State.restoreBegins s).mem = s.mem ∧ (State.restoreBegins s).nand.flash = s.nand.flash := by
  exact ⟨rfl, rfl, rfl, rfl⟩

@[simp] theorem State.restoreTime_frame (s : State) :
    (State.restoreTime s).pending = s.pending ∧ (State.restoreTime s).ctl.mode = s.ctl.mode ∧ (State.restoreTime s).mem = s.mem ∧ (State.restoreTime s).nand.flash = s.nand.flash := by
  simp [State.restoreTime]

@[simp] theorem State.chargeWear_frame (s : State) (n : Nat) :
    (State.chargeWear s n).pending = s.pending ∧ (State.chargeWear s n).ctl.mode = s.ctl.mode ∧ (State.chargeWear s n).mem = s.mem ∧ (State.chargeWear s n).nand.flash = s.nand.flash := by
  exact ⟨rfl, rfl, rfl, rfl⟩

@[simp] theorem State.programRow_frame (s : State) :
    (State.programRow s).pending = s.pending ∧ (State.programRow s).ctl.mode = s.ctl.mode ∧ (State.programRow s).mem = s.mem ∧ (State.programRow s).nand.flash = s.nand.flash := by
  refine ⟨?_, ?_, ?_, ?_⟩ <;> (unfold State.programRow; (try dsimp only); repeat' split) <;> simp [-List.foldl_reverse]

@[simp] theorem State.metaRows_frame (fuel left : Nat) (s : State) :
    ((State.metaRows fuel left s).1).pending = s.pending ∧ ((State.metaRows fuel left s).1).ctl.mode = s.ctl.mode
      ∧ ((State.metaRows fuel left s).1).mem = s.mem ∧ ((State.metaRows fuel left s).1).nand.flash = s.nand.flash := by
  induction fuel generalizing left s with
  | zero => exact ⟨rfl, rfl, rfl, rfl⟩
  | succ n ih =>
    unfold State.metaRows
    split
    · exact ⟨rfl, rfl, rfl, rfl⟩
    · split
      · split
        · simp [ih]
        · exact ⟨rfl, rfl, rfl, rfl⟩
      · dsimp only
        refine ⟨?_, ?_, ?_, ?_⟩ <;> simp only [ih] <;> split <;> simp

@[simp] theorem State.writeMeta_frame (s : State) (n : Nat) :
    (State.writeMeta s n).1.pending = s.pending ∧ (State.writeMeta s n).1.ctl.mode = s.ctl.mode ∧ (State.writeMeta s n).1.mem = s.mem ∧ (State.writeMeta s n).1.nand.flash = s.nand.flash := by
  exact ⟨rfl, rfl, rfl, rfl⟩

@[simp] theorem State.programRows_frame (n : Nat) (s : State) :
    (State.programRows n s).pending = s.pending ∧ (State.programRows n s).ctl.mode = s.ctl.mode
      ∧ (State.programRows n s).mem = s.mem ∧ (State.programRows n s).nand.flash = s.nand.flash := by
  induction n generalizing s with
  | zero => exact ⟨rfl, rfl, rfl, rfl⟩
  | succ n ih => unfold State.programRows; split <;> simp [ih]

@[simp] theorem State.form_frame (s : State) (xs : List Stripe) :
    (State.form s xs).pending = s.pending ∧ (State.form s xs).ctl.mode = s.ctl.mode ∧ (State.form s xs).mem = s.mem ∧ (State.form s xs).nand.flash = s.nand.flash := by
  simp [State.form]

theorem execRowFillTimeout_frame (s : State) (t : State)
    (h : execRowFillTimeout s = .next t) : t.pending = s.pending ∧ t.ctl.mode = s.ctl.mode ∧ t.mem = s.mem ∧ t.nand.flash = s.nand.flash := by
  unfold execRowFillTimeout at h; cases h; simp

@[simp] theorem State.enterOverdraw_frame (s : State) :
    (State.enterOverdraw s).pending = s.pending ∧ (State.enterOverdraw s).ctl.mode = s.ctl.mode ∧ (State.enterOverdraw s).mem = s.mem ∧ (State.enterOverdraw s).nand.flash = s.nand.flash := by
  exact ⟨rfl, rfl, rfl, rfl⟩

@[simp] theorem State.relocate_frame (n : Nat) (s : State) :
    (State.relocate n s).pending = s.pending ∧ (State.relocate n s).ctl.mode = s.ctl.mode
      ∧ (State.relocate n s).mem = s.mem ∧ (State.relocate n s).nand.flash = s.nand.flash := by
  induction n generalizing s with
  | zero => exact ⟨rfl, rfl, rfl, rfl⟩
  | succ n ih =>
    unfold State.relocate
    split
    · exact ⟨rfl, rfl, rfl, rfl⟩
    · split
      · exact ⟨rfl, rfl, rfl, rfl⟩
      · dsimp only
        split
        · split <;> simp
        · simp [ih]
        · simp [ih]

@[simp] theorem State.relocateNow_frame (s : State) :
    (State.relocateNow s).pending = s.pending ∧ (State.relocateNow s).ctl.mode = s.ctl.mode ∧ (State.relocateNow s).mem = s.mem ∧ (State.relocateNow s).nand.flash = s.nand.flash := by
  simp [State.relocateNow]

@[simp] theorem State.scheduleRelocation_frame (s : State) (xs : List Stripe) :
    (State.scheduleRelocation s xs).pending = s.pending ∧ (State.scheduleRelocation s xs).ctl.mode = s.ctl.mode ∧ (State.scheduleRelocation s xs).mem = s.mem ∧ (State.scheduleRelocation s xs).nand.flash = s.nand.flash := by
  refine ⟨?_, ?_, ?_, ?_⟩ <;> (unfold State.scheduleRelocation; (try dsimp only); repeat' split) <;> simp [-List.foldl_reverse]

@[simp] theorem State.renewOpen_frame (r : Nat × Nat) (s : State) (lun : Nat) :
    (State.renewOpen r s lun).pending = s.pending ∧ (State.renewOpen r s lun).ctl.mode = s.ctl.mode ∧ (State.renewOpen r s lun).mem = s.mem ∧ (State.renewOpen r s lun).nand.flash = s.nand.flash := by
  refine ⟨?_, ?_, ?_, ?_⟩ <;> (unfold State.renewOpen; (try dsimp only); repeat' split) <;> simp

@[simp] theorem State.startRebuildOf_frame (s : State) (what : Nat) :
    (State.startRebuildOf s what).pending = s.pending ∧ (State.startRebuildOf s what).ctl.mode = s.ctl.mode ∧ (State.startRebuildOf s what).mem = s.mem ∧ (State.startRebuildOf s what).nand.flash = s.nand.flash := by
  simp [State.startRebuildOf]

@[simp] theorem State.nandChannelFailed_frame (s : State) (c : Nat) :
    (State.nandChannelFailed s c).pending = s.pending ∧ (State.nandChannelFailed s c).ctl.mode = s.ctl.mode ∧ (State.nandChannelFailed s c).mem = s.mem ∧ (State.nandChannelFailed s c).nand.flash = s.nand.flash := by
  simp [State.nandChannelFailed]

@[simp] theorem State.markLun_frame (s : State) (c l : Nat) :
    (State.markLun s c l).pending = s.pending ∧ (State.markLun s c l).ctl.mode = s.ctl.mode ∧ (State.markLun s c l).mem = s.mem ∧ (State.markLun s c l).nand.flash = s.nand.flash := by
  exact ⟨rfl, rfl, rfl, rfl⟩

@[simp] theorem State.lunFailed_frame (s : State) (c l : Nat) :
    (State.lunFailed s c l).pending = s.pending ∧ (State.lunFailed s c l).ctl.mode = s.ctl.mode ∧ (State.lunFailed s c l).mem = s.mem ∧ (State.lunFailed s c l).nand.flash = s.nand.flash := by
  simp [State.lunFailed]

@[simp] theorem State.wearUpdate_frame (s : State) :
    (State.wearUpdate s).pending = s.pending ∧ (State.wearUpdate s).ctl.mode = s.ctl.mode ∧ (State.wearUpdate s).mem = s.mem ∧ (State.wearUpdate s).nand.flash = s.nand.flash := by
  exact ⟨rfl, rfl, rfl, rfl⟩

@[simp] theorem State.retireKey_frame (s : State) (k lun : Nat) :
    (State.retireKey s k lun).pending = s.pending ∧ (State.retireKey s k lun).ctl.mode = s.ctl.mode ∧ (State.retireKey s k lun).mem = s.mem ∧ (State.retireKey s k lun).nand.flash = s.nand.flash := by
  simp [State.retireKey]

@[simp] theorem State.retireUnit_frame (s : State) (seg chan : Nat) :
    (State.retireUnit s seg chan).pending = s.pending ∧ (State.retireUnit s seg chan).ctl.mode = s.ctl.mode ∧ (State.retireUnit s seg chan).mem = s.mem ∧ (State.retireUnit s seg chan).nand.flash = s.nand.flash := by
  refine ⟨?_, ?_, ?_, ?_⟩ <;> (unfold State.retireUnit; (try dsimp only); repeat' split) <;> simp

@[simp] theorem State.leaveSegment_frame (s : State) (seg : Nat) :
    (State.leaveSegment s seg).pending = s.pending ∧ (State.leaveSegment s seg).ctl.mode = s.ctl.mode ∧ (State.leaveSegment s seg).mem = s.mem ∧ (State.leaveSegment s seg).nand.flash = s.nand.flash := by
  simp [State.leaveSegment]

@[simp] theorem State.retireEmptied_frame (s : State) :
    (State.retireEmptied s).pending = s.pending ∧ (State.retireEmptied s).ctl.mode = s.ctl.mode ∧ (State.retireEmptied s).mem = s.mem ∧ (State.retireEmptied s).nand.flash = s.nand.flash := by
  simp [State.retireEmptied]

@[simp] theorem State.scheduleRetire_frame (s : State) (seg chan : Nat) :
    (State.scheduleRetire s seg chan).pending = s.pending ∧ (State.scheduleRetire s seg chan).ctl.mode = s.ctl.mode ∧ (State.scheduleRetire s seg chan).mem = s.mem ∧ (State.scheduleRetire s seg chan).nand.flash = s.nand.flash := by
  simp [State.scheduleRetire]

@[simp] theorem State.countReads_frame (s : State) (seg : Nat) (r : StripeRead) :
    (State.countReads s seg r).pending = s.pending ∧ (State.countReads s seg r).ctl.mode = s.ctl.mode ∧ (State.countReads s seg r).mem = s.mem ∧ (State.countReads s seg r).nand.flash = s.nand.flash := by
  simp [State.countReads]

@[simp] theorem State.readStripe_frame (s : State) (leaf : Nat) (r : StripeRead) :
    (State.readStripe s leaf r).pending = s.pending ∧ (State.readStripe s leaf r).ctl.mode = s.ctl.mode ∧ (State.readStripe s leaf r).mem = s.mem ∧ (State.readStripe s leaf r).nand.flash = s.nand.flash := by
  refine ⟨?_, ?_, ?_, ?_⟩ <;> (unfold State.readStripe; (try dsimp only); repeat' split) <;> simp

@[simp] theorem State.storeCopy_frame (s : State) (id : Nat) (r : Row) (slot : Nat) (x : Stripe) :
    (State.storeCopy s id r slot x).pending = s.pending ∧ (State.storeCopy s id r slot x).ctl.mode = s.ctl.mode ∧
    (State.storeCopy s id r slot x).mem = s.mem := by
  simp [State.storeCopy]

@[simp] theorem State.storeCopy_wf_flash (s : State) (id : Nat) (r : Row) (slot : Nat) (x : Stripe)
    (h : Flash.wf s.nand.flash = true) : Flash.wf (State.storeCopy s id r slot x).nand.flash = true := by
  unfold State.storeCopy
  exact Flash.wf_put _ _ _ (State.encrypt_wf _ _ _) (by simp [h])

@[simp] theorem State.moveCopy_frame (s : State) (id : Nat) (r : Row) (slot : Nat) (x : Stripe) (c : Copy) :
    (State.moveCopy s id r slot x c).pending = s.pending ∧ (State.moveCopy s id r slot x c).ctl.mode = s.ctl.mode ∧
    (State.moveCopy s id r slot x c).mem = s.mem := by
  unfold State.moveCopy; dsimp only; split <;> simp

@[simp] theorem State.moveCopy_wf_flash (s : State) (id : Nat) (r : Row) (slot : Nat) (x : Stripe) (c : Copy)
    (h : Flash.wf s.nand.flash = true) : Flash.wf (State.moveCopy s id r slot x c).nand.flash = true := by
  unfold State.moveCopy
  dsimp only
  split
  · rename_i y hy
    exact Flash.wf_put _ _ _ (Flash.wf_find _ _ y h hy) (by simp [h])
  · simp [h]

@[simp] theorem State.creditStripe_frame (id : Nat) (r : Row) (s : State) (p : Nat × Stripe) :
    (State.creditStripe id r s p).pending = s.pending ∧ (State.creditStripe id r s p).ctl.mode = s.ctl.mode ∧
    (State.creditStripe id r s p).mem = s.mem := by
  refine ⟨?_, ?_, ?_⟩ <;> (unfold State.creditStripe; (try dsimp only); repeat' split) <;> simp

@[simp] theorem State.creditStripe_wf_flash (id : Nat) (r : Row) (s : State) (p : Nat × Stripe) (h : Flash.wf s.nand.flash = true) :
    Flash.wf (State.creditStripe id r s p).nand.flash = true := by
  unfold State.creditStripe
  dsimp only
  split
  · have h1 := State.storeCopy_wf_flash s id r p.1 (s.withPoison p.2) h
    split <;> simp [h1]
  · repeat' split
    all_goals simp [h]
  · exact h
  · split
    · have h1 := State.storeCopy_wf_flash { s with nand := { s.nand with sinceCheckpoint := s.nand.sinceCheckpoint + 1 } } id r p.1
        (s.withPoison p.2) h
      simp [h1]
    · simp [h]

@[simp] theorem State.loadPage_frame (s : State) (u : Nat) :
    (State.loadPage s u).pending = s.pending ∧ (State.loadPage s u).ctl.mode = s.ctl.mode ∧ (State.loadPage s u).mem = s.mem ∧ (State.loadPage s u).nand.flash = s.nand.flash := by
  simp [State.loadPage]

@[simp] theorem State.loadPages_frame (s : State) :
    (State.loadPages s).pending = s.pending ∧ (State.loadPages s).ctl.mode = s.ctl.mode ∧ (State.loadPages s).mem = s.mem ∧ (State.loadPages s).nand.flash = s.nand.flash := by
  simp [State.loadPages]

@[simp] theorem State.failStripe_frame (s : State) (x : Stripe) :
    (State.failStripe s x).pending = s.pending ∧ (State.failStripe s x).ctl.mode = s.ctl.mode ∧ (State.failStripe s x).mem = s.mem ∧ (State.failStripe s x).nand.flash = s.nand.flash := by
  refine ⟨?_, ?_, ?_, ?_⟩ <;> (unfold State.failStripe; (try dsimp only); repeat' split) <;> simp

@[simp] theorem State.rowShort_frame (s : State) (id : Nat) (r : Row) :
    (State.rowShort s id r).pending = s.pending ∧ (State.rowShort s id r).ctl.mode = s.ctl.mode ∧ (State.rowShort s id r).mem = s.mem := by
  simp [State.rowShort]

@[simp] theorem State.rowShort_wf_flash (s : State) (id : Nat) (r : Row) (h : Flash.wf s.nand.flash = true) :
    Flash.wf (State.rowShort s id r).nand.flash = true := by
  unfold State.rowShort; (try dsimp only); repeat' split
  all_goals simp_all (maxDischargeDepth := 40)

@[simp] theorem State.rowProgrammed_frame (s : State) (id : Nat) (r : Row) :
    (State.rowProgrammed s id r).pending = s.pending ∧ (State.rowProgrammed s id r).ctl.mode = s.ctl.mode ∧ (State.rowProgrammed s id r).mem = s.mem := by
  simp [State.rowProgrammed]

@[simp] theorem State.rowProgrammed_wf_flash (s : State) (id : Nat) (r : Row) (h : Flash.wf s.nand.flash = true) :
    Flash.wf (State.rowProgrammed s id r).nand.flash = true := by
  unfold State.rowProgrammed; (try dsimp only); repeat' split
  all_goals simp_all (maxDischargeDepth := 40)

theorem execRowProgramComplete_frame (row : Nat) (s : State) (t : State)
    (h : execRowProgramComplete row s = .next t) : t.pending = s.pending ∧ t.ctl.mode = s.ctl.mode ∧ t.mem = s.mem := by
  unfold execRowProgramComplete at h; cases h; (try dsimp only); refine ⟨?_, ?_, ?_⟩ <;> (repeat' split) <;> simp

theorem execRowProgramComplete_wf_flash (row : Nat) (s : State) (t : State)
    (h : execRowProgramComplete row s = .next t) (hm : Flash.wf s.nand.flash = true) : Flash.wf t.nand.flash = true := by
  unfold execRowProgramComplete at h; cases h; (try dsimp only); repeat' split
  all_goals simp (maxDischargeDepth := 40) [hm]

@[simp] theorem State.programFail_frame (s : State) (id : Nat) (r : Row) (slot shards chan : Nat) (x : Stripe) :
    (State.programFail s id r slot shards chan x).pending = s.pending ∧ (State.programFail s id r slot shards chan x).ctl.mode = s.ctl.mode ∧ (State.programFail s id r slot shards chan x).mem = s.mem ∧ (State.programFail s id r slot shards chan x).nand.flash = s.nand.flash := by
  simp [State.programFail]

theorem execNandProgramFail_frame (row slot shards : Nat) (chan : Fin 18) (s : State) (t : State)
    (h : execNandProgramFail row slot shards chan s = .next t) : t.pending = s.pending ∧ t.ctl.mode = s.ctl.mode ∧ t.mem = s.mem ∧ t.nand.flash = s.nand.flash := by
  unfold execNandProgramFail at h; cases h; (try dsimp only); refine ⟨?_, ?_, ?_, ?_⟩ <;> (repeat' split) <;> simp

@[simp] theorem State.gcStart_frame (s : State) (v : Nat) (r : StripeRead) :
    (State.gcStart s v r).pending = s.pending ∧ (State.gcStart s v r).ctl.mode = s.ctl.mode ∧ (State.gcStart s v r).mem = s.mem ∧ (State.gcStart s v r).nand.flash = s.nand.flash := by
  refine ⟨?_, ?_, ?_, ?_⟩ <;> (unfold State.gcStart; (try dsimp only); repeat' split) <;> simp_all

theorem execGcStart_frame (s : State) (read : StripeRead := .good) (t : State)
    (h : execGcStart s read = .next t) : t.pending = s.pending ∧ t.ctl.mode = s.ctl.mode ∧ t.mem = s.mem ∧ t.nand.flash = s.nand.flash := by
  unfold execGcStart at h; cases h; (try dsimp only); refine ⟨?_, ?_, ?_, ?_⟩ <;> (repeat' split) <;> simp

@[simp] theorem State.eraseKey_frame (lun : Nat) (s : State) (k : Nat) :
    (State.eraseKey lun s k).pending = s.pending ∧ (State.eraseKey lun s k).ctl.mode = s.ctl.mode ∧ (State.eraseKey lun s k).mem = s.mem ∧ (State.eraseKey lun s k).nand.flash = s.nand.flash := by
  simp [State.eraseKey]

@[simp] theorem State.eraseSegment_frame (s : State) (v : Nat) :
    (State.eraseSegment s v).pending = s.pending ∧ (State.eraseSegment s v).ctl.mode = s.ctl.mode ∧
    (State.eraseSegment s v).mem = s.mem := by
  simp [State.eraseSegment]

@[simp] theorem State.eraseSegment_wf_flash (s : State) (v : Nat) (h : Flash.wf s.nand.flash = true) :
    Flash.wf (State.eraseSegment s v).nand.flash = true := by
  unfold State.eraseSegment
  simp only [State.wearUpdate_frame]
  exact Flash.wf_filter _ _ (by simp [h])

@[simp] theorem State.eraseVictim_frame (s : State) (v : Nat) :
    (State.eraseVictim s v).pending = s.pending ∧ (State.eraseVictim s v).ctl.mode = s.ctl.mode ∧ (State.eraseVictim s v).mem = s.mem := by
  simp [State.eraseVictim]

@[simp] theorem State.eraseVictim_wf_flash (s : State) (v : Nat) (h : Flash.wf s.nand.flash = true) :
    Flash.wf (State.eraseVictim s v).nand.flash = true := by
  simp (maxDischargeDepth := 40) [State.eraseVictim, h]

theorem execGcVictimErased_frame (segment : Nat) (s : State) (t : State)
    (h : execGcVictimErased segment s = .next t) : t.pending = s.pending ∧ t.ctl.mode = s.ctl.mode ∧ t.mem = s.mem := by
  unfold execGcVictimErased at h; cases h; simp

theorem execGcVictimErased_wf_flash (segment : Nat) (s : State) (t : State)
    (h : execGcVictimErased segment s = .next t) (hm : Flash.wf s.nand.flash = true) : Flash.wf t.nand.flash = true := by
  unfold execGcVictimErased at h; cases h; (try dsimp only); repeat' split
  all_goals simp (maxDischargeDepth := 40) [hm]

@[simp] theorem State.checkpointStart_frame (s : State) :
    (State.checkpointStart s).pending = s.pending ∧ (State.checkpointStart s).ctl.mode = s.ctl.mode ∧ (State.checkpointStart s).mem = s.mem ∧ (State.checkpointStart s).nand.flash = s.nand.flash := by
  exact ⟨rfl, rfl, rfl, rfl⟩

theorem execCheckpointStart_frame (s : State) (t : State)
    (h : execCheckpointStart s = .next t) : t.pending = s.pending ∧ t.ctl.mode = s.ctl.mode ∧ t.mem = s.mem ∧ t.nand.flash = s.nand.flash := by
  unfold execCheckpointStart at h; cases h; simp

theorem execCheckpointComplete_frame (s : State) (t : State)
    (h : execCheckpointComplete s = .next t) : t.pending = s.pending ∧ t.ctl.mode = s.ctl.mode ∧ t.mem = s.mem ∧ t.nand.flash = s.nand.flash := by
  unfold execCheckpointComplete at h; cases h; (try dsimp only); refine ⟨?_, ?_, ?_, ?_⟩ <;> (repeat' split) <;> simp

theorem execNandLunFailed_frame (chan : Fin 18) (lun : Nat) (s : State) (t : State)
    (h : execNandLunFailed chan lun s = .next t) : t.pending = s.pending ∧ t.ctl.mode = s.ctl.mode ∧ t.mem = s.mem ∧ t.nand.flash = s.nand.flash := by
  unfold execNandLunFailed at h; cases h; simp

theorem execNandRebuildDone_frame (s : State) (t : State)
    (h : execNandRebuildDone s = .next t) : t.pending = s.pending ∧ t.ctl.mode = s.ctl.mode ∧ t.mem = s.mem ∧ t.nand.flash = s.nand.flash := by
  unfold execNandRebuildDone at h; cases h; (try dsimp only); refine ⟨?_, ?_, ?_, ?_⟩ <;> (repeat' split) <;> simp

theorem execNandChannelFailed_frame (chan : Fin 18) (s : State) (t : State)
    (h : execNandChannelFailed chan s = .next t) : t.pending = s.pending ∧ t.ctl.mode = s.ctl.mode ∧ t.mem = s.mem ∧ t.nand.flash = s.nand.flash := by
  unfold execNandChannelFailed at h; cases h; simp

@[simp] theorem State.clearStore_frame (s : State) :
    (State.clearStore s).pending = s.pending ∧ (State.clearStore s).ctl.mode = s.ctl.mode
      ∧ (State.clearStore s).mem = s.mem ∧ (State.clearStore s).nand.flash = s.nand.flash := by
  unfold State.clearStore
  simp only [State.openAll_frame, State.writeRoot_frame]
  have h := State.takeMap_frame s []
  simp_all [Nand.closeAll]

@[simp] theorem State.newKey_frame (s : State) :
    (State.newKey s).pending = s.pending ∧ (State.newKey s).ctl.mode = s.ctl.mode ∧ (State.newKey s).mem = s.mem ∧ (State.newKey s).nand.flash = s.nand.flash := by
  exact ⟨rfl, rfl, rfl, rfl⟩

@[simp] theorem State.resumeStore_frame (s : State) :
    (State.resumeStore s).pending = s.pending ∧ (State.resumeStore s).ctl.mode = s.ctl.mode ∧ (State.resumeStore s).mem = s.mem ∧ (State.resumeStore s).nand.flash = s.nand.flash := by
  simp [State.resumeStore]

end Sys2Proof.Machine
end

