-- ==== Sys2Proof/Laws/Trickle.lean ====
section
/-! SUPPORT. What the operations and commands of Machine/Trickle.lean keep: the queue, and the mode, the bytes of DRAM and of
flash, or the canonical form of those bytes. -/

namespace Sys2Proof.Machine

theorem execDeltaLazyWrite_frame (leaf : Nat) (s : State) (t : State)
    (h : execDeltaLazyWrite leaf s = .next t) : t.pending = s.pending ∧ t.ctl.mode = s.ctl.mode ∧ t.mem = s.mem ∧ t.nand.flash = s.nand.flash := by
  unfold execDeltaLazyWrite at h; cases h; (try dsimp only); refine ⟨?_, ?_, ?_, ?_⟩ <;> (repeat' split) <;> simp

@[simp] theorem State.snapshotBlock_frame (s : State) :
    (State.snapshotBlock s).pending = s.pending ∧ (State.snapshotBlock s).ctl.mode = s.ctl.mode ∧ (State.snapshotBlock s).mem = s.mem ∧ (State.snapshotBlock s).nand.flash = s.nand.flash := by
  exact ⟨rfl, rfl, rfl, rfl⟩

theorem execDeltaSnapshotStart_frame (s : State) (t : State)
    (h : execDeltaSnapshotStart s = .next t) : t.pending = s.pending ∧ t.ctl.mode = s.ctl.mode ∧ t.mem = s.mem ∧ t.nand.flash = s.nand.flash := by
  unfold execDeltaSnapshotStart at h; cases h; simp

@[simp] theorem State.snapshotNext_frame (s : State) :
    (State.snapshotNext s).pending = s.pending ∧ (State.snapshotNext s).ctl.mode = s.ctl.mode ∧ (State.snapshotNext s).mem = s.mem ∧ (State.snapshotNext s).nand.flash = s.nand.flash := by
  simp [State.snapshotNext]

theorem execDeltaSnapshotComplete_frame (s : State) (t : State)
    (h : execDeltaSnapshotComplete s = .next t) : t.pending = s.pending ∧ t.ctl.mode = s.ctl.mode ∧ t.mem = s.mem ∧ t.nand.flash = s.nand.flash := by
  unfold execDeltaSnapshotComplete at h; cases h; (try dsimp only); refine ⟨?_, ?_, ?_, ?_⟩ <;> (repeat' split) <;> simp

theorem execHeatDecay_frame (s : State) (t : State)
    (h : execHeatDecay s = .next t) : t.pending = s.pending ∧ t.ctl.mode = s.ctl.mode ∧ t.mem = s.mem ∧ t.nand.flash = s.nand.flash := by
  unfold execHeatDecay at h; cases h; simp

theorem execTrickleCandidateRebuild_frame (s : State) (t : State)
    (h : execTrickleCandidateRebuild s = .next t) : t.pending = s.pending ∧ t.ctl.mode = s.ctl.mode ∧ t.mem = s.mem ∧ t.nand.flash = s.nand.flash := by
  unfold execTrickleCandidateRebuild at h; cases h; exact ⟨rfl, rfl, rfl, rfl⟩

@[simp] theorem State.copyLeaf_frame (s : State) (leaf origin : Nat) :
    (State.copyLeaf s leaf origin).pending = s.pending ∧ (State.copyLeaf s leaf origin).ctl.mode = s.ctl.mode ∧ (State.copyLeaf s leaf origin).mem = s.mem ∧ (State.copyLeaf s leaf origin).nand.flash = s.nand.flash := by
  simp [State.copyLeaf]

@[simp] theorem State.trickleSelect_frame (s : State) :
    (State.trickleSelect s).pending = s.pending ∧ (State.trickleSelect s).ctl.mode = s.ctl.mode ∧ (State.trickleSelect s).nand.flash = s.nand.flash := by
  refine ⟨?_, ?_, ?_⟩ <;> (unfold State.trickleSelect; (try dsimp only); repeat' split) <;> simp

@[simp] theorem State.trickleSelect_wf_mem (s : State) (h : Mem.wf s.mem = true) :
    Mem.wf (State.trickleSelect s).mem = true := by
  unfold State.trickleSelect; (try dsimp only); repeat' split
  all_goals simp (maxDischargeDepth := 40) [h]

theorem execTrickleSelect_frame (s : State) (t : State)
    (h : execTrickleSelect s = .next t) : t.pending = s.pending ∧ t.ctl.mode = s.ctl.mode ∧ t.nand.flash = s.nand.flash := by
  unfold execTrickleSelect at h; cases h; simp

theorem execTrickleSelect_wf_mem (s : State) (t : State)
    (h : execTrickleSelect s = .next t) (hm : Mem.wf s.mem = true) : Mem.wf t.mem = true := by
  unfold execTrickleSelect at h; cases h; simp (maxDischargeDepth := 40) [hm]

@[simp] theorem State.wearRecompute_frame (s : State) :
    (State.wearRecompute s).pending = s.pending ∧ (State.wearRecompute s).ctl.mode = s.ctl.mode ∧ (State.wearRecompute s).mem = s.mem ∧ (State.wearRecompute s).nand.flash = s.nand.flash := by
  simp [State.wearRecompute]

theorem execWearRateRecompute_frame (s : State) (t : State)
    (h : execWearRateRecompute s = .next t) : t.pending = s.pending ∧ t.ctl.mode = s.ctl.mode ∧ t.mem = s.mem ∧ t.nand.flash = s.nand.flash := by
  unfold execWearRateRecompute at h; cases h; simp

@[simp] theorem State.leaveInput_frame (s : State) (st : Supply) (isolation : Bool) :
    (State.leaveInput s st isolation).pending = s.pending ∧ (State.leaveInput s st isolation).ctl.mode = s.ctl.mode ∧ (State.leaveInput s st isolation).nand.flash = s.nand.flash := by
  exact ⟨rfl, rfl, rfl⟩

@[simp] theorem State.leaveInput_wf_mem (s : State) (st : Supply) (isolation : Bool) (h : Mem.wf s.mem = true) :
    Mem.wf (State.leaveInput s st isolation).mem = true := by
  simp (maxDischargeDepth := 40) [State.leaveInput, h]

@[simp] theorem State.toInput_frame (s : State) :
    (State.toInput s).pending = s.pending ∧ (State.toInput s).ctl.mode = s.ctl.mode ∧ (State.toInput s).nand.flash = s.nand.flash := by
  exact ⟨rfl, rfl, rfl⟩

@[simp] theorem State.toInput_wf_mem (s : State) (h : Mem.wf s.mem = true) :
    Mem.wf (State.toInput s).mem = true := by
  simp (maxDischargeDepth := 40) [State.toInput, h]

@[simp] theorem State.rehearsalFallsDue_frame (s : State) :
    (State.rehearsalFallsDue s).pending = s.pending ∧ (State.rehearsalFallsDue s).ctl.mode = s.ctl.mode ∧ (State.rehearsalFallsDue s).mem = s.mem ∧ (State.rehearsalFallsDue s).nand.flash = s.nand.flash := by
  exact ⟨rfl, rfl, rfl, rfl⟩

theorem execRehearsalDue_frame (cause : DueCause) (s : State) (t : State)
    (h : execRehearsalDue cause s = .next t) : t.pending = s.pending ∧ t.ctl.mode = s.ctl.mode ∧ t.mem = s.mem ∧ t.nand.flash = s.nand.flash := by
  unfold execRehearsalDue at h; cases h; simp

theorem execRehearsalStart_frame (s : State) (t : State)
    (h : execRehearsalStart s = .next t) : t.pending = s.pending ∧ t.ctl.mode = s.ctl.mode ∧ t.nand.flash = s.nand.flash := by
  unfold execRehearsalStart at h; cases h; simp

theorem execRehearsalStart_wf_mem (s : State) (t : State)
    (h : execRehearsalStart s = .next t) (hm : Mem.wf s.mem = true) : Mem.wf t.mem = true := by
  unfold execRehearsalStart at h; cases h; (try dsimp only); repeat' split
  all_goals simp (maxDischargeDepth := 40) [hm]

theorem execRehearsalIdleEnd_frame (eIdleMj : Nat) (s : State) (t : State)
    (h : execRehearsalIdleEnd eIdleMj s = .next t) : t.pending = s.pending ∧ t.ctl.mode = s.ctl.mode ∧ t.mem = s.mem ∧ t.nand.flash = s.nand.flash := by
  unfold execRehearsalIdleEnd at h; cases h; simp

@[simp] theorem State.rehearsalEnd_frame (s : State) (eRunMj : Nat) :
    (State.rehearsalEnd s eRunMj).pending = s.pending ∧ (State.rehearsalEnd s eRunMj).ctl.mode = s.ctl.mode ∧ (State.rehearsalEnd s eRunMj).nand.flash = s.nand.flash := by
  simp [State.rehearsalEnd]

@[simp] theorem State.rehearsalEnd_wf_mem (s : State) (eRunMj : Nat) (h : Mem.wf s.mem = true) :
    Mem.wf (State.rehearsalEnd s eRunMj).mem = true := by
  simp (maxDischargeDepth := 40) [State.rehearsalEnd, h]

theorem execRehearsalRunEnd_frame (eRunMj : Nat) (s : State) (t : State)
    (h : execRehearsalRunEnd eRunMj s = .next t) : t.pending = s.pending ∧ t.ctl.mode = s.ctl.mode ∧ t.nand.flash = s.nand.flash := by
  unfold execRehearsalRunEnd at h; cases h; simp

theorem execRehearsalRunEnd_wf_mem (eRunMj : Nat) (s : State) (t : State)
    (h : execRehearsalRunEnd eRunMj s = .next t) (hm : Mem.wf s.mem = true) : Mem.wf t.mem = true := by
  unfold execRehearsalRunEnd at h; cases h; (try dsimp only); repeat' split
  all_goals simp (maxDischargeDepth := 40) [hm]

theorem execRehearsalOverdue_frame (s : State) (t : State)
    (h : execRehearsalOverdue s = .next t) : t.pending = s.pending ∧ t.ctl.mode = s.ctl.mode ∧ t.mem = s.mem ∧ t.nand.flash = s.nand.flash := by
  unfold execRehearsalOverdue at h; cases h; simp

@[simp] theorem State.dropRehearsal_frame (s : State) :
    (State.dropRehearsal s).pending = s.pending ∧ (State.dropRehearsal s).ctl.mode = s.ctl.mode ∧ (State.dropRehearsal s).mem = s.mem ∧ (State.dropRehearsal s).nand.flash = s.nand.flash := by
  exact ⟨rfl, rfl, rfl, rfl⟩

theorem execBusBelowHuBusMin_frame (mv : Nat) (s : State) (t : State)
    (h : execBusBelowHuBusMin mv s = .next t) : t.pending = s.pending ∧ t.ctl.mode = s.ctl.mode ∧ t.nand.flash = s.nand.flash := by
  unfold execBusBelowHuBusMin at h; cases h; simp

theorem execBusBelowHuBusMin_wf_mem (mv : Nat) (s : State) (t : State)
    (h : execBusBelowHuBusMin mv s = .next t) (hm : Mem.wf s.mem = true) : Mem.wf t.mem = true := by
  unfold execBusBelowHuBusMin at h; cases h; (try dsimp only); repeat' split
  all_goals simp (maxDischargeDepth := 40) [hm]

@[simp] theorem State.pausePeriod_frame (s : State) :
    (State.pausePeriod s).pending = s.pending ∧ (State.pausePeriod s).ctl.mode = s.ctl.mode ∧ (State.pausePeriod s).mem = s.mem ∧ (State.pausePeriod s).nand.flash = s.nand.flash := by
  simp [State.pausePeriod]

theorem execDrowseTricklePeriod_frame (start : Bool) (s : State) (t : State)
    (h : execDrowseTricklePeriod start s = .next t) : t.pending = s.pending ∧ t.ctl.mode = s.ctl.mode ∧ t.mem = s.mem ∧ t.nand.flash = s.nand.flash := by
  unfold execDrowseTricklePeriod at h; cases h; simp

end Sys2Proof.Machine
end

