-- ==== Sys2Proof/Laws/Groups.lean ====
section
/-! SUPPORT. What the operations and commands of Machine/Groups.lean keep: the queue, and the mode, the bytes of DRAM and of
flash, or the canonical form of those bytes. -/

namespace Sys2Proof.Machine

@[simp] theorem State.deskMailbox_frame (s : State) (opcode : Nat) (a : DeskArgs) :
    (State.deskMailbox s opcode a).pending = s.pending ∧ (State.deskMailbox s opcode a).ctl.mode = s.ctl.mode ∧ (State.deskMailbox s opcode a).nand.flash = s.nand.flash := by
  simp [State.deskMailbox]

@[simp] theorem State.deskMailbox_wf_mem (s : State) (opcode : Nat) (a : DeskArgs) (h : Mem.wf s.mem = true) :
    Mem.wf (State.deskMailbox s opcode a).mem = true := by
  unfold State.deskMailbox; (try dsimp only); repeat' split
  all_goals simp (maxDischargeDepth := 40) [h]

theorem execDeskOperandStage_frame (a : DeskArgs) (s : State) (t : State)
    (h : execDeskOperandStage a s = .next t) : t.pending = s.pending ∧ t.ctl.mode = s.ctl.mode ∧ t.nand.flash = s.nand.flash := by
  unfold execDeskOperandStage State.deskCommand at h; (try dsimp only at h); repeat' split at h
  all_goals (first | (cases h; done) | (cases h; simp; done) | (cases h; simp_all; done))

theorem execDeskOperandStage_wf_mem (a : DeskArgs) (s : State) (t : State)
    (h : execDeskOperandStage a s = .next t) (hm : Mem.wf s.mem = true) : Mem.wf t.mem = true := by
  unfold execDeskOperandStage State.deskCommand at h; (try dsimp only at h); repeat' split at h
  all_goals (first | (cases h; done) | (cases h; simp (maxDischargeDepth := 40) [hm]; done) | (cases h; simp_all (maxDischargeDepth := 40); done))

theorem execDeskPoisonedWrite_frame (link : Fin 4) (group : Nat) (s : State) (t : State)
    (h : execDeskPoisonedWrite link group s = .next t) : t.pending = s.pending ∧ t.ctl.mode = s.ctl.mode ∧ t.nand.flash = s.nand.flash := by
  unfold execDeskPoisonedWrite at h; (try dsimp only at h); repeat' split at h
  all_goals (first | (cases h; done) | (cases h; simp; done) | (cases h; simp_all; done))

theorem execDeskPoisonedWrite_wf_mem (link : Fin 4) (group : Nat) (s : State) (t : State)
    (h : execDeskPoisonedWrite link group s = .next t) (hm : Mem.wf s.mem = true) : Mem.wf t.mem = true := by
  unfold execDeskPoisonedWrite at h; (try dsimp only at h); repeat' split at h
  all_goals (first | (cases h; done) | (cases h; simp (maxDischargeDepth := 40) [hm]; done) | (cases h; simp_all (maxDischargeDepth := 40); done))

theorem execDeskNop_frame (a : DeskArgs) (s : State) (t : State)
    (h : execDeskNop a s = .next t) : t.pending = s.pending ∧ t.ctl.mode = s.ctl.mode ∧ t.nand.flash = s.nand.flash := by
  unfold execDeskNop State.deskCommand at h; (try dsimp only at h); repeat' split at h
  all_goals (first | (cases h; done) | (cases h; simp; done) | (cases h; simp_all; done))

theorem execDeskNop_wf_mem (a : DeskArgs) (s : State) (t : State)
    (h : execDeskNop a s = .next t) (hm : Mem.wf s.mem = true) : Mem.wf t.mem = true := by
  unfold execDeskNop State.deskCommand at h; (try dsimp only at h); repeat' split at h
  all_goals (first | (cases h; done) | (cases h; simp (maxDischargeDepth := 40) [hm]; done) | (cases h; simp_all (maxDischargeDepth := 40); done))

theorem execDeskInvalidOpcode_frame (opcode : BitVec 8) (a : DeskArgs) (s : State) (t : State)
    (h : execDeskInvalidOpcode opcode a s = .next t) : t.pending = s.pending ∧ t.ctl.mode = s.ctl.mode ∧ t.nand.flash = s.nand.flash := by
  unfold execDeskInvalidOpcode State.deskCommand at h; (try dsimp only at h); repeat' split at h
  all_goals (first | (cases h; done) | (cases h; simp; done) | (cases h; simp_all; done))

theorem execDeskInvalidOpcode_wf_mem (opcode : BitVec 8) (a : DeskArgs) (s : State) (t : State)
    (h : execDeskInvalidOpcode opcode a s = .next t) (hm : Mem.wf s.mem = true) : Mem.wf t.mem = true := by
  unfold execDeskInvalidOpcode State.deskCommand at h; (try dsimp only at h); repeat' split at h
  all_goals (first | (cases h; done) | (cases h; simp (maxDischargeDepth := 40) [hm]; done) | (cases h; simp_all (maxDischargeDepth := 40); done))

theorem execDeskOpen_frame (a : DeskArgs) (s : State) (t : State)
    (h : execDeskOpen a s = .next t) : t.pending = s.pending ∧ t.ctl.mode = s.ctl.mode ∧ t.nand.flash = s.nand.flash := by
  unfold execDeskOpen State.deskCommand at h; (try dsimp only at h); repeat' split at h
  all_goals (first | (cases h; done) | (cases h; simp; done) | (cases h; simp_all; done))

theorem execDeskOpen_wf_mem (a : DeskArgs) (s : State) (t : State)
    (h : execDeskOpen a s = .next t) (hm : Mem.wf s.mem = true) : Mem.wf t.mem = true := by
  unfold execDeskOpen State.deskCommand at h; (try dsimp only at h); repeat' split at h
  all_goals (first | (cases h; done) | (cases h; simp (maxDischargeDepth := 40) [hm]; done) | (cases h; simp_all (maxDischargeDepth := 40); done))

theorem execDeskClaim_frame (a : DeskArgs) (s : State) (t : State)
    (h : execDeskClaim a s = .next t) : t.pending = s.pending ∧ t.ctl.mode = s.ctl.mode ∧ t.nand.flash = s.nand.flash := by
  unfold execDeskClaim State.deskCommand at h; (try dsimp only at h); repeat' split at h
  all_goals (first | (cases h; done) | (cases h; simp; done) | (cases h; simp_all; done))

theorem execDeskClaim_wf_mem (a : DeskArgs) (s : State) (t : State)
    (h : execDeskClaim a s = .next t) (hm : Mem.wf s.mem = true) : Mem.wf t.mem = true := by
  unfold execDeskClaim State.deskCommand at h; (try dsimp only at h); repeat' split at h
  all_goals (first | (cases h; done) | (cases h; simp (maxDischargeDepth := 40) [hm]; done) | (cases h; simp_all (maxDischargeDepth := 40); done))

theorem execDeskRelease_frame (a : DeskArgs) (s : State) (t : State)
    (h : execDeskRelease a s = .next t) : t.pending = s.pending ∧ t.ctl.mode = s.ctl.mode ∧ t.nand.flash = s.nand.flash := by
  unfold execDeskRelease State.deskCommand at h; (try dsimp only at h); repeat' split at h
  all_goals (first | (cases h; done) | (cases h; simp; done) | (cases h; simp_all; done))

theorem execDeskRelease_wf_mem (a : DeskArgs) (s : State) (t : State)
    (h : execDeskRelease a s = .next t) (hm : Mem.wf s.mem = true) : Mem.wf t.mem = true := by
  unfold execDeskRelease State.deskCommand at h; (try dsimp only at h); repeat' split at h
  all_goals (first | (cases h; done) | (cases h; simp (maxDischargeDepth := 40) [hm]; done) | (cases h; simp_all (maxDischargeDepth := 40); done))

theorem execDeskCommit_frame (a : DeskArgs) (s : State) (t : State)
    (h : execDeskCommit a s = .next t) : t.pending = s.pending ∧ t.ctl.mode = s.ctl.mode ∧ t.nand.flash = s.nand.flash := by
  unfold execDeskCommit State.deskCommand at h; (try dsimp only at h); repeat' split at h
  all_goals (first | (cases h; done) | (cases h; simp; done) | (cases h; simp_all; done))

theorem execDeskCommit_wf_mem (a : DeskArgs) (s : State) (t : State)
    (h : execDeskCommit a s = .next t) (hm : Mem.wf s.mem = true) : Mem.wf t.mem = true := by
  unfold execDeskCommit State.deskCommand at h; (try dsimp only at h); repeat' split at h
  all_goals (first | (cases h; done) | (cases h; simp (maxDischargeDepth := 40) [hm]; done) | (cases h; simp_all (maxDischargeDepth := 40); done))

theorem execDeskAbort_frame (a : DeskArgs) (s : State) (t : State)
    (h : execDeskAbort a s = .next t) : t.pending = s.pending ∧ t.ctl.mode = s.ctl.mode ∧ t.nand.flash = s.nand.flash := by
  unfold execDeskAbort State.deskCommand at h; (try dsimp only at h); repeat' split at h
  all_goals (first | (cases h; done) | (cases h; simp; done) | (cases h; simp_all; done))

theorem execDeskAbort_wf_mem (a : DeskArgs) (s : State) (t : State)
    (h : execDeskAbort a s = .next t) (hm : Mem.wf s.mem = true) : Mem.wf t.mem = true := by
  unfold execDeskAbort State.deskCommand at h; (try dsimp only at h); repeat' split at h
  all_goals (first | (cases h; done) | (cases h; simp (maxDischargeDepth := 40) [hm]; done) | (cases h; simp_all (maxDischargeDepth := 40); done))

theorem execDeskBeginJoint_frame (a : DeskArgs) (s : State) (t : State)
    (h : execDeskBeginJoint a s = .next t) : t.pending = s.pending ∧ t.ctl.mode = s.ctl.mode ∧ t.nand.flash = s.nand.flash := by
  unfold execDeskBeginJoint State.deskCommand at h; (try dsimp only at h); repeat' split at h
  all_goals (first | (cases h; done) | (cases h; simp; done) | (cases h; simp_all; done))

theorem execDeskBeginJoint_wf_mem (a : DeskArgs) (s : State) (t : State)
    (h : execDeskBeginJoint a s = .next t) (hm : Mem.wf s.mem = true) : Mem.wf t.mem = true := by
  unfold execDeskBeginJoint State.deskCommand at h; (try dsimp only at h); repeat' split at h
  all_goals (first | (cases h; done) | (cases h; simp (maxDischargeDepth := 40) [hm]; done) | (cases h; simp_all (maxDischargeDepth := 40); done))

theorem execDeskPrepare_frame (a : DeskArgs) (s : State) (t : State)
    (h : execDeskPrepare a s = .next t) : t.pending = s.pending ∧ t.ctl.mode = s.ctl.mode ∧ t.nand.flash = s.nand.flash := by
  unfold execDeskPrepare State.deskCommand at h; (try dsimp only at h); repeat' split at h
  all_goals (first | (cases h; done) | (cases h; simp; done) | (cases h; simp_all; done))

theorem execDeskPrepare_wf_mem (a : DeskArgs) (s : State) (t : State)
    (h : execDeskPrepare a s = .next t) (hm : Mem.wf s.mem = true) : Mem.wf t.mem = true := by
  unfold execDeskPrepare State.deskCommand at h; (try dsimp only at h); repeat' split at h
  all_goals (first | (cases h; done) | (cases h; simp (maxDischargeDepth := 40) [hm]; done) | (cases h; simp_all (maxDischargeDepth := 40); done))

theorem execDeskDecide_frame (a : DeskArgs) (s : State) (t : State)
    (h : execDeskDecide a s = .next t) : t.pending = s.pending ∧ t.ctl.mode = s.ctl.mode ∧ t.nand.flash = s.nand.flash := by
  unfold execDeskDecide State.deskCommand at h; (try dsimp only at h); repeat' split at h
  all_goals (first | (cases h; done) | (cases h; simp; done) | (cases h; simp_all; done))

theorem execDeskDecide_wf_mem (a : DeskArgs) (s : State) (t : State)
    (h : execDeskDecide a s = .next t) (hm : Mem.wf s.mem = true) : Mem.wf t.mem = true := by
  unfold execDeskDecide State.deskCommand at h; (try dsimp only at h); repeat' split at h
  all_goals (first | (cases h; done) | (cases h; simp (maxDischargeDepth := 40) [hm]; done) | (cases h; simp_all (maxDischargeDepth := 40); done))

theorem execDeskAckTerminal_frame (a : DeskArgs) (s : State) (t : State)
    (h : execDeskAckTerminal a s = .next t) : t.pending = s.pending ∧ t.ctl.mode = s.ctl.mode ∧ t.nand.flash = s.nand.flash := by
  unfold execDeskAckTerminal State.deskCommand at h; (try dsimp only at h); repeat' split at h
  all_goals (first | (cases h; done) | (cases h; simp; done) | (cases h; simp_all; done))

theorem execDeskAckTerminal_wf_mem (a : DeskArgs) (s : State) (t : State)
    (h : execDeskAckTerminal a s = .next t) (hm : Mem.wf s.mem = true) : Mem.wf t.mem = true := by
  unfold execDeskAckTerminal State.deskCommand at h; (try dsimp only at h); repeat' split at h
  all_goals (first | (cases h; done) | (cases h; simp (maxDischargeDepth := 40) [hm]; done) | (cases h; simp_all (maxDischargeDepth := 40); done))

@[simp] theorem State.deskRead_frame (s : State) (link : Fin 4) (g : Nat) (canFinish : Bool) :
    (State.deskRead s link g canFinish).pending = s.pending ∧ (State.deskRead s link g canFinish).ctl.mode = s.ctl.mode ∧ (State.deskRead s link g canFinish).mem = s.mem ∧ (State.deskRead s link g canFinish).nand.flash = s.nand.flash := by
  simp [State.deskRead]

theorem execDeskRead_frame (link : Fin 4) (group : Nat) (canFinish : Bool) (s : State) (t : State)
    (h : execDeskRead link group canFinish s = .next t) : t.pending = s.pending ∧ t.ctl.mode = s.ctl.mode ∧ t.mem = s.mem ∧ t.nand.flash = s.nand.flash := by
  unfold execDeskRead at h; (try dsimp only at h); repeat' split at h
  all_goals (first | (cases h; done) | (cases h; simp; done) | (cases h; simp_all; done))

@[simp] theorem State.closeRollback_frame (s : State) (g : Nat) :
    (State.closeRollback s g).pending = s.pending ∧ (State.closeRollback s g).ctl.mode = s.ctl.mode ∧ (State.closeRollback s g).nand.flash = s.nand.flash := by
  simp [State.closeRollback]

@[simp] theorem State.closeRollback_wf_mem (s : State) (g : Nat) (h : Mem.wf s.mem = true) :
    Mem.wf (State.closeRollback s g).mem = true := by
  simp (maxDischargeDepth := 40) [State.closeRollback, h]

@[simp] theorem State.finishRollback_frame (s : State) (g : Nat) :
    (State.finishRollback s g).pending = s.pending ∧ (State.finishRollback s g).ctl.mode = s.ctl.mode ∧ (State.finishRollback s g).nand.flash = s.nand.flash := by
  simp [State.finishRollback]

@[simp] theorem State.finishRollback_wf_mem (s : State) (g : Nat) (h : Mem.wf s.mem = true) :
    Mem.wf (State.finishRollback s g).mem = true := by
  simp (maxDischargeDepth := 40) [State.finishRollback, h]

theorem execRollbackComplete_frame (group : Nat) (s : State) (t : State)
    (h : execRollbackComplete group s = .next t) : t.pending = s.pending ∧ t.ctl.mode = s.ctl.mode ∧ t.nand.flash = s.nand.flash := by
  unfold execRollbackComplete at h; cases h; simp

theorem execRollbackComplete_wf_mem (group : Nat) (s : State) (t : State)
    (h : execRollbackComplete group s = .next t) (hm : Mem.wf s.mem = true) : Mem.wf t.mem = true := by
  unfold execRollbackComplete at h; cases h; (try dsimp only); repeat' split
  all_goals simp (maxDischargeDepth := 40) [hm]

@[simp] theorem State.takeDecide_frame (s : State) (txn : Nat) (commit : Bool) :
    (State.takeDecide s txn commit).pending = s.pending ∧ (State.takeDecide s txn commit).ctl.mode = s.ctl.mode ∧ (State.takeDecide s txn commit).nand.flash = s.nand.flash := by
  simp [State.takeDecide]

@[simp] theorem State.takeDecide_wf_mem (s : State) (txn : Nat) (commit : Bool) (h : Mem.wf s.mem = true) :
    Mem.wf (State.takeDecide s txn commit).mem = true := by
  unfold State.takeDecide; (try dsimp only); repeat' split
  all_goals simp (maxDischargeDepth := 40) [h]

theorem execDecideCellReceived_frame (source txn : Nat) (commit : Bool) (s : State) (t : State)
    (h : execDecideCellReceived source txn commit s = .next t) : t.pending = s.pending ∧ t.ctl.mode = s.ctl.mode ∧ t.nand.flash = s.nand.flash := by
  unfold execDecideCellReceived at h; cases h; simp

theorem execDecideCellReceived_wf_mem (source txn : Nat) (commit : Bool) (s : State) (t : State)
    (h : execDecideCellReceived source txn commit s = .next t) (hm : Mem.wf s.mem = true) : Mem.wf t.mem = true := by
  unfold execDecideCellReceived at h; cases h; (try dsimp only); repeat' split
  all_goals simp (maxDischargeDepth := 40) [hm]

@[simp] theorem State.takeAck_frame (s : State) (source : Nat) (txns : List Nat) :
    (State.takeAck s source txns).pending = s.pending ∧ (State.takeAck s source txns).ctl.mode = s.ctl.mode ∧ (State.takeAck s source txns).mem = s.mem ∧ (State.takeAck s source txns).nand.flash = s.nand.flash := by
  simp [State.takeAck]

theorem execAckCellReceived_frame (source : Nat) (txns : List Nat) (s : State) (t : State)
    (h : execAckCellReceived source txns s = .next t) : t.pending = s.pending ∧ t.ctl.mode = s.ctl.mode ∧ t.mem = s.mem ∧ t.nand.flash = s.nand.flash := by
  unfold execAckCellReceived at h; cases h; simp

@[simp] theorem State.queryAnswer_frame (s : State) (txn : Nat) :
    (State.queryAnswer s txn).1.pending = s.pending ∧ (State.queryAnswer s txn).1.ctl.mode = s.ctl.mode ∧ (State.queryAnswer s txn).1.mem = s.mem ∧ (State.queryAnswer s txn).1.nand.flash = s.nand.flash := by
  refine ⟨?_, ?_, ?_, ?_⟩ <;> (unfold State.queryAnswer; (try dsimp only); repeat' split) <;> simp

@[simp] theorem State.takeQuery_frame (source : Nat) (s : State) (txn : Nat) :
    (State.takeQuery source s txn).pending = s.pending ∧ (State.takeQuery source s txn).ctl.mode = s.ctl.mode ∧ (State.takeQuery source s txn).mem = s.mem ∧ (State.takeQuery source s txn).nand.flash = s.nand.flash := by
  simp [State.takeQuery]

theorem execQueryCellReceived_frame (source : Nat) (txns : List Nat) (s : State) (t : State)
    (h : execQueryCellReceived source txns s = .next t) : t.pending = s.pending ∧ t.ctl.mode = s.ctl.mode ∧ t.nand.flash = s.nand.flash := by
  unfold execQueryCellReceived at h; cases h; simp

theorem execQueryCellReceived_wf_mem (source : Nat) (txns : List Nat) (s : State) (t : State)
    (h : execQueryCellReceived source txns s = .next t) (hm : Mem.wf s.mem = true) : Mem.wf t.mem = true := by
  unfold execQueryCellReceived at h; cases h; (try dsimp only); repeat' split
  all_goals simp (maxDischargeDepth := 40) [hm]

@[simp] theorem State.takeAnswer_frame (s : State) (item : Nat × Bool × Bool) :
    (State.takeAnswer s item).pending = s.pending ∧ (State.takeAnswer s item).ctl.mode = s.ctl.mode ∧ (State.takeAnswer s item).mem = s.mem ∧ (State.takeAnswer s item).nand.flash = s.nand.flash := by
  simp [State.takeAnswer]

theorem execAnswerCellReceived_frame (source : Nat) (items : List (Nat × Bool × Bool)) (s : State) (t : State)
    (h : execAnswerCellReceived source items s = .next t) : t.pending = s.pending ∧ t.ctl.mode = s.ctl.mode ∧ t.nand.flash = s.nand.flash := by
  unfold execAnswerCellReceived at h; cases h; simp

theorem execAnswerCellReceived_wf_mem (source : Nat) (items : List (Nat × Bool × Bool)) (s : State) (t : State)
    (h : execAnswerCellReceived source items s = .next t) (hm : Mem.wf s.mem = true) : Mem.wf t.mem = true := by
  unfold execAnswerCellReceived at h; cases h; (try dsimp only); repeat' split
  all_goals simp (maxDischargeDepth := 40) [hm]

@[simp] theorem State.sendQuery_frame (s : State) (txn : Nat) :
    (State.sendQuery s txn).pending = s.pending ∧ (State.sendQuery s txn).ctl.mode = s.ctl.mode ∧ (State.sendQuery s txn).nand.flash = s.nand.flash := by
  simp [State.sendQuery]

@[simp] theorem State.sendQuery_wf_mem (s : State) (txn : Nat) (h : Mem.wf s.mem = true) :
    Mem.wf (State.sendQuery s txn).mem = true := by
  unfold State.sendQuery; (try dsimp only); repeat' split
  all_goals simp (maxDischargeDepth := 40) [h]

@[simp] theorem State.resendDecides_frame (s : State) :
    (State.resendDecides s).pending = s.pending ∧ (State.resendDecides s).ctl.mode = s.ctl.mode ∧ (State.resendDecides s).mem = s.mem ∧ (State.resendDecides s).nand.flash = s.nand.flash := by
  simp [State.resendDecides]

theorem execDecideResend_frame (s : State) (t : State)
    (h : execDecideResend s = .next t) : t.pending = s.pending ∧ t.ctl.mode = s.ctl.mode ∧ t.mem = s.mem ∧ t.nand.flash = s.nand.flash := by
  unfold execDecideResend at h; cases h; simp

theorem execPrepareQueryTimer_frame (group : Nat) (s : State) (t : State)
    (h : execPrepareQueryTimer group s = .next t) : t.pending = s.pending ∧ t.ctl.mode = s.ctl.mode ∧ t.nand.flash = s.nand.flash := by
  unfold execPrepareQueryTimer at h; cases h; simp

theorem execPrepareQueryTimer_wf_mem (group : Nat) (s : State) (t : State)
    (h : execPrepareQueryTimer group s = .next t) (hm : Mem.wf s.mem = true) : Mem.wf t.mem = true := by
  unfold execPrepareQueryTimer at h; cases h; (try dsimp only); repeat' split
  all_goals simp (maxDischargeDepth := 40) [hm]

theorem execIndoubtQuery_frame (group : Nat) (s : State) (t : State)
    (h : execIndoubtQuery group s = .next t) : t.pending = s.pending ∧ t.ctl.mode = s.ctl.mode ∧ t.nand.flash = s.nand.flash := by
  unfold execIndoubtQuery at h; cases h; simp

theorem execIndoubtQuery_wf_mem (group : Nat) (s : State) (t : State)
    (h : execIndoubtQuery group s = .next t) (hm : Mem.wf s.mem = true) : Mem.wf t.mem = true := by
  unfold execIndoubtQuery at h; cases h; (try dsimp only); repeat' split
  all_goals simp (maxDischargeDepth := 40) [hm]

theorem execDecisionCacheExpire_frame (txn : Nat) (s : State) (t : State)
    (h : execDecisionCacheExpire txn s = .next t) : t.pending = s.pending ∧ t.ctl.mode = s.ctl.mode ∧ t.mem = s.mem ∧ t.nand.flash = s.nand.flash := by
  unfold execDecisionCacheExpire at h; cases h; simp

@[simp] theorem State.forceOutcome_frame (s : State) (commit : Bool) :
    (State.forceOutcome s commit).pending = s.pending ∧ (State.forceOutcome s commit).ctl.mode = s.ctl.mode ∧ (State.forceOutcome s commit).nand.flash = s.nand.flash := by
  simp [State.forceOutcome]

@[simp] theorem State.forceOutcome_wf_mem (s : State) (commit : Bool) (h : Mem.wf s.mem = true) :
    Mem.wf (State.forceOutcome s commit).mem = true := by
  simp (maxDischargeDepth := 40) [State.forceOutcome, h]

end Sys2Proof.Machine
end

