-- ==== Sys2Proof/Laws/Sched.lean ====
section
/-! SUPPORT. What the operations and commands of Machine/Sched.lean keep: the queue, and the mode, the bytes of DRAM and of
flash, or the canonical form of those bytes. -/

namespace Sys2Proof.Machine

@[simp] theorem State.armLeaf_frame (s : State) (leaf : Nat) :
    (State.armLeaf s leaf).pending = s.pending ∧ (State.armLeaf s leaf).ctl.mode = s.ctl.mode ∧ (State.armLeaf s leaf).mem = s.mem ∧ (State.armLeaf s leaf).nand.flash = s.nand.flash := by
  simp [State.armLeaf]

@[simp] theorem State.armed_frame (s : State) (leaves : List Nat) :
    (State.armed s leaves).pending = s.pending ∧ (State.armed s leaves).ctl.mode = s.ctl.mode ∧ (State.armed s leaves).mem = s.mem ∧ (State.armed s leaves).nand.flash = s.nand.flash := by
  exact ⟨rfl, rfl, rfl, rfl⟩

theorem execMirrorArmingComplete_frame (window : Fin 64) (s : State) (t : State)
    (h : execMirrorArmingComplete window s = .next t) : t.pending = s.pending ∧ t.ctl.mode = s.ctl.mode ∧ t.mem = s.mem ∧ t.nand.flash = s.nand.flash := by
  unfold execMirrorArmingComplete at h; cases h; simp

@[simp] theorem State.setBurst_frame (s : State) (id : Nat) (f : Burst → Burst) :
    (State.setBurst s id f).pending = s.pending ∧ (State.setBurst s id f).ctl.mode = s.ctl.mode ∧ (State.setBurst s id f).mem = s.mem ∧ (State.setBurst s id f).nand.flash = s.nand.flash := by
  exact ⟨rfl, rfl, rfl, rfl⟩

@[simp] theorem State.admitOne_frame (s : State) (b : Burst) :
    (State.admitOne s b).pending = s.pending ∧ (State.admitOne s b).ctl.mode = s.ctl.mode ∧ (State.admitOne s b).mem = s.mem ∧ (State.admitOne s b).nand.flash = s.nand.flash := by
  exact ⟨rfl, rfl, rfl, rfl⟩

@[simp] theorem State.admitBursts_frame (chan sub n : Nat) (s : State) :
    (State.admitBursts chan sub n s).pending = s.pending ∧ (State.admitBursts chan sub n s).ctl.mode = s.ctl.mode
      ∧ (State.admitBursts chan sub n s).mem = s.mem ∧ (State.admitBursts chan sub n s).nand.flash = s.nand.flash := by
  induction n generalizing s with
  | zero => exact ⟨rfl, rfl, rfl, rfl⟩
  | succ n ih =>
    unfold State.admitBursts
    split
    · exact ⟨rfl, rfl, rfl, rfl⟩
    · split
      · exact ⟨rfl, rfl, rfl, rfl⟩
      · simp [ih]

@[simp] theorem State.drained_frame (s : State) (id : Nat) :
    (State.drained s id).pending = s.pending ∧ (State.drained s id).ctl.mode = s.ctl.mode ∧ (State.drained s id).mem = s.mem ∧ (State.drained s id).nand.flash = s.nand.flash := by
  simp [State.drained]

@[simp] theorem State.payCompletions_frame (s : State) :
    (State.payCompletions s).pending = s.pending ∧ (State.payCompletions s).ctl.mode = s.ctl.mode ∧ (State.payCompletions s).mem = s.mem ∧ (State.payCompletions s).nand.flash = s.nand.flash := by
  simp [State.payCompletions]

@[simp] theorem State.issueBurst_frame (s : State) (b : Burst) (now : BitVec 16) :
    (State.issueBurst s b now).pending = s.pending ∧ (State.issueBurst s b now).ctl.mode = s.ctl.mode ∧ (State.issueBurst s b now).mem = s.mem ∧ (State.issueBurst s b now).nand.flash = s.nand.flash := by
  refine ⟨?_, ?_, ?_, ?_⟩ <;> (unfold State.issueBurst; (try dsimp only); repeat' split) <;> simp

theorem execBurstPromoted_frame (chan : Fin 13) (id : Nat) (now : BitVec 16) (s : State) (t : State)
    (h : execBurstPromoted chan id now s = .next t) : t.pending = s.pending ∧ t.ctl.mode = s.ctl.mode ∧ t.mem = s.mem ∧ t.nand.flash = s.nand.flash := by
  unfold execBurstPromoted at h; cases h; (try dsimp only); refine ⟨?_, ?_, ?_, ?_⟩ <;> (repeat' split) <;> simp

theorem execBurstAncient_frame (chan : Fin 13) (id : Nat) (now : BitVec 16) (s : State) (t : State)
    (h : execBurstAncient chan id now s = .next t) : t.pending = s.pending ∧ t.ctl.mode = s.ctl.mode ∧ t.mem = s.mem ∧ t.nand.flash = s.nand.flash := by
  unfold execBurstAncient at h; cases h; (try dsimp only); refine ⟨?_, ?_, ?_, ?_⟩ <;> (repeat' split) <;> simp

theorem execClass0ShareInterval_frame (chan : Fin 13) (sub : Fin 2) (s : State) (t : State)
    (h : execClass0ShareInterval chan sub s = .next t) : t.pending = s.pending ∧ t.ctl.mode = s.ctl.mode ∧ t.mem = s.mem ∧ t.nand.flash = s.nand.flash := by
  unfold execClass0ShareInterval at h; cases h; exact ⟨rfl, rfl, rfl, rfl⟩

theorem execRefreshDue_frame (chan : Fin 13) (sub : Fin 2) (bank deviceMax : Nat) (_now : BitVec 16) (s : State) (t : State)
    (h : execRefreshDue chan sub bank deviceMax _now s = .next t) : t.pending = s.pending ∧ t.ctl.mode = s.ctl.mode ∧ t.mem = s.mem ∧ t.nand.flash = s.nand.flash := by
  unfold execRefreshDue at h; cases h; simp

theorem execActivationLimit_frame (chan : Fin 13) (sub : Fin 2) (banks : List Nat) (durationNs : Nat) (s : State) (t : State)
    (h : execActivationLimit chan sub banks durationNs s = .next t) : t.pending = s.pending ∧ t.ctl.mode = s.ctl.mode ∧ t.mem = s.mem ∧ t.nand.flash = s.nand.flash := by
  unfold execActivationLimit at h; cases h; simp

end Sys2Proof.Machine
end

