-- ==== Sys2Proof/Laws/Dram.lean ====
section
/-! SUPPORT. What the operations and commands of Machine/Dram.lean keep: the queue, and the mode, the bytes of DRAM and of
flash, or the canonical form of those bytes. -/

namespace Sys2Proof.Machine

@[simp] theorem State.armSave_frame (s : State) (t : Trigger) (boundaries : Nat) :
    (State.armSave s t boundaries).pending = s.pending ∧ (State.armSave s t boundaries).ctl.mode = s.ctl.mode ∧ (State.armSave s t boundaries).mem = s.mem ∧ (State.armSave s t boundaries).nand.flash = s.nand.flash := by
  exact ⟨rfl, rfl, rfl, rfl⟩

@[simp] theorem State.setRate_frame (s : State) (c r : Nat) :
    (State.setRate s c r).pending = s.pending ∧ (State.setRate s c r).ctl.mode = s.ctl.mode ∧ (State.setRate s c r).mem = s.mem ∧ (State.setRate s c r).nand.flash = s.nand.flash := by
  exact ⟨rfl, rfl, rfl, rfl⟩

@[simp] theorem State.setRetrain_frame (s : State) (c st : Nat) :
    (State.setRetrain s c st).pending = s.pending ∧ (State.setRetrain s c st).ctl.mode = s.ctl.mode ∧ (State.setRetrain s c st).mem = s.mem ∧ (State.setRetrain s c st).nand.flash = s.nand.flash := by
  exact ⟨rfl, rfl, rfl, rfl⟩

@[simp] theorem State.closeGather_frame (s : State) :
    (State.closeGather s).pending = s.pending ∧ (State.closeGather s).ctl.mode = s.ctl.mode ∧ (State.closeGather s).mem = s.mem ∧ (State.closeGather s).nand.flash = s.nand.flash := by
  refine ⟨?_, ?_, ?_, ?_⟩ <;> (unfold State.closeGather; (try dsimp only); repeat' split) <;> simp

@[simp] theorem State.deferRetrain_frame (s : State) (c : Nat) :
    (State.deferRetrain s c).pending = s.pending ∧ (State.deferRetrain s c).ctl.mode = s.ctl.mode ∧ (State.deferRetrain s c).mem = s.mem ∧ (State.deferRetrain s c).nand.flash = s.nand.flash := by
  simp [State.deferRetrain]

@[simp] theorem State.setChan_frame (s : State) (c st : Nat) :
    (State.setChan s c st).pending = s.pending ∧ (State.setChan s c st).ctl.mode = s.ctl.mode ∧ (State.setChan s c st).mem = s.mem ∧ (State.setChan s c st).nand.flash = s.nand.flash := by
  simp [State.setChan]

@[simp] theorem State.copyBlock_frame (s : State) :
    (State.copyBlock s).pending = s.pending ∧ (State.copyBlock s).ctl.mode = s.ctl.mode ∧ (State.copyBlock s).mem = s.mem ∧ (State.copyBlock s).nand.flash = s.nand.flash := by
  simp [State.copyBlock]

@[simp] theorem State.copyNext_frame (s : State) :
    (State.copyNext s).pending = s.pending ∧ (State.copyNext s).ctl.mode = s.ctl.mode ∧ (State.copyNext s).mem = s.mem ∧ (State.copyNext s).nand.flash = s.nand.flash := by
  refine ⟨?_, ?_, ?_, ?_⟩ <;> (unfold State.copyNext; (try dsimp only); repeat' split) <;> simp

@[simp] theorem State.carveBlock_frame (s : State) (d : Nat) :
    (State.carveBlock s d).pending = s.pending ∧ (State.carveBlock s d).ctl.mode = s.ctl.mode ∧ (State.carveBlock s d).mem = s.mem ∧ (State.carveBlock s d).nand.flash = s.nand.flash := by
  refine ⟨?_, ?_, ?_, ?_⟩ <;> (unfold State.carveBlock; (try dsimp only); repeat' split) <;> simp

@[simp] theorem State.carveMirrors_frame (s : State) (d : Nat) :
    (State.carveMirrors s d).pending = s.pending ∧ (State.carveMirrors s d).ctl.mode = s.ctl.mode ∧ (State.carveMirrors s d).mem = s.mem ∧ (State.carveMirrors s d).nand.flash = s.nand.flash := by
  exact ⟨rfl, rfl, rfl, rfl⟩

@[simp] theorem State.rebuildNext_frame (s : State) :
    (State.rebuildNext s).pending = s.pending ∧ (State.rebuildNext s).ctl.mode = s.ctl.mode ∧ (State.rebuildNext s).mem = s.mem ∧ (State.rebuildNext s).nand.flash = s.nand.flash := by
  refine ⟨?_, ?_, ?_, ?_⟩ <;> (unfold State.rebuildNext; (try dsimp only); repeat' split) <;> simp

@[simp] theorem State.rebuildGo_frame (s : State) :
    (State.rebuildGo s).pending = s.pending ∧ (State.rebuildGo s).ctl.mode = s.ctl.mode ∧ (State.rebuildGo s).mem = s.mem ∧ (State.rebuildGo s).nand.flash = s.nand.flash := by
  refine ⟨?_, ?_, ?_, ?_⟩ <;> (unfold State.rebuildGo; (try dsimp only); repeat' split) <;> simp

@[simp] theorem State.leafRebuilt_frame (s : State) (f : Nat) :
    (State.leafRebuilt s f).pending = s.pending ∧ (State.leafRebuilt s f).ctl.mode = s.ctl.mode ∧ (State.leafRebuilt s f).mem = s.mem ∧ (State.leafRebuilt s f).nand.flash = s.nand.flash := by
  exact ⟨rfl, rfl, rfl, rfl⟩

@[simp] theorem State.finishJob_frame (s : State) (j : Job) :
    (State.finishJob s j).pending = s.pending ∧ (State.finishJob s j).ctl.mode = s.ctl.mode ∧ (State.finishJob s j).mem = s.mem ∧ (State.finishJob s j).nand.flash = s.nand.flash := by
  refine ⟨?_, ?_, ?_, ?_⟩ <;> (unfold State.finishJob; (try dsimp only); repeat' split) <;> simp

@[simp] theorem State.corrected_frame (s : State) (c offset unit : Nat) (device : Fin 10) :
    (State.corrected s c offset unit device).pending = s.pending ∧ (State.corrected s c offset unit device).ctl.mode = s.ctl.mode ∧ (State.corrected s c offset unit device).mem = s.mem ∧ (State.corrected s c offset unit device).nand.flash = s.nand.flash := by
  exact ⟨rfl, rfl, rfl, rfl⟩

@[simp] theorem State.issuePair_frame (s : State) (b : Burst) (now : BitVec 16) :
    (State.issuePair s b now).pending = s.pending ∧ (State.issuePair s b now).ctl.mode = s.ctl.mode ∧ (State.issuePair s b now).mem = s.mem ∧ (State.issuePair s b now).nand.flash = s.nand.flash := by
  refine ⟨?_, ?_, ?_, ?_⟩ <;> (unfold State.issuePair; (try dsimp only); repeat' split) <;> simp

theorem execBurstIssue_frame (chan : Fin 13) (sub : Fin 2) (now : BitVec 16) (s : State) (corrected : Option (Fin 10 × Bool) := none) (t : State)
    (h : execBurstIssue chan sub now s corrected = .next t) : t.pending = s.pending ∧ t.ctl.mode = s.ctl.mode ∧ t.mem = s.mem ∧ t.nand.flash = s.nand.flash := by
  unfold execBurstIssue at h; cases h; (try dsimp only); refine ⟨?_, ?_, ?_, ?_⟩ <;> (repeat' split) <;> simp

@[simp] theorem State.dropJobs_frame (s : State) (js : List Job) :
    (State.dropJobs s js).pending = s.pending ∧ (State.dropJobs s js).ctl.mode = s.ctl.mode ∧ (State.dropJobs s js).mem = s.mem ∧ (State.dropJobs s js).nand.flash = s.nand.flash := by
  exact ⟨rfl, rfl, rfl, rfl⟩

@[simp] theorem State.shareRecord_frame (s : State) (r : Nat × Nat) :
    (State.shareRecord s r).pending = s.pending ∧ (State.shareRecord s r).ctl.mode = s.ctl.mode ∧ (State.shareRecord s r).mem = s.mem ∧ (State.shareRecord s r).nand.flash = s.nand.flash := by
  refine ⟨?_, ?_, ?_, ?_⟩ <;> (unfold State.shareRecord; (try dsimp only); repeat' split) <;> simp

@[simp] theorem State.storeRecord_frame (s : State) (c bin : Nat) :
    (State.storeRecord s c bin).pending = s.pending ∧ (State.storeRecord s c bin).ctl.mode = s.ctl.mode ∧ (State.storeRecord s c bin).mem = s.mem ∧ (State.storeRecord s c bin).nand.flash = s.nand.flash := by
  simp [State.storeRecord]

@[simp] theorem State.dropRecord_frame (s : State) (c bin : Nat) :
    (State.dropRecord s c bin).pending = s.pending ∧ (State.dropRecord s c bin).ctl.mode = s.ctl.mode ∧ (State.dropRecord s c bin).mem = s.mem ∧ (State.dropRecord s c bin).nand.flash = s.nand.flash := by
  exact ⟨rfl, rfl, rfl, rfl⟩

@[simp] theorem State.spareFailed_frame (s : State) (c : Nat) :
    (State.spareFailed s c).pending = s.pending ∧ (State.spareFailed s c).ctl.mode = s.ctl.mode ∧ (State.spareFailed s c).mem = s.mem ∧ (State.spareFailed s c).nand.flash = s.nand.flash := by
  simp [State.spareFailed]

@[simp] theorem State.trained_frame (s : State) (c rate : Nat) (hottestC : Int) :
    (State.trained s c rate hottestC).pending = s.pending ∧ (State.trained s c rate hottestC).ctl.mode = s.ctl.mode ∧ (State.trained s c rate hottestC).mem = s.mem ∧ (State.trained s c rate hottestC).nand.flash = s.nand.flash := by
  simp [State.trained]

@[simp] theorem State.dramStart_frame (s : State) :
    (State.dramStart s).pending = s.pending ∧ (State.dramStart s).ctl.mode = s.ctl.mode ∧ (State.dramStart s).mem = s.mem ∧ (State.dramStart s).nand.flash = s.nand.flash := by
  simp [State.dramStart]

@[simp] theorem State.stands_frame (s : State) (c : Nat) :
    (State.stands s c).pending = s.pending ∧ (State.stands s c).ctl.mode = s.ctl.mode ∧ (State.stands s c).mem = s.mem ∧ (State.stands s c).nand.flash = s.nand.flash := by
  exact ⟨rfl, rfl, rfl, rfl⟩

@[simp] theorem State.startRebuild_frame (s : State) (d src t : Nat) :
    (State.startRebuild s d src t).pending = s.pending ∧ (State.startRebuild s d src t).ctl.mode = s.ctl.mode ∧ (State.startRebuild s d src t).mem = s.mem ∧ (State.startRebuild s d src t).nand.flash = s.nand.flash := by
  simp [State.startRebuild]

@[simp] theorem State.requalified_frame (s : State) (c : Nat) :
    (State.requalified s c).pending = s.pending ∧ (State.requalified s c).ctl.mode = s.ctl.mode ∧ (State.requalified s c).mem = s.mem ∧ (State.requalified s c).nand.flash = s.nand.flash := by
  refine ⟨?_, ?_, ?_, ?_⟩ <;> (unfold State.requalified; (try dsimp only); repeat' split) <;> simp

@[simp] theorem State.trainingComplete_frame (s : State) (c rate : Nat) (hottestC : Int) (passed : Bool) :
    (State.trainingComplete s c rate hottestC passed).pending = s.pending ∧ (State.trainingComplete s c rate hottestC passed).ctl.mode = s.ctl.mode ∧ (State.trainingComplete s c rate hottestC passed).mem = s.mem ∧ (State.trainingComplete s c rate hottestC passed).nand.flash = s.nand.flash := by
  refine ⟨?_, ?_, ?_, ?_⟩ <;> (unfold State.trainingComplete; (try dsimp only); repeat' split) <;> simp

theorem execDramTrainingComplete_frame (chan : Fin 13) (rate : Nat) (hottestC : Int) (passed : Bool) (s : State) (t : State)
    (h : execDramTrainingComplete chan rate hottestC passed s = .next t) : t.pending = s.pending ∧ t.ctl.mode = s.ctl.mode ∧ t.mem = s.mem ∧ t.nand.flash = s.nand.flash := by
  unfold execDramTrainingComplete at h; cases h; simp

@[simp] theorem State.fastBoot_frame (s : State) (c : Nat) (keyMatches crcGood passed : Bool) :
    (State.fastBoot s c keyMatches crcGood passed).pending = s.pending ∧ (State.fastBoot s c keyMatches crcGood passed).ctl.mode = s.ctl.mode ∧ (State.fastBoot s c keyMatches crcGood passed).mem = s.mem ∧ (State.fastBoot s c keyMatches crcGood passed).nand.flash = s.nand.flash := by
  simp [State.fastBoot]

theorem execFastBootComplete_frame (chan : Fin 13) (keyMatches crcGood passed : Bool) (s : State) (t : State)
    (h : execFastBootComplete chan keyMatches crcGood passed s = .next t) : t.pending = s.pending ∧ t.ctl.mode = s.ctl.mode ∧ t.mem = s.mem ∧ t.nand.flash = s.nand.flash := by
  unfold execFastBootComplete at h; cases h; simp

theorem execDqsTrack_frame (chan : Fin 13) (driftPs : Int) (s : State) (t : State)
    (h : execDqsTrack chan driftPs s = .next t) : t.pending = s.pending ∧ t.ctl.mode = s.ctl.mode ∧ t.mem = s.mem ∧ t.nand.flash = s.nand.flash := by
  unfold execDqsTrack at h; cases h; simp

@[simp] theorem State.openGather_frame (s : State) :
    (State.openGather s).pending = s.pending ∧ (State.openGather s).ctl.mode = s.ctl.mode ∧ (State.openGather s).mem = s.mem ∧ (State.openGather s).nand.flash = s.nand.flash := by
  refine ⟨?_, ?_, ?_, ?_⟩ <;> (unfold State.openGather; (try dsimp only); repeat' split) <;> simp

@[simp] theorem State.nextRetrain_frame (s : State) :
    (State.nextRetrain s).pending = s.pending ∧ (State.nextRetrain s).ctl.mode = s.ctl.mode ∧ (State.nextRetrain s).mem = s.mem ∧ (State.nextRetrain s).nand.flash = s.nand.flash := by
  refine ⟨?_, ?_, ?_, ?_⟩ <;> (unfold State.nextRetrain; (try dsimp only); repeat' split) <;> simp

@[simp] theorem State.triggerRetrain_frame (s : State) (c : Nat) :
    (State.triggerRetrain s c).pending = s.pending ∧ (State.triggerRetrain s c).ctl.mode = s.ctl.mode ∧ (State.triggerRetrain s c).mem = s.mem ∧ (State.triggerRetrain s c).nand.flash = s.nand.flash := by
  simp [State.triggerRetrain]

theorem execRetrainTrigger_frame (chan : Fin 13) (cause : RetrainCause) (s : State) (t : State)
    (h : execRetrainTrigger chan cause s = .next t) : t.pending = s.pending ∧ t.ctl.mode = s.ctl.mode ∧ t.mem = s.mem ∧ t.nand.flash = s.nand.flash := by
  unfold execRetrainTrigger at h; cases h; simp

@[simp] theorem State.retrainRequest_frame (s : State) (v : Nat) :
    (State.retrainRequest s v).pending = s.pending ∧ (State.retrainRequest s v).ctl.mode = s.ctl.mode ∧ (State.retrainRequest s v).mem = s.mem ∧ (State.retrainRequest s v).nand.flash = s.nand.flash := by
  simp [State.retrainRequest]

@[simp] theorem State.regather_frame (s : State) (c : Nat) :
    (State.regather s c).pending = s.pending ∧ (State.regather s c).ctl.mode = s.ctl.mode ∧ (State.regather s c).mem = s.mem ∧ (State.regather s c).nand.flash = s.nand.flash := by
  simp [State.regather]

@[simp] theorem State.applyRate_frame (s : State) (c : Nat) :
    (State.applyRate s c).pending = s.pending ∧ (State.applyRate s c).ctl.mode = s.ctl.mode ∧ (State.applyRate s c).mem = s.mem ∧ (State.applyRate s c).nand.flash = s.nand.flash := by
  refine ⟨?_, ?_, ?_, ?_⟩ <;> (unfold State.applyRate; (try dsimp only); repeat' split) <;> simp

theorem execGatherWindowClose_frame (chan : Fin 13) (last : Bool) (s : State) (t : State)
    (h : execGatherWindowClose chan last s = .next t) : t.pending = s.pending ∧ t.ctl.mode = s.ctl.mode ∧ t.mem = s.mem ∧ t.nand.flash = s.nand.flash := by
  unfold execGatherWindowClose at h; cases h; simp

@[simp] theorem State.startCopy_frame (s : State) (c : Nat) :
    (State.startCopy s c).pending = s.pending ∧ (State.startCopy s c).ctl.mode = s.ctl.mode ∧ (State.startCopy s c).mem = s.mem ∧ (State.startCopy s c).nand.flash = s.nand.flash := by
  refine ⟨?_, ?_, ?_, ?_⟩ <;> (unfold State.startCopy; (try dsimp only); repeat' split) <;> simp

@[simp] theorem State.copyAgain_frame (s : State) :
    (State.copyAgain s).pending = s.pending ∧ (State.copyAgain s).ctl.mode = s.ctl.mode ∧ (State.copyAgain s).mem = s.mem ∧ (State.copyAgain s).nand.flash = s.nand.flash := by
  refine ⟨?_, ?_, ?_, ?_⟩ <;> (unfold State.copyAgain; (try dsimp only); repeat' split) <;> simp

@[simp] theorem State.startSearch_frame (s : State) (c bin : Nat) :
    (State.startSearch s c bin).pending = s.pending ∧ (State.startSearch s c bin).ctl.mode = s.ctl.mode ∧ (State.startSearch s c bin).mem = s.mem ∧ (State.startSearch s c bin).nand.flash = s.nand.flash := by
  exact ⟨rfl, rfl, rfl, rfl⟩

theorem execProactiveCopyComplete_frame (s : State) (t : State)
    (h : execProactiveCopyComplete s = .next t) : t.pending = s.pending ∧ t.ctl.mode = s.ctl.mode ∧ t.mem = s.mem ∧ t.nand.flash = s.nand.flash := by
  unfold execProactiveCopyComplete at h; cases h; (try dsimp only); refine ⟨?_, ?_, ?_, ?_⟩ <;> (repeat' split) <;> simp

@[simp] theorem State.abandonCopy_frame (s : State) :
    (State.abandonCopy s).pending = s.pending ∧ (State.abandonCopy s).ctl.mode = s.ctl.mode ∧ (State.abandonCopy s).mem = s.mem ∧ (State.abandonCopy s).nand.flash = s.nand.flash := by
  refine ⟨?_, ?_, ?_, ?_⟩ <;> (unfold State.abandonCopy; (try dsimp only); repeat' split) <;> simp

@[simp] theorem State.stopCopy_frame (s : State) :
    (State.stopCopy s).pending = s.pending ∧ (State.stopCopy s).ctl.mode = s.ctl.mode ∧ (State.stopCopy s).mem = s.mem ∧ (State.stopCopy s).nand.flash = s.nand.flash := by
  simp [State.stopCopy]

@[simp] theorem State.poisonUnit_frame (s : State) (u : Nat) :
    (State.poisonUnit s u).pending = s.pending ∧ (State.poisonUnit s u).ctl.mode = s.ctl.mode ∧ (State.poisonUnit s u).mem = s.mem ∧ (State.poisonUnit s u).nand.flash = s.nand.flash := by
  exact ⟨rfl, rfl, rfl, rfl⟩

@[simp] theorem State.poisonUnits_frame (s : State) (us : List Nat) :
    (State.poisonUnits s us).pending = s.pending ∧ (State.poisonUnits s us).ctl.mode = s.ctl.mode ∧ (State.poisonUnits s us).mem = s.mem ∧ (State.poisonUnits s us).nand.flash = s.nand.flash := by
  simp [State.poisonUnits]

@[simp] theorem State.endAwaiting_frame (s : State) (c : Nat) (poison : Bool) :
    (State.endAwaiting s c poison).pending = s.pending ∧ (State.endAwaiting s c poison).ctl.mode = s.ctl.mode ∧ (State.endAwaiting s c poison).nand.flash = s.nand.flash := by
  simp [State.endAwaiting]

@[simp] theorem State.endAwaiting_wf_mem (s : State) (c : Nat) (poison : Bool) (h : Mem.wf s.mem = true) :
    Mem.wf (State.endAwaiting s c poison).mem = true := by
  simp (maxDischargeDepth := 40) [State.endAwaiting, h]

@[simp] theorem State.uncover_frame (s : State) (d : Nat) :
    (State.uncover s d).pending = s.pending ∧ (State.uncover s d).ctl.mode = s.ctl.mode ∧ (State.uncover s d).mem = s.mem ∧ (State.uncover s d).nand.flash = s.nand.flash := by
  refine ⟨?_, ?_, ?_, ?_⟩ <;> (unfold State.uncover; (try dsimp only); repeat' split) <;> simp

@[simp] theorem State.rebind_frame (s : State) (c t : Nat) :
    (State.rebind s c t).pending = s.pending ∧ (State.rebind s c t).ctl.mode = s.ctl.mode ∧ (State.rebind s c t).mem = s.mem ∧ (State.rebind s c t).nand.flash = s.nand.flash := by
  exact ⟨rfl, rfl, rfl, rfl⟩

@[simp] theorem State.uncopyIf_frame (s : State) (p : Nat → Bool) :
    (State.uncopyIf s p).pending = s.pending ∧ (State.uncopyIf s p).ctl.mode = s.ctl.mode ∧ (State.uncopyIf s p).mem = s.mem ∧ (State.uncopyIf s p).nand.flash = s.nand.flash := by
  simp [State.uncopyIf]

@[simp] theorem State.uncopy_frame (s : State) :
    (State.uncopy s).pending = s.pending ∧ (State.uncopy s).ctl.mode = s.ctl.mode ∧ (State.uncopy s).mem = s.mem ∧ (State.uncopy s).nand.flash = s.nand.flash := by
  simp [State.uncopy]

@[simp] theorem State.loseActive_frame (s : State) (c d : Nat) (spare : Option Nat) (search : Bool) :
    (State.loseActive s c d spare search).pending = s.pending ∧ (State.loseActive s c d spare search).ctl.mode = s.ctl.mode ∧ (State.loseActive s c d spare search).nand.flash = s.nand.flash := by
  refine ⟨?_, ?_, ?_⟩ <;> (unfold State.loseActive; (try dsimp only); repeat' split) <;> simp

@[simp] theorem State.loseActive_wf_mem (s : State) (c d : Nat) (spare : Option Nat) (search : Bool) (h : Mem.wf s.mem = true) :
    Mem.wf (State.loseActive s c d spare search).mem = true := by
  unfold State.loseActive; (try dsimp only); repeat' split
  all_goals simp (maxDischargeDepth := 40) [h]

@[simp] theorem State.loseSpare_frame (s : State) (c : Nat) (search : Bool) :
    (State.loseSpare s c search).pending = s.pending ∧ (State.loseSpare s c search).ctl.mode = s.ctl.mode ∧ (State.loseSpare s c search).mem = s.mem ∧ (State.loseSpare s c search).nand.flash = s.nand.flash := by
  simp [State.loseSpare]

@[simp] theorem State.loseUnbound_frame (s : State) (c : Nat) (search : Bool) :
    (State.loseUnbound s c search).pending = s.pending ∧ (State.loseUnbound s c search).ctl.mode = s.ctl.mode ∧ (State.loseUnbound s c search).mem = s.mem ∧ (State.loseUnbound s c search).nand.flash = s.nand.flash := by
  simp [State.loseUnbound]

@[simp] theorem State.loseChannel_frame (s : State) (c : Nat) (cause : LossCause) :
    (State.loseChannel s c cause).pending = s.pending ∧ (State.loseChannel s c cause).ctl.mode = s.ctl.mode ∧ (State.loseChannel s c cause).nand.flash = s.nand.flash := by
  refine ⟨?_, ?_, ?_⟩ <;> (unfold State.loseChannel; (try dsimp only); repeat' split) <;> simp

@[simp] theorem State.loseChannel_wf_mem (s : State) (c : Nat) (cause : LossCause) (h : Mem.wf s.mem = true) :
    Mem.wf (State.loseChannel s c cause).mem = true := by
  unfold State.loseChannel; (try dsimp only); repeat' split
  all_goals simp (maxDischargeDepth := 40) [h]

theorem execChannelLost_frame (chan : Fin 13) (cause : LossCause) (s : State) (t : State)
    (h : execChannelLost chan cause s = .next t) : t.pending = s.pending ∧ t.ctl.mode = s.ctl.mode ∧ t.nand.flash = s.nand.flash := by
  unfold execChannelLost at h; cases h; simp

theorem execChannelLost_wf_mem (chan : Fin 13) (cause : LossCause) (s : State) (t : State)
    (h : execChannelLost chan cause s = .next t) (hm : Mem.wf s.mem = true) : Mem.wf t.mem = true := by
  unfold execChannelLost at h; cases h; (try dsimp only); repeat' split
  all_goals simp (maxDischargeDepth := 40) [hm]

@[simp] theorem State.rebuildDone_frame (s : State) :
    (State.rebuildDone s).pending = s.pending ∧ (State.rebuildDone s).ctl.mode = s.ctl.mode ∧ (State.rebuildDone s).mem = s.mem ∧ (State.rebuildDone s).nand.flash = s.nand.flash := by
  simp [State.rebuildDone]

theorem execChannelRebuildComplete_frame (s : State) (t : State)
    (h : execChannelRebuildComplete s = .next t) : t.pending = s.pending ∧ t.ctl.mode = s.ctl.mode ∧ t.mem = s.mem ∧ t.nand.flash = s.nand.flash := by
  unfold execChannelRebuildComplete at h; cases h; simp

@[simp] theorem State.recover_frame (s : State) (c : Nat) :
    (State.recover s c).pending = s.pending ∧ (State.recover s c).ctl.mode = s.ctl.mode ∧ (State.recover s c).mem = s.mem ∧ (State.recover s c).nand.flash = s.nand.flash := by
  exact ⟨rfl, rfl, rfl, rfl⟩

@[simp] theorem State.searchPassed_frame (s : State) (c bin : Nat) (hottestC : Int) :
    (State.searchPassed s c bin hottestC).pending = s.pending ∧ (State.searchPassed s c bin hottestC).ctl.mode = s.ctl.mode ∧ (State.searchPassed s c bin hottestC).nand.flash = s.nand.flash := by
  refine ⟨?_, ?_, ?_⟩ <;> (unfold State.searchPassed; (try dsimp only); repeat' split) <;> simp

@[simp] theorem State.searchPassed_wf_mem (s : State) (c bin : Nat) (hottestC : Int) (h : Mem.wf s.mem = true) :
    Mem.wf (State.searchPassed s c bin hottestC).mem = true := by
  unfold State.searchPassed; (try dsimp only); repeat' split
  all_goals simp (maxDischargeDepth := 40) [h]

@[simp] theorem State.searchFailed_frame (s : State) (c : Nat) :
    (State.searchFailed s c).pending = s.pending ∧ (State.searchFailed s c).ctl.mode = s.ctl.mode ∧ (State.searchFailed s c).nand.flash = s.nand.flash := by
  refine ⟨?_, ?_, ?_⟩ <;> (unfold State.searchFailed; (try dsimp only); repeat' split) <;> simp

@[simp] theorem State.searchFailed_wf_mem (s : State) (c : Nat) (h : Mem.wf s.mem = true) :
    Mem.wf (State.searchFailed s c).mem = true := by
  unfold State.searchFailed; (try dsimp only); repeat' split
  all_goals simp (maxDischargeDepth := 40) [h]

theorem execSearchBinComplete_frame (chan : Fin 13) (result : SearchResult) (s : State) (t : State)
    (h : execSearchBinComplete chan result s = .next t) : t.pending = s.pending ∧ t.ctl.mode = s.ctl.mode ∧ t.nand.flash = s.nand.flash := by
  unfold execSearchBinComplete at h; cases h; (try dsimp only); refine ⟨?_, ?_, ?_⟩ <;> (repeat' split) <;> simp

theorem execSearchBinComplete_wf_mem (chan : Fin 13) (result : SearchResult) (s : State) (t : State)
    (h : execSearchBinComplete chan result s = .next t) (hm : Mem.wf s.mem = true) : Mem.wf t.mem = true := by
  unfold execSearchBinComplete at h; cases h; (try dsimp only); repeat' split
  all_goals simp (maxDischargeDepth := 40) [hm]

@[simp] theorem State.marginal_frame (s : State) (c : Nat) :
    (State.marginal s c).pending = s.pending ∧ (State.marginal s c).ctl.mode = s.ctl.mode ∧ (State.marginal s c).mem = s.mem ∧ (State.marginal s c).nand.flash = s.nand.flash := by
  simp [State.marginal]

@[simp] theorem State.retrained_frame (s : State) (c : Nat) (found previousPasses : Bool) (hottestC : Int) :
    (State.retrained s c found previousPasses hottestC).pending = s.pending ∧ (State.retrained s c found previousPasses hottestC).ctl.mode = s.ctl.mode ∧ (State.retrained s c found previousPasses hottestC).nand.flash = s.nand.flash := by
  simp [State.retrained]

@[simp] theorem State.retrained_wf_mem (s : State) (c : Nat) (found previousPasses : Bool) (hottestC : Int) (h : Mem.wf s.mem = true) :
    Mem.wf (State.retrained s c found previousPasses hottestC).mem = true := by
  unfold State.retrained; (try dsimp only); repeat' split
  all_goals simp (maxDischargeDepth := 40) [h]

theorem execOnlineRetrainComplete_frame (chan : Fin 13) (found previousPasses : Bool) (hottestC : Int) (s : State) (t : State)
    (h : execOnlineRetrainComplete chan found previousPasses hottestC s = .next t) : t.pending = s.pending ∧ t.ctl.mode = s.ctl.mode ∧ t.nand.flash = s.nand.flash := by
  unfold execOnlineRetrainComplete at h; cases h; simp

theorem execOnlineRetrainComplete_wf_mem (chan : Fin 13) (found previousPasses : Bool) (hottestC : Int) (s : State) (t : State)
    (h : execOnlineRetrainComplete chan found previousPasses hottestC s = .next t) (hm : Mem.wf s.mem = true) : Mem.wf t.mem = true := by
  unfold execOnlineRetrainComplete at h; cases h; (try dsimp only); repeat' split
  all_goals simp (maxDischargeDepth := 40) [hm]

@[simp] theorem State.ueRecovered_frame (s : State) (c offset unit : Nat) :
    (State.ueRecovered s c offset unit).pending = s.pending ∧ (State.ueRecovered s c offset unit).ctl.mode = s.ctl.mode ∧ (State.ueRecovered s c offset unit).mem = s.mem ∧ (State.ueRecovered s c offset unit).nand.flash = s.nand.flash := by
  exact ⟨rfl, rfl, rfl, rfl⟩

@[simp] theorem State.ueNoted_frame (s : State) (c offset unit : Nat) :
    (State.ueNoted s c offset unit).pending = s.pending ∧ (State.ueNoted s c offset unit).ctl.mode = s.ctl.mode ∧ (State.ueNoted s c offset unit).mem = s.mem ∧ (State.ueNoted s c offset unit).nand.flash = s.nand.flash := by
  simp [State.ueNoted]

@[simp] theorem State.uncorrectable_frame (s : State) (c : Nat) (place : UePlace) :
    (State.uncorrectable s c place).pending = s.pending ∧ (State.uncorrectable s c place).ctl.mode = s.ctl.mode ∧ (State.uncorrectable s c place).mem = s.mem ∧ (State.uncorrectable s c place).nand.flash = s.nand.flash := by
  refine ⟨?_, ?_, ?_, ?_⟩ <;> (unfold State.uncorrectable; (try dsimp only); repeat' split) <;> simp

theorem execUncorrectableRead_frame (chan : Fin 13) (place : UePlace) (s : State) (t : State)
    (h : execUncorrectableRead chan place s = .next t) : t.pending = s.pending ∧ t.ctl.mode = s.ctl.mode ∧ t.mem = s.mem ∧ t.nand.flash = s.nand.flash := by
  unfold execUncorrectableRead at h; cases h; simp

theorem execPatrolScrub_frame (chan : Fin 13) (row : Nat) (corrected : Option (Fin 128 × Fin 10)) (_again : Bool) (s : State) (t : State)
    (h : execPatrolScrub chan row corrected _again s = .next t) : t.pending = s.pending ∧ t.ctl.mode = s.ctl.mode ∧ t.mem = s.mem ∧ t.nand.flash = s.nand.flash := by
  unfold execPatrolScrub at h; cases h; (try dsimp only); refine ⟨?_, ?_, ?_, ?_⟩ <;> (repeat' split) <;> simp

@[simp] theorem State.repairRow_frame (s : State) (c row : Nat) (spareRow : Bool) :
    (State.repairRow s c row spareRow).pending = s.pending ∧ (State.repairRow s c row spareRow).ctl.mode = s.ctl.mode ∧ (State.repairRow s c row spareRow).mem = s.mem ∧ (State.repairRow s c row spareRow).nand.flash = s.nand.flash := by
  simp [State.repairRow]

theorem execRowFailed_frame (chan : Fin 13) (row : Nat) (spareRowLeft : Bool) (s : State) (t : State)
    (h : execRowFailed chan row spareRowLeft s = .next t) : t.pending = s.pending ∧ t.ctl.mode = s.ctl.mode ∧ t.mem = s.mem ∧ t.nand.flash = s.nand.flash := by
  unfold execRowFailed at h; cases h; simp

@[simp] theorem State.hardRepairs_frame (s : State) :
    s.hardRepairs.pending = s.pending ∧ s.hardRepairs.ctl.mode = s.ctl.mode ∧ s.hardRepairs.mem = s.mem
      ∧ s.hardRepairs.nand.flash = s.nand.flash := by
  unfold State.hardRepairs
  exact ⟨State.foldl_pending _ _ _ (by intros; simp), State.foldl_mode _ _ _ (by intros; simp),
    State.foldl_mem _ _ _ (by intros; simp), State.foldl_flash _ _ _ (by intros; simp)⟩

@[simp] theorem State.rateMax_frame (s : State) (c v : Nat) :
    (State.rateMax s c v).pending = s.pending ∧ (State.rateMax s c v).ctl.mode = s.ctl.mode ∧ (State.rateMax s c v).mem = s.mem ∧ (State.rateMax s c v).nand.flash = s.nand.flash := by
  simp [State.rateMax]

@[simp] theorem State.applyRates_frame (s : State) :
    (State.applyRates s).pending = s.pending ∧ (State.applyRates s).ctl.mode = s.ctl.mode ∧ (State.applyRates s).mem = s.mem ∧ (State.applyRates s).nand.flash = s.nand.flash := by
  simp [State.applyRates]

@[simp] theorem State.dramBeat_frame (s : State) :
    (State.dramBeat s).pending = s.pending ∧ (State.dramBeat s).ctl.mode = s.ctl.mode ∧ (State.dramBeat s).mem = s.mem ∧ (State.dramBeat s).nand.flash = s.nand.flash := by
  simp [State.dramBeat]

@[simp] theorem State.requalify_frame (s : State) (c : Nat) :
    (State.requalify s c).pending = s.pending ∧ (State.requalify s c).ctl.mode = s.ctl.mode ∧ (State.requalify s c).mem = s.mem ∧ (State.requalify s c).nand.flash = s.nand.flash := by
  exact ⟨rfl, rfl, rfl, rfl⟩

@[simp] theorem State.takeRequalify_frame (s : State) :
    (State.takeRequalify s).pending = s.pending ∧ (State.takeRequalify s).ctl.mode = s.ctl.mode ∧ (State.takeRequalify s).mem = s.mem ∧ (State.takeRequalify s).nand.flash = s.nand.flash := by
  exact ⟨rfl, rfl, rfl, rfl⟩

end Sys2Proof.Machine
end

