-- ==== Sys2Proof/Laws/Restore.lean ====
section
/-! SUPPORT. What the operations and commands of Machine/Restore.lean keep: the queue, and the mode, the bytes of DRAM and of
flash, or the canonical form of those bytes. -/

namespace Sys2Proof.Machine

@[simp] theorem State.loadLeaf_frame (s : State) (leaf : Nat) :
    (State.loadLeaf s leaf).pending = s.pending ∧ (State.loadLeaf s leaf).ctl.mode = s.ctl.mode ∧ (State.loadLeaf s leaf).nand.flash = s.nand.flash := by
  refine ⟨?_, ?_, ?_⟩ <;> (unfold State.loadLeaf; (try dsimp only); repeat' split) <;> simp

@[simp] theorem State.loadLeaf_wf_mem (s : State) (leaf : Nat) (h : Mem.wf s.mem = true) :
    Mem.wf (State.loadLeaf s leaf).mem = true := by
  unfold State.loadLeaf; (try dsimp only); repeat' split
  all_goals simp (maxDischargeDepth := 40) [h]

@[simp] theorem State.applyUndo_frame (s : State) (leaf : Nat) :
    (State.applyUndo s leaf).pending = s.pending ∧ (State.applyUndo s leaf).ctl.mode = s.ctl.mode ∧ (State.applyUndo s leaf).nand.flash = s.nand.flash := by
  simp [State.applyUndo, -List.foldl_reverse]

@[simp] theorem State.applyUndo_wf_mem (s : State) (leaf : Nat) (h : Mem.wf s.mem = true) :
    Mem.wf (State.applyUndo s leaf).mem = true := by
  simp (maxDischargeDepth := 40) +contextual [State.applyUndo, h, -List.foldl_reverse]

@[simp] theorem State.restoreLeaf_frame (s : State) (leaf : Nat) :
    (State.restoreLeaf s leaf).pending = s.pending ∧ (State.restoreLeaf s leaf).ctl.mode = s.ctl.mode ∧ (State.restoreLeaf s leaf).nand.flash = s.nand.flash := by
  simp [State.restoreLeaf]

@[simp] theorem State.restoreLeaf_wf_mem (s : State) (leaf : Nat) (h : Mem.wf s.mem = true) :
    Mem.wf (State.restoreLeaf s leaf).mem = true := by
  simp (maxDischargeDepth := 40) [State.restoreLeaf, h]

@[simp] theorem State.leafUnreadable_frame (s : State) (leaf : Nat) :
    (State.leafUnreadable s leaf).pending = s.pending ∧ (State.leafUnreadable s leaf).ctl.mode = s.ctl.mode ∧ (State.leafUnreadable s leaf).mem = s.mem ∧ (State.leafUnreadable s leaf).nand.flash = s.nand.flash := by
  simp [State.leafUnreadable]

@[simp] theorem State.readLeaf_frame (s : State) (leaf : Nat) (r : StripeRead) :
    (State.readLeaf s leaf r).pending = s.pending ∧ (State.readLeaf s leaf r).ctl.mode = s.ctl.mode ∧ (State.readLeaf s leaf r).nand.flash = s.nand.flash := by
  simp [State.readLeaf]

@[simp] theorem State.readLeaf_wf_mem (s : State) (leaf : Nat) (r : StripeRead) (h : Mem.wf s.mem = true) :
    Mem.wf (State.readLeaf s leaf r).mem = true := by
  unfold State.readLeaf; (try dsimp only); repeat' split
  all_goals simp (maxDischargeDepth := 40) [h]

@[simp] theorem State.rebuildRead_frame (s : State) (leaf : Nat) (r : StripeRead) :
    (State.rebuildRead s leaf r).pending = s.pending ∧ (State.rebuildRead s leaf r).ctl.mode = s.ctl.mode ∧ (State.rebuildRead s leaf r).mem = s.mem ∧ (State.rebuildRead s leaf r).nand.flash = s.nand.flash := by
  simp [State.rebuildRead]

@[simp] theorem State.refillTouch_frame (s : State) :
    (State.refillTouch s).pending = s.pending ∧ (State.refillTouch s).ctl.mode = s.ctl.mode ∧ (State.refillTouch s).mem = s.mem ∧ (State.refillTouch s).nand.flash = s.nand.flash := by
  refine ⟨?_, ?_, ?_, ?_⟩ <;> (unfold State.refillTouch; (try dsimp only); repeat' split) <;> simp

@[simp] theorem State.resumeClaims_frame (s : State) :
    (State.resumeClaims s).pending = s.pending ∧ (State.resumeClaims s).ctl.mode = s.ctl.mode ∧ (State.resumeClaims s).nand.flash = s.nand.flash := by
  simp [State.resumeClaims]

@[simp] theorem State.resumeClaims_wf_mem (s : State) (h : Mem.wf s.mem = true) :
    Mem.wf (State.resumeClaims s).mem = true := by
  unfold State.resumeClaims; (try dsimp only); repeat' split
  all_goals simp_all (maxDischargeDepth := 40)

@[simp] theorem State.resumeTouched_frame (s : State) :
    (State.resumeTouched s).pending = s.pending ∧ (State.resumeTouched s).ctl.mode = s.ctl.mode ∧ (State.resumeTouched s).nand.flash = s.nand.flash := by
  simp [State.resumeTouched]

@[simp] theorem State.resumeTouched_wf_mem (s : State) (h : Mem.wf s.mem = true) :
    Mem.wf (State.resumeTouched s).mem = true := by
  simp (maxDischargeDepth := 40) [State.resumeTouched, h]

theorem execTouchRestoreComplete_frame (leaf ns : Nat) (s : State) (read : StripeRead := .good) (t : State)
    (h : execTouchRestoreComplete leaf ns s read = .next t) : t.pending = s.pending ∧ t.ctl.mode = s.ctl.mode ∧ t.nand.flash = s.nand.flash := by
  unfold execTouchRestoreComplete at h; cases h; simp

theorem execTouchRestoreComplete_wf_mem (leaf ns : Nat) (s : State) (read : StripeRead := .good) (t : State)
    (h : execTouchRestoreComplete leaf ns s read = .next t) (hm : Mem.wf s.mem = true) : Mem.wf t.mem = true := by
  unfold execTouchRestoreComplete at h; cases h; (try dsimp only); repeat' split
  all_goals simp (maxDischargeDepth := 40) [hm]

theorem execBackgroundRestoreLeaf_frame (s : State) (read : StripeRead := .good) (t : State)
    (h : execBackgroundRestoreLeaf s read = .next t) : t.pending = s.pending ∧ t.ctl.mode = s.ctl.mode ∧ t.nand.flash = s.nand.flash := by
  unfold execBackgroundRestoreLeaf at h; cases h; (try dsimp only); refine ⟨?_, ?_, ?_⟩ <;> (repeat' split) <;> simp

theorem execBackgroundRestoreLeaf_wf_mem (s : State) (read : StripeRead := .good) (t : State)
    (h : execBackgroundRestoreLeaf s read = .next t) (hm : Mem.wf s.mem = true) : Mem.wf t.mem = true := by
  unfold execBackgroundRestoreLeaf at h; cases h; (try dsimp only); repeat' split
  all_goals simp (maxDischargeDepth := 40) [hm]

@[simp] theorem State.restoreDone_frame (s : State) :
    (State.restoreDone s).pending = s.pending ∧ (State.restoreDone s).mem = s.mem ∧ (State.restoreDone s).nand.flash = s.nand.flash := by
  simp [State.restoreDone]

theorem execRestoreComplete_frame (s : State) (t : State)
    (h : execRestoreComplete s = .next t) : t.pending = s.pending ∧ t.mem = s.mem ∧ t.nand.flash = s.nand.flash := by
  unfold execRestoreComplete at h; cases h; simp

@[simp] theorem State.drainRolling_frame (s : State) (e : IngressWrite) :
    (State.drainRolling s e).pending = s.pending ∧ (State.drainRolling s e).ctl.mode = s.ctl.mode ∧ (State.drainRolling s e).nand.flash = s.nand.flash := by
  refine ⟨?_, ?_, ?_⟩ <;> (unfold State.drainRolling; (try dsimp only); repeat' split) <;> simp [-List.foldl_reverse]

@[simp] theorem State.drainRolling_wf_mem (s : State) (e : IngressWrite) (h : Mem.wf s.mem = true) :
    Mem.wf (State.drainRolling s e).mem = true := by
  unfold State.drainRolling; (try dsimp only); repeat' split
  all_goals simp (maxDischargeDepth := 40) +contextual [h, -List.foldl_reverse]

@[simp] theorem State.drainWrite_frame (s : State) (id : Nat) :
    (State.drainWrite s id).pending = s.pending ∧ (State.drainWrite s id).ctl.mode = s.ctl.mode ∧ (State.drainWrite s id).nand.flash = s.nand.flash := by
  refine ⟨?_, ?_, ?_⟩ <;> (unfold State.drainWrite; (try dsimp only); repeat' split) <;> simp

@[simp] theorem State.drainWrite_wf_mem (s : State) (id : Nat) (h : Mem.wf s.mem = true) :
    Mem.wf (State.drainWrite s id).mem = true := by
  unfold State.drainWrite; (try dsimp only); repeat' split
  all_goals simp (maxDischargeDepth := 40) [h]

@[simp] theorem State.drainClaims_frame (s : State) :
    (State.drainClaims s).pending = s.pending ∧ (State.drainClaims s).ctl.mode = s.ctl.mode ∧ (State.drainClaims s).nand.flash = s.nand.flash := by
  simp [State.drainClaims]

@[simp] theorem State.drainClaims_wf_mem (s : State) (h : Mem.wf s.mem = true) :
    Mem.wf (State.drainClaims s).mem = true := by
  unfold State.drainClaims; (try dsimp only); repeat' split
  all_goals simp_all (maxDischargeDepth := 40)

@[simp] theorem State.drainRollback_frame (s : State) (g : Nat) :
    (State.drainRollback s g).pending = s.pending ∧ (State.drainRollback s g).ctl.mode = s.ctl.mode ∧ (State.drainRollback s g).nand.flash = s.nand.flash := by
  simp [State.drainRollback]

@[simp] theorem State.drainRollback_wf_mem (s : State) (g : Nat) (h : Mem.wf s.mem = true) :
    Mem.wf (State.drainRollback s g).mem = true := by
  unfold State.drainRollback; (try dsimp only); repeat' split
  all_goals simp_all (maxDischargeDepth := 40)

@[simp] theorem State.drainCommands_frame (n : Nat) (s : State) :
    (State.drainCommands n s).pending = s.pending ∧ (State.drainCommands n s).ctl.mode = s.ctl.mode ∧
    (State.drainCommands n s).nand.flash = s.nand.flash := by
  induction n generalizing s with
  | zero => simp [State.drainCommands]
  | succ n ih =>
    unfold State.drainCommands
    dsimp only
    split
    · simp
    · simp only [ih]
      exact ⟨(State.foldl_pending _ _ _ (by intros; simp)).trans (by simp), (State.foldl_mode _ _ _ (by intros; simp)).trans (by simp),
        (State.foldl_flash _ _ _ (by intros; simp)).trans (by simp)⟩

@[simp] theorem State.drainCommands_wf_mem (n : Nat) (s : State) (h : Mem.wf s.mem = true) :
    Mem.wf (State.drainCommands n s).mem = true := by
  induction n generalizing s with
  | zero => simp [State.drainCommands, h]
  | succ n ih =>
    unfold State.drainCommands
    dsimp only
    split
    · simp [h]
    · exact ih _ (State.foldl_wf_mem _ _ _ (fun _ _ h => by simp [h]) (by simp [h]))

@[simp] theorem State.issueWrites_frame (n : Nat) (s : State) :
    (State.issueWrites n s).pending = s.pending ∧ (State.issueWrites n s).ctl.mode = s.ctl.mode ∧
    (State.issueWrites n s).mem = s.mem ∧ (State.issueWrites n s).nand.flash = s.nand.flash := by
  induction n generalizing s with
  | zero => exact ⟨rfl, rfl, rfl, rfl⟩
  | succ n ih => unfold State.issueWrites; (try dsimp only); repeat' split
                 all_goals simp [ih]

@[simp] theorem State.drainIngress_frame (s : State) :
    (State.drainIngress s).pending = s.pending ∧ (State.drainIngress s).ctl.mode = s.ctl.mode ∧ (State.drainIngress s).nand.flash = s.nand.flash := by
  simp [State.drainIngress]

@[simp] theorem State.drainIngress_wf_mem (s : State) (h : Mem.wf s.mem = true) :
    Mem.wf (State.drainIngress s).mem = true := by
  unfold State.drainIngress; (try dsimp only); repeat' split
  all_goals simp_all (maxDischargeDepth := 40)

@[simp] theorem State.drainRead_frame (s : State) (r : HeldRead) :
    (State.drainRead s r).pending = s.pending ∧ (State.drainRead s r).ctl.mode = s.ctl.mode ∧ (State.drainRead s r).nand.flash = s.nand.flash := by
  refine ⟨?_, ?_, ?_⟩ <;> (unfold State.drainRead; (try dsimp only); repeat' split) <;> simp

@[simp] theorem State.drainRead_wf_mem (s : State) (r : HeldRead) (h : Mem.wf s.mem = true) :
    Mem.wf (State.drainRead s r).mem = true := by
  unfold State.drainRead; (try dsimp only); repeat' split
  all_goals simp (maxDischargeDepth := 40) [h]

@[simp] theorem State.drainReads_frame (s : State) :
    (State.drainReads s).pending = s.pending ∧ (State.drainReads s).ctl.mode = s.ctl.mode ∧ (State.drainReads s).nand.flash = s.nand.flash := by
  simp [State.drainReads]

@[simp] theorem State.drainReads_wf_mem (s : State) (h : Mem.wf s.mem = true) :
    Mem.wf (State.drainReads s).mem = true := by
  unfold State.drainReads; (try dsimp only); repeat' split
  all_goals simp_all (maxDischargeDepth := 40)

@[simp] theorem State.dropTouches_frame (s : State) :
    (State.dropTouches s).pending = s.pending ∧ (State.dropTouches s).ctl.mode = s.ctl.mode ∧ (State.dropTouches s).mem = s.mem ∧ (State.dropTouches s).nand.flash = s.nand.flash := by
  simp [State.dropTouches]

theorem execLeafMapRebuildComplete_frame (s : State) (t : State)
    (h : execLeafMapRebuildComplete s = .next t) : t.pending = s.pending ∧ t.ctl.mode = s.ctl.mode ∧ t.mem = s.mem ∧ t.nand.flash = s.nand.flash := by
  unfold execLeafMapRebuildComplete at h; cases h; simp

@[simp] theorem State.imageResumed_frame (s : State) :
    (State.imageResumed s).pending = s.pending ∧ (State.imageResumed s).ctl.mode = s.ctl.mode ∧ (State.imageResumed s).mem = s.mem ∧ (State.imageResumed s).nand.flash = s.nand.flash := by
  exact ⟨rfl, rfl, rfl, rfl⟩

@[simp] theorem State.emptyGroups_frame (s : State) :
    (State.emptyGroups s).pending = s.pending ∧ (State.emptyGroups s).ctl.mode = s.ctl.mode ∧ (State.emptyGroups s).mem = s.mem ∧ (State.emptyGroups s).nand.flash = s.nand.flash := by
  exact ⟨rfl, rfl, rfl, rfl⟩

@[simp] theorem State.afterFree_frame (s : State) (old : Map Slot) :
    (State.afterFree s old).pending = s.pending ∧ (State.afterFree s old).ctl.mode = s.ctl.mode ∧ (State.afterFree s old).nand.flash = s.nand.flash := by
  simp [State.afterFree]

@[simp] theorem State.afterFree_wf_mem (s : State) (old : Map Slot) (h : Mem.wf s.mem = true) :
    Mem.wf (State.afterFree s old).mem = true := by
  unfold State.afterFree; (try dsimp only); repeat' split
  all_goals simp_all (maxDischargeDepth := 40)

@[simp] theorem State.emptyImage_frame (s : State) :
    (State.emptyImage s).pending = s.pending ∧ (State.emptyImage s).ctl.mode = s.ctl.mode ∧
    (State.emptyImage s).nand.flash = s.nand.flash := by
  simp [State.emptyImage]

@[simp] theorem State.emptyImage_wf_mem (s : State) (_h : Mem.wf s.mem = true) : Mem.wf (State.emptyImage s).mem = true := by
  unfold State.emptyImage
  exact State.afterFree_wf_mem _ _ rfl

@[simp] theorem State.loadGroups_frame (s : State) (i : SaveImage) :
    (State.loadGroups s i).pending = s.pending ∧ (State.loadGroups s i).ctl.mode = s.ctl.mode ∧ (State.loadGroups s i).mem = s.mem ∧ (State.loadGroups s i).nand.flash = s.nand.flash := by
  exact ⟨rfl, rfl, rfl, rfl⟩

@[simp] theorem State.undoGroup_frame (s : State) (g : Nat) :
    (State.undoGroup s g).pending = s.pending ∧ (State.undoGroup s g).ctl.mode = s.ctl.mode ∧ (State.undoGroup s g).mem = s.mem ∧ (State.undoGroup s g).nand.flash = s.nand.flash := by
  simp [State.undoGroup]

@[simp] theorem State.presumeAborts_frame (s : State) :
    (State.presumeAborts s).pending = s.pending ∧ (State.presumeAborts s).ctl.mode = s.ctl.mode ∧ (State.presumeAborts s).mem = s.mem ∧ (State.presumeAborts s).nand.flash = s.nand.flash := by
  exact ⟨rfl, rfl, rfl, rfl⟩

@[simp] theorem State.resolveSaved_frame (s : State) (g : Nat) :
    (State.resolveSaved s g).pending = s.pending ∧ (State.resolveSaved s g).ctl.mode = s.ctl.mode ∧ (State.resolveSaved s g).mem = s.mem ∧ (State.resolveSaved s g).nand.flash = s.nand.flash := by
  refine ⟨?_, ?_, ?_, ?_⟩ <;> (unfold State.resolveSaved; (try dsimp only); repeat' split) <;> simp

@[simp] theorem State.resolveGroups_frame (s : State) :
    (State.resolveGroups s).pending = s.pending ∧ (State.resolveGroups s).ctl.mode = s.ctl.mode ∧ (State.resolveGroups s).mem = s.mem ∧ (State.resolveGroups s).nand.flash = s.nand.flash := by
  simp [State.resolveGroups]

@[simp] theorem State.setRestored_frame (s : State) (lost : List Nat) (all : Bool) :
    (State.setRestored s lost all).pending = s.pending ∧ (State.setRestored s lost all).ctl.mode = s.ctl.mode ∧ (State.setRestored s lost all).mem = s.mem ∧ (State.setRestored s lost all).nand.flash = s.nand.flash := by
  simp [State.setRestored]

@[simp] theorem State.countShutdown_frame (s : State) (i : SaveImage) :
    (State.countShutdown s i).pending = s.pending ∧ (State.countShutdown s i).ctl.mode = s.ctl.mode ∧ (State.countShutdown s i).mem = s.mem ∧ (State.countShutdown s i).nand.flash = s.nand.flash := by
  simp [State.countShutdown]

@[simp] theorem State.recordSave_frame (s : State) (i : SaveImage) :
    (State.recordSave s i).pending = s.pending ∧ (State.recordSave s i).ctl.mode = s.ctl.mode ∧ (State.recordSave s i).mem = s.mem ∧ (State.recordSave s i).nand.flash = s.nand.flash := by
  refine ⟨?_, ?_, ?_, ?_⟩ <;> (unfold State.recordSave; (try dsimp only); repeat' split) <;> simp

@[simp] theorem State.rearmMirrors_frame (s : State) :
    (State.rearmMirrors s).pending = s.pending ∧ (State.rearmMirrors s).ctl.mode = s.ctl.mode ∧ (State.rearmMirrors s).mem = s.mem ∧ (State.rearmMirrors s).nand.flash = s.nand.flash := by
  simp [State.rearmMirrors]

@[simp] theorem State.recordFences_frame (s : State) :
    (State.recordFences s).pending = s.pending ∧ (State.recordFences s).ctl.mode = s.ctl.mode ∧ (State.recordFences s).mem = s.mem ∧ (State.recordFences s).nand.flash = s.nand.flash := by
  unfold State.recordFences
  refine ⟨State.foldl_pending _ _ _ (fun _ _ => ?_), State.foldl_mode _ _ _ (fun _ _ => ?_), State.foldl_mem _ _ _ (fun _ _ => ?_), State.foldl_flash _ _ _ (fun _ _ => ?_)⟩ <;> (try dsimp only) <;> (repeat' split) <;> simp

@[simp] theorem State.openAccess_frame (s : State) (ms : Nat) :
    (State.openAccess s ms).pending = s.pending ∧ (State.openAccess s ms).ctl.mode = s.ctl.mode ∧ (State.openAccess s ms).nand.flash = s.nand.flash := by
  simp [State.openAccess]

@[simp] theorem State.openAccess_wf_mem (s : State) (ms : Nat) (h : Mem.wf s.mem = true) :
    Mem.wf (State.openAccess s ms).mem = true := by
  simp (maxDischargeDepth := 40) [State.openAccess, h]

@[simp] theorem State.loadImage_frame (s : State) (ms : Nat) :
    (State.loadImage s ms).pending = s.pending ∧ (State.loadImage s ms).ctl.mode = s.ctl.mode ∧ (State.loadImage s ms).nand.flash = s.nand.flash := by
  refine ⟨?_, ?_, ?_⟩ <;> (unfold State.loadImage; (try dsimp only); repeat' split) <;> simp

@[simp] theorem State.loadImage_wf_mem (s : State) (ms : Nat) (h : Mem.wf s.mem = true) :
    Mem.wf (State.loadImage s ms).mem = true := by
  unfold State.loadImage; (try dsimp only); repeat' split
  all_goals simp (maxDischargeDepth := 40) [h]

theorem execGroupSetLoadComplete_frame (ms : Nat) (s : State) (t : State)
    (h : execGroupSetLoadComplete ms s = .next t) : t.pending = s.pending ∧ t.ctl.mode = s.ctl.mode ∧ t.nand.flash = s.nand.flash := by
  unfold execGroupSetLoadComplete at h; cases h; simp

theorem execGroupSetLoadComplete_wf_mem (ms : Nat) (s : State) (t : State)
    (h : execGroupSetLoadComplete ms s = .next t) (hm : Mem.wf s.mem = true) : Mem.wf t.mem = true := by
  unfold execGroupSetLoadComplete at h; cases h; (try dsimp only); repeat' split
  all_goals simp (maxDischargeDepth := 40) [hm]

end Sys2Proof.Machine
end

