-- ==== Sys2Proof/Laws/Mailbox.lean ====
section
/-! SUPPORT. What the operations and commands of Machine/Mailbox.lean keep: the queue, and the mode, the bytes of DRAM and of
flash, or the canonical form of those bytes. -/

namespace Sys2Proof.Machine

@[simp] theorem State.setWall_frame (s : State) (ns : Int) :
    (State.setWall s ns).pending = s.pending ∧ (State.setWall s ns).ctl.mode = s.ctl.mode ∧ (State.setWall s ns).mem = s.mem ∧ (State.setWall s ns).nand.flash = s.nand.flash := by
  simp [State.setWall]

theorem execIdentify_frame (link : Fin 4) (s : State) (t : State)
    (h : execIdentify link s = .next t) : t.pending = s.pending ∧ t.ctl.mode = s.ctl.mode ∧ t.mem = s.mem ∧ t.nand.flash = s.nand.flash := by
  unfold execIdentify State.report State.mailbox at h; cases h; simp

theorem execBackgroundOperationStatus_frame (link : Fin 4) (s : State) (t : State)
    (h : execBackgroundOperationStatus link s = .next t) : t.pending = s.pending ∧ t.ctl.mode = s.ctl.mode ∧ t.mem = s.mem ∧ t.nand.flash = s.nand.flash := by
  unfold execBackgroundOperationStatus State.report State.mailbox at h; cases h; simp

theorem execGetFwInfo_frame (link : Fin 4) (s : State) (t : State)
    (h : execGetFwInfo link s = .next t) : t.pending = s.pending ∧ t.ctl.mode = s.ctl.mode ∧ t.mem = s.mem ∧ t.nand.flash = s.nand.flash := by
  unfold execGetFwInfo State.report State.mailbox at h; cases h; simp

theorem execTransferFw_frame (link : Fin 4) (s : State) (t : State)
    (h : execTransferFw link s = .next t) : t.pending = s.pending ∧ t.ctl.mode = s.ctl.mode ∧ t.mem = s.mem ∧ t.nand.flash = s.nand.flash := by
  unfold execTransferFw State.unsupported State.mailbox at h; cases h; simp

theorem execActivateFw_frame (link : Fin 4) (s : State) (t : State)
    (h : execActivateFw link s = .next t) : t.pending = s.pending ∧ t.ctl.mode = s.ctl.mode ∧ t.mem = s.mem ∧ t.nand.flash = s.nand.flash := by
  unfold execActivateFw State.unsupported State.mailbox at h; cases h; simp

theorem execGetSupportedLogs_frame (link : Fin 4) (s : State) (t : State)
    (h : execGetSupportedLogs link s = .next t) : t.pending = s.pending ∧ t.ctl.mode = s.ctl.mode ∧ t.mem = s.mem ∧ t.nand.flash = s.nand.flash := by
  unfold execGetSupportedLogs State.report State.mailbox at h; cases h; simp

theorem execGetLog_frame (link : Fin 4) (cel : Bool) (s : State) (t : State)
    (h : execGetLog link cel s = .next t) : t.pending = s.pending ∧ t.ctl.mode = s.ctl.mode ∧ t.mem = s.mem ∧ t.nand.flash = s.nand.flash := by
  unfold execGetLog State.mailbox at h; cases h; simp

theorem execIdentifyMemoryDevice_frame (link : Fin 4) (s : State) (t : State)
    (h : execIdentifyMemoryDevice link s = .next t) : t.pending = s.pending ∧ t.ctl.mode = s.ctl.mode ∧ t.mem = s.mem ∧ t.nand.flash = s.nand.flash := by
  unfold execIdentifyMemoryDevice State.report State.mailbox at h; cases h; simp

theorem execGetPartitionInfo_frame (link : Fin 4) (s : State) (t : State)
    (h : execGetPartitionInfo link s = .next t) : t.pending = s.pending ∧ t.ctl.mode = s.ctl.mode ∧ t.mem = s.mem ∧ t.nand.flash = s.nand.flash := by
  unfold execGetPartitionInfo State.report State.mailbox at h; cases h; simp

theorem execSetPartitionInfo_frame (link : Fin 4) (s : State) (t : State)
    (h : execSetPartitionInfo link s = .next t) : t.pending = s.pending ∧ t.ctl.mode = s.ctl.mode ∧ t.mem = s.mem ∧ t.nand.flash = s.nand.flash := by
  unfold execSetPartitionInfo State.unsupported State.mailbox at h; cases h; simp

theorem execGetHealthInfo_frame (link : Fin 4) (s : State) (t : State)
    (h : execGetHealthInfo link s = .next t) : t.pending = s.pending ∧ t.ctl.mode = s.ctl.mode ∧ t.mem = s.mem ∧ t.nand.flash = s.nand.flash := by
  unfold execGetHealthInfo State.report State.mailbox at h; cases h; simp

theorem execMailboxUnsupported_frame (link : Fin 4) (opcode : BitVec 16) (s : State) (t : State)
    (h : execMailboxUnsupported link opcode s = .next t) : t.pending = s.pending ∧ t.ctl.mode = s.ctl.mode ∧ t.mem = s.mem ∧ t.nand.flash = s.nand.flash := by
  unfold execMailboxUnsupported State.unsupported State.mailbox at h; (try dsimp only at h); repeat' split at h
  all_goals (first | (cases h; done) | (cases h; simp; done) | (cases h; simp_all; done))

theorem execGetEventRecords_frame (link log : Fin 4) (s : State) (t : State)
    (h : execGetEventRecords link log s = .next t) : t.pending = s.pending ∧ t.ctl.mode = s.ctl.mode ∧ t.mem = s.mem ∧ t.nand.flash = s.nand.flash := by
  unfold execGetEventRecords State.report State.mailbox at h; cases h; simp

theorem execClearEventRecords_frame (link log : Fin 4) (all : Bool) (handles : List Nat) (s : State) (t : State)
    (h : execClearEventRecords link log all handles s = .next t) : t.pending = s.pending ∧ t.ctl.mode = s.ctl.mode ∧ t.mem = s.mem ∧ t.nand.flash = s.nand.flash := by
  unfold execClearEventRecords State.mailbox at h; cases h; simp

theorem execGetEventInterruptPolicy_frame (link : Fin 4) (s : State) (t : State)
    (h : execGetEventInterruptPolicy link s = .next t) : t.pending = s.pending ∧ t.ctl.mode = s.ctl.mode ∧ t.mem = s.mem ∧ t.nand.flash = s.nand.flash := by
  unfold execGetEventInterruptPolicy State.report State.mailbox at h; cases h; simp

theorem execSetEventInterruptPolicy_frame (link : Fin 4) (vectors : Map Nat) (s : State) (t : State)
    (h : execSetEventInterruptPolicy link vectors s = .next t) : t.pending = s.pending ∧ t.ctl.mode = s.ctl.mode ∧ t.mem = s.mem ∧ t.nand.flash = s.nand.flash := by
  unfold execSetEventInterruptPolicy State.mailbox at h; cases h; simp

theorem execGetTimestamp_frame (link : Fin 4) (s : State) (t : State)
    (h : execGetTimestamp link s = .next t) : t.pending = s.pending ∧ t.ctl.mode = s.ctl.mode ∧ t.mem = s.mem ∧ t.nand.flash = s.nand.flash := by
  unfold execGetTimestamp State.report State.mailbox at h; cases h; simp

theorem execSetTimestamp_frame (link : Fin 4) (ns : Nat) (s : State) (t : State)
    (h : execSetTimestamp link ns s = .next t) : t.pending = s.pending ∧ t.ctl.mode = s.ctl.mode ∧ t.mem = s.mem ∧ t.nand.flash = s.nand.flash := by
  unfold execSetTimestamp State.mailbox at h; cases h; simp

theorem execGetLsa_frame (link : Fin 4) (offset length : Nat) (s : State) (t : State)
    (h : execGetLsa link offset length s = .next t) : t.pending = s.pending ∧ t.ctl.mode = s.ctl.mode ∧ t.mem = s.mem ∧ t.nand.flash = s.nand.flash := by
  unfold execGetLsa State.mailbox at h; cases h; simp

theorem execSetLsa_frame (link : Fin 4) (offset : Nat) (data : List Byte) (s : State) (t : State)
    (h : execSetLsa link offset data s = .next t) : t.pending = s.pending ∧ t.ctl.mode = s.ctl.mode ∧ t.mem = s.mem ∧ t.nand.flash = s.nand.flash := by
  unfold execSetLsa State.mailbox at h; cases h; simp

theorem execGetAlertConfiguration_frame (link : Fin 4) (s : State) (t : State)
    (h : execGetAlertConfiguration link s = .next t) : t.pending = s.pending ∧ t.ctl.mode = s.ctl.mode ∧ t.mem = s.mem ∧ t.nand.flash = s.nand.flash := by
  unfold execGetAlertConfiguration State.report State.mailbox at h; cases h; simp

theorem execSetAlertConfiguration_frame (link : Fin 4) (config : Nat) (s : State) (t : State)
    (h : execSetAlertConfiguration link config s = .next t) : t.pending = s.pending ∧ t.ctl.mode = s.ctl.mode ∧ t.mem = s.mem ∧ t.nand.flash = s.nand.flash := by
  unfold execSetAlertConfiguration State.mailbox at h; cases h; simp

theorem execGetShutdownState_frame (link : Fin 4) (s : State) (t : State)
    (h : execGetShutdownState link s = .next t) : t.pending = s.pending ∧ t.ctl.mode = s.ctl.mode ∧ t.mem = s.mem ∧ t.nand.flash = s.nand.flash := by
  unfold execGetShutdownState State.report State.mailbox at h; cases h; simp

theorem execSetShutdownState_frame (link : Fin 4) (state : Nat) (s : State) (t : State)
    (h : execSetShutdownState link state s = .next t) : t.pending = s.pending ∧ t.ctl.mode = s.ctl.mode ∧ t.mem = s.mem ∧ t.nand.flash = s.nand.flash := by
  unfold execSetShutdownState State.mailbox at h; cases h; simp

theorem execGetPoisonList_frame (link : Fin 4) (dpa length : Nat) (s : State) (t : State)
    (h : execGetPoisonList link dpa length s = .next t) : t.pending = s.pending ∧ t.ctl.mode = s.ctl.mode ∧ t.mem = s.mem ∧ t.nand.flash = s.nand.flash := by
  unfold execGetPoisonList State.mailbox at h; cases h; simp

@[simp] theorem State.mailWrite_frame (s : State) (link : Fin 4) (opcode dpa : Nat) (w : MemWrite) (src : PoisonSource) :
    (State.mailWrite s link opcode dpa w src).pending = s.pending ∧ (State.mailWrite s link opcode dpa w src).ctl.mode = s.ctl.mode ∧ (State.mailWrite s link opcode dpa w src).nand.flash = s.nand.flash := by
  simp [State.mailWrite]

@[simp] theorem State.mailWrite_wf_mem (s : State) (link : Fin 4) (opcode dpa : Nat) (w : MemWrite) (src : PoisonSource) (h : Mem.wf s.mem = true) :
    Mem.wf (State.mailWrite s link opcode dpa w src).mem = true := by
  unfold State.mailWrite; (try dsimp only); repeat' split
  all_goals simp (maxDischargeDepth := 40) [h]

theorem execInjectPoison_frame (link : Fin 4) (dpa : Nat) (stamp : BitVec 16) (s : State) (t : State)
    (h : execInjectPoison link dpa stamp s = .next t) : t.pending = s.pending ∧ t.ctl.mode = s.ctl.mode ∧ t.nand.flash = s.nand.flash := by
  unfold execInjectPoison State.mailbox at h; cases h; simp

theorem execInjectPoison_wf_mem (link : Fin 4) (dpa : Nat) (stamp : BitVec 16) (s : State) (t : State)
    (h : execInjectPoison link dpa stamp s = .next t) (hm : Mem.wf s.mem = true) : Mem.wf t.mem = true := by
  unfold execInjectPoison State.mailbox at h; cases h; (try dsimp only); repeat' split
  all_goals simp (maxDischargeDepth := 40) [hm]

theorem execClearPoison_frame (link : Fin 4) (dpa : Nat) (data : Data64) (stamp : BitVec 16) (s : State) (t : State)
    (h : execClearPoison link dpa data stamp s = .next t) : t.pending = s.pending ∧ t.ctl.mode = s.ctl.mode ∧ t.nand.flash = s.nand.flash := by
  unfold execClearPoison State.mailbox at h; cases h; simp

theorem execClearPoison_wf_mem (link : Fin 4) (dpa : Nat) (data : Data64) (stamp : BitVec 16) (s : State) (t : State)
    (h : execClearPoison link dpa data stamp s = .next t) (hm : Mem.wf s.mem = true) : Mem.wf t.mem = true := by
  unfold execClearPoison State.mailbox at h; cases h; (try dsimp only); repeat' split
  all_goals simp (maxDischargeDepth := 40) [hm]

theorem execScanMediaCapabilities_frame (link : Fin 4) (dpa length : Nat) (s : State) (t : State)
    (h : execScanMediaCapabilities link dpa length s = .next t) : t.pending = s.pending ∧ t.ctl.mode = s.ctl.mode ∧ t.mem = s.mem ∧ t.nand.flash = s.nand.flash := by
  unfold execScanMediaCapabilities State.mailbox at h; cases h; simp

@[simp] theorem State.startBackground_frame (s : State) (i opcode : Nat) :
    (State.startBackground s i opcode).pending = s.pending ∧ (State.startBackground s i opcode).ctl.mode = s.ctl.mode ∧ (State.startBackground s i opcode).mem = s.mem ∧ (State.startBackground s i opcode).nand.flash = s.nand.flash := by
  simp [State.startBackground]

@[simp] theorem State.endBackground_frame (s : State) (i opcode : Nat) :
    (State.endBackground s i opcode).pending = s.pending ∧ (State.endBackground s i opcode).ctl.mode = s.ctl.mode ∧ (State.endBackground s i opcode).mem = s.mem ∧ (State.endBackground s i opcode).nand.flash = s.nand.flash := by
  simp [State.endBackground]

theorem execScanMedia_frame (link : Fin 4) (dpa length : Nat) (s : State) (t : State)
    (h : execScanMedia link dpa length s = .next t) : t.pending = s.pending ∧ t.ctl.mode = s.ctl.mode ∧ t.mem = s.mem ∧ t.nand.flash = s.nand.flash := by
  unfold execScanMedia State.mailbox at h; cases h; simp

theorem execScanMediaComplete_frame (link : Fin 4) (s : State) (t : State)
    (h : execScanMediaComplete link s = .next t) : t.pending = s.pending ∧ t.ctl.mode = s.ctl.mode ∧ t.mem = s.mem ∧ t.nand.flash = s.nand.flash := by
  unfold execScanMediaComplete at h; cases h; (try dsimp only); refine ⟨?_, ?_, ?_, ?_⟩ <;> (repeat' split) <;> simp

theorem execGetScanMediaResults_frame (link : Fin 4) (s : State) (t : State)
    (h : execGetScanMediaResults link s = .next t) : t.pending = s.pending ∧ t.ctl.mode = s.ctl.mode ∧ t.mem = s.mem ∧ t.nand.flash = s.nand.flash := by
  unfold execGetScanMediaResults State.mailbox at h; cases h; simp

@[simp] theorem State.sanitizeBegin_frame (s : State) :
    (State.sanitizeBegin s).pending = s.pending ∧ (State.sanitizeBegin s).ctl.mode = s.ctl.mode ∧ (State.sanitizeBegin s).mem = s.mem ∧ (State.sanitizeBegin s).nand.flash = s.nand.flash := by
  simp [State.sanitizeBegin]

@[simp] theorem State.wakeComplete_frame (s : State) (us : Nat) :
    (State.wakeComplete s us).pending = s.pending ∧ (State.wakeComplete s us).nand.flash = s.nand.flash := by
  simp [State.wakeComplete]

@[simp] theorem State.wakeComplete_wf_mem (s : State) (us : Nat) (h : Mem.wf s.mem = true) :
    Mem.wf (State.wakeComplete s us).mem = true := by
  simp (maxDischargeDepth := 40) [State.wakeComplete, h]

theorem execWakeComplete_frame (us : Nat) (s : State) (t : State)
    (h : execWakeComplete us s = .next t) : t.pending = s.pending ∧ t.nand.flash = s.nand.flash := by
  unfold execWakeComplete at h; cases h; simp

theorem execWakeComplete_wf_mem (us : Nat) (s : State) (t : State)
    (h : execWakeComplete us s = .next t) (hm : Mem.wf s.mem = true) : Mem.wf t.mem = true := by
  unfold execWakeComplete at h; cases h; (try dsimp only); repeat' split
  all_goals simp (maxDischargeDepth := 40) [hm]

theorem execSanitize_frame (link : Fin 4) (s : State) (t : State)
    (h : execSanitize link s = .next t) : t.pending = s.pending ∧ t.ctl.mode = s.ctl.mode ∧ t.mem = s.mem ∧ t.nand.flash = s.nand.flash := by
  unfold execSanitize State.mailbox at h; cases h; simp

@[simp] theorem State.zeroData_frame (s : State) :
    (State.zeroData s).pending = s.pending ∧ (State.zeroData s).ctl.mode = s.ctl.mode ∧ (State.zeroData s).nand.flash = s.nand.flash := by
  simp [State.zeroData]

@[simp] theorem State.zeroData_wf_mem (s : State) (h : Mem.wf s.mem = true) :
    Mem.wf (State.zeroData s).mem = true := by
  simp (maxDischargeDepth := 40) [State.zeroData, h]

@[simp] theorem State.eraseData_frame (s : State) :
    (State.eraseData s).pending = s.pending ∧ (State.eraseData s).ctl.mode = s.ctl.mode ∧ (State.eraseData s).nand.flash = s.nand.flash := by
  simp [State.eraseData]

@[simp] theorem State.eraseData_wf_mem (s : State) (h : Mem.wf s.mem = true) :
    Mem.wf (State.eraseData s).mem = true := by
  simp (maxDischargeDepth := 40) [State.eraseData, h]

@[simp] theorem State.serveEmptied_frame (s : State) :
    (State.serveEmptied s).pending = s.pending ∧ (State.serveEmptied s).ctl.mode = s.ctl.mode ∧ (State.serveEmptied s).nand.flash = s.nand.flash := by
  simp [State.serveEmptied]

@[simp] theorem State.serveEmptied_wf_mem (s : State) (h : Mem.wf s.mem = true) :
    Mem.wf (State.serveEmptied s).mem = true := by
  simp (maxDischargeDepth := 40) [State.serveEmptied, h]

theorem execSanitizeComplete_frame (s : State) (t : State)
    (h : execSanitizeComplete s = .next t) : t.pending = s.pending ∧ t.ctl.mode = s.ctl.mode ∧ t.nand.flash = s.nand.flash := by
  unfold execSanitizeComplete at h; cases h; (try dsimp only); refine ⟨?_, ?_, ?_⟩ <;> (repeat' split) <;> simp

theorem execSanitizeComplete_wf_mem (s : State) (t : State)
    (h : execSanitizeComplete s = .next t) (hm : Mem.wf s.mem = true) : Mem.wf t.mem = true := by
  unfold execSanitizeComplete at h; cases h; (try dsimp only); repeat' split
  all_goals simp (maxDischargeDepth := 40) [hm]

theorem execSecureErase_frame (link : Fin 4) (s : State) (t : State)
    (h : execSecureErase link s = .next t) : t.pending = s.pending ∧ t.ctl.mode = s.ctl.mode ∧ t.mem = s.mem ∧ t.nand.flash = s.nand.flash := by
  unfold execSecureErase State.unsupported State.mailbox at h; cases h; simp

theorem execGetSecurityState_frame (link : Fin 4) (s : State) (t : State)
    (h : execGetSecurityState link s = .next t) : t.pending = s.pending ∧ t.ctl.mode = s.ctl.mode ∧ t.mem = s.mem ∧ t.nand.flash = s.nand.flash := by
  unfold execGetSecurityState State.report State.mailbox at h; cases h; simp

theorem execSetPassphrase_frame (link : Fin 4) (master : Bool) (current new : Nat) (s : State) (t : State)
    (h : execSetPassphrase link master current new s = .next t) : t.pending = s.pending ∧ t.ctl.mode = s.ctl.mode ∧ t.mem = s.mem ∧ t.nand.flash = s.nand.flash := by
  unfold execSetPassphrase State.mailbox at h; cases h; simp

theorem execDisablePassphrase_frame (link : Fin 4) (master : Bool) (current : Nat) (s : State) (t : State)
    (h : execDisablePassphrase link master current s = .next t) : t.pending = s.pending ∧ t.ctl.mode = s.ctl.mode ∧ t.mem = s.mem ∧ t.nand.flash = s.nand.flash := by
  unfold execDisablePassphrase State.mailbox at h; cases h; simp

@[simp] theorem State.unlock_frame (s : State) :
    (State.unlock s).pending = s.pending ∧ (State.unlock s).ctl.mode = s.ctl.mode ∧ (State.unlock s).mem = s.mem ∧ (State.unlock s).nand.flash = s.nand.flash := by
  exact ⟨rfl, rfl, rfl, rfl⟩

theorem execUnlockDevice_frame (link : Fin 4) (passphrase : Nat) (s : State) (t : State)
    (h : execUnlockDevice link passphrase s = .next t) : t.pending = s.pending ∧ t.ctl.mode = s.ctl.mode ∧ t.mem = s.mem ∧ t.nand.flash = s.nand.flash := by
  unfold execUnlockDevice State.mailbox at h; cases h; simp

theorem execFreezeSecurityState_frame (link : Fin 4) (s : State) (t : State)
    (h : execFreezeSecurityState link s = .next t) : t.pending = s.pending ∧ t.ctl.mode = s.ctl.mode ∧ t.mem = s.mem ∧ t.nand.flash = s.nand.flash := by
  unfold execFreezeSecurityState State.mailbox at h; cases h; simp

theorem execPassphraseSecureErase_frame (link : Fin 4) (master : Bool) (passphrase : Nat) (s : State) (t : State)
    (h : execPassphraseSecureErase link master passphrase s = .next t) : t.pending = s.pending ∧ t.ctl.mode = s.ctl.mode ∧ t.nand.flash = s.nand.flash := by
  unfold execPassphraseSecureErase State.mailbox at h; cases h; simp

theorem execPassphraseSecureErase_wf_mem (link : Fin 4) (master : Bool) (passphrase : Nat) (s : State) (t : State)
    (h : execPassphraseSecureErase link master passphrase s = .next t) (hm : Mem.wf s.mem = true) : Mem.wf t.mem = true := by
  unfold execPassphraseSecureErase State.mailbox at h; cases h; (try dsimp only); repeat' split
  all_goals simp (maxDischargeDepth := 40) [hm]

end Sys2Proof.Machine
end

