-- ==== Sys2Proof/Laws/Trestle.lean ====
section
/-! SUPPORT. What the operations and commands of Machine/Trestle.lean keep: the queue, and the mode, the bytes of DRAM and of
flash, or the canonical form of those bytes. -/

namespace Sys2Proof.Machine

@[simp] theorem State.enterService_frame (s : State) (p : Nat) :
    (State.enterService s p).pending = s.pending ∧ (State.enterService s p).ctl.mode = s.ctl.mode ∧ (State.enterService s p).mem = s.mem ∧ (State.enterService s p).nand.flash = s.nand.flash := by
  simp [State.enterService]

@[simp] theorem State.portTrained_frame (s : State) (p delayNs : Nat) (hello : Hello) :
    (State.portTrained s p delayNs hello).pending = s.pending ∧ (State.portTrained s p delayNs hello).ctl.mode = s.ctl.mode ∧ (State.portTrained s p delayNs hello).mem = s.mem ∧ (State.portTrained s p delayNs hello).nand.flash = s.nand.flash := by
  simp [State.portTrained]

@[simp] theorem State.portHello_frame (s : State) (p : Nat) (hello : Hello) :
    (State.portHello s p hello).pending = s.pending ∧ (State.portHello s p hello).ctl.mode = s.ctl.mode ∧ (State.portHello s p hello).mem = s.mem ∧ (State.portHello s p hello).nand.flash = s.nand.flash := by
  simp [State.portHello]

theorem execTrestleLinkTrained_frame (port : Fin 2) (delayNs : Nat) (hello : Hello) (s : State) (t : State)
    (h : execTrestleLinkTrained port delayNs hello s = .next t) : t.pending = s.pending ∧ t.ctl.mode = s.ctl.mode ∧ t.mem = s.mem ∧ t.nand.flash = s.nand.flash := by
  unfold execTrestleLinkTrained at h; cases h; simp

@[simp] theorem State.portEnable_frame (s : State) (p v : Nat) :
    (State.portEnable s p v).pending = s.pending ∧ (State.portEnable s p v).ctl.mode = s.ctl.mode ∧ (State.portEnable s p v).mem = s.mem ∧ (State.portEnable s p v).nand.flash = s.nand.flash := by
  refine ⟨?_, ?_, ?_, ?_⟩ <;> (unfold State.portEnable; (try dsimp only); repeat' split) <;> simp

theorem execTrestleShutdownComplete_frame (port : Fin 2) (s : State) (t : State)
    (h : execTrestleShutdownComplete port s = .next t) : t.pending = s.pending ∧ t.ctl.mode = s.ctl.mode ∧ t.mem = s.mem ∧ t.nand.flash = s.nand.flash := by
  unfold execTrestleShutdownComplete at h; cases h; (try dsimp only); refine ⟨?_, ?_, ?_, ?_⟩ <;> (repeat' split) <;> simp

@[simp] theorem State.wrapPort_frame (s : State) (p : Nat) :
    (State.wrapPort s p).pending = s.pending ∧ (State.wrapPort s p).ctl.mode = s.ctl.mode ∧ (State.wrapPort s p).mem = s.mem ∧ (State.wrapPort s p).nand.flash = s.nand.flash := by
  simp [State.wrapPort]

@[simp] theorem State.frameStart_frame (s : State) (p bad : Nat) :
    (State.frameStart s p bad).pending = s.pending ∧ (State.frameStart s p bad).ctl.mode = s.ctl.mode ∧ (State.frameStart s p bad).mem = s.mem ∧ (State.frameStart s p bad).nand.flash = s.nand.flash := by
  simp [State.frameStart]

@[simp] theorem State.linkBeat_frame (s : State) :
    (State.linkBeat s).pending = s.pending ∧ (State.linkBeat s).ctl.mode = s.ctl.mode ∧ (State.linkBeat s).mem = s.mem ∧ (State.linkBeat s).nand.flash = s.nand.flash := by
  simp [State.linkBeat]

theorem execTrestleWrap_frame (port : Fin 2) (s : State) (t : State)
    (h : execTrestleWrap port s = .next t) : t.pending = s.pending ∧ t.ctl.mode = s.ctl.mode ∧ t.mem = s.mem ∧ t.nand.flash = s.nand.flash := by
  unfold execTrestleWrap at h; cases h; simp

@[simp] theorem State.unwrapPort_frame (s : State) (p : Nat) :
    (State.unwrapPort s p).pending = s.pending ∧ (State.unwrapPort s p).ctl.mode = s.ctl.mode ∧ (State.unwrapPort s p).mem = s.mem ∧ (State.unwrapPort s p).nand.flash = s.nand.flash := by
  simp [State.unwrapPort]

theorem execTrestleUnwrap_frame (port : Fin 2) (s : State) (t : State)
    (h : execTrestleUnwrap port s = .next t) : t.pending = s.pending ∧ t.ctl.mode = s.ctl.mode ∧ t.mem = s.mem ∧ t.nand.flash = s.nand.flash := by
  unfold execTrestleUnwrap at h; cases h; simp

@[simp] theorem insertCells_frame (port : Fin 2) (ns : List Nat) (x : State × Map Cell) :
    (insertCells port ns x).1.pending = x.1.pending ∧ (insertCells port ns x).1.ctl.mode = x.1.ctl.mode
      ∧ (insertCells port ns x).1.mem = x.1.mem ∧ (insertCells port ns x).1.nand.flash = x.1.nand.flash := by
  induction ns generalizing x with
  | nil => exact ⟨rfl, rfl, rfl, rfl⟩
  | cons n ns ih =>
    obtain ⟨s, cells⟩ := x
    unfold insertCells
    split
    · exact ⟨rfl, rfl, rfl, rfl⟩
    · simp only [ih]
      split <;> simp

@[simp] theorem State.retransmit_frame (s : State) (f : Flight) (untaken : List Nat) :
    (State.retransmit s f untaken).pending = s.pending ∧ (State.retransmit s f untaken).ctl.mode = s.ctl.mode ∧ (State.retransmit s f untaken).mem = s.mem ∧ (State.retransmit s f untaken).nand.flash = s.nand.flash := by
  simp [State.retransmit]

@[simp] theorem State.cellReturned_frame (s : State) (f : Flight) (taken : Nat) :
    (State.cellReturned s f taken).pending = s.pending ∧ (State.cellReturned s f taken).ctl.mode = s.ctl.mode ∧ (State.cellReturned s f taken).mem = s.mem ∧ (State.cellReturned s f taken).nand.flash = s.nand.flash := by
  simp [State.cellReturned]

theorem execCellRetransmitTimeout_frame (seq : Nat) (s : State) (t : State)
    (h : execCellRetransmitTimeout seq s = .next t) : t.pending = s.pending ∧ t.ctl.mode = s.ctl.mode ∧ t.mem = s.mem ∧ t.nand.flash = s.nand.flash := by
  unfold execCellRetransmitTimeout at h; cases h; (try dsimp only); refine ⟨?_, ?_, ?_, ?_⟩ <;> (repeat' split) <;> simp

@[simp] theorem State.followTime_frame (s : State) (set : Bool) (wallNs : Int) (delayNs : Nat) :
    (State.followTime s set wallNs delayNs).pending = s.pending ∧ (State.followTime s set wallNs delayNs).ctl.mode = s.ctl.mode ∧ (State.followTime s set wallNs delayNs).mem = s.mem ∧ (State.followTime s set wallNs delayNs).nand.flash = s.nand.flash := by
  simp [State.followTime]

@[simp] theorem State.takeWake_frame (s : State) :
    (State.takeWake s).pending = s.pending ∧ (State.takeWake s).ctl.mode = s.ctl.mode ∧ (State.takeWake s).mem = s.mem ∧ (State.takeWake s).nand.flash = s.nand.flash := by
  simp [State.takeWake]

@[simp] theorem State.takeSegment_frame (s : State) (source : Nat) (response : Bool) (tag seg count data : Nat) :
    (State.takeSegment s source response tag seg count data).pending = s.pending ∧ (State.takeSegment s source response tag seg count data).ctl.mode = s.ctl.mode ∧ (State.takeSegment s source response tag seg count data).mem = s.mem ∧ (State.takeSegment s source response tag seg count data).nand.flash = s.nand.flash := by
  simp [State.takeSegment]

@[simp] theorem State.dropPartials_frame (s : State) :
    (State.dropPartials s).pending = s.pending ∧ (State.dropPartials s).ctl.mode = s.ctl.mode ∧ (State.dropPartials s).mem = s.mem ∧ (State.dropPartials s).nand.flash = s.nand.flash := by
  exact ⟨rfl, rfl, rfl, rfl⟩

@[simp] theorem State.deliverCell_frame (s : State) (c : Cell) (wire : BitVec 32) (pathPs : Nat) :
    (State.deliverCell s c wire pathPs).pending = s.pending ∧ (State.deliverCell s c wire pathPs).ctl.mode = s.ctl.mode ∧ (State.deliverCell s c wire pathPs).nand.flash = s.nand.flash := by
  refine ⟨?_, ?_, ?_⟩ <;> (unfold State.deliverCell; (try dsimp only); repeat' split) <;> simp

@[simp] theorem State.deliverCell_wf_mem (s : State) (c : Cell) (wire : BitVec 32) (pathPs : Nat) (h : Mem.wf s.mem = true) :
    Mem.wf (State.deliverCell s c wire pathPs).mem = true := by
  unfold State.deliverCell; (try dsimp only); repeat' split
  all_goals simp (maxDischargeDepth := 40) [h]

@[simp] theorem State.takeCell_frame (s : State) (c : Cell) (k : Nat) (wire : BitVec 32) (pathPs : Nat) :
    (State.takeCell s c k wire pathPs).1.pending = s.pending ∧ (State.takeCell s c k wire pathPs).1.ctl.mode = s.ctl.mode ∧ (State.takeCell s c k wire pathPs).1.nand.flash = s.nand.flash := by
  refine ⟨?_, ?_, ?_⟩ <;> (unfold State.takeCell; (try dsimp only); repeat' split) <;> simp

@[simp] theorem State.takeCell_wf_mem (s : State) (c : Cell) (k : Nat) (wire : BitVec 32) (pathPs : Nat) (h : Mem.wf s.mem = true) :
    Mem.wf (State.takeCell s c k wire pathPs).1.mem = true := by
  unfold State.takeCell; (try dsimp only); repeat' split
  all_goals simp (maxDischargeDepth := 40) [h]

@[simp] theorem State.passCell_frame (s : State) (f : Frame) (n : Nat) (c : Cell) :
    (State.passCell s f n c).1.pending = s.pending ∧ (State.passCell s f n c).1.ctl.mode = s.ctl.mode ∧ (State.passCell s f n c).1.nand.flash = s.nand.flash := by
  refine ⟨?_, ?_, ?_⟩ <;> (unfold State.passCell; (try dsimp only); repeat' split) <;> simp

@[simp] theorem State.passCell_wf_mem (s : State) (f : Frame) (n : Nat) (c : Cell) (h : Mem.wf s.mem = true) :
    Mem.wf (State.passCell s f n c).1.mem = true := by
  unfold State.passCell; (try dsimp only); repeat' split
  all_goals simp (maxDischargeDepth := 40) [h]

@[simp] theorem State.passCells_frame (s : State) (f : Frame) :
    (s.passCells f).1.pending = s.pending ∧ (s.passCells f).1.ctl.mode = s.ctl.mode
      ∧ (s.passCells f).1.nand.flash = s.nand.flash := by
  unfold State.passCells
  suffices h : ∀ (l : List (Nat × Cell)) (a : State × Map Cell),
      ((l.foldl (fun (a : State × Map Cell) (e : Nat × Cell) =>
        ((a.1.passCell f e.1 e.2).1, match (a.1.passCell f e.1 e.2).2 with | some c => a.2.put e.1 c | none => a.2)) a).1.pending
          = a.1.pending ∧
       (l.foldl (fun (a : State × Map Cell) (e : Nat × Cell) =>
        ((a.1.passCell f e.1 e.2).1, match (a.1.passCell f e.1 e.2).2 with | some c => a.2.put e.1 c | none => a.2)) a).1.ctl.mode
          = a.1.ctl.mode ∧
       (l.foldl (fun (a : State × Map Cell) (e : Nat × Cell) =>
        ((a.1.passCell f e.1 e.2).1, match (a.1.passCell f e.1 e.2).2 with | some c => a.2.put e.1 c | none => a.2)) a).1.nand.flash
          = a.1.nand.flash) from h f.cells (s, [])
  intro l
  induction l with
  | nil => intro a; exact ⟨rfl, rfl, rfl⟩
  | cons e l ih => intro a; rw [List.foldl_cons]; obtain ⟨h1, h2, h3⟩ := ih _; rw [h1, h2, h3]; simp

@[simp] theorem State.passCells_wf_mem (s : State) (f : Frame) (h : Mem.wf s.mem = true) :
    Mem.wf (s.passCells f).1.mem = true := by
  unfold State.passCells
  suffices h : ∀ (l : List (Nat × Cell)) (a : State × Map Cell), Mem.wf a.1.mem = true →
      Mem.wf (l.foldl (fun (a : State × Map Cell) (e : Nat × Cell) =>
        ((a.1.passCell f e.1 e.2).1, match (a.1.passCell f e.1 e.2).2 with | some c => a.2.put e.1 c | none => a.2)) a).1.mem
          = true from h f.cells (s, []) (by assumption)
  intro l
  induction l with
  | nil => exact fun _ h => h
  | cons e l ih => intro a ha; rw [List.foldl_cons]; exact ih _ (by simp [ha])

@[simp] theorem State.fleetAlarm_frame (s : State) (m : Nat) :
    (State.fleetAlarm s m).pending = s.pending ∧ (State.fleetAlarm s m).ctl.mode = s.ctl.mode ∧ (State.fleetAlarm s m).mem = s.mem ∧ (State.fleetAlarm s m).nand.flash = s.nand.flash := by
  simp [State.fleetAlarm]

@[simp] theorem State.noteAbsences_frame (s : State) :
    (State.noteAbsences s).pending = s.pending ∧ (State.noteAbsences s).ctl.mode = s.ctl.mode ∧ (State.noteAbsences s).mem = s.mem ∧ (State.noteAbsences s).nand.flash = s.nand.flash := by
  exact ⟨rfl, rfl, rfl, rfl⟩

@[simp] theorem State.receiveRoll_frame (s : State) (f : Frame) :
    (State.receiveRoll s f).pending = s.pending ∧ (State.receiveRoll s f).ctl.mode = s.ctl.mode ∧ (State.receiveRoll s f).mem = s.mem ∧ (State.receiveRoll s f).nand.flash = s.nand.flash := by
  simp [State.receiveRoll]

@[simp] theorem State.duplicateMember_frame (s : State) :
    (State.duplicateMember s).pending = s.pending ∧ (State.duplicateMember s).ctl.mode = s.ctl.mode ∧ (State.duplicateMember s).mem = s.mem ∧ (State.duplicateMember s).nand.flash = s.nand.flash := by
  simp [State.duplicateMember]

@[simp] theorem State.notePosition_frame (s : State) (f : Frame) :
    (State.notePosition s f).pending = s.pending ∧ (State.notePosition s f).ctl.mode = s.ctl.mode ∧ (State.notePosition s f).mem = s.mem ∧ (State.notePosition s f).nand.flash = s.nand.flash := by
  simp [State.notePosition]

@[simp] theorem State.noteOffset_frame (s : State) (f : Frame) :
    (State.noteOffset s f).pending = s.pending ∧ (State.noteOffset s f).ctl.mode = s.ctl.mode ∧ (State.noteOffset s f).mem = s.mem ∧ (State.noteOffset s f).nand.flash = s.nand.flash := by
  simp [State.noteOffset]

@[simp] theorem State.noteFrame_frame (s : State) (f : Frame) :
    (State.noteFrame s f).pending = s.pending ∧ (State.noteFrame s f).ctl.mode = s.ctl.mode ∧ (State.noteFrame s f).mem = s.mem ∧ (State.noteFrame s f).nand.flash = s.nand.flash := by
  exact ⟨rfl, rfl, rfl, rfl⟩

@[simp] theorem State.joinFrame_frame (s : State) (f : Frame) :
    (State.joinFrame s f).pending = s.pending ∧ (State.joinFrame s f).ctl.mode = s.ctl.mode ∧ (State.joinFrame s f).nand.flash = s.nand.flash := by
  refine ⟨?_, ?_, ?_⟩ <;> (unfold State.joinFrame; (try dsimp only); repeat' split) <;> simp

@[simp] theorem State.joinFrame_wf_mem (s : State) (f : Frame) (h : Mem.wf s.mem = true) :
    Mem.wf (State.joinFrame s f).mem = true := by
  unfold State.joinFrame; (try dsimp only); repeat' split
  all_goals simp (maxDischargeDepth := 40) [h]

@[simp] theorem State.forwardFrame_frame (s : State) (f : Frame) :
    (State.forwardFrame s f).pending = s.pending ∧ (State.forwardFrame s f).ctl.mode = s.ctl.mode ∧ (State.forwardFrame s f).mem = s.mem ∧ (State.forwardFrame s f).nand.flash = s.nand.flash := by
  exact ⟨rfl, rfl, rfl, rfl⟩

@[simp] theorem State.framePass_frame (s : State) (f : Frame) :
    (State.framePass s f).pending = s.pending ∧ (State.framePass s f).ctl.mode = s.ctl.mode ∧ (State.framePass s f).nand.flash = s.nand.flash := by
  simp [State.framePass]

@[simp] theorem State.framePass_wf_mem (s : State) (f : Frame) (h : Mem.wf s.mem = true) :
    Mem.wf (State.framePass s f).mem = true := by
  unfold State.framePass; (try dsimp only); repeat' split
  all_goals simp (maxDischargeDepth := 40) [h]

@[simp] theorem State.frameReturn_frame (s : State) (f : Frame) (lapNs : Nat) :
    (State.frameReturn s f lapNs).pending = s.pending ∧ (State.frameReturn s f lapNs).ctl.mode = s.ctl.mode ∧ (State.frameReturn s f lapNs).nand.flash = s.nand.flash := by
  simp [State.frameReturn]

@[simp] theorem State.frameReturn_wf_mem (s : State) (f : Frame) (lapNs : Nat) (h : Mem.wf s.mem = true) :
    Mem.wf (State.frameReturn s f lapNs).mem = true := by
  simp (maxDischargeDepth := 40) [State.frameReturn, h]

@[simp] theorem State.issueFrame_frame (ringB : Bool) (s : State) :
    (State.issueFrame ringB s).pending = s.pending ∧ (State.issueFrame ringB s).ctl.mode = s.ctl.mode ∧ (State.issueFrame ringB s).mem = s.mem ∧ (State.issueFrame ringB s).nand.flash = s.nand.flash := by
  refine ⟨?_, ?_, ?_, ?_⟩ <;> (unfold State.issueFrame; (try dsimp only); repeat' split) <;> simp

@[simp] theorem State.issueFrames_frame (s : State) :
    (State.issueFrames s).pending = s.pending ∧ (State.issueFrames s).ctl.mode = s.ctl.mode ∧ (State.issueFrames s).mem = s.mem ∧ (State.issueFrames s).nand.flash = s.nand.flash := by
  refine ⟨?_, ?_, ?_, ?_⟩ <;> (unfold State.issueFrames; (try dsimp only); repeat' split) <;> simp

@[simp] theorem State.becomeMaster_frame (s : State) :
    (State.becomeMaster s).pending = s.pending ∧ (State.becomeMaster s).ctl.mode = s.ctl.mode ∧ (State.becomeMaster s).mem = s.mem ∧ (State.becomeMaster s).nand.flash = s.nand.flash := by
  exact ⟨rfl, rfl, rfl, rfl⟩

@[simp] theorem State.takeover_frame (s : State) :
    (State.takeover s).pending = s.pending ∧ (State.takeover s).ctl.mode = s.ctl.mode ∧ (State.takeover s).mem = s.mem ∧ (State.takeover s).nand.flash = s.nand.flash := by
  simp [State.takeover]

theorem execMasterTakeover_frame (s : State) (t : State)
    (h : execMasterTakeover s = .next t) : t.pending = s.pending ∧ t.ctl.mode = s.ctl.mode ∧ t.mem = s.mem ∧ t.nand.flash = s.nand.flash := by
  unfold execMasterTakeover at h; cases h; (try dsimp only); refine ⟨?_, ?_, ?_, ?_⟩ <;> (repeat' split) <;> simp

theorem execStartupFrameTimeout_frame (s : State) (t : State)
    (h : execStartupFrameTimeout s = .next t) : t.pending = s.pending ∧ t.ctl.mode = s.ctl.mode ∧ t.mem = s.mem ∧ t.nand.flash = s.nand.flash := by
  unfold execStartupFrameTimeout at h; cases h; simp

theorem execTimeSyncSend_frame (s : State) (t : State)
    (h : execTimeSyncSend s = .next t) : t.pending = s.pending ∧ t.ctl.mode = s.ctl.mode ∧ t.mem = s.mem ∧ t.nand.flash = s.nand.flash := by
  unfold execTimeSyncSend at h; cases h; simp

theorem execTimeSyncReceived_frame (source : Nat) (_wire : BitVec 32) (wallNs : Int) (set : Bool) (delayNs : Nat) (s : State) (t : State)
    (h : execTimeSyncReceived source _wire wallNs set delayNs s = .next t) : t.pending = s.pending ∧ t.ctl.mode = s.ctl.mode ∧ t.mem = s.mem ∧ t.nand.flash = s.nand.flash := by
  unfold execTimeSyncReceived at h; cases h; simp

theorem execWakeCellReceived_frame (source _reason : Nat) (s : State) (t : State)
    (h : execWakeCellReceived source _reason s = .next t) : t.pending = s.pending ∧ t.ctl.mode = s.ctl.mode ∧ t.mem = s.mem ∧ t.nand.flash = s.nand.flash := by
  unfold execWakeCellReceived at h; cases h; simp

@[simp] theorem State.trestleStart_frame (s : State) :
    (State.trestleStart s).pending = s.pending ∧ (State.trestleStart s).ctl.mode = s.ctl.mode ∧ (State.trestleStart s).mem = s.mem ∧ (State.trestleStart s).nand.flash = s.nand.flash := by
  exact ⟨rfl, rfl, rfl, rfl⟩

@[simp] theorem State.trestleRestart_frame (s : State) :
    (State.trestleRestart s).pending = s.pending ∧ (State.trestleRestart s).ctl.mode = s.ctl.mode ∧ (State.trestleRestart s).mem = s.mem ∧ (State.trestleRestart s).nand.flash = s.nand.flash := by
  exact ⟨rfl, rfl, rfl, rfl⟩

@[simp] theorem State.trestleStop_frame (s : State) :
    (State.trestleStop s).pending = s.pending ∧ (State.trestleStop s).ctl.mode = s.ctl.mode ∧ (State.trestleStop s).mem = s.mem ∧ (State.trestleStop s).nand.flash = s.nand.flash := by
  exact ⟨rfl, rfl, rfl, rfl⟩

end Sys2Proof.Machine
end

