-- ==== Sys2Proof/Laws/Eflash.lean ====
section
/-! SUPPORT. What the operations and commands of Machine/Eflash.lean keep: the queue, and the mode, the bytes of DRAM and of
flash, or the canonical form of those bytes. -/

namespace Sys2Proof.Machine

@[simp] theorem State.setBank_frame (s : State) (b : Nat) (x : Bank) :
    (State.setBank s b x).pending = s.pending ∧ (State.setBank s b x).ctl.mode = s.ctl.mode ∧ (State.setBank s b x).mem = s.mem ∧ (State.setBank s b x).nand.flash = s.nand.flash := by
  exact ⟨rfl, rfl, rfl, rfl⟩

@[simp] theorem State.setSlotOf_frame (s : State) (b : Nat) (x : ImageSlot) :
    (State.setSlotOf s b x).pending = s.pending ∧ (State.setSlotOf s b x).ctl.mode = s.ctl.mode ∧ (State.setSlotOf s b x).mem = s.mem ∧ (State.setSlotOf s b x).nand.flash = s.nand.flash := by
  exact ⟨rfl, rfl, rfl, rfl⟩

@[simp] theorem State.stick_frame (s : State) (b : Nat) (bits : BitVec 32) :
    (State.stick s b bits).pending = s.pending ∧ (State.stick s b bits).ctl.mode = s.ctl.mode ∧ (State.stick s b bits).mem = s.mem ∧ (State.stick s b bits).nand.flash = s.nand.flash := by
  exact ⟨rfl, rfl, rfl, rfl⟩

@[simp] theorem State.brownoutBlock_frame (s : State) (b : Nat) :
    (State.brownoutBlock s b).pending = s.pending ∧ (State.brownoutBlock s b).ctl.mode = s.ctl.mode ∧ (State.brownoutBlock s b).mem = s.mem ∧ (State.brownoutBlock s b).nand.flash = s.nand.flash := by
  exact ⟨rfl, rfl, rfl, rfl⟩

@[simp] theorem State.wornCheck_frame (s : State) (b sector : Nat) :
    (State.wornCheck s b sector).pending = s.pending ∧ (State.wornCheck s b sector).ctl.mode = s.ctl.mode ∧ (State.wornCheck s b sector).mem = s.mem ∧ (State.wornCheck s b sector).nand.flash = s.nand.flash := by
  simp [State.wornCheck]

@[simp] theorem State.spoolErased_frame (s : State) (b sector : Nat) :
    (State.spoolErased s b sector).pending = s.pending ∧ (State.spoolErased s b sector).ctl.mode = s.ctl.mode ∧ (State.spoolErased s b sector).mem = s.mem ∧ (State.spoolErased s b sector).nand.flash = s.nand.flash := by
  simp [State.spoolErased]

@[simp] theorem State.sectorErased_frame (s : State) (b sector : Nat) :
    (State.sectorErased s b sector).pending = s.pending ∧ (State.sectorErased s b sector).ctl.mode = s.ctl.mode ∧ (State.sectorErased s b sector).mem = s.mem ∧ (State.sectorErased s b sector).nand.flash = s.nand.flash := by
  simp [State.sectorErased]

@[simp] theorem State.mainErased_frame (s : State) (b : Nat) :
    (State.mainErased s b).pending = s.pending ∧ (State.mainErased s b).ctl.mode = s.ctl.mode ∧ (State.mainErased s b).mem = s.mem ∧ (State.mainErased s b).nand.flash = s.nand.flash := by
  simp [State.mainErased]

@[simp] theorem State.scramble_frame (s : State) (b : Nat) (units : List Nat) :
    (State.scramble s b units).pending = s.pending ∧ (State.scramble s b units).ctl.mode = s.ctl.mode ∧ (State.scramble s b units).mem = s.mem ∧ (State.scramble s b units).nand.flash = s.nand.flash := by
  exact ⟨rfl, rfl, rfl, rfl⟩

@[simp] theorem State.unlocked_frame (s : State) (b : Nat) :
    (State.unlocked s b).pending = s.pending ∧ (State.unlocked s b).ctl.mode = s.ctl.mode ∧ (State.unlocked s b).mem = s.mem ∧ (State.unlocked s b).nand.flash = s.nand.flash := by
  exact ⟨rfl, rfl, rfl, rfl⟩

@[simp] theorem State.seqErr_frame (s : State) (b : Nat) :
    (State.seqErr s b).pending = s.pending ∧ (State.seqErr s b).ctl.mode = s.ctl.mode ∧ (State.seqErr s b).mem = s.mem ∧ (State.seqErr s b).nand.flash = s.nand.flash := by
  exact ⟨rfl, rfl, rfl, rfl⟩

@[simp] theorem State.openSequence_frame (s : State) (b : Nat) (q : FlashSeq) :
    (State.openSequence s b q).pending = s.pending ∧ (State.openSequence s b q).ctl.mode = s.ctl.mode ∧ (State.openSequence s b q).mem = s.mem ∧ (State.openSequence s b q).nand.flash = s.nand.flash := by
  exact ⟨rfl, rfl, rfl, rfl⟩

@[simp] theorem State.startProgram_frame (s : State) (b : Nat) (stores : Map (BitVec 64)) :
    (State.startProgram s b stores).pending = s.pending ∧ (State.startProgram s b stores).ctl.mode = s.ctl.mode ∧ (State.startProgram s b stores).mem = s.mem ∧ (State.startProgram s b stores).nand.flash = s.nand.flash := by
  simp [State.startProgram]

@[simp] theorem State.eflashProgram_frame (s : State) (b : Nat) (start : Bool) :
    (State.eflashProgram s b start).pending = s.pending ∧ (State.eflashProgram s b start).ctl.mode = s.ctl.mode ∧ (State.eflashProgram s b start).mem = s.mem ∧ (State.eflashProgram s b start).nand.flash = s.nand.flash := by
  refine ⟨?_, ?_, ?_, ?_⟩ <;> (unfold State.eflashProgram; (try dsimp only); repeat' split) <;> simp

theorem execEflashProgram_frame (bank : Fin 2) (start : Bool) (s : State) (t : State)
    (h : execEflashProgram bank start s = .next t) : t.pending = s.pending ∧ t.ctl.mode = s.ctl.mode ∧ t.mem = s.mem ∧ t.nand.flash = s.nand.flash := by
  unfold execEflashProgram at h; cases h; simp

@[simp] theorem State.eflashErase_frame (s : State) (b : Nat) :
    (State.eflashErase s b).pending = s.pending ∧ (State.eflashErase s b).ctl.mode = s.ctl.mode ∧ (State.eflashErase s b).mem = s.mem ∧ (State.eflashErase s b).nand.flash = s.nand.flash := by
  simp [State.eflashErase]

theorem execEflashSectorErase_frame (bank : Fin 2) (s : State) (t : State)
    (h : execEflashSectorErase bank s = .next t) : t.pending = s.pending ∧ t.ctl.mode = s.ctl.mode ∧ t.mem = s.mem ∧ t.nand.flash = s.nand.flash := by
  unfold execEflashSectorErase at h; cases h; simp

@[simp] theorem State.startErase_frame (s : State) (b sector : Nat) :
    (State.startErase s b sector).pending = s.pending ∧ (State.startErase s b sector).ctl.mode = s.ctl.mode ∧ (State.startErase s b sector).mem = s.mem ∧ (State.startErase s b sector).nand.flash = s.nand.flash := by
  simp [State.startErase]

@[simp] theorem State.eflashBankErase_frame (s : State) (b : Nat) :
    (State.eflashBankErase s b).pending = s.pending ∧ (State.eflashBankErase s b).ctl.mode = s.ctl.mode ∧ (State.eflashBankErase s b).mem = s.mem ∧ (State.eflashBankErase s b).nand.flash = s.nand.flash := by
  simp [State.eflashBankErase]

theorem execEflashBankErase_frame (bank : Fin 2) (s : State) (t : State)
    (h : execEflashBankErase bank s = .next t) : t.pending = s.pending ∧ t.ctl.mode = s.ctl.mode ∧ t.mem = s.mem ∧ t.nand.flash = s.nand.flash := by
  unfold execEflashBankErase at h; cases h; simp

@[simp] theorem State.eflashSuspend_frame (s : State) (b : Nat) :
    (State.eflashSuspend s b).pending = s.pending ∧ (State.eflashSuspend s b).ctl.mode = s.ctl.mode ∧ (State.eflashSuspend s b).mem = s.mem ∧ (State.eflashSuspend s b).nand.flash = s.nand.flash := by
  refine ⟨?_, ?_, ?_, ?_⟩ <;> (unfold State.eflashSuspend; (try dsimp only); repeat' split) <;> simp

theorem execEflashSuspend_frame (bank : Fin 2) (s : State) (t : State)
    (h : execEflashSuspend bank s = .next t) : t.pending = s.pending ∧ t.ctl.mode = s.ctl.mode ∧ t.mem = s.mem ∧ t.nand.flash = s.nand.flash := by
  unfold execEflashSuspend at h; cases h; simp

@[simp] theorem State.eflashResume_frame (s : State) (b : Nat) :
    (State.eflashResume s b).pending = s.pending ∧ (State.eflashResume s b).ctl.mode = s.ctl.mode ∧ (State.eflashResume s b).mem = s.mem ∧ (State.eflashResume s b).nand.flash = s.nand.flash := by
  refine ⟨?_, ?_, ?_, ?_⟩ <;> (unfold State.eflashResume; (try dsimp only); repeat' split) <;> simp

theorem execEflashResume_frame (bank : Fin 2) (s : State) (t : State)
    (h : execEflashResume bank s = .next t) : t.pending = s.pending ∧ t.ctl.mode = s.ctl.mode ∧ t.mem = s.mem ∧ t.nand.flash = s.nand.flash := by
  unfold execEflashResume at h; cases h; simp

@[simp] theorem State.eflashMargin_frame (s : State) (b mode : Nat) :
    (State.eflashMargin s b mode).pending = s.pending ∧ (State.eflashMargin s b mode).ctl.mode = s.ctl.mode ∧ (State.eflashMargin s b mode).mem = s.mem ∧ (State.eflashMargin s b mode).nand.flash = s.nand.flash := by
  simp [State.eflashMargin]

theorem execEflashMarginRead_frame (bank : Fin 2) (mode : Nat) (s : State) (t : State)
    (h : execEflashMarginRead bank mode s = .next t) : t.pending = s.pending ∧ t.ctl.mode = s.ctl.mode ∧ t.mem = s.mem ∧ t.nand.flash = s.nand.flash := by
  unfold execEflashMarginRead at h; cases h; simp

theorem execEflashReadStatus_frame (bank : Fin 2) (s : State) (t : State)
    (h : execEflashReadStatus bank s = .next t) : t.pending = s.pending ∧ t.ctl.mode = s.ctl.mode ∧ t.mem = s.mem ∧ t.nand.flash = s.nand.flash := by
  unfold execEflashReadStatus at h; cases h; exact ⟨rfl, rfl, rfl, rfl⟩

theorem execEflashExit_frame (bank : Fin 2) (s : State) (t : State)
    (h : execEflashExit bank s = .next t) : t.pending = s.pending ∧ t.ctl.mode = s.ctl.mode ∧ t.mem = s.mem ∧ t.nand.flash = s.nand.flash := by
  unfold execEflashExit at h; cases h; exact ⟨rfl, rfl, rfl, rfl⟩

@[simp] theorem State.eflashStore_frame (s : State) (b offset : Nat) (data : BitVec 64) :
    (State.eflashStore s b offset data).pending = s.pending ∧ (State.eflashStore s b offset data).ctl.mode = s.ctl.mode ∧ (State.eflashStore s b offset data).mem = s.mem ∧ (State.eflashStore s b offset data).nand.flash = s.nand.flash := by
  refine ⟨?_, ?_, ?_, ?_⟩ <;> (unfold State.eflashStore; (try dsimp only); repeat' split) <;> simp

theorem execEflashDataWrite_frame (bank : Fin 2) (offset : Nat) (data : BitVec 64) (s : State) (t : State)
    (h : execEflashDataWrite bank offset data s = .next t) : t.pending = s.pending ∧ t.ctl.mode = s.ctl.mode ∧ t.mem = s.mem ∧ t.nand.flash = s.nand.flash := by
  unfold execEflashDataWrite at h; cases h; simp

theorem execEflashBadStore_frame (bank : Fin 2) (s : State) (t : State)
    (h : execEflashBadStore bank s = .next t) : t.pending = s.pending ∧ t.ctl.mode = s.ctl.mode ∧ t.mem = s.mem ∧ t.nand.flash = s.nand.flash := by
  unfold execEflashBadStore at h; cases h; exact ⟨rfl, rfl, rfl, rfl⟩

theorem execEflashUnlockTimeout_frame (bank : Fin 2) (s : State) (t : State)
    (h : execEflashUnlockTimeout bank s = .next t) : t.pending = s.pending ∧ t.ctl.mode = s.ctl.mode ∧ t.mem = s.mem ∧ t.nand.flash = s.nand.flash := by
  unfold execEflashUnlockTimeout at h; cases h; exact ⟨rfl, rfl, rfl, rfl⟩

@[simp] theorem State.eflashRead_frame (s : State) (b offset : Nat) (debug corrected uncorrectable : Bool) :
    (State.eflashRead s b offset debug corrected uncorrectable).pending = s.pending ∧ (State.eflashRead s b offset debug corrected uncorrectable).ctl.mode = s.ctl.mode ∧ (State.eflashRead s b offset debug corrected uncorrectable).mem = s.mem ∧ (State.eflashRead s b offset debug corrected uncorrectable).nand.flash = s.nand.flash := by
  refine ⟨?_, ?_, ?_, ?_⟩ <;> (unfold State.eflashRead; (try dsimp only); repeat' split) <;> simp

theorem execEflashRead_frame (bank : Fin 2) (offset : Nat) (debug corrected uncorrectable : Bool) (s : State) (t : State)
    (h : execEflashRead bank offset debug corrected uncorrectable s = .next t) : t.pending = s.pending ∧ t.ctl.mode = s.ctl.mode ∧ t.mem = s.mem ∧ t.nand.flash = s.nand.flash := by
  unfold execEflashRead at h; cases h; simp

@[simp] theorem State.flashDone_frame (s : State) (b : Nat) (op : FlashOp) (passed : Bool) :
    (State.flashDone s b op passed).pending = s.pending ∧ (State.flashDone s b op passed).ctl.mode = s.ctl.mode ∧ (State.flashDone s b op passed).mem = s.mem ∧ (State.flashDone s b op passed).nand.flash = s.nand.flash := by
  refine ⟨?_, ?_, ?_, ?_⟩ <;> (unfold State.flashDone; (try dsimp only); repeat' split) <;> simp

theorem execEflashOperationComplete_frame (bank : Fin 2) (passed : Bool) (s : State) (t : State)
    (h : execEflashOperationComplete bank passed s = .next t) : t.pending = s.pending ∧ t.ctl.mode = s.ctl.mode ∧ t.mem = s.mem ∧ t.nand.flash = s.nand.flash := by
  unfold execEflashOperationComplete at h; cases h; (try dsimp only); refine ⟨?_, ?_, ?_, ?_⟩ <;> (repeat' split) <;> simp

@[simp] theorem State.brownoutBank_frame (s : State) (b : Nat) :
    (State.brownoutBank s b).pending = s.pending ∧ (State.brownoutBank s b).ctl.mode = s.ctl.mode ∧ (State.brownoutBank s b).mem = s.mem ∧ (State.brownoutBank s b).nand.flash = s.nand.flash := by
  refine ⟨?_, ?_, ?_, ?_⟩ <;> (unfold State.brownoutBank; (try dsimp only); repeat' split) <;> simp

theorem execEflashBrownout_frame (s : State) (t : State)
    (h : execEflashBrownout s = .next t) : t.pending = s.pending ∧ t.ctl.mode = s.ctl.mode ∧ t.mem = s.mem ∧ t.nand.flash = s.nand.flash := by
  unfold execEflashBrownout at h; cases h; simp

theorem execBrownoutRecover_frame (s : State) (t : State)
    (h : execBrownoutRecover s = .next t) : t.pending = s.pending ∧ t.ctl.mode = s.ctl.mode ∧ t.mem = s.mem ∧ t.nand.flash = s.nand.flash := by
  unfold execBrownoutRecover at h; cases h; simp

@[simp] theorem State.reopen_frame (s : State) (b : Nat) (e : EraseEntry) :
    (State.reopen s b e).pending = s.pending ∧ (State.reopen s b e).ctl.mode = s.ctl.mode ∧ (State.reopen s b e).mem = s.mem ∧ (State.reopen s b e).nand.flash = s.nand.flash := by
  simp [State.reopen]

@[simp] theorem State.startBank_frame (s : State) (b : Nat) :
    (State.startBank s b).pending = s.pending ∧ (State.startBank s b).ctl.mode = s.ctl.mode ∧ (State.startBank s b).mem = s.mem ∧ (State.startBank s b).nand.flash = s.nand.flash := by
  simp [State.startBank]

@[simp] theorem State.flashStart_frame (s : State) :
    (State.flashStart s).pending = s.pending ∧ (State.flashStart s).ctl.mode = s.ctl.mode ∧ (State.flashStart s).mem = s.mem ∧ (State.flashStart s).nand.flash = s.nand.flash := by
  simp [State.flashStart]

@[simp] theorem State.rewrite_frame (s : State) (b sector : Nat) (uncorrectable : Bool) :
    (State.rewrite s b sector uncorrectable).pending = s.pending ∧ (State.rewrite s b sector uncorrectable).ctl.mode = s.ctl.mode ∧ (State.rewrite s b sector uncorrectable).mem = s.mem ∧ (State.rewrite s b sector uncorrectable).nand.flash = s.nand.flash := by
  simp [State.rewrite]

theorem execScrubSweep_frame (bank : Fin 2) (sector : Nat) (fails uncorrectable last : Bool) (s : State) (t : State)
    (h : execScrubSweep bank sector fails uncorrectable last s = .next t) : t.pending = s.pending ∧ t.ctl.mode = s.ctl.mode ∧ t.mem = s.mem ∧ t.nand.flash = s.nand.flash := by
  unfold execScrubSweep at h; cases h; simp

theorem execFullRefresh_frame (bank : Fin 2) (sector : Nat) (uncorrectable last : Bool) (s : State) (t : State)
    (h : execFullRefresh bank sector uncorrectable last s = .next t) : t.pending = s.pending ∧ t.ctl.mode = s.ctl.mode ∧ t.mem = s.mem ∧ t.nand.flash = s.nand.flash := by
  unfold execFullRefresh at h; cases h; simp

@[simp] theorem State.rdpRaise_frame (s : State) (level : Nat) :
    (State.rdpRaise s level).pending = s.pending ∧ (State.rdpRaise s level).ctl.mode = s.ctl.mode ∧ (State.rdpRaise s level).mem = s.mem ∧ (State.rdpRaise s level).nand.flash = s.nand.flash := by
  exact ⟨rfl, rfl, rfl, rfl⟩

@[simp] theorem State.dropClass_frame (s : State) (k : Keeping) :
    (State.dropClass s k).pending = s.pending ∧ (State.dropClass s k).ctl.mode = s.ctl.mode ∧ (State.dropClass s k).mem = s.mem ∧ (State.dropClass s k).nand.flash = s.nand.flash := by
  exact ⟨rfl, rfl, rfl, rfl⟩

@[simp] theorem State.rdpErase_frame (s : State) :
    (State.rdpErase s).pending = s.pending ∧ (State.rdpErase s).ctl.mode = s.ctl.mode ∧ (State.rdpErase s).nand.flash = s.nand.flash := by
  simp [State.rdpErase]

@[simp] theorem State.rdpErase_wf_mem (s : State) (h : Mem.wf s.mem = true) :
    Mem.wf (State.rdpErase s).mem = true := by
  simp (maxDischargeDepth := 40) [State.rdpErase, h]

end Sys2Proof.Machine
end

