-- ==== Sys2Proof/Laws/Firmware.lean ====
section
/-! SUPPORT. What the operations and commands of Machine/Firmware.lean keep: the queue, and the mode, the bytes of DRAM and of
flash, or the canonical form of those bytes. -/

namespace Sys2Proof.Machine

@[simp] theorem State.rejectImage_frame (s : State) (b result : Nat) :
    (State.rejectImage s b result).pending = s.pending ∧ (State.rejectImage s b result).ctl.mode = s.ctl.mode ∧ (State.rejectImage s b result).mem = s.mem ∧ (State.rejectImage s b result).nand.flash = s.nand.flash := by
  simp [State.rejectImage]

@[simp] theorem State.svcAnswer_frame (s : State) (seq type status : Nat) (payload : List Nat) :
    (State.svcAnswer s seq type status payload).pending = s.pending ∧ (State.svcAnswer s seq type status payload).ctl.mode = s.ctl.mode ∧ (State.svcAnswer s seq type status payload).mem = s.mem ∧ (State.svcAnswer s seq type status payload).nand.flash = s.nand.flash := by
  exact ⟨rfl, rfl, rfl, rfl⟩

theorem execSvcHello_frame (seq : Nat) (s : State) (t : State)
    (h : execSvcHello seq s = .next t) : t.pending = s.pending ∧ t.ctl.mode = s.ctl.mode ∧ t.mem = s.mem ∧ t.nand.flash = s.nand.flash := by
  unfold execSvcHello State.svc at h; cases h; simp

theorem execSvcSetRate_frame (seq code : Nat) (s : State) (t : State)
    (h : execSvcSetRate seq code s = .next t) : t.pending = s.pending ∧ t.ctl.mode = s.ctl.mode ∧ t.mem = s.mem ∧ t.nand.flash = s.nand.flash := by
  unfold execSvcSetRate State.svc at h; cases h; simp

theorem execSvcRateFallback_frame (s : State) (t : State)
    (h : execSvcRateFallback s = .next t) : t.pending = s.pending ∧ t.ctl.mode = s.ctl.mode ∧ t.mem = s.mem ∧ t.nand.flash = s.nand.flash := by
  unfold execSvcRateFallback at h; cases h; (try dsimp only); refine ⟨?_, ?_, ?_, ?_⟩ <;> (repeat' split) <;> simp

theorem execSvcUnknownType_frame (seq type : Nat) (s : State) (t : State)
    (h : execSvcUnknownType seq type s = .next t) : t.pending = s.pending ∧ t.ctl.mode = s.ctl.mode ∧ t.mem = s.mem ∧ t.nand.flash = s.nand.flash := by
  unfold execSvcUnknownType State.svc at h; cases h; simp

theorem execSvcFrameBad_frame (s : State) (t : State)
    (h : execSvcFrameBad s = .next t) : t.pending = s.pending ∧ t.ctl.mode = s.ctl.mode ∧ t.mem = s.mem ∧ t.nand.flash = s.nand.flash := by
  unfold execSvcFrameBad at h; cases h; exact ⟨rfl, rfl, rfl, rfl⟩

@[simp] theorem State.setUpdate_frame (s : State) (u : Nat) :
    (State.setUpdate s u).pending = s.pending ∧ (State.setUpdate s u).ctl.mode = s.ctl.mode ∧ (State.setUpdate s u).mem = s.mem ∧ (State.setUpdate s u).nand.flash = s.nand.flash := by
  exact ⟨rfl, rfl, rfl, rfl⟩

@[simp] theorem State.beginImage_frame (s : State) (length : Nat) :
    (State.beginImage s length).pending = s.pending ∧ (State.beginImage s length).ctl.mode = s.ctl.mode ∧ (State.beginImage s length).mem = s.mem ∧ (State.beginImage s length).nand.flash = s.nand.flash := by
  simp [State.beginImage]

theorem execImageBegin_frame (seq length : Nat) (s : State) (t : State)
    (h : execImageBegin seq length s = .next t) : t.pending = s.pending ∧ t.ctl.mode = s.ctl.mode ∧ t.mem = s.mem ∧ t.nand.flash = s.nand.flash := by
  unfold execImageBegin State.svc at h; cases h; simp

@[simp] theorem State.programImage_frame (s : State) (offset : Nat) (data : List Byte) :
    (State.programImage s offset data).pending = s.pending ∧ (State.programImage s offset data).ctl.mode = s.ctl.mode ∧ (State.programImage s offset data).mem = s.mem ∧ (State.programImage s offset data).nand.flash = s.nand.flash := by
  exact ⟨rfl, rfl, rfl, rfl⟩

theorem execImageData_frame (seq offset : Nat) (data : List Byte) (s : State) (t : State)
    (h : execImageData seq offset data s = .next t) : t.pending = s.pending ∧ t.ctl.mode = s.ctl.mode ∧ t.mem = s.mem ∧ t.nand.flash = s.nand.flash := by
  unfold execImageData State.svc at h; cases h; simp

@[simp] theorem State.endImage_frame (s : State) (q : Nat) :
    (State.endImage s q).pending = s.pending ∧ (State.endImage s q).ctl.mode = s.ctl.mode ∧ (State.endImage s q).mem = s.mem ∧ (State.endImage s q).nand.flash = s.nand.flash := by
  simp [State.endImage]

theorem execImageEnd_frame (seq : Nat) (s : State) (t : State)
    (h : execImageEnd seq s = .next t) : t.pending = s.pending ∧ t.ctl.mode = s.ctl.mode ∧ t.mem = s.mem ∧ t.nand.flash = s.nand.flash := by
  unfold execImageEnd State.svc at h; cases h; simp

theorem execImageAbort_frame (seq : Nat) (s : State) (t : State)
    (h : execImageAbort seq s = .next t) : t.pending = s.pending ∧ t.ctl.mode = s.ctl.mode ∧ t.mem = s.mem ∧ t.nand.flash = s.nand.flash := by
  unfold execImageAbort State.svc at h; cases h; simp

@[simp] theorem State.dropUpdate_frame (s : State) :
    (State.dropUpdate s).pending = s.pending ∧ (State.dropUpdate s).ctl.mode = s.ctl.mode ∧ (State.dropUpdate s).mem = s.mem ∧ (State.dropUpdate s).nand.flash = s.nand.flash := by
  simp [State.dropUpdate]

@[simp] theorem State.trySlot_frame (s : State) (b result : Nat) :
    (State.trySlot s b result).pending = s.pending ∧ (State.trySlot s b result).ctl.mode = s.ctl.mode ∧ (State.trySlot s b result).mem = s.mem ∧ (State.trySlot s b result).nand.flash = s.nand.flash := by
  refine ⟨?_, ?_, ?_, ?_⟩ <;> (unfold State.trySlot; (try dsimp only); repeat' split) <;> simp

@[simp] theorem State.expireTrials_frame (s : State) :
    (State.expireTrials s).pending = s.pending ∧ (State.expireTrials s).ctl.mode = s.ctl.mode ∧ (State.expireTrials s).mem = s.mem ∧ (State.expireTrials s).nand.flash = s.nand.flash := by
  simp [State.expireTrials]

@[simp] theorem State.measure_frame (s : State) (b : Nat) (sequencers : Bool) :
    (State.measure s b sequencers).pending = s.pending ∧ (State.measure s b sequencers).ctl.mode = s.ctl.mode ∧ (State.measure s b sequencers).mem = s.mem ∧ (State.measure s b sequencers).nand.flash = s.nand.flash := by
  exact ⟨rfl, rfl, rfl, rfl⟩

@[simp] theorem State.loadImageCode_frame (s : State) (b : Nat) (sequencers : Bool) :
    (State.loadImageCode s b sequencers).pending = s.pending ∧ (State.loadImageCode s b sequencers).ctl.mode = s.ctl.mode ∧ (State.loadImageCode s b sequencers).mem = s.mem ∧ (State.loadImageCode s b sequencers).nand.flash = s.nand.flash := by
  exact ⟨rfl, rfl, rfl, rfl⟩

@[simp] theorem State.bootFrom_frame (s : State) (sequencers : Bool) (tries : List (Nat × Nat)) :
    (State.bootFrom s sequencers tries).pending = s.pending ∧ (State.bootFrom s sequencers tries).ctl.mode = s.ctl.mode ∧ (State.bootFrom s sequencers tries).mem = s.mem ∧ (State.bootFrom s sequencers tries).nand.flash = s.nand.flash := by
  refine ⟨?_, ?_, ?_, ?_⟩ <;> (unfold State.bootFrom; (try dsimp only); repeat' split) <;> simp

@[simp] theorem State.bootRom_frame (s : State) (sequencers : Bool) :
    (State.bootRom s sequencers).pending = s.pending ∧ (State.bootRom s sequencers).ctl.mode = s.ctl.mode ∧ (State.bootRom s sequencers).mem = s.mem ∧ (State.bootRom s sequencers).nand.flash = s.nand.flash := by
  simp [State.bootRom]

@[simp] theorem State.settingsFormat_frame (s : State) (format : Nat) :
    (State.settingsFormat s format).pending = s.pending ∧ (State.settingsFormat s format).ctl.mode = s.ctl.mode ∧ (State.settingsFormat s format).mem = s.mem ∧ (State.settingsFormat s format).nand.flash = s.nand.flash := by
  simp [State.settingsFormat]

@[simp] theorem State.confirmImage_frame (s : State) :
    (State.confirmImage s).pending = s.pending ∧ (State.confirmImage s).ctl.mode = s.ctl.mode ∧ (State.confirmImage s).mem = s.mem ∧ (State.confirmImage s).nand.flash = s.nand.flash := by
  simp [State.confirmImage]

@[simp] theorem State.revoke_frame (s : State) (k : Nat) :
    (State.revoke s k).pending = s.pending ∧ (State.revoke s k).ctl.mode = s.ctl.mode ∧ (State.revoke s k).mem = s.mem ∧ (State.revoke s k).nand.flash = s.nand.flash := by
  exact ⟨rfl, rfl, rfl, rfl⟩

end Sys2Proof.Machine
end

