-- ==== Sys2Proof/Laws/Spdm.lean ====
section
/-! SUPPORT. What the operations and commands of Machine/Spdm.lean keep: the queue, and the mode, the bytes of DRAM and of
flash, or the canonical form of those bytes. -/

namespace Sys2Proof.Machine

@[simp] theorem State.putSession_frame (s : State) (x : SpdmSession) :
    (State.putSession s x).pending = s.pending ∧ (State.putSession s x).ctl.mode = s.ctl.mode ∧ (State.putSession s x).mem = s.mem ∧ (State.putSession s x).nand.flash = s.nand.flash := by
  exact ⟨rfl, rfl, rfl, rfl⟩

@[simp] theorem State.spdmError_frame (s : State) (e code : Nat) :
    (State.spdmError s e code).pending = s.pending ∧ (State.spdmError s e code).ctl.mode = s.ctl.mode ∧ (State.spdmError s e code).mem = s.mem ∧ (State.spdmError s e code).nand.flash = s.nand.flash := by
  exact ⟨rfl, rfl, rfl, rfl⟩

@[simp] theorem State.spdmAnswer_frame (s : State) (x : SpdmSession) (code : Nat) (payload : List Nat) :
    (State.spdmAnswer s x code payload).pending = s.pending ∧ (State.spdmAnswer s x code payload).ctl.mode = s.ctl.mode ∧ (State.spdmAnswer s x code payload).mem = s.mem ∧ (State.spdmAnswer s x code payload).nand.flash = s.nand.flash := by
  simp [State.spdmAnswer]

theorem execSpdmGetVersion_frame (endpoint : Nat) (s : State) (t : State)
    (h : execSpdmGetVersion endpoint s = .next t) : t.pending = s.pending ∧ t.ctl.mode = s.ctl.mode ∧ t.mem = s.mem ∧ t.nand.flash = s.nand.flash := by
  unfold execSpdmGetVersion at h; cases h; exact ⟨rfl, rfl, rfl, rfl⟩

theorem execSpdmGetCapabilities_frame (endpoint : Nat) (s : State) (t : State)
    (h : execSpdmGetCapabilities endpoint s = .next t) : t.pending = s.pending ∧ t.ctl.mode = s.ctl.mode ∧ t.mem = s.mem ∧ t.nand.flash = s.nand.flash := by
  unfold execSpdmGetCapabilities State.spdmStage at h; cases h; (try dsimp only); refine ⟨?_, ?_, ?_, ?_⟩ <;> (repeat' split) <;> simp

theorem execSpdmNegotiateAlgorithms_frame (endpoint : Nat) (s : State) (t : State)
    (h : execSpdmNegotiateAlgorithms endpoint s = .next t) : t.pending = s.pending ∧ t.ctl.mode = s.ctl.mode ∧ t.mem = s.mem ∧ t.nand.flash = s.nand.flash := by
  unfold execSpdmNegotiateAlgorithms State.spdmStage at h; cases h; (try dsimp only); refine ⟨?_, ?_, ?_, ?_⟩ <;> (repeat' split) <;> simp

theorem execSpdmGetDigests_frame (endpoint : Nat) (s : State) (t : State)
    (h : execSpdmGetDigests endpoint s = .next t) : t.pending = s.pending ∧ t.ctl.mode = s.ctl.mode ∧ t.mem = s.mem ∧ t.nand.flash = s.nand.flash := by
  unfold execSpdmGetDigests State.spdmStage at h; cases h; (try dsimp only); refine ⟨?_, ?_, ?_, ?_⟩ <;> (repeat' split) <;> simp

theorem execSpdmGetCertificate_frame (endpoint slot offset length : Nat) (s : State) (t : State)
    (h : execSpdmGetCertificate endpoint slot offset length s = .next t) : t.pending = s.pending ∧ t.ctl.mode = s.ctl.mode ∧ t.mem = s.mem ∧ t.nand.flash = s.nand.flash := by
  unfold execSpdmGetCertificate State.spdmStage at h; cases h; (try dsimp only); refine ⟨?_, ?_, ?_, ?_⟩ <;> (repeat' split) <;> simp

@[simp] theorem State.signed_frame (s : State) (message : List Nat) :
    (State.signed s message).1.pending = s.pending ∧ (State.signed s message).1.ctl.mode = s.ctl.mode ∧ (State.signed s message).1.mem = s.mem ∧ (State.signed s message).1.nand.flash = s.nand.flash := by
  exact ⟨rfl, rfl, rfl, rfl⟩

theorem execSpdmChallenge_frame (endpoint slot summary nonce : Nat) (s : State) (t : State)
    (h : execSpdmChallenge endpoint slot summary nonce s = .next t) : t.pending = s.pending ∧ t.ctl.mode = s.ctl.mode ∧ t.mem = s.mem ∧ t.nand.flash = s.nand.flash := by
  unfold execSpdmChallenge State.spdmStage at h; cases h; (try dsimp only); refine ⟨?_, ?_, ?_, ?_⟩ <;> (repeat' split) <;> simp

theorem execSpdmGetMeasurements_frame (endpoint index : Nat) (sign : Bool) (nonce : Nat) (s : State) (t : State)
    (h : execSpdmGetMeasurements endpoint index sign nonce s = .next t) : t.pending = s.pending ∧ t.ctl.mode = s.ctl.mode ∧ t.mem = s.mem ∧ t.nand.flash = s.nand.flash := by
  unfold execSpdmGetMeasurements State.spdmStage at h; cases h; (try dsimp only); refine ⟨?_, ?_, ?_, ?_⟩ <;> (repeat' split) <;> simp

theorem execSpdmChunkSend_frame (endpoint seq : Nat) (last : Bool) (chunk : List Byte) (s : State) (t : State)
    (h : execSpdmChunkSend endpoint seq last chunk s = .next t) : t.pending = s.pending ∧ t.ctl.mode = s.ctl.mode ∧ t.mem = s.mem ∧ t.nand.flash = s.nand.flash := by
  unfold execSpdmChunkSend State.spdmStage at h; cases h; (try dsimp only); refine ⟨?_, ?_, ?_, ?_⟩ <;> (repeat' split) <;> simp

theorem execSpdmChunkGet_frame (endpoint seq : Nat) (s : State) (t : State)
    (h : execSpdmChunkGet endpoint seq s = .next t) : t.pending = s.pending ∧ t.ctl.mode = s.ctl.mode ∧ t.mem = s.mem ∧ t.nand.flash = s.nand.flash := by
  unfold execSpdmChunkGet State.spdmStage at h; cases h; (try dsimp only); refine ⟨?_, ?_, ?_, ?_⟩ <;> (repeat' split) <;> simp

theorem execSpdmRespondIfReady_frame (endpoint : Nat) (s : State) (t : State)
    (h : execSpdmRespondIfReady endpoint s = .next t) : t.pending = s.pending ∧ t.ctl.mode = s.ctl.mode ∧ t.mem = s.mem ∧ t.nand.flash = s.nand.flash := by
  unfold execSpdmRespondIfReady at h; cases h; exact ⟨rfl, rfl, rfl, rfl⟩

theorem execSpdmUnsupported_frame (endpoint _code : Nat) (s : State) (t : State)
    (h : execSpdmUnsupported endpoint _code s = .next t) : t.pending = s.pending ∧ t.ctl.mode = s.ctl.mode ∧ t.mem = s.mem ∧ t.nand.flash = s.nand.flash := by
  unfold execSpdmUnsupported at h; cases h; exact ⟨rfl, rfl, rfl, rfl⟩

@[simp] theorem State.endSessions_frame (s : State) :
    (State.endSessions s).pending = s.pending ∧ (State.endSessions s).ctl.mode = s.ctl.mode ∧ (State.endSessions s).mem = s.mem ∧ (State.endSessions s).nand.flash = s.nand.flash := by
  exact ⟨rfl, rfl, rfl, rfl⟩

end Sys2Proof.Machine
end

