-- ==== Sys2Proof/Laws/Bureau.lean ====
section
/-! SUPPORT. What the operations and commands of Machine/Bureau.lean keep: the queue, and the mode, the bytes of DRAM and of
flash, or the canonical form of those bytes. -/

namespace Sys2Proof.Machine

@[simp] theorem State.moveRole_frame (s : State) (role old new : Nat) :
    (State.moveRole s role old new).pending = s.pending ∧ (State.moveRole s role old new).ctl.mode = s.ctl.mode ∧ (State.moveRole s role old new).mem = s.mem ∧ (State.moveRole s role old new).nand.flash = s.nand.flash := by
  exact ⟨rfl, rfl, rfl, rfl⟩

@[simp] theorem State.unclaimRoles_frame (s : State) (mask : Nat) :
    (State.unclaimRoles s mask).pending = s.pending ∧ (State.unclaimRoles s mask).ctl.mode = s.ctl.mode ∧ (State.unclaimRoles s mask).mem = s.mem ∧ (State.unclaimRoles s mask).nand.flash = s.nand.flash := by
  exact ⟨rfl, rfl, rfl, rfl⟩

@[simp] theorem State.bureauLost_frame (s : State) :
    (State.bureauLost s).pending = s.pending ∧ (State.bureauLost s).ctl.mode = s.ctl.mode ∧ (State.bureauLost s).mem = s.mem ∧ (State.bureauLost s).nand.flash = s.nand.flash := by
  simp [State.bureauLost]

@[simp] theorem State.pairFails_frame (s : State) (k : Nat) :
    (State.pairFails s k).pending = s.pending ∧ (State.pairFails s k).ctl.mode = s.ctl.mode ∧ (State.pairFails s k).mem = s.mem ∧ (State.pairFails s k).nand.flash = s.nand.flash := by
  refine ⟨?_, ?_, ?_, ?_⟩ <;> (unfold State.pairFails; (try dsimp only); repeat' split) <;> simp

@[simp] theorem State.spareFails_frame (s : State) (k : Nat) :
    (State.spareFails s k).pending = s.pending ∧ (State.spareFails s k).ctl.mode = s.ctl.mode ∧ (State.spareFails s k).mem = s.mem ∧ (State.spareFails s k).nand.flash = s.nand.flash := by
  simp [State.spareFails]

@[simp] theorem State.pairFailure_frame (s : State) (k : Nat) :
    (State.pairFailure s k).pending = s.pending ∧ (State.pairFailure s k).ctl.mode = s.ctl.mode ∧ (State.pairFailure s k).mem = s.mem ∧ (State.pairFailure s k).nand.flash = s.nand.flash := by
  simp [State.pairFailure]

theorem execPairFail_frame (pair : Fin 5) (s : State) (t : State)
    (h : execPairFail pair s = .next t) : t.pending = s.pending ∧ t.ctl.mode = s.ctl.mode ∧ t.mem = s.mem ∧ t.nand.flash = s.nand.flash := by
  unfold execPairFail at h; cases h; simp

theorem execPairTakeoverComplete_frame (role : Fin 4) (s : State) (t : State)
    (h : execPairTakeoverComplete role s = .next t) : t.pending = s.pending ∧ t.ctl.mode = s.ctl.mode ∧ t.mem = s.mem ∧ t.nand.flash = s.nand.flash := by
  unfold execPairTakeoverComplete at h; cases h; (try dsimp only); refine ⟨?_, ?_, ?_, ?_⟩ <;> (repeat' split) <;> simp

theorem execSpareSelfTest_frame (passed : Bool) (s : State) (t : State)
    (h : execSpareSelfTest passed s = .next t) : t.pending = s.pending ∧ t.ctl.mode = s.ctl.mode ∧ t.mem = s.mem ∧ t.nand.flash = s.nand.flash := by
  unfold execSpareSelfTest at h; cases h; (try dsimp only); refine ⟨?_, ?_, ?_, ?_⟩ <;> (repeat' split) <;> simp

@[simp] theorem State.assignRoles_frame (s : State) :
    (State.assignRoles s).pending = s.pending ∧ (State.assignRoles s).ctl.mode = s.ctl.mode ∧ (State.assignRoles s).mem = s.mem ∧ (State.assignRoles s).nand.flash = s.nand.flash := by
  simp [State.assignRoles]

@[simp] theorem State.requalifyPairs_frame (s : State) :
    (State.requalifyPairs s).pending = s.pending ∧ (State.requalifyPairs s).ctl.mode = s.ctl.mode ∧ (State.requalifyPairs s).mem = s.mem ∧ (State.requalifyPairs s).nand.flash = s.nand.flash := by
  simp [State.requalifyPairs]

@[simp] theorem State.sramRepair_frame (s : State) (array : Nat) (column : Bool) :
    (State.sramRepair s array column).pending = s.pending ∧ (State.sramRepair s array column).ctl.mode = s.ctl.mode ∧ (State.sramRepair s array column).mem = s.mem ∧ (State.sramRepair s array column).nand.flash = s.nand.flash := by
  simp [State.sramRepair]

theorem execSramRepair_frame (array : Nat) (column : Bool) (s : State) (t : State)
    (h : execSramRepair array column s = .next t) : t.pending = s.pending ∧ t.ctl.mode = s.ctl.mode ∧ t.mem = s.mem ∧ t.nand.flash = s.nand.flash := by
  unfold execSramRepair at h; cases h; simp

@[simp] theorem State.reloadLeaf_frame (s : State) (t : LeafTable) (leaf : Nat) :
    (State.reloadLeaf s t leaf).pending = s.pending ∧ (State.reloadLeaf s t leaf).ctl.mode = s.ctl.mode ∧ (State.reloadLeaf s t leaf).mem = s.mem ∧ (State.reloadLeaf s t leaf).nand.flash = s.nand.flash := by
  simp [State.reloadLeaf]

@[simp] theorem State.restage_frame (s : State) (leaf : Nat) :
    (State.restage s leaf).pending = s.pending ∧ (State.restage s leaf).ctl.mode = s.ctl.mode ∧ (State.restage s leaf).mem = s.mem ∧ (State.restage s leaf).nand.flash = s.nand.flash := by
  simp [State.restage]

@[simp] theorem State.sramRecover_frame (s : State) (o : SramOwner) :
    (s.sramRecover o).pending = s.pending ∧ (s.sramRecover o).ctl.mode = s.ctl.mode
      ∧ (s.sramRecover o).mem = s.mem ∧ (s.sramRecover o).nand.flash = s.nand.flash := by
  cases o <;> simp [State.sramRecover] <;> split <;> simp

theorem execSramUe_frame (owner : SramOwner) (s : State) (t : State)
    (h : execSramUe owner s = .next t) : t.pending = s.pending ∧ t.ctl.mode = s.ctl.mode ∧ t.mem = s.mem ∧ t.nand.flash = s.nand.flash := by
  unfold execSramUe at h; cases h; simp

@[simp] theorem State.raiseLine_frame (s : State) (c : Nat) :
    (State.raiseLine s c).pending = s.pending ∧ (State.raiseLine s c).ctl.mode = s.ctl.mode ∧ (State.raiseLine s c).mem = s.mem ∧ (State.raiseLine s c).nand.flash = s.nand.flash := by
  exact ⟨rfl, rfl, rfl, rfl⟩

@[simp] theorem State.stampSources_frame (s : State) :
    (State.stampSources s).pending = s.pending ∧ (State.stampSources s).ctl.mode = s.ctl.mode ∧ (State.stampSources s).mem = s.mem ∧ (State.stampSources s).nand.flash = s.nand.flash := by
  exact ⟨rfl, rfl, rfl, rfl⟩

theorem execIrqSourceRaise_frame (source : Fin 512) (s : State) (t : State)
    (h : execIrqSourceRaise source s = .next t) : t.pending = s.pending ∧ t.ctl.mode = s.ctl.mode ∧ t.mem = s.mem ∧ t.nand.flash = s.nand.flash := by
  unfold execIrqSourceRaise at h; cases h; simp

theorem execIrqClaim_frame (role : Fin 4) (s : State) (t : State)
    (h : execIrqClaim role s = .next t) : t.pending = s.pending ∧ t.ctl.mode = s.ctl.mode ∧ t.mem = s.mem ∧ t.nand.flash = s.nand.flash := by
  unfold execIrqClaim at h; cases h; (try dsimp only); refine ⟨?_, ?_, ?_, ?_⟩ <;> (repeat' split) <;> simp

theorem execIrqComplete_frame (role : Fin 4) (source : Nat) (s : State) (t : State)
    (h : execIrqComplete role source s = .next t) : t.pending = s.pending ∧ t.ctl.mode = s.ctl.mode ∧ t.mem = s.mem ∧ t.nand.flash = s.nand.flash := by
  unfold execIrqComplete at h; cases h; (try dsimp only); refine ⟨?_, ?_, ?_, ?_⟩ <;> (repeat' split) <;> simp

theorem execIrqModerationExpire_frame (group : Fin 32) (s : State) (t : State)
    (h : execIrqModerationExpire group s = .next t) : t.pending = s.pending ∧ t.ctl.mode = s.ctl.mode ∧ t.mem = s.mem ∧ t.nand.flash = s.nand.flash := by
  unfold execIrqModerationExpire at h; cases h; simp

@[simp] theorem State.irqRestart_frame (s : State) :
    (State.irqRestart s).pending = s.pending ∧ (State.irqRestart s).ctl.mode = s.ctl.mode ∧ (State.irqRestart s).mem = s.mem ∧ (State.irqRestart s).nand.flash = s.nand.flash := by
  exact ⟨rfl, rfl, rfl, rfl⟩

end Sys2Proof.Machine
end

