-- ==== Sys2Proof/Laws/Spool.lean ====
section
/-! SUPPORT. What the operations and commands of Machine/Spool.lean keep: the queue, and the mode, the bytes of DRAM and of
flash, or the canonical form of those bytes. -/

namespace Sys2Proof.Machine

@[simp] theorem State.flushRing_frame (s : State) :
    (State.flushRing s).pending = s.pending ∧ (State.flushRing s).ctl.mode = s.ctl.mode ∧ (State.flushRing s).mem = s.mem ∧ (State.flushRing s).nand.flash = s.nand.flash := by
  simp [State.flushRing]

@[simp] theorem State.turnSpool_frame (s : State) (used : Nat) :
    (State.turnSpool s used).pending = s.pending ∧ (State.turnSpool s used).ctl.mode = s.ctl.mode ∧ (State.turnSpool s used).mem = s.mem ∧ (State.turnSpool s used).nand.flash = s.nand.flash := by
  simp [State.turnSpool]

@[simp] theorem State.spoolPut_frame (s : State) (sector : Nat) (r : ChestRec) :
    (State.spoolPut s sector r).pending = s.pending ∧ (State.spoolPut s sector r).ctl.mode = s.ctl.mode ∧ (State.spoolPut s sector r).mem = s.mem ∧ (State.spoolPut s sector r).nand.flash = s.nand.flash := by
  exact ⟨rfl, rfl, rfl, rfl⟩

@[simp] theorem State.spoolUse_frame (s : State) (n : Nat) :
    (State.spoolUse s n).pending = s.pending ∧ (State.spoolUse s n).ctl.mode = s.ctl.mode ∧ (State.spoolUse s n).mem = s.mem ∧ (State.spoolUse s n).nand.flash = s.nand.flash := by
  exact ⟨rfl, rfl, rfl, rfl⟩

@[simp] theorem State.spoolRecord_frame (s : State) (r : ChestRec) :
    (State.spoolRecord s r).pending = s.pending ∧ (State.spoolRecord s r).ctl.mode = s.ctl.mode ∧ (State.spoolRecord s r).mem = s.mem ∧ (State.spoolRecord s r).nand.flash = s.nand.flash := by
  simp [State.spoolRecord]

@[simp] theorem State.eflashSpool_frame (s : State) :
    (State.eflashSpool s).pending = s.pending ∧ (State.eflashSpool s).ctl.mode = s.ctl.mode ∧ (State.eflashSpool s).mem = s.mem ∧ (State.eflashSpool s).nand.flash = s.nand.flash := by
  simp [State.eflashSpool]

theorem execChestEflashSpool_frame (s : State) (t : State)
    (h : execChestEflashSpool s = .next t) : t.pending = s.pending ∧ t.ctl.mode = s.ctl.mode ∧ t.mem = s.mem ∧ t.nand.flash = s.nand.flash := by
  unfold execChestEflashSpool at h; cases h; simp

@[simp] theorem State.ringFails_frame (s : State) (lost : Nat) :
    (State.ringFails s lost).pending = s.pending ∧ (State.ringFails s lost).ctl.mode = s.ctl.mode ∧ (State.ringFails s lost).mem = s.mem ∧ (State.ringFails s lost).nand.flash = s.nand.flash := by
  simp [State.ringFails]

theorem execChestRingFailed_frame (lost : Nat) (s : State) (t : State)
    (h : execChestRingFailed lost s = .next t) : t.pending = s.pending ∧ t.ctl.mode = s.ctl.mode ∧ t.mem = s.mem ∧ t.nand.flash = s.nand.flash := by
  unfold execChestRingFailed at h; cases h; simp

@[simp] theorem State.ringRepaired_frame (s : State) :
    (State.ringRepaired s).pending = s.pending ∧ (State.ringRepaired s).ctl.mode = s.ctl.mode ∧ (State.ringRepaired s).mem = s.mem ∧ (State.ringRepaired s).nand.flash = s.nand.flash := by
  simp [State.ringRepaired]

@[simp] theorem State.readSpool_frame (s : State) (x : ChestRec) :
    (State.readSpool s x).pending = s.pending ∧ (State.readSpool s x).ctl.mode = s.ctl.mode ∧ (State.readSpool s x).mem = s.mem ∧ (State.readSpool s x).nand.flash = s.nand.flash := by
  simp [State.readSpool]

@[simp] theorem State.readRecord_frame (s : State) :
    (State.readRecord s).1.pending = s.pending ∧ (State.readRecord s).1.ctl.mode = s.ctl.mode ∧ (State.readRecord s).1.mem = s.mem ∧ (State.readRecord s).1.nand.flash = s.nand.flash := by
  refine ⟨?_, ?_, ?_, ?_⟩ <;> (unfold State.readRecord; (try dsimp only); repeat' split) <;> simp

theorem execChestReadRecord_frame (_role : Role) (s : State) (t : State)
    (h : execChestReadRecord _role s = .next t) : t.pending = s.pending ∧ t.ctl.mode = s.ctl.mode ∧ t.mem = s.mem ∧ t.nand.flash = s.nand.flash := by
  unfold execChestReadRecord at h; cases h; simp

@[simp] theorem State.clearFaults_frame (s : State) (b : Nat) :
    (State.clearFaults s b).pending = s.pending ∧ (State.clearFaults s b).ctl.mode = s.ctl.mode ∧ (State.clearFaults s b).mem = s.mem ∧ (State.clearFaults s b).nand.flash = s.nand.flash := by
  exact ⟨rfl, rfl, rfl, rfl⟩

theorem execInjectedLiveClear_frame (block : Fin 17) (s : State) (t : State)
    (h : execInjectedLiveClear block s = .next t) : t.pending = s.pending ∧ t.ctl.mode = s.ctl.mode ∧ t.mem = s.mem ∧ t.nand.flash = s.nand.flash := by
  unfold execInjectedLiveClear at h; cases h; simp

end Sys2Proof.Machine
end

