-- ==== Sys2Proof/Laws/TestUnits.lean ====
section
/-! SUPPORT. What the operations and commands of Machine/TestUnits.lean keep: the queue, and the mode, the bytes of DRAM and of
flash, or the canonical form of those bytes. -/

namespace Sys2Proof.Machine

@[simp] theorem State.satUnit_frame (s : State) (u sub n : Nat) :
    (State.satUnit s u sub n).pending = s.pending ∧ (State.satUnit s u sub n).ctl.mode = s.ctl.mode ∧ (State.satUnit s u sub n).mem = s.mem ∧ (State.satUnit s u sub n).nand.flash = s.nand.flash := by
  exact ⟨rfl, rfl, rfl, rfl⟩

@[simp] theorem State.stopUnit_frame (s : State) (u st : Nat) :
    (State.stopUnit s u st).pending = s.pending ∧ (State.stopUnit s u st).ctl.mode = s.ctl.mode ∧ (State.stopUnit s u st).mem = s.mem ∧ (State.stopUnit s u st).nand.flash = s.nand.flash := by
  simp [State.stopUnit]

@[simp] theorem State.notePattern_frame (s : State) (c rows : Nat) :
    (State.notePattern s c rows).pending = s.pending ∧ (State.notePattern s c rows).ctl.mode = s.ctl.mode ∧ (State.notePattern s c rows).mem = s.mem ∧ (State.notePattern s c rows).nand.flash = s.nand.flash := by
  simp [State.notePattern]

@[simp] theorem State.leavePattern_frame (s : State) (c rows : Nat) :
    (State.leavePattern s c rows).pending = s.pending ∧ (State.leavePattern s c rows).ctl.mode = s.ctl.mode ∧
    (State.leavePattern s c rows).nand.flash = s.nand.flash := by
  simp [State.leavePattern]

theorem foldl_wf_keep {α : Type} (f : List Host.Cell → α → List Host.Cell)
    (hf : ∀ m x, Mem.wf m = true → Mem.wf (f m x) = true) (l : List α) (m : List Host.Cell) (h : Mem.wf m = true) :
    Mem.wf (l.foldl f m) = true := by
  induction l generalizing m with
  | nil => exact h
  | cons x l ih => exact ih _ (hf m x h)

@[simp] theorem State.patternUnit_wf (s : State) (c off : Nat) (m : List Host.Cell) (h : Mem.wf m = true) :
    Mem.wf (s.patternUnit c off m) = true := by
  simp only [State.patternUnit]
  split
  · refine foldl_wf_keep _ (fun m i hm => ?_) _ _ h
    simp [hm]
  · exact h

@[simp] theorem State.leavePattern_wf_mem (s : State) (c rows : Nat) (h : Mem.wf s.mem = true) :
    Mem.wf (State.leavePattern s c rows).mem = true := by
  unfold State.leavePattern
  split
  · exact foldl_wf_keep _ (fun m r hm => foldl_wf_keep _ (fun m i hm => State.patternUnit_wf s c _ m hm) _ _ hm) _ _ h
  · simp [h]

@[simp] theorem State.startUnit_frame (s : State) (u : Nat) :
    (State.startUnit s u).pending = s.pending ∧ (State.startUnit s u).ctl.mode = s.ctl.mode ∧ (State.startUnit s u).mem = s.mem ∧ (State.startUnit s u).nand.flash = s.nand.flash := by
  simp [State.startUnit]

@[simp] theorem State.cutPattern_frame (s : State) (u : Nat) :
    (State.cutPattern s u).pending = s.pending ∧ (State.cutPattern s u).ctl.mode = s.ctl.mode ∧ (State.cutPattern s u).nand.flash = s.nand.flash := by
  simp [State.cutPattern]

@[simp] theorem State.cutPattern_wf_mem (s : State) (u : Nat) (h : Mem.wf s.mem = true) :
    Mem.wf (State.cutPattern s u).mem = true := by
  unfold State.cutPattern; (try dsimp only); repeat' split
  all_goals simp (maxDischargeDepth := 40) +contextual [h, -List.foldl_reverse]

@[simp] theorem State.cutRows_frame (s : State) (u : Nat) :
    (State.cutRows s u).pending = s.pending ∧ (State.cutRows s u).ctl.mode = s.ctl.mode ∧ (State.cutRows s u).mem = s.mem ∧ (State.cutRows s u).nand.flash = s.nand.flash := by
  simp [State.cutRows]

@[simp] theorem State.cutTests_frame (s : State) :
    (State.cutTests s).pending = s.pending ∧ (State.cutTests s).ctl.mode = s.ctl.mode ∧ (State.cutTests s).nand.flash = s.nand.flash := by
  simp [State.cutTests]

@[simp] theorem State.cutTests_wf_mem (s : State) (h : Mem.wf s.mem = true) :
    Mem.wf (State.cutTests s).mem = true := by
  unfold State.cutTests; (try dsimp only); repeat' split
  all_goals simp_all (maxDischargeDepth := 40)

@[simp] theorem State.countUnit_frame (s : State) (u bits errors line : Nat) :
    (State.countUnit s u bits errors line).pending = s.pending ∧ (State.countUnit s u bits errors line).ctl.mode = s.ctl.mode ∧ (State.countUnit s u bits errors line).mem = s.mem ∧ (State.countUnit s u bits errors line).nand.flash = s.nand.flash := by
  simp [State.countUnit]

@[simp] theorem State.ptWrite_frame (s : State) (v bits errors line : Nat) :
    (State.ptWrite s v bits errors line).pending = s.pending ∧ (State.ptWrite s v bits errors line).ctl.mode = s.ctl.mode ∧ (State.ptWrite s v bits errors line).nand.flash = s.nand.flash := by
  simp [State.ptWrite]

@[simp] theorem State.ptWrite_wf_mem (s : State) (v bits errors line : Nat) (h : Mem.wf s.mem = true) :
    Mem.wf (State.ptWrite s v bits errors line).mem = true := by
  unfold State.ptWrite; (try dsimp only); repeat' split
  all_goals simp (maxDischargeDepth := 40) +contextual [h, -List.foldl_reverse]

@[simp] theorem State.preemptUnits_frame (s : State) :
    (State.preemptUnits s).pending = s.pending ∧ (State.preemptUnits s).ctl.mode = s.ctl.mode ∧ (State.preemptUnits s).mem = s.mem ∧ (State.preemptUnits s).nand.flash = s.nand.flash := by
  simp [State.preemptUnits]

@[simp] theorem State.stopLinkUnits_frame (s : State) (i : Nat) :
    (State.stopLinkUnits s i).pending = s.pending ∧ (State.stopLinkUnits s i).ctl.mode = s.ctl.mode ∧ (State.stopLinkUnits s i).mem = s.mem ∧ (State.stopLinkUnits s i).nand.flash = s.nand.flash := by
  simp [State.stopLinkUnits]

@[simp] theorem State.stopPortUnits_frame (s : State) (p : Nat) :
    (State.stopPortUnits s p).pending = s.pending ∧ (State.stopPortUnits s p).ctl.mode = s.ctl.mode ∧ (State.stopPortUnits s p).mem = s.mem ∧ (State.stopPortUnits s p).nand.flash = s.nand.flash := by
  simp [State.stopPortUnits]

theorem execCheckerLock_frame (unit : Nat) (s : State) (t : State)
    (h : execCheckerLock unit s = .next t) : t.pending = s.pending ∧ t.ctl.mode = s.ctl.mode ∧ t.mem = s.mem ∧ t.nand.flash = s.nand.flash := by
  unfold execCheckerLock at h; cases h; simp

theorem execCheckerLockLoss_frame (unit bits errors : Nat) (s : State) (t : State)
    (h : execCheckerLockLoss unit bits errors s = .next t) : t.pending = s.pending ∧ t.ctl.mode = s.ctl.mode ∧ t.mem = s.mem ∧ t.nand.flash = s.nand.flash := by
  unfold execCheckerLockLoss at h; cases h; simp

@[simp] theorem State.marginWrite_frame (s : State) (v : Nat) :
    (State.marginWrite s v).pending = s.pending ∧ (State.marginWrite s v).ctl.mode = s.ctl.mode ∧ (State.marginWrite s v).mem = s.mem ∧ (State.marginWrite s v).nand.flash = s.nand.flash := by
  exact ⟨rfl, rfl, rfl, rfl⟩

theorem execMarginRunComplete_frame (unit firstFailing : Nat) (s : State) (t : State)
    (h : execMarginRunComplete unit firstFailing s = .next t) : t.pending = s.pending ∧ t.ctl.mode = s.ctl.mode ∧ t.mem = s.mem ∧ t.nand.flash = s.nand.flash := by
  unfold execMarginRunComplete at h; cases h; simp

@[simp] theorem State.tapLoad_frame (s : State) (opcode data : Nat) (allowed : Bool) :
    (State.tapLoad s opcode data allowed).pending = s.pending ∧ (State.tapLoad s opcode data allowed).ctl.mode = s.ctl.mode ∧ (State.tapLoad s opcode data allowed).mem = s.mem ∧ (State.tapLoad s opcode data allowed).nand.flash = s.nand.flash := by
  simp [State.tapLoad]

theorem execTapExtest_frame (s : State) (t : State)
    (h : execTapExtest s = .next t) : t.pending = s.pending ∧ t.ctl.mode = s.ctl.mode ∧ t.mem = s.mem ∧ t.nand.flash = s.nand.flash := by
  unfold execTapExtest State.tapScan at h; cases h; simp

theorem execTapIdcode_frame (s : State) (t : State)
    (h : execTapIdcode s = .next t) : t.pending = s.pending ∧ t.ctl.mode = s.ctl.mode ∧ t.mem = s.mem ∧ t.nand.flash = s.nand.flash := by
  unfold execTapIdcode at h; cases h; exact ⟨rfl, rfl, rfl, rfl⟩

theorem execTapSamplePreload_frame (s : State) (t : State)
    (h : execTapSamplePreload s = .next t) : t.pending = s.pending ∧ t.ctl.mode = s.ctl.mode ∧ t.mem = s.mem ∧ t.nand.flash = s.nand.flash := by
  unfold execTapSamplePreload State.tapScan at h; cases h; exact ⟨rfl, rfl, rfl, rfl⟩

theorem execTapClamp_frame (s : State) (t : State)
    (h : execTapClamp s = .next t) : t.pending = s.pending ∧ t.ctl.mode = s.ctl.mode ∧ t.mem = s.mem ∧ t.nand.flash = s.nand.flash := by
  unfold execTapClamp at h; cases h; simp

theorem execTapHighz_frame (s : State) (t : State)
    (h : execTapHighz s = .next t) : t.pending = s.pending ∧ t.ctl.mode = s.ctl.mode ∧ t.mem = s.mem ∧ t.nand.flash = s.nand.flash := by
  unfold execTapHighz at h; cases h; simp

theorem execTapExtestPulse_frame (s : State) (t : State)
    (h : execTapExtestPulse s = .next t) : t.pending = s.pending ∧ t.ctl.mode = s.ctl.mode ∧ t.mem = s.mem ∧ t.nand.flash = s.nand.flash := by
  unfold execTapExtestPulse State.tapScan at h; cases h; simp

theorem execTapExtestTrain_frame (s : State) (t : State)
    (h : execTapExtestTrain s = .next t) : t.pending = s.pending ∧ t.ctl.mode = s.ctl.mode ∧ t.mem = s.mem ∧ t.nand.flash = s.nand.flash := by
  unfold execTapExtestTrain State.tapScan at h; cases h; simp

theorem execTapTestAccess_frame (s : State) (t : State)
    (h : execTapTestAccess s = .next t) : t.pending = s.pending ∧ t.ctl.mode = s.ctl.mode ∧ t.mem = s.mem ∧ t.nand.flash = s.nand.flash := by
  unfold execTapTestAccess State.tapScan at h; cases h; simp

theorem execTapBypass_frame (s : State) (t : State)
    (h : execTapBypass s = .next t) : t.pending = s.pending ∧ t.ctl.mode = s.ctl.mode ∧ t.mem = s.mem ∧ t.nand.flash = s.nand.flash := by
  unfold execTapBypass at h; cases h; exact ⟨rfl, rfl, rfl, rfl⟩

end Sys2Proof.Machine
end

