-- ==== Sys2Proof/Laws/Power.lean ====
section
/-! SUPPORT. What the operations and commands of Machine/Power.lean keep: the queue, and the mode, the bytes of DRAM and of
flash, or the canonical form of those bytes. -/

namespace Sys2Proof.Machine

@[simp] theorem State.alarmBit_frame (s : State) (n : Nat) :
    (State.alarmBit s n).pending = s.pending ∧ (State.alarmBit s n).ctl.mode = s.ctl.mode ∧ (State.alarmBit s n).mem = s.mem ∧ (State.alarmBit s n).nand.flash = s.nand.flash := by
  simp [State.alarmBit]

@[simp] theorem State.chargerFault_frame (s : State) (cause : ChargerCause) :
    (State.chargerFault s cause).pending = s.pending ∧ (State.chargerFault s cause).ctl.mode = s.ctl.mode ∧ (State.chargerFault s cause).mem = s.mem ∧ (State.chargerFault s cause).nand.flash = s.nand.flash := by
  simp [State.chargerFault]

@[simp] theorem State.chargerOff_frame (s : State) :
    (State.chargerOff s).pending = s.pending ∧ (State.chargerOff s).ctl.mode = s.ctl.mode ∧ (State.chargerOff s).mem = s.mem ∧ (State.chargerOff s).nand.flash = s.nand.flash := by
  exact ⟨rfl, rfl, rfl, rfl⟩

@[simp] theorem State.clearTimeout_frame (s : State) :
    (State.clearTimeout s).pending = s.pending ∧ (State.clearTimeout s).ctl.mode = s.ctl.mode ∧ (State.clearTimeout s).mem = s.mem ∧ (State.clearTimeout s).nand.flash = s.nand.flash := by
  simp [State.clearTimeout]

@[simp] theorem State.warn_frame (s : State) :
    (State.warn s).pending = s.pending ∧ (State.warn s).ctl.mode = s.ctl.mode ∧ (State.warn s).mem = s.mem ∧ (State.warn s).nand.flash = s.nand.flash := by
  simp [State.warn]

@[simp] theorem State.setRail_frame (s : State) (r st : Nat) :
    (State.setRail s r st).pending = s.pending ∧ (State.setRail s r st).ctl.mode = s.ctl.mode ∧ (State.setRail s r st).mem = s.mem ∧ (State.setRail s r st).nand.flash = s.nand.flash := by
  exact ⟨rfl, rfl, rfl, rfl⟩

@[simp] theorem State.setRails_frame (s : State) (rs : List Nat) (st : Nat) :
    (State.setRails s rs st).pending = s.pending ∧ (State.setRails s rs st).ctl.mode = s.ctl.mode ∧ (State.setRails s rs st).mem = s.mem ∧ (State.setRails s rs st).nand.flash = s.nand.flash := by
  simp [State.setRails]

@[simp] theorem State.setGroup_frame (s : State) (g st : Nat) :
    (State.setGroup s g st).pending = s.pending ∧ (State.setGroup s g st).ctl.mode = s.ctl.mode ∧ (State.setGroup s g st).mem = s.mem ∧ (State.setGroup s g st).nand.flash = s.nand.flash := by
  exact ⟨rfl, rfl, rfl, rfl⟩

@[simp] theorem State.linksDown_frame (s : State) :
    (State.linksDown s).pending = s.pending ∧ (State.linksDown s).ctl.mode = s.ctl.mode ∧ (State.linksDown s).mem = s.mem ∧ (State.linksDown s).nand.flash = s.nand.flash := by
  exact ⟨rfl, rfl, rfl, rfl⟩

@[simp] theorem State.toDormant_frame (s : State) :
    (State.toDormant s).pending = s.pending ∧ (State.toDormant s).mem = s.mem ∧ (State.toDormant s).nand.flash = s.nand.flash := by
  simp [State.toDormant]

@[simp] theorem State.seqFinish_frame (s : State) :
    (State.seqFinish s).pending = s.pending ∧ (State.seqFinish s).ctl.mode = s.ctl.mode ∧ (State.seqFinish s).mem = s.mem ∧ (State.seqFinish s).nand.flash = s.nand.flash := by
  simp [State.seqFinish]

@[simp] theorem State.seqRun_frame (n k : Nat) (s : State) :
    (State.seqRun n k s).pending = s.pending ∧ (State.seqRun n k s).ctl.mode = s.ctl.mode
      ∧ (State.seqRun n k s).mem = s.mem ∧ (State.seqRun n k s).nand.flash = s.nand.flash := by
  induction n generalizing k s with
  | zero => simp [State.seqRun]
  | succ n ih =>
    unfold State.seqRun
    split
    · simp
    · dsimp only; split <;> simp [ih]

@[simp] theorem State.seqUp_frame (s : State) :
    (State.seqUp s).pending = s.pending ∧ (State.seqUp s).ctl.mode = s.ctl.mode ∧ (State.seqUp s).mem = s.mem ∧ (State.seqUp s).nand.flash = s.nand.flash := by
  simp [State.seqUp]

@[simp] theorem State.abortDone_frame (s : State) :
    (State.abortDone s).pending = s.pending ∧ (State.abortDone s).mem = s.mem ∧ (State.abortDone s).nand.flash = s.nand.flash := by
  simp [State.abortDone]

@[simp] theorem State.groupsDown_frame (s : State) :
    (State.groupsDown s).pending = s.pending ∧ (State.groupsDown s).ctl.mode = s.ctl.mode ∧ (State.groupsDown s).mem = s.mem ∧ (State.groupsDown s).nand.flash = s.nand.flash := by
  simp [State.groupsDown]

@[simp] theorem State.seqIdle_frame (s : State) :
    (State.seqIdle s).pending = s.pending ∧ (State.seqIdle s).ctl.mode = s.ctl.mode ∧ (State.seqIdle s).mem = s.mem ∧ (State.seqIdle s).nand.flash = s.nand.flash := by
  exact ⟨rfl, rfl, rfl, rfl⟩

@[simp] theorem State.downDone_frame (s : State) :
    (State.downDone s).pending = s.pending ∧ (State.downDone s).mem = s.mem ∧ (State.downDone s).nand.flash = s.nand.flash := by
  simp [State.downDone]

@[simp] theorem State.downStep_frame (s : State) :
    (State.downStep s).pending = s.pending ∧ (State.downStep s).mem = s.mem ∧ (State.downStep s).nand.flash = s.nand.flash := by
  refine ⟨?_, ?_, ?_⟩ <;> (unfold State.downStep; (try dsimp only); repeat' split) <;> simp

@[simp] theorem State.seqDown_frame (s : State) :
    (State.seqDown s).pending = s.pending ∧ (State.seqDown s).mem = s.mem ∧ (State.seqDown s).nand.flash = s.nand.flash := by
  simp [State.seqDown]

@[simp] theorem State.seqAbort_frame (s : State) :
    (State.seqAbort s).pending = s.pending ∧ (State.seqAbort s).mem = s.mem ∧ (State.seqAbort s).nand.flash = s.nand.flash := by
  simp [State.seqAbort]

@[simp] theorem State.groupUp_frame (n g k : Nat) (s : State) :
    (State.groupUp n g k s).pending = s.pending ∧ (State.groupUp n g k s).ctl.mode = s.ctl.mode
      ∧ (State.groupUp n g k s).mem = s.mem ∧ (State.groupUp n g k s).nand.flash = s.nand.flash := by
  induction n generalizing k s with
  | zero => simp [State.groupUp]
  | succ n ih =>
    unfold State.groupUp
    split
    · simp
    · dsimp only; split <;> simp [ih]

@[simp] theorem State.groupDownStep_frame (s : State) (g : Nat) :
    (State.groupDownStep s g).pending = s.pending ∧ (State.groupDownStep s g).ctl.mode = s.ctl.mode ∧ (State.groupDownStep s g).mem = s.mem ∧ (State.groupDownStep s g).nand.flash = s.nand.flash := by
  refine ⟨?_, ?_, ?_, ?_⟩ <;> (unfold State.groupDownStep; (try dsimp only); repeat' split) <;> simp

@[simp] theorem State.groupShut_frame (s : State) (g : Nat) :
    (State.groupShut s g).pending = s.pending ∧ (State.groupShut s g).ctl.mode = s.ctl.mode ∧ (State.groupShut s g).mem = s.mem ∧ (State.groupShut s g).nand.flash = s.nand.flash := by
  simp [State.groupShut]

@[simp] theorem State.groupEnable_frame (s : State) (g v : Nat) :
    (State.groupEnable s g v).pending = s.pending ∧ (State.groupEnable s g v).ctl.mode = s.ctl.mode ∧ (State.groupEnable s g v).mem = s.mem ∧ (State.groupEnable s g v).nand.flash = s.nand.flash := by
  simp [State.groupEnable]

@[simp] theorem State.railGood_frame (s : State) (r : Nat) :
    (State.railGood s r).pending = s.pending ∧ (State.railGood s r).ctl.mode = s.ctl.mode ∧ (State.railGood s r).mem = s.mem ∧ (State.railGood s r).nand.flash = s.nand.flash := by
  simp [State.railGood]

theorem execRailStable_frame (rail : Fin 32) (s : State) (t : State)
    (h : execRailStable rail s = .next t) : t.pending = s.pending ∧ t.ctl.mode = s.ctl.mode ∧ t.mem = s.mem ∧ t.nand.flash = s.nand.flash := by
  unfold execRailStable at h; cases h; simp

@[simp] theorem State.railsOff_frame (s : State) :
    (State.railsOff s).pending = s.pending ∧ (State.railsOff s).mem = s.mem ∧ (State.railsOff s).nand.flash = s.nand.flash := by
  simp [State.railsOff]

theorem execRailDown_frame (s : State) (t : State)
    (h : execRailDown s = .next t) : t.pending = s.pending ∧ t.mem = s.mem ∧ t.nand.flash = s.nand.flash := by
  unfold execRailDown at h; cases h; simp

@[simp] theorem State.glitch_frame (s : State) (r : Nat) :
    (State.glitch s r).pending = s.pending ∧ (State.glitch s r).mem = s.mem ∧ (State.glitch s r).nand.flash = s.nand.flash := by
  simp [State.glitch]

theorem execPgGlitch_frame (rail : Fin 32) (s : State) (t : State)
    (h : execPgGlitch rail s = .next t) : t.pending = s.pending ∧ t.mem = s.mem ∧ t.nand.flash = s.nand.flash := by
  unfold execPgGlitch at h; cases h; simp

theorem execSeqTimeout_frame (s : State) (t : State)
    (h : execSeqTimeout s = .next t) : t.pending = s.pending ∧ t.mem = s.mem ∧ t.nand.flash = s.nand.flash := by
  unfold execSeqTimeout at h; cases h; simp

theorem execSeqRetryWaitEnd_frame (s : State) (t : State)
    (h : execSeqRetryWaitEnd s = .next t) : t.pending = s.pending ∧ t.ctl.mode = s.ctl.mode ∧ t.mem = s.mem ∧ t.nand.flash = s.nand.flash := by
  unfold execSeqRetryWaitEnd at h; cases h; simp

theorem execRetryRailExpire_frame (rail : Fin 32) (s : State) (t : State)
    (h : execRetryRailExpire rail s = .next t) : t.pending = s.pending ∧ t.ctl.mode = s.ctl.mode ∧ t.mem = s.mem ∧ t.nand.flash = s.nand.flash := by
  unfold execRetryRailExpire at h; cases h; (try dsimp only); refine ⟨?_, ?_, ?_, ?_⟩ <;> (repeat' split) <;> simp

end Sys2Proof.Machine
end

