-- ==== Sys2Proof/Laws/Reset.lean ====
section
/-! SUPPORT. What the operations and commands of Machine/Reset.lean keep: the queue, and the mode, the bytes of DRAM and of
flash, or the canonical form of those bytes. -/

namespace Sys2Proof.Machine

@[simp] theorem State.enterDormant_frame (s : State) :
    (State.enterDormant s).pending = s.pending ∧ (State.enterDormant s).mem = s.mem ∧ (State.enterDormant s).nand.flash = s.nand.flash := by
  simp [State.enterDormant]

@[simp] theorem State.trainLinks_frame (s : State) :
    (State.trainLinks s).pending = s.pending ∧ (State.trainLinks s).ctl.mode = s.ctl.mode ∧ (State.trainLinks s).mem = s.mem ∧ (State.trainLinks s).nand.flash = s.nand.flash := by
  simp [State.trainLinks]

@[simp] theorem State.startBringUp_frame (s : State) :
    (State.startBringUp s).pending = s.pending ∧ (State.startBringUp s).mem = s.mem ∧ (State.startBringUp s).nand.flash = s.nand.flash := by
  simp [State.startBringUp]

@[simp] theorem State.inputIsGood_frame (s : State) :
    (State.inputIsGood s).pending = s.pending ∧ (State.inputIsGood s).nand.flash = s.nand.flash := by
  simp [State.inputIsGood]

@[simp] theorem State.inputIsGood_wf_mem (s : State) (h : Mem.wf s.mem = true) :
    Mem.wf (State.inputIsGood s).mem = true := by
  unfold State.inputIsGood; (try dsimp only); repeat' split
  all_goals simp (maxDischargeDepth := 40) [h]

@[simp] theorem State.seqRetry_frame (s : State) :
    (State.seqRetry s).pending = s.pending ∧ (State.seqRetry s).nand.flash = s.nand.flash := by
  simp [State.seqRetry]

@[simp] theorem State.seqRetry_wf_mem (s : State) (h : Mem.wf s.mem = true) :
    Mem.wf (State.seqRetry s).mem = true := by
  unfold State.seqRetry; (try dsimp only); repeat' split
  all_goals simp (maxDischargeDepth := 40) [h]

theorem execInputGood_frame (s : State) (t : State)
    (h : execInputGood s = .next t) : t.pending = s.pending ∧ t.nand.flash = s.nand.flash := by
  unfold execInputGood at h; cases h; simp

theorem execInputGood_wf_mem (s : State) (t : State)
    (h : execInputGood s = .next t) (hm : Mem.wf s.mem = true) : Mem.wf t.mem = true := by
  unfold execInputGood at h; cases h; (try dsimp only); repeat' split
  all_goals simp (maxDischargeDepth := 40) [hm]

@[simp] theorem State.stopBringUp_frame (s : State) :
    (State.stopBringUp s).pending = s.pending ∧ (State.stopBringUp s).ctl.mode = s.ctl.mode ∧ (State.stopBringUp s).mem = s.mem ∧ (State.stopBringUp s).nand.flash = s.nand.flash := by
  exact ⟨rfl, rfl, rfl, rfl⟩

@[simp] theorem State.nandFound_frame (s : State) (b : BringUpInputs) :
    (State.nandFound s b).pending = s.pending ∧ (State.nandFound s b).ctl.mode = s.ctl.mode ∧ (State.nandFound s b).mem = s.mem := by
  refine ⟨?_, ?_, ?_⟩ <;> (unfold State.nandFound; (try dsimp only); repeat' split) <;> simp

@[simp] theorem State.nandFound_wf_flash (s : State) (b : BringUpInputs) (h : Flash.wf s.nand.flash = true) :
    Flash.wf (State.nandFound s b).nand.flash = true := by
  unfold State.nandFound; (try dsimp only); repeat' split
  all_goals simp_all (maxDischargeDepth := 40)

@[simp] theorem State.rateCheck_frame (s : State) (b : BringUpInputs) :
    (State.rateCheck s b).pending = s.pending ∧ (State.rateCheck s b).ctl.mode = s.ctl.mode ∧ (State.rateCheck s b).mem = s.mem ∧ (State.rateCheck s b).nand.flash = s.nand.flash := by
  refine ⟨?_, ?_, ?_, ?_⟩ <;> (unfold State.rateCheck; (try dsimp only); repeat' split) <;> simp

@[simp] theorem State.takeLayout_frame (s : State) (l : Layout) :
    (State.takeLayout s l).pending = s.pending ∧ (State.takeLayout s l).ctl.mode = s.ctl.mode ∧ (State.takeLayout s l).nand.flash = s.nand.flash := by
  simp [State.takeLayout]

@[simp] theorem State.takeLayout_wf_mem (s : State) (l : Layout) (h : Mem.wf s.mem = true) :
    Mem.wf (State.takeLayout s l).mem = true := by
  simp (maxDischargeDepth := 40) [State.takeLayout, h]

@[simp] theorem State.takeHash_frame (s : State) :
    (State.takeHash s).pending = s.pending ∧ (State.takeHash s).ctl.mode = s.ctl.mode ∧ (State.takeHash s).mem = s.mem ∧ (State.takeHash s).nand.flash = s.nand.flash := by
  simp [State.takeHash]

@[simp] theorem State.takeD_frame (s : State) (g : Nat) (vs : Map Nat) :
    (State.takeD s g vs).pending = s.pending ∧ (State.takeD s g vs).ctl.mode = s.ctl.mode ∧ (State.takeD s g vs).mem = s.mem ∧ (State.takeD s g vs).nand.flash = s.nand.flash := by
  simp [State.takeD]

@[simp] theorem State.writeBackD_frame (s : State) :
    (State.writeBackD s).pending = s.pending ∧ (State.writeBackD s).ctl.mode = s.ctl.mode ∧ (State.writeBackD s).mem = s.mem ∧ (State.writeBackD s).nand.flash = s.nand.flash := by
  exact ⟨rfl, rfl, rfl, rfl⟩

@[simp] theorem State.adoptD_frame (s : State) :
    (State.adoptD s).pending = s.pending ∧ (State.adoptD s).ctl.mode = s.ctl.mode ∧ (State.adoptD s).mem = s.mem ∧ (State.adoptD s).nand.flash = s.nand.flash := by
  refine ⟨?_, ?_, ?_, ?_⟩ <;> (unfold State.adoptD; (try dsimp only); repeat' split) <;> simp

@[simp] theorem State.fullTokens_frame (s : State) :
    (State.fullTokens s).pending = s.pending ∧ (State.fullTokens s).ctl.mode = s.ctl.mode ∧ (State.fullTokens s).mem = s.mem ∧ (State.fullTokens s).nand.flash = s.nand.flash := by
  exact ⟨rfl, rfl, rfl, rfl⟩

@[simp] theorem State.fillTokens_frame (s : State) :
    (State.fillTokens s).pending = s.pending ∧ (State.fillTokens s).ctl.mode = s.ctl.mode ∧ (State.fillTokens s).mem = s.mem ∧ (State.fillTokens s).nand.flash = s.nand.flash := by
  simp [State.fillTokens]

@[simp] theorem State.shortRetained_frame (s : State) :
    (State.shortRetained s).pending = s.pending ∧ (State.shortRetained s).ctl.mode = s.ctl.mode ∧ (State.shortRetained s).mem = s.mem ∧ (State.shortRetained s).nand.flash = s.nand.flash := by
  refine ⟨?_, ?_, ?_, ?_⟩ <;> (unfold State.shortRetained; (try dsimp only); repeat' split) <;> simp

@[simp] theorem State.saveCut_frame (s : State) :
    (State.saveCut s).pending = s.pending ∧ (State.saveCut s).ctl.mode = s.ctl.mode ∧ (State.saveCut s).mem = s.mem ∧ (State.saveCut s).nand.flash = s.nand.flash := by
  refine ⟨?_, ?_, ?_, ?_⟩ <;> (unfold State.saveCut; (try dsimp only); repeat' split) <;> simp

@[simp] theorem State.reopen'_frame (s : State) :
    (State.reopen' s).pending = s.pending ∧ (State.reopen' s).nand.flash = s.nand.flash := by
  simp [State.reopen']

@[simp] theorem State.reopen'_wf_mem (s : State) (h : Mem.wf s.mem = true) :
    Mem.wf (State.reopen' s).mem = true := by
  simp (maxDischargeDepth := 40) [State.reopen', h]

@[simp] theorem State.openEmpty_frame (s : State) :
    (State.openEmpty s).pending = s.pending ∧ (State.openEmpty s).nand.flash = s.nand.flash := by
  simp [State.openEmpty]

@[simp] theorem State.openEmpty_wf_mem (s : State) (h : Mem.wf s.mem = true) :
    Mem.wf (State.openEmpty s).mem = true := by
  simp (maxDischargeDepth := 40) [State.openEmpty, h]

@[simp] theorem State.toRestore_frame (s : State) :
    (State.toRestore s).pending = s.pending ∧ (State.toRestore s).mem = s.mem ∧ (State.toRestore s).nand.flash = s.nand.flash := by
  exact ⟨rfl, rfl, rfl⟩

@[simp] theorem State.bringUpOutcome_frame (s : State) :
    (State.bringUpOutcome s).pending = s.pending ∧ (State.bringUpOutcome s).nand.flash = s.nand.flash := by
  simp [State.bringUpOutcome]

@[simp] theorem State.bringUpOutcome_wf_mem (s : State) (h : Mem.wf s.mem = true) :
    Mem.wf (State.bringUpOutcome s).mem = true := by
  unfold State.bringUpOutcome; (try dsimp only); repeat' split
  all_goals simp (maxDischargeDepth := 40) [h]

@[simp] theorem State.resetSpent_frame (s : State) :
    (State.resetSpent s).pending = s.pending ∧ (State.resetSpent s).ctl.mode = s.ctl.mode ∧ (State.resetSpent s).mem = s.mem ∧ (State.resetSpent s).nand.flash = s.nand.flash := by
  exact ⟨rfl, rfl, rfl, rfl⟩

@[simp] theorem State.bringUpRest_frame (s : State) (b : BringUpInputs) :
    (State.bringUpRest s b).pending = s.pending := by
  simp [State.bringUpRest]

@[simp] theorem State.bringUpRest_wf_mem (s : State) (b : BringUpInputs) (h : Mem.wf s.mem = true) :
    Mem.wf (State.bringUpRest s b).mem = true := by
  unfold State.bringUpRest; (try dsimp only); repeat' split
  all_goals simp (maxDischargeDepth := 40) [h]

@[simp] theorem State.bringUpRest_wf_flash (s : State) (b : BringUpInputs) (h : Flash.wf s.nand.flash = true) :
    Flash.wf (State.bringUpRest s b).nand.flash = true := by
  unfold State.bringUpRest; (try dsimp only); repeat' split
  all_goals simp (maxDischargeDepth := 40) [h]

@[simp] theorem State.bringUpComplete_frame (s : State) (b : BringUpInputs) :
    (State.bringUpComplete s b).pending = s.pending := by
  simp [State.bringUpComplete]

@[simp] theorem State.bringUpComplete_wf_mem (s : State) (b : BringUpInputs) (h : Mem.wf s.mem = true) :
    Mem.wf (State.bringUpComplete s b).mem = true := by
  unfold State.bringUpComplete; (try dsimp only); repeat' split
  all_goals simp (maxDischargeDepth := 40) [h]

@[simp] theorem State.bringUpComplete_wf_flash (s : State) (b : BringUpInputs) (h : Flash.wf s.nand.flash = true) :
    Flash.wf (State.bringUpComplete s b).nand.flash = true := by
  unfold State.bringUpComplete; (try dsimp only); repeat' split
  all_goals simp (maxDischargeDepth := 40) [h]

theorem execBringUpComplete_frame (b : BringUpInputs) (s : State) (t : State)
    (h : execBringUpComplete b s = .next t) : t.pending = s.pending := by
  unfold execBringUpComplete at h; cases h; simp

theorem execBringUpComplete_wf_mem (b : BringUpInputs) (s : State) (t : State)
    (h : execBringUpComplete b s = .next t) (hm : Mem.wf s.mem = true) : Mem.wf t.mem = true := by
  unfold execBringUpComplete at h; cases h; (try dsimp only); repeat' split
  all_goals simp (maxDischargeDepth := 40) [hm]

theorem execBringUpComplete_wf_flash (b : BringUpInputs) (s : State) (t : State)
    (h : execBringUpComplete b s = .next t) (hm : Flash.wf s.nand.flash = true) : Flash.wf t.nand.flash = true := by
  unfold execBringUpComplete at h; cases h; (try dsimp only); repeat' split
  all_goals simp (maxDischargeDepth := 40) [hm]

@[simp] theorem State.holdTest_frame (s : State) :
    (State.holdTest s).pending = s.pending ∧ (State.holdTest s).ctl.mode = s.ctl.mode ∧ (State.holdTest s).mem = s.mem ∧ (State.holdTest s).nand.flash = s.nand.flash := by
  simp [State.holdTest]

@[simp] theorem State.storeCut_flash (s : State) : s.storeCut.flash = s.nand.flash := rfl

@[simp] theorem State.coldDrain_frame (s : State) :
    (State.coldDrain s).pending = s.pending ∧ (State.coldDrain s).ctl.mode = s.ctl.mode ∧
    (State.coldDrain s).nand.flash = s.nand.flash := by
  unfold State.coldDrain
  dsimp only
  split <;> simp

@[simp] theorem State.coldDrain_wf_mem (s : State) (h : Mem.wf s.mem = true) : Mem.wf (State.coldDrain s).mem = true := by
  unfold State.coldDrain
  dsimp only
  split <;> simp [h]

@[simp] theorem State.coldLogic_frame (s : State) :
    (State.coldLogic s).pending = s.pending ∧ (State.coldLogic s).ctl.mode = s.ctl.mode ∧ (State.coldLogic s).mem = s.mem ∧ (State.coldLogic s).nand.flash = s.nand.flash := by
  exact ⟨rfl, rfl, rfl, rfl⟩

@[simp] theorem State.coldControl_frame (s : State) :
    (State.coldControl s).pending = s.pending ∧ (State.coldControl s).ctl.mode = s.ctl.mode ∧ (State.coldControl s).mem = s.mem ∧ (State.coldControl s).nand.flash = s.nand.flash := by
  exact ⟨rfl, rfl, rfl, rfl⟩

@[simp] theorem State.coldNiura_frame (s : State) :
    (State.coldNiura s).pending = s.pending ∧ (State.coldNiura s).ctl.mode = s.ctl.mode ∧ (State.coldNiura s).nand.flash = s.nand.flash := by
  simp [State.coldNiura]

@[simp] theorem State.coldNiura_wf_mem (s : State) (h : Mem.wf s.mem = true) :
    Mem.wf (State.coldNiura s).mem = true := by
  unfold State.coldNiura; (try dsimp only); repeat' split
  all_goals simp (maxDischargeDepth := 40) [h]

@[simp] theorem State.startUp_frame (s : State) :
    (State.startUp s).pending = s.pending ∧ (State.startUp s).ctl.mode = s.ctl.mode ∧ (State.startUp s).mem = s.mem ∧ (State.startUp s).nand.flash = s.nand.flash := by
  simp [State.startUp]

@[simp] theorem State.coldEnd_frame (s : State) :
    (State.coldEnd s).pending = s.pending ∧ (State.coldEnd s).nand.flash = s.nand.flash := by
  simp [State.coldEnd]

@[simp] theorem State.coldEnd_wf_mem (s : State) (h : Mem.wf s.mem = true) :
    Mem.wf (State.coldEnd s).mem = true := by
  unfold State.coldEnd; (try dsimp only); repeat' split
  all_goals simp (maxDischargeDepth := 40) [h]

@[simp] theorem State.coldReset_frame (s : State) (cause : ColdCause) :
    (State.coldReset s cause).pending = s.pending ∧ (State.coldReset s cause).nand.flash = s.nand.flash := by
  simp [State.coldReset]

@[simp] theorem State.coldReset_wf_mem (s : State) (cause : ColdCause) (h : Mem.wf s.mem = true) :
    Mem.wf (State.coldReset s cause).mem = true := by
  unfold State.coldReset; (try dsimp only); repeat' split
  all_goals simp (maxDischargeDepth := 40) [h]

@[simp] theorem State.coldLatched_frame (s : State) :
    (State.coldLatched s).pending = s.pending ∧ (State.coldLatched s).nand.flash = s.nand.flash := by
  refine ⟨?_, ?_⟩ <;> (unfold State.coldLatched; (try dsimp only); repeat' split) <;> simp

@[simp] theorem State.coldLatched_wf_mem (s : State) (h : Mem.wf s.mem = true) :
    Mem.wf (State.coldLatched s).mem = true := by
  unfold State.coldLatched; (try dsimp only); repeat' split
  all_goals simp (maxDischargeDepth := 40) [h]

theorem execColdReset_frame (cause : ColdCause) (s : State) (t : State)
    (h : execColdReset cause s = .next t) : t.pending = s.pending ∧ t.nand.flash = s.nand.flash := by
  unfold execColdReset at h; cases h; simp

theorem execColdReset_wf_mem (cause : ColdCause) (s : State) (t : State)
    (h : execColdReset cause s = .next t) (hm : Mem.wf s.mem = true) : Mem.wf t.mem = true := by
  unfold execColdReset at h; cases h; (try dsimp only); repeat' split
  all_goals simp (maxDischargeDepth := 40) [hm]

@[simp] theorem State.powerLost_frame (s : State) :
    s.powerLost.pending = s.pending ∧ s.powerLost.nand.flash = s.nand.flash := by
  exact ⟨rfl, rfl⟩

@[simp] theorem State.powerLost_mem (s : State) : s.powerLost.mem = [] := by
  show State.reset.mem = []
  rfl

@[simp] theorem State.powerLost_mode (s : State) : s.powerLost.ctl.mode = .dormant := by
  show Control.reset.mode = .dormant
  rfl

@[simp] theorem State.powerOn_frame (s : State) :
    (State.powerOn s).pending = s.pending ∧ (State.powerOn s).nand.flash = s.nand.flash := by
  simp [State.powerOn]

@[simp] theorem State.powerOn_wf_mem (s : State) (h : Mem.wf s.mem = true) :
    Mem.wf (State.powerOn s).mem = true := by
  simp (maxDischargeDepth := 40) [State.powerOn, h]

theorem execPowerOnReset_frame (s : State) (t : State)
    (h : execPowerOnReset s = .next t) : t.pending = s.pending ∧ t.nand.flash = s.nand.flash := by
  unfold execPowerOnReset at h; cases h; simp

theorem execPowerOnReset_wf_mem (s : State) (t : State)
    (h : execPowerOnReset s = .next t) (hm : Mem.wf s.mem = true) : Mem.wf t.mem = true := by
  unfold execPowerOnReset at h; cases h; (try dsimp only); repeat' split
  all_goals simp (maxDischargeDepth := 40) [hm]

@[simp] theorem State.vauxFall_frame (s : State) :
    (State.vauxFall s).pending = s.pending ∧ (State.vauxFall s).mem = s.mem ∧ (State.vauxFall s).nand.flash = s.nand.flash := by
  simp [State.vauxFall]

theorem execVauxFall_frame (s : State) (t : State)
    (h : execVauxFall s = .next t) : t.pending = s.pending ∧ t.mem = s.mem ∧ t.nand.flash = s.nand.flash := by
  unfold execVauxFall at h; cases h; simp

@[simp] theorem State.cutoff_frame (s : State) :
    (State.cutoff s).pending = s.pending ∧ (State.cutoff s).ctl.mode = s.ctl.mode ∧ (State.cutoff s).mem = s.mem ∧ (State.cutoff s).nand.flash = s.nand.flash := by
  exact ⟨rfl, rfl, rfl, rfl⟩

@[simp] theorem State.bureauReset_frame (s : State) :
    (State.bureauReset s).pending = s.pending ∧ (State.bureauReset s).nand.flash = s.nand.flash := by
  simp [State.bureauReset]

@[simp] theorem State.bureauReset_wf_mem (s : State) (h : Mem.wf s.mem = true) :
    Mem.wf (State.bureauReset s).mem = true := by
  unfold State.bureauReset; (try dsimp only); repeat' split
  all_goals simp (maxDischargeDepth := 40) [h]

@[simp] theorem State.resetPort_frame (s : State) (p : Nat) :
    (State.resetPort s p).pending = s.pending ∧ (State.resetPort s p).ctl.mode = s.ctl.mode ∧ (State.resetPort s p).mem = s.mem ∧ (State.resetPort s p).nand.flash = s.nand.flash := by
  simp [State.resetPort]

@[simp] theorem State.resetTest_frame (s : State) :
    (State.resetTest s).pending = s.pending ∧ (State.resetTest s).ctl.mode = s.ctl.mode ∧ (State.resetTest s).nand.flash = s.nand.flash := by
  simp [State.resetTest]

@[simp] theorem State.resetTest_wf_mem (s : State) (h : Mem.wf s.mem = true) :
    Mem.wf (State.resetTest s).mem = true := by
  unfold State.resetTest; (try dsimp only); repeat' split
  all_goals simp_all (maxDischargeDepth := 40)

@[simp] theorem State.resetFlash_frame (s : State) :
    (State.resetFlash s).pending = s.pending ∧ (State.resetFlash s).ctl.mode = s.ctl.mode ∧ (State.resetFlash s).mem = s.mem ∧ (State.resetFlash s).nand.flash = s.nand.flash := by
  exact ⟨rfl, rfl, rfl, rfl⟩

@[simp] theorem State.shutBlock_frame (s : State) (c : Nat) :
    (State.shutBlock s c).pending = s.pending ∧ (State.shutBlock s c).ctl.mode = s.ctl.mode ∧ (State.shutBlock s c).nand.flash = s.nand.flash := by
  refine ⟨?_, ?_, ?_⟩ <;> (unfold State.shutBlock; (try dsimp only); repeat' split) <;> simp

@[simp] theorem State.shutBlock_wf_mem (s : State) (c : Nat) (h : Mem.wf s.mem = true) :
    Mem.wf (State.shutBlock s c).mem = true := by
  unfold State.shutBlock; (try dsimp only); repeat' split
  all_goals simp (maxDischargeDepth := 40) [h]

@[simp] theorem State.beginBlock_frame (s : State) (c : Nat) :
    (State.beginBlock s c).pending = s.pending ∧ (State.beginBlock s c).ctl.mode = s.ctl.mode ∧ (State.beginBlock s c).nand.flash = s.nand.flash := by
  simp [State.beginBlock]

@[simp] theorem State.beginBlock_wf_mem (s : State) (c : Nat) (h : Mem.wf s.mem = true) :
    Mem.wf (State.beginBlock s c).mem = true := by
  simp (maxDischargeDepth := 40) [State.beginBlock, h]

@[simp] theorem State.blockReset_frame (s : State) (c : Nat) :
    (State.blockReset s c).pending = s.pending ∧ (State.blockReset s c).ctl.mode = s.ctl.mode ∧ (State.blockReset s c).nand.flash = s.nand.flash := by
  refine ⟨?_, ?_, ?_⟩ <;> (unfold State.blockReset; (try dsimp only); repeat' split) <;> simp

@[simp] theorem State.blockReset_wf_mem (s : State) (c : Nat) (h : Mem.wf s.mem = true) :
    Mem.wf (State.blockReset s c).mem = true := by
  unfold State.blockReset; (try dsimp only); repeat' split
  all_goals simp (maxDischargeDepth := 40) [h]

@[simp] theorem State.blockStarted_frame (s : State) (c : Nat) :
    (State.blockStarted s c).pending = s.pending ∧ (State.blockStarted s c).ctl.mode = s.ctl.mode ∧ (State.blockStarted s c).nand.flash = s.nand.flash := by
  simp [State.blockStarted]

@[simp] theorem State.blockStarted_wf_mem (s : State) (c : Nat) (h : Mem.wf s.mem = true) :
    Mem.wf (State.blockStarted s c).mem = true := by
  unfold State.blockStarted; (try dsimp only); repeat' split
  all_goals simp (maxDischargeDepth := 40) [h]

theorem execBlockResetComplete_frame (code : Nat) (s : State) (t : State)
    (h : execBlockResetComplete code s = .next t) : t.pending = s.pending ∧ t.ctl.mode = s.ctl.mode ∧ t.nand.flash = s.nand.flash := by
  unfold execBlockResetComplete at h; cases h; (try dsimp only); refine ⟨?_, ?_, ?_⟩ <;> (repeat' split) <;> simp

theorem execBlockResetComplete_wf_mem (code : Nat) (s : State) (t : State)
    (h : execBlockResetComplete code s = .next t) (hm : Mem.wf s.mem = true) : Mem.wf t.mem = true := by
  unfold execBlockResetComplete at h; cases h; (try dsimp only); repeat' split
  all_goals simp (maxDischargeDepth := 40) [hm]

@[simp] theorem State.activate_frame (s : State) (q now : Nat) :
    (State.activate s q now).pending = s.pending ∧ (State.activate s q now).nand.flash = s.nand.flash := by
  simp [State.activate]

@[simp] theorem State.activate_wf_mem (s : State) (q now : Nat) (h : Mem.wf s.mem = true) :
    Mem.wf (State.activate s q now).mem = true := by
  unfold State.activate; (try dsimp only); repeat' split
  all_goals simp (maxDischargeDepth := 40) [h]

theorem execImageActivate_frame (seq now : Nat) (s : State) (t : State)
    (h : execImageActivate seq now s = .next t) : t.pending = s.pending ∧ t.nand.flash = s.nand.flash := by
  unfold execImageActivate State.svc at h; cases h; simp

theorem execImageActivate_wf_mem (seq now : Nat) (s : State) (t : State)
    (h : execImageActivate seq now s = .next t) (hm : Mem.wf s.mem = true) : Mem.wf t.mem = true := by
  unfold execImageActivate State.svc at h; cases h; (try dsimp only); repeat' split
  all_goals simp (maxDischargeDepth := 40) [hm]

end Sys2Proof.Machine
end

