-- ==== Sys2Proof/Laws/Save.lean ====
section
/-! SUPPORT. What the operations and commands of Machine/Save.lean keep: the queue, and the mode, the bytes of DRAM and of
flash, or the canonical form of those bytes. -/

namespace Sys2Proof.Machine

@[simp] theorem State.tripAborting_frame (s : State) :
    (State.tripAborting s).pending = s.pending ∧ (State.tripAborting s).mem = s.mem ∧ (State.tripAborting s).nand.flash = s.nand.flash := by
  simp [State.tripAborting]

@[simp] theorem State.tripArms_frame (s : State) (t : Trigger) (boundaries : Nat) :
    (State.tripArms s t boundaries).pending = s.pending ∧ (State.tripArms s t boundaries).ctl.mode = s.ctl.mode ∧ (State.tripArms s t boundaries).mem = s.mem ∧ (State.tripArms s t boundaries).nand.flash = s.nand.flash := by
  simp [State.tripArms]

@[simp] theorem State.tripMode_frame (s : State) (boundaries : Nat) :
    (State.tripMode s boundaries).pending = s.pending ∧ (State.tripMode s boundaries).mem = s.mem ∧ (State.tripMode s boundaries).nand.flash = s.nand.flash := by
  refine ⟨?_, ?_, ?_⟩ <;> (unfold State.tripMode; (try dsimp only); repeat' split) <;> simp

@[simp] theorem State.thermalTrip_frame (s : State) (detail : Nat) :
    (State.thermalTrip s detail).pending = s.pending ∧ (State.thermalTrip s detail).mem = s.mem ∧ (State.thermalTrip s detail).nand.flash = s.nand.flash := by
  refine ⟨?_, ?_, ?_⟩ <;> (unfold State.thermalTrip; (try dsimp only); repeat' split) <;> simp

@[simp] theorem State.trip_frame (s : State) (thermalNow : Bool) :
    (State.trip s thermalNow).pending = s.pending ∧ (State.trip s thermalNow).nand.flash = s.nand.flash := by
  simp [State.trip]

@[simp] theorem State.trip_wf_mem (s : State) (thermalNow : Bool) (h : Mem.wf s.mem = true) :
    Mem.wf (State.trip s thermalNow).mem = true := by
  simp (maxDischargeDepth := 40) [State.trip, h]

theorem execPowerFailTrip_frame (thermalNow : Bool) (s : State) (t : State)
    (h : execPowerFailTrip thermalNow s = .next t) : t.pending = s.pending ∧ t.nand.flash = s.nand.flash := by
  unfold execPowerFailTrip at h; cases h; simp

theorem execPowerFailTrip_wf_mem (thermalNow : Bool) (s : State) (t : State)
    (h : execPowerFailTrip thermalNow s = .next t) (hm : Mem.wf s.mem = true) : Mem.wf t.mem = true := by
  unfold execPowerFailTrip at h; cases h; (try dsimp only); repeat' split
  all_goals simp (maxDischargeDepth := 40) [hm]

@[simp] theorem State.wakeForSave_frame (s : State) :
    (State.wakeForSave s).pending = s.pending ∧ (State.wakeForSave s).ctl.mode = s.ctl.mode ∧ (State.wakeForSave s).mem = s.mem ∧ (State.wakeForSave s).nand.flash = s.nand.flash := by
  simp [State.wakeForSave]

@[simp] theorem Nand.stopBackground_flash (n : Nand) : n.stopBackground.flash = n.flash := rfl

@[simp] theorem State.saveBegin_frame (s : State) :
    (State.saveBegin s).pending = s.pending ∧ (State.saveBegin s).mem = s.mem ∧ (State.saveBegin s).nand.flash = s.nand.flash := by
  unfold State.saveBegin
  dsimp only
  simp only [State.reclass_frame]
  refine ⟨?_, ?_, ?_⟩ <;> simp

theorem execSaveBegin_frame (s : State) (t : State)
    (h : execSaveBegin s = .next t) : t.pending = s.pending ∧ t.mem = s.mem ∧ t.nand.flash = s.nand.flash := by
  unfold execSaveBegin at h; cases h; simp

@[simp] theorem State.poisonAwaiting_frame (s : State) :
    (State.poisonAwaiting s).pending = s.pending ∧ (State.poisonAwaiting s).ctl.mode = s.ctl.mode ∧ (State.poisonAwaiting s).nand.flash = s.nand.flash := by
  simp [State.poisonAwaiting]

@[simp] theorem State.poisonAwaiting_wf_mem (s : State) (h : Mem.wf s.mem = true) :
    Mem.wf (State.poisonAwaiting s).mem = true := by
  unfold State.poisonAwaiting; (try dsimp only); repeat' split
  all_goals simp_all (maxDischargeDepth := 40)

@[simp] theorem State.saveDrained_frame (s : State) :
    (State.saveDrained s).pending = s.pending ∧ (State.saveDrained s).ctl.mode = s.ctl.mode ∧ (State.saveDrained s).nand.flash = s.nand.flash := by
  simp [State.saveDrained]

@[simp] theorem State.saveDrained_wf_mem (s : State) (h : Mem.wf s.mem = true) :
    Mem.wf (State.saveDrained s).mem = true := by
  simp (maxDischargeDepth := 40) [State.saveDrained, h]

theorem execSaveDrainComplete_frame (s : State) (t : State)
    (h : execSaveDrainComplete s = .next t) : t.pending = s.pending ∧ t.ctl.mode = s.ctl.mode ∧ t.nand.flash = s.nand.flash := by
  unfold execSaveDrainComplete at h; cases h; simp

theorem execSaveDrainComplete_wf_mem (s : State) (t : State)
    (h : execSaveDrainComplete s = .next t) (hm : Mem.wf s.mem = true) : Mem.wf t.mem = true := by
  unfold execSaveDrainComplete at h; cases h; (try dsimp only); repeat' split
  all_goals simp (maxDischargeDepth := 40) [hm]

@[simp] theorem State.setImage_frame (s : State) (f : SaveImage → SaveImage) :
    (State.setImage s f).pending = s.pending ∧ (State.setImage s f).ctl.mode = s.ctl.mode ∧ (State.setImage s f).mem = s.mem ∧ (State.setImage s f).nand.flash = s.nand.flash := by
  exact ⟨rfl, rfl, rfl, rfl⟩

@[simp] theorem State.groupSetWritten_frame (s : State) :
    (State.groupSetWritten s).pending = s.pending ∧ (State.groupSetWritten s).ctl.mode = s.ctl.mode ∧ (State.groupSetWritten s).mem = s.mem ∧ (State.groupSetWritten s).nand.flash = s.nand.flash := by
  exact ⟨rfl, rfl, rfl, rfl⟩

theorem execSaveGroupSetComplete_frame (s : State) (t : State)
    (h : execSaveGroupSetComplete s = .next t) : t.pending = s.pending ∧ t.ctl.mode = s.ctl.mode ∧ t.mem = s.mem ∧ t.nand.flash = s.nand.flash := by
  unfold execSaveGroupSetComplete at h; cases h; simp

@[simp] theorem State.startRow_frame (s : State) :
    (State.startRow s).pending = s.pending ∧ (State.startRow s).ctl.mode = s.ctl.mode ∧ (State.startRow s).mem = s.mem ∧ (State.startRow s).nand.flash = s.nand.flash := by
  simp [State.startRow]

theorem execSaveRowStart_frame (s : State) (t : State)
    (h : execSaveRowStart s = .next t) : t.pending = s.pending ∧ t.ctl.mode = s.ctl.mode ∧ t.mem = s.mem ∧ t.nand.flash = s.nand.flash := by
  unfold execSaveRowStart at h; cases h; simp

theorem execSaveLeavesComplete_frame (s : State) (t : State)
    (h : execSaveLeavesComplete s = .next t) : t.pending = s.pending ∧ t.ctl.mode = s.ctl.mode ∧ t.mem = s.mem ∧ t.nand.flash = s.nand.flash := by
  unfold execSaveLeavesComplete at h; cases h; simp

@[simp] theorem State.saveMeta_frame (s : State) (n : Nat) :
    (State.saveMeta s n).pending = s.pending ∧ (State.saveMeta s n).ctl.mode = s.ctl.mode ∧ (State.saveMeta s n).mem = s.mem ∧ (State.saveMeta s n).nand.flash = s.nand.flash := by
  exact ⟨rfl, rfl, rfl, rfl⟩

@[simp] theorem State.deltasWritten_frame (s : State) :
    (State.deltasWritten s).pending = s.pending ∧ (State.deltasWritten s).ctl.mode = s.ctl.mode ∧ (State.deltasWritten s).mem = s.mem ∧ (State.deltasWritten s).nand.flash = s.nand.flash := by
  exact ⟨rfl, rfl, rfl, rfl⟩

theorem execSaveDeltasComplete_frame (s : State) (t : State)
    (h : execSaveDeltasComplete s = .next t) : t.pending = s.pending ∧ t.ctl.mode = s.ctl.mode ∧ t.mem = s.mem ∧ t.nand.flash = s.nand.flash := by
  unfold execSaveDeltasComplete at h; cases h; simp

@[simp] theorem State.measureSave_frame (s : State) (energyMj : Nat) :
    (State.measureSave s energyMj).pending = s.pending ∧ (State.measureSave s energyMj).ctl.mode = s.ctl.mode ∧ (State.measureSave s energyMj).mem = s.mem ∧ (State.measureSave s energyMj).nand.flash = s.nand.flash := by
  simp [State.measureSave]

@[simp] theorem State.logCredits_frame (s : State) :
    (State.logCredits s).pending = s.pending ∧ (State.logCredits s).ctl.mode = s.ctl.mode ∧ (State.logCredits s).mem = s.mem ∧ (State.logCredits s).nand.flash = s.nand.flash := by
  exact ⟨rfl, rfl, rfl, rfl⟩

@[simp] theorem State.writeSeal_frame (s : State) :
    (State.writeSeal s).pending = s.pending ∧ (State.writeSeal s).ctl.mode = s.ctl.mode ∧ (State.writeSeal s).mem = s.mem ∧ (State.writeSeal s).nand.flash = s.nand.flash := by
  exact ⟨rfl, rfl, rfl, rfl⟩

@[simp] theorem State.saveSealed_frame (s0 : State) (energyMj : Nat) :
    (State.saveSealed s0 energyMj).pending = s0.pending ∧ (State.saveSealed s0 energyMj).ctl.mode = s0.ctl.mode ∧ (State.saveSealed s0 energyMj).mem = s0.mem ∧ (State.saveSealed s0 energyMj).nand.flash = s0.nand.flash := by
  simp [State.saveSealed]

theorem execSaveSealed_frame (energyMj : Nat) (s : State) (t : State)
    (h : execSaveSealed energyMj s = .next t) : t.pending = s.pending ∧ t.ctl.mode = s.ctl.mode ∧ t.mem = s.mem ∧ t.nand.flash = s.nand.flash := by
  unfold execSaveSealed at h; cases h; simp

@[simp] theorem State.retrainDown_frame (s : State) :
    (State.retrainDown s).pending = s.pending ∧ (State.retrainDown s).ctl.mode = s.ctl.mode ∧ (State.retrainDown s).mem = s.mem ∧ (State.retrainDown s).nand.flash = s.nand.flash := by
  exact ⟨rfl, rfl, rfl, rfl⟩

@[simp] theorem State.leaveSave_frame (s : State) :
    (State.leaveSave s).pending = s.pending ∧ (State.leaveSave s).nand.flash = s.nand.flash := by
  refine ⟨?_, ?_⟩ <;> (unfold State.leaveSave; (try dsimp only); repeat' split) <;> simp

@[simp] theorem State.leaveSave_wf_mem (s : State) (h : Mem.wf s.mem = true) :
    Mem.wf (State.leaveSave s).mem = true := by
  unfold State.leaveSave; (try dsimp only); repeat' split
  all_goals simp (maxDischargeDepth := 40) [h]

@[simp] theorem State.saveDormant_frame (s : State) (keep : Bool) :
    (State.saveDormant s keep).pending = s.pending ∧ (State.saveDormant s keep).nand.flash = s.nand.flash := by
  simp [State.saveDormant]

@[simp] theorem State.saveDormant_wf_mem (s : State) (keep : Bool) (h : Mem.wf s.mem = true) :
    Mem.wf (State.saveDormant s keep).mem = true := by
  unfold State.saveDormant; (try dsimp only); repeat' split
  all_goals simp (maxDischargeDepth := 40) [h]

@[simp] theorem State.saveEnd_frame (s : State) :
    (State.saveEnd s).pending = s.pending ∧ (State.saveEnd s).nand.flash = s.nand.flash := by
  refine ⟨?_, ?_⟩ <;> (unfold State.saveEnd; (try dsimp only); repeat' split) <;> simp

@[simp] theorem State.saveEnd_wf_mem (s : State) (h : Mem.wf s.mem = true) :
    Mem.wf (State.saveEnd s).mem = true := by
  unfold State.saveEnd; (try dsimp only); repeat' split
  all_goals simp (maxDischargeDepth := 40) [h]

theorem execSaveEnd_frame (s : State) (t : State)
    (h : execSaveEnd s = .next t) : t.pending = s.pending ∧ t.nand.flash = s.nand.flash := by
  unfold execSaveEnd at h; cases h; simp

theorem execSaveEnd_wf_mem (s : State) (t : State)
    (h : execSaveEnd s = .next t) (hm : Mem.wf s.mem = true) : Mem.wf t.mem = true := by
  unfold execSaveEnd at h; cases h; (try dsimp only); repeat' split
  all_goals simp (maxDischargeDepth := 40) [hm]

@[simp] theorem State.finishRows_frame (s : State) :
    (State.finishRows s).pending = s.pending ∧ (State.finishRows s).ctl.mode = s.ctl.mode ∧ (State.finishRows s).mem = s.mem := by
  simp [State.finishRows]

@[simp] theorem State.finishRows_wf_flash (s : State) (h : Flash.wf s.nand.flash = true) :
    Flash.wf (State.finishRows s).nand.flash = true := by
  unfold State.finishRows; (try dsimp only); repeat' split
  all_goals simp_all (maxDischargeDepth := 40)

@[simp] theorem State.saveWithdrawn_frame (s : State) :
    (State.saveWithdrawn s).pending = s.pending := by
  simp [State.saveWithdrawn]

@[simp] theorem State.saveWithdrawn_wf_mem (s : State) (h : Mem.wf s.mem = true) :
    Mem.wf (State.saveWithdrawn s).mem = true := by
  simp (maxDischargeDepth := 40) [State.saveWithdrawn, h]

@[simp] theorem State.saveWithdrawn_wf_flash (s : State) (h : Flash.wf s.nand.flash = true) :
    Flash.wf (State.saveWithdrawn s).nand.flash = true := by
  simp (maxDischargeDepth := 40) [State.saveWithdrawn, h]

theorem execSaveWithdrawal_frame (s : State) (t : State)
    (h : execSaveWithdrawal s = .next t) : t.pending = s.pending := by
  unfold execSaveWithdrawal at h; cases h; simp

theorem execSaveWithdrawal_wf_mem (s : State) (t : State)
    (h : execSaveWithdrawal s = .next t) (hm : Mem.wf s.mem = true) : Mem.wf t.mem = true := by
  unfold execSaveWithdrawal at h; cases h; (try dsimp only); repeat' split
  all_goals simp (maxDischargeDepth := 40) [hm]

theorem execSaveWithdrawal_wf_flash (s : State) (t : State)
    (h : execSaveWithdrawal s = .next t) (hm : Flash.wf s.nand.flash = true) : Flash.wf t.nand.flash = true := by
  unfold execSaveWithdrawal at h; cases h; (try dsimp only); repeat' split
  all_goals simp (maxDischargeDepth := 40) [hm]

end Sys2Proof.Machine
end

