-- ==== Sys2Proof/Laws/Niura.lean ====
section
/-! SUPPORT. What the operations and commands of Machine/Niura.lean keep: the queue, and the mode, the bytes of DRAM and of
flash, or the canonical form of those bytes. -/

namespace Sys2Proof.Machine

theorem execStoreCutoff_frame (s : State) (t : State)
    (h : execStoreCutoff s = .next t) : t.pending = s.pending ∧ t.ctl.mode = s.ctl.mode ∧ t.mem = s.mem ∧ t.nand.flash = s.nand.flash := by
  unfold execStoreCutoff at h; cases h; simp

@[simp] theorem State.stringFails_frame (s : State) (k : Nat) :
    (State.stringFails s k).pending = s.pending ∧ (State.stringFails s k).ctl.mode = s.ctl.mode ∧ (State.stringFails s k).mem = s.mem ∧ (State.stringFails s k).nand.flash = s.nand.flash := by
  simp [State.stringFails]

theorem execStringFailed_frame (string : Fin 4) (s : State) (t : State)
    (h : execStringFailed string s = .next t) : t.pending = s.pending ∧ t.ctl.mode = s.ctl.mode ∧ t.mem = s.mem ∧ t.nand.flash = s.nand.flash := by
  unfold execStringFailed at h; cases h; simp

@[simp] theorem State.setCharger_frame (s : State) (c : Charger) :
    (State.setCharger s c).pending = s.pending ∧ (State.setCharger s c).ctl.mode = s.ctl.mode ∧ (State.setCharger s c).mem = s.mem ∧ (State.setCharger s c).nand.flash = s.nand.flash := by
  exact ⟨rfl, rfl, rfl, rfl⟩

@[simp] theorem State.healthFallsDue_frame (s : State) (request : Bool) :
    (State.healthFallsDue s request).pending = s.pending ∧ (State.healthFallsDue s request).ctl.mode = s.ctl.mode ∧ (State.healthFallsDue s request).mem = s.mem ∧ (State.healthFallsDue s request).nand.flash = s.nand.flash := by
  simp [State.healthFallsDue]

theorem execPrechargeDone_frame (s : State) (t : State)
    (h : execPrechargeDone s = .next t) : t.pending = s.pending ∧ t.ctl.mode = s.ctl.mode ∧ t.mem = s.mem ∧ t.nand.flash = s.nand.flash := by
  unfold execPrechargeDone at h; cases h; simp

theorem execChargerCvReached_frame (s : State) (t : State)
    (h : execChargerCvReached s = .next t) : t.pending = s.pending ∧ t.ctl.mode = s.ctl.mode ∧ t.mem = s.mem ∧ t.nand.flash = s.nand.flash := by
  unfold execChargerCvReached at h; cases h; simp

theorem execChargerFull_frame (s : State) (t : State)
    (h : execChargerFull s = .next t) : t.pending = s.pending ∧ t.ctl.mode = s.ctl.mode ∧ t.mem = s.mem ∧ t.nand.flash = s.nand.flash := by
  unfold execChargerFull at h; cases h; simp

theorem execChargerRecharge_frame (s : State) (t : State)
    (h : execChargerRecharge s = .next t) : t.pending = s.pending ∧ t.ctl.mode = s.ctl.mode ∧ t.mem = s.mem ∧ t.nand.flash = s.nand.flash := by
  unfold execChargerRecharge at h; cases h; simp

theorem execChargeTimeout_frame (s : State) (t : State)
    (h : execChargeTimeout s = .next t) : t.pending = s.pending ∧ t.ctl.mode = s.ctl.mode ∧ t.mem = s.mem ∧ t.nand.flash = s.nand.flash := by
  unfold execChargeTimeout at h; cases h; simp

theorem execChargerFaultRecover_frame (s : State) (t : State)
    (h : execChargerFaultRecover s = .next t) : t.pending = s.pending ∧ t.ctl.mode = s.ctl.mode ∧ t.mem = s.mem ∧ t.nand.flash = s.nand.flash := by
  unfold execChargerFaultRecover at h; cases h; simp

@[simp] theorem State.clearCharger_frame (s : State) :
    (State.clearCharger s).pending = s.pending ∧ (State.clearCharger s).ctl.mode = s.ctl.mode ∧ (State.clearCharger s).mem = s.mem ∧ (State.clearCharger s).nand.flash = s.nand.flash := by
  simp [State.clearCharger]

theorem execHealthTestDue_frame (cause : DueCause) (s : State) (t : State)
    (h : execHealthTestDue cause s = .next t) : t.pending = s.pending ∧ t.ctl.mode = s.ctl.mode ∧ t.mem = s.mem ∧ t.nand.flash = s.nand.flash := by
  unfold execHealthTestDue at h; cases h; simp

theorem execHealthTestStart_frame (s : State) (t : State)
    (h : execHealthTestStart s = .next t) : t.pending = s.pending ∧ t.ctl.mode = s.ctl.mode ∧ t.nand.flash = s.nand.flash := by
  unfold execHealthTestStart at h; cases h; simp

theorem execHealthTestStart_wf_mem (s : State) (t : State)
    (h : execHealthTestStart s = .next t) (hm : Mem.wf s.mem = true) : Mem.wf t.mem = true := by
  unfold execHealthTestStart at h; cases h; (try dsimp only); repeat' split
  all_goals simp (maxDischargeDepth := 40) [hm]

@[simp] theorem State.healthStore_frame (s : State) (capMf esrMohm : Nat) (stringCapMf : Map Nat) :
    (State.healthStore s capMf esrMohm stringCapMf).pending = s.pending ∧ (State.healthStore s capMf esrMohm stringCapMf).ctl.mode = s.ctl.mode ∧ (State.healthStore s capMf esrMohm stringCapMf).mem = s.mem ∧ (State.healthStore s capMf esrMohm stringCapMf).nand.flash = s.nand.flash := by
  simp [State.healthStore]

theorem execHealthTestEnd_frame (capMf esrMohm : Nat) (stringCapMf : Map Nat) (s : State) (t : State)
    (h : execHealthTestEnd capMf esrMohm stringCapMf s = .next t) : t.pending = s.pending ∧ t.ctl.mode = s.ctl.mode ∧ t.nand.flash = s.nand.flash := by
  unfold execHealthTestEnd at h; cases h; simp

theorem execHealthTestEnd_wf_mem (capMf esrMohm : Nat) (stringCapMf : Map Nat) (s : State) (t : State)
    (h : execHealthTestEnd capMf esrMohm stringCapMf s = .next t) (hm : Mem.wf s.mem = true) : Mem.wf t.mem = true := by
  unfold execHealthTestEnd at h; cases h; (try dsimp only); repeat' split
  all_goals simp (maxDischargeDepth := 40) [hm]

theorem execNiuraCalibration_frame (largeMove refsDisagree : Bool) (s : State) (t : State)
    (h : execNiuraCalibration largeMove refsDisagree s = .next t) : t.pending = s.pending ∧ t.ctl.mode = s.ctl.mode ∧ t.mem = s.mem ∧ t.nand.flash = s.nand.flash := by
  unfold execNiuraCalibration at h; cases h; simp

theorem execNiuraShellWatchdog_frame (s : State) (t : State)
    (h : execNiuraShellWatchdog s = .next t) : t.pending = s.pending ∧ t.ctl.mode = s.ctl.mode ∧ t.mem = s.mem ∧ t.nand.flash = s.nand.flash := by
  unfold execNiuraShellWatchdog at h; cases h; simp

theorem execOcvCorrection_frame (s : State) (t : State)
    (h : execOcvCorrection s = .next t) : t.pending = s.pending ∧ t.ctl.mode = s.ctl.mode ∧ t.mem = s.mem ∧ t.nand.flash = s.nand.flash := by
  unfold execOcvCorrection at h; cases h; simp

theorem execStoreOvervoltage_frame (mv : Nat) (s : State) (t : State)
    (h : execStoreOvervoltage mv s = .next t) : t.pending = s.pending ∧ t.ctl.mode = s.ctl.mode ∧ t.mem = s.mem ∧ t.nand.flash = s.nand.flash := by
  unfold execStoreOvervoltage at h; cases h; simp

theorem execCellOvervoltage_frame (cell mv : Nat) (s : State) (t : State)
    (h : execCellOvervoltage cell mv s = .next t) : t.pending = s.pending ∧ t.ctl.mode = s.ctl.mode ∧ t.mem = s.mem ∧ t.nand.flash = s.nand.flash := by
  unfold execCellOvervoltage at h; cases h; simp

theorem execBusOvervoltage_frame (mv : Nat) (s : State) (t : State)
    (h : execBusOvervoltage mv s = .next t) : t.pending = s.pending ∧ t.ctl.mode = s.ctl.mode ∧ t.mem = s.mem ∧ t.nand.flash = s.nand.flash := by
  unfold execBusOvervoltage at h; cases h; simp

theorem execHoldupOverload_frame (us : Nat) (s : State) (t : State)
    (h : execHoldupOverload us s = .next t) : t.pending = s.pending ∧ t.ctl.mode = s.ctl.mode ∧ t.mem = s.mem ∧ t.nand.flash = s.nand.flash := by
  unfold execHoldupOverload at h; cases h; simp

theorem execPfWarnAssert_frame (vinMv : Nat) (s : State) (t : State)
    (h : execPfWarnAssert vinMv s = .next t) : t.pending = s.pending ∧ t.ctl.mode = s.ctl.mode ∧ t.mem = s.mem ∧ t.nand.flash = s.nand.flash := by
  unfold execPfWarnAssert at h; cases h; simp

@[simp] theorem State.avsMove_frame (s : State) (mv : Nat) (guardMv : Int) :
    (State.avsMove s mv guardMv).pending = s.pending ∧ (State.avsMove s mv guardMv).ctl.mode = s.ctl.mode ∧ (State.avsMove s mv guardMv).mem = s.mem ∧ (State.avsMove s mv guardMv).nand.flash = s.nand.flash := by
  simp [State.avsMove]

@[simp] theorem State.avsCheck_frame (s : State) (guardMv : Int) :
    (State.avsCheck s guardMv).pending = s.pending ∧ (State.avsCheck s guardMv).ctl.mode = s.ctl.mode ∧ (State.avsCheck s guardMv).mem = s.mem ∧ (State.avsCheck s guardMv).nand.flash = s.nand.flash := by
  simp [State.avsCheck]

theorem execAvsCheck_frame (guardMv : Int) (s : State) (t : State)
    (h : execAvsCheck guardMv s = .next t) : t.pending = s.pending ∧ t.ctl.mode = s.ctl.mode ∧ t.mem = s.mem ∧ t.nand.flash = s.nand.flash := by
  unfold execAvsCheck at h; cases h; simp

@[simp] theorem State.lifeLog_frame (s : State) :
    (State.lifeLog s).pending = s.pending ∧ (State.lifeLog s).ctl.mode = s.ctl.mode ∧ (State.lifeLog s).mem = s.mem ∧ (State.lifeLog s).nand.flash = s.nand.flash := by
  simp [State.lifeLog]

theorem execThermalLifeLog_frame (s : State) (t : State)
    (h : execThermalLifeLog s = .next t) : t.pending = s.pending ∧ t.ctl.mode = s.ctl.mode ∧ t.mem = s.mem ∧ t.nand.flash = s.nand.flash := by
  unfold execThermalLifeLog at h; cases h; simp

end Sys2Proof.Machine
end

