-- ==== Sys2Proof/Laws/RailFaults.lean ====
section
/-! SUPPORT. What the operations and commands of Machine/RailFaults.lean keep: the queue, and the mode, the bytes of DRAM and of
flash, or the canonical form of those bytes. -/

namespace Sys2Proof.Machine

@[simp] theorem State.nandOff_frame (s : State) (c : Nat) :
    (State.nandOff s c).pending = s.pending ∧ (State.nandOff s c).ctl.mode = s.ctl.mode ∧ (State.nandOff s c).mem = s.mem ∧ (State.nandOff s c).nand.flash = s.nand.flash := by
  simp [State.nandOff]

@[simp] theorem State.railRoleFault_frame (s : State) (r : Nat) :
    (State.railRoleFault s r).pending = s.pending ∧ (State.railRoleFault s r).nand.flash = s.nand.flash := by
  refine ⟨?_, ?_⟩ <;> (unfold State.railRoleFault; (try dsimp only); repeat' split) <;> simp

@[simp] theorem State.railRoleFault_wf_mem (s : State) (r : Nat) (h : Mem.wf s.mem = true) :
    Mem.wf (State.railRoleFault s r).mem = true := by
  unfold State.railRoleFault; (try dsimp only); repeat' split
  all_goals simp (maxDischargeDepth := 40) [h]

@[simp] theorem State.beginGrace_frame (s : State) (g : Nat) (reset : Bool) :
    (State.beginGrace s g reset).pending = s.pending ∧ (State.beginGrace s g reset).ctl.mode = s.ctl.mode ∧ (State.beginGrace s g reset).mem = s.mem ∧ (State.beginGrace s g reset).nand.flash = s.nand.flash := by
  simp [State.beginGrace]

@[simp] theorem State.controllerEndsSave_frame (s : State) :
    (State.controllerEndsSave s).pending = s.pending ∧ (State.controllerEndsSave s).mem = s.mem ∧ (State.controllerEndsSave s).nand.flash = s.nand.flash := by
  simp [State.controllerEndsSave]

@[simp] theorem State.railPolicy_frame (s : State) (r : Nat) :
    (State.railPolicy s r).pending = s.pending ∧ (State.railPolicy s r).nand.flash = s.nand.flash := by
  refine ⟨?_, ?_⟩ <;> (unfold State.railPolicy; (try dsimp only); repeat' split) <;> simp

@[simp] theorem State.railPolicy_wf_mem (s : State) (r : Nat) (h : Mem.wf s.mem = true) :
    Mem.wf (State.railPolicy s r).mem = true := by
  unfold State.railPolicy; (try dsimp only); repeat' split
  all_goals simp (maxDischargeDepth := 40) [h]

@[simp] theorem State.railFault_frame (s : State) (r mv : Nat) :
    (State.railFault s r mv).pending = s.pending ∧ (State.railFault s r mv).nand.flash = s.nand.flash := by
  simp [State.railFault]

@[simp] theorem State.railFault_wf_mem (s : State) (r mv : Nat) (h : Mem.wf s.mem = true) :
    Mem.wf (State.railFault s r mv).mem = true := by
  simp (maxDischargeDepth := 40) [State.railFault, h]

theorem execRailFault_frame (rail : Fin 32) (mv : Nat) (s : State) (t : State)
    (h : execRailFault rail mv s = .next t) : t.pending = s.pending ∧ t.nand.flash = s.nand.flash := by
  unfold execRailFault at h; cases h; simp

theorem execRailFault_wf_mem (rail : Fin 32) (mv : Nat) (s : State) (t : State)
    (h : execRailFault rail mv s = .next t) (hm : Mem.wf s.mem = true) : Mem.wf t.mem = true := by
  unfold execRailFault at h; cases h; (try dsimp only); repeat' split
  all_goals simp (maxDischargeDepth := 40) [hm]

@[simp] theorem State.graceEnds_frame (s : State) (g : Nat) (reset : Bool) :
    (State.graceEnds s g reset).pending = s.pending ∧ (State.graceEnds s g reset).nand.flash = s.nand.flash := by
  simp [State.graceEnds]

@[simp] theorem State.graceEnds_wf_mem (s : State) (g : Nat) (reset : Bool) (h : Mem.wf s.mem = true) :
    Mem.wf (State.graceEnds s g reset).mem = true := by
  unfold State.graceEnds; (try dsimp only); repeat' split
  all_goals simp (maxDischargeDepth := 40) [h]

theorem execRailGraceExpire_frame (group : Fin 16) (s : State) (t : State)
    (h : execRailGraceExpire group s = .next t) : t.pending = s.pending ∧ t.nand.flash = s.nand.flash := by
  unfold execRailGraceExpire at h; cases h; (try dsimp only); refine ⟨?_, ?_⟩ <;> (repeat' split) <;> simp

theorem execRailGraceExpire_wf_mem (group : Fin 16) (s : State) (t : State)
    (h : execRailGraceExpire group s = .next t) (hm : Mem.wf s.mem = true) : Mem.wf t.mem = true := by
  unfold execRailGraceExpire at h; cases h; (try dsimp only); repeat' split
  all_goals simp (maxDischargeDepth := 40) [hm]

@[simp] theorem State.injectLun_frame (s : State) (c l : Nat) :
    (State.injectLun s c l).pending = s.pending ∧ (State.injectLun s c l).ctl.mode = s.ctl.mode ∧ (State.injectLun s c l).mem = s.mem ∧ (State.injectLun s c l).nand.flash = s.nand.flash := by
  simp [State.injectLun]

@[simp] theorem State.injectReaction_frame (s : State) (code detail : Nat) :
    (State.injectReaction s code detail).pending = s.pending ∧ (State.injectReaction s code detail).nand.flash = s.nand.flash := by
  simp [State.injectReaction]

@[simp] theorem State.injectReaction_wf_mem (s : State) (code detail : Nat) (h : Mem.wf s.mem = true) :
    Mem.wf (State.injectReaction s code detail).mem = true := by
  unfold State.injectReaction
  dsimp only
  refine State.ite_wf_mem _ _ _ ?_ ?_
  · simp (maxDischargeDepth := 40) [h]
  refine State.ite_wf_mem _ _ _ ?_ ?_
  · simp (maxDischargeDepth := 40) [h]
  refine State.ite_wf_mem _ _ _ ?_ ?_
  · simp (maxDischargeDepth := 40) [h]
  refine State.ite_wf_mem _ _ _ ?_ ?_
  · simp (maxDischargeDepth := 40) [h]
  refine State.ite_wf_mem _ _ _ ?_ ?_
  · simp (maxDischargeDepth := 40) [h]
  refine State.ite_wf_mem _ _ _ ?_ ?_
  · simp (maxDischargeDepth := 40) [h]
  refine State.ite_wf_mem _ _ _ ?_ ?_
  · simp (maxDischargeDepth := 40) [h]
  refine State.ite_wf_mem _ _ _ ?_ ?_
  · simp (maxDischargeDepth := 40) [h]
  refine State.ite_wf_mem _ _ _ ?_ ?_
  · simp (maxDischargeDepth := 40) [h]
  refine State.ite_wf_mem _ _ _ ?_ ?_
  · simp (maxDischargeDepth := 40) [h]
  refine State.ite_wf_mem _ _ _ ?_ ?_
  · simp (maxDischargeDepth := 40) [h]
  refine State.ite_wf_mem _ _ _ ?_ ?_
  · simp (maxDischargeDepth := 40) [h]
  refine State.ite_wf_mem _ _ _ ?_ ?_
  · simp (maxDischargeDepth := 40) [h]
  refine State.ite_wf_mem _ _ _ ?_ ?_
  · simp (maxDischargeDepth := 40) [h]
  refine State.ite_wf_mem _ _ _ ?_ ?_
  · simp (maxDischargeDepth := 40) [h]
  refine State.ite_wf_mem _ _ _ ?_ ?_
  · simp (maxDischargeDepth := 40) [h]
  refine State.ite_wf_mem _ _ _ ?_ ?_
  · simp (maxDischargeDepth := 40) [h]
  exact h

@[simp] theorem State.inject_frame (s : State) (b due left : Nat) :
    (State.inject s b due left).pending = s.pending ∧ (State.inject s b due left).nand.flash = s.nand.flash := by
  simp [State.inject]

@[simp] theorem State.inject_wf_mem (s : State) (b due left : Nat) (h : Mem.wf s.mem = true) :
    Mem.wf (State.inject s b due left).mem = true := by
  unfold State.inject; (try dsimp only); repeat' split
  all_goals simp (maxDischargeDepth := 40) [h]

theorem execInjectorFire_frame (block : Fin 17) (s : State) (t : State)
    (h : execInjectorFire block s = .next t) : t.pending = s.pending ∧ t.nand.flash = s.nand.flash := by
  unfold execInjectorFire at h; cases h; (try dsimp only); refine ⟨?_, ?_⟩ <;> (repeat' split) <;> simp

theorem execInjectorFire_wf_mem (block : Fin 17) (s : State) (t : State)
    (h : execInjectorFire block s = .next t) (hm : Mem.wf s.mem = true) : Mem.wf t.mem = true := by
  unfold execInjectorFire at h; cases h; (try dsimp only); repeat' split
  all_goals simp (maxDischargeDepth := 40) [hm]

end Sys2Proof.Machine
end

