-- ==== Sys2Proof/Laws/Checks.lean ====
section
/-! SUPPORT. What the operations and commands of Machine/Checks.lean keep: the queue, and the mode, the bytes of DRAM and of
flash, or the canonical form of those bytes. -/

namespace Sys2Proof.Machine

end Sys2Proof.Machine
end

