-- ==== Sys2Proof/Laws/Writes.lean ====
section
/-! SUPPORT. What the operations and commands of Machine/Writes.lean keep: the queue, and the mode, the bytes of DRAM and of
flash, or the canonical form of those bytes. -/

namespace Sys2Proof.Machine

@[simp] theorem State.put_frame (s : State) (idx sub sel v : Nat) :
    (State.put s idx sub sel v).pending = s.pending ∧ (State.put s idx sub sel v).ctl.mode = s.ctl.mode ∧ (State.put s idx sub sel v).mem = s.mem ∧ (State.put s idx sub sel v).nand.flash = s.nand.flash := by
  simp [State.put]

@[simp] theorem State.clearEntry_frame (s : State) (r : Entry) (idx sub sel v : Nat) :
    (State.clearEntry s r idx sub sel v).pending = s.pending ∧ (State.clearEntry s r idx sub sel v).ctl.mode = s.ctl.mode ∧ (State.clearEntry s r idx sub sel v).mem = s.mem ∧ (State.clearEntry s r idx sub sel v).nand.flash = s.nand.flash := by
  simp [State.clearEntry]

@[simp] theorem State.windowApplied_frame (before s : State) (w : Nat) :
    (State.windowApplied before s w).pending = s.pending ∧ (State.windowApplied before s w).ctl.mode = s.ctl.mode ∧ (State.windowApplied before s w).mem = s.mem ∧ (State.windowApplied before s w).nand.flash = s.nand.flash := by
  simp [State.windowApplied]

@[simp] theorem State.recheckPort_frame (s : State) (p : Nat) :
    (State.recheckPort s p).pending = s.pending ∧ (State.recheckPort s p).ctl.mode = s.ctl.mode ∧ (State.recheckPort s p).mem = s.mem ∧ (State.recheckPort s p).nand.flash = s.nand.flash := by
  refine ⟨?_, ?_, ?_, ?_⟩ <;> (unfold State.recheckPort; (try dsimp only); repeat' split) <;> simp

@[simp] theorem State.armInjector_frame (s : State) (b : Nat) :
    (State.armInjector s b).pending = s.pending ∧ (State.armInjector s b).ctl.mode = s.ctl.mode ∧ (State.armInjector s b).mem = s.mem ∧ (State.armInjector s b).nand.flash = s.nand.flash := by
  simp [State.armInjector]

@[simp] theorem State.rdpWrite_frame (s : State) (v : Nat) :
    (State.rdpWrite s v).pending = s.pending ∧ (State.rdpWrite s v).nand.flash = s.nand.flash := by
  simp [State.rdpWrite]

@[simp] theorem State.rdpWrite_wf_mem (s : State) (v : Nat) (h : Mem.wf s.mem = true) :
    Mem.wf (State.rdpWrite s v).mem = true := by
  unfold State.rdpWrite; (try dsimp only); repeat' split
  all_goals simp (maxDischargeDepth := 40) [h]

@[simp] theorem State.armLower_frame (s : State) (v : Nat) :
    (State.armLower s v).pending = s.pending ∧ (State.armLower s v).ctl.mode = s.ctl.mode ∧ (State.armLower s v).mem = s.mem ∧ (State.armLower s v).nand.flash = s.nand.flash := by
  simp [State.armLower]

@[simp] theorem State.armRevoke_frame (s : State) (v : Nat) :
    (State.armRevoke s v).pending = s.pending ∧ (State.armRevoke s v).ctl.mode = s.ctl.mode ∧ (State.armRevoke s v).mem = s.mem ∧ (State.armRevoke s v).nand.flash = s.nand.flash := by
  simp [State.armRevoke]

@[simp] theorem State.saveRequest_frame (s : State) (v : Nat) :
    (State.saveRequest s v).pending = s.pending ∧ (State.saveRequest s v).ctl.mode = s.ctl.mode ∧ (State.saveRequest s v).mem = s.mem ∧ (State.saveRequest s v).nand.flash = s.nand.flash := by
  exact ⟨rfl, rfl, rfl, rfl⟩

@[simp] theorem State.spareRequest_frame (s : State) (v : Nat) :
    (State.spareRequest s v).pending = s.pending ∧ (State.spareRequest s v).ctl.mode = s.ctl.mode ∧ (State.spareRequest s v).mem = s.mem ∧ (State.spareRequest s v).nand.flash = s.nand.flash := by
  simp [State.spareRequest]

@[simp] theorem State.requalifyRequest_frame (s : State) (v : Nat) :
    (State.requalifyRequest s v).pending = s.pending ∧ (State.requalifyRequest s v).ctl.mode = s.ctl.mode ∧ (State.requalifyRequest s v).mem = s.mem ∧ (State.requalifyRequest s v).nand.flash = s.nand.flash := by
  simp [State.requalifyRequest]

@[simp] theorem State.rehearsalRequest_frame (s : State) :
    (State.rehearsalRequest s).pending = s.pending ∧ (State.rehearsalRequest s).ctl.mode = s.ctl.mode ∧ (State.rehearsalRequest s).mem = s.mem ∧ (State.rehearsalRequest s).nand.flash = s.nand.flash := by
  simp [State.rehearsalRequest]

@[simp] theorem State.linkWrite_frame (s : State) (i v : Nat) :
    (State.linkWrite s i v).pending = s.pending ∧ (State.linkWrite s i v).ctl.mode = s.ctl.mode ∧ (State.linkWrite s i v).mem = s.mem ∧ (State.linkWrite s i v).nand.flash = s.nand.flash := by
  simp [State.linkWrite]

@[simp] theorem State.portWrite_frame (s : State) (p v : Nat) :
    (State.portWrite s p v).pending = s.pending ∧ (State.portWrite s p v).ctl.mode = s.ctl.mode ∧ (State.portWrite s p v).mem = s.mem ∧ (State.portWrite s p v).nand.flash = s.nand.flash := by
  simp [State.portWrite]

@[simp] theorem State.ptRunWrite_frame (s : State) (v : Nat) :
    (State.ptRunWrite s v).pending = s.pending ∧ (State.ptRunWrite s v).ctl.mode = s.ctl.mode ∧ (State.ptRunWrite s v).nand.flash = s.nand.flash := by
  simp [State.ptRunWrite]

@[simp] theorem State.ptRunWrite_wf_mem (s : State) (v : Nat) (h : Mem.wf s.mem = true) :
    Mem.wf (State.ptRunWrite s v).mem = true := by
  simp (maxDischargeDepth := 40) [State.ptRunWrite, h]

theorem State.act1_frame (s : State) (idx sub v : Nat) (t : State) (h : s.act1 idx sub v = some t) :
    t.pending = s.pending ∧ (Mem.wf s.mem = true → Mem.wf t.mem = true)
      ∧ (Flash.wf s.nand.flash = true → Flash.wf t.nand.flash = true) := by
  unfold State.act1 at h
  split at h
  all_goals first
    | (cases h; done)
    | (cases h
       refine ⟨?_, fun hm => ?_, fun hf => ?_⟩ <;> (repeat' split) <;> simp (maxDischargeDepth := 40) [*])
    | (split at h
       · cases h
         refine ⟨?_, fun hm => ?_, fun hf => ?_⟩ <;> (repeat' split) <;> simp (maxDischargeDepth := 40) [*]
       · cases h)

theorem State.act5_frame (s : State) (idx sub v : Nat) (t : State) (h : s.act5 idx sub v = some t) :
    t.pending = s.pending ∧ (Mem.wf s.mem = true → Mem.wf t.mem = true)
      ∧ (Flash.wf s.nand.flash = true → Flash.wf t.nand.flash = true) := by
  unfold State.act5 at h
  split at h
  all_goals first
    | (cases h; done)
    | (cases h
       refine ⟨?_, fun hm => ?_, fun hf => ?_⟩ <;> (repeat' split) <;> simp (maxDischargeDepth := 40) [*])
    | (split at h
       · cases h
         refine ⟨?_, fun hm => ?_, fun hf => ?_⟩ <;> (repeat' split) <;> simp (maxDischargeDepth := 40) [*]
       · split at h
         · cases h
           refine ⟨?_, fun hm => ?_, fun hf => ?_⟩ <;> (repeat' split) <;> simp (maxDischargeDepth := 40) [*]
         · cases h)

theorem State.act_frame (s : State) (idx sub v : Nat) (t : State) (h : s.act idx sub v = some t) :
    t.pending = s.pending ∧ (Mem.wf s.mem = true → Mem.wf t.mem = true)
      ∧ (Flash.wf s.nand.flash = true → Flash.wf t.nand.flash = true) := by
  unfold State.act at h
  split at h
  · exact State.act1_frame s idx sub v t h
  · exact State.act5_frame s idx sub v t h

@[simp] theorem State.follow_frame (before s : State) (es : List (Nat × Nat)) :
    (State.follow before s es).pending = s.pending ∧ (State.follow before s es).ctl.mode = s.ctl.mode ∧ (State.follow before s es).mem = s.mem ∧ (State.follow before s es).nand.flash = s.nand.flash := by
  simp [State.follow]

@[simp] theorem State.kept_frame (s : State) (r : Entry) :
    (State.kept s r).pending = s.pending ∧ (State.kept s r).ctl.mode = s.ctl.mode ∧ (State.kept s r).mem = s.mem ∧ (State.kept s r).nand.flash = s.nand.flash := by
  refine ⟨?_, ?_, ?_, ?_⟩ <;> (unfold State.kept; (try dsimp only); repeat' split) <;> simp

@[simp] theorem State.storeValue_frame (s : State) (role : Role) (idx sub sel v : Nat) :
    (State.storeValue s role idx sub sel v).pending = s.pending := by
  unfold State.storeValue
  split
  · rfl
  · simp only [State.kept_frame]
    split
    · simp
    · split
      · rename_i h; simp [(State.act_frame _ _ _ _ _ h).1]
      · simp

@[simp] theorem State.storeValue_wf_mem (s : State) (role : Role) (idx sub sel v : Nat) (hm : Mem.wf s.mem = true) :
    Mem.wf (State.storeValue s role idx sub sel v).mem = true := by
  unfold State.storeValue
  split
  · exact hm
  · simp only [State.kept_frame]
    split
    · simp [hm]
    · split
      · rename_i h; simp [(State.act_frame _ _ _ _ _ h).2.1 hm]
      · simp [hm]

@[simp] theorem State.storeValue_wf_flash (s : State) (role : Role) (idx sub sel v : Nat)
    (hm : Flash.wf s.nand.flash = true) : Flash.wf (State.storeValue s role idx sub sel v).nand.flash = true := by
  unfold State.storeValue
  split
  · exact hm
  · simp only [State.kept_frame]
    split
    · simp [hm]
    · split
      · rename_i h; simp [(State.act_frame _ _ _ _ _ h).2.2 hm]
      · simp [hm]

@[simp] theorem State.applyWrite_frame (s : State) (role : Role) (idx sub sel v : Nat) :
    (State.applyWrite s role idx sub sel v).pending = s.pending := by
  unfold State.applyWrite
  simp

@[simp] theorem State.applyWrite_wf_mem (s : State) (role : Role) (idx sub sel v : Nat) (hm : Mem.wf s.mem = true) :
    Mem.wf (State.applyWrite s role idx sub sel v).mem = true := by
  unfold State.applyWrite
  simp [hm]

@[simp] theorem State.applyWrite_wf_flash (s : State) (role : Role) (idx sub sel v : Nat)
    (hm : Flash.wf s.nand.flash = true) : Flash.wf (State.applyWrite s role idx sub sel v).nand.flash = true := by
  unfold State.applyWrite
  simp [hm]

@[simp] theorem State.stageBeat_frame (s : State) (role : Role) (link : Fin 4) (member tag reply place : Nat) (i : Item) :
    (State.stageBeat s role link member tag reply place i).pending = s.pending ∧ (State.stageBeat s role link member tag reply place i).ctl.mode = s.ctl.mode ∧ (State.stageBeat s role link member tag reply place i).mem = s.mem ∧ (State.stageBeat s role link member tag reply place i).nand.flash = s.nand.flash := by
  exact ⟨rfl, rfl, rfl, rfl⟩

@[simp] theorem State.writeItem_frame (s : State) (role : Role) (link : Fin 4) (member tag reply place : Nat) (i : Item) :
    (State.writeItem s role link member tag reply place i).1.pending = s.pending := by
  unfold State.writeItem; dsimp only; repeat' split
  all_goals simp

@[simp] theorem State.writeItem_wf_mem (s : State) (role : Role) (link : Fin 4) (member tag reply place : Nat) (i : Item)
    (h : Mem.wf s.mem = true) : Mem.wf (State.writeItem s role link member tag reply place i).1.mem = true := by
  unfold State.writeItem; dsimp only; repeat' split
  all_goals simp [h]

@[simp] theorem State.writeItem_wf_flash (s : State) (role : Role) (link : Fin 4) (member tag reply place : Nat) (i : Item)
    (h : Flash.wf s.nand.flash = true) : Flash.wf (State.writeItem s role link member tag reply place i).1.nand.flash = true := by
  unfold State.writeItem; dsimp only; repeat' split
  all_goals simp [h]

@[simp] theorem State.writeItems_frame (role : Role) (link : Fin 4) (member tag reply : Nat) (is : List Item) (s : State)
    (place : Nat) : (State.writeItems s role link member tag reply place is).1.pending = s.pending := by
  induction is generalizing s place with
  | nil => rfl
  | cons i is ih => unfold State.writeItems; dsimp only; rw [ih]; simp

@[simp] theorem State.writeItems_wf_mem (role : Role) (link : Fin 4) (member tag reply : Nat) (is : List Item) (s : State)
    (place : Nat) (h : Mem.wf s.mem = true) :
    Mem.wf (State.writeItems s role link member tag reply place is).1.mem = true := by
  induction is generalizing s place with
  | nil => exact h
  | cons i is ih => unfold State.writeItems; exact ih _ _ (by simp [h])

@[simp] theorem State.writeItems_wf_flash (role : Role) (link : Fin 4) (member tag reply : Nat) (is : List Item) (s : State)
    (place : Nat) (h : Flash.wf s.nand.flash = true) :
    Flash.wf (State.writeItems s role link member tag reply place is).1.nand.flash = true := by
  induction is generalizing s place with
  | nil => exact h
  | cons i is ih => unfold State.writeItems; exact ih _ _ (by simp [h])

@[simp] theorem State.write_frame (s : State) (role : Role) (link : Fin 4) (member tag : Nat) (items : List Item) : (State.write s role link member tag items).pending = s.pending := by
  unfold State.write; dsimp only; split <;> simp

@[simp] theorem State.write_wf_mem (s : State) (role : Role) (link : Fin 4) (member tag : Nat) (items : List Item) (h : Mem.wf s.mem = true) : Mem.wf (State.write s role link member tag items).mem = true := by
  unfold State.write; dsimp only; split <;> simp [h]

@[simp] theorem State.write_wf_flash (s : State) (role : Role) (link : Fin 4) (member tag : Nat) (items : List Item) (h : Flash.wf s.nand.flash = true) : Flash.wf (State.write s role link member tag items).nand.flash = true := by
  unfold State.write; dsimp only; split <;> simp [h]

end Sys2Proof.Machine
end

