-- ==== Sys2Proof/Laws/Dict.lean ====
section
/-! SUPPORT. What the operations and commands of Machine/Dict.lean keep: the queue, and the mode, the bytes of DRAM and of
flash, or the canonical form of those bytes. -/

namespace Sys2Proof.Machine

@[simp] theorem State.readItem_frame (s : State) (role : Role) (i : Item) :
    (State.readItem s role i).1.pending = s.pending ∧ (State.readItem s role i).1.ctl.mode = s.ctl.mode ∧ (State.readItem s role i).1.mem = s.mem ∧ (State.readItem s role i).1.nand.flash = s.nand.flash := by
  refine ⟨?_, ?_, ?_, ?_⟩ <;> (unfold State.readItem; (try dsimp only); repeat' split) <;> simp

@[simp] theorem State.readItems_frame (role : Role) (is : List Item) (s : State) :
    (State.readItems role is s).1.pending = s.pending ∧ (State.readItems role is s).1.ctl.mode = s.ctl.mode
      ∧ (State.readItems role is s).1.mem = s.mem ∧ (State.readItems role is s).1.nand.flash = s.nand.flash := by
  induction is generalizing s with
  | nil => exact ⟨rfl, rfl, rfl, rfl⟩
  | cons i is ih => unfold State.readItems; simp [ih]

@[simp] theorem State.putSet_frame (s : State) (k : Nat) (c : ChangeSet) :
    (State.putSet s k c).pending = s.pending ∧ (State.putSet s k c).ctl.mode = s.ctl.mode ∧ (State.putSet s k c).mem = s.mem ∧ (State.putSet s k c).nand.flash = s.nand.flash := by
  exact ⟨rfl, rfl, rfl, rfl⟩

@[simp] theorem State.dropSet_frame (s : State) (k : Nat) :
    (State.dropSet s k).pending = s.pending ∧ (State.dropSet s k).ctl.mode = s.ctl.mode ∧ (State.dropSet s k).mem = s.mem ∧ (State.dropSet s k).nand.flash = s.nand.flash := by
  exact ⟨rfl, rfl, rfl, rfl⟩

@[simp] theorem State.answerSet_frame (s : State) (op : DictOp) (m : DictMsg) (result handle : Nat) (items : List RespItem) :
    (State.answerSet s op m result handle items).pending = s.pending ∧ (State.answerSet s op m result handle items).ctl.mode = s.ctl.mode ∧ (State.answerSet s op m result handle items).mem = s.mem ∧ (State.answerSet s op m result handle items).nand.flash = s.nand.flash := by
  simp [State.answerSet]

@[simp] theorem State.openSet_frame (s : State) (m : DictMsg) :
    (State.openSet s m).pending = s.pending ∧ (State.openSet s m).ctl.mode = s.ctl.mode ∧ (State.openSet s m).mem = s.mem ∧ (State.openSet s m).nand.flash = s.nand.flash := by
  refine ⟨?_, ?_, ?_, ?_⟩ <;> (unfold State.openSet; (try dsimp only); repeat' split) <;> simp

@[simp] theorem State.addSet_frame (s : State) (m : DictMsg) :
    (State.addSet s m).pending = s.pending ∧ (State.addSet s m).ctl.mode = s.ctl.mode ∧ (State.addSet s m).mem = s.mem ∧ (State.addSet s m).nand.flash = s.nand.flash := by
  refine ⟨?_, ?_, ?_, ?_⟩ <;> (unfold State.addSet; (try dsimp only); repeat' split) <;> simp

@[simp] theorem State.refuseSubmit_frame (s : State) (m : DictMsg) (k code : Nat) :
    (State.refuseSubmit s m k code).pending = s.pending ∧ (State.refuseSubmit s m k code).ctl.mode = s.ctl.mode ∧ (State.refuseSubmit s m k code).mem = s.mem ∧ (State.refuseSubmit s m k code).nand.flash = s.nand.flash := by
  simp [State.refuseSubmit]

@[simp] theorem State.submitSet_frame (s : State) (m : DictMsg) :
    (State.submitSet s m).pending = s.pending ∧ (State.submitSet s m).ctl.mode = s.ctl.mode ∧ (State.submitSet s m).mem = s.mem ∧ (State.submitSet s m).nand.flash = s.nand.flash := by
  refine ⟨?_, ?_, ?_, ?_⟩ <;> (unfold State.submitSet; (try dsimp only); repeat' split) <;> simp

@[simp] theorem State.discardSet_frame (s : State) (m : DictMsg) :
    (State.discardSet s m).pending = s.pending ∧ (State.discardSet s m).ctl.mode = s.ctl.mode ∧ (State.discardSet s m).mem = s.mem ∧ (State.discardSet s m).nand.flash = s.nand.flash := by
  refine ⟨?_, ?_, ?_, ?_⟩ <;> (unfold State.discardSet; (try dsimp only); repeat' split) <;> simp

@[simp] theorem State.statusSet_frame (s : State) (m : DictMsg) :
    (State.statusSet s m).pending = s.pending ∧ (State.statusSet s m).ctl.mode = s.ctl.mode ∧ (State.statusSet s m).mem = s.mem ∧ (State.statusSet s m).nand.flash = s.nand.flash := by
  refine ⟨?_, ?_, ?_, ?_⟩ <;> (unfold State.statusSet; (try dsimp only); repeat' split) <;> simp

@[simp] theorem State.stagedWith_frame (s : State) (role : Role) (items : List (Item × Nat)) :
    (State.stagedWith s role items).pending = s.pending ∧ (State.stagedWith s role items).ctl.mode = s.ctl.mode ∧ (State.stagedWith s role items).mem = s.mem ∧ (State.stagedWith s role items).nand.flash = s.nand.flash := by
  unfold State.stagedWith
  refine ⟨State.foldl_pending _ _ _ (fun _ _ => ?_), State.foldl_mode _ _ _ (fun _ _ => ?_), State.foldl_mem _ _ _ (fun _ _ => ?_), State.foldl_flash _ _ _ (fun _ _ => ?_)⟩ <;> (try dsimp only) <;> (repeat' split) <;> simp

@[simp] theorem State.applyItems_frame (s : State) (u : Submitted) :
    (State.applyItems s u).pending = s.pending := by
  simp [State.applyItems]

@[simp] theorem State.applyItems_wf_mem (s : State) (u : Submitted) (h : Mem.wf s.mem = true) :
    Mem.wf (State.applyItems s u).mem = true := by
  unfold State.applyItems; (try dsimp only); repeat' split
  all_goals simp_all (maxDischargeDepth := 40)

@[simp] theorem State.applyItems_wf_flash (s : State) (u : Submitted) (h : Flash.wf s.nand.flash = true) :
    Flash.wf (State.applyItems s u).nand.flash = true := by
  unfold State.applyItems; (try dsimp only); repeat' split
  all_goals simp_all (maxDischargeDepth := 40)

@[simp] theorem State.applySet_frame (s : State) (u : Submitted) :
    (State.applySet s u).pending = s.pending := by
  simp [State.applySet]

@[simp] theorem State.applySet_wf_mem (s : State) (u : Submitted) (h : Mem.wf s.mem = true) :
    Mem.wf (State.applySet s u).mem = true := by
  unfold State.applySet; (try dsimp only); repeat' split
  all_goals simp (maxDischargeDepth := 40) [h]

@[simp] theorem State.applySet_wf_flash (s : State) (u : Submitted) (h : Flash.wf s.nand.flash = true) :
    Flash.wf (State.applySet s u).nand.flash = true := by
  unfold State.applySet; (try dsimp only); repeat' split
  all_goals simp (maxDischargeDepth := 40) [h]

@[simp] theorem State.applySets_frame (s : State) :
    (State.applySets s).pending = s.pending := by
  simp [State.applySets]

@[simp] theorem State.applySets_wf_mem (s : State) (h : Mem.wf s.mem = true) :
    Mem.wf (State.applySets s).mem = true := by
  unfold State.applySets; (try dsimp only); repeat' split
  all_goals simp_all (maxDischargeDepth := 40)

@[simp] theorem State.applySets_wf_flash (s : State) (h : Flash.wf s.nand.flash = true) :
    Flash.wf (State.applySets s).nand.flash = true := by
  unfold State.applySets; (try dsimp only); repeat' split
  all_goals simp_all (maxDischargeDepth := 40)

@[simp] theorem State.takeSnapshots_frame (s : State) :
    (State.takeSnapshots s).pending = s.pending ∧ (State.takeSnapshots s).ctl.mode = s.ctl.mode ∧ (State.takeSnapshots s).mem = s.mem ∧ (State.takeSnapshots s).nand.flash = s.nand.flash := by
  simp [State.takeSnapshots]

@[simp] theorem State.runMsg_frame (s : State) (op : DictOp) (m : DictMsg) :
    (State.runMsg s op m).pending = s.pending := by
  refine ?_ <;> (unfold State.runMsg; (try dsimp only); repeat' split) <;> simp

@[simp] theorem State.runMsg_wf_mem (s : State) (op : DictOp) (m : DictMsg) (h : Mem.wf s.mem = true) :
    Mem.wf (State.runMsg s op m).mem = true := by
  unfold State.runMsg; (try dsimp only); repeat' split
  all_goals simp (maxDischargeDepth := 40) [h]

@[simp] theorem State.runMsg_wf_flash (s : State) (op : DictOp) (m : DictMsg) (h : Flash.wf s.nand.flash = true) :
    Flash.wf (State.runMsg s op m).nand.flash = true := by
  unfold State.runMsg; (try dsimp only); repeat' split
  all_goals simp (maxDischargeDepth := 40) [h]

@[simp] theorem State.transportStatus_frame (s : State) (op : DictOp) (m : DictMsg) (status : Nat) :
    (State.transportStatus s op m status).pending = s.pending ∧ (State.transportStatus s op m status).ctl.mode = s.ctl.mode ∧ (State.transportStatus s op m status).mem = s.mem ∧ (State.transportStatus s op m status).nand.flash = s.nand.flash := by
  simp [State.transportStatus]

@[simp] theorem State.sendTunnel_frame (s : State) (op : DictOp) (m : DictMsg) :
    (State.sendTunnel s op m).pending = s.pending ∧ (State.sendTunnel s op m).ctl.mode = s.ctl.mode ∧ (State.sendTunnel s op m).mem = s.mem ∧ (State.sendTunnel s op m).nand.flash = s.nand.flash := by
  simp [State.sendTunnel]

@[simp] theorem State.forward_frame (s : State) (op : DictOp) (m : DictMsg) :
    (State.forward s op m).pending = s.pending ∧ (State.forward s op m).ctl.mode = s.ctl.mode ∧ (State.forward s op m).mem = s.mem ∧ (State.forward s op m).nand.flash = s.nand.flash := by
  simp [State.forward]

@[simp] theorem State.takeMsg_frame (s : State) (op : DictOp) (m : DictMsg) :
    (State.takeMsg s op m).pending = s.pending := by
  simp [State.takeMsg]

@[simp] theorem State.takeMsg_wf_mem (s : State) (op : DictOp) (m : DictMsg) (h : Mem.wf s.mem = true) :
    Mem.wf (State.takeMsg s op m).mem = true := by
  unfold State.takeMsg; (try dsimp only); repeat' split
  all_goals simp (maxDischargeDepth := 40) [h]

@[simp] theorem State.takeMsg_wf_flash (s : State) (op : DictOp) (m : DictMsg) (h : Flash.wf s.nand.flash = true) :
    Flash.wf (State.takeMsg s op m).nand.flash = true := by
  unfold State.takeMsg; (try dsimp only); repeat' split
  all_goals simp (maxDischargeDepth := 40) [h]

@[simp] theorem State.takeRequest_frame (s : State) (op : DictOp) (m : DictMsg) :
    (State.takeRequest s op m).pending = s.pending := by
  refine ?_ <;> (unfold State.takeRequest; (try dsimp only); repeat' split) <;> simp

@[simp] theorem State.takeRequest_wf_mem (s : State) (op : DictOp) (m : DictMsg) (h : Mem.wf s.mem = true) :
    Mem.wf (State.takeRequest s op m).mem = true := by
  unfold State.takeRequest; (try dsimp only); repeat' split
  all_goals simp (maxDischargeDepth := 40) [h]

@[simp] theorem State.takeRequest_wf_flash (s : State) (op : DictOp) (m : DictMsg) (h : Flash.wf s.nand.flash = true) :
    Flash.wf (State.takeRequest s op m).nand.flash = true := by
  unfold State.takeRequest; (try dsimp only); repeat' split
  all_goals simp (maxDischargeDepth := 40) [h]

theorem State.request_frame (s : State) (op : DictOp) (m : DictMsg) (t : State)
    (h : State.request s op m = .next t) : t.pending = s.pending := by
  unfold State.request at h; (repeat' split at h)
  all_goals first
    | exact State.request_frame _ _ _ _ h
    | exact State.writeEntry_frame _ _ _ _ _ _ h
    | (cases h; simp; done)

theorem State.request_wf_mem (s : State) (op : DictOp) (m : DictMsg) (t : State)
    (h : State.request s op m = .next t) (hm : Mem.wf s.mem = true) : Mem.wf t.mem = true := by
  unfold State.request at h; (repeat' split at h)
  all_goals first
    | exact State.request_wf_mem _ _ _ _ h hm
    | exact State.writeEntry_wf_mem _ _ _ _ _ _ h hm
    | (cases h; simp (maxDischargeDepth := 40) [hm]; done)

theorem State.request_wf_flash (s : State) (op : DictOp) (m : DictMsg) (t : State)
    (h : State.request s op m = .next t) (hm : Flash.wf s.nand.flash = true) : Flash.wf t.nand.flash = true := by
  unfold State.request at h; (repeat' split at h)
  all_goals first
    | exact State.request_wf_flash _ _ _ _ h hm
    | exact State.writeEntry_wf_flash _ _ _ _ _ _ h hm
    | (cases h; simp (maxDischargeDepth := 40) [hm]; done)

theorem execDictRead_frame (m : DictMsg) (s : State) (t : State)
    (h : execDictRead m s = .next t) : t.pending = s.pending := by
  unfold execDictRead at h; cases h; simp

theorem execDictRead_wf_mem (m : DictMsg) (s : State) (t : State)
    (h : execDictRead m s = .next t) (hm : Mem.wf s.mem = true) : Mem.wf t.mem = true := by
  unfold execDictRead at h; cases h; (try dsimp only); repeat' split
  all_goals simp (maxDischargeDepth := 40) [hm]

theorem execDictRead_wf_flash (m : DictMsg) (s : State) (t : State)
    (h : execDictRead m s = .next t) (hm : Flash.wf s.nand.flash = true) : Flash.wf t.nand.flash = true := by
  unfold execDictRead at h; cases h; (try dsimp only); repeat' split
  all_goals simp (maxDischargeDepth := 40) [hm]

theorem execDictWrite_frame (m : DictMsg) (s : State) (t : State)
    (h : execDictWrite m s = .next t) : t.pending = s.pending := by
  unfold execDictWrite at h; cases h; simp

theorem execDictWrite_wf_mem (m : DictMsg) (s : State) (t : State)
    (h : execDictWrite m s = .next t) (hm : Mem.wf s.mem = true) : Mem.wf t.mem = true := by
  unfold execDictWrite at h; cases h; (try dsimp only); repeat' split
  all_goals simp (maxDischargeDepth := 40) [hm]

theorem execDictWrite_wf_flash (m : DictMsg) (s : State) (t : State)
    (h : execDictWrite m s = .next t) (hm : Flash.wf s.nand.flash = true) : Flash.wf t.nand.flash = true := by
  unfold execDictWrite at h; cases h; (try dsimp only); repeat' split
  all_goals simp (maxDischargeDepth := 40) [hm]

theorem execDictDescribe_frame (m : DictMsg) (s : State) (t : State)
    (h : execDictDescribe m s = .next t) : t.pending = s.pending := by
  unfold execDictDescribe at h; cases h; simp

theorem execDictDescribe_wf_mem (m : DictMsg) (s : State) (t : State)
    (h : execDictDescribe m s = .next t) (hm : Mem.wf s.mem = true) : Mem.wf t.mem = true := by
  unfold execDictDescribe at h; cases h; (try dsimp only); repeat' split
  all_goals simp (maxDischargeDepth := 40) [hm]

theorem execDictDescribe_wf_flash (m : DictMsg) (s : State) (t : State)
    (h : execDictDescribe m s = .next t) (hm : Flash.wf s.nand.flash = true) : Flash.wf t.nand.flash = true := by
  unfold execDictDescribe at h; cases h; (try dsimp only); repeat' split
  all_goals simp (maxDischargeDepth := 40) [hm]

theorem execSetOpen_frame (m : DictMsg) (s : State) (t : State)
    (h : execSetOpen m s = .next t) : t.pending = s.pending := by
  unfold execSetOpen at h; cases h; simp

theorem execSetOpen_wf_mem (m : DictMsg) (s : State) (t : State)
    (h : execSetOpen m s = .next t) (hm : Mem.wf s.mem = true) : Mem.wf t.mem = true := by
  unfold execSetOpen at h; cases h; (try dsimp only); repeat' split
  all_goals simp (maxDischargeDepth := 40) [hm]

theorem execSetOpen_wf_flash (m : DictMsg) (s : State) (t : State)
    (h : execSetOpen m s = .next t) (hm : Flash.wf s.nand.flash = true) : Flash.wf t.nand.flash = true := by
  unfold execSetOpen at h; cases h; (try dsimp only); repeat' split
  all_goals simp (maxDischargeDepth := 40) [hm]

theorem execSetAdd_frame (m : DictMsg) (s : State) (t : State)
    (h : execSetAdd m s = .next t) : t.pending = s.pending := by
  unfold execSetAdd at h; cases h; simp

theorem execSetAdd_wf_mem (m : DictMsg) (s : State) (t : State)
    (h : execSetAdd m s = .next t) (hm : Mem.wf s.mem = true) : Mem.wf t.mem = true := by
  unfold execSetAdd at h; cases h; (try dsimp only); repeat' split
  all_goals simp (maxDischargeDepth := 40) [hm]

theorem execSetAdd_wf_flash (m : DictMsg) (s : State) (t : State)
    (h : execSetAdd m s = .next t) (hm : Flash.wf s.nand.flash = true) : Flash.wf t.nand.flash = true := by
  unfold execSetAdd at h; cases h; (try dsimp only); repeat' split
  all_goals simp (maxDischargeDepth := 40) [hm]

theorem execSetSubmit_frame (m : DictMsg) (s : State) (t : State)
    (h : execSetSubmit m s = .next t) : t.pending = s.pending := by
  unfold execSetSubmit at h; cases h; simp

theorem execSetSubmit_wf_mem (m : DictMsg) (s : State) (t : State)
    (h : execSetSubmit m s = .next t) (hm : Mem.wf s.mem = true) : Mem.wf t.mem = true := by
  unfold execSetSubmit at h; cases h; (try dsimp only); repeat' split
  all_goals simp (maxDischargeDepth := 40) [hm]

theorem execSetSubmit_wf_flash (m : DictMsg) (s : State) (t : State)
    (h : execSetSubmit m s = .next t) (hm : Flash.wf s.nand.flash = true) : Flash.wf t.nand.flash = true := by
  unfold execSetSubmit at h; cases h; (try dsimp only); repeat' split
  all_goals simp (maxDischargeDepth := 40) [hm]

theorem execSetDiscard_frame (m : DictMsg) (s : State) (t : State)
    (h : execSetDiscard m s = .next t) : t.pending = s.pending := by
  unfold execSetDiscard at h; cases h; simp

theorem execSetDiscard_wf_mem (m : DictMsg) (s : State) (t : State)
    (h : execSetDiscard m s = .next t) (hm : Mem.wf s.mem = true) : Mem.wf t.mem = true := by
  unfold execSetDiscard at h; cases h; (try dsimp only); repeat' split
  all_goals simp (maxDischargeDepth := 40) [hm]

theorem execSetDiscard_wf_flash (m : DictMsg) (s : State) (t : State)
    (h : execSetDiscard m s = .next t) (hm : Flash.wf s.nand.flash = true) : Flash.wf t.nand.flash = true := by
  unfold execSetDiscard at h; cases h; (try dsimp only); repeat' split
  all_goals simp (maxDischargeDepth := 40) [hm]

theorem execSetStatus_frame (m : DictMsg) (s : State) (t : State)
    (h : execSetStatus m s = .next t) : t.pending = s.pending := by
  unfold execSetStatus at h; cases h; simp

theorem execSetStatus_wf_mem (m : DictMsg) (s : State) (t : State)
    (h : execSetStatus m s = .next t) (hm : Mem.wf s.mem = true) : Mem.wf t.mem = true := by
  unfold execSetStatus at h; cases h; (try dsimp only); repeat' split
  all_goals simp (maxDischargeDepth := 40) [hm]

theorem execSetStatus_wf_flash (m : DictMsg) (s : State) (t : State)
    (h : execSetStatus m s = .next t) (hm : Flash.wf s.nand.flash = true) : Flash.wf t.nand.flash = true := by
  unfold execSetStatus at h; cases h; (try dsimp only); repeat' split
  all_goals simp (maxDischargeDepth := 40) [hm]

theorem execSetIdleTimeout_frame (slot : Fin 16) (s : State) (t : State)
    (h : execSetIdleTimeout slot s = .next t) : t.pending = s.pending ∧ t.ctl.mode = s.ctl.mode ∧ t.mem = s.mem ∧ t.nand.flash = s.nand.flash := by
  unfold execSetIdleTimeout at h; cases h; (try dsimp only); refine ⟨?_, ?_, ?_, ?_⟩ <;> (repeat' split) <;> simp

theorem execTunnelReqReceived_frame (source : Nat) (op : DictOp) (m : DictMsg) (s : State) (t : State)
    (h : execTunnelReqReceived source op m s = .next t) : t.pending = s.pending := by
  unfold execTunnelReqReceived at h; (try dsimp only at h); repeat' split at h
  all_goals (first | (cases h; done) | (cases h; simp; done) | (cases h; simp_all; done))

theorem execTunnelReqReceived_wf_mem (source : Nat) (op : DictOp) (m : DictMsg) (s : State) (t : State)
    (h : execTunnelReqReceived source op m s = .next t) (hm : Mem.wf s.mem = true) : Mem.wf t.mem = true := by
  unfold execTunnelReqReceived at h; (repeat' split at h)
  all_goals first
    | exact State.request_wf_mem _ _ _ _ h hm
    | exact State.writeEntry_wf_mem _ _ _ _ _ _ h hm
    | (cases h; simp (maxDischargeDepth := 40) [hm]; done)

theorem execTunnelReqReceived_wf_flash (source : Nat) (op : DictOp) (m : DictMsg) (s : State) (t : State)
    (h : execTunnelReqReceived source op m s = .next t) (hm : Flash.wf s.nand.flash = true) : Flash.wf t.nand.flash = true := by
  unfold execTunnelReqReceived at h; (repeat' split at h)
  all_goals first
    | exact State.request_wf_flash _ _ _ _ h hm
    | exact State.writeEntry_wf_flash _ _ _ _ _ _ h hm
    | (cases h; simp (maxDischargeDepth := 40) [hm]; done)

@[simp] theorem State.endTunnel_frame (s : State) (e : Nat × Tunnel) (status result handle beat : Nat) (items : List RespItem) :
    (State.endTunnel s e status result handle beat items).pending = s.pending ∧ (State.endTunnel s e status result handle beat items).ctl.mode = s.ctl.mode ∧ (State.endTunnel s e status result handle beat items).mem = s.mem ∧ (State.endTunnel s e status result handle beat items).nand.flash = s.nand.flash := by
  simp [State.endTunnel]

theorem execTunnelRspReceived_frame (source tag status result handle beat : Nat) (items : List RespItem) (s : State) (t : State)
    (h : execTunnelRspReceived source tag status result handle beat items s = .next t) : t.pending = s.pending ∧ t.ctl.mode = s.ctl.mode ∧ t.mem = s.mem ∧ t.nand.flash = s.nand.flash := by
  unfold execTunnelRspReceived at h; cases h; (try dsimp only); refine ⟨?_, ?_, ?_, ?_⟩ <;> (repeat' split) <;> simp

@[simp] theorem State.takeMessage_frame (s : State) (a : Nat × Bool × Nat) :
    (State.takeMessage s a).pending = s.pending := by
  refine ?_ <;> (unfold State.takeMessage; (try dsimp only); repeat' split) <;> simp

@[simp] theorem State.takeMessage_wf_mem (s : State) (a : Nat × Bool × Nat) (h : Mem.wf s.mem = true) :
    Mem.wf (State.takeMessage s a).mem = true := by
  unfold State.takeMessage; (try dsimp only); repeat' split
  all_goals simp (maxDischargeDepth := 40) [h]

@[simp] theorem State.takeMessage_wf_flash (s : State) (a : Nat × Bool × Nat) (h : Flash.wf s.nand.flash = true) :
    Flash.wf (State.takeMessage s a).nand.flash = true := by
  unfold State.takeMessage; (try dsimp only); repeat' split
  all_goals simp (maxDischargeDepth := 40) [h]

@[simp] theorem State.takeArrived_frame (s : State) :
    (State.takeArrived s).pending = s.pending := by
  simp [State.takeArrived]

@[simp] theorem State.takeArrived_wf_mem (s : State) (h : Mem.wf s.mem = true) :
    Mem.wf (State.takeArrived s).mem = true := by
  unfold State.takeArrived; (try dsimp only); repeat' split
  all_goals simp_all (maxDischargeDepth := 40)

@[simp] theorem State.takeArrived_wf_flash (s : State) (h : Flash.wf s.nand.flash = true) :
    Flash.wf (State.takeArrived s).nand.flash = true := by
  unfold State.takeArrived; (try dsimp only); repeat' split
  all_goals simp_all (maxDischargeDepth := 40)

theorem execFramePass_frame (f : Frame) (s : State) (t : State)
    (h : execFramePass f s = .next t) : t.pending = s.pending := by
  unfold execFramePass at h; cases h; simp

theorem execFramePass_wf_mem (f : Frame) (s : State) (t : State)
    (h : execFramePass f s = .next t) (hm : Mem.wf s.mem = true) : Mem.wf t.mem = true := by
  unfold execFramePass at h; cases h; (try dsimp only); repeat' split
  all_goals simp (maxDischargeDepth := 40) [hm]

theorem execFramePass_wf_flash (f : Frame) (s : State) (t : State)
    (h : execFramePass f s = .next t) (hm : Flash.wf s.nand.flash = true) : Flash.wf t.nand.flash = true := by
  unfold execFramePass at h; cases h; (try dsimp only); repeat' split
  all_goals simp (maxDischargeDepth := 40) [hm]

theorem execFrameReturn_frame (f : Frame) (lapNs : Nat) (s : State) (t : State)
    (h : execFrameReturn f lapNs s = .next t) : t.pending = s.pending := by
  unfold execFrameReturn at h; cases h; simp

theorem execFrameReturn_wf_mem (f : Frame) (lapNs : Nat) (s : State) (t : State)
    (h : execFrameReturn f lapNs s = .next t) (hm : Mem.wf s.mem = true) : Mem.wf t.mem = true := by
  unfold execFrameReturn at h; cases h; (try dsimp only); repeat' split
  all_goals simp (maxDischargeDepth := 40) [hm]

theorem execFrameReturn_wf_flash (f : Frame) (lapNs : Nat) (s : State) (t : State)
    (h : execFrameReturn f lapNs s = .next t) (hm : Flash.wf s.nand.flash = true) : Flash.wf t.nand.flash = true := by
  unfold execFrameReturn at h; cases h; (try dsimp only); repeat' split
  all_goals simp (maxDischargeDepth := 40) [hm]

theorem execTunnelTimeout_frame (tag : Nat) (s : State) (t : State)
    (h : execTunnelTimeout tag s = .next t) : t.pending = s.pending ∧ t.ctl.mode = s.ctl.mode ∧ t.mem = s.mem ∧ t.nand.flash = s.nand.flash := by
  unfold execTunnelTimeout at h; cases h; (try dsimp only); refine ⟨?_, ?_, ?_, ?_⟩ <;> (repeat' split) <;> simp

@[simp] theorem State.resumeErase_frame (s : State) (b : Nat) :
    (State.resumeErase s b).pending = s.pending ∧ (State.resumeErase s b).ctl.mode = s.ctl.mode ∧ (State.resumeErase s b).mem = s.mem ∧ (State.resumeErase s b).nand.flash = s.nand.flash := by
  refine ⟨?_, ?_, ?_, ?_⟩ <;> (unfold State.resumeErase; (try dsimp only); repeat' split) <;> simp

@[simp] theorem State.reloaded_frame (s : State) :
    (State.reloaded s).pending = s.pending := by
  refine ?_ <;> (unfold State.reloaded; (try dsimp only); repeat' split) <;> simp

@[simp] theorem State.reloaded_wf_mem (s : State) (h : Mem.wf s.mem = true) :
    Mem.wf (State.reloaded s).mem = true := by
  unfold State.reloaded; (try dsimp only); repeat' split
  all_goals simp_all (maxDischargeDepth := 40)

@[simp] theorem State.reloaded_wf_flash (s : State) (h : Flash.wf s.nand.flash = true) :
    Flash.wf (State.reloaded s).nand.flash = true := by
  unfold State.reloaded; (try dsimp only); repeat' split
  all_goals simp_all (maxDischargeDepth := 40)

theorem execBureauReloadComplete_frame (s : State) (t : State)
    (h : execBureauReloadComplete s = .next t) : t.pending = s.pending := by
  unfold execBureauReloadComplete at h; cases h; simp

theorem execBureauReloadComplete_wf_mem (s : State) (t : State)
    (h : execBureauReloadComplete s = .next t) (hm : Mem.wf s.mem = true) : Mem.wf t.mem = true := by
  unfold execBureauReloadComplete at h; cases h; (try dsimp only); repeat' split
  all_goals simp (maxDischargeDepth := 40) [hm]

theorem execBureauReloadComplete_wf_flash (s : State) (t : State)
    (h : execBureauReloadComplete s = .next t) (hm : Flash.wf s.nand.flash = true) : Flash.wf t.nand.flash = true := by
  unfold execBureauReloadComplete at h; cases h; (try dsimp only); repeat' split
  all_goals simp (maxDischargeDepth := 40) [hm]

theorem State.writeEntry_frame (s : State) (role : Role) (idx sub v : Nat) (t : State)
    (h : State.writeEntry s role idx sub v = .next t) : t.pending = s.pending := by
  unfold State.writeEntry at h; cases h; simp

theorem State.writeEntry_wf_mem (s : State) (role : Role) (idx sub v : Nat) (t : State)
    (h : State.writeEntry s role idx sub v = .next t) (hm : Mem.wf s.mem = true) : Mem.wf t.mem = true := by
  unfold State.writeEntry at h; cases h; (try dsimp only); repeat' split
  all_goals simp (maxDischargeDepth := 40) [hm]

theorem State.writeEntry_wf_flash (s : State) (role : Role) (idx sub v : Nat) (t : State)
    (h : State.writeEntry s role idx sub v = .next t) (hm : Flash.wf s.nand.flash = true) : Flash.wf t.nand.flash = true := by
  unfold State.writeEntry at h; cases h; (try dsimp only); repeat' split
  all_goals simp (maxDischargeDepth := 40) [hm]

theorem execLinkEnableWrite_frame (role : Role) (link : Fin 4) (value : Nat) (s : State) (t : State)
    (h : execLinkEnableWrite role link value s = .next t) : t.pending = s.pending := by
  unfold execLinkEnableWrite at h; cases h; simp

theorem execLinkEnableWrite_wf_mem (role : Role) (link : Fin 4) (value : Nat) (s : State) (t : State)
    (h : execLinkEnableWrite role link value s = .next t) (hm : Mem.wf s.mem = true) : Mem.wf t.mem = true := by
  unfold execLinkEnableWrite at h; cases h; (try dsimp only); repeat' split
  all_goals simp (maxDischargeDepth := 40) [hm]

theorem execLinkEnableWrite_wf_flash (role : Role) (link : Fin 4) (value : Nat) (s : State) (t : State)
    (h : execLinkEnableWrite role link value s = .next t) (hm : Flash.wf s.nand.flash = true) : Flash.wf t.nand.flash = true := by
  unfold execLinkEnableWrite at h; cases h; (try dsimp only); repeat' split
  all_goals simp (maxDischargeDepth := 40) [hm]

theorem execForceOutcomeWrite_frame (role : Role) (value : Nat) (s : State) (t : State)
    (h : execForceOutcomeWrite role value s = .next t) : t.pending = s.pending := by
  unfold execForceOutcomeWrite at h; cases h; simp

theorem execForceOutcomeWrite_wf_mem (role : Role) (value : Nat) (s : State) (t : State)
    (h : execForceOutcomeWrite role value s = .next t) (hm : Mem.wf s.mem = true) : Mem.wf t.mem = true := by
  unfold execForceOutcomeWrite at h; cases h; (try dsimp only); repeat' split
  all_goals simp (maxDischargeDepth := 40) [hm]

theorem execForceOutcomeWrite_wf_flash (role : Role) (value : Nat) (s : State) (t : State)
    (h : execForceOutcomeWrite role value s = .next t) (hm : Flash.wf s.nand.flash = true) : Flash.wf t.nand.flash = true := by
  unfold execForceOutcomeWrite at h; cases h; (try dsimp only); repeat' split
  all_goals simp (maxDischargeDepth := 40) [hm]

theorem execLayoutChangeWrite_frame (role : Role) (entry : LayoutEntry) (value : Nat) (s : State) (t : State)
    (h : execLayoutChangeWrite role entry value s = .next t) : t.pending = s.pending := by
  unfold execLayoutChangeWrite at h; (try dsimp only at h); repeat' split at h
  all_goals (first | (cases h; done) | (cases h; simp; done) | (cases h; simp_all; done))

theorem execLayoutChangeWrite_wf_mem (role : Role) (entry : LayoutEntry) (value : Nat) (s : State) (t : State)
    (h : execLayoutChangeWrite role entry value s = .next t) (hm : Mem.wf s.mem = true) : Mem.wf t.mem = true := by
  unfold execLayoutChangeWrite at h; (repeat' split at h)
  all_goals first
    | exact State.request_wf_mem _ _ _ _ h hm
    | exact State.writeEntry_wf_mem _ _ _ _ _ _ h hm
    | (cases h; simp (maxDischargeDepth := 40) [hm]; done)

theorem execLayoutChangeWrite_wf_flash (role : Role) (entry : LayoutEntry) (value : Nat) (s : State) (t : State)
    (h : execLayoutChangeWrite role entry value s = .next t) (hm : Flash.wf s.nand.flash = true) : Flash.wf t.nand.flash = true := by
  unfold execLayoutChangeWrite at h; (repeat' split at h)
  all_goals first
    | exact State.request_wf_flash _ _ _ _ h hm
    | exact State.writeEntry_wf_flash _ _ _ _ _ _ h hm
    | (cases h; simp (maxDischargeDepth := 40) [hm]; done)

theorem execBankHashWrite_frame (role : Role) (sub value : Nat) (s : State) (t : State)
    (h : execBankHashWrite role sub value s = .next t) : t.pending = s.pending := by
  unfold execBankHashWrite at h; (try dsimp only at h); repeat' split at h
  all_goals (first | (cases h; done) | (cases h; simp; done) | (cases h; simp_all; done))

theorem execBankHashWrite_wf_mem (role : Role) (sub value : Nat) (s : State) (t : State)
    (h : execBankHashWrite role sub value s = .next t) (hm : Mem.wf s.mem = true) : Mem.wf t.mem = true := by
  unfold execBankHashWrite at h; (repeat' split at h)
  all_goals first
    | exact State.request_wf_mem _ _ _ _ h hm
    | exact State.writeEntry_wf_mem _ _ _ _ _ _ h hm
    | (cases h; simp (maxDischargeDepth := 40) [hm]; done)

theorem execBankHashWrite_wf_flash (role : Role) (sub value : Nat) (s : State) (t : State)
    (h : execBankHashWrite role sub value s = .next t) (hm : Flash.wf s.nand.flash = true) : Flash.wf t.nand.flash = true := by
  unfold execBankHashWrite at h; (repeat' split at h)
  all_goals first
    | exact State.request_wf_flash _ _ _ _ h hm
    | exact State.writeEntry_wf_flash _ _ _ _ _ _ h hm
    | (cases h; simp (maxDischargeDepth := 40) [hm]; done)

theorem execRetrainRequestWrite_frame (role : Role) (value : Nat) (s : State) (t : State)
    (h : execRetrainRequestWrite role value s = .next t) : t.pending = s.pending := by
  unfold execRetrainRequestWrite at h; cases h; simp

theorem execRetrainRequestWrite_wf_mem (role : Role) (value : Nat) (s : State) (t : State)
    (h : execRetrainRequestWrite role value s = .next t) (hm : Mem.wf s.mem = true) : Mem.wf t.mem = true := by
  unfold execRetrainRequestWrite at h; cases h; (try dsimp only); repeat' split
  all_goals simp (maxDischargeDepth := 40) [hm]

theorem execRetrainRequestWrite_wf_flash (role : Role) (value : Nat) (s : State) (t : State)
    (h : execRetrainRequestWrite role value s = .next t) (hm : Flash.wf s.nand.flash = true) : Flash.wf t.nand.flash = true := by
  unfold execRetrainRequestWrite at h; cases h; (try dsimp only); repeat' split
  all_goals simp (maxDischargeDepth := 40) [hm]

theorem execRateMaxWrite_frame (role : Role) (chan : Fin 13) (value : Nat) (s : State) (t : State)
    (h : execRateMaxWrite role chan value s = .next t) : t.pending = s.pending := by
  unfold execRateMaxWrite at h; cases h; simp

theorem execRateMaxWrite_wf_mem (role : Role) (chan : Fin 13) (value : Nat) (s : State) (t : State)
    (h : execRateMaxWrite role chan value s = .next t) (hm : Mem.wf s.mem = true) : Mem.wf t.mem = true := by
  unfold execRateMaxWrite at h; cases h; (try dsimp only); repeat' split
  all_goals simp (maxDischargeDepth := 40) [hm]

theorem execRateMaxWrite_wf_flash (role : Role) (chan : Fin 13) (value : Nat) (s : State) (t : State)
    (h : execRateMaxWrite role chan value s = .next t) (hm : Flash.wf s.nand.flash = true) : Flash.wf t.nand.flash = true := by
  unfold execRateMaxWrite at h; cases h; (try dsimp only); repeat' split
  all_goals simp (maxDischargeDepth := 40) [hm]

theorem execSpareRequestWrite_frame (role : Role) (value : Nat) (s : State) (t : State)
    (h : execSpareRequestWrite role value s = .next t) : t.pending = s.pending := by
  unfold execSpareRequestWrite at h; cases h; simp

theorem execSpareRequestWrite_wf_mem (role : Role) (value : Nat) (s : State) (t : State)
    (h : execSpareRequestWrite role value s = .next t) (hm : Mem.wf s.mem = true) : Mem.wf t.mem = true := by
  unfold execSpareRequestWrite at h; cases h; (try dsimp only); repeat' split
  all_goals simp (maxDischargeDepth := 40) [hm]

theorem execSpareRequestWrite_wf_flash (role : Role) (value : Nat) (s : State) (t : State)
    (h : execSpareRequestWrite role value s = .next t) (hm : Flash.wf s.nand.flash = true) : Flash.wf t.nand.flash = true := by
  unfold execSpareRequestWrite at h; cases h; (try dsimp only); repeat' split
  all_goals simp (maxDischargeDepth := 40) [hm]

theorem execRequalifyRequestWrite_frame (role : Role) (value : Nat) (s : State) (t : State)
    (h : execRequalifyRequestWrite role value s = .next t) : t.pending = s.pending := by
  unfold execRequalifyRequestWrite at h; cases h; simp

theorem execRequalifyRequestWrite_wf_mem (role : Role) (value : Nat) (s : State) (t : State)
    (h : execRequalifyRequestWrite role value s = .next t) (hm : Mem.wf s.mem = true) : Mem.wf t.mem = true := by
  unfold execRequalifyRequestWrite at h; cases h; (try dsimp only); repeat' split
  all_goals simp (maxDischargeDepth := 40) [hm]

theorem execRequalifyRequestWrite_wf_flash (role : Role) (value : Nat) (s : State) (t : State)
    (h : execRequalifyRequestWrite role value s = .next t) (hm : Flash.wf s.nand.flash = true) : Flash.wf t.nand.flash = true := by
  unfold execRequalifyRequestWrite at h; cases h; (try dsimp only); repeat' split
  all_goals simp (maxDischargeDepth := 40) [hm]

theorem execTrestleLinkEnableWrite_frame (role : Role) (port : Fin 2) (value : Nat) (s : State) (t : State)
    (h : execTrestleLinkEnableWrite role port value s = .next t) : t.pending = s.pending := by
  unfold execTrestleLinkEnableWrite at h; cases h; simp

theorem execTrestleLinkEnableWrite_wf_mem (role : Role) (port : Fin 2) (value : Nat) (s : State) (t : State)
    (h : execTrestleLinkEnableWrite role port value s = .next t) (hm : Mem.wf s.mem = true) : Mem.wf t.mem = true := by
  unfold execTrestleLinkEnableWrite at h; cases h; (try dsimp only); repeat' split
  all_goals simp (maxDischargeDepth := 40) [hm]

theorem execTrestleLinkEnableWrite_wf_flash (role : Role) (port : Fin 2) (value : Nat) (s : State) (t : State)
    (h : execTrestleLinkEnableWrite role port value s = .next t) (hm : Flash.wf s.nand.flash = true) : Flash.wf t.nand.flash = true := by
  unfold execTrestleLinkEnableWrite at h; cases h; (try dsimp only); repeat' split
  all_goals simp (maxDischargeDepth := 40) [hm]

theorem execChargerFaultClear_frame (role : Role) (value : Nat) (s : State) (t : State)
    (h : execChargerFaultClear role value s = .next t) : t.pending = s.pending := by
  unfold execChargerFaultClear at h; cases h; simp

theorem execChargerFaultClear_wf_mem (role : Role) (value : Nat) (s : State) (t : State)
    (h : execChargerFaultClear role value s = .next t) (hm : Mem.wf s.mem = true) : Mem.wf t.mem = true := by
  unfold execChargerFaultClear at h; cases h; (try dsimp only); repeat' split
  all_goals simp (maxDischargeDepth := 40) [hm]

theorem execChargerFaultClear_wf_flash (role : Role) (value : Nat) (s : State) (t : State)
    (h : execChargerFaultClear role value s = .next t) (hm : Flash.wf s.nand.flash = true) : Flash.wf t.nand.flash = true := by
  unfold execChargerFaultClear at h; cases h; (try dsimp only); repeat' split
  all_goals simp (maxDischargeDepth := 40) [hm]

theorem execSeqRetryRequest_frame (role : Role) (value : Nat) (s : State) (t : State)
    (h : execSeqRetryRequest role value s = .next t) : t.pending = s.pending := by
  unfold execSeqRetryRequest at h; cases h; simp

theorem execSeqRetryRequest_wf_mem (role : Role) (value : Nat) (s : State) (t : State)
    (h : execSeqRetryRequest role value s = .next t) (hm : Mem.wf s.mem = true) : Mem.wf t.mem = true := by
  unfold execSeqRetryRequest at h; cases h; (try dsimp only); repeat' split
  all_goals simp (maxDischargeDepth := 40) [hm]

theorem execSeqRetryRequest_wf_flash (role : Role) (value : Nat) (s : State) (t : State)
    (h : execSeqRetryRequest role value s = .next t) (hm : Flash.wf s.nand.flash = true) : Flash.wf t.nand.flash = true := by
  unfold execSeqRetryRequest at h; cases h; (try dsimp only); repeat' split
  all_goals simp (maxDischargeDepth := 40) [hm]

theorem execGroupEnableWrite_frame (role : Role) (group : Fin 16) (value : Nat) (s : State) (t : State)
    (h : execGroupEnableWrite role group value s = .next t) : t.pending = s.pending := by
  unfold execGroupEnableWrite at h; cases h; simp

theorem execGroupEnableWrite_wf_mem (role : Role) (group : Fin 16) (value : Nat) (s : State) (t : State)
    (h : execGroupEnableWrite role group value s = .next t) (hm : Mem.wf s.mem = true) : Mem.wf t.mem = true := by
  unfold execGroupEnableWrite at h; cases h; (try dsimp only); repeat' split
  all_goals simp (maxDischargeDepth := 40) [hm]

theorem execGroupEnableWrite_wf_flash (role : Role) (group : Fin 16) (value : Nat) (s : State) (t : State)
    (h : execGroupEnableWrite role group value s = .next t) (hm : Flash.wf s.nand.flash = true) : Flash.wf t.nand.flash = true := by
  unfold execGroupEnableWrite at h; cases h; (try dsimp only); repeat' split
  all_goals simp (maxDischargeDepth := 40) [hm]

theorem execColdResetRequest_frame (role : Role) (value : Nat) (s : State) (t : State)
    (h : execColdResetRequest role value s = .next t) : t.pending = s.pending := by
  unfold execColdResetRequest at h; cases h; simp

theorem execColdResetRequest_wf_mem (role : Role) (value : Nat) (s : State) (t : State)
    (h : execColdResetRequest role value s = .next t) (hm : Mem.wf s.mem = true) : Mem.wf t.mem = true := by
  unfold execColdResetRequest at h; cases h; (try dsimp only); repeat' split
  all_goals simp (maxDischargeDepth := 40) [hm]

theorem execColdResetRequest_wf_flash (role : Role) (value : Nat) (s : State) (t : State)
    (h : execColdResetRequest role value s = .next t) (hm : Flash.wf s.nand.flash = true) : Flash.wf t.nand.flash = true := by
  unfold execColdResetRequest at h; cases h; (try dsimp only); repeat' split
  all_goals simp (maxDischargeDepth := 40) [hm]

theorem execBureauResetRequest_frame (role : Role) (value : Nat) (s : State) (t : State)
    (h : execBureauResetRequest role value s = .next t) : t.pending = s.pending := by
  unfold execBureauResetRequest at h; cases h; simp

theorem execBureauResetRequest_wf_mem (role : Role) (value : Nat) (s : State) (t : State)
    (h : execBureauResetRequest role value s = .next t) (hm : Mem.wf s.mem = true) : Mem.wf t.mem = true := by
  unfold execBureauResetRequest at h; cases h; (try dsimp only); repeat' split
  all_goals simp (maxDischargeDepth := 40) [hm]

theorem execBureauResetRequest_wf_flash (role : Role) (value : Nat) (s : State) (t : State)
    (h : execBureauResetRequest role value s = .next t) (hm : Flash.wf s.nand.flash = true) : Flash.wf t.nand.flash = true := by
  unfold execBureauResetRequest at h; cases h; (try dsimp only); repeat' split
  all_goals simp (maxDischargeDepth := 40) [hm]

theorem execBlockResetRequest_frame (role : Role) (value : Nat) (s : State) (t : State)
    (h : execBlockResetRequest role value s = .next t) : t.pending = s.pending := by
  unfold execBlockResetRequest at h; cases h; simp

theorem execBlockResetRequest_wf_mem (role : Role) (value : Nat) (s : State) (t : State)
    (h : execBlockResetRequest role value s = .next t) (hm : Mem.wf s.mem = true) : Mem.wf t.mem = true := by
  unfold execBlockResetRequest at h; cases h; (try dsimp only); repeat' split
  all_goals simp (maxDischargeDepth := 40) [hm]

theorem execBlockResetRequest_wf_flash (role : Role) (value : Nat) (s : State) (t : State)
    (h : execBlockResetRequest role value s = .next t) (hm : Flash.wf s.nand.flash = true) : Flash.wf t.nand.flash = true := by
  unfold execBlockResetRequest at h; cases h; (try dsimp only); repeat' split
  all_goals simp (maxDischargeDepth := 40) [hm]

theorem execSaveAndResume_frame (role : Role) (s : State) (t : State)
    (h : execSaveAndResume role s = .next t) : t.pending = s.pending := by
  unfold execSaveAndResume at h; cases h; simp

theorem execSaveAndResume_wf_mem (role : Role) (s : State) (t : State)
    (h : execSaveAndResume role s = .next t) (hm : Mem.wf s.mem = true) : Mem.wf t.mem = true := by
  unfold execSaveAndResume at h; cases h; (try dsimp only); repeat' split
  all_goals simp (maxDischargeDepth := 40) [hm]

theorem execSaveAndResume_wf_flash (role : Role) (s : State) (t : State)
    (h : execSaveAndResume role s = .next t) (hm : Flash.wf s.nand.flash = true) : Flash.wf t.nand.flash = true := by
  unfold execSaveAndResume at h; cases h; (try dsimp only); repeat' split
  all_goals simp (maxDischargeDepth := 40) [hm]

theorem execSaveAndHalt_frame (role : Role) (s : State) (t : State)
    (h : execSaveAndHalt role s = .next t) : t.pending = s.pending := by
  unfold execSaveAndHalt at h; cases h; simp

theorem execSaveAndHalt_wf_mem (role : Role) (s : State) (t : State)
    (h : execSaveAndHalt role s = .next t) (hm : Mem.wf s.mem = true) : Mem.wf t.mem = true := by
  unfold execSaveAndHalt at h; cases h; (try dsimp only); repeat' split
  all_goals simp (maxDischargeDepth := 40) [hm]

theorem execSaveAndHalt_wf_flash (role : Role) (s : State) (t : State)
    (h : execSaveAndHalt role s = .next t) (hm : Flash.wf s.nand.flash = true) : Flash.wf t.nand.flash = true := by
  unfold execSaveAndHalt at h; cases h; (try dsimp only); repeat' split
  all_goals simp (maxDischargeDepth := 40) [hm]

theorem execRegisterWrite_frame (role : Role) (index sub value len : Nat) (s : State) (t : State)
    (h : execRegisterWrite role index sub value len s = .next t) : t.pending = s.pending := by
  unfold execRegisterWrite at h; cases h; simp

theorem execRegisterWrite_wf_mem (role : Role) (index sub value len : Nat) (s : State) (t : State)
    (h : execRegisterWrite role index sub value len s = .next t) (hm : Mem.wf s.mem = true) : Mem.wf t.mem = true := by
  unfold execRegisterWrite at h; cases h; (try dsimp only); repeat' split
  all_goals simp (maxDischargeDepth := 40) [hm]

theorem execRegisterWrite_wf_flash (role : Role) (index sub value len : Nat) (s : State) (t : State)
    (h : execRegisterWrite role index sub value len s = .next t) (hm : Flash.wf s.nand.flash = true) : Flash.wf t.nand.flash = true := by
  unfold execRegisterWrite at h; cases h; (try dsimp only); repeat' split
  all_goals simp (maxDischargeDepth := 40) [hm]

theorem execWallTimeWrite_frame (role : Role) (value : Nat) (s : State) (t : State)
    (h : execWallTimeWrite role value s = .next t) : t.pending = s.pending := by
  unfold execWallTimeWrite at h; cases h; simp

theorem execWallTimeWrite_wf_mem (role : Role) (value : Nat) (s : State) (t : State)
    (h : execWallTimeWrite role value s = .next t) (hm : Mem.wf s.mem = true) : Mem.wf t.mem = true := by
  unfold execWallTimeWrite at h; cases h; (try dsimp only); repeat' split
  all_goals simp (maxDischargeDepth := 40) [hm]

theorem execWallTimeWrite_wf_flash (role : Role) (value : Nat) (s : State) (t : State)
    (h : execWallTimeWrite role value s = .next t) (hm : Flash.wf s.nand.flash = true) : Flash.wf t.nand.flash = true := by
  unfold execWallTimeWrite at h; cases h; (try dsimp only); repeat' split
  all_goals simp (maxDischargeDepth := 40) [hm]

theorem execFaultClear_frame (role : Role) (block : Fin 17) (value : Nat) (s : State) (t : State)
    (h : execFaultClear role block value s = .next t) : t.pending = s.pending := by
  unfold execFaultClear at h; cases h; simp

theorem execFaultClear_wf_mem (role : Role) (block : Fin 17) (value : Nat) (s : State) (t : State)
    (h : execFaultClear role block value s = .next t) (hm : Mem.wf s.mem = true) : Mem.wf t.mem = true := by
  unfold execFaultClear at h; cases h; (try dsimp only); repeat' split
  all_goals simp (maxDischargeDepth := 40) [hm]

theorem execFaultClear_wf_flash (role : Role) (block : Fin 17) (value : Nat) (s : State) (t : State)
    (h : execFaultClear role block value s = .next t) (hm : Flash.wf s.nand.flash = true) : Flash.wf t.nand.flash = true := by
  unfold execFaultClear at h; cases h; (try dsimp only); repeat' split
  all_goals simp (maxDischargeDepth := 40) [hm]

theorem execRdpRaise_frame (role : Role) (value : Nat) (s : State) (t : State)
    (h : execRdpRaise role value s = .next t) : t.pending = s.pending := by
  unfold execRdpRaise at h; cases h; simp

theorem execRdpRaise_wf_mem (role : Role) (value : Nat) (s : State) (t : State)
    (h : execRdpRaise role value s = .next t) (hm : Mem.wf s.mem = true) : Mem.wf t.mem = true := by
  unfold execRdpRaise at h; cases h; (try dsimp only); repeat' split
  all_goals simp (maxDischargeDepth := 40) [hm]

theorem execRdpRaise_wf_flash (role : Role) (value : Nat) (s : State) (t : State)
    (h : execRdpRaise role value s = .next t) (hm : Flash.wf s.nand.flash = true) : Flash.wf t.nand.flash = true := by
  unfold execRdpRaise at h; cases h; (try dsimp only); repeat' split
  all_goals simp (maxDischargeDepth := 40) [hm]

theorem execRdpLowerArm_frame (role : Role) (value : Nat) (s : State) (t : State)
    (h : execRdpLowerArm role value s = .next t) : t.pending = s.pending := by
  unfold execRdpLowerArm at h; cases h; simp

theorem execRdpLowerArm_wf_mem (role : Role) (value : Nat) (s : State) (t : State)
    (h : execRdpLowerArm role value s = .next t) (hm : Mem.wf s.mem = true) : Mem.wf t.mem = true := by
  unfold execRdpLowerArm at h; cases h; (try dsimp only); repeat' split
  all_goals simp (maxDischargeDepth := 40) [hm]

theorem execRdpLowerArm_wf_flash (role : Role) (value : Nat) (s : State) (t : State)
    (h : execRdpLowerArm role value s = .next t) (hm : Flash.wf s.nand.flash = true) : Flash.wf t.nand.flash = true := by
  unfold execRdpLowerArm at h; cases h; (try dsimp only); repeat' split
  all_goals simp (maxDischargeDepth := 40) [hm]

theorem execRdpLower_frame (role : Role) (s : State) (t : State)
    (h : execRdpLower role s = .next t) : t.pending = s.pending := by
  unfold execRdpLower at h; cases h; simp

theorem execRdpLower_wf_mem (role : Role) (s : State) (t : State)
    (h : execRdpLower role s = .next t) (hm : Mem.wf s.mem = true) : Mem.wf t.mem = true := by
  unfold execRdpLower at h; cases h; (try dsimp only); repeat' split
  all_goals simp (maxDischargeDepth := 40) [hm]

theorem execRdpLower_wf_flash (role : Role) (s : State) (t : State)
    (h : execRdpLower role s = .next t) (hm : Flash.wf s.nand.flash = true) : Flash.wf t.nand.flash = true := by
  unfold execRdpLower at h; cases h; (try dsimp only); repeat' split
  all_goals simp (maxDischargeDepth := 40) [hm]

theorem execKeyRevokeArm_frame (role : Role) (value : Nat) (s : State) (t : State)
    (h : execKeyRevokeArm role value s = .next t) : t.pending = s.pending := by
  unfold execKeyRevokeArm at h; cases h; simp

theorem execKeyRevokeArm_wf_mem (role : Role) (value : Nat) (s : State) (t : State)
    (h : execKeyRevokeArm role value s = .next t) (hm : Mem.wf s.mem = true) : Mem.wf t.mem = true := by
  unfold execKeyRevokeArm at h; cases h; (try dsimp only); repeat' split
  all_goals simp (maxDischargeDepth := 40) [hm]

theorem execKeyRevokeArm_wf_flash (role : Role) (value : Nat) (s : State) (t : State)
    (h : execKeyRevokeArm role value s = .next t) (hm : Flash.wf s.nand.flash = true) : Flash.wf t.nand.flash = true := by
  unfold execKeyRevokeArm at h; cases h; (try dsimp only); repeat' split
  all_goals simp (maxDischargeDepth := 40) [hm]

theorem execKeyRevokeRequest_frame (role : Role) (value : Nat) (s : State) (t : State)
    (h : execKeyRevokeRequest role value s = .next t) : t.pending = s.pending := by
  unfold execKeyRevokeRequest at h; cases h; simp

theorem execKeyRevokeRequest_wf_mem (role : Role) (value : Nat) (s : State) (t : State)
    (h : execKeyRevokeRequest role value s = .next t) (hm : Mem.wf s.mem = true) : Mem.wf t.mem = true := by
  unfold execKeyRevokeRequest at h; cases h; (try dsimp only); repeat' split
  all_goals simp (maxDischargeDepth := 40) [hm]

theorem execKeyRevokeRequest_wf_flash (role : Role) (value : Nat) (s : State) (t : State)
    (h : execKeyRevokeRequest role value s = .next t) (hm : Flash.wf s.nand.flash = true) : Flash.wf t.nand.flash = true := by
  unfold execKeyRevokeRequest at h; cases h; (try dsimp only); repeat' split
  all_goals simp (maxDischargeDepth := 40) [hm]

theorem execPtRun_frame (role : Role) (value bits errors line : Nat) (s : State) (t : State)
    (h : execPtRun role value bits errors line s = .next t) : t.pending = s.pending := by
  unfold execPtRun at h
  dsimp only at h
  split at h
  · cases h; simp
  · exact State.writeEntry_frame _ _ _ _ _ _ h

theorem execPtRun_wf_mem (role : Role) (value bits errors line : Nat) (s : State) (t : State)
    (h : execPtRun role value bits errors line s = .next t) (hm : Mem.wf s.mem = true) : Mem.wf t.mem = true := by
  unfold execPtRun at h
  dsimp only at h
  split at h
  · cases h; simp (maxDischargeDepth := 40) [hm]
  · exact State.writeEntry_wf_mem _ _ _ _ _ _ h hm

theorem execPtRun_wf_flash (role : Role) (value bits errors line : Nat) (s : State) (t : State)
    (h : execPtRun role value bits errors line s = .next t) (hm : Flash.wf s.nand.flash = true) :
    Flash.wf t.nand.flash = true := by
  unfold execPtRun at h
  dsimp only at h
  split at h
  · cases h; simp (maxDischargeDepth := 40) [hm]
  · exact State.writeEntry_wf_flash _ _ _ _ _ _ h hm

theorem execMarginRun_frame (role : Role) (value : Nat) (s : State) (t : State)
    (h : execMarginRun role value s = .next t) : t.pending = s.pending := by
  unfold execMarginRun at h; cases h; simp

theorem execMarginRun_wf_mem (role : Role) (value : Nat) (s : State) (t : State)
    (h : execMarginRun role value s = .next t) (hm : Mem.wf s.mem = true) : Mem.wf t.mem = true := by
  unfold execMarginRun at h; cases h; (try dsimp only); repeat' split
  all_goals simp (maxDischargeDepth := 40) [hm]

theorem execMarginRun_wf_flash (role : Role) (value : Nat) (s : State) (t : State)
    (h : execMarginRun role value s = .next t) (hm : Flash.wf s.nand.flash = true) : Flash.wf t.nand.flash = true := by
  unfold execMarginRun at h; cases h; (try dsimp only); repeat' split
  all_goals simp (maxDischargeDepth := 40) [hm]

end Sys2Proof.Machine
end

