-- ==== Sys2Proof/Laws/Beat.lean ====
section
/-! SUPPORT. What the operations and commands of Machine/Beat.lean keep: the queue, and the mode, the bytes of DRAM and of
flash, or the canonical form of those bytes. -/

namespace Sys2Proof.Machine

@[simp] theorem State.setInt_frame (s : State) (idx sub : Nat) (v : Int) :
    (State.setInt s idx sub v).pending = s.pending ∧ (State.setInt s idx sub v).ctl.mode = s.ctl.mode ∧ (State.setInt s idx sub v).mem = s.mem ∧ (State.setInt s idx sub v).nand.flash = s.nand.flash := by
  exact ⟨rfl, rfl, rfl, rfl⟩

@[simp] theorem State.sample_frame (s : State) (b : BeatInputs) :
    (State.sample s b).pending = s.pending ∧ (State.sample s b).ctl.mode = s.ctl.mode ∧ (State.sample s b).mem = s.mem ∧ (State.sample s b).nand.flash = s.nand.flash := by
  simp [State.sample]

@[simp] theorem State.comparator_frame (s : State) :
    (State.comparator s).pending = s.pending ∧ (State.comparator s).ctl.mode = s.ctl.mode ∧ (State.comparator s).mem = s.mem ∧ (State.comparator s).nand.flash = s.nand.flash := by
  exact ⟨rfl, rfl, rfl, rfl⟩

@[simp] theorem State.releaseWarn_frame (s : State) :
    (State.releaseWarn s).pending = s.pending ∧ (State.releaseWarn s).ctl.mode = s.ctl.mode ∧ (State.releaseWarn s).mem = s.mem ∧ (State.releaseWarn s).nand.flash = s.nand.flash := by
  simp [State.releaseWarn]

@[simp] theorem State.judgeShares_frame (s : State) (b : BeatInputs) :
    (State.judgeShares s b).pending = s.pending ∧ (State.judgeShares s b).ctl.mode = s.ctl.mode
      ∧ (State.judgeShares s b).mem = s.mem ∧ (State.judgeShares s b).nand.flash = s.nand.flash := by
  unfold State.judgeShares
  split
  · exact ⟨rfl, rfl, rfl, rfl⟩
  · refine ⟨State.foldl_pending _ _ _ (fun t k => ?_), State.foldl_mode _ _ _ (fun t k => ?_),
      State.foldl_mem _ _ _ (fun t k => ?_), State.foldl_flash _ _ _ (fun t k => ?_)⟩ <;> (split <;> rfl)

@[simp] theorem State.chargerBeat_frame (s : State) :
    (State.chargerBeat s).pending = s.pending ∧ (State.chargerBeat s).ctl.mode = s.ctl.mode ∧ (State.chargerBeat s).mem = s.mem ∧ (State.chargerBeat s).nand.flash = s.nand.flash := by
  simp [State.chargerBeat]

@[simp] theorem State.findTaps_frame (s : State) (b : BeatInputs) :
    (State.findTaps s b).pending = s.pending ∧ (State.findTaps s b).ctl.mode = s.ctl.mode ∧ (State.findTaps s b).mem = s.mem ∧ (State.findTaps s b).nand.flash = s.nand.flash := by
  simp [State.findTaps]

@[simp] theorem State.balance_frame (s : State) :
    (State.balance s).pending = s.pending ∧ (State.balance s).ctl.mode = s.ctl.mode ∧ (State.balance s).mem = s.mem ∧ (State.balance s).nand.flash = s.nand.flash := by
  exact ⟨rfl, rfl, rfl, rfl⟩

@[simp] theorem State.overtemp_frame (s : State) :
    (State.overtemp s).pending = s.pending ∧ (State.overtemp s).ctl.mode = s.ctl.mode ∧ (State.overtemp s).mem = s.mem ∧ (State.overtemp s).nand.flash = s.nand.flash := by
  simp [State.overtemp]

@[simp] theorem State.energy_frame (s : State) (b : BeatInputs) :
    (State.energy s b).pending = s.pending ∧ (State.energy s b).ctl.mode = s.ctl.mode ∧ (State.energy s b).mem = s.mem ∧ (State.energy s b).nand.flash = s.nand.flash := by
  exact ⟨rfl, rfl, rfl, rfl⟩

@[simp] theorem State.recompute_frame (s : State) :
    (State.recompute s).pending = s.pending ∧ (State.recompute s).ctl.mode = s.ctl.mode ∧ (State.recompute s).mem = s.mem ∧ (State.recompute s).nand.flash = s.nand.flash := by
  exact ⟨rfl, rfl, rfl, rfl⟩

@[simp] theorem State.judgeBudget_frame (s : State) :
    (State.judgeBudget s).pending = s.pending ∧ (State.judgeBudget s).ctl.mode = s.ctl.mode ∧ (State.judgeBudget s).mem = s.mem ∧ (State.judgeBudget s).nand.flash = s.nand.flash := by
  simp [State.judgeBudget]

@[simp] theorem State.gainTokens_frame (s : State) :
    (State.gainTokens s).pending = s.pending ∧ (State.gainTokens s).ctl.mode = s.ctl.mode ∧ (State.gainTokens s).mem = s.mem ∧ (State.gainTokens s).nand.flash = s.nand.flash := by
  exact ⟨rfl, rfl, rfl, rfl⟩

@[simp] theorem State.thermal_frame (s : State) (tj : Int) (sensor : Nat) :
    (State.thermal s tj sensor).pending = s.pending ∧ (State.thermal s tj sensor).mem = s.mem ∧ (State.thermal s tj sensor).nand.flash = s.nand.flash := by
  simp [State.thermal]

@[simp] theorem State.alignBeat_frame (s : State) :
    (State.alignBeat s).pending = s.pending ∧ (State.alignBeat s).ctl.mode = s.ctl.mode ∧ (State.alignBeat s).mem = s.mem ∧ (State.alignBeat s).nand.flash = s.nand.flash := by
  exact ⟨rfl, rfl, rfl, rfl⟩

@[simp] theorem State.tick_frame (s : State) (b : BeatInputs) :
    (State.tick s b).pending = s.pending ∧ (State.tick s b).ctl.mode = s.ctl.mode ∧ (State.tick s b).mem = s.mem ∧ (State.tick s b).nand.flash = s.nand.flash := by
  simp [State.tick]

@[simp] theorem State.serviceHour_frame (s : State) :
    (State.serviceHour s).pending = s.pending ∧ (State.serviceHour s).ctl.mode = s.ctl.mode ∧ (State.serviceHour s).mem = s.mem ∧ (State.serviceHour s).nand.flash = s.nand.flash := by
  simp [State.serviceHour]

@[simp] theorem State.shellReload_frame (s : State) :
    (State.shellReload s).pending = s.pending ∧ (State.shellReload s).ctl.mode = s.ctl.mode ∧ (State.shellReload s).mem = s.mem ∧ (State.shellReload s).nand.flash = s.nand.flash := by
  simp [State.shellReload]

@[simp] theorem State.rowHits_frame (s : State) :
    (State.rowHits s).pending = s.pending ∧ (State.rowHits s).ctl.mode = s.ctl.mode ∧ (State.rowHits s).mem = s.mem ∧ (State.rowHits s).nand.flash = s.nand.flash := by
  simp [State.rowHits]

@[simp] theorem State.periodBeat_frame (s : State) :
    (State.periodBeat s).pending = s.pending ∧ (State.periodBeat s).ctl.mode = s.ctl.mode ∧ (State.periodBeat s).mem = s.mem ∧ (State.periodBeat s).nand.flash = s.nand.flash := by
  simp [State.periodBeat]

@[simp] theorem State.saveBeat_frame (s : State) :
    (State.saveBeat s).pending = s.pending ∧ (State.saveBeat s).ctl.mode = s.ctl.mode ∧ (State.saveBeat s).mem = s.mem ∧ (State.saveBeat s).nand.flash = s.nand.flash := by
  exact ⟨rfl, rfl, rfl, rfl⟩

@[simp] theorem State.beatStep1_frame (s : State) (b : BeatInputs) :
    (State.beatStep1 s b).pending = s.pending ∧ (State.beatStep1 s b).ctl.mode = s.ctl.mode ∧ (State.beatStep1 s b).mem = s.mem ∧ (State.beatStep1 s b).nand.flash = s.nand.flash := by
  refine ⟨?_, ?_, ?_, ?_⟩ <;> (unfold State.beatStep1; (try dsimp only); repeat' split) <;> simp [-List.foldl_reverse]

@[simp] theorem State.beatStep2_frame (s : State) (b : BeatInputs) :
    (State.beatStep2 s b).pending = s.pending ∧ (State.beatStep2 s b).ctl.mode = s.ctl.mode ∧ (State.beatStep2 s b).mem = s.mem ∧ (State.beatStep2 s b).nand.flash = s.nand.flash := by
  simp [State.beatStep2]

@[simp] theorem State.beatStep4_frame (s : State) :
    (State.beatStep4 s).pending = s.pending := by
  simp [State.beatStep4]

@[simp] theorem State.beatStep4_wf_mem (s : State) (h : Mem.wf s.mem = true) :
    Mem.wf (State.beatStep4 s).mem = true := by
  simp (maxDischargeDepth := 40) [State.beatStep4, h]

@[simp] theorem State.beatStep4_wf_flash (s : State) (h : Flash.wf s.nand.flash = true) :
    Flash.wf (State.beatStep4 s).nand.flash = true := by
  simp (maxDischargeDepth := 40) [State.beatStep4, h]

@[simp] theorem State.beatWork_frame (s : State) (b : BeatInputs) :
    (State.beatWork s b).pending = s.pending := by
  simp [State.beatWork]

@[simp] theorem State.beatWork_wf_mem (s : State) (b : BeatInputs) (h : Mem.wf s.mem = true) :
    Mem.wf (State.beatWork s b).mem = true := by
  unfold State.beatWork; (try dsimp only); repeat' split
  all_goals simp (maxDischargeDepth := 40) [h]

@[simp] theorem State.beatWork_wf_flash (s : State) (b : BeatInputs) (h : Flash.wf s.nand.flash = true) :
    Flash.wf (State.beatWork s b).nand.flash = true := by
  unfold State.beatWork; (try dsimp only); repeat' split
  all_goals simp (maxDischargeDepth := 40) [h]

@[simp] theorem State.beatCheck_frame (s : State) (b : BeatInputs) :
    (State.beatCheck s b).pending = s.pending ∧ (State.beatCheck s b).ctl.mode = s.ctl.mode ∧ (State.beatCheck s b).mem = s.mem ∧ (State.beatCheck s b).nand.flash = s.nand.flash := by
  refine ⟨?_, ?_, ?_, ?_⟩ <;> (unfold State.beatCheck; (try dsimp only); repeat' split) <;> simp

theorem execBeat_frame (b : BeatInputs) (s : State) (t : State)
    (h : execBeat b s = .next t) : t.pending = s.pending := by
  unfold execBeat at h; cases h; simp

theorem execBeat_wf_mem (b : BeatInputs) (s : State) (t : State)
    (h : execBeat b s = .next t) (hm : Mem.wf s.mem = true) : Mem.wf t.mem = true := by
  unfold execBeat at h; cases h; (try dsimp only); repeat' split
  all_goals simp (maxDischargeDepth := 40) [hm]

theorem execBeat_wf_flash (b : BeatInputs) (s : State) (t : State)
    (h : execBeat b s = .next t) (hm : Flash.wf s.nand.flash = true) : Flash.wf t.nand.flash = true := by
  unfold execBeat at h; cases h; (try dsimp only); repeat' split
  all_goals simp (maxDischargeDepth := 40) [hm]

theorem execEntdaa_frame (address : Nat) (s : State) (t : State)
    (h : execEntdaa address s = .next t) : t.pending = s.pending ∧ t.ctl.mode = s.ctl.mode ∧ t.mem = s.mem ∧ t.nand.flash = s.nand.flash := by
  unfold execEntdaa at h; cases h; simp

theorem execSetdasa_frame (static address : Nat) (s : State) (t : State)
    (h : execSetdasa static address s = .next t) : t.pending = s.pending ∧ t.ctl.mode = s.ctl.mode ∧ t.mem = s.mem ∧ t.nand.flash = s.nand.flash := by
  unfold execSetdasa at h; cases h; simp

end Sys2Proof.Machine
end

