-- ==== Sys2Proof/Laws/Reports.lean ====
section
/-! SUPPORT. Everything a report can do: each operation that reports leaves the state the same but for reports. -/

namespace Sys2Proof.Machine

theorem Link.SameButReports.refl (a : Link) : Link.SameButReports a a := ⟨rfl, .inl rfl, fun _ => rfl⟩

/-- A link that is up is up after reports. -/
theorem Link.up_of_reports {a b : Link} (h : b.state = a.state ∨ (a.state = .l1 ∧ b.state = .l0)) (hu : a.up = true) :
    b.up = true := by
  rcases h with h | ⟨_, h⟩
  · simpa [Link.up, h] using hu
  · simp [Link.up, h]

theorem Link.SameButReports.trans {a b c : Link} (h : Link.SameButReports a b) (k : Link.SameButReports b c) :
    Link.SameButReports a c := by
  obtain ⟨h1, h2, h3'⟩ := h
  obtain ⟨k1, k2, k3'⟩ := k
  refine ⟨?_, ?_, fun hu => (k3' (Link.up_of_reports h2 hu)).trans (h3' hu)⟩
  · rw [k1, h1]
  · rcases h2 with h2 | ⟨h2, h3⟩ <;> rcases k2 with k2 | ⟨k2, k3⟩
    · exact .inl (k2.trans h2)
    · exact .inr ⟨h2 ▸ k2, k3⟩
    · exact .inr ⟨h2, k2.trans h3⟩
    · rw [h3] at k2; cases k2

theorem WakeOnly.refl (s : State) : WakeOnly s s := ⟨rfl, rfl, fun _ => ⟨rfl, rfl, rfl⟩⟩

/-- A state whose bursts, trickle period and periods are as they were. -/
theorem WakeOnly.of_eq {s t : State} (h : t.sched = s.sched) (h1 : t.ctl.tricklePeriod = s.ctl.tricklePeriod)
    (h2 : t.ctl.periods = s.ctl.periods) : WakeOnly s t := ⟨by rw [h], by rw [h], fun _ => ⟨h, h1, h2⟩⟩

theorem EntriesKept.refl (s : State) : EntriesKept s s := fun _ _ _ => rfl

theorem SameButReports.mode {s t : State} (h : SameButReports s t) : t.ctl.mode = s.ctl.mode := by rw [h.2.1]

theorem SameButReports.refl (s : State) : SameButReports s s :=
  ⟨rfl, rfl, .refl s, .refl s, fun _ => .refl _, [], by simp⟩

theorem SameButReports.trans {s t u : State} (h : SameButReports s t) (k : SameButReports t u) : SameButReports s u := by
  have hm := h.mode
  obtain ⟨h1, h2, ⟨w1, w2, w3⟩, h3, h4, os, h5⟩ := h
  obtain ⟨k1, k2, ⟨v1, v2, v3⟩, k3, k4, ps, k5⟩ := k
  refine ⟨?_, ?_, ⟨?_, v2.trans w2, fun hn => ?_⟩, fun x hx hd => ?_, fun i => (h4 i).trans (k4 i), os ++ ps, ?_⟩
  · rw [k1, h1]
  · rw [k2, h2]
  · rw [v1, w1]
  · obtain ⟨a, b, c⟩ := w3 hn
    obtain ⟨a', b', c'⟩ := v3 (by rw [hm]; exact hn)
    exact ⟨a'.trans a, b'.trans b, c'.trans c⟩
  · exact (k3 x hx (by rw [hm]; exact hd)).trans (h3 x hx hd)
  · rw [k5, h5, List.append_assoc]

/-- Reports that touch neither the bounds of bursts nor an entry but their own. -/
theorem SameButReports.plain {s t : State}
    (h : t = { s with out := t.out, free := t.free, ctl := t.ctl, regs := t.regs, links := t.links, faults := t.faults,
                      chest := t.chest })
    (hc : t.ctl = { s.ctl with
      waking := t.ctl.waking, wakeBeat := t.ctl.wakeBeat, workersHalted := t.ctl.workersHalted,
      consents := t.ctl.consents })
    (hr : ∀ k, k ∉ reportEntries → t.regs.find? k = s.regs.find? k)
    (hl : ∀ i, Link.SameButReports (s.link i) (t.link i)) (ho : ∃ os, t.out = s.out ++ os) : SameButReports s t :=
  ⟨by rw [h], by rw [hc], .of_eq (by rw [h]) (by rw [hc]) (by rw [hc]), fun k hk _ => hr k hk, hl, ho⟩

theorem SameButReports.emit (s : State) (o : Output) : SameButReports s (s.emit o) :=
  .plain rfl rfl (fun _ _ => rfl) (fun _ => .refl _) ⟨[o], rfl⟩

theorem SameButReports.emits (s : State) (os : List Output) : SameButReports s (s.emits os) :=
  .plain rfl rfl (fun _ _ => rfl) (fun _ => .refl _) ⟨os, rfl⟩

/-- A link changed only as reports change it. -/
theorem SameButReports.setLink (s : State) (i : Nat) (l : Link) (h : Link.SameButReports (s.link i) l) :
    SameButReports s (s.setLink i l) := by
  refine .plain rfl rfl (fun _ _ => rfl) (fun j => ?_) ⟨[], by simp⟩
  by_cases hj : j = i
  · subst hj; simpa [State.link, State.setLink] using h
  · simpa [State.link, State.setLink, hj] using Link.SameButReports.refl _

/-- An entry that only reports write. -/
theorem SameButReports.setReg (s : State) (idx sub v : Nat) (h : key idx sub ∈ reportEntries) :
    SameButReports s (s.setReg idx sub v) := by
  refine .plain rfl rfl (fun k hk => ?_) (fun _ => .refl _) ⟨[], by simp⟩
  have : k ≠ key idx sub := fun e => hk (e ▸ h)
  simp [this]

theorem SameButReports.addReg (s : State) (idx sub n : Nat) (h : key idx sub ∈ reportEntries) :
    SameButReports s (s.addReg idx sub n) := by
  refine .plain rfl rfl (fun k hk => ?_) (fun _ => .refl _) ⟨[], by simp⟩
  have : k ≠ key idx sub := fun e => hk (e ▸ h)
  simp [State.addReg, this]

theorem SameButReports.chest (s : State) (c : Chest) : SameButReports s { s with chest := c } :=
  .plain rfl rfl (fun _ _ => rfl) (fun _ => .refl _) ⟨[], by simp⟩

theorem SameButReports.faults (s : State) (f : Map FaultGroup) : SameButReports s { s with faults := f } :=
  .plain rfl rfl (fun _ _ => rfl) (fun _ => .refl _) ⟨[], by simp⟩

theorem SameButReports.drawn (s : State) : SameButReports s s.drawn :=
  .plain rfl rfl (fun _ _ => rfl) (fun _ => .refl _) ⟨[], by simp [State.drawn]⟩

theorem SameButReports.foldl {α : Type} (g : State → α → State) (h : ∀ s a, SameButReports s (g s a)) (l : List α)
    (s : State) : SameButReports s (l.foldl g s) := by
  induction l generalizing s with
  | nil => exact .refl _
  | cons a l ih => exact (h s a).trans (ih _)

/-! ### Messages to a host -/

theorem SameButReports.pend (s : State) (i : Nat) (m : Map Pend) :
    SameButReports s (s.setLink i { s.link i with pend := m }) := .setLink s i _ ⟨rfl, .inl rfl, fun _ => rfl⟩

theorem SameButReports.logs (s : State) (i : Nat) (m : Map (List ChestRec)) :
    SameButReports s (s.setLink i { s.link i with logs := m }) := .setLink s i _ ⟨rfl, .inl rfl, fun _ => rfl⟩

theorem State.sendPend_reports (s : State) (i v : Nat) : SameButReports s (s.sendPend i v) := by
  unfold State.sendPend
  split
  · exact .refl _
  · split
    · exact (SameButReports.pend s i ((s.link i).pend.del v)).trans (.emit _ _)
    · exact .refl _

theorem State.signal_reports (s : State) (i src : Nat) : SameButReports s (s.signal i src) := by
  unfold State.signal
  dsimp only
  split
  · exact .refl _
  · split
    · exact (SameButReports.pend s i _).trans (State.sendPend_reports _ _ _)
    · exact SameButReports.pend s i _

theorem State.mail_reports (s : State) (i op : Nat) (rc : MailRc) (p : List Nat) :
    SameButReports s (s.mail i op rc p) := by
  unfold State.mail
  split
  · exact (SameButReports.emit _ _).trans (State.signal_reports _ _ _)
  · rename_i h
    exact (SameButReports.setLink s i { s.link i with mailDue := some (.mailbox i op rc p) }
      ⟨rfl, .inl rfl, fun hu => absurd hu h⟩).trans (State.signal_reports _ _ _)

theorem State.signalOn_reports (s : State) (ls : List Nat) (src : Nat) : SameButReports s (s.signalOn ls src) :=
  SameButReports.foldl _ (fun _ _ => State.signal_reports _ _ _) _ _

/-! ### Records -/

theorem State.occur_reports (s : State) (code : Nat) (live inj : Bool) (d : Nat) :
    SameButReports s (s.occur code live inj d) := SameButReports.faults _ _

theorem State.condClear_reports (s : State) (code : Nat) : SameButReports s (s.condClear code) := SameButReports.faults _ _

theorem State.logOn_reports (r : ChestRec) (s : State) (i : Nat) : SameButReports s (s.logOn r i) := by
  unfold State.logOn
  dsimp only
  split
  · refine SameButReports.trans ?_ (.emit _ _)
    split
    · exact (SameButReports.logs s i _).trans (State.signal_reports _ _ _)
    · exact SameButReports.logs s i _
  · exact SameButReports.setLink s i _ ⟨rfl, .inl rfl, fun _ => rfl⟩

theorem State.deliver_reports (s : State) (r : ChestRec) (all : Bool) : SameButReports s (s.deliver r all) := by
  have h1 : ∀ l : List Nat, SameButReports s (l.foldl (State.logOn r) s) := fun l =>
    SameButReports.foldl _ (fun _ _ => State.logOn_reports _ _ _) _ _
  unfold State.deliver
  dsimp only
  split <;> split <;>
    first | exact (h1 _).trans (.emit _ _) | exact h1 _ | exact .emit _ _ | exact .refl _

theorem State.record_reports (s : State) (code : Nat) (lead : List Nat) (inj : Bool) :
    SameButReports s (s.record code lead inj) := by
  unfold State.record
  dsimp only
  split
  · exact .chest _ _
  · split
    · split
      · exact (SameButReports.chest _ _).trans (State.deliver_reports _ _ _)
      · exact (SameButReports.chest _ _).trans (SameButReports.addReg _ _ _ _ (by decide))
    · split
      · exact ((SameButReports.chest _ _).trans (SameButReports.addReg _ _ _ _ (by decide))).trans
          (State.occur_reports _ _ _ _ _)
      · exact (SameButReports.chest _ _).trans (State.deliver_reports _ _ _)

theorem State.note_reports (s : State) (code : Nat) (vs : List Nat) : SameButReports s (s.note code vs) :=
  State.record_reports _ _ _ _

theorem State.fault_reports (s : State) (code d : Nat) (live : Bool) (more : List Nat) :
    SameButReports s (s.fault code d live more) := (State.occur_reports _ _ _ _ _).trans (State.record_reports _ _ _ _)

theorem State.faultOpen_reports (s : State) (code : Nat) (live : Bool) : SameButReports s (s.faultOpen code live) :=
  (SameButReports.drawn _).trans (State.fault_reports _ _ _ _ _)

theorem State.condition_reports (s : State) (code : Nat) (b : Bool) (d : Nat) (more : List Nat) :
    SameButReports s (s.condition code b d more) := by
  unfold State.condition
  split
  · split
    · exact .refl _
    · exact State.fault_reports _ _ _ _ _
  · exact State.condClear_reports _ _

theorem State.conditionOpen_reports (s : State) (code : Nat) (b : Bool) : SameButReports s (s.conditionOpen code b) :=
  (SameButReports.drawn _).trans (State.condition_reports _ _ _ _ _)

/-! ### Wake sources -/

theorem SameButReports.ctl (s : State) (c : Control)
    (h : c = { s.ctl with
      waking := c.waking, wakeBeat := c.wakeBeat, workersHalted := c.workersHalted, consents := c.consents }) :
    SameButReports s { s with ctl := c } :=
  .plain rfl h (fun _ _ => rfl) (fun _ => .refl _) ⟨[], by simp⟩

theorem State.withdraw_reports (s : State) (m : BitVec 4) : SameButReports s (s.withdraw m) := by
  unfold State.withdraw
  split
  · exact .refl _
  · exact (SameButReports.ctl s _ rfl).trans (State.note_reports _ _ _)

/-- Links that leave L1. -/
theorem SameButReports.wakeLinks (ws : List Nat) (s : State) (h : ∀ i ∈ ws, (s.link i).state = .l1) :
    SameButReports s { s with links := ws.foldl (fun m i => m.put i { m.get i Link.reset with state := .l0 }) s.links } := by
  induction ws generalizing s with
  | nil => exact .refl _
  | cons i ws ih =>
    have hi := h i (List.mem_cons_self ..)
    have h1 : SameButReports s (s.setLink i { s.link i with state := .l0 }) := .setLink s i _ ⟨rfl, .inr ⟨hi, rfl⟩, fun _ => rfl⟩
    by_cases hm : i ∈ ws
    · -- the link is named again: it is in L0 already, and stays
      have key : ∀ (l : List Nat) (u : State), SameButReports s u → (∀ j ∈ l, (s.link j).state = .l1) →
          SameButReports s { u with links := l.foldl (fun m i => m.put i { m.get i Link.reset with state := .l0 }) u.links } := by
        intro l
        induction l with
        | nil => intro u hu _; exact hu
        | cons j l jh =>
          intro u hu hl
          have hj := hl j (List.mem_cons_self ..)
          have hu' : SameButReports s (u.setLink j { u.link j with state := .l0 }) := by
            obtain ⟨a1, a2, a3, a3', a4, os, a5⟩ := hu
            refine ⟨?_, a2, a3, a3', fun k => ?_, os, a5⟩
            · show { u with links := _ } = _
              conv_lhs => rw [a1]
              rfl
            · by_cases hk : k = j
              · subst hk
                have b := (a4 k).1
                refine ⟨?_, .inr ⟨hj, by simp [State.link, State.setLink]⟩, fun hu => by
                  simpa [State.link, State.setLink] using (a4 k).2.2 hu⟩
                simp only [State.link, State.setLink, Map.get_put_self] at b ⊢
                conv_lhs => rw [b]
              · simpa [State.link, State.setLink, hk] using a4 k
          exact jh _ hu' (fun k hk => hl k (List.mem_cons_of_mem _ hk))
      exact key (i :: ws) s (.refl _) h
    · refine h1.trans (ih _ (fun j hj => ?_))
      have : j ≠ i := fun e => hm (e ▸ hj)
      simpa [State.link, State.setLink, this] using h j (List.mem_cons_of_mem _ hj)

theorem State.endPeriod_reports (s : State) (h : s.ctl.mode = .drowse) : SameButReports s s.endPeriod := by
  unfold State.endPeriod
  split
  · exact ⟨rfl, rfl, ⟨rfl, rfl, fun hn => absurd h hn⟩, .refl _, fun _ => .refl _, [], by simp⟩
  · exact .refl _

/-- A training window moves bounds and its own counter. -/
theorem State.window_reports (s : State) (c n : Nat) (hc : c < 13) (h : s.ctl.mode = .drowse) :
    SameButReports s (s.window c n) := by
  refine ⟨rfl, rfl, ⟨rfl, ?_, fun hn => absurd h hn⟩, fun k hk hw => ?_, fun _ => .refl _, [], by
    simp [State.window, State.extendBound, State.drawn]⟩
  · simp only [State.window, State.extendBound, State.drawn, State.addReg_sched, List.map_map]
    refine List.map_congr_left fun b _ => ?_
    simp only [Function.comp]
    split <;> rfl
  · have hn : k ≠ key (0x3120 + c) 6 := fun e => hw h (e ▸ List.mem_map.mpr ⟨c, by simpa using hc, rfl⟩)
    simp [State.window, State.extendBound, State.drawn, State.addReg, hn]

theorem State.checkDqs_reports (s : State) (h : s.ctl.mode = .drowse) : SameButReports s s.checkDqs := by
  unfold State.checkDqs
  have key : ∀ (l : List Nat) (u : State), (∀ c ∈ l, c < 13) → u.ctl.mode = .drowse →
      SameButReports u (l.foldl (fun t c => t.window c 2000) u) := by
    intro l
    induction l with
    | nil => exact fun u _ _ => .refl u
    | cons c l ih =>
      intro u hl hu
      have h1 := State.window_reports u c 2000 (hl c (List.mem_cons_self ..)) hu
      exact h1.trans (ih _ (fun d hd => hl d (List.mem_cons_of_mem _ hd)) (h1.mode.trans hu))
  exact key _ s (fun c hc => by simpa using (List.mem_filter.mp hc).1) h

theorem State.window_links (s : State) (c n : Nat) : (s.window c n).links = s.links := rfl

theorem State.checkDqs_links (s : State) : s.checkDqs.links = s.links := by
  unfold State.checkDqs
  generalize (List.range 13).filter _ = l
  induction l generalizing s with
  | nil => rfl
  | cons c l ih => exact (ih (s.window c 2000)).trans rfl

theorem State.endPeriod_links (s : State) : s.endPeriod.links = s.links := by unfold State.endPeriod; split <;> rfl

theorem State.beginWake_reports (s : State) (on : Option Nat) (h : s.ctl.mode = .drowse) :
    SameButReports s (s.beginWake on) := by
  unfold State.beginWake
  dsimp only
  split
  · exact .refl _
  · have h0 := State.endPeriod_reports s h
    have h1 := h0.trans (State.checkDqs_reports _ (h0.mode.trans h))
    have h2 := SameButReports.wakeLinks (s.wakeLinks on) s.endPeriod.checkDqs (fun i hi => by
      have hi := (List.mem_filter.mp hi).2
      simp only [Bool.and_eq_true, decide_eq_true_eq] at hi
      simpa [State.link, State.checkDqs_links, State.endPeriod_links] using hi.1)
    refine (h1.trans h2).trans (.plain rfl rfl (fun _ _ => rfl) (fun _ => .refl _)
      ⟨(s.wakeLinks on).map Output.wakeLink, rfl⟩)

theorem State.fire_reports (s : State) (src : Nat) (on : Option Nat) : SameButReports s (s.fire src on) := by
  have h := SameButReports.setReg s 0x1113 0 (2 ^ src) (by decide)
  unfold State.fire
  dsimp only
  split
  · exact h
  · split
    · rename_i hm; exact h.trans (State.beginWake_reports _ _ hm)
    · split
      · exact h
      · exact h.trans (State.withdraw_reports _ _)
    · exact h

theorem State.ioArrives_reports (s : State) (i : Nat) : SameButReports s (s.ioArrives i) := by
  unfold State.ioArrives
  split
  · exact .refl _
  · exact State.fire_reports _ _ _

theorem State.memArrives_reports (s : State) (i : Nat) : SameButReports s (s.memArrives i) := by
  unfold State.memArrives
  dsimp only
  split
  · exact (State.fire_reports _ _ _).trans (State.withdraw_reports _ _)
  · exact State.fire_reports _ _ _

end Sys2Proof.Machine
end

