-- ==== Sys2Proof/Machine/Images.lean ====
section
/-! DEFINITION. The bytes of the structures that the model keeps as typed records (R3): journal entries, claim records, decision
table entries, shard headers, leaf map and save delta records, seal records, cells and frames. Every field is stored least
significant byte first, so each image is a number whose byte `i` is byte `i` of the structure. -/

namespace Sys2Proof.Machine

/-- A map of 64 units, bit `n` set for unit `first + n` where a test holds. -/
def unitMap (first : Nat) (p : Nat → Bool) : Nat :=
  ((List.range 64).map fun n => if p (first + n) then 2 ^ n else 0).foldl (· + ·) 0

/-! ### The delta log and groups (chapters 7 and 8) -/

/-- A delta record, 8 B (Table 7.5). -/
def DeltaRec.image (r : DeltaRec) : Nat := r.leaf % 2 ^ 26 + 2 ^ 26 * r.state.code + 2 ^ 32 * (r.seq % 2 ^ 32)

/-- A journal entry, 272 B (Table 8.10). -/
def JEntry.image (e : JEntry) : Nat :=
  at' 0 (e.line % 2 ^ 34 + 2 ^ 34 * (e.group % 2 ^ 18) + 2 ^ 52 * e.poisoned.toNat) + at' 8 (e.seq % 2 ^ 64) +
    at' 16 (ofBytes ((List.range 256).map fun i => (Mem.byte e.pre (e.line * 256 + i)).toNat))

/-- The claim record of a page, 16 B (Table 8.6). -/
def Claim.image (c : Claim) (page : Nat) : Nat :=
  at' 0 (page % 2 ^ 30 + 2 ^ 30) + at' 4 (c.group % 2 ^ 18) + at' 8 c.lines.toNat

/-- A decision table entry, 256 B (Table 8.12); the roster is 16 IDs of 2 B, unused ones 0. -/
def Decision.image (d : Decision) : Nat :=
  at' 0 (d.txn % 2 ^ 64) + at' 8 (d.state % 256) + at' 9 (d.roster.length % 256) + at' 10 (d.acked % 2 ^ 16) +
    at' 12 (d.slot % 2 ^ 18) +
    (((List.range 16).zip (d.roster.take 16)).map fun e => at' (16 + 2 * e.1) (e.2 % 2 ^ 10)).foldl (· + ·) 0 +
    at' 48 d.begunBeat.toNat + at' 56 d.decidedBeat.toNat + at' 64 (d.sentBeat % 2 ^ 64) + at' 72 d.presumed.toNat

/-- Next journal sequence, next transaction counter and format version: the journal header, 4 KiB (Table 8.8). -/
def journalHeader (nextJseq txnCounter : Nat) : Nat :=
  at' 0 (nextJseq % 2 ^ 64) + at' 8 (txnCounter % 2 ^ 54) + at' 16 (Config.journalFormat % 2 ^ 32)

/-- The group shadow, 32 B per group ID with RUNNING 0 (Table 8.8). -/
def groupShadow (slots : Map Slot) (claims : Map Claim) : Nat :=
  column 0 32 ((List.range 262144).map fun g =>
    ({ slots.get g Slot.reset with running := false }).image (claims.filter fun (c : Nat × Claim) => c.2.group == g).length)

/-- The n-th chunk of a group's journal entries, 4 KiB (Table 8.9): 15 entries, and the number of the chunk before it. -/
def State.journalChunk (s : State) (g n : Nat) : Nat :=
  let es := ((s.entriesOf g).drop (15 * n)).take 15
  at' 0 (g % 2 ^ 18) + at' 4 es.length +
    at' 8 (if n = 0 then 0xFFFFFFFF else Config.journalChunk g (n - 1) % 2 ^ 32) + column 16 272 (es.map JEntry.image)

/-! ### Stripes, shards and codewords (chapter 10) -/

/-- Product with x over GF(2^8), polynomial 0x11D (R245). -/
def gfDouble (a : Nat) : Nat := if a < 128 then 2 * a else (2 * a) ^^^ 0x11D

/-- Product over GF(2^8): the low `n` bits of the second factor count. -/
def gfMul : Nat → Nat → Nat → Nat
  | 0, _, _ => 0
  | n + 1, a, b => (if b % 2 = 1 then a else 0) ^^^ gfMul n (gfDouble a) (b / 2)

/-- g^j with g = 2. -/
def gfPow (j : Nat) : Nat := (List.range j).foldl (fun a _ => gfDouble a) 1

/-- The inverse over GF(2^8): the 254th power. -/
def gfInv (a : Nat) : Nat := (List.range 254).foldl (fun r _ => gfMul 8 r a) 1

/-- What the data bytes at one offset contribute to P0 and P1, over the shards of a list (R245). -/
def parityOf (d : Nat → Nat) (js : List Nat) : Nat × Nat :=
  js.foldl (fun p j => (p.1 ^^^ d j, p.2 ^^^ gfMul 8 (gfPow j) (d j))) (0, 0)

/-- One byte of the 18 shards of a stripe, with those of two missing shards recovered from the other 16 (R245). -/
def recoverByte (d : Nat → Nat) (missing : List Nat) (pos : Nat) : Nat :=
  let js := (List.range 16).filter fun j => !missing.contains j
  let p := parityOf d js
  let a := p.1 ^^^ d 16
  let b := p.2 ^^^ d 17
  let data : Nat → Nat := fun j =>
    match missing.filter (· < 16) with
    | [i] => if j ≠ i then d j else if missing.contains 16 then gfMul 8 b (gfInv (gfPow i)) else a
    | [i, k] =>
      let x := gfMul 8 (b ^^^ gfMul 8 (gfPow k) a) (gfInv (gfPow i ^^^ gfPow k))
      if j = i then x else if j = k then a ^^^ x else d j
    | _ => d j
  let q := parityOf data (List.range 16)
  if pos < 16 then data pos else if pos = 16 then q.1 else q.2

/-- A shard of 4,096 B from a byte of it at each offset. -/
def shardOf (byte : Nat → Nat) : Nat := ofBytes ((List.range 4096).map byte)

/-- The 18 shards of a stripe with its data shards: P0 and P1 stand at positions 16 and 17 (R245). -/
def stripeShard (data : Nat → Nat) (pos : Nat) : Nat :=
  if pos < 16 then data pos
  else shardOf fun k =>
    let p := parityOf (fun j => data j / 256 ^ k % 256) (List.range 16)
    if pos = 16 then p.1 else p.2

/-- Data shard `j` of a stripe as it lies in flash: its plaintext under AES-256-XTS with the tweak of its place (R246). -/
def Cipher.shard (c : Cipher) (leaf j : Nat) : Nat :=
  Config.aesXts c.crypt.key (c.crypt.tweak + j)
    (shardOf fun k => (Mem.byte c.plain (leaf * 65536 + 4096 * j + k)).toNat) % 256 ^ 4096

/-- A shard of a leaf's stripe: parity is over ciphertext, so a relocated stripe keeps it (R246). -/
def Stored.shard (x : Stored) (pos : Nat) : Nat := stripeShard (x.cipher.shard x.leaf) pos

/-- A shard of a metadata block of 64 KiB under the key of a save or checkpoint (R245, R246). -/
def metaShard (key block content pos : Nat) : Nat :=
  stripeShard (fun j => Config.aesXts key (metaTweak block j) (content / 256 ^ (4096 * j) % 256 ^ 4096) % 256 ^ 4096) pos

/-- The header of a shard, 64 B with its CRC (Table 10.2). -/
def headerImage (leaf seq pos origin keyId seg row slot epoch poison injected external : Nat) : Nat :=
  let body := at' 0 (leaf % 2 ^ 26) + at' 4 (seq % 2 ^ 64) + at' 12 (pos % 32) + at' 13 (origin % 8) + at' 14 (keyId % 2 ^ 16) +
    at' 16 (seg % 2 ^ 20) + at' 20 (row % 2 ^ 12 + 2 ^ 12 * (slot % 16)) + at' 24 poison + at' 32 (epoch % 2 ^ 32) +
    at' 36 injected + at' 44 external
  body + at' 60 (crc32c (bytesOf 60 body))

/-- The header of the shard at position `pos` of a leaf's stripe. Parity shards carry no poison maps. -/
def Stored.header (x : Stored) (seg row slot pos : Nat) : Nat :=
  let first := x.leaf * 1024 + pos * 64
  let has := fun (p : PoisonSource → Bool) (u : Nat) =>
    decide (pos < 16) && (match x.poison.find? u with | some k => p k | none => false)
  headerImage x.leaf x.seq pos x.origin x.keyId seg row slot x.epoch (unitMap first (has fun _ => true))
    (unitMap first (has fun k => k == .injected)) (unitMap first (has fun k => k == .external))

/-- The header of a shard of a filler stripe or of a metadata block (R243, R245). -/
def State.plainHeader (s : State) (block seq pos origin seg row slot : Nat) : Nat :=
  headerImage block seq pos origin (s.reg 0x5050 0) seg row slot 0 0 0 0

/-- The channel of the shard at position `pos` of a row (R247). -/
def shardChannel (pos row : Nat) : Nat := (pos + 18 - row % 18) % 18

/-- A codeword, 4,608 B: content, header and parity (R243). -/
def codeword (content header : Nat) : Nat :=
  laid [(4096, content), (64, header), (448, Config.ldpc (laid [(4096, content), (64, header)]))]

/-- A page: four codewords over the main area of 16,384 B and 2,048 B of the spare area, and 0xFF in what spare is left (R243). -/
def pageImage (spareBytes : Nat) (word : Nat → Nat) : Nat :=
  laid [(4608, word 0), (4608, word 1), (4608, word 2), (4608, word 3), (spareBytes - 2048, 256 ^ (spareBytes - 2048) - 1)]

/-- The codeword of a leaf's stripe on a channel. -/
def Stored.word (x : Stored) (chan seg row slot : Nat) : Nat :=
  let pos := (chan + row) % 18
  codeword (x.shard pos) (x.header seg row slot pos)

/-- The codeword of a filler stripe on a channel: 0x00, with the valid parity of zeros (R245). -/
def State.fillerWord (s : State) (seq chan seg row slot : Nat) : Nat :=
  codeword 0 (s.plainHeader Stripe.filler.leaf seq ((chan + row) % 18) Stripe.filler.origin seg row slot)

/-- The page of a plane of a program unit: slot 4p + q is codeword q of plane p (R243). -/
def planePage (spareBytes plane : Nat) (word : Nat → Nat) : Nat := pageImage spareBytes fun q => word (4 * plane + q)

/-! ### Saves (chapter 11) -/

/-- The D-class entries: index, sub-index and size, ascending. -/
def dEntries : List (Nat × Nat × Nat) :=
  sortBy (fun e => 256 * e.1 + e.2.1) ((allRows.filter fun r => decide (r.keep = .d)).flatMap fun r =>
    (List.range r.n).flatMap fun a => (List.range r.m).map fun b => (r.lo + a, r.sub + b, r.size))

/-- The D record of a save or checkpoint: every D-class entry as a request item (Tables 11.3, 14.5): its size and its bytes. -/
def State.dRecord (s : State) (values : Map Nat) : List (Nat × Nat) :=
  dEntries.map fun e => requestItem
    { index := e.1, sub := e.2.1, len := e.2.2, value := values.get (key e.1 e.2.1) (defaultValue s 0 e.1 e.2.1) }

/-- The save head, 64 KiB (Table 11.3). -/
def State.headImage (s : State) (i : SaveImage) : Nat :=
  let d := s.dRecord i.dValues
  let n := (d.map (·.1)).foldl (· + ·) 0
  at' 0 (i.epoch % 2 ^ 32) + at' 4 (i.trigger % 256) + at' 5 (i.mode % 256) + at' 8 (i.headSeq % 2 ^ 64) +
    at' 16 (i.residue.length % 2 ^ 32) + at' 20 (i.carriedLost.length % 2 ^ 32) + at' 24 (setBytes s.layout.leaves i.claims.length (i.journal.length + i.undo.length) % 2 ^ 64) +
    at' 32 i.beat.toNat + at' 40 (i.nextJseq % 2 ^ 64) + at' 48 (i.txnCounter % 2 ^ 64) + at' 56 (i.keyId % 2 ^ 16) +
    at' 64 (i.dGeneration % 2 ^ 64) + at' 72 n + at' 76 (laid d)

/-- The residue map: a bit for each leaf of the residue set, and for each that was LOST when it was fixed (R26). -/
def SaveImage.residueMap (i : SaveImage) : Nat := ((i.residue ++ i.carriedLost).map (2 ^ ·)).foldl (· + ·) 0

/-- The group set in the order of Table 11.3, its parts packed one after another (R272). The claim records follow one another by page
(DESIGN CHOICE, log entry 193: the spec gives their order nowhere). -/
def State.groupSet (s : State) (i : SaveImage) : Nat :=
  let entries := fun (es : List JEntry) => (sortBy JEntry.seq es).map fun e => (272, e.image)
  laid ([(65536, s.headImage i), (ceilDiv s.layout.leaves 8, i.residueMap),
      (5242880, column 0 80 ((List.range 65536).map fun k => match i.decisions.find? k with
        | some d => d.image % 256 ^ 80
        | none => 0)),
      (8388608, groupShadow i.slots i.claims)] ++
    (i.claims.map fun c => (16, c.2.image c.1)) ++ entries i.journal ++ entries i.undo)

/-- A shard of the group set: metadata blocks from 0x200_0000 upward, zeros behind its end (R272). -/
def State.groupShard (s : State) (i : SaveImage) (n pos : Nat) : Nat :=
  metaShard i.crypt.key (groupSetBlock + n) (s.groupSet i / 256 ^ (65536 * n) % 256 ^ 65536) pos

/-- A seal record, 4,096 B with its CRC (Table 11.4). -/
def Seal.image (r : Seal) : Nat :=
  let body := at' 0 0x5EA10001 + at' 4 (r.epoch % 2 ^ 32) + at' 8 (r.trigger % 256) + at' 9 (if r.complete then 1 else 2) +
    at' 12 (r.energyMj % 2 ^ 32) + at' 16 (r.headSeq % 2 ^ 64) + at' 24 (r.lastSeq % 2 ^ 64) + at' 32 (r.residue % 2 ^ 64) +
    at' 40 (r.saved % 2 ^ 64) + at' 48 (r.newlyLost % 2 ^ 64) + at' 56 (r.poisonedLines % 2 ^ 64) + at' 64 (r.bytes % 2 ^ 64) +
    at' 72 (r.startNs % 2 ^ 64) + at' 80 (r.sealNs % 2 ^ 64) + at' 88 (Config.deltaBlock r.epoch % 2 ^ 64) +
    at' 96 (r.deltas % 2 ^ 64) + at' 104 (r.lowestOrder % 256) + at' 112 (r.chestSeq % 2 ^ 64)
  body + at' 4092 (crc32c (bytesOf 4092 body))

/-! ### Service-port frames (chapter 18) -/

/-- A service-port frame before stuffing: type, sequence, length, payload and CRC (Table 18.8). -/
def svcFrame (type seq : Nat) (payload : List Nat) : List Nat :=
  let body := [type % 256, seq % 256, payload.length % 256, payload.length / 256] ++ payload
  body ++ bytesOf 4 (crc32c body)

/-- A byte between the flags: 0x7E and 0x7D are stuffed (R435). -/
def svcStuff (b : Nat) : List Nat := if b = 0x7E ∨ b = 0x7D then [0x7D, b ^^^ 0x20] else [b]

/-- A frame on the line (R435). -/
def svcLine (type seq : Nat) (payload : List Nat) : List Nat := [0x7E] ++ (svcFrame type seq payload).flatMap svcStuff ++ [0x7E]

/-! ### Cells and frames (chapter 9) -/

/-- Type of a cell (Table 9.7). -/
def cellType : CellBody → Nat
  | .decide .. => 1 | .ack _ => 2 | .query _ => 3 | .answer _ => 4 | .tunnelReq .. => 5 | .tunnelRsp .. => 6 | .wake _ => 7
  | .timeSync .. => 8

/-- The payload of a cell, by its byte offsets in the cell (Table 9.7). -/
def cellPayload : CellBody → Nat
  | .decide targets txn commit =>
    column 12 2 ((targets.take 16).map (· % 2 ^ 10)) + at' 44 (txn % 2 ^ 64) + at' 52 commit.toNat
  | .ack txns => at' 12 txns.length + column 20 8 ((txns.take 5).map (· % 2 ^ 64))
  | .query txns => at' 12 txns.length + column 20 8 ((txns.take 5).map (· % 2 ^ 64))
  | .answer items => at' 12 items.length +
      column 16 9 ((items.take 4).map fun i => i.1 % 2 ^ 64 + 2 ^ 64 * (i.2.1.toNat + 2 * i.2.2.toNat))
  | .tunnelReq tag seg count data => at' 12 (tag % 2 ^ 16) + at' 14 (seg % 256) + at' 15 (count % 256) + at' 16 (data % 2 ^ 352)
  | .tunnelRsp tag seg count data => at' 12 (tag % 2 ^ 16) + at' 14 (seg % 256) + at' 15 (count % 256) + at' 16 (data % 2 ^ 352)
  | .wake reason => at' 12 (reason % 256)
  | .timeSync wire wallNs set => at' 12 wire.toNat + at' 16 (s64 wallNs) + at' 24 set.toNat

/-- Bytes 8 and 9 of a cell: the target count with MULTI, or the destination. -/
def cellTarget (c : Cell) : Nat :=
  match c.dest, c.body with
  | some m, _ => m % 2 ^ 10
  | none, .decide targets _ _ => targets.length % 32
  | none, _ => 0

/-- A cell, 64 B with its CRC over bytes 0 to 9 and 12 to 59 (Table 9.6). -/
def cellImage (c : Cell) : Nat :=
  let head := at' 0 (cellType c.body) + at' 1 (c.dest.isNone.toNat + 2 * c.retry.toNat) + at' 2 (c.source % 2 ^ 10) +
    at' 4 (c.seq % 2 ^ 32) + at' 8 (cellTarget c)
  let load := cellPayload c.body
  let crc := crc32c (bytesOf 10 head ++ (bytesOf 60 load).drop 12)
  head + at' 10 (c.taken % 2 ^ 16) + load + at' 60 (if c.crcGood then crc else (crc + 1) % 2 ^ 32)

/-- The header of a frame, 64 B with its CRC (Table 9.4). -/
def frameHeader (f : Frame) : Nat :=
  let body := at' 0 (f.domain % 2 ^ 64) + at' 8 f.wire.toNat + at' 12 (f.generation % 2 ^ 16) + at' 14 (f.master % 2 ^ 10) +
    at' 16 (f.ringB.toNat + 2 * f.takeover.toNat + 4 * f.wrapped.toNat) + at' 17 1 + at' 18 (f.hops % 2 ^ 16) +
    at' 20 (f.pathPs % 2 ^ 32)
  let crc := crc32c (bytesOf 60 body)
  body + at' 60 (if f.crcGood then crc else (crc + 1) % 2 ^ 32)

/-- The 16 KiB of a frame: header, roll call and cell area (Table 9.3). -/
def frameImage (f : Frame) : Nat :=
  frameHeader f + (f.roll.map fun e => at' (0x40 + 4 * e.1) (e.2 % 2 ^ 32)).foldl (· + ·) 0 +
    (f.cells.map fun e => at' (0x1040 + 64 * e.1) (cellImage e.2)).foldl (· + ·) 0

/-- The link check of a 256 B span of a frame: what every member sends after it (R207). -/
def linkCheck (f : Frame) (span : Nat) : Nat :=
  crc32c (bytesOf 256 (frameImage f / 256 ^ (256 * span)))

end Sys2Proof.Machine
end

