-- ==== Sys2Proof/WellFormed.lean ====
section
/-! DEFINITION. Well-formed commands: operands within the widths and forms that the rules give them. The machine gives a
meaning to every command; a command that is not well-formed is one that no sender can form. -/

namespace Sys2Proof

/-- A 64 B unit's address (R50). -/
def aligned (dpa : Nat) : Bool := dpa % 64 == 0

/-- A member ID (R202). -/
def memberId (m : Nat) : Bool := decide (m < 1024)

/-- A transaction ID (R188). -/
def transaction (t : Nat) : Bool := decide (t < 2 ^ 64)

/-- The transactions of one cell, at least one and at most `n` (Table 9.7). -/
def transactions (n : Nat) (ts : List Nat) : Bool := !ts.isEmpty && decide (ts.length ≤ n) && ts.all transaction

/-- A frame sequence of the service port (R436). -/
def sequence (q : Nat) : Bool := decide (q < 256)

/-- Keys of a table rise and lie below a bound. -/
def keyed {α : Type} (bound : Nat) (m : Map α) : Bool := Map.sorted m && m.all fun e => decide (e.1 < bound)

/-- A CXL.mem write. -/
def MemWrite.wf (w : MemWrite) : Bool := aligned w.dpa

/-- A write to a Desk slot: one of 262,144 groups (R175). -/
def DeskArgs.wf (a : DeskArgs) : Bool := decide (a.group < 262144)

/-- What a beat samples: cells 1 to 24, thermistors 0 to 7, strings 0 to 3, one of 16 sensors, steps 1 to 6. -/
def BeatInputs.wf (b : BeatInputs) : Bool :=
  decide (b.tjSensor < 16) && keyed 8 b.thermC && keyed 25 b.cellMv && keyed 4 b.stringMa &&
    b.overrun.all fun k => decide (1 ≤ k) && decide (k ≤ 6)

/-- A link hello. -/
def Hello.wf (h : Hello) : Bool := memberId h.member && decide (h.generation < 65536) && decide (h.domain < 2 ^ 64)

/-- A cell: its source and targets are member IDs, and its transactions fit (Table 9.7). -/
def Cell.wf (c : Cell) : Bool :=
  memberId c.source && decide (c.seq < 2 ^ 32) && c.dest.all memberId && (match c.body with
    | .decide ts txn _ => ts.all memberId && transaction txn
    | .ack ts => transactions 5 ts
    | .query ts => transactions 5 ts
    | .answer items => transactions 4 (items.map (·.1))
    | .tunnelReq tag seg count data => decide (tag < 65536) && decide (seg < count) && decide (count ≤ 16) && decide (data < 2 ^ 352)
    | .tunnelRsp tag seg count data => decide (tag < 65536) && decide (seg < count) && decide (count ≤ 16) && decide (data < 2 ^ 352)
    | .wake reason => decide (reason < 256)
    | .timeSync _ _ _ => true)

/-- A beat frame: members 0 to 1,023 and 188 cell slots. -/
def Frame.wf (f : Frame) : Bool :=
  memberId f.master && keyed 1024 f.roll && keyed 188 f.cells && f.cells.all fun e => e.2.wf

/-- An item: its address, and a value of the length it gives. -/
def Item.wf (i : Item) : Bool := decide (i.index < 65536) && decide (i.sub < 256) && decide (i.value < 256 ^ i.len)

/-- A dictionary message: the fields of its header, and its items. -/
def DictMsg.wf (m : DictMsg) : Bool :=
  decide (m.tag < 65536) && decide (m.target < 65536) && decide (m.handle < 2 ^ 32) && m.items.all Item.wf

/-- Opcodes that a mailbox row of their own takes (R55 to R58). -/
def knownOpcodes : List Nat :=
  [0x0001, 0x0002, 0x0100, 0x0101, 0x0102, 0x0103, 0x0200, 0x0201, 0x0202, 0x0300, 0x0301, 0x0400, 0x0401, 0x4000, 0x4100,
   0x4101, 0x4102, 0x4103, 0x4200, 0x4201, 0x4202, 0x4203, 0x4204, 0x4300, 0x4301, 0x4302, 0x4303, 0x4304, 0x4305, 0x4400,
   0x4401, 0x4500, 0x4501, 0x4502, 0x4503, 0x4504, 0x4505, 0xC100, 0xC200, 0xC300]

/-- Whether a command is well-formed. -/
def Instr.wf : Instr → Bool
  | .beat b => b.wf
  | .hostWrite w => w.wf
  | .hostRead _ dpa _ => aligned dpa
  | .linkTrained _ _ partnerWidth _ => partnerWidth == 4 || partnerWidth == 8 || partnerWidth == 16 || partnerWidth == 2 || partnerWidth == 1
  | .laneFault _ lane _ _ _ => decide (lane < 16)
  | .msixModerationExpire _ vector => decide (vector < 64)
  | .clearEventRecords _ _ all handles => handles.all fun h => decide (h < 65536)
  | .setTimestamp _ ns => decide (ns < 2 ^ 64)
  | .getLsa _ offset length => decide (offset + length ≤ 131072)
  | .setLsa _ offset data => decide (offset + data.length ≤ 131072)
  | .setShutdownState _ state => decide (state < 256)
  | .getPoisonList _ dpa _ => aligned dpa
  | .injectPoison _ dpa _ => aligned dpa
  | .clearPoison _ dpa _ _ => aligned dpa
  | .scanMediaCapabilities _ dpa _ => aligned dpa
  | .scanMedia _ dpa _ => aligned dpa
  | .setPassphrase _ _ current new => decide (current < 2 ^ 256) && decide (new < 2 ^ 256)
  | .disablePassphrase _ _ current => decide (current < 2 ^ 256)
  | .unlockDevice _ passphrase => decide (passphrase < 2 ^ 256)
  | .passphraseSecureErase _ _ passphrase => decide (passphrase < 2 ^ 256)
  | .mailboxUnsupported _ opcode => !(knownOpcodes.contains opcode.toNat)
  | .deskOperandStage a => a.wf
  | .deskPoisonedWrite _ group => decide (group < 262144)
  | .deskNop a => a.wf
  | .deskInvalidOpcode opcode a => a.wf && decide (10 ≤ opcode.toNat)
  | .deskOpen a => a.wf
  | .deskClaim a => a.wf
  | .deskRelease a => a.wf
  | .deskCommit a => a.wf
  | .deskAbort a => a.wf
  | .rollbackComplete group => decide (group < 262144)
  | .deskBeginJoint a => a.wf
  | .deskPrepare a => a.wf
  | .deskDecide a => a.wf
  | .deskAckTerminal a => a.wf
  | .deskRead _ group _ => decide (group < 262144)
  | .decideCellReceived source txn _ => memberId source && transaction txn
  | .ackCellReceived source txns => memberId source && transactions 5 txns
  | .queryCellReceived source txns => memberId source && transactions 5 txns
  | .answerCellReceived source items => memberId source && transactions 4 (items.map (·.1))
  | .prepareQueryTimer group => decide (group < 262144)
  | .indoubtQuery group => decide (group < 262144)
  | .decisionCacheExpire txn => transaction txn
  | .forceOutcomeWrite _ value => decide (value < 256)
  | .layoutChangeWrite _ _ value => decide (value < 2 ^ 64)
  | .refreshDue _ _ bank _ _ => decide (bank < 32)
  | .activationLimit _ _ banks _ => banks.all fun b => decide (b < 512)
  | .bankHashWrite _ sub _ => decide (1 ≤ sub) && decide (sub ≤ 6)
  | .uncorrectableRead _ place => (match place with | .memory dpa => aligned dpa | .cupboard _ => true)
  | .trestleLinkTrained _ _ hello => hello.wf
  | .framePass f => f.wf
  | .frameReturn f _ => f.wf
  | .timeSyncReceived source _ _ _ _ => memberId source
  | .wakeCellReceived source reason => memberId source && decide (reason < 256)
  | .tunnelReqReceived source _ m => memberId source && m.wf
  | .tunnelRspReceived source tag _ _ _ _ _ => memberId source && decide (tag < 65536)
  | .tunnelTimeout tag => decide (tag < 65536)
  | .nandProgramFail _ slot shards _ => decide (slot < 16) && decide (shards ≤ 18)
  | .nandLunFailed _ lun => decide (lun < 16)
  | .cellOvervoltage cell _ => decide (1 ≤ cell) && decide (cell ≤ 24)
  | .blockResetComplete code => decide (1 ≤ code) && decide (code ≤ 8)
  | .dictRead m => m.wf
  | .dictWrite m => m.wf
  | .dictDescribe m => m.wf
  | .setOpen m => m.wf
  | .setAdd m => m.wf
  | .setSubmit m => m.wf
  | .setDiscard m => m.wf
  | .setStatus m => m.wf
  | .registerWrite _ index sub value len => decide (index < 65536) && decide (sub < 256) && decide (value < 256 ^ len)
  | .wallTimeWrite _ value => decide (value < 2 ^ 64)
  | .sramRepair array _ => decide (array < 512)
  | .eflashMarginRead _ mode => decide (mode ≤ 2)
  | .eflashDataWrite _ offset _ => offset % 8 == 0 && decide (offset < 0x808000)
  | .eflashRead _ offset _ _ _ => decide (offset < 0x808000)
  | .scrubSweep _ sector _ _ _ => decide (sector < 0x808)
  | .fullRefresh _ sector _ _ => decide (sector < 0x808)
  | .svcHello seq => sequence seq
  | .svcSetRate seq _ => sequence seq
  | .imageBegin seq _ => sequence seq
  | .imageData seq _ data => sequence seq && decide (data.length ≤ 4096)
  | .imageEnd seq => sequence seq
  | .imageActivate seq _ => sequence seq
  | .imageAbort seq => sequence seq
  | .svcUnknownType seq type => sequence seq && decide (type < 128)
  | .spdmChallenge _ _ _ nonce => decide (nonce < 2 ^ 256)
  | .spdmGetMeasurements _ index _ nonce => decide (nonce < 2 ^ 256) && decide (index < 256)
  | .spdmUnsupported _ code => decide (code < 256)
  | .ptRun _ value bits errors _ => decide (value < 256) && decide (errors ≤ bits)
  | .marginRunComplete unit _ => decide (32 ≤ unit) && decide (unit ≤ 35)
  | .hdmDecoderCommit _ _ _ size _ _ => decide (0 < size)
  | .laneMargining _ lane _ _ => decide (lane < 16)
  | .checkerLock unit => decide (unit < 67)
  | .checkerLockLoss unit bits errors => decide (unit < 67) && decide (errors ≤ bits)
  | .entdaa address => decide (address < 128)
  | .setdasa static address => decide (static < 128) && decide (address < 128)
  | .heldWriteRelease _ => true
  | .journalWaitEnd _ => true
  | .touchRestoreComplete _ _ _ => true
  | .backgroundRestoreLeaf _ => true
  | .restoreComplete => true
  | .gpfPhase1 _ => true
  | .gpfPhase2 _ => true
  | .linkLoss _ => true
  | .hostReset _ => true
  | .flr _ => true
  | .linkEnableWrite _ _ _ => true
  | .linkShutdownComplete _ => true
  | .identify _ => true
  | .backgroundOperationStatus _ => true
  | .getEventRecords _ _ => true
  | .getEventInterruptPolicy _ => true
  | .setEventInterruptPolicy _ _ => true
  | .getFwInfo _ => true
  | .transferFw _ => true
  | .activateFw _ => true
  | .getTimestamp _ => true
  | .getSupportedLogs _ => true
  | .getLog _ _ => true
  | .identifyMemoryDevice _ => true
  | .getPartitionInfo _ => true
  | .setPartitionInfo _ => true
  | .getHealthInfo _ => true
  | .getAlertConfiguration _ => true
  | .setAlertConfiguration _ _ => true
  | .getShutdownState _ => true
  | .getScanMediaResults _ => true
  | .scanMediaComplete _ => true
  | .sanitize _ => true
  | .sanitizeComplete => true
  | .secureErase _ => true
  | .getSecurityState _ => true
  | .freezeSecurityState _ => true
  | .prepareSleep _ _ _ _ => true
  | .drowseEntry _ => true
  | .wakeTimerFire => true
  | .storeAlarmRise => true
  | .svcFrameStart => true
  | .wake _ _ => true
  | .wakeComplete _ => true
  | .decideResend => true
  | .mirrorArmingComplete _ => true
  | .burstIssue _ _ _ _ => true
  | .burstPromoted _ _ _ => true
  | .burstAncient _ _ _ => true
  | .class0ShareInterval _ _ => true
  | .dramTrainingComplete _ _ _ _ => true
  | .fastBootComplete _ _ _ _ => true
  | .dqsTrack _ _ => true
  | .retrainTrigger _ _ => true
  | .retrainRequestWrite _ _ => true
  | .gatherWindowClose _ _ => true
  | .onlineRetrainComplete _ _ _ _ => true
  | .searchBinComplete _ _ => true
  | .rateMaxWrite _ _ _ => true
  | .patrolScrub _ _ _ _ => true
  | .rowFailed _ _ _ => true
  | .spareRequestWrite _ _ => true
  | .proactiveCopyComplete => true
  | .channelLost _ _ => true
  | .channelRebuildComplete => true
  | .requalifyRequestWrite _ _ => true
  | .deltaLazyWrite _ => true
  | .deltaSnapshotStart => true
  | .deltaSnapshotComplete => true
  | .heatDecay => true
  | .trickleCandidateRebuild => true
  | .trickleSelect => true
  | .wearRateRecompute => true
  | .rehearsalDue _ => true
  | .rehearsalStart => true
  | .rehearsalIdleEnd _ => true
  | .rehearsalRunEnd _ => true
  | .rehearsalOverdue => true
  | .drowseTricklePeriod _ => true
  | .trestleLinkEnableWrite _ _ _ => true
  | .trestleShutdownComplete _ => true
  | .cellRetransmitTimeout _ => true
  | .masterTakeover => true
  | .startupFrameTimeout => true
  | .trestleWrap _ => true
  | .trestleUnwrap _ => true
  | .timeSyncSend => true
  | .rowFillTimeout => true
  | .rowProgramComplete _ => true
  | .checkpointStart => true
  | .checkpointComplete => true
  | .gcStart _ => true
  | .gcVictimErased _ => true
  | .nandRebuildDone => true
  | .nandChannelFailed _ => true
  | .powerFailTrip _ => true
  | .saveBegin => true
  | .saveAndResume _ => true
  | .saveAndHalt _ => true
  | .saveDrainComplete => true
  | .saveGroupSetComplete => true
  | .saveRowStart => true
  | .saveLeavesComplete => true
  | .saveDeltasComplete => true
  | .saveSealed _ => true
  | .saveEnd => true
  | .saveWithdrawal => true
  | .inputGood => true
  | .pfWarnAssert _ => true
  | .storeCutoff => true
  | .vauxFall => true
  | .bringUpComplete _ => true
  | .leafMapRebuildComplete => true
  | .groupSetLoadComplete _ => true
  | .stringFailed _ => true
  | .chargerCvReached => true
  | .prechargeDone => true
  | .chargerFull => true
  | .chargerRecharge => true
  | .chargeTimeout => true
  | .chargerFaultClear _ _ => true
  | .chargerFaultRecover => true
  | .healthTestDue _ => true
  | .healthTestStart => true
  | .healthTestEnd _ _ _ => true
  | .niuraCalibration _ _ => true
  | .niuraShellWatchdog => true
  | .storeOvervoltage _ => true
  | .busOvervoltage _ => true
  | .holdupOverload _ => true
  | .railStable _ => true
  | .railDown => true
  | .pgGlitch _ => true
  | .seqTimeout => true
  | .seqRetryWaitEnd => true
  | .seqRetryRequest _ _ => true
  | .railFault _ _ => true
  | .railGraceExpire _ => true
  | .retryRailExpire _ => true
  | .groupEnableWrite _ _ _ => true
  | .powerOnReset => true
  | .coldReset _ => true
  | .coldResetRequest _ _ => true
  | .bureauResetRequest _ _ => true
  | .bureauReloadComplete => true
  | .blockResetRequest _ _ => true
  | .setIdleTimeout _ => true
  | .faultClear _ _ _ => true
  | .injectedLiveClear _ => true
  | .chestEflashSpool => true
  | .chestRingFailed _ => true
  | .chestReadRecord _ => true
  | .injectorFire _ => true
  | .pairFail _ => true
  | .pairTakeoverComplete _ => true
  | .spareSelfTest _ => true
  | .sramUe _ => true
  | .irqSourceRaise _ => true
  | .irqClaim _ => true
  | .irqComplete _ _ => true
  | .irqModerationExpire _ => true
  | .eflashProgram _ _ => true
  | .eflashSectorErase _ => true
  | .eflashBankErase _ => true
  | .eflashSuspend _ => true
  | .eflashResume _ => true
  | .eflashReadStatus _ => true
  | .eflashExit _ => true
  | .eflashBadStore _ => true
  | .eflashUnlockTimeout _ => true
  | .eflashOperationComplete _ _ => true
  | .eflashBrownout => true
  | .brownoutRecover => true
  | .rdpRaise _ _ => true
  | .rdpLowerArm _ _ => true
  | .rdpLower _ => true
  | .keyRevokeArm _ _ => true
  | .keyRevokeRequest _ _ => true
  | .svcRateFallback => true
  | .svcFrameBad => true
  | .spdmGetVersion _ => true
  | .spdmGetCapabilities _ => true
  | .spdmNegotiateAlgorithms _ => true
  | .spdmGetDigests _ => true
  | .spdmGetCertificate _ _ _ _ => true
  | .spdmChunkSend _ _ _ _ => true
  | .spdmChunkGet _ _ => true
  | .spdmRespondIfReady _ => true
  | .marginRun _ _ => true
  | .tapExtest => true
  | .tapIdcode => true
  | .tapSamplePreload => true
  | .tapClamp => true
  | .tapHighz => true
  | .tapExtestPulse => true
  | .tapExtestTrain => true
  | .tapTestAccess => true
  | .tapBypass => true
  | .avsCheck _ => true
  | .thermalLifeLog => true
  | .msixVectorUnmask _ _ => true
  | .l0pHostRequest _ _ => true
  | .doeCdatAccess _ _ => true
  | .busBelowHuBusMin _ => true
  | .ocvCorrection => true

end Sys2Proof
end

