-- ==== Sys2Proof/Tests/Slice0.lean ====
section
/-! SUPPORT. Tests of the model: ill-formed commands that WellFormed refuses, a few single steps, and for every obligation
with hypotheses a state and operands that meet the hypotheses of each of its clauses (a clause without hypotheses needs
none, and clauses with the same hypotheses share one). Expected values come from the spec's tables and rules; states are small ones built here. -/

namespace Sys2Proof.Tests
open Sys2Proof Sys2Proof.Machine

set_option maxRecDepth 20000
set_option Elab.async false

/-- A link that is up, with decoders over its first GiB and over the Desk. -/
def linkUp : Link :=
  { Link.reset with
    state := .l0, rate := 64, width := 16, fullWidth := 16, trained := 16,
    decoders := [(0, { base := 0, size := 1073741824, ways := 1, granularity := 256 }),
                 (1, { base := deskBase, size := 16777216, ways := 1, granularity := 256 })] }

/-- ONLINE with 16 GiB channels, link H0 up, a dirty budget of 64 GiB, and 4,096 free segments of 1,024 rows. -/
def sOn : State :=
  { State.reset with
    ctl := { Control.reset with mode := .online, access := true, recovery := false, dramHeld := true },
    layout := { Layout.reset with channelMiB := 16384 },
    links := [(0, linkUp)],
    regs := [(key 0x1102 1, 1), (key 0x4010 0, 68719476736), (key 0x4800 4, 1), (key 0x5002 1, 4), (key 0x5002 2, 2),
             (key 0x5002 3, 1024)],
    nand := { Nand.reset with unitsPerLun := 512 } }

/-- Member 5 of domain 7, with members 2, 5 and 6 alive; an image is loaded, and port 0 is in ring service. -/
def sDom : State :=
  { (((sOn.setReg 0x4800 1 7).setReg 0x4800 2 5).setReg 0x4800 3 1).setReg 0x4801 0 100 with
    trestle := { Trestle.reset with
      loaded := true, roll := [(2, 1), (5, 1), (6, 1)],
      ports := [(0, { Port.reset with
        state := .inService,
        hello := some { member := 6, domain := 7, generation := 1, master := 5, beat := 0, startTag := 1 } })] } }

/-- A state taken into SAVE. -/
def inSave (s : State) : State :=
  { s with
    ctl := { sOn.ctl with mode := .save, access := false, prevMode := .online }
    ingress := { Ingress.reset with closed := true } }

/-- A store of two strings of six 1,000 F cells fitted for profile 1. -/
def fitted : State :=
  (((((((sOn.setReg 0x6000 1 1).setReg 0x6000 2 6).setReg 0x6000 3 2).setReg 0x6000 4 3000).setReg 0x6000 5 1000000).setReg
    0x6000 6 40).setReg 0x6024 0 5).setReg 0x6025 0 12

/-- Rail 4 of group 2 and step 3 in a state, at beat 90,000. -/
def railAt (x : Nat) : State :=
  { ((((((((sOn.setReg 0x6404 1 1).setReg 0x6404 3 2).setReg 0x6404 4 3).setReg 0x6404 7 x).setReg 0x6442 1 1).setReg
      0x6442 2 2).setReg 0x6461 0 4).setReg 0x6423 1 100) with
    clock := { Clock.reset with beat := 90000 } }

/-- A command word, operands and enables for slot 3 over link H0. -/
def desk (word : BitVec 56) (operands : BitVec 448) (enable : BitVec 56) : DeskArgs :=
  { link := 0, mailbox := false, group := 3, word := word, operands := operands, enable := enable }

/-- A message of the board with tag 7. -/
def msg (items : List Item) : DictMsg :=
  { role := .board, link := 0, member := 0, tag := 7, target := 0xFFFF, handle := 0, snapshot := false, malformed := false,
    items := items }

/-- A save image of two leaves, its group set not yet written. -/
def image : SaveImage :=
  { epoch := 4, trigger := 1, mode := 2, headSeq := 9, residue := [3, 1], carriedLost := [], credited := [], beat := 0,
    keyId := 0, crypt := { keyId := 0, key := 0, tweak := metaTweak groupSetBlock 0 }, dGeneration := 0, dValues := [], slots := [], claims := [], journal := [], undo := [], nextJseq := 0,
    decisions := [], txnCounter := 0, slotsFree := false, counted := false, groupSetDone := false, withdrawn := false, segs := [], deltas := [], resumed := false,
    sealRecord := none }

/-- A write of the line at 0x10040. -/
def wr : MemWrite :=
  { link := 0, dpa := 0x10040, data := 0x1122334455667788, be := 0xFF, poison := false, stamp := 5 }

/-- A waiting write burst of unit 0. -/
def aBurst : Burst :=
  { id := 1, mate := 0, chan := 0, off := 0, port := 0, cls := 2, own := 2, stamp := 7, unit := 0, write := true, inQueue := true, promoted := false, ancient := none, ingress := none, job := .none, extended := 0 }

/-- A copy of leaf 1. -/
def aCopy : Copy :=
  { seq := 3, segment := 1, row := 0, slot := 0, bySave := true, degraded := false, keyId := 0, epoch := 4, poison := [], rowId := 0 }

/-- A Chest record. -/
def aRecord : ChestRec :=
  { seq := 5, devNs := 100, wallNs := 0, code := 0x120, severity := 2, inj := false, clockUnset := true, fallback := false, beat := 0, suppressed := 0, values := [1, 2], torn := false }

/-- A session at stage 3 with a large response. -/
def session3 : SpdmSession :=
  { endpoint := 9, stage := 3, used := 0, request := [1], response := List.replicate 4100 7 }

/-- An open change set. -/
def emptySet : ChangeSet :=
  { generation := 2, submitted := false, failed := false, items := [], lastBeat := 0 }

/-- A trickle stripe of leaf 1. -/
def stripe : Stripe :=
  { leaf := 1, seq := 4, origin := 0, source := none, data := [(0x10000, 7)], poison := [], live := true, degraded := false }

/-- A decision of abort that this member anchors. -/
def aborted : Decision :=
  { txn := (5 * 2 ^ 54 + 77), state := 2, roster := [5, 6], acked := 0, slot := 3, begunBeat := 0, decidedBeat := 0, sentBeat := 0, presumed := false }

/-- The hello of member 6. -/
def hello : Hello :=
  { member := 6, domain := 7, generation := 1, master := 5, beat := 0, startTag := 1 }

/-- A COMPLETE seal. -/
def sealed : Seal :=
  { epoch := 4, trigger := 1, complete := true, energyMj := 0, headSeq := 9, lastSeq := 12, residue := 2, saved := 2, newlyLost := 0, poisonedLines := 0, bytes := 131072, startNs := 0, sealNs := 5, deltas := 0, lowestOrder := 0, chestSeq := 0 }

/-- The journalled pre-image of the line 0x100. -/
def entry : JEntry :=
  { line := 0x100, group := 3, poisoned := false, seq := 0, pre := [(0x10000, 9)] }

/-- An undo entry of the line 0x201. -/
def undoEntry : JEntry :=
  { line := 0x201, group := 3, poisoned := false, seq := 0, pre := [(0x20104, 9)] }

/-- A change set in slot 1, at beat 500. -/
def setIn1 : State :=
  { (sOn.setReg 0xA030 0 100) with dict := { Dict.reset with sets := [(1, emptySet)], nextGen := 3 }, clock := { Clock.reset with beat := 500 } }

/-- The write of a whole line. -/
def wholeLine : MemWrite := { wr with be := BitVec.allOnes 64 }

/-- The state once that write has been taken. -/
def afterWrite : State := match exec (.hostWrite wholeLine) sOn with | .next t => t | _ => sOn

/-- An outcome that is decided to be a next state. -/
theorem next_of {o : Host.Outcome State Fault Refusal} {t : State}
    (h : (match o with | .next u => decide (u = t) | _ => false) = true) : o = .next t := by
  cases o <;> simp_all

/-- The row of an entry; for an address without one, the first row. -/
def entryAt (idx sub : Nat) : Entry :=
  match rowOf idx sub with
  | some r => r
  | none => Entry.mk 0 0 0 0 0 0 .ro .ro .ro .ro .v 0 0 0 0 "" [] []

/-- An outcome that is a next state is the next state that it holds. -/
theorem next_held {o : Host.Outcome State Fault Refusal} (u : State)
    (h : (match o with | .next _ => true | _ => false) = true) : o = .next (match o with | .next t => t | _ => u) := by
  cases o with
  | next t => rfl
  | fault f => cases h
  | refused r => cases h
/-- A beat's samples at rest. -/
def samples : BeatInputs :=
  { vStoreMv := 18000, iStoreMa := 0, vinMv := 12000, vbusMv := 12000, tjC := 60, tjSensor := 0, thermC := [], cellMv := [],
    stringMa := [], batteryChargeMah := 0, wire := none, workNs := 100, overrun := none }

/-- A frame without cells. -/
def frame : Frame :=
  { domain := 7, wire := 3, generation := 1, master := 5, ringB := false, takeover := false, wrapped := false, hops := 1,
    pathPs := 100, crcGood := true, roll := [], badSpans := [], cells := [], port := 0, lapNs := 2000, arrivalNs := 500 }

/-- A cell of member 5. -/
def cell : Cell :=
  { source := 5, seq := 9, retry := false, dest := some 6, taken := 0, crcGood := true, body := .ack [4] }

/-- Frames whose one cell is ill-formed. -/
def frames (cs : List Cell) : List Instr := cs.map fun c => .framePass { frame with cells := [(0, c)] }

/-! ### Ill-formed commands: one for each check of `Instr.wf` -/

theorem test_wf_beat_refused :
    ([{ samples with tjSensor := 16 }, { samples with thermC := [(8, 40)] }, { samples with cellMv := [(25, 3000)] },
      { samples with stringMa := [(4, 10)] }, { samples with stringMa := [(1, 10), (0, 10)] },
      { samples with overrun := some 0 }, { samples with overrun := some 7 }].all
        fun b => Instr.wf (.beat b) == false) = true := by decide +kernel

theorem test_wf_host_refused :
    ([.hostWrite { wr with dpa := 1 }, .hostRead 0 32 0, .linkTrained 0 64 3 true, .laneFault 0 16 0 false false,
      .msixModerationExpire 0 64, .clearEventRecords 0 0 false [65536], .setTimestamp 0 (2 ^ 64), .getLsa 0 131072 1,
      .setLsa 0 131072 [0], .setShutdownState 0 256, .getPoisonList 0 1 1, .injectPoison 0 1 0, .clearPoison 0 1 0 0,
      .scanMediaCapabilities 0 1 1, .scanMedia 0 1 1, .setPassphrase 0 false (2 ^ 256) 0, .setPassphrase 0 false 0 (2 ^ 256),
      .disablePassphrase 0 false (2 ^ 256), .unlockDevice 0 (2 ^ 256), .passphraseSecureErase 0 false (2 ^ 256),
      .mailboxUnsupported 0 0x4000, .hdmDecoderCommit 0 0 0 0 1 256, .laneMargining 0 16 true 1].all
        fun i => Instr.wf i == false) = true := by decide +kernel

theorem test_wf_desk_refused :
    (([Instr.deskOperandStage, Instr.deskNop, Instr.deskInvalidOpcode 10, Instr.deskOpen, Instr.deskClaim, Instr.deskRelease,
        Instr.deskCommit, Instr.deskAbort, Instr.deskBeginJoint, Instr.deskPrepare, Instr.deskDecide,
        Instr.deskAckTerminal].map fun (c : DeskArgs → Instr) => c { desk 0 0 0 with group := 262144 }) ++
      ([.deskPoisonedWrite 0 262144, .deskInvalidOpcode 9 (desk 0 0 0), .rollbackComplete 262144, .deskRead 0 262144 true,
       .decideCellReceived 1024 5 true, .decideCellReceived 2 (2 ^ 64) true, .ackCellReceived 2 [], .ackCellReceived 1024 [1],
       .ackCellReceived 2 [1, 2, 3, 4, 5, 6], .ackCellReceived 2 [2 ^ 64], .queryCellReceived 2 [], .queryCellReceived 1024 [1],
       .answerCellReceived 2 [], .answerCellReceived 1024 [(1, true, true)], .prepareQueryTimer 262144, .indoubtQuery 262144,
       .decisionCacheExpire (2 ^ 64), .forceOutcomeWrite .board 256,   .layoutChangeWrite .board .journalBytes (2 ^ 64)] : List Instr)).all
        (fun i => Instr.wf i == false) = true := by decide +kernel

theorem test_wf_trestle_refused :
    ([.trestleLinkTrained 0 200 { hello with member := 1024 }, .trestleLinkTrained 0 200 { hello with generation := 65536 },
      .trestleLinkTrained 0 200 { hello with domain := 2 ^ 64 }, .framePass { frame with master := 1024 },
      .framePass { frame with roll := [(1024, 1)] }, .framePass { frame with cells := [(188, cell)] },
      .frameReturn { frame with cells := [(1, cell), (0, cell)] } 9, .timeSyncReceived 1024 0 0 true 0,
      .wakeCellReceived 1024 1, .wakeCellReceived 2 256, .tunnelReqReceived 1024 .read (msg []),
      .tunnelReqReceived 2 .read { msg [] with tag := 65536 }, .tunnelRspReceived 1024 0 0 0 0 0 [],
      .tunnelRspReceived 2 65536 0 0 0 0 [], .tunnelTimeout 65536].all fun i => Instr.wf i == false) = true
    ∧ ((frames [{ cell with source := 1024 }, { cell with seq := 2 ^ 32 }, { cell with dest := some 1024 },
      { cell with body := .decide [1024] 5 true }, { cell with body := .decide [6] (2 ^ 64) true }, { cell with body := .ack [] },
      { cell with body := .query [1, 2, 3, 4, 5, 6] }, { cell with body := .answer [] },
      { cell with body := .tunnelReq 65536 0 1 0 }, { cell with body := .tunnelReq 1 1 1 0 }, { cell with body := .tunnelRsp 1 0 17 0 },
      { cell with body := .wake 256 }]).all fun i => Instr.wf i == false) = true := by decide +kernel

theorem test_wf_dram_nand_power_refused :
    ([.refreshDue 0 0 32 4 0, .activationLimit 0 0 [512] 50, .bankHashWrite .board 0 1, .bankHashWrite .board 7 1,
      .uncorrectableRead 0 (.memory 1), .nandProgramFail 0 16 1 0, .nandProgramFail 0 0 19 0, .nandLunFailed 0 16,
      .cellOvervoltage 0 4000, .cellOvervoltage 25 4000, .blockResetComplete 0, .blockResetComplete 9].all
        fun i => Instr.wf i == false) = true := by decide +kernel

theorem test_wf_dictionary_refused :
    (([Instr.dictRead, Instr.dictWrite, Instr.dictDescribe, Instr.setOpen, Instr.setAdd, Instr.setSubmit, Instr.setDiscard,
        Instr.setStatus].map fun (c : DictMsg → Instr) => c { msg [] with tag := 65536 }) ++
      ([.dictRead { msg [] with target := 65536 }, .dictRead { msg [] with handle := 2 ^ 32 },
       .dictWrite (msg [Item.mk 65536 0 0 1]), .dictWrite (msg [Item.mk 0 256 0 1]), .dictWrite (msg [Item.mk 0 0 256 1]),
       .registerWrite .board 65536 0 0 1, .registerWrite .board 0 256 0 1, .registerWrite .board 0 0 256 1,
       .wallTimeWrite .board (2 ^ 64), .sramRepair 512 true] : List Instr)).all (fun i => Instr.wf i == false) = true := by decide +kernel

theorem test_wf_flash_service_test_refused :
    ([.eflashMarginRead 0 3, .eflashDataWrite 0 4 0, .eflashDataWrite 0 0x808000 0, .eflashRead 0 0x808000 false false false,
      .scrubSweep 0 0x808 false false false, .fullRefresh 0 0x808 false false, .svcHello 256, .svcSetRate 256 0,
      .imageBegin 256 0, .imageData 256 0 [], .imageData 0 0 (List.replicate 4097 0), .imageEnd 256, .imageActivate 256 0,
      .imageAbort 256, .svcUnknownType 256 0, .svcUnknownType 0 128, .spdmChallenge 0 0 0 (2 ^ 256),
      .spdmGetMeasurements 0 256 true 0, .spdmGetMeasurements 0 1 true (2 ^ 256), .spdmUnsupported 0 256,
      .ptRun .service 256 0 0 0, .ptRun .service 1 1 2 0, .marginRunComplete 31 1, .marginRunComplete 36 1, .checkerLock 67,
      .checkerLockLoss 67 1 1, .checkerLockLoss 1 1 2, .entdaa 128, .setdasa 128 1, .setdasa 1 128].all
        fun i => Instr.wf i == false) = true := by decide +kernel

/-! ### Steps and formulas against the spec's worked examples and tables -/

/-- What holds of the next state of a command. -/
def after (c : Instr) (s : State) (p : State → Bool) : Bool := match exec c s with | .next t => p t | _ => false

/-- R330, R339, Table 13.6: after the first POWER-ON reset the part is DORMANT and has counted it. -/
theorem test_reset_counts_power_on :
    State.reset.reg 0x1102 1 = 1 ∧ State.reset.ctl.mode = .dormant ∧ State.reset.mem = [] := by decide +kernel

/-- Chapter 4, "one DPA through the map": logical channel 7, offset 0x1845C800, leaf 74,565 and page 0x123456. -/
theorem test_dpa_through_the_map :
    Layout.reset.logical 0x123456700 = 7 ∧ Layout.reset.offset 0x123456700 = 0x1845C800
      ∧ leafOf 0x123456700 = 74565 ∧ pageOf 0x123456700 = 0x123456 := by decide +kernel

/-- Table 7.8: the budgets of stores A and B; chapter 12: store B with an ESR of 240 mΩ. -/
theorem test_budget_of_two_stores :
    dirtyBudget 68719476736 (budgetBytes 4374000 25 1200 2300) = 68719476736
      ∧ dirtyBudget 274877906944 (budgetBytes 546750 25 1200 2300) = 177766086956
      ∧ budgetBytes 520378 25 1200 2300 = 169166521739 := by decide +kernel

/-- Chapter 7, "wear rate of a module". -/
theorem test_wear_rate : wearRate 20000 6597069766656 10 0 = 418097052 := by decide +kernel

/-- Chapter 5, "arbitration across the stamp wrap": the ages of S and W when they are promoted. -/
theorem test_ages_across_the_wrap : ageNs 0x0040 0xCF6C = 200000 ∧ ageNs 0x009A 0xFFA0 = 4000 := by decide +kernel

/-- A host write stores the enabled bytes alone, and dirties its leaf (R50, R147). -/
theorem test_write_stores_enabled_bytes :
    after (.hostWrite { wr with be := 0x82 }) { sOn with mem := [(0x10040, 9)] } (fun t =>
      t.mem == [(0x10040, 9), (0x10041, 0x77), (0x10047, 0x11)] && t.leaf 1 == .dirty) = true := by decide +kernel

/-- A zero byte is stored by removing its entry. -/
theorem test_write_of_zero_unlists :
    after (.hostWrite { wr with be := 1, data := 0 }) { sOn with mem := [(0x10040, 9)] } (fun t => t.mem == []) = true := by
  decide +kernel

/-- Group 291 OPEN, with window 3 ATOMIC over 0x20000000 (chapter 8, "a local group, byte by byte"). -/
def group291 : State :=
  { (((sOn.setReg 0x2503 1 0x20000000).setReg 0x2503 2 0x40000000).setReg 0x2503 3 3) with
    groups := { Groups.reset with slots := [(291, { Slot.reset with state := .opened, lastSeq := 0x0042 })] } }

/-- Its CLAIM of 4 pages. -/
def claim291 : DeskArgs := { desk 0x00000004004300 0x20000000 0xFF with group := 291 }

/-- The claim is accepted, and its effect is result OK, leaf 8,192 PINNED, and C grown by 83,016 B. -/
theorem test_claim_of_the_example :
    group291.claimResources claim291 = none
      ∧ ((group291.deskEffect 2 claim291).slot 291).result = 0
      ∧ (group291.deskEffect 2 claim291).leaf 8192 = .pinned
      ∧ (group291.deskEffect 2 claim291).groups.claims.map (·.1) = [131072, 131073, 131074, 131075]
      ∧ (group291.deskEffect 2 claim291).charged = group291.charged + 83016 := by
  decide +kernel

/-- The same command with a sequence that does not follow gets SEQ_ERR's refusal: the group claims nothing (R177). -/
theorem test_claim_out_of_sequence :
    after (.deskClaim { claim291 with word := 0x00000004004400 }) group291 (fun t =>
      t.groups.claims == [] && (t.slot 291).lastSeq == 0x0042) = true := by decide +kernel

/-- Table 8.13: ABORT or COMMIT of a group without lines ends it; a COMMIT gives COMMITTED with no claim left. -/
theorem test_commit_of_the_example :
    after (.deskCommit { desk 0x00000000004300 0 0 with group := 291 }) group291 (fun t =>
      (t.slot 291).state == .committed && t.groups.claims == []) = true := by decide +kernel

/-- R5: a reserved bit of window_attr is refused with RANGE (4), and nothing is stored. -/
theorem test_reserved_bit_refused :
    after (.registerWrite .board 0x2505 3 0x400 4) sOn (fun t =>
      t.out == [.dict .board 0 0 0 0 0 0 [⟨0x2505, 3, 4, 9, 0⟩]] && t.reg 0x2505 3 == 0) = true := by decide +kernel

/-- R350: role T may only read link_max_rate. -/
theorem test_write_by_a_reader_refused :
    after (.registerWrite .fleet 0x2004 1 32 1) sOn (fun t => t.reg 0x2004 1 == 128) = true := by decide +kernel

/-- R267: a trip in ONLINE arms a POWER_FAIL save, opens the isolation and raises PF_ALARM. -/
theorem test_trip_arms_a_save :
    after (.powerFailTrip false) { sOn.setBreg 48 0x7810 2 1 with niura := { Niura.reset with high := true } } (fun t =>
      t.save.trigger == .powerFail && t.niura.isolationOpen && t.niura.alarm && t.niura.supply == .holdup) = true := by
  decide +kernel

/-- An unlock without an open sequence names SEQ_ERR for a stray store (R406). -/
theorem test_stray_store_is_a_sequence_error :
    after (.eflashDataWrite 1 0x1000 5) sOn (fun t => (t.bank 1).sticky == stSeqErr) = true := by decide +kernel

/-- Chapter 10, "where leaf 74,565 goes": its leaf map entry, and the channels of D0, D1, P0 and P1 in row 37. -/
theorem test_leaf_map_entry_of_the_example :
    State.leafMapEntry { sOn with nand := { Nand.reset with copies := [(74565,
        { seq := 3, segment := 2305, row := 37, slot := 9, bySave := false, degraded := false, keyId := 0, epoch := 4,
          poison := [], rowId := 0 })] } } 74565 = 0x0000090250090101
      ∧ shardChannel 0 37 = 17 ∧ shardChannel 1 37 = 0 ∧ shardChannel 16 37 = 15 ∧ shardChannel 17 37 = 16 := by
  decide +kernel

/-- Table 7.5: leaf in bits 25 to 0, state code above it, sequence in the upper four bytes. -/
theorem test_delta_record_image : (DeltaRec.mk 7 74565 .dirty).image = 0x0000000704012345 := by decide +kernel

/-- The check value of CRC-32C over the digits 1 to 9, as the polynomial's users publish it (log entry 17). -/
theorem test_crc32c_check_value : crc32c [0x31, 0x32, 0x33, 0x34, 0x35, 0x36, 0x37, 0x38, 0x39] = 0xE3069283 := by
  decide +kernel

/-! ### Witnesses: states and operands that meet the hypotheses of each clause of each obligation -/

/-- A command that changes no mode, no byte and one latch: a bus overvoltage in `sOn`. -/
def gatesOff : State := { sOn with out := [], niura := { sOn.niura with gatesOff := true } }

theorem witness_stepTakesFront :
    (∃ (s : State) (c : Instr) (rest : List Instr), s.pending = c :: rest ∧ step s = .next { gatesOff with pending := rest })
    ∧ (∃ s : State, s.pending = []) :=
  ⟨⟨{ sOn with pending := [.busOvervoltage 13801, .heatDecay] }, .busOvervoltage 13801, [.heatDecay], rfl,
    next_of (by decide +kernel)⟩, ⟨sOn, rfl⟩⟩

theorem witness_commandsKeepTheQueue :
    ∃ (c : Instr) (s t : State), exec c s = .next t :=
  ⟨.busOvervoltage 13801, sOn, gatesOff, next_of (by decide +kernel)⟩

theorem witness_memoryStaysCanonical :
    ∃ s t : State, s.memWf = true ∧ s.mem ≠ [] ∧ step s = .next t :=
  ⟨{ sOn with pending := [.busOvervoltage 13801], mem := [(5, 1)] }, { gatesOff with mem := [(5, 1)] },
    by decide +kernel, by decide +kernel, next_of (by decide +kernel)⟩

theorem witness_modeChangesOnlyBy :
    ∃ (c : Instr) (s t : State), c.changesMode = false ∧ exec c s = .next t :=
  ⟨.busOvervoltage 13801, sOn, gatesOff, by decide +kernel, next_of (by decide +kernel)⟩

theorem witness_dramChangesOnlyBy :
    (∃ (c : Instr) (s t : State), c.writesMem = false ∧ exec c s = .next t)
    ∧ (∃ (c : Instr) (s t : State), c.writesFlash = false ∧ exec c s = .next t) :=
  ⟨⟨.busOvervoltage 13801, sOn, gatesOff, by decide +kernel, next_of (by decide +kernel)⟩,
   ⟨.busOvervoltage 13801, sOn, gatesOff, by decide +kernel, next_of (by decide +kernel)⟩⟩

theorem witness_resetState :
    (∃ (idx : Nat) (sub : Nat), key idx sub ≠ key 0x1102 1 ∧ key idx sub ≠ key 0x4800 4) :=
  ⟨(0x4010), (0), by decide +kernel⟩

theorem witness_hostWriteStores :
    (∃ (s : State) (w : MemWrite), s.writeEnters w ∧ Mem.wf s.mem = true ∧ s.groups.claims.find? (pageOf w.dpa) = none
      ∧ (s.leaf (leafOf w.dpa) = .clean ∨ s.leaf (leafOf w.dpa) = .lost → s.firstWriteCause (leafOf w.dpa) = 0))
    ∧ (∃ (s : State) (w : MemWrite), s.writeEnters w ∧ (s.leaf (leafOf w.dpa) = .clean ∨ s.leaf (leafOf w.dpa) = .lost)
      ∧ s.firstWriteCause (leafOf w.dpa) ≠ 0)
    ∧ (∃ (s : State) (w : MemWrite), s.reaches w.link.val w.dpa = true ∧ s.accepts w.link.val = false)
    ∧ (∃ (s : State) (w : MemWrite), s.reaches w.link.val w.dpa = false)
    ∧ (∃ (s : State) (link : Fin 4) (dpa : Nat), s.reaches link.val dpa = false) :=
  ⟨⟨sOn, wr, by unfold State.writeEnters; decide +kernel⟩,
   ⟨{ sOn with ctl := { sOn.ctl with coldPending := none }, regs := [] },
      wr, by unfold State.writeEnters; decide +kernel⟩,
   ⟨{ sOn with ingress := { Ingress.reset with closed := true } }, wr, by decide +kernel⟩,
   ⟨State.reset, wr, by decide +kernel⟩,
   ⟨State.reset, 0, 0, by decide +kernel⟩⟩

theorem witness_lostLeafTakesAWrite :
    (∃ (s : State) (w : MemWrite), s.writeEnters w ∧ Mem.wf s.mem = true ∧ s.groups.claims.find? (pageOf w.dpa) = none
      ∧ s.leaf (leafOf w.dpa) = .lost ∧ s.firstWriteCause (leafOf w.dpa) = 0 ∧ w.poison = false) :=
  ⟨{ sOn with leaves := { base := .clean, exc := [(1, .lost)] }, mem := [(0x10000, 7), (0x20000, 9)] },
      wr, by unfold State.writeEnters; decide +kernel⟩

theorem witness_claimedLineIsJournalledFirst :
    (∃ (s : State) (w : MemWrite) (c : Claim), s.writeEnters w ∧ Mem.wf s.mem = true
      ∧ s.groups.claims.find? (pageOf w.dpa) = some c ∧ s.leaf (leafOf w.dpa) = .pinned
      ∧ ((s.slot c.group).state = .opened ∨ (s.slot c.group).state = .prepared) ∧ (s.slot c.group).jfull = false
      ∧ c.lines.getLsbD (lineInPage w.dpa) = false ∧ s.lineAwaits (lineOf w.dpa) = false
      ∧ s.journalFull c.group = false)
    ∧ (∃ (s : State) (w : MemWrite) (c : Claim), s.writeEnters w ∧ Mem.wf s.mem = true
      ∧ s.groups.claims.find? (pageOf w.dpa) = some c ∧ s.leaf (leafOf w.dpa) = .pinned
      ∧ (s.slot c.group).state ≠ .inDoubt ∧ (s.slot c.group).jfull = false ∧ c.lines.getLsbD (lineInPage w.dpa) = true)
    ∧ (∃ (s : State) (w : MemWrite) (c : Claim), s.writeEnters w ∧ s.groups.claims.find? (pageOf w.dpa) = some c
      ∧ s.leaf (leafOf w.dpa) = .pinned ∧ ((s.slot c.group).state = .inDoubt ∨ (s.slot c.group).jfull = true)) :=
  ⟨⟨{ sOn with leaves := { base := .clean, exc := [(1, .pinned)] }, mem := [(0x10001, 7)], groups := { Groups.reset with slots := [(3, { Slot.reset with state := .opened, jfull := false })], claims := [(16, { group := 3, lines := 0 })] } },
      wr, { group := 3, lines := 0 }, by unfold State.writeEnters; decide +kernel⟩,
   ⟨{ sOn with leaves := { base := .clean, exc := [(1, .pinned)] }, mem := [(0x10001, 7)], groups := { Groups.reset with slots := [(3, { Slot.reset with state := .opened, jfull := false })], claims := [(16, { group := 3, lines := 1 })] } },
      wr, { group := 3, lines := 1 }, by unfold State.writeEnters; decide +kernel⟩,
   ⟨{ sOn with leaves := { base := .clean, exc := [(1, .pinned)] }, mem := [(0x10001, 7)], groups := { Groups.reset with slots := [(3, { Slot.reset with state := .inDoubt, jfull := false })], claims := [(16, { group := 3, lines := 1 })] } },
      wr, { group := 3, lines := 1 }, by unfold State.writeEnters; decide +kernel⟩⟩

theorem witness_waitingWritesGoOn :
    (∃ (s : State) (e : IngressWrite), s.ingress.writes = [e] ∧ e.wait = .admission ∧ e.source = .external
      ∧ e.reply = true ∧ e.w.dpa < s.layout.hostVisible ∧ s.shut e.w.link.val = false ∧ s.rolling e.w.dpa = false
      ∧ Mem.wf s.mem = true ∧ s.leaf (leafOf e.w.dpa) = .clean ∧ s.groups.claims.find? (pageOf e.w.dpa) = none
      ∧ s.firstWriteCause (leafOf e.w.dpa) = 0 ∧ (s.link e.w.link.val).up = true)
    ∧ (∃ (s : State) (e : IngressWrite) (c : Claim), s.ingress.writes = [e] ∧ e.wait = .journal ∧ e.source = .external
      ∧ e.reply = true ∧ e.w.dpa < s.layout.hostVisible ∧ s.shut e.w.link.val = false ∧ Mem.wf s.mem = true
      ∧ s.leaf (leafOf e.w.dpa) = .pinned ∧ s.groups.claims.find? (pageOf e.w.dpa) = some c
      ∧ (s.slot c.group).state = .opened ∧ (s.slot c.group).jfull = false
      ∧ c.lines.getLsbD (lineInPage e.w.dpa) = false ∧ s.lineAwaits (lineOf e.w.dpa) = false ∧ s.chunksFree ≠ 0
      ∧ (s.link e.w.link.val).up = true)
    ∧ (∃ (s : State) (e : IngressWrite), e ∈ s.ingress.writes ∧ e.owes ≠ [] ∧ (∀ b ∈ s.sched.bursts, b.id ∈ e.owes
      → b.inQueue = true) ∧ e.source = .external ∧ e.reply = true ∧ (s.link e.w.link.val).up = true) :=
  ⟨⟨{ sOn with ingress := { Ingress.reset with writes := [{ id := 0, w := wr, source := .external, wait := .admission, since := 0, reply := true }], nextId := 1 } },
      { id := 0, w := wr, source := .external, wait := .admission, since := 0, reply := true }, by decide +kernel⟩,
   ⟨{ ({ sOn with leaves := { base := .clean, exc := [(1, .pinned)] }, mem := [(0x10001, 7)], groups := { Groups.reset with slots := [(3, { Slot.reset with state := .opened, jfull := false })], claims := [(16, { group := 3, lines := 0 })] } } : State) with ingress := { Ingress.reset with writes := [{ id := 0, w := wr, source := .external, wait := .journal, since := 0, reply := true }], nextId := 1 } },
      { id := 0, w := wr, source := .external, wait := .journal, since := 0, reply := true },
      { group := 3, lines := 0 }, by decide +kernel⟩,
   ⟨{ sOn with ingress := { Ingress.reset with writes := [{ id := 0, w := wr, source := .external, wait := .draining, since := 0, reply := true, owes := [7] }] } },
      { id := 0, w := wr, source := .external, wait := .draining, since := 0, reply := true, owes := [7] },
      by decide +kernel⟩⟩

theorem witness_hostReadReturnsTheLatest :
    (∃ (s : State) (link : Fin 4) (dpa : Nat), s.reaches link.val dpa = true ∧ s.accepts link.val = true
      ∧ s.readWait link.val dpa = none ∧ dpa < s.layout.hostVisible)
    ∧ (∃ (s t : State) (w : MemWrite) (link : Fin 4), s.writeEnters w ∧ Mem.wf s.mem = true
      ∧ s.groups.claims.find? (pageOf w.dpa) = none ∧ w.be = BitVec.allOnes 64 ∧ w.poison = false
      ∧ (s.leaf (leafOf w.dpa) = .clean ∨ s.leaf (leafOf w.dpa) = .lost → s.firstWriteCause (leafOf w.dpa) = 0)
      ∧ exec (.hostWrite w) s = .next t ∧ t.reaches link.val w.dpa = true ∧ t.accepts link.val = true
      ∧ t.shut link.val = false) :=
  ⟨⟨sOn, 0, 0, by decide +kernel⟩,
   ⟨sOn, afterWrite, wholeLine, 0, by unfold State.writeEnters; decide +kernel, by decide +kernel, by decide +kernel,
      by decide +kernel,
    by decide +kernel, by decide +kernel, next_held sOn (by decide +kernel), by decide +kernel, by decide +kernel,
      by decide +kernel⟩⟩

theorem witness_flushesAnswer :
    (∃ (s : State) (link : Fin 4), (s.link link.val).up = true)
    ∧ (∃ (s : State) (link : Fin 4), (s.link link.val).up = true ∧ (∀ j : Fin 4, j ≠ link
      → (s.link j.val).gpfWait = false)) :=
  ⟨⟨sOn, 0, by decide +kernel⟩,
   ⟨sOn, 0, by decide +kernel⟩⟩

theorem witness_linkTrainsToTheBestCommonSetting :
    (∃ (s : State) (link : Fin 4) (pr : Nat) (pw : Nat) (r : Nat) (w : Nat), s.layout.formed link.val = true
      ∧ ((s.link link.val).state = .down ∨ (s.link link.val).state = .training) ∧ s.reg 0x2005 (link.val + 1) = 1
      ∧ s.ctl.mode ≠ .dormant ∧ r ∈ [32, 64, 128] ∧ r ≤ pr ∧ r ≤ s.reg 0x2004 (link.val + 1)
      ∧ (∀ q ∈ [32, 64, 128], q ≤ pr → q ≤ s.reg 0x2004 (link.val + 1) → q ≤ r) ∧ w ∈ [2, 4, 8, 16] ∧ w ≤ pw
      ∧ w ≤ s.maxWidth link.val ∧ (∀ q ∈ [2, 4, 8, 16], q ≤ pw → q ≤ s.maxWidth link.val → q ≤ w))
    ∧ (∃ (s : State) (link : Fin 4), s.layout.formed link.val = true ∧ ((s.link link.val).state = .down
      ∨ (s.link link.val).state = .training) ∧ s.reg 0x2005 (link.val + 1) = 1 ∧ s.ctl.mode ≠ .dormant) :=
  ⟨⟨{ sOn with links := [] }, 0, 64, 16, 64, 16, by decide +kernel⟩,
   ⟨{ sOn with links := [] }, 0, by decide +kernel⟩⟩

theorem witness_linkLossAndResetsKeepWrites :
    (∃ (s : State) (link : Fin 4), s.layout.formed link.val = true ∧ s.ctl.vaux = true)
    ∧ (∃ (s : State) (link : Fin 4), (s.link link.val).up = true)
    ∧ (∃ (s : State) (link : Fin 4), (s.link link.val).state = .disabling ∨ (s.link link.val).state = .pendingStart) :=
  ⟨⟨sOn, 0, by decide +kernel⟩,
   ⟨sOn, 0, by decide +kernel⟩,
   ⟨{ sOn with links := [(0, { linkUp with state := .disabling })] }, 0, by decide +kernel⟩⟩

theorem witness_laneFaultsAndDecoders :
    (∃ (s : State) (link : Fin 4) (lane : Nat) (errors : Nat) (lost : Bool), (s.link link.val).up = true
      ∧ lane < (s.link link.val).trained ∧ (s.reg 0x2040 (link.val + 1) < errors ∨ lost = true))
    ∧ (∃ (s : State) (link : Fin 4) (v : Nat) (p : Pend), (s.link link.val).pend.find? v = some p
      ∧ (s.reg (0x2100 + 0x40 * link.val + v) 1 ≤ p.count ∨ (s.reg (0x2100 + 0x40 * link.val + v) 2 ≠ 0
      ∧ s.reg (0x2100 + 0x40 * link.val + v) 2 ≤ s.clock.beat - p.since)) ∧ (s.link link.val).up = true
      ∧ (s.link link.val).msixEnable = true ∧ v ∈ (s.link link.val).unmasked)
    ∧ (∃ (s : State) (link : Fin 4) (v : Nat), (s.link link.val).up = true ∧ v < s.vectorCount link.val)
    ∧ (∃ (s : State) (link : Fin 4) (w : Nat), (s.link link.val).up = true ∧ w ∈ [2, 4, 8,
      16] ∧ w ≤ s.liveWidth link.val)
    ∧ (∃ (s : State) (link : Fin 4), (s.link link.val).up = true)
    ∧ (∃ (s : State) (link : Fin 4) (lane : Nat), (s.link link.val).up = true ∧ lane < (s.link link.val).width)
    ∧ (∃ (s : State) (link : Fin 4), (s.link link.val).up = false) :=
  ⟨⟨sOn, 0, 0, 0, true, by decide +kernel⟩,
   ⟨{ sOn with links := [(0, { linkUp with msixEnable := true, unmasked := [2], pend := [(2, { count := 40, since := 0, sources := 1 })] })] },
      0, 2, { count := 40, since := 0, sources := 1 }, by decide +kernel⟩,
   ⟨sOn, 0, 2, by decide +kernel⟩,
   ⟨sOn, 0, 8, by decide +kernel⟩,
   ⟨sOn, 0, by decide +kernel⟩,
   ⟨sOn, 0, 3, by decide +kernel⟩,
   ⟨{ sOn with links := [] }, 0, by decide +kernel⟩⟩

theorem witness_mailboxReportsAnswer :
    (∃ (s : State) (link : Fin 4), (s.link link.val).up = true ∧ s.bureau.lost = false) :=
  ⟨sOn, 0, by decide +kernel⟩

theorem witness_unsupportedMailboxCommands :
    (∃ (s : State) (link : Fin 4), (s.link link.val).up = true ∧ s.bureau.lost = false)
    ∧ (∃ (s : State) (link : Fin 4) (op : BitVec 16), (s.link link.val).up = true ∧ s.bureau.lost = false
      ∧ op.toNat ∉ mailOpcodes)
    ∧ (∃ (s : State) (link : Fin 4) (op : BitVec 16), (s.link link.val).up = true ∧ s.bureau.lost = true
      ∧ op.toNat ∉ mailOpcodes)
    ∧ (∃ (s : State) (link : Fin 4), (s.link link.val).up = true ∧ s.bureau.lost = true)
    ∧ (∃ (s : State) (a : DeskArgs), s.deskTakes a ∧ a.mailbox = false)
    ∧ (∃ (s : State) (a : DeskArgs) (op : BitVec 8), s.deskTakes a ∧ 10 ≤ op.toNat)
    ∧ (∃ (s : State) (seq : Nat), s.security.lastSeq ≠ some (seq % 256))
    ∧ (∃ (s : State) (seq : Nat), s.security.lastSeq = some (seq % 256)) :=
  ⟨⟨sOn, 0, by decide +kernel⟩,
   ⟨sOn, 0, 0x7777, by decide +kernel⟩,
   ⟨{ sOn with bureau := { Bureau.reset with lost := true } }, 0, 0x7777, by decide +kernel⟩,
   ⟨{ sOn with bureau := { Bureau.reset with lost := true } }, 0, by decide +kernel⟩,
   ⟨sOn, desk (0) (0xAB) (1), by unfold State.deskTakes; decide +kernel⟩,
   ⟨sOn, desk (0) (0) (0), 200, by unfold State.deskTakes; decide +kernel⟩,
   ⟨sOn, 0, by decide +kernel⟩,
   ⟨{ sOn with security := { Security.reset with lastSeq := some 0, lastResponse := [.svc 0x83 0 2 []] } },
      0, by decide +kernel⟩⟩

theorem witness_mailboxSettings :
    (∃ (s : State) (link : Fin 4) (log : Fin 4) (handles : List Nat), (s.link link.val).up = true
      ∧ s.bureau.lost = false ∧ (∀ h ∈ handles, ∃ r ∈ (s.link link.val).logs.get log.val [], r.seq = h))
    ∧ (∃ (s : State) (link : Fin 4) (log : Fin 4) (handles : List Nat), (s.link link.val).up = true
      ∧ s.bureau.lost = false ∧ (∃ h ∈ handles, ∀ r ∈ (s.link link.val).logs.get log.val [], r.seq ≠ h))
    ∧ (∃ (s : State) (link : Fin 4) (v : Map Nat), (s.link link.val).up = true ∧ s.bureau.lost = false
      ∧ (∀ e ∈ v, 1 ≤ e.1 ∧ e.1 ≤ 4 ∧ e.2 < s.vectorCount link.val))
    ∧ (∃ (s : State) (link : Fin 4) (v : Map Nat), (s.link link.val).up = true ∧ s.bureau.lost = false
      ∧ (∃ e ∈ v, e.1 = 0 ∨ 4 < e.1 ∨ s.vectorCount link.val ≤ e.2))
    ∧ (∃ (s : State) (link : Fin 4) (off : Nat) (len : Nat), (s.link link.val).up = true ∧ s.bureau.lost = false
      ∧ off + len ≤ 131072 ∧ len ≤ 4096)
    ∧ (∃ (s : State) (link : Fin 4) (off : Nat) (len : Nat), (s.link link.val).up = true ∧ s.bureau.lost = false
      ∧ 131072 < off + len ∨ 4096 < len)
    ∧ (∃ (s : State) (link : Fin 4) (off : Nat) (data : List Byte), (s.link link.val).up = true ∧ s.bureau.lost = false
      ∧ off + data.length ≤ 131072 ∧ data.length ≤ 4096 ∧ Mem.wf (s.link link.val).lsa = true)
    ∧ (∃ (s : State) (link : Fin 4) (off : Nat) (data : List Byte), (s.link link.val).up = true ∧ s.bureau.lost = false
      ∧ 131072 < off + data.length ∨ 4096 < data.length)
    ∧ (∃ (s : State) (link : Fin 4), (s.link link.val).up = true ∧ s.bureau.lost = false)
    ∧ (∃ (s : State) (link : Fin 4) (x : Nat), (s.link link.val).up = true ∧ s.bureau.lost = false ∧ x ≤ 1)
    ∧ (∃ (s : State) (link : Fin 4) (x : Nat), (s.link link.val).up = true ∧ s.bureau.lost = false ∧ 1 < x) :=
  ⟨⟨{ sOn with links := [(0, { linkUp with logs := [(0, [aRecord])] })] }, 0, 0, [5], by decide +kernel⟩,
   ⟨sOn, 0, 0, [3], by decide +kernel⟩,
   ⟨sOn, 0, [(1, 5)], by decide +kernel⟩,
   ⟨sOn, 0, [(5, 0)], by decide +kernel⟩,
   ⟨sOn, 0, 0, 4, by decide +kernel⟩,
   ⟨sOn, 0, 131072, 1, by decide +kernel⟩,
   ⟨sOn, 0, 10, [1, 0, 3], by decide +kernel⟩,
   ⟨sOn, 0, 131072, [1], by decide +kernel⟩,
   ⟨sOn, 0, by decide +kernel⟩,
   ⟨sOn, 0, 1, by decide +kernel⟩,
   ⟨sOn, 0, 2, by decide +kernel⟩⟩

theorem witness_poisonScanAndSanitize :
    (∃ (s : State) (link : Fin 4) (dpa : Nat) (len : Nat), (s.link link.val).up = true ∧ s.bureau.lost = false
      ∧ s.goodRange link.val dpa len = true)
    ∧ (∃ (s : State) (link : Fin 4) (dpa : Nat) (len : Nat), (s.link link.val).up = true ∧ s.bureau.lost = false
      ∧ s.goodRange link.val dpa len = true ∧ (s.link link.val).busy = false)
    ∧ (∃ (s : State) (link : Fin 4) (dpa : Nat) (len : Nat) (b : Nat) (d : Bool),
      (s.link link.val).background = some (0x4304, true, b) ∧ (s.link link.val).scan = some (dpa, len, d))
    ∧ (∃ (s : State) (link : Fin 4) (dpa : Nat) (len : Nat), (s.link link.val).up = true ∧ s.bureau.lost = false
      ∧ (s.link link.val).scan = some (dpa, len, true))
    ∧ (∃ (s : State) (link : Fin 4) (dpa : Nat), (s.link link.val).up = true ∧ s.bureau.lost = false
      ∧ s.ctl.access = true ∧ s.ctl.mode = .online ∧ s.sanitizing link.val = false ∧ s.ingress.writes = []
      ∧ s.goodRange link.val dpa 1 = true ∧ s.region dpa = .memory ∧ s.leaf (leafOf dpa) = .dirty
      ∧ s.groups.claims.find? (pageOf dpa) = none)
    ∧ (∃ (s : State) (link : Fin 4) (dpa : Nat), (s.link link.val).up = true ∧ s.bureau.lost = false
      ∧ s.ctl.access = true ∧ s.ctl.mode = .online ∧ s.sanitizing link.val = false ∧ s.ingress.writes = []
      ∧ s.goodRange link.val dpa 1 = true ∧ s.region dpa = .memory ∧ s.leaf (leafOf dpa) = .dirty
      ∧ s.groups.claims.find? (pageOf dpa) = none ∧ Mem.wf s.mem = true)
    ∧ (∃ (s : State) (link : Fin 4), (s.link link.val).up = true ∧ s.bureau.lost = false ∧ s.sanitizeBusy = false
      ∧ (s.link link.val).busy = false)
    ∧ (∃ (s : State) (i : Nat), s.sanitizer = some i ∧ s.mailClosed = false ∧ s.ctl.mode ≠ .drowse
      ∧ s.ingress.writes = [] ∧ s.ingress.reads = []) :=
  ⟨⟨sOn, 0, 64, 2, by decide +kernel⟩,
   ⟨sOn, 0, 64, 2, by decide +kernel⟩,
   ⟨{ sOn with links := [(0, { linkUp with background := some (0x4304, true, 3), scan := some (64, 2, false) })] },
      0, 64, 2, 3, false, by decide +kernel⟩,
   ⟨{ sOn with links := [(0, { linkUp with scan := some (64, 2, true) })] }, 0, 64, 2, by decide +kernel⟩,
   ⟨{ sOn with leaves := { base := .clean, exc := [(1, .dirty)] }, mem := [(0x10001, 7)] }, 0, 0x10000,
      by decide +kernel⟩,
   ⟨{ sOn with leaves := { base := .clean, exc := [(1, .dirty)] }, mem := [(0x10001, 7)], poison := [(1024, .injected)] },
      0, 0x10000, by decide +kernel⟩,
   ⟨sOn, 0, by decide +kernel⟩,
   ⟨{ ({ sOn with links := [(0, { linkUp with background := some (0x4400, true, 3) })] } : State) with mem := [(5, 1)], leaves := { base := .clean, exc := [(1, .dirty)] } },
      0, by decide +kernel⟩⟩

theorem witness_deviceSecurity :
    (∃ (s : State) (link : Fin 4) (m : Bool) (cur : Nat), (s.link link.val).up = true ∧ s.bureau.lost = false
      ∧ s.security.frozen = false ∧ s.security.locked = false ∧ (s.security.pass m = none
      ∨ s.security.pass m = some cur))
    ∧ (∃ (s : State) (link : Fin 4) (m : Bool) (cur : Nat), (s.link link.val).up = true ∧ s.bureau.lost = false
      ∧ s.security.frozen = false ∧ s.security.locked = false ∧ s.security.pass m = some cur)
    ∧ (∃ (s : State) (link : Fin 4) (p : Nat), (s.link link.val).up = true ∧ s.bureau.lost = false
      ∧ s.security.frozen = false ∧ s.security.locked = true ∧ s.security.attempts < 5 ∧ s.security.userPass = some p)
    ∧ (∃ (s : State) (link : Fin 4) (p : Nat), (s.link link.val).up = true ∧ s.bureau.lost = false
      ∧ s.security.frozen = false ∧ s.security.locked = true ∧ s.security.attempts < 5 ∧ s.security.userPass ≠ some p)
    ∧ (∃ (s : State) (link : Fin 4), (s.link link.val).up = true ∧ s.bureau.lost = false ∧ 5 ≤ s.security.attempts)
    ∧ (∃ (s : State) (link : Fin 4), (s.link link.val).up = true ∧ s.bureau.lost = false)
    ∧ (∃ (s : State) (link : Fin 4) (m : Bool) (p : Nat), (s.link link.val).up = true ∧ s.bureau.lost = false
      ∧ s.security.frozen = false ∧ s.security.pass m = some p) :=
  ⟨⟨sOn, 0, false, 0, by decide +kernel⟩,
   ⟨{ sOn with security := { Security.reset with userPass := some 5 } }, 0, false, 5, by decide +kernel⟩,
   ⟨{ sOn with security := { Security.reset with userPass := some 5, locked := true } }, 0, 5, by decide +kernel⟩,
   ⟨{ sOn with security := { Security.reset with userPass := some 5, locked := true } }, 0, 6, by decide +kernel⟩,
   ⟨{ sOn with security := { Security.reset with attempts := 5, locked := true } }, 0, by decide +kernel⟩,
   ⟨sOn, 0, by decide +kernel⟩,
   ⟨{ ({ sOn with security := { Security.reset with userPass := some 5 } } : State) with mem := [(5, 1)], leaves := { base := .clean, exc := [(1, .dirty)] } },
      0, false, 5, by decide +kernel⟩⟩

theorem witness_agesOfBursts :
    (∃ (a : Burst) (b : Burst), a.stamp = b.stamp) :=
  ⟨{ id := 1, mate := 0, chan := 0, off := 0, port := 9, cls := 2, own := 2, stamp := 0, unit := 0, write := true, inQueue := true, promoted := false, ancient := none, ingress := none, job := .none, extended := 0 },
      { id := 2, mate := 0, chan := 0, off := 0, port := 9, cls := 2, own := 2, stamp := 0, unit := 1, write := true, inQueue := true, promoted := false, ancient := none, ingress := none, job := .none, extended := 0 },
      by decide +kernel⟩

theorem witness_schedulerIssues :
    (∃ (s : State) (chan : Fin 13) (sub : Fin 2) (b : Burst), s.sched.bursts = [b] ∧ b.chan = chan.val
      ∧ b.sub = sub.val ∧ b.inQueue = true ∧ b.cls ≤ 7 ∧ b.job = .none ∧ s.portServed b = true)
    ∧ (∃ (s : State) (chan : Fin 13) (sub : Fin 2) (b : Burst), s.sched.bursts = [b] ∧ b.chan = chan.val
      ∧ b.sub = sub.val ∧ b.inQueue = true ∧ b.cls ≤ 7 ∧ b.job = .none ∧ s.portServed b = true ∧ b.write = false)
    ∧ (∃ (s : State) (chan : Fin 13) (sub : Fin 2) (a : Burst) (b : Burst), s.sched.bursts = [b, a] ∧ a.chan = chan.val
      ∧ a.sub = sub.val ∧ b.chan = chan.val ∧ b.sub = sub.val ∧ a.inQueue = true ∧ b.inQueue = true ∧ a.cls = 2
      ∧ b.cls = 2 ∧ a.promoted = false ∧ b.promoted = false ∧ a.ancient = none ∧ b.ancient = none ∧ a.id ≠ b.id
      ∧ a.job = .none ∧ waitsFor a b = false ∧ waitsFor b a = false ∧ s.rowHit a = false ∧ s.rowHit b = false
      ∧ s.portServed a = true ∧ s.portServed b = true ∧ olderStamp a.stamp b.stamp = true) :=
  ⟨⟨{ sOn with sched := { Sched.reset with bursts := [aBurst], nextId := 5 } }, 0, 0, aBurst, by decide +kernel⟩,
   ⟨{ sOn with sched := { Sched.reset with bursts := [{ id := 1, mate := 0, chan := 0, off := 0, port := 0, cls := 2, own := 2, stamp := 7, unit := 0, write := false, inQueue := true, promoted := false, ancient := none, ingress := none, job := .none, extended := 0 }], nextId := 5 } },
      0, 0, { id := 1, mate := 0, chan := 0, off := 0, port := 0, cls := 2, own := 2, stamp := 7, unit := 0, write := false, inQueue := true, promoted := false, ancient := none, ingress := none, job := .none, extended := 0 },
      by decide +kernel⟩,
   ⟨{ sOn with sched := { Sched.reset with bursts := [aBurst, { id := 2, mate := 0, chan := 0, off := 8388608, port := 1, cls := 2, own := 2, stamp := 5, unit := 9, write := true, inQueue := true, promoted := false, ancient := none, ingress := none, job := .none, extended := 0 }], nextId := 5 } },
      0, 0, { id := 2, mate := 0, chan := 0, off := 8388608, port := 1, cls := 2, own := 2, stamp := 5, unit := 9, write := true, inQueue := true, promoted := false, ancient := none, ingress := none, job := .none, extended := 0 },
      aBurst, by decide +kernel⟩⟩

theorem witness_schedulerEvents :
    (∃ (s : State) (chan : Fin 13) (id : Nat) (now : BitVec 16) (b : Burst), s.burst chan.val id = some b ∧ 1 ≤ b.cls
      ∧ b.promoted = false ∧ s.ctl.mode ≠ .save ∧ s.reg 0x3000 b.cls ≤ ageNs now b.stamp)
    ∧ (∃ (s : State) (chan : Fin 13) (id : Nat) (now : BitVec 16) (b : Burst), s.burst chan.val id = some b
      ∧ b.ancient = none ∧ 16384 ≤ (now - b.stamp).toNat)
    ∧ (∃ (s : State) (chan : Fin 13) (sub : Fin 2) (bank : Nat), s.selfRefresh = false
      ∧ s.refreshBlocked chan.val sub.val bank = false)
    ∧ (∃ (s : State) (chan : Fin 13) (sub : Fin 2) (bank : Nat) (deviceMax : Nat), s.selfRefresh = false
      ∧ s.refreshBlocked chan.val sub.val bank = true ∧ s.sched.postponed.get (32 * (2 * chan.val + sub.val) + (if s.reg 0x3020 0 = 0 then 0 else bank % 32)) 0 < s.postponeMax deviceMax)
    ∧ (∃ (s : State) (banks : List Nat), s.selfRefresh = false ∧ banks ≠ [])
    ∧ (∃ (s : State) (window : Fin 64), s.reg (0x2500 + window.val) 5 = 1 ∧ s.ctl.mode ≠ .save
      ∧ s.unrestoredDirty window.val = [] ∧ (∀ f ∈ s.windowLeaves window.val, f ∈ s.mirrorCopied))
    ∧ (∃ (s : State) (window : Fin 64) (f : Nat), s.reg (0x2500 + window.val) 5 = 1 ∧ s.ctl.mode ≠ .save
      ∧ s.unrestoredDirty window.val = [] ∧ s.windowLeaves window.val = [f] ∧ s.mirrorAt (f * 65536) = true
      ∧ f ∉ s.mirrorCopied) :=
  ⟨⟨{ sOn with sched := { Sched.reset with bursts := [{ id := 1, mate := 0, chan := 0, off := 0, port := 9, cls := 2, own := 2, stamp := 7, unit := 0, write := true, inQueue := true, promoted := false, ancient := none, ingress := none, job := .none, extended := 0 }], nextId := 5 } },
      0, 1, 20000, { id := 1, mate := 0, chan := 0, off := 0, port := 9, cls := 2, own := 2, stamp := 7, unit := 0, write := true, inQueue := true, promoted := false, ancient := none, ingress := none, job := .none, extended := 0 },
      by decide +kernel⟩,
   ⟨{ sOn with sched := { Sched.reset with bursts := [{ id := 1, mate := 0, chan := 0, off := 0, port := 9, cls := 2, own := 2, stamp := 7, unit := 0, write := true, inQueue := true, promoted := false, ancient := none, ingress := none, job := .none, extended := 0 }], nextId := 5 } },
      0, 1, 20000, { id := 1, mate := 0, chan := 0, off := 0, port := 9, cls := 2, own := 2, stamp := 7, unit := 0, write := true, inQueue := true, promoted := false, ancient := none, ingress := none, job := .none, extended := 0 },
      by decide +kernel⟩,
   ⟨sOn, 0, 0, 0, by decide +kernel⟩,
   ⟨{ sOn with sched := { Sched.reset with bursts := [{ (aBurst : Burst) with cls := 0 }], postponed := [(3, 0)] } },
      0, 0, 0, 4, by decide +kernel⟩,
   ⟨sOn, [2, 3], by decide +kernel⟩,
   ⟨{ (((sOn.setReg 0x2500 1 0).setReg 0x2500 2 65536).setReg 0x2500 3 7).setReg 0x2500 5 1 with leaves := { base := .clean, exc := [(0, .dirty)] }, mirrorCopied := [0] },
      0, by decide +kernel⟩,
   ⟨{ (((sOn.setReg 0x2500 1 0).setReg 0x2500 2 65536).setReg 0x2500 3 7).setReg 0x2500 5 1 with leaves := { base := .clean, exc := [(0, .dirty)] } },
      0, 0, by decide +kernel⟩⟩

theorem witness_trainingSetsTheChannel :
    (∃ (s : State) (chan : Fin 13) (rate : Nat), s.ctl.mode = .bringUp ∧ s.startsUp chan.val = true
      ∧ s.mustTrain chan.val = true ∧ rate = s.trainBin chan.val ∧ s.dram.requalifying.contains chan.val = false
      ∧ s.dram.evicted.contains (chan.val, rate) = false)
    ∧ (∃ (s : State) (chan : Fin 13) (rate : Nat) (lower : Nat), s.ctl.mode = .bringUp ∧ s.startsUp chan.val = true
      ∧ s.mustTrain chan.val = true ∧ rate = s.trainBin chan.val ∧ lowerBin rate = some lower)
    ∧ (∃ (s : State) (chan : Fin 13), s.ctl.mode = .bringUp ∧ s.startsUp chan.val = true ∧ s.mustTrain chan.val = true
      ∧ s.trainBin chan.val = 4800 ∧ s.dram.requalifying.contains chan.val = false)
    ∧ (∃ (s : State) (chan : Fin 13), s.ctl.mode = .bringUp ∧ s.startsUp chan.val = true
      ∧ s.mustTrain chan.val = false)
    ∧ (∃ (s : State) (chan : Fin 13), s.reg (0x3400 + chan.val) 2 ≠ 0 ∧ s.selfRefresh = false
      ∧ s.windowFree chan.val = true ∧ s.dram.dqsAt.get chan.val 0 + s.reg 0x3442 0 ≤ s.clock.beat) :=
  ⟨⟨{ (sOn.setReg 0x3400 3 6400) with ctl := { sOn.ctl with mode := .bringUp, access := false } }, 0, 6400,
      by decide +kernel⟩,
   ⟨{ (sOn.setReg 0x3400 3 6400) with ctl := { sOn.ctl with mode := .bringUp, access := false } }, 0, 6400, 5600,
      by decide +kernel⟩,
   ⟨{ (sOn.setReg 0x3400 3 6400) with ctl := { sOn.ctl with mode := .bringUp, access := false }, dram := { Dram.reset with training := [(0, 4800)] } },
      0, by decide +kernel⟩,
   ⟨{ (sOn.setReg 0x3400 3 6400) with ctl := { sOn.ctl with mode := .bringUp, access := false }, dram := { Dram.reset with records := [(0, [4800, 6400])] } },
      0, by decide +kernel⟩,
   ⟨{ sOn with regs := [(key 0x3400 2, 6400)], clock := { Clock.reset with beat := 90000000 } }, 0, by decide +kernel⟩⟩

theorem witness_onlineRetraining :
    (∃ (s : State) (chan : Fin 13) (temp : Int), (s.reg 0x3440 0 : Int) ≤ (temp - s.ireg (0x3400 + chan.val) 6).natAbs
      ∧ s.mayTrigger chan.val = true ∧ (s.ctl.mode = .online ∨ s.ctl.mode = .restore) ∧ s.retrainable chan.val = true
      ∧ s.dram.retrain = none ∧ s.dram.queue = [])
    ∧ (∃ (s : State) (chan : Fin 13) (errors : Nat) (other : Nat), s.reg 0x3441 0 < errors
      ∧ s.mayTrigger chan.val = true ∧ (s.ctl.mode = .online ∨ s.ctl.mode = .restore) ∧ s.retrainable chan.val = true
      ∧ s.dram.retrain = some other)
    ∧ (∃ (s : State) (chan : Fin 13), s.gatherOpen chan.val = true)
    ∧ (∃ (s : State) (chan : Fin 13), s.dram.retrain = some chan.val ∧ s.reg (0x3400 + chan.val) 5 = 2
      ∧ (s.ctl.mode = .online ∨ s.ctl.mode = .restore) ∧ s.windowFree chan.val = true
      ∧ s.dram.gathered.get chan.val 0 = s.reg (0x3400 + chan.val) 2 ∧ s.dram.queue = [])
    ∧ (∃ (s : State) (chan : Fin 13) (bin : Nat) (lower : Nat), s.dram.search.find? chan.val = some bin
      ∧ lowerBin bin = some lower ∧ s.ctl.mode ≠ .save ∧ s.ctl.mode ≠ .dormant)
    ∧ (∃ (s : State) (chan : Fin 13) (bin : Nat), s.dram.search.find? chan.val = some bin ∧ s.ctl.mode ≠ .save
      ∧ s.ctl.mode ≠ .dormant ∧ s.ingress.reads = [] ∧ s.dram.queue = []) :=
  ⟨⟨((sOn.setReg 0x3400 2 6400).setReg 0x3400 6 40), 0, 75, by decide +kernel⟩,
   ⟨{ (((sOn.setReg 0x3400 2 6400).setReg 0x3400 6 40) : State) with dram := { Dram.reset with retrain := some 3 } },
      0, 200, 3, by decide +kernel⟩,
   ⟨{ ((((sOn.setReg 0x3400 2 6400).setReg 0x3400 6 40).setReg 0x3400 5 1) : State) with dram := { Dram.reset with retrain := some 0, gather := some 5 } },
      0, by decide +kernel⟩,
   ⟨{ ((((sOn.setReg 0x3400 2 6400).setReg 0x3400 6 40).setReg 0x3400 5 2) : State) with dram := { Dram.reset with retrain := some 0, gathered := [(0, 6400)] } },
      0, by decide +kernel⟩,
   ⟨{ (((sOn.setReg 0x3400 2 6400).setReg 0x3400 6 40) : State) with dram := { Dram.reset with search := [(0, 6400)] } },
      0, 6400, 5600, by decide +kernel⟩,
   ⟨{ (((sOn.setReg 0x3400 2 6400).setReg 0x3400 6 40) : State) with dram := { Dram.reset with search := [(0, 6400)] } },
      0, 6400, by decide +kernel⟩⟩

theorem witness_errorsAndSparing :
    (∃ (s : State) (row : Nat), s.ctl.mode ≠ .dormant ∧ row < s.layout.rowCount)
    ∧ (∃ (s : State) (chan : Fin 13) (a : Nat), s.ctl.mode ≠ .dormant ∧ a < s.layout.hostVisible
      ∧ s.physical (s.layout.logical a) = chan.val)
    ∧ (∃ (s : State) (chan : Fin 13) (row : Nat), s.ctl.mode = .online ∨ s.ctl.mode = .restore
      ∧ s.reg (0x3400 + chan.val) 2 ≠ 0 ∧ row = (s.scrubNext chan.val).1 ∧ row < s.layout.rowCount)
    ∧ (∃ (s : State) (chan : Fin 13) (row : Nat), s.ctl.mode = .online ∨ s.ctl.mode = .restore
      ∧ s.rowFails chan.val row = true ∧ s.windowFree chan.val = true)
    ∧ (∃ (s : State) (chan : Fin 13) (row : Nat) (spare : Nat), s.ctl.mode = .online ∨ s.ctl.mode = .restore
      ∧ s.rowFails chan.val row = true ∧ s.chanState chan.val = 0 ∧ s.spare = some spare ∧ s.dram.target = none)
    ∧ (∃ (s : State) (target : Nat) (d : Nat), s.dram.target = some target ∧ s.logicalOf (s.reg 0x3450 1) = some d
      ∧ target ≠ s.reg 0x3450 1 ∧ target < 13 ∧ s.reg 0x3450 1 < 13 ∧ s.reg 0x3450 0 = 1 ∧ s.ctl.mode ≠ .save)
    ∧ (∃ (s : State) (chan : Fin 13) (d : Nat) (spare : Nat) (cause : LossCause), cause ≠ .railFault
      ∧ s.ctl.mode ≠ .dormant ∧ s.chanState chan.val = 0 ∧ s.logicalOf chan.val = some d ∧ s.dram.target = none
      ∧ s.spare = some spare ∧ s.reg 0x3450 0 = 0 ∧ Map.sorted s.leaves.exc = true)
    ∧ (∃ (s : State) (target : Nat), s.dram.target = some target ∧ s.reg 0x3450 0 = 2 ∧ s.ctl.mode ≠ .save
      ∧ s.ctl.mode ≠ .dormant ∧ target < 13 ∧ s.chanState target = 6) :=
  ⟨⟨sOn, 0, by decide +kernel⟩,
   ⟨sOn, 0, 64, by decide +kernel⟩,
   ⟨(sOn.setReg 0x3400 2 6400), 0, 0, by decide +kernel⟩,
   ⟨{ ((sOn.setReg 0x3400 2 6400) : State) with dram := { Dram.reset with soft := [], rowErrors := [(7, 100000)], rowUe := [(7, 3)] } },
      0, 7, by decide +kernel⟩,
   ⟨{ (((sOn.setReg 0x3400 2 6400).setReg 0x340C 1 5) : State) with dram := { Dram.reset with soft := [], rowErrors := [(7, 100000)], rowUe := [(7, 3)] } },
      0, 7, 12, by decide +kernel⟩,
   ⟨{ ((((sOn.setReg 0x3450 0 1).setReg 0x3450 1 2).setReg 0x3402 1 2) : State) with dram := { Dram.reset with target := some 12 } },
      12, 2, by decide +kernel⟩,
   ⟨{ sOn with leaves := { base := .clean, exc := [(1, .dirty), (2, .clean)] }, mem := [(0x10001, 7)] },
      1, 1, 12, .uncorrectable, by decide +kernel⟩,
   ⟨{ ((((sOn.setReg 0x3450 0 2).setReg 0x3450 1 2).setReg 0x340C 1 6) : State) with dram := { Dram.reset with target := some 12, lostLogical := some 2 } },
      12, by decide +kernel⟩⟩

theorem witness_deltaLogAndHeat :
    (∃ (s : State) (leaf : Nat) (e : Nat × LeafState × Nat), s.delta.lazy.find? (fun e => e.1 == leaf) = some e)
    ∧ (∃ (s : State), 1835008 ≤ s.delta.fill ∧ s.delta.writing = none)
    ∧ (∃ (s : State) (table : LeafTable) (n : Nat), s.delta.writing = some (table, n))
    ∧ (∃ (s : State), s.reg 0x4031 0 ≤ s.clock.beat - s.trickle.decayBeat) :=
  ⟨⟨{ sOn with delta := { DeltaLog.reset with lazy := [(4, .dirty, 3)] } }, 4, (4, .dirty, 3), by decide +kernel⟩,
   ⟨{ sOn with delta := { DeltaLog.reset with fill := 1835008 } }, by decide +kernel⟩,
   ⟨{ sOn with delta := { DeltaLog.reset with writing := some (LeafTable.reset, 1), fill := 1835010 } },
      LeafTable.reset, 1, by decide +kernel⟩,
   ⟨{ (sOn.setReg 0x4031 0 5) with clock := { Clock.reset with beat := 9 }, heat := [(2, { old := false, last := 0, heat := 6 })] },
      by decide +kernel⟩⟩

theorem witness_trickleCopies :
    (∃ (s : State) (f : Nat), s.trickleRuns = true ∧ s.copying < 64 ∧ s.trickle.rehearsal ≠ .run ∧ s.candidate = some f
      ∧ s.token = .take)
    ∧ (∃ (s : State), s.ctl.mode = .drowse ∧ s.ctl.waking = false ∧ s.reg 0x4050 0 = 1 ∧ s.ctl.tricklePeriod = false
      ∧ 0 < s.periodLeft ∧ s.leavesIn .dirty ≠ [])
    ∧ (∃ (s : State), s.ctl.mode = .drowse ∧ s.ctl.tricklePeriod = true) :=
  ⟨⟨{ sOn with leaves := { base := .clean, exc := [(1, .dirty)] }, heatBase := { old := true, last := 0, heat := 0 }, trickle := { Trickle.reset with candidates := [1], tokens := 1000000, rate := 1000 }, mem := [(0x10001, 7)] },
      1, by decide +kernel⟩,
   ⟨{ ((sOn.setReg 0x4050 0 1).setReg 0x4051 0 5 : State) with ctl := { sOn.ctl with mode := .drowse }, leaves := { base := .clean, exc := [(1, .dirty)] } },
      by decide +kernel⟩,
   ⟨{ sOn with ctl := { sOn.ctl with mode := .drowse, tricklePeriod := true }, leaves := { base := .clean, exc := [(1, .dirty)] } },
      by decide +kernel⟩⟩

theorem witness_rehearsal :
    (∃ (s : State) (cause : DueCause), s.trickle.rehearsal = .none ∧ (cause = .period
      → s.reg 0x4022 0 ≤ s.reg 0x4040 2 - s.trickle.lastHour) ∧ (cause = .afterSave → s.trickle.saveDue = true))
    ∧ (∃ (s : State), s.trickle.rehearsal = .due ∧ s.ctl.mode = .online ∧ s.niura.charger = .full ∧ s.holding = false
      ∧ s.save.arm = 0 ∧ s.niura.tripped = false ∧ s.niura.supply = .input ∧ s.niura.healthDue = false)
    ∧ (∃ (s : State), s.trickle.rehearsal = .idle ∧ 1000 ≤ s.clock.beat - s.trickle.phaseBeat)
    ∧ (∃ (s : State) (mj : Nat), s.trickle.rehearsal = .run ∧ 10000 ≤ s.clock.beat - s.trickle.phaseBeat
      ∧ rehearsalGood mj s.trickle.runBytes = true)
    ∧ (∃ (s : State) (mj : Nat), s.trickle.rehearsal = .run ∧ 10000 ≤ s.clock.beat - s.trickle.phaseBeat
      ∧ rehearsalGood mj s.trickle.runBytes = false)
    ∧ (∃ (s : State), s.trickle.rehearsal = .due ∧ s.trickle.overdue = false
      ∧ 8640000000 ≤ s.clock.beat - s.trickle.dueBeat)
    ∧ (∃ (s : State) (mv : Nat), s.niura.supply = .rehearse ∧ mv < s.reg 0x6060 6) :=
  ⟨⟨sOn, .request, by decide +kernel⟩,
   ⟨{ ({ sOn with niura := { Niura.reset with charger := .full } } : State) with trickle := { Trickle.reset with rehearsal := .due }, clock := { Clock.reset with beat := 8640000000 } },
      by decide +kernel⟩,
   ⟨{ sOn with trickle := { Trickle.reset with rehearsal := .idle }, clock := { Clock.reset with beat := 8640000000 } },
      by decide +kernel⟩,
   ⟨{ sOn with trickle := { Trickle.reset with rehearsal := .run, idleMj := 0, runBytes := 2560000000 }, clock := { Clock.reset with beat := 8640000000 } },
      5000, by decide +kernel⟩,
   ⟨{ sOn with trickle := { Trickle.reset with rehearsal := .run, idleMj := 0, runBytes := 0 }, clock := { Clock.reset with beat := 8640000000 } },
      500, by decide +kernel⟩,
   ⟨{ sOn with trickle := { Trickle.reset with rehearsal := .due }, clock := { Clock.reset with beat := 8640000000 } },
      by decide +kernel⟩,
   ⟨{ sOn with niura := { Niura.reset with supply := .rehearse }, trickle := { Trickle.reset with rehearsal := .run } },
      0, by decide +kernel⟩⟩

theorem witness_sleepAndWake :
    (∃ (s : State) (link : Fin 4) (wakeNow : BitVec 5), (s.link link.val).up = true ∧ s.bureau.lost = false
      ∧ s.ctl.mode = .online ∧ s.save.arm = 0 ∧ s.raceLost wakeNow = false)
    ∧ (∃ (s : State) (link : Fin 4) (saveNow : Bool), (s.link link.val).up = true ∧ s.bureau.lost = false
      ∧ (s.ctl.mode ≠ .online ∨ saveNow = true ∨ s.save.arm ≠ 0))
    ∧ (∃ (s : State) (link : Fin 4) (wakeNow : BitVec 5) (memNow : Bool), (s.link link.val).up = true
      ∧ s.bureau.lost = false ∧ s.ctl.mode = .online ∧ s.save.arm = 0 ∧ (memNow = true ∨ s.raceLost wakeNow = true))
    ∧ (∃ (s : State) (wakeNow : BitVec 5), s.ctl.mode = .online ∧ s.save.arm = 0 ∧ s.allConsent = true
      ∧ s.raceLost wakeNow = false)
    ∧ (∃ (s : State) (wakeNow : BitVec 5), s.ctl.mode = .online ∧ s.save.arm = 0 ∧ s.allConsent = true
      ∧ s.raceLost wakeNow = true)
    ∧ (∃ (s : State), s.reg 0x1112 0 ≠ 0 ∧ s.clock.ext.toNat = s.reg 0x1112 0)
    ∧ (∃ (s : State), s.reg 0x6080 0 ≠ 0)
    ∧ (∃ (s : State) (source : Fin 5), s.ctl.mode = .drowse ∧ s.wakeEnabled source.val = true)
    ∧ (∃ (s : State), s.ctl.mode = .drowse ∧ s.ctl.waking = true ∧ s.save.arm = 0 ∧ s.ingress.writes = []
      ∧ s.ingress.reads = []) :=
  ⟨⟨sOn, 0, 0, by decide +kernel⟩,
   ⟨sOn, 0, true, by decide +kernel⟩,
   ⟨sOn, 0, 0, true, by decide +kernel⟩,
   ⟨{ sOn with ctl := { sOn.ctl with consents := 1 } }, 0, by decide +kernel⟩,
   ⟨{ (sOn.setReg 0x1111 0 31 : State) with ctl := { sOn.ctl with consents := 1 } }, 31, by decide +kernel⟩,
   ⟨{ (sOn.setReg 0x1112 0 77) with clock := { Clock.reset with ext := 77 } }, by decide +kernel⟩,
   ⟨sOn.setReg 0x6080 0 2, by decide +kernel⟩,
   ⟨{ (sOn.setReg 0x1111 0 31) with ctl := { sOn.ctl with mode := .drowse } }, 0, by decide +kernel⟩,
   ⟨{ sOn with ctl := { sOn.ctl with mode := .drowse, waking := true } }, by decide +kernel⟩⟩

theorem witness_slotAccessesActAtOnce :
    (∃ (s : State) (a : DeskArgs), s.deskTakes a)
    ∧ (∃ (s : State) (a : DeskArgs), s.deskTakes a ∧ a.mailbox = false)
    ∧ (∃ (s : State) (a : DeskArgs) (op : BitVec 8), s.deskTakes a ∧ a.seq = (s.slot a.group).lastSeq + 1
      ∧ 10 ≤ op.toNat) :=
  ⟨⟨sOn, desk (0) (0xAB) (1), by unfold State.deskTakes; decide +kernel⟩,
   ⟨sOn, desk (0) (0xAB) (1), by unfold State.deskTakes; decide +kernel⟩,
   ⟨sOn, desk (0) (0) (0), 200, by unfold State.deskTakes; decide +kernel⟩⟩

theorem witness_groupCommands :
    (∃ (s : State) (a : DeskArgs), s.deskAccepts 1 a ∧ (s.slot a.group).state = .free ∧ (s.slot a.group).anchor = false
      ∧ (s.slot a.group).jfull = false)
    ∧ (∃ (s : State) (a : DeskArgs), s.deskAccepts 2 a ∧ (s.slot a.group).state = .opened
      ∧ (s.slot a.group).anchor = false ∧ (s.slot a.group).jfull = false ∧ a.specific ≠ 0
      ∧ s.claimRange (s.taken a) = none ∧ s.claimResources (s.taken a) = none ∧ s.claimAwaits (s.taken a) = [])
    ∧ (∃ (s : State) (a : DeskArgs), s.deskAccepts 3 a ∧ (s.slot a.group).state = .opened
      ∧ (s.slot a.group).anchor = false ∧ (s.slot a.group).jfull = false ∧ (a.flag = true ∨ a.specific.toNat ≤ 65536))
    ∧ (∃ (s : State) (a : DeskArgs), s.deskAccepts 4 a ∧ (s.slot a.group).state = .opened
      ∧ (s.slot a.group).anchor = false ∧ (s.slot a.group).jfull = false)
    ∧ (∃ (s : State) (a : DeskArgs), s.deskAccepts 5 a ∧ (s.slot a.group).state = .opened
      ∧ (s.slot a.group).anchor = false ∧ (s.slot a.group).jfull = false)
    ∧ (∃ (s : State) (a : DeskArgs), s.deskAccepts 9 a ∧ ((s.slot a.group).state = .committed
      ∨ (s.slot a.group).state = .aborted)) :=
  ⟨⟨sOn, desk (0) (0) (0), by unfold State.deskAccepts State.deskTakes; decide +kernel⟩,
   ⟨{ ((((sOn.setReg 0x2500 1 0).setReg 0x2500 2 1073741824).setReg 0x2500 3 3) : State) with groups := { Groups.reset with slots := [(3, { Slot.reset with state := .opened })] } },
      desk (0x2000000) (0x10000) (0x7F), by unfold State.deskAccepts State.deskTakes; decide +kernel⟩,
   ⟨{ ({ sOn with groups := { Groups.reset with slots := [(3, { Slot.reset with state := .opened })], claims := [(16, { group := 3, lines := 0 })] } } : State) with leaves := { base := .clean, exc := [(1, .pinned)] } },
      desk (0x1) (0) (0), by unfold State.deskAccepts State.deskTakes; decide +kernel⟩,
   ⟨{ ({ sOn with groups := { Groups.reset with slots := [(3, { Slot.reset with state := .opened })], claims := [(16, { group := 3, lines := 1 })], journal := [entry], nextJseq := 1 } } : State) with leaves := { base := .clean, exc := [(1, .pinned)] }, mem := [(0x10000, 7)] },
      desk (0) (0) (0), by unfold State.deskAccepts State.deskTakes; decide +kernel⟩,
   ⟨{ ({ sOn with groups := { Groups.reset with slots := [(3, { Slot.reset with state := .opened })], claims := [(16, { group := 3, lines := 1 })], journal := [entry], nextJseq := 1 } } : State) with leaves := { base := .clean, exc := [(1, .pinned)] }, mem := [(0x10000, 7)] },
      desk (0) (0) (0), by unfold State.deskAccepts State.deskTakes; decide +kernel⟩,
   ⟨{ sOn with groups := { Groups.reset with slots := [(3, { Slot.reset with state := .committed, result := 0 })] } },
      desk (0) (0) (0), by unfold State.deskAccepts State.deskTakes; decide +kernel⟩⟩

theorem witness_rollbackRestoresTheLines :
    (∃ (s : State) (g : Nat), s.rollbackReady g = true ∧ s.ctl.mode ≠ .save ∧ s.ctl.mode ≠ .dormant
      ∧ s.ctl.mode ≠ .bringUp ∧ s.ingress.writes = [] ∧ (s.slot g).waiting = [] ∧ Mem.wf s.mem = true
      ∧ (∀ e ∈ s.entriesOf g, Mem.wf e.pre = true ∧ ∀ c ∈ e.pre, c.1 / 256 = e.line)) :=
  ⟨{ ({ sOn with groups := { Groups.reset with slots := [(3, { Slot.reset with state := .aborted, running := true })], claims := [(16, { group := 3, lines := 1 })], journal := [entry], nextJseq := 1 } } : State) with leaves := { base := .clean, exc := [(1, .pinned)] }, mem := [(0x10000, 7)] },
      3, by decide +kernel⟩

theorem witness_jointCommands :
    (∃ (s : State) (a : DeskArgs), s.deskAccepts 6 a ∧ (s.slot a.group).state = .free ∧ (s.slot a.group).anchor = false
      ∧ (s.slot a.group).jfull = false ∧ s.beginCheck (s.taken a) = none)
    ∧ (∃ (s : State) (a : DeskArgs), s.deskAccepts 7 a ∧ (s.slot a.group).state = .opened
      ∧ (s.slot a.group).anchor = false ∧ (s.slot a.group).jfull = false ∧ s.prepareCheck (s.taken a) = none
      ∧ (∀ c ∈ s.groups.cache, c.txn ≠ operandTxn (s.taken a).operands))
    ∧ (∃ (s : State) (a : DeskArgs) (i : Nat) (d : Decision), s.deskAccepts 8 a ∧ (s.slot a.group).state = .opened
      ∧ (s.slot a.group).anchor = true ∧ (s.slot a.group).jfull = false ∧ Map.sorted s.groups.decisions = true
      ∧ s.decisionOf (s.slot a.group).txn = some (i, d) ∧ d.state = 1 ∧ d.slot = a.group) :=
  ⟨⟨sDom, desk (0x2000000) ((0x00060005 * 2 ^ 64)) (0xF00), by unfold State.deskAccepts State.deskTakes; decide +kernel⟩,
   ⟨{ sDom with groups := { Groups.reset with slots := [(3, { Slot.reset with state := .opened })] } },
      desk (0) ((5 * 2 ^ 54 + 77)) (0xFF), by unfold State.deskAccepts State.deskTakes; decide +kernel⟩,
   ⟨{ sDom with groups := { Groups.reset with slots := [(3, { Slot.reset with state := .opened, anchor := true, txn := (5 * 2 ^ 54 + 77) })], decisions := [(0, { txn := (5 * 2 ^ 54 + 77), state := 1, roster := [5, 6], acked := 0, slot := 3, begunBeat := 0, decidedBeat := 0, sentBeat := 0, presumed := false })] } },
      desk (0) (0) (0), 0, { txn := (5 * 2 ^ 54 + 77), state := 1, roster := [5, 6], acked := 0, slot := 3, begunBeat := 0, decidedBeat := 0, sentBeat := 0, presumed := false },
      by unfold State.deskAccepts State.deskTakes; decide +kernel⟩⟩

theorem witness_jointCellsAndTimers :
    (∃ (s : State) (source : Nat) (txn : Nat), s.ownAlive = true ∧ source < 1024 ∧ s.partsOf txn = []
      ∧ s.hasPart txn = false)
    ∧ (∃ (s : State) (source : Nat) (txn : Nat) (i : Nat) (k : Nat) (d : Decision), s.ownAlive = true
      ∧ s.decisionOf txn = some (i, d) ∧ Map.sorted s.groups.decisions = true ∧ rosterIndex d.roster source = some k
      ∧ d.acked / 2 ^ k % 2 = 0)
    ∧ (∃ (s : State) (txn : Nat) (i : Nat) (d : Decision), s.ownAlive = true ∧ s.ingress.writes = []
      ∧ s.decisionOf txn = some (i, d) ∧ 2 ≤ d.state)
    ∧ (∃ (s : State) (source : Nat) (txn : Nat), s.ownAlive = true ∧ source < 1024 ∧ s.ingress.writes = []
      ∧ Map.sorted s.groups.slots = true ∧ s.partsOf txn ≠ [])
    ∧ (∃ (s : State), s.ownAlive = true ∧ s.reg 0x4422 0 ≤ s.clock.beat - s.groups.resendBeat
      ∧ Map.sorted s.groups.decisions = true)
    ∧ (∃ (s : State) (g : Nat), (s.slot g).state = .prepared ∧ (s.slot g).part = true
      ∧ s.reg 0x4423 0 ≤ s.clock.beat - (s.slot g).queryBeat ∧ s.ownAlive = true
      ∧ s.alive (anchorOf (s.slot g).txn) = true ∧ anchorOf (s.slot g).txn ≠ s.member)
    ∧ (∃ (s : State) (g : Nat), (s.slot g).state = .inDoubt ∧ ((s.slot g).queryBeat = 0
      ∨ s.reg 0x4832 0 ≤ s.clock.beat - (s.slot g).queryBeat) ∧ s.ownAlive = true
      ∧ s.alive (anchorOf (s.slot g).txn) = true ∧ anchorOf (s.slot g).txn ≠ s.member)
    ∧ (∃ (s : State) (txn : Nat) (c : CachedDecision), c ∈ s.groups.cache ∧ c.txn = txn
      ∧ 1000000 ≤ s.clock.beat - c.beat) :=
  ⟨⟨sDom, 6, (6 * 2 ^ 54 + 77), by decide +kernel⟩,
   ⟨{ sDom with groups := { Groups.reset with slots := [(3, { Slot.reset with state := .opened })], decisions := [(0, aborted)] } },
      6, (5 * 2 ^ 54 + 77), 0, 1, aborted, by decide +kernel⟩,
   ⟨{ sDom with groups := { Groups.reset with slots := [(3, { Slot.reset with state := .opened })], decisions := [(0, aborted)] } },
      (5 * 2 ^ 54 + 77), 0, aborted, by decide +kernel⟩,
   ⟨{ sDom with groups := { Groups.reset with slots := [(3, { Slot.reset with state := .prepared, part := true, txn := (6 * 2 ^ 54 + 77) })] } },
      6, (6 * 2 ^ 54 + 77), by decide +kernel⟩,
   ⟨{ ({ sDom with groups := { Groups.reset with slots := [(3, { Slot.reset with state := .opened })], decisions := [(0, aborted)] } } : State) with clock := { Clock.reset with beat := 100000000 } },
      by decide +kernel⟩,
   ⟨{ ({ sDom with groups := { Groups.reset with slots := [(3, { Slot.reset with state := .prepared, part := true, txn := (6 * 2 ^ 54 + 77) })] } } : State) with clock := { Clock.reset with beat := 100000000 } },
      3, by decide +kernel⟩,
   ⟨{ ({ sDom with groups := { Groups.reset with slots := [(3, { Slot.reset with state := .inDoubt, part := true, txn := (6 * 2 ^ 54 + 77) })] } } : State) with clock := { Clock.reset with beat := 100000000 } },
      3, by decide +kernel⟩,
   ⟨{ sDom with groups := { Groups.reset with cache := [{ txn := 77, commit := true, beat := 5 }] }, clock := { Clock.reset with beat := 1000005 } },
      77, { txn := 77, commit := true, beat := 5 }, by decide +kernel⟩⟩

theorem witness_trestleLinks :
    (∃ (s : State) (port : Fin 2), s.trestleRuns = true ∧ s.reg (0x4810 + port.val) 2 = 1
      ∧ ((s.port port.val).state = .down ∨ (s.port port.val).state = .training ∨ (s.port port.val).state = .fault))
    ∧ (∃ (s : State) (port : Fin 2), (s.port port.val).state = .disabling)
    ∧ (∃ (s : State) (port : Fin 2), (s.port port.val).state = .pendingStart)
    ∧ (∃ (s : State) (port : Fin 2), s.trestleRuns = true ∧ s.inService port.val = true)
    ∧ (∃ (s : State) (port : Fin 2), s.trestleRuns = true ∧ s.mayUnwrap port.val = true) :=
  ⟨⟨{ sDom with trestle := { sDom.trestle with ports := [(0, { Port.reset with state := .down })] } },
      0, by decide +kernel⟩,
   ⟨{ sDom with trestle := { sDom.trestle with ports := [(0, { Port.reset with state := .disabling })] } },
      0, by decide +kernel⟩,
   ⟨{ sDom with trestle := { sDom.trestle with ports := [(0, { Port.reset with state := .pendingStart })] } },
      0, by decide +kernel⟩,
   ⟨sDom, 0, by decide +kernel⟩,
   ⟨{ ({ sDom with trestle := { sDom.trestle with ports := [(0, { Port.reset with state := .up, failed := true, hello := some hello })], master := some 5 } } : State) with clock := { Clock.reset with beat := 100000000 } },
      0, by decide +kernel⟩⟩

theorem witness_framesAndMastership :
    (∃ (s : State) (f : Frame), s.trestleRuns = true ∧ s.inService f.port.val = true ∧ f.crcGood = false
      ∧ f.badSpans = [] ∧ (s.port f.port.val).checkFails = [])
    ∧ (∃ (s : State) (f : Frame), s.trestleRuns = true ∧ s.inService f.port.val = true ∧ f.master ≠ s.member
      ∧ f.crcGood = true ∧ f.badSpans = [] ∧ f.cells = [] ∧ s.inDomain = true ∧ f.domain = s.reg 0x4800 1
      ∧ f.generation = s.reg 0x4800 3 ∧ s.duplicated f = false)
    ∧ (∃ (s : State) (f : Frame), s.trestleRuns = true ∧ s.trestle.issuing = true ∧ f.master = s.member
      ∧ s.foreign f = false ∧ s.inService f.port.val = true ∧ f.crcGood = true ∧ f.badSpans = [] ∧ f.cells = [])
    ∧ (∃ (s : State), s.trestleRuns = true ∧ s.inDomain = true ∧ s.trestle.issuing = false ∧ s.trestle.lastFrame = none
      ∧ (s.inService 0 = true ∨ s.inService 1 = true) ∧ 16 ≤ s.clock.beat - s.trestle.startBeat)
    ∧ (∃ (s : State) (b : Nat) (absent : Nat), s.trestle.lastFrame = some b ∧ s.trestleRuns = true ∧ s.inDomain = true
      ∧ s.trestle.issuing = false ∧ 3 + 2 * s.trestle.passed.length ≤ s.clock.beat - b
      ∧ absent = (if s.trestle.passed = [] then s.trestle.master.getD s.member else s.candidateMaster s.trestle.passed)) :=
  ⟨⟨sDom, { domain := 7, wire := 3, generation := 1, master := 2, ringB := false, takeover := false, wrapped := false, hops := 1, pathPs := 100, crcGood := false, roll := [], badSpans := [], cells := [], port := 0, lapNs := 2000, arrivalNs := 500 },
      by decide +kernel⟩,
   ⟨sDom, { domain := 7, wire := 3, generation := 1, master := 2, ringB := false, takeover := false, wrapped := false, hops := 1, pathPs := 100, crcGood := true, roll := [], badSpans := [], cells := [], port := 0, lapNs := 2000, arrivalNs := 500 },
      by decide +kernel⟩,
   ⟨{ sDom with trestle := { sDom.trestle with issuing := true, master := some 5 } },
      { domain := 7, wire := 3, generation := 1, master := 5, ringB := false, takeover := false, wrapped := false, hops := 1, pathPs := 100, crcGood := true, roll := [], badSpans := [], cells := [], port := 0, lapNs := 2000, arrivalNs := 500 },
      by decide +kernel⟩,
   ⟨{ sDom with clock := { Clock.reset with beat := 16 } }, by decide +kernel⟩,
   ⟨{ sDom with clock := { Clock.reset with beat := 60 }, trestle := { sDom.trestle with lastFrame := some 5, master := some 2 } },
      5, 2, by decide +kernel⟩⟩

theorem witness_cellsOfTheTrestle :
    (∃ (s : State) (seq : Nat) (f : Flight), s.trestle.flight.find? (fun f => f.cell.seq == seq) = some f
      ∧ 2 * s.reg 0x4808 0 + 1 ≤ s.clock.beat - f.beat)
    ∧ (∃ s : State, s.trestle.issuing = true ∧ s.trestleRuns = true ∧ ∀ b, s.trestle.sync = some b
      → 100000 ≤ s.clock.beat - b)
    ∧ (∃ (s : State) (source : Nat), s.ownAlive = true ∧ source ≠ s.member ∧ source < 1024 ∧ s.reg 0x4834 0 = 1)
    ∧ (∃ (s : State) (source : Nat) (set : Bool), s.ownAlive = true ∧ source ≠ s.member ∧ source < 1024
      ∧ (s.reg 0x4834 0 ≠ 1 ∨ set = false))
    ∧ (∃ (s : State) (source : Nat), (s.ownAlive = true ∨ s.ctl.mode = .drowse) ∧ source < 1024)
    ∧ (∃ (s : State) (source : Nat) (tag : Nat) (e : Nat × Tunnel), s.tunnelFor source tag = some e ∧ s.ownAlive = true
      ∧ e.2.role ≠ .fleet ∧ e.2.role ≠ .host)
    ∧ (∃ (s : State) (source : Nat) (tag : Nat) (e : Nat × Tunnel), s.tunnelFor source tag = some e ∧ s.ownAlive = true
      ∧ e.2.role ≠ .fleet ∧ e.2.role = .host ∧ (s.link e.2.link.val).up = true ∧ e.2.tag < 65536)
    ∧ (∃ (s : State) (tag : Nat) (key : Nat) (x : Tunnel), s.trestle.tunnels = [(key, x)] ∧ x.tag = tag ∧ tag < 65536
      ∧ x.role ≠ .fleet ∧ x.role ≠ .host ∧ (s.reg 0x4850 0 ≤ s.clock.beat - x.beat ∨ s.alive x.target = false)) :=
  ⟨⟨{ sDom with clock := { Clock.reset with beat := 90000 }, trestle := { sDom.trestle with flight := [{ cell := { source := 5, seq := 9, retry := false, dest := some 6, taken := 0, crcGood := true, body := .ack [4] }, port := 0, beat := 1, retries := 0 }] } },
      9, { cell := { source := 5, seq := 9, retry := false, dest := some 6, taken := 0, crcGood := true, body := .ack [4] }, port := 0, beat := 1, retries := 0 },
      by decide +kernel⟩,
   ⟨{ sDom with trestle := { sDom.trestle with issuing := true } }, by decide +kernel,
      by decide +kernel, fun _ h => nomatch h⟩,
   ⟨sDom.setReg 0x4834 0 1, 2, by decide +kernel⟩,
   ⟨sDom.setReg 0x4834 0 0, 2, false, by decide +kernel⟩,
   ⟨sDom, 2, by decide +kernel⟩,
   ⟨{ sDom with trestle := { sDom.trestle with tunnels := [(8, { target := 6, beat := 3, role := .board, link := 0, tag := 8 })] } },
      6, 8, (8, { target := 6, beat := 3, role := .board, link := 0, tag := 8 }), by decide +kernel⟩,
   ⟨{ sDom with trestle := { sDom.trestle with tunnels := [(8, { target := 6, beat := 3, role := .host, link := 0, tag := 8 })] }, links := sOn.links },
      6, 8, (8, { target := 6, beat := 3, role := .host, link := 0, tag := 8 }), by decide +kernel⟩,
   ⟨{ sDom with clock := { Clock.reset with beat := 900000000 }, trestle := { sDom.trestle with tunnels := [(8, { target := 6, beat := 3, role := .board, link := 0, tag := 8 })] } },
      8, 8, { target := 6, beat := 3, role := .board, link := 0, tag := 8 }, by decide +kernel⟩⟩

theorem witness_nandRows :
    (∃ (s : State) (lun : Nat), s.nand.forming ≠ [] ∧ 100 ≤ s.clock.beat - s.nand.formedAt ∧ s.ctl.mode ≠ .save
      ∧ s.nextLun = some lun ∧ s.nand.unavailable = false)
    ∧ (∃ (s : State) (row : Nat) (slot : Nat) (r : Row) (x : Stripe), s.nand.rows.find? row = some r
      ∧ r.stripes = [(slot, x)] ∧ x.origin = 0 ∧ row < s.nand.nextRowId ∧ s.missing r.segment ≤ r.missing
      ∧ s.leaf x.leaf = .copying ∧ x.live = true ∧ Mem.wf x.data = true)
    ∧ (∃ (s : State) (row : Nat) (slot : Nat) (k : Nat) (chan : Fin 18) (r : Row) (x : Stripe),
      s.nand.rows.find? row = some r ∧ r.stripes.find? slot = some x ∧ s.ctl.mode ≠ .save ∧ x.origin ≠ 2 ∧ x.origin ≠ 3
      ∧ s.leaf x.leaf = .copying ∧ x.live = true ∧ (s.segment r.segment).units.find? chan.val = some k
      ∧ (s.eraseUnit k).state ≠ 3) :=
  ⟨⟨{ sOn with leaves := { base := .clean, exc := [(1, .copying)] }, mem := [(0x10000, 7)], clock := { Clock.reset with beat := 500 }, nand := { sOn.nand with forming := [stripe], openData := [(0, 2)], segments := [(2, { state := 1, openNo := 1, valid := 0, rows := 0, lun := 0, units := [(5, 83886089)] })] } },
      0, by decide +kernel⟩,
   ⟨{ sOn with leaves := { base := .clean, exc := [(1, .copying)] }, mem := [(0x10000, 7)], clock := { Clock.reset with beat := 500 }, nand := { sOn.nand with segments := [(2, { state := 1, openNo := 1, valid := 0, rows := 1, lun := 0, units := [(0, 0), (1, 16777216), (2, 33554432), (3, 50331648), (4, 67108864), (5, 83886080), (6, 100663296), (7, 117440512), (8, 134217728), (9, 150994944), (10, 167772160), (11, 184549376), (12, 201326592), (13, 218103808), (14, 234881024), (15, 251658240), (16, 268435456), (17, 285212672)] })], nextRowId := 1, rows := [(0, { segment := 2, row := 0, missing := 0, stripes := [(0, stripe)] })] } },
      0, 0, { segment := 2, row := 0, missing := 0, stripes := [(0, stripe)] }, stripe, by decide +kernel⟩,
   ⟨{ sOn with leaves := { base := .clean, exc := [(1, .copying)] }, mem := [(0x10000, 7)], clock := { Clock.reset with beat := 500 }, nand := { sOn.nand with segments := [(2, { state := 1, openNo := 1, valid := 0, rows := 1, lun := 0, units := [(0, 9)] })], rows := [(0, { segment := 2, row := 0, missing := 0, stripes := [(0, stripe)] })] } },
      0, 0, 9, 0, { segment := 2, row := 0, missing := 0, stripes := [(0, stripe)] }, stripe, by decide +kernel⟩⟩

theorem witness_nandUpkeep :
    (∃ (s : State), s.storeRuns = true ∧ s.nand.checkpoint = none
      ∧ ((s.reg 0x5031 0 ≤ s.clock.beat - s.nand.checkpointBeat ∧ 0 < s.nand.sinceCheckpoint)
      ∨ s.reg 0x5030 0 ≤ s.nand.sinceCheckpoint))
    ∧ (∃ (s : State) (c : Checkpoint), s.nand.checkpoint = some c)
    ∧ (∃ (s : State) (v : Nat), s.gcVictim = some v ∧ s.storeRuns = true ∧ s.segmentsFree < s.reg 0x5020 0
      ∧ s.nand.victim = none ∧ s.relocationToken ≠ .no)
    ∧ (∃ (s : State) (v : Nat), s.nand.victim = some v ∧ (s.segment v).valid = 0 ∧ (s.unitsOf v).Nodup)
    ∧ (∃ (s : State) (chan : Fin 18) (lun : Nat), s.lunStands chan.val lun = true)
    ∧ (∃ (s : State) (r : Nat × Nat), s.nand.rebuild = [r] ∧ s.rebuildLeft r = 0)
    ∧ (∃ (s : State) (chan : Fin 18), s.nand.channelsFailed.contains chan.val = false) :=
  ⟨⟨{ sOn with leaves := { base := .clean, exc := [(1, .copying)] }, mem := [(0x10000, 7)], clock := { Clock.reset with beat := 500 }, nand := { sOn.nand with sinceCheckpoint := 900000 } },
      by decide +kernel⟩,
   ⟨{ sOn with leaves := { base := .clean, exc := [(1, .copying)] }, mem := [(0x10000, 7)], clock := { Clock.reset with beat := 500 }, nand := { sOn.nand with checkpoint := some { seq := 44, openNo := 0, rowId := 0, stripes := 2, segs := [], map := [], dGeneration := 3, dValues := [], crypt := { keyId := 0, key := 0, tweak := 0 } } } },
      { seq := 44, openNo := 0, rowId := 0, stripes := 2, segs := [], map := [], dGeneration := 3, dValues := [], crypt := { keyId := 0, key := 0, tweak := 0 } },
      by decide +kernel⟩,
   ⟨{ ({ sOn with leaves := { base := .clean, exc := [(1, .copying)] }, mem := [(0x10000, 7)], clock := { Clock.reset with beat := 500 }, nand := { sOn.nand with unitsPerLun := 1, segments := [(2, { state := 2, openNo := 1, valid := 0, rows := 4, lun := 0, units := [(5, 83886089)] })] } } : State) with trickle := { Trickle.reset with tokens := 100000000, rate := 100000 } },
      2, by decide +kernel⟩,
   ⟨{ sOn with leaves := { base := .clean, exc := [(1, .copying)] }, mem := [(0x10000, 7)], clock := { Clock.reset with beat := 500 }, nand := { sOn.nand with victim := some 2, segments := [(2, { state := 2, openNo := 1, valid := 0, rows := 4, lun := 0, units := [(5, 83886089)] })] } },
      2, by decide +kernel⟩,
   ⟨sOn, 0, 0, by decide +kernel⟩,
   ⟨{ sOn with leaves := { base := .clean, exc := [(1, .copying)] }, mem := [(0x10000, 7)], clock := { Clock.reset with beat := 500 }, nand := { sOn.nand with rebuild := [(1, 2)] } },
      (1, 2), by decide +kernel⟩,
   ⟨sOn, 0, by decide +kernel⟩⟩

theorem witness_saveBegins :
    (∃ (s : State), s.ctl.vaux = true ∧ (s.niura.high = true ∨ s.niura.falling = true) ∧ s.niura.supply ≠ .cutoff
      ∧ (s.ctl.mode = .online ∨ s.ctl.mode = .drowse) ∧ s.save.arm = 0)
    ∧ (∃ (s : State), s.ctl.mode ≠ .save ∧ s.ctl.mode ≠ .bringUp ∧ s.save.arm = 1)
    ∧ (∃ (s : State), s.ctl.mode = .save ∧ (s.save.state = .closing ∨ s.save.state = .draining) ∧ s.ingress.writes = []
      ∧ s.dram.awaiting = [] ∧ s.ingress.reads = [] ∧ (∀ e ∈ s.groups.slots, e.2.touching = false)
      ∧ Map.sorted s.leaves.exc = true) :=
  ⟨⟨{ sOn with niura := { Niura.reset with high := true } }, by decide +kernel⟩,
   ⟨{ sOn with save := { Save.reset with arm := 1, state := .arming, trigger := .powerFail }, leaves := { base := .clean, exc := [(1, .dirty), (3, .pinned)] }, mem := [(0x10001, 7), (0x30005, 9)] },
      by decide +kernel⟩,
   ⟨{ inSave (sOn.setReg 0x5402 0 4) with save := { Save.reset with state := .closing, trigger := .powerFail }, leaves := { base := .clean, exc := [(1, .dirty), (3, .pinned)] }, mem := [(0x10001, 7), (0x30005, 9)] },
      by decide +kernel⟩⟩

theorem witness_saveRuns :
    (∃ (s : State) (i : SaveImage), s.ctl.mode = .save ∧ s.save.state = .groupSet ∧ s.nand.image = some i)
    ∧ (∃ (s : State), s.ctl.mode = .save ∧ s.save.state = .leaves ∧ s.save.stopped = false ∧ (s.save.todo ≠ []
      ∨ s.nand.forming ≠ []) ∧ s.reg 0x6010 0 < s.needMj)
    ∧ (∃ (s : State), s.ctl.mode = .save ∧ s.save.state = .leaves ∧ s.save.stopped = false ∧ (s.save.todo ≠ []
      ∨ s.nand.forming ≠ []) ∧ s.needMj ≤ s.reg 0x6010 0)
    ∧ (∃ (s : State), s.ctl.mode = .save ∧ s.save.state = .leaves ∧ s.saveRows = 0 ∧ (s.save.stopped = true
      ∨ (s.save.todo = [] ∧ s.nand.forming = [])))
    ∧ (∃ (s : State), s.ctl.mode = .save ∧ s.save.state = .deltas)
    ∧ (∃ (s : State) (i : SaveImage), s.ctl.mode = .save ∧ s.save.state = .sealing ∧ s.nand.image = some i) :=
  ⟨⟨{ inSave (sOn) with save := { Save.reset with state := .groupSet }, nand := { sOn.nand with image := some image }, leaves := { base := .clean, exc := [(1, .dirty), (3, .pinned)] }, mem := [(0x10001, 7), (0x30005, 9)] },
      image, by decide +kernel⟩,
   ⟨{ inSave (sOn.setReg 0x6010 0 0) with save := { Save.reset with state := .leaves, todo := [1, 3] }, nand := { sOn.nand with image := some { image with groupSetDone := true } }, leaves := { base := .clean, exc := [(1, .dirty), (3, .pinned)] }, mem := [(0x10001, 7), (0x30005, 9)] },
      by decide +kernel⟩,
   ⟨{ inSave (sOn.setReg 0x6010 0 100000000) with save := { Save.reset with state := .leaves, todo := [1, 3] }, nand := { sOn.nand with image := some { image with groupSetDone := true } }, leaves := { base := .clean, exc := [(1, .dirty), (3, .pinned)] }, mem := [(0x10001, 7), (0x30005, 9)] },
      by decide +kernel⟩,
   ⟨{ inSave (sOn) with save := { Save.reset with state := .leaves, stopped := true, todo := [1, 3] }, nand := { sOn.nand with image := some { image with groupSetDone := true } }, leaves := { base := .clean, exc := [(1, .dirty), (3, .pinned)] }, mem := [(0x10001, 7), (0x30005, 9)] },
      by decide +kernel⟩,
   ⟨{ inSave (sOn) with save := { Save.reset with state := .deltas }, nand := { sOn.nand with image := some image }, leaves := { base := .clean, exc := [(1, .dirty), (3, .pinned)] }, mem := [(0x10001, 7), (0x30005, 9)] },
      by decide +kernel⟩,
   ⟨{ inSave (sOn.setReg 0x5402 0 4) with save := { Save.reset with state := .sealing }, nand := { sOn.nand with image := some image }, leaves := { base := .clean, exc := [(1, .dirty), (3, .pinned)] }, mem := [(0x10001, 7), (0x30005, 9)] },
      image, by decide +kernel⟩⟩

theorem witness_saveEnds :
    (∃ (s : State), s.ctl.mode = .save ∧ s.save.state = .sealed ∧ s.save.trigger = .command ∧ s.save.noWithdraw = false
      ∧ s.niura.high = true ∧ s.ctl.coldPending = none ∧ s.ingress.writes = [] ∧ s.ingress.reads = [])
    ∧ (∃ (s : State), s.ctl.mode = .save ∧ s.save.state = .sealed ∧ (s.save.trigger = .commandHalt
      ∨ s.save.trigger = .channelUncovered ∨ s.save.noWithdraw = true) ∧ s.ctl.coldPending = none)
    ∧ (∃ (s : State) (i : SaveImage), s.ctl.mode = .save ∧ (s.save.trigger = .powerFail ∨ s.save.trigger = .planned)
      ∧ s.save.noWithdraw = false ∧ s.save.state = .leaves ∧ s.mayWithdraw = true ∧ s.nand.image = some i
      ∧ s.ctl.coldPending = none ∧ s.ingress.writes = [] ∧ s.ingress.reads = [] ∧ s.nand.rows = []
      ∧ (∀ e ∈ s.groups.slots, e.2.touching = false)) :=
  ⟨⟨{ inSave (sOn) with save := { Save.reset with state := .sealed, trigger := .command }, nand := { sOn.nand with image := some { image with sealRecord := none } }, leaves := { base := .clean, exc := [(1, .dirty), (3, .pinned)] }, mem := [(0x10001, 7), (0x30005, 9)], niura := { Niura.reset with high := true, highBeats := 1000000, inputGood := true } },
      by decide +kernel⟩,
   ⟨{ inSave (sOn) with save := { Save.reset with state := .sealed, trigger := .commandHalt }, nand := { sOn.nand with image := some image }, leaves := { base := .clean, exc := [(1, .dirty), (3, .pinned)] }, mem := [(0x10001, 7), (0x30005, 9)], niura := { Niura.reset with high := true, highBeats := 1000000, inputGood := true } },
      by decide +kernel⟩,
   ⟨{ inSave (sOn.setReg 0x4015 0 100000000000) with save := { Save.reset with state := .leaves, trigger := .powerFail, todo := [1, 3] }, nand := { sOn.nand with image := some { image with groupSetDone := true } }, leaves := { base := .clean, exc := [(1, .dirty), (3, .pinned)] }, mem := [(0x10001, 7), (0x30005, 9)], niura := { Niura.reset with high := true, highBeats := 1000000, inputGood := true } },
      { image with groupSetDone := true }, by decide +kernel⟩⟩

theorem witness_leavesAreRestored :
    (∃ (s : State) (leaf : Nat), s.save.touch.contains leaf = true ∧ s.leaf leaf = .restoring ∧ s.ctl.mode ≠ .save
      ∧ s.ctl.mode ≠ .dormant ∧ s.undoOf leaf = [] ∧ s.claimedLeaf leaf = false ∧ s.ingress.writes = []
      ∧ s.ingress.reads = [] ∧ s.save.touchWait = [] ∧ (∀ e ∈ s.groups.slots, e.2.touching = false)
      ∧ Mem.wf s.mem = true ∧ Mem.wf (s.plainOf leaf) = true ∧ (∀ c ∈ s.plainOf leaf, c.1 / 65536 = leaf))
    ∧ (∃ (s : State) (leaf : Nat) (read : StripeRead), s.save.touch.contains leaf = false ∧ leaf ∈ s.dram.rebuildTouch
      ∧ s.ctl.mode ≠ .save ∧ s.ctl.mode ≠ .dormant ∧ s.ingress.writes = [] ∧ s.ingress.reads = []
      ∧ (∀ e ∈ s.groups.slots, e.2.touching = false) ∧ s.stripeRecovered leaf read = true)
    ∧ (∃ (s : State) (leaf : Nat) (e : JEntry) (read : StripeRead), s.backgroundLeaf = some leaf
      ∧ s.ctl.mode = .restore ∧ s.ctl.access = true ∧ s.undoOf leaf = [e] ∧ e.line / 256 = leaf
      ∧ s.claimedLeaf leaf = false ∧ s.ingress.writes = [] ∧ s.ingress.reads = []
      ∧ (∀ e ∈ s.groups.slots, e.2.touching = false) ∧ Mem.wf s.mem = true ∧ Mem.wf (s.plainOf leaf) = true
      ∧ (∀ c ∈ s.plainOf leaf, c.1 / 65536 = leaf) ∧ Mem.wf e.pre = true ∧ (∀ c ∈ e.pre, c.1 / 256 = e.line)
      ∧ s.stripeRecovered leaf read = true)
    ∧ (∃ (s : State), s.ctl.mode = .restore ∧ s.ctl.access = true ∧ s.unrestored = 0 ∧ s.save.arm = 0)
    ∧ (∃ (s : State), s.ctl.mode = .restore ∧ s.ctl.access = false ∧ s.security.locked = false ∧ s.save.loading = 0)
    ∧ (∃ (s : State), s.ctl.mode = .restore ∧ s.ctl.access = false ∧ s.save.loading = 1 ∧ s.liveImage = none
      ∧ s.liveCheckpoint = none ∧ s.ingress.writes = [] ∧ s.ingress.reads = [])
    ∧ (∃ (s : State) (i : SaveImage), s.ctl.mode = .restore ∧ s.ctl.access = false ∧ s.save.loading = 1
      ∧ s.liveImage = some i ∧ i.outcome = 1 ∧ s.ctl.newFrom = none ∧ s.ingress.writes = [] ∧ s.ingress.reads = []) :=
  ⟨⟨{ sOn with ctl := { sOn.ctl with mode := .restore }, leaves := { base := .clean, exc := [(2, .restoring)] }, mem := [(0x10001, 7), (0x20001, 9)], nand := { sOn.nand with copies := [(2, aCopy)], segments := [(1, { state := 1, openNo := 1, valid := 1, rows := 1, lun := 0, units := [(0, 0), (1, 16777216), (2, 33554432), (3, 50331648), (4, 67108864), (5, 83886080), (6, 100663296), (7, 117440512), (8, 134217728), (9, 150994944), (10, 167772160), (11, 184549376), (12, 201326592), (13, 218103808), (14, 234881024), (15, 251658240), (16, 268435456), (17, 285212672)] })], flash := [(65536, { leaf := 2, seq := 3, origin := 1, keyId := 0, epoch := 4, poison := [], missing := 0, rowId := 0, cipher := { crypt := { keyId := 0, key := 0, tweak := 32 }, plain := [(0x20004, 5)] } })], keyPresent := true }, save := { Save.reset with touch := [2], restoreState := 3, loading := 2 } },
      2, by decide +kernel⟩,
   ⟨{ sOn with ctl := { sOn.ctl with mode := .restore }, leaves := { base := .clean, exc := [(2, .dirty)] }, mem := [(0x10001, 7), (0x20001, 9)], nand := { sOn.nand with copies := [(2, aCopy)], segments := [(1, { state := 1, openNo := 1, valid := 1, rows := 1, lun := 0, units := [(0, 0), (1, 16777216), (2, 33554432), (3, 50331648), (4, 67108864), (5, 83886080), (6, 100663296), (7, 117440512), (8, 134217728), (9, 150994944), (10, 167772160), (11, 184549376), (12, 201326592), (13, 218103808), (14, 234881024), (15, 251658240), (16, 268435456), (17, 285212672)] })], flash := [(65536, { leaf := 2, seq := 3, origin := 1, keyId := 0, epoch := 4, poison := [], missing := 0, rowId := 0, cipher := { crypt := { keyId := 0, key := 0, tweak := 32 }, plain := [(0x20004, 5)] } })], keyPresent := true }, dram := { Dram.reset with rebuildTouch := [2], target := some 12, lostLogical := some 2 } },
      2, { corrected := [], erased := [] }, by decide +kernel⟩,
   ⟨{ sOn with ctl := { sOn.ctl with mode := .restore }, leaves := { base := .clean, exc := [(2, .unrestored)] }, mem := [(0x10001, 7), (0x20001, 9)], nand := { sOn.nand with copies := [(2, aCopy)], segments := [(1, { state := 1, openNo := 1, valid := 1, rows := 1, lun := 0, units := [(0, 0), (1, 16777216), (2, 33554432), (3, 50331648), (4, 67108864), (5, 83886080), (6, 100663296), (7, 117440512), (8, 134217728), (9, 150994944), (10, 167772160), (11, 184549376), (12, 201326592), (13, 218103808), (14, 234881024), (15, 251658240), (16, 268435456), (17, 285212672)] })], flash := [(65536, { leaf := 2, seq := 3, origin := 1, keyId := 0, epoch := 4, poison := [], missing := 0, rowId := 0, cipher := { crypt := { keyId := 0, key := 0, tweak := 32 }, plain := [(0x20004, 5)] } })], keyPresent := true }, save := { Save.reset with restoreState := 3, loading := 2 }, groups := { Groups.reset with undo := [undoEntry] } },
      2, undoEntry, { corrected := [], erased := [] }, by decide +kernel⟩,
   ⟨{ sOn with ctl := { sOn.ctl with mode := .restore }, leaves := { base := .clean, exc := [(2, .dirty)] }, mem := [(0x10001, 7), (0x20001, 9)], nand := { sOn.nand with copies := [(2, aCopy)], segments := [(1, { state := 1, openNo := 1, valid := 1, rows := 1, lun := 0, units := [(0, 0), (1, 16777216), (2, 33554432), (3, 50331648), (4, 67108864), (5, 83886080), (6, 100663296), (7, 117440512), (8, 134217728), (9, 150994944), (10, 167772160), (11, 184549376), (12, 201326592), (13, 218103808), (14, 234881024), (15, 251658240), (16, 268435456), (17, 285212672)] })], flash := [(65536, { leaf := 2, seq := 3, origin := 1, keyId := 0, epoch := 4, poison := [], missing := 0, rowId := 0, cipher := { crypt := { keyId := 0, key := 0, tweak := 32 }, plain := [(0x20004, 5)] } })], keyPresent := true } },
      by decide +kernel⟩,
   ⟨{ sOn with ctl := { sOn.ctl with mode := .restore, access := false }, leaves := { base := .clean, exc := [(2, .dirty)] }, mem := [(0x10001, 7), (0x20001, 9)], nand := { sOn.nand with copies := [(2, aCopy)], segments := [(1, { state := 1, openNo := 1, valid := 1, rows := 1, lun := 0, units := [(0, 0), (1, 16777216), (2, 33554432), (3, 50331648), (4, 67108864), (5, 83886080), (6, 100663296), (7, 117440512), (8, 134217728), (9, 150994944), (10, 167772160), (11, 184549376), (12, 201326592), (13, 218103808), (14, 234881024), (15, 251658240), (16, 268435456), (17, 285212672)] })], flash := [(65536, { leaf := 2, seq := 3, origin := 1, keyId := 0, epoch := 4, poison := [], missing := 0, rowId := 0, cipher := { crypt := { keyId := 0, key := 0, tweak := 32 }, plain := [(0x20004, 5)] } })], keyPresent := true } },
      by decide +kernel⟩,
   ⟨{ sOn with ctl := { sOn.ctl with mode := .restore, access := false }, save := { Save.reset with loading := 1, restoreState := 2 }, mem := [(7, 1)] },
      by decide +kernel⟩,
   ⟨{ sOn with ctl := { sOn.ctl with mode := .restore, access := false }, save := { Save.reset with loading := 1, restoreState := 2 }, mem := [(7, 1)], nand := { sOn.nand with image := some { image with groupSetDone := true, credited := [1, 3], carriedLost := [6], sealRecord := some sealed }, keyPresent := true } },
      { image with groupSetDone := true, credited := [1, 3], carriedLost := [6], sealRecord := some sealed },
      by decide +kernel⟩⟩

theorem witness_chargerAndStore :
    (∃ (s : State), s.niura.charger = .precharge ∧ s.cellsAbove 3000 = true)
    ∧ (∃ (s : State), s.niura.charger = .cc ∧ s.chargedMv ≤ s.niura.vStoreMv)
    ∧ (∃ (s : State), s.niura.charger = .cv ∧ 100 ≤ s.niura.termBeats)
    ∧ (∃ (s : State), s.niura.charger = .full ∧ s.vOc * 100 < s.chargedMv * (100 - s.reg 0x6024 0))
    ∧ (∃ (s : State), (s.niura.charger = .precharge ∨ s.niura.charger = .cc ∨ s.niura.charger = .cv)
      ∧ s.reg 0x6025 0 * 6000000 < s.niura.chargeBeats)
    ∧ (∃ (s : State), s.niura.charger = .fault ∧ s.niura.faultTimeout = false ∧ 1000 ≤ s.niura.faultBeats)
    ∧ (∃ (s : State) (k : Fin 4), s.stringsIn.contains k.val = true ∧ 10 ≤ s.niura.share.get k.val 0)
    ∧ (∃ (s : State), s.niura.supply = .holdup ∧ s.vOc ≤ s.vCut)
    ∧ (∃ (s : State) (mv : Nat), s.ctl.vaux = true ∧ mv < s.reg 0x6002 4) :=
  ⟨⟨{ (fitted.setReg 0x6000 7 0 : State) with niura := { Niura.reset with charger := .precharge, vStoreMv := 18100 } },
      by decide +kernel⟩,
   ⟨{ fitted with niura := { Niura.reset with charger := .cc, vStoreMv := 18100 } }, by decide +kernel⟩,
   ⟨{ fitted with niura := { Niura.reset with charger := .cv, termBeats := 100, firstFull := true } },
      by decide +kernel⟩,
   ⟨{ fitted with niura := { Niura.reset with charger := .full, vStoreMv := 16000 } }, by decide +kernel⟩,
   ⟨{ fitted with niura := { Niura.reset with charger := .cc, chargeBeats := 72000001 } }, by decide +kernel⟩,
   ⟨{ fitted with niura := { Niura.reset with charger := .fault, faultBeats := 1000 } }, by decide +kernel⟩,
   ⟨{ fitted with niura := { Niura.reset with share := [(1, 10)] } }, 1, by decide +kernel⟩,
   ⟨{ fitted with niura := { Niura.reset with supply := .holdup } }, by decide +kernel⟩,
   ⟨sOn.setReg 0x6002 4 11000, 10000, by decide +kernel⟩⟩

theorem witness_healthTests :
    (∃ (s : State) (cause : DueCause), (cause = .period → s.reg 0x6050 0 ≤ s.reg 0x4040 2 - s.niura.healthHour)
      ∧ (cause = .afterSave → s.niura.firstFull = true ∧ s.niura.charger = .full))
    ∧ (∃ (s : State), s.niura.healthDue = true ∧ (s.ctl.mode = .online ∨ s.ctl.mode = .drowse)
      ∧ s.niura.charger = .full ∧ (s.trickle.rehearsal = .none ∨ s.trickle.rehearsal = .due) ∧ s.holding = false
      ∧ s.niura.supply = .input ∧ s.niura.shellUp = true)
    ∧ (∃ (s : State) (cap : Nat) (esr : Nat), s.niura.supply = .test ∧ s.healthGood cap esr = true)
    ∧ (∃ (s : State) (cap : Nat) (esr : Nat), s.niura.supply = .test ∧ s.healthGood cap esr = false)
    ∧ (∃ (s : State), s.niura.shellUp = true ∧ s.niura.tripBeat ≠ some s.clock.beat)
    ∧ (∃ (s : State), s.niura.shellUp = true)
    ∧ (∃ (s : State), s.reg 0x6000 1 = 3 ∧ s.niura.shellUp = true ∧ 180000000 ≤ s.niura.restBeats) :=
  ⟨⟨sOn.setReg 0x6050 0 0, .period, by decide +kernel⟩,
   ⟨{ fitted with niura := { Niura.reset with healthDue := true, charger := .full, shellUp := true } },
      by decide +kernel⟩,
   ⟨{ fitted with niura := { Niura.reset with supply := .test, switchedOut := [0, 1], resume := .full } }, 900000,
      50, by decide +kernel⟩,
   ⟨{ fitted with niura := { Niura.reset with supply := .test, switchedOut := [0, 1], resume := .full } }, 100000,
      50, by decide +kernel⟩,
   ⟨{ fitted with niura := { Niura.reset with shellUp := true } }, by decide +kernel⟩,
   ⟨{ fitted with niura := { Niura.reset with shellUp := true } }, by decide +kernel⟩,
   ⟨{ ((sOn.setReg 0x6000 1 3) : State) with niura := { Niura.reset with shellUp := true, restBeats := 180000000 } },
      by decide +kernel⟩⟩

theorem witness_hardProtections :
    (∃ (s : State) (mv : Nat), (s.chargedMv * 105 < mv * 100 ∨ 62000 < mv))
    ∧ (∃ (s : State) (cell : Nat) (mv : Nat), s.cellOver (profileMaxMv (s.reg 0x6000 1)) (cell - 1) mv = true
      ∧ 1 ≤ cell ∧ cell ≤ s.reg 0x6000 2 * s.reg 0x6000 3)
    ∧ (∃ (mv : Nat), 13800 < mv)
    ∧ (∃ (s : State) (us : Nat), 50 ≤ us ∧ s.niura.supply ≠ .input ∧ s.niura.supply ≠ .cutoff)
    ∧ (∃ (s : State), s.ctl.mode ≠ .dormant ∧ s.ctl.mode ≠ .bringUp ∧ s.ctl.mode ≠ .save)
    ∧ (∃ (s : State), s.niura.lifeBeats ≠ 0) :=
  ⟨⟨fitted, 62001, by decide +kernel⟩,
   ⟨fitted, 3, 3001, by decide +kernel⟩,
   ⟨13801, by decide +kernel⟩,
   ⟨{ sOn with niura := { Niura.reset with supply := .holdup } }, 50, by decide +kernel⟩,
   ⟨sOn.setReg 0x60A0 1 800, by decide +kernel⟩,
   ⟨{ sOn with niura := { Niura.reset with lifeBeats := 360000000, lifeSum := -5, overBeats := 720000000 } },
      by decide +kernel⟩⟩

theorem witness_railSequencing :
    (∃ (s : State) (r : Fin 32), (s.railState r.val = 1 ∨ s.railState r.val = 3))
    ∧ (∃ (s : State) (r : Nat), s.rails.dir = .down ∧ s.ctl.mode = .dormant ∧ r ∈ s.rails' ∧ s.railState r = 4)
    ∧ (∃ (s : State) (r : Fin 32), s.railState r.val = 1 ∧ s.rails.dir = .up ∧ s.railStep r.val = s.rails.step
      ∧ s.rails.restarts < s.reg 0x6461 0)
    ∧ (∃ (s : State) (r : Fin 32), s.railState r.val = 1 ∧ s.rails.dir = .up ∧ s.railStep r.val = s.rails.step
      ∧ s.reg 0x6461 0 ≤ s.rails.restarts)
    ∧ (∃ (s : State), s.rails.dir = .up ∧ s.reg (0x6420 + s.rails.step) 1 ≤ s.clock.beat - s.rails.waitFrom)
    ∧ (∃ (s : State), s.reg 0x6464 0 = 3 ∧ 10000 ≤ s.clock.beat - s.rails.waitFrom ∧ s.ctl.mode = .bringUp)
    ∧ (∃ (s : State) (r : Fin 32) (n : Nat) (b : Nat), s.rails.retries.find? r.val = some (n,
      b) ∧ s.railState r.val = 0 ∧ 100 ≤ s.clock.beat - b) :=
  ⟨⟨{ railAt 1 with rails := { Rails.reset with dir := .up, step := 3 }, ctl := { sOn.ctl with mode := .bringUp, access := false } },
      4, by decide +kernel⟩,
   ⟨{ railAt 4 with rails := { Rails.reset with dir := .down, step := 3 }, ctl := { sOn.ctl with mode := .dormant, access := false } },
      4, by decide +kernel⟩,
   ⟨{ railAt 1 with rails := { Rails.reset with dir := .up, step := 3 }, ctl := { sOn.ctl with mode := .bringUp, access := false } },
      4, by decide +kernel⟩,
   ⟨{ railAt 1 with rails := { Rails.reset with dir := .up, step := 3, restarts := 4 }, ctl := { sOn.ctl with mode := .bringUp, access := false } },
      4, by decide +kernel⟩,
   ⟨{ railAt 1 with rails := { Rails.reset with dir := .up, step := 3 }, ctl := { sOn.ctl with mode := .bringUp, access := false } },
      by decide +kernel⟩,
   ⟨{ ((railAt 0).setReg 0x6464 0 3) with rails := { Rails.reset with dir := .idle }, ctl := { sOn.ctl with mode := .bringUp, access := false } },
      by decide +kernel⟩,
   ⟨{ railAt 0 with rails := { Rails.reset with retries := [(4, 1, 5)] }, ctl := { sOn.ctl with mode := .bringUp, access := false } },
      4, 1, 5, by decide +kernel⟩⟩

theorem witness_railFaultsAct :
    (∃ (s : State) (r : Fin 32), s.railState r.val = 2 ∧ s.railRole r.val = 1 ∧ s.ctl.mode ≠ .save)
    ∧ (∃ (s : State) (g : Fin 16) (b : Nat), s.rails.grace.find? g.val = some (b, false)
      ∧ s.reg 0x6462 0 ≤ s.clock.beat - b ∧ s.groupState g.val = 2)
    ∧ (∃ (s : State) (g : Fin 16) (b : Nat), s.rails.grace.find? g.val = some (b, true)
      ∧ s.reg 0x6462 0 ≤ s.clock.beat - b ∧ s.ctl.mode ≠ .save ∧ s.save.arm = 0) :=
  ⟨⟨{ ((railAt 2).setReg 0x6404 8 0) with rails := { Rails.reset with dir := .idle }, ctl := { sOn.ctl with mode := .online } },
      4, by decide +kernel⟩,
   ⟨{ ((railAt 3).setReg 0x6462 0 100) with rails := { Rails.reset with grace := [(2, 5, false)] }, ctl := { sOn.ctl with mode := .online } },
      2, 5, by decide +kernel⟩,
   ⟨{ ((railAt 3).setReg 0x6462 0 100) with rails := { Rails.reset with grace := [(2, 5, true)] }, ctl := { sOn.ctl with mode := .online } },
      2, 5, by decide +kernel⟩⟩

theorem witness_resetsAndBringUp :
    (∃ (s : State), s.ctl.vaux = true ∧ s.ctl.mode ≠ .save ∧ s.save.arm = 0 ∧ s.nand.keyPresent = true)
    ∧ (∃ (s : State), s.ctl.vaux = true ∧ s.ctl.mode = .save ∨ s.save.arm ≠ 0 ∧ s.ctl.coldPending = none)
    ∧ (∃ (s : State), s.ctl.vaux = false)
    ∧ (∃ (s : State), s.ctl.vaux = true)
    ∧ (∃ (s : State), s.ctl.vaux = true ∧ s.niura.high = true ∧ s.niura.inputGood = false
      ∧ s.reg 0x6003 0 ≤ s.niura.highBeats ∧ s.niura.supply ≠ .cutoff)
    ∧ (∃ (s : State) (b : BringUpInputs), s.ctl.mode = .bringUp ∧ s.ctl.stopped = false ∧ s.ctl.recovery = false
      ∧ s.seqDone = true ∧ s.save.arm = 0 ∧ b.channelsMatch = false)
    ∧ (∃ (s : State) (b : BringUpInputs) (p : NandPop), s.ctl.mode = .bringUp ∧ s.ctl.stopped = false
      ∧ s.ctl.recovery = false ∧ s.seqDone = true ∧ s.save.arm = 0 ∧ s.dramReady = true ∧ b.channelsMatch = true
      ∧ popSupported b = true ∧ s.dram.uncovered = [] ∧ s.nandGood b = true ∧ b.nand.head? = some p
      ∧ s.layoutPending = false ∧ s.ctl.testHold ≠ 1 ∧ s.ctl.dramHeld = false ∧ s.liveImage = none
      ∧ s.liveCheckpoint = none ∧ s.ingress.writes = [] ∧ s.ingress.reads = []
      ∧ (s.layout.found b).hostVisible * 16 ≤ pslcCapacity p b.badBlocks * 10)
    ∧ (∃ (s : State), s.ctl.bureauReload = true ∧ s.dict.deferred = [])
    ∧ (∃ (s : State) (c : Nat), s.ctl.blockBusy.find? c = some 1)
    ∧ (∃ (s : State) (c : Nat), s.ctl.blockBusy.find? c = some 2 ∧ s.ctl.blockLatched.contains c = false) :=
  ⟨⟨{ sOn with leaves := { base := .clean, exc := [(1, .dirty), (3, .pinned)] }, mem := [(0x10001, 7), (0x30005, 9)] },
      by decide +kernel⟩,
   ⟨{ sOn with ctl := { sOn.ctl with mode := .save, access := false } }, by decide +kernel⟩,
   ⟨{ State.reset with ctl := { Control.reset with vaux := false }, mem := [(5, 6)] }, by decide +kernel⟩,
   ⟨{ sOn with leaves := { base := .clean, exc := [(1, .dirty), (3, .pinned)] }, mem := [(0x10001, 7), (0x30005, 9)] },
      by decide +kernel⟩,
   ⟨{ (State.reset.setReg 0x6003 0 100) with niura := { Niura.reset with high := true, highBeats := 100 } },
      by decide +kernel⟩,
   ⟨{ sOn with ctl := { Control.reset with mode := .bringUp, recovery := false }, layout := Layout.reset, mem := [(5, 6)] },
      { deviceWidth := 4, devices := 10, densityGbit := 32, ranks := 1, height := 1, channelsMatch := false, nand := List.replicate 18 { targets := 8, spareTargets := 1, lunsPerTarget := 2, planes := 4, pages := 1024, mainBytes := 16384, spareBytes := 2048, rateMts := 2400, blocks := 512, fromCe0 := true, features := true, pslc := true }, badBlocks := [], profiles := [(0, { ratedCycles := 10000, tprogNs := 600000, trNs := 50000, tbersNs := 6000000, retryLevels := 8 })] },
      by decide +kernel⟩,
   ⟨{ ({ State.reset with dram := { Dram.reset with ready := List.range 13 } } : State) with ctl := { Control.reset with mode := .bringUp, recovery := false }, layout := Layout.reset, mem := [(5, 6)] },
      { deviceWidth := 4, devices := 10, densityGbit := 32, ranks := 1, height := 1, channelsMatch := true, nand := List.replicate 18 { targets := 8, spareTargets := 1, lunsPerTarget := 2, planes := 4, pages := 1024, mainBytes := 16384, spareBytes := 2048, rateMts := 2400, blocks := 512, fromCe0 := true, features := true, pslc := true }, badBlocks := [], profiles := [(0, { ratedCycles := 10000, tprogNs := 600000, trNs := 50000, tbersNs := 6000000, retryLevels := 8 })] },
      { targets := 8, spareTargets := 1, lunsPerTarget := 2, planes := 4, pages := 1024, mainBytes := 16384, spareBytes := 2048, rateMts := 2400, blocks := 512, fromCe0 := true, features := true, pslc := true },
      by decide +kernel⟩,
   ⟨{ sOn with ctl := { sOn.ctl with bureauReload := true } }, by decide +kernel⟩,
   ⟨{ sOn with ctl := { sOn.ctl with blockBusy := [(3, 1)] } }, 3, by decide +kernel⟩,
   ⟨{ sOn with ctl := { sOn.ctl with blockBusy := [(3, 2)] } }, 3, by decide +kernel⟩⟩

theorem witness_writesOfLinksAndLayout :
    (∃ (s : State) (role : Role) (link : Fin 4) (v : Nat), s.writePasses role 0x2005 (link.val + 1) v ∧ v ≤ 1)
    ∧ (∃ (s : State) (role : Role) (v : Nat), s.writePasses role 0x4840 2 v ∧ v ≤ 1 ∧ s.ingress.writes = []
      ∧ Map.sorted s.groups.slots = true ∧ (∀ e ∈ s.groups.slots, e.2.waiting = []))
    ∧ (∃ (s : State) (role : Role), s.writePasses role 0x2400 1 2 ∧ s.writePasses role 0x2410 0 1073741824
      ∧ s.writePasses role 0x2411 0 0 ∧ s.writePasses role 0x3030 1 1 ∧ s.writePasses role 0x3030 6 262143)
    ∧ (∃ (s : State) (role : Role) (c : Fin 13), s.writePasses role 0x3460 0 (2 ^ c.val) ∧ s.mayTrigger c.val = true
      ∧ (s.ctl.mode = .online ∨ s.ctl.mode = .restore) ∧ s.retrainable c.val = true ∧ s.dram.retrain = none
      ∧ s.dram.queue = [])
    ∧ (∃ (s : State) (role : Role) (c : Fin 13) (v : Nat), s.writePasses role (0x3400 + c.val) 3 v ∧ v < 65536)
    ∧ (∃ (s : State) (role : Role) (c : Nat) (spare : Nat), s.writePasses role 0x3461 0 c ∧ c < 13 ∧ s.chanState c = 0
      ∧ s.dram.target = none ∧ s.spare = some spare)
    ∧ (∃ (s : State) (role : Role) (c : Nat), s.writePasses role 0x3462 0 c ∧ c < 13 ∧ s.chanState c = 4)
    ∧ (∃ (s : State) (role : Role) (port : Fin 2) (v : Nat), s.writePasses role (0x4810 + port.val) 2 v ∧ v ≤ 1
      ∧ s.trestle.duplicate = false) :=
  ⟨⟨{ sOn with links := [(0, linkUp), (1, { Link.reset with state := .down })], layout := { sOn.layout with headA := 0, headB := 0 } },
      .board, 0, 0, by unfold State.writePasses State.serves; decide +kernel⟩,
   ⟨{ (sDom.setReg 0x4840 1 (5 * 2 ^ 54 + 77)) with groups := { Groups.reset with slots := [(3, { Slot.reset with state := .inDoubt, part := true, txn := (5 * 2 ^ 54 + 77) }), (9, { Slot.reset with state := .opened })] } },
      .board, 1, by unfold State.writePasses State.serves; decide +kernel⟩,
   ⟨{ sOn with ctl := { sOn.ctl with mode := .bringUp, access := false } }, .board,
      by unfold State.writePasses State.serves; decide +kernel⟩,
   ⟨((sOn.setReg 0x3400 2 6400).setReg 0x3400 6 40), .board, 3,
      by unfold State.writePasses State.serves; decide +kernel⟩,
   ⟨{ (((sOn.setReg 0x3400 2 6400).setReg 0x3400 6 40) : State) with dram := { Dram.reset with records := [(0, [4800, 5600, 6400])] } },
      .board, 0, 5600, by unfold State.writePasses State.serves; decide +kernel⟩,
   ⟨(((sOn.setReg 0x3400 2 6400).setReg 0x3400 6 40) : State).setReg 0x3400 1 0, .service, 1,
      12, by unfold State.writePasses State.serves; decide +kernel⟩,
   ⟨(((sOn.setReg 0x3400 2 6400).setReg 0x3400 6 40) : State).setReg 0x3401 1 4, .service,
      1, by unfold State.writePasses State.serves; decide +kernel⟩,
   ⟨{ (sDom.setReg 0x4810 2 1) with trestle := { sDom.trestle with ports := [(0, { (sDom.port 0) with state := .inService })] } },
      .board, 0, 0, by unfold State.writePasses State.serves; decide +kernel⟩⟩

theorem witness_writesThatAsk :
    (∃ (s : State) (role : Role), s.writePasses role 0x5410 0 1)
    ∧ (∃ (s : State) (role : Role), s.writePasses role 0x5410 0 2)
    ∧ (∃ (s : State) (role : Role), s.writePasses role 0x1120 0 1 ∧ s.ctl.mode ≠ .save ∧ s.save.arm = 0)
    ∧ (∃ (s : State) (role : Role), s.writePasses role 0x1120 0 1 ∧ s.ctl.mode = .save ∨ s.save.arm ≠ 0
      ∧ s.ctl.coldPending = none)
    ∧ (∃ (s : State) (role : Role), s.writePasses role 0x1121 0 1 ∧ s.ctl.mode ≠ .bringUp)
    ∧ (∃ (s : State) (role : Role) (c : Nat), s.writePasses role 0x1122 2 1 ∧ s.reg 0x1122 1 = c ∧ 1 ≤ c ∧ c ≤ 8
      ∧ s.ctl.blockBusy.find? c = none)
    ∧ (∃ (s : State) (role : Role), s.writePasses role 0x6026 0 1 ∧ s.niura.charger = .fault
      ∧ s.niura.faultTimeout = true)
    ∧ (∃ (s : State) (role : Role), s.writePasses role 0x6465 0 1 ∧ s.reg 0x6464 0 = 4 ∧ s.niura.inputGood = true
      ∧ s.ctl.mode = .dormant ∧ s.ctl.haltLock = false)
    ∧ (∃ (s : State) (role : Role), s.writePasses role 0x6465 0 1 ∧ s.reg 0x6464 0 = 4 ∧ s.niura.inputGood = false
      ∨ s.ctl.mode ≠ .dormant ∨ s.ctl.haltLock = true)
    ∧ (∃ (s : State) (role : Role) (g : Fin 16) (v : Nat), s.writePasses role (0x6440 + g.val) 1 v ∧ v ≤ 1)
    ∧ (∃ (s : State) (role : Role) (v : Nat), s.writePasses role 0x1200 2 v ∧ v < 2 ^ 64)
    ∧ (∃ (s : State) (role : Role) (b : Fin 17), s.writePasses role (0x7000 + b.val) 10 1)
    ∧ (∃ (s : State) (role : Role) (v : Nat), s.writePasses role 0x8010 0 v ∧ s.eflash.rdpLevel < v ∧ v ≤ 2)
    ∧ (∃ (s : State) (role : Role), s.writePasses role 0x8011 0 0x5A5A)
    ∧ (∃ (s : State) (role : Role), s.writePasses role 0x8010 0 0 ∧ s.eflash.rdpLevel = 1 ∧ s.ctl.mode ≠ .save
      ∧ s.save.arm = 0 ∧ s.test.running = [])
    ∧ (∃ (s : State) (role : Role), s.writePasses role 0x8403 1 0xC0DE)
    ∧ (∃ (s : State) (role : Role) (k : Fin 4), s.writePasses role 0x8403 0 k.val) :=
  ⟨⟨sOn, .board, by unfold State.writePasses State.serves; decide +kernel⟩,
   ⟨sOn, .board, by unfold State.writePasses State.serves; decide +kernel⟩,
   ⟨sOn, .board, by unfold State.writePasses State.serves; decide +kernel⟩,
   ⟨{ sOn with ctl := { sOn.ctl with mode := .save, access := false } }, .board,
      by unfold State.writePasses State.serves; decide +kernel⟩,
   ⟨sOn, .board, by unfold State.writePasses State.serves; decide +kernel⟩,
   ⟨(((sOn.setReg 0x3400 2 6400).setReg 0x3400 6 40) : State).setReg 0x1122 1 1, .board,
      1, by unfold State.writePasses State.serves; decide +kernel⟩,
   ⟨{ sOn with niura := { Niura.reset with charger := .fault, faultTimeout := true } }, .service,
      by unfold State.writePasses State.serves; decide +kernel⟩,
   ⟨{ (sOn.setReg 0x6464 0 4) with ctl := { sOn.ctl with mode := .dormant, access := false }, niura := { Niura.reset with inputGood := true } },
      .service, by unfold State.writePasses State.serves; decide +kernel⟩,
   ⟨sOn.setReg 0x6464 0 4, .service, by unfold State.writePasses State.serves; decide +kernel⟩,
   ⟨sOn.setReg 0x6442 2 3, .board, 2, 1, by unfold State.writePasses State.serves; decide +kernel⟩,
   ⟨sOn, .board, 5000000000, by unfold State.writePasses State.serves; decide +kernel⟩,
   ⟨sOn, .board, 3, by unfold State.writePasses State.serves; decide +kernel⟩,
   ⟨sOn, .board, 1, by unfold State.writePasses State.serves; decide +kernel⟩,
   ⟨{ sOn with eflash := { Eflash.reset with rdpLevel := 1 } }, .service,
      by unfold State.writePasses State.serves; decide +kernel⟩,
   ⟨{ ({ sOn with eflash := { Eflash.reset with rdpLevel := 1, lowerArm := some 0 } } : State) with mem := [(5, 1)] },
      .service, by unfold State.writePasses State.serves; decide +kernel⟩,
   ⟨sOn, .service, by unfold State.writePasses State.serves; decide +kernel⟩,
   ⟨{ sOn with security := { Security.reset with revokeArm := some 0 } }, .service,
      2, by unfold State.writePasses State.serves; decide +kernel⟩⟩

theorem witness_dictionaryMessages :
    (∃ (s : State) (m : DictMsg), s.serves m.role m.link ∧ s.fits .read m ∧ m.snapshot = false
      ∧ (∀ i ∈ m.items, ¬(i.index = 0x7430 ∧ i.sub = 3)))
    ∧ (∃ (s : State) (m : DictMsg), s.serves m.role m.link ∧ s.fits .read m ∧ m.snapshot = true)
    ∧ (∃ (s : State) (m : DictMsg), s.serves m.role m.link ∧ malformed .read m = true ∧ m.tag < 65536)
    ∧ (∃ (s : State) (m : DictMsg), s.serves m.role m.link ∧ s.fits .describe m)
    ∧ (∃ (s : State) (m : DictMsg) (i : Item), s.serves m.role m.link ∧ s.fits .write m ∧ m.items = [i]
      ∧ (s.asked m.role).writeCode m.role i ≠ 0)
    ∧ (∃ (s : State) (m : DictMsg) (i : Item), s.serves m.role m.link ∧ s.fits .write m ∧ m.items = [i]
      ∧ (s.asked m.role).writeCode m.role i = 0 ∧ beatEntry i.index i.sub = true)
    ∧ (∃ (s : State) (source : Nat) (m : DictMsg) (m' : DictMsg), s.inDomain = true ∧ s.ownAlive = true ∧ source < 1024
      ∧ m' = { m with role := .fleet, member := source } ∧ s.serves .fleet m.link ∧ s.fits .read m'
      ∧ m.snapshot = false ∧ (∀ i ∈ m.items, ¬(i.index = 0x7430 ∧ i.sub = 3))) :=
  ⟨⟨sOn, msg [Item.mk 0x1102 1 0 0, Item.mk 0x7777 1 0 0], by unfold State.serves State.fits; decide +kernel⟩,
   ⟨sOn, { msg [Item.mk 0x1102 1 0 0, Item.mk 0x7777 1 0 0] with snapshot := true },
      by unfold State.serves State.fits; decide +kernel⟩,
   ⟨sOn, { msg [] with malformed := true }, by unfold State.serves; decide +kernel⟩,
   ⟨sOn, msg [Item.mk 0x1102 1 0 0, Item.mk 0x7777 1 0 0], by unfold State.serves State.fits; decide +kernel⟩,
   ⟨sOn, msg [Item.mk 0x3030 1 2 1], Item.mk 0x3030 1 2 1, by unfold State.serves State.fits; decide +kernel⟩,
   ⟨sOn, msg [Item.mk 0x2500 3 0 4], Item.mk 0x2500 3 0 4, by unfold State.serves State.fits; decide +kernel⟩,
   ⟨sDom, 6, msg [Item.mk 0x1102 1 0 0, Item.mk 0x7777 1 0 0],
      { (msg [Item.mk 0x1102 1 0 0, Item.mk 0x7777 1 0 0]) with role := .fleet, member := 6 },
      by unfold State.serves State.fits; decide +kernel⟩⟩

theorem witness_writesAreChecked :
    (∃ (s : State) (role : Role) (idx : Nat) (sub : Nat) (v : Nat) (len : Nat) (i : Item), s.serves role s.hostLink
      ∧ len ≤ 256 ∧ i = Item.mk (idx % 65536) (sub % 256) (v % 2 ^ (8 * len)) len
      ∧ (s.asked role).writeCode role i ≠ 0)
    ∧ (∃ (s : State) (role : Role) (idx sub v : Nat) (r : Entry), s.serves role s.hostLink ∧ s.ctl.mode ≠ .save
      ∧ idx < 65536 ∧ sub < 256 ∧ rowOf idx sub = some r ∧ r.access role ≠ .ro ∧ (r.keep = .f → s.eflash.rdpLevel = 0)
      ∧ v < 2 ^ (8 * r.size) ∧ r.type = 9 ∧ v.testBit 10 = true ∧ r.max.toNat.testBit 10 = false)
      ∧ (∃ (s : State) (role : Role) (idx sub v : Nat) (r : Entry), s.serves role s.hostLink ∧ s.ctl.mode ≠ .save
      ∧ idx < 65536 ∧ sub < 256 ∧ rowOf idx sub = some r ∧ r.access role ≠ .ro ∧ (r.keep = .f → s.eflash.rdpLevel = 0)
      ∧ v < 2 ^ (8 * r.size) ∧ r.type = 8 ∧ r.values = [] ∧ (v : Int) ∉ r.also ∧ r.max < (v : Int))
    ∧ (∃ (s : State) (role : Role) (i : Item) (r : Entry), rowOf i.index i.sub = some r ∧ r.keep = .f
      ∧ s.writeCode role i = 0)
    ∧ (∃ (s : State) (role : Role) (i : Item) (r : Entry), rowOf i.index i.sub = some r ∧ r.keep = .f
      ∧ s.eflash.rdpLevel ≠ 0 ∧ role = .service ∧ r.s = .rw ∧ i.len = r.size ∧ s.ctl.mode ≠ .save) :=
  ⟨⟨sOn, .board, 0x3030, 1, 2, 1, Item.mk (0x3030 % 65536) (1 % 256) (2 % 2 ^ (8 * 1)) 1,
      by unfold State.serves; decide +kernel⟩,
   ⟨sOn, .board, 0x2500, 3, 0x400, entryAt 0x2500 3, by unfold State.serves; decide +kernel⟩,
   ⟨sOn, .board, 0x5410, 0, 3, entryAt 0x5410 0, by unfold State.serves; decide +kernel⟩,
   ⟨sOn, .service, Item.mk 0x1001 0 5 32, entryAt 0x1001 0, by decide +kernel⟩,
   ⟨{ sOn with eflash := { Eflash.reset with rdpLevel := 1 } }, .service, Item.mk 0x1001 0 5 32, entryAt 0x1001 0,
      by decide +kernel⟩⟩

theorem witness_writesAreStored :
    (∃ (s : State) (role : Role) (idx : Nat) (sub : Nat) (v : Nat) (r : Entry), s.writePasses role idx sub v
      ∧ idx < 65536 ∧ sub < 256 ∧ rowOf idx sub = some r ∧ r.access role ≠ .w1c ∧ beatEntry idx sub = false
      ∧ (s.asked role).selection idx sub = none ∧ (s.asked role).act idx sub (v % 2 ^ (8 * r.size)) = none) :=
  ⟨sOn, .board, 0x6024, 0, 6, entryAt 0x6024 0, by unfold State.writePasses State.serves; decide +kernel⟩

theorem witness_changeSets :
    (∃ (s : State) (m : DictMsg) (k : Nat), s.serves m.role m.link ∧ s.fits .setOpen m
      ∧ (List.range 16).find? (fun j => (s.dict.sets.find? j).isNone) = some k)
    ∧ (∃ (s : State) (m : DictMsg), s.serves m.role m.link ∧ s.fits .setOpen m
      ∧ (∀ k < 16, (s.dict.sets.find? k).isSome = true))
    ∧ (∃ (s : State) (m : DictMsg) (i : Item) (k : Nat) (c : ChangeSet), s.serves m.role m.link ∧ s.fits .setAdd m
      ∧ s.ctl.mode ≠ .save ∧ s.setOf m.handle = some (k, c) ∧ c.submitted = false ∧ m.items = [i]
      ∧ s.itemCheck m.role i ≠ 0)
    ∧ (∃ (s : State) (m : DictMsg) (i : Item) (k : Nat) (c : ChangeSet), s.serves m.role m.link ∧ s.fits .setAdd m
      ∧ s.ctl.mode ≠ .save ∧ s.setOf m.handle = some (k, c) ∧ c.submitted = false ∧ m.items = [i]
      ∧ s.itemCheck m.role i = 0 ∧ (∀ e ∈ c.items, ¬(e.1.index = i.index ∧ e.1.sub = i.sub)) ∧ c.items.length < 256
      ∧ c.bytes + i.len ≤ 16384)
    ∧ (∃ (s : State) (m : DictMsg) (k : Nat) (c : ChangeSet), s.serves m.role m.link ∧ s.fits .setSubmit m
      ∧ s.ctl.mode ≠ .save ∧ s.setOf m.handle = some (k, c) ∧ c.submitted = false ∧ c.failed = false
      ∧ (∀ e ∈ c.items, s.entryPending e.1.index e.1.sub e.2 = false))
    ∧ (∃ (s : State) (m : DictMsg) (k : Nat) (c : ChangeSet), s.serves m.role m.link ∧ s.fits .setSubmit m
      ∧ s.ctl.mode ≠ .save ∧ s.setOf m.handle = some (k, c) ∧ c.submitted = false ∧ c.failed = true)
    ∧ (∃ (s : State) (m : DictMsg) (k : Nat) (c : ChangeSet), s.serves m.role m.link ∧ s.fits .setDiscard m
      ∧ s.setOf m.handle = some (k, c) ∧ c.submitted = false)
    ∧ (∃ (s : State) (m : DictMsg), s.serves m.role m.link ∧ s.fits .setStatus m)
    ∧ (∃ (s : State) (k : Fin 16) (c : ChangeSet), s.dict.sets.find? k.val = some c ∧ c.submitted = false
      ∧ s.reg 0xA030 0 ≤ s.clock.beat - c.lastBeat)
    ∧ (∃ (s : State) (u : Submitted), s.setFails u ≠ []) :=
  ⟨⟨setIn1, msg [], 0, by unfold State.serves State.fits; decide +kernel⟩,
   ⟨{ sOn with dict := { Dict.reset with sets := (List.range 16).map fun j => (j, emptySet) } }, msg [],
      by unfold State.serves State.fits; decide +kernel⟩,
   ⟨setIn1, { msg [Item.mk 0x3030 1 2 1] with handle := 33 }, Item.mk 0x3030 1 2 1, 1, emptySet,
      by unfold State.serves State.fits; decide +kernel⟩,
   ⟨setIn1, { msg [Item.mk 0x6002 4 11000 4] with handle := 33 }, Item.mk 0x6002 4 11000 4, 1, emptySet,
      by unfold State.serves State.fits; decide +kernel⟩,
   ⟨{ (sOn.setReg 0xA030 0 100) with dict := { Dict.reset with sets := [(1, { generation := 2, submitted := false, failed := false, items := [(Item.mk 0x6002 4 11000 4, 0)], lastBeat := 0 })], nextGen := 3 }, clock := { Clock.reset with beat := 500 } },
      { msg [] with handle := 33 }, 1, { generation := 2, submitted := false, failed := false, items := [(Item.mk 0x6002 4 11000 4, 0)], lastBeat := 0 },
      by unfold State.serves State.fits; decide +kernel⟩,
   ⟨{ (sOn.setReg 0xA030 0 100) with dict := { Dict.reset with sets := [(1, { generation := 2, submitted := false, failed := true, items := [(Item.mk 0x6002 4 11000 4, 0)], lastBeat := 0 })], nextGen := 3 }, clock := { Clock.reset with beat := 500 } },
      { msg [] with handle := 33 }, 1, { generation := 2, submitted := false, failed := true, items := [(Item.mk 0x6002 4 11000 4, 0)], lastBeat := 0 },
      by unfold State.serves State.fits; decide +kernel⟩,
   ⟨setIn1, { msg [] with handle := 33 }, 1, emptySet, by unfold State.serves State.fits; decide +kernel⟩,
   ⟨setIn1, { msg [] with handle := 33 }, by unfold State.serves State.fits; decide +kernel⟩,
   ⟨setIn1, 1, emptySet, by decide +kernel⟩,
   ⟨setIn1, { slot := some 1, reply := 0, place := 0, role := .board, link := 0, member := 0, tag := 7, items := [(Item.mk 0x2500 3 1 4, 0)] },
      by decide +kernel⟩⟩

theorem witness_chestInjectorsAndBureau :
    (∃ (s : State) (b : Fin 17), (s.faultGroup b.val).injLive ≠ 0 ∧ (s.faultGroup b.val).injBeat + 1 ≤ s.clock.beat)
    ∧ (∃ (s : State) (r : ChestRec) (b : Nat), s.chest.eflashWait = [r] ∧ b = spoolBank s.chest.spoolSector
      ∧ (s.bank b).op = none ∧ (s.bank b).suspended = none ∧ s.eflash.brownout = false
      ∧ s.chest.spoolUsed + r.places ≤ 64)
    ∧ (∃ (s : State) (r : ChestRec) (b : Nat), s.chest.eflashWait = [r] ∧ b = spoolBank s.chest.spoolSector
      ∧ (s.bank b).op = none ∧ (s.bank b).suspended ≠ none)
    ∧ (∃ (s : State) (r : ChestRec) (b : Nat), s.chest.eflashWait = [r] ∧ b = spoolBank s.chest.spoolSector
      ∧ (s.bank b).op = none ∧ (s.bank b).suspended = none ∧ s.eflash.brownout = true)
    ∧ (∃ (s : State), s.chest.ringFailed = false)
    ∧ (∃ (s : State) (b : Fin 17) (due : Nat) (left : Nat), s.test.injDue.find? b.val = some (due, left)
      ∧ due ≤ s.clock.ext.toNat ∧ s.reg (0x9100 + b.val) 2 ≠ 0 ∧ s.injectHeld = true)
    ∧ (∃ (s : State) (b : Fin 17) (due : Nat) (left : Nat), s.test.injDue.find? b.val = some (due, left)
      ∧ due ≤ s.clock.ext.toNat ∧ s.reg (0x9100 + b.val) 2 ≠ 0 ∧ s.injectHeld = false ∧ s.reg (0x9100 + b.val) 2 = 1)
    ∧ (∃ (s : State) (k : Fin 5) (n : Nat), s.pairState k.val ≠ 2 ∧ s.pairState k.val ≠ 3 ∧ s.sparePair = some n)
    ∧ (∃ (s : State) (k : Fin 5), s.pairState k.val ≠ 2 ∧ s.pairState k.val ≠ 3 ∧ (∀ j < 5, j ≠ k.val
      → s.pairState j = 2))
    ∧ (∃ (s : State) (c : Fin 4) (v : Nat), s.bureau.takeover.find? c.val = some v)
    ∧ (∃ (s : State) (k : Nat), s.sparePair = some k)
    ∧ (∃ (s : State) (array : Nat) (column : Bool), array < 512
      ∧ (if column then s.bureau.sparesCol.get array 0 < 4 else s.bureau.sparesRow.get array 0 < 8))
    ∧ (∃ (s : State) (array : Nat) (column : Bool), array < 512
      ∧ (if column then 4 ≤ s.bureau.sparesCol.get array 0 else 8 ≤ s.bureau.sparesRow.get array 0))
    ∧ (∃ (o : SramOwner), o = .groupTable ∨ o = .claimCache ∨ o = .longcaseTables ∨ o = .chestRing)
    ∧ (∃ (s : State) (l : Nat), s.leaf l ≠ .restoring ∧ s.leaf l ≠ .copying)
    ∧ (∃ (s : State) (k : Fin 5), s.pairState k.val ≠ 2)
    ∧ (∃ (n : Fin 512), irqReserved n.val = false)
    ∧ (∃ (s : State) (roles : List Nat), s.claimSource roles = some 70)
    ∧ (∃ (s : State) (c : Fin 4), s.claimRoles c.val ≠ [] ∧ s.claimSource (s.claimRoles c.val) = some 70)
    ∧ (∃ (s : State) (c : Fin 4) (n : Nat) (r : Nat), s.bureau.active.find? n = some r ∧ r ∈ s.claimRoles c.val)
    ∧ (∃ (s : State) (c : Fin 4) (n : Nat), ∀ r, s.bureau.active.find? n = some r → r ∉ s.claimRoles c.val)
    ∧ (∃ (s : State) (g : Fin 32), s.groupPending g.val ≠ [] ∧ s.moderated g.val = true) :=
  ⟨⟨{ sOn with faults := [(2, { FaultGroup.reset with live := 3, injLive := 2, injBeat := 10 })], clock := { Clock.reset with beat := 11 } },
      2, by decide +kernel⟩,
   ⟨{ sOn with chest := { Chest.reset with eflashWait := [aRecord] } },
      aRecord, spoolBank ({ sOn with chest := { Chest.reset with eflashWait := [aRecord] } }).chest.spoolSector,
      by decide +kernel⟩,
   ⟨{ sOn with chest := { Chest.reset with eflashWait := [aRecord], spoolSector := 0 }, eflash := { Eflash.reset with banks := [(0, { Bank.reset with suspended := some (.erase 3) })] } },
      aRecord, spoolBank ({ sOn with chest := { Chest.reset with eflashWait := [aRecord], spoolSector := 0 }, eflash := { Eflash.reset with banks := [(0, { Bank.reset with suspended := some (.erase 3) })] } }).chest.spoolSector,
      by decide +kernel⟩,
   ⟨{ sOn with chest := { Chest.reset with eflashWait := [aRecord] }, eflash := { Eflash.reset with brownout := true } },
      aRecord, spoolBank ({ sOn with chest := { Chest.reset with eflashWait := [aRecord] }, eflash := { Eflash.reset with brownout := true } }).chest.spoolSector,
      by decide +kernel⟩,
   ⟨{ sOn with chest := { Chest.reset with ring := [aRecord] } }, by decide +kernel⟩,
   ⟨{ (((sOn.setReg 0x9103 1 4).setReg 0x9103 2 1) : State) with test := { Test.reset with injDue := [(3, 5, 1)] }, clock := { Clock.reset with ext := 9 }, ctl := { sOn.ctl with mode := .save } },
      3, 5, 1, by decide +kernel⟩,
   ⟨{ (((sOn.setReg 0x9103 1 4).setReg 0x9103 2 1) : State) with test := { Test.reset with injDue := [(3, 5, 1)] }, clock := { Clock.reset with ext := 9 } },
      3, 5, 1, by decide +kernel⟩,
   ⟨sOn, 1, 4, by decide +kernel⟩,
   ⟨(((((sOn.setReg (0x7800 + 0) 1 2).setReg (0x7800 + 1) 1 0).setReg (0x7800 + 2) 1 2).setReg (0x7800 + 3) 1 2).setReg (0x7800 + 4) 1 2),
      1, by decide +kernel⟩,
   ⟨{ sOn with bureau := { Bureau.reset with takeover := [(2, 4)] } }, 2, 4, by decide +kernel⟩,
   ⟨sOn, 4, by decide +kernel⟩,
   ⟨sOn, 9, true, by decide +kernel⟩,
   ⟨{ sOn with bureau := { Bureau.reset with sparesCol := [(9, 4)], sparesRow := [(9, 8)] } }, 9, true,
      by decide +kernel⟩,
   ⟨.groupTable, by decide +kernel⟩,
   ⟨{ sOn with leaves := { base := .clean, exc := [(1, .dirty), (3, .pinned)] }, mem := [(0x10001, 7), (0x30005, 9)] },
      (3), by decide +kernel⟩,
   ⟨sOn, 1, by decide +kernel⟩,
   ⟨75, by decide +kernel⟩,
   ⟨{ (((((sOn.setBreg 70 0x7810 2 5).setBreg 70 0x7810 3 1).setBreg 90 0x7810 2 5).setBreg 90 0x7810 3 1).setReg 0x7822 1 2) with bureau := { Bureau.reset with level := [90, 70] } },
      [1], by decide +kernel⟩,
   ⟨{ (((((sOn.setBreg 70 0x7810 2 5).setBreg 70 0x7810 3 1).setBreg 90 0x7810 2 5).setBreg 90 0x7810 3 1).setReg 0x7822 1 2) with bureau := { Bureau.reset with level := [90, 70] } },
      1, by decide +kernel⟩,
   ⟨{ sOn with bureau := { Bureau.reset with active := [(70, 1)] } }, 1, 70, 1, by decide +kernel⟩,
   ⟨sOn, 1, 71, fun _ h => nomatch h⟩,
   ⟨({ (((((sOn.setBreg 70 0x7810 2 5).setBreg 70 0x7810 3 1).setBreg 90 0x7810 2 5).setBreg 90 0x7810 3 1).setReg 0x7822 1 2) with bureau := { Bureau.reset with level := [90, 70] } } : State).setReg 0x7834 1 1,
      4, by decide +kernel⟩⟩

theorem witness_embeddedFlashSequencer :
    (∃ (s : State) (b : Fin 2), (s.bank b.val).idle = true ∧ s.eflash.brownout = false ∧ s.bankActive b.val = false
      ∧ (s.bank b.val).sequence ≠ .bankConfirm) ∧ (∃ (s : State) (b : Fin 2), (s.bank b.val).idle = true
      ∧ s.eflash.brownout = false ∧ s.bankActive b.val = false ∧ (s.bank b.val).sequence = .bankConfirm)
    ∧ (∃ (s : State) (b : Fin 2), s.bankActive b.val = true)
    ∧ (∃ (s : State) (b : Fin 2) (stores : Map (BitVec 64)) (u : Nat), (s.bank b.val).sequence = .loading stores
      ∧ (s.bank b.val).idle = true ∧ storesGood stores = true ∧ (storeUnits stores).head? = some u
      ∧ s.protectedSector b.val (u / 128) = false ∧ s.eflash.brownout = false
      ∧ (∀ v ∈ storeUnits stores, (s.bank b.val).units.find? v = none))
    ∧ (∃ (s : State) (b : Fin 2) (stores : Map (BitVec 64)) (u : Nat), (s.bank b.val).sequence = .loading stores
      ∧ (s.bank b.val).idle = true ∧ storesGood stores = true ∧ (storeUnits stores).head? = some u
      ∧ s.protectedSector b.val (u / 128) = false ∧ s.eflash.brownout = false
      ∧ (∃ v ∈ storeUnits stores, (s.bank b.val).units.find? v ≠ none))
    ∧ (∃ (s : State) (b : Fin 2) (offset : Nat) (stores : Map (BitVec 64)), offset < 0x808000
      ∧ (s.bank b.val).sequence = .loading stores)
    ∧ (∃ (s : State) (b : Fin 2) (offset : Nat) (data : BitVec 64), offset < 0x808000
      ∧ (s.bank b.val).sequence = .eraseAddress ∧ data = 0 ∧ (s.bank b.val).idle = true
      ∧ s.protectedSector b.val (offset / 4096) = false ∧ s.eflash.brownout = false)
    ∧ (∃ (s : State) (b : Fin 2) (offset : Nat), offset < 0x808000 ∧ (s.bank b.val).sequence = .none)
    ∧ (∃ (s : State) (b : Fin 2) (o : FlashOp), (s.bank b.val).op = some o ∧ (s.bank b.val).nested = false)
    ∧ (∃ (s : State) (b : Fin 2), (s.bank b.val).op = none)
    ∧ (∃ (s : State) (b : Fin 2) (o : FlashOp), (s.bank b.val).suspended = some o ∧ (s.bank b.val).op = none
      ∧ s.eflash.brownout = false)
    ∧ (∃ (s : State) (offset : Nat) (debug : Bool), offset < 0x808000 ∧ debug = true ∧ s.eflash.rdpLevel ≠ 0)
    ∧ (∃ (s : State) (b : Fin 2) (offset : Nat) (debug : Bool), offset < 0x808000 ∧ (debug = false
      ∨ s.eflash.rdpLevel = 0) ∧ (s.bank b.val).statusMode = true)
    ∧ (∃ (s : State) (b : Fin 2) (offset : Nat) (debug : Bool), offset < 0x808000 ∧ (debug = false
      ∨ s.eflash.rdpLevel = 0) ∧ (s.bank b.val).statusMode = false ∧ (s.bank b.val).op.isSome = true)
    ∧ (∃ (s : State) (b : Fin 2) (offset : Nat) (debug : Bool) (c : Bool) (u : Bool), offset < 0x808000
      ∧ (debug = false ∨ s.eflash.rdpLevel = 0) ∧ (s.bank b.val).statusMode = false ∧ (s.bank b.val).idle = true
      ∧ (s.bank b.val).margin = 0 ∧ u = false ∧ c = false)
    ∧ (∃ (s : State) (b : Fin 2) (offset : Nat) (debug : Bool) (u : Bool), offset < 0x808000 ∧ (debug = false
      ∨ s.eflash.rdpLevel = 0) ∧ (s.bank b.val).statusMode = false ∧ (s.bank b.val).idle = true
      ∧ (s.bank b.val).margin = 0 ∧ u = true)
    ∧ (∃ (s : State) (b : Fin 2) (us : Map (BitVec 256)), (s.bank b.val).op = some (.program us)
      ∧ Map.sorted us = true)
    ∧ (∃ (s : State) (b : Fin 2) (us : Map (BitVec 256)), (s.bank b.val).op = some (.program us))
    ∧ (∃ (s : State) (b : Fin 2) (k : Nat), (s.bank b.val).op = some (.erase k))
    ∧ (∃ (s : State), s.eflash.brownout = false)
    ∧ (∃ (s : State), s.eflash.brownout = true)
    ∧ (∃ (s : State) (sector : Nat), s.scrubRuns sector = true ∧ s.reg 0x8021 0 ≠ 3 ∧ (s.reg 0x8021 0 = 1
      ∨ 24 * s.reg 0x8020 1 ≤ s.reg 0x4040 2 - s.eflash.scrubAt))
    ∧ (∃ (s : State) (sector : Nat), s.scrubRuns sector = true ∧ s.reg 0x8021 0 ≠ 1 ∧ (s.reg 0x8021 0 = 3
      ∨ 24 * s.reg 0x8020 2 ≤ s.reg 0x4040 2 - s.reg 0x8023 0)) :=
  ⟨⟨sOn, 1, by decide +kernel⟩,
   ⟨{ sOn with eflash := { Eflash.reset with banks := [(1, { Bank.reset with sequence := .bankConfirm })] } },
      1, by decide +kernel⟩,
   ⟨{ sOn with security := { Security.reset with slots := [(0, { ImageSlot.reset with state := 4 })] } },
      0, by decide +kernel⟩,
   ⟨{ sOn with eflash := { Eflash.reset with banks := [(1, { Bank.reset with sequence := .loading [(0x1000, 1), (0x1008, 2), (0x1010, 3), (0x1018, 4)] })] } },
      1, [(0x1000, 1), (0x1008, 2), (0x1010, 3), (0x1018, 4)], 128, by decide +kernel⟩,
   ⟨{ sOn with eflash := { Eflash.reset with banks := [(1, { Bank.reset with units := [(128, 5)], sequence := .loading [(0x1000, 1), (0x1008, 2), (0x1010, 3), (0x1018, 4)] })] } },
      1, [(0x1000, 1), (0x1008, 2), (0x1010, 3), (0x1018, 4)], 128, by decide +kernel⟩,
   ⟨{ sOn with eflash := { Eflash.reset with banks := [(1, { Bank.reset with sequence := .loading [(0x1000, 1), (0x1008, 2), (0x1010, 3), (0x1018, 4)] })] } },
      1, 0x807FF8, [(0x1000, 1), (0x1008, 2), (0x1010, 3), (0x1018, 4)], by decide +kernel⟩,
   ⟨{ sOn with eflash := { Eflash.reset with banks := [(1, { Bank.reset with units := [(128, 5)], sequence := .eraseAddress })] } },
      1, 0x1000, 0, by decide +kernel⟩,
   ⟨sOn, 1, 0x1000, by decide +kernel⟩,
   ⟨{ sOn with eflash := { Eflash.reset with banks := [(1, { Bank.reset with op := some (.erase 3) })] } },
      1, ((.erase 3)), by decide +kernel⟩,
   ⟨sOn, 1, by decide +kernel⟩,
   ⟨{ sOn with eflash := { Eflash.reset with banks := [(1, { Bank.reset with suspended := some (.erase 3) })] } },
      1, ((.erase 3)), by decide +kernel⟩,
   ⟨{ sOn with eflash := { Eflash.reset with rdpLevel := 1 } }, 0x1000, true, by decide +kernel⟩,
   ⟨{ sOn with eflash := { Eflash.reset with banks := [(1, { Bank.reset with statusMode := true, op := some (.erase 3) })] } },
      1, 0x1000, false, by decide +kernel⟩,
   ⟨{ sOn with eflash := { Eflash.reset with banks := [(1, { Bank.reset with op := some (.erase 3) })] } },
      1, 0x1000, false, by decide +kernel⟩,
   ⟨{ sOn with eflash := { Eflash.reset with banks := [(1, { Bank.reset with units := [(128, 5)] })] } },
      1, 0x1000, false, false, false, by decide +kernel⟩,
   ⟨{ sOn with eflash := { Eflash.reset with banks := [(1, { Bank.reset with units := [(128, 5)] })] } },
      1, 0x1000, false, true, by decide +kernel⟩,
   ⟨{ sOn with eflash := { Eflash.reset with banks := [(1, { Bank.reset with units := [(129, 5)], op := some (.program [(128, 7)]) })] } },
      1, [(128, 7)], by decide +kernel⟩,
   ⟨{ sOn with eflash := { Eflash.reset with banks := [(1, { Bank.reset with units := [(129, 5)], op := some (.program [(128, 7)]) })] } },
      1, [(128, 7)], by decide +kernel⟩,
   ⟨{ sOn with eflash := { Eflash.reset with banks := [(1, { Bank.reset with units := [(129, 5), (400, 6)], op := some (.erase 1) })] } },
      1, 1, by decide +kernel⟩,
   ⟨{ sOn with eflash := { Eflash.reset with banks := [(0, { Bank.reset with op := some (.erase 3) }), (1, { Bank.reset with suspended := some (.erase 3) })] } },
      by decide +kernel⟩,
   ⟨{ sOn with eflash := { Eflash.reset with brownout := true } }, by decide +kernel⟩,
   ⟨{ ((((sOn.setReg 0x8020 1 1).setReg 0x8020 2 1).setReg 0x4040 2 1000) : State) with eflash := { Eflash.reset with banks := [(1, { Bank.reset with units := [(129, 5)] })] } },
      1, by decide +kernel⟩,
   ⟨{ ((((sOn.setReg 0x8020 1 1).setReg 0x8020 2 1).setReg 0x4040 2 1000) : State) with eflash := { Eflash.reset with banks := [(1, { Bank.reset with units := [(129, 5)] })] } },
      1, by decide +kernel⟩⟩

theorem witness_servicePortAndAttestation :
    (∃ (s : State) (seq : Nat), s.security.lastSeq = some (seq % 256))
    ∧ (∃ (s : State) (seq : Nat) (code : Nat), s.security.lastSeq ≠ some (seq % 256) ∧ code ≤ 2)
    ∧ (∃ (s : State) (seq : Nat) (code : Nat), s.security.lastSeq ≠ some (seq % 256) ∧ 2 < code)
    ∧ (∃ (s : State) (seq : Nat), s.security.lastSeq ≠ some (seq % 256))
    ∧ (∃ (s : State) (c : Nat) (b : Nat), s.security.svcNext = some (c, b) ∧ 100000 ≤ s.clock.beat - b)
    ∧ (∃ (s : State) (seq : Nat), s.security.lastSeq ≠ some (seq % 256) ∧ s.ctl.mode = .save)
    ∧ (∃ (s : State) (seq : Nat) (length : Nat) (b : Nat), s.security.lastSeq ≠ some (seq % 256) ∧ s.ctl.mode ≠ .save
      ∧ s.security.updateState ≠ 1 ∧ length ≤ imageMax ∧ s.eflash.brownout = false ∧ s.targetSlot = b)
    ∧ (∃ (s : State) (seq : Nat) (offset : Nat) (b : Nat) (data : List Byte), s.security.lastSeq ≠ some (seq % 256)
      ∧ s.ctl.mode ≠ .save ∧ s.security.updateState = 1 ∧ offset % 32 = 0 ∧ data.length % 32 = 0 ∧ data ≠ []
      ∧ data.length ≤ 4096 ∧ offset + data.length ≤ s.security.updateLength ∧ s.eflash.brownout = false
      ∧ s.targetSlot = b ∧ (∀ k < data.length / 32, (s.bank b).units.find? (offset / 32 + k) = none))
    ∧ (∃ (s : State) (seq : Nat) (offset : Nat) (b : Nat) (data : List Byte), s.security.lastSeq ≠ some (seq % 256)
      ∧ s.ctl.mode ≠ .save ∧ s.security.updateState = 1 ∧ offset % 32 = 0 ∧ data.length % 32 = 0 ∧ data ≠ []
      ∧ data.length ≤ 4096 ∧ offset + data.length ≤ s.security.updateLength ∧ s.eflash.brownout = false
      ∧ s.targetSlot = b ∧ (∃ k < data.length / 32, (s.bank b).units.find? (offset / 32 + k) ≠ none))
    ∧ (∃ (s : State) (seq : Nat) (b : Nat) (r : Nat), s.security.lastSeq ≠ some (seq % 256) ∧ s.ctl.mode ≠ .save
      ∧ s.security.updateState = 1 ∧ s.targetSlot = b ∧ s.verify b true = r)
    ∧ (∃ (s : State) (seq : Nat) (b : Nat), s.security.lastSeq ≠ some (seq % 256) ∧ s.ctl.mode ≠ .save
      ∧ s.targetSlot = b ∧ s.security.updateState = 2 ∧ s.ctl.recovery = false)
    ∧ (∃ (s : State) (seq : Nat) (b : Nat), s.security.lastSeq ≠ some (seq % 256) ∧ s.ctl.mode ≠ .save
      ∧ s.targetSlot = b ∧ s.security.updateState ≠ 0)
    ∧ (∃ (s : State) (e : Nat), ∀ x, s.session e = some x → x.stage < 2)
    ∧ (∃ (s : State) (e : Nat) (x : SpdmSession), s.session e = some x ∧ 1 ≤ x.stage)
    ∧ (∃ (s : State) (e : Nat) (x : SpdmSession), s.session e = some x ∧ 2 ≤ x.stage)
    ∧ (∃ (s : State) (e : Nat) (x : SpdmSession) (slot : Nat), s.session e = some x ∧ 3 ≤ x.stage ∧ slot ≠ 0)
    ∧ (∃ (s : State) (e : Nat) (x : SpdmSession) (length : Nat), s.session e = some x ∧ 3 ≤ x.stage ∧ length ≤ 4096)
    ∧ (∃ (s : State) (e : Nat) (x : SpdmSession) (i : Nat), s.session e = some x ∧ 3 ≤ x.stage ∧ 1 ≤ i ∧ i ≤ 8)
    ∧ (∃ (s : State) (e : Nat) (x : SpdmSession), s.session e = some x ∧ 3 ≤ x.stage)
    ∧ (∃ (s : State) (e : Nat) (x : SpdmSession) (seq : Nat), s.session e = some x ∧ 3 ≤ x.stage
      ∧ seq * 4096 < x.response.length) :=
  ⟨⟨{ sOn with security := { Security.reset with lastSeq := some 7, lastResponse := [.svc 0x90 7 0 []] } }, 263,
      by decide +kernel⟩,
   ⟨sOn, 3, 2, by decide +kernel⟩,
   ⟨sOn, 3, 5, by decide +kernel⟩,
   ⟨sOn, 3, by decide +kernel⟩,
   ⟨{ ({ sOn with security := { Security.reset with svcNext := some (2, 5), svcRate := 2 } } : State) with clock := { Clock.reset with beat := 100005 } },
      2, 5, by decide +kernel⟩,
   ⟨{ sOn with ctl := { sOn.ctl with mode := .save, access := false } }, 3, by decide +kernel⟩,
   ⟨{ ({ sOn with eflash := { Eflash.reset with banks := [(1, { Bank.reset with units := [(2, 5), (300, 6)] })] } } : State) with security := { Security.reset with slots := [(0, { ImageSlot.reset with state := 4, generation := 2 })] } },
      3, 9000, 1, by decide +kernel⟩,
   ⟨{ ({ sOn with eflash := { Eflash.reset with banks := [(1, { Bank.reset with units := [] })] } } : State) with security := { Security.reset with updateState := 1, updateLength := 64, slots := [(0, { ImageSlot.reset with state := 4, generation := 2 })] } },
      3, 32, 1, (List.replicate 32 0x5A), by decide +kernel⟩,
   ⟨{ ({ sOn with eflash := { Eflash.reset with banks := [(1, { Bank.reset with units := [(1, 5)] })] } } : State) with security := { Security.reset with updateState := 1, updateLength := 64, slots := [(0, { ImageSlot.reset with state := 4, generation := 2 })] } },
      3, 32, 1, (List.replicate 32 0x5A), by decide +kernel⟩,
   ⟨{ ({ sOn with eflash := { Eflash.reset with banks := [(1, { Bank.reset with units := [(1, 5)] })] } } : State) with security := { Security.reset with updateState := 1, updateLength := 64, slots := [(0, { ImageSlot.reset with state := 4, generation := 2 })] } },
      3, 1, ({ ({ sOn with eflash := { Eflash.reset with banks := [(1, { Bank.reset with units := [(1, 5)] })] } } : State) with security := { Security.reset with updateState := 1, updateLength := 64, slots := [(0, { ImageSlot.reset with state := 4, generation := 2 })] } } : State).verify 1 true,
      by decide +kernel⟩,
   ⟨{ ({ sOn with eflash := { Eflash.reset with banks := [(1, { Bank.reset with units := [(1, 5)] })] } } : State) with security := { Security.reset with updateState := 2, updateLength := 64, slots := [(0, { ImageSlot.reset with state := 4, generation := 2 })] } },
      3, 1, by decide +kernel⟩,
   ⟨{ ({ sOn with eflash := { Eflash.reset with banks := [(1, { Bank.reset with units := [(1, 5)] })] } } : State) with security := { Security.reset with updateState := 2, updateLength := 64, slots := [(0, { ImageSlot.reset with state := 4, generation := 2 })] } },
      3, 1, by decide +kernel⟩,
   ⟨sOn, 9, fun _ h => nomatch h⟩,
   ⟨{ sOn with security := { Security.reset with sessions := [{ endpoint := 9, stage := 1, used := 0, request := [1], response := List.replicate 4100 7 }] } },
      9, { endpoint := 9, stage := 1, used := 0, request := [1], response := List.replicate 4100 7 },
      by decide +kernel⟩,
   ⟨{ sOn with security := { Security.reset with sessions := [{ endpoint := 9, stage := 2, used := 0, request := [1], response := List.replicate 4100 7 }] } },
      9, { endpoint := 9, stage := 2, used := 0, request := [1], response := List.replicate 4100 7 },
      by decide +kernel⟩,
   ⟨{ sOn with security := { Security.reset with sessions := [session3] } }, 9, session3, (1), by decide +kernel⟩,
   ⟨{ sOn with security := { Security.reset with sessions := [session3] } }, 9, session3, (64), by decide +kernel⟩,
   ⟨{ sOn with security := { Security.reset with sessions := [session3] } }, 9, session3, (2), by decide +kernel⟩,
   ⟨{ sOn with security := { Security.reset with sessions := [session3] } }, 9, session3, by decide +kernel⟩,
   ⟨{ sOn with security := { Security.reset with sessions := [session3] } }, 9, session3, (1), by decide +kernel⟩⟩

theorem witness_testsScanAddressesAndBeats :
    (∃ (s : State) (role : Role) (u : Nat), s.serves role s.hostLink ∧ s.reg 0x9010 1 = u
      ∧ s.writeCode role (Item.mk 0x9010 5 1 1) = 0 ∧ s.test.running.find? u = none)
    ∧ (∃ (s : State) (role : Role) (u : Nat), s.serves role s.hostLink ∧ s.reg 0x9010 1 = u
      ∧ s.writeCode role (Item.mk 0x9010 5 0 1) = 0 ∧ s.test.running.find? u ≠ none)
    ∧ (∃ (s : State) (u : Nat), u < 36 ∧ s.test.running.find? u ≠ none ∧ s.test.locked.contains u = false)
    ∧ (∃ (s : State) (u : Nat) (errors : Nat), s.test.locked.contains u = true ∧ 32 < errors)
    ∧ (∃ (s : State) (role : Role) (v : Nat) (u : Nat), s.writePasses role 0x9020 5 v ∧ v < 256 ∧ s.reg 0x9020 1 = u)
    ∧ (∃ (s : State) (u : Nat) (first : Nat), s.breg u 0x9020 5 = 1 ∧ 32 ≤ u ∧ u < 36 ∧ 0 < first)
    ∧ (∃ s : State, s.pinsFree = true)
    ∧ (∃ s : State, s.pinsFree = false)
    ∧ (∃ (s : State), s.eflash.rdpLevel = 0)
    ∧ (∃ (s : State), s.eflash.rdpLevel ≠ 0)
    ∧ (∃ (s : State) (a : Nat), s.ctl.vaux = true ∧ s.security.busAddress = none ∧ a < 128)
    ∧ (∃ (s : State), s.ctl.vaux = true ∧ s.dict.submitted = []) :=
  ⟨⟨{ (sOn.setReg 0x9010 1 36 : State) with ctl := { sOn.ctl with testHold := 1 }, test := { Test.reset with running := [] } },
      .service, 36, by unfold State.serves; decide +kernel⟩,
   ⟨{ (sOn.setReg 0x9010 1 36 : State) with ctl := { sOn.ctl with testHold := 1 }, test := { Test.reset with running := [(36, 0)] } },
      .service, 36, by unfold State.serves; decide +kernel⟩,
   ⟨{ sOn with ctl := { sOn.ctl with testHold := 1 }, test := { Test.reset with running := [(3, 0)] } },
      3, by decide +kernel⟩,
   ⟨{ sOn with ctl := { sOn.ctl with testHold := 1 }, test := { Test.reset with running := [(3, 0)], locked := [3] } },
      3, 33, by decide +kernel⟩,
   ⟨sDom.setReg 0x9020 1 32, .service, 1, 32, by unfold State.writePasses State.serves; decide +kernel⟩,
   ⟨(sDom.setReg 0x9020 1 32).setBreg 32 0x9020 5 1, 32, 5, by decide +kernel⟩,
   ⟨State.reset, by decide +kernel⟩,
   ⟨sOn, by decide +kernel⟩,
   ⟨sOn, by decide +kernel⟩,
   ⟨{ sOn with eflash := { Eflash.reset with rdpLevel := 1 } }, by decide +kernel⟩,
   ⟨sOn, 9, by decide +kernel⟩,
   ⟨sOn, by decide +kernel⟩⟩
end Sys2Proof.Tests
end

section
/-! PROOFS. The state after reset, and writes of one entry that a check refuses. First what a response changes, then what the
Bureau does with a message that it takes at once, then the checks that a write meets, then the obligations. -/

namespace Sys2Proof.Machine

/-! ### Frames of data and of entries -/

theorem DataKept.trans {s t u : State} (h : DataKept s t) (k : DataKept t u) : DataKept s u := by
  obtain ⟨h1, h2, h3, h4, h5, h6⟩ := h
  obtain ⟨k1, k2, k3, k4, k5, k6⟩ := k
  exact ⟨k1.trans h1, k2.trans h2, k3.trans h3, k4.trans h4, k5.trans h5, k6.trans h6⟩

/-- Reports move no data. -/
theorem SameButReports.dataKept {s t : State} (h : SameButReports s t) : DataKept s t := by
  have hm := h.mode
  obtain ⟨h1, -⟩ := h
  exact ⟨by rw [h1], by rw [h1], by rw [h1], by rw [h1], hm, by rw [h1]⟩

/-- Reports keep the entries that `RegsKept` speaks of, whatever it leaves out. -/
theorem SameButReports.regsKept {s t : State} (h : SameButReports s t) (except : List Nat) : RegsKept s t except := by
  obtain ⟨-, -, -, hk, -⟩ := h
  exact fun k hr hw _ => hk k hr hw

/-- Entries kept up to a state of the same mode, and from there on, are kept. -/
theorem RegsKept.trans {s t u : State} {except : List Nat} (hm : t.ctl.mode = s.ctl.mode) (h : RegsKept s t except)
    (k : RegsKept t u except) : RegsKept s u except := fun x hr hw he =>
  (k x hr (fun hd => hw (hm ▸ hd)) he).trans (h x hr hw he)

/-! ### What a response changes -/

/-- Queueing the segments of a message changes nothing but the Trestle. -/
theorem State.sendSegments_eq (s : State) (member tag bytes image : Nat) :
    ∃ tr, s.sendSegments member tag bytes image = { s with trestle := tr } :=
  State.foldl_holds (fun t => ∃ tr, t = { s with trestle := tr }) _
    (by
      rintro _ _ ⟨_, rfl⟩
      exact ⟨_, rfl⟩) _ s ⟨_, rfl⟩

/-- A response leaves by its role's path: it is emitted, with nothing more than reports and, for role T, cells queued on the
Trestle. The premises say that no reset came between and that a host's link is up. -/
theorem State.respond_reports (s : State) (op : DictOp) (role : Role) (link : Fin 4)
    (member tag status result handle beat : Nat) (items : List RespItem) (htag : tag < 65536)
    (hup : role = .host → (s.link link.val).up = true) :
    ∃ u tr, SameButReports (s.emit (.dict role link.val tag status result handle beat items)) u
      ∧ s.respond op role link member tag status result handle beat items = { u with trestle := tr } := by
  cases role with
  | host =>
    have htag' : ¬ 65536 ≤ tag := by omega
    have hsend : s.respond op .host link member tag status result handle beat items
        = (s.emit (.dict .host link.val tag status result handle beat items)).signal link.val 0 := by
      simp only [State.respond, State.respondHost, if_neg htag', hup rfl, if_true]
    exact ⟨_, _, State.signal_reports _ link.val 0, hsend.trans rfl⟩
  | fleet =>
    obtain ⟨tr, h⟩ := State.sendSegments_eq (s.emit (.dict .fleet link.val tag status result handle beat items)) member tag
      (respBytes op items) (responseImage op tag status result handle beat items)
    exact ⟨_, tr, .refl _, h⟩
  | board => exact ⟨_, _, .refl _, rfl⟩
  | service => exact ⟨_, _, .refl _, rfl⟩

/-- A response moves no data and no entry, and it is among the outputs. -/
theorem State.respond_keeps (s : State) (op : DictOp) (role : Role) (link : Fin 4)
    (member tag status result handle beat : Nat) (items : List RespItem) (htag : tag < 65536)
    (hup : role = .host → (s.link link.val).up = true) (except : List Nat) :
    DataKept s (s.respond op role link member tag status result handle beat items)
      ∧ RegsKept s (s.respond op role link member tag status result handle beat items) except
      ∧ Output.dict role link.val tag status result handle beat items
        ∈ (s.respond op role link member tag status result handle beat items).out := by
  obtain ⟨u, tr, hu, ht⟩ := s.respond_reports op role link member tag status result handle beat items htag hup
  have hs := (SameButReports.emit s (.dict role link.val tag status result handle beat items)).trans hu
  obtain ⟨-, -, -, -, -, os, hout⟩ := hu
  rw [ht]
  exact ⟨hs.dataKept, hs.regsKept except, by simp [hout]⟩

/-! ### A message that is taken at once -/

/-- Counting a message moves no data. -/
theorem State.asked_dataKept (s : State) (role : Role) : DataKept s (s.asked role) := by
  unfold State.asked
  split <;> exact ⟨rfl, rfl, rfl, rfl, rfl, rfl⟩

/-- Counting a message moves no entry but the count. -/
theorem State.asked_regsKept (s : State) (role : Role) : RegsKept s (s.asked role) [key 0xA032 0] := by
  intro k _ _ hk
  have hne : k ≠ key 0xA032 0 := fun e => hk (by simp [e])
  unfold State.asked
  split <;> simp [State.addReg, State.fresh, hne]

@[simp] theorem State.asked_link (s : State) (role : Role) (i : Nat) : (s.asked role).link i = s.link i := by
  unfold State.asked
  split <;> rfl

@[simp] theorem State.asked_eflash (s : State) (role : Role) : (s.asked role).eflash = s.eflash := by
  unfold State.asked
  split <;> rfl

@[simp] theorem State.asked_mode (s : State) (role : Role) : (s.asked role).ctl.mode = s.ctl.mode := by
  unfold State.asked
  split <;> rfl

/-- A WRITE that the Bureau takes at once, and that fits, is carried out item by item on the state that has counted it. -/
theorem State.request_write (s : State) (m : DictMsg) (hs : s.serves m.role m.link) (hf : s.fits .write m) :
    s.request .write m = .next ((s.asked m.role).write m.role m.link m.member m.tag m.items) := by
  obtain ⟨hvaux, hrec, hlost, hreload, hup⟩ := hs
  obtain ⟨hgood, hreq, hresp, htarget, -⟩ := hf
  have hlink : ¬ (m.role = .host ∧ (s.link m.link.val).up = false) := fun ⟨hr, hd⟩ => by simp [hup hr] at hd
  have hlimit : ¬ (messageLimit m.role < DictMsg_bytes m ∨ messageLimit m.role < responseBytes .write m) := by omega
  have hmine : ¬ (m.target ≠ 0xFFFF ∧ m.target ≠ s.member) := by tauto
  have htake : ∀ t : State, t.member = s.member → t.takeMsg .write m = t.runMsg .write m := fun t ht => by
    simp only [State.takeMsg, hgood, if_neg hlimit, ht, if_neg hmine, Bool.false_eq_true, if_false]
  have hrun : s.fresh.takeRequest .write m
      = (if m.role = .service then { s.fresh with security := { s.security with svcNext := none } } else s.fresh).runMsg
          .write m := by
    have h1 : s.fresh.ctl.recovery = false := hrec
    have h2 : s.fresh.bureau.lost = false := hlost
    have h3 : s.fresh.ctl.bureauReload = false := hreload
    simp only [State.takeRequest, h1, h2, h3, Bool.false_eq_true, if_false]
    refine htake _ ?_
    split <;> rfl
  simp only [State.request, hvaux, hrec, Bool.true_eq_false, Bool.false_eq_true, false_and, or_self, if_neg hlink,
    if_false, hrun]
  rfl

/-- The message of a command that writes one entry. -/
def State.entryMsg (s : State) (role : Role) (i : Item) : DictMsg :=
  { role := role, link := s.hostLink, member := 0, tag := 0, target := 0xFFFF, handle := 0, snapshot := false,
    malformed := false, items := [i] }

theorem exec_registerWrite (s : State) (role : Role) (idx sub v len : Nat) :
    exec (.registerWrite role idx sub v len) s
      = s.request .write (s.entryMsg role (Item.mk (idx % 65536) (sub % 256) (v % 2 ^ (8 * len)) len)) := rfl

/-- A message that writes one entry of at most 256 B fits every transport. -/
theorem State.entryMsg_fits (s : State) (role : Role) (i : Item) (hlen : i.len ≤ 256) :
    s.fits .write (s.entryMsg role i) := by
  have hpad : paddedBytes i.len ≤ 264 := by
    unfold paddedBytes ceilDiv
    omega
  have hlimit : 704 ≤ messageLimit role := by
    unfold messageLimit
    split <;> omega
  have hbytes : DictMsg_bytes (s.entryMsg role i) = 16 + paddedBytes i.len := rfl
  have hresp : responseBytes .write (s.entryMsg role i) = 24 := rfl
  have hrole : (s.entryMsg role i).role = role := rfl
  refine ⟨rfl, ?_, ?_, .inl rfl, by simp [State.entryMsg]⟩
  · rw [hbytes, hrole]
    omega
  · rw [hresp, hrole]
    omega

/-! ### A write of one entry that is refused -/

/-- A WRITE of one item that a check refuses only answers the item's code. -/
theorem State.write_refused (s : State) (role : Role) (link : Fin 4) (member tag : Nat) (i : Item)
    (hcode : s.writeCode role i ≠ 0) :
    s.write role link member tag [i]
      = s.respond .write role link member tag 0 0 0 0 [respOf i (s.writeCode role i)] := by
  simp [State.write, State.writeItems, State.writeItem, hcode]

/-- REGISTER_WRITE of an entry whose value a check refuses answers the code and keeps every entry. -/
theorem registerWrite_refused (s : State) (role : Role) (idx sub v len : Nat) (hs : s.serves role s.hostLink)
    (hlen : len ≤ 256) (i : Item) (hi : i = Item.mk (idx % 65536) (sub % 256) (v % 2 ^ (8 * len)) len)
    (hcode : (s.asked role).writeCode role i ≠ 0) :
    ∃ t, exec (.registerWrite role idx sub v len) s = .next t ∧ DataKept s t ∧ RegsKept s t [key 0xA032 0]
      ∧ Output.dict role s.hostLink.val 0 0 0 0 0 [respOf i ((s.asked role).writeCode role i)] ∈ t.out := by
  have hup : role = .host → ((s.asked role).link s.hostLink.val).up = true := fun hr => by
    obtain ⟨-, -, -, -, hup⟩ := hs
    simpa using hup hr
  obtain ⟨hdata, hregs, hout⟩ := (s.asked role).respond_keeps .write role s.hostLink 0 0 0 0 0 0
    [respOf i ((s.asked role).writeCode role i)] (by omega) hup [key 0xA032 0]
  have hfits : s.fits .write (s.entryMsg role i) := s.entryMsg_fits role i (by rw [hi]; exact hlen)
  refine ⟨_, ?_, (s.asked_dataKept role).trans hdata, (s.asked_regsKept role).trans (s.asked_mode role) hregs, hout⟩
  rw [exec_registerWrite, ← hi, s.request_write (s.entryMsg role i) hs hfits]
  exact congrArg _ (State.write_refused _ role _ _ _ i hcode)

/-! ### What the tables of entries say -/

/-- Facts that hold of every row: a value has at most 256 B, a reserved bit of a BITS32 entry is one of 32, and only role S
may write an F-class entry, as RW where its row says so. -/
theorem rowsOf_facts (idx : Nat) : ∀ r ∈ rowsOf idx, r.size ≤ 256 ∧ (r.type = 9 → r.max.toNat < 2 ^ 32)
    ∧ (r.keep = .f → r.h = .ro ∧ r.b = .ro ∧ r.t = .ro ∧ (r.s = .ro ∨ r.s = .rw)) := by
  unfold rowsOf
  split <;> decide +kernel

theorem size_le_of_rowOf {idx sub : Nat} {r : Entry} (h : rowOf idx sub = some r) : r.size ≤ 256 :=
  (rowsOf_facts idx r (List.mem_of_find?_eq_some h)).1

theorem bits32_max_lt_of_rowOf {idx sub : Nat} {r : Entry} (h : rowOf idx sub = some r) (ht : r.type = 9) :
    r.max.toNat < 2 ^ 32 :=
  (rowsOf_facts idx r (List.mem_of_find?_eq_some h)).2.1 ht

/-- A role that may write an F-class entry is S, and the entry lists S as RW. -/
theorem service_of_fClass_access {idx sub : Nat} {r : Entry} (h : rowOf idx sub = some r) (hf : r.keep = .f) {role : Role}
    (ha : r.access role ≠ .ro) : role = .service ∧ r.s = .rw := by
  obtain ⟨-, -, hrow⟩ := rowsOf_facts idx r (List.mem_of_find?_eq_some h)
  obtain ⟨hh, hb, ht, hs⟩ := hrow hf
  cases role with
  | host => exact absurd hh ha
  | board => exact absurd hb ha
  | fleet => exact absurd ht ha
  | service => exact ⟨rfl, hs.resolve_left ha⟩

/-! ### Reserved bits and values are out of range -/

theorem Entry.inRange_reservedBit {r : Entry} (ht : r.type = 9) (hmax : r.max.toNat < 2 ^ 32) {v n : Nat}
    (hv : v.testBit n = true) (hn : n < 32) (hr : r.max.toNat.testBit n = false) : r.inRange v = false := by
  have hmask : (2 ^ 32 - 1 - r.max.toNat).testBit n = true := by
    rw [show 2 ^ 32 - 1 - r.max.toNat = 2 ^ 32 - (r.max.toNat + 1) by omega, Nat.testBit_two_pow_sub_succ hmax, hr]
    simp [hn]
  have hbit : (v &&& (2 ^ 32 - 1 - r.max.toNat)).testBit n = true := by rw [Nat.testBit_and, hv, hmask, Bool.and_self]
  have hne : v &&& (2 ^ 32 - 1 - r.max.toNat) ≠ 0 := fun h => by
    rw [h, Nat.zero_testBit] at hbit
    cases hbit
  simpa only [Entry.inRange, ht, beq_eq_false_iff_ne] using hne

theorem Entry.inRange_unlisted {r : Entry} (ht : r.type = 8) (hvs : r.values ≠ []) {v : Nat} (hv : (v : Int) ∉ r.values) :
    r.inRange v = false := by
  simp [Entry.inRange, ht, valueOf, hvs, hv]

theorem Entry.inRange_outside {r : Entry} (ht : r.type = 8) (hvs : r.values = []) {v : Nat} (hv : (v : Int) ∉ r.also)
    (hout : (v : Int) < r.min ∨ r.max < (v : Int)) : r.inRange v = false := by
  rcases hout with hout | hout
  · simp [Entry.inRange, ht, valueOf, hvs, hv, Int.not_le.mpr hout]
  · simp [Entry.inRange, ht, valueOf, hvs, hv, Int.not_le.mpr hout]

/-! ### The checks of an item, in their order -/

/-- Outside SAVE the code of an item's own check is the code of its write. -/
theorem State.writeCode_of_itemCheck (s : State) (role : Role) (i : Item) (hm : s.ctl.mode ≠ .save)
    (h : s.itemCheck role i ≠ 0) : s.writeCode role i = s.itemCheck role i := by
  simp [State.writeCode, hm, h]

/-- A write that passes has passed its item's own checks. -/
theorem State.itemCheck_of_writeCode (s : State) (role : Role) (i : Item) (h : s.writeCode role i = 0) :
    s.itemCheck role i = 0 := by
  unfold State.writeCode at h
  dsimp only at h
  by_contra hne
  simp only [if_pos hne] at h
  split at h
  · exact absurd h (by decide)
  · exact hne h

/-- An item that passes its own checks is of its entry's length, of an entry that the role may write, and not LOCKED. -/
theorem State.itemCheck_eq_zero {s : State} {role : Role} {i : Item} {r : Entry} (hr : rowOf i.index i.sub = some r)
    (h : s.itemCheck role i = 0) :
    i.len = r.size ∧ r.access role ≠ .ro ∧ (r.keep = .f → s.eflash.rdpLevel = 0) := by
  unfold State.itemCheck at h
  rw [hr] at h
  dsimp only at h
  split at h
  · cases h
  split at h
  · cases h
  split at h
  · cases h
  · rename_i hlen hacc hlock
    exact ⟨not_not.mp hlen, hacc, fun hf => by_contra fun hl => hlock ⟨hf, hl⟩⟩

/-- A value out of range gets RANGE, once the length, the access and the level have been checked. -/
theorem State.itemCheck_range {s : State} {role : Role} {i : Item} {r : Entry} (hr : rowOf i.index i.sub = some r)
    (hlen : i.len = r.size) (ha : r.access role ≠ .ro) (hl : r.keep = .f → s.eflash.rdpLevel = 0)
    (hv : r.inRange i.value = false) : s.itemCheck role i = 4 := by
  have hlock : ¬ (r.keep = .f ∧ s.eflash.rdpLevel ≠ 0) := fun ⟨hf, h⟩ => h (hl hf)
  simp only [State.itemCheck, hr, hlen, ne_eq, not_true_eq_false, if_false, if_neg ha, if_neg hlock, hv, if_true]

/-- An F-class entry gets LOCKED at a level other than 0, once the length and the access have been checked. -/
theorem State.itemCheck_locked {s : State} {role : Role} {i : Item} {r : Entry} (hr : rowOf i.index i.sub = some r)
    (hlen : i.len = r.size) (ha : r.access role ≠ .ro) (hf : r.keep = .f) (hl : s.eflash.rdpLevel ≠ 0) :
    s.itemCheck role i = 6 := by
  simp only [State.itemCheck, hr, hlen, ne_eq, not_true_eq_false, if_false, if_neg ha, hf, hl, not_false_eq_true,
    and_self, if_true]

/-- REGISTER_WRITE of a value out of its entry's range answers RANGE and keeps every entry. -/
theorem registerWrite_range (s : State) (role : Role) (idx sub v : Nat) (r : Entry) (hs : s.serves role s.hostLink)
    (hm : s.ctl.mode ≠ .save) (hidx : idx < 65536) (hsub : sub < 256) (hr : rowOf idx sub = some r)
    (ha : r.access role ≠ .ro) (hl : r.keep = .f → s.eflash.rdpLevel = 0) (hv : v < 2 ^ (8 * r.size))
    (hrange : r.inRange v = false) :
    ∃ t, exec (.registerWrite role idx sub v r.size) s = .next t ∧ DataKept s t ∧ RegsKept s t [key 0xA032 0]
      ∧ Output.dict role s.hostLink.val 0 0 0 0 0 [⟨idx, sub, 4, r.type, 0⟩] ∈ t.out := by
  have hitem : Item.mk idx sub v r.size
      = Item.mk (idx % 65536) (sub % 256) (v % 2 ^ (8 * r.size)) r.size := by
    rw [Nat.mod_eq_of_lt hidx, Nat.mod_eq_of_lt hsub, Nat.mod_eq_of_lt hv]
  have hcheck : (s.asked role).itemCheck role (Item.mk idx sub v r.size) = 4 :=
    State.itemCheck_range hr rfl ha (by simpa using hl) hrange
  have hcode : (s.asked role).writeCode role (Item.mk idx sub v r.size) = 4 := by
    rw [State.writeCode_of_itemCheck _ _ _ (by simpa using hm) (by simp [hcheck]), hcheck]
  have h := registerWrite_refused s role idx sub v r.size hs (size_le_of_rowOf hr) _ hitem (by simp [hcode])
  simpa only [hcode, respOf, hr] using h

/-! ### The obligations -/

/-- Settles O54: a refused write only answers, its item's own checks name RANGE and LOCKED in the order of the model, and the
tables let no role but S write an F-class entry. -/
theorem writesAreChecked : Obligations.WritesAreChecked := by
  unfold Obligations.WritesAreChecked
  refine ⟨fun s role idx sub v len i hs hlen hi hcode => registerWrite_refused s role idx sub v len hs hlen i hi hcode,
    fun s role idx sub v r hs hm hidx hsub hr ha hl hv hbad => ?_, fun s role i r hr hf => ⟨fun h => ?_, ?_⟩⟩
  · refine registerWrite_range s role idx sub v r hs hm hidx hsub hr ha hl hv ?_
    rcases hbad with ⟨ht, n, hbit, hn, hmax⟩ | ⟨ht, hvs, hmem⟩ | ⟨ht, hvs, hmem, hout⟩
    · exact Entry.inRange_reservedBit ht (bits32_max_lt_of_rowOf hr ht) hbit hn hmax
    · exact Entry.inRange_unlisted ht hvs hmem
    · exact Entry.inRange_outside ht hvs hmem hout
  · obtain ⟨-, ha, hl⟩ := State.itemCheck_eq_zero hr (s.itemCheck_of_writeCode role i h)
    obtain ⟨hrole, hs⟩ := service_of_fClass_access hr hf ha
    exact ⟨hrole, hs, hl hf⟩
  · rintro hl rfl hs hlen hm
    have hcheck : s.itemCheck .service i = 6 := State.itemCheck_locked hr hlen (by simp [Entry.access, hs]) hf hl
    rw [s.writeCode_of_itemCheck .service i hm (by simp [hcheck]), hcheck]

/-- After reset an entry other than the two counters holds its Default. -/
theorem State.reset_reg (idx sub : Nat) (hcount : key idx sub ≠ key 0x1102 1) (hgen : key idx sub ≠ key 0x4800 4) :
    State.reset.reg idx sub = defaultValue State.reset 0 idx sub := by
  have hnone : State.reset.regs.find? (key idx sub) = none :=
    (if_neg (Ne.symm hcount)).trans (if_neg (Ne.symm hgen))
  unfold State.reg
  rw [hnone]

/-- Settles O6: every table of the reset state is empty but the register file, which holds the two counters. -/
theorem resetState : Obligations.ResetState := by
  unfold Obligations.ResetState
  have hlink : ∀ i, State.reset.link i = Link.reset := fun _ => rfl
  have hslot : ∀ g, State.reset.slot g = Slot.reset := fun _ => rfl
  have hgroup : ∀ b, State.reset.faultGroup b = FaultGroup.reset := fun _ => rfl
  refine ⟨rfl, rfl, rfl, rfl, rfl, fun i => ?_, fun g => ?_, State.reset_reg, rfl, rfl, fun code => ?_⟩
  · rw [hlink]
    rfl
  · rw [hslot]
    exact ⟨rfl, rfl⟩
  · simp [State.hasFault, hgroup, FaultGroup.reset]

end Sys2Proof.Machine
end

section
/-! PROOFS. Which commands can change the operating mode. Role T may write two entries, neither of which acts, so a
message that a tunnel brings leaves the mode as it is; so do the frames that bring it. -/

namespace Sys2Proof.Machine

/-! ### What role T may write -/

/-- The rows that role T may write are those of `read_seq` and `read_tier`, as RW. -/
theorem rowsOf_fleet (idx : Nat) : ∀ r ∈ rowsOf idx, r.t ≠ .ro → r.t = .rw ∧ r.lo = 0x7430 ∧ r.n = 1 := by
  unfold rowsOf
  split <;> decide +kernel

/-- Role T may write entries of 0x7430 only, as RW. -/
theorem rowOf_fleet {idx sub : Nat} {r : Entry} (h : rowOf idx sub = some r) (ha : r.access .fleet ≠ .ro) :
    r.access .fleet = .rw ∧ idx = 0x7430 := by
  obtain ⟨hrw, hlo, hn⟩ := rowsOf_fleet idx r (List.mem_of_find?_eq_some h) ha
  have hhas : r.has idx sub = true := by simpa using List.find?_some h
  simp only [Entry.has, Entry.hasIndex, hlo, hn, Bool.and_eq_true, decide_eq_true_eq] at hhas
  exact ⟨hrw, by omega⟩

/-- An item that passes its own checks names an entry. -/
theorem State.rowOf_of_itemCheck {s : State} {role : Role} {i : Item} (h : s.itemCheck role i = 0) :
    ∃ r, rowOf i.index i.sub = some r := by
  unfold State.itemCheck at h
  split at h
  · split at h <;> cases h
  · exact ⟨_, ‹_›⟩

/-- A write of role T that has passed its checks stores a value and does nothing else to the mode. -/
theorem State.applyWrite_fleet_mode {s : State} {i : Item} (h : s.itemCheck .fleet i = 0) (sel : Nat) :
    (s.applyWrite .fleet i.index i.sub sel i.value).ctl.mode = s.ctl.mode := by
  obtain ⟨r, hr⟩ := State.rowOf_of_itemCheck h
  obtain ⟨-, ha, -⟩ := State.itemCheck_eq_zero hr h
  obtain ⟨hrw, hidx⟩ := rowOf_fleet hr ha
  have hact : s.act i.index i.sub i.value = none := by simp [State.act, State.act5, hidx]
  have hacc : r.access .fleet ≠ .w1c := by simp [hrw]
  simp only [State.applyWrite, State.follow_frame, State.storeValue, hr, if_neg hacc, hact, State.kept_frame,
    State.put_frame]

@[simp] theorem State.writeItem_fleet_mode (s : State) (link : Fin 4) (member tag reply place : Nat) (i : Item) :
    (s.writeItem .fleet link member tag reply place i).1.ctl.mode = s.ctl.mode := by
  unfold State.writeItem
  dsimp only
  split
  · rfl
  · rename_i hcode
    split
    · simp
    · exact State.applyWrite_fleet_mode (s.itemCheck_of_writeCode .fleet i (not_not.mp hcode)) _

@[simp] theorem State.writeItems_fleet_mode (link : Fin 4) (member tag reply : Nat) (is : List Item) (s : State)
    (place : Nat) : (s.writeItems .fleet link member tag reply place is).1.ctl.mode = s.ctl.mode := by
  induction is generalizing s place with
  | nil => rfl
  | cons i is ih => simp [State.writeItems, ih]

@[simp] theorem State.write_fleet_mode (s : State) (link : Fin 4) (member tag : Nat) (items : List Item) :
    (s.write .fleet link member tag items).ctl.mode = s.ctl.mode := by
  unfold State.write
  dsimp only
  split <;> simp

/-! ### Messages of role T, and the frames that bring them -/

theorem State.runMsg_fleet_mode (s : State) (op : DictOp) (m : DictMsg) (hm : m.role = .fleet) :
    (s.runMsg op m).ctl.mode = s.ctl.mode := by
  unfold State.runMsg
  cases op with
  | read =>
    dsimp only
    split <;> simp
  | write => simp [hm]
  | describe => simp [hm]
  | setOpen => simp
  | setAdd => simp
  | setSubmit => simp
  | setDiscard => simp
  | setStatus => simp

theorem State.takeMsg_fleet_mode (s : State) (op : DictOp) (m : DictMsg) (hm : m.role = .fleet) :
    (s.takeMsg op m).ctl.mode = s.ctl.mode := by
  unfold State.takeMsg
  repeat' split
  · simp
  · simp
  · simp
  · exact s.runMsg_fleet_mode op m hm

theorem State.takeRequest_fleet_mode (s : State) (op : DictOp) (m : DictMsg) (hm : m.role = .fleet) :
    (s.takeRequest op m).ctl.mode = s.ctl.mode := by
  have hrole : ¬ m.role = .service := by simp [hm]
  simp only [State.takeRequest, if_neg hrole]
  repeat' split
  · rfl
  · simp
  · rfl
  · exact s.takeMsg_fleet_mode op m hm

@[simp] theorem State.takeMessage_mode (s : State) (a : Nat × Bool × Nat) :
    (s.takeMessage a).ctl.mode = s.ctl.mode := by
  unfold State.takeMessage
  dsimp only
  split
  · split <;> simp
  · exact s.takeRequest_fleet_mode _ _ rfl

@[simp] theorem State.takeArrived_mode (s : State) : s.takeArrived.ctl.mode = s.ctl.mode := by
  simp [State.takeArrived]

theorem execFramePass_mode {f : Frame} {s t : State} (h : execFramePass f s = .next t) : t.ctl.mode = s.ctl.mode := by
  cases h
  split <;> simp

theorem execFrameReturn_mode {f : Frame} {lapNs : Nat} {s t : State} (h : execFrameReturn f lapNs s = .next t) :
    t.ctl.mode = s.ctl.mode := by
  cases h
  split <;> simp

/-- Settles O4: each command outside the list has a frame that says what it keeps, the mode among it. -/
theorem modeChangesOnlyBy : Obligations.ModeChangesOnlyBy := by
  unfold Obligations.ModeChangesOnlyBy
  intro c s t hc h
  cases c with
  | hostWrite => exact (execHostWrite_frame _ _ _ h).2.1
  | heldWriteRelease => exact (execHeldWriteRelease_frame _ _ _ h).2.1
  | journalWaitEnd stamp => exact (execJournalWaitEnd_frame stamp _ _ h).2.1
  | hostRead => exact (execHostRead_frame _ _ _ _ _ h).2.1
  | touchRestoreComplete => exact (execTouchRestoreComplete_frame _ _ _ _ _ h).2.1
  | backgroundRestoreLeaf => exact (execBackgroundRestoreLeaf_frame _ _ _ h).2.1
  | gpfPhase1 => exact (execGpfPhase1_frame _ _ _ h).2.1
  | gpfPhase2 => exact (execGpfPhase2_frame _ _ _ h).2.1
  | linkTrained => exact (execLinkTrained_frame _ _ _ _ _ _ h).2.1
  | linkLoss => exact (execLinkLoss_frame _ _ _ h).2.1
  | hostReset => exact (execHostReset_frame _ _ _ h).2.1
  | flr => exact (execFlr_frame _ _ _ h).2.1
  | linkShutdownComplete => exact (execLinkShutdownComplete_frame _ _ _ h).2.1
  | laneFault => exact (execLaneFault_frame _ _ _ _ _ _ _ h).2.1
  | msixModerationExpire => exact (execMsixModerationExpire_frame _ _ _ _ h).2.1
  | identify => exact (execIdentify_frame _ _ _ h).2.1
  | backgroundOperationStatus => exact (execBackgroundOperationStatus_frame _ _ _ h).2.1
  | getEventRecords => exact (execGetEventRecords_frame _ _ _ _ h).2.1
  | clearEventRecords => exact (execClearEventRecords_frame _ _ _ _ _ _ h).2.1
  | getEventInterruptPolicy => exact (execGetEventInterruptPolicy_frame _ _ _ h).2.1
  | setEventInterruptPolicy => exact (execSetEventInterruptPolicy_frame _ _ _ _ h).2.1
  | getFwInfo => exact (execGetFwInfo_frame _ _ _ h).2.1
  | transferFw => exact (execTransferFw_frame _ _ _ h).2.1
  | activateFw => exact (execActivateFw_frame _ _ _ h).2.1
  | getTimestamp => exact (execGetTimestamp_frame _ _ _ h).2.1
  | setTimestamp => exact (execSetTimestamp_frame _ _ _ _ h).2.1
  | getSupportedLogs => exact (execGetSupportedLogs_frame _ _ _ h).2.1
  | getLog => exact (execGetLog_frame _ _ _ _ h).2.1
  | identifyMemoryDevice => exact (execIdentifyMemoryDevice_frame _ _ _ h).2.1
  | getPartitionInfo => exact (execGetPartitionInfo_frame _ _ _ h).2.1
  | setPartitionInfo => exact (execSetPartitionInfo_frame _ _ _ h).2.1
  | getLsa => exact (execGetLsa_frame _ _ _ _ _ h).2.1
  | setLsa => exact (execSetLsa_frame _ _ _ _ _ h).2.1
  | getHealthInfo => exact (execGetHealthInfo_frame _ _ _ h).2.1
  | getAlertConfiguration => exact (execGetAlertConfiguration_frame _ _ _ h).2.1
  | setAlertConfiguration => exact (execSetAlertConfiguration_frame _ _ _ _ h).2.1
  | getShutdownState => exact (execGetShutdownState_frame _ _ _ h).2.1
  | setShutdownState => exact (execSetShutdownState_frame _ _ _ _ h).2.1
  | getPoisonList => exact (execGetPoisonList_frame _ _ _ _ _ h).2.1
  | injectPoison => exact (execInjectPoison_frame _ _ _ _ _ h).2.1
  | clearPoison => exact (execClearPoison_frame _ _ _ _ _ _ h).2.1
  | scanMediaCapabilities => exact (execScanMediaCapabilities_frame _ _ _ _ _ h).2.1
  | scanMedia => exact (execScanMedia_frame _ _ _ _ _ h).2.1
  | getScanMediaResults => exact (execGetScanMediaResults_frame _ _ _ h).2.1
  | scanMediaComplete => exact (execScanMediaComplete_frame _ _ _ h).2.1
  | sanitize => exact (execSanitize_frame _ _ _ h).2.1
  | sanitizeComplete => exact (execSanitizeComplete_frame _ _ h).2.1
  | secureErase => exact (execSecureErase_frame _ _ _ h).2.1
  | getSecurityState => exact (execGetSecurityState_frame _ _ _ h).2.1
  | setPassphrase => exact (execSetPassphrase_frame _ _ _ _ _ _ h).2.1
  | disablePassphrase => exact (execDisablePassphrase_frame _ _ _ _ _ h).2.1
  | unlockDevice => exact (execUnlockDevice_frame _ _ _ _ h).2.1
  | freezeSecurityState => exact (execFreezeSecurityState_frame _ _ _ h).2.1
  | passphraseSecureErase => exact (execPassphraseSecureErase_frame _ _ _ _ _ h).2.1
  | mailboxUnsupported => exact (execMailboxUnsupported_frame _ _ _ _ h).2.1
  | prepareSleep => exact (execPrepareSleep_frame _ _ _ _ _ _ h).2.1
  | wakeTimerFire => exact (execWakeTimerFire_frame _ _ h).2.1
  | storeAlarmRise => exact (execStoreAlarmRise_frame _ _ h).2.1
  | svcFrameStart => exact (execSvcFrameStart_frame _ _ h).2.1
  | wake => exact (execWake_frame _ _ _ _ h).2.1
  | deskOperandStage => exact (execDeskOperandStage_frame _ _ _ h).2.1
  | deskPoisonedWrite => exact (execDeskPoisonedWrite_frame _ _ _ _ h).2.1
  | deskNop => exact (execDeskNop_frame _ _ _ h).2.1
  | deskInvalidOpcode => exact (execDeskInvalidOpcode_frame _ _ _ _ h).2.1
  | deskOpen => exact (execDeskOpen_frame _ _ _ h).2.1
  | deskClaim => exact (execDeskClaim_frame _ _ _ h).2.1
  | deskRelease => exact (execDeskRelease_frame _ _ _ h).2.1
  | deskCommit => exact (execDeskCommit_frame _ _ _ h).2.1
  | deskAbort => exact (execDeskAbort_frame _ _ _ h).2.1
  | rollbackComplete => exact (execRollbackComplete_frame _ _ _ h).2.1
  | deskBeginJoint => exact (execDeskBeginJoint_frame _ _ _ h).2.1
  | deskPrepare => exact (execDeskPrepare_frame _ _ _ h).2.1
  | deskDecide => exact (execDeskDecide_frame _ _ _ h).2.1
  | deskAckTerminal => exact (execDeskAckTerminal_frame _ _ _ h).2.1
  | deskRead => exact (execDeskRead_frame _ _ _ _ _ h).2.1
  | decideCellReceived => exact (execDecideCellReceived_frame _ _ _ _ _ h).2.1
  | ackCellReceived => exact (execAckCellReceived_frame _ _ _ _ h).2.1
  | queryCellReceived => exact (execQueryCellReceived_frame _ _ _ _ h).2.1
  | answerCellReceived => exact (execAnswerCellReceived_frame _ _ _ _ h).2.1
  | decideResend => exact (execDecideResend_frame _ _ h).2.1
  | prepareQueryTimer => exact (execPrepareQueryTimer_frame _ _ _ h).2.1
  | indoubtQuery => exact (execIndoubtQuery_frame _ _ _ h).2.1
  | decisionCacheExpire => exact (execDecisionCacheExpire_frame _ _ _ h).2.1
  | mirrorArmingComplete => exact (execMirrorArmingComplete_frame _ _ _ h).2.1
  | burstIssue => exact (execBurstIssue_frame _ _ _ _ _ _ h).2.1
  | burstPromoted => exact (execBurstPromoted_frame _ _ _ _ _ h).2.1
  | burstAncient => exact (execBurstAncient_frame _ _ _ _ _ h).2.1
  | class0ShareInterval => exact (execClass0ShareInterval_frame _ _ _ _ h).2.1
  | refreshDue _ _ _ _ now => exact (execRefreshDue_frame _ _ _ _ now _ _ h).2.1
  | activationLimit => exact (execActivationLimit_frame _ _ _ _ _ _ h).2.1
  | dramTrainingComplete => exact (execDramTrainingComplete_frame _ _ _ _ _ _ h).2.1
  | fastBootComplete => exact (execFastBootComplete_frame _ _ _ _ _ _ h).2.1
  | dqsTrack => exact (execDqsTrack_frame _ _ _ _ h).2.1
  | retrainTrigger => exact (execRetrainTrigger_frame _ _ _ _ h).2.1
  | gatherWindowClose => exact (execGatherWindowClose_frame _ _ _ _ h).2.1
  | onlineRetrainComplete => exact (execOnlineRetrainComplete_frame _ _ _ _ _ _ h).2.1
  | searchBinComplete => exact (execSearchBinComplete_frame _ _ _ _ h).2.1
  | uncorrectableRead => exact (execUncorrectableRead_frame _ _ _ _ h).2.1
  | patrolScrub _ _ _ again => exact (execPatrolScrub_frame _ _ _ again _ _ h).2.1
  | rowFailed => exact (execRowFailed_frame _ _ _ _ _ h).2.1
  | proactiveCopyComplete => exact (execProactiveCopyComplete_frame _ _ h).2.1
  | channelLost => exact (execChannelLost_frame _ _ _ _ h).2.1
  | channelRebuildComplete => exact (execChannelRebuildComplete_frame _ _ h).2.1
  | deltaLazyWrite => exact (execDeltaLazyWrite_frame _ _ _ h).2.1
  | deltaSnapshotStart => exact (execDeltaSnapshotStart_frame _ _ h).2.1
  | deltaSnapshotComplete => exact (execDeltaSnapshotComplete_frame _ _ h).2.1
  | heatDecay => exact (execHeatDecay_frame _ _ h).2.1
  | trickleCandidateRebuild => exact (execTrickleCandidateRebuild_frame _ _ h).2.1
  | trickleSelect => exact (execTrickleSelect_frame _ _ h).2.1
  | wearRateRecompute => exact (execWearRateRecompute_frame _ _ h).2.1
  | rehearsalDue => exact (execRehearsalDue_frame _ _ _ h).2.1
  | rehearsalStart => exact (execRehearsalStart_frame _ _ h).2.1
  | rehearsalIdleEnd => exact (execRehearsalIdleEnd_frame _ _ _ h).2.1
  | rehearsalRunEnd => exact (execRehearsalRunEnd_frame _ _ _ h).2.1
  | rehearsalOverdue => exact (execRehearsalOverdue_frame _ _ h).2.1
  | drowseTricklePeriod => exact (execDrowseTricklePeriod_frame _ _ _ h).2.1
  | trestleLinkTrained => exact (execTrestleLinkTrained_frame _ _ _ _ _ h).2.1
  | trestleShutdownComplete => exact (execTrestleShutdownComplete_frame _ _ _ h).2.1
  | framePass => exact execFramePass_mode h
  | frameReturn => exact execFrameReturn_mode h
  | cellRetransmitTimeout => exact (execCellRetransmitTimeout_frame _ _ _ h).2.1
  | masterTakeover => exact (execMasterTakeover_frame _ _ h).2.1
  | startupFrameTimeout => exact (execStartupFrameTimeout_frame _ _ h).2.1
  | trestleWrap => exact (execTrestleWrap_frame _ _ _ h).2.1
  | trestleUnwrap => exact (execTrestleUnwrap_frame _ _ _ h).2.1
  | timeSyncSend => exact (execTimeSyncSend_frame _ _ h).2.1
  | timeSyncReceived _ wire => exact (execTimeSyncReceived_frame _ wire _ _ _ _ _ h).2.1
  | wakeCellReceived _ reason => exact (execWakeCellReceived_frame _ reason _ _ h).2.1
  | tunnelRspReceived => exact (execTunnelRspReceived_frame _ _ _ _ _ _ _ _ _ h).2.1
  | tunnelTimeout => exact (execTunnelTimeout_frame _ _ _ h).2.1
  | rowFillTimeout => exact (execRowFillTimeout_frame _ _ h).2.1
  | rowProgramComplete => exact (execRowProgramComplete_frame _ _ _ h).2.1
  | nandProgramFail => exact (execNandProgramFail_frame _ _ _ _ _ _ h).2.1
  | checkpointStart => exact (execCheckpointStart_frame _ _ h).2.1
  | checkpointComplete => exact (execCheckpointComplete_frame _ _ h).2.1
  | gcStart => exact (execGcStart_frame _ _ _ h).2.1
  | gcVictimErased => exact (execGcVictimErased_frame _ _ _ h).2.1
  | nandLunFailed => exact (execNandLunFailed_frame _ _ _ _ h).2.1
  | nandRebuildDone => exact (execNandRebuildDone_frame _ _ h).2.1
  | nandChannelFailed => exact (execNandChannelFailed_frame _ _ _ h).2.1
  | saveDrainComplete => exact (execSaveDrainComplete_frame _ _ h).2.1
  | saveGroupSetComplete => exact (execSaveGroupSetComplete_frame _ _ h).2.1
  | saveRowStart => exact (execSaveRowStart_frame _ _ h).2.1
  | saveLeavesComplete => exact (execSaveLeavesComplete_frame _ _ h).2.1
  | saveDeltasComplete => exact (execSaveDeltasComplete_frame _ _ h).2.1
  | saveSealed => exact (execSaveSealed_frame _ _ _ h).2.1
  | pfWarnAssert => exact (execPfWarnAssert_frame _ _ _ h).2.1
  | storeCutoff => exact (execStoreCutoff_frame _ _ h).2.1
  | leafMapRebuildComplete => exact (execLeafMapRebuildComplete_frame _ _ h).2.1
  | groupSetLoadComplete => exact (execGroupSetLoadComplete_frame _ _ _ h).2.1
  | stringFailed => exact (execStringFailed_frame _ _ _ h).2.1
  | chargerCvReached => exact (execChargerCvReached_frame _ _ h).2.1
  | prechargeDone => exact (execPrechargeDone_frame _ _ h).2.1
  | chargerFull => exact (execChargerFull_frame _ _ h).2.1
  | chargerRecharge => exact (execChargerRecharge_frame _ _ h).2.1
  | chargeTimeout => exact (execChargeTimeout_frame _ _ h).2.1
  | chargerFaultRecover => exact (execChargerFaultRecover_frame _ _ h).2.1
  | healthTestDue => exact (execHealthTestDue_frame _ _ _ h).2.1
  | healthTestStart => exact (execHealthTestStart_frame _ _ h).2.1
  | healthTestEnd => exact (execHealthTestEnd_frame _ _ _ _ _ h).2.1
  | niuraCalibration => exact (execNiuraCalibration_frame _ _ _ _ h).2.1
  | niuraShellWatchdog => exact (execNiuraShellWatchdog_frame _ _ h).2.1
  | storeOvervoltage => exact (execStoreOvervoltage_frame _ _ _ h).2.1
  | cellOvervoltage => exact (execCellOvervoltage_frame _ _ _ _ h).2.1
  | busOvervoltage => exact (execBusOvervoltage_frame _ _ _ h).2.1
  | holdupOverload => exact (execHoldupOverload_frame _ _ _ h).2.1
  | railStable => exact (execRailStable_frame _ _ _ h).2.1
  | seqRetryWaitEnd => exact (execSeqRetryWaitEnd_frame _ _ h).2.1
  | retryRailExpire => exact (execRetryRailExpire_frame _ _ _ h).2.1
  | blockResetComplete => exact (execBlockResetComplete_frame _ _ _ h).2.1
  | setIdleTimeout => exact (execSetIdleTimeout_frame _ _ _ h).2.1
  | injectedLiveClear => exact (execInjectedLiveClear_frame _ _ _ h).2.1
  | chestEflashSpool => exact (execChestEflashSpool_frame _ _ h).2.1
  | chestRingFailed => exact (execChestRingFailed_frame _ _ _ h).2.1
  | chestReadRecord role => exact (execChestReadRecord_frame role _ _ h).2.1
  | pairFail => exact (execPairFail_frame _ _ _ h).2.1
  | pairTakeoverComplete => exact (execPairTakeoverComplete_frame _ _ _ h).2.1
  | spareSelfTest => exact (execSpareSelfTest_frame _ _ _ h).2.1
  | sramRepair => exact (execSramRepair_frame _ _ _ _ h).2.1
  | sramUe => exact (execSramUe_frame _ _ _ h).2.1
  | irqSourceRaise => exact (execIrqSourceRaise_frame _ _ _ h).2.1
  | irqClaim => exact (execIrqClaim_frame _ _ _ h).2.1
  | irqComplete => exact (execIrqComplete_frame _ _ _ _ h).2.1
  | irqModerationExpire => exact (execIrqModerationExpire_frame _ _ _ h).2.1
  | eflashProgram => exact (execEflashProgram_frame _ _ _ _ h).2.1
  | eflashSectorErase => exact (execEflashSectorErase_frame _ _ _ h).2.1
  | eflashBankErase => exact (execEflashBankErase_frame _ _ _ h).2.1
  | eflashSuspend => exact (execEflashSuspend_frame _ _ _ h).2.1
  | eflashResume => exact (execEflashResume_frame _ _ _ h).2.1
  | eflashMarginRead => exact (execEflashMarginRead_frame _ _ _ _ h).2.1
  | eflashReadStatus => exact (execEflashReadStatus_frame _ _ _ h).2.1
  | eflashExit => exact (execEflashExit_frame _ _ _ h).2.1
  | eflashDataWrite => exact (execEflashDataWrite_frame _ _ _ _ _ h).2.1
  | eflashBadStore => exact (execEflashBadStore_frame _ _ _ h).2.1
  | eflashUnlockTimeout => exact (execEflashUnlockTimeout_frame _ _ _ h).2.1
  | eflashRead => exact (execEflashRead_frame _ _ _ _ _ _ _ h).2.1
  | eflashOperationComplete => exact (execEflashOperationComplete_frame _ _ _ _ h).2.1
  | eflashBrownout => exact (execEflashBrownout_frame _ _ h).2.1
  | brownoutRecover => exact (execBrownoutRecover_frame _ _ h).2.1
  | scrubSweep => exact (execScrubSweep_frame _ _ _ _ _ _ _ h).2.1
  | fullRefresh => exact (execFullRefresh_frame _ _ _ _ _ _ h).2.1
  | svcHello => exact (execSvcHello_frame _ _ _ h).2.1
  | svcSetRate => exact (execSvcSetRate_frame _ _ _ _ h).2.1
  | svcRateFallback => exact (execSvcRateFallback_frame _ _ h).2.1
  | imageBegin => exact (execImageBegin_frame _ _ _ _ h).2.1
  | imageData => exact (execImageData_frame _ _ _ _ _ h).2.1
  | imageEnd => exact (execImageEnd_frame _ _ _ h).2.1
  | imageAbort => exact (execImageAbort_frame _ _ _ h).2.1
  | svcUnknownType => exact (execSvcUnknownType_frame _ _ _ _ h).2.1
  | svcFrameBad => exact (execSvcFrameBad_frame _ _ h).2.1
  | spdmGetVersion => exact (execSpdmGetVersion_frame _ _ _ h).2.1
  | spdmGetCapabilities => exact (execSpdmGetCapabilities_frame _ _ _ h).2.1
  | spdmNegotiateAlgorithms => exact (execSpdmNegotiateAlgorithms_frame _ _ _ h).2.1
  | spdmGetDigests => exact (execSpdmGetDigests_frame _ _ _ h).2.1
  | spdmGetCertificate => exact (execSpdmGetCertificate_frame _ _ _ _ _ _ h).2.1
  | spdmChallenge => exact (execSpdmChallenge_frame _ _ _ _ _ _ h).2.1
  | spdmGetMeasurements => exact (execSpdmGetMeasurements_frame _ _ _ _ _ _ h).2.1
  | spdmChunkSend => exact (execSpdmChunkSend_frame _ _ _ _ _ _ h).2.1
  | spdmChunkGet => exact (execSpdmChunkGet_frame _ _ _ _ h).2.1
  | spdmRespondIfReady => exact (execSpdmRespondIfReady_frame _ _ _ h).2.1
  | spdmUnsupported _ code => exact (execSpdmUnsupported_frame _ code _ _ h).2.1
  | marginRunComplete => exact (execMarginRunComplete_frame _ _ _ _ h).2.1
  | tapExtest => exact (execTapExtest_frame _ _ h).2.1
  | tapIdcode => exact (execTapIdcode_frame _ _ h).2.1
  | tapSamplePreload => exact (execTapSamplePreload_frame _ _ h).2.1
  | tapClamp => exact (execTapClamp_frame _ _ h).2.1
  | tapHighz => exact (execTapHighz_frame _ _ h).2.1
  | tapExtestPulse => exact (execTapExtestPulse_frame _ _ h).2.1
  | tapExtestTrain => exact (execTapExtestTrain_frame _ _ h).2.1
  | tapTestAccess => exact (execTapTestAccess_frame _ _ h).2.1
  | tapBypass => exact (execTapBypass_frame _ _ h).2.1
  | avsCheck => exact (execAvsCheck_frame _ _ _ h).2.1
  | thermalLifeLog => exact (execThermalLifeLog_frame _ _ h).2.1
  | hdmDecoderCommit => exact (execHdmDecoderCommit_frame _ _ _ _ _ _ _ _ h).2.1
  | msixVectorUnmask => exact (execMsixVectorUnmask_frame _ _ _ _ h).2.1
  | l0pHostRequest => exact (execL0pHostRequest_frame _ _ _ _ h).2.1
  | doeCdatAccess => exact (execDoeCdatAccess_frame _ _ _ _ h).2.1
  | laneMargining => exact (execLaneMargining_frame _ _ _ _ _ _ h).2.1
  | checkerLock => exact (execCheckerLock_frame _ _ _ h).2.1
  | checkerLockLoss => exact (execCheckerLockLoss_frame _ _ _ _ _ h).2.1
  | busBelowHuBusMin => exact (execBusBelowHuBusMin_frame _ _ _ h).2.1
  | ocvCorrection => exact (execOcvCorrection_frame _ _ h).2.1
  | entdaa => exact (execEntdaa_frame _ _ _ h).2.1
  | setdasa => exact (execSetdasa_frame _ _ _ _ h).2.1
  | _ => exact nomatch hc

end Sys2Proof.Machine
end

section
/-! PROOFS. What resets and BRING-UP come to: the statement fails where a slot command waits. Commands that wait behind a
rollback run once the slots have been emptied (R58, R180), so a slot need not be FREE when BRING-UP opens host access. -/

namespace Sys2Proof.Machine

/-! ### A rollback that an OPEN waits behind, at the end of a BRING-UP without an image -/

/-- One NAND channel of eight targets, within Table 10.1. -/
def pop8 : NandPop :=
  { targets := 8, spareTargets := 1, lunsPerTarget := 1, planes := 4, pages := 4096, mainBytes := 16384, spareBytes := 2048,
    rateMts := 2400, blocks := 40, fromCe0 := true, features := true, pslc := true }

/-- A supported population: channels of 64 GiB, and NAND whose pSLC capacity suffices for them (R241). -/
def found64GiB : BringUpInputs :=
  { deviceWidth := 4, devices := 10, densityGbit := 32, ranks := 1, height := 1, channelsMatch := true,
    nand := List.replicate 18 pop8, badBlocks := [],
    profiles := [(0, { ratedCycles := 10000, tprogNs := 600000, trNs := 50000, tbersNs := 6000000, retryLevels := 8 })] }

/-- OPEN of slot 3 with sequence 0, the one that follows 0xFFFF. -/
def openSlot3 : DeskArgs := { link := 0, mailbox := false, group := 3, word := 0, operands := 0, enable := 0 }

/-- BRING-UP with DRAM trained and no image, where slot 3 still rolls back and an OPEN waits behind it. Three NAND channels have
failed, so that no segment is opened and the run stays short. -/
def openWaits : State :=
  { State.reset with
    ctl := { Control.reset with mode := .bringUp, recovery := false }
    dram := { Dram.reset with ready := List.range 13 }
    nand := { Nand.reset with channelsFailed := [0, 1, 2] }
    groups := { Groups.reset with
      slots := [(3, { Slot.reset with state := .aborted, running := true, waiting := [(1, openSlot3)] })] } }

/-- Whether a command leaves a slot other than FREE. -/
def leavesInUse (c : Instr) (s : State) (g : Nat) : Bool :=
  match exec c s with
  | .next t => decide ((t.slot g).state ≠ .free)
  | _ => false

theorem slot_ne_free_of_leavesInUse {c : Instr} {s t : State} {g : Nat} (h : leavesInUse c s g = true)
    (ht : exec c s = .next t) : (t.slot g).state ≠ .free := by
  rw [leavesInUse, ht] at h
  exact of_decide_eq_true h

/-- BRING-UP opens with slot 3 OPENED by the command that waited. -/
theorem bringUp_leavesInUse : leavesInUse (.bringUpComplete found64GiB) openWaits 3 = true := by decide +kernel

/-- Refutes O50: BRING-UP without an image runs the slot commands that wait, after it has made every slot FREE. -/
theorem not_resetsAndBringUp : ¬ Obligations.ResetsAndBringUp := by
  unfold Obligations.ResetsAndBringUp
  rintro ⟨-, -, -, -, -, -, hopen, -⟩
  obtain ⟨t, ht, -, -, -, -, -, hfree, -⟩ := hopen openWaits found64GiB pop8 rfl rfl rfl (by decide +kernel) rfl
    (by decide +kernel) rfl (by decide +kernel) rfl (by decide +kernel) rfl (by decide +kernel) (by decide) rfl rfl rfl rfl rfl
    (by decide +kernel)
  exact slot_ne_free_of_leavesInUse bringUp_leavesInUse ht (hfree 3)

end Sys2Proof.Machine
end

section
/-! PROOFS. Pattern tests, margining, boundary scan, bus addresses and the beat. A command of the first four changes few
entries, and what it leaves follows from the writes it makes. A beat does the work of many parts: after its budget has been
computed each part keeps the entries of the budget (`BeatKept`), so the formula of R161 still holds when the beat ends. -/

namespace Sys2Proof.Machine

/-! ### Entries read after writes -/

theorem State.reg_of_find? {s : State} {idx sub v : Nat} (h : s.regs.find? (key idx sub) = some v) :
    s.reg idx sub = v := by simp [State.reg, h]

theorem State.breg_of_find? {s : State} {sel idx sub v : Nat} (h : s.regs.find? (bkey sel idx sub) = some v) :
    s.breg sel idx sub = v := by simp [State.breg, h]

theorem State.reg_setReg_of_ne (s : State) {idx sub idx' sub' : Nat} (v : Nat) (h : key idx sub ≠ key idx' sub') :
    (s.setReg idx' sub' v).reg idx sub = s.reg idx sub := by
  simp only [State.reg, State.setReg_regs, Map.find?_put_of_ne _ _ _ _ h]
  rfl

@[simp] theorem State.breg_setBreg_self (s : State) (sel idx sub v : Nat) :
    (s.setBreg sel idx sub v).breg sel idx sub = v := by simp [State.breg]

theorem State.breg_setBreg_of_ne (s : State) {sel idx sub sub' : Nat} (v : Nat)
    (h : bkey sel idx sub ≠ bkey sel idx sub') :
    (s.setBreg sel idx sub' v).breg sel idx sub = s.breg sel idx sub := by
  simp only [State.breg, State.setBreg_regs, Map.find?_put_of_ne _ _ _ _ h]
  rfl

/-- Entries of one index and one unit are apart where their sub-indices are. -/
theorem bkey_ne {sel idx sub sub' : Nat} (h : sub ≠ sub') : bkey sel idx sub ≠ bkey sel idx sub' := by
  unfold bkey key
  omega

/-- An entry of a selected unit is apart from every entry without one. -/
theorem bkey_ne_key {sel idx sub idx' sub' : Nat} (hidx : idx' < 65536) (hsub : sub' < 256) :
    bkey sel idx sub ≠ key idx' sub' := by
  unfold bkey key
  omega

theorem bkey_notMem_reportEntries (sel idx sub : Nat) : bkey sel idx sub ∉ reportEntries := by
  simp only [reportEntries, bkey, key, List.mem_cons, List.not_mem_nil, or_false]
  omega

theorem bkey_notMem_windowEntries (sel idx sub : Nat) : bkey sel idx sub ∉ windowEntries := by
  simp only [windowEntries, bkey, key, List.mem_map, List.mem_range, not_exists, not_and]
  omega

/-! ### Entries that stay -/

theorem RegsKept.of_regs {s t : State} (h : t.regs = s.regs) (except : List Nat) : RegsKept s t except :=
  fun k _ _ _ => by rw [h]

theorem RegsKept.mono {s t : State} {l l' : List Nat} (h : RegsKept s t l) (hl : l ⊆ l') : RegsKept s t l' :=
  fun k hr hw hk => h k hr hw (fun hm => hk (hl hm))

theorem RegsKept.put {s t : State} {l : List Nat} {k v : Nat} (h : RegsKept s t l) (hk : k ∈ l) (u : State)
    (hu : u.regs = t.regs.put k v) : RegsKept s u l := fun j hr hw hj => by
  rw [hu, Map.find?_put_of_ne _ _ _ _ (ne_of_mem_of_not_mem hk hj).symm]
  exact h j hr hw hj

/-- An entry of a selected unit stays unless it is left out. -/
theorem RegsKept.find?_bkey {s t : State} {l : List Nat} (h : RegsKept s t l) {sel idx sub : Nat}
    (hk : bkey sel idx sub ∉ l) : t.regs.find? (bkey sel idx sub) = s.regs.find? (bkey sel idx sub) :=
  h _ (bkey_notMem_reportEntries sel idx sub) (fun _ => bkey_notMem_windowEntries sel idx sub) hk

/-! ### Boundary scan -/

/-- An instruction that is allowed is loaded, and its register shifts out. -/
theorem State.tapLoad_allowed (s : State) (n op data : Nat) :
    DataKept s (({ s with out := [], free := n } : State).tapLoad op data true)
      ∧ (({ s with out := [], free := n } : State).tapLoad op data true).regs = s.regs
      ∧ (({ s with out := [], free := n } : State).tapLoad op data true).out = [.tap op s.tapCapture data]
      ∧ (({ s with out := [], free := n } : State).tapLoad op data true).test
        = { s.test with instruction := op, refused := false } :=
  ⟨⟨rfl, rfl, rfl, rfl, rfl, rfl⟩, rfl, rfl, rfl⟩

/-- An instruction that is not allowed is reported, and BYPASS stands in its place. -/
theorem State.tapLoad_refused (s : State) (n op data : Nat) :
    DataKept s (({ s with out := [], free := n } : State).tapLoad op data false)
      ∧ (({ s with out := [], free := n } : State).tapLoad op data false).reg 0x9002 0 = op
      ∧ (({ s with out := [], free := n } : State).tapLoad op data false).out = [.tap 0xFF s.tapCapture 0]
      ∧ (({ s with out := [], free := n } : State).tapLoad op data false).test
        = { s.test with instruction := 0xFF, refused := true }
      ∧ RegsKept s (({ s with out := [], free := n } : State).tapLoad op data false) [key 0x9002 0] := by
  refine ⟨⟨rfl, rfl, rfl, rfl, rfl, rfl⟩, State.reg_of_find? (Map.find?_put_self _ _ _), rfl, rfl, ?_⟩
  exact (RegsKept.of_regs (t := s) rfl _).put (List.mem_singleton_self _) _ rfl

/-- An instruction that drives or floats pins is loaded where those are free; a scan uses up the free value it draws. -/
theorem exec_tapDrive {c : Instr} {op : Nat} (hc : (c, op) ∈ [(Instr.tapExtest, 0x00), (Instr.tapClamp, 0x04),
      (Instr.tapHighz, 0x05), (Instr.tapExtestPulse, 0x06), (Instr.tapExtestTrain, 0x07)]) (s : State) :
    ∃ n data, exec c s = .next (({ s with out := [], free := n } : State).tapLoad op data s.pinsFree) := by
  simp only [List.mem_cons, Prod.mk.injEq, List.not_mem_nil, or_false] at hc
  rcases hc with ⟨rfl, rfl⟩ | ⟨rfl, rfl⟩ | ⟨rfl, rfl⟩ | ⟨rfl, rfl⟩ | ⟨rfl, rfl⟩ <;> exact ⟨_, _, rfl⟩

theorem exec_tapSamplePreload (s : State) :
    exec .tapSamplePreload s
      = .next (({ s with out := [], free := s.free + 1 } : State).tapLoad 0x02 (Config.free s.free) true) := rfl

theorem exec_tapTestAccess (s : State) :
    exec .tapTestAccess s = .next (({ s with out := [], free := s.free + 1 } : State).tapLoad 0x80 (Config.free s.free)
      (decide (s.eflash.rdpLevel = 0))) := rfl

/-! ### Bus addresses -/

theorem exec_entdaa (s : State) (a : Nat) (hvaux : s.ctl.vaux = true) (hnone : s.security.busAddress = none)
    (ha : a < 128) : exec (.entdaa a) s = .next { s with
      out := [.i3c a], security := { s.security with busAddress := some a } } :=
  congrArg Host.Outcome.next (if_pos ⟨hvaux, hnone, ha⟩)

theorem exec_setdasa (s : State) (a : Nat) (hvaux : s.ctl.vaux = true) (hnone : s.security.busAddress = none)
    (ha : a < 128) : exec (.setdasa s.security.staticAddress a) s = .next { s with
      out := [.i3c a], security := { s.security with busAddress := some a } } :=
  congrArg Host.Outcome.next (if_pos ⟨hvaux, hnone, rfl, ha⟩)

/-! ### Checkers and margin runs -/

theorem checkerLock_spec (s : State) (u : Nat) (hu : u < 36) (hrun : s.test.running.find? u ≠ none)
    (hlock : s.test.locked.contains u = false) :
    ∃ t, exec (.checkerLock u) s = .next t ∧ DataKept s t ∧ u ∈ t.test.locked ∧ t.breg u 0x9010 6 = 2
      ∧ RegsKept s t [bkey u 0x9010 6] := by
  refine ⟨_, congrArg Host.Outcome.next (if_pos ⟨hu, Option.isSome_iff_ne_none.mpr hrun, hlock⟩),
    ⟨rfl, rfl, rfl, rfl, rfl, rfl⟩, by simp, State.breg_setBreg_self _ _ _ _ _, ?_⟩
  exact (RegsKept.of_regs (t := s) rfl _).put (List.mem_singleton_self _) _ rfl

theorem marginRunComplete_spec (s : State) (u first : Nat) (hrun : s.breg u 0x9020 5 = 1) (hlo : 32 ≤ u)
    (hhi : u < 36) (hfirst : 0 < first) :
    ∃ t, exec (.marginRunComplete u first) s = .next t ∧ DataKept s t ∧ t.out = []
      ∧ t.breg u 0x9020 6 = min (first - 1) (s.breg u 0x9020 3) ∧ t.breg u 0x9020 5 = 0
      ∧ RegsKept s t [bkey u 0x9020 5, bkey u 0x9020 6] := by
  refine ⟨_, congrArg Host.Outcome.next (if_pos ⟨hrun, hlo, hhi, hfirst⟩), ⟨rfl, rfl, rfl, rfl, rfl, rfl⟩, rfl, ?_,
    State.breg_setBreg_self _ _ _ _ _, ?_⟩
  · rw [State.breg_setBreg_of_ne _ _ (bkey_ne (by decide)), State.breg_setBreg_self]
  · exact ((RegsKept.of_regs (t := s) rfl _).put (by simp) _ rfl).put (k := bkey u 0x9020 5) (by simp) _ rfl

/-! ### The counts of a unit (R446) -/

theorem State.countUnit_test (s : State) (u bits errors line : Nat) : (s.countUnit u bits errors line).test = s.test := by
  simp only [State.countUnit]
  split <;> rfl

/-- The counters add and saturate. -/
theorem State.countUnit_breg (s : State) (u bits errors line : Nat) :
    (s.countUnit u bits errors line).breg u 0x9010 7
        = min (s.breg u 0x9010 7 + bits) (2 ^ (8 * entrySize 0x9010 7) - 1)
      ∧ (s.countUnit u bits errors line).breg u 0x9010 8
        = min (s.breg u 0x9010 8 + errors) (2 ^ (8 * entrySize 0x9010 8) - 1)
      ∧ (s.countUnit u bits errors line).breg u 0x9010 9 = s.breg u 0x9010 9 := by
  simp only [State.countUnit]
  split <;> simp [State.satUnit, State.breg_setBreg_of_ne, bkey_ne]

theorem State.countUnit_kept (s : State) (u bits errors line : Nat) :
    DataKept s (s.countUnit u bits errors line)
      ∧ RegsKept s (s.countUnit u bits errors line) [bkey u 0x9010 7, bkey u 0x9010 8, bkey u 0x9010 10] := by
  have h : RegsKept s ((s.satUnit u 7 bits).satUnit u 8 errors) [bkey u 0x9010 7, bkey u 0x9010 8, bkey u 0x9010 10] :=
    ((RegsKept.of_regs (t := s) rfl _).put (k := bkey u 0x9010 7) (by simp) _ rfl).put (k := bkey u 0x9010 8)
      (by simp) _ rfl
  simp only [State.countUnit]
  split
  · exact ⟨⟨rfl, rfl, rfl, rfl, rfl, rfl⟩, h.put (k := bkey u 0x9010 10) (by simp) _ rfl⟩
  · exact ⟨⟨rfl, rfl, rfl, rfl, rfl, rfl⟩, h⟩

theorem checkerLockLoss_spec (s : State) (u bits errors : Nat) (hlock : s.test.locked.contains u = true)
    (herr : 32 < errors) :
    ∃ t, exec (.checkerLockLoss u bits errors) s = .next t ∧ DataKept s t ∧ u ∉ t.test.locked
      ∧ t.breg u 0x9010 6 = 1
      ∧ t.breg u 0x9010 9 = min (s.breg u 0x9010 9 + 1) (2 ^ (8 * entrySize 0x9010 9) - 1)
      ∧ RegsKept s t [bkey u 0x9010 6, bkey u 0x9010 7, bkey u 0x9010 8, bkey u 0x9010 9, bkey u 0x9010 10] := by
  obtain ⟨hdata, hregs⟩ := s.fresh.countUnit_kept u bits errors 0
  obtain ⟨-, -, h9⟩ := s.fresh.countUnit_breg u bits errors 0
  refine ⟨_, congrArg Host.Outcome.next (if_pos ⟨hlock, herr⟩), hdata, by simp, ?_, ?_, ?_⟩
  · exact State.breg_setBreg_self _ _ _ _ _
  · refine (State.breg_setBreg_of_ne _ _ (bkey_ne (by decide))).trans ?_
    rw [State.satUnit, State.breg_setBreg_self, h9]
    rfl
  · exact ((hregs.mono (by simp)).put (k := bkey u 0x9010 9) (by simp) _ rfl).put (k := bkey u 0x9010 6) (by simp) _ rfl

/-! ### A write of one entry that the Bureau takes at once -/

@[simp] theorem State.asked_test (s : State) (role : Role) : (s.asked role).test = s.test := by
  unfold State.asked
  split <;> rfl

@[simp] theorem State.asked_links (s : State) (role : Role) : (s.asked role).links = s.links := by
  unfold State.asked
  split <;> rfl

@[simp] theorem State.asked_clock (s : State) (role : Role) : (s.asked role).clock = s.clock := by
  unfold State.asked
  split <;> rfl

@[simp] theorem State.asked_testHold (s : State) (role : Role) : (s.asked role).ctl.testHold = s.ctl.testHold := by
  unfold State.asked
  split <;> rfl

@[simp] theorem State.asked_recordBins (s : State) (role : Role) (c : Nat) :
    (s.asked role).recordBins c = s.recordBins c := by
  unfold State.asked
  split <;> rfl

/-- Counting a message leaves an entry other than the count. -/
theorem State.asked_reg (s : State) (role : Role) {idx sub : Nat} (h : key idx sub ≠ key 0xA032 0) :
    (s.asked role).reg idx sub = s.reg idx sub := by
  unfold State.asked
  split <;> simp only [State.reg, State.addReg, Map.find?_put_of_ne _ _ _ _ h] <;> rfl

/-- Counting a message leaves the entries of selected units. -/
theorem State.asked_breg (s : State) (role : Role) (sel idx sub : Nat) :
    (s.asked role).breg sel idx sub = s.breg sel idx sub := by
  have h : bkey sel idx sub ≠ key 0xA032 0 := bkey_ne_key (by decide) (by decide)
  unfold State.asked
  split <;> simp only [State.breg, State.addReg, Map.find?_put_of_ne _ _ _ _ h] <;> rfl

/-- The response of a one-entry write, over the state `x` that the write has left. -/
def State.answered (x : State) (role : Role) (link : Fin 4) (i : Item) : State :=
  x.respond .write role link 0 0 0 0 0 0 [respOf i 0]

/-- Such a response leaves, and it moves no data, no entry, no unit and no training record. -/
theorem State.answered_spec {s x : State} {role : Role} (hs : s.serves role s.hostLink) (hx : x.links = s.links)
    (i : Item) (except : List Nat) :
    DataKept x (x.answered role s.hostLink i) ∧ RegsKept x (x.answered role s.hostLink i) except
      ∧ Output.dict role s.hostLink.val 0 0 0 0 0 [respOf i 0] ∈ (x.answered role s.hostLink i).out
      ∧ (x.answered role s.hostLink i).test = x.test ∧ (x.answered role s.hostLink i).dram = x.dram := by
  obtain ⟨-, -, -, -, hup⟩ := hs
  have hup' : role = .host → (x.link s.hostLink.val).up = true := fun hr => by
    simpa only [State.link, hx] using hup hr
  obtain ⟨hdata, hregs, hout⟩ := x.respond_keeps .write role s.hostLink 0 0 0 0 0 0 [respOf i 0] (by omega) hup' except
  obtain ⟨u, tr, ⟨hu, -⟩, ht⟩ := x.respond_reports .write role s.hostLink 0 0 0 0 0 0 [respOf i 0] (by omega) hup'
  refine ⟨hdata, hregs, hout, ?_, ?_⟩ <;> rw [State.answered, ht, hu] <;> rfl

/-- PT_RUN of a value whose write is admitted. -/
theorem exec_ptRun {s : State} {role : Role} {v : Nat} (bits errors line : Nat) (hs : s.serves role s.hostLink)
    (hv : v % 256 = v) (hcode : s.writeCode role (Item.mk 0x9010 5 v 1) = 0) :
    exec (.ptRun role v bits errors line) s
      = .next (((s.asked role).ptWrite v bits errors line).answered role s.hostLink (Item.mk 0x9010 5 v 1)) := by
  obtain ⟨hvaux, hrec, hlost, hreload, hup⟩ := hs
  have hnow : s.takesNow role = true := by
    simp only [State.takesNow, hvaux, hrec, hlost, hreload]
    cases role <;> simp [hup]
  show execPtRun role v bits errors line s = _
  simp only [execPtRun, hv, hnow, hcode, and_self, if_true]
  rfl

/-! ### The start of a pattern test -/

/-- Of one record none is given up. -/
theorem State.ownKept_singleton (s : State) (c b : Nat) : s.ownKept c [b] = [b] := by
  simp only [State.ownKept]
  by_cases h : (b == s.reg (0x3400 + c) 2 || b == s.reg (0x3400 + c) 3) = true <;> simp_all

/-- The first record of a channel is its own. -/
theorem State.storeRecord_first {s : State} {c : Nat} (h : s.recordBins c = []) (bin : Nat) :
    s.storeRecord c bin = { s with dram := { s.dram with
      records := s.dram.records.put c [bin], shared := s.dram.shared.filter fun r => r != (c, bin),
      verified := (s.dram.verified.filter fun r => r != (c, bin)) ++ [(c, bin)] } } := by
  have hown : s.dram.records.get c [] = [] := (List.append_eq_nil_iff.mp h).1
  simp [State.storeRecord, hown, State.ownKept_singleton]

/-- The entries of a channel that its training writes. -/
def trainingEntries (c : Nat) : List Nat :=
  [key (0x3400 + c) 2, key (0x3400 + c) 4, key (0x3400 + c) 6, key (0x3420 + c) 6]

/-- The training of a channel without a record leaves its rate and a first record. -/
theorem State.trained_first {s : State} {c : Nat} (h : s.recordBins c = []) (rate : Nat) (hot : Int) :
    DataKept s (s.trained c rate hot) ∧ (s.trained c rate hot).links = s.links
      ∧ (s.trained c rate hot).test = s.test ∧ (s.trained c rate hot).regs.find? (key (0x3400 + c) 2) = some rate
      ∧ rate ∈ (s.trained c rate hot).recordBins c ∧ RegsKept s (s.trained c rate hot) (trainingEntries c) := by
  have hfirst := State.storeRecord_first
    (s := ({ s with dram := { s.dram with dqs := s.dram.dqs.del c } } : State).setRate c rate) (c := c) h rate
  simp only [State.trained, hfirst]
  refine ⟨⟨rfl, rfl, rfl, rfl, rfl, rfl⟩, rfl, rfl, ?_, ?_, ?_⟩
  · have hne : ∀ k ∈ [key (0x3420 + c) 6, key (0x3400 + c) 6, key (0x3400 + c) 4], key (0x3400 + c) 2 ≠ k := by
      simp [key]
      omega
    simp [hne, State.setRate]
  · simp [State.recordBins]
  · refine RegsKept.put (k := key (0x3420 + c) 6) (.put (k := key (0x3400 + c) 6) (.put (k := key (0x3400 + c) 4)
      (.put (k := key (0x3400 + c) 2) (.of_regs (t := s) rfl _) ?_ _ rfl) ?_ _ rfl) ?_ _ rfl) ?_ _ rfl <;>
      simp [trainingEntries]

/-- A unit that has just been started. -/
def State.started (s : State) (u : Nat) : State :=
  ({ s with test := { s.test with running := s.test.running.put u s.clock.beat } }.setBreg u 0x9010 6 1).setBreg u
    0x9010 5 1

theorem State.started_spec (s : State) (u : Nat) :
    DataKept s (s.started u) ∧ (s.started u).links = s.links
      ∧ (s.started u).test.running.find? u = some s.clock.beat
      ∧ (s.started u).regs.find? (bkey u 0x9010 6) = some 1 ∧ (s.started u).regs.find? (bkey u 0x9010 5) = some 1
      ∧ RegsKept s (s.started u) [bkey u 0x9010 5, bkey u 0x9010 6] := by
  refine ⟨⟨rfl, rfl, rfl, rfl, rfl, rfl⟩, rfl, by simp [State.started], ?_, by simp [State.started], ?_⟩
  · simp [State.started, bkey_ne]
  · exact ((RegsKept.of_regs (t := s) rfl _).put (k := bkey u 0x9010 6) (by simp) _ rfl).put (k := bkey u 0x9010 5)
      (by simp) _ rfl

theorem DataKept.mode {s t : State} (h : DataKept s t) : t.ctl.mode = s.ctl.mode := by
  obtain ⟨-, -, -, -, hmode, -⟩ := h
  exact hmode

/-- A start runs the unit, and it trains a channel without a record. -/
theorem State.startUnit_training {s : State} {u : Nat} (h : 36 ≤ u ∧ u < 49 ∧ s.recordBins (u - 36) = []) :
    ∃ hot, s.startUnit u = (s.started u).drawn.trained (u - 36) 4800 hot := ⟨_, if_pos h⟩

/-- A start of another unit runs it, and a NAND unit loads its page or waits for its bus. -/
theorem State.startUnit_plain {s : State} {u : Nat} (h : ¬ (36 ≤ u ∧ u < 49 ∧ s.recordBins (u - 36) = [])) :
    DataKept (s.started u) (s.startUnit u) ∧ (s.startUnit u).links = s.links
      ∧ (s.startUnit u).test.running = (s.started u).test.running ∧ (s.startUnit u).regs = (s.started u).regs := by
  have heq : s.startUnit u = if 49 ≤ u ∧ u < 67 then (s.started u).loadPage u else s.started u := if_neg h
  rw [heq]
  unfold State.loadPage
  split_ifs <;> exact ⟨⟨rfl, rfl, rfl, rfl, rfl, rfl⟩, rfl, rfl, rfl⟩

theorem key_ne_bkey_of_mem_trainingEntries {c sel idx sub k : Nat} (hc : c < 13) (hk : k ∈ trainingEntries c) :
    bkey sel idx sub ≠ k := by
  simp only [trainingEntries, List.mem_cons, List.not_mem_nil, or_false] at hk
  rcases hk with rfl | rfl | rfl | rfl <;> exact bkey_ne_key (by omega) (by decide)

theorem State.startUnit_spec (s : State) (u : Nat) :
    DataKept s (s.startUnit u) ∧ (s.startUnit u).links = s.links
      ∧ (s.startUnit u).test.running.find? u = some s.clock.beat
      ∧ (s.startUnit u).regs.find? (bkey u 0x9010 6) = some 1 ∧ (s.startUnit u).regs.find? (bkey u 0x9010 5) = some 1
      ∧ if 36 ≤ u ∧ u < 49 ∧ s.recordBins (u - 36) = [] then
          (s.startUnit u).regs.find? (key (0x3400 + (u - 36)) 2) = some 4800
            ∧ 4800 ∈ (s.startUnit u).recordBins (u - 36)
            ∧ RegsKept s (s.startUnit u) (bkey u 0x9010 5 :: bkey u 0x9010 6 :: trainingEntries (u - 36))
        else RegsKept s (s.startUnit u) [bkey u 0x9010 5, bkey u 0x9010 6] := by
  obtain ⟨hdata, hlinks, hrun, h6, h5, hregs⟩ := s.started_spec u
  split
  case isTrue htrain =>
    obtain ⟨hot, heq⟩ := State.startUnit_training htrain
    obtain ⟨hlo, hhi, hnone⟩ := htrain
    obtain ⟨kdata, klinks, ktest, krate, kbins, kregs⟩ :=
      State.trained_first (s := (s.started u).drawn) (c := u - 36) hnone 4800 hot
    have hc : u - 36 < 13 := by omega
    have hunit : ∀ sub, (s.startUnit u).regs.find? (bkey u 0x9010 sub) = (s.started u).regs.find? (bkey u 0x9010 sub) :=
      fun sub => by
        rw [heq]
        exact kregs.find?_bkey fun hm => key_ne_bkey_of_mem_trainingEntries hc hm rfl
    rw [hunit, hunit]
    rw [heq]
    refine ⟨DataKept.trans hdata kdata, klinks.trans hlinks, ?_, h6, h5, krate, kbins, ?_⟩
    · rw [ktest]
      exact hrun
    · have hstart : RegsKept s (s.started u).drawn (bkey u 0x9010 5 :: bkey u 0x9010 6 :: trainingEntries (u - 36)) :=
        hregs.mono (by simp)
      exact hstart.trans hdata.mode (kregs.mono (by simp))
  case isFalse hplain =>
    obtain ⟨kdata, klinks, ktest, kregs⟩ := State.startUnit_plain hplain
    rw [klinks, ktest, kregs]
    exact ⟨hdata.trans kdata, rfl, hrun, h6, h5, hregs.trans hdata.mode (.of_regs kregs _)⟩

theorem key_rate_notMem {c : Nat} (hc : c < 13) :
    key (0x3400 + c) 2 ∉ reportEntries ∧ key (0x3400 + c) 2 ∉ windowEntries := by
  constructor
  · simp only [reportEntries, key, List.mem_cons, List.not_mem_nil, or_false]
    omega
  · simp only [windowEntries, key, List.mem_map, List.mem_range, not_exists, not_and]
    omega

/-- PT_RUN of 1 for a unit that does not run. -/
theorem ptRun_start (s : State) (role : Role) (bits errors line u : Nat) (hs : s.serves role s.hostLink)
    (hu : s.reg 0x9010 1 = u) (hcode : s.writeCode role (Item.mk 0x9010 5 1 1) = 0)
    (hidle : s.test.running.find? u = none) :
    ∃ t, exec (.ptRun role 1 bits errors line) s = .next t ∧ DataKept s t ∧ WriteAnswered s t role 0x9010 5 1 0
      ∧ t.test.running.find? u = some s.clock.beat ∧ t.breg u 0x9010 6 = 1 ∧ t.breg u 0x9010 5 = 1
      ∧ (if 36 ≤ u ∧ u < 49 ∧ s.recordBins (u - 36) = [] then
          t.reg (0x3400 + (u - 36)) 2 = 4800 ∧ 4800 ∈ t.recordBins (u - 36)
            ∧ RegsKept s t [key 0xA032 0, bkey u 0x9010 5, bkey u 0x9010 6, key (0x3400 + (u - 36)) 2,
                key (0x3400 + (u - 36)) 4, key (0x3400 + (u - 36)) 6, key (0x3420 + (u - 36)) 6]
        else RegsKept s t [key 0xA032 0, bkey u 0x9010 5, bkey u 0x9010 6]) := by
  obtain ⟨hdata, hlinks, hrun, h6, h5, hcond⟩ := (s.asked role).startUnit_spec u
  have hstart : (s.asked role).ptWrite 1 bits errors line = (s.asked role).startUnit u := by
    simp [State.ptWrite, s.asked_reg role (idx := 0x9010) (sub := 1) (by decide), hu, hidle]
  have hnext := exec_ptRun bits errors line hs (by decide) hcode
  rw [hstart] at hnext
  have hanswer := fun except => State.answered_spec (x := (s.asked role).startUnit u) hs
    (hlinks.trans (s.asked_links role)) (Item.mk 0x9010 5 1 1) except
  obtain ⟨kdata, kregs, kout, ktest, kdram⟩ := hanswer []
  have hall := (s.asked_dataKept role).trans (hdata.trans kdata)
  have hmode := s.asked_mode role
  refine ⟨_, hnext, hall, kout, ?_, State.breg_of_find? ?_, State.breg_of_find? ?_, ?_⟩
  · rw [ktest, hrun, State.asked_clock]
  · rw [kregs.find?_bkey (by simp), h6]
  · rw [kregs.find?_bkey (by simp), h5]
  · rw [State.asked_recordBins] at hcond
    by_cases htrain : 36 ≤ u ∧ u < 49 ∧ s.recordBins (u - 36) = []
    · rw [if_pos htrain] at hcond ⊢
      obtain ⟨hlo, hhi, -⟩ := htrain
      obtain ⟨hrate, hbins, hregs⟩ := hcond
      obtain ⟨hreport, hwindow⟩ := key_rate_notMem (c := u - 36) (by omega)
      refine ⟨State.reg_of_find? ?_, ?_, ?_⟩
      · rw [kregs _ hreport (fun _ => hwindow) (by simp), hrate]
      · rw [State.recordBins, kdram]
        exact hbins
      · exact ((s.asked_regsKept role).mono (by simp)).trans hmode
          ((hregs.mono (by simp [trainingEntries])).trans hdata.mode (hanswer _).2.1)
    · rw [if_neg htrain] at hcond ⊢
      exact ((s.asked_regsKept role).mono (by simp)).trans hmode
        ((hcond.mono (by simp)).trans hdata.mode (hanswer _).2.1)

/-! ### The stop of a pattern test -/

@[simp] theorem Map.find?_del_self {α : Type} (m : Map α) (q : Nat) : Map.find? (Map.del m q) q = none := by
  induction m with
  | nil => rfl
  | cons e m ih =>
    obtain ⟨k, w⟩ := e
    by_cases hk : k = q
    · simpa [Map.del, hk] using ih
    · simpa [Map.del, Map.find?, hk] using ih

/-- What a stop leaves: everything that `DataKept` names but DRAM. -/
def StopKept (s t : State) : Prop :=
  t.nand.flash = s.nand.flash ∧ t.leaves = s.leaves ∧ t.groups = s.groups ∧ t.ctl.mode = s.ctl.mode
    ∧ t.clock = s.clock

theorem DataKept.stopKept {s t : State} (h : DataKept s t) : StopKept s t := by
  obtain ⟨-, hflash, hleaves, hgroups, hmode, hclock⟩ := h
  exact ⟨hflash, hleaves, hgroups, hmode, hclock⟩

theorem StopKept.trans {s t u : State} (h : StopKept s t) (k : StopKept t u) : StopKept s u := by
  obtain ⟨h1, h2, h3, h4, h5⟩ := h
  obtain ⟨k1, k2, k3, k4, k5⟩ := k
  exact ⟨k1.trans h1, k2.trans h2, k3.trans h3, k4.trans h4, k5.trans h5⟩

/-- The rows of a channel change under test hold only; no entry and no running unit does. -/
theorem State.leavePattern_spec (s : State) (c rows : Nat) :
    StopKept s (s.leavePattern c rows) ∧ (s.leavePattern c rows).regs = s.regs
      ∧ (s.leavePattern c rows).test.running = s.test.running
      ∧ (s.ctl.testHold ≠ 1 → (s.leavePattern c rows).mem = s.mem) := by
  unfold State.leavePattern State.notePattern
  split_ifs with hhold
  · exact ⟨⟨rfl, rfl, rfl, rfl, rfl⟩, rfl, rfl, fun h => absurd hhold.1 h⟩
  · exact ⟨⟨rfl, rfl, rfl, rfl, rfl⟩, rfl, rfl, fun h => absurd hhold.1 h⟩
  · exact ⟨⟨rfl, rfl, rfl, rfl, rfl⟩, rfl, rfl, fun _ => rfl⟩
  · exact ⟨⟨rfl, rfl, rfl, rfl, rfl⟩, rfl, rfl, fun _ => rfl⟩

/-- An entry of a unit reads the same where the same is stored. -/
theorem State.breg_unit_congr {s t : State} {u sub : Nat}
    (h : t.regs.find? (bkey u 0x9010 sub) = s.regs.find? (bkey u 0x9010 sub)) :
    t.breg u 0x9010 sub = s.breg u 0x9010 sub := by
  simp only [State.breg, h]
  rfl

/-- The unit `u` of `s` is STOPPED in `t`; only the rows of a channel under test hold may have gone. -/
def UnitStopped (s t : State) (u : Nat) : Prop :=
  StopKept s t ∧ (u < 36 ∨ 49 ≤ u ∨ s.ctl.testHold ≠ 1 → t.mem = s.mem) ∧ t.test.running.find? u = none
    ∧ t.breg u 0x9010 6 = 3 ∧ t.breg u 0x9010 5 = 0

/-- A stop stands through a step that changes no entry of the unit and does not run it. -/
theorem UnitStopped.trans {s t v : State} {u : Nat} (h : UnitStopped s t u) (k : StopKept t v)
    (hmem : u < 36 ∨ 49 ≤ u ∨ s.ctl.testHold ≠ 1 → v.mem = t.mem) (hrun : v.test.running = t.test.running)
    (hregs : ∀ sub, v.regs.find? (bkey u 0x9010 sub) = t.regs.find? (bkey u 0x9010 sub)) : UnitStopped s v u := by
  obtain ⟨hkept, hsame, hnone, h6, h5⟩ := h
  exact ⟨hkept.trans k, fun hu => (hmem hu).trans (hsame hu), by rw [hrun]; exact hnone,
    (State.breg_unit_congr (hregs 6)).trans h6, (State.breg_unit_congr (hregs 5)).trans h5⟩

/-- A stop after a step that keeps all data is a stop. -/
theorem UnitStopped.of_dataKept {s t v : State} {u : Nat} (h : DataKept s t)
    (hhold : t.ctl.testHold = s.ctl.testHold) (k : UnitStopped t v u) : UnitStopped s v u := by
  obtain ⟨hkept, hsame, hnone, h6, h5⟩ := k
  exact ⟨h.stopKept.trans hkept, fun hu => (hsame (hhold ▸ hu)).trans h.1, hnone, h6, h5⟩

theorem State.stopUnit_stopped {s : State} {u : Nat} (h : s.test.running.find? u ≠ none) :
    UnitStopped s (s.stopUnit u 3) u ∧ (s.stopUnit u 3).ctl = s.ctl
      ∧ (s.stopUnit u 3).breg u 0x9010 7 = s.breg u 0x9010 7
      ∧ (s.stopUnit u 3).breg u 0x9010 8 = s.breg u 0x9010 8 := by
  unfold State.stopUnit
  rw [if_pos (Option.isSome_iff_ne_none.mpr h)]
  refine ⟨⟨⟨rfl, rfl, rfl, rfl, rfl⟩, fun _ => rfl, by simp, ?_, by simp⟩, rfl, ?_, ?_⟩ <;>
    simp [State.breg_setBreg_of_ne, bkey_ne] <;> rfl

/-- A unit that waits for its bus has counted nothing. -/
theorem State.ptWrite_stop_waiting {s : State} {u : Nat} (hu : s.reg 0x9010 1 = u)
    (hrun : s.test.running.find? u ≠ none) (hbus : s.test.busWait.contains u = true) (bits errors line : Nat) :
    s.ptWrite 0 bits errors line = s.stopUnit u 3 := by
  simp only [State.ptWrite, hu, Option.isNone_eq_false_iff.mpr (Option.isSome_iff_ne_none.mpr hrun), hbus]
  rfl

theorem State.ptWrite_stop_counted {s : State} {u : Nat} (hu : s.reg 0x9010 1 = u)
    (hrun : s.test.running.find? u ≠ none) (hbus : s.test.busWait.contains u = false) (bits errors line : Nat) :
    s.ptWrite 0 bits errors line
      = if 36 ≤ u ∧ u < 49 then
          ((s.countUnit u bits errors line).stopUnit u 3).leavePattern (u - 36) (s.patternRows bits)
        else (s.countUnit u bits errors line).stopUnit u 3 := by
  simp only [State.ptWrite, hu, Option.isNone_eq_false_iff.mpr (Option.isSome_iff_ne_none.mpr hrun), hbus]
  rfl

/-- A channel that stops leaves its pattern, and no other entry or unit changes. -/
theorem UnitStopped.leavePattern {s t : State} {u : Nat} (h : UnitStopped s t u)
    (hhold : t.ctl.testHold = s.ctl.testHold) (hu : 36 ≤ u ∧ u < 49) (rows : Nat) :
    UnitStopped s (t.leavePattern (u - 36) rows) u := by
  obtain ⟨kkept, kregs, krun, kmem⟩ := t.leavePattern_spec (u - 36) rows
  refine h.trans kkept (fun hor => kmem ?_) krun (fun _ => by rw [kregs])
  rw [hhold]
  omega

/-- What the stop of a unit adds to its counters: nothing while it waits for its bus. -/
def StopCounted (s t : State) (u bits errors : Nat) : Prop :=
  if s.test.busWait.contains u then t.breg u 0x9010 7 = s.breg u 0x9010 7 ∧ t.breg u 0x9010 8 = s.breg u 0x9010 8
  else t.breg u 0x9010 7 = min (s.breg u 0x9010 7 + bits) (2 ^ (8 * entrySize 0x9010 7) - 1)
    ∧ t.breg u 0x9010 8 = min (s.breg u 0x9010 8 + errors) (2 ^ (8 * entrySize 0x9010 8) - 1)

theorem State.ptWrite_stop {s : State} {u : Nat} (hu : s.reg 0x9010 1 = u) (hrun : s.test.running.find? u ≠ none)
    (bits errors line : Nat) :
    UnitStopped s (s.ptWrite 0 bits errors line) u ∧ StopCounted s (s.ptWrite 0 bits errors line) u bits errors := by
  unfold StopCounted
  cases hbus : s.test.busWait.contains u
  case true =>
    obtain ⟨hstop, -, h7, h8⟩ := State.stopUnit_stopped hrun
    rw [State.ptWrite_stop_waiting hu hrun hbus]
    exact ⟨hstop, h7, h8⟩
  case false =>
    obtain ⟨c7, c8, -⟩ := s.countUnit_breg u bits errors line
    obtain ⟨cdata, -⟩ := s.countUnit_kept u bits errors line
    have cctl : (s.countUnit u bits errors line).ctl = s.ctl := by
      simp only [State.countUnit]
      split <;> rfl
    obtain ⟨kstop, kctl, k7, k8⟩ := State.stopUnit_stopped (s := s.countUnit u bits errors line) (u := u)
      (by rw [s.countUnit_test]; exact hrun)
    have hstop := kstop.of_dataKept cdata (by rw [cctl])
    rw [State.ptWrite_stop_counted hu hrun hbus]
    split
    case isTrue hchan =>
      obtain ⟨-, lregs, -⟩ :=
        ((s.countUnit u bits errors line).stopUnit u 3).leavePattern_spec (u - 36) (s.patternRows bits)
      refine ⟨hstop.leavePattern (by rw [kctl, cctl]) hchan _, ?_, ?_⟩
      · exact (State.breg_unit_congr (by rw [lregs])).trans (k7.trans c7)
      · exact (State.breg_unit_congr (by rw [lregs])).trans (k8.trans c8)
    case isFalse => exact ⟨hstop, k7.trans c7, k8.trans c8⟩

@[simp] theorem State.stopUnit_links (s : State) (u st : Nat) : (s.stopUnit u st).links = s.links := by
  unfold State.stopUnit
  split <;> rfl

@[simp] theorem State.countUnit_links (s : State) (u bits errors line : Nat) :
    (s.countUnit u bits errors line).links = s.links := by
  simp only [State.countUnit]
  split <;> rfl

@[simp] theorem State.leavePattern_links (s : State) (c rows : Nat) : (s.leavePattern c rows).links = s.links := by
  unfold State.leavePattern State.notePattern
  split_ifs <;> rfl

theorem State.ptWrite_stop_links (s : State) (bits errors line : Nat) :
    (s.ptWrite 0 bits errors line).links = s.links := by
  simp only [State.ptWrite, zero_ne_one, if_false]
  split_ifs <;> simp

/-- PT_RUN of 0 for a unit that runs. -/
theorem ptRun_stop (s : State) (role : Role) (bits errors line u : Nat) (hs : s.serves role s.hostLink)
    (hu : s.reg 0x9010 1 = u) (hcode : s.writeCode role (Item.mk 0x9010 5 0 1) = 0)
    (hrun : s.test.running.find? u ≠ none) :
    ∃ t, exec (.ptRun role 0 bits errors line) s = .next t ∧ WriteAnswered s t role 0x9010 5 0 0
      ∧ UnitStopped s t u ∧ StopCounted s t u bits errors := by
  have hasked : (s.asked role).reg 0x9010 1 = u := (s.asked_reg role (by decide)).trans hu
  obtain ⟨hstop, hcount⟩ := State.ptWrite_stop hasked (by simpa using hrun) bits errors line
  have hlinks : ((s.asked role).ptWrite 0 bits errors line).links = s.links :=
    ((s.asked role).ptWrite_stop_links bits errors line).trans (s.asked_links role)
  obtain ⟨kdata, kregs, kout, ktest, -⟩ := State.answered_spec hs hlinks (Item.mk 0x9010 5 0 1) []
  have hfind := fun sub => kregs.find?_bkey (sel := u) (idx := 0x9010) (sub := sub) (by simp)
  refine ⟨_, exec_ptRun bits errors line hs (by decide) hcode, kout, ?_, ?_⟩
  · exact .of_dataKept (s.asked_dataKept role) (s.asked_testHold role)
      (hstop.trans kdata.stopKept (fun _ => kdata.1) (by rw [ktest]) hfind)
  · simpa only [StopCounted, State.asked_test, State.asked_breg, State.breg_unit_congr (hfind _)] using hcount

/-! ### Margin runs (R449) -/

/-- The row of `mg_run`: no role clears it by writing, and it is volatile. -/
theorem marginRow : ∃ r, rowOf 0x9020 5 = some r ∧ r.keep = .v ∧ ∀ role, r.access role ≠ .w1c :=
  ⟨_, rfl, rfl, fun role => by cases role <;> decide⟩

/-- Nothing follows such a write. -/
theorem State.follow_margin (before s : State) : before.follow s [(0x9020, 5)] = s := by
  have hhash : ({ s with ctl := { s.ctl with hashPending := s.ctl.hashPending || false } } : State) = s := by
    rw [Bool.or_false]
  exact hhash

/-- A write of `mg_run` that has passed its checks stores it for the selected interface, and nothing else. -/
theorem State.applyWrite_marginRun (s : State) (role : Role) (sel v : Nat) :
    s.applyWrite role 0x9020 5 sel v = s.setBreg (s.reg 0x9020 1) 0x9020 5 v := by
  obtain ⟨r, hrow, hkeep, hacc⟩ := marginRow
  have hact : s.act 0x9020 5 v = some (s.marginWrite v) := rfl
  have hstore : s.storeValue role 0x9020 5 sel v = s.setBreg (s.reg 0x9020 1) 0x9020 5 v := by
    simp only [State.storeValue, hrow, if_neg (hacc role), hact, State.kept, hkeep]
    rfl
  rw [State.applyWrite, hstore, State.follow_margin]

theorem marginRun_spec (s : State) (role : Role) (v u : Nat) (hp : s.writePasses role 0x9020 5 v) (hv : v < 256)
    (hu : s.reg 0x9020 1 = u) :
    ∃ t, exec (.marginRun role v) s = .next t ∧ DataKept s t ∧ WriteAnswered s t role 0x9020 5 v 0
      ∧ t.breg u 0x9020 5 = v := by
  obtain ⟨hs, hcode⟩ := hp
  have hitem : entryItem 0x9020 5 v = Item.mk 0x9020 5 v 1 := by
    simp only [entryItem, show entrySize 0x9020 5 = 1 from rfl, Item.mk.injEq, true_and, and_true]
    omega
  have hexec : exec (.marginRun role v) s = s.request .write (s.entryMsg role (entryItem 0x9020 5 v)) := rfl
  rw [hitem] at hcode hexec
  have hwrite : (s.asked role).write role s.hostLink 0 0 [Item.mk 0x9020 5 v 1]
      = ((s.asked role).setBreg u 0x9020 5 v).answered role s.hostLink (Item.mk 0x9020 5 v 1) := by
    have hsel : (s.asked role).reg 0x9020 1 = u := (s.asked_reg role (by decide)).trans hu
    simp only [State.write, State.writeItems, State.writeItem, hcode, State.applyWrite_marginRun, hsel]
    rfl
  obtain ⟨kdata, kregs, kout, -⟩ := State.answered_spec (x := (s.asked role).setBreg u 0x9020 5 v) hs
    (s.asked_links role) (Item.mk 0x9020 5 v 1) []
  refine ⟨_, hexec.trans ?_, ((s.asked_dataKept role).trans ⟨rfl, rfl, rfl, rfl, rfl, rfl⟩).trans kdata, ?_, ?_⟩
  · rw [s.request_write (s.entryMsg role (Item.mk 0x9020 5 v 1)) hs (s.entryMsg_fits role _ (show 1 ≤ 256 by decide))]
    exact congrArg Host.Outcome.next hwrite
  · rw [WriteAnswered, hitem]
    exact kout
  · exact State.breg_of_find? ((kregs.find?_bkey (by simp)).trans (Map.find?_put_self _ _ _))

/-! ### The entries of the budget -/

/-- The entries that the formula of R161 reads and gives. -/
def budgetEntries : List Nat :=
  [key 0x4010 0, key 0x4011 0, key 0x4013 0, key 0x4014 0, key 0x4015 0, key 0x4020 0, key 0x4021 0]

/-- What a register file stores for them. -/
def budgetValues (m : Map Nat) : List (Option Nat) := budgetEntries.map m.find?

theorem budgetValues_congr {m n : Map Nat} (h : ∀ k ∈ budgetEntries, n.find? k = m.find? k) :
    budgetValues n = budgetValues m := List.map_congr_left h

theorem budgetValues_put {m : Map Nat} {k v : Nat} (h : k ∉ budgetEntries) :
    budgetValues (m.put k v) = budgetValues m :=
  budgetValues_congr fun j hj => Map.find?_put_of_ne m k j v (fun e => h (e ▸ hj))

/-- An entry apart from them: of another index, or of a sub-index that is not 0. -/
theorem key_notMem_budgetEntries {idx sub : Nat} (h : (idx < 0x4010 ∧ sub < 256) ∨ 0x4021 < idx ∨ sub % 256 ≠ 0) :
    key idx sub ∉ budgetEntries := by
  simp only [budgetEntries, key, List.mem_cons, List.not_mem_nil, or_false]
  omega

theorem bkey_notMem_budgetEntries (sel idx sub : Nat) : bkey sel idx sub ∉ budgetEntries := by
  simp only [budgetEntries, bkey, key, List.mem_cons, List.not_mem_nil, or_false]
  omega

@[simp] theorem budgetValues_put_key (m : Map Nat) (idx sub v : Nat)
    (h : (idx < 0x4010 ∧ sub < 256) ∨ 0x4021 < idx ∨ sub % 256 ≠ 0) :
    budgetValues (m.put (key idx sub) v) = budgetValues m := budgetValues_put (key_notMem_budgetEntries h)

@[simp] theorem budgetValues_put_bkey (m : Map Nat) (sel idx sub v : Nat) :
    budgetValues (m.put (bkey sel idx sub) v) = budgetValues m :=
  budgetValues_put (bkey_notMem_budgetEntries sel idx sub)

@[simp] theorem State.addReg_budgetValues (s : State) (idx sub n : Nat)
    (h : (idx < 0x4010 ∧ sub < 256) ∨ 0x4021 < idx ∨ sub % 256 ≠ 0) :
    budgetValues (s.addReg idx sub n).regs = budgetValues s.regs := budgetValues_put_key _ idx sub _ h

@[simp] theorem State.maxReg_budgetValues (s : State) (idx sub v : Nat)
    (h : (idx < 0x4010 ∧ sub < 256) ∨ 0x4021 < idx ∨ sub % 256 ≠ 0) :
    budgetValues (s.maxReg idx sub v).regs = budgetValues s.regs := budgetValues_put_key _ idx sub _ h

/-- A budget entry reads the same from register files that agree on those entries. -/
theorem State.reg_of_budgetValues {s t : State} (h : budgetValues t.regs = budgetValues s.regs) {idx : Nat}
    (hk : key idx 0 ∈ budgetEntries) : t.reg idx 0 = s.reg idx 0 := by
  have hfind : t.regs.find? (key idx 0) = s.regs.find? (key idx 0) := List.map_inj_left.mp h _ hk
  have hdflt : defaultValue t 0 idx 0 = defaultValue s 0 idx 0 := by
    have hidx : idx ∈ [0x4010, 0x4011, 0x4013, 0x4014, 0x4015, 0x4020, 0x4021] := by
      simp only [budgetEntries, key, List.mem_cons, List.not_mem_nil, or_false] at hk ⊢
      omega
    fin_cases hidx <;> rfl
  simp only [State.reg, hfind, hdflt]

/-! ### What the rest of a beat's work keeps -/

/-- Between two states the clock, what Niura has sampled, the messages of the dictionary and the budget entries are the
same. Each operation that a beat is made of keeps them; one lemma for each, in the order of the definitions. -/
@[simp] abbrev BeatKept (s t : State) : Prop :=
  t.clock = s.clock ∧ t.dict = s.dict ∧ t.niura.vinMv = s.niura.vinMv ∧ t.niura.vStoreMv = s.niura.vStoreMv
    ∧ t.niura.iStoreMa = s.niura.iStoreMa ∧ t.niura.vbusMv = s.niura.vbusMv ∧ budgetValues t.regs = budgetValues s.regs

theorem BeatKept.refl (s : State) : BeatKept s s := ⟨rfl, rfl, rfl, rfl, rfl, rfl, rfl⟩

theorem BeatKept.trans {s t u : State} (h : BeatKept s t) (k : BeatKept t u) : BeatKept s u := by
  simp_all

/-- Reports keep them. -/
theorem SameButReports.beatKept {s t : State} (h : SameButReports s t) : BeatKept s t := by
  obtain ⟨h1, -, -, hk, -⟩ := h
  have hregs : budgetValues t.regs = budgetValues s.regs :=
    budgetValues_congr fun k hb => hk k (by revert k; decide) (fun _ => by revert k; decide)
  rw [h1]
  exact ⟨rfl, rfl, rfl, rfl, rfl, rfl, hregs⟩

@[simp] theorem State.foldl_beatKept {α : Type} (g : State → α → State) (l : List α) (s : State)
    (h : ∀ s a, BeatKept s (g s a)) : BeatKept s (l.foldl g s) :=
  State.foldl_holds (BeatKept s) g (fun t a ht => ht.trans (h t a)) l s (.refl s)

@[simp] theorem State.setSegment_beatKept (s : State) (n : Nat) (g : Segment) : BeatKept s (s.setSegment n g) :=
  ⟨rfl, rfl, rfl, rfl, rfl, rfl, rfl⟩

@[simp] theorem State.setUnits_beatKept (s : State) (ks : List Nat) (state : Nat) : BeatKept s (s.setUnits ks state) :=
  ⟨rfl, rfl, rfl, rfl, rfl, rfl, rfl⟩

@[simp] theorem State.endPeriod_beatKept (s : State) : BeatKept s s.endPeriod := by
  unfold State.endPeriod
  split <;> simp

@[simp] theorem State.extendBound_beatKept (s : State) (chan : Nat) (sub : Option Nat) (ns : Nat) :
    BeatKept s (s.extendBound chan sub ns) := by
  simp [State.extendBound]

@[simp] theorem State.extendFor_beatKept (s : State) (chan : Nat) (share : Burst → Nat) (ns : Nat) :
    BeatKept s (s.extendFor chan share ns) := by
  simp [State.extendFor]

@[simp] theorem State.window_beatKept (s : State) (c limit : Nat) : BeatKept s (s.window c limit) := by
  simp [State.window]

/-! ### Frames of the beat: reports and sources -/

@[simp] theorem State.fire_beatKept (s : State) (src : Nat) (on : Option Nat) : BeatKept s (s.fire src on) :=
  (s.fire_reports src on).beatKept

@[simp] theorem State.note_beatKept (s : State) (code : Nat) (values : List Nat) : BeatKept s (s.note code values) :=
  (s.note_reports code values).beatKept

@[simp] theorem State.fault_beatKept (s : State) (code : Nat) (detail : Nat) (live : Bool) (more : List Nat) :
    BeatKept s (s.fault code detail live more) := (s.fault_reports code detail live more).beatKept

@[simp] theorem State.faultOpen_beatKept (s : State) (code : Nat) (live : Bool) : BeatKept s (s.faultOpen code live) :=
  (s.faultOpen_reports code live).beatKept

@[simp] theorem State.condition_beatKept (s : State) (code : Nat) (stands : Bool) (detail : Nat) (more : List Nat) :
    BeatKept s (s.condition code stands detail more) := (s.condition_reports code stands detail more).beatKept

@[simp] theorem State.condClear_beatKept (s : State) (code : Nat) : BeatKept s (s.condClear code) :=
  (s.condClear_reports code).beatKept

@[simp] theorem State.signal_beatKept (s : State) (i src : Nat) : BeatKept s (s.signal i src) :=
  (s.signal_reports i src).beatKept

@[simp] theorem State.raiseSource_beatKept (s : State) (n : Nat) : BeatKept s (s.raiseSource n) :=
  ⟨rfl, rfl, rfl, rfl, rfl, rfl, rfl⟩

@[simp] theorem State.queueAll_beatKept (s : State) (bs : List Burst) : BeatKept s (s.queueAll bs) :=
  ⟨rfl, rfl, rfl, rfl, rfl, rfl, rfl⟩

@[simp] theorem State.reclass_beatKept (s : State) : BeatKept s s.reclass := ⟨rfl, rfl, rfl, rfl, rfl, rfl, rfl⟩

@[simp] theorem State.panicUpdate_beatKept (s : State) : BeatKept s s.panicUpdate := by
  unfold State.panicUpdate
  dsimp only
  split_ifs <;> simp

/-! ### Frames of the beat: cells, responses and links -/

@[simp] theorem State.setPort_beatKept (s : State) (p : Nat) (x : Port) : BeatKept s (s.setPort p x) :=
  ⟨rfl, rfl, rfl, rfl, rfl, rfl, rfl⟩

@[simp] theorem State.queueCell_beatKept (s : State) (dest : Option Nat) (body : CellBody) :
    BeatKept s (s.queueCell dest body) := ⟨rfl, rfl, rfl, rfl, rfl, rfl, rfl⟩

@[simp] theorem State.sendSegments_beatKept (s : State) (member tag bytes image : Nat) :
    BeatKept s (s.sendSegments member tag bytes image) := by
  simp [State.sendSegments]

@[simp] theorem State.respondHost_beatKept (s : State) (i tag : Nat) (o : Output) :
    BeatKept s (s.respondHost i tag o) := by
  unfold State.respondHost
  dsimp only
  split_ifs <;> simp

@[simp] theorem State.respond_beatKept (s : State) (op : DictOp) (role : Role) (link : Fin 4)
    (member tag status result handle beat : Nat) (items : List RespItem) :
    BeatKept s (s.respond op role link member tag status result handle beat items) := by
  unfold State.respond
  split <;> simp

@[simp] theorem State.flushed_beatKept (s : State) : BeatKept s s.flushed :=
  State.foldl_beatKept _ _ _ fun t i => by split <;> simp

@[simp] theorem State.loads_beatKept (s : State) : BeatKept s s.loads := by
  unfold State.loads
  exact s.flushed_beatKept.trans (State.foldl_beatKept _ _ _ fun t i => by dsimp only; split_ifs <;> simp)

/-! ### Frames of the beat: stripes, relocation and wear -/

theorem State.newSegment_beatKept {s t : State} {lun n : Nat} (h : s.newSegment lun = some (t, n)) : BeatKept s t := by
  unfold State.newSegment at h
  split at h
  · cases h
  · cases h; simp

@[simp] theorem State.openSegment_beatKept (s : State) (lun : Nat) : BeatKept s (s.openSegment lun) := by
  unfold State.openSegment
  split
  · exact .refl s
  next h => exact (State.newSegment_beatKept h :)

@[simp] theorem State.fillSegment_beatKept (s : State) (n : Nat) : BeatKept s (s.fillSegment n) :=
  ⟨rfl, rfl, rfl, rfl, rfl, rfl, rfl⟩

@[simp] theorem State.closeSegment_beatKept (s : State) (lun : Nat) : BeatKept s (s.closeSegment lun) := by
  unfold State.closeSegment
  split <;> simp

@[simp] theorem State.restoreTime_beatKept (s : State) : BeatKept s s.restoreTime := by
  unfold State.restoreTime
  split <;> simp

@[simp] theorem State.chargeWear_beatKept (s : State) (n : Nat) : BeatKept s (s.chargeWear n) :=
  ⟨rfl, rfl, rfl, rfl, rfl, rfl, rfl⟩

@[simp] theorem State.programRow_beatKept (s : State) : BeatKept s s.programRow := by
  unfold State.programRow
  dsimp only
  repeat' split
  all_goals simp

@[simp] theorem State.programRows_beatKept (n : Nat) (s : State) : BeatKept s (s.programRows n) := by
  induction n generalizing s with
  | zero => exact .refl s
  | succ n ih => unfold State.programRows; split <;> simp [ih]

@[simp] theorem State.form_beatKept (s : State) (xs : List Stripe) : BeatKept s (s.form xs) := by
  simp [State.form]

@[simp] theorem State.enterOverdraw_beatKept (s : State) : BeatKept s s.enterOverdraw := by
  simp [State.enterOverdraw]

@[simp] theorem State.relocate_beatKept (n : Nat) (s : State) : BeatKept s (s.relocate n) := by
  induction n generalizing s with
  | zero => exact .refl s
  | succ n ih =>
    unfold State.relocate
    split
    · exact .refl s
    · split
      · exact .refl s
      · dsimp only
        split
        · split <;> simp
        · simp [ih]
        · simp [ih]

@[simp] theorem State.relocateNow_beatKept (s : State) : BeatKept s s.relocateNow := by
  simp [State.relocateNow]

@[simp] theorem State.pausePeriod_beatKept (s : State) : BeatKept s s.pausePeriod := by
  simp [State.pausePeriod]

@[simp] theorem State.armSave_beatKept (s : State) (t : Trigger) (boundaries : Nat) :
    BeatKept s (s.armSave t boundaries) := ⟨rfl, rfl, rfl, rfl, rfl, rfl, rfl⟩

/-! ### Frames of the beat: channels of DRAM -/

@[simp] theorem State.setRate_beatKept (s : State) (c r : Nat) : BeatKept s (s.setRate c r) := by
  simp [State.setRate]

@[simp] theorem State.setRetrain_beatKept (s : State) (c st : Nat) : BeatKept s (s.setRetrain c st) := by
  simp [State.setRetrain]

@[simp] theorem State.closeGather_beatKept (s : State) : BeatKept s s.closeGather := by
  unfold State.closeGather
  split <;> simp

@[simp] theorem State.deferRetrain_beatKept (s : State) (c : Nat) : BeatKept s (s.deferRetrain c) := by
  unfold State.deferRetrain
  split_ifs <;> simp

@[simp] theorem State.setChan_beatKept (s : State) (c st : Nat) : BeatKept s (s.setChan c st) := by
  unfold State.setChan
  split_ifs <;> simp

@[simp] theorem State.copyBlock_beatKept (s : State) : BeatKept s s.copyBlock := by
  unfold State.copyBlock
  split <;> simp

@[simp] theorem State.openGather_beatKept (s : State) : BeatKept s s.openGather := by
  unfold State.openGather
  repeat' split
  all_goals simp

@[simp] theorem State.nextRetrain_beatKept (s : State) : BeatKept s s.nextRetrain := by
  unfold State.nextRetrain
  split
  · simp
  · split <;> simp

@[simp] theorem State.regather_beatKept (s : State) (c : Nat) : BeatKept s (s.regather c) := by
  unfold State.regather
  split <;> simp

@[simp] theorem State.applyRate_beatKept (s : State) (c : Nat) : BeatKept s (s.applyRate c) := by
  unfold State.applyRate
  split
  · simp
  · split <;> simp

@[simp] theorem State.startCopy_beatKept (s : State) (c : Nat) : BeatKept s (s.startCopy c) := by
  unfold State.startCopy
  split
  · simp
  · split <;> simp

@[simp] theorem State.copyAgain_beatKept (s : State) : BeatKept s s.copyAgain := by
  unfold State.copyAgain
  repeat' split
  all_goals simp

@[simp] theorem State.applyRates_beatKept (s : State) : BeatKept s s.applyRates := by
  simp [State.applyRates]

@[simp] theorem State.dramBeat_beatKept (s : State) : BeatKept s s.dramBeat := by
  simp [State.dramBeat]

/-! ### Frames of the beat: the Trestle -/

@[simp] theorem State.wrapPort_beatKept (s : State) (p : Nat) : BeatKept s (s.wrapPort p) := by
  simp [State.wrapPort]

@[simp] theorem State.linkBeat_beatKept (s : State) : BeatKept s s.linkBeat := by
  unfold State.linkBeat
  dsimp only
  split_ifs <;> simp

@[simp] theorem insertCells_beatKept (port : Fin 2) (ns : List Nat) (x : State × Map Cell) :
    BeatKept x.1 (insertCells port ns x).1 := by
  induction ns generalizing x with
  | nil => exact .refl x.1
  | cons n ns ih =>
    obtain ⟨s, cells⟩ := x
    unfold insertCells
    split
    · exact .refl s
    · simp only [BeatKept, ih]
      split <;> simp

@[simp] theorem State.dropPartials_beatKept (s : State) : BeatKept s s.dropPartials :=
  ⟨rfl, rfl, rfl, rfl, rfl, rfl, rfl⟩

@[simp] theorem State.issueFrame_beatKept (ringB : Bool) (s : State) : BeatKept s (s.issueFrame ringB) := by
  unfold State.issueFrame
  dsimp only
  split_ifs <;> simp

@[simp] theorem State.issueFrames_beatKept (s : State) : BeatKept s s.issueFrames := by
  unfold State.issueFrames
  repeat' split
  all_goals simp

@[simp] theorem State.trestleStop_beatKept (s : State) : BeatKept s s.trestleStop :=
  ⟨rfl, rfl, rfl, rfl, rfl, rfl, rfl⟩

/-! ### Frames of the beat: sources and the ring of the Chest -/

@[simp] theorem State.stampSources_beatKept (s : State) : BeatKept s s.stampSources :=
  ⟨rfl, rfl, rfl, rfl, rfl, rfl, rfl⟩

@[simp] theorem State.flushRing_beatKept (s : State) : BeatKept s s.flushRing := by
  unfold State.flushRing
  split <;> simp

@[simp] theorem State.readSpool_beatKept (s : State) (x : ChestRec) : BeatKept s (s.readSpool x) := by
  unfold State.readSpool
  dsimp only
  split <;> simp

@[simp] theorem State.readRecord_beatKept (s : State) : BeatKept s s.readRecord.1 := by
  unfold State.readRecord
  dsimp only
  repeat' split
  all_goals simp

/-! ### Frames of the beat: rails, the charger and DORMANT -/

@[simp] theorem State.alarmBit_beatKept (s : State) (n : Nat) : BeatKept s (s.alarmBit n) := by
  unfold State.alarmBit
  dsimp only
  split <;> simp

@[simp] theorem State.chargerOff_beatKept (s : State) : BeatKept s s.chargerOff := ⟨rfl, rfl, rfl, rfl, rfl, rfl, rfl⟩

@[simp] theorem State.setRail_beatKept (s : State) (r st : Nat) : BeatKept s (s.setRail r st) := by
  simp [State.setRail]

@[simp] theorem State.setRails_beatKept (s : State) (rs : List Nat) (st : Nat) : BeatKept s (s.setRails rs st) := by
  simp [State.setRails]

@[simp] theorem State.setGroup_beatKept (s : State) (g st : Nat) : BeatKept s (s.setGroup g st) := by
  simp [State.setGroup]

@[simp] theorem State.linksDown_beatKept (s : State) : BeatKept s s.linksDown := ⟨rfl, rfl, rfl, rfl, rfl, rfl, rfl⟩

@[simp] theorem State.toDormant_beatKept (s : State) : BeatKept s s.toDormant := by
  simp [State.toDormant]

@[simp] theorem State.seqFinish_beatKept (s : State) : BeatKept s s.seqFinish := by
  simp [State.seqFinish]

@[simp] theorem State.seqRun_beatKept (n k : Nat) (s : State) : BeatKept s (s.seqRun n k) := by
  induction n generalizing k s with
  | zero => simp [State.seqRun]
  | succ n ih =>
    unfold State.seqRun
    split
    · simp
    · dsimp only; split <;> simp [ih]

@[simp] theorem State.seqUp_beatKept (s : State) : BeatKept s s.seqUp := by
  simp [State.seqUp]

@[simp] theorem State.abortDone_beatKept (s : State) : BeatKept s s.abortDone := by
  unfold State.abortDone
  dsimp only
  split_ifs <;> simp

@[simp] theorem State.groupsDown_beatKept (s : State) : BeatKept s s.groupsDown := by
  simp [State.groupsDown]

@[simp] theorem State.seqIdle_beatKept (s : State) : BeatKept s s.seqIdle := by
  simp [State.seqIdle]

@[simp] theorem State.downDone_beatKept (s : State) : BeatKept s s.downDone := by
  unfold State.downDone
  split_ifs <;> simp

@[simp] theorem State.downStep_beatKept (s : State) : BeatKept s s.downStep := by
  unfold State.downStep
  split <;> simp

@[simp] theorem State.seqDown_beatKept (s : State) : BeatKept s s.seqDown := by
  simp [State.seqDown]

@[simp] theorem State.enterDormant_beatKept (s : State) : BeatKept s s.enterDormant := by
  simp [State.enterDormant]

@[simp] theorem State.thermalTrip_beatKept (s : State) (detail : Nat) : BeatKept s (s.thermalTrip detail) := by
  unfold State.thermalTrip
  dsimp only
  repeat' split
  all_goals simp

@[simp] theorem State.setCharger_beatKept (s : State) (c : Charger) : BeatKept s (s.setCharger c) :=
  ⟨rfl, rfl, rfl, rfl, rfl, rfl, rfl⟩

/-! ### Frames of the beat: snapshots -/

@[simp] theorem State.readItem_beatKept (s : State) (role : Role) (i : Item) : BeatKept s (s.readItem role i).1 := by
  unfold State.readItem
  split
  · simp
  · split_ifs <;> simp

@[simp] theorem State.readItems_beatKept (role : Role) (is : List Item) (s : State) :
    BeatKept s (s.readItems role is).1 := by
  induction is generalizing s with
  | nil => exact .refl s
  | cons i is ih => unfold State.readItems; simp [ih]

/-! ### Frames of the beat: the steps of a beat -/

@[simp] theorem State.setInt_beatKept (s : State) (idx sub : Nat) (v : Int)
    (h : (idx < 0x4010 ∧ sub < 256) ∨ 0x4021 < idx ∨ sub % 256 ≠ 0) : BeatKept s (s.setInt idx sub v) := by
  simp [State.setInt, h]

@[simp] theorem State.comparator_beatKept (s : State) : BeatKept s s.comparator := ⟨rfl, rfl, rfl, rfl, rfl, rfl, rfl⟩

@[simp] theorem State.releaseWarn_beatKept (s : State) : BeatKept s s.releaseWarn := by
  unfold State.releaseWarn
  split <;> simp

@[simp] theorem State.judgeShares_beatKept (s : State) (b : BeatInputs) : BeatKept s (s.judgeShares b) := by
  unfold State.judgeShares
  split
  · exact .refl s
  · exact State.foldl_beatKept _ _ _ fun t k => by split <;> simp

@[simp] theorem State.chargerBeat_beatKept (s : State) : BeatKept s s.chargerBeat := by
  unfold State.chargerBeat
  dsimp only
  split_ifs <;> simp

@[simp] theorem State.findTaps_beatKept (s : State) (b : BeatInputs) : BeatKept s (s.findTaps b) := by
  unfold State.findTaps
  dsimp only
  split_ifs <;> simp

@[simp] theorem State.balance_beatKept (s : State) : BeatKept s s.balance := ⟨rfl, rfl, rfl, rfl, rfl, rfl, rfl⟩

@[simp] theorem State.overtemp_beatKept (s : State) : BeatKept s s.overtemp := by
  unfold State.overtemp
  dsimp only
  split_ifs <;> simp

@[simp] theorem State.energy_beatKept (s : State) (b : BeatInputs) : BeatKept s (s.energy b) := by
  simp [State.energy]

@[simp] theorem State.judgeBudget_beatKept (s : State) : BeatKept s s.judgeBudget := by
  simp [State.judgeBudget]

@[simp] theorem State.gainTokens_beatKept (s : State) : BeatKept s s.gainTokens := ⟨rfl, rfl, rfl, rfl, rfl, rfl, rfl⟩

@[simp] theorem State.thermal_beatKept (s : State) (tj : Int) (sensor : Nat) : BeatKept s (s.thermal tj sensor) := by
  unfold State.thermal
  dsimp only
  split_ifs <;> simp

@[simp] theorem State.alignBeat_beatKept (s : State) : BeatKept s s.alignBeat := by
  simp [State.alignBeat]

@[simp] theorem State.serviceHour_beatKept (s : State) : BeatKept s s.serviceHour := by
  unfold State.serviceHour
  split <;> simp

@[simp] theorem State.shellReload_beatKept (s : State) : BeatKept s s.shellReload := by
  unfold State.shellReload
  split <;> simp

@[simp] theorem State.rowHits_beatKept (s : State) : BeatKept s s.rowHits := by
  unfold State.rowHits
  split <;> simp

@[simp] theorem State.periodBeat_beatKept (s : State) : BeatKept s s.periodBeat := by
  unfold State.periodBeat
  dsimp only
  split_ifs <;> simp

@[simp] theorem State.saveBeat_beatKept (s : State) : BeatKept s s.saveBeat := ⟨rfl, rfl, rfl, rfl, rfl, rfl, rfl⟩

/-! ### The beat (R8) -/

/-- Between two states the clock and what Niura has sampled are the same. -/
@[simp] abbrev TimeKept (s t : State) : Prop :=
  t.clock = s.clock ∧ t.niura.vinMv = s.niura.vinMv ∧ t.niura.vStoreMv = s.niura.vStoreMv
    ∧ t.niura.iStoreMa = s.niura.iStoreMa ∧ t.niura.vbusMv = s.niura.vbusMv

theorem BeatKept.timeKept {s t : State} (h : BeatKept s t) : TimeKept s t := by
  simp_all

theorem BeatKept.dict {s t : State} (h : BeatKept s t) : t.dict = s.dict := by
  obtain ⟨-, hdict, -⟩ := h
  exact hdict

theorem TimeKept.trans {s t u : State} (h : TimeKept s t) (k : TimeKept t u) : TimeKept s u := by
  simp_all

theorem BeatKept.ite {s t u : State} {c : Prop} [Decidable c] (h : BeatKept s t) (k : BeatKept s u) :
    BeatKept s (if c then t else u) := by
  split
  · exact h
  · exact k

/-- The dirty budget is what R161 says of the entries that it rests on. -/
def BudgetHolds (s : State) : Prop :=
  s.reg 0x4010 0 = dirtyBudget (s.reg 0x4011 0) (s.reg 0x4015 0)
    ∧ s.reg 0x4015 0 = budgetBytes (s.reg 0x4014 0) (s.reg 0x4013 0) (s.reg 0x4021 0) (s.reg 0x4020 0)

theorem BudgetHolds.of_budgetValues {s t : State} (h : BudgetHolds s)
    (hregs : budgetValues t.regs = budgetValues s.regs) : BudgetHolds t := by
  have hreg := fun idx hk => State.reg_of_budgetValues (idx := idx) hregs hk
  unfold BudgetHolds
  rw [hreg 0x4010 (by decide), hreg 0x4011 (by decide), hreg 0x4013 (by decide), hreg 0x4014 (by decide),
    hreg 0x4015 (by decide), hreg 0x4020 (by decide), hreg 0x4021 (by decide)]
  exact h

theorem BudgetHolds.of_beatKept {s t : State} (h : BudgetHolds s) (k : BeatKept s t) : BudgetHolds t := by
  obtain ⟨-, -, -, -, -, -, hregs⟩ := k
  exact h.of_budgetValues hregs

theorem State.tick_spec (s : State) (b : BeatInputs) :
    (s.tick b).clock.devNs = s.clock.devNs + 10000 ∧ (s.tick b).clock.beat = s.clock.beat + 1
      ∧ (s.tick b).clock.wallNs = s.clock.wallNs + 10000 ∧ (s.tick b).clock.wallSet = s.clock.wallSet
      ∧ (s.tick b).dict = s.dict := by
  simp only [State.tick]
  split <;> simp

theorem State.sample_spec (s : State) (b : BeatInputs) :
    (s.sample b).clock = s.clock ∧ (s.sample b).dict = s.dict ∧ (s.sample b).niura.vinMv = b.vinMv
      ∧ (s.sample b).niura.vStoreMv = b.vStoreMv ∧ (s.sample b).niura.iStoreMa = b.iStoreMa
      ∧ (s.sample b).niura.vbusMv = b.vbusMv := by
  simp [State.sample]

theorem State.beatStep1_beatKept (s : State) (b : BeatInputs) : BeatKept ((s.tick b).sample b) (s.beatStep1 b) := by
  simp [State.beatStep1]

theorem State.recompute_timeKept (s : State) : TimeKept s s.recompute ∧ s.recompute.dict = s.dict := by
  simp [State.recompute]

/-- The new budget is the formula over the entries as `recompute` leaves them. -/
theorem State.recompute_budgetHolds (s : State) : BudgetHolds s.recompute := by
  have hsame : ∀ tr idx, ({ s with trickle := tr } : State).reg idx 0 = s.reg idx 0 := fun _ _ => rfl
  simp [BudgetHolds, State.recompute, State.reg_setReg_of_ne, key, hsame]

/-- Step 2 leaves the budget as the formula gives it. -/
theorem State.beatStep2_spec (s : State) (b : BeatInputs) :
    TimeKept s (s.beatStep2 b) ∧ (s.beatStep2 b).dict = s.dict ∧ BudgetHolds (s.beatStep2 b) := by
  have hlate : BeatKept (s.energy b).recompute (s.beatStep2 b) :=
    ((s.energy b).recompute.judgeBudget_beatKept).trans (State.panicUpdate_beatKept _)
  obtain ⟨htime, hdict⟩ := (s.energy b).recompute_timeKept
  have hbudget := (State.recompute_budgetHolds (s.energy b)).of_beatKept hlate
  exact ⟨(s.energy_beatKept b).timeKept.trans (htime.trans hlate.timeKept),
    hlate.dict.trans (hdict.trans (s.energy_beatKept b).dict), hbudget⟩

/-- The same where an overrun may leave step 2 out. -/
theorem State.ite_beatStep2_spec (s : State) (b : BeatInputs) (p : Prop) [Decidable p] :
    TimeKept s (if p then s.beatStep2 b else s) ∧ (if p then s.beatStep2 b else s).dict = s.dict
      ∧ (p → BudgetHolds (if p then s.beatStep2 b else s)) := by
  split
  case isTrue =>
    obtain ⟨htime, hdict, hbudget⟩ := s.beatStep2_spec b
    exact ⟨htime, hdict, fun _ => hbudget⟩
  case isFalse hnot => exact ⟨(BeatKept.refl s).timeKept, rfl, fun hp => absurd hp hnot⟩

theorem State.applySets_of_submitted_nil (s : State) (h : s.dict.submitted = []) : s.applySets = s := by
  have hnone : setsOfStep 4 1024 s.dict.submitted = [] := by rw [h]; rfl
  unfold State.applySets
  rw [hnone]
  rfl

theorem State.takeSnapshots_beatKept (s : State) :
    BeatKept { s with dict := { s.dict with snapshots := [] } } s.takeSnapshots := by
  unfold State.takeSnapshots
  exact State.foldl_beatKept _ _ _ fun t m => by simp

/-- Step 4 without a set to apply: only the snapshots of the dictionary are taken. -/
theorem State.beatStep4_beatKept (s : State) (h : s.dict.submitted = []) :
    BeatKept { s with dict := { s.dict with snapshots := [] } } s.beatStep4 := by
  unfold State.beatStep4
  rw [s.applySets_of_submitted_nil h]
  exact s.takeSnapshots_beatKept.trans ((State.applyRates_beatKept _).trans (State.dramBeat_beatKept _))

/-- The same where an overrun may leave step 4 out. -/
theorem State.ite_beatStep4_beatKept (s : State) (h : s.dict.submitted = []) (p : Prop) [Decidable p] :
    ∃ d, BeatKept { s with dict := d } (if p then s.beatStep4 else s) := by
  split
  · exact ⟨_, s.beatStep4_beatKept h⟩
  · exact ⟨s.dict, .refl s⟩

/-- The work of a beat: only the tick and the samples move time and samples, and nothing after step 2 moves the budget. -/
theorem State.beatWork_spec (s : State) (b : BeatInputs) (h : s.dict.submitted = []) :
    TimeKept ((s.tick b).sample b) (s.beatWork b) ∧ (b.overrun = none → BudgetHolds (s.beatWork b)) := by
  obtain ⟨-, -, -, -, htick⟩ := s.tick_spec b
  obtain ⟨-, hsample, -⟩ := (s.tick b).sample_spec b
  unfold State.beatWork
  extract_lets upTo s1 s2 takeover s3 s4 s5
  have h1 : BeatKept ((s.tick b).sample b) s1 := (s.beatStep1_beatKept b).trans (State.thermal_beatKept _ _ _)
  obtain ⟨htime2, hdict2, hbudget2⟩ := s1.ite_beatStep2_spec b (2 ≤ upTo)
  have h3 : BeatKept s2 s3 :=
    .ite (.ite s2.linkBeat_beatKept (s2.linkBeat_beatKept.trans (State.issueFrames_beatKept _))) (.refl s2)
  have hsub : s3.dict.submitted = [] := by rw [h3.dict, hdict2, h1.dict, hsample, htick, h]
  obtain ⟨d, h4⟩ := s3.ite_beatStep4_beatKept hsub (4 ≤ upTo)
  have h5 : BeatKept s4 s5 := .ite s4.issueFrames_beatKept (.refl s4)
  have h6 : BeatKept s5 (if 5 ≤ upTo ∧ s5.cupboardUp = true then s5.flushRing else s5).relocateNow :=
    (BeatKept.ite s5.flushRing_beatKept (.refl s5)).trans (State.relocateNow_beatKept _)
  have hend := h4.trans (h5.trans h6)
  refine ⟨h1.timeKept.trans (htime2.trans (h3.timeKept.trans hend.timeKept)), fun hnone => ?_⟩
  have hrun : 2 ≤ upTo := by simp [upTo, hnone]
  obtain ⟨-, -, -, -, -, -, hregs⟩ := hend
  exact ((hbudget2 hrun).of_beatKept h3).of_budgetValues hregs

theorem State.beatCheck_timeKept (s : State) (b : BeatInputs) : TimeKept s (s.beatCheck b) := by
  unfold State.beatCheck
  dsimp only
  split <;> simp

/-- Without an overrun step 6 only keeps the longest work. -/
theorem State.beatCheck_beatKept (s : State) (b : BeatInputs) (h : b.overrun = none) : BeatKept s (s.beatCheck b) := by
  simp [State.beatCheck, h]

/-- A beat without a waiting set: time, samples and budget. -/
theorem beat_spec (s : State) (b : BeatInputs) (hvaux : s.ctl.vaux = true) (hsub : s.dict.submitted = []) :
    ∃ t, exec (.beat b) s = .next t ∧ t.clock.devNs = s.clock.devNs + 10000 ∧ t.clock.beat = s.clock.beat + 1
      ∧ t.clock.wallNs = s.clock.wallNs + 10000 ∧ t.clock.wallSet = s.clock.wallSet ∧ t.niura.vinMv = b.vinMv
      ∧ t.niura.vStoreMv = b.vStoreMv ∧ t.niura.iStoreMa = b.iStoreMa ∧ t.niura.vbusMv = b.vbusMv
      ∧ (b.overrun = none → BudgetHolds t) := by
  obtain ⟨hwork, hbudget⟩ := s.fresh.beatWork_spec b hsub
  obtain ⟨hdev, hbeat, hwall, hset, -⟩ := s.fresh.tick_spec b
  obtain ⟨hclock, -, hvin, hstore, hcur, hbus⟩ := (s.fresh.tick b).sample_spec b
  have hlate : BeatKept ((s.fresh.beatWork b).beatCheck b) ((s.fresh.beatWork b).beatCheck b).loads.stampSources :=
    (State.loads_beatKept _).trans (State.stampSources_beatKept _)
  obtain ⟨kclock, kvin, kstore, kcur, kbus⟩ :=
    hwork.trans ((State.beatCheck_timeKept _ b).trans hlate.timeKept)
  refine ⟨((s.fresh.beatWork b).beatCheck b).loads.stampSources, ?_, ?_⟩
  · exact congrArg Host.Outcome.next (if_pos hvaux)
  · rw [kclock, kvin, kstore, kcur, kbus, hclock, hdev, hbeat, hwall, hset]
    exact ⟨rfl, rfl, rfl, rfl, hvin, hstore, hcur, hbus,
      fun hnone => ((hbudget hnone).of_beatKept (State.beatCheck_beatKept _ b hnone)).of_beatKept hlate⟩

/-! ### The obligation -/

/-- Settles O60: tests, scans and addresses by what each command stores, and the beat by what each part of its work keeps
after the budget has been computed. -/
theorem testsScanAddressesAndBeats : Obligations.TestsScanAddressesAndBeats := by
  unfold Obligations.TestsScanAddressesAndBeats
  refine ⟨fun s role bits errors line u hs hu => ⟨ptRun_start s role bits errors line u hs hu, fun hcode hrun => ?_⟩,
    checkerLock_spec, checkerLockLoss_spec, marginRun_spec, marginRunComplete_spec, fun s hfree c op hc => ?_,
    fun s hfree c op hc => ?_, fun s => ⟨rfl, rfl, ?_, fun hl => ?_, fun hl => ?_⟩,
    fun s a hvaux hnone ha => ⟨exec_entdaa s a hvaux hnone ha, exec_setdasa s a hvaux hnone ha⟩, beat_spec⟩
  · obtain ⟨t, hexec, hanswer, ⟨⟨hflash, hleaves, hgroups, hmode, hclock⟩, hmem, hnone, h6, h5⟩, hcount⟩ :=
      ptRun_stop s role bits errors line u hs hu hcode hrun
    exact ⟨t, hexec, hanswer, hflash, hleaves, hgroups, hmode, hclock, hmem, hnone, h6, h5, hcount⟩
  · obtain ⟨n, data, hexec⟩ := exec_tapDrive hc s
    rw [hfree] at hexec
    exact ⟨_, data, hexec, s.tapLoad_allowed n op data⟩
  · obtain ⟨n, data, hexec⟩ := exec_tapDrive hc s
    rw [hfree] at hexec
    exact ⟨_, hexec, s.tapLoad_refused n op data⟩
  · obtain ⟨hdata, hregs, hout, -⟩ := s.tapLoad_allowed (s.free + 1) 0x02 (Config.free s.free)
    exact ⟨_, _, exec_tapSamplePreload s, hdata, hregs, hout⟩
  · obtain ⟨hdata, hregs, hout, -⟩ := s.tapLoad_allowed (s.free + 1) 0x80 (Config.free s.free)
    exact ⟨_, _, by rw [exec_tapTestAccess, decide_eq_true hl], hdata, hregs, hout⟩
  · obtain ⟨hdata, hreg, hout, -, hkept⟩ := s.tapLoad_refused (s.free + 1) 0x80 (Config.free s.free)
    exact ⟨_, by rw [exec_tapTestAccess, decide_eq_false hl], hdata, hreg, hout, hkept⟩

end Sys2Proof.Machine
end

section
/-! PROOFS. Global Persistent Flush (R54). -/
namespace Sys2Proof.Machine

/-! ### Global Persistent Flush -/

/-- What the end of a flush does on one link: a link that waits, with nothing of its own in ingress, is answered. -/
def State.flushOne (t : State) (i : Nat) : State :=
  if (t.link i).gpfWait ∧ t.occupancy i = 0 then (t.setLink i { t.link i with gpfWait := false }).emit (.gpfDone i) else t

theorem State.flushed_eq (s : State) : s.flushed = linkNos.foldl State.flushOne s := rfl

theorem State.flushOne_of_not_waiting {s : State} {i : Nat} (h : (s.link i).gpfWait = false) : s.flushOne i = s := by
  simp [State.flushOne, h]

@[simp] theorem State.link_setLink_self (s : State) (i : Nat) (l : Link) : (s.setLink i l).link i = l := by
  simp [State.link]

theorem State.link_setLink_of_ne (s : State) {i j : Nat} (l : Link) (h : j ≠ i) : (s.setLink i l).link j = s.link j := by
  simp [State.link, h]

theorem State.link_emit (s : State) (o : Output) (i : Nat) : (s.emit o).link i = s.link i := rfl

theorem State.flushOne_link_of_ne (s : State) {i j : Nat} (h : j ≠ i) : (s.flushOne i).link j = s.link j := by
  unfold State.flushOne
  split
  · exact s.link_setLink_of_ne _ h
  · rfl

theorem State.foldl_flushOne_of_not_waiting (l : List Nat) (s : State) (h : ∀ j ∈ l, (s.link j).gpfWait = false) :
    l.foldl State.flushOne s = s := by
  induction l with
  | nil => rfl
  | cons j l ih =>
    rw [List.foldl_cons, State.flushOne_of_not_waiting (h j (List.mem_cons_self ..))]
    exact ih fun k hk => h k (List.mem_cons_of_mem _ hk)

/-- Where at most one link waits, only that one is answered. -/
theorem State.flushed_of_one (s : State) (i : Nat) (hi : i ∈ linkNos)
    (h : ∀ j ∈ linkNos, j ≠ i → (s.link j).gpfWait = false) : s.flushed = s.flushOne i := by
  obtain ⟨as, bs, hl⟩ := List.append_of_mem hi
  have hnd : (as ++ i :: bs).Nodup := by
    rw [← hl]
    decide
  obtain ⟨-, hbs, has⟩ := List.nodup_append'.mp hnd
  rw [State.flushed_eq, hl, List.foldl_append, List.foldl_cons, State.foldl_flushOne_of_not_waiting as]
  · refine State.foldl_flushOne_of_not_waiting bs _ fun j hj => ?_
    have hne : j ≠ i := fun e => (List.nodup_cons.mp hbs).1 (e ▸ hj)
    rw [State.flushOne_link_of_ne s hne]
    exact h j (by rw [hl]; simp [hj]) hne
  · intro j hj
    have hne : j ≠ i := fun e => has hj (by simp [e])
    exact h j (by rw [hl]; simp [hj]) hne

/-- A link takes its wait back where it has nothing in ingress; the answer leaves. -/
theorem gpfPhase2_spec (s : State) (link : Fin 4) (hup : (s.link link.val).up = true)
    (hnone : ∀ j : Fin 4, j ≠ link → (s.link j.val).gpfWait = false) :
    ∃ t, exec (.gpfPhase2 link) s = .next t ∧ t = { s with out := t.out, links := t.links }
      ∧ (if s.occupancy link.val = 0 then t.out = [.gpfDone link.val] ∧ (t.link link.val).gpfWait = false
         else t.out = [] ∧ (t.link link.val).gpfWait = true)
      ∧ (∀ j : Fin 4, j ≠ link → t.link j.val = s.link j.val)
      ∧ t.link link.val = { s.link link.val with gpfWait := (t.link link.val).gpfWait } := by
  obtain ⟨u, hu⟩ : ∃ u, u = s.fresh.setLink link.val { s.link link.val with gpfWait := true } := ⟨_, rfl⟩
  have hself : u.link link.val = { s.link link.val with gpfWait := true } := by rw [hu, State.link_setLink_self]
  have hother : ∀ j : Fin 4, j ≠ link → u.link j.val = s.link j.val := fun j hj => by
    rw [hu, State.link_setLink_of_ne _ _ (fun e => hj (Fin.ext e))]
    rfl
  have hocc : u.occupancy link.val = s.occupancy link.val := by rw [hu]; rfl
  have hflush : u.flushed = u.flushOne link.val :=
    u.flushed_of_one link.val (by fin_cases link <;> decide) fun j hj hne => by
      have hj4 : j < 4 := by
        simp only [linkNos, List.mem_cons, List.not_mem_nil, or_false] at hj
        omega
      have := hother ⟨j, hj4⟩ (fun e => hne (by rw [← e]))
      exact this ▸ hnone ⟨j, hj4⟩ (fun e => hne (by rw [← e]))
  refine ⟨u.flushOne link.val, ?_, ?_⟩
  · show execGpfPhase2 link s = _
    rw [execGpfPhase2, if_pos hup, ← hu, hflush]
  · by_cases h0 : s.occupancy link.val = 0
    · have hone : u.flushOne link.val
          = (u.setLink link.val { s.link link.val with gpfWait := false }).emit (.gpfDone link.val) := by
        rw [State.flushOne, hself, hocc, if_pos ⟨rfl, h0⟩]
      rw [if_pos h0, hone]
      refine ⟨by rw [hu]; rfl, ⟨by rw [hu]; rfl, ?_⟩, fun j hj => ?_, ?_⟩
      · rw [State.link_emit, State.link_setLink_self]
      · rw [State.link_emit, State.link_setLink_of_ne _ _ (fun e => hj (Fin.ext e)), hother j hj]
      · rw [State.link_emit, State.link_setLink_self]
    · have hone : u.flushOne link.val = u := by
        rw [State.flushOne, hocc, if_neg fun h => h0 h.2]
      rw [if_neg h0, hone]
      exact ⟨by rw [hu]; rfl, ⟨by rw [hu]; rfl, by rw [hself]⟩, hother, by rw [hself]⟩

/-- Settles O12: Phase 1 by its one branch, Phase 2 by the one link that waits then. -/
theorem flushesAnswer : Obligations.FlushesAnswer := by
  unfold Obligations.FlushesAnswer
  refine ⟨fun s link hup => ?_, gpfPhase2_spec⟩
  show execGpfPhase1 link s = _
  rw [execGpfPhase1, if_pos hup]
  rfl

end Sys2Proof.Machine
end

section
/-! PROOFS. What follows every command, and the cells and timers of joint groups. -/
namespace Sys2Proof.Machine

/-! ### What follows every command: links are served, bursts queued, panic set -/

/-- `t` is `s` but for reports, links, bursts and the flags of trickle: no data, leaf, group, request in ingress or cell differs,
and outputs only grow. -/
def SameButService (s t : State) : Prop :=
  t = { s with out := t.out, free := t.free, ctl := t.ctl, regs := t.regs, links := t.links, faults := t.faults,
               chest := t.chest, sched := t.sched, trickle := t.trickle }
    ∧ ∃ os, t.out = s.out ++ os

theorem SameButService.refl (s : State) : SameButService s s := ⟨rfl, [], by simp⟩

theorem SameButService.trans {s t u : State} (h : SameButService s t) (k : SameButService t u) : SameButService s u := by
  obtain ⟨h1, os, h2⟩ := h
  obtain ⟨k1, ps, k2⟩ := k
  exact ⟨by rw [k1, h1], os ++ ps, by rw [k2, h2, List.append_assoc]⟩

theorem SameButReports.service {s t : State} (h : SameButReports s t) : SameButService s t := by
  obtain ⟨h1, -, -, -, -, os, h2⟩ := h
  exact ⟨by rw [h1], os, h2⟩

/-- No output leaves, and the fields that may differ are named. -/
theorem SameButService.silent {s t : State}
    (h : t = { s with free := t.free, ctl := t.ctl, regs := t.regs, links := t.links, faults := t.faults, chest := t.chest,
                      sched := t.sched, trickle := t.trickle }) : SameButService s t :=
  ⟨by rw [h], [], by rw [h]; simp⟩

theorem SameButService.foldl {α : Type} (g : State → α → State) (h : ∀ s a, SameButService s (g s a)) (l : List α)
    (s : State) : SameButService s (l.foldl g s) :=
  State.foldl_holds (SameButService s) g (fun t a ht => ht.trans (h t a)) l s (.refl s)

theorem SameButService.mem {s t : State} (h : SameButService s t) : t.mem = s.mem := by rw [h.1]

theorem SameButService.groups {s t : State} (h : SameButService s t) : t.groups = s.groups := by rw [h.1]

theorem SameButService.leaves {s t : State} (h : SameButService s t) : t.leaves = s.leaves := by rw [h.1]

theorem SameButService.ingress {s t : State} (h : SameButService s t) : t.ingress = s.ingress := by rw [h.1]

theorem SameButService.trestle {s t : State} (h : SameButService s t) : t.trestle = s.trestle := by rw [h.1]

theorem State.queueAll_service (s : State) (bs : List Burst) : SameButService s (s.queueAll bs) := .silent rfl

theorem State.cupboard_service (s before : State) (stamp : BitVec 16) : SameButService s (s.cupboard before stamp) :=
  s.queueAll_service _

theorem State.addReg_service (s : State) (idx sub n : Nat) : SameButService s (s.addReg idx sub n) := .silent rfl

theorem State.flushOne_service (s : State) (i : Nat) : SameButService s (s.flushOne i) := by
  unfold State.flushOne
  split
  · exact ⟨rfl, _, rfl⟩
  · exact .refl s

theorem State.loads_service (s : State) : SameButService s s.loads := by
  refine (SameButService.foldl State.flushOne State.flushOne_service linkNos s).trans (.foldl _ (fun t i => ?_) _ _)
  dsimp only
  split
  · exact .refl t
  · split
    · exact (SameButService.silent (t := t.setLink i _) rfl).trans (State.signal_reports _ _ _).service
    · exact .silent rfl

theorem State.holdEdges_service (s before : State) : SameButService s (s.holdEdges before) := by
  unfold State.holdEdges
  refine SameButService.trans (t := if s.holding then s else { s with trickle := { s.trickle with overdrawn := false } })
    ?_ (.foldl _ (fun t i => ?_) _ _)
  · split
    · exact .refl s
    · exact .silent rfl
  · split
    · exact .refl t
    · exact (State.signal_reports _ _ _).service

theorem State.panicUpdate_service (s : State) : SameButService s s.panicUpdate := by
  have hclass : SameButService s ({ s with trickle := { s.trickle with panic := s.panicNext } }).reclass := .silent rfl
  unfold State.panicUpdate
  dsimp only
  split
  · exact .refl s
  · split
    · split
      · exact (hclass.trans (State.addReg_service _ _ _ _)).trans (State.note_reports _ _ _).service
      · exact hclass.trans (State.addReg_service _ _ _ _)
    · exact hclass

/-- With no write in ingress none goes on. -/
theorem State.resume_of_no_writes {s : State} (h : s.ingress.writes = []) (w : Wait) : s.resume w = s := by
  simp [State.resume, State.waiting, h]

theorem State.resumeGroupWrites_service {s : State} (h : s.ingress.writes = []) : SameButService s s.resumeGroupWrites := by
  rw [State.resumeGroupWrites, s.resume_of_no_writes h, s.resume_of_no_writes h]
  exact (State.holdEdges_service _ _).trans (State.loads_service _)

/-! ### Entries of the decision table and cells -/

theorem State.forget_eq (s : State) (i : Nat) :
    ∃ ds, s.forget i = { s with groups := { s.groups with decisions := ds } } := by
  unfold State.forget
  split
  · exact ⟨_, rfl⟩
  · split <;> exact ⟨_, rfl⟩

theorem State.acknowledge_eq (s : State) (m txn : Nat) :
    ∃ ds, s.acknowledge m txn = { s with groups := { s.groups with decisions := ds } } := by
  unfold State.acknowledge
  split
  · exact ⟨_, rfl⟩
  · split
    · exact ⟨_, rfl⟩
    · split
      · exact ⟨_, rfl⟩
      · obtain ⟨ds, h⟩ := State.forget_eq (s.setDecision _ _) _
        exact ⟨ds, h⟩

theorem State.sendTxn_eq (s : State) (query : Bool) (dest txn : Nat) :
    ∃ tr, s.sendTxn query dest txn = { s with trestle := tr } := by
  unfold State.sendTxn
  split <;> exact ⟨_, rfl⟩

/-- An acknowledgement moves the decision table or the waiting cells only. -/
theorem State.ackIfDone_eq (s : State) (txn : Nat) :
    ∃ ds tr, s.ackIfDone txn = { s with groups := { s.groups with decisions := ds }, trestle := tr } := by
  unfold State.ackIfDone
  split
  · split
    · obtain ⟨ds, h⟩ := s.acknowledge_eq s.member txn
      exact ⟨ds, _, h⟩
    · obtain ⟨tr, h⟩ := s.sendTxn_eq false (anchorOf txn) txn
      exact ⟨_, tr, h⟩
  · exact ⟨_, _, rfl⟩

/-! ### What a decision does to the parts -/

/-- The ends of groups and rollbacks leave ingress, and slots but for the one named. -/
theorem State.unpin_kept (s : State) (leaves : List Nat) :
    (s.unpin leaves).groups = s.groups ∧ (s.unpin leaves).ingress = s.ingress := by
  refine Prod.mk.inj (State.foldl_keeps (fun t => (t.groups, t.ingress)) _ (fun t f => ?_) leaves s)
  split <;> rfl

theorem State.requestTouch_kept (s : State) (leaf : Nat) :
    (s.requestTouch leaf).groups = s.groups ∧ (s.requestTouch leaf).ingress = s.ingress := by
  unfold State.requestTouch
  split
  · exact ⟨rfl, rfl⟩
  · split <;> exact ⟨rfl, rfl⟩

theorem State.commitGroup_kept (s : State) (g : Nat) :
    (s.commitGroup g).groups.slots = s.groups.slots.put g { s.slot g with state := .committed, journalWait := false }
      ∧ (s.commitGroup g).ingress = s.ingress := by
  obtain ⟨hgroups, hingress⟩ := State.unpin_kept
    { (s.setSlot g { s.slot g with state := .committed, journalWait := false }).dropEntries g with
      groups := { ((s.setSlot g { s.slot g with state := .committed, journalWait := false }).dropEntries g).groups with
        claims := s.groups.claims.filter fun c => !(s.pagesOf g).contains c.1 } }
    ((s.pagesOf g).map (· / 16)).eraseDups
  exact ⟨congrArg Groups.slots hgroups, hingress⟩

theorem State.startRollback_kept (s : State) (g : Nat) (after : Option (Nat × Nat)) :
    (s.startRollback g after).groups.slots = s.groups.slots.put g
        { s.slot g with state := .aborted, running := true, touching := false, journalWait := false, after := after }
      ∧ (s.startRollback g after).ingress = s.ingress := by
  have h := State.foldl_keeps (fun t => (t.groups, t.ingress)) State.requestTouch
    (fun t f => Prod.ext (t.requestTouch_kept f).1 (t.requestTouch_kept f).2) (s.journalLeaves g)
    (s.setSlot g { s.slot g with state := .aborted, running := true, touching := false, journalWait := false, after := after })
  obtain ⟨hgroups, hingress⟩ := Prod.mk.inj h
  exact ⟨congrArg Groups.slots hgroups, hingress⟩

/-- The state that a decision gives a part. -/
def decidedState (commit : Bool) : SlotState := if commit then .committed else .aborted

theorem State.slot_of_put {s t : State} {g : Nat} {x : Slot} (h : t.groups.slots = s.groups.slots.put g x) :
    t.slot g = x ∧ ∀ k, k ≠ g → t.slot k = s.slot k :=
  ⟨by rw [State.slot, h, Map.get_put_self], fun k hk => by rw [State.slot, h, Map.get_put_of_ne _ _ _ _ _ hk]; rfl⟩

/-- A decision settles the part it is applied to, and no other slot. -/
theorem State.resolvePart_spec (commit forced : Bool) (s : State) (g : Nat) :
    ((State.resolvePart commit forced s g).slot g).state = decidedState commit
      ∧ (∀ k, k ≠ g → (State.resolvePart commit forced s g).slot k = s.slot k)
      ∧ (State.resolvePart commit forced s g).ingress = s.ingress := by
  obtain ⟨y, hy⟩ : ∃ y, y = { s.slot g with
      restored := (s.slot g).restored || decide ((s.slot g).state = SlotState.inDoubt) || forced,
      forced := (s.slot g).forced || forced } := ⟨_, rfl⟩
  have hset := State.slot_of_put (s := s) (t := s.setSlot g y) rfl
  have key : ∀ u : State, ∀ x : Slot, u.groups.slots = (s.setSlot g y).groups.slots.put g x → x.state = decidedState commit →
      u.ingress = s.ingress → ((u.signalGroup g).slot g).state = decidedState commit
        ∧ (∀ k, k ≠ g → (u.signalGroup g).slot k = s.slot k) ∧ (u.signalGroup g).ingress = s.ingress := by
    intro u x hu hx hi
    have hsig : SameButService u (u.signalGroup g) := (State.signalOn_reports _ _ _).service
    obtain ⟨hself, hother⟩ := State.slot_of_put (s := s.setSlot g y) hu
    have hslot : ∀ k, (u.signalGroup g).slot k = u.slot k := fun k => by rw [State.slot, hsig.groups]; rfl
    exact ⟨by rw [hslot, hself, hx], fun k hk => by rw [hslot, hother k hk, hset.2 k hk], hsig.ingress.trans hi⟩
  unfold State.resolvePart
  dsimp only
  rw [← hy]
  cases commit with
  | true =>
    obtain ⟨hslots, hi⟩ := State.commitGroup_kept (s.setSlot g y) g
    exact key _ _ hslots rfl hi
  | false =>
    obtain ⟨hslots, hi⟩ := State.startRollback_kept (s.setSlot g y) g none
    exact key _ _ hslots rfl hi

/-- A decision applied to several parts settles each, and no other slot. -/
theorem State.foldl_resolvePart_spec (commit forced : Bool) (gs : List Nat) (s : State) :
    (∀ g ∈ gs, ((gs.foldl (State.resolvePart commit forced) s).slot g).state = decidedState commit)
      ∧ (∀ g, g ∉ gs → (gs.foldl (State.resolvePart commit forced) s).slot g = s.slot g)
      ∧ (gs.foldl (State.resolvePart commit forced) s).ingress = s.ingress := by
  induction gs generalizing s with
  | nil => exact ⟨fun _ h => absurd h (List.not_mem_nil), fun _ _ => rfl, rfl⟩
  | cons a gs ih =>
    obtain ⟨hself, hother, hi⟩ := State.resolvePart_spec commit forced s a
    obtain ⟨ihself, ihother, ihi⟩ := ih (State.resolvePart commit forced s a)
    refine ⟨fun g hg => ?_, fun g hg => ?_, ihi.trans hi⟩
    · by_cases hgs : g ∈ gs
      · exact ihself g hgs
      · obtain rfl := (List.mem_cons.mp hg).resolve_right hgs
        rw [List.foldl_cons, ihother g hgs, hself]
    · obtain ⟨hne, hgs⟩ := not_or.mp (fun h => hg (List.mem_cons.mpr h))
      rw [List.foldl_cons, ihother g hgs, hother g hne]

/-- A decision that reaches a member is applied to the parts of its transaction; with no write in ingress nothing else follows
that moves a byte or a slot. -/
theorem State.resolveParts_settled (s before : State) (txn : Nat) (commit : Bool) (stamp : BitVec 16)
    (h : s.ingress.writes = []) {t : State}
    (ht : t = (((((s.resolveParts txn commit false).ackIfDone txn).cupboard before stamp).resumeGroupWrites).panicUpdate)) :
    t.mem = s.mem ∧ (∀ g ∈ s.partsOf txn, (t.slot g).state = decidedState commit)
      ∧ ∀ g, g ∉ s.partsOf txn → t.slot g = s.slot g := by
  obtain ⟨hself, hother, hi⟩ := State.foldl_resolvePart_spec commit false (s.partsOf txn) s
  obtain ⟨ds, tr, hack⟩ := (s.resolveParts txn commit false).ackIfDone_eq txn
  have hcup := ((s.resolveParts txn commit false).ackIfDone txn).cupboard_service before stamp
  have hnone : (((s.resolveParts txn commit false).ackIfDone txn).cupboard before stamp).ingress.writes = [] := by
    rw [hcup.ingress, hack]
    exact (congrArg Ingress.writes hi).trans h
  have hserv : SameButService ((s.resolveParts txn commit false).ackIfDone txn) t := by
    rw [ht]
    exact (hcup.trans (State.resumeGroupWrites_service hnone)).trans (State.panicUpdate_service _)
  have hslot : ∀ g, t.slot g = (s.resolveParts txn commit false).slot g := fun g => by
    rw [State.slot, hserv.groups, hack]
    rfl
  refine ⟨?_, fun g hg => ?_, fun g hg => ?_⟩
  · rw [hserv.mem, hack]
    exact (s.resolveParts_frame txn commit false).2.2.1
  · rw [hslot]
    exact hself g hg
  · rw [hslot]
    exact hother g hg

/-! ### Cells that a command leaves waiting -/

theorem addAnswer_mem {dest : Nat} {item : Nat × Bool × Bool} {cs ws : List Cell} (h : addAnswer dest item cs = some ws) :
    ∃ c ∈ ws, c.dest = some dest ∧ ∃ items, c.body = .answer items ∧ item ∈ items := by
  induction cs generalizing ws with
  | nil => cases h
  | cons c cs ih =>
    have later : (addAnswer dest item cs).map (c :: ·) = some ws →
        ∃ x ∈ ws, x.dest = some dest ∧ ∃ items, x.body = .answer items ∧ item ∈ items := fun hm => by
      obtain ⟨ws', hws, rfl⟩ := Option.map_eq_some_iff.mp hm
      obtain ⟨x, hx, hdest, hbody⟩ := ih hws
      exact ⟨x, List.mem_cons_of_mem _ hx, hdest, hbody⟩
    unfold addAnswer at h
    split at h
    · split at h
      · rename_i hroom
        obtain rfl := Option.some.inj h
        exact ⟨_, List.mem_cons_self .., hroom.1, _, rfl, by simp⟩
      · exact later h
    · exact later h

/-- An answer waits for its peer, in a cell of its own or in one that had room. -/
theorem State.sendAnswer_spec (s : State) (dest : Nat) (item : Nat × Bool × Bool) :
    ∃ tr, s.sendAnswer dest item = { s with trestle := tr }
      ∧ ∃ c ∈ tr.wait, c.dest = some dest ∧ ∃ items, c.body = .answer items ∧ item ∈ items := by
  unfold State.sendAnswer
  split
  · rename_i ws hws
    exact ⟨_, rfl, addAnswer_mem hws⟩
  · exact ⟨_, rfl, _, List.mem_append_right _ (List.mem_singleton_self _), rfl, _, rfl, by simp⟩

theorem addTxn_query_mem {dest txn : Nat} {cs ws : List Cell} (h : addTxn true dest txn cs = some ws) :
    ∃ c ∈ ws, c.dest = some dest ∧ ∃ txns, c.body = .query txns ∧ txn ∈ txns := by
  induction cs generalizing ws with
  | nil => cases h
  | cons c cs ih =>
    have later : (addTxn true dest txn cs).map (c :: ·) = some ws →
        ∃ x ∈ ws, x.dest = some dest ∧ ∃ txns, x.body = .query txns ∧ txn ∈ txns := fun hm => by
      obtain ⟨ws', hws, rfl⟩ := Option.map_eq_some_iff.mp hm
      obtain ⟨x, hx, hdest, hbody⟩ := ih hws
      exact ⟨x, List.mem_cons_of_mem _ hx, hdest, hbody⟩
    unfold addTxn at h
    split at h
    · contradiction
    · rename_i txns hbody hq
      split at h
      · rename_i hroom
        obtain rfl := Option.some.inj h
        by_cases hin : txns.contains txn = true
        · exact ⟨_, List.mem_cons_self .., by rw [if_pos hin, hroom.1], txns, by rw [if_pos hin, hbody], by simpa using hin⟩
        · exact ⟨_, List.mem_cons_self .., by rw [if_neg hin, hroom.1], _, by rw [if_neg hin], by simp⟩
      · exact later h
    · exact later h

/-- A query waits for its peer, in a cell of its own or in one that had room. -/
theorem State.sendTxn_query_spec (s : State) (dest txn : Nat) :
    ∃ tr, s.sendTxn true dest txn = { s with trestle := tr }
      ∧ ∃ c ∈ tr.wait, c.dest = some dest ∧ ∃ txns, c.body = .query txns ∧ txn ∈ txns := by
  unfold State.sendTxn
  split
  · rename_i ws hws
    exact ⟨_, rfl, addTxn_query_mem hws⟩
  · exact ⟨_, rfl, _, List.mem_append_right _ (List.mem_singleton_self _), rfl, [txn], rfl, by simp⟩

/-! ### Decisions, acknowledgements, queries and answers that are received -/

theorem decideCellReceived_parts (s : State) (source txn : Nat) (commit : Bool) (halive : s.ownAlive = true)
    (hsource : source < 1024) (hnone : s.ingress.writes = []) (hparts : s.partsOf txn ≠ []) :
    ∃ t, exec (.decideCellReceived source txn commit) s = .next t ∧ t.mem = s.mem
      ∧ (∀ g ∈ s.partsOf txn, (t.slot g).state = decidedState commit)
      ∧ (∀ g, g ∉ s.partsOf txn → t.slot g = s.slot g) := by
  have hparts' : s.fresh.partsOf txn ≠ [] := hparts
  refine ⟨_, ?_, s.fresh.resolveParts_settled s.fresh txn commit s.nowStamp hnone rfl⟩
  show execDecideCellReceived source txn commit s = _
  rw [execDecideCellReceived, if_pos ⟨halive, hsource⟩, State.takeDecide, if_pos hparts']
  rfl

theorem decideCellReceived_kept (s : State) (source txn : Nat) (commit : Bool) (halive : s.ownAlive = true)
    (hsource : source < 1024) (hparts : s.partsOf txn = []) (hpart : s.hasPart txn = false) :
    ∃ t, exec (.decideCellReceived source txn commit) s = .next t ∧ t.mem = s.mem ∧ t.groups.slots = s.groups.slots
      ∧ { txn := txn, commit := commit, beat := s.clock.beat } ∈ t.groups.cache := by
  obtain ⟨ds, tr, hack⟩ := (s.fresh.cacheDecision txn commit).ackIfDone_eq txn
  refine ⟨(s.fresh.cacheDecision txn commit).ackIfDone txn, ?_, by rw [hack]; rfl, by rw [hack]; rfl, ?_⟩
  · show execDecideCellReceived source txn commit s = _
    have hparts' : ¬ s.fresh.partsOf txn ≠ [] := not_not.mpr hparts
    have hpart' : ¬ s.fresh.hasPart txn = true := fun h => Bool.false_ne_true (hpart.symm.trans h)
    rw [execDecideCellReceived, if_pos ⟨halive, hsource⟩, State.takeDecide, if_neg hparts', if_neg hpart']
  · rw [hack]
    exact List.mem_append_right _ (List.mem_singleton_self _)

/-- An entry that may be freed is as it was, or gone. -/
theorem State.forget_find? (s : State) (i : Nat) :
    (s.forget i).groups.decisions.find? i = none
      ∨ (s.forget i).groups.decisions.find? i = s.groups.decisions.find? i := by
  unfold State.forget
  split
  · exact .inr rfl
  · split
    · exact .inl (Map.find?_del_self _ _)
    · exact .inr rfl

theorem ackCellReceived_spec (s : State) (source txn i k : Nat) (d : Decision) (halive : s.ownAlive = true)
    (hdec : s.decisionOf txn = some (i, d)) (hindex : rosterIndex d.roster source = some k) (hbit : d.acked / 2 ^ k % 2 = 0) :
    ∃ t, exec (.ackCellReceived source [txn]) s = .next t ∧ t.mem = s.mem ∧ t.groups.slots = s.groups.slots
      ∧ (t.groups.decisions.find? i = none ∨ t.groups.decisions.find? i = some { d with acked := d.acked + 2 ^ k }) := by
  obtain ⟨u, hu⟩ : ∃ u, u = s.fresh.setDecision i { d with acked := d.acked + 2 ^ k } := ⟨_, rfl⟩
  obtain ⟨ds, hforget⟩ := u.forget_eq i
  have hfind : u.groups.decisions.find? i = some { d with acked := d.acked + 2 ^ k } := by
    rw [hu]
    exact Map.find?_put_self _ _ _
  refine ⟨(u.forget i).cupboard s.fresh s.nowStamp, ?_, ?_, ?_, ?_⟩
  · have hack : s.fresh.acknowledge source txn = u.forget i := by
      have hdec' : s.fresh.decisionOf txn = some (i, d) := hdec
      simp only [State.acknowledge, hdec', hindex, hbit, zero_ne_one, if_false, hu]
    show execAckCellReceived source [txn] s = _
    rw [execAckCellReceived, if_pos ⟨halive, by simp, by simp⟩, State.takeAck, List.foldl_cons, List.foldl_nil, hack]
    rfl
  · show (u.forget i).mem = _
    rw [hforget, hu]
    rfl
  · show (u.forget i).groups.slots = _
    rw [hforget, hu]
    rfl
  · show (u.forget i).groups.decisions.find? i = none ∨ (u.forget i).groups.decisions.find? i = _
    exact (u.forget_find? i).imp_right (·.trans hfind)

theorem queryCellReceived_decided (s : State) (source txn i : Nat) (d : Decision) (halive : s.ownAlive = true)
    (hnone : s.ingress.writes = []) (hdec : s.decisionOf txn = some (i, d)) (hstate : 2 ≤ d.state) :
    ∃ t, exec (.queryCellReceived source [txn]) s = .next t ∧ t.mem = s.mem ∧ t.groups = s.groups
      ∧ ∃ c ∈ t.trestle.wait, c.dest = some source ∧ ∃ items, c.body = .answer items ∧ (txn, d.state == 2, false) ∈ items := by
  have hcup := s.fresh.cupboard_service s.fresh s.nowStamp
  obtain ⟨tr, hsend, hcell⟩ := (s.fresh.cupboard s.fresh s.nowStamp).sendAnswer_spec source (txn, d.state == 2, false)
  obtain ⟨u, hu⟩ : ∃ u, u = { s.fresh.cupboard s.fresh s.nowStamp with trestle := tr } := ⟨_, rfl⟩
  have hserv : SameButService u u.resumeGroupWrites.panicUpdate :=
    (State.resumeGroupWrites_service (by rw [hu]; exact hnone)).trans (State.panicUpdate_service _)
  refine ⟨u.resumeGroupWrites.panicUpdate, ?_, by rw [hserv.mem, hu]; rfl, by rw [hserv.groups, hu]; rfl,
    by rw [hserv.trestle, hu]; exact hcell⟩
  have hdec' : s.fresh.decisionOf txn = some (i, d) := hdec
  have hanswer : s.fresh.queryAnswer txn = (s.fresh, (txn, d.state == 2, false)) := by
    simp only [State.queryAnswer, hdec', if_neg (show ¬ d.state = 1 by omega)]
  show execQueryCellReceived source [txn] s = _
  rw [execQueryCellReceived, if_pos ⟨halive, by simp, by simp⟩, List.foldl_cons, List.foldl_nil, State.takeQuery, hanswer, hu,
    ← hsend]
  rfl

theorem answerCellReceived_parts (s : State) (source txn : Nat) (commit un : Bool) (halive : s.ownAlive = true)
    (hsource : source < 1024) (hnone : s.ingress.writes = []) (hparts : s.partsOf txn ≠ []) :
    ∃ t, exec (.answerCellReceived source [(txn, commit, un)]) s = .next t ∧ t.mem = s.mem
      ∧ (∀ g ∈ s.partsOf txn, (t.slot g).state = decidedState commit)
      ∧ (∀ g, g ∉ s.partsOf txn → t.slot g = s.slot g) := by
  obtain ⟨x, hx⟩ : ∃ x, x = if s.fresh.forcedOther txn commit then s.fresh.faultOpen Code.forcedConflict else s.fresh :=
    ⟨_, rfl⟩
  have hx' : SameButService s.fresh x := by
    rw [hx]
    split
    · exact (State.faultOpen_reports _ _ _).service
    · exact .refl _
  obtain ⟨y, hy⟩ : ∃ y, y = if un then x.unprepared else x := ⟨_, rfl⟩
  have hy' : SameButService s.fresh y := by
    rw [hy]
    split
    · exact (hx'.trans (State.addReg_service _ _ _ _)).trans (State.faultOpen_reports _ _ _).service
    · exact hx'
  have hpartsOf : ∀ u : State, SameButService s.fresh u → u.partsOf txn = s.partsOf txn := fun u hu => by
    rw [State.partsOf, hu.groups]
    rfl
  obtain ⟨hmem, hself, hother⟩ := y.resolveParts_settled s.fresh txn commit s.nowStamp
    (by rw [hy'.ingress]; exact hnone) rfl
  rw [hpartsOf y hy'] at hself hother
  refine ⟨_, ?_, hmem.trans hy'.mem, hself, fun g hg => (hother g hg).trans ?_⟩
  · have hne : ¬ x.partsOf txn = [] := by rwa [hpartsOf x hx']
    show execAnswerCellReceived source [(txn, commit, un)] s = _
    rw [execAnswerCellReceived, if_pos ⟨halive, hsource, by simp, by simp⟩, List.foldl_cons, List.foldl_nil, State.takeAnswer]
    dsimp only
    rw [← hx, if_neg hne, ← hy]
    rfl
  · rw [State.slot, hy'.groups]
    rfl

/-! ### Timers of joint groups -/

/-- What a QUERY that its timer sends changes: the slot's time, and the cells that wait. -/
theorem State.sendQuery_spec (s : State) (g txn : Nat) (hother : anchorOf txn ≠ s.member) :
    ∃ tr, (s.fresh.setSlot g { s.slot g with queryBeat := s.clock.beat }).sendQuery txn
        = { s.fresh.setSlot g { s.slot g with queryBeat := s.clock.beat } with trestle := tr }
      ∧ ∃ c ∈ tr.wait, c.dest = some (anchorOf txn) ∧ ∃ txns, c.body = .query txns ∧ txn ∈ txns := by
  have hother' : ¬ anchorOf txn = (s.fresh.setSlot g { s.slot g with queryBeat := s.clock.beat }).member := hother
  rw [State.sendQuery, if_neg hother']
  exact State.sendTxn_query_spec _ _ _

theorem prepareQueryTimer_spec (s : State) (g : Nat) (hstate : (s.slot g).state = .prepared) (hpart : (s.slot g).part = true)
    (hdue : s.reg 0x4423 0 ≤ s.clock.beat - (s.slot g).queryBeat) (halive : s.ownAlive = true)
    (hanchor : s.alive (anchorOf (s.slot g).txn) = true) (hother : anchorOf (s.slot g).txn ≠ s.member) :
    ∃ t, exec (.prepareQueryTimer g) s = .next t ∧ t.mem = s.mem
      ∧ t.groups = { s.groups with slots := s.groups.slots.put g { s.slot g with queryBeat := s.clock.beat } }
      ∧ ∃ c ∈ t.trestle.wait, c.dest = some (anchorOf (s.slot g).txn)
          ∧ ∃ txns, c.body = .query txns ∧ (s.slot g).txn ∈ txns := by
  obtain ⟨tr, hsend, hcell⟩ := s.sendQuery_spec g (s.slot g).txn hother
  refine ⟨{ s.fresh.setSlot g { s.slot g with queryBeat := s.clock.beat } with trestle := tr }, ?_, rfl, rfl, hcell⟩
  show execPrepareQueryTimer g s = _
  rw [execPrepareQueryTimer, if_pos ⟨hstate, hpart, hdue, halive, hanchor⟩, hsend]

theorem indoubtQuery_spec (s : State) (g : Nat) (hstate : (s.slot g).state = .inDoubt)
    (hdue : (s.slot g).queryBeat = 0 ∨ s.reg 0x4832 0 ≤ s.clock.beat - (s.slot g).queryBeat) (halive : s.ownAlive = true)
    (hanchor : s.alive (anchorOf (s.slot g).txn) = true) (hother : anchorOf (s.slot g).txn ≠ s.member) :
    ∃ t, exec (.indoubtQuery g) s = .next t ∧ t.mem = s.mem
      ∧ t.groups = { s.groups with slots := s.groups.slots.put g { s.slot g with queryBeat := s.clock.beat } }
      ∧ ∃ c ∈ t.trestle.wait, c.dest = some (anchorOf (s.slot g).txn)
          ∧ ∃ txns, c.body = .query txns ∧ (s.slot g).txn ∈ txns := by
  obtain ⟨tr, hsend, hcell⟩ := s.sendQuery_spec g (s.slot g).txn hother
  refine ⟨{ s.fresh.setSlot g { s.slot g with queryBeat := s.clock.beat } with trestle := tr }, ?_, rfl, rfl, hcell⟩
  show execIndoubtQuery g s = _
  rw [execIndoubtQuery, if_pos ⟨hstate, halive, hanchor, hdue⟩, hsend]

theorem decisionCacheExpire_spec (s : State) (txn : Nat) (c : CachedDecision) (hc : c ∈ s.groups.cache) (htxn : c.txn = txn)
    (hold : 1000000 ≤ s.clock.beat - c.beat) :
    exec (.decisionCacheExpire txn) s = .next { s with
      out := [], groups := { s.groups with cache := s.groups.cache.filter fun x => x.txn != txn } } := by
  have hany : (s.groups.cache.any fun c => c.txn == txn && decide (1000000 ≤ s.clock.beat - c.beat)) = true :=
    List.any_eq_true.mpr ⟨c, hc, by simp [htxn, hold]⟩
  show execDecisionCacheExpire txn s = _
  rw [execDecisionCacheExpire, if_pos hany]
  rfl

/-! ### DECIDE cells are sent again -/

theorem Map.sorted_cons {α : Type} {a : Nat × α} {m : Map α} (h : Map.sorted (a :: m) = true) :
    (∀ e ∈ m, a.1 < e.1) ∧ Map.sorted m = true := by
  induction m generalizing a with
  | nil => exact ⟨fun _ h => absurd h List.not_mem_nil, rfl⟩
  | cons b m ih =>
    simp only [Map.sorted, Bool.and_eq_true, decide_eq_true_eq] at h
    obtain ⟨hab, hm⟩ := h
    obtain ⟨hb, -⟩ := ih hm
    refine ⟨fun e he => ?_, hm⟩
    rcases List.mem_cons.mp he with rfl | he
    · exact hab
    · exact hab.trans (hb e he)

/-- A table with rising keys lists every entry that is in it. -/
theorem Map.find?_of_mem_sorted {α : Type} {m : Map α} (h : Map.sorted m = true) {e : Nat × α} (he : e ∈ m) :
    m.find? e.1 = some e.2 := by
  induction m with
  | nil => exact absurd he List.not_mem_nil
  | cons a m ih =>
    obtain ⟨hlt, hm⟩ := Map.sorted_cons h
    unfold Map.find?
    rcases List.mem_cons.mp he with rfl | he
    · rw [if_pos rfl]
    · rw [if_neg (hlt e he).ne]
      exact ih hm he

theorem Map.nodup_keys_of_sorted {α : Type} {m : Map α} (h : Map.sorted m = true) : (m.map (·.1)).Nodup := by
  induction m with
  | nil => exact List.nodup_nil
  | cons a m ih =>
    obtain ⟨hlt, hm⟩ := Map.sorted_cons h
    refine List.nodup_cons.mpr ⟨fun ha => ?_, ih hm⟩
    obtain ⟨e, he, hkey⟩ := List.mem_map.mp ha
    exact absurd hkey (hlt e he).ne'

/-- The cells that wait include one that carries an entry's decision to the members that it still has to reach. -/
def State.decideWaits (s : State) (d : Decision) (cells : List Cell) : Prop :=
  ∃ c ∈ cells, c.body = .decide (s.decideTargets d) d.txn (d.state == 2)

/-- DECIDE cells have been sent: only the decision table and the waiting cells differ, and every cell that waited waits. -/
def DecidesSent (s t : State) : Prop :=
  ∃ ds tr, t = { s with groups := { s.groups with decisions := ds }, trestle := tr } ∧ tr.roll = s.trestle.roll
    ∧ tr.rollWire = s.trestle.rollWire ∧ s.trestle.wait ⊆ tr.wait

theorem DecidesSent.refl (s : State) : DecidesSent s s := ⟨_, _, rfl, rfl, rfl, fun _ h => h⟩

theorem DecidesSent.trans {s t u : State} (h : DecidesSent s t) (k : DecidesSent t u) : DecidesSent s u := by
  obtain ⟨ds, tr, rfl, hroll, hwire, hwait⟩ := h
  obtain ⟨es, ur, rfl, kroll, kwire, kwait⟩ := k
  exact ⟨es, ur, rfl, kroll.trans hroll, kwire.trans hwire, fun _ hc => kwait (hwait hc)⟩

/-- Whom a decision has still to reach is the same as before. -/
theorem DecidesSent.decideTargets {s t : State} (h : DecidesSent s t) (d : Decision) :
    t.decideTargets d = s.decideTargets d := by
  obtain ⟨ds, tr, rfl, hroll, hwire, -⟩ := h
  simp only [State.decideTargets, State.alive, hroll, hwire]
  rfl

/-- A DECIDE cell that is sent moves its own entry only. -/
theorem State.sendDecide_spec (s : State) (i : Nat) :
    DecidesSent s (s.sendDecide i)
      ∧ (∀ k, k ≠ i → (s.sendDecide i).groups.decisions.find? k = s.groups.decisions.find? k)
      ∧ ∀ d, s.groups.decisions.find? i = some d → 2 ≤ d.state → s.decideTargets d ≠ [] →
          s.decideWaits d (s.sendDecide i).trestle.wait := by
  unfold State.sendDecide
  split
  · rename_i hfind
    exact ⟨.refl s, fun _ _ => rfl, fun d hd => by rw [hfind] at hd; cases hd⟩
  · rename_i d hfind
    split
    · rename_i hno
      refine ⟨.refl s, fun _ _ => rfl, fun d' hd hstate htargets => ?_⟩
      obtain rfl : d = d' := Option.some.inj (hfind.symm.trans hd)
      rcases hno with hno | hno
      · omega
      · exact absurd hno htargets
    · refine ⟨⟨_, _, rfl, rfl, rfl, fun _ h => List.mem_append_left _ h⟩, fun k hk => Map.find?_put_of_ne _ _ _ _ hk,
        fun d' hd _ _ => ?_⟩
      obtain rfl : d = d' := Option.some.inj (hfind.symm.trans hd)
      exact ⟨_, List.mem_append_right _ (List.mem_singleton_self _), rfl⟩

/-- Sent entry by entry, the DECIDE cell of every decided entry that has a member to reach waits at the end. -/
theorem State.foldl_sendDecide_spec (es : List (Nat × Decision)) (s : State)
    (hfind : ∀ e ∈ es, s.groups.decisions.find? e.1 = some e.2) (hnodup : (es.map (·.1)).Nodup) :
    DecidesSent s ((es.map (·.1)).foldl State.sendDecide s)
      ∧ ∀ e ∈ es, 2 ≤ e.2.state → s.decideTargets e.2 ≠ [] →
          s.decideWaits e.2 ((es.map (·.1)).foldl State.sendDecide s).trestle.wait := by
  induction es generalizing s with
  | nil => exact ⟨.refl s, fun _ h => absurd h List.not_mem_nil⟩
  | cons a es ih =>
    obtain ⟨hsent, hother, hself⟩ := s.sendDecide_spec a.1
    obtain ⟨ha, hes⟩ := List.nodup_cons.mp hnodup
    have hne : ∀ e ∈ es, e.1 ≠ a.1 := fun e he heq => ha (List.mem_map.mpr ⟨e, he, heq⟩)
    obtain ⟨ihsent, ihself⟩ := ih (s.sendDecide a.1)
      (fun e he => (hother e.1 (hne e he)).trans (hfind e (List.mem_cons_of_mem _ he))) hes
    refine ⟨hsent.trans ihsent, fun e he hstate htargets => ?_⟩
    rcases List.mem_cons.mp he with rfl | he
    · obtain ⟨c, hc, hbody⟩ := hself e.2 (hfind e (List.mem_cons_self ..)) hstate htargets
      obtain ⟨_, _, heq, -, -, hwait⟩ := ihsent
      refine ⟨c, ?_, hbody⟩
      rw [List.map_cons, List.foldl_cons, heq]
      exact hwait hc
    · have h := ihself e he hstate (by rwa [hsent.decideTargets])
      rwa [State.decideWaits, hsent.decideTargets] at h

theorem decideResend_spec (s : State) (halive : s.ownAlive = true) (hdue : s.reg 0x4422 0 ≤ s.clock.beat - s.groups.resendBeat)
    (hsorted : Map.sorted s.groups.decisions = true) :
    ∃ t, exec .decideResend s = .next t ∧ t.mem = s.mem ∧ t.groups.slots = s.groups.slots
      ∧ t.groups.resendBeat = s.clock.beat
      ∧ ∀ e ∈ s.groups.decisions, 2 ≤ e.2.state → s.decideTargets e.2 ≠ [] → s.decideWaits e.2 t.trestle.wait := by
  obtain ⟨u, hu⟩ : ∃ u, u = { s.fresh with
      groups := { s.fresh.groups with resendBeat := s.clock.beat, resendDue := false } } := ⟨_, rfl⟩
  obtain ⟨hsent, hself⟩ := State.foldl_sendDecide_spec s.groups.decisions u
    (fun e he => by rw [hu]; exact Map.find?_of_mem_sorted hsorted he) (Map.nodup_keys_of_sorted hsorted)
  have htargets : ∀ d, u.decideTargets d = s.decideTargets d := fun d => by rw [hu]; rfl
  refine ⟨((s.groups.decisions.map (·.1)).foldl State.sendDecide u).cupboard s.fresh s.nowStamp, ?_, ?_⟩
  · show execDecideResend s = _
    rw [execDecideResend, if_pos ⟨halive, .inr hdue⟩, hu]
    rfl
  · have hserv := ((s.groups.decisions.map (·.1)).foldl State.sendDecide u).cupboard_service s.fresh s.nowStamp
    rw [hserv.mem, hserv.groups, hserv.trestle]
    obtain ⟨ds, tr, heq, -⟩ := hsent
    refine ⟨by rw [heq, hu]; rfl, by rw [heq, hu]; rfl, by rw [heq, hu], fun e he hstate hne => ?_⟩
    have h := hself e he hstate (by rwa [htargets])
    rwa [State.decideWaits, htargets] at h

/-- Settles O35: each cell and each timer by what its command leaves of the slots, the decision table and the waiting cells. -/
theorem jointCellsAndTimers : Obligations.JointCellsAndTimers := by
  unfold Obligations.JointCellsAndTimers
  exact ⟨fun s source txn commit ha hs hn _ hp => decideCellReceived_parts s source txn commit ha hs hn hp,
    fun s source txn commit ha hs hp hh => decideCellReceived_kept s source txn commit ha hs hp hh,
    fun s source txn i k d ha hd _ hi hb => ackCellReceived_spec s source txn i k d ha hd hi hb,
    fun s source txn i d ha hn hd hst => queryCellReceived_decided s source txn i d ha hn hd hst,
    fun s source txn commit un ha hs hn _ hp => answerCellReceived_parts s source txn commit un ha hs hn hp,
    decideResend_spec, prepareQueryTimer_spec, indoubtQuery_spec, decisionCacheExpire_spec⟩

end Sys2Proof.Machine
end

section
/-! PROOFS. Addresses, and the bytes of a 64 B unit. -/
namespace Sys2Proof.Machine

/-! ### Addresses -/

@[simp] theorem unitOf_alignUnit (dpa : Nat) : unitOf (alignUnit dpa) = unitOf dpa := by
  unfold unitOf alignUnit
  omega

@[simp] theorem pageOf_alignUnit (dpa : Nat) : pageOf (alignUnit dpa) = pageOf dpa := by
  unfold pageOf alignUnit
  omega

@[simp] theorem leafOf_alignUnit (dpa : Nat) : leafOf (alignUnit dpa) = leafOf dpa := by
  unfold leafOf alignUnit
  omega

@[simp] theorem lineInPage_alignUnit (dpa : Nat) : lineInPage (alignUnit dpa) = lineInPage dpa := by
  unfold lineInPage alignUnit
  omega

theorem alignUnit_le (dpa : Nat) : alignUnit dpa ≤ dpa := Nat.div_mul_le_self dpa 64

theorem State.region_of_lt {s : State} {dpa : Nat} (h : dpa < s.layout.hostVisible) : s.region dpa = .memory := if_pos h

/-! ### The bytes of a 64 B unit -/

theorem Mem.byte_foldl_put (l : List Nat) (m : List Host.Cell) (a : Nat) (d : Data64) (be : BitVec 64) (x : Nat)
    (h : Mem.wf m = true) :
    Mem.byte (l.foldl (fun m i => if be.getLsbD i then Mem.put m (a + i) (d.extractLsb' (8 * i) 8) else m) m) x
      = if a ≤ x ∧ x - a ∈ l ∧ be.getLsbD (x - a) = true then d.extractLsb' (8 * (x - a)) 8 else Mem.byte m x := by
  induction l generalizing m with
  | nil => simp
  | cons i l ih =>
    rw [List.foldl_cons, ih _ (by split <;> simp [h])]
    by_cases hl : a ≤ x ∧ x - a ∈ l ∧ be.getLsbD (x - a) = true
    · rw [if_pos hl, if_pos ⟨hl.1, List.mem_cons_of_mem _ hl.2.1, hl.2.2⟩]
    · rw [if_neg hl]
      by_cases hi : x = a + i ∧ be.getLsbD i = true
      · obtain ⟨rfl, hbe⟩ := hi
        rw [if_pos hbe, Mem.byte_put _ _ _ _ h, if_pos rfl]
        simp [hbe]
      · have hne : ¬ (a ≤ x ∧ x - a ∈ i :: l ∧ be.getLsbD (x - a) = true) := by
          rintro ⟨hle, hmem, hbe⟩
          rcases List.mem_cons.mp hmem with heq | hmem
          · exact hi ⟨by omega, heq ▸ hbe⟩
          · exact hl ⟨hle, hmem, hbe⟩
        rw [if_neg hne]
        split
        · rename_i hbe
          rw [Mem.byte_put _ _ _ _ h, if_neg fun heq => hi ⟨heq, hbe⟩]
        · rfl

/-- The enabled bytes read as written, and every other byte as before. -/
theorem Mem.byte_write64 (m : List Host.Cell) (a : Nat) (d : Data64) (be : BitVec 64) (x : Nat) (h : Mem.wf m = true) :
    Mem.byte (Mem.write64 m a d be) x
      = if a ≤ x ∧ x < a + 64 ∧ be.getLsbD (x - a) = true then d.extractLsb' (8 * (x - a)) 8 else Mem.byte m x := by
  have hiff : (a ≤ x ∧ x - a ∈ List.range 64 ∧ be.getLsbD (x - a) = true)
      ↔ (a ≤ x ∧ x < a + 64 ∧ be.getLsbD (x - a) = true) := by
    rw [List.mem_range]
    constructor
    · rintro ⟨h1, h2, h3⟩
      exact ⟨h1, by omega, h3⟩
    · rintro ⟨h1, h2, h3⟩
      exact ⟨h1, by omega, h3⟩
  rw [Mem.write64, Mem.byte_foldl_put _ _ _ _ _ _ h, if_congr hiff rfl rfl]

theorem getLsbD_foldl_or {α : Type} (l : List α) (f : α → Data64) (d : Data64) (j : Nat) :
    (l.foldl (fun d i => d ||| f i) d).getLsbD j = (d.getLsbD j || l.any fun i => (f i).getLsbD j) := by
  induction l generalizing d with
  | nil => simp
  | cons i l ih => rw [List.foldl_cons, ih, List.any_cons, BitVec.getLsbD_or, Bool.or_assoc]

/-- Bit `j` of a unit is bit `j % 8` of its byte `j / 8`. -/
theorem Mem.getLsbD_read64 (m : List Host.Cell) (a j : Nat) (hj : j < 512) :
    (Mem.read64 m a).getLsbD j = (Mem.byte m (a + j / 8)).getLsbD (j % 8) := by
  rw [Mem.read64, getLsbD_foldl_or]
  simp only [BitVec.ofNat_eq_ofNat, BitVec.getLsbD_zero, Bool.false_or, BitVec.getLsbD_shiftLeft, BitVec.truncate_eq_setWidth,
    BitVec.getLsbD_setWidth]
  rw [Bool.eq_iff_iff, List.any_eq_true]
  constructor
  · rintro ⟨i, hi, hbit⟩
    simp only [hj, decide_true, Bool.true_and, Bool.and_eq_true, Bool.not_eq_true', decide_eq_false_iff_not] at hbit
    obtain ⟨hlo, -, hbit⟩ := hbit
    have hlt : j - 8 * i < 8 := by
      by_contra hge
      rw [BitVec.getLsbD_of_ge _ _ (by omega)] at hbit
      cases hbit
    rw [show j / 8 = i by omega, show j % 8 = j - 8 * i by omega]
    exact hbit
  · intro hbit
    refine ⟨j / 8, List.mem_range.mpr (by omega), ?_⟩
    rw [show j - 8 * (j / 8) = j % 8 by omega]
    simp [hj, hbit]
    omega

/-- A unit written whole reads as written. -/
theorem Mem.read64_write64_whole (m : List Host.Cell) (a : Nat) (d : Data64) (h : Mem.wf m = true) :
    Mem.read64 (Mem.write64 m a d (BitVec.allOnes 64)) a = d := by
  refine BitVec.eq_of_getLsbD_eq fun j hj => ?_
  have hone : (BitVec.allOnes 64).getLsbD (a + j / 8 - a) = true := by
    rw [BitVec.getLsbD_allOnes]
    exact decide_eq_true (by omega)
  rw [Mem.getLsbD_read64 _ _ _ hj, Mem.byte_write64 _ _ _ _ _ h, if_pos ⟨by omega, by omega, hone⟩,
    BitVec.getLsbD_extractLsb', show a + j / 8 - a = j / 8 by omega, show 8 * (j / 8) + j % 8 = j by omega]
  simp
  omega

end Sys2Proof.Machine
end

section
/-! PROOFS. The arrival of a host request, and HOST_READ. -/
namespace Sys2Proof.Machine

/-! ### The arrival of a request -/

theorem Map.mem_put {α : Type} {m : Map α} {q : Nat} {v : α} {e : Nat × α} (h : e ∈ Map.put m q v) :
    e = (q, v) ∨ e ∈ m := by
  induction m with
  | nil => exact .inl (List.mem_singleton.mp h)
  | cons a m ih =>
    unfold Map.put at h
    split at h
    · exact List.mem_cons.mp h
    · split at h
      · exact (List.mem_cons.mp h).imp_right (List.mem_cons_of_mem _)
      · rcases List.mem_cons.mp h with h | h
        · exact .inr (h ▸ List.mem_cons_self ..)
        · exact (ih h).imp_right (List.mem_cons_of_mem _)

theorem Map.mem_of_find? {α : Type} {m : Map α} {q : Nat} {v : α} (h : m.find? q = some v) : (q, v) ∈ m := by
  induction m with
  | nil => cases h
  | cons a m ih =>
    obtain ⟨k, w⟩ := a
    unfold Map.find? at h
    split at h
    · rename_i hk
      obtain rfl := Option.some.inj h
      exact hk ▸ List.mem_cons_self ..
    · exact List.mem_cons_of_mem _ (ih h)

/-- No Sanitize begins on any link between two states. -/
def NoNewSanitize (s t : State) : Prop := ∀ i, s.sanitizing i = false → t.sanitizing i = false

theorem NoNewSanitize.of_links {s t : State} (h : t.links = s.links) : NoNewSanitize s t := fun i hi => by
  rwa [State.sanitizing, h]

theorem NoNewSanitize.trans {s t u : State} (h : NoNewSanitize s t) (k : NoNewSanitize t u) : NoNewSanitize s u :=
  fun i hi => k i (h i hi)

/-- A link whose background operation is as it was. -/
theorem NoNewSanitize.setLink (s : State) (j : Nat) (l : Link) (h : l.background = (s.link j).background) :
    NoNewSanitize s (s.setLink j l) := by
  intro i hi
  refine List.any_eq_false.mpr fun e he => ?_
  rcases Map.mem_put he with rfl | he
  · dsimp only
    rw [h]
    unfold State.link Map.get
    cases hfind : s.links.find? j with
    | none => simp [Link.reset]
    | some l' => exact List.any_eq_false.mp hi _ (Map.mem_of_find? hfind)
  · exact List.any_eq_false.mp hi e he

theorem NoNewSanitize.foldl {α : Type} (g : State → α → State) (h : ∀ s a, NoNewSanitize s (g s a)) (l : List α)
    (s : State) : NoNewSanitize s (l.foldl g s) :=
  State.foldl_holds (NoNewSanitize s) g (fun t a ht => ht.trans (h t a)) l s (.of_links rfl)

theorem NoNewSanitize.pend (s : State) (i : Nat) (m : Map Pend) :
    NoNewSanitize s (s.setLink i { s.link i with pend := m }) := .setLink s i _ rfl

theorem NoNewSanitize.logs (s : State) (i : Nat) (m : Map (List ChestRec)) :
    NoNewSanitize s (s.setLink i { s.link i with logs := m }) := .setLink s i _ rfl

theorem NoNewSanitize.emit {s t : State} (h : NoNewSanitize s t) (o : Output) : NoNewSanitize s (t.emit o) :=
  h.trans (.of_links rfl)

theorem State.sendPend_noNewSanitize (s : State) (i v : Nat) : NoNewSanitize s (s.sendPend i v) := by
  unfold State.sendPend
  split
  · exact .of_links rfl
  · split
    · exact (NoNewSanitize.pend s i ((s.link i).pend.del v)).emit _
    · exact .of_links rfl

theorem State.signal_noNewSanitize (s : State) (i src : Nat) : NoNewSanitize s (s.signal i src) := by
  unfold State.signal
  dsimp only
  split
  · exact .of_links rfl
  · split
    · exact (NoNewSanitize.pend s i _).trans (State.sendPend_noNewSanitize _ _ _)
    · exact .pend s i _

theorem State.logOn_noNewSanitize (r : ChestRec) (s : State) (i : Nat) : NoNewSanitize s (s.logOn r i) := by
  unfold State.logOn
  dsimp only
  split
  · refine NoNewSanitize.emit ?_ _
    split
    · exact (NoNewSanitize.logs s i _).trans (State.signal_noNewSanitize _ _ _)
    · exact .logs s i _
  · exact .setLink s i { s.link i with deferred := (s.link i).deferred ++ [r] } rfl

theorem State.deliver_noNewSanitize (s : State) (r : ChestRec) (all : Bool) : NoNewSanitize s (s.deliver r all) := by
  have hlogs : ∀ c : Bool, NoNewSanitize s (if c then (s.recordLinks r).foldl (State.logOn r) s else s) := fun c => by
    split
    · exact .foldl _ (State.logOn_noNewSanitize r) _ s
    · exact .of_links rfl
  unfold State.deliver
  dsimp only
  split
  · exact (hlogs _).emit _
  · exact hlogs _

theorem State.record_noNewSanitize (s : State) (code : Nat) (lead : List Nat) (inj : Bool) :
    NoNewSanitize s (s.record code lead inj) := by
  have hdeliver : ∀ (c : Chest) (r : ChestRec), NoNewSanitize s ({ s with chest := c }.deliver r false) := fun c r =>
    (NoNewSanitize.of_links (t := { s with chest := c }) rfl).trans (State.deliver_noNewSanitize _ _ _)
  unfold State.record
  dsimp only
  split
  · exact .of_links rfl
  · split
    · split
      · exact hdeliver _ _
      · exact .of_links rfl
    · split
      · exact .of_links rfl
      · exact hdeliver _ _

theorem State.withdraw_noNewSanitize (s : State) (mask : BitVec 4) : NoNewSanitize s (s.withdraw mask) := by
  unfold State.withdraw
  split
  · exact .of_links rfl
  · exact (NoNewSanitize.of_links (t := { s with ctl := { s.ctl with consents := s.ctl.consents &&& ~~~mask } }) rfl).trans
      (State.record_noNewSanitize _ _ _ _)

theorem State.fire_noNewSanitize (s : State) (src : Nat) (on : Option Nat) (h : s.ctl.mode ≠ .drowse) :
    NoNewSanitize s (s.fire src on) := by
  have hreg : NoNewSanitize s (s.setReg 0x1113 0 (2 ^ src)) := .of_links rfl
  unfold State.fire
  dsimp only
  split
  · exact hreg
  · split
    · rename_i hm
      exact absurd hm h
    · split
      · exact hreg
      · exact hreg.trans (State.withdraw_noNewSanitize _ _)
    · exact hreg

theorem State.memArrives_noNewSanitize (s : State) (i : Nat) (h : s.ctl.mode ≠ .drowse) :
    NoNewSanitize s (s.memArrives i) := by
  unfold State.memArrives
  dsimp only
  split
  · exact (State.fire_noNewSanitize s _ _ h).trans (State.withdraw_noNewSanitize _ _)
  · exact State.fire_noNewSanitize s _ _ h

theorem State.shut_eq_false_iff (s : State) (i : Nat) :
    s.shut i = false ↔ s.ctl.access = true ∧ s.ctl.mode ≠ .drowse ∧ s.sanitizing i = false := by
  simp [State.shut, and_assoc]

/-- Outside DROWSE reports leave an entry that is not theirs. -/
theorem SameButReports.reg_eq {s t : State} (h : SameButReports s t) (hm : s.ctl.mode ≠ .drowse) {idx sub : Nat}
    (hk : key idx sub ∉ reportEntries) : t.reg idx sub = s.reg idx sub := by
  obtain ⟨h1, -, -, hregs, -⟩ := h
  have hfind := hregs _ hk fun hd => absurd hd hm
  have hdefault : defaultValue t 0 idx sub = defaultValue s 0 idx sub := by
    rw [h1]
    rfl
  rw [State.reg, State.reg, hfind, hdefault]

/-- A request that arrives while its link's requests are served is no more than reported, and they are served still. -/
theorem State.memArrives_served (s : State) (i : Nat) (h : s.shut i = false) :
    SameButReports s.fresh (s.fresh.memArrives i) ∧ (s.fresh.memArrives i).shut i = false
      ∧ s.ctl.mode ≠ .drowse := by
  obtain ⟨haccess, hmode, hsan⟩ := (s.shut_eq_false_iff i).mp h
  have hrep := s.fresh.memArrives_reports i
  refine ⟨hrep, (State.shut_eq_false_iff _ _).mpr ⟨?_, ?_, s.fresh.memArrives_noNewSanitize i hmode i hsan⟩, hmode⟩
  · obtain ⟨-, hctl, -⟩ := hrep
    rw [hctl]
    exact haccess
  · rw [hrep.mode]
    exact hmode

/-! ### A read -/

/-- When a read of host-visible memory waits for nothing. -/
theorem State.readWait_eq_none_iff {s : State} {i dpa : Nat} (hmem : dpa < s.layout.hostVisible) :
    s.readWait i dpa = none ↔ s.shut i = false ∧ s.awaitsRestore (leafOf dpa) = false ∧ s.awaits (unitOf dpa) = false
      ∧ s.unrebuilt dpa = false := by
  rw [State.readWait, State.region_of_lt hmem]
  dsimp only
  by_cases h1 : s.shut i = true
  · simp [h1]
  · by_cases h2 : s.awaitsRestore (leafOf dpa) = true
    · simp [h1, h2]
    · by_cases h3 : s.awaits (unitOf dpa) = true
      · simp [h1, h2, h3]
      · by_cases h4 : s.unrebuilt dpa = true
        · simp [h1, h2, h3, h4]
        · simp [h1, h2, h3, h4]

/-- A read that waits for nothing returns what the unit holds, and moves no byte, leaf or group. -/
theorem hostRead_spec (s : State) (link : Fin 4) (dpa : Nat) (stamp : BitVec 16) (hreach : s.reaches link.val dpa = true)
    (hacc : s.accepts link.val = true) (hwait : s.readWait link.val dpa = none) (hmem : dpa < s.layout.hostVisible) :
    ∃ t l, exec (.hostRead link dpa stamp) s = .next t ∧ t.mem = s.mem ∧ t.leaves = s.leaves ∧ t.groups = s.groups
      ∧ Output.readData link.val dpa (s.readUnit dpa).1 (s.readUnit dpa).2 l ∈ t.out := by
  obtain ⟨hshut, hrest, hawait, hrebuilt⟩ := (State.readWait_eq_none_iff hmem).mp hwait
  obtain ⟨hrep, hshut', hmode⟩ := s.memArrives_served link.val hshut
  have hreg : (s.fresh.memArrives link.val).reg 0x3450 0 = s.reg 0x3450 0 := hrep.reg_eq hmode (by decide)
  obtain ⟨u, hu⟩ : ∃ u, u = s.fresh.memArrives link.val := ⟨_, rfl⟩
  rw [← hu] at hrep hshut' hreg
  have hserv := hrep.service
  have hunit : u.readUnit dpa = s.readUnit dpa := by
    rw [hserv.1]
    rfl
  have hwait' : u.readWait link.val dpa = none := by
    refine (State.readWait_eq_none_iff (by rw [hserv.1]; exact hmem)).mpr ⟨hshut', ?_, ?_, ?_⟩
    · rw [hserv.1]
      exact hrest
    · rw [hserv.1]
      exact hawait
    · rw [State.unrebuilt, State.toRebuild, hreg, hserv.1]
      exact hrebuilt
  refine ⟨u.serveRead link.val dpa stamp, u.devLoad link.val, ?_, ?_, ?_, ?_, ?_⟩
  · show execHostRead link dpa stamp s = _
    have hacc' : ¬ s.fresh.accepts link.val = false := by simp [show s.fresh.accepts link.val = true from hacc]
    rw [execHostRead, if_pos hreach, State.hostRead, if_neg hacc', ← hu, State.read, hwait',
      State.region_of_lt (by rw [hserv.1]; exact hmem)]
  · exact hserv.mem
  · exact hserv.leaves
  · exact hserv.groups
  · rw [← hunit]
    exact List.mem_append_right _ (List.mem_singleton_self _)

end Sys2Proof.Machine
end

section
/-! PROOFS. What a write stores, and how far a write goes that is alone in ingress. -/
namespace Sys2Proof.Machine

/-! ### What a write stores -/

theorem State.openAwaiting_kept (s : State) (w : MemWrite) :
    ∃ n m, s.openAwaiting w = { s with free := n, mem := m } := by
  unfold State.openAwaiting
  split <;> exact ⟨_, _, rfl⟩

/-- A write of the whole 64 B leaves no byte to a free value. -/
theorem State.openAwaiting_whole (s : State) {w : MemWrite} (h : w.be = BitVec.allOnes 64) : s.openAwaiting w = s := by
  simp [State.openAwaiting, MemWriteFull, h]

/-- A copy in progress of a leaf that is written stops, and the leaf is DIRTY (R149). -/
def State.dirtyCopied (s : State) (leaf : Nat) : State :=
  if s.leaf leaf = .copying then (s.setLeaf leaf .dirty .none).uncredit leaf else s

/-- The mark of a unit follows its write (R62). -/
def State.setMark (s : State) (e : IngressWrite) : State :=
  if e.w.poison then s.markPoison (unitOf (alignUnit e.w.dpa)) e.source
  else if MemWriteFull e.w then s.unmarkPoison (unitOf (alignUnit e.w.dpa)) else s

/-- The enabled bytes of a write stand in DRAM, and its unit awaits no search (R140). -/
def State.putBytes (s : State) (e : IngressWrite) : State :=
  { s with mem := Mem.write64 s.mem (alignUnit e.w.dpa) e.w.data e.w.be }.unawait (unitOf (alignUnit e.w.dpa))

/-- What a write changes of data: leaf state, mark and bytes. -/
def State.storeData (s : State) (e : IngressWrite) : State :=
  (((s.openAwaiting e.w).dirtyCopied (leafOf (alignUnit e.w.dpa))).setMark e).putBytes e

/-- The bursts of a write, with those of its mirror copy (R80, R90). -/
def State.queueStore (s : State) (e : IngressWrite) : State :=
  let a := alignUnit e.w.dpa
  let b := s.unitBurst a e.w.link.val 2 e.w.stamp true (some e.id)
  if s.mirrorCopied.contains (leafOf a) then
    (s.queueAll [b, { s.mirrorBurst a e.w.stamp (some e.id) .none with mate := 1 }]).mirrorUnit (unitOf a)
  else s.queueAll [b]

theorem State.storeWrite_eq (s : State) (e : IngressWrite) :
    s.storeWrite e = ((((s.storeData e).touchHeat (leafOf (alignUnit e.w.dpa))).setReg 0x2400 3 0).reserveMirror
      (leafOf (alignUnit e.w.dpa))).queueStore e := rfl

theorem State.reserveMirror_eq (s : State) (leaf : Nat) : ∃ mc, s.reserveMirror leaf = { s with mirrorCopied := mc } := by
  unfold State.reserveMirror
  split <;> exact ⟨_, rfl⟩

theorem State.queueStore_eq (s : State) (e : IngressWrite) :
    ∃ mu sched, s.queueStore e = { s with mirrorUnits := mu, sched := sched } := by
  unfold State.queueStore
  dsimp only
  split <;> exact ⟨_, _, rfl⟩

/-- Beside its data a write moves heat, one entry, mirror lines and bursts. -/
theorem State.storeWrite_data (s : State) (e : IngressWrite) :
    ∃ heat trickle regs mc mu sched, s.storeWrite e = { s.storeData e with
      heat := heat, trickle := trickle, regs := regs, mirrorCopied := mc, mirrorUnits := mu, sched := sched } := by
  obtain ⟨x, hx⟩ : ∃ x, x = s.storeData e := ⟨_, rfl⟩
  obtain ⟨mc, hmc⟩ := ((x.touchHeat (leafOf (alignUnit e.w.dpa))).setReg 0x2400 3 0).reserveMirror_eq
    (leafOf (alignUnit e.w.dpa))
  obtain ⟨mu, sched, hq⟩ := State.queueStore_eq (((x.touchHeat (leafOf (alignUnit e.w.dpa))).setReg 0x2400 3 0).reserveMirror
    (leafOf (alignUnit e.w.dpa))) e
  rw [State.storeWrite_eq, ← hx, hq, hmc]
  exact ⟨_, _, _, _, _, _, rfl⟩

theorem State.dirtyCopied_kept (s : State) (leaf : Nat) : ∃ lv delta nand, s.dirtyCopied leaf = { s with
    leaves := lv, delta := delta, nand := nand } := by
  unfold State.dirtyCopied
  split <;> exact ⟨_, _, _, rfl⟩

theorem State.setMark_kept (s : State) (e : IngressWrite) :
    ∃ p o, s.setMark e = { s with poison := p, poisonOverflow := o } := by
  unfold State.setMark
  split
  · exact ⟨_, _, rfl⟩
  · split <;> exact ⟨_, _, rfl⟩

theorem LeafTable.get_set_self (t : LeafTable) (leaf : Nat) (st : LeafState) : (t.set leaf st).get leaf = st := by
  unfold LeafTable.set LeafTable.get
  split
  · rename_i h
    simp [Map.get, h]
  · simp

/-- A leaf that is not LOST is not LOST once its copy has stopped. -/
theorem State.dirtyCopied_leaf_ne_lost {s : State} {leaf : Nat} (h : s.leaf leaf ≠ .lost) :
    (s.dirtyCopied leaf).leaf leaf ≠ .lost := by
  unfold State.dirtyCopied
  split
  · show (s.leaves.set leaf .dirty).get leaf ≠ .lost
    rw [LeafTable.get_set_self]
    decide
  · exact h

/-- The bytes of a write, over the state in which it is carried out. -/
theorem State.storeWrite_mem (s : State) (e : IngressWrite) :
    (s.storeWrite e).mem = Mem.write64 (s.openAwaiting e.w).mem (alignUnit e.w.dpa) e.w.data e.w.be := by
  obtain ⟨_, _, _, _, _, _, h⟩ := s.storeWrite_data e
  obtain ⟨_, _, _, hcopy⟩ := (s.openAwaiting e.w).dirtyCopied_kept (leafOf (alignUnit e.w.dpa))
  obtain ⟨_, _, hmark⟩ := ((s.openAwaiting e.w).dirtyCopied (leafOf (alignUnit e.w.dpa))).setMark_kept e
  rw [h]
  show Mem.write64 (((s.openAwaiting e.w).dirtyCopied (leafOf (alignUnit e.w.dpa))).setMark e).mem _ _ _ = _
  rw [hmark, hcopy]

/-- A write moves no group, no request in ingress and no address. -/
theorem State.storeWrite_kept (s : State) (e : IngressWrite) : (s.storeWrite e).groups = s.groups
    ∧ (s.storeWrite e).ingress = s.ingress ∧ (s.storeWrite e).layout = s.layout := by
  obtain ⟨_, _, _, _, _, _, h⟩ := s.storeWrite_data e
  obtain ⟨_, _, hopen⟩ := s.openAwaiting_kept e.w
  obtain ⟨_, _, _, hcopy⟩ := (s.openAwaiting e.w).dirtyCopied_kept (leafOf (alignUnit e.w.dpa))
  obtain ⟨_, _, hmark⟩ := ((s.openAwaiting e.w).dirtyCopied (leafOf (alignUnit e.w.dpa))).setMark_kept e
  have hkept : (s.storeData e).groups = s.groups ∧ (s.storeData e).ingress = s.ingress
      ∧ (s.storeData e).layout = s.layout := by
    unfold State.storeData
    rw [hmark, hcopy, hopen]
    exact ⟨rfl, rfl, rfl⟩
  rw [h]
  exact hkept

/-- A leaf that is not LOST is not LOST after a write. -/
theorem State.storeWrite_leaf_ne_lost {s : State} {e : IngressWrite} (h : s.leaf (leafOf e.w.dpa) ≠ .lost) :
    (s.storeWrite e).leaf (leafOf e.w.dpa) ≠ .lost := by
  obtain ⟨_, _, _, _, _, _, hstore⟩ := s.storeWrite_data e
  obtain ⟨_, _, hopen⟩ := s.openAwaiting_kept e.w
  obtain ⟨_, _, hmark⟩ := ((s.openAwaiting e.w).dirtyCopied (leafOf (alignUnit e.w.dpa))).setMark_kept e
  have hleaf : (s.openAwaiting e.w).leaf (leafOf e.w.dpa) ≠ .lost := by
    rw [hopen]
    exact h
  rw [hstore]
  show (((s.openAwaiting e.w).dirtyCopied (leafOf (alignUnit e.w.dpa))).setMark e).leaf _ ≠ _
  rw [hmark, leafOf_alignUnit]
  exact State.dirtyCopied_leaf_ne_lost hleaf

/-- An ordinary write of the whole 64 B leaves its unit without a mark. -/
theorem State.storeWrite_unmarked {s : State} {e : IngressWrite} (hwhole : e.w.be = BitVec.allOnes 64)
    (hgood : e.w.poison = false) : (s.storeWrite e).poison.find? (unitOf e.w.dpa) = none := by
  obtain ⟨_, _, _, _, _, _, hstore⟩ := s.storeWrite_data e
  have hfull : MemWriteFull e.w = true := decide_eq_true hwhole
  rw [hstore]
  show (((s.openAwaiting e.w).dirtyCopied (leafOf (alignUnit e.w.dpa))).setMark e).poison.find? _ = none
  rw [State.setMark, if_neg (by simp [hgood]), if_pos hfull, unitOf_alignUnit]
  exact Map.find?_del_self _ _

/-! ### A write that is carried out -/

theorem State.completeWrite_service (s : State) (e : IngressWrite) : SameButService s (s.completeWrite e) := by
  unfold State.completeWrite
  dsimp only
  split
  · exact .refl s
  · split
    · split
      · exact (SameButReports.emit _ _).service
      · exact .refl s
    · exact (State.mail_reports _ _ _ _ _).service
    · exact (State.mail_reports _ _ _ _ _).service

/-- A write that is carried out leaves what it stored. -/
theorem State.landWrite_data (s : State) (e : IngressWrite) :
    (s.landWrite e).mem = (s.storeWrite e).mem ∧ (s.landWrite e).poison = (s.storeWrite e).poison
      ∧ (s.landWrite e).leaves = (s.storeWrite e).leaves ∧ (s.landWrite e).groups = s.groups
      ∧ (s.landWrite e).layout = s.layout := by
  have hdone := (s.storeWrite e).completeWrite_service e
  obtain ⟨hgroups, -, hlayout⟩ := s.storeWrite_kept e
  refine ⟨hdone.mem, ?_, hdone.leaves, hdone.groups.trans hgroups, ?_⟩
  · show ((s.storeWrite e).completeWrite e).poison = _
    rw [hdone.1]
  · rw [← hlayout]
    show ((s.storeWrite e).completeWrite e).layout = _
    rw [hdone.1]

/-- A write that was alone in ingress is there as one that drains. -/
theorem State.landWrite_drains {s : State} {e : IngressWrite} (h : s.ingress.writes = [e]) :
    ∀ x ∈ (s.landWrite e).ingress.writes, x.wait = .draining := by
  have hdone := (s.storeWrite e).completeWrite_service e
  have hwrites : ((s.storeWrite e).completeWrite e).ingress.writes = [e] := by
    rw [hdone.ingress, (s.storeWrite_kept e).2.1, h]
  intro x hx
  obtain ⟨y, hy, rfl⟩ := List.mem_map.mp hx
  rw [hwrites] at hy
  obtain rfl := List.mem_singleton.mp hy
  rw [if_pos rfl]

/-- Outside every claim a write is carried out, with no more than a report before it. -/
theorem State.plainWrite_eq (s : State) (e : IngressWrite) :
    ∃ x, SameButService s x ∧ s.plainWrite e = x.landWrite e := by
  unfold State.plainWrite
  dsimp only
  split
  · split
    · exact ⟨_, (State.addReg_service s _ _ _).trans (State.note_reports _ _ _).service, rfl⟩
    · exact ⟨s, .refl s, rfl⟩
  · exact ⟨s, .refl s, rfl⟩

/-- Without a window nothing is reported. -/
theorem State.plainWrite_of_no_window {s : State} {e : IngressWrite} (h : s.windowOf (alignUnit e.w.dpa) = none) :
    s.plainWrite e = s.landWrite e := by
  simp only [State.plainWrite, h]

theorem State.joinWrite_of_unclaimed {s : State} {e : IngressWrite} (h : s.groups.claims.find? (pageOf e.w.dpa) = none) :
    s.joinWrite e = s.plainWrite e := by
  simp only [State.joinWrite, State.joinWriteWith, pageOf_alignUnit, h]

theorem State.mirrorNew_eq (s : State) (leaf : Nat) :
    ∃ mc mw, s.mirrorNew leaf = { s with mirrorCopied := mc, mirrorWhole := mw } := by
  obtain ⟨mc, hmc⟩ := s.reserveMirror_eq leaf
  have hnew : ∃ mw, s.mirrorNew leaf = { s.reserveMirror leaf with mirrorWhole := mw } := by
    unfold State.mirrorNew
    dsimp only
    split <;> split <;> exact ⟨_, rfl⟩
  obtain ⟨mw, hmw⟩ := hnew
  rw [hmw, hmc]
  exact ⟨_, _, rfl⟩

/-- An admitted first write makes its leaf DIRTY, and moves no group and no request in ingress; of DRAM it clears a LOST leaf
only. -/
theorem State.makeDirty_eq (s : State) (leaf : Nat) :
    ∃ p o m d mc mw, s.makeDirty leaf = { s with
        poison := p, poisonOverflow := o, mem := m, leaves := s.leaves.set leaf .dirty, delta := d, mirrorCopied := mc,
        mirrorWhole := mw }
      ∧ (Mem.wf s.mem = true → Mem.wf m = true) ∧ (s.leaf leaf ≠ .lost → m = s.mem) := by
  obtain ⟨mc, mw, hnew⟩ := ((s.validate leaf).setLeaf leaf .dirty .before).mirrorNew_eq leaf
  have hv : ∃ p o m, s.validate leaf = { s with poison := p, poisonOverflow := o, mem := m }
      ∧ (Mem.wf s.mem = true → Mem.wf m = true) ∧ (s.leaf leaf ≠ .lost → m = s.mem) := by
    unfold State.validate
    split
    · rename_i hlost
      exact ⟨_, _, _, rfl, Mem.wf_clear _ _ _, fun h => absurd hlost h⟩
    · exact ⟨_, _, _, rfl, id, fun _ => rfl⟩
  obtain ⟨p, o, m, hv, hwf, hm⟩ := hv
  rw [State.makeDirty, hnew, hv]
  exact ⟨_, _, _, _, _, _, rfl, hwf, hm⟩

/-! ### How far a write goes that is alone in ingress -/

/-- A write that has nothing before it in ingress, and that neither host access, a restore nor a rollback holds up. -/
structure State.Alone (s : State) (e : IngressWrite) : Prop where
  writes : s.ingress.writes = [e]
  waits : e.wait ≠ .draining
  served : s.shut e.w.link.val = false
  visible : e.w.dpa < s.layout.hostVisible
  restored : s.awaitsRestore (leafOf e.w.dpa) = false
  settled : s.rolling e.w.dpa = false

/-- The first write of such a CLEAN or LOST leaf is held or makes the leaf DIRTY; any other joins its group at once. -/
theorem State.Alone.progress {s : State} {e : IngressWrite} (h : s.Alone e) (hdisc : s.discarder e.w.dpa = none) :
    State.progress false s e.id =
      if s.leaf (leafOf e.w.dpa) = .clean ∨ s.leaf (leafOf e.w.dpa) = .lost then
        (if s.firstWriteCause (leafOf e.w.dpa) ≠ 0 then s.holdWrite e
         else ((s.makeDirty (leafOf e.w.dpa)).joinWrite e).cupboard s e.w.stamp)
      else (s.joinWrite e).cupboard s e.w.stamp := by
  obtain ⟨hwrites, hwaits, hserved, hvisible, hrestored, hsettled⟩ := h
  have hfind : s.ingressWrite e.id = some e := by simp [State.ingressWrite, hwrites]
  have hregion : s.region (alignUnit e.w.dpa) = .memory := State.region_of_lt ((alignUnit_le _).trans_lt hvisible)
  have hbehind : s.behind e = none := by simp [State.behind, hwrites]
  have hroll : s.rolling (alignUnit e.w.dpa) = false := by
    rw [← hsettled]
    simp only [State.rolling, pageOf_alignUnit]
  have hdisc' : s.discarder (alignUnit e.w.dpa) = none := by
    rw [← hdisc]
    simp only [State.discarder, pageOf_alignUnit]
  simp only [State.progress, hfind, if_neg hwaits, hserved, hregion, hbehind, leafOf_alignUnit, hrestored, hroll, hdisc',
    Bool.false_eq_true, false_and, if_false]
  cases hleaf : s.leaf (leafOf e.w.dpa) <;> simp

/-- Outside every claim nothing discards or rolls back. -/
theorem State.discarder_of_unclaimed {s : State} {dpa : Nat} (h : s.groups.claims.find? (pageOf dpa) = none) :
    s.discarder dpa = none := by
  simp only [State.discarder, h]

end Sys2Proof.Machine
end

section
/-! PROOFS. HOST_WRITE with an empty ingress. -/
namespace Sys2Proof.Machine

/-! ### HOST_WRITE with an empty ingress -/

/-- What follows a write that has entered: links are served, holds and panic are judged anew. -/
theorem State.acceptWrite_service {s : State} (h : s.ingress.writes = []) (w : MemWrite) (src : PoisonSource) :
    SameButService (State.progress false (s.enqueue w src) s.ingress.nextId) (s.acceptWrite w src) := by
  have hhold : ¬ s.holding = true := by simp [State.holding, h]
  unfold State.acceptWrite
  dsimp only
  rw [if_neg hhold]
  refine SameButService.trans ?_
    (((State.panicUpdate_service _).trans (State.holdEdges_service _ _)).trans (State.loads_service _))
  cases State.ingressWrite (State.progress false (s.enqueue w src) s.ingress.nextId) s.ingress.nextId with
  | none => exact .refl _
  | some e =>
    by_cases hw : (e.wait != .draining) = true
    · simp only [hw, if_true]
      exact (SameButReports.emit _ _).service
    · simp only [hw]
      exact .refl _

/-- The entry of a host's write in an empty ingress. -/
def State.hostEntry (s : State) (w : MemWrite) : IngressWrite :=
  { id := s.ingress.nextId, w := w, source := .external, wait := .closed, since := s.clock.beat, reply := true }

/-- The state in which a host's write that has entered goes as far as it can. -/
def State.entered (s : State) (w : MemWrite) : State := (s.fresh.memArrives w.link.val).enqueue w .external

/-- A host's write that enters an empty ingress goes as far as it can from there; what follows moves no data. -/
theorem State.writeEnters.exec {s : State} {w : MemWrite} (h : s.writeEnters w) :
    ∃ t, exec (.hostWrite w) s = .next t
      ∧ SameButService (State.progress false (s.entered w) (s.hostEntry w).id) t := by
  obtain ⟨hreach, hacc, hshut, hwrites, -⟩ := h
  obtain ⟨hrep, -⟩ := s.memArrives_served w.link.val hshut
  have hingress : (s.fresh.memArrives w.link.val).ingress = s.ingress := hrep.service.ingress
  have hserv := (show (s.fresh.memArrives w.link.val).ingress.writes = [] by rw [hingress]; exact hwrites) |>
    State.acceptWrite_service |> (· w .external)
  rw [hingress] at hserv
  refine ⟨_, ?_, hserv⟩
  have hacc' : ¬ s.fresh.accepts w.link.val = false := by simp [show s.fresh.accepts w.link.val = true from hacc]
  show execHostWrite w s = _
  rw [execHostWrite, if_pos hreach, State.hostWrite, if_neg hacc']

/-- Between its arrival and its entry nothing changes but ingress and reports. -/
theorem State.entered_service {s : State} {w : MemWrite} (h : s.shut w.link.val = false) :
    SameButService { s.fresh with ingress := (s.entered w).ingress } (s.entered w) := by
  obtain ⟨hrep, -⟩ := s.memArrives_served w.link.val h
  obtain ⟨h1, os, hos⟩ := hrep.service
  exact ⟨by unfold State.entered; rw [h1]; rfl, os, hos⟩

theorem State.entered_alone {s : State} {w : MemWrite} (h : s.writeEnters w) : (s.entered w).Alone (s.hostEntry w) := by
  obtain ⟨-, -, hshut, hwrites, hvisible, hrestored, hsettled⟩ := h
  obtain ⟨hrep, hshut', -⟩ := s.memArrives_served w.link.val hshut
  have hserv := State.entered_service hshut
  have hkept := hrep.service.1
  refine ⟨?_, nofun, hshut', ?_, ?_, ?_⟩
  · unfold State.entered
    rw [hkept]
    show s.ingress.writes ++ [_] = [_]
    rw [hwrites]
    rfl
  · rw [hserv.1]
    exact hvisible
  · rw [hserv.1]
    exact hrestored
  · rw [hserv.1]
    exact hsettled

/-! ### The conditions of admission -/

theorem State.windowHas_eq {s u : State} (h : ∀ idx sub, key idx sub ∉ reportEntries → u.reg idx sub = s.reg idx sub)
    {n : Nat} (hn : n < 64) (dpa : Nat) : u.windowHas n dpa = s.windowHas n dpa := by
  have hwin : ∀ sub, sub < 256 → u.reg (0x2500 + n) sub = s.reg (0x2500 + n) sub := fun sub hsub => by
    refine h _ _ ?_
    simp only [reportEntries, key, List.mem_cons, List.not_mem_nil, or_false, not_or]
    omega
  rw [State.windowHas, State.windowHas, hwin 1 (by omega), hwin 2 (by omega), hwin 3 (by omega)]

theorem State.attrOf_eq {s u : State} (h : ∀ idx sub, key idx sub ∉ reportEntries → u.reg idx sub = s.reg idx sub)
    (dpa : Nat) : u.attrOf dpa = s.attrOf dpa := by
  have hwin : u.windowOf dpa = s.windowOf dpa :=
    List.find?_congr fun n hn => State.windowHas_eq h (List.mem_range.mp hn) dpa
  rw [State.attrOf, State.attrOf, hwin, h 0x2421 0 (by decide), h 0x2422 0 (by decide)]
  cases hs : s.windowOf dpa with
  | none => rfl
  | some n =>
    have hn : n < 64 := List.mem_range.mp (List.mem_of_find?_eq_some hs)
    refine h _ _ ?_
    simp only [reportEntries, key, List.mem_cons, List.not_mem_nil, or_false, not_or]
    omega

/-- The conditions of admission read no entry that a report writes (R163). -/
theorem State.firstWriteCause_eq {s u : State} (h : ∀ idx sub, key idx sub ∉ reportEntries → u.reg idx sub = s.reg idx sub)
    (hu : u = { s with
      out := u.out, free := u.free, ctl := u.ctl, regs := u.regs, links := u.links, faults := u.faults,
      chest := u.chest, sched := u.sched, ingress := u.ingress }) (leaf : Nat) :
    u.firstWriteCause leaf = s.firstWriteCause leaf := by
  have hbudget : u.budget = s.budget := h 0x4010 0 (by decide)
  have hdirty : u.nDirty = s.nDirty := by rw [hu]; rfl
  have hcharged : u.charged = s.charged := by rw [hu]; rfl
  have hneed : u.needRows = s.needRows := by rw [hu]; rfl
  have hrows : u.rowsPerSegment = s.rowsPerSegment := h 0x5002 3 (by decide)
  have hluns : u.nandLuns = s.nandLuns := by
    rw [State.nandLuns, State.nandLuns, h 0x5002 1 (by decide), h 0x5002 2 (by decide)]
  have hsegs : u.freeSegmentsOn = s.freeSegmentsOn := by rw [hu]; rfl
  have hnand : u.nand = s.nand := by rw [hu]
  have hdelta : u.delta = s.delta := by rw [hu]
  have hfree : u.freeRows = s.freeRows := by
    rw [State.freeRows, State.freeRows, State.openRows, State.openRows, State.segmentsFree, State.segmentsFree, hrows,
      hluns, hsegs, hnand]
  have hfits : u.mirrorFits [leaf] = s.mirrorFits [leaf] := by
    have hmirror : u.mirrorAt = s.mirrorAt := funext fun dpa => by
      rw [State.mirrorAt, State.mirrorAt, State.attrOf_eq h]
    have hspace : u.mirrorFree = s.mirrorFree := by rw [hu]; rfl
    have hcopied : u.mirrorCopied = s.mirrorCopied := by rw [hu]
    have hlayout : u.layout = s.layout := by rw [hu]
    rw [State.mirrorFits, State.mirrorFits, hmirror, hspace, hcopied, hlayout]
  rw [State.firstWriteCause, State.firstWriteCause, State.holdCause, State.holdCause, hbudget, hcharged, hfits, hfree, hneed,
    hdirty, hnand, hdelta]

theorem State.entered_firstWriteCause {s : State} {w : MemWrite} (h : s.shut w.link.val = false) (leaf : Nat) :
    (s.entered w).firstWriteCause leaf = s.firstWriteCause leaf := by
  obtain ⟨hrep, -, hmode⟩ := s.memArrives_served w.link.val h
  have hreg : ∀ idx sub, key idx sub ∉ reportEntries → (s.entered w).reg idx sub = s.reg idx sub := fun idx sub hk =>
    hrep.reg_eq hmode hk
  refine (State.firstWriteCause_eq (u := s.entered w) (s := s) hreg ?_ leaf)
  unfold State.entered
  rw [hrep.1]
  rfl

end Sys2Proof.Machine
end

section
/-! PROOFS. A read after a write (R20). -/
namespace Sys2Proof.Machine

/-! ### A read after a whole write -/

/-- The leaf of a write as the write finds it when it is carried out: DIRTY where it was CLEAN or LOST (R147). -/
def State.readied (s : State) (leaf : Nat) : State :=
  if s.leaf leaf = .clean ∨ s.leaf leaf = .lost then s.makeDirty leaf else s

/-- A write that is admitted and alone in ingress joins its group at once. -/
theorem State.Alone.progress_of_ready {s : State} {e : IngressWrite} (h : s.Alone e) (hdisc : s.discarder e.w.dpa = none)
    (hcause : s.leaf (leafOf e.w.dpa) = .clean ∨ s.leaf (leafOf e.w.dpa) = .lost → s.firstWriteCause (leafOf e.w.dpa) = 0) :
    State.progress false s e.id = ((s.readied (leafOf e.w.dpa)).joinWrite e).cupboard s e.w.stamp := by
  rw [h.progress hdisc, State.readied]
  by_cases hfirst : s.leaf (leafOf e.w.dpa) = .clean ∨ s.leaf (leafOf e.w.dpa) = .lost
  · rw [if_pos hfirst, if_pos hfirst, if_neg (not_not.mpr (hcause hfirst))]
  · rw [if_neg hfirst, if_neg hfirst]

/-- A readied leaf is valid; groups, ingress and addresses stay, and memory stays in canonical form. -/
theorem State.readied_kept (s : State) (leaf : Nat) : (s.readied leaf).leaf leaf ≠ .lost
    ∧ (s.readied leaf).groups = s.groups ∧ (s.readied leaf).ingress = s.ingress ∧ (s.readied leaf).layout = s.layout
    ∧ (Mem.wf s.mem = true → Mem.wf (s.readied leaf).mem = true) := by
  unfold State.readied
  split
  · obtain ⟨_, _, _, _, _, _, hdirty, hwf, -⟩ := s.makeDirty_eq leaf
    rw [hdirty]
    refine ⟨?_, rfl, rfl, rfl, hwf⟩
    show (s.leaves.set leaf .dirty).get leaf ≠ .lost
    rw [LeafTable.get_set_self]
    decide
  · rename_i hfirst
    exact ⟨fun hlost => hfirst (.inr hlost), rfl, rfl, rfl, id⟩

/-- The unit of a whole and good write to an unclaimed page holds what was written, and no write waits. -/
structure State.Holds (t : State) (w : MemWrite) : Prop where
  bytes : Mem.read64 t.mem (alignUnit w.dpa) = w.data
  unmarked : t.poison.find? (unitOf w.dpa) = none
  valid : t.leaf (leafOf w.dpa) ≠ .lost
  unclaimed : t.groups.claims.find? (pageOf w.dpa) = none
  drained : ∀ x ∈ t.ingress.writes, x.wait = .draining
  visible : w.dpa < t.layout.hostVisible

theorem State.Holds.service {s t : State} {w : MemWrite} (h : s.Holds w) (k : SameButService s t) : t.Holds w := by
  obtain ⟨hbytes, hmark, hvalid, hclaim, hdrain, hvis⟩ := h
  rw [k.1]
  exact ⟨hbytes, hmark, hvalid, hclaim, hdrain, hvis⟩

theorem State.Holds.readUnit {t : State} {w : MemWrite} (h : t.Holds w) : t.readUnit w.dpa = (w.data, false) := by
  have hfence : t.fenced (alignUnit w.dpa) = false := by simp [State.fenced, h.unclaimed]
  have hnone : (t.ingress.writes.filter fun e => e.wait != .draining && alignUnit e.w.dpa == alignUnit w.dpa) = [] :=
    List.filter_eq_nil_iff.mpr fun e he => by simp [h.drained e he]
  simp [State.readUnit, hnone, h.bytes, h.unmarked, h.valid, hfence]

/-- A whole and good write that is carried out alone in ingress is what its unit holds. -/
theorem State.landWrite_holds {s : State} {e : IngressWrite} (hwrites : s.ingress.writes = [e]) (hwf : Mem.wf s.mem = true)
    (hvalid : s.leaf (leafOf e.w.dpa) ≠ .lost) (hun : s.groups.claims.find? (pageOf e.w.dpa) = none)
    (hwhole : e.w.be = BitVec.allOnes 64) (hgood : e.w.poison = false) (hvis : e.w.dpa < s.layout.hostVisible) :
    (s.landWrite e).Holds e.w := by
  obtain ⟨hmem, hpoison, hleaves, hgroups, hlayout⟩ := s.landWrite_data e
  refine ⟨?_, ?_, ?_, ?_, State.landWrite_drains hwrites, by rwa [hlayout]⟩
  · rw [hmem, State.storeWrite_mem, State.openAwaiting_whole s hwhole, hwhole, Mem.read64_write64_whole _ _ _ hwf]
  · rw [hpoison]
    exact State.storeWrite_unmarked hwhole hgood
  · rw [State.leaf, hleaves]
    exact State.storeWrite_leaf_ne_lost hvalid
  · rw [hgroups]
    exact hun

/-- The same after all that follows the write of an admitted request, alone in ingress. -/
theorem State.Alone.progress_holds {s : State} {e : IngressWrite} (h : s.Alone e) (hwf : Mem.wf s.mem = true)
    (hun : s.groups.claims.find? (pageOf e.w.dpa) = none) (hwhole : e.w.be = BitVec.allOnes 64) (hgood : e.w.poison = false)
    (hcause : s.leaf (leafOf e.w.dpa) = .clean ∨ s.leaf (leafOf e.w.dpa) = .lost → s.firstWriteCause (leafOf e.w.dpa) = 0) :
    (State.progress false s e.id).Holds e.w := by
  obtain ⟨hvalid, hgroups, hingress, hlayout, hwf'⟩ := s.readied_kept (leafOf e.w.dpa)
  have hun' : (s.readied (leafOf e.w.dpa)).groups.claims.find? (pageOf e.w.dpa) = none := by rwa [hgroups]
  obtain ⟨x, hx, hplain⟩ := (s.readied (leafOf e.w.dpa)).plainWrite_eq e
  have hland : (x.landWrite e).Holds e.w := by
    refine State.landWrite_holds ?_ ?_ ?_ ?_ hwhole hgood ?_
    · rw [hx.ingress, hingress, h.writes]
    · rw [hx.mem]
      exact hwf' hwf
    · rw [State.leaf, hx.leaves]
      exact hvalid
    · rwa [hx.groups]
    · rw [hx.1]
      show _ < (s.readied (leafOf e.w.dpa)).layout.hostVisible
      rw [hlayout]
      exact h.visible
  rw [h.progress_of_ready (State.discarder_of_unclaimed hun) hcause, State.joinWrite_of_unclaimed hun', hplain]
  exact hland.service (State.cupboard_service _ _ _)

/-- After a whole and good write that waits for nothing its unit holds what was written. -/
theorem hostWrite_holds {s t : State} {w : MemWrite} (h : s.writeEnters w) (hwf : Mem.wf s.mem = true)
    (hun : s.groups.claims.find? (pageOf w.dpa) = none) (hwhole : w.be = BitVec.allOnes 64) (hgood : w.poison = false)
    (hcause : s.leaf (leafOf w.dpa) = .clean ∨ s.leaf (leafOf w.dpa) = .lost → s.firstWriteCause (leafOf w.dpa) = 0)
    (hexec : exec (.hostWrite w) s = .next t) : t.Holds w := by
  obtain ⟨t', hexec', hserv⟩ := h.exec
  obtain rfl : t' = t := Host.Outcome.next.inj (hexec'.symm.trans hexec)
  have halone := State.entered_alone h
  obtain ⟨-, -, hshut, -⟩ := h
  have hentered := State.entered_service hshut
  refine (halone.progress_holds ?_ ?_ hwhole hgood ?_).service hserv
  · rw [hentered.mem]
    exact hwf
  · rw [hentered.groups]
    exact hun
  · show ((s.entered w).leaf (leafOf w.dpa) = _ ∨ (s.entered w).leaf (leafOf w.dpa) = _) →
      (s.entered w).firstWriteCause (leafOf w.dpa) = 0
    rw [State.entered_firstWriteCause hshut, State.leaf, hentered.leaves]
    exact hcause

/-- Settles O11: a read returns what its unit holds, and after a whole and good write that waited for nothing that is the
data written. -/
theorem hostReadReturnsTheLatest : Obligations.HostReadReturnsTheLatest := by
  unfold Obligations.HostReadReturnsTheLatest
  refine ⟨hostRead_spec, fun s t w link stamp henter hwf hun hwhole hgood hcause hexec hreach hacc hwait => ?_⟩
  have hholds := hostWrite_holds henter hwf hun hwhole hgood hcause hexec
  obtain ⟨u, l, hread, -, -, -, hout⟩ := hostRead_spec t link w.dpa stamp hreach hacc hwait hholds.visible
  rw [hholds.readUnit] at hout
  exact ⟨u, l, hread, hout⟩

end Sys2Proof.Machine
end

section
/-! PROOFS. A partial write to a unit that awaits its search does not leave the bytes it does not enable (R140, log entry
174): they come from a free value. This refutes the statements that say they stay. -/
namespace Sys2Proof.Machine

/-! ### The bytes that a partial write leaves to a free value -/

/-- The bytes that an awaiting unit holds where a write does not enable them. -/
def State.unitDrawn (s : State) : Data64 := BitVec.ofNat 512 (Config.free s.free)

/-- A write is partial at a byte of its unit, and the unit awaits its search. -/
structure State.LeavesAwaiting (s : State) (w : MemWrite) (i : Nat) : Prop where
  awaits : s.awaits (unitOf w.dpa) = true
  inUnit : i < 64
  disabled : w.be.getLsbD i = false

theorem State.LeavesAwaiting.openAwaiting_mem {s : State} {w : MemWrite} {i : Nat} (h : s.LeavesAwaiting w i) :
    (s.openAwaiting w).mem = Mem.write64 s.mem (alignUnit w.dpa) s.unitDrawn (BitVec.allOnes 64) := by
  obtain ⟨hawait, hi, hoff⟩ := h
  have hpart : MemWriteFull w = false := by
    refine decide_eq_false fun hall => ?_
    rw [hall, BitVec.getLsbD_allOnes, decide_eq_true hi] at hoff
    exact Bool.noConfusion hoff
  rw [State.openAwaiting, if_pos ⟨hawait, hpart⟩, State.unitDrawn]

/-- Such a byte is the free value's once the write has been carried out. -/
theorem State.LeavesAwaiting.landWrite_byte {s : State} {e : IngressWrite} {i : Nat} (h : s.LeavesAwaiting e.w i)
    (hwf : Mem.wf s.mem = true) :
    Mem.byte (s.landWrite e).mem (alignUnit e.w.dpa + i) = s.unitDrawn.extractLsb' (8 * i) 8 := by
  obtain ⟨hland, -⟩ := s.landWrite_data e
  have hmem := h.openAwaiting_mem
  obtain ⟨-, hi, hoff⟩ := h
  have hone : (BitVec.allOnes 64).getLsbD i = true := by
    rw [BitVec.getLsbD_allOnes]
    exact decide_eq_true hi
  rw [hland, State.storeWrite_mem, hmem, Mem.byte_write64 _ _ _ _ _ (Mem.wf_write64 _ _ _ _ hwf),
    if_neg (by simp [hoff]), Mem.byte_write64 _ _ _ _ _ hwf, if_pos ⟨by omega, by omega, by simpa using hone⟩]
  simp

theorem State.LeavesAwaiting.of_dram {s t : State} {w : MemWrite} {i : Nat} (h : s.LeavesAwaiting w i)
    (hd : t.dram = s.dram) : t.LeavesAwaiting w i := by
  obtain ⟨hawait, hi, hoff⟩ := h
  exact ⟨by rwa [State.awaits, hd], hi, hoff⟩

/-- What makes a leaf ready draws no value and finds no unit. -/
theorem State.readied_search (s : State) (leaf : Nat) :
    (s.readied leaf).unitDrawn = s.unitDrawn ∧ (s.readied leaf).dram = s.dram := by
  unfold State.readied
  split
  · obtain ⟨_, _, _, _, _, _, hdirty, -⟩ := s.makeDirty_eq leaf
    rw [hdirty]
    exact ⟨rfl, rfl⟩
  · exact ⟨rfl, rfl⟩

/-- The same for a write that is admitted, alone in ingress and not journalled. -/
theorem State.Alone.progress_awaiting_byte {s : State} {e : IngressWrite} {i : Nat} (h : s.Alone e)
    (hleft : s.LeavesAwaiting e.w i) (hwf : Mem.wf s.mem = true) (hdisc : s.discarder e.w.dpa = none)
    (hcause : s.leaf (leafOf e.w.dpa) = .clean ∨ s.leaf (leafOf e.w.dpa) = .lost → s.firstWriteCause (leafOf e.w.dpa) = 0)
    (hjoin : (s.readied (leafOf e.w.dpa)).joinWrite e = (s.readied (leafOf e.w.dpa)).landWrite e) :
    Mem.byte (State.progress false s e.id).mem (alignUnit e.w.dpa + i) = s.unitDrawn.extractLsb' (8 * i) 8 := by
  obtain ⟨-, -, -, -, hwf'⟩ := s.readied_kept (leafOf e.w.dpa)
  obtain ⟨hdrawn, hdram⟩ := s.readied_search (leafOf e.w.dpa)
  rw [h.progress_of_ready hdisc hcause, (State.cupboard_service _ _ _).mem, hjoin,
    (hleft.of_dram hdram).landWrite_byte (hwf' hwf), hdrawn]

theorem State.writeEnters.shut {s : State} {w : MemWrite} (h : s.writeEnters w) : s.shut w.link.val = false := by
  obtain ⟨-, -, hshut, -⟩ := h
  exact hshut

theorem State.unitDrawn_of_free {s t : State} (h : t.free = s.free) : t.unitDrawn = s.unitDrawn := by
  rw [State.unitDrawn, State.unitDrawn, h]

/-- A HOST_WRITE that waits for nothing and is not journalled leaves such a byte to the free value. -/
theorem hostWrite_awaiting_byte {s t : State} {w : MemWrite} {i : Nat} (h : s.writeEnters w) (hleft : s.LeavesAwaiting w i)
    (hwf : Mem.wf s.mem = true) (hfree : (s.entered w).free = s.free) (hdisc : s.discarder w.dpa = none)
    (hleaf : ¬ (s.leaf (leafOf w.dpa) = .clean ∨ s.leaf (leafOf w.dpa) = .lost))
    (hjoin : (s.entered w).joinWrite (s.hostEntry w) = (s.entered w).landWrite (s.hostEntry w))
    (hexec : exec (.hostWrite w) s = .next t) :
    Mem.byte t.mem (alignUnit w.dpa + i) = s.unitDrawn.extractLsb' (8 * i) 8 := by
  obtain ⟨t', hexec', hserv⟩ := h.exec
  obtain rfl : t' = t := Host.Outcome.next.inj (hexec'.symm.trans hexec)
  have halone := State.entered_alone h
  have hentered := State.entered_service h.shut
  have hold : ¬ ((s.entered w).leaf (leafOf w.dpa) = .clean ∨ (s.entered w).leaf (leafOf w.dpa) = .lost) := by
    rw [State.leaf, hentered.leaves]
    exact hleaf
  have hready : (s.entered w).readied (leafOf w.dpa) = s.entered w := if_neg hold
  have hbyte := halone.progress_awaiting_byte (i := i) (hleft.of_dram (by rw [hentered.1]; rfl))
    (by rw [hentered.mem]; exact hwf) (by rw [State.discarder, hentered.1]; exact hdisc) (fun hfirst => absurd hfirst hold)
    (by rw [show leafOf (s.hostEntry w).w.dpa = leafOf w.dpa from rfl, hready]; exact hjoin)
  rw [hserv.mem, ← State.unitDrawn_of_free hfree]
  exact hbyte

/-! ### A state with a unit that awaits its search -/

/-- A write of byte 1 of unit 0. -/
def secondByteWrite : MemWrite := { link := 0, dpa := 0, data := 0, be := 2, poison := false, stamp := 0 }

/-- ONLINE with link H0 up, room for a first write, and a unit 0 that awaits its search; byte 0 of DRAM holds `b`. -/
def awaitingUnit (leaf : LeafState) (claims : Map Claim) (b : Byte) : State :=
  { State.reset with
    ctl := { Control.reset with mode := .online, access := true, recovery := false, dramHeld := true },
    layout := { Layout.reset with channelMiB := 16384 },
    links := [(0, { Link.reset with
      state := .l0, decoders := [(0, { base := 0, size := 1073741824, ways := 1, granularity := 256 })] })],
    regs := [(key 0x4010 0, 68719476736), (key 0x5002 1, 4), (key 0x5002 2, 2), (key 0x5002 3, 1024)],
    nand := { Nand.reset with unitsPerLun := 512 },
    dram := { Dram.reset with awaiting := [(0, [0])] },
    groups := { Groups.reset with claims := claims },
    leaves := { LeafTable.reset with base := leaf },
    mem := [(0, b)] }

/-- The first byte of the first free value. -/
def drawnByte : Byte := (BitVec.ofNat 512 (Config.free 0)).extractLsb' 0 8

/-- A byte that is not the free value's cannot stand where that value stands; one of two bytes is not. -/
theorem drawnByte_not_both (h : ∀ b ∈ [(1 : Byte), 2], drawnByte = b) : False :=
  absurd ((h 1 (by decide)).symm.trans (h 2 (by decide))) (by decide)

/-- Where the write is said to store its enabled bytes and no other, byte 0 stays, and yet is the free value's. -/
theorem drawnByte_eq_of_storedBy {w : MemWrite} {b : Byte} {m m' : List Host.Cell} (hbyte : Mem.byte m' 0 = drawnByte)
    (hstored : StoredBy w m m') (hoff : w.be.getLsbD 0 = false) (hunit : alignUnit w.dpa = 0) (hm : Mem.byte m 0 = b) :
    drawnByte = b := by
  rw [← hbyte, hstored 0, hunit, if_neg fun hon => Bool.noConfusion (hoff.symm.trans hon.2.2), hm]

theorem awaitingUnit_leavesAwaiting (leaf : LeafState) (claims : Map Claim) (b : Byte) :
    (awaitingUnit leaf claims b).LeavesAwaiting secondByteWrite 0 := ⟨by rfl, by decide, by decide⟩

/-! ### O7: an unclaimed page -/

/-- The state with its leaf DIRTY. -/
def awaitingDirty (b : Byte) : State := awaitingUnit .dirty [] b

theorem awaitingDirty_writeEnters : ∀ b ∈ [(1 : Byte), 2], (awaitingDirty b).writeEnters secondByteWrite
    ∧ Mem.wf (awaitingDirty b).mem = true ∧ Mem.byte (awaitingDirty b).mem 0 = b
    ∧ ((awaitingDirty b).entered secondByteWrite).free = 0
    ∧ ((awaitingDirty b).entered secondByteWrite).windowOf (alignUnit secondByteWrite.dpa) = none
    ∧ ¬ ((awaitingDirty b).leaf (leafOf secondByteWrite.dpa) = .clean
      ∨ (awaitingDirty b).leaf (leafOf secondByteWrite.dpa) = .lost) := by
  unfold State.writeEnters
  decide +kernel

/-- Refutes O7: the unit awaits its search, and a byte that the write does not enable comes from a free value. -/
theorem not_hostWriteStores : ¬ Obligations.HostWriteStores := by
  unfold Obligations.HostWriteStores
  rintro ⟨hstores, -⟩
  refine drawnByte_not_both fun b hb => ?_
  obtain ⟨henter, hwf, hmem, hfree, hwindow, hold⟩ := awaitingDirty_writeEnters b hb
  obtain ⟨t, hexec, hstored, -⟩ := hstores _ _ henter hwf rfl fun hfirst => absurd hfirst hold
  have hgroups := (State.entered_service henter.shut).groups
  have hbyte := hostWrite_awaiting_byte henter (awaitingUnit_leavesAwaiting _ _ b) hwf hfree rfl hold
    ((State.joinWrite_of_unclaimed (by rw [hgroups]; rfl)).trans (State.plainWrite_of_no_window hwindow)) hexec
  exact drawnByte_eq_of_storedBy hbyte hstored rfl rfl hmem

/-! ### O9: a claimed page -/

/-- A write to a line that its group's journal covers is carried out at once (R187). -/
theorem State.joinWrite_of_covered {s : State} {e : IngressWrite} {c : Claim}
    (hclaim : s.groups.claims.find? (pageOf e.w.dpa) = some c) (hdoubt : (s.slot c.group).state ≠ .inDoubt)
    (hroom : (s.slot c.group).jfull = false) (hline : c.lines.getLsbD (lineInPage e.w.dpa) = true) :
    s.joinWrite e = s.landWrite e := by
  simp only [State.joinWrite, State.joinWriteWith, pageOf_alignUnit, lineInPage_alignUnit, hclaim, hdoubt, hroom, hline]
  simp

/-- A page whose line 0 is covered by group 3. -/
def coveredLine : Claim := { group := 3, lines := 1 }

/-- The state with its leaf PINNED and that page claimed. -/
def awaitingCovered (b : Byte) : State := awaitingUnit .pinned [(0, coveredLine)] b

theorem awaitingCovered_writeEnters : ∀ b ∈ [(1 : Byte), 2], (awaitingCovered b).writeEnters secondByteWrite
    ∧ Mem.wf (awaitingCovered b).mem = true ∧ Mem.byte (awaitingCovered b).mem 0 = b
    ∧ ((awaitingCovered b).entered secondByteWrite).free = 0
    ∧ ¬ ((awaitingCovered b).leaf (leafOf secondByteWrite.dpa) = .clean
      ∨ (awaitingCovered b).leaf (leafOf secondByteWrite.dpa) = .lost) := by
  unfold State.writeEnters
  decide +kernel

/-- Refutes O9: the further write to a covered line finds its unit awaiting its search, and a byte that it does not enable
comes from a free value. -/
theorem not_claimedLineIsJournalledFirst : ¬ Obligations.ClaimedLineIsJournalledFirst := by
  unfold Obligations.ClaimedLineIsJournalledFirst
  rintro ⟨-, hfurther, -⟩
  refine drawnByte_not_both fun b hb => ?_
  obtain ⟨henter, hwf, hmem, hfree, hold⟩ := awaitingCovered_writeEnters b hb
  have hclaim : (awaitingCovered b).groups.claims.find? (pageOf secondByteWrite.dpa)
      = some coveredLine := rfl
  have hdoubt : ((awaitingCovered b).slot coveredLine.group).state ≠ .inDoubt := nofun
  have hroom : ((awaitingCovered b).slot coveredLine.group).jfull = false := rfl
  have hline : coveredLine.lines.getLsbD (lineInPage secondByteWrite.dpa) = true := rfl
  obtain ⟨t, hexec, hstored, -⟩ := hfurther _ _ coveredLine henter hwf hclaim rfl hdoubt hroom hline
  have hgroups : ((awaitingCovered b).entered secondByteWrite).groups
      = (awaitingCovered b).groups := (State.entered_service henter.shut).groups
  have hjoin := State.joinWrite_of_covered (s := (awaitingCovered b).entered secondByteWrite)
    (e := (awaitingCovered b).hostEntry secondByteWrite) (c := coveredLine)
    (by rw [hgroups]; exact hclaim) (by rw [State.slot, hgroups]; exact hdoubt) (by rw [State.slot, hgroups]; exact hroom) hline
  have hbyte := hostWrite_awaiting_byte henter (awaitingUnit_leavesAwaiting _ _ b) hwf hfree rfl hold hjoin hexec
  exact drawnByte_eq_of_storedBy hbyte hstored rfl rfl hmem

/-! ### O10: a write that was held -/

theorem State.endHolds_service (s before : State) : SameButService s (s.endHolds before) := by
  unfold State.endHolds
  dsimp only
  split
  · exact State.holdEdges_service _ _
  · exact (SameButService.silent (t := s.maxReg 0x4018 2 (s.heldNs before)) rfl).trans (State.holdEdges_service _ _)

/-- A held write with the stamp of its release. -/
def IngressWrite.restamped (e : IngressWrite) (stamp : BitVec 16) : IngressWrite :=
  { e with w := { e.w with stamp := stamp } }

/-- A held write, alone in ingress, that may be admitted goes as far as it can. -/
theorem heldWriteRelease_of_single {s : State} {e : IngressWrite} (stamp : BitVec 16) (hwrites : s.ingress.writes = [e])
    (hwait : e.wait = .admission) (hcause : s.firstWriteCause (leafOf e.w.dpa) = 0) :
    (s.fresh.restamp stamp).ingress.writes = [e.restamped stamp] ∧ ∃ t, exec (.heldWriteRelease stamp) s = .next t
      ∧ SameButService (State.progress false (s.fresh.restamp stamp) (e.restamped stamp).id) t := by
  have hstamped : (s.fresh.restamp stamp).ingress.writes = [e.restamped stamp] := by
    have hcause' : s.fresh.firstWriteCause (leafOf e.w.dpa) = 0 := hcause
    simp only [State.restamp]
    rw [show s.fresh.ingress.writes = [e] from hwrites, List.map_singleton, if_pos ⟨hwait, hcause'⟩]
    rfl
  have hwaiting : (s.fresh.restamp stamp).waiting .admission = [e.id] := by
    simp [State.waiting, hstamped, IngressWrite.restamped, hwait]
  refine ⟨hstamped, _, ?_, (((State.panicUpdate_service _).trans (State.endHolds_service _ s.fresh)).trans
    (State.loads_service _))⟩
  have hheld : (s.ingress.writes.any fun e => e.wait == .admission && s.firstWriteCause (leafOf e.w.dpa) == 0) = true := by
    simp [hwrites, hwait, hcause]
  show execHeldWriteRelease stamp s = _
  rw [execHeldWriteRelease, if_pos hheld, State.releaseHeld, State.resume, hwaiting]
  rfl

/-- The write, held for admission. -/
def heldWrite : IngressWrite :=
  { id := 0, w := secondByteWrite, source := .external, wait := .admission, since := 0, reply := true }

/-- The state with that write alone in ingress, its leaf CLEAN. -/
def awaitingHeld (b : Byte) : State :=
  { awaitingUnit .clean [] b with ingress := { Ingress.reset with writes := [heldWrite], nextId := 1 } }

theorem awaitingHeld_ready : ∀ b ∈ [(1 : Byte), 2],
    (awaitingHeld b).firstWriteCause (leafOf heldWrite.w.dpa) = 0 ∧ (awaitingHeld b).shut heldWrite.w.link.val = false
      ∧ heldWrite.w.dpa < (awaitingHeld b).layout.hostVisible ∧ Mem.wf (awaitingHeld b).mem = true
      ∧ Mem.byte (awaitingHeld b).mem 0 = b
      ∧ ((awaitingHeld b).fresh.restamp 0).firstWriteCause (leafOf (heldWrite.restamped 0).w.dpa) = 0
      ∧ (((awaitingHeld b).fresh.restamp 0).readied (leafOf (heldWrite.restamped 0).w.dpa)).windowOf
          (alignUnit (heldWrite.restamped 0).w.dpa) = none := by
  decide +kernel

/-- Refutes O10: the held write finds its unit awaiting its search, and a byte that it does not enable comes from a free
value. -/
theorem not_waitingWritesGoOn : ¬ Obligations.WaitingWritesGoOn := by
  unfold Obligations.WaitingWritesGoOn
  rintro ⟨hheld, -⟩
  refine drawnByte_not_both fun b hb => ?_
  obtain ⟨hcause, hshut, hvis, hwf, hmem, hstill, hwindow⟩ := awaitingHeld_ready b hb
  obtain ⟨t, hexec, hstored, -⟩ := hheld (awaitingHeld b) heldWrite 0 rfl rfl rfl rfl hvis hshut rfl hwf rfl rfl hcause rfl
  obtain ⟨hwrites, t', hexec', hserv⟩ := heldWriteRelease_of_single (s := awaitingHeld b) (e := heldWrite) 0 rfl rfl hcause
  obtain rfl : t' = t := Host.Outcome.next.inj (hexec'.symm.trans hexec)
  have halone : ((awaitingHeld b).fresh.restamp 0).Alone (heldWrite.restamped 0) :=
    ⟨hwrites, nofun, hshut, hvis, rfl, rfl⟩
  have hleft : ((awaitingHeld b).fresh.restamp 0).LeavesAwaiting (heldWrite.restamped 0).w 0 :=
    (awaitingUnit_leavesAwaiting .clean [] b).of_dram rfl
  obtain ⟨-, hgroups, -⟩ := ((awaitingHeld b).fresh.restamp 0).readied_kept (leafOf (heldWrite.restamped 0).w.dpa)
  have hjoin := (State.joinWrite_of_unclaimed (e := heldWrite.restamped 0) (by rw [hgroups]; rfl)).trans
    (State.plainWrite_of_no_window hwindow)
  have hbyte := halone.progress_awaiting_byte hleft hwf rfl (fun _ => hstill) hjoin
  exact drawnByte_eq_of_storedBy (by rw [hserv.mem]; exact hbyte) hstored rfl rfl hmem

end Sys2Proof.Machine
end

section
/-! PROOFS. The shape of a mailbox command, and the commands that report (R56). -/
namespace Sys2Proof.Machine

/-! ### Reports beside a change that both states take -/

/-- A link changed in both states, as reports may change it. -/
theorem SameButReports.setLink_both {s t : State} (h : SameButReports s t) (i : Nat) {l l' : Link}
    (hl : Link.SameButReports l l') : SameButReports (s.setLink i l) (t.setLink i l') := by
  obtain ⟨h1, h2, h3, h4, h5, h6⟩ := h
  refine ⟨?_, h2, h3, h4, fun j => ?_, h6⟩
  · exact congrArg (fun u : State => { u with links := t.links.put i l' }) h1
  · by_cases hj : j = i
    · subst hj
      simpa only [State.link_setLink_self] using hl
    · simpa only [State.link_setLink_of_ne _ _ hj] using h5 j

/-- Entries that both states hold alike, whatever they are. -/
theorem SameButReports.regs_both {s t : State} (h : SameButReports s t) (regs : Map Nat) (m n : Nat) :
    SameButReports { s with regs := regs, free := m } { t with regs := regs, free := n } := by
  obtain ⟨h1, h2, h3, -, h5, h6⟩ := h
  exact ⟨congrArg (fun u : State => { u with regs := regs, free := n }) h1, h2, h3, fun _ _ _ => rfl, h5, h6⟩

/-! ### The shape of a mailbox command -/

theorem State.mailbox_acts {s : State} {link : Fin 4} (hup : (s.link link.val).up = true) (hlost : s.bureau.lost = false)
    (op : Nat) (f : State → State) : s.mailbox link op f = .next (f (s.fresh.ioArrives link.val)) := by
  simp only [State.mailbox, hup, hlost, Bool.true_eq_false, Bool.false_eq_true, if_false]

theorem State.mailbox_lost {s : State} {link : Fin 4} (hup : (s.link link.val).up = true) (hlost : s.bureau.lost = true)
    (op : Nat) (f : State → State) :
    s.mailbox link op f = .next ((s.fresh.ioArrives link.val).mail link.val op .internalError []) := by
  simp only [State.mailbox, hup, hlost, Bool.true_eq_false, if_false, if_true]

/-- A link that is up stays up through reports. -/
theorem SameButReports.up {s t : State} (h : SameButReports s t) {i : Nat} (hup : (s.link i).up = true) :
    (t.link i).up = true := by
  obtain ⟨-, -, -, -, hlink, -⟩ := h
  exact Link.up_of_reports (hlink i).2.1 hup

/-- What has left stays among the outputs. -/
theorem SameButReports.mem_out {s t : State} (h : SameButReports s t) {o : Output} (ho : o ∈ s.out) : o ∈ t.out := by
  obtain ⟨-, -, -, -, -, os, hout⟩ := h
  rw [hout]
  exact List.mem_append_left _ ho

/-- On a link that is up the answer of a mailbox command leaves, and no more than reports follow it. -/
theorem State.mail_answered {m t : State} {i : Nat} (h : SameButReports m t) (hup : (m.link i).up = true) (op : Nat)
    (rc : MailRc) (p : List Nat) : Answered m (t.mail i op rc p) i op rc p := by
  refine ⟨h.trans (State.mail_reports _ _ _ _ _), ?_⟩
  rw [State.mail, if_pos (h.up hup)]
  exact (State.signal_reports _ _ _).mem_out (List.mem_append_right _ (List.mem_singleton_self _))

/-- A command that changes nothing answers on the state to which the request has come. -/
theorem State.mailbox_answers {s : State} {link : Fin 4} (hup : (s.link link.val).up = true) (hlost : s.bureau.lost = false)
    {op : Nat} {f : State → State} {rc : MailRc} {p : List Nat}
    (hf : f (s.fresh.ioArrives link.val) = (s.fresh.ioArrives link.val).mail link.val op rc p) :
    ∃ t, s.mailbox link op f = .next t ∧ Answered { s with out := [] } t link.val op rc p :=
  ⟨_, (State.mailbox_acts hup hlost op f).trans (congrArg _ hf),
    State.mail_answered (s.fresh.ioArrives_reports link.val) hup op rc p⟩

theorem State.report_answers {s : State} {link : Fin 4} (hup : (s.link link.val).up = true) (hlost : s.bureau.lost = false)
    (op : Nat) (p : List Nat) :
    ∃ t, s.report link op p = .next t ∧ Answered { s with out := [] } t link.val op .success p :=
  State.mailbox_answers hup hlost rfl

theorem State.unsupported_answers {s : State} {link : Fin 4} (hup : (s.link link.val).up = true)
    (hlost : s.bureau.lost = false) (op : Nat) :
    ∃ t, s.unsupported link op = .next t ∧ Answered { s with out := [] } t link.val op .unsupported [] :=
  State.mailbox_answers hup hlost rfl

/-- With no core pair left every mailbox command is answered with Internal Error (R393). -/
theorem State.mailbox_lost_answers {s : State} {link : Fin 4} (hup : (s.link link.val).up = true)
    (hlost : s.bureau.lost = true) (op : Nat) (f : State → State) :
    ∃ t, s.mailbox link op f = .next t ∧ Answered { s with out := [] } t link.val op .internalError [] :=
  ⟨_, State.mailbox_lost hup hlost op f, State.mail_answered (s.fresh.ioArrives_reports link.val) hup _ _ _⟩

/-! ### The obligation -/

theorem toNat_decide (p : Prop) [Decidable p] : (decide p).toNat = if p then 1 else 0 := by
  by_cases h : p <;> simp [h]

/-- Settles O16: each command is a report of its payload. -/
theorem mailboxReportsAnswer : Obligations.MailboxReportsAnswer := by
  unfold Obligations.MailboxReportsAnswer
  intro s link hup hlost
  have report := State.report_answers hup hlost
  refine ⟨report _ _, report _ _, fun log => ?_, report _ _, report _ _, report _ _, report _ _,
    report _ _, report _ _, report _ _, report _ _, report _ _, report _ _, ?_⟩
  · obtain ⟨t, hexec, hanswer⟩ := report 0x0100 _
    exact ⟨t, _, hexec, hanswer, by rw [toNat_decide]⟩
  · obtain ⟨t, hexec, hanswer⟩ := report 0x4500 [s.securityState]
    refine ⟨t, hexec, ?_⟩
    rw [State.securityState, toNat_decide] at hanswer
    exact hanswer

end Sys2Proof.Machine
end

section
/-! PROOFS. A slot command as the CXL.mem write that carries it (R175). -/
namespace Sys2Proof.Machine

/-! ### The bytes of a slot command -/

/-- With bytes 0 to 7 enabled the command word is the first eight bytes. -/
theorem commandWord_eq {be : BitVec 64} (hbe : ∀ i < 8, be.getLsbD i = true) (data : Data64) :
    (List.range 8).foldl (fun (d : BitVec 64) i =>
      if be.getLsbD i then d ||| ((data.extractLsb' (8 * i) 8).zeroExtend 64 <<< (8 * i)) else d) 0
      = data.extractLsb' 0 64 := by
  refine BitVec.eq_of_getLsbD_eq fun j hj => ?_
  have hbyte : ∀ k, (!decide (j < 8 * k) && (decide (j - 8 * k < 8) && data.getLsbD (8 * k + (j - 8 * k))))
      = (decide (j / 8 = k) && data.getLsbD j) := by
    intro k
    by_cases hk : j / 8 = k
    · have : 8 * k + (j - 8 * k) = j := by omega
      simp [hk, this, show ¬ j < 8 * k by omega, show j - 8 * k < 8 by omega]
    · have : ¬ (¬ j < 8 * k ∧ j - 8 * k < 8) := by omega
      simp only [hk, decide_false, Bool.false_and]
      by_cases h : j < 8 * k <;> simp_all
  have hj8 : j / 8 = 0 ∨ j / 8 = 1 ∨ j / 8 = 2 ∨ j / 8 = 3 ∨ j / 8 = 4 ∨ j / 8 = 5 ∨ j / 8 = 6 ∨ j / 8 = 7 := by omega
  simp only [List.range, List.range.loop, List.foldl_cons, List.foldl_nil, hbe 0 (by decide), hbe 1 (by decide),
    hbe 2 (by decide), hbe 3 (by decide), hbe 4 (by decide), hbe 5 (by decide), hbe 6 (by decide), hbe 7 (by decide),
    if_true, BitVec.getLsbD_or, BitVec.getLsbD_shiftLeft, BitVec.getLsbD_extractLsb', BitVec.zeroExtend,
    BitVec.getLsbD_setWidth, hj, decide_true, Bool.true_and, show ∀ k, decide (j - 8 * k < 64) = true from
      fun k => decide_eq_true (by omega), hbyte]
  rcases hj8 with h | h | h | h | h | h | h | h <;> simp [h]

/-- Each bit of the data of a slot command's write. -/
theorem deskWriteOf_data_bit {op j : Nat} (cmd : Bool) (a : DeskArgs) (hj : j < 512) :
    (deskWriteOf op cmd a).data.getLsbD j =
      ((!decide (j < 64) && a.operands.getLsbD (j - 64) || !decide (j < 8) && a.word.getLsbD (j - 8))
        || (op % 256).testBit j) := by
  simp [deskWriteOf, hj, -BitVec.getLsbD_eq_getElem, BitVec.getLsbD_ofNat, show j - 64 < 512 by omega,
    show j - 8 < 512 by omega]

/-- Each byte a slot command's write enables. -/
theorem deskWriteOf_be_bit {op j : Nat} (a : DeskArgs) (hj : j < 64) :
    (deskWriteOf op true a).be.getLsbD j = (!decide (j < 8) && a.enable.getLsbD (j - 8) || decide (j < 8)) := by
  have hones : ∀ k < 64, (0xFF : BitVec 64).getLsbD k = decide (k < 8) := by decide
  rw [deskWriteOf, if_pos rfl, BitVec.getLsbD_or, hones j hj]
  simp [hj]

theorem testBit_byte_of_le {n j : Nat} (hj : 8 ≤ j) : (n % 256).testBit j = false :=
  Nat.testBit_lt_two_pow ((Nat.mod_lt _ (by decide)).trans_le (Nat.pow_le_pow_right (n := 2) (by decide) hj))

/-- A slot command is read back from the write that carries it. -/
theorem deskArgsOf_deskWriteOf (op : BitVec 8) (a : DeskArgs) :
    deskArgsOf (deskWriteOf op.toNat true a) a.group = (op.toNat, { a with mailbox := false }) := by
  have hbe : ∀ i < 8, (deskWriteOf op.toNat true a).be.getLsbD i = true := fun i hi => by
    simp [deskWriteOf_be_bit a (show i < 64 by omega), hi]
  have hop : ((deskWriteOf op.toNat true a).data.extractLsb' 0 64).extractLsb' 0 8 = op := by
    refine BitVec.eq_of_getLsbD_eq fun j hj => ?_
    rw [BitVec.getLsbD_extractLsb', BitVec.getLsbD_extractLsb', Nat.zero_add, Nat.zero_add,
      deskWriteOf_data_bit true a (by omega), Nat.mod_eq_of_lt op.isLt, BitVec.testBit_toNat]
    simp [hj, show j < 64 by omega]
  have hword : ((deskWriteOf op.toNat true a).data.extractLsb' 0 64).extractLsb' 8 56 = a.word := by
    refine BitVec.eq_of_getLsbD_eq fun j hj => ?_
    rw [BitVec.getLsbD_extractLsb', BitVec.getLsbD_extractLsb', Nat.zero_add,
      deskWriteOf_data_bit true a (by omega), testBit_byte_of_le (by omega)]
    simp [hj, show 8 + j < 64 by omega]
  have hops : (deskWriteOf op.toNat true a).data.extractLsb' 64 448 = a.operands := by
    refine BitVec.eq_of_getLsbD_eq fun j hj => ?_
    rw [BitVec.getLsbD_extractLsb', deskWriteOf_data_bit true a (by omega), testBit_byte_of_le (by omega),
      BitVec.getLsbD_of_ge a.word _ (by omega)]
    simp [hj]
  have hen : (deskWriteOf op.toNat true a).be.extractLsb' 8 56 = a.enable := by
    refine BitVec.eq_of_getLsbD_eq fun j hj => ?_
    rw [BitVec.getLsbD_extractLsb', deskWriteOf_be_bit a (by omega)]
    simp [hj]
  simp only [deskArgsOf, commandWord_eq hbe, hop, hword, hops, hen]
  rfl

/-! ### What reports leave, and slots written twice -/

/-- Reports and wakes leave an entry that is not theirs. -/
theorem SameButReports.reg_kept {s t : State} (h : SameButReports s t) {idx sub : Nat} (hk : key idx sub ∉ reportEntries)
    (hw : key idx sub ∉ windowEntries) : t.reg idx sub = s.reg idx sub := by
  obtain ⟨h1, -, -, hregs, -⟩ := h
  have hdefault : defaultValue t 0 idx sub = defaultValue s 0 idx sub := by
    rw [h1]
    rfl
  rw [State.reg, State.reg, hregs _ hk fun _ => hw, hdefault]

theorem key_notMem_windowEntries {idx sub : Nat} (h : idx < 0x3100) (hsub : sub < 256) : key idx sub ∉ windowEntries := by
  simp only [windowEntries, key, List.mem_map, List.mem_range, not_exists, not_and]
  omega

/-- Reports leave a link's Desk range (R45). -/
theorem SameButReports.inDesk {s t : State} (h : SameButReports s t) (i : Fin 4) (g : Nat) :
    t.inDesk i.val g = s.inDesk i.val g := by
  have hkey : ∀ idx, idx = 0x2013 ∨ idx = 0x2014 → t.reg idx (i.val + 1) = s.reg idx (i.val + 1) := fun idx hidx => by
    refine h.reg_kept ?_ (key_notMem_windowEntries (by omega) (by omega))
    simp only [reportEntries, key, List.mem_cons, List.not_mem_nil, or_false, not_or]
    omega
  rw [State.inDesk, State.inDesk, hkey _ (.inl rfl), hkey _ (.inr rfl)]

/-- The later of two values put at one key stands. -/
theorem Map.put_put {α : Type} (m : Map α) (k : Nat) (a b : α) : (m.put k a).put k b = m.put k b := by
  induction m with
  | nil => simp [Map.put]
  | cons e m ih =>
    obtain ⟨q, v⟩ := e
    by_cases h1 : k < q
    · simp [Map.put, h1]
    · by_cases h2 : k = q
      · simp [Map.put, h2]
      · simp [Map.put, h1, h2, ih]

theorem State.slot_setSlot_self (s : State) (g : Nat) (x : Slot) : (s.setSlot g x).slot g = x :=
  (State.slot_of_put (s := s) (t := s.setSlot g x) rfl).1

theorem State.setSlot_setSlot (s : State) (g : Nat) (x y : Slot) : (s.setSlot g x).setSlot g y = s.setSlot g y := by
  rw [State.setSlot, State.setSlot]
  exact congrArg (fun m => { s with groups := { s.groups with slots := m } }) (Map.put_put _ _ _ _)

/-! ### An opcode that no slot accepts -/

/-- A command whose slot is not running is answered now: nothing but a mailbox answer follows. -/
theorem State.deskDone_reports {s : State} {a : DeskArgs} (h : (s.slot a.group).running = false) :
    SameButReports s (s.deskDone a) := by
  unfold State.deskDone
  dsimp only
  split
  · exact .refl s
  · rw [h, if_neg (by decide)]
    exact State.mail_reports _ _ _ _ _

/-- The slot of a command with a sequence that is not the next, or with an opcode above 9 (R177, R178). -/
def Slot.turnedAway (x : Slot) (opcode : Nat) (a : DeskArgs) : Slot :=
  if a.seq = x.lastSeq + 1 then { x.accepted opcode a with result := 6, detail := x.state.code }
  else { x with stage := 0, result := 2, detail := (x.lastSeq + 1).toNat }

theorem State.claimWaits_of_ne {s : State} {opcode : Nat} (h : opcode ≠ 2) (a : DeskArgs) :
    s.claimWaits opcode a = false := by
  simp [State.claimWaits, h]

theorem wordCheck_of_gt {opcode : Nat} (h : 9 < opcode) (x : Slot) (a : DeskArgs) :
    wordCheck x opcode a = some (6, x.state.code) := if_pos (.inr h)

/-- An opcode above 9 changes its slot and nothing else but reports. -/
theorem State.deskRun_turnedAway {s : State} {opcode : Nat} {a : DeskArgs} (hop : 9 < opcode)
    (hrun : (s.slot a.group).running = false) (hstage : (s.slot a.group).stage = 0) :
    SameButService (s.setSlot a.group ((s.slot a.group).turnedAway opcode a)) (s.deskRun opcode a) := by
  have hidle : ¬ (s.slot a.group).running = true := by simp [hrun]
  unfold State.deskRun Slot.turnedAway
  dsimp only
  rw [if_neg hidle]
  by_cases hseq : a.seq = (s.slot a.group).lastSeq + 1
  · rw [if_neg (not_not.mpr hseq), if_pos hseq, State.claimWaits_of_ne (by omega), if_neg Bool.false_ne_true, wordCheck_of_gt hop]
    dsimp only
    rw [State.answer, State.slot_setSlot_self, State.setSlot_setSlot]
    have hslot : (s.slot a.group).accepted opcode a
        = { s.slot a.group with lastSeq := a.seq, lastOpcode := opcode } := by
      rw [Slot.accepted, ← hstage]
    rw [hslot]
    exact (State.deskDone_reports (by rw [State.slot_setSlot_self]; exact hrun)).service
  · rw [if_pos hseq, if_neg hseq]
    have hslot : ((s.addReg 0x4405 0 1).slot a.group) = s.slot a.group := rfl
    rw [State.answer, hslot]
    refine SameButService.trans (t := (s.addReg 0x4405 0 1).setSlot a.group _) ?_
      (State.deskDone_reports (by rw [State.slot_setSlot_self]; exact hrun)).service
    rw [← hstage]
    exact .silent rfl

/-- A Desk write of an opcode above 9, in the link's Desk range. -/
theorem State.deskWrite_turnedAway {s : State} {opcode : Nat} {a : DeskArgs} (hop : 9 < opcode)
    (hin : s.inDesk a.link.val a.group = true) (hrun : (s.slot a.group).running = false) :
    SameButService (s.setSlot a.group ((s.slot a.group).turnedAway opcode a)) (s.deskWrite opcode a) := by
  unfold State.deskWrite
  dsimp only
  rw [if_neg (by simp [hin]), if_neg (by omega)]
  have hslot := s.slot_setSlot_self a.group { s.slot a.group with stage := 0 }
  have h := State.deskRun_turnedAway (s := s.setSlot a.group { s.slot a.group with stage := 0 })
    (a := { a with operands := a.merge (s.slot a.group).stage }) hop (by rw [hslot]; exact hrun) (by rw [hslot])
  rw [State.setSlot_setSlot, hslot] at h
  exact h

end Sys2Proof.Machine
end

section
/-! PROOFS. Forms that are turned away whatever the state (R56, R175, R178, R404, R435, R436, R441). -/
namespace Sys2Proof.Machine

/-! ### A slot write over CXL.mem -/

/-- The unit of a slot lies in the Desk (R74). -/
theorem State.region_of_slot {s : State} {g : Nat} (hg : g < 262144) (hvis : s.layout.hostVisible ≤ deskBase) :
    s.region (alignUnit (deskBase + 64 * g)) = .desk g := by
  have halign : alignUnit (deskBase + 64 * g) = deskBase + 64 * g := by
    simp only [alignUnit, deskBase]
    omega
  rw [halign, State.region, if_neg (by omega), if_pos (by omega)]
  congr 1
  omega

/-- With no write in ingress a link that is up has room for one (R51, R52). -/
theorem State.accepts_of_no_writes {s : State} {i : Nat} (hup : (s.link i).up = true) (hopen : s.ingress.closed = false)
    (hwrites : s.ingress.writes = []) : s.accepts i = true := by
  have hroom : s.occupancy i + 64 ≤ s.ingressSize i := by
    rw [State.occupancy, hwrites, State.ingressSize]
    simp only [List.filter_nil, List.length_nil]
    split_ifs <;> decide
  simp [State.accepts, hup, hopen, hroom]

/-- A slot write that is taken at once over CXL.mem is executed in the state it has entered; what follows moves no data. -/
theorem State.deskTakes.hostWrite {s : State} {a : DeskArgs} (h : s.deskTakes a) (hpath : a.mailbox = false) {w : MemWrite}
    (hlink : w.link = a.link) (hdpa : w.dpa = deskBase + 64 * a.group) :
    SameButService ((s.entered w).deskMem (s.hostEntry w) a.group) (s.fresh.hostWrite w)
      ∧ (s.entered w).inDesk a.link.val a.group = true ∧ ((s.entered w).link a.link.val).up = true
      ∧ (s.entered w).ingress.writes = [s.hostEntry w]
      ∧ SameButService { s.fresh with ingress := (s.entered w).ingress } (s.entered w) := by
  obtain ⟨hup, -, haccess, hopen, hwrites, hg, hdesk, hcxl, -⟩ := h
  obtain ⟨-, hvis, hmode, hsan⟩ := hcxl hpath
  have hshut : s.shut w.link.val = false := (State.shut_eq_false_iff s _).mpr ⟨haccess, hmode, by rw [hlink]; exact hsan⟩
  obtain ⟨hrep, hshut', -⟩ := s.memArrives_served w.link.val hshut
  have hingress : (s.fresh.memArrives w.link.val).ingress = s.ingress := hrep.service.ingress
  have hentry : (s.entered w).ingress.writes = [s.hostEntry w] := by
    show (s.fresh.memArrives w.link.val).ingress.writes ++ [_] = _
    rw [hingress, hwrites, List.nil_append, State.hostEntry]
    rw [hrep.1]
    rfl
  have hreg : (s.entered w).region (alignUnit w.dpa) = .desk a.group := by
    rw [hdpa]
    refine State.region_of_slot hg ?_
    show (s.fresh.memArrives w.link.val).layout.hostVisible ≤ deskBase
    rw [hrep.1]
    exact hvis
  have hserv := State.acceptWrite_service (s := s.fresh.memArrives w.link.val) (by rw [hingress]; exact hwrites) w .external
  rw [hingress] at hserv
  have hprog : State.progress false (s.entered w) s.ingress.nextId
      = (s.entered w).deskMem (s.hostEntry w) a.group := by
    have hfind : (s.entered w).ingressWrite s.ingress.nextId = some (s.hostEntry w) := by
      simp [State.ingressWrite, hentry, State.hostEntry]
    have hshut'' : (s.entered w).shut (s.hostEntry w).w.link.val = false := hshut'
    have hregion : (s.entered w).region (alignUnit (s.hostEntry w).w.dpa) = .desk a.group := hreg
    simp only [State.progress, hfind, hshut'', hregion, Bool.false_eq_true, false_and, if_false]
    exact if_neg nofun
  refine ⟨?_, ?_, ?_, hentry, ?_⟩
  · have hacc : s.fresh.accepts w.link.val = true := by
      rw [hlink]
      exact State.accepts_of_no_writes hup hopen hwrites
    rw [State.hostWrite, if_neg (by simp [hacc]), ← hprog]
    exact hserv
  · exact (hrep.inDesk a.link a.group).trans hdesk
  · exact hrep.up hup
  · exact State.entered_service hshut

/-- What the completion of a host's write adds: no more than an output. -/
theorem State.completeWrite_external {s : State} {e : IngressWrite} (h : e.source = .external) :
    SameButReports s (s.completeWrite e) := by
  unfold State.completeWrite
  dsimp only
  rw [h]
  split
  · exact .refl s
  · dsimp only
    split
    · exact .emit s _
    · exact .refl s

/-- A host's write that is due leaves its completion while its link is up. -/
theorem State.completeWrite_mem_out {s : State} {e : IngressWrite} {i dpa : Nat} (hsrc : e.source = .external)
    (hdue : e.reply = true) (hlink : e.w.link.val = i) (hdpa : e.w.dpa = dpa) (hup : (s.link i).up = true) :
    ∃ l, Output.writeDone i dpa l ∈ (s.completeWrite e).out := by
  refine ⟨s.devLoad e.w.link.val, ?_⟩
  rw [State.completeWrite, if_neg (by simp [hdue]), hsrc]
  dsimp only
  rw [hlink, hdpa, if_pos hup]
  exact List.mem_append_right _ (List.mem_singleton_self _)

theorem State.dropWrite_out (s : State) (id : Nat) : (s.dropWrite id).out = s.out := rfl

theorem State.dropWrite_alone {s : State} {e : IngressWrite} (h : s.ingress.writes = [e]) :
    (s.dropWrite e.id).ingress.writes = [] := by
  simp [State.dropWrite, h]

/-! ### Slot writes that are turned away -/

/-- The write of DESK_POISONED_WRITE (R175). -/
def poisonedSlotWrite (link : Fin 4) (g : Nat) : MemWrite :=
  { link := link, dpa := deskBase + 64 * g, data := 0, be := BitVec.allOnes 64, poison := true, stamp := 0 }

/-- A poisoned write to a slot is noted, and completes (R175). -/
theorem State.deskMem_poisoned {u : State} {e : IngressWrite} {g : Nat} (hin : u.inDesk e.w.link.val g = true)
    (hpoison : e.w.poison = true) : u.deskMem e g
      = (((u.note Code.deskPoisonedWrite).completeWrite e).dropWrite e.id).cupboard u e.w.stamp := by
  rw [State.deskMem, if_neg (by simp [hin]), if_pos hpoison]

theorem State.deskMem_poisoned_kept {u : State} {e : IngressWrite} {g : Nat} (hin : u.inDesk e.w.link.val g = true)
    (hpoison : e.w.poison = true) (hsrc : e.source = .external) :
    (u.deskMem e g).mem = u.mem ∧ (u.deskMem e g).leaves = u.leaves ∧ (u.deskMem e g).groups = u.groups := by
  have hkept := ((State.note_reports u Code.deskPoisonedWrite []).trans (State.completeWrite_external hsrc)).service
  rw [State.deskMem_poisoned hin hpoison]
  exact ⟨hkept.mem, hkept.leaves, hkept.groups⟩

theorem State.deskMem_poisoned_out {u : State} {e : IngressWrite} {g dpa : Nat} (hin : u.inDesk e.w.link.val g = true)
    (hpoison : e.w.poison = true) (hsrc : e.source = .external) (hdue : e.reply = true) (hdpa : e.w.dpa = dpa)
    (hup : (u.link e.w.link.val).up = true) : ∃ l, Output.writeDone e.w.link.val dpa l ∈ (u.deskMem e g).out := by
  obtain ⟨l, hl⟩ := State.completeWrite_mem_out (s := u.note Code.deskPoisonedWrite) hsrc hdue rfl hdpa
    ((State.note_reports u _ []).up hup)
  obtain ⟨-, os, hos⟩ := State.cupboard_service (((u.note Code.deskPoisonedWrite).completeWrite e).dropWrite e.id) u e.w.stamp
  rw [State.deskMem_poisoned hin hpoison, hos, State.dropWrite_out]
  exact ⟨l, List.mem_append_left _ hl⟩

/-- A poisoned write to a slot completes, and nothing is executed (R175). -/
theorem deskPoisonedWrite_spec {s : State} {a : DeskArgs} (h : s.deskTakes a) (hpath : a.mailbox = false) :
    ∃ t, exec (.deskPoisonedWrite a.link a.group) s = .next t
      ∧ t.mem = s.mem ∧ t.leaves = s.leaves ∧ t.groups = s.groups
      ∧ ∃ l, Output.writeDone a.link.val (deskBase + 64 * a.group) l ∈ t.out := by
  obtain ⟨hserv, hin, hup, -, hentered⟩ := h.hostWrite hpath (w := poisonedSlotWrite a.link a.group) rfl rfl
  obtain ⟨-, -, -, -, -, -, -, hcxl, -⟩ := h
  obtain ⟨hreach, -⟩ := hcxl hpath
  have hexec : exec (.deskPoisonedWrite a.link a.group) s
      = .next (s.fresh.hostWrite (poisonedSlotWrite a.link a.group)) := by
    show execDeskPoisonedWrite a.link a.group s = _
    rw [execDeskPoisonedWrite, if_pos hreach]
    rfl
  obtain ⟨hmem, hleaves, hgroups⟩ := State.deskMem_poisoned_kept (e := s.hostEntry (poisonedSlotWrite a.link a.group)) hin rfl rfl
  obtain ⟨l, hl⟩ := State.deskMem_poisoned_out (e := s.hostEntry (poisonedSlotWrite a.link a.group)) hin rfl rfl rfl rfl hup
  obtain ⟨-, os, hos⟩ := id hserv
  refine ⟨_, hexec, (hserv.mem.trans hmem).trans hentered.mem, (hserv.leaves.trans hleaves).trans hentered.leaves,
    (hserv.groups.trans hgroups).trans hentered.groups, l, ?_⟩
  rw [hos]
  exact List.mem_append_left _ hl

/-- The state of an invalid opcode's slot, and the rest as it was. -/
def TurnedAway (s t : State) (op : Nat) (a : DeskArgs) : Prop :=
  t.mem = s.mem ∧ t.leaves = s.leaves
    ∧ t.groups = { s.groups with slots := s.groups.slots.put a.group ((s.slot a.group).turnedAway op a) }

theorem SameButService.turnedAway {s t u : State} {op : Nat} {a : DeskArgs}
    (hst : t.mem = s.mem ∧ t.leaves = s.leaves ∧ t.groups = s.groups)
    (h : SameButService (t.setSlot a.group ((t.slot a.group).turnedAway op a)) u) : TurnedAway s u op a := by
  obtain ⟨hmem, hleaves, hgroups⟩ := hst
  refine ⟨h.mem.trans hmem, h.leaves.trans hleaves, h.groups.trans ?_⟩
  rw [State.setSlot, State.slot, hgroups]
  rfl

/-- An invalid opcode over CXL.mem is turned away, and its write leaves ingress (R175, R178). -/
theorem State.deskMem_turnedAway {u : State} {e : IngressWrite} {a : DeskArgs} {op : Nat}
    (hargs : deskArgsOf e.w a.group = (op, a)) (hlink : e.w.link = a.link) (hop : 9 < op)
    (hin : u.inDesk a.link.val a.group = true) (hgood : e.w.poison = false) (hsrc : e.source = .external)
    (hrun : (u.slot a.group).running = false) (hwrites : u.ingress.writes = [e]) :
    TurnedAway u (u.deskMem e a.group) op a ∧ (u.deskMem e a.group).ingress.writes = [] := by
  have hdesk : u.deskMem e a.group = (((u.deskWrite op a).completeWrite e).dropWrite e.id).cupboard u e.w.stamp := by
    rw [State.deskMem, hargs, hlink, if_neg (by simp [hin]), if_neg (by simp [hgood])]
  have hwrite := (State.deskWrite_turnedAway hop hin hrun).trans (State.completeWrite_external (e := e) hsrc).service
  obtain ⟨hmem, hleaves, hgroups⟩ := SameButService.turnedAway ⟨rfl, rfl, rfl⟩ hwrite
  have hcup := State.cupboard_service (((u.deskWrite op a).completeWrite e).dropWrite e.id) u e.w.stamp
  rw [hdesk]
  refine ⟨⟨hcup.mem.trans hmem, hcup.leaves.trans hleaves, hcup.groups.trans hgroups⟩, ?_⟩
  rw [hcup.ingress]
  exact State.dropWrite_alone (by rw [hwrite.ingress]; exact hwrites)

theorem TurnedAway.of_eq {s u t : State} {op : Nat} {a : DeskArgs} (h : TurnedAway u t op a)
    (hmem : u.mem = s.mem) (hleaves : u.leaves = s.leaves) (hgroups : u.groups = s.groups) : TurnedAway s t op a := by
  obtain ⟨h1, h2, h3⟩ := h
  refine ⟨h1.trans hmem, h2.trans hleaves, h3.trans ?_⟩
  rw [State.slot, hgroups]
  rfl

theorem TurnedAway.service {s u t : State} {op : Nat} {a : DeskArgs} (h : TurnedAway s u op a) (k : SameButService u t) :
    TurnedAway s t op a := by
  obtain ⟨h1, h2, h3⟩ := h
  exact ⟨k.mem.trans h1, k.leaves.trans h2, k.groups.trans h3⟩

/-- Over CXL.mem an invalid opcode is executed as the write enters (R175, R178). -/
theorem deskInvalidOpcode_mem {s : State} {a : DeskArgs} {op : BitVec 8} (h : s.deskTakes a) (hop : 10 ≤ op.toNat)
    (hpath : a.mailbox = false) : ∃ t, exec (.deskInvalidOpcode op a) s = .next t ∧ TurnedAway s t op.toNat a := by
  obtain ⟨hserv, hin, -, hwrites, hentered⟩ := h.hostWrite hpath (w := deskWriteOf op.toNat true a) rfl rfl
  obtain ⟨-, -, -, -, -, -, -, hcxl, hrun⟩ := h
  obtain ⟨hreach, -⟩ := hcxl hpath
  have hargs : deskArgsOf (s.hostEntry (deskWriteOf op.toNat true a)).w a.group = (op.toNat, a) := by
    rw [State.hostEntry, deskArgsOf_deskWriteOf, ← hpath]
  have hslot : ((s.entered (deskWriteOf op.toNat true a)).slot a.group).running = false := by
    rw [State.slot, hentered.groups]
    exact hrun
  obtain ⟨haway, hnone⟩ := State.deskMem_turnedAway hargs rfl (by omega) hin rfl rfl hslot hwrites
  have hlast := State.resumeGroupWrites_service (s := s.fresh.hostWrite (deskWriteOf op.toNat true a))
    (by rw [hserv.ingress]; exact hnone)
  refine ⟨_, ?_, (haway.of_eq hentered.mem hentered.leaves hentered.groups).service (hserv.trans hlast)⟩
  show execDeskInvalidOpcode op a s = _
  rw [execDeskInvalidOpcode, if_neg (by omega), State.deskCommand, if_neg (by simp [hpath]), if_pos hreach]

/-- Over the mailbox an invalid opcode is executed at once (R57, R178). -/
theorem deskInvalidOpcode_mailbox {s : State} {a : DeskArgs} {op : BitVec 8} (h : s.deskTakes a) (hop : 10 ≤ op.toNat)
    (hpath : a.mailbox = true) : ∃ t, exec (.deskInvalidOpcode op a) s = .next t ∧ TurnedAway s t op.toNat a := by
  obtain ⟨hup, hlost, haccess, hopen, hwrites, hg, hdesk, -, hrun⟩ := h
  have hrep := s.fresh.ioArrives_reports a.link.val
  set u := s.fresh.ioArrives a.link.val with hu
  have hin : u.inDesk a.link.val a.group = true := (hrep.inDesk a.link a.group).trans hdesk
  have hkept : u.mem = s.mem ∧ u.leaves = s.leaves ∧ u.groups = s.groups :=
    ⟨hrep.service.mem, hrep.service.leaves, hrep.service.groups⟩
  have hslot : u.slot a.group = s.slot a.group := by rw [State.slot, hkept.2.2]; rfl
  have hclosed : u.deskClosed = false := by
    rw [State.deskClosed, hrep.service.ingress, hrep.2.1]
    simp [State.fresh, haccess, hopen]
  have hwrite := State.deskWrite_turnedAway (s := u) (opcode := op.toNat) (by omega) hin (by rw [hslot]; exact hrun)
  have hcup := hwrite.trans (State.cupboard_service (u.deskWrite op.toNat a) u s.fresh.nowStamp)
  have hnone : ((u.deskWrite op.toNat a).cupboard u s.fresh.nowStamp).ingress.writes = [] := by
    rw [hcup.ingress]
    show u.ingress.writes = []
    rw [hrep.service.ingress]
    exact hwrites
  have hall := (hcup.trans (State.resumeGroupWrites_service hnone)).trans (State.panicUpdate_service _)
  refine ⟨_, ?_, SameButService.turnedAway hkept hall⟩
  show execDeskInvalidOpcode op a s = _
  rw [execDeskInvalidOpcode, if_neg (by omega), State.deskCommand, if_pos hpath, if_pos hup, State.deskMailbox,
    if_neg (by simp [State.fresh, hlost]), if_neg (by omega), if_neg (by simp [← hu, hclosed]),
    if_neg (by simp [← hu, hin]), if_neg (by omega)]

/-- An invalid opcode changes its slot, and no byte and no leaf (R178). -/
theorem deskInvalidOpcode_turnedAway {s : State} {a : DeskArgs} {op : BitVec 8} (h : s.deskTakes a) (hop : 10 ≤ op.toNat) :
    ∃ t, exec (.deskInvalidOpcode op a) s = .next t ∧ TurnedAway s t op.toNat a := by
  cases hpath : a.mailbox with
  | false => exact deskInvalidOpcode_mem h hop hpath
  | true => exact deskInvalidOpcode_mailbox h hop hpath

/-! ### The obligation -/

/-- A store that is neither a command nor a data write (R404). -/
theorem eflashBadStore_spec (s : State) (b : Fin 2) :
    ∃ t, exec (.eflashBadStore b) s = .next t ∧ FlashOnly s t b.val ∧ t.out = []
      ∧ t.bank b.val = { s.bank b.val with sticky := (s.bank b.val).sticky ||| stSeqErr } :=
  ⟨s.fresh.seqErr b.val, rfl, ⟨rfl, fun _ hk => Map.get_put_of_ne _ _ _ _ _ hk⟩, rfl, Map.get_put_self _ _ _ _⟩

/-- A service frame of an unknown type that does not repeat a sequence (R435). -/
theorem svcUnknownType_fresh {s : State} {seq type : Nat} (h : s.security.lastSeq ≠ some (seq % 256)) :
    ∃ t, exec (.svcUnknownType seq type) s = .next t ∧ DataKept s t ∧ t.regs = s.regs
      ∧ SvcAnswered t (type % 128) seq 10 [] :=
  ⟨_, congrArg Host.Outcome.next (if_neg h), ⟨rfl, rfl, rfl, rfl, rfl, rfl⟩, rfl, List.mem_singleton_self _, rfl, rfl⟩

/-- An opcode outside Tables 3.4 and 3.5 is unsupported (R56). -/
theorem State.exec_mailboxUnsupported {s : State} {link : Fin 4} {op : BitVec 16} (h : op.toNat ∉ mailOpcodes) :
    exec (.mailboxUnsupported link op) s = s.unsupported link op.toNat :=
  if_neg (by simpa using h)

/-- Settles O17: each form is turned away as its rule says. -/
theorem unsupportedMailboxCommands : Obligations.UnsupportedMailboxCommands := by
  unfold Obligations.UnsupportedMailboxCommands
  refine ⟨fun s link hup hlost => ?_, fun s link hup hlost => ?_, fun s a h hpath => deskPoisonedWrite_spec h hpath,
    fun s a op h hop => ?_, eflashBadStore_spec, fun s seq type => ⟨svcUnknownType_fresh, fun h => ?_, rfl⟩,
    fun s e code => ⟨rfl, rfl⟩⟩
  · have refused := State.unsupported_answers hup hlost
    refine ⟨refused _, refused _, refused _, refused _, fun op hop => ?_⟩
    rw [State.exec_mailboxUnsupported hop]
    exact refused _
  · have failed := State.mailbox_lost_answers hup hlost
    have refused := fun op => failed op fun t => t.mail link.val op .unsupported []
    refine ⟨refused _, refused _, refused _, refused _, fun op hop => ?_, ?_⟩
    · rw [State.exec_mailboxUnsupported hop]
      exact refused _
    · show ∃ t, execSetTimestamp link 0 s = _ ∧ _
      rw [execSetTimestamp]
      exact failed _ _
  · obtain ⟨t, hexec, hmem, hleaves, hgroups⟩ := deskInvalidOpcode_turnedAway h hop
    refine ⟨t, hexec, hmem, hleaves, fun hseq => ?_, fun hseq => ?_⟩
    · rw [hgroups, Slot.turnedAway, if_pos hseq]
    · rw [hgroups, Slot.turnedAway, if_neg hseq]
  · exact congrArg Host.Outcome.next (if_pos h)

end Sys2Proof.Machine
end

section
/-! PROOFS. A secure erase beside a slot command that waits (R58, R66, R290). -/
namespace Sys2Proof.Machine

/-- Link 0 is up, a user passphrase is set, and slot 3 rolls back with an OPEN behind it. Three NAND channels have failed, so that no
segment is opened and the run stays short. -/
def eraseWaits : State :=
  { State.reset with
    links := [(0, { Link.reset with state := .l0 })]
    security := { State.reset.security with userPass := some 1 }
    nand := { Nand.reset with channelsFailed := [0, 1, 2] }
    groups := { Groups.reset with
      slots := [(3, { Slot.reset with state := .aborted, running := true, waiting := [(1, openSlot3)] })] } }

/-- The secure erase ends with slot 3 OPENED by the command that waited. -/
theorem secureErase_leavesInUse : leavesInUse (.passphraseSecureErase 0 false 1) eraseWaits 3 = true := by
  decide +kernel

/-- Refutes O20: a secure erase runs the slot commands that waited for a rollback, after it has made every slot FREE. -/
theorem not_deviceSecurity : ¬ Obligations.DeviceSecurity := by
  unfold Obligations.DeviceSecurity
  intro h
  obtain ⟨-, -, -, -, -, -, herase⟩ := h eraseWaits 0 rfl rfl
  obtain ⟨t, ht, -, -, -, -, -, -, hslots, -⟩ := herase false 1 rfl rfl
  refine slot_ne_free_of_leavesInUse secureErase_leavesInUse ht ?_
  rw [State.slot, hslots]
  rfl

end Sys2Proof.Machine
end

section
/-! PROOFS. Inject Poison into a unit that awaits its search (R62, R140, log entry 174). -/
namespace Sys2Proof.Machine

/-- The write that Inject Poison makes at DPA 0 on link 0 (R62). -/
def poisonWrite : MemWrite := { link := 0, dpa := 0, data := 0, be := 0, poison := true, stamp := 0 }

/-- That write, alone in ingress. -/
def poisonEntry : IngressWrite :=
  { id := 0, w := poisonWrite, source := .injected, wait := .closed, since := 0, reply := true }

theorem awaitingDirty_inject : ∀ b ∈ [(1 : Byte), 2],
    (awaitingDirty b).goodRange 0 0 1 = true ∧ (awaitingDirty b).sanitizing 0 = false
      ∧ (awaitingDirty b).fresh.mailClosed = false ∧ (awaitingDirty b).fresh.shut 0 = false
      ∧ 0 < (awaitingDirty b).layout.hostVisible ∧ Mem.wf (awaitingDirty b).mem = true ∧ Mem.byte (awaitingDirty b).mem 0 = b
      ∧ (awaitingDirty b).leaf (leafOf 0) = .dirty
      ∧ ((awaitingDirty b).fresh.enqueue poisonWrite .injected).windowOf (alignUnit poisonWrite.dpa) = none := by
  decide +kernel

/-- Inject Poison into a DIRTY leaf leaves the bytes of a unit that awaits its search to a free value. -/
theorem inject_awaiting_byte {b : Byte} (hb : b ∈ [(1 : Byte), 2]) {t : State}
    (ht : exec (.injectPoison 0 0 0) (awaitingDirty b) = .next t) : Mem.byte t.mem 0 = drawnByte := by
  obtain ⟨hrange, hsan, hmail, hshut, hvis, hwf, -, hdirty, hwindow⟩ := awaitingDirty_inject b hb
  have hexec : exec (.injectPoison 0 0 0) (awaitingDirty b)
      = .next ((awaitingDirty b).fresh.acceptWrite poisonWrite .injected) := by
    show execInjectPoison 0 0 0 (awaitingDirty b) = _
    rw [execInjectPoison, State.mailbox_acts (by rfl) (by rfl)]
    refine congrArg Host.Outcome.next ?_
    show (awaitingDirty b).fresh.mailWrite 0 0x4301 0 poisonWrite .injected = _
    have hrange' : (awaitingDirty b).fresh.goodRange (0 : Fin 4).val 0 1 = true := hrange
    rw [State.mailWrite, hmail, hrange', if_neg Bool.false_ne_true, if_neg (by decide)]
  obtain rfl := Host.Outcome.next.inj (hexec.symm.trans ht)
  have halone : ((awaitingDirty b).fresh.enqueue poisonWrite .injected).Alone poisonEntry :=
    ⟨rfl, nofun, hshut, hvis, rfl, rfl⟩
  have hleft : ((awaitingDirty b).fresh.enqueue poisonWrite .injected).LeavesAwaiting poisonWrite 0 :=
    ⟨by rfl, by decide, by decide⟩
  have hready : ((awaitingDirty b).fresh.enqueue poisonWrite .injected).readied (leafOf poisonWrite.dpa)
      = (awaitingDirty b).fresh.enqueue poisonWrite .injected := if_neg (by
    show ¬ ((awaitingDirty b).leaf (leafOf 0) = _ ∨ (awaitingDirty b).leaf (leafOf 0) = _)
    rw [hdirty]
    decide)
  have hjoin := (State.joinWrite_of_unclaimed (s := (awaitingDirty b).fresh.enqueue poisonWrite .injected)
    (e := poisonEntry) rfl).trans (State.plainWrite_of_no_window hwindow)
  have hbyte := halone.progress_awaiting_byte hleft hwf rfl (fun hfirst => by
    rcases hfirst with h | h <;> exact absurd (hdirty.symm.trans h) (by decide)) (by
    rw [show leafOf poisonEntry.w.dpa = leafOf poisonWrite.dpa from rfl, hready]
    exact hjoin)
  rw [(State.acceptWrite_service (s := (awaitingDirty b).fresh) rfl poisonWrite .injected).mem]
  exact hbyte

/-- Refutes O19: the unit awaits its search, and the poison write, which enables no byte, leaves all of them to a free
value. -/
theorem not_poisonScanAndSanitize : ¬ Obligations.PoisonScanAndSanitize := by
  unfold Obligations.PoisonScanAndSanitize
  rintro ⟨-, -, -, hpoison, -⟩
  refine drawnByte_not_both fun b hb => ?_
  obtain ⟨hrange, hsan, -, -, hvis, -, hmem, hdirty, -⟩ := awaitingDirty_inject b hb
  obtain ⟨⟨t, hexec, -, hkept, -⟩, -⟩ := hpoison (awaitingDirty b) 0 0 0 rfl rfl rfl rfl hsan rfl hrange
    (State.region_of_lt hvis) hdirty rfl
  rw [← inject_awaiting_byte hb hexec, hkept, hmem]

end Sys2Proof.Machine
end

section
/-! PROOFS. What a report keeps beyond what SameButReports says: control state, entries and the bits of the fault groups. -/
namespace Sys2Proof.Machine

/-! ### Messages and logs touch links and outputs only -/

/-- `t` is `s` but for links and outputs. -/
def SameButLinks (s t : State) : Prop := t = { s with out := t.out, links := t.links }

theorem SameButLinks.refl (s : State) : SameButLinks s s := rfl

theorem SameButLinks.trans {s t u : State} (h : SameButLinks s t) (k : SameButLinks t u) : SameButLinks s u := by
  unfold SameButLinks at *
  rw [k, h]

theorem SameButLinks.foldl {α : Type} (g : State → α → State) (h : ∀ s a, SameButLinks s (g s a)) (l : List α) (s : State) :
    SameButLinks s (l.foldl g s) :=
  State.foldl_holds (SameButLinks s) g (fun t a ht => ht.trans (h t a)) l s (.refl s)

theorem State.setLink_sameButLinks (s : State) (i : Nat) (l : Link) : SameButLinks s (s.setLink i l) := rfl

theorem State.emit_sameButLinks (s : State) (o : Output) : SameButLinks s (s.emit o) := rfl

theorem State.sendPend_sameButLinks (s : State) (i v : Nat) : SameButLinks s (s.sendPend i v) := by
  unfold State.sendPend
  split
  · exact .refl s
  · split
    · exact rfl
    · exact .refl s

theorem State.signal_sameButLinks (s : State) (i src : Nat) : SameButLinks s (s.signal i src) := by
  unfold State.signal
  dsimp only
  split
  · exact .refl s
  · split
    · exact (s.setLink_sameButLinks i _).trans (State.sendPend_sameButLinks _ _ _)
    · exact s.setLink_sameButLinks i _

theorem State.mail_sameButLinks (s : State) (i op : Nat) (rc : MailRc) (p : List Nat) : SameButLinks s (s.mail i op rc p) := by
  unfold State.mail
  split
  · exact (s.emit_sameButLinks _).trans (State.signal_sameButLinks _ _ _)
  · exact (s.setLink_sameButLinks i _).trans (State.signal_sameButLinks _ _ _)

theorem State.logOn_sameButLinks (r : ChestRec) (s : State) (i : Nat) : SameButLinks s (s.logOn r i) := by
  unfold State.logOn
  dsimp only
  split
  · refine SameButLinks.trans ?_ (State.emit_sameButLinks _ _)
    split
    · exact (s.setLink_sameButLinks i _).trans (State.signal_sameButLinks _ _ _)
    · exact s.setLink_sameButLinks i _
  · exact s.setLink_sameButLinks i _

theorem State.deliver_sameButLinks (s : State) (r : ChestRec) (all : Bool) : SameButLinks s (s.deliver r all) := by
  have hlog : SameButLinks s ((s.recordLinks r).foldl (State.logOn r) s) := .foldl _ (State.logOn_sameButLinks r) _ _
  unfold State.deliver
  dsimp only
  split <;> split
  · exact hlog.trans (State.emit_sameButLinks _ _)
  · exact s.emit_sameButLinks _
  · exact hlog
  · exact .refl s

/-! ### Records -/

/-- What a record leaves: everything but the Chest, its two counters and the groups that count an overrun. -/
structure RecordKept (s t : State) : Prop where
  ctl : t.ctl = s.ctl
  regs : ∀ k, k ≠ key 0x7422 0 → k ≠ key 0x7431 1 → t.regs.find? k = s.regs.find? k
  faults : ∀ code, s.hasFault code = true → t.hasFault code = true

theorem RecordKept.refl (s : State) : RecordKept s s := ⟨rfl, fun _ _ _ => rfl, fun _ h => h⟩

theorem RecordKept.trans {s t u : State} (h : RecordKept s t) (k : RecordKept t u) : RecordKept s u :=
  ⟨k.ctl.trans h.ctl, fun q h1 h2 => (k.regs q h1 h2).trans (h.regs q h1 h2), fun c hc => k.faults c (h.faults c hc)⟩

theorem SameButLinks.kept {s t : State} (h : SameButLinks s t) : RecordKept s t := by
  rw [h]
  exact ⟨rfl, fun _ _ _ => rfl, fun _ h => h⟩

/-- An occurrence sets its bit and clears none. -/
theorem State.occur_hasFault (s : State) (code c : Nat) (live inj : Bool) (d : Nat) :
    (s.occur code live inj d).hasFault c = (s.hasFault c || decide (c = code)) := by
  have hbit : ∀ n < 32, ∀ m < 32, (BitVec.ofNat 32 (2 ^ n)).getLsbD m = decide (m = n) := by decide
  rw [State.hasFault, State.hasFault, State.faultGroup, State.occur]
  by_cases hblock : c / 32 = code / 32
  · rw [hblock, Map.get_put_self, FaultGroup.occur, BitVec.getLsbD_or, hbit _ (by omega) _ (by omega)]
    have : c % 32 = code % 32 ↔ c = code := by omega
    simp [this]
  · rw [Map.get_put_of_ne _ _ _ _ _ hblock]
    simp [show c ≠ code by omega, State.faultGroup]

theorem State.occur_kept (s : State) (code : Nat) (live inj : Bool) (d : Nat) :
    RecordKept s (s.occur code live inj d) :=
  ⟨rfl, fun _ _ _ => rfl, fun c hc => by rw [State.occur_hasFault, hc, Bool.true_or]⟩

theorem RecordKept.chest (s : State) (c : Chest) : RecordKept s { s with chest := c } := ⟨rfl, fun _ _ _ => rfl, fun _ h => h⟩

theorem RecordKept.addReg (s : State) (idx sub n : Nat) (h : key idx sub = key 0x7422 0 ∨ key idx sub = key 0x7431 1) :
    RecordKept s (s.addReg idx sub n) := by
  refine ⟨rfl, fun k h1 h2 => ?_, fun _ h => h⟩
  have hne : k ≠ key idx sub := by
    rintro rfl
    exact h.elim h1 h2
  simp [State.addReg, hne]

theorem State.record_kept (s : State) (code : Nat) (lead : List Nat) (inj : Bool) :
    RecordKept s (s.record code lead inj) := by
  unfold State.record
  dsimp only
  split
  · exact .chest s _
  · split
    · split
      · exact (RecordKept.chest s _).trans (State.deliver_sameButLinks _ _ _).kept
      · exact (RecordKept.chest s _).trans (.addReg _ _ _ _ (.inl rfl))
    · split
      · exact ((RecordKept.chest s _).trans (.addReg _ _ _ _ (.inr rfl))).trans (State.occur_kept _ _ _ _ _)
      · exact (RecordKept.chest s _).trans (State.deliver_sameButLinks _ _ _).kept

theorem State.fault_kept (s : State) (code d : Nat) (live : Bool) (more : List Nat) :
    RecordKept s (s.fault code d live more) := (s.occur_kept _ _ _ _).trans (State.record_kept _ _ _ _)

theorem State.faultOpen_kept (s : State) (code : Nat) (live : Bool) : RecordKept s (s.faultOpen code live) :=
  (RecordKept.trans (t := s.drawn) ⟨rfl, fun _ _ _ => rfl, fun _ h => h⟩ (State.fault_kept _ _ _ _ _))

/-- A fault that has occurred is sticky in its group (R371). -/
theorem State.faultOpen_hasFault (s : State) (code : Nat) (live : Bool) : (s.faultOpen code live).hasFault code = true := by
  refine (State.record_kept _ _ _ _).faults code ?_
  rw [State.occur_hasFault, decide_eq_true rfl, Bool.or_true]

end Sys2Proof.Machine
end

section
/-! PROOFS. Link training (R43). -/
namespace Sys2Proof.Machine

/-! ### The best of two sets of limits -/

theorem foldl_max_le_iff (l : List Nat) (a b : Nat) : l.foldl max a ≤ b ↔ a ≤ b ∧ ∀ q ∈ l, q ≤ b := by
  induction l generalizing a with
  | nil => simp
  | cons x l ih =>
    rw [List.foldl_cons, ih, max_le_iff, List.forall_mem_cons, and_assoc]

/-- The largest of a list's members that fulfil a test. -/
theorem foldl_max_filter_eq {l : List Nat} {p : Nat → Bool} {r : Nat} (hr : r ∈ l) (hp : p r = true)
    (hmax : ∀ q ∈ l, p q = true → q ≤ r) : (l.filter p).foldl max 0 = r :=
  le_antisymm ((foldl_max_le_iff _ _ _).mpr ⟨Nat.zero_le _, fun q hq => hmax q (List.mem_filter.mp hq).1 (List.mem_filter.mp hq).2⟩)
    (((foldl_max_le_iff _ _ _).mp le_rfl).2 r (List.mem_filter.mpr ⟨hr, hp⟩))

theorem State.commonRate_eq {s : State} {i pr r : Nat} (hr : r ∈ [32, 64, 128]) (hpr : r ≤ pr) (hmax : r ≤ s.reg 0x2004 (i + 1))
    (hbest : ∀ q ∈ [32, 64, 128], q ≤ pr → q ≤ s.reg 0x2004 (i + 1) → q ≤ r) : s.commonRate i pr = r :=
  foldl_max_filter_eq hr (by simp [hpr, hmax]) fun q hq hp => by
    obtain ⟨h1, h2⟩ : q ≤ pr ∧ q ≤ s.reg 0x2004 (i + 1) := by simpa using hp
    exact hbest q hq h1 h2

theorem widest_eq {a b w : Nat} (hw : w ∈ [2, 4, 8, 16]) (ha : w ≤ a) (hb : w ≤ b)
    (hbest : ∀ q ∈ [2, 4, 8, 16], q ≤ a → q ≤ b → q ≤ w) : widest a b = w :=
  foldl_max_filter_eq hw (by simp [ha, hb]) fun q hq hp => by
    obtain ⟨h1, h2⟩ : q ≤ a ∧ q ≤ b := by simpa using hp
    exact hbest q hq h1 h2

theorem widest_le (a b : Nat) : widest a b ≤ a ∧ widest a b ≤ b := by
  constructor <;> refine (foldl_max_le_iff _ _ _).mpr ⟨Nat.zero_le _, fun q hq => ?_⟩
  · simpa using And.left (by simpa using (List.mem_filter.mp hq).2)
  · simpa using And.right (by simpa using (List.mem_filter.mp hq).2)

theorem le_widest {a b q : Nat} (hq : q ∈ [2, 4, 8, 16]) (ha : q ≤ a) (hb : q ≤ b) : q ≤ widest a b :=
  ((foldl_max_le_iff _ _ _).mp le_rfl).2 q (List.mem_filter.mpr ⟨hq, by simp [ha, hb]⟩)

/-! ### What follows training -/

theorem State.setLink_setLink (s : State) (i : Nat) (a b : Link) : (s.setLink i a).setLink i b = s.setLink i b :=
  congrArg (fun m => { s with links := m }) (Map.put_put s.links i a b)

/-- A link put back over what reports made of it. -/
theorem SameButReports.unsetLink (s : State) (i : Nat) (l : Link) (h : Link.SameButReports l (s.link i)) :
    SameButReports (s.setLink i l) s := by
  refine .plain rfl rfl (fun _ _ => rfl) (fun j => ?_) ⟨[], by simp [State.setLink]⟩
  by_cases hj : j = i
  · subst hj
    rwa [State.link_setLink_self]
  · rw [State.link_setLink_of_ne _ _ hj]
    exact .refl _

/-- The output of a command that completed while the link was down leaves; the link keeps none due. -/
theorem State.deliverMail_reports (s : State) (i : Nat) :
    SameButReports (s.setLink i { s.link i with mailDue := none }) (s.deliverMail i) := by
  unfold State.deliverMail
  split
  · exact .emit _ _
  · rename_i h
    exact .unsetLink s i _ ⟨rfl, .inl rfl, fun _ => h⟩

theorem State.deliverDeferred_reports (s : State) (i : Nat) : SameButReports s (s.deliverDeferred i) :=
  (SameButReports.setLink s i { s.link i with deferred := [] } ⟨rfl, .inl rfl, fun _ => rfl⟩).trans
    (.foldl _ (fun t r => State.logOn_reports r t i) _ _)

theorem State.flushPend_reports (s : State) (i : Nat) : SameButReports s (s.flushPend i) := by
  refine .foldl _ (fun t v => ?_) _ _
  split
  · exact State.sendPend_reports _ _ _
  · exact .refl t

/-! ### The obligation -/

/-- A link that may complete its training does (R43). -/
theorem exec_linkTrained {s : State} {link : Fin 4} (hformed : s.layout.formed link.val = true)
    (hdown : (s.link link.val).state = .down ∨ (s.link link.val).state = .training)
    (henabled : s.reg 0x2005 (link.val + 1) = 1) (hmode : s.ctl.mode ≠ .dormant) (pr pw : Nat) (flit : Bool) :
    exec (.linkTrained link pr pw flit) s = .next (s.fresh.train link.val pr pw flit) :=
  congrArg Host.Outcome.next (if_pos ⟨hformed, hdown, henabled, hmode⟩)

/-- The link as training leaves it. -/
def State.trainedLink (s : State) (i r w pw : Nat) : Link :=
  { s.link i with state := .l0, rate := r, width := w, mailDue := none, trained := widest pw (s.headWidth i) }

theorem State.train_reports {s : State} {i pr pw r w : Nat} (hrate : s.commonRate i pr = r) (hwidth : s.commonWidth i pw = w)
    (hr : r ≠ 0) (hw : w ≠ 0) :
    SameButReports (s.setLink i (s.trainedLink i r w pw)) (s.train i pr pw true) := by
  have hmail := State.deliverMail_reports
    (s.setLink i { s.link i with state := .l0, rate := r, width := w, trained := widest pw (s.headWidth i) }) i
  rw [State.link_setLink_self, State.setLink_setLink] at hmail
  rw [State.train, if_neg (by decide), if_neg (by rw [hrate, hwidth]; simp [hr, hw]), hrate, hwidth]
  exact (hmail.trans (State.deliverDeferred_reports _ i)).trans (State.flushPend_reports _ i)

/-- Settles O13: the best common rate and width are those the training takes; all that follows are reports. -/
theorem linkTrainsToTheBestCommonSetting : Obligations.LinkTrainsToTheBestCommonSetting := by
  unfold Obligations.LinkTrainsToTheBestCommonSetting
  refine ⟨fun s link pr pw r w hformed hdown henabled hmode hr hpr hrmax hrbest hw hpw hwmax hwbest => ?_,
    fun s link pr pw hformed hdown henabled hmode => ?_⟩
  · have hr0 : r ≠ 0 := by
      rintro rfl
      exact absurd hr (by decide)
    have hw0 : w ≠ 0 := by
      rintro rfl
      exact absurd hw (by decide)
    have hrep := State.train_reports (s := s.fresh) (State.commonRate_eq hr hpr hrmax hrbest)
      (widest_eq hw hpw hwmax hwbest) hr0 hw0
    obtain ⟨-, -, -, -, hlinks, -⟩ := id hrep
    obtain ⟨hlink, hstate, -⟩ := hlinks link.val
    rw [State.link_setLink_self] at hlink hstate
    have htrained : ((s.fresh.train link.val pr pw true).link link.val).trained = widest pw (s.headWidth link.val) := by
      rw [hlink]
      rfl
    refine ⟨_, exec_linkTrained hformed hdown henabled hmode pr pw true, ?_, ?_, ?_, ?_, ?_, ?_, fun q hq h1 h2 => ?_⟩
    · rw [htrained]
      exact hrep
    · rcases hstate with h | ⟨h, -⟩
      · exact h
      · cases h
    · rw [hlink]
      rfl
    · rw [hlink]
      rfl
    · rw [htrained]
      exact (widest_le _ _).1
    · rw [htrained]
      exact (widest_le _ _).2
    · rw [htrained]
      exact le_widest hq h1 h2
  · refine ⟨_, exec_linkTrained hformed hdown henabled hmode pr pw false, ?_, ?_⟩
    · rw [State.train, if_pos rfl]
      exact State.faultOpen_reports _ _ _
    · rw [State.train, if_pos rfl]
      exact State.faultOpen_hasFault _ _ _

end Sys2Proof.Machine
end

section
/-! PROOFS. Link loss, HOST reset, FLR and the end of a shutdown (R44, R70, R71). -/
namespace Sys2Proof.Machine

/-! ### Counters -/

theorem State.addReg_counted (s : State) (idx sub n : Nat) : Counted s (s.addReg idx sub n) idx sub n := fun h =>
  State.reg_of_find? (by simp [State.addReg, h])

/-- A counter stays as it was counted through reports that are not its own. -/
theorem Counted.reports {s t u : State} {idx sub n : Nat} (h : Counted s t idx sub n) (k : SameButReports t u)
    (hk : key idx sub ∉ reportEntries) (hw : key idx sub ∉ windowEntries) : Counted s u idx sub n := fun hn =>
  (k.reg_kept hk hw).trans (h hn)

theorem Counted.of_reg {s s' t : State} {idx sub n : Nat} (h : Counted s' t idx sub n) (hs : s'.reg idx sub = s.reg idx sub) :
    Counted s t idx sub n := fun hn => by rw [← hs] at hn ⊢; exact h hn

/-- The entries that reports left, in the state before them. -/
theorem SameButReports.own_regs {s t : State} (h : SameButReports s t) : SameButReports { s with regs := t.regs } t := by
  obtain ⟨h1, h2, h3, -, h5, h6⟩ := h
  exact ⟨by rw [h1], h2, h3, fun _ _ _ => rfl, h5, h6⟩

/-! ### Consents -/

/-- No consent that is withdrawn stands (R334). -/
theorem State.withdraw_consents (s : State) (m : BitVec 4) : (s.withdraw m).ctl.consents &&& m = 0 := by
  unfold State.withdraw
  split
  · assumption
  · rw [State.note, (State.record_kept _ _ _ _).ctl]
    show s.ctl.consents &&& ~~~m &&& m = 0
    rw [BitVec.and_assoc, BitVec.and_comm (~~~m), BitVec.and_not_self]
    exact BitVec.and_zero

/-- HOST, as it fires, keeps the consents or clears them all. -/
theorem State.fire_host_consents (s : State) (on : Option Nat) :
    (s.fire 0 on).ctl.consents = s.ctl.consents ∨ (s.fire 0 on).ctl.consents = 0 := by
  unfold State.fire
  dsimp only
  split
  · exact .inl rfl
  · split
    · unfold State.beginWake
      dsimp only
      split
      · exact .inl rfl
      · exact .inr rfl
    · exact .inl rfl
    · exact .inl rfl

/-! ### The end of a link -/

/-- A state whose link is lost: reads gone, completions over CXL.mem no longer due (Table 3.8). -/
def State.linkLost (s : State) (i : Nat) (st : LinkState) : State :=
  { s with
    ingress := { s.ingress with
      reads := s.ingress.reads.filter fun r => r.link.val != i,
      writes := s.ingress.writes.map fun e =>
        if e.w.link.val = i ∧ e.source = .external then { e with reply := false } else e },
    links := s.links.put i { s.link i with state := st, rate := 0, width := 0, gpfWait := false } }

theorem State.loseLink_reports (s : State) (i : Nat) (st : LinkState) :
    SameButReports (s.linkLost i st) (s.loseLink i st) := State.withdraw_reports _ _

theorem State.loseLink_consents (s : State) (i : Nat) (st : LinkState) :
    (s.loseLink i st).ctl.consents &&& BitVec.ofNat 4 (2 ^ i) = 0 := State.withdraw_consents _ _

/-! ### HOST reset -/

/-- A link as a HOST reset leaves its configuration (R70, R72). -/
def Link.hostReset (l : Link) : Link :=
  { l with decoders := [], decoderError := 0, msixEnable := false, unmasked := [], table := [], fullWidth := 0, faulty := 0,
           margin := [] }

theorem Link.SameButReports.hostReset {a b : Link} (h : Link.SameButReports a b) :
    Link.SameButReports a.hostReset b.hostReset := by
  obtain ⟨h1, h2, h3⟩ := h
  exact ⟨by rw [h1]; rfl, h2, h3⟩

/-- The state of a HOST reset but for its count and the wake. -/
def State.hostLost (s : State) (i : Nat) : State :=
  ((s.dropMail i).linkLost i (s.resetState i)).setLink i (((s.dropMail i).linkLost i (s.resetState i)).link i).hostReset

/-- A HOST reset is counted, and changes besides its link, its reads and its answers no more than reports. -/
theorem State.hostReset_reports (s : State) (i : Nat) :
    SameButReports { s.hostLost i with regs := (s.hostReset i).regs } (s.hostReset i)
      ∧ RegsKept s (s.hostReset i) [key 0x1102 3] ∧ Counted s (s.hostReset i) 0x1102 3 1 := by
  have hlose := (s.dropMail i).loseLink_reports i (s.resetState i)
  set b := (s.dropMail i).loseLink i (s.resetState i) with hb
  have hfire := ((b.addReg 0x1102 3 1).setLink i ((b.addReg 0x1102 3 1).link i).hostReset).fire_reports 0 (some i)
  have hreset : s.hostReset i = ((b.addReg 0x1102 3 1).setLink i ((b.addReg 0x1102 3 1).link i).hostReset).fire 0 (some i) :=
    rfl
  obtain ⟨-, -, -, -, hlink, -⟩ := id hlose
  have hset := (hlose.regs_both (b.addReg 0x1102 3 1).regs s.free (b.addReg 0x1102 3 1).free).setLink_both i (hlink i).hostReset
  have hnot : key 0x1102 3 ∉ reportEntries := by decide
  have hwin : key 0x1102 3 ∉ windowEntries := by decide
  rw [hreset]
  refine ⟨(hset.trans hfire).own_regs, ?_, ?_⟩
  · have hcount : RegsKept s b [key 0x1102 3] := hlose.regsKept _
    refine RegsKept.trans ?_ (hcount.put (List.mem_singleton_self _) _ rfl) (hfire.regsKept _)
    exact hlose.mode
  · have hcount : Counted b ((b.addReg 0x1102 3 1).setLink i ((b.addReg 0x1102 3 1).link i).hostReset) 0x1102 3 1 :=
      b.addReg_counted 0x1102 3 1
    exact (hcount.of_reg (hlose.reg_kept hnot hwin)).reports hfire hnot hwin

theorem State.hostReset_consents (s : State) (i : Nat) :
    (s.hostReset i).ctl.consents &&& BitVec.ofNat 4 (2 ^ i) = 0 := by
  have hlost := (s.dropMail i).loseLink_consents i (s.resetState i)
  unfold State.hostReset
  rcases State.fire_host_consents ((((s.dropMail i).loseLink i (s.resetState i)).addReg 0x1102 3 1).setLink i
    ((((s.dropMail i).loseLink i (s.resetState i)).addReg 0x1102 3 1).link i).hostReset) (some i) with h | h
  · exact (congrArg (· &&& BitVec.ofNat 4 (2 ^ i)) h).trans hlost
  · exact (congrArg (· &&& BitVec.ofNat 4 (2 ^ i)) h).trans BitVec.zero_and

/-- The writes of a link that is reset: none has a completion due, over CXL.mem or from the mailbox. -/
theorem mute_both (i : Nat) (ws : List IngressWrite) :
    (ws.map fun e => if e.w.link.val = i ∧ e.source ≠ .external then { e with reply := false } else e).map
      (fun e => if e.w.link.val = i ∧ e.source = .external then { e with reply := false } else e)
    = ws.map fun e => if e.w.link.val = i then { e with reply := false } else e := by
  rw [List.map_map]
  refine List.map_congr_left fun e _ => ?_
  by_cases hi : e.w.link.val = i <;> by_cases hs : e.source = .external <;> simp [hi, hs]

/-- What a HOST reset leaves, written out. -/
theorem State.hostLost_eq (s : State) (i : Nat) : s.hostLost i = { s with
    ingress := { s.ingress with
      reads := s.ingress.reads.filter fun r => r.link.val != i,
      writes := s.ingress.writes.map fun e => if e.w.link.val = i then { e with reply := false } else e },
    groups := { s.groups with
      slots := s.groups.slots.map fun (e : Nat × Slot) => (e.1, { e.2 with mail := e.2.mail.filter fun j => j != i }) },
    dict := (s.voidRequests i).dict, trestle := (s.voidRequests i).trestle,
    links := s.links.put i { s.link i with
      state := s.resetState i, rate := 0, width := 0, gpfWait := false, decoders := [], decoderError := 0,
      msixEnable := false, unmasked := [], table := [], fullWidth := 0, faulty := 0, margin := [], mailDue := none } } := by
  have hdrop : (s.dropMail i).link i = { s.link i with mailDue := none } := State.link_setLink_self _ _ _
  have hlost : ((s.dropMail i).linkLost i (s.resetState i)).link i
      = { (s.dropMail i).link i with state := s.resetState i, rate := 0, width := 0, gpfWait := false } :=
    State.link_setLink_self (s.dropMail i) i _
  rw [State.hostLost, hlost, hdrop]
  simp only [State.linkLost, State.dropMail, State.voidRequests, State.setLink, Map.put_put, mute_both]
  rfl

/-! ### The obligation -/

/-- FLR drops the answers of its link and resets its MSI-X state (R44). -/
theorem exec_flr {s : State} {link : Fin 4} (hup : (s.link link.val).up = true) :
    exec (.flr link) s = .next { s with
      out := [],
      ingress := { s.ingress with
        writes := s.ingress.writes.map fun e =>
          if e.w.link.val = link.val ∧ e.source ≠ .external then { e with reply := false } else e },
      links := s.links.put link.val
        { s.link link.val with
          msixEnable := false, unmasked := [], pend := [], table := [], eventVectors := [], mailDue := none },
      groups := { s.groups with
      slots := s.groups.slots.map fun (e : Nat × Slot) =>
        (e.1, { e.2 with mail := e.2.mail.filter fun j => j != link.val }) },
      dict := (s.voidRequests link.val).dict, trestle := (s.voidRequests link.val).trestle } := by
  have hdrop : (s.fresh.dropMail link.val).link link.val = { s.link link.val with mailDue := none } :=
    State.link_setLink_self _ _ _
  show execFlr link s = _
  rw [execFlr, if_pos hup]
  dsimp only
  rw [hdrop, State.dropMail, State.setLink_setLink]
  rfl

/-- Settles O14: a loss is its state before the withdrawal of the consent, and the rest are reports. -/
theorem linkLossAndResetsKeepWrites : Obligations.LinkLossAndResetsKeepWrites := by
  unfold Obligations.LinkLossAndResetsKeepWrites
  refine ⟨fun s link hup => ⟨_, congrArg Host.Outcome.next (if_pos hup), s.fresh.loseLink_reports _ _,
      s.fresh.loseLink_consents _ _⟩,
    fun s link hformed hvaux => ?_, fun s link hup => exec_flr hup, fun s link hstate => ?_⟩
  · obtain ⟨hrep, hregs, hcount⟩ := s.fresh.hostReset_reports link.val
    rw [State.hostLost_eq] at hrep
    exact ⟨_, congrArg Host.Outcome.next (if_pos ⟨hformed, hvaux⟩), hrep, hregs, hcount,
      s.fresh.hostReset_consents link.val⟩
  · exact ⟨_, congrArg Host.Outcome.next (if_pos hstate), s.fresh.loseLink_reports _ _⟩

end Sys2Proof.Machine
end

section
/-! PROOFS. Lane faults, decoders, message vectors and the other standard features of a link (R44, R49, R68, R69, R72). -/
namespace Sys2Proof.Machine

/-! ### Lanes -/

theorem exec_laneFault {s : State} {link : Fin 4} {lane errors : Nat} {lost : Bool} (l0p : Bool)
    (hup : (s.link link.val).up = true) (hlane : lane < (s.link link.val).trained)
    (hover : s.reg 0x2040 (link.val + 1) < errors ∨ lost = true) :
    exec (.laneFault link lane errors lost l0p) s = .next (s.fresh.laneFault link.val lane l0p) :=
  congrArg Host.Outcome.next (if_pos ⟨hup, hlane, hover⟩)

/-! ### Decoders -/

/-- When a decoder commits (R49). -/
theorem State.commitGood_iff (s : State) (i d base size ways gran : Nat) :
    s.commitGood i d base size ways gran = true ↔
      ways ∈ [1, 2, 3, 4, 6, 8, 12, 16] ∧ gran ∈ [256, 512, 1024, 2048, 4096, 8192, 16384] ∧ 0 < size ∧
        ((s.partBase i ≤ base ∧ base + size ≤ s.partBase i + s.partSize i ∧ base + size ≤ s.layout.hostVisible)
          ∨ (deskBase ≤ base ∧ base + size ≤ deskBase + 16777216 ∧ ways = 1)) ∧
        (∀ e ∈ (s.link i).decoders, e.1 ≠ d → base + size ≤ e.2.base ∨ e.2.base + e.2.size ≤ base) := by
  have hways : decoderWays ways = true ↔ ways ∈ [1, 2, 3, 4, 6, 8, 12, 16] := List.contains_iff_mem
  have hgran : decoderGranularity gran = true ↔ gran ∈ [256, 512, 1024, 2048, 4096, 8192, 16384] := List.contains_iff_mem
  have hfree : (!((s.link i).decoders.any fun e =>
      e.1 != d && decide (base < e.2.base + e.2.size) && decide (e.2.base < base + size))) = true ↔
      ∀ e ∈ (s.link i).decoders, e.1 ≠ d → base + size ≤ e.2.base ∨ e.2.base + e.2.size ≤ base := by
    rw [Bool.not_eq_true', List.any_eq_false]
    refine forall₂_congr fun e _ => ?_
    simp only [Bool.and_eq_true, bne_iff_ne, decide_eq_true_eq]
    constructor
    · intro h hne
      by_contra hno
      exact h ⟨⟨hne, by omega⟩, by omega⟩
    · rintro h ⟨⟨hne, h1⟩, h2⟩
      rcases h hne with h' | h' <;> omega
  unfold State.commitGood
  dsimp only
  rw [Bool.and_eq_true, hfree, Bool.and_eq_true, Bool.and_eq_true, Bool.and_eq_true, hways, hgran, Bool.or_eq_true]
  simp only [Bool.and_eq_true, decide_eq_true_eq, and_assoc]

theorem exec_hdmDecoderCommit {s : State} {link : Fin 4} (hup : (s.link link.val).up = true) (d : Fin 4)
    (base size ways gran : Nat) :
    exec (.hdmDecoderCommit link d base size ways gran) s = .next (s.fresh.setLink link.val
      (if s.commitGood link.val d.val base size ways gran = true then { s.link link.val with
          decoders := (s.link link.val).decoders.put d.val { base := base, size := size, ways := ways, granularity := gran },
          decoderError := (s.link link.val).decoderError &&& ~~~BitVec.ofNat 4 (2 ^ d.val) }
        else { s.link link.val with
          decoderError := (s.link link.val).decoderError ||| BitVec.ofNat 4 (2 ^ d.val) })) := by
  show execHdmDecoderCommit link d base size ways gran s = _
  have hgood : s.fresh.commitGood = s.commitGood := rfl
  rw [execHdmDecoderCommit, if_pos hup, State.hdmCommit, hgood]
  split <;> rfl

/-! ### Message vectors -/

/-- A message whose threshold or time limit is reached is sent, where its link can (R68). -/
theorem exec_msixModerationExpire {s : State} {link : Fin 4} {v : Nat} {p : Pend}
    (hpend : (s.link link.val).pend.find? v = some p)
    (hdue : s.reg (0x2100 + 0x40 * link.val + v) 1 ≤ p.count ∨
      (s.reg (0x2100 + 0x40 * link.val + v) 2 ≠ 0 ∧ s.reg (0x2100 + 0x40 * link.val + v) 2 ≤ s.clock.beat - p.since))
    (hsend : (s.link link.val).canSend v = true) :
    exec (.msixModerationExpire link v) s = .next { s with
      out := [.msix link.val v p.sources ((s.link link.val).table.get v (0, 0))],
      links := s.links.put link.val { s.link link.val with pend := (s.link link.val).pend.del v } } := by
  show execMsixModerationExpire link v s = _
  have hdue' : (decide (s.reg (0x2100 + 0x40 * link.val + v) 1 ≤ p.count) ||
      (decide (s.reg (0x2100 + 0x40 * link.val + v) 2 ≠ 0) &&
        decide (s.reg (0x2100 + 0x40 * link.val + v) 2 ≤ s.clock.beat - p.since))) = true := by
    simpa using hdue
  have hlink : s.fresh.link link.val = s.link link.val := rfl
  simp only [execMsixModerationExpire, State.sendPend, hlink, hpend, hdue', hsend, and_self, if_true]
  rfl

/-- A vector's table entry and mask reports leave. -/
theorem Link.SameButReports.vectors {a b : Link} (h : Link.SameButReports a b) :
    b.unmasked = a.unmasked ∧ b.table = a.table := by
  obtain ⟨h, -, -⟩ := h
  rw [h]
  exact ⟨rfl, rfl⟩

theorem mem_ifNew (v : Nat) (l : List Nat) : v ∈ (if l.contains v then l else v :: l) := by
  split
  · rename_i h
    simpa using h
  · exact List.mem_cons_self

/-- An unmasked vector has an entry, and what was pending is sent (R69). -/
theorem msixVectorUnmask_spec {s : State} {link : Fin 4} {v : Nat} (hup : (s.link link.val).up = true)
    (hv : v < s.vectorCount link.val) :
    ∃ t, exec (.msixVectorUnmask link (some v)) s = .next t ∧ v ∈ (t.link link.val).unmasked
      ∧ ((t.link link.val).table.find? v).isSome = true
      ∧ SameButReports { s with
        out := [], links := s.links.put link.val
          { s.link link.val with unmasked := (t.link link.val).unmasked, table := (t.link link.val).table } } t := by
  have hexec : exec (.msixVectorUnmask link (some v)) s = .next ((s.fresh.drawn.drawn.setLink link.val
      { s.link link.val with
        unmasked := if (s.link link.val).unmasked.contains v then (s.link link.val).unmasked
          else v :: (s.link link.val).unmasked,
        table := (s.link link.val).table.put v (Config.free s.free, Config.free (s.free + 1)) }).flushPend link.val) :=
    congrArg Host.Outcome.next (if_pos ⟨hup, hv⟩)
  have hrep := (((SameButReports.refl s.fresh).regs_both s.regs s.free (s.free + 2)).setLink_both link.val
    (Link.SameButReports.refl _)).trans (State.flushPend_reports (s.fresh.drawn.drawn.setLink link.val
      { s.link link.val with
        unmasked := if (s.link link.val).unmasked.contains v then (s.link link.val).unmasked
          else v :: (s.link link.val).unmasked,
        table := (s.link link.val).table.put v (Config.free s.free, Config.free (s.free + 1)) }) link.val)
  obtain ⟨-, -, -, -, hlinks, -⟩ := id hrep
  obtain ⟨hunmasked, htable⟩ := (hlinks link.val).vectors
  rw [State.link_setLink_self] at hunmasked htable
  refine ⟨_, hexec, ?_, ?_, ?_⟩
  · rw [hunmasked]
    exact mem_ifNew _ _
  · rw [htable, Map.find?_put_self]
    rfl
  · rw [hunmasked, htable]
    exact hrep

/-! ### The obligation -/

/-- On a link that is not up a request of the link itself does nothing (log entry 2). -/
theorem exec_link_not_up {s : State} {link : Fin 4} (hdown : (s.link link.val).up = false) (d : Fin 4)
    (lane errors base size ways gran w : Nat) (lost l0p voltage table : Bool) (v : Option Nat) (step : Int) :
    exec (.laneFault link lane errors lost l0p) s = .next { s with out := [.notApplicable] }
      ∧ exec (.hdmDecoderCommit link d base size ways gran) s = .next { s with out := [.notApplicable] }
      ∧ exec (.msixVectorUnmask link v) s = .next { s with out := [.notApplicable] }
      ∧ exec (.l0pHostRequest link w) s = .next { s with out := [.notApplicable] }
      ∧ exec (.doeCdatAccess link table) s = .next { s with out := [.notApplicable] }
      ∧ exec (.laneMargining link lane voltage step) s = .next { s with out := [.notApplicable] } := by
  have hnot : ¬ (s.link link.val).up = true := by simp [hdown]
  refine ⟨congrArg _ (if_neg fun h => hnot h.1), congrArg _ (if_neg hnot), congrArg Host.Outcome.next ?_,
    congrArg _ (if_neg fun h => hnot h.1), congrArg _ (if_neg fun h => hnot h.1), congrArg _ (if_neg fun h => hnot h.1)⟩
  cases v with
  | none => exact if_neg hnot
  | some v => exact if_neg fun h => hnot h.1

/-- Settles O15: each does what its rule says on a link that is up, and nothing on another. -/
theorem laneFaultsAndDecoders : Obligations.LaneFaultsAndDecoders := by
  unfold Obligations.LaneFaultsAndDecoders
  refine ⟨fun s link lane errors lost l0p hup hlane hover => ?_, fun s link d base size ways gran hup => ?_,
    fun s link v p hpend hdue hup hmsix hv => exec_msixModerationExpire hpend hdue (by simp [Link.canSend, hup, hmsix, hv]),
    fun s link v hup hv => msixVectorUnmask_spec hup hv, fun s link hup => ?_,
    fun s link w hup hw hlive => congrArg Host.Outcome.next (if_pos ⟨hup, List.contains_iff_mem.mpr hw, hlive⟩),
    fun s link hup => congrArg Host.Outcome.next (if_pos ⟨hup, rfl⟩),
    fun s link lane voltage step hup hlane => congrArg Host.Outcome.next (if_pos ⟨hup, hlane⟩),
    fun s link d lane errors base size ways gran w lost l0p voltage table v step hdown =>
      exec_link_not_up hdown d lane errors base size ways gran w lost l0p voltage table v step⟩
  · exact ⟨_, exec_laneFault l0p hup hlane hover, State.faultOpen_reports _ _ _, State.faultOpen_hasFault _ _ _⟩
  · rw [exec_hdmDecoderCommit hup]
    simp only [State.commitGood_iff]
    rfl
  · exact ⟨_, congrArg Host.Outcome.next (if_pos hup), State.flushPend_reports _ _⟩

end Sys2Proof.Machine
end

section
/-! PROOFS. Mailbox commands that set something (R56, R63, R64, R65, R67). -/
namespace Sys2Proof.Machine

/-! ### What a request and an answer leave of a link's logs -/

theorem State.sendPend_logs (s : State) (i v j : Nat) : ((s.sendPend i v).link j).logs = (s.link j).logs := by
  unfold State.sendPend
  split
  · rfl
  · split
    · by_cases hj : j = i
      · subst hj
        exact (congrArg Link.logs (Map.get_put_self _ _ _ _)).trans rfl
      · exact congrArg Link.logs (Map.get_put_of_ne _ _ _ _ _ hj)
    · rfl

theorem State.setLink_logs (s : State) (i j : Nat) {l : Link} (h : l.logs = (s.link i).logs) :
    ((s.setLink i l).link j).logs = (s.link j).logs := by
  by_cases hj : j = i
  · subst hj
    rw [State.link_setLink_self, h]
  · rw [State.link_setLink_of_ne _ _ hj]

theorem State.signal_logs (s : State) (i src j : Nat) : ((s.signal i src).link j).logs = (s.link j).logs := by
  unfold State.signal
  dsimp only
  split
  · rfl
  · split
    · exact (State.sendPend_logs _ _ _ _).trans (State.setLink_logs s i j rfl)
    · exact State.setLink_logs s i j rfl

theorem State.mail_logs (s : State) (i op : Nat) (rc : MailRc) (p : List Nat) (j : Nat) :
    ((s.mail i op rc p).link j).logs = (s.link j).logs := by
  unfold State.mail
  split
  · exact State.signal_logs _ _ _ _
  · exact (State.signal_logs _ _ _ _).trans (State.setLink_logs s i j rfl)

/-- Links that leave L1 keep their logs. -/
theorem wakeLinks_logs (ws : List Nat) (m : Map Link) (j : Nat) :
    ((ws.foldl (fun m i => m.put i { m.get i Link.reset with state := .l0 }) m).get j Link.reset).logs
      = (m.get j Link.reset).logs := by
  induction ws generalizing m with
  | nil => rfl
  | cons i ws ih =>
    rw [List.foldl_cons, ih]
    by_cases hj : j = i
    · subst hj
      rw [Map.get_put_self]
    · rw [Map.get_put_of_ne _ _ _ _ _ hj]

theorem State.beginWake_logs (s : State) (on : Option Nat) (j : Nat) :
    ((s.beginWake on).link j).logs = (s.link j).logs := by
  unfold State.beginWake
  dsimp only
  split
  · rfl
  · refine (wakeLinks_logs _ _ j).trans ?_
    rw [State.checkDqs_links, State.endPeriod_links]
    rfl

/-- A CXL.io request records nothing. -/
theorem State.ioArrives_logs (s : State) (i j : Nat) : ((s.ioArrives i).link j).logs = (s.link j).logs := by
  unfold State.ioArrives
  split
  · rfl
  · rename_i honline
    unfold State.fire
    dsimp only
    split
    · rfl
    · split
      · exact State.beginWake_logs _ _ _
      · rename_i h
        exact absurd h honline
      · rfl

/-! ### The shape of a setting command -/

/-- A command that changes its own link answers with Success; what it has set stands. -/
theorem State.setting_answers {s : State} {link : Fin 4} (hup : (s.link link.val).up = true) (hlost : s.bureau.lost = false)
    {op : Nat} {f : State → State} {l l' : Link}
    (hf : f (s.fresh.ioArrives link.val)
      = ((s.fresh.ioArrives link.val).setLink link.val l').mail link.val op .success [])
    (hl : Link.SameButReports l l') (hlup : l.up = true) :
    ∃ t, s.mailbox link op f = .next t
      ∧ Answered { s with out := [], links := s.links.put link.val l } t link.val op .success []
      ∧ (t.link link.val).logs = l'.logs ∧ (t.link link.val).lsa = l'.lsa := by
  have hrep := (s.fresh.ioArrives_reports link.val).setLink_both link.val hl
  have hmail := State.mail_reports ((s.fresh.ioArrives link.val).setLink link.val l') link.val op .success []
  obtain ⟨-, -, -, -, hlinks, -⟩ := hmail
  obtain ⟨hlink, -⟩ := hlinks link.val
  rw [State.link_setLink_self] at hlink
  refine ⟨_, (State.mailbox_acts hup hlost op f).trans (congrArg _ hf), State.mail_answered hrep ?_ op _ _, ?_, ?_⟩
  · rw [State.link_setLink_self]
    exact hlup
  · rw [State.mail_logs, State.link_setLink_self]
  · rw [hlink]

/-- The link as a request finds it: but for reports it is as it was, with the same logs. -/
theorem State.ioArrives_link (s : State) (i : Nat) :
    Link.SameButReports (s.link i) ((s.fresh.ioArrives i).link i)
      ∧ ((s.fresh.ioArrives i).link i).logs = (s.link i).logs := by
  obtain ⟨-, -, -, -, hlinks, -⟩ := s.fresh.ioArrives_reports i
  exact ⟨hlinks i, s.fresh.ioArrives_logs i i⟩

theorem State.ioArrives_vectorCount (s : State) (i : Nat) : (s.fresh.ioArrives i).vectorCount i = s.vectorCount i := by
  obtain ⟨h, -⟩ := s.fresh.ioArrives_reports i
  rw [State.vectorCount, h]
  rfl

/-! ### LSA bytes -/

/-- A byte after bytes have been put at an offset, one by one. -/
theorem Mem.byte_foldl_putList (l : List Nat) (m : List Host.Cell) (off : Nat) (d : List Byte) (x : Nat)
    (h : Mem.wf m = true) :
    Mem.byte (l.foldl (fun m i => Mem.put m (off + i) ((d[i]?).getD 0)) m) x
      = if off ≤ x ∧ x - off ∈ l then (d[x - off]?).getD 0 else Mem.byte m x := by
  induction l generalizing m with
  | nil => simp
  | cons i l ih =>
    rw [List.foldl_cons, ih _ (Mem.wf_put _ _ _ h), Mem.byte_put _ _ _ _ h]
    by_cases hl : off ≤ x ∧ x - off ∈ l
    · rw [if_pos hl, if_pos ⟨hl.1, List.mem_cons_of_mem _ hl.2⟩]
    · rw [if_neg hl]
      by_cases hx : x = off + i
      · subst hx
        simp
      · have hcons : ¬ (off ≤ x ∧ x - off ∈ i :: l) := by
          rintro ⟨hle, hmem⟩
          rcases List.mem_cons.mp hmem with heq | hin
          · omega
          · exact hl ⟨hle, hin⟩
        rw [if_neg hx, if_neg hcons]

/-! ### Wall time -/

/-- The clock and the fleet time changed in both states. -/
theorem SameButReports.clock_both {s t : State} (h : SameButReports s t) (c : Clock) (tr : Trestle) :
    SameButReports { s with clock := c, trestle := tr } { t with clock := c, trestle := tr } := by
  obtain ⟨h1, h2, h3, h4, h5, h6⟩ := h
  exact ⟨congrArg (fun u : State => { u with clock := c, trestle := tr }) h1, h2, h3, h4, h5, h6⟩

/-- The wall time set, but for the count of a backward step and its record. -/
def State.walled (s : State) (ns : Int) : State :=
  { s with clock := { s.clock with wallNs := ns, wallSet := true }, trestle := { s.trestle with sync := none } }

/-- A backward step is counted; else the time is set and no more than recorded (R65, R380). -/
theorem State.setWall_cases (s : State) (ns : Int) :
    if s.clock.wallSet = true ∧ ns < s.clock.wallNs then SameButReports ((s.walled ns).addReg 0x1200 4 1) (s.setWall ns)
    else SameButReports (s.walled ns) (s.setWall ns) := by
  have hback : (s.clock.wallSet = true ∧ ns < if s.clock.wallSet = true then s.clock.wallNs else 0)
      ↔ (s.clock.wallSet = true ∧ ns < s.clock.wallNs) := and_congr_right fun h => by rw [if_pos h]
  unfold State.setWall
  dsimp only
  by_cases h : s.clock.wallSet = true ∧ ns < s.clock.wallNs
  · rw [if_pos h, if_pos (hback.mpr h)]
    exact State.note_reports _ _ _
  · rw [if_neg h, if_neg (mt hback.mp h)]
    by_cases hsame : ns = (if s.clock.wallSet = true then s.clock.wallNs else 0) ∧ s.clock.wallSet = true
    · rw [if_pos hsame]
      exact .refl _
    · rw [if_neg hsame]
      exact State.note_reports _ _ _

/-- Set Timestamp sets the wall time; a backward step is counted (R65). -/
theorem setTimestamp_answers {s : State} {link : Fin 4} (hup : (s.link link.val).up = true) (hlost : s.bureau.lost = false)
    (ns : Nat) : ∃ t, exec (.setTimestamp link ns) s = .next t
      ∧ Answered { s with
          out := [], clock := { s.clock with wallNs := ofS64 (ns % 2 ^ 64), wallSet := true },
          regs := t.regs, trestle := { s.trestle with sync := none } } t link.val 0x0301 .success []
      ∧ RegsKept s t [key 0x1200 4]
      ∧ (if s.clock.wallSet = true ∧ ofS64 (ns % 2 ^ 64) < s.clock.wallNs then Counted s t 0x1200 4 1
         else t.reg 0x1200 4 = s.reg 0x1200 4) := by
  have hrep := s.fresh.ioArrives_reports link.val
  set u := s.fresh.ioArrives link.val with hu
  set w := ofS64 (ns % 2 ^ 64) with hw
  have hclock : u.clock = s.clock := by rw [hrep.1]; rfl
  have htrestle : u.trestle = s.trestle := by rw [hrep.1]; rfl
  have hwalled : SameButReports (s.fresh.walled w) (u.walled w) := by
    rw [State.walled, State.walled, hclock, htrestle]
    exact hrep.clock_both _ _
  have hnot : key 0x1200 4 ∉ reportEntries := by decide
  have hwin : key 0x1200 4 ∉ windowEntries := by decide
  have hexec : exec (.setTimestamp link ns) s = .next ((u.setWall w).mail link.val 0x0301 .success []) := by
    show execSetTimestamp link ns s = _
    rw [execSetTimestamp, State.mailbox_acts hup hlost]
  have hset := u.setWall_cases w
  rw [hclock] at hset
  by_cases hback : s.clock.wallSet = true ∧ w < s.clock.wallNs
  · rw [if_pos hback] at hset
    have hboth := hwalled.regs_both ((u.walled w).addReg 0x1200 4 1).regs s.free ((u.walled w).addReg 0x1200 4 1).free
    have hall := hboth.trans hset
    have hanswer := State.mail_answered hall hup 0x0301 .success []
    have hmail := State.mail_reports (u.setWall w) link.val 0x0301 .success []
    refine ⟨_, hexec, ⟨hanswer.1.own_regs, hanswer.2⟩, ?_, ?_⟩
    · refine RegsKept.trans (t := (u.walled w).addReg 0x1200 4 1) hrep.mode ?_ ((hset.trans hmail).regsKept _)
      exact (hrep.regsKept _).put (List.mem_singleton_self _) _ rfl
    · rw [if_pos hback]
      have hcount : Counted u ((u.walled w).addReg 0x1200 4 1) 0x1200 4 1 := (u.walled w).addReg_counted 0x1200 4 1
      exact (hcount.of_reg (hrep.reg_kept hnot hwin)).reports (hset.trans hmail) hnot hwin
  · rw [if_neg hback] at hset
    have hanswer := State.mail_answered (hwalled.trans hset) hup 0x0301 .success []
    refine ⟨_, hexec, ⟨hanswer.1.own_regs, hanswer.2⟩, ?_, ?_⟩
    · exact hanswer.1.regsKept _
    · rw [if_neg hback]
      exact hanswer.1.reg_kept hnot hwin

end Sys2Proof.Machine
end

section
/-! PROOFS. The mailbox commands that set (R56). -/
namespace Sys2Proof.Machine

/-- Clear Event Records of a whole log or of records that are there (R63). -/
theorem clearEventRecords_answers {s : State} {link : Fin 4} (hup : (s.link link.val).up = true) (hlost : s.bureau.lost = false)
    (log : Fin 4) (all : Bool) (handles : List Nat) {rest : List ChestRec}
    (hrest : rest = if all then [] else ((s.link link.val).logs.get log.val []).filter fun r => !handles.contains r.seq)
    (hknown : all = false → ∀ h ∈ handles, ∃ r ∈ (s.link link.val).logs.get log.val [], r.seq = h) :
    ∃ t, exec (.clearEventRecords link log all handles) s = .next t
      ∧ Answered { s with
        out := [], links := s.links.put link.val
          { s.link link.val with logs := (s.link link.val).logs.put log.val rest } } t link.val 0x0101 .success []
      ∧ ∀ k, (t.link link.val).logs.get k [] = if k = log.val then rest else (s.link link.val).logs.get k [] := by
  obtain ⟨hlink, hlogs⟩ := s.ioArrives_link link.val
  obtain ⟨h1, h2, h3⟩ := hlink
  have hl : Link.SameButReports { s.link link.val with logs := (s.link link.val).logs.put log.val rest }
      { (s.fresh.ioArrives link.val).link link.val with logs := (s.link link.val).logs.put log.val rest } :=
    ⟨by rw [h1], h2, h3⟩
  obtain ⟨t, hexec, hanswer, hkept, -⟩ := State.setting_answers (op := 0x0101)
    (f := fun t => ((t.setLink link.val { t.link link.val with logs := (t.link link.val).logs.put log.val rest }).mail
      link.val 0x0101 .success [])) hup hlost (by rw [hlogs]) hl hup
  refine ⟨t, ?_, hanswer, fun k => ?_⟩
  · show execClearEventRecords link log all handles s = _
    rw [← hexec, execClearEventRecords, State.mailbox_acts hup hlost, State.mailbox_acts hup hlost]
    dsimp only
    rw [hlogs, hrest]
    cases all with
    | true => rfl
    | false =>
      have hany : (handles.any fun h => !(((s.link link.val).logs.get log.val []).any fun r => r.seq == h)) = false := by
        rw [List.any_eq_false]
        intro h hh
        obtain ⟨r, hr, rfl⟩ := hknown rfl h hh
        simp only [Bool.not_eq_true, Bool.not_eq_false', List.any_eq_true]
        exact ⟨r, hr, by simp⟩
      rw [if_neg Bool.false_ne_true, if_neg Bool.false_ne_true, hany, if_neg Bool.false_ne_true]
  · rw [hkept]
    by_cases hk : k = log.val
    · rw [if_pos hk, hk, Map.get_put_self]
    · rw [if_neg hk, Map.get_put_of_ne _ _ _ _ _ hk]

/-- A handle of no record clears nothing (R63). -/
theorem clearEventRecords_refused {s : State} {link : Fin 4} (hup : (s.link link.val).up = true) (hlost : s.bureau.lost = false)
    (log : Fin 4) {handles : List Nat}
    (hunknown : ∃ h ∈ handles, ∀ r ∈ (s.link link.val).logs.get log.val [], r.seq ≠ h) :
    ∃ t, exec (.clearEventRecords link log false handles) s = .next t
      ∧ Answered { s with out := [] } t link.val 0x0101 .invalidHandle [] := by
  obtain ⟨-, hlogs⟩ := s.ioArrives_link link.val
  show ∃ t, execClearEventRecords link log false handles s = _ ∧ _
  rw [execClearEventRecords]
  refine State.mailbox_answers hup hlost ?_
  dsimp only
  obtain ⟨h, hh, hnone⟩ := hunknown
  rw [hlogs, if_neg Bool.false_ne_true, if_pos]
  rw [List.any_eq_true]
  refine ⟨h, hh, ?_⟩
  rw [Bool.not_eq_true', List.any_eq_false]
  exact fun r hr => by simpa using hnone r hr

/-! ### Message numbers -/

theorem vectors_all_iff (v : Map Nat) (n : Nat) :
    (v.all fun e => decide (1 ≤ e.1) && decide (e.1 ≤ 4) && decide (e.2 < n)) = true
      ↔ ∀ e ∈ v, 1 ≤ e.1 ∧ e.1 ≤ 4 ∧ e.2 < n := by
  rw [List.all_eq_true]
  simp only [Bool.and_eq_true, decide_eq_true_eq, and_assoc]

theorem setEventInterruptPolicy_answers {s : State} {link : Fin 4} (hup : (s.link link.val).up = true)
    (hlost : s.bureau.lost = false) {v : Map Nat} (hv : ∀ e ∈ v, 1 ≤ e.1 ∧ e.1 ≤ 4 ∧ e.2 < s.vectorCount link.val) :
    ∃ t, exec (.setEventInterruptPolicy link v) s = .next t
      ∧ Answered { s with out := [], links := s.links.put link.val { s.link link.val with
          eventVectors := v.foldl (fun m e => m.put e.1 e.2) (s.link link.val).eventVectors } } t
          link.val 0x0103 .success [] := by
  obtain ⟨⟨h1, h2, h3⟩, -⟩ := s.ioArrives_link link.val
  have hvectors : ((s.fresh.ioArrives link.val).link link.val).eventVectors = (s.link link.val).eventVectors := by rw [h1]
  obtain ⟨t, hexec, hanswer, -⟩ := State.setting_answers (op := 0x0103)
    (l := { s.link link.val with eventVectors := v.foldl (fun m e => m.put e.1 e.2) (s.link link.val).eventVectors })
    (l' := { (s.fresh.ioArrives link.val).link link.val with
      eventVectors := v.foldl (fun m e => m.put e.1 e.2) (s.link link.val).eventVectors })
    (f := fun t => ((t.setLink link.val { t.link link.val with
        eventVectors := v.foldl (fun m e => m.put e.1 e.2) (t.link link.val).eventVectors }).mail
      link.val 0x0103 .success [])) hup hlost (by rw [hvectors]) ⟨by rw [h1], h2, h3⟩ hup
  refine ⟨t, ?_, hanswer⟩
  show execSetEventInterruptPolicy link v s = _
  rw [← hexec, execSetEventInterruptPolicy, State.mailbox_acts hup hlost, State.mailbox_acts hup hlost]
  dsimp only
  rw [s.ioArrives_vectorCount, if_pos ((vectors_all_iff _ _).mpr hv)]

theorem setEventInterruptPolicy_refused {s : State} {link : Fin 4} (hup : (s.link link.val).up = true)
    (hlost : s.bureau.lost = false) {v : Map Nat} (hv : ∃ e ∈ v, e.1 = 0 ∨ 4 < e.1 ∨ s.vectorCount link.val ≤ e.2) :
    ∃ t, exec (.setEventInterruptPolicy link v) s = .next t
      ∧ Answered { s with out := [] } t link.val 0x0103 .invalidInput [] := by
  show ∃ t, execSetEventInterruptPolicy link v s = _ ∧ _
  rw [execSetEventInterruptPolicy]
  refine State.mailbox_answers hup hlost ?_
  dsimp only
  rw [s.ioArrives_vectorCount, if_neg]
  rw [vectors_all_iff]
  obtain ⟨e, he, hbad⟩ := hv
  intro hall
  have := hall e he
  omega

/-! ### LSA -/

theorem getLsa_answers {s : State} {link : Fin 4} (hup : (s.link link.val).up = true) (hlost : s.bureau.lost = false)
    {off len : Nat} (hoff : off + len ≤ 131072) (hlen : len ≤ 4096) :
    ∃ t, exec (.getLsa link off len) s = .next t ∧ Answered { s with out := [] } t link.val 0x4102 .success
      ((List.range len).map fun i => (Mem.byte (s.link link.val).lsa (off + i)).toNat) := by
  obtain ⟨⟨h1, -, -⟩, -⟩ := s.ioArrives_link link.val
  have hlsa : ((s.fresh.ioArrives link.val).link link.val).lsa = (s.link link.val).lsa := by rw [h1]
  show ∃ t, execGetLsa link off len s = _ ∧ _
  rw [execGetLsa]
  refine State.mailbox_answers hup hlost ?_
  rw [if_pos ⟨hoff, hlen⟩, hlsa]

/-- A link's LSA with bytes put at an offset. -/
def Link.putLsa (l : Link) (off : Nat) (data : List Byte) : Link :=
  { l with lsa := (List.range data.length).foldl (fun m i => Mem.put m (off + i) ((data[i]?).getD 0)) l.lsa }

theorem Link.putLsa_byte {l : Link} (hwf : Mem.wf l.lsa = true) (off : Nat) (data : List Byte) (a : Nat) :
    Mem.byte (l.putLsa off data).lsa a
      = if off ≤ a ∧ a < off + data.length then (data[a - off]?).getD 0 else Mem.byte l.lsa a := by
  rw [Link.putLsa, Mem.byte_foldl_putList _ _ _ _ _ hwf]
  have : (off ≤ a ∧ a - off ∈ List.range data.length) ↔ (off ≤ a ∧ a < off + data.length) := by
    rw [List.mem_range]
    omega
  simp only [this]

theorem setLsa_answers {s : State} {link : Fin 4} (hup : (s.link link.val).up = true) (hlost : s.bureau.lost = false)
    {off : Nat} {data : List Byte} (hoff : off + data.length ≤ 131072) (hlen : data.length ≤ 4096)
    (hwf : Mem.wf (s.link link.val).lsa = true) :
    ∃ t, exec (.setLsa link off data) s = .next t
      ∧ Answered { s with
        out := [], links := s.links.put link.val { s.link link.val with lsa := (t.link link.val).lsa } } t
          link.val 0x4103 .success []
      ∧ ∀ a, Mem.byte (t.link link.val).lsa a =
          if off ≤ a ∧ a < off + data.length then (data[a - off]?).getD 0 else Mem.byte (s.link link.val).lsa a := by
  obtain ⟨⟨h1, h2, h3⟩, -⟩ := s.ioArrives_link link.val
  have hlsa : (((s.fresh.ioArrives link.val).link link.val).putLsa off data).lsa = ((s.link link.val).putLsa off data).lsa := by
    rw [h1]
    rfl
  obtain ⟨t, hexec, hanswer, -, hkept⟩ := State.setting_answers (op := 0x4103)
    (l := (s.link link.val).putLsa off data)
    (f := fun t => ((t.setLink link.val ((t.link link.val).putLsa off data)).mail link.val 0x4103 .success [])) hup hlost rfl
    ⟨by rw [h1]; rfl, h2, h3⟩ hup
  refine ⟨t, ?_, ?_, fun a => ?_⟩
  · show execSetLsa link off data s = _
    rw [← hexec, execSetLsa, State.mailbox_acts hup hlost, State.mailbox_acts hup hlost]
    dsimp only
    rw [if_pos ⟨hoff, hlen⟩]
    rfl
  · rw [hkept, hlsa]
    exact hanswer
  · rw [hkept, hlsa, Link.putLsa_byte hwf]

/-! ### The obligation -/

/-- Settles O18: each command's setting of its own link, or of the wall time. -/
theorem mailboxSettings : Obligations.MailboxSettings := by
  unfold Obligations.MailboxSettings
  intro s link hup hlost
  obtain ⟨⟨h1, h2, h3⟩, -⟩ := s.ioArrives_link link.val
  refine ⟨fun log => clearEventRecords_answers hup hlost log true [] rfl nofun,
    fun log handles hknown => clearEventRecords_answers hup hlost log false handles rfl fun _ => hknown,
    fun log handles hunknown => clearEventRecords_refused hup hlost log hunknown,
    fun v hv => setEventInterruptPolicy_answers hup hlost hv,
    fun v hv => setEventInterruptPolicy_refused hup hlost hv, fun ns => setTimestamp_answers hup hlost ns,
    fun off len hoff hlen => getLsa_answers hup hlost hoff hlen, fun off len hbad => ?_,
    fun off data hoff hlen hwf => setLsa_answers hup hlost hoff hlen hwf, fun off data hbad => ?_, fun c => ?_,
    fun x hx => ?_, fun x hx => ?_⟩
  · show ∃ t, execGetLsa link off len s = _ ∧ _
    rw [execGetLsa]
    exact State.mailbox_answers hup hlost (if_neg (by omega))
  · show ∃ t, execSetLsa link off data s = _ ∧ _
    rw [execSetLsa]
    exact State.mailbox_answers hup hlost (if_neg (by omega))
  · obtain ⟨t, hexec, hanswer, -⟩ := State.setting_answers (op := 0x4202)
      (l := { s.link link.val with alert := c })
      (f := fun t => (t.setLink link.val { t.link link.val with alert := c }).mail link.val 0x4202 .success [])
      hup hlost rfl ⟨by rw [h1], h2, h3⟩ hup
    exact ⟨t, hexec, hanswer⟩
  · obtain ⟨t, hexec, hanswer, -⟩ := State.setting_answers (op := 0x4204)
      (l := { s.link link.val with shutdownState := x })
      (f := fun t => if x ≤ 1 then
        (t.setLink link.val { t.link link.val with shutdownState := x }).mail link.val 0x4204 .success []
        else t.mail link.val 0x4204 .invalidInput [])
      hup hlost (if_pos hx) ⟨by rw [h1], h2, h3⟩ hup
    exact ⟨t, hexec, hanswer⟩
  · show ∃ t, execSetShutdownState link x s = _ ∧ _
    rw [execSetShutdownState]
    exact State.mailbox_answers hup hlost (if_neg (by omega))

end Sys2Proof.Machine
end

section
/-! PROOFS. Wake sources: what each leaves of the control state and of `wake_cause` (R334, R335, R338). -/
namespace Sys2Proof.Machine

/-! ### What a wake source does -/

theorem State.setReg_wakeEnabled (s : State) (v src : Nat) : (s.setReg 0x1113 0 v).wakeEnabled src = s.wakeEnabled src := by
  rw [State.wakeEnabled, State.reg_setReg_of_ne _ _ (by decide), State.wakeEnabled]

theorem State.fire_of_disabled {s : State} {src : Nat} (h : s.wakeEnabled src = false) (on : Option Nat) :
    s.fire src on = s.setReg 0x1113 0 (2 ^ src) := if_pos h

theorem State.fire_of_drowse {s : State} {src : Nat} (h : s.wakeEnabled src = true) (hmode : s.ctl.mode = .drowse)
    (on : Option Nat) : s.fire src on = (s.setReg 0x1113 0 (2 ^ src)).beginWake on := by
  unfold State.fire
  dsimp only
  rw [if_neg (by simp [h]), hmode]

theorem State.fire_of_online {s : State} {src : Nat} (h : s.wakeEnabled src = true) (hmode : s.ctl.mode = .online)
    (hsrc : src ≠ 0) (on : Option Nat) : s.fire src on = (s.setReg 0x1113 0 (2 ^ src)).withdraw 15 := by
  unfold State.fire
  dsimp only
  rw [if_neg (by simp [h]), hmode]
  exact if_neg hsrc

/-- Reports leave which sources are enabled. -/
theorem SameButReports.wakeEnabled {s t : State} (h : SameButReports s t) (src : Nat) :
    t.wakeEnabled src = s.wakeEnabled src := by
  rw [State.wakeEnabled, State.wakeEnabled, h.reg_kept (by decide) (by decide)]

/-! ### `wake_cause` -/

theorem State.withdraw_regs (s : State) (m : BitVec 4) {k : Nat} (h1 : k ≠ key 0x7422 0) (h2 : k ≠ key 0x7431 1) :
    (s.withdraw m).regs.find? k = s.regs.find? k := by
  unfold State.withdraw
  split
  · rfl
  · exact (State.record_kept _ _ _ _).regs k h1 h2

theorem State.endPeriod_regs (s : State) : s.endPeriod.regs = s.regs := by
  unfold State.endPeriod
  split <;> rfl

theorem State.window_regs (s : State) (c n : Nat) {k : Nat} (h : k ≠ key (0x3120 + c) 6) :
    (s.window c n).regs.find? k = s.regs.find? k := by
  simp [State.window, State.extendBound, State.drawn, State.addReg, h]

theorem State.checkDqs_regs (s : State) {k : Nat} (h : k ∉ windowEntries) : s.checkDqs.regs.find? k = s.regs.find? k := by
  unfold State.checkDqs
  have hall : ∀ c ∈ (List.range 13).filter (fun c => decide (s.reg (0x3400 + c) 2 ≠ 0)), k ≠ key (0x3120 + c) 6 := by
    rintro c hc rfl
    exact h (List.mem_map_of_mem (List.mem_filter.mp hc).1)
  generalize (List.range 13).filter (fun c => decide (s.reg (0x3400 + c) 2 ≠ 0)) = l at hall
  induction l generalizing s with
  | nil => rfl
  | cons c l ih =>
    rw [List.foldl_cons, ih _ fun d hd => hall d (List.mem_cons_of_mem _ hd), State.window_regs _ _ _ (hall c List.mem_cons_self)]

theorem State.beginWake_regs (s : State) (on : Option Nat) {k : Nat} (h : k ∉ windowEntries) :
    (s.beginWake on).regs.find? k = s.regs.find? k := by
  unfold State.beginWake
  dsimp only
  split
  · rfl
  · rw [State.checkDqs_regs _ h, State.endPeriod_regs]

/-- A source that fires stands in `wake_cause` (R335). -/
theorem State.fire_cause (s : State) (src : Nat) (on : Option Nat) : (s.fire src on).reg 0x1113 0 = 2 ^ src := by
  refine State.reg_of_find? ?_
  have hset : (s.setReg 0x1113 0 (2 ^ src)).regs.find? (key 0x1113 0) = some (2 ^ src) := by
    simp [State.setReg]
  unfold State.fire
  dsimp only
  split
  · exact hset
  · split
    · rw [State.beginWake_regs _ _ (by decide)]
      exact hset
    · split
      · exact hset
      · rw [State.withdraw_regs _ _ (by decide) (by decide)]
        exact hset
    · exact hset

/-! ### The sources of one cycle -/

/-- Sources that are not enabled leave the control state and the links. -/
theorem State.fire_disabled_all (l : List Nat) (s : State) (h : ∀ k ∈ l, s.wakeEnabled k = false) :
    (l.foldl (fun t k => t.fire k none) s).ctl = s.ctl ∧ (l.foldl (fun t k => t.fire k none) s).links = s.links := by
  induction l generalizing s with
  | nil => exact ⟨rfl, rfl⟩
  | cons k l ih =>
    rw [List.foldl_cons, State.fire_of_disabled (h k List.mem_cons_self)]
    exact ih _ fun j hj => (State.setReg_wakeEnabled _ _ _).trans (h j (List.mem_cons_of_mem _ hj))

theorem State.fireAll_reports (s : State) (now : BitVec 5) : SameButReports s (s.fireAll now) :=
  .foldl _ (fun t k => t.fire_reports k none) _ _

/-- With no enabled source among those that fire, the consents and the links stay (R336). -/
theorem State.fireAll_of_not_lost {s : State} {now : BitVec 5} (h : s.raceLost now = false) :
    (s.fireAll now).ctl = s.ctl ∧ (s.fireAll now).links = s.links :=
  State.fire_disabled_all _ _ fun k hk => by simpa using List.any_eq_false.mp h k hk

/-- In ONLINE a source other than HOST leaves no consent where none stands. -/
theorem State.fire_online_zero {s : State} {k : Nat} (hmode : s.ctl.mode = .online) (hk : k ≠ 0)
    (h : s.ctl.consents = 0 ∨ s.wakeEnabled k = true) : (s.fire k none).ctl.consents = 0 := by
  by_cases hen : s.wakeEnabled k = true
  · rw [State.fire_of_online hen hmode hk]
    have hw := State.withdraw_consents (s.setReg 0x1113 0 (2 ^ k)) 15
    rwa [show (15 : BitVec 4) = BitVec.allOnes 4 from rfl, BitVec.and_allOnes] at hw
  · rw [State.fire_of_disabled (by simpa using hen)]
    exact h.resolve_right hen

/-- An enabled source of the cycle withdraws every consent (R334). -/
theorem State.fire_online_all (l : List Nat) (s : State) (hmode : s.ctl.mode = .online) (hl : ∀ k ∈ l, k ≠ 0)
    (h : s.ctl.consents = 0 ∨ ∃ k ∈ l, s.wakeEnabled k = true) :
    (l.foldl (fun t k => t.fire k none) s).ctl.consents = 0 := by
  induction l generalizing s with
  | nil => exact h.resolve_right (by simp)
  | cons k l ih =>
    have hrep := s.fire_reports k none
    rw [List.foldl_cons]
    refine ih _ (hrep.mode.trans hmode) (fun j hj => hl j (List.mem_cons_of_mem _ hj)) ?_
    by_cases hk : s.ctl.consents = 0 ∨ s.wakeEnabled k = true
    · exact .inl (State.fire_online_zero hmode (hl k List.mem_cons_self) hk)
    · obtain ⟨j, hj, hen⟩ := h.resolve_left fun hz => hk (.inl hz)
      rcases List.mem_cons.mp hj with rfl | hin
      · exact absurd (.inr hen) hk
      · exact .inr ⟨j, hin, (hrep.wakeEnabled j).trans hen⟩

theorem State.fireAll_of_lost {s : State} {now : BitVec 5} (hmode : s.ctl.mode = .online) (h : s.raceLost now = true) :
    (s.fireAll now).ctl.consents = 0 := by
  refine State.fire_online_all _ s hmode (fun k hk => ?_) (.inr (List.any_eq_true.mp h))
  rintro rfl
  exact absurd (List.mem_filter.mp hk).1 (by decide)

/-! ### Links that change state together -/

theorem putStates_state (st : LinkState) (ws : List Nat) (m : Map Link) (j : Nat) :
    ((ws.foldl (fun m i => m.put i { m.get i Link.reset with state := st }) m).get j Link.reset).state
      = if j ∈ ws then st else (m.get j Link.reset).state := by
  induction ws generalizing m with
  | nil => rfl
  | cons i ws ih =>
    rw [List.foldl_cons, ih]
    by_cases hws : j ∈ ws
    · rw [if_pos hws, if_pos (List.mem_cons_of_mem _ hws)]
    · by_cases hj : j = i
      · subst hj
        rw [if_neg hws, Map.get_put_self, if_pos List.mem_cons_self]
      · rw [if_neg hws, Map.get_put_of_ne _ _ _ _ _ hj, if_neg (by simp [hj, hws])]

end Sys2Proof.Machine
end

section
/-! PROOFS. Consent to sleep, DROWSE and waking (R59, R333 to R338). -/
namespace Sys2Proof.Machine

/-! ### PREPARE_SLEEP -/

theorem SameButReports.own_entries {s t : State} (h : SameButReports s t) :
    SameButReports { s with regs := t.regs, free := t.free } t := by
  obtain ⟨h1, h2, h3, -, h5, h6⟩ := h
  exact ⟨by rw [h1], h2, h3, fun _ _ _ => rfl, h5, h6⟩

theorem State.expirePend_sameButLinks (s : State) (i : Nat) : SameButLinks s (s.expirePend i) :=
  .foldl _ (fun t v => t.sendPend_sameButLinks i v) _ _

theorem State.expirePend_reports (s : State) (i : Nat) : SameButReports s (s.expirePend i) :=
  .foldl _ (fun t v => t.sendPend_reports i v) _ _

theorem State.ioArrives_online {s : State} (h : s.ctl.mode = .online) (i : Nat) : s.ioArrives i = s := if_pos h

theorem exec_prepareSleep {s : State} {link : Fin 4} (hup : (s.link link.val).up = true) (wakeNow : BitVec 5)
    (memNow saveNow : Bool) : exec (.prepareSleep link wakeNow memNow saveNow) s
      = .next (s.fresh.prepareSleep link.val wakeNow memNow saveNow) := congrArg Host.Outcome.next (if_pos hup)

/-- A consent is recorded, once what was moderated has been sent (R59). -/
theorem prepareSleep_consents {s : State} {link : Fin 4} {wakeNow : BitVec 5} (hup : (s.link link.val).up = true)
    (hlost : s.bureau.lost = false) (hmode : s.ctl.mode = .online) (harm : s.save.arm = 0)
    (hrace : s.raceLost wakeNow = false) :
    ∃ t, exec (.prepareSleep link wakeNow false false) s = .next t
      ∧ Answered { s with out := [] } t link.val 0xC300 .success [0]
      ∧ t.ctl.consents = s.ctl.consents ||| BitVec.ofNat 4 (2 ^ link.val) := by
  have hrace' : s.fresh.raceLost wakeNow = false := hrace
  obtain ⟨hctl, -⟩ := State.fireAll_of_not_lost hrace'
  set u := (s.fresh.fireAll wakeNow).expirePend link.val with hu
  have hrep := (s.fresh.fireAll_reports wakeNow).trans (State.expirePend_reports _ link.val)
  have huctl : u.ctl = s.ctl := ((State.expirePend_sameButLinks _ _).kept.ctl).trans hctl
  have hconsent := hrep.trans (SameButReports.ctl u
    { u.ctl with consents := u.ctl.consents ||| BitVec.ofNat 4 (2 ^ link.val) } rfl)
  refine ⟨_, exec_prepareSleep hup _ _ _, ?_, ?_⟩
  all_goals rw [State.prepareSleep, s.fresh.ioArrives_online hmode, if_neg (by simp [State.fresh, hlost]),
    if_neg (by simp [State.fresh, hmode, harm]), if_neg (by simp [hrace'])]
  · exact State.mail_answered hconsent hup _ _ _
  · rw [(State.mail_sameButLinks _ _ _ _ _).kept.ctl]
    show u.ctl.consents ||| _ = _
    rw [huctl]

/-- Outside ONLINE, or beside a save, the request is refused (R59). -/
theorem prepareSleep_refused {s : State} {link : Fin 4} {saveNow : Bool} (hup : (s.link link.val).up = true)
    (hlost : s.bureau.lost = false) (hno : s.ctl.mode ≠ .online ∨ saveNow = true ∨ s.save.arm ≠ 0) (wakeNow : BitVec 5)
    (memNow : Bool) : ∃ t, exec (.prepareSleep link wakeNow memNow saveNow) s = .next t
      ∧ Answered { s with out := [] } t link.val 0xC300 .success [2] := by
  refine ⟨_, exec_prepareSleep hup _ _ _, ?_⟩
  have hno' : s.fresh.ctl.mode ≠ .online ∨ saveNow = true ∨ s.fresh.save.arm ≠ 0 := hno
  rw [State.prepareSleep, if_neg (by simp [State.fresh, hlost]), if_pos hno']
  exact State.mail_answered ((s.fresh.ioArrives_reports link.val).trans (State.fireAll_reports _ wakeNow)) hup _ _ _

/-- A request beside a memory request or an enabled wake event is refused and counted (R336). -/
theorem prepareSleep_races {s : State} {link : Fin 4} {wakeNow : BitVec 5} {memNow : Bool} (hup : (s.link link.val).up = true)
    (hlost : s.bureau.lost = false) (hmode : s.ctl.mode = .online) (harm : s.save.arm = 0)
    (hrace : memNow = true ∨ s.raceLost wakeNow = true) :
    ∃ t, exec (.prepareSleep link wakeNow memNow false) s = .next t
      ∧ Answered { s with out := [], regs := t.regs, free := t.free } t link.val 0xC300 .success [1]
      ∧ Counted s t 0x1114 0 1 ∧ RegsKept s t [key 0x1114 0] := by
  have hrace' : memNow = true ∨ s.fresh.raceLost wakeNow = true := hrace
  have hfire := s.fresh.fireAll_reports wakeNow
  obtain ⟨u, hu, hrep⟩ : ∃ u, u = (if memNow then (s.fresh.fireAll wakeNow).memArrives link.val else s.fresh.fireAll wakeNow)
      ∧ SameButReports s.fresh u := by
    refine ⟨_, rfl, ?_⟩
    split
    · exact hfire.trans (State.memArrives_reports _ _)
    · exact hfire
  have hexec : exec (.prepareSleep link wakeNow memNow false) s
      = .next ((u.addReg 0x1114 0 1).mail link.val 0xC300 .success [1]) := by
    rw [exec_prepareSleep hup, State.prepareSleep, s.fresh.ioArrives_online hmode, if_neg (by simp [State.fresh, hlost]),
      if_neg (by simp [State.fresh, hmode, harm]), if_pos hrace', hu]
  have hanswer := State.mail_answered (hrep.regs_both (u.addReg 0x1114 0 1).regs s.free (u.addReg 0x1114 0 1).free) hup 0xC300
    .success [1]
  have hmail := State.mail_reports (u.addReg 0x1114 0 1) link.val 0xC300 .success [1]
  refine ⟨_, hexec, ⟨hanswer.1.own_entries, hanswer.2⟩, ?_, ?_⟩
  · exact ((u.addReg_counted 0x1114 0 1).of_reg (hrep.reg_kept (by decide) (by decide))).reports hmail (by decide) (by decide)
  · refine RegsKept.trans (t := u.addReg 0x1114 0 1) hrep.mode ?_ (hmail.regsKept _)
    exact (hrep.regsKept _).put (List.mem_singleton_self _) _ rfl

/-! ### DROWSE_ENTRY -/

theorem exec_drowseEntry {s : State} {wakeNow : BitVec 5} (hmode : s.ctl.mode = .online) (harm : s.save.arm = 0)
    (hall : s.allConsent = true) : exec (.drowseEntry wakeNow) s
      = .next (if s.raceLost wakeNow then s.fresh.fireAll wakeNow else (s.fresh.fireAll wakeNow).enterDrowse) :=
  congrArg Host.Outcome.next (if_pos ⟨hmode, harm, hall⟩)

/-- DROWSE begins: links that are up enter L1, and the entry is counted (R333). -/
theorem drowseEntry_enters {s : State} {wakeNow : BitVec 5} (hmode : s.ctl.mode = .online) (harm : s.save.arm = 0)
    (hall : s.allConsent = true) (hrace : s.raceLost wakeNow = false) :
    ∃ t, exec (.drowseEntry wakeNow) s = .next t ∧ t.mem = s.mem ∧ t.leaves = s.leaves ∧ t.groups = s.groups
      ∧ t.ctl.mode = .drowse ∧ t.ctl.prevMode = .online ∧ t.ctl.modeBeat = s.clock.ext ∧ t.ctl.workersHalted = true
      ∧ t.ctl.waking = false ∧ Counted s t 0x1115 0 1 ∧ RegsKept s t [key 0x1115 0]
      ∧ ∀ i ∈ s.upLinks, (t.link i).state = .l1 := by
  obtain ⟨hctl, hlinks⟩ := State.fireAll_of_not_lost (s := s.fresh) hrace
  have hrep := s.fresh.fireAll_reports wakeNow
  have hserv := hrep.service
  set u := s.fresh.fireAll wakeNow with hu
  have hup : u.upLinks = s.upLinks := by
    rw [State.upLinks, State.upLinks]
    exact List.filter_congr fun i _ => by rw [State.link, hlinks]; rfl
  have hclock : u.clock = s.clock := by rw [hrep.1]; rfl
  refine ⟨u.enterDrowse, ?_, hserv.mem, hserv.leaves, hserv.groups, rfl, ?_, ?_, rfl, rfl, ?_, ?_, fun i hi => ?_⟩
  · rw [exec_drowseEntry hmode harm hall, if_neg (by simp [hrace])]
  · exact (congrArg Control.mode hctl).trans hmode
  · exact congrArg Clock.ext hclock
  · have hcount : Counted (u.setMode .drowse) u.enterDrowse 0x1115 0 1 := (u.setMode .drowse).addReg_counted 0x1115 0 1
    exact hcount.of_reg (hrep.reg_kept (by decide) (by decide))
  · exact (hrep.regsKept _).put (List.mem_singleton_self _) _ rfl
  · refine (putStates_state .l1 u.upLinks u.links i).trans (if_pos ?_)
    rwa [hup]

/-- A wake event in the cycle comes first, and withdraws the consents (R336). -/
theorem drowseEntry_races {s : State} {wakeNow : BitVec 5} (hmode : s.ctl.mode = .online) (harm : s.save.arm = 0)
    (hall : s.allConsent = true) (hrace : s.raceLost wakeNow = true) :
    ∃ t, exec (.drowseEntry wakeNow) s = .next t ∧ SameButReports { s with out := [] } t ∧ t.ctl.consents = 0 := by
  refine ⟨s.fresh.fireAll wakeNow, ?_, s.fresh.fireAll_reports wakeNow, State.fireAll_of_lost hmode hrace⟩
  rw [exec_drowseEntry hmode harm hall, if_pos hrace]

/-! ### Sources -/

/-- The timer is one-shot, and fires at its boundary (R335). -/
theorem wakeTimerFire_spec {s : State} (hset : s.reg 0x1112 0 ≠ 0) (hnow : s.clock.ext.toNat = s.reg 0x1112 0) :
    ∃ t, exec .wakeTimerFire s = .next t ∧ SameButReports { s with out := [], regs := t.regs } t
      ∧ t.reg 0x1112 0 = 0 ∧ t.reg 0x1113 0 = 8 ∧ RegsKept s t [key 0x1112 0] := by
  have hfire := (s.fresh.setReg 0x1112 0 0).fire_reports 3 none
  refine ⟨(s.fresh.setReg 0x1112 0 0).fire 3 none, congrArg Host.Outcome.next (if_pos ⟨hset, hnow⟩), ?_, ?_,
    State.fire_cause _ _ _, ?_⟩
  · exact hfire.own_regs
  · rw [hfire.reg_kept (by decide) (by decide), State.reg_setReg_self]
  · refine RegsKept.trans (t := s.fresh.setReg 0x1112 0 0) rfl ?_ (hfire.regsKept _)
    exact (RegsKept.of_regs (s := s) (t := s) rfl _).put (List.mem_singleton_self _) _ rfl

theorem State.beginWake_waking (s : State) (on : Option Nat) : (s.beginWake on).ctl.waking = true := by
  unfold State.beginWake
  dsimp only
  split
  · assumption
  · rfl

/-- A wake that begins clears the consents and takes its link out of L1 (R338). -/
theorem State.beginWake_first {s : State} (h : s.ctl.waking = false) (on : Option Nat) :
    (s.beginWake on).ctl.wakeBeat = s.clock.beat ∧ (s.beginWake on).ctl.consents = 0
      ∧ ∀ i < 4, on = some i → (s.link i).state = .l1 → ((s.beginWake on).link i).state = .l0 := by
  unfold State.beginWake
  dsimp only
  rw [if_neg (by simp [h])]
  refine ⟨rfl, rfl, fun i hi hon hl1 => (putStates_state .l0 _ _ i).trans (if_pos ?_)⟩
  refine List.mem_filter.mpr ⟨?_, by simp [hl1, hon]⟩
  simp only [linkNos, List.mem_cons, List.not_mem_nil, or_false]
  omega

/-- An enabled source in DROWSE begins the wake (R338). -/
theorem wake_spec {s : State} {source : Fin 5} {link : Option (Fin 4)} (hmode : s.ctl.mode = .drowse)
    (hen : s.wakeEnabled source.val = true) :
    ∃ t, exec (.wake source link) s = .next t ∧ SameButReports { s with out := [] } t ∧ t.ctl.waking = true
      ∧ t.reg 0x1113 0 = 2 ^ source.val ∧ (s.ctl.waking = false → t.ctl.wakeBeat = s.clock.beat ∧ t.ctl.consents = 0
        ∧ ∀ l, link = some l → (s.link l.val).state = .l1 → (t.link l.val).state = .l0) := by
  have hexec : exec (.wake source link) s = .next (s.fresh.fire source.val (link.map (·.val))) :=
    congrArg Host.Outcome.next (if_pos ⟨hmode, hen⟩)
  have hfire := State.fire_of_drowse (s := s.fresh) hen hmode (link.map (·.val))
  have hwaking := State.beginWake_waking (s.fresh.setReg 0x1113 0 (2 ^ source.val)) (link.map (·.val))
  have hfirst := State.beginWake_first (s := s.fresh.setReg 0x1113 0 (2 ^ source.val)) (on := link.map (·.val))
  rw [← hfire] at hwaking hfirst
  refine ⟨_, hexec, State.fire_reports _ _ _, hwaking, State.fire_cause _ _ _, fun hnot => ?_⟩
  obtain ⟨hbeat, hconsents, hlink⟩ := hfirst hnot
  exact ⟨hbeat, hconsents, fun l hl hl1 => hlink l.val l.isLt (by rw [hl]; rfl) hl1⟩

/-! ### WAKE_COMPLETE -/

/-- `t` is `s` but for the NAND image store. -/
def SameButNand (s t : State) : Prop := t = { s with nand := t.nand }

theorem SameButNand.refl (s : State) : SameButNand s s := rfl

theorem SameButNand.trans {s t u : State} (h : SameButNand s t) (k : SameButNand t u) : SameButNand s u := by
  unfold SameButNand at *
  rw [k, h]

theorem State.newSegment_sameButNand {s t : State} {lun n : Nat} (h : s.newSegment lun = some (t, n)) : SameButNand s t := by
  unfold State.newSegment at h
  split at h
  · cases h
  · cases h
    exact rfl

theorem State.openMissing_sameButNand (s : State) (lun : Nat) : SameButNand s (s.openMissing lun) := by
  unfold State.openMissing State.openSegment
  split
  · exact .refl s
  · split
    · exact .refl s
    · rename_i h
      exact (State.newSegment_sameButNand h).trans rfl

theorem State.openMetaSegment_sameButNand (s : State) : SameButNand s s.openMetaSegment := by
  unfold State.openMetaSegment
  split
  · exact .refl s
  · split
    · exact .refl s
    · rename_i h
      exact (State.newSegment_sameButNand h).trans rfl

theorem State.openAll_sameButNand (s : State) : SameButNand s s.openAll := by
  have hfold : SameButNand s ((List.range s.nandLuns).foldl State.openMissing s) :=
    State.foldl_holds (SameButNand s) State.openMissing (fun t l ht => ht.trans (t.openMissing_sameButNand l)) _ s (.refl s)
  unfold State.openAll
  dsimp only
  split
  · exact hfold
  · exact hfold.trans (State.openMetaSegment_sameButNand _)

theorem State.clearStore_sameButNand (s : State) : SameButNand s s.clearStore := by
  unfold State.clearStore
  refine SameButNand.trans ?_ (State.openAll_sameButNand _)
  exact rfl

/-- What the end of a wake must keep to be ONLINE with its time recorded. -/
structure WokenLike (s t : State) : Prop where
  mem : t.mem = s.mem
  leaves : t.leaves = s.leaves
  groups : t.groups = s.groups
  mode : t.ctl.mode = s.ctl.mode
  prevMode : t.ctl.prevMode = s.ctl.prevMode
  waking : t.ctl.waking = s.ctl.waking
  ingress : t.ingress = s.ingress
  wakeTime : t.regs.find? (key 0x1116 0) = s.regs.find? (key 0x1116 0)

theorem WokenLike.refl (s : State) : WokenLike s s := ⟨rfl, rfl, rfl, rfl, rfl, rfl, rfl, rfl⟩

theorem WokenLike.trans {s t u : State} (h : WokenLike s t) (k : WokenLike t u) : WokenLike s u :=
  ⟨k.mem.trans h.mem, k.leaves.trans h.leaves, k.groups.trans h.groups, k.mode.trans h.mode, k.prevMode.trans h.prevMode,
    k.waking.trans h.waking, k.ingress.trans h.ingress, k.wakeTime.trans h.wakeTime⟩

/-- A Sanitize that begins replaces the key and clears the store, and no more than that. -/
theorem State.sanitizeBegin_woken (s : State) : WokenLike s s.sanitizeBegin := by
  unfold State.sanitizeBegin
  split
  · rw [State.clearStore_sameButNand]
    exact ⟨rfl, rfl, rfl, rfl, rfl, rfl, rfl, Map.find?_put_of_ne _ _ _ _ (by decide)⟩
  · exact .refl s

theorem SameButLinks.woken {s t : State} (h : SameButLinks s t) : WokenLike s t := by
  rw [h]
  exact ⟨rfl, rfl, rfl, rfl, rfl, rfl, rfl, rfl⟩

theorem State.note_woken (s : State) (code : Nat) (vs : List Nat) : WokenLike s (s.note code vs) := by
  have hserv := (s.note_reports code vs).service
  have hkept := s.record_kept code vs false
  refine ⟨hserv.mem, hserv.leaves, hserv.groups, ?_, ?_, ?_, hserv.ingress, hkept.regs _ (by decide) (by decide)⟩
  all_goals rw [State.note, hkept.ctl]

theorem State.panicUpdate_woken (s : State) : WokenLike s s.panicUpdate := by
  have hcount : WokenLike s (({ s with trickle := { s.trickle with panic := s.panicNext } }).reclass.addReg 0x3010 4 1) :=
    ⟨rfl, rfl, rfl, rfl, rfl, rfl, rfl, Map.find?_put_of_ne _ _ _ _ (by decide)⟩
  unfold State.panicUpdate
  dsimp only
  split
  · exact .refl s
  · split
    · split
      · exact hcount.trans (State.note_woken _ _ _)
      · exact hcount
    · exact ⟨rfl, rfl, rfl, rfl, rfl, rfl, rfl, rfl⟩

theorem State.holdEdges_woken (s before : State) : WokenLike s (s.holdEdges before) := by
  have hheld : WokenLike s (if s.holding then s else { s with trickle := { s.trickle with overdrawn := false } }) := by
    split
    · exact .refl s
    · exact ⟨rfl, rfl, rfl, rfl, rfl, rfl, rfl, rfl⟩
  refine hheld.trans (SameButLinks.woken (.foldl _ (fun t i => ?_) _ _))
  split
  · exact .refl t
  · exact State.signal_sameButLinks _ _ _

theorem State.flushed_sameButLinks (s : State) : SameButLinks s s.flushed := by
  refine .foldl _ (fun t i => ?_) _ _
  split
  · exact rfl
  · exact .refl t

theorem State.loads_sameButLinks (s : State) : SameButLinks s s.loads := by
  refine (State.flushed_sameButLinks s).trans (.foldl _ (fun t i => ?_) _ _)
  dsimp only
  split
  · exact .refl t
  · split
    · exact (t.setLink_sameButLinks i _).trans (State.signal_sameButLinks _ _ _)
    · exact t.setLink_sameButLinks i _

/-- With nothing held, serving what is held moves no data. -/
theorem State.serveHeld_woken {s : State} (hwrites : s.ingress.writes = []) (hreads : s.ingress.reads = []) :
    WokenLike s s.serveHeld := by
  have hresume : (s.resume .closed).resumeReads .closed = s := by
    rw [s.resume_of_no_writes hwrites, State.resumeReads]
    simp only [hreads, List.filter_nil, List.foldl_nil]
    rw [← hreads]
  rw [State.serveHeld, hresume]
  exact ((State.panicUpdate_woken s).trans (State.holdEdges_woken _ s)).trans (State.loads_sameButLinks _).woken

/-- The wake ends in ONLINE with its time recorded (R338). -/
theorem wakeComplete_spec {s : State} {us : Nat} (hmode : s.ctl.mode = .drowse) (hwaking : s.ctl.waking = true)
    (harm : s.save.arm = 0) (hwrites : s.ingress.writes = []) (hreads : s.ingress.reads = []) :
    ∃ t, exec (.wakeComplete us) s = .next t ∧ t.mem = s.mem ∧ t.leaves = s.leaves ∧ t.groups = s.groups
      ∧ t.ctl.mode = .online ∧ t.ctl.prevMode = .drowse ∧ t.ctl.waking = false ∧ t.reg 0x1116 0 = us % 2 ^ 32 := by
  obtain ⟨u, hu⟩ : ∃ u, u = { (s.fresh.setMode .online).setReg 0x1116 0 (us % 2 ^ 32) with
    ctl := { ((s.fresh.setMode .online).setReg 0x1116 0 (us % 2 ^ 32)).ctl with waking := false } } := ⟨_, rfl⟩
  have hbegin := u.sanitizeBegin_woken
  have hingress : u.ingress = s.ingress := by rw [hu]; rfl
  have hserve := State.serveHeld_woken (s := u.sanitizeBegin) (by rw [hbegin.ingress, hingress, hwrites])
    (by rw [hbegin.ingress, hingress, hreads])
  obtain ⟨hmem, hleaves, hgroups, honline, hprev, hwoken, -, htime⟩ := hbegin.trans hserve
  rw [hu] at hmem hleaves hgroups honline hprev hwoken htime
  refine ⟨u.sanitizeBegin.serveHeld, ?_, hu ▸ hmem, hu ▸ hleaves, hu ▸ hgroups, hu ▸ honline, ?_, hu ▸ hwoken, ?_⟩
  · rw [hu]
    exact congrArg Host.Outcome.next (if_pos ⟨hmode, hwaking, harm⟩)
  · rw [hu]
    exact hprev.trans hmode
  · rw [hu]
    refine State.reg_of_find? (htime.trans ?_)
    simp [State.setReg]

/-! ### The obligation -/

/-- Settles O30: consents, DROWSE, the wake sources and the wake, each by its own lemma. -/
theorem sleepAndWake : Obligations.SleepAndWake := by
  unfold Obligations.SleepAndWake
  refine ⟨fun s link wakeNow hup hlost hmode harm hrace => prepareSleep_consents hup hlost hmode harm hrace,
    fun s link wakeNow memNow saveNow hup hlost hno => prepareSleep_refused hup hlost hno wakeNow memNow,
    fun s link wakeNow memNow hup hlost hmode harm hrace => prepareSleep_races hup hlost hmode harm hrace,
    fun s wakeNow hmode harm hall hrace => drowseEntry_enters hmode harm hall hrace,
    fun s wakeNow hmode harm hall hrace => drowseEntry_races hmode harm hall hrace,
    fun s hset hnow => wakeTimerFire_spec hset hnow, fun s hset => ?_, fun s => ?_,
    fun s source link hmode hen => wake_spec hmode hen,
    fun s us hmode hwaking harm hwrites hreads => wakeComplete_spec hmode hwaking harm hwrites hreads⟩
  · exact ⟨_, congrArg Host.Outcome.next (if_pos hset), State.fire_reports _ _ _, State.fire_cause _ _ _⟩
  · exact ⟨_, rfl, State.fire_reports _ _ _, State.fire_cause _ _ _⟩

end Sys2Proof.Machine
end

section
/-! PROOFS. Writes of one entry that acts on links, channels, ports or groups: what the write stores and what its answer
adds (R353 to R357). -/
namespace Sys2Proof.Machine

/-! ### Plain entries below 0x5000 -/

/-- Neither a window nor the domain: storing the entry brings nothing with it but the mark of a bank hash. -/
def followsAlone (idx : Nat) : Bool :=
  decide (idx < 0x5000) && !(decide (0x2500 ≤ idx) && decide (idx ≤ 0x253F)) && idx != 0x4800 && idx != 0x4801

/-- An entry whose write acts at once and stores its value plainly. -/
def plainEntry (idx sub : Nat) : Bool :=
  followsAlone idx && !beatEntry idx sub && decide (entrySize idx sub ≤ 256) && (rowOf idx sub).isSome
    && [Role.host, .board, .fleet, .service].all fun role => (rowOf idx sub).all fun r => r.access role != .w1c

/-- A plain entry that B and S alone may write. -/
def boardEntry (idx sub : Nat) : Bool :=
  plainEntry idx sub && (rowOf idx sub).all fun r => r.access .host == .ro && r.access .fleet == .ro

/-- The effect of a plain entry: its action, or the value in its place. -/
def State.effect (s : State) (idx sub v : Nat) : State :=
  match s.act idx sub v with
  | some t => t
  | none => s.setReg idx sub v

/-- `t` is `s` but for the generation of D values, the format of stored settings and the mark of a bank hash. -/
def SameButGeneration (s t : State) : Prop :=
  t = { s with regs := t.regs, security := { s.security with storedFormat := t.security.storedFormat },
               ctl := { s.ctl with hashPending := t.ctl.hashPending } }
    ∧ ∀ k, k ≠ key 0xA003 0 → t.regs.find? k = s.regs.find? k

theorem State.kept_generation (s : State) (r : Entry) : SameButGeneration s (s.kept r) := by
  unfold State.kept
  split
  · exact ⟨rfl, fun k hk => Map.find?_put_of_ne _ _ _ _ hk⟩
  · exact ⟨rfl, fun _ _ => rfl⟩
  · exact ⟨rfl, fun _ _ => rfl⟩

theorem State.put_of_lt (s : State) {idx : Nat} (h : idx < 0x5000) (sub sel v : Nat) :
    s.put idx sub sel v = s.setReg idx sub v := by
  have hsel : s.selection idx sub = none := by
    have h1 : idx ≠ 0x7401 ∧ idx ≠ 0x7402 ∧ idx ≠ 0x7810 ∧ idx ≠ 0x9010 ∧ idx ≠ 0x9020 := by omega
    simp [State.selection, h1]
  simp [State.put, hsel]

theorem State.follow_alone (before s : State) {idx : Nat} (h : followsAlone idx = true) (sub : Nat) :
    ∃ b, before.follow s [(idx, sub)] = { s with ctl := { s.ctl with hashPending := b } } := by
  simp only [followsAlone, Bool.and_eq_true, decide_eq_true_eq, bne_iff_ne, Bool.not_eq_true', Bool.and_eq_false_iff,
    decide_eq_false_iff_not] at h
  obtain ⟨⟨⟨hlt, hwin⟩, hdom⟩, hgen⟩ := h
  have hw : (decide (0x2500 ≤ idx) && decide (idx ≤ 0x253F) && decide (sub ≤ 3)) = false := by
    simp only [Bool.and_eq_false_iff, decide_eq_false_iff_not]
    exact .inl hwin
  have hb : (decide (0x9100 ≤ idx) && decide (idx ≤ 0x9110) && sub == 2) = false := by
    simp only [Bool.and_eq_false_iff, decide_eq_false_iff_not]
    omega
  simp only [State.follow, List.filter_cons, List.filter_nil, hw, hb, Bool.false_eq_true, if_false, List.map_nil,
    List.eraseDups_nil, List.foldl_nil, List.any_cons, List.any_nil, beq_false_of_ne hdom, beq_false_of_ne hgen,
    Bool.false_and, Bool.or_false]
  exact ⟨_, rfl⟩

/-- What a plain entry's write leaves is its effect, with its generation and marks. -/
theorem State.applyWrite_plain (s : State) (role : Role) {idx sub : Nat} (h : plainEntry idx sub = true) (sel v : Nat) :
    SameButGeneration (s.effect idx sub v) (s.applyWrite role idx sub sel v) := by
  simp only [plainEntry, Bool.and_eq_true, List.all_eq_true] at h
  obtain ⟨⟨⟨⟨hfollow, -⟩, -⟩, hrow⟩, hacc⟩ := h
  obtain ⟨r, hr⟩ := Option.isSome_iff_exists.mp hrow
  have hw1c : r.access role ≠ .w1c := by
    have := hacc role (by cases role <;> simp)
    simpa [hr] using this
  have hlt : idx < 0x5000 := by
    simp only [followsAlone, Bool.and_eq_true, decide_eq_true_eq] at hfollow
    exact hfollow.1.1.1
  have hstore : s.storeValue role idx sub sel v = (s.effect idx sub v).kept r := by
    simp only [State.storeValue, hr, if_neg hw1c, s.put_of_lt hlt]
    rfl
  obtain ⟨b, hb⟩ := s.follow_alone ((s.effect idx sub v).kept r) hfollow sub
  obtain ⟨hk, hregs⟩ := (s.effect idx sub v).kept_generation r
  rw [State.applyWrite, hstore, hb]
  exact ⟨by rw [hk], hregs⟩

/-- A one-entry write that passes is applied and answered. -/
theorem State.writeEntry_passes {s : State} {role : Role} {idx sub v : Nat} (hp : s.writePasses role idx sub v)
    (h : plainEntry idx sub = true) :
    ∃ x, s.writeEntry role idx sub v = .next (x.answered role s.hostLink (entryItem idx sub v))
      ∧ SameButGeneration ((s.asked role).effect idx sub (entryItem idx sub v).value) x := by
  obtain ⟨hs, hcode⟩ := hp
  have hplain := h
  simp only [plainEntry, Bool.and_eq_true, decide_eq_true_eq, Bool.not_eq_true'] at h
  obtain ⟨⟨⟨⟨-, hbeat⟩, hsize⟩, -⟩, -⟩ := h
  refine ⟨_, ?_, State.applyWrite_plain (s.asked role) role hplain ((s.asked role).selNo idx sub) _⟩
  have hbeat' : beatEntry (entryItem idx sub v).index (entryItem idx sub v).sub = false := hbeat
  have hmsg : s.writeEntry role idx sub v = s.request .write (s.entryMsg role (entryItem idx sub v)) := rfl
  rw [hmsg, s.request_write (s.entryMsg role (entryItem idx sub v)) hs (s.entryMsg_fits role _ hsize)]
  simp only [State.entryMsg, State.write, State.writeItems, State.writeItem, hcode, hbeat', ne_eq, not_true_eq_false,
    if_false, Bool.false_eq_true, Bool.and_false, Bool.toNat_false, Nat.add_zero, if_true]
  rfl

/-- An entry that host and fleet may not write is written by B or S. -/
theorem State.board_or_service {s : State} {role : Role} {idx sub v : Nat} (hp : s.writePasses role idx sub v)
    (h : boardEntry idx sub = true) : role = .board ∨ role = .service := by
  simp only [boardEntry, plainEntry, Bool.and_eq_true] at h
  obtain ⟨⟨⟨-, hrow⟩, -⟩, hro⟩ := h
  obtain ⟨r, hr⟩ := Option.isSome_iff_exists.mp hrow
  obtain ⟨-, ha, -⟩ := State.itemCheck_eq_zero (i := entryItem idx sub v) hr ((s.asked role).itemCheck_of_writeCode role _ hp.2)
  rw [hr] at hro
  simp only [Option.all_some, Bool.and_eq_true, beq_iff_eq] at hro
  cases role with
  | host => exact absurd hro.1 ha
  | fleet => exact absurd hro.2 ha
  | board => exact .inl rfl
  | service => exact .inr rfl

/-- `t` is the state `x` that a write has left with its answer sent, but for what `SameButGeneration` names. -/
def Settled (x t : State) : Prop :=
  t = { x with regs := t.regs, security := { x.security with storedFormat := t.security.storedFormat },
               ctl := { x.ctl with hashPending := t.ctl.hashPending }, out := t.out }
    ∧ ∀ k, k ≠ key 0xA003 0 → t.regs.find? k = x.regs.find? k

/-- A write that passes, of an entry of B and S, leaves its effect and an answer. -/
theorem State.writeEntry_settled {s : State} {role : Role} {idx sub v : Nat} (hp : s.writePasses role idx sub v)
    (h : boardEntry idx sub = true) :
    ∃ t, s.writeEntry role idx sub v = .next t ∧ WriteAnswered s t role idx sub v 0
      ∧ Settled ((s.asked role).effect idx sub (entryItem idx sub v).value) t := by
  have hplain : plainEntry idx sub = true := (Bool.and_eq_true _ _ ▸ h).1
  obtain ⟨x, hx, hgen, hregs⟩ := State.writeEntry_passes hp hplain
  have hout : x.answered role s.hostLink (entryItem idx sub v)
      = x.emit (.dict role s.hostLink.val 0 0 0 0 0 [respOf (entryItem idx sub v) 0]) := by
    rcases State.board_or_service hp h with rfl | rfl <;> rfl
  refine ⟨_, hx, ?_, ?_, ?_⟩
  · rw [hout]
    simp [WriteAnswered, State.emit]
  · rw [hout, hgen]
    rfl
  · rw [hout]
    exact hregs

/-! ### What a settled write leaves as its effect has it -/

theorem Settled.dataKept {x t : State} (h : Settled x t) : DataKept x t := by
  rw [h.1]
  exact ⟨rfl, rfl, rfl, rfl, rfl, rfl⟩

theorem Settled.reg {x t : State} (h : Settled x t) (idx sub : Nat) (hne : key idx sub ≠ key 0xA003 0) :
    t.reg idx sub = x.reg idx sub := by
  have hbase : defaultValue t 0 idx sub = defaultValue x 0 idx sub := by
    rw [h.1]
    rfl
  unfold State.reg
  rw [h.2 _ hne, hbase]

theorem Settled.regsKept {x t : State} (h : Settled x t) : RegsKept x t [key 0xA003 0] :=
  fun k _ _ hk => h.2 k fun e => hk (by simp [e])

theorem Settled.link {x t : State} (h : Settled x t) (i : Nat) : t.link i = x.link i := by
  rw [h.1]
  rfl

theorem Settled.port {x t : State} (h : Settled x t) (p : Nat) : t.port p = x.port p := by
  rw [h.1]
  rfl

theorem Settled.dram {x t : State} (h : Settled x t) : t.dram = x.dram := by rw [h.1]

theorem Settled.layout {x t : State} (h : Settled x t) : t.layout = x.layout := by rw [h.1]

end Sys2Proof.Machine
end

section
/-! PROOFS. Writes of `link_enable`, of the layout and of the bank hash (R71, R82, R111, R205). -/
namespace Sys2Proof.Machine

theorem entryItem_value_of_le_one {idx sub v : Nat} (hsize : 1 ≤ entrySize idx sub) (hv : v ≤ 1) :
    (entryItem idx sub v).value = v := by
  refine Nat.mod_eq_of_lt (lt_of_le_of_lt hv ?_)
  calc 1 < 2 ^ (8 * 1) := by decide
    _ ≤ 2 ^ (8 * entrySize idx sub) := Nat.pow_le_pow_right (by decide) (by omega)

/-! ### Test units that a link or port stops -/

/-- Stopping test units leaves all but the test state and the entries of selected units. -/
theorem State.foldl_stopUnit_eq (us : List Nat) (st : Nat) (s : State) :
    ∃ ts rs, us.foldl (fun t u => t.stopUnit u st) s = { s with test := ts, regs := rs } :=
  State.foldl_holds (fun t => ∃ ts rs, t = { s with test := ts, regs := rs }) _
    (by
      rintro _ u ⟨ts, rs, rfl⟩
      unfold State.stopUnit
      split <;> exact ⟨_, _, rfl⟩) us s ⟨_, _, rfl⟩

theorem State.stopLinkUnits_eq (s : State) (i : Nat) : ∃ ts rs, s.stopLinkUnits i = { s with test := ts, regs := rs } :=
  State.foldl_stopUnit_eq _ 3 s

theorem State.stopPortUnits_eq (s : State) (p : Nat) : ∃ ts rs, s.stopPortUnits p = { s with test := ts, regs := rs } :=
  State.foldl_stopUnit_eq _ 3 s

/-! ### A host link -/

/-- The state that a write of `link_enable` gives a link (R71). -/
def State.enabledState (s : State) (i v : Nat) : LinkState :=
  if v = 0 then
    if (s.link i).up ∨ (s.link i).state = .pendingStart then .disabling
    else if (s.link i).state = .training then .disabling else (s.link i).state
  else match (s.link i).state with
    | .disabling => .pendingStart
    | .down => if s.layout.formed i ∧ s.ctl.mode ≠ .dormant then .training else .down
    | x => x

/-- `link_enable` stores its value, moves its link and may withdraw its consent. -/
theorem State.linkEnable_reports (s : State) (i v : Nat) :
    SameButReports ((s.setReg 0x2005 (i + 1) v).setLink i { s.link i with state := s.enabledState i v }) (s.linkEnable i v) := by
  simp only [State.linkEnable]
  split
  · exact State.withdraw_reports _ _
  · exact .refl _

theorem State.linkEnable_state (s : State) (i v : Nat) : ((s.linkEnable i v).link i).state = s.enabledState i v := by
  have hself : (((s.setReg 0x2005 (i + 1) v).setLink i { s.link i with state := s.enabledState i v }).link i).state
      = s.enabledState i v := by simp
  simp only [State.linkEnable]
  split
  · rename_i hdown
    obtain ⟨hup, rfl⟩ := hdown
    obtain ⟨-, -, -, -, hlink, -⟩ := State.withdraw_reports
      ((s.setReg 0x2005 (i + 1) 0).setLink i { s.link i with state := s.enabledState i 0 }) (BitVec.ofNat 4 (2 ^ i))
    obtain ⟨-, hstate, -⟩ := hlink i
    have hdis : s.enabledState i 0 = .disabling := by
      rw [State.enabledState, if_pos rfl, if_pos (.inl hup)]
    rcases hstate with hsame | ⟨hl1, -⟩
    · exact hsame.trans hself
    · rw [hself, hdis] at hl1
      cases hl1
  · exact hself

theorem State.linkEnable_spec (s : State) (i v : Nat) (hi : i < 4) :
    DataKept s (s.linkEnable i v) ∧ (s.linkEnable i v).reg 0x2005 (i + 1) = v
      ∧ ((s.linkEnable i v).link i).state = s.enabledState i v := by
  have h := s.linkEnable_reports i v
  have hkey : key 0x2005 (i + 1) ∉ reportEntries := by
    simp only [reportEntries, key, List.mem_cons, List.not_mem_nil, or_false]
    omega
  have hreg := h.reg_kept hkey (key_notMem_windowEntries (by decide) (by omega))
  exact ⟨h.dataKept, hreg.trans (State.reg_of_find? (Map.find?_put_self _ _ _)), s.linkEnable_state i v⟩

theorem State.linkWrite_spec (s : State) (i v : Nat) (hi : i < 4) :
    DataKept s (s.linkWrite i v) ∧ (s.linkWrite i v).reg 0x2005 (i + 1) = v
      ∧ ((s.linkWrite i v).link i).state = s.enabledState i v := by
  unfold State.linkWrite
  split
  · obtain ⟨ts, rs, h⟩ := s.stopLinkUnits_eq i
    rw [h]
    exact State.linkEnable_spec { s with test := ts, regs := rs } i v hi
  · exact s.linkEnable_spec i v hi

@[simp] theorem State.asked_layout (s : State) (role : Role) : (s.asked role).layout = s.layout := by
  unfold State.asked
  split <;> rfl

theorem linkEnableWrite_spec (s : State) (role : Role) (link : Fin 4) (v : Nat)
    (hp : s.writePasses role 0x2005 (link.val + 1) v) (hv : v ≤ 1) :
    ∃ t, exec (.linkEnableWrite role link v) s = .next t ∧ DataKept s t ∧ WriteAnswered s t role 0x2005 (link.val + 1) v 0
      ∧ t.reg 0x2005 (link.val + 1) = v ∧ (t.link link.val).state = s.enabledState link.val v := by
  have hboard : ∀ l : Fin 4, boardEntry 0x2005 (l.val + 1) = true ∧ entrySize 0x2005 (l.val + 1) = 1 := by decide +kernel
  obtain ⟨hb, hsize⟩ := hboard link
  obtain ⟨t, ht, hans, hset⟩ := State.writeEntry_settled hp hb
  rw [entryItem_value_of_le_one (by omega) hv] at hset
  have hset : Settled ((s.asked role).linkWrite link.val v) t := hset
  obtain ⟨hdata, hreg, hstate⟩ := (s.asked role).linkWrite_spec link.val v link.isLt
  refine ⟨t, ht, ((s.asked_dataKept role).trans hdata).trans hset.dataKept, hans, ?_, ?_⟩
  · rw [hset.reg _ _ (by simp [key]; omega), hreg]
  · rw [hset.link, hstate]
    unfold State.enabledState
    rw [State.asked_link, State.asked_layout, State.asked_mode]

/-! ### A Trestle port -/

/-- A port as a write of its `link_enable` leaves it, on a member that is no duplicate (R205). -/
def State.enabledPort (s : State) (p v : Nat) : Port :=
  let x := s.port p
  if v = 0 then
    if x.state = .down ∨ x.state = .disabling then x
    else
      { x with state := .disabling, failed := x.failed || decide (x.state = .inService),
               turned := x.turned || decide (x.state = .inService),
               lastTag := if decide (x.state = .inService) then x.hello.map (·.startTag) else x.lastTag }
  else if x.state = .disabling then { x with state := .pendingStart }
  else if x.state = .down ∧ s.trestleRuns = true then { x with state := .training }
  else x

/-- `link_enable` of a port stores its value and moves its port. -/
theorem State.portEnable_moves (s : State) (p v : Nat) (hdup : s.trestle.duplicate = false) :
    ∃ tr, s.portEnable p v = { s.setReg (0x4810 + p) 2 v with trestle := tr }
      ∧ tr.ports.get p Port.reset = s.enabledPort p v := by
  have hset : ∀ x : Port, (s.trestle.ports.put p x).get p Port.reset = x := fun x => Map.get_put_self _ _ _ _
  have hruns : (s.setReg (0x4810 + p) 2 v).trestleRuns = s.trestleRuns := rfl
  have hport : (s.setReg (0x4810 + p) 2 v).port p = s.port p := rfl
  simp only [State.portEnable, hdup, Bool.false_eq_true, if_false, hruns, hport, State.enabledPort]
  split
  · split
    · exact ⟨_, rfl, rfl⟩
    · exact ⟨_, rfl, hset _⟩
  · split
    · rename_i hstate
      exact ⟨_, rfl, by rw [if_pos hstate]; exact hset _⟩
    · rename_i hstate
      have hdis : (s.port p).state ≠ .disabling := by simp [hstate]
      rw [if_neg hdis]
      by_cases hr : s.trestleRuns = true
      · rw [if_pos hr, if_pos ⟨hstate, hr⟩]
        exact ⟨_, rfl, hset _⟩
      · rw [if_neg hr, if_neg fun h => hr h.2]
        exact ⟨_, rfl, rfl⟩
    · rename_i hdis hdown
      exact ⟨_, rfl, by rw [if_neg hdis, if_neg fun h => hdown h.1]; rfl⟩

theorem State.portEnable_spec (s : State) (p v : Nat) (hdup : s.trestle.duplicate = false) :
    DataKept s (s.portEnable p v) ∧ (s.portEnable p v).reg (0x4810 + p) 2 = v
      ∧ (s.portEnable p v).port p = s.enabledPort p v := by
  obtain ⟨tr, h, hport⟩ := s.portEnable_moves p v hdup
  rw [h]
  exact ⟨⟨rfl, rfl, rfl, rfl, rfl, rfl⟩, State.reg_of_find? (Map.find?_put_self _ _ _), hport⟩

theorem State.portWrite_spec (s : State) (p v : Nat) (hdup : s.trestle.duplicate = false) :
    DataKept s (s.portWrite p v) ∧ (s.portWrite p v).reg (0x4810 + p) 2 = v
      ∧ (s.portWrite p v).port p = s.enabledPort p v := by
  unfold State.portWrite
  split
  · obtain ⟨ts, rs, h⟩ := s.stopPortUnits_eq p
    rw [h]
    exact State.portEnable_spec { s with test := ts, regs := rs } p v hdup
  · exact s.portEnable_spec p v hdup

@[simp] theorem State.asked_trestle (s : State) (role : Role) : (s.asked role).trestle = s.trestle := by
  unfold State.asked
  split <;> rfl

theorem State.asked_enabledPort (s : State) (role : Role) (p v : Nat) :
    (s.asked role).enabledPort p v = s.enabledPort p v := by
  unfold State.asked
  split <;> rfl

theorem trestleLinkEnableWrite_spec (s : State) (role : Role) (port : Fin 2) (v : Nat)
    (hp : s.writePasses role (0x4810 + port.val) 2 v) (hv : v ≤ 1) (hdup : s.trestle.duplicate = false) :
    ∃ t, exec (.trestleLinkEnableWrite role port v) s = .next t ∧ DataKept s t
      ∧ WriteAnswered s t role (0x4810 + port.val) 2 v 0 ∧ t.reg (0x4810 + port.val) 2 = v
      ∧ t.port port.val = s.enabledPort port.val v := by
  have hboard : ∀ p : Fin 2, boardEntry (0x4810 + p.val) 2 = true ∧ entrySize (0x4810 + p.val) 2 = 1 := by decide +kernel
  have heffect : ∀ (p : Fin 2) (x : State), x.effect (0x4810 + p.val) 2 v = x.portWrite p.val v := by
    intro p x
    match p with
    | 0 => rfl
    | 1 => rfl
  obtain ⟨hb, hsize⟩ := hboard port
  obtain ⟨t, ht, hans, hset⟩ := State.writeEntry_settled hp hb
  rw [entryItem_value_of_le_one (by omega) hv, heffect] at hset
  obtain ⟨hdata, hreg, hport⟩ := (s.asked role).portWrite_spec port.val v (by rw [State.asked_trestle, hdup])
  refine ⟨t, ht, ((s.asked_dataKept role).trans hdata).trans hset.dataKept, hans, ?_, ?_⟩
  · rw [hset.reg _ _ (by simp [key]; omega), hreg]
  · rw [hset.port, hport, State.asked_enabledPort]

/-! ### Layout and bank hash -/

/-- A write that only stores its value keeps every other entry. -/
theorem State.writeEntry_stored {s : State} {role : Role} {idx sub v : Nat} (hp : s.writePasses role idx sub v)
    (hb : boardEntry idx sub = true) (hact : ∀ (x : State) (w : Nat), x.act idx sub w = none)
    (hne : key idx sub ≠ key 0xA003 0) :
    ∃ t, s.writeEntry role idx sub v = .next t ∧ DataKept s t ∧ WriteAnswered s t role idx sub v 0
      ∧ t.reg idx sub = (entryItem idx sub v).value ∧ t.layout = s.layout
      ∧ RegsKept s t (key idx sub :: dictEntries) := by
  obtain ⟨t, ht, hans, hset⟩ := State.writeEntry_settled hp hb
  rw [State.effect, hact] at hset
  have hput : DataKept (s.asked role) ((s.asked role).setReg idx sub (entryItem idx sub v).value) :=
    ⟨rfl, rfl, rfl, rfl, rfl, rfl⟩
  refine ⟨t, ht, ((s.asked_dataKept role).trans hput).trans hset.dataKept, hans, ?_, ?_, ?_⟩
  · rw [hset.reg _ _ hne, State.reg_setReg_self]
  · rw [hset.layout]
    exact s.asked_layout role
  · intro k hk hw hx
    have hparts : k ≠ key idx sub ∧ k ≠ key 0xA032 0 ∧ k ≠ key 0xA003 0 := by
      simpa [dictEntries, not_or] using hx
    obtain ⟨h1, h2, h3⟩ := hparts
    rw [hset.2 k h3, State.setReg_regs, Map.find?_put_of_ne _ _ _ _ h1]
    exact s.asked_regsKept role k hk hw (by simpa using h2)

end Sys2Proof.Machine
end

section
/-! PROOFS. Writes that retrain, limit, copy or mark a DRAM channel (R123, R126, R136, R144). -/
namespace Sys2Proof.Machine

/-! ### Retraining -/

theorem State.openGather_kept (s : State) :
    DataKept s s.openGather ∧ s.openGather.dram.retrain = s.dram.retrain ∧ ∀ idx sub, s.openGather.reg idx sub = s.reg idx sub := by
  unfold State.openGather
  split
  · split
    · exact ⟨⟨rfl, rfl, rfl, rfl, rfl, rfl⟩, rfl, fun _ _ => rfl⟩
    · exact ⟨⟨rfl, rfl, rfl, rfl, rfl, rfl⟩, rfl, fun _ _ => rfl⟩
  · exact ⟨⟨rfl, rfl, rfl, rfl, rfl, rfl⟩, rfl, fun _ _ => rfl⟩

/-- A state in which one channel alone is queued for retraining. -/
def State.onlyQueued (s : State) (c : Nat) : State := { s with dram := { s.dram with queue := [c] } }

/-- Where no other channel is retrained or queued, a trigger of a channel in service starts its retraining (R123). -/
theorem State.triggerRetrain_starts {s : State} {c : Nat} (hc : c < 13) (hruns : s.dramRuns = true)
    (htrain : s.retrainable c = true) (hnone : s.dram.retrain = none) (hqueue : s.dram.queue = []) :
    DataKept s (s.triggerRetrain c) ∧ (s.triggerRetrain c).dram.retrain = some c
      ∧ (s.triggerRetrain c).reg (0x3400 + c) 5 = 1 := by
  have hfind : ((List.range 13).find? fun k => [c].contains k && s.retrainable k) = some c := by
    rw [List.find?_range_eq_some]
    refine ⟨by simp [htrain], List.mem_range.mpr hc, fun j hj => ?_⟩
    have : j ≠ c := by omega
    simp [this]
  have hstart : s.triggerRetrain c = (s.onlyQueued c).nextRetrain := by
    simp [State.triggerRetrain, State.onlyQueued, hqueue, htrain]
  have hfree : ¬ ((s.onlyQueued c).dram.retrain.isSome = true ∨ (s.onlyQueued c).dramRuns = false) := by
    have hr : (s.onlyQueued c).dramRuns = true := hruns
    have hn : (s.onlyQueued c).dram.retrain = none := hnone
    simp [hr, hn]
  have hnext : ((List.range 13).find? fun k => (s.onlyQueued c).dram.queue.contains k && (s.onlyQueued c).retrainable k)
      = some c := hfind
  rw [hstart, State.nextRetrain, if_neg hfree, hnext]
  obtain ⟨hdata, hretrain, hreg⟩ := State.openGather_kept (({ s.onlyQueued c with dram := { (s.onlyQueued c).dram with
    retrain := some c, queue := (s.onlyQueued c).dram.queue.filter fun x => x != c,
    gathered := (s.onlyQueued c).dram.gathered.put c ((s.onlyQueued c).reg (0x3400 + c) 2),
    served := (s.onlyQueued c).dram.served.put c s.clock.beat } } : State).setRetrain c 1)
  exact ⟨hdata, hretrain, (hreg _ _).trans (State.reg_of_find? (Map.find?_put_self _ _ _))⟩

/-- A mask with one bit names one channel. -/
theorem filter_range_two_pow (c : Fin 13) : ((List.range 13).filter fun k => 2 ^ c.val / 2 ^ k % 2 == 1) = [c.val] := by
  revert c
  decide +kernel

theorem State.retrainRequest_single {s : State} {c : Fin 13} (h : s.mayTrigger c.val = true) :
    s.retrainRequest (2 ^ c.val) = s.triggerRetrain c.val := by
  have hfilter : ((List.range 13).filter fun k => 2 ^ c.val / 2 ^ k % 2 == 1 && s.mayTrigger k) = [c.val] := by
    have hswap : (fun k => 2 ^ c.val / 2 ^ k % 2 == 1 && s.mayTrigger k)
        = fun k => s.mayTrigger k && 2 ^ c.val / 2 ^ k % 2 == 1 := funext fun k => Bool.and_comm _ _
    rw [hswap, ← List.filter_filter, filter_range_two_pow]
    simp [h]
  rw [State.retrainRequest, hfilter]
  rfl

theorem State.asked_retrain (s : State) (role : Role) (c : Nat) (hc : c < 13) :
    (s.asked role).mayTrigger c = s.mayTrigger c ∧ (s.asked role).retrainable c = s.retrainable c
      ∧ (s.asked role).dramRuns = s.dramRuns ∧ (s.asked role).dram = s.dram := by
  have hdram : (s.asked role).dram = s.dram := by
    unfold State.asked
    split <;> rfl
  have hreg : (s.asked role).reg (0x3400 + c) 1 = s.reg (0x3400 + c) 1 := s.asked_reg role (by simp [key]; omega)
  refine ⟨?_, ?_, ?_, hdram⟩
  · rw [State.mayTrigger, State.mayTrigger, hdram, State.asked_clock]
  · rw [State.retrainable, State.retrainable, State.chanState, State.chanState, hreg]
  · rw [State.dramRuns, State.dramRuns, State.asked_mode]

theorem retrainRequestWrite_spec (s : State) (role : Role) (c : Fin 13) (hp : s.writePasses role 0x3460 0 (2 ^ c.val))
    (hmay : s.mayTrigger c.val = true) (hmode : s.ctl.mode = .online ∨ s.ctl.mode = .restore)
    (htrain : s.retrainable c.val = true) (hnone : s.dram.retrain = none) (hqueue : s.dram.queue = []) :
    ∃ t, exec (.retrainRequestWrite role (2 ^ c.val)) s = .next t ∧ DataKept s t
      ∧ WriteAnswered s t role 0x3460 0 (2 ^ c.val) 0 ∧ t.dram.retrain = some c.val ∧ t.reg (0x3400 + c.val) 5 = 1 := by
  have hvalue : (entryItem 0x3460 0 (2 ^ c.val)).value = 2 ^ c.val := by
    have hall : ∀ k : Fin 13, (entryItem 0x3460 0 (2 ^ k.val)).value = 2 ^ k.val := by decide +kernel
    exact hall c
  have hruns : s.dramRuns = true := by
    rcases hmode with h | h <;> simp [State.dramRuns, h]
  obtain ⟨hmay', htrain', hruns', hdram⟩ := s.asked_retrain role c.val c.isLt
  obtain ⟨t, ht, hans, hset⟩ := State.writeEntry_settled hp (by decide +kernel)
  have heffect : (s.asked role).effect 0x3460 0 (entryItem 0x3460 0 (2 ^ c.val)).value = (s.asked role).triggerRetrain c.val := by
    rw [hvalue, ← State.retrainRequest_single (hmay'.trans hmay)]
    rfl
  rw [heffect] at hset
  obtain ⟨hdata, hretrain, hreg⟩ := State.triggerRetrain_starts (s := s.asked role) c.isLt (hruns'.trans hruns)
    (htrain'.trans htrain) (by rw [hdram, hnone]) (by rw [hdram, hqueue])
  refine ⟨t, ht, ((s.asked_dataKept role).trans hdata).trans hset.dataKept, hans, ?_, ?_⟩
  · rw [hset.dram, hretrain]
  · rw [hset.reg _ _ (by simp [key]; omega), hreg]

/-! ### A rate limit -/

/-- A rate limit is stored; a lower one with a verified record waits for a boundary, one without a record for a reset, and
a limit that is not below the rate for nothing (R126). -/
theorem State.rateMax_spec (s : State) (c v : Nat) :
    DataKept s (s.rateMax c v) ∧ (s.rateMax c v).reg (0x3400 + c) 3 = v
      ∧ (s.rateMax c v).reg (0x3400 + c) 2 = s.reg (0x3400 + c) 2
      ∧ (v < s.reg (0x3400 + c) 2 → v ∈ s.recordBins c → (c, v) ∈ s.dram.verified →
          (s.rateMax c v).dram.deferredRate.find? c = some v ∧ (s.rateMax c v).dram.trainAt.find? c = none)
      ∧ (v < s.reg (0x3400 + c) 2 → v ∉ s.recordBins c →
          (s.rateMax c v).dram.deferredRate.find? c = none ∧ (s.rateMax c v).dram.trainAt.find? c = some v)
      ∧ (s.reg (0x3400 + c) 2 ≤ v →
          (s.rateMax c v).dram.deferredRate.find? c = none ∧ (s.rateMax c v).dram.trainAt.find? c = none) := by
  refine ⟨⟨rfl, rfl, rfl, rfl, rfl, rfl⟩, State.reg_of_find? (Map.find?_put_self _ _ _), ?_, fun hlt hrec hver => ?_,
    fun hlt hrec => ?_, fun hle => ?_⟩
  · exact State.reg_setReg_of_ne s.drawn v (by simp [key])
  · simp [State.rateMax, hlt, hrec, hver]
  · simp [State.rateMax, hlt, hrec]
  · simp [State.rateMax, Nat.not_lt.mpr hle]

theorem rateMaxWrite_spec (s : State) (role : Role) (c : Fin 13) (v : Nat) (hp : s.writePasses role (0x3400 + c.val) 3 v)
    (hv : v < 65536) :
    ∃ t, exec (.rateMaxWrite role c v) s = .next t ∧ DataKept s t ∧ WriteAnswered s t role (0x3400 + c.val) 3 v 0
      ∧ t.reg (0x3400 + c.val) 3 = v ∧ t.reg (0x3400 + c.val) 2 = s.reg (0x3400 + c.val) 2
      ∧ (v < s.reg (0x3400 + c.val) 2 → v ∈ s.recordBins c.val → (c.val, v) ∈ s.dram.verified →
          t.dram.deferredRate.find? c.val = some v ∧ t.dram.trainAt.find? c.val = none)
      ∧ (v < s.reg (0x3400 + c.val) 2 → v ∉ s.recordBins c.val →
          t.dram.deferredRate.find? c.val = none ∧ t.dram.trainAt.find? c.val = some v)
      ∧ (s.reg (0x3400 + c.val) 2 ≤ v → t.dram.deferredRate.find? c.val = none ∧ t.dram.trainAt.find? c.val = none) := by
  have hboard : ∀ k : Fin 13, boardEntry (0x3400 + k.val) 3 = true ∧ entrySize (0x3400 + k.val) 3 = 2 := by decide +kernel
  have heffect : ∀ (k : Fin 13) (x : State), x.effect (0x3400 + k.val) 3 v = x.rateMax k.val v := by
    intro k x
    fin_cases k <;> rfl
  obtain ⟨hb, hsize⟩ := hboard c
  have hvalue : (entryItem (0x3400 + c.val) 3 v).value = v := by
    show v % 2 ^ (8 * entrySize (0x3400 + c.val) 3) = v
    rw [hsize]
    exact Nat.mod_eq_of_lt hv
  obtain ⟨t, ht, hans, hset⟩ := State.writeEntry_settled hp hb
  rw [hvalue, heffect] at hset
  obtain ⟨hdata, hself, hrate, hknown, hunknown, hhigh⟩ := (s.asked role).rateMax_spec c.val v
  obtain ⟨-, -, -, hdram⟩ := s.asked_retrain role c.val c.isLt
  have hreg2 : (s.asked role).reg (0x3400 + c.val) 2 = s.reg (0x3400 + c.val) 2 := s.asked_reg role (by simp [key]; omega)
  rw [hreg2, State.asked_recordBins, hdram] at hknown
  rw [hreg2, State.asked_recordBins] at hunknown
  rw [hreg2] at hhigh hrate
  refine ⟨t, ht, ((s.asked_dataKept role).trans hdata).trans hset.dataKept, hans, ?_, ?_, ?_, ?_, ?_⟩
  · rw [hset.reg _ _ (by simp [key]; omega), hself]
  · rw [hset.reg _ _ (by simp [key]; omega), hrate]
  · rwa [hset.dram]
  · rwa [hset.dram]
  · rwa [hset.dram]

/-! ### The spare -/

/-- `t` is `s` but for the state of the DRAM channels, their entries and their tests. -/
def SameButChannels (s t : State) : Prop :=
  t = { s with regs := t.regs, free := t.free, sched := t.sched, dram := t.dram, test := t.test }

theorem SameButChannels.dataKept {s t : State} (h : SameButChannels s t) : DataKept s t := by
  rw [h]
  exact ⟨rfl, rfl, rfl, rfl, rfl, rfl⟩

theorem SameButChannels.reg {s t : State} (h : SameButChannels s t) {idx sub : Nat}
    (hk : t.regs.find? (key idx sub) = s.regs.find? (key idx sub)) : t.reg idx sub = s.reg idx sub := by
  have hdefault : defaultValue t 0 idx sub = defaultValue s 0 idx sub := by
    rw [h]
    rfl
  rw [State.reg, State.reg, hk, hdefault]

theorem SameButChannels.trans {s t u : State} (h : SameButChannels s t) (k : SameButChannels t u) : SameButChannels s u := by
  rw [SameButChannels] at h k ⊢
  rw [k, h]

theorem State.closeGather_channels (s : State) : SameButChannels s s.closeGather := by
  unfold State.closeGather
  split <;> rfl

/-- The end of a gather window moves the extension of a bound only (R121). -/
theorem State.closeGather_regs (s : State) {k : Nat} (h : k % 256 ≠ 6) :
    s.closeGather.regs.find? k = s.regs.find? k := by
  unfold State.closeGather
  split
  · refine Map.find?_put_of_ne _ _ _ _ ?_
    unfold key
    omega
  · rfl

theorem State.deferRetrain_channels (s : State) (c : Nat) : SameButChannels s (s.deferRetrain c) := by
  unfold State.deferRetrain
  split
  · exact s.closeGather_channels.trans rfl
  · split <;> rfl

theorem State.deferRetrain_regs (s : State) (c : Nat) {k : Nat} (h5 : k % 256 ≠ 5) (h6 : k % 256 ≠ 6) :
    (s.deferRetrain c).regs.find? k = s.regs.find? k := by
  have hne : k ≠ key (0x3400 + c) 5 := by
    unfold key
    omega
  unfold State.deferRetrain
  split
  · exact (Map.find?_put_of_ne _ _ _ _ hne).trans (s.closeGather_regs h6)
  · split
    · exact Map.find?_put_of_ne _ _ _ _ hne
    · rfl

/-- The new state of a channel other than LOST and FAILED, stored, with a trigger that it defers. -/
def State.chanStored (s : State) (c st : Nat) : State :=
  let v := s.setReg (0x3400 + c) 1 st
  if st = 0 ∨ st = 1 ∨ st = 5 then v else v.deferRetrain c

theorem State.setChan_eq (s : State) (c : Nat) {st : Nat} (h3 : st ≠ 3) (h4 : st ≠ 4) :
    s.setChan c st = s.chanStored c st
      ∨ ∃ ts, s.setChan c st = (({ s.chanStored c st with test := ts } : State).setBreg (36 + c) 0x9010 6 4).setBreg (36 + c)
          0x9010 5 0 := by
  have hrate : ¬ (st = 3 ∨ st = 4) := by omega
  simp only [State.setChan, if_neg hrate]
  split
  · exact .inr ⟨_, rfl⟩
  · exact .inl rfl

theorem State.chanStored_channels (s : State) (c st : Nat) : SameButChannels s (s.chanStored c st) := by
  simp only [State.chanStored]
  split
  · rfl
  · exact SameButChannels.trans (t := s.setReg (0x3400 + c) 1 st) rfl (State.deferRetrain_channels _ _)

theorem State.setChan_channels (s : State) (c : Nat) {st : Nat} (h3 : st ≠ 3) (h4 : st ≠ 4) :
    SameButChannels s (s.setChan c st) := by
  rcases s.setChan_eq c h3 h4 with h | ⟨ts, h⟩
  · rw [h]
    exact s.chanStored_channels c st
  · rw [h]
    exact (s.chanStored_channels c st).trans rfl

/-- Of the entries apart from a channel's retraining, extensions and tests, a change of state stores one. -/
theorem State.setChan_regs (s : State) (c : Nat) {st k : Nat} (h3 : st ≠ 3) (h4 : st ≠ 4) (h5 : k % 256 ≠ 5)
    (h6 : k % 256 ≠ 6) :
    (s.setChan c st).regs.find? k = (s.regs.put (key (0x3400 + c) 1) st).find? k := by
  have hstored : (s.chanStored c st).regs.find? k = (s.regs.put (key (0x3400 + c) 1) st).find? k := by
    simp only [State.chanStored]
    split
    · rfl
    · exact State.deferRetrain_regs (s.setReg (0x3400 + c) 1 st) c h5 h6
  have hne5 : k ≠ bkey (36 + c) 0x9010 5 := by
    unfold bkey key
    omega
  have hne6 : k ≠ bkey (36 + c) 0x9010 6 := by
    unfold bkey key
    omega
  rcases s.setChan_eq c h3 h4 with h | ⟨ts, h⟩
  · rw [h, hstored]
  · rw [h, State.setBreg_regs, Map.find?_put_of_ne _ _ _ _ hne5, State.setBreg_regs, Map.find?_put_of_ne _ _ _ _ hne6]
    exact hstored

theorem State.copyBlock_channels (s : State) : SameButChannels s s.copyBlock := by
  unfold State.copyBlock
  split <;> rfl

theorem State.copyBlock_kept (s : State) : s.copyBlock.regs = s.regs ∧ s.copyBlock.dram = s.dram := by
  unfold State.copyBlock
  split <;> exact ⟨rfl, rfl⟩

/-- The state in which the first block of a copy to the spare is read. -/
def State.copyMarked (s : State) (c spare : Nat) : State :=
  let u := (((s.setChan c 2).setChan spare 6).setReg 0x3450 0 1).setReg 0x3450 1 c
  { u with dram := { u.dram with target := some spare, copyWanted := none, copyPtr := 0 } }

theorem State.startCopy_eq {s : State} {c spare : Nat} (hnone : s.dram.target = none) (hspare : s.spare = some spare) :
    s.startCopy c = (s.copyMarked c spare).copyBlock := by
  have htarget : ¬ s.dram.target.isSome = true := by simp [hnone]
  simp only [State.startCopy, if_neg htarget, hspare]
  rfl

theorem State.copyMarked_dataKept (s : State) (c spare : Nat) : DataKept s (s.copyMarked c spare) := by
  have hsource : SameButChannels s (s.setChan c 2) := s.setChan_channels c (by decide) (by decide)
  have htarget : SameButChannels (s.setChan c 2) ((s.setChan c 2).setChan spare 6) :=
    State.setChan_channels _ spare (by decide) (by decide)
  have hmark : ∀ u : State, SameButChannels u { (u.setReg 0x3450 0 1).setReg 0x3450 1 c with
      dram := { u.dram with target := some spare, copyWanted := none, copyPtr := 0 } } := fun _ => rfl
  exact ((hsource.trans htarget).trans (hmark _)).dataKept

/-- The states of the channels as the start of a copy leaves them. -/
theorem State.copyMarked_chan (s : State) (c spare : Nat) {k : Nat} (hk : k < 13) :
    (s.copyMarked c spare).regs.find? (key (0x3400 + k) 1)
      = ((s.regs.put (key (0x3400 + c) 1) 2).put (key (0x3400 + spare) 1) 6).find? (key (0x3400 + k) 1) := by
  have hsub : key (0x3400 + k) 1 % 256 ≠ 5 ∧ key (0x3400 + k) 1 % 256 ≠ 6 ∧ key (0x3400 + k) 1 ≠ key 0x3450 0
      ∧ key (0x3400 + k) 1 ≠ key 0x3450 1 := by
    unfold key
    omega
  obtain ⟨h5, h6, hstate, hsource⟩ := hsub
  show ((((s.setChan c 2).setChan spare 6).regs.put _ 1).put _ c).find? _ = _
  rw [Map.find?_put_of_ne _ _ _ _ hsource, Map.find?_put_of_ne _ _ _ _ hstate,
    State.setChan_regs _ _ (by decide) (by decide) h5 h6]
  by_cases hself : key (0x3400 + k) 1 = key (0x3400 + spare) 1
  · rw [hself, Map.find?_put_self, Map.find?_put_self]
  · rw [Map.find?_put_of_ne _ _ _ _ hself, Map.find?_put_of_ne _ _ _ _ hself,
      State.setChan_regs _ _ (by decide) (by decide) h5 h6]

/-- A copy to the spare starts: SOURCE and TARGET are marked and the copy is reported (R136). -/
theorem State.startCopy_spec {s : State} {c spare : Nat} (hc : c < 13) (hspare13 : spare < 13) (hne : c ≠ spare)
    (hnone : s.dram.target = none) (hspare : s.spare = some spare) :
    DataKept s (s.startCopy c) ∧ (s.startCopy c).chanState c = 2 ∧ (s.startCopy c).chanState spare = 6
      ∧ (s.startCopy c).reg 0x3450 0 = 1 ∧ (s.startCopy c).reg 0x3450 1 = c ∧ (s.startCopy c).dram.target = some spare := by
  rw [State.startCopy_eq hnone hspare]
  obtain ⟨hregs, hdram⟩ := (s.copyMarked c spare).copyBlock_kept
  have hkey : key (0x3400 + c) 1 ≠ key (0x3400 + spare) 1 := by
    unfold key
    omega
  refine ⟨(s.copyMarked_dataKept c spare).trans (State.copyBlock_channels _).dataKept, State.reg_of_find? ?_,
    State.reg_of_find? ?_, State.reg_of_find? ?_, State.reg_of_find? ?_, ?_⟩
  · rw [hregs, s.copyMarked_chan c spare hc, Map.find?_put_of_ne _ _ _ _ hkey, Map.find?_put_self]
  · rw [hregs, s.copyMarked_chan c spare hspare13, Map.find?_put_self]
  · rw [hregs]
    exact (Map.find?_put_of_ne _ _ _ _ (by decide)).trans (Map.find?_put_self _ _ _)
  · rw [hregs]
    exact Map.find?_put_self _ _ _
  · rw [hdram]
    rfl

theorem State.spare_facts {s : State} {spare : Nat} (h : s.spare = some spare) : spare < 13 ∧ s.chanState spare = 5 := by
  simp only [State.spare] at h
  split at h
  · obtain rfl := Option.some.inj h
    assumption
  · cases h

theorem State.asked_chanState (s : State) (role : Role) {c : Nat} (hc : c < 13) :
    (s.asked role).chanState c = s.chanState c :=
  s.asked_reg role (by unfold key; omega)

theorem State.asked_spare (s : State) (role : Role) : (s.asked role).spare = s.spare := by
  have hmap : (s.asked role).reg 0x2405 13 = s.reg 0x2405 13 := s.asked_reg role (by decide)
  simp only [State.spare, hmap]
  by_cases hp : s.reg 0x2405 13 < 13
  · rw [s.asked_chanState role hp]
  · simp [hp]

theorem entryItem_value_of_byte {idx v : Nat} (hsize : entrySize idx 0 = 1) (hv : v < 13) :
    (entryItem idx 0 v).value = v := by
  show v % 2 ^ (8 * entrySize idx 0) = v
  rw [hsize]
  omega

theorem spareRequestWrite_spec (s : State) (role : Role) (c spare : Nat) (hp : s.writePasses role 0x3461 0 c) (hc : c < 13)
    (hactive : s.chanState c = 0) (hnone : s.dram.target = none) (hspare : s.spare = some spare) :
    ∃ t, exec (.spareRequestWrite role c) s = .next t ∧ DataKept s t ∧ WriteAnswered s t role 0x3461 0 c 0
      ∧ t.chanState c = 2 ∧ t.chanState spare = 6 ∧ t.reg 0x3450 0 = 1 ∧ t.reg 0x3450 1 = c
      ∧ t.dram.target = some spare := by
  obtain ⟨hspare13, hstate⟩ := State.spare_facts hspare
  have hne : c ≠ spare := by
    rintro rfl
    omega
  obtain ⟨-, -, -, hdram⟩ := s.asked_retrain role c hc
  have hstart : ((s.asked role).chanState c = 0) ∧ (s.asked role).dram.target = none :=
    ⟨(s.asked_chanState role hc).trans hactive, by rw [hdram, hnone]⟩
  have heffect : (s.asked role).effect 0x3461 0 (entryItem 0x3461 0 c).value = (s.asked role).startCopy c := by
    rw [entryItem_value_of_byte (by decide +kernel) hc]
    exact if_pos hstart
  obtain ⟨t, ht, hans, hset⟩ := State.writeEntry_settled hp (by decide +kernel)
  rw [heffect] at hset
  obtain ⟨hdata, hsource, htarget, hreport, hcopied, hcopy⟩ :=
    State.startCopy_spec hc hspare13 hne hstart.2 ((s.asked_spare role).trans hspare)
  refine ⟨t, ht, ((s.asked_dataKept role).trans hdata).trans hset.dataKept, hans, ?_, ?_, ?_, ?_, ?_⟩
  · exact (hset.reg _ _ (by unfold key; omega)).trans hsource
  · exact (hset.reg _ _ (by unfold key; omega)).trans htarget
  · exact (hset.reg _ _ (by decide)).trans hreport
  · exact (hset.reg _ _ (by decide)).trans hcopied
  · rw [hset.dram, hcopy]

/-! ### Requalification -/

theorem State.mem_requalify (s : State) (c : Nat) : c ∈ (s.requalify c).dram.requalify := by
  simp only [State.requalify]
  split
  · rename_i hmarked
    simpa using hmarked
  · simp

theorem requalifyRequestWrite_spec (s : State) (role : Role) (c : Nat) (hp : s.writePasses role 0x3462 0 c) (hc : c < 13)
    (hfailed : s.chanState c = 4) :
    ∃ t, exec (.requalifyRequestWrite role c) s = .next t ∧ DataKept s t ∧ WriteAnswered s t role 0x3462 0 c 0
      ∧ c ∈ t.dram.requalify := by
  have heffect : (s.asked role).effect 0x3462 0 (entryItem 0x3462 0 c).value = (s.asked role).requalify c := by
    rw [entryItem_value_of_byte (by decide +kernel) hc]
    exact if_pos (.inl ((s.asked_chanState role hc).trans hfailed))
  obtain ⟨t, ht, hans, hset⟩ := State.writeEntry_settled hp (by decide +kernel)
  rw [heffect] at hset
  have hmark : DataKept (s.asked role) ((s.asked role).requalify c) := ⟨rfl, rfl, rfl, rfl, rfl, rfl⟩
  refine ⟨t, ht, ((s.asked_dataKept role).trans hmark).trans hset.dataKept, hans, ?_⟩
  rw [hset.dram]
  exact State.mem_requalify _ c

end Sys2Proof.Machine
end

section
/-! PROOFS. The forced outcome of a transaction in doubt (R36, R228), and the family of writes as a whole. -/
namespace Sys2Proof.Machine

/-! ### Links that stay up -/

/-- Every link that is up in `s` is up in `t`. -/
def LinksUp (s t : State) : Prop := ∀ i, (s.link i).up = true → (t.link i).up = true

theorem LinksUp.trans {s t u : State} (h : LinksUp s t) (k : LinksUp t u) : LinksUp s u := fun i hi => k i (h i hi)

theorem LinksUp.of_links {s t : State} (h : t.links = s.links) : LinksUp s t := fun i hi => by rwa [State.link, h]

theorem SameButReports.linksUp {s t : State} (h : SameButReports s t) : LinksUp s t := fun _ hi => h.up hi

theorem LinksUp.foldl {α : Type} (g : State → α → State) (h : ∀ s a, LinksUp s (g s a)) (l : List α) (s : State) :
    LinksUp s (l.foldl g s) :=
  State.foldl_holds (LinksUp s) g (fun t a ht => ht.trans (h t a)) l s fun _ hi => hi

theorem State.setLink_linksUp (s : State) (i : Nat) {l : Link} (h : l.state = (s.link i).state) : LinksUp s (s.setLink i l) := by
  intro j hj
  by_cases hij : j = i
  · subst hij
    rw [State.link_setLink_self]
    simpa only [Link.up, h] using hj
  · rwa [State.link, State.setLink_links, Map.get_put_of_ne _ _ _ _ _ hij]

theorem State.signal_linksUp (s : State) (i v : Nat) : LinksUp s (s.signal i v) := (s.signal_reports i v).linksUp

theorem State.note_linksUp (s : State) (code : Nat) (vs : List Nat) : LinksUp s (s.note code vs) :=
  (s.note_reports code vs).linksUp

theorem State.addReg_linksUp (s : State) (idx sub n : Nat) : LinksUp s (s.addReg idx sub n) := .of_links rfl

theorem State.cupboard_linksUp (s before : State) (stamp : BitVec 16) : LinksUp s (s.cupboard before stamp) := .of_links rfl

theorem State.flushOne_linksUp (s : State) (i : Nat) : LinksUp s (s.flushOne i) := by
  unfold State.flushOne
  split
  · exact (s.setLink_linksUp i (l := { s.link i with gpfWait := false }) rfl).trans (.of_links rfl)
  · exact fun _ hi => hi

theorem State.loads_linksUp (s : State) : LinksUp s s.loads := by
  refine (LinksUp.foldl State.flushOne State.flushOne_linksUp linkNos s).trans (.foldl _ (fun t i => ?_) _ _)
  dsimp only
  split
  · exact fun _ hi => hi
  · split
    · refine LinksUp.trans ?_ (State.signal_linksUp _ i 9)
      exact State.setLink_linksUp t i rfl
    · exact State.setLink_linksUp t i rfl

theorem State.holdEdges_linksUp (s before : State) : LinksUp s (s.holdEdges before) := by
  unfold State.holdEdges
  refine LinksUp.trans (t := if s.holding then s else { s with trickle := { s.trickle with overdrawn := false } })
    (.of_links (by split <;> rfl)) (.foldl _ (fun t i => ?_) _ _)
  split
  · exact fun _ hi => hi
  · exact t.signal_linksUp i 6

theorem State.resumeGroupWrites_linksUp {s : State} (h : s.ingress.writes = []) : LinksUp s s.resumeGroupWrites := by
  rw [State.resumeGroupWrites, s.resume_of_no_writes h, s.resume_of_no_writes h]
  exact (State.holdEdges_linksUp _ _).trans (State.loads_linksUp _)

theorem State.panicUpdate_linksUp (s : State) : LinksUp s s.panicUpdate := by
  have hclass : LinksUp s ({ s with trickle := { s.trickle with panic := s.panicNext } }).reclass := .of_links rfl
  unfold State.panicUpdate
  dsimp only
  split
  · exact fun _ hi => hi
  · split
    · split
      · refine LinksUp.trans ?_ (State.note_linksUp _ _ _)
        exact hclass.trans (State.addReg_linksUp _ 0x3010 4 1)
      · exact hclass.trans (State.addReg_linksUp _ 0x3010 4 1)
    · exact hclass

/-! ### A part that is forced -/

theorem State.commitGroup_links (s : State) (g : Nat) : (s.commitGroup g).links = s.links :=
  State.foldl_keeps State.links _ (fun t f => by split <;> rfl) _ _

theorem State.startRollback_links (s : State) (g : Nat) (after : Option (Nat × Nat)) :
    (s.startRollback g after).links = s.links :=
  State.foldl_keeps State.links State.requestTouch
    (fun t f => by
      unfold State.requestTouch
      split
      · rfl
      · split <;> rfl) _ _

theorem State.signalGroup_reports (s : State) (g : Nat) : SameButReports s (s.signalGroup g) := State.signalOn_reports _ _ _

theorem State.resolvePart_linksUp (commit forced : Bool) (s : State) (g : Nat) :
    LinksUp s (State.resolvePart commit forced s g) := by
  unfold State.resolvePart
  dsimp only
  refine LinksUp.trans ?_ (State.signalGroup_reports _ g).linksUp
  cases commit with
  | true => exact .of_links ((State.commitGroup_links _ g).trans rfl)
  | false => exact .of_links ((State.startRollback_links _ g none).trans rfl)

/-- A part resolved by force is marked so (R36). -/
theorem State.resolvePart_forced (commit : Bool) (s : State) (g : Nat) :
    ((State.resolvePart commit true s g).slot g).forced = true := by
  have hsig : ∀ u : State, (u.signalGroup g).slot g = u.slot g := fun u => by
    rw [State.slot, (u.signalGroup_reports g).service.groups]
    rfl
  unfold State.resolvePart
  dsimp only
  rw [hsig]
  cases commit with
  | true =>
    rw [if_pos rfl, (State.slot_of_put (State.commitGroup_kept _ g).1).1, State.slot_setSlot_self]
    exact Bool.or_true (s.slot g).forced
  | false =>
    rw [if_neg (by decide), (State.slot_of_put (State.startRollback_kept _ g none).1).1, State.slot_setSlot_self]
    exact Bool.or_true (s.slot g).forced

theorem State.foldl_resolvePart_forced (commit : Bool) (gs : List Nat) (s : State) :
    ∀ g ∈ gs, ((gs.foldl (State.resolvePart commit true) s).slot g).forced = true := by
  induction gs generalizing s with
  | nil => exact fun _ h => absurd h (List.not_mem_nil)
  | cons a gs ih =>
    intro g hg
    rw [List.foldl_cons]
    by_cases hgs : g ∈ gs
    · exact ih _ g hgs
    · obtain rfl := (List.mem_cons.mp hg).resolve_right hgs
      obtain ⟨-, hother, -⟩ := State.foldl_resolvePart_spec commit true gs (State.resolvePart commit true s g)
      rw [hother g hgs]
      exact State.resolvePart_forced commit s g

/-! ### The forced outcome -/

/-- Its first part: the parts in doubt are resolved, and the resolution recorded, counted and acknowledged (R228). -/
def State.forcedParts (s : State) (commit : Bool) : State :=
  ((((s.inDoubtParts (s.reg 0x4840 1)).foldl (State.resolvePart commit true) s).note Code.forcedResolution
    (words2 (s.reg 0x4840 1) ++ [commit.toNat])).addReg 0x4840 4 1).ackIfDone (s.reg 0x4840 1)

theorem State.forceOutcome_eq (s : State) (commit : Bool) :
    s.forceOutcome commit = (((s.forcedParts commit).cupboard s s.nowStamp).resumeGroupWrites).panicUpdate := rfl

/-- Acknowledgement and record leave the parts as their resolution has them. -/
theorem State.forcedParts_spec (s : State) (commit : Bool) :
    (∀ g, (s.forcedParts commit).slot g
        = ((s.inDoubtParts (s.reg 0x4840 1)).foldl (State.resolvePart commit true) s).slot g)
      ∧ (s.forcedParts commit).mem = s.mem ∧ (s.forcedParts commit).ingress = s.ingress
      ∧ LinksUp s (s.forcedParts commit) := by
  obtain ⟨r, hr⟩ : ∃ r, r = (s.inDoubtParts (s.reg 0x4840 1)).foldl (State.resolvePart commit true) s := ⟨_, rfl⟩
  obtain ⟨-, -, hingress⟩ := State.foldl_resolvePart_spec commit true (s.inDoubtParts (s.reg 0x4840 1)) s
  have hmem : r.mem = s.mem := by
    rw [hr]
    exact State.foldl_keeps State.mem _ (fun t g => (t.resolvePart_frame commit true g).2.2.1) _ _
  have hup : LinksUp s r := by
    rw [hr]
    exact .foldl _ (State.resolvePart_linksUp commit true) _ _
  rw [← hr] at hingress ⊢
  have hnote : SameButReports r (r.note Code.forcedResolution (words2 (s.reg 0x4840 1) ++ [commit.toNat])) :=
    State.note_reports _ _ _
  obtain ⟨ds, tr, hack⟩ := (State.addReg (r.note Code.forcedResolution (words2 (s.reg 0x4840 1) ++ [commit.toNat]))
    0x4840 4 1).ackIfDone_eq (s.reg 0x4840 1)
  rw [State.forcedParts, ← hr, hack]
  refine ⟨fun g => ?_, hnote.service.mem.trans hmem, hnote.service.ingress.trans hingress,
    (hup.trans hnote.linksUp).trans (.of_links rfl)⟩
  rw [State.slot, State.slot, ← hnote.service.groups]
  rfl

/-- A forced outcome settles every part in doubt and moves no byte, no other slot, and takes no link down. -/
theorem State.forceOutcome_spec {s : State} (commit : Bool) (h : s.ingress.writes = []) :
    (s.forceOutcome commit).mem = s.mem ∧ LinksUp s (s.forceOutcome commit)
      ∧ (∀ g ∈ s.inDoubtParts (s.reg 0x4840 1), ((s.forceOutcome commit).slot g).forced = true
          ∧ ((s.forceOutcome commit).slot g).state = decidedState commit)
      ∧ ∀ g, g ∉ s.inDoubtParts (s.reg 0x4840 1) → (s.forceOutcome commit).slot g = s.slot g := by
  obtain ⟨hslot, hmem, hingress, hup⟩ := s.forcedParts_spec commit
  have hcup := (s.forcedParts commit).cupboard_service s s.nowStamp
  have hnone : ((s.forcedParts commit).cupboard s s.nowStamp).ingress.writes = [] := by
    rw [hcup.ingress, hingress, h]
  have hserv : SameButService (s.forcedParts commit) (s.forceOutcome commit) := by
    rw [State.forceOutcome_eq]
    exact (hcup.trans (State.resumeGroupWrites_service hnone)).trans (State.panicUpdate_service _)
  have hlinks : LinksUp s (s.forceOutcome commit) := by
    rw [State.forceOutcome_eq]
    exact ((hup.trans (State.cupboard_linksUp _ _ _)).trans (State.resumeGroupWrites_linksUp hnone)).trans
      (State.panicUpdate_linksUp _)
  have hfinal : ∀ g, (s.forceOutcome commit).slot g
      = ((s.inDoubtParts (s.reg 0x4840 1)).foldl (State.resolvePart commit true) s).slot g := fun g => by
    rw [← hslot, State.slot, hserv.groups]
    rfl
  obtain ⟨hself, hother, -⟩ := State.foldl_resolvePart_spec commit true (s.inDoubtParts (s.reg 0x4840 1)) s
  refine ⟨hserv.mem.trans hmem, hlinks, fun g hg => ?_, fun g hg => ?_⟩
  · rw [hfinal]
    exact ⟨State.foldl_resolvePart_forced commit _ s g hg, hself g hg⟩
  · rw [hfinal, hother g hg]

theorem State.asked_groups (s : State) (role : Role) : (s.asked role).groups = s.groups := by
  obtain ⟨-, -, -, hgroups, -, -⟩ := s.asked_dataKept role
  exact hgroups

theorem State.asked_inDoubtParts (s : State) (role : Role) (txn : Nat) :
    (s.asked role).inDoubtParts txn = s.inDoubtParts txn := by
  rw [State.inDoubtParts, State.inDoubtParts, s.asked_groups role]

@[simp] theorem State.asked_ingress (s : State) (role : Role) : (s.asked role).ingress = s.ingress := by
  unfold State.asked
  split <;> rfl

theorem forceOutcomeWrite_spec (s : State) (role : Role) (v : Nat) (hp : s.writePasses role 0x4840 2 v) (hv : v ≤ 1)
    (hnone : s.ingress.writes = []) :
    ∃ t, exec (.forceOutcomeWrite role v) s = .next t ∧ t.mem = s.mem ∧ WriteAnswered s t role 0x4840 2 v 0
      ∧ (∀ g ∈ s.inDoubtParts (s.reg 0x4840 1), (t.slot g).forced = true
          ∧ (t.slot g).state = if v = 1 then .committed else .aborted)
      ∧ ∀ g, g ∉ s.inDoubtParts (s.reg 0x4840 1) → t.slot g = s.slot g := by
  obtain ⟨x, hx, hgen, -⟩ := State.writeEntry_passes hp (by decide +kernel)
  have heffect : (s.asked role).effect 0x4840 2 (entryItem 0x4840 2 v).value = (s.asked role).forceOutcome (v == 1) := by
    rw [entryItem_value_of_le_one (by decide +kernel) hv]
    rfl
  rw [heffect] at hgen
  obtain ⟨hmem, hup, hforced, hother⟩ := (s.asked role).forceOutcome_spec (v == 1) (by rw [State.asked_ingress, hnone])
  have htxn : (s.asked role).reg 0x4840 1 = s.reg 0x4840 1 := s.asked_reg role (by decide)
  rw [htxn, State.asked_inDoubtParts] at hforced hother
  obtain ⟨hs, -⟩ := hp
  obtain ⟨-, -, -, -, hhost⟩ := hs
  have hlink : role = .host → (x.link s.hostLink.val).up = true := fun hr => by
    rw [hgen]
    exact hup _ (by rw [State.asked_link]; exact hhost hr)
  obtain ⟨⟨ymem, -, -, ygroups, -, -⟩, -, hout⟩ := x.respond_keeps .write role s.hostLink 0 0 0 0 0 0
    [respOf (entryItem 0x4840 2 v) 0] (by omega) hlink []
  have hxgroups : x.groups = ((s.asked role).forceOutcome (v == 1)).groups := by rw [hgen]
  have hslot : ∀ g, (x.answered role s.hostLink (entryItem 0x4840 2 v)).slot g
      = ((s.asked role).forceOutcome (v == 1)).slot g := fun g => by
    rw [State.slot, State.slot, State.answered, ygroups, hxgroups]
  have hdecided : decidedState (v == 1) = if v = 1 then .committed else .aborted := by
    by_cases h1 : v = 1 <;> simp [decidedState, h1]
  obtain ⟨amem, -⟩ := s.asked_dataKept role
  refine ⟨_, hx, ?_, hout, fun g hg => ?_, fun g hg => ?_⟩
  · have hxmem : x.mem = ((s.asked role).forceOutcome (v == 1)).mem := by rw [hgen]
    exact ((ymem.trans hxmem).trans hmem).trans amem
  · rw [hslot, ← hdecided]
    exact hforced g hg
  · rw [hslot, hother g hg, State.slot, s.asked_groups role]
    rfl

/-! ### The obligation -/

theorem bankHashWrite_spec (s : State) (role : Role) (v : Nat) {sub : Nat} (hlow : 1 ≤ sub) (hhigh : sub ≤ 6)
    (hp : s.writePasses role 0x3030 sub v) :
    ∃ t, exec (.bankHashWrite role sub v) s = .next t ∧ DataKept s t ∧ WriteAnswered s t role 0x3030 sub v 0
      ∧ t.reg 0x3030 sub = (entryItem 0x3030 sub v).value ∧ t.layout = s.layout
      ∧ RegsKept s t (key 0x3030 sub :: dictEntries) := by
  have hall : ∀ k : Fin 7, 1 ≤ k.val → boardEntry 0x3030 k.val = true := by decide +kernel
  obtain ⟨t, ht, hrest⟩ := State.writeEntry_stored hp (hall ⟨sub, by omega⟩ hlow) (fun _ _ => rfl) (by unfold key; omega)
  exact ⟨t, (if_pos ⟨hlow, hhigh⟩).trans ht, hrest⟩

theorem State.enabledState_cases (s : State) (i v : Nat) :
    (v = 0 → (s.link i).up = true → s.enabledState i v = .disabling)
      ∧ (v = 1 → (s.link i).state = .disabling → s.enabledState i v = .pendingStart)
      ∧ (v = 1 → (s.link i).state = .down → s.layout.formed i = true → s.ctl.mode ≠ .dormant →
          s.enabledState i v = .training) := by
  refine ⟨?_, ?_, ?_⟩
  · rintro rfl hup
    rw [State.enabledState, if_pos rfl, if_pos (.inl hup)]
  · rintro rfl hstate
    rw [State.enabledState, if_neg (by decide), hstate]
  · rintro rfl hstate hformed hmode
    simp [State.enabledState, hstate, hformed, hmode]

theorem State.enabledPort_cases (s : State) (p v : Nat) :
    (v = 0 → (s.port p).state = .inService → (s.enabledPort p v).state = .disabling ∧ (s.enabledPort p v).turned = true)
      ∧ (v = 1 → (s.port p).state = .disabling → (s.enabledPort p v).state = .pendingStart)
      ∧ (v = 1 → (s.port p).state = .down → s.trestleRuns = true → (s.enabledPort p v).state = .training) := by
  refine ⟨?_, ?_, ?_⟩
  · rintro rfl hstate
    simp [State.enabledPort, hstate]
  · rintro rfl hstate
    simp [State.enabledPort, hstate]
  · rintro rfl hstate hruns
    simp [State.enabledPort, hstate, hruns]

/-- Settles O51: a write that passes leaves its entry's effect and an answer (`State.writeEntry_settled`), and each entry's effect
is what its rule says. -/
theorem writesOfLinksAndLayout : Obligations.WritesOfLinksAndLayout := by
  unfold Obligations.WritesOfLinksAndLayout
  refine ⟨fun s role link v hp hv => ?_, fun s role v hp hv hnone _ _ => forceOutcomeWrite_spec s role v hp hv hnone,
    fun s role v => ⟨fun hp => ?_, fun hp => ?_, fun hp => ?_, fun sub h1 h6 hp => bankHashWrite_spec s role v h1 h6 hp⟩,
    retrainRequestWrite_spec, rateMaxWrite_spec, spareRequestWrite_spec, requalifyRequestWrite_spec,
    fun s role port v hp hv hdup => ?_⟩
  · obtain ⟨t, ht, hdata, hans, hreg, hstate⟩ := linkEnableWrite_spec s role link v hp hv
    refine ⟨t, ht, hdata, hans, hreg, ?_⟩
    rw [hstate]
    exact s.enabledState_cases link.val v
  · exact State.writeEntry_stored hp (by decide +kernel) (fun _ _ => rfl) (by decide)
  · exact State.writeEntry_stored hp (by decide +kernel) (fun _ _ => rfl) (by decide)
  · exact State.writeEntry_stored hp (by decide +kernel) (fun _ _ => rfl) (by decide)
  · obtain ⟨t, ht, hdata, hans, hreg, hport⟩ := trestleLinkEnableWrite_spec s role port v hp hv hdup
    refine ⟨t, ht, hdata, hans, hreg, ?_⟩
    rw [hport]
    exact s.enabledPort_cases port.val v

end Sys2Proof.Machine
end

section
/-! PROOFS. Promotion, ANCIENT, refresh, refresh management and the end of mirror arming (R88, R96, R97, R101, R108, R109). -/

namespace Sys2Proof.Machine

/-! ### Counted changes of the scheduler -/

theorem RegsKept.addReg (s : State) (idx sub n : Nat) : RegsKept s (s.addReg idx sub n) [key idx sub] :=
  (RegsKept.of_regs rfl _).put (List.mem_singleton_self _) _ rfl

theorem State.reg_addReg_of_ne (s : State) {idx sub idx' sub' : Nat} (n : Nat) (h : key idx sub ≠ key idx' sub') :
    (s.addReg idx' sub' n).reg idx sub = s.reg idx sub := by
  simp only [State.reg, State.addReg, Map.find?_put_of_ne _ _ _ _ h]
  rfl

theorem key_ne {idx sub sub' : Nat} (h : sub ≠ sub') : key idx sub ≠ key idx sub' := by
  unfold key
  omega

/-- A command that only changes the scheduler and counts it moves no data and no entry but the count. -/
theorem State.sched_addReg (s : State) (sc : Sched) (idx sub n : Nat) :
    DataKept s ({ s.fresh with sched := sc }.addReg idx sub n)
      ∧ Counted s ({ s.fresh with sched := sc }.addReg idx sub n) idx sub n
      ∧ RegsKept s ({ s.fresh with sched := sc }.addReg idx sub n) [key idx sub] :=
  ⟨⟨rfl, rfl, rfl, rfl, rfl, rfl⟩, (State.addReg_counted { s.fresh with sched := sc } idx sub n).of_reg rfl,
    RegsKept.addReg { s.fresh with sched := sc } idx sub n⟩

/-! ### Promotion and ANCIENT -/

/-- A change that leaves a burst its identifier and channel is read back. -/
theorem State.setBurst_burst {s : State} {chan id : Nat} {b : Burst} {f : Burst → Burst} (h : s.burst chan id = some b)
    (hf : ∀ x, (f x).id = x.id ∧ (f x).chan = x.chan) : (s.setBurst id f).burst chan id = some (f b) := by
  have hid : b.id = id := by
    have hb := List.find?_some h
    simp only [Bool.and_eq_true, beq_iff_eq] at hb
    exact hb.1
  have hsame : ((fun x : Burst => x.id == id && x.chan == chan) ∘ fun x => if x.id = id then f x else x)
      = fun x => x.id == id && x.chan == chan := by
    funext x
    obtain ⟨hfid, hfchan⟩ := hf x
    by_cases hx : x.id = id <;> simp [hx, hfid, hfchan]
  have hmap : (s.setBurst id f).burst chan id = (s.burst chan id).map fun x => if x.id = id then f x else x := by
    simp only [State.burst, State.setBurst, List.find?_map, hsame]
  rw [hmap, h, Option.map_some, if_pos hid]

theorem burstPromoted_spec (s : State) (chan : Fin 13) (id : Nat) (now : BitVec 16) (b : Burst)
    (hb : s.burst chan.val id = some b) (hcls : 1 ≤ b.cls) (hnot : b.promoted = false) (hmode : s.ctl.mode ≠ .save)
    (hage : s.reg 0x3000 b.cls ≤ ageNs now b.stamp) :
    ∃ t, exec (.burstPromoted chan id now) s = .next t ∧ DataKept s t
      ∧ t.burst chan.val id = some { b with promoted := true } ∧ Counted s t (0x3120 + chan.val) 1 1
      ∧ RegsKept s t [key (0x3120 + chan.val) 1] := by
  have hstep : exec (.burstPromoted chan id now) s
      = .next ((s.fresh.setBurst id fun x => { x with promoted := true }).addReg (0x3120 + chan.val) 1 1) := by
    show execBurstPromoted chan id now s = _
    rw [execBurstPromoted, hb]
    exact congrArg _ (if_pos ⟨hcls, hnot, hmode, hage⟩)
  obtain ⟨hdata, hcount, hregs⟩ := s.sched_addReg (s.fresh.setBurst id fun x => { x with promoted := true }).sched
    (0x3120 + chan.val) 1 1
  exact ⟨_, hstep, hdata, State.setBurst_burst (s := s.fresh) hb fun _ => ⟨rfl, rfl⟩, hcount, hregs⟩

theorem burstAncient_spec (s : State) (chan : Fin 13) (id : Nat) (now : BitVec 16) (b : Burst)
    (hb : s.burst chan.val id = some b) (hnot : b.ancient = none) (hage : 16384 ≤ (now - b.stamp).toNat) :
    ∃ t, exec (.burstAncient chan id now) s = .next t ∧ DataKept s t
      ∧ t.burst chan.val id = some { b with ancient := some s.sched.nextAncient }
      ∧ t.sched.nextAncient = s.sched.nextAncient + 1 ∧ Counted s t (0x3120 + chan.val) 2 1
      ∧ RegsKept s t [key (0x3120 + chan.val) 2] := by
  obtain ⟨u, hu⟩ : ∃ u, u = s.fresh.setBurst id fun x => { x with ancient := some s.sched.nextAncient } := ⟨_, rfl⟩
  have hstep : exec (.burstAncient chan id now) s
      = .next ({ s.fresh with sched := { u.sched with nextAncient := s.sched.nextAncient + 1 } }.addReg
          (0x3120 + chan.val) 2 1) := by
    show execBurstAncient chan id now s = _
    rw [execBurstAncient, hb, hu]
    exact congrArg _ (if_pos ⟨hnot, hage⟩)
  have hburst : u.burst chan.val id = some { b with ancient := some s.sched.nextAncient } := by
    rw [hu]
    exact State.setBurst_burst (s := s.fresh) hb fun _ => ⟨rfl, rfl⟩
  obtain ⟨hdata, hcount, hregs⟩ := s.sched_addReg { u.sched with nextAncient := s.sched.nextAncient + 1 }
    (0x3120 + chan.val) 2 1
  exact ⟨_, hstep, hdata, hburst, rfl, hcount, hregs⟩

/-! ### Refresh -/

/-- The banks that a refresh covers, by their numbers over the subchannel. -/
theorem State.refreshes_mod (s : State) (bank k : Nat) :
    s.refreshes bank (k % 512) = true ↔ s.reg 0x3020 0 = 0 ∨ k % 32 = bank % 32 := by
  simp [State.refreshes, Nat.mod_mod_of_dvd k (show 32 ∣ 512 by decide)]

theorem refreshDue_issued (s : State) (chan : Fin 13) (sub : Fin 2) (bank deviceMax : Nat) (now : BitVec 16)
    (hself : s.selfRefresh = false) (hfree : s.refreshBlocked chan.val sub.val bank = false) :
    ∃ t, exec (.refreshDue chan sub bank deviceMax now) s = .next t ∧ DataKept s t ∧ t.regs = s.regs
      ∧ t.sched.bursts = s.sched.bursts
      ∧ (∀ e ∈ t.sched.openRow, ¬ (e.1 / 512 = 2 * chan.val + sub.val ∧ (s.reg 0x3020 0 = 0 ∨ e.1 % 32 = bank % 32)))
      ∧ ∀ e ∈ s.sched.openRow, (e.1 / 512 ≠ 2 * chan.val + sub.val ∨ (s.reg 0x3020 0 ≠ 0 ∧ e.1 % 32 ≠ bank % 32)) →
          e ∈ t.sched.openRow := by
  have hclosed : ∀ e : Nat × Nat, e ∈ (s.sched.openRow.filter fun e =>
        !(e.1 / 512 == subKey chan.val sub.val && s.refreshes bank (e.1 % 512)))
      ↔ e ∈ s.sched.openRow
        ∧ ¬ (e.1 / 512 = 2 * chan.val + sub.val ∧ (s.reg 0x3020 0 = 0 ∨ e.1 % 32 = bank % 32)) := fun e => by
    rw [← s.refreshes_mod bank e.1, List.mem_filter, Bool.not_eq_true', ← Bool.not_eq_true, Bool.and_eq_true, beq_iff_eq,
      subKey]
  refine ⟨_, (congrArg Host.Outcome.next ((if_neg (by simp [hself])).trans (if_neg (by simp [hfree]))) :
    execRefreshDue chan sub bank deviceMax now s = _), ⟨rfl, rfl, rfl, rfl, rfl, rfl⟩, rfl, rfl,
    fun e he => ((hclosed e).mp he).2, fun e he hout => (hclosed e).mpr ⟨he, ?_⟩⟩
  rintro ⟨hsub, hall | hbank⟩
  · exact hout.elim (· hsub) (·.1 hall)
  · exact hout.elim (· hsub) (·.2 hbank)

theorem refreshDue_postponed (s : State) (chan : Fin 13) (sub : Fin 2) (bank deviceMax : Nat) (now : BitVec 16)
    (hself : s.selfRefresh = false) (hblocked : s.refreshBlocked chan.val sub.val bank = true)
    (hlimit : s.sched.postponed.get (32 * (2 * chan.val + sub.val) + (if s.reg 0x3020 0 = 0 then 0 else bank % 32)) 0
      < s.postponeMax deviceMax) :
    ∃ t, exec (.refreshDue chan sub bank deviceMax now) s = .next t ∧ DataKept s t
      ∧ t.sched.openRow = s.sched.openRow ∧ Counted s t (0x3120 + chan.val) 4 1
      ∧ RegsKept s t [key (0x3120 + chan.val) 4] := by
  refine ⟨_, (congrArg Host.Outcome.next ((if_neg (by simp [hself])).trans (if_pos ⟨hblocked, hlimit⟩)) :
    execRefreshDue chan sub bank deviceMax now s = _), ?_⟩
  obtain ⟨hdata, hcount, hregs⟩ := s.sched_addReg _ (0x3120 + chan.val) 4 1
  exact ⟨hdata, rfl, hcount, hregs⟩

/-! ### Refresh management -/

theorem Map.find?_filter_of_false {α : Type} {m : Map α} {q : Nat} {p : Nat × α → Bool} (h : ∀ v, p (q, v) = false) :
    Map.find? (m.filter p) q = none := by
  induction m with
  | nil => rfl
  | cons e m ih =>
    obtain ⟨k, v⟩ := e
    cases hp : p (k, v) with
    | false => rw [List.filter_cons_of_neg (by simp [hp]), ih]
    | true =>
      have hk : k ≠ q := fun hk => by simp [hk, h v] at hp
      rw [List.filter_cons_of_pos hp, Map.find?, if_neg hk, ih]

/-- The extended bound moves bursts and its own counter (R99). -/
theorem State.extendBound_keeps (s : State) (chan : Nat) (sub : Option Nat) (ns : Nat) :
    DataKept s (s.extendBound chan sub ns) ∧ RegsKept s (s.extendBound chan sub ns) [key (0x3120 + chan) 6]
      ∧ (s.extendBound chan sub ns).sched.acts = s.sched.acts :=
  ⟨⟨rfl, rfl, rfl, rfl, rfl, rfl⟩, (RegsKept.of_regs rfl _).put (List.mem_singleton_self _) _ rfl, rfl⟩

theorem State.extendBound_counted {s t : State} {chan sub n : Nat} (h : Counted s t (0x3120 + chan) sub n) (hsub : sub ≠ 6)
    (only : Option Nat) (ns : Nat) : Counted s (t.extendBound chan only ns) (0x3120 + chan) sub n := fun hn =>
  (State.reg_addReg_of_ne _ ns (key_ne hsub)).trans (h hn)

/-- The state once refresh management of some banks is counted. -/
def State.managed (s : State) (chan sub : Nat) (banks : List Nat) (ns : Nat) : State :=
  { s.fresh with sched := { s.sched with
    acts := s.sched.acts.filter fun e => !(e.1 / 512 == subKey chan sub && banks.contains (e.1 % 512)),
    rfm := s.sched.rfm.put (subKey chan sub) (((s.sched.rfm.get (subKey chan sub) ([], 0)).1 ++ banks).eraseDups,
      (s.sched.rfm.get (subKey chan sub) ([], 0)).2 + ns) } }.addReg (0x3120 + chan) 5 banks.length

theorem State.managed_acts (s : State) (chan sub : Nat) {banks : List Nat} (ns : Nat) {b : Nat} (hb : b ∈ banks)
    (hlt : b < 512) : (s.managed chan sub banks ns).sched.acts.find? (512 * (2 * chan + sub) + b) = none := by
  refine Map.find?_filter_of_false fun v => ?_
  have hdiv : (512 * (2 * chan + sub) + b) / 512 = 2 * chan + sub := by omega
  have hmod : (512 * (2 * chan + sub) + b) % 512 = b := by omega
  simp [hdiv, hmod, subKey, hb]

/-- Up to 4 banks in a tREFI have their management counted; from the fifth on it extends the bound as well. -/
theorem execActivationLimit_eq {s : State} (chan : Fin 13) (sub : Fin 2) {banks : List Nat} (ns : Nat)
    (hself : s.selfRefresh = false) (hbanks : banks ≠ []) :
    execActivationLimit chan sub banks ns s = .next
      (if 4 < ((s.sched.rfm.get (2 * chan.val + sub.val) ([], 0)).1 ++ banks).eraseDups.length then
        (s.managed chan.val sub.val banks ns).extendBound chan.val (some sub.val)
          (if 4 < (s.sched.rfm.get (2 * chan.val + sub.val) ([], 0)).1.length then ns
            else (s.sched.rfm.get (2 * chan.val + sub.val) ([], 0)).2 + ns)
      else s.managed chan.val sub.val banks ns) :=
  congrArg _ (if_neg (by simp [hself, hbanks]))

theorem activationLimit_spec (s : State) (chan : Fin 13) (sub : Fin 2) (banks : List Nat) (ns : Nat)
    (hself : s.selfRefresh = false) (hbanks : banks ≠ []) :
    ∃ t, exec (.activationLimit chan sub banks ns) s = .next t ∧ DataKept s t
      ∧ Counted s t (0x3120 + chan.val) 5 banks.length
      ∧ RegsKept s t [key (0x3120 + chan.val) 5, key (0x3120 + chan.val) 6]
      ∧ (∀ b ∈ banks, b < 512 → t.sched.acts.find? (512 * (2 * chan.val + sub.val) + b) = none)
      ∧ t.sched.bursts =
          (if ((s.sched.rfm.get (2 * chan.val + sub.val) ([], 0)).1 ++ banks).eraseDups.length ≤ 4 then s.sched.bursts
           else s.sched.bursts.map fun b => if b.chan = chan.val ∧ b.sub = sub.val then
            { b with
              extended := b.extended + (if 4 < (s.sched.rfm.get (2 * chan.val + sub.val) ([], 0)).1.length then ns
                else (s.sched.rfm.get (2 * chan.val + sub.val) ([], 0)).2 + ns) } else b) := by
  refine ⟨_, execActivationLimit_eq chan sub ns hself hbanks, ?_⟩
  have hacts : ∀ b ∈ banks, b < 512 →
      (s.managed chan.val sub.val banks ns).sched.acts.find? (512 * (2 * chan.val + sub.val) + b) = none :=
    fun _ hb hlt => s.managed_acts chan.val sub.val ns hb hlt
  obtain ⟨hdata, hcount, hregs⟩ : DataKept s (s.managed chan.val sub.val banks ns)
      ∧ Counted s (s.managed chan.val sub.val banks ns) (0x3120 + chan.val) 5 banks.length
      ∧ RegsKept s (s.managed chan.val sub.val banks ns) [key (0x3120 + chan.val) 5] := s.sched_addReg _ _ _ _
  by_cases hmany : 4 < ((s.sched.rfm.get (2 * chan.val + sub.val) ([], 0)).1 ++ banks).eraseDups.length
  · rw [if_pos hmany, if_neg (Nat.not_le.mpr hmany)]
    obtain ⟨hxdata, hxregs, hxacts⟩ := (s.managed chan.val sub.val banks ns).extendBound_keeps chan.val (some sub.val)
      (if 4 < (s.sched.rfm.get (2 * chan.val + sub.val) ([], 0)).1.length then ns
        else (s.sched.rfm.get (2 * chan.val + sub.val) ([], 0)).2 + ns)
    refine ⟨hdata.trans hxdata, State.extendBound_counted hcount (by decide) _ _,
      (hregs.mono (by simp)).trans hdata.mode (hxregs.mono (by simp)), hxacts ▸ hacts, ?_⟩
    refine List.map_congr_left fun b _ => ?_
    simp only [reduceCtorEq, false_or, Option.some.injEq, eq_comm (a := sub.val)]
  · rw [if_neg hmany, if_pos (Nat.not_lt.mp hmany)]
    exact ⟨hdata, hcount, hregs.mono (by simp), hacts, rfl⟩

/-! ### The end of mirror arming -/

theorem State.reserveMirror_of_mem {s : State} {f : Nat} (h : f ∈ s.mirrorCopied) : s.reserveMirror f = s := by
  rw [State.reserveMirror, if_neg (by simp [h])]

theorem State.foldl_reserveMirror_of_mem {s : State} {leaves : List Nat} (h : ∀ f ∈ leaves, f ∈ s.mirrorCopied) :
    leaves.foldl State.reserveMirror s = s := by
  induction leaves with
  | nil => rfl
  | cons f leaves ih =>
    obtain ⟨hf, hrest⟩ := List.forall_mem_cons.mp h
    rw [List.foldl_cons, State.reserveMirror_of_mem hf, ih hrest]

/-- A leaf without mirror lines takes them where there is room (R169). -/
theorem State.reserveMirror_of_not_mem {s : State} {f : Nat} (hat : s.mirrorAt (f * 65536) = true) (h : f ∉ s.mirrorCopied) :
    s.reserveMirror f = if s.mirrorRoom f = true then { s with mirrorCopied := s.mirrorCopied ++ [f] } else s := by
  simp [State.reserveMirror, hat, h]

/-- A leaf with mirror lines is wholly copied once its window is armed. -/
theorem State.armed_whole {s : State} {leaves : List Nat} {f : Nat} (hf : f ∈ leaves) (hcopied : f ∈ s.mirrorCopied) :
    f ∈ (s.armed leaves).mirrorWhole := by
  by_cases hwhole : f ∈ s.mirrorWhole
  · exact List.mem_append_left _ hwhole
  · exact List.mem_append_right _ (List.mem_filter.mpr ⟨hf, by simp [hcopied, hwhole]⟩)

/-- In ARMING, with no leaf of the window left to restore, the window is ARMED once each of its leaves has mirror lines. -/
theorem execMirrorArmingComplete_eq {s : State} {window : Fin 64} (harming : s.reg (0x2500 + window.val) 5 = 1)
    (hmode : s.ctl.mode ≠ .save) (hrestored : s.unrestoredDirty window.val = []) {u : State}
    (hu : (s.windowLeaves window.val).foldl State.reserveMirror s.fresh = u) :
    execMirrorArmingComplete window s = .next
      (if ∀ f ∈ s.windowLeaves window.val, f ∈ u.mirrorCopied then
        (u.armed (s.windowLeaves window.val)).setReg (0x2500 + window.val) 5 2
      else u.armed (s.windowLeaves window.val)) := by
  have hcopied : (u.armed (s.windowLeaves window.val)).mirrorCopied = u.mirrorCopied := rfl
  simp [execMirrorArmingComplete, harming, hmode, hrestored, hu, hcopied]

/-- Where the mirror lines reserved suffice for every leaf of the window, it is ARMED and all of them are wholly copied. -/
theorem mirrorArmingComplete_armed {s : State} {window : Fin 64} (harming : s.reg (0x2500 + window.val) 5 = 1)
    (hmode : s.ctl.mode ≠ .save) (hrestored : s.unrestoredDirty window.val = []) {mc : List Nat}
    (hreserved : (s.windowLeaves window.val).foldl State.reserveMirror s.fresh = { s.fresh with mirrorCopied := mc })
    (hall : ∀ f ∈ s.windowLeaves window.val, f ∈ mc) :
    ∃ t, exec (.mirrorArmingComplete window) s = .next t ∧ DataKept s t ∧ t.reg (0x2500 + window.val) 5 = 2
      ∧ RegsKept s t [key (0x2500 + window.val) 5] ∧ t.mirrorCopied = mc
      ∧ ∀ f ∈ s.windowLeaves window.val, f ∈ t.mirrorWhole := by
  have hstep := execMirrorArmingComplete_eq harming hmode hrestored hreserved
  rw [if_pos hall] at hstep
  exact ⟨_, hstep, ⟨rfl, rfl, rfl, rfl, rfl, rfl⟩, State.reg_setReg_self _ _ _ _,
    (RegsKept.of_regs rfl _).put (List.mem_singleton_self _) _ rfl, rfl,
    fun f hf => State.armed_whole (s := { s.fresh with mirrorCopied := mc }) hf (hall f hf)⟩

theorem mirrorArmingComplete_reserved (s : State) (window : Fin 64) (harming : s.reg (0x2500 + window.val) 5 = 1)
    (hmode : s.ctl.mode ≠ .save) (hrestored : s.unrestoredDirty window.val = [])
    (hcopied : ∀ f ∈ s.windowLeaves window.val, f ∈ s.mirrorCopied) :
    ∃ t, exec (.mirrorArmingComplete window) s = .next t ∧ DataKept s t ∧ t.reg (0x2500 + window.val) 5 = 2
      ∧ RegsKept s t [key (0x2500 + window.val) 5] ∧ t.mirrorCopied = s.mirrorCopied
      ∧ ∀ f ∈ s.windowLeaves window.val, f ∈ t.mirrorWhole :=
  mirrorArmingComplete_armed harming hmode hrestored (State.foldl_reserveMirror_of_mem (s := s.fresh) hcopied) hcopied

theorem mirrorArmingComplete_lone (s : State) (window : Fin 64) (f : Nat) (harming : s.reg (0x2500 + window.val) 5 = 1)
    (hmode : s.ctl.mode ≠ .save) (hrestored : s.unrestoredDirty window.val = []) (hlone : s.windowLeaves window.val = [f])
    (hat : s.mirrorAt (f * 65536) = true) (hnew : f ∉ s.mirrorCopied) :
    ∃ t, exec (.mirrorArmingComplete window) s = .next t ∧ DataKept s t
      ∧ RegsKept s t [key (0x2500 + window.val) 5]
      ∧ (if s.mirrorRoom f = true then
          t.reg (0x2500 + window.val) 5 = 2 ∧ t.mirrorCopied = s.mirrorCopied ++ [f] ∧ f ∈ t.mirrorWhole
        else t.reg (0x2500 + window.val) 5 = 1 ∧ t.mirrorCopied = s.mirrorCopied) := by
  have hfold : (s.windowLeaves window.val).foldl State.reserveMirror s.fresh
      = if s.mirrorRoom f = true then { s.fresh with mirrorCopied := s.mirrorCopied ++ [f] } else s.fresh := by
    rw [hlone]
    exact State.reserveMirror_of_not_mem (s := s.fresh) hat hnew
  by_cases hroom : s.mirrorRoom f = true
  · rw [if_pos hroom] at hfold
    obtain ⟨t, hstep, hdata, hreg, hregs, hcopied, hwhole⟩ :=
      mirrorArmingComplete_armed harming hmode hrestored hfold (by simp [hlone])
    refine ⟨t, hstep, hdata, hregs, ?_⟩
    rw [if_pos hroom]
    exact ⟨hreg, hcopied, hwhole f (by simp [hlone])⟩
  · rw [if_neg hroom] at hfold
    have hstep := execMirrorArmingComplete_eq harming hmode hrestored hfold
    rw [if_neg (by simp [hlone, hnew])] at hstep
    refine ⟨_, hstep, ⟨rfl, rfl, rfl, rfl, rfl, rfl⟩, RegsKept.of_regs rfl _, ?_⟩
    rw [if_neg hroom]
    exact ⟨harming, rfl⟩

/-! ### The obligation -/

/-- Settles O23: each event answers the state that its rule names, and that state differs from the one before it in the
scheduler, in mirror lines and in the entries named only. -/
theorem schedulerEvents : Obligations.SchedulerEvents := by
  unfold Obligations.SchedulerEvents
  exact ⟨burstPromoted_spec, burstAncient_spec, fun _ _ _ => rfl, refreshDue_issued, refreshDue_postponed,
    activationLimit_spec, mirrorArmingComplete_reserved, mirrorArmingComplete_lone⟩

end Sys2Proof.Machine
end

section
/-! PROOFS. Ages and their order (R95), and a burst for a LOST channel, which stays queued (R138). -/
namespace Sys2Proof.Machine

/-! ### Ages and order -/

/-- The 16-bit distance from one stamp to another, in natural numbers. -/
theorem stampDistance_toNat (a b : BitVec 16) : (b - a).toNat = (b.toNat + 65536 - a.toNat) % 65536 := by
  rw [BitVec.toNat_sub, ← Nat.sub_add_comm a.isLt.le, Nat.add_comm]

theorem olderStamp_iff (a b : BitVec 16) : olderStamp a b = true ↔ 1 ≤ (b - a).toNat ∧ (b - a).toNat ≤ 32767 := by
  simp [olderStamp]

@[simp] theorem olderStamp_self (a : BitVec 16) : olderStamp a a = false := by
  simp [olderStamp]

/-- Bursts of one stamp go by port, and within a port by their identifiers, which rise in entry order. -/
theorem ageBefore_of_stamp_eq {a b : Burst} (h : a.stamp = b.stamp) :
    ageBefore a b = true ↔ a.port < b.port ∨ (a.port = b.port ∧ a.id < b.id) := by
  simp [ageBefore, h]

/-- Settles O21: the distance of two stamps modulo 2^16 is the difference of the 16-bit words. -/
theorem agesOfBursts : Obligations.AgesOfBursts := by
  unfold Obligations.AgesOfBursts
  refine ⟨fun now stamp => ?_, fun a b => ?_, fun _ _ => ageBefore_of_stamp_eq⟩
  · rw [ageNs, stampDistance_toNat, Nat.mul_comm]
  · rw [olderStamp_iff, stampDistance_toNat]

/-! ### The stages of BURST_ISSUE that find nothing to do -/

/-- Where every burst stands in its transaction queue, no port has a head to admit. -/
theorem State.heads_of_inQueue {s : State} (h : ∀ b ∈ s.sched.bursts, b.inQueue = true) (chan sub : Nat) :
    s.heads chan sub = [] := by
  have hport : ∀ port, s.portQueue chan sub port = [] := fun port => by
    rw [State.portQueue, List.filter_eq_nil_iff.mpr fun b hb => by simp [h b hb], List.take_nil]
  simp [State.heads, hport]

/-- The arbiters choose nothing of no burst. -/
theorem State.ranked_nil (s : State) (chan sub : Nat) {last : List Burst → Option Burst} (hlast : last [] = none) :
    s.ranked chan sub last [] = none := by
  simp [State.ranked, hlast]

theorem State.portChoice_of_inQueue {s : State} (h : ∀ b ∈ s.sched.bursts, b.inQueue = true) (chan sub : Nat) :
    s.portChoice chan sub = none := by
  rw [State.portChoice, State.heads_of_inQueue h]
  exact s.ranked_nil chan sub (ite_self _)

theorem State.admitBursts_of_inQueue {s : State} (h : ∀ b ∈ s.sched.bursts, b.inQueue = true) (chan sub fuel : Nat) :
    State.admitBursts chan sub fuel s = s := by
  cases fuel with
  | zero => rfl
  | succ fuel => simp [State.admitBursts, State.portChoice_of_inQueue h]

theorem State.payCompletions_of_no_writes {s : State} (h : s.ingress.writes = []) : s.payCompletions = s := by
  simp [State.payCompletions, h]

/-- To a LOST channel nothing issues (R138 step 1). -/
theorem State.nextBurst_of_lost {s : State} {chan : Nat} (h : s.chanState chan = 3) (sub : Nat) :
    s.nextBurst chan sub = none :=
  if_pos h

/-- BURST_ISSUE for a LOST channel does not apply where nothing else is left to do: no burst waits to enter a transaction
queue, and no write waits for its completion. -/
theorem exec_burstIssue_of_lost {s : State} {chan : Fin 13} (hlost : s.chanState chan.val = 3)
    (hqueued : ∀ b ∈ s.sched.bursts, b.inQueue = true) (hwrites : s.ingress.writes = []) (sub : Fin 2) (now : BitVec 16)
    (corrected : Option (Fin 10 × Bool)) : exec (.burstIssue chan sub now corrected) s = .next s.idle := by
  have hadmit : State.admitBursts chan.val sub.val 64 s.fresh = s.fresh :=
    State.admitBursts_of_inQueue (s := s.fresh) hqueued _ _ _
  have hpay : s.fresh.payCompletions = s.fresh := State.payCompletions_of_no_writes hwrites
  have hnone : s.fresh.nextBurst chan.val sub.val = none := State.nextBurst_of_lost hlost _
  show execBurstIssue chan sub now s corrected = _
  rw [execBurstIssue, hadmit, hpay, hnone]
  exact congrArg _ (if_pos rfl)

/-! ### The counterexample -/

/-- A scrub read of channel 12 in its transaction queue. -/
def queuedScrub : Burst :=
  { id := 1, mate := 0, chan := 12, off := 0, port := 7, cls := 6, own := 6, stamp := 0, unit := 0, write := false,
    inQueue := true, promoted := false, ancient := none, ingress := none, job := .none, extended := 0 }

/-- ONLINE, that read of the spare waits and nothing else does. -/
def scrubOfSpare : State :=
  { State.reset with
    ctl := { Control.reset with mode := .online }
    sched := { Sched.reset with bursts := [queuedScrub], nextId := 2 } }

/-- The spare is lost for an uncorrectable error (R127, R137). -/
def scrubOfLostSpare : State := scrubOfSpare.fresh.loseChannel 12 .uncorrectable

/-- A command reaches that state. -/
theorem exec_channelLost_scrubOfSpare :
    exec (.channelLost 12 .uncorrectable) scrubOfSpare = .next scrubOfLostSpare :=
  congrArg Host.Outcome.next (if_pos (by decide +kernel))

/-- The loss leaves the scrub read in the queue of the channel, which is LOST now and served in the mode. -/
theorem scrubOfLostSpare_queue :
    scrubOfLostSpare.sched.bursts = [queuedScrub] ∧ scrubOfLostSpare.portServed queuedScrub = true
      ∧ scrubOfLostSpare.ingress.writes = [] ∧ scrubOfLostSpare.chanState 12 = 3 := by
  decide +kernel

/-- Refutes O22: nothing is asked of the channel's state, and the lone burst of a channel that is LOST stays queued
(R138 step 1). -/
theorem not_schedulerIssues : ¬ Obligations.SchedulerIssues := by
  unfold Obligations.SchedulerIssues
  rintro ⟨hlone, -⟩
  obtain ⟨hbursts, hserved, hwrites, hlost⟩ := scrubOfLostSpare_queue
  obtain ⟨⟨t, ht, -, hgone, -⟩, -⟩ :=
    hlone scrubOfLostSpare 12 0 0 queuedScrub hbursts rfl rfl rfl (by decide) rfl hserved
  have hqueued : ∀ b ∈ scrubOfLostSpare.sched.bursts, b.inQueue = true := by
    rw [hbursts]
    exact List.forall_mem_singleton.mpr rfl
  have hidle := exec_burstIssue_of_lost (chan := 12) hlost hqueued hwrites 0 0 none
  obtain rfl := Host.Outcome.next.inj (hidle.symm.trans ht)
  exact List.cons_ne_nil _ _ (hbursts.symm.trans hgone)

end Sys2Proof.Machine
end

section
/-! PROOFS. A search beside a retraining trigger that is kept (R123, R127). -/
namespace Sys2Proof.Machine

/-- A channel that is searched reads DEFERRED while it keeps a trigger, else SEARCHING. -/
theorem State.startSearch_retrainState (s : State) (c bin : Nat) :
    (s.startSearch c bin).reg (0x3400 + c) 5 = if s.dram.queue.contains c then 4 else 3 :=
  State.reg_setReg_self _ _ _ _

/-- A bin that fails above the floor leads to a search of the next lower one (R127). -/
theorem exec_searchBinComplete_failed {s : State} {chan : Fin 13} {bin lower : Nat}
    (hsearch : s.dram.search.find? chan.val = some bin) (hlower : lowerBin bin = some lower) (hsave : s.ctl.mode ≠ .save)
    (hdormant : s.ctl.mode ≠ .dormant) (hot : Int) :
    exec (.searchBinComplete chan { passed := false, hottestC := hot }) s = .next (s.fresh.startSearch chan.val lower) := by
  show execSearchBinComplete chan _ s = _
  simp [execSearchBinComplete, hsearch, hlower, hsave, hdormant]

/-- ONLINE, the spare runs at 9600 MT/s and is being retrained. -/
def spareRetrains : State :=
  { State.reset with
    ctl := { Control.reset with mode := .online }
    regs := (State.reset.regs.put (key 0x340C 2) 9600).put (key 0x340C 5) 1
    dram := { Dram.reset with retrain := some 12 } }

/-- The spare is lost for an uncorrectable error (R127, R137). -/
def retrainedSpareLost : State := spareRetrains.fresh.loseChannel 12 .uncorrectable

/-- A command reaches that state. -/
theorem exec_channelLost_spareRetrains :
    exec (.channelLost 12 .uncorrectable) spareRetrains = .next retrainedSpareLost :=
  congrArg Host.Outcome.next (if_pos (by decide +kernel))

/-- The lost spare is searched at 8800 MT/s, and keeps its trigger. -/
theorem retrainedSpareLost_searched :
    retrainedSpareLost.dram.search.find? 12 = some 8800 ∧ retrainedSpareLost.dram.queue = [12]
      ∧ retrainedSpareLost.ctl.mode = .online := by
  decide +kernel

/-- Refutes O25: a channel lost while it retrains keeps its trigger, so that its search reads DEFERRED at each bin. -/
theorem not_onlineRetraining : ¬ Obligations.OnlineRetraining := by
  unfold Obligations.OnlineRetraining
  rintro ⟨-, -, -, -, hfails, -⟩
  obtain ⟨hsearch, hqueue, hmode⟩ := retrainedSpareLost_searched
  have hsave : retrainedSpareLost.ctl.mode ≠ .save := by simp [hmode]
  have hdormant : retrainedSpareLost.ctl.mode ≠ .dormant := by simp [hmode]
  have hlower : lowerBin 8800 = some 8000 := by decide
  obtain ⟨t, ht, -, -, hstate, -⟩ := hfails retrainedSpareLost 12 8800 8000 40 hsearch hlower hsave hdormant
  obtain rfl := Host.Outcome.next.inj
    ((exec_searchBinComplete_failed (chan := 12) hsearch hlower hsave hdormant 40).symm.trans ht)
  have hdeferred : (retrainedSpareLost.fresh.startSearch 12 8000).reg (0x3400 + 12) 5 = 4 := by
    rw [State.startSearch_retrainState, if_pos (by simp [State.fresh, hqueue])]
  exact absurd (hdeferred.symm.trans hstate) (by decide)

end Sys2Proof.Machine
end

section
/-! PROOFS. A channel lost in SAVE beside a write that waits for a search (R139, R140). -/
namespace Sys2Proof.Machine

/-- Whether a command changes a byte of DRAM. -/
def changesMem (c : Instr) (s : State) : Bool :=
  match exec c s with
  | .next t => decide (t.mem ≠ s.mem)
  | _ => false

theorem mem_ne_of_changesMem {c : Instr} {s t : State} (h : changesMem c s = true) (ht : exec c s = .next t) :
    t.mem ≠ s.mem := by
  rw [changesMem, ht] at h
  exact of_decide_eq_true h

/-- A write of unit 0 that waits for the end of a search. -/
def searchedWrite : IngressWrite :=
  { id := 0, w := { link := 0, dpa := 0, data := 1, be := BitVec.allOnes 64, poison := false, stamp := 0 },
    source := .external, wait := .search, since := 0, reply := true }

/-- SAVE writes its leaves, and that write stands in ingress still; its leaf is CLEAN and may be admitted. -/
def saveWithWrite : State :=
  { awaitingUnit .clean [] 0 with
    ctl := { (awaitingUnit .clean [] 0).ctl with mode := .save },
    save := { State.reset.save with state := .leaves },
    dram := Dram.reset,
    mem := [],
    ingress := { Ingress.reset with writes := [searchedWrite], nextId := 1 } }

/-- Channel 1 is ACTIVE, and channel 12 the spare. -/
theorem saveWithWrite_channels :
    saveWithWrite.chanState 1 = 0 ∧ saveWithWrite.logicalOf 1 = some 1 ∧ saveWithWrite.spare = some 12
      ∧ saveWithWrite.reg 0x3450 0 = 0 := by
  decide +kernel

/-- The end of the wait for a search, which SAVE brings with the loss, has the write stored. -/
theorem channelLost_changesMem : changesMem (.channelLost 1 .uncorrectable) saveWithWrite = true := by decide +kernel

/-- Refutes O26: once SAVE has fixed what it saves, the loss of a channel ends the wait for its search, and a write that
waits for one is stored. -/
theorem not_errorsAndSparing : ¬ Obligations.ErrorsAndSparing := by
  unfold Obligations.ErrorsAndSparing
  rintro ⟨-, -, -, -, -, -, hlost, -⟩
  obtain ⟨hactive, hlogical, hspare, hidle⟩ := saveWithWrite_channels
  obtain ⟨t, ht, hmem, -⟩ := hlost saveWithWrite 1 1 12 .uncorrectable (by decide) (by decide) hactive hlogical rfl hspare
    hidle rfl
  exact mem_ne_of_changesMem channelLost_changesMem ht hmem

end Sys2Proof.Machine
end

section
/-! PROOFS. The group set of a RESTORE without an image, beside a slot command that waits (R58, R281, R290). -/
namespace Sys2Proof.Machine

/-- RESTORE has its leaf map and finds neither save nor checkpoint. Slot 3 rolls back with an OPEN behind it. Three NAND
channels have failed, so that no segment is opened and the run stays short. -/
def loadWaits : State :=
  { State.reset with
    ctl := { Control.reset with mode := .restore },
    save := { State.reset.save with loading := 1 },
    nand := { Nand.reset with channelsFailed := [0, 1, 2] },
    groups := { Groups.reset with
      slots := [(3, { Slot.reset with state := .aborted, running := true, waiting := [(1, openSlot3)] })] } }

/-- The load of nothing ends with slot 3 OPENED by the command that waited. -/
theorem groupSetLoad_leavesInUse : leavesInUse (.groupSetLoadComplete 0) loadWaits 3 = true := by decide +kernel

/-- Refutes O44: RESTORE without an image runs the slot commands that wait, after it has made every slot FREE. -/
theorem not_leavesAreRestored : ¬ Obligations.LeavesAreRestored := by
  unfold Obligations.LeavesAreRestored
  rintro ⟨-, -, -, -, -, hempty, -⟩
  obtain ⟨t, ht, -, -, -, hfree, -⟩ := hempty loadWaits 0 rfl rfl rfl rfl rfl rfl rfl
  exact slot_ne_free_of_leavesInUse groupSetLoad_leavesInUse ht (hfree 3)

end Sys2Proof.Machine
end

section
/-! PROOFS. Full training of a channel: what a record, a rate and a failure at the floor leave (R116, R117, R120, R403). -/
namespace Sys2Proof.Machine

/-- Entries of different indices are apart. -/
theorem key_ne_of_index {idx idx' sub sub' : Nat} (h : idx ≠ idx') (hsub : sub < 256) (hsub' : sub' < 256) :
    key idx sub ≠ key idx' sub' := by
  unfold key
  omega

/-! ### Training records -/

/-- `t` is `s` but for training records. -/
def SameButRecords (s t : State) : Prop :=
  t = { s with dram := { s.dram with
    records := t.dram.records, shared := t.dram.shared, evicted := t.dram.evicted, verified := t.dram.verified } }

theorem State.shareRecord_records (s : State) (r : Nat × Nat) : SameButRecords s (s.shareRecord r) := by
  unfold State.shareRecord
  dsimp only
  split
  · rfl
  · split <;> rfl

theorem SameButRecords.trans {s t u : State} (h : SameButRecords s t) (k : SameButRecords t u) : SameButRecords s u := by
  rw [SameButRecords] at h k ⊢
  rw [k, h]

/-- A record that is stored moves no entry and no other work of DRAM (R403). -/
theorem State.storeRecord_records (s : State) (c bin : Nat) : SameButRecords s (s.storeRecord c bin) :=
  State.foldl_holds (SameButRecords s) _ (fun t b ht => ht.trans (t.shareRecord_records (c, b))) _ _ rfl

/-! ### A training that passes -/

/-- The state in which the record of a training that passed is stored. -/
def State.rated (s : State) (c rate : Nat) : State :=
  ({ s with dram := { s.dram with dqs := s.dram.dqs.del c } } : State).setRate c rate

/-- Of DRAM's work a training that passes moves records and delays only. -/
theorem State.trained_dram (s : State) (c rate : Nat) (hot : Int) :
    (s.trained c rate hot).dram = ((s.rated c rate).storeRecord c rate).dram := by
  simp only [State.trained, State.rated, State.setReg_dram]

/-- A training that passes moves no data, and stores four entries. -/
theorem State.trained_kept (s : State) (c rate : Nat) (hot : Int) :
    DataKept s (s.trained c rate hot) ∧ (s.trained c rate hot).layout = s.layout
      ∧ (s.trained c rate hot).security = s.security
      ∧ (s.trained c rate hot).regs = (((s.regs.put (key (0x3400 + c) 2) rate).put (key (0x3400 + c) 4) 0).put
          (key (0x3400 + c) 6) (s32 hot)).put (key (0x3420 + c) 6) 0 := by
  have hstored := (s.rated c rate).storeRecord_records c rate
  have htrained : s.trained c rate hot = ((((s.rated c rate).storeRecord c rate).setReg (0x3400 + c) 4 0).setReg
    (0x3400 + c) 6 (s32 hot)).setReg (0x3420 + c) 6 0 := rfl
  rw [htrained, hstored]
  exact ⟨⟨rfl, rfl, rfl, rfl, rfl, rfl⟩, rfl, rfl, rfl⟩

/-- The entries that a training which passes leaves. -/
theorem State.trained_entries (s : State) (c rate : Nat) (hot : Int) :
    (s.trained c rate hot).reg (0x3400 + c) 2 = rate ∧ (s.trained c rate hot).reg (0x3400 + c) 4 = 0
      ∧ (s.trained c rate hot).reg (0x3400 + c) 6 = s32 hot ∧ (s.trained c rate hot).reg (0x3420 + c) 6 = 0
      ∧ RegsKept s (s.trained c rate hot) (trainingEntries c) := by
  obtain ⟨-, -, -, hregs⟩ := s.trained_kept c rate hot
  have hdelay : ∀ sub < 256, key (0x3400 + c) sub ≠ key (0x3420 + c) 6 := fun _ h =>
    key_ne_of_index (by omega) h (by decide)
  have h24 := key_ne (idx := 0x3400 + c) (show (2 : Nat) ≠ 4 by decide)
  have h26 := key_ne (idx := 0x3400 + c) (show (2 : Nat) ≠ 6 by decide)
  have h46 := key_ne (idx := 0x3400 + c) (show (4 : Nat) ≠ 6 by decide)
  refine ⟨State.reg_of_find? ?_, State.reg_of_find? ?_, State.reg_of_find? ?_, State.reg_of_find? ?_, ?_⟩
  · rw [hregs]
    simp [hdelay, h24, h26]
  · rw [hregs]
    simp [hdelay, h46]
  · rw [hregs]
    simp [hdelay]
  · rw [hregs]
    simp
  · intro k _ _ hk
    simp only [trainingEntries, List.mem_cons, List.not_mem_nil, or_false, not_or] at hk
    obtain ⟨hrate, hrecord, htemp, hdqs⟩ := hk
    rw [hregs]
    simp [hrate, hrecord, htemp, hdqs]

/-- The training of a channel without a record leaves one. -/
theorem State.trained_recordBins {s : State} {c : Nat} (h : s.recordBins c = []) (rate : Nat) (hot : Int) :
    (s.trained c rate hot).recordBins c = [rate] := by
  have hshared : (s.dram.shared.filter fun r => r.1 == c) = [] := List.map_eq_nil_iff.mp (List.append_eq_nil_iff.mp h).2
  have hfirst := State.storeRecord_first (s := s.rated c rate) (c := c) h rate
  have hrated : (s.rated c rate).dram.shared = s.dram.shared := rfl
  rw [State.recordBins, State.trained_dram, hfirst]
  dsimp only
  rw [Map.get_put_self, hrated, List.filter_comm, hshared]
  rfl

/-- An entry reads the same in states of one layout and one firmware that store it alike. -/
theorem State.reg_congr {s t : State} (hlayout : t.layout = s.layout) (hsecurity : t.security = s.security) {idx sub : Nat}
    (hfind : t.regs.find? (key idx sub) = s.regs.find? (key idx sub)) : t.reg idx sub = s.reg idx sub := by
  have hdefault : defaultValue t 0 idx sub = defaultValue s 0 idx sub := by
    simp only [defaultValue, variableDefault, hlayout, hsecurity]
  rw [State.reg, State.reg, hfind, hdefault]

/-- Of a channel that starts up and is not requalified, a training that passes leaves its rate and its record, and the
channel stands (R117). -/
theorem dramTrainingComplete_passed (s : State) (chan : Fin 13) (rate : Nat) (hot : Int) (hmode : s.ctl.mode = .bringUp)
    (hstarts : s.startsUp chan.val = true) (hmust : s.mustTrain chan.val = true) (hrate : rate = s.trainBin chan.val)
    (hrequal : s.dram.requalifying.contains chan.val = false)
    (hkept : s.dram.evicted.contains (chan.val, rate) = false) :
    ∃ t, exec (.dramTrainingComplete chan rate hot true) s = .next t ∧ DataKept s t
      ∧ t.reg (0x3400 + chan.val) 2 = rate ∧ t.reg (0x3400 + chan.val) 4 = 0 ∧ t.reg (0x3400 + chan.val) 6 = s32 hot
      ∧ t.reg (0x3420 + chan.val) 6 = 0 ∧ t.chanState chan.val = s.chanState chan.val ∧ chan.val ∈ t.dram.ready
      ∧ (s.recordBins chan.val = [] → t.recordBins chan.val = [rate])
      ∧ RegsKept s t [key (0x3400 + chan.val) 2, key (0x3400 + chan.val) 4, key (0x3400 + chan.val) 6,
          key (0x3420 + chan.val) 6] := by
  have hstep : exec (.dramTrainingComplete chan rate hot true) s
      = .next ((s.fresh.trained chan.val rate hot).stands chan.val) := by
    show execDramTrainingComplete chan rate hot true s = _
    rw [execDramTrainingComplete, if_pos ⟨hmode, hrate, hmust, .inl hstarts⟩]
    simp only [State.trainingComplete, State.fresh_dram, hkept, hrequal, Bool.false_eq_true, if_false, if_true]
  rw [hstep]
  obtain ⟨hdata, hlayout, hsecurity, hregs⟩ := s.fresh.trained_kept chan.val rate hot
  obtain ⟨hrated, hvalid, hhot, hdelay, hentries⟩ := s.fresh.trained_entries chan.val rate hot
  have hrecord : s.recordBins chan.val = [] → (s.fresh.trained chan.val rate hot).recordBins chan.val = [rate] := fun hnone =>
    State.trained_recordBins (s := s.fresh) hnone rate hot
  generalize s.fresh.trained chan.val rate hot = u at *
  have hstate : u.regs.find? (key (0x3400 + chan.val) 1) = s.regs.find? (key (0x3400 + chan.val) 1) := by
    have hne : key (0x3400 + chan.val) 1 ≠ key (0x3420 + chan.val) 6 :=
      key_ne_of_index (by omega) (by decide) (by decide)
    rw [hregs]
    simp [hne, key_ne]
  exact ⟨_, rfl, hdata, hrated, hvalid, hhot, hdelay, State.reg_congr hlayout hsecurity hstate,
    List.mem_append_right _ (List.mem_singleton_self _), hrecord, hentries⟩

/-! ### A training that fails -/

/-- The record that no longer exists is reported (R403). -/
def State.evictionReported (s : State) (c rate : Nat) : State :=
  if s.dram.evicted.contains (c, rate) then
    ({ s with dram := { s.dram with evicted := s.dram.evicted.filter fun r => r != (c, rate) } }).note
      Code.trainingRecordEvicted [c, rate]
  else s

theorem State.evictionReported_reports (s : State) (c rate : Nat) :
    ∃ ev, SameButReports { s with dram := { s.dram with evicted := ev } } (s.evictionReported c rate) := by
  unfold State.evictionReported
  split
  · exact ⟨_, State.note_reports _ _ _⟩
  · exact ⟨s.dram.evicted, .refl s⟩

/-- What an eviction's report leaves as it was. -/
theorem State.evictionReported_kept (s : State) (c rate : Nat) :
    DataKept s (s.evictionReported c rate) ∧ RegsKept s (s.evictionReported c rate) [] := by
  obtain ⟨ev, hev⟩ := s.evictionReported_reports c rate
  exact ⟨DataKept.trans ⟨rfl, rfl, rfl, rfl, rfl, rfl⟩ hev.dataKept, hev.regsKept []⟩

theorem exec_dramTrainingComplete_failed {s : State} {chan : Fin 13} {rate : Nat} (hmode : s.ctl.mode = .bringUp)
    (hstarts : s.startsUp chan.val = true) (hmust : s.mustTrain chan.val = true) (hrate : rate = s.trainBin chan.val)
    (hot : Int) : exec (.dramTrainingComplete chan rate hot false) s
      = .next (s.fresh.trainingComplete chan.val rate hot false) := by
  show execDramTrainingComplete chan rate hot false s = _
  rw [execDramTrainingComplete, if_pos ⟨hmode, hrate, hmust, .inl hstarts⟩]

/-- A training that fails above the floor goes on at the next lower bin (R117). -/
theorem dramTrainingComplete_lowers (s : State) (chan : Fin 13) (rate lower : Nat) (hot : Int) (hmode : s.ctl.mode = .bringUp)
    (hstarts : s.startsUp chan.val = true) (hmust : s.mustTrain chan.val = true) (hrate : rate = s.trainBin chan.val)
    (hlower : lowerBin rate = some lower) :
    ∃ t, exec (.dramTrainingComplete chan rate hot false) s = .next t ∧ DataKept s t
      ∧ t.trainBin chan.val = lower ∧ t.mustTrain chan.val = true ∧ RegsKept s t [] := by
  obtain ⟨u, hu⟩ : ∃ u, u = s.fresh.evictionReported chan.val rate := ⟨_, rfl⟩
  have hfails : s.fresh.trainingComplete chan.val rate hot false
      = { u with dram := { u.dram with training := u.dram.training.put chan.val lower } } := by
    simp only [State.trainingComplete, Bool.false_eq_true, if_false, hlower, hu]
    rfl
  obtain ⟨hdata, hregs⟩ := s.fresh.evictionReported_kept chan.val rate
  rw [← hu] at hdata hregs
  refine ⟨_, (exec_dramTrainingComplete_failed hmode hstarts hmust hrate hot).trans (congrArg _ hfails), hdata, ?_, ?_,
    hregs⟩
  · simp [State.trainBin]
  · simp [State.mustTrain]

/-- A channel that has FAILED has no rate and keeps its trigger (R123, R145). -/
theorem State.setChan_failed (s : State) (c : Nat) :
    s.setChan c 4 = ((s.setReg (0x3400 + c) 1 4).setRate c 0).deferRetrain c := by
  simp [State.setChan]

theorem State.setChan_failed_channels (s : State) (c : Nat) : SameButChannels s (s.setChan c 4) := by
  rw [s.setChan_failed]
  exact SameButChannels.trans (t := (s.setReg (0x3400 + c) 1 4).setRate c 0) rfl (State.deferRetrain_channels _ c)

/-- A failure stores the channel's state, and keeps the map. -/
theorem State.setChan_failed_entries (s : State) (c : Nat) :
    (s.setChan c 4).reg (0x3400 + c) 1 = 4
      ∧ (s.setChan c 4).reg 0x2405 13 = s.reg 0x2405 13 := by
  have hregs : ∀ k, k % 256 ≠ 5 → k % 256 ≠ 6 → (s.setChan c 4).regs.find? k
      = ((s.regs.put (key (0x3400 + c) 1) 4).put (key (0x3400 + c) 2) 0).find? k := fun k h5 h6 => by
    rw [s.setChan_failed]
    exact State.deferRetrain_regs _ c h5 h6
  refine ⟨State.reg_of_find? ?_, (s.setChan_failed_channels c).reg ?_⟩
  · rw [hregs _ (by unfold key; omega) (by unfold key; omega), Map.find?_put_of_ne _ _ _ _ (key_ne (by decide)),
      Map.find?_put_self]
  · have hne : ∀ sub < 256, key 0x2405 13 ≠ key (0x3400 + c) sub := fun sub hsub => by
      unfold key
      omega
    rw [hregs _ (by decide) (by decide), Map.find?_put_of_ne _ _ _ _ (hne 2 (by decide)),
      Map.find?_put_of_ne _ _ _ _ (hne 1 (by decide))]

/-- The state of a channel is no entry of a report. -/
theorem chanState_notMem_reportEntries (c : Fin 13) : key (0x3400 + c.val) 1 ∉ reportEntries := by
  revert c
  decide

/-- Outside DROWSE a fault whose detail is free leaves data and entries, and stands in its group. -/
theorem State.faultOpen_leaves {s : State} (hmode : s.ctl.mode ≠ .drowse) (code : Nat) :
    DataKept s (s.faultOpen code) ∧ (s.faultOpen code).hasFault code = true
      ∧ ∀ idx sub, key idx sub ∉ reportEntries → (s.faultOpen code).reg idx sub = s.reg idx sub :=
  ⟨(s.faultOpen_reports code false).dataKept, s.faultOpen_hasFault code false,
    fun _ _ hk => (s.faultOpen_reports code false).reg_eq hmode hk⟩

/-- A spare that fails is FAILED and out of the map (R120, log entry 41). -/
theorem State.spareFailed_spec {s : State} (hmode : s.ctl.mode = .bringUp) (c : Fin 13) :
    DataKept s (s.spareFailed c.val) ∧ (s.spareFailed c.val).chanState c.val = 4
      ∧ (s.spareFailed c.val).hasFault Code.spareFailed = true ∧ (s.spareFailed c.val).reg 0x2405 13 = 255 := by
  have hdata : DataKept s (((s.setChan c.val 4).setRate c.val 0).setReg 0x2405 13 255) :=
    (s.setChan_failed_channels c.val).dataKept.trans ⟨rfl, rfl, rfl, rfl, rfl, rfl⟩
  obtain ⟨hreport, hfault, hentry⟩ := State.faultOpen_leaves
    (s := ((s.setChan c.val 4).setRate c.val 0).setReg 0x2405 13 255) (by simp [hmode]) Code.spareFailed
  have hmap : key (0x3400 + c.val) 1 ≠ key 0x2405 13 := key_ne_of_index (by omega) (by decide) (by decide)
  refine ⟨hdata.trans hreport, ?_, hfault, ?_⟩
  · rw [State.chanState, State.spareFailed, hentry _ _ (chanState_notMem_reportEntries c),
      State.reg_setReg_of_ne _ _ hmap, State.setRate, State.reg_setReg_of_ne _ _ (key_ne (by decide)),
      (s.setChan_failed_entries c.val).1]
  · rw [State.spareFailed, hentry _ _ (by decide), State.reg_setReg_self]

/-- Another channel that fails is FAILED and keeps its binding (log entry 42). -/
theorem State.channelFailed_spec {s : State} (hmode : s.ctl.mode = .bringUp) (c : Fin 13) :
    DataKept s ((s.setChan c.val 4).faultOpen Code.channelFailed)
      ∧ ((s.setChan c.val 4).faultOpen Code.channelFailed).chanState c.val = 4
      ∧ ((s.setChan c.val 4).faultOpen Code.channelFailed).hasFault Code.channelFailed = true
      ∧ ((s.setChan c.val 4).faultOpen Code.channelFailed).reg 0x2405 13 = s.reg 0x2405 13 := by
  have hdata : DataKept s (s.setChan c.val 4) := (s.setChan_failed_channels c.val).dataKept
  obtain ⟨hreport, hfault, hentry⟩ := State.faultOpen_leaves (s := s.setChan c.val 4) (by simp [hmode])
    Code.channelFailed
  obtain ⟨hstate, hmap⟩ := s.setChan_failed_entries c.val
  exact ⟨hdata.trans hreport, (hentry _ _ (chanState_notMem_reportEntries c)).trans hstate, hfault,
    (hentry _ _ (by decide)).trans hmap⟩

/-- A training that fails at the floor leaves its channel FAILED, with the fault that its part names (R117, R120). -/
theorem dramTrainingComplete_fails (s : State) (chan : Fin 13) (hot : Int) (hmode : s.ctl.mode = .bringUp)
    (hstarts : s.startsUp chan.val = true) (hmust : s.mustTrain chan.val = true) (hfloor : s.trainBin chan.val = 4800)
    (hrequal : s.dram.requalifying.contains chan.val = false) :
    ∃ t, exec (.dramTrainingComplete chan 4800 hot false) s = .next t ∧ DataKept s t ∧ t.chanState chan.val = 4
      ∧ (if s.chanState chan.val = 5 then t.hasFault Code.spareFailed = true ∧ t.reg 0x2405 13 = 255
         else t.hasFault Code.channelFailed = true ∧ t.reg 0x2405 13 = s.reg 0x2405 13) := by
  have hnone : lowerBin 4800 = none := by decide
  obtain ⟨u, hu⟩ : ∃ u, u = s.fresh.evictionReported chan.val 4800 := ⟨_, rfl⟩
  have hfails : s.fresh.trainingComplete chan.val 4800 hot false
      = if s.chanState chan.val = 5 then u.spareFailed chan.val else (u.setChan chan.val 4).faultOpen Code.channelFailed := by
    simp only [State.trainingComplete, Bool.false_eq_true, if_false, hnone, hu, State.fresh_dram, hrequal]
    rfl
  obtain ⟨hdata, -⟩ := s.fresh.evictionReported_kept chan.val 4800
  obtain ⟨ev, hev⟩ := s.fresh.evictionReported_reports chan.val 4800
  rw [← hu] at hdata hev
  have humode : u.ctl.mode = .bringUp := hdata.mode.trans hmode
  refine ⟨_, (exec_dramTrainingComplete_failed hmode hstarts hmust hfloor.symm hot).trans (congrArg _ hfails), ?_⟩
  by_cases hspare : s.chanState chan.val = 5
  · obtain ⟨hkept, hstate, hfault, hmap⟩ := State.spareFailed_spec humode chan
    rw [if_pos hspare, if_pos hspare]
    exact ⟨hdata.trans hkept, hstate, hfault, hmap⟩
  · obtain ⟨hkept, hstate, hfault, hmap⟩ := State.channelFailed_spec humode chan
    have hsame : u.reg 0x2405 13 = s.reg 0x2405 13 :=
      hev.reg_eq (fun hd => Mode.noConfusion (hmode.symm.trans hd)) (by decide)
    rw [if_neg hspare, if_neg hspare]
    exact ⟨hdata.trans hkept, hstate, hfault, hmap.trans hsame⟩

end Sys2Proof.Machine
end

section
/-! PROOFS. Fast boot from a record, DQS tracking, and the training of DRAM as a whole (R118, R119, R122). -/
namespace Sys2Proof.Machine

/-! ### Fast boot -/

/-- A channel is to be trained from a bin down. -/
def State.trainFrom (s : State) (c bin : Nat) : State :=
  { s with dram := { s.dram with training := s.dram.training.put c bin } }

theorem State.trainFrom_due (s : State) (c bin : Nat) :
    (s.trainFrom c bin).mustTrain c = true ∧ (s.trainFrom c bin).trainBin c = bin := by
  simp [State.trainFrom, State.mustTrain, State.trainBin]

/-- A record that is dropped is neither among the channel's own nor among the shared ones (R118). -/
theorem State.dropRecord_recordBins (s : State) (c bin : Nat) : ∀ b ∈ (s.dropRecord c bin).recordBins c, b ≠ bin := by
  intro b hb
  simp only [State.recordBins, State.dropRecord, Map.upd, Map.get_put_self, List.mem_append, List.mem_filter,
    List.mem_map, bne_iff_ne, beq_iff_eq] at hb
  rcases hb with ⟨-, hne⟩ | ⟨r, ⟨⟨-, hne⟩, hchan⟩, rfl⟩
  · exact hne
  · rintro rfl
    exact hne (Prod.ext hchan rfl)

/-- A fast boot's record is found bad: it is dropped, with what is reported of it, and the channel is trained from its bin
down. -/
def State.recordRejected (s : State) (c bin report : Nat) : State :=
  ((s.trainFrom c bin).dropRecord c bin).setReg (0x3400 + c) 4 report

theorem State.recordRejected_spec (s : State) (c bin report : Nat) :
    DataKept s (s.recordRejected c bin report) ∧ (s.recordRejected c bin report).reg (0x3400 + c) 4 = report
      ∧ (∀ b ∈ (s.recordRejected c bin report).recordBins c, b ≠ bin)
      ∧ (s.recordRejected c bin report).mustTrain c = true ∧ (s.recordRejected c bin report).trainBin c = bin
      ∧ RegsKept s (s.recordRejected c bin report) [key (0x3400 + c) 2, key (0x3400 + c) 4] := by
  obtain ⟨hmust, hbin⟩ := s.trainFrom_due c bin
  refine ⟨⟨rfl, rfl, rfl, rfl, rfl, rfl⟩, State.reg_setReg_self _ _ _ _, (s.trainFrom c bin).dropRecord_recordBins c bin,
    ?_, ?_, (RegsKept.of_regs (t := s) rfl _).put (k := key (0x3400 + c) 4) (by simp) _ rfl⟩
  · simp [State.recordRejected, State.dropRecord, State.trainFrom, State.mustTrain]
  · simp [State.recordRejected, State.dropRecord, State.trainFrom, State.trainBin]

/-- The record of a fast boot that passes is verified and the one used last (R118, R403). -/
def State.recordUsed (s : State) (c bin : Nat) : State :=
  let used := if s.dram.shared.contains (c, bin) then
      { s with dram := { s.dram with shared := (s.dram.shared.filter fun r => r != (c, bin)) ++ [(c, bin)] } }
    else s
  { used with dram := { used.dram with verified := (used.dram.verified.filter fun r => r != (c, bin)) ++ [(c, bin)] } }

theorem State.recordUsed_records (s : State) (c bin : Nat) : SameButRecords s (s.recordUsed c bin) := by
  simp only [State.recordUsed]
  split <;> rfl

/-- A channel whose fast boot passed. -/
def State.booted (s : State) (c bin : Nat) : State :=
  (((s.recordUsed c bin).setRate c bin).setReg (0x3400 + c) 4 0).stands c

theorem State.booted_spec (s : State) (c bin : Nat) :
    DataKept s (s.booted c bin) ∧ (s.booted c bin).reg (0x3400 + c) 4 = 0 ∧ (s.booted c bin).reg (0x3400 + c) 2 = bin
      ∧ c ∈ (s.booted c bin).dram.ready
      ∧ RegsKept s (s.booted c bin) [key (0x3400 + c) 2, key (0x3400 + c) 4] := by
  have hregs : (s.booted c bin).regs = (s.regs.put (key (0x3400 + c) 2) bin).put (key (0x3400 + c) 4) 0 := by
    rw [State.booted, s.recordUsed_records c bin]
    rfl
  refine ⟨?_, State.reg_of_find? ?_, State.reg_of_find? ?_, List.mem_append_right _ (List.mem_singleton_self _), ?_⟩
  · rw [State.booted, s.recordUsed_records c bin]
    exact ⟨rfl, rfl, rfl, rfl, rfl, rfl⟩
  · simp [hregs]
  · simp [hregs, key_ne]
  · exact ((RegsKept.of_regs (t := s) rfl _).put (k := key (0x3400 + c) 2) (v := bin) (by simp)
      ((s.setReg (0x3400 + c) 2 bin)) rfl).put (k := key (0x3400 + c) 4) (by simp) _ hregs

/-- The four ends of a fast boot, its bin the best recorded. -/
theorem State.fastBoot_eq (s : State) (c : Nat) (keyMatches crcGood passed : Bool) :
    s.fastBoot c keyMatches crcGood passed =
      if crcGood = false then s.recordRejected c (s.bestBin c) 3
      else if keyMatches = false then s.recordRejected c (s.bestBin c) 2
      else if passed = false then s.trainFrom c (s.bestBin c)
      else s.booted c (s.bestBin c) := rfl

/-- A fast boot takes the best bin, drops a bad record, or leads to training (R118, R119). -/
theorem fastBootComplete_spec (s : State) (chan : Fin 13) (keyMatches crcGood passed : Bool) (hmode : s.ctl.mode = .bringUp)
    (hstarts : s.startsUp chan.val = true) (hmust : s.mustTrain chan.val = false) :
    ∃ t, exec (.fastBootComplete chan keyMatches crcGood passed) s = .next t ∧ DataKept s t
      ∧ (crcGood = false → t.reg (0x3400 + chan.val) 4 = 3)
      ∧ (crcGood = true → keyMatches = false → t.reg (0x3400 + chan.val) 4 = 2)
      ∧ (crcGood = true → keyMatches = true → passed = true →
          t.reg (0x3400 + chan.val) 4 = 0 ∧ t.reg (0x3400 + chan.val) 2 = s.bestBin chan.val ∧ chan.val ∈ t.dram.ready)
      ∧ ((crcGood && keyMatches) = false → ∀ b ∈ t.recordBins chan.val, b ≠ s.bestBin chan.val)
      ∧ ((crcGood && keyMatches && passed) = false →
          t.mustTrain chan.val = true ∧ t.trainBin chan.val = s.bestBin chan.val)
      ∧ RegsKept s t [key (0x3400 + chan.val) 2, key (0x3400 + chan.val) 4] := by
  have hstep : exec (.fastBootComplete chan keyMatches crcGood passed) s
      = .next (s.fresh.fastBoot chan.val keyMatches crcGood passed) :=
    congrArg Host.Outcome.next (if_pos ⟨hmode, hstarts, hmust⟩)
  refine ⟨_, hstep, ?_⟩
  rw [State.fastBoot_eq]
  cases crcGood with
  | false =>
    obtain ⟨hdata, hreport, hdropped, hagain, hbin, hregs⟩ := s.fresh.recordRejected_spec chan.val (s.bestBin chan.val) 3
    exact ⟨hdata, fun _ => hreport, nofun, nofun, fun _ => hdropped, fun _ => ⟨hagain, hbin⟩, hregs⟩
  | true =>
    cases keyMatches with
    | false =>
      obtain ⟨hdata, hreport, hdropped, hagain, hbin, hregs⟩ := s.fresh.recordRejected_spec chan.val (s.bestBin chan.val) 2
      exact ⟨hdata, nofun, fun _ _ => hreport, nofun, fun _ => hdropped, fun _ => ⟨hagain, hbin⟩, hregs⟩
    | true =>
      cases passed with
      | false =>
        exact ⟨⟨rfl, rfl, rfl, rfl, rfl, rfl⟩, nofun, nofun, nofun, nofun,
          fun _ => s.fresh.trainFrom_due chan.val (s.bestBin chan.val), RegsKept.of_regs rfl _⟩
      | true =>
        obtain ⟨hdata, hvalid, hrate, hready, hregs⟩ := s.fresh.booted_spec chan.val (s.bestBin chan.val)
        exact ⟨hdata, nofun, nofun, fun _ _ _ => ⟨hvalid, hrate, hready⟩, nofun, nofun, hregs⟩

/-! ### DQS tracking -/

/-- The state that tracks a drift, before its training window. -/
def State.tracked (s : State) (c : Nat) (drift : Int) : State :=
  { s.fresh with dram := { s.dram with dqsAt := s.dram.dqsAt.put c s.clock.beat, dqs := s.dram.dqs.put c drift } }

/-- Tracking that is due in a free window reports the drift (R122). -/
theorem dqsTrack_spec (s : State) (chan : Fin 13) (drift : Int) (hrate : s.reg (0x3400 + chan.val) 2 ≠ 0)
    (hself : s.selfRefresh = false) (hwindow : s.windowFree chan.val = true)
    (hdue : s.dram.dqsAt.get chan.val 0 + s.reg 0x3442 0 ≤ s.clock.beat) :
    ∃ t, exec (.dqsTrack chan drift) s = .next t ∧ DataKept s t ∧ t.reg (0x3420 + chan.val) 6 = s32 drift
      ∧ t.dram.dqsAt.get chan.val 0 = s.clock.beat
      ∧ RegsKept s t [key (0x3420 + chan.val) 6, key (0x3120 + chan.val) 6] := by
  have hstep : exec (.dqsTrack chan drift) s
      = .next (((s.tracked chan.val drift).window chan.val 2000).setReg (0x3420 + chan.val) 6 (s32 drift)) :=
    congrArg Host.Outcome.next (if_pos ⟨hrate, hself, hwindow, hdue⟩)
  have hbound : RegsKept s ((s.tracked chan.val drift).window chan.val 2000)
      [key (0x3420 + chan.val) 6, key (0x3120 + chan.val) 6] :=
    (RegsKept.addReg ((s.tracked chan.val drift).drawn) (0x3120 + chan.val) 6 _).mono (by simp)
  exact ⟨_, hstep, ⟨rfl, rfl, rfl, rfl, rfl, rfl⟩, State.reg_setReg_self _ _ _ _, Map.get_put_self _ _ _ _,
    hbound.put (by simp) _ rfl⟩

/-! ### The obligation -/

/-- Settles O24: a training by whether it passes and whether a lower bin is left, a fast boot by what it finds of its
record, and tracking by the window that it takes. -/
theorem trainingSetsTheChannel : Obligations.TrainingSetsTheChannel := by
  unfold Obligations.TrainingSetsTheChannel
  exact ⟨dramTrainingComplete_passed, dramTrainingComplete_lowers, dramTrainingComplete_fails, fastBootComplete_spec,
    dqsTrack_spec⟩

end Sys2Proof.Machine
end

section
/-! PROOFS. The delta log and the decay of heat (R150, R151, R153). -/
namespace Sys2Proof.Machine

/-! ### The delta log -/

/-- Of the leaf's lazy changes none waits once one has been recorded (R150). -/
theorem DeltaLog.note_before_lazy (d : DeltaLog) (leaf : Nat) (st : LeafState) (now : Nat) :
    ∀ x ∈ (d.note .before leaf st now).lazy, x.1 ≠ leaf := by
  intro x hx
  simpa using (List.mem_filter.mp hx).2

/-- A lazy change that waits is recorded; beside the log only bursts to the Cupboard are new. -/
theorem deltaLazyWrite_spec (s : State) (leaf : Nat) (e : Nat × LeafState × Nat)
    (he : s.delta.lazy.find? (fun e => e.1 == leaf) = some e) :
    ∃ t, exec (.deltaLazyWrite leaf) s = .next t ∧ DataKept s t ∧ t.regs = s.regs
      ∧ (∃ r, t.delta.records = s.delta.records ++ [r] ∧ r.leaf = leaf ∧ r.state = e.2.1 ∧ r.seq = s.delta.seq)
      ∧ t.delta.seq = s.delta.seq + 1
      ∧ ∀ x ∈ t.delta.lazy, x.1 ≠ leaf := by
  have hstep : exec (.deltaLazyWrite leaf) s = .next ({ s.fresh with
      delta := s.delta.note .before leaf e.2.1 s.clock.beat }.cupboard s s.nowStamp) := by
    simp only [exec, execDeltaLazyWrite, he]
  exact ⟨_, hstep, ⟨rfl, rfl, rfl, rfl, rfl, rfl⟩, rfl, ⟨_, rfl, rfl, rfl, rfl⟩, rfl,
    s.delta.note_before_lazy leaf e.2.1 s.clock.beat⟩

theorem deltaSnapshotStart_spec (s : State) (hfull : 1835008 ≤ s.delta.fill) (hnone : s.delta.writing = none) :
    ∃ t, exec .deltaSnapshotStart s = .next t ∧ DataKept s t ∧ t.regs = s.regs
      ∧ t.delta.writing = some (s.leaves, s.delta.seq) ∧ t.delta.fill = 0
      ∧ t.delta.records = s.delta.records ∧ t.delta.snapshot = s.delta.snapshot :=
  ⟨_, congrArg Host.Outcome.next (if_pos ⟨hfull, hnone⟩), ⟨rfl, rfl, rfl, rfl, rfl, rfl⟩, rfl, rfl, rfl, rfl, rfl⟩

theorem deltaSnapshotComplete_spec (s : State) (table : LeafTable) (n : Nat) (hw : s.delta.writing = some (table, n)) :
    ∃ t, exec .deltaSnapshotComplete s = .next t ∧ DataKept s t ∧ t.regs = s.regs ∧ t.delta.snapshot = table
      ∧ t.delta.start = n ∧ t.delta.slot = 1 - s.delta.slot ∧ t.delta.writing = none
      ∧ ∀ r, r ∈ t.delta.records ↔ r ∈ s.delta.records ∧ n ≤ r.seq := by
  have hstep : exec .deltaSnapshotComplete s = .next { s.fresh with
      delta := s.delta.complete table n,
      sched := { s.sched with bursts := s.sched.bursts.filter fun b => b.job != .snapshot } } := by
    simp only [exec, execDeltaSnapshotComplete, hw]
  refine ⟨_, hstep, ⟨rfl, rfl, rfl, rfl, rfl, rfl⟩, rfl, rfl, rfl, rfl, rfl, fun r => ?_⟩
  simp [DeltaLog.complete]

/-! ### Heat -/

/-- A bundle reads the decayed form of what it read. -/
theorem Map.get_map_snd {α : Type} (f : α → α) (m : Map α) (q : Nat) (d : α) :
    Map.get (m.map fun e => (e.1, f e.2)) q (f d) = f (m.get q d) := by
  induction m with
  | nil => rfl
  | cons e m ih =>
    obtain ⟨k, v⟩ := e
    by_cases hk : k = q
    · simp [Map.get, Map.find?, hk]
    · simpa [Map.get, Map.find?, hk] using ih

theorem heatDecay_spec (s : State) (hdue : s.reg 0x4031 0 ≤ s.clock.beat - s.trickle.decayBeat) :
    ∃ t, exec .heatDecay s = .next t ∧ DataKept s t ∧ t.regs = s.regs ∧ t.trickle.decayBeat = s.clock.beat
      ∧ ∀ b, (t.heatOf b).heat = (s.heatOf b).heat / 2 ∧ ((s.heatOf b).old = true → (t.heatOf b).old = true) := by
  refine ⟨_, congrArg Host.Outcome.next (if_pos hdue), ⟨rfl, rfl, rfl, rfl, rfl, rfl⟩, rfl, rfl, fun b => ?_⟩
  have hdecayed := Map.get_map_snd s.decay s.heat b s.heatBase
  rw [State.heatOf, hdecayed]
  exact ⟨rfl, fun hold => Bool.or_eq_true_iff.mpr (.inl hold)⟩

/-! ### The obligation -/

/-- Settles O27: the record of a lazy change, the two ends of a snapshot, and the decay, each by its own lemma. -/
theorem deltaLogAndHeat : Obligations.DeltaLogAndHeat := by
  unfold Obligations.DeltaLogAndHeat
  exact ⟨deltaLazyWrite_spec, deltaSnapshotStart_spec, deltaSnapshotComplete_spec, heatDecay_spec⟩

end Sys2Proof.Machine
end

section
/-! PROOFS. A quiet DIRTY leaf with a line that awaits a search: it is no candidate (R139, R155, log entry 175). -/
namespace Sys2Proof.Machine

/-- Leaf 0 is DIRTY and its bundle OLD, and unit 0 of it awaits its search. -/
def quietLeafAwaits : State :=
  { awaitingUnit .clean [] 0 with
    leaves := { base := .clean, exc := [(0, .dirty)] },
    heat := [(0, { old := true, last := 0, heat := 0 })] }

theorem quietLeafAwaits_quiet : 0 ∈ quietLeafAwaits.leavesIn .dirty ∧ quietLeafAwaits.quiet 0 = true := by decide

theorem quietLeafAwaits_candidates : quietLeafAwaits.candidates = [] := by decide

/-- Refutes O28: a rebuild leaves out a leaf that is DIRTY and quiet while a line of it awaits a search, since such a leaf
cannot be read. -/
theorem not_trickleCopies : ¬ Obligations.TrickleCopies := by
  unfold Obligations.TrickleCopies
  rintro ⟨hrebuild, -⟩
  obtain ⟨hdirty, hquiet⟩ := quietLeafAwaits_quiet
  obtain ⟨t, ht, -, -, -, hlisted, -⟩ := hrebuild quietLeafAwaits
  have hstep : exec .trickleCandidateRebuild quietLeafAwaits = .next { quietLeafAwaits.fresh with
      trickle := { quietLeafAwaits.trickle with
        candidates := quietLeafAwaits.candidates, rebuiltAt := quietLeafAwaits.clock.beat } } := rfl
  obtain rfl := Host.Outcome.next.inj (hstep.symm.trans ht)
  have hmem : 0 ∈ quietLeafAwaits.candidates := (hlisted 0).mpr ⟨hdirty, .inl hquiet⟩
  rw [quietLeafAwaits_candidates] at hmem
  exact absurd hmem List.not_mem_nil

end Sys2Proof.Machine
end

section
/-! PROOFS. Save rehearsal, from its due time to its result (R171, R297). -/
namespace Sys2Proof.Machine

/-! ### Due and overdue -/

theorem rehearsalDue_spec (s : State) (cause : DueCause) (hnone : s.trickle.rehearsal = .none)
    (hperiod : cause = .period → s.reg 0x4022 0 ≤ s.reg 0x4040 2 - s.trickle.lastHour)
    (hsaved : cause = .afterSave → s.trickle.saveDue = true) :
    ∃ t, exec (.rehearsalDue cause) s = .next t ∧ DataKept s t ∧ t.regs = s.regs ∧ t.trickle.rehearsal = .due
      ∧ t.trickle.dueBeat = s.clock.beat := by
  have hcause : s.rehearsalCause cause = true := by
    cases cause with
    | period => exact decide_eq_true (hperiod rfl)
    | afterSave => exact hsaved rfl
    | request => rfl
  refine ⟨_, congrArg Host.Outcome.next (if_pos ⟨hnone, hcause⟩), ?_⟩
  cases cause <;> exact ⟨⟨rfl, rfl, rfl, rfl, rfl, rfl⟩, rfl, rfl, rfl⟩

theorem rehearsalOverdue_spec (s : State) (hdue : s.trickle.rehearsal = .due) (hfirst : s.trickle.overdue = false)
    (hlate : 8640000000 ≤ s.clock.beat - s.trickle.dueBeat) :
    ∃ t, exec .rehearsalOverdue s = .next t
      ∧ SameButReports { s with out := [], trickle := { s.trickle with overdue := true }, free := s.free } t
      ∧ t.hasFault Code.rehearsalOverdue = true :=
  ⟨_, congrArg Host.Outcome.next (if_pos ⟨hdue, hfirst, hlate⟩), State.faultOpen_reports _ _ _,
    State.faultOpen_hasFault _ _ _⟩

/-! ### Start and idle phase -/

/-- The bus takes the store, the isolation opens, and the charger pauses where it was FULL (R297, R302). -/
theorem rehearsalStart_spec (s : State) (hdue : s.trickle.rehearsal = .due) (hmode : s.ctl.mode = .online)
    (hfull : s.niura.charger = .full) (hhold : s.holding = false) (harm : s.save.arm = 0)
    (htrip : s.niura.tripped = false) (hinput : s.niura.supply = .input) (hhealth : s.niura.healthDue = false) :
    ∃ t, exec .rehearsalStart s = .next t ∧ DataKept s t ∧ t.regs = s.regs ∧ t.trickle.rehearsal = .idle
      ∧ t.niura.supply = .rehearse ∧ t.niura.isolationOpen = true ∧ t.niura.charger = .paused ∧ t.niura.resume = .full := by
  refine ⟨_, congrArg Host.Outcome.next (if_pos ⟨hdue, hmode, hfull, hhold, harm, htrip, hinput, hhealth⟩),
    ⟨rfl, rfl, rfl, rfl, rfl, rfl⟩, rfl, rfl, rfl, rfl, ?_, ?_⟩
  · simp [State.leaveInput, State.fresh, hfull]
  · simp [State.leaveInput, State.fresh, hfull]

theorem rehearsalIdleEnd_spec (s : State) (mj : Nat) (hidle : s.trickle.rehearsal = .idle)
    (hlong : 1000 ≤ s.clock.beat - s.trickle.phaseBeat) :
    ∃ t, exec (.rehearsalIdleEnd mj) s = .next t ∧ DataKept s t ∧ t.regs = s.regs ∧ t.trickle.rehearsal = .run
      ∧ t.trickle.idleMj = mj ∧ t.trickle.runBytes = 0 :=
  ⟨_, congrArg Host.Outcome.next (if_pos ⟨hidle, hlong⟩), ⟨rfl, rfl, rfl, rfl, rfl, rfl⟩, rfl, rfl, rfl, rfl⟩

/-! ### The end of the run -/

/-- The state in which a run has ended: no rehearsal, the bursts' own classes, and the bus on the input again. -/
def State.runEnded (s : State) : State :=
  ({ s with trickle := { s.trickle with rehearsal := .none, overdue := false } }.reclass).toInput

theorem exec_rehearsalRunEnd {s : State} (mj : Nat) (hrun : s.trickle.rehearsal = .run)
    (hlong : 10000 ≤ s.clock.beat - s.trickle.phaseBeat) :
    exec (.rehearsalRunEnd mj) s = .next (s.fresh.rehearsalEnd mj) :=
  congrArg Host.Outcome.next (if_pos ⟨hrun, hlong⟩)

/-- An accepted result is stored. -/
theorem State.rehearsalEnd_of_good {s : State} {mj : Nat} (h : rehearsalGood mj s.trickle.runBytes = true) :
    s.rehearsalEnd mj = ((s.runEnded.setReg 0x4020 0 (mj * 1000000000 / s.trickle.runBytes)).setReg 0x4021 0
      (s.trickle.idleMj * 35 / 10)).setReg 0x4025 0 (s.reg 0x4040 2) := if_pos h

/-- A rejected one is recorded. -/
theorem State.rehearsalEnd_of_bad {s : State} {mj : Nat} (h : rehearsalGood mj s.trickle.runBytes = false) :
    s.rehearsalEnd mj = s.runEnded.note Code.rehearsalRejected := if_neg (ne_true_of_eq_false h)

theorem rehearsalRunEnd_accepted (s : State) (mj : Nat) (hrun : s.trickle.rehearsal = .run)
    (hlong : 10000 ≤ s.clock.beat - s.trickle.phaseBeat) (hgood : rehearsalGood mj s.trickle.runBytes = true) :
    ∃ t, exec (.rehearsalRunEnd mj) s = .next t ∧ DataKept s t ∧ t.trickle.rehearsal = .none ∧ t.niura.supply = .input
      ∧ t.reg 0x4020 0 = mj * 1000000000 / s.trickle.runBytes ∧ t.reg 0x4021 0 = s.trickle.idleMj * 35 / 10
      ∧ t.reg 0x4025 0 = s.reg 0x4040 2 ∧ RegsKept s t [key 0x4020 0, key 0x4021 0, key 0x4025 0] := by
  have hstep := exec_rehearsalRunEnd mj hrun hlong
  rw [State.rehearsalEnd_of_good (s := s.fresh) hgood] at hstep
  refine ⟨_, hstep, ⟨rfl, rfl, rfl, rfl, rfl, rfl⟩, rfl, rfl, ?_, ?_, State.reg_setReg_self _ _ _ _, ?_⟩
  · rw [State.reg_setReg_of_ne _ _ (by decide), State.reg_setReg_of_ne _ _ (by decide)]
    exact State.reg_setReg_self _ _ _ _
  · rw [State.reg_setReg_of_ne _ _ (by decide)]
    exact State.reg_setReg_self _ _ _ _
  · have hended : RegsKept s s.fresh.runEnded [key 0x4020 0, key 0x4021 0, key 0x4025 0] := .of_regs rfl _
    exact ((hended.put (by simp) _ rfl).put (by simp) _ rfl).put (by simp) _ rfl

/-- A record that follows a change of the rehearsal and of Niura moves no data and no entry. -/
theorem DataKept.note {s u : State} (hdata : DataKept s u) (hregs : u.regs = s.regs) (code : Nat) :
    DataKept s (u.note code) ∧ (u.note code).trickle = u.trickle ∧ (u.note code).niura = u.niura
      ∧ RegsKept s (u.note code) [] := by
  have hnote := u.note_reports code []
  refine ⟨hdata.trans hnote.dataKept, ?_, ?_, (RegsKept.of_regs hregs []).trans hdata.mode (hnote.regsKept [])⟩
  · rw [hnote.1]
  · rw [hnote.1]

theorem rehearsalRunEnd_rejected (s : State) (mj : Nat) (hrun : s.trickle.rehearsal = .run)
    (hlong : 10000 ≤ s.clock.beat - s.trickle.phaseBeat) (hbad : rehearsalGood mj s.trickle.runBytes = false) :
    ∃ t, exec (.rehearsalRunEnd mj) s = .next t ∧ DataKept s t ∧ t.trickle.rehearsal = .none ∧ t.niura.supply = .input
      ∧ RegsKept s t [] := by
  have hstep := exec_rehearsalRunEnd mj hrun hlong
  rw [State.rehearsalEnd_of_bad (s := s.fresh) hbad] at hstep
  have hended : DataKept s s.fresh.runEnded := ⟨rfl, rfl, rfl, rfl, rfl, rfl⟩
  obtain ⟨hdata, htrickle, hniura, hregs⟩ := hended.note rfl Code.rehearsalRejected
  exact ⟨_, hstep, hdata, congrArg Trickle.rehearsal htrickle, congrArg Niura.supply hniura, hregs⟩

/-! ### A bus that sags -/

/-- A discarded rehearsal neither idles nor runs. -/
theorem State.dropRehearsal_rehearsal (s : State) :
    s.dropRehearsal.trickle.rehearsal ≠ .idle ∧ s.dropRehearsal.trickle.rehearsal ≠ .run := by
  by_cases h : s.trickle.rehearsal = .idle ∨ s.trickle.rehearsal = .run
  · have hnone : s.dropRehearsal.trickle.rehearsal = .none := if_pos h
    rw [hnone]
    exact ⟨nofun, nofun⟩
  · have hsame : s.dropRehearsal.trickle.rehearsal = s.trickle.rehearsal := if_neg h
    rw [hsame]
    exact not_or.mp h

theorem busBelowHuBusMin_spec (s : State) (mv : Nat) (hsupply : s.niura.supply = .rehearse) (hlow : mv < s.reg 0x6060 6) :
    ∃ t, exec (.busBelowHuBusMin mv) s = .next t ∧ DataKept s t ∧ t.niura.supply = .input
      ∧ t.niura.isolationOpen = false ∧ t.trickle.rehearsal ≠ .idle ∧ t.trickle.rehearsal ≠ .run ∧ RegsKept s t [] := by
  have hstep : exec (.busBelowHuBusMin mv) s = .next (s.fresh.dropRehearsal.toInput.note Code.rehearsalRejected) :=
    congrArg Host.Outcome.next (if_pos ⟨hsupply, hlow⟩)
  have hended : DataKept s s.fresh.dropRehearsal.toInput := ⟨rfl, rfl, rfl, rfl, rfl, rfl⟩
  obtain ⟨hdata, htrickle, hniura, hregs⟩ := hended.note rfl Code.rehearsalRejected
  obtain ⟨hidle, hrun⟩ := s.fresh.dropRehearsal_rehearsal
  refine ⟨_, hstep, hdata, congrArg Niura.supply hniura, congrArg Niura.isolationOpen hniura, ?_, ?_, hregs⟩
  · rw [htrickle]
    exact hidle
  · rw [htrickle]
    exact hrun

/-! ### The obligation -/

/-- Settles O29: due, start, idle phase, the two results, the report of one that is late, and the sag, each by its own
lemma. -/
theorem rehearsal : Obligations.Rehearsal := by
  unfold Obligations.Rehearsal
  exact ⟨rehearsalDue_spec, rehearsalStart_spec, rehearsalIdleEnd_spec, rehearsalRunEnd_accepted,
    rehearsalRunEnd_rejected, rehearsalOverdue_spec, busBelowHuBusMin_spec⟩

end Sys2Proof.Machine
end

section
/-! PROOFS. Tables, leaf states and bytes read after a change elsewhere. -/
namespace Sys2Proof.Machine

theorem Map.find?_del_of_ne {α : Type} (m : Map α) {q r : Nat} (h : r ≠ q) : (m.del q).find? r = m.find? r := by
  induction m with
  | nil => rfl
  | cons e m ih =>
    obtain ⟨k, v⟩ := e
    rw [Map.del, List.filter_cons]
    by_cases hk : k = q
    · rw [if_neg (by simp [hk]), Map.find?, if_neg (fun e => h (e.symm.trans hk))]
      exact ih
    · rw [if_pos (by simp [hk]), Map.find?, Map.find?]
      split
      · rfl
      · exact ih

theorem LeafTable.get_set_of_ne (t : LeafTable) {leaf f : Nat} (st : LeafState) (h : f ≠ leaf) :
    (t.set leaf st).get f = t.get f := by
  unfold LeafTable.set LeafTable.get
  split
  · simp [Map.get, Map.find?_del_of_ne _ h]
  · simp [h]

/-- Bytes in canonical form, put one by one over others: each that is listed reads back. -/
theorem Mem.byte_foldl_putCells {p : List Host.Cell} (hp : Mem.wf p = true) (m : List Host.Cell) (hm : Mem.wf m = true)
    (a : Nat) :
    Mem.byte (p.foldl (fun m c => Mem.put m c.1 c.2) m) a = if Mem.byte p a = 0 then Mem.byte m a else Mem.byte p a := by
  induction p generalizing m with
  | nil => simp [Mem.byte]
  | cons c p ih =>
    obtain ⟨k, v⟩ := c
    have hv : v ≠ 0 := (Mem.wf_cons.mp hp).1
    rw [List.foldl_cons, ih (Mem.wf_tail hp) _ (Mem.wf_put _ _ _ hm), Mem.byte_put _ _ _ _ hm]
    by_cases hk : a = k
    · rw [if_pos (Mem.byte_of_lt (hk ▸ Mem.wf_lt hp)), if_pos hk, Mem.byte, if_pos hk.symm, if_neg hv]
    · rw [if_neg hk, Mem.byte, if_neg (Ne.symm hk)]

/-- The canonical form of bytes in canonical form reads as they do. -/
theorem Mem.byte_canon {p : List Host.Cell} (hp : Mem.wf p = true) (a : Nat) : Mem.byte (Mem.canon p) a = Mem.byte p a := by
  rw [Mem.canon, Mem.byte_foldl_putCells hp [] rfl]
  split
  next hzero => exact hzero.symm
  next => rfl

end Sys2Proof.Machine
end

section
/-! PROOFS. What the NAND store's own work leaves: rows that are programmed, segments that open and close, erase units that
retire, LUNs and channels that fail (R247, R248, R259 to R262). None of it moves data, a leaf's copy or a row on its way. -/
namespace Sys2Proof.Machine

/-! ### What store work keeps -/

/-- The entries that count copies, program failures and retirements (R149, R259, R263). -/
def storeCounter (k : Nat) : Prop := k % 256 = 5 ∨ k ∈ [key 0x4032 0, key 0x4033 0, key 0x5041 0]

/-- Between two states the data, the leaf map and the rows on their way are the same, and the counters of the store but for
those named. -/
structure StoreKept (counted : List Nat) (s t : State) : Prop where
  data : DataKept s t
  layout : t.layout = s.layout
  security : t.security = s.security
  copies : t.nand.copies = s.nand.copies
  rowIds : s.nand.nextRowId ≤ t.nand.nextRowId
  rows : ∀ id < s.nand.nextRowId, t.nand.rows.find? id = s.nand.rows.find? id
  counters : ∀ k, storeCounter k → k ∉ counted → t.regs.find? k = s.regs.find? k

/-- A change that is apart from all of these. -/
theorem StoreKept.of_eq {l : List Nat} {s t : State} (hdata : DataKept s t) (hlayout : t.layout = s.layout)
    (hsecurity : t.security = s.security) (hcopies : t.nand.copies = s.nand.copies)
    (hids : t.nand.nextRowId = s.nand.nextRowId) (hrows : t.nand.rows = s.nand.rows) (hregs : t.regs = s.regs) :
    StoreKept l s t :=
  ⟨hdata, hlayout, hsecurity, hcopies, hids.ge, fun _ _ => by rw [hrows], fun _ _ _ => by rw [hregs]⟩

theorem StoreKept.refl (l : List Nat) (s : State) : StoreKept l s s :=
  .of_eq ⟨rfl, rfl, rfl, rfl, rfl, rfl⟩ rfl rfl rfl rfl rfl rfl

theorem StoreKept.trans {l : List Nat} {s t u : State} (h : StoreKept l s t) (k : StoreKept l t u) : StoreKept l s u :=
  ⟨h.data.trans k.data, k.layout.trans h.layout, k.security.trans h.security, k.copies.trans h.copies,
    h.rowIds.trans k.rowIds, fun id hid => (k.rows id (hid.trans_le h.rowIds)).trans (h.rows id hid),
    fun q hq hl => (k.counters q hq hl).trans (h.counters q hq hl)⟩

theorem StoreKept.mono {l l' : List Nat} {s t : State} (h : StoreKept l s t) (hl : l ⊆ l') : StoreKept l' s t :=
  ⟨h.data, h.layout, h.security, h.copies, h.rowIds, h.rows, fun k hk hn => h.counters k hk fun hm => hn (hl hm)⟩

theorem StoreKept.foldl {α : Type} {l : List Nat} (g : State → α → State) (h : ∀ s a, StoreKept l s (g s a)) (as : List α)
    (s : State) : StoreKept l s (as.foldl g s) :=
  State.foldl_holds (StoreKept l s) g (fun t a ht => ht.trans (h t a)) as s (.refl l s)

/-- A counter reads the same after work that does not count in it. -/
theorem StoreKept.reg {l : List Nat} {s t : State} (h : StoreKept l s t) {idx sub : Nat} (hk : storeCounter (key idx sub))
    (hl : key idx sub ∉ l) : t.reg idx sub = s.reg idx sub :=
  State.reg_congr h.layout h.security (h.counters _ hk hl)

theorem StoreKept.counted {l : List Nat} {s t u : State} {idx sub n : Nat} (h : StoreKept l t u)
    (hc : Counted s t idx sub n) (hk : storeCounter (key idx sub)) (hl : key idx sub ∉ l) : Counted s u idx sub n := fun hn =>
  (h.reg hk hl).trans (hc hn)

/-- Reports are none of the store's counters. -/
theorem storeCounter.not_report {k : Nat} (h : storeCounter k) : k ∉ reportEntries ∧ k ∉ windowEntries := by
  simp only [storeCounter, List.mem_cons, List.not_mem_nil, or_false] at h
  constructor
  · simp only [reportEntries, key, List.mem_cons, List.not_mem_nil, or_false] at h ⊢
    omega
  · intro hmem
    obtain ⟨c, -, rfl⟩ := List.mem_map.mp hmem
    unfold key at h
    omega

theorem SameButReports.storeKept {s t : State} (h : SameButReports s t) (l : List Nat) : StoreKept l s t := by
  have hdata := h.dataKept
  obtain ⟨heq, -, -, hregs, -⟩ := h
  have hnand : t.nand = s.nand := by rw [heq]
  refine ⟨hdata, by rw [heq], by rw [heq], by rw [hnand], by rw [hnand], fun _ _ => by rw [hnand], fun k hk _ => ?_⟩
  exact hregs k hk.not_report.1 fun _ => hk.not_report.2

/-- An entry that is no counter, or one of those named, is stored. -/
theorem StoreKept.putReg (s : State) {l : List Nat} {k : Nat} (h : storeCounter k → k ∈ l) (v n : Nat) :
    StoreKept l s { s with regs := s.regs.put k v, free := n } := by
  refine ⟨⟨rfl, rfl, rfl, rfl, rfl, rfl⟩, rfl, rfl, rfl, le_rfl, fun _ _ => rfl, fun q hq hl => ?_⟩
  exact Map.find?_put_of_ne _ _ _ _ fun e => hl (e ▸ h (e ▸ hq))

theorem State.setReg_storeKept (s : State) {l : List Nat} {idx sub : Nat} (h : storeCounter (key idx sub) → key idx sub ∈ l)
    (v : Nat) : StoreKept l s (s.setReg idx sub v) := .putReg s h v s.free

theorem State.addReg_storeKept (s : State) {l : List Nat} {idx sub : Nat} (h : storeCounter (key idx sub) → key idx sub ∈ l)
    (n : Nat) : StoreKept l s (s.addReg idx sub n) := .putReg s h _ _

theorem State.faultOpen_storeKept (l : List Nat) (s : State) (code : Nat) (live : Bool) :
    StoreKept l s (s.faultOpen code live) := (s.faultOpen_reports code live).storeKept l

/-- Panic as it stands now, with the bursts' classes (R102). -/
def State.panicSet (s : State) : State := { s with trickle := { s.trickle with panic := s.panicNext } }.reclass

theorem State.panicSet_storeKept (l : List Nat) (s : State) : StoreKept l s s.panicSet :=
  .of_eq ⟨rfl, rfl, rfl, rfl, rfl, rfl⟩ rfl rfl rfl rfl rfl rfl

/-- Panic moves the bursts' classes, its own count and reports. -/
theorem State.panicUpdate_kept (l : List Nat) (s : State) :
    StoreKept l s s.panicUpdate ∧ s.panicUpdate.nand = s.nand := by
  have hother : ¬ storeCounter (key 0x3010 4) := by
    unfold storeCounter
    decide
  have hcount : StoreKept l s (s.panicSet.addReg 0x3010 4 1) :=
    (s.panicSet_storeKept l).trans (State.addReg_storeKept _ (fun h => absurd h hother) 1)
  have hnote := State.note_reports (s.panicSet.addReg 0x3010 4 1) Code.panicHold []
  have hnand : ((s.panicSet.addReg 0x3010 4 1).note Code.panicHold).nand = s.nand := by
    rw [hnote.1]
    rfl
  unfold State.panicUpdate
  dsimp only
  split_ifs
  · exact ⟨.refl l s, rfl⟩
  · exact ⟨hcount.trans (hnote.storeKept l), hnand⟩
  · exact ⟨hcount, rfl⟩
  · exact ⟨s.panicSet_storeKept l, rfl⟩

/-! ### Segments -/

/-- `t` is `s` but for the tables of segments and erase units and the open data segments. -/
def SegmentsMoved (s t : State) : Prop :=
  t = { s with nand := { s.nand with segments := t.nand.segments, units := t.nand.units, openData := t.nand.openData,
                                     nextOpen := t.nand.nextOpen } }

theorem SegmentsMoved.refl (s : State) : SegmentsMoved s s := rfl

theorem SegmentsMoved.trans {s t u : State} (h : SegmentsMoved s t) (k : SegmentsMoved t u) : SegmentsMoved s u := by
  unfold SegmentsMoved at *
  rw [k, h]

theorem SegmentsMoved.storeKept {s t : State} (h : SegmentsMoved s t) (l : List Nat) : StoreKept l s t := by
  rw [h]
  exact .of_eq ⟨rfl, rfl, rfl, rfl, rfl, rfl⟩ rfl rfl rfl rfl rfl rfl

theorem State.newSegment_moved {s t : State} {lun n : Nat} (h : s.newSegment lun = some (t, n)) : SegmentsMoved s t := by
  unfold State.newSegment at h
  split at h
  · cases h
  · cases h
    rfl

theorem State.openSegment_moved (s : State) (lun : Nat) : SegmentsMoved s (s.openSegment lun) := by
  unfold State.openSegment
  split
  · exact .refl s
  next t n h => exact (State.newSegment_moved h).trans rfl

theorem State.closeSegment_moved (s : State) (lun : Nat) : SegmentsMoved s (s.closeSegment lun) := by
  unfold State.closeSegment
  split
  · exact .refl s
  · rfl

/-- A segment is closed and the next one opened. -/
theorem State.renewSegment_moved (s : State) (lun : Nat) : SegmentsMoved s ((s.closeSegment lun).openSegment lun) :=
  (s.closeSegment_moved lun).trans (State.openSegment_moved _ lun)

theorem State.leaveSegment_moved (s : State) (seg : Nat) : SegmentsMoved s (s.leaveSegment seg) := by
  unfold State.leaveSegment
  dsimp only
  split
  · exact s.renewSegment_moved _
  · exact .refl s

theorem State.renewOpen_moved (r : Nat × Nat) (s : State) (lun : Nat) : SegmentsMoved s (State.renewOpen r s lun) := by
  unfold State.renewOpen
  split
  · split
    · exact s.renewSegment_moved lun
    · exact .refl s
  · exact .refl s

/-! ### Rows that are programmed -/

theorem numberStripes_length (degraded : Bool) (q : Nat) (xs : List Stripe) :
    (numberStripes degraded q xs).1.length = xs.length := by
  induction xs generalizing q with
  | nil => rfl
  | cons x xs ih => simp [numberStripes, ih]

/-- The stripes of the next row, numbered, and the image sequence behind them (R249). -/
def State.rowStripes (s : State) (seg : Nat) : List Stripe × Nat :=
  numberStripes (decide (s.missing seg ≠ 0)) (s.reg 0x5070 0)
    (s.nand.forming.take 16 ++ List.replicate (16 - (s.nand.forming.take 16).length) Stripe.filler)

theorem State.rowStripes_length (s : State) (seg : Nat) : (s.rowStripes seg).1.length = 16 := by
  simp only [State.rowStripes, numberStripes_length, List.length_append, List.length_replicate, List.length_take]
  omega

/-- The next row, in a segment. -/
def State.rowIn (s : State) (seg : Nat) : Row :=
  { segment := seg, row := (s.segment seg).rows, missing := s.missing seg,
    stripes := (List.range 16).zip (s.rowStripes seg).1 }

/-- The next row is on its way. -/
def State.rowStarted (s : State) (lun seg : Nat) : State :=
  let t := (s.setReg 0x5070 0 (s.rowStripes seg).2).setSegment seg { s.segment seg with rows := (s.segment seg).rows + 1 }
  { t with nand := { t.nand with rows := t.nand.rows.put t.nand.nextRowId (s.rowIn seg), nextRowId := t.nand.nextRowId + 1,
                                 nextRow := lun + 1, forming := t.nand.forming.drop 16, formedAt := t.clock.beat } }

/-- The next row is on its way, and its NAND time and wear are counted. -/
def State.rowCharged (s : State) (lun seg : Nat) : State :=
  (s.rowStarted lun seg).restoreTime.chargeWear (73728 * ((s.rowStripes seg).1.filter s.chargedStripe).length)

theorem State.restoreTime_eq (s : State) : ∃ tr, s.restoreTime = { s with trickle := tr } := by
  unfold State.restoreTime
  split <;> exact ⟨_, rfl⟩

/-- The LUN index that takes the next row has an open data segment (R248). -/
theorem State.nextLun_open {s : State} {lun : Nat} (h : s.nextLun = some lun) :
    ∃ seg, s.nand.openData.find? lun = some seg := by
  unfold State.nextLun at h
  dsimp only at h
  split at h
  next k hk =>
    cases h
    exact Option.isSome_iff_exists.mp (List.find?_some (p := fun k => (s.nand.openData.find? ((s.nand.nextRow + k)
      % s.nandLuns)).isSome) hk)
  · cases h

/-- Where the store can take a row, one starts; a full segment is renewed (R247, R248). -/
theorem State.programRow_eq {s : State} {lun seg : Nat} (hlun : s.nextLun = some lun)
    (hseg : s.nand.openData.find? lun = some seg) (hready : ¬ (s.nand.unavailable = true ∨ s.nand.forming = [])) :
    s.programRow = if s.rowsPerSegment ≤ (s.segment seg).rows + 1 then
      ((s.rowCharged lun seg).closeSegment lun).openSegment lun else s.rowCharged lun seg := by
  unfold State.programRow
  rw [hlun]
  dsimp -zeta only
  rw [hseg]
  exact if_neg hready

theorem State.rowCharged_eq (s : State) (lun seg : Nat) : ∃ tr, s.rowCharged lun seg = { s.rowStarted lun seg with
    trickle := tr } := by
  obtain ⟨tr, htr⟩ := (s.rowStarted lun seg).restoreTime_eq
  unfold State.rowCharged
  rw [htr]
  exact ⟨_, rfl⟩

theorem State.rowCharged_storeKept (l : List Nat) (s : State) (lun seg : Nat) : StoreKept l s (s.rowCharged lun seg) := by
  have hother : ¬ storeCounter (key 0x5070 0) := by
    unfold storeCounter
    decide
  obtain ⟨tr, htr⟩ := s.rowCharged_eq lun seg
  rw [htr]
  refine ⟨⟨rfl, rfl, rfl, rfl, rfl, rfl⟩, rfl, rfl, rfl, Nat.le_succ _, fun id hid => ?_,
    (s.setReg_storeKept (fun h => absurd h hother) _).counters⟩
  exact Map.find?_put_of_ne _ _ _ _ hid.ne

/-- A row that starts is followed by no more than a new segment. -/
theorem State.programRow_moved {s : State} {lun seg : Nat} (hlun : s.nextLun = some lun)
    (hseg : s.nand.openData.find? lun = some seg) (hready : ¬ (s.nand.unavailable = true ∨ s.nand.forming = [])) :
    SegmentsMoved (s.rowCharged lun seg) s.programRow := by
  rw [State.programRow_eq hlun hseg hready]
  split
  · exact State.renewSegment_moved _ lun
  · exact .refl _

theorem State.programRow_storeKept (l : List Nat) (s : State) : StoreKept l s s.programRow := by
  by_cases h : ∃ lun seg, s.nextLun = some lun ∧ s.nand.openData.find? lun = some seg
      ∧ ¬ (s.nand.unavailable = true ∨ s.nand.forming = [])
  · obtain ⟨lun, seg, hlun, hseg, hready⟩ := h
    exact (s.rowCharged_storeKept l lun seg).trans ((State.programRow_moved hlun hseg hready).storeKept l)
  · have hsame : s.programRow = s := by
      unfold State.programRow
      split
      · rfl
      next lun hlun =>
        split
        · rfl
        next seg hseg =>
          exact if_pos (not_not.mp fun hready => h ⟨lun, seg, hlun, hseg, hready⟩)
    rw [hsame]
    exact .refl l s

theorem State.programRows_storeKept (l : List Nat) (n : Nat) (s : State) : StoreKept l s (s.programRows n) := by
  induction n generalizing s with
  | zero => exact .refl l s
  | succ n ih =>
    unfold State.programRows
    split
    · exact (s.programRow_storeKept l).trans (ih _)
    · exact .refl l s

theorem State.form_storeKept (l : List Nat) (s : State) (xs : List Stripe) : StoreKept l s (s.form xs) := by
  have hjoined : StoreKept l s { s with nand := { s.nand with
      forming := s.nand.forming ++ xs, formedAt := if s.nand.forming = [] then s.clock.beat else s.nand.formedAt } } :=
    .of_eq ⟨rfl, rfl, rfl, rfl, rfl, rfl⟩ rfl rfl rfl rfl rfl rfl
  exact hjoined.trans (State.programRows_storeKept l ((s.nand.forming.length + xs.length) / 16) _)

/-! ### LUNs and channels that fail -/

theorem State.startRebuildOf_storeKept (l : List Nat) (s : State) (what : Nat) : StoreKept l s (s.startRebuildOf what) := by
  have hlisted : StoreKept l s { s with nand := { s.nand with
      rebuild := s.nand.rebuild ++ [(what, s.nand.nextOpen)], rebuildPaused := decide (s.ctl.mode = .save) } } :=
    .of_eq ⟨rfl, rfl, rfl, rfl, rfl, rfl⟩ rfl rfl rfl rfl rfl rfl
  have hrenewed := fun (luns : List Nat) (t : State) => StoreKept.foldl (l := l) (State.renewOpen (what, s.nand.nextOpen))
    (fun t lun => (State.renewOpen_moved _ t lun).storeKept l) luns t
  unfold State.startRebuildOf
  dsimp only
  split
  · exact hlisted.trans (hrenewed _ _)
  · exact ((hlisted.trans (hrenewed _ _)).trans (State.form_storeKept l _ _)).trans (State.panicUpdate_kept l _).1

theorem State.nandChannelFailed_storeKept (l : List Nat) (s : State) (c : Nat) : StoreKept l s (s.nandChannelFailed c) := by
  have hlisted : StoreKept l s { s with nand := { s.nand with
      channelsFailed := s.nand.channelsFailed ++ [c],
      unavailable := decide (3 ≤ (s.nand.channelsFailed ++ [c]).length) } } :=
    .of_eq ⟨rfl, rfl, rfl, rfl, rfl, rfl⟩ rfl rfl rfl rfl rfl rfl
  have hfailed := hlisted.trans (State.faultOpen_storeKept l _ Code.nandChannelFailed true)
  unfold State.nandChannelFailed
  refine StoreKept.trans ?_ (State.startRebuildOf_storeKept l _ _)
  dsimp only
  split_ifs
  · exact hfailed.trans (State.faultOpen_storeKept l _ _ _)
  · exact hfailed.trans (State.faultOpen_storeKept l _ _ _)
  · exact hfailed

/-- A failed LUN is marked in the entry of its channel, which is no counter (R261). -/
theorem State.markLun_storeKept (l : List Nat) (s : State) (c lun : Nat) : StoreKept l s (s.markLun c lun) := by
  have hother : ¬ storeCounter (key (0x5100 + c) 2) := by
    simp only [storeCounter, key, List.mem_cons, List.not_mem_nil, or_false]
    omega
  refine ⟨⟨rfl, rfl, rfl, rfl, rfl, rfl⟩, rfl, rfl, rfl, le_rfl, fun _ _ => rfl, ?_⟩
  exact (s.setReg_storeKept (fun h => absurd h hother) _).counters

theorem State.lunFailed_storeKept (l : List Nat) (s : State) (c lun : Nat) : StoreKept l s (s.lunFailed c lun) := by
  have hstart := ((s.markLun_storeKept l c lun).trans (State.faultOpen_storeKept l _ Code.nandLunFailed false)).trans
    (State.startRebuildOf_storeKept l _ (32 * c + lun))
  unfold State.lunFailed
  dsimp only
  split
  · exact hstart.trans (State.nandChannelFailed_storeKept l _ c)
  · exact hstart

/-! ### Erase units that retire -/

/-- The wear table with an erase unit retired, and the beats of its LUN's last retirements (R259, R260). -/
def State.unitRetired (s : State) (k : Nat) : State :=
  let recent :=
    ((s.nand.recentRetired.get (k / 2 ^ 16) []).filter fun b => decide (s.clock.beat < b + 100000)) ++ [s.clock.beat]
  { s with nand := { s.nand with units := s.nand.units.put k { s.eraseUnit k with state := 3 },
                                 recentRetired := s.nand.recentRetired.put (k / 2 ^ 16) recent } }

theorem State.unitRetired_storeKept (l : List Nat) (s : State) (k : Nat) : StoreKept l s (s.unitRetired k) :=
  .of_eq ⟨rfl, rfl, rfl, rfl, rfl, rfl⟩ rfl rfl rfl rfl rfl rfl

/-- The retirement of an erase unit is counted, the wear is reported, and its LUN may fail: no counter moves but its own. -/
theorem State.retireKey_counted (l : List Nat) {s : State} {k : Nat} (hstands : (s.eraseUnit k).state ≠ 3) (lun : Nat) :
    StoreKept l ((s.unitRetired k).addReg 0x5041 0 1) (s.retireKey k lun) := by
  have hother : ¬ storeCounter (key 0x5040 0) := by
    unfold storeCounter
    decide
  have hnoted : StoreKept l ((s.unitRetired k).addReg 0x5041 0 1)
      ((((s.unitRetired k).addReg 0x5041 0 1).wearUpdate).note Code.eraseUnitRetired) :=
    (State.setReg_storeKept _ (fun h => absurd h hother) _).trans ((State.note_reports _ _ _).storeKept l)
  unfold State.retireKey
  dsimp only
  rw [if_neg hstands]
  split
  · exact hnoted.trans (State.lunFailed_storeKept l _ _ lun)
  · exact hnoted

theorem State.retireKey_storeKept (s : State) (k lun : Nat) : StoreKept [key 0x5041 0] s (s.retireKey k lun) := by
  by_cases hstands : (s.eraseUnit k).state = 3
  · have hsame : s.retireKey k lun = s := if_pos hstands
    rw [hsame]
    exact .refl _ s
  · exact ((s.unitRetired_storeKept _ k).trans (State.addReg_storeKept _ (fun _ => List.mem_singleton_self _) 1)).trans
      (State.retireKey_counted _ hstands lun)

theorem State.retireUnit_storeKept (s : State) (seg chan : Nat) : StoreKept [key 0x5041 0] s (s.retireUnit seg chan) := by
  unfold State.retireUnit
  split
  · exact s.retireKey_storeKept _ _
  · exact .refl _ s

theorem State.retireEmptied_storeKept (s : State) : StoreKept [key 0x5041 0] s s.retireEmptied := by
  refine .foldl _ (fun t r => ?_) _ s
  exact (t.retireUnit_storeKept r.1 r.2).trans (.of_eq ⟨rfl, rfl, rfl, rfl, rfl, rfl⟩ rfl rfl rfl rfl rfl rfl)

theorem State.loadPages_storeKept (l : List Nat) (s : State) : StoreKept l s s.loadPages := by
  refine .foldl _ (fun t u => ?_) _ s
  unfold State.loadPage
  split <;> exact .of_eq ⟨rfl, rfl, rfl, rfl, rfl, rfl⟩ rfl rfl rfl rfl rfl rfl

end Sys2Proof.Machine
end

section
/-! PROOFS. Rows of the NAND image store: started with filler, programmed with the copy of a leaf, and failed (R156, R245,
R247 to R249, R259, R263). -/
namespace Sys2Proof.Machine

/-! ### A row that has waited -/

theorem rowFillTimeout_spec (s : State) (lun : Nat) (hforming : s.nand.forming ≠ [])
    (hwaited : 100 ≤ s.clock.beat - s.nand.formedAt) (hmode : s.ctl.mode ≠ .save) (hlun : s.nextLun = some lun)
    (hstore : s.nand.unavailable = false) :
    ∃ t r, exec .rowFillTimeout s = .next t ∧ DataKept s t ∧ t.nand.forming = s.nand.forming.drop 16
      ∧ t.nand.rows.find? s.nand.nextRowId = some r ∧ r.stripes.length = 16
      ∧ t.nand.nextRowId = s.nand.nextRowId + 1 := by
  have hstep : exec .rowFillTimeout s = .next s.fresh.programRow.panicUpdate :=
    congrArg Host.Outcome.next (if_pos ⟨hforming, hwaited, hmode⟩)
  obtain ⟨seg, hseg⟩ := State.nextLun_open hlun
  have hready : ¬ (s.fresh.nand.unavailable = true ∨ s.fresh.nand.forming = []) :=
    not_or.mpr ⟨ne_true_of_eq_false hstore, hforming⟩
  have hmoved := State.programRow_moved (s := s.fresh) hlun hseg hready
  obtain ⟨tr, htr⟩ := s.fresh.rowCharged_eq lun seg
  obtain ⟨hpanic, hnand⟩ := State.panicUpdate_kept [] s.fresh.programRow
  rw [htr] at hmoved
  have hrow : s.fresh.programRow.nand.rows = s.nand.rows.put s.nand.nextRowId (s.fresh.rowIn seg) := by
    rw [hmoved]
    rfl
  refine ⟨_, s.fresh.rowIn seg, hstep, ((s.fresh.programRow_storeKept []).trans hpanic).data, ?_, ?_, ?_, ?_⟩
  · rw [hnand, hmoved]
    rfl
  · rw [hnand, hrow]
    exact Map.find?_put_self _ _ _
  · simp [State.rowIn, State.rowStripes_length]
  · rw [hnand, hmoved]
    rfl

/-! ### The copy of a leaf -/

theorem State.countValid_eq (s : State) (seg : Nat) (up : Bool) :
    ∃ segments, s.countValid seg up = { s with nand := { s.nand with segments := segments } } := by
  unfold State.countValid
  split <;> exact ⟨_, rfl⟩

/-- The leaf map takes a leaf's entry; valid counts and a burst follow (R251, R80). -/
theorem State.mapLeaf_eq (s : State) (leaf : Nat) (c : Copy) : ∃ segments sched, s.mapLeaf leaf c = { s with
    sched := sched, nand := { s.nand with segments := segments, copies := s.nand.copies.put leaf c } } := by
  unfold State.mapLeaf
  split
  next old _ =>
    obtain ⟨segments, hold⟩ := s.countValid_eq old.segment false
    obtain ⟨segments', hnew⟩ := (s.countValid old.segment false).countValid_eq c.segment true
    dsimp only
    rw [hnew, hold]
    exact ⟨_, _, rfl⟩
  · obtain ⟨segments, hnew⟩ := s.countValid_eq c.segment true
    dsimp only
    rw [hnew]
    exact ⟨_, _, rfl⟩

/-- What stands in flash of a stripe that is credited (R246, R250). -/
def State.storedFrom (s : State) (id : Nat) (r : Row) (slot : Nat) (x : Stripe) : Stored :=
  { leaf := x.leaf, seq := x.seq, origin := x.origin, keyId := (s.copyFrom id r slot x).keyId,
    epoch := (s.copyFrom id r slot x).epoch, poison := x.poison, missing := s.missing r.segment, rowId := id,
    cipher := s.encrypt (tweakOf x.leaf 0) x.data }

theorem State.storeCopy_eq (s : State) (id : Nat) (r : Row) (slot : Nat) (x : Stripe) :
    ∃ segments sched, s.storeCopy id r slot x = { s with sched := sched, nand := { s.nand with
      segments := segments, copies := s.nand.copies.put x.leaf (s.copyFrom id r slot x),
      flash := s.nand.flash.put (placeOf r.segment r.row slot) (s.storedFrom id r slot x) } } := by
  obtain ⟨segments, sched, hmap⟩ := s.mapLeaf_eq x.leaf (s.copyFrom id r slot x)
  unfold State.storeCopy
  dsimp only
  rw [hmap]
  exact ⟨segments, sched, rfl⟩

/-- The state in which a trickle stripe is credited as its leaf's copy (R156). -/
def State.copyCredited (s : State) (id : Nat) (r : Row) (slot : Nat) (x : Stripe) : State :=
  let t := (({ s with nand := { s.nand with sinceCheckpoint := s.nand.sinceCheckpoint + 1 } }.storeCopy id r slot x).setLeaf
    x.leaf .clean .lazy).freeMirror x.leaf
  { t with trickle := { t.trickle with runBytes := t.trickle.runBytes + 65536 } }.addReg 0x4032 0 1

@[simp] theorem State.withPoison_leaf (s : State) (x : Stripe) : (s.withPoison x).leaf = x.leaf := by
  unfold State.withPoison
  split <;> rfl

@[simp] theorem State.withPoison_seq (s : State) (x : Stripe) : (s.withPoison x).seq = x.seq := by
  unfold State.withPoison
  split <;> rfl

@[simp] theorem State.withPoison_origin (s : State) (x : Stripe) : (s.withPoison x).origin = x.origin := by
  unfold State.withPoison
  split <;> rfl

@[simp] theorem State.withPoison_live (s : State) (x : Stripe) : (s.withPoison x).live = x.live := by
  unfold State.withPoison
  split <;> rfl

@[simp] theorem State.withPoison_data (s : State) (x : Stripe) : (s.withPoison x).data = x.data := by
  unfold State.withPoison
  split <;> rfl

theorem State.creditStripe_of_copying {s : State} {x : Stripe} (horigin : x.origin = 0) (hleaf : s.leaf x.leaf = .copying)
    (hlive : x.live = true) (id : Nat) (r : Row) (slot : Nat) :
    s.creditStripe id r (slot, x) = s.copyCredited id r slot (s.withPoison x) := by
  have hcopied : s.leaf (s.withPoison x).leaf = .copying ∧ (s.withPoison x).live = true := by simp [hleaf, hlive]
  unfold State.creditStripe
  dsimp only
  rw [State.withPoison_origin, horigin]
  exact if_pos hcopied

/-- A credited copy changes its leaf's state, its entry of the leaf map and its place in flash, and is counted. -/
theorem State.copyCredited_spec (s : State) (id : Nat) (r : Row) (slot : Nat) (x : Stripe) :
    (s.copyCredited id r slot x).mem = s.mem ∧ (s.copyCredited id r slot x).groups = s.groups
      ∧ (s.copyCredited id r slot x).ctl = s.ctl ∧ (s.copyCredited id r slot x).leaves = s.leaves.set x.leaf .clean
      ∧ (s.copyCredited id r slot x).nand.flash
        = s.nand.flash.put (placeOf r.segment r.row slot) (s.storedFrom id r slot x)
      ∧ (s.copyCredited id r slot x).nand.copies = s.nand.copies.put x.leaf (s.copyFrom id r slot x)
      ∧ (s.copyCredited id r slot x).nand.rows = s.nand.rows
      ∧ (s.copyCredited id r slot x).nand.nextRowId = s.nand.nextRowId
      ∧ Counted s (s.copyCredited id r slot x) 0x4032 0 1 := by
  obtain ⟨segments, sched, hstored⟩ := { s with nand := { s.nand with
    sinceCheckpoint := s.nand.sinceCheckpoint + 1 } }.storeCopy_eq id r slot x
  unfold State.copyCredited
  dsimp only
  rw [hstored]
  exact ⟨rfl, rfl, rfl, rfl, rfl, rfl, rfl, rfl, (State.addReg_counted _ 0x4032 0 1).of_reg rfl⟩

/-! ### A row that is programmed -/

/-- A row is on its way no more. -/
def State.withoutRow (s : State) (id : Nat) : State := { s with nand := { s.nand with rows := s.nand.rows.del id } }

/-- What follows the credit of a row's stripe moves none of what it has changed. -/
theorem State.rowProgrammed_storeKept {s : State} {r : Row} {e : Nat × Stripe} (id : Nat) (hstripes : r.stripes = [e])
    (hmissing : s.missing r.segment ≤ r.missing) :
    StoreKept [key 0x5041 0] ((s.withoutRow id).creditStripe id r e) (s.rowProgrammed id r) := by
  have hstands : ¬ r.missing < (s.withoutRow id).missing r.segment := not_lt.mpr hmissing
  have hcredited : s.rowProgrammed id r = (((s.withoutRow id).creditStripe id r e).retireEmptied.loadPages).panicUpdate := by
    unfold State.rowProgrammed
    rw [hstripes]
    exact congrArg (fun t : State => t.retireEmptied.loadPages.panicUpdate) (if_neg hstands)
  rw [hcredited]
  exact ((State.retireEmptied_storeKept _).trans (State.loadPages_storeKept _ _)).trans (State.panicUpdate_kept _ _).1

theorem rowProgramComplete_spec (s : State) (row slot : Nat) (r : Row) (x : Stripe) (hrow : s.nand.rows.find? row = some r)
    (hstripes : r.stripes = [(slot, x)]) (horigin : x.origin = 0) (hid : row < s.nand.nextRowId)
    (hmissing : s.missing r.segment ≤ r.missing) (hleaf : s.leaf x.leaf = .copying) (hlive : x.live = true)
    (hdata : Mem.wf x.data = true) :
    ∃ t, exec (.rowProgramComplete row) s = .next t ∧ t.mem = s.mem ∧ t.groups = s.groups ∧ t.ctl.mode = s.ctl.mode
      ∧ t.leaf x.leaf = .clean ∧ (∀ g, g ≠ x.leaf → t.leaf g = s.leaf g)
      ∧ (∃ st, t.nand.flash.find? (placeOf r.segment r.row slot) = some st ∧ st.leaf = x.leaf ∧ st.seq = x.seq
          ∧ st.cipher.crypt = s.cryptOf (tweakOf x.leaf 0) ∧ ∀ a, Mem.byte st.cipher.plain a = Mem.byte x.data a)
      ∧ (∀ p, p ≠ placeOf r.segment r.row slot → t.nand.flash.find? p = s.nand.flash.find? p)
      ∧ (∃ c, t.nand.copies.find? x.leaf = some c ∧ c.seq = x.seq ∧ c.segment = r.segment ∧ c.row = r.row ∧ c.slot = slot)
      ∧ t.nand.rows.find? row = none ∧ Counted s t 0x4032 0 1 := by
  have hstep : exec (.rowProgramComplete row) s = .next (s.fresh.rowProgrammed row r) := by
    simp only [exec, execRowProgramComplete, hrow]
  have hkept := State.rowProgrammed_storeKept (s := s.fresh) row hstripes hmissing
  have hcopying : (s.fresh.withoutRow row).leaf x.leaf = .copying := hleaf
  rw [State.creditStripe_of_copying horigin hcopying hlive] at hkept
  obtain ⟨hmem, hgroups, hctl, hleaves, hflash, hcopies, hrows, hids, hcount⟩ :=
    (s.fresh.withoutRow row).copyCredited_spec row r slot ((s.fresh.withoutRow row).withPoison x)
  obtain ⟨⟨kmem, kflash, kleaves, kgroups, kmode, -⟩, -, -, kcopies, -, krows, -⟩ := id hkept
  rw [State.withPoison_leaf] at hleaves hcopies
  refine ⟨_, hstep, kmem.trans hmem, kgroups.trans hgroups, kmode.trans (congrArg Control.mode hctl), ?_, fun g hg => ?_,
    ?_, fun p hp => ?_, ?_, ?_, ?_⟩
  · rw [State.leaf, kleaves.trans hleaves]
    exact LeafTable.get_set_self _ _ _
  · rw [State.leaf, kleaves.trans hleaves]
    exact LeafTable.get_set_of_ne _ _ hg
  · rw [kflash.trans hflash]
    exact ⟨_, Map.find?_put_self _ _ _, State.withPoison_leaf _ x, State.withPoison_seq _ x,
      congrArg (fun f => s.cryptOf (tweakOf f 0)) (State.withPoison_leaf _ x),
      fun a => (Mem.byte_canon ((State.withPoison_data _ x).symm ▸ hdata) a).trans
        (congrArg (Mem.byte · a) (State.withPoison_data _ x))⟩
  · rw [kflash.trans hflash]
    exact Map.find?_put_of_ne _ _ _ _ hp
  · rw [kcopies.trans hcopies]
    exact ⟨_, Map.find?_put_self _ _ _, State.withPoison_seq _ x, rfl, rfl, rfl⟩
  · rw [krows row (hid.trans_eq hids.symm), hrows]
    exact Map.find?_del_self _ _
  · exact hkept.counted (hcount.of_reg rfl) (.inr (by decide)) (by decide)

/-! ### A row that fails -/

/-- A trickle or save stripe that fails is counted as a copy not credited, and its leaf is DIRTY again (R149, R263). -/
theorem State.failStripe_of_copying {s : State} {x : Stripe} (hmoved : x.origin ≠ 2) (hfiller : x.origin ≠ 3)
    (hleaf : s.leaf x.leaf = .copying) (hlive : x.live = true) :
    s.failStripe x = (s.addReg 0x4033 0 1).setLeaf x.leaf .dirty .none := by
  unfold State.failStripe
  split
  next h => exact absurd h hfiller
  next h => exact absurd h hmoved
  · exact if_pos ⟨hleaf, hlive⟩

/-- The failing erase unit has retired, its segment has closed, and the failure is counted on its channel (R259, R263). -/
def State.unitFailed (s : State) (seg chan : Nat) : State :=
  ((s.retireUnit seg chan).leaveSegment seg).addReg (0x5100 + chan) 5 1

/-- Of the store's counters those of the retirement and of the failure move, by one each. -/
theorem State.unitFailed_spec {s : State} {seg chan k : Nat} (hunit : (s.segment seg).units.find? chan = some k)
    (hstands : (s.eraseUnit k).state ≠ 3) :
    StoreKept [key 0x5041 0, key (0x5100 + chan) 5] s (s.unitFailed seg chan)
      ∧ Counted s (s.unitFailed seg chan) 0x5041 0 1 ∧ Counted s (s.unitFailed seg chan) (0x5100 + chan) 5 1 := by
  have hfailure : storeCounter (key (0x5100 + chan) 5) := .inl (by unfold key; omega)
  have hapart : key 0x5041 0 ≠ key (0x5100 + chan) 5 := key_ne_of_index (by omega) (by decide) (by decide)
  have hretire : s.retireUnit seg chan = s.retireKey k (s.segment seg).lun := by simp only [State.retireUnit, hunit]
  have hleft := fun (l : List Nat) => ((s.retireUnit seg chan).leaveSegment_moved seg).storeKept l
  have hkept := (s.retireUnit_storeKept seg chan).trans (hleft _)
  have hafter : StoreKept [key (0x5100 + chan) 5] ((s.unitRetired k).addReg 0x5041 0 1) (s.unitFailed seg chan) :=
    ((hretire ▸ State.retireKey_counted _ hstands _).trans (hleft _)).trans
      (State.addReg_storeKept _ (fun _ => List.mem_singleton_self _) 1)
  have hretired : Counted s ((s.unitRetired k).addReg 0x5041 0 1) 0x5041 0 1 :=
    (State.addReg_counted _ 0x5041 0 1).of_reg rfl
  refine ⟨(hkept.mono (by simp)).trans (State.addReg_storeKept _ (fun _ => by simp) 1), ?_, ?_⟩
  · exact hafter.counted hretired (.inr (by decide)) (by simpa using hapart)
  · exact (State.addReg_counted _ _ 5 1).of_reg (hkept.reg hfailure (by simpa using hapart.symm))

/-- A row goes on without a stripe that failed: the copy is counted, and its leaf is DIRTY. -/
def State.copyFailed (s : State) (id : Nat) (rest : Row) (leaf : Nat) : State :=
  ({ s with nand := { s.nand with rows := s.nand.rows.put id rest } }.addReg 0x4033 0 1).setLeaf leaf .dirty .none

theorem State.copyFailed_counted {s t : State} {idx sub n : Nat} (h : Counted s t idx sub n)
    (hne : key idx sub ≠ key 0x4033 0) (id : Nat) (rest : Row) (leaf : Nat) :
    Counted s (t.copyFailed id rest leaf) idx sub n := fun hn =>
  (State.reg_addReg_of_ne _ 1 hne).trans (h hn)

/-- Outside SAVE a stripe of a COPYING leaf fails with the erase unit (R263). -/
theorem State.programFail_of_copying {s : State} {r : Row} {x : Stripe} {chan : Nat} (hmode : s.ctl.mode ≠ .save)
    (hmoved : x.origin ≠ 2) (hfiller : x.origin ≠ 3) (hleaf : (s.unitFailed r.segment chan).leaf x.leaf = .copying)
    (hlive : x.live = true) (id slot shards : Nat) :
    s.programFail id r slot shards chan x
      = (s.unitFailed r.segment chan).copyFailed id { r with stripes := r.stripes.del slot } x.leaf :=
  (if_neg hmode).trans (State.failStripe_of_copying hmoved hfiller hleaf hlive)

theorem nandProgramFail_spec (s : State) (row slot shards k : Nat) (chan : Fin 18) (r : Row) (x : Stripe)
    (hrow : s.nand.rows.find? row = some r) (hstripe : r.stripes.find? slot = some x) (hmode : s.ctl.mode ≠ .save)
    (hmoved : x.origin ≠ 2) (hfiller : x.origin ≠ 3) (hleaf : s.leaf x.leaf = .copying) (hlive : x.live = true)
    (hunit : (s.segment r.segment).units.find? chan.val = some k) (hstands : (s.eraseUnit k).state ≠ 3) :
    ∃ t, exec (.nandProgramFail row slot shards chan) s = .next t ∧ t.mem = s.mem ∧ t.nand.flash = s.nand.flash
      ∧ t.groups = s.groups ∧ t.leaf x.leaf = .dirty ∧ (∀ g, g ≠ x.leaf → t.leaf g = s.leaf g)
      ∧ Counted s t 0x5041 0 1 ∧ Counted s t (0x5100 + chan.val) 5 1 ∧ Counted s t 0x4033 0 1 := by
  obtain ⟨hkept, hretired, hfailed⟩ := State.unitFailed_spec (s := s.fresh) hunit hstands
  obtain ⟨hmem, hflash, hleaves, hgroups, -, -⟩ := hkept.data
  have hsame : ∀ f, (s.fresh.unitFailed r.segment chan.val).leaf f = s.leaf f := fun f => congrArg (·.get f) hleaves
  have hstep : exec (.nandProgramFail row slot shards chan) s
      = .next (s.fresh.programFail row r slot shards chan.val x).panicUpdate := by
    simp only [exec, execNandProgramFail, hrow, hstripe]
  rw [State.programFail_of_copying (s := s.fresh) hmode hmoved hfiller ((hsame x.leaf).trans hleaf) hlive] at hstep
  generalize s.fresh.unitFailed r.segment chan.val = u at hstep hkept hretired hfailed hmem hflash hleaves hgroups hsame
  have hpanic := (State.panicUpdate_kept [] (u.copyFailed row { r with stripes := r.stripes.del slot } x.leaf)).1
  obtain ⟨kmem, kflash, kleaves, kgroups, -, -⟩ := hpanic.data
  have hnot : Counted s (u.copyFailed row { r with stripes := r.stripes.del slot } x.leaf) 0x4033 0 1 :=
    (State.addReg_counted _ 0x4033 0 1).of_reg
      (hkept.reg (.inr (by decide)) (by simp [key]; omega))
  refine ⟨_, hstep, kmem.trans hmem, kflash.trans hflash, kgroups.trans hgroups, ?_, fun g hg => ?_, ?_, ?_, ?_⟩
  · rw [State.leaf, kleaves]
    exact LeafTable.get_set_self _ _ _
  · rw [State.leaf, kleaves]
    exact (LeafTable.get_set_of_ne _ _ hg).trans (hsame g)
  · exact hpanic.counted (State.copyFailed_counted hretired (by decide) _ _ _) (.inr (by decide))
      List.not_mem_nil
  · exact hpanic.counted (State.copyFailed_counted hfailed (key_ne_of_index (by omega) (by decide) (by decide)) _ _ _)
      (.inl (by unfold key; omega)) List.not_mem_nil
  · exact hpanic.counted hnot (.inr (by decide)) List.not_mem_nil

/-! ### The obligation -/

/-- Settles O39: a row that has waited, a row that is programmed and one that fails. What the store does beside, as erase
units retire and LUNs fail with them, keeps data, leaves and the counters (`StoreKept`). -/
theorem nandRows : Obligations.NandRows := by
  unfold Obligations.NandRows
  exact ⟨rowFillTimeout_spec, rowProgramComplete_spec, nandProgramFail_spec⟩

end Sys2Proof.Machine
end

section
/-! PROOFS. Slot accesses that are taken at once, over either path (R57, R175, R176, R179, R180). -/
namespace Sys2Proof.Machine

/-! ### What follows a slot access -/

/-- Bytes, leaves, groups and the transaction counter are as they were. -/
structure DeskKept (s t : State) : Prop where
  mem : t.mem = s.mem
  leaves : t.leaves = s.leaves
  groups : t.groups = s.groups
  counter : t.reg 0x4420 0 = s.reg 0x4420 0

theorem DeskKept.refl (s : State) : DeskKept s s := ⟨rfl, rfl, rfl, rfl⟩

theorem DeskKept.trans {s t u : State} (h : DeskKept s t) (k : DeskKept t u) : DeskKept s u :=
  ⟨k.mem.trans h.mem, k.leaves.trans h.leaves, k.groups.trans h.groups, k.counter.trans h.counter⟩

theorem SameButReports.deskKept {s t : State} (h : SameButReports s t) : DeskKept s t :=
  ⟨h.service.mem, h.service.leaves, h.service.groups, h.reg_kept (by decide) (by decide)⟩

theorem SameButLinks.deskKept {s t : State} (h : SameButLinks s t) : DeskKept s t := by
  rw [h]
  exact ⟨rfl, rfl, rfl, rfl⟩

theorem State.queueAll_deskKept (s : State) (bs : List Burst) : DeskKept s (s.queueAll bs) := ⟨rfl, rfl, rfl, rfl⟩

theorem State.dropWrite_deskKept (s : State) (id : Nat) : DeskKept s (s.dropWrite id) := ⟨rfl, rfl, rfl, rfl⟩

theorem State.addReg_deskKept (s : State) {idx sub : Nat} (n : Nat) (h : key 0x4420 0 ≠ key idx sub) :
    DeskKept s (s.addReg idx sub n) := ⟨rfl, rfl, rfl, State.reg_addReg_of_ne s n h⟩

theorem State.panicUpdate_deskKept (s : State) : DeskKept s s.panicUpdate := by
  have hset : DeskKept s s.panicSet := ⟨rfl, rfl, rfl, rfl⟩
  have hcount := hset.trans (s.panicSet.addReg_deskKept 1 (by decide : key 0x4420 0 ≠ key 0x3010 4))
  unfold State.panicUpdate
  dsimp only
  split_ifs
  · exact .refl s
  · exact hcount.trans (State.note_reports _ _ _).deskKept
  · exact hcount
  · exact hset

theorem State.holdEdges_deskKept (s before : State) : DeskKept s (s.holdEdges before) := by
  refine DeskKept.trans (t := if s.holding then s else { s with trickle := { s.trickle with overdrawn := false } }) ?_
    (SameButLinks.foldl _ (fun t i => ?_) _ _).deskKept
  · split
    · exact .refl s
    · exact ⟨rfl, rfl, rfl, rfl⟩
  · split
    · exact .refl t
    · exact State.signal_sameButLinks _ _ _

theorem State.loads_deskKept (s : State) : DeskKept s s.loads := s.loads_sameButLinks.deskKept

theorem State.resumeGroupWrites_deskKept {s : State} (h : s.ingress.writes = []) : DeskKept s s.resumeGroupWrites := by
  rw [State.resumeGroupWrites, s.resume_of_no_writes h, s.resume_of_no_writes h]
  exact (State.holdEdges_deskKept _ _).trans (State.loads_deskKept _)

/-- What follows a write that has entered an empty ingress moves no data. -/
theorem State.acceptWrite_deskKept {s : State} (h : s.ingress.writes = []) (w : MemWrite) (src : PoisonSource) :
    DeskKept (State.progress false (s.enqueue w src) s.ingress.nextId) (s.acceptWrite w src) := by
  have hhold : ¬ s.holding = true := by simp [State.holding, h]
  have hlast : ∀ t : State, DeskKept t ((t.panicUpdate).holdEdges s).loads := fun t =>
    ((State.panicUpdate_deskKept t).trans (State.holdEdges_deskKept _ s)).trans (State.loads_deskKept _)
  have hemit : ∀ t : State, ∀ c : Bool, DeskKept t (if c = true then t.emit (.held w.link.val) else t) := fun t c => by
    cases c
    · exact .refl t
    · exact (t.emit_sameButLinks _).deskKept
  unfold State.acceptWrite
  dsimp only
  rw [if_neg hhold]
  exact (hemit _ _).trans (hlast _)

/-! ### The arrival of a slot access -/

/-- `u` is `s` once a slot access has arrived: its write may stand in ingress, and no more than reports and wakes differ. -/
structure Arrived (s u : State) : Prop where
  service : SameButService { s.fresh with ingress := u.ingress } u
  regs : ∀ idx sub, key idx sub ∉ reportEntries → key idx sub ∉ windowEntries → u.reg idx sub = s.reg idx sub

theorem SameButReports.arrived {s u : State} (h : SameButReports s.fresh u) : Arrived s u := by
  refine ⟨?_, fun idx sub => h.reg_kept⟩
  rw [h.service.ingress]
  exact h.service

theorem Arrived.groups {s u : State} (h : Arrived s u) : u.groups = s.groups := h.service.groups

theorem Arrived.slot {s u : State} (h : Arrived s u) (g : Nat) : u.slot g = s.slot g := by
  rw [State.slot, h.groups]
  rfl

theorem Arrived.inDesk {s u : State} (h : Arrived s u) (i : Fin 4) (g : Nat) : u.inDesk i.val g = s.inDesk i.val g := by
  have hkept : ∀ idx, idx = 0x2013 ∨ idx = 0x2014 → u.reg idx (i.val + 1) = s.reg idx (i.val + 1) := fun idx hidx => by
    refine h.regs _ _ ?_ (key_notMem_windowEntries (by omega) (by omega))
    simp only [reportEntries, key, List.mem_cons, List.not_mem_nil, or_false, not_or]
    omega
  rw [State.inDesk, State.inDesk, hkept _ (.inl rfl), hkept _ (.inr rfl)]

theorem Arrived.enqueue {s u : State} (h : Arrived s u) (w : MemWrite) (src : PoisonSource) :
    Arrived s (u.enqueue w src) := by
  obtain ⟨⟨h1, os, hos⟩, hregs⟩ := h
  refine ⟨⟨?_, os, hos⟩, hregs⟩
  rw [h1]
  rfl

/-- A CXL.mem request of a slot access that is taken at once is served as it arrives. -/
theorem State.deskTakes.served {s : State} {a : DeskArgs} (h : s.deskTakes a) (hpath : a.mailbox = false) :
    SameButReports s.fresh (s.fresh.memArrives a.link.val) ∧ (s.fresh.memArrives a.link.val).shut a.link.val = false
      ∧ s.fresh.accepts a.link.val = true
      ∧ (s.fresh.memArrives a.link.val).region (alignUnit (deskBase + 64 * a.group)) = .desk a.group := by
  obtain ⟨hup, -, haccess, hopen, hwrites, hg, -, hcxl, -⟩ := h
  obtain ⟨-, hvis, hmode, hsan⟩ := hcxl hpath
  obtain ⟨hrep, hshut, -⟩ := s.memArrives_served a.link.val ((s.shut_eq_false_iff _).mpr ⟨haccess, hmode, hsan⟩)
  refine ⟨hrep, hshut, State.accepts_of_no_writes hup hopen hwrites, State.region_of_slot hg ?_⟩
  rw [hrep.1]
  exact hvis

/-- A slot write that is alone in ingress is executed as it enters. -/
theorem State.progress_slot {u : State} {e : IngressWrite} {g : Nat} (hwrites : u.ingress.writes = [e])
    (hwait : e.wait ≠ .draining) (hshut : u.shut e.w.link.val = false) (hregion : u.region (alignUnit e.w.dpa) = .desk g) :
    State.progress false u e.id = u.deskMem e g := by
  have hfind : u.ingressWrite e.id = some e := by simp [State.ingressWrite, hwrites]
  simp only [State.progress, hfind, hshut, hregion, hwait, Bool.false_eq_true, false_and, if_false]

/-- A slot write over CXL.mem does what the Group engine makes of it as it enters, and moves no data beside. -/
theorem State.deskTakes.memCommand {s : State} {a b : DeskArgs} {op : Nat} {cmd : Bool} (h : s.deskTakes a)
    (hpath : a.mailbox = false) (hargs : deskArgsOf (deskWriteOf op cmd a) a.group = (op, b)) :
    ∃ u t, Arrived s u ∧ s.deskCommand op cmd a = .next t
      ∧ ((u.deskWrite op b).ingress = u.ingress → DeskKept (u.deskWrite op b) t) := by
  obtain ⟨hrep, hshut, hacc, hregion⟩ := h.served hpath
  obtain ⟨hserv, hin, -, hwrites, -⟩ := h.hostWrite hpath (w := deskWriteOf op cmd a) rfl rfl
  obtain ⟨-, -, -, -, hnone, -, -, hcxl, -⟩ := h
  obtain ⟨hreach, -⟩ := hcxl hpath
  have hingress : (s.fresh.memArrives a.link.val).ingress = s.ingress := hrep.service.ingress
  have haccept := State.acceptWrite_deskKept (s := s.fresh.memArrives a.link.val) (by rw [hingress]; exact hnone)
    (deskWriteOf op cmd a) .external
  refine ⟨s.entered (deskWriteOf op cmd a), (s.fresh.hostWrite (deskWriteOf op cmd a)).resumeGroupWrites,
    hrep.arrived.enqueue _ _, ?_, fun hkept => ?_⟩
  · rw [State.deskCommand, if_neg (by simp [hpath]), if_pos hreach]
  set u := s.entered (deskWriteOf op cmd a) with hu
  set e := s.hostEntry (deskWriteOf op cmd a) with he
  have hdesk : u.deskMem e a.group = (((u.deskWrite op b).completeWrite e).dropWrite e.id).cupboard u e.w.stamp := by
    rw [State.deskMem, show deskArgsOf e.w a.group = (op, b) from hargs, if_neg (by simp [he, State.hostEntry, deskWriteOf, hin]),
      if_neg (by simp [he, State.hostEntry, deskWriteOf])]
  have hcomplete := State.completeWrite_external (s := u.deskWrite op b) (e := e) rfl
  have hrun : DeskKept (u.deskWrite op b) (u.deskMem e a.group) := by
    rw [hdesk]
    exact (hcomplete.deskKept.trans (State.dropWrite_deskKept _ e.id)).trans (State.queueAll_deskKept _ _)
  have hserved : DeskKept (u.deskMem e a.group) (s.fresh.hostWrite (deskWriteOf op cmd a)) := by
    have hprogress := State.progress_slot hwrites nofun hshut hregion
    rw [State.hostWrite, if_neg (by simpa [deskWriteOf] using hacc), ← hprogress]
    rw [hingress] at haccept
    exact haccept
  have hempty : (s.fresh.hostWrite (deskWriteOf op cmd a)).ingress.writes = [] := by
    rw [hserv.ingress, hdesk, (State.cupboard_service _ _ _).ingress]
    exact State.dropWrite_alone (by rw [hcomplete.service.ingress, hkept]; exact hwrites)
  exact (hrun.trans hserved).trans (State.resumeGroupWrites_deskKept hempty)

/-- A command over the mailbox does what the Group engine makes of it at once, and moves no data beside (R57). -/
theorem State.deskTakes.mailboxCommand {s : State} {a : DeskArgs} {op : Nat} {cmd : Bool} (h : s.deskTakes a)
    (hpath : a.mailbox = true) :
    ∃ u, Arrived s u ∧ u.ingress = s.ingress
      ∧ s.deskCommand op cmd a = .next (if op = 0 then (u.deskWrite 0 a).deskDone a
          else (((u.deskWrite op a).cupboard u s.nowStamp).resumeGroupWrites).panicUpdate) := by
  obtain ⟨hup, hlost, haccess, hopen, -, hg, hdesk, -⟩ := h
  have hrep := s.fresh.ioArrives_reports a.link.val
  have hclosed : (s.fresh.ioArrives a.link.val).deskClosed = false := by
    rw [State.deskClosed, hrep.service.ingress, hrep.2.1]
    simp [State.fresh, haccess, hopen]
  have hin : (s.fresh.ioArrives a.link.val).inDesk a.link.val a.group = true := (hrep.inDesk a.link a.group).trans hdesk
  refine ⟨_, hrep.arrived, hrep.service.ingress, ?_⟩
  rw [State.deskCommand, if_pos hpath, if_pos hup, State.deskMailbox, if_neg (by simp [State.fresh, hlost]),
    if_neg (by omega), if_neg (by simp [hclosed]), if_neg (by simp [hin])]
  rfl

/-- A command is executed once it has arrived, over either path, and moves no data beside. -/
theorem State.deskTakes.command {s : State} {a : DeskArgs} (h : s.deskTakes a) {op : BitVec 8} (hop : op.toNat ≠ 0) :
    ∃ u t, Arrived s u ∧ s.deskCommand op.toNat true a = .next t
      ∧ ((u.deskWrite op.toNat a).ingress = u.ingress → DeskKept (u.deskWrite op.toNat a) t) := by
  cases hpath : a.mailbox with
  | false =>
    refine h.memCommand hpath ?_
    rw [deskArgsOf_deskWriteOf, ← hpath]
  | true =>
    obtain ⟨u, harr, hingress, hcmd⟩ := h.mailboxCommand (op := op.toNat) (cmd := true) hpath
    obtain ⟨-, -, -, -, hnone, -⟩ := h
    rw [if_neg hop] at hcmd
    refine ⟨u, _, harr, hcmd, fun hkept => ?_⟩
    have hempty : ((u.deskWrite op.toNat a).cupboard u s.nowStamp).ingress.writes = [] := by
      rw [(State.cupboard_service _ _ _).ingress, hkept, hingress, hnone]
    exact ((State.queueAll_deskKept _ _).trans (State.resumeGroupWrites_deskKept hempty)).trans
      (State.panicUpdate_deskKept _)

/-! ### Writes without a command, and reads (R175, R176, R179) -/

/-- A slot with the enabled operand bytes of a write in its stage. -/
def Slot.staged (x : Slot) (a : DeskArgs) : Slot := { x with stage := a.merge x.stage }

/-- A write without a command fills the stage (R175, R176). -/
theorem State.deskWrite_stage {u : State} {a : DeskArgs} (hin : u.inDesk a.link.val a.group = true) :
    u.deskWrite 0 a = u.setSlot a.group ((u.slot a.group).staged a) := by
  rw [State.deskWrite, if_neg (by simp [hin])]
  rfl

/-- A write that enables no byte of the command word carries no command (R175). -/
theorem deskArgsOf_withoutCommand (a : DeskArgs) :
    deskArgsOf (deskWriteOf 0 false a) a.group = (0, { a with mailbox := false, word := 0 }) := by
  have hbe : ∀ j < 64, (deskWriteOf 0 false a).be.getLsbD j = (!decide (j < 8) && a.enable.getLsbD (j - 8)) := fun j hj => by
    rw [deskWriteOf, if_neg Bool.false_ne_true, BitVec.getLsbD_or]
    simp [hj]
  have hops : (deskWriteOf 0 false a).data.extractLsb' 64 448 = a.operands := by
    refine BitVec.eq_of_getLsbD_eq fun j hj => ?_
    rw [BitVec.getLsbD_extractLsb', deskWriteOf_data_bit false a (by omega), testBit_byte_of_le (by omega),
      BitVec.getLsbD_of_ge a.word _ (by omega)]
    simp [hj]
  have hen : (deskWriteOf 0 false a).be.extractLsb' 8 56 = a.enable := by
    refine BitVec.eq_of_getLsbD_eq fun j hj => ?_
    rw [BitVec.getLsbD_extractLsb', hbe _ (by omega)]
    simp [hj]
  have hword : (List.range 8).foldl (fun (d : BitVec 64) i => if (deskWriteOf 0 false a).be.getLsbD i then
      d ||| (((deskWriteOf 0 false a).data.extractLsb' (8 * i) 8).zeroExtend 64 <<< (8 * i)) else d) 0 = 0 := by
    refine (List.foldl_ext _ (fun d _ => d) 0 fun d i hi => if_neg ?_).trans (List.foldl_fixed _)
    have hi8 : i < 8 := List.mem_range.mp hi
    simp [hbe i (by omega), hi8]
  simp only [deskArgsOf, hword, hops, hen]
  rfl

/-- A write without a command, or with NOP, fills the stage of its slot and leaves the rest of the Group engine (R175, R176). -/
theorem State.deskTakes.stage {s : State} {a : DeskArgs} (h : s.deskTakes a) (cmd : Bool) :
    ∃ t, s.deskCommand 0 cmd a = .next t ∧ t.mem = s.mem ∧ t.leaves = s.leaves
      ∧ t.groups = { s.groups with slots := s.groups.slots.put a.group ((s.slot a.group).staged a) } := by
  obtain ⟨-, -, -, -, -, -, hdesk, -, hrun⟩ := id h
  have hstaged : ∀ u : State, Arrived s u → u.deskWrite 0 a = u.setSlot a.group ((s.slot a.group).staged a) := fun u harr => by
    rw [State.deskWrite_stage ((harr.inDesk a.link a.group).trans hdesk), harr.slot]
  have hend : ∀ u t : State, Arrived s u → DeskKept (u.deskWrite 0 a) t → t.mem = s.mem ∧ t.leaves = s.leaves
      ∧ t.groups = { s.groups with slots := s.groups.slots.put a.group ((s.slot a.group).staged a) } := fun u t harr hk => by
    rw [hstaged u harr] at hk
    refine ⟨hk.mem.trans harr.service.mem, hk.leaves.trans harr.service.leaves, hk.groups.trans ?_⟩
    rw [State.setSlot, harr.groups]
  cases hpath : a.mailbox with
  | false =>
    obtain ⟨b, hargs, hsame⟩ : ∃ b, deskArgsOf (deskWriteOf 0 cmd a) a.group = (0, b)
        ∧ ∀ u : State, u.deskWrite 0 b = u.deskWrite 0 a := by
      cases cmd with
      | false => exact ⟨{ a with mailbox := false, word := 0 }, deskArgsOf_withoutCommand a, fun _ => rfl⟩
      | true => exact ⟨{ a with mailbox := false }, deskArgsOf_deskWriteOf 0 a, fun _ => rfl⟩
    obtain ⟨u, t, harr, hcmd, hkept⟩ := h.memCommand hpath hargs
    rw [hsame] at hkept
    exact ⟨t, hcmd, hend u t harr (hkept (by rw [hstaged u harr]; rfl))⟩
  | true =>
    obtain ⟨u, harr, -, hcmd⟩ := h.mailboxCommand (op := 0) (cmd := cmd) hpath
    have hidle : ((u.deskWrite 0 a).slot a.group).running = false := by
      rw [hstaged u harr, State.slot_setSlot_self]
      exact hrun
    exact ⟨_, hcmd, hend u _ harr (State.deskDone_reports hidle).deskKept⟩

/-- A slot read returns the slot's status, and moves nothing (R179). -/
theorem deskRead_spec {s : State} {a : DeskArgs} (h : s.deskTakes a) (hpath : a.mailbox = false) (fin : Bool) :
    ∃ t, exec (.deskRead a.link a.group fin) s = .next t ∧ t.mem = s.mem ∧ t.leaves = s.leaves ∧ t.groups = s.groups
      ∧ ∃ l, Output.deskData a.link.val a.group (s.slotStatus a.group) l ∈ t.out := by
  obtain ⟨hrep, hshut, hacc, hregion⟩ := h.served hpath
  obtain ⟨-, -, -, -, -, hg, hdesk, hcxl, hrun⟩ := h
  obtain ⟨hreach, -⟩ := hcxl hpath
  have hregion' : (s.fresh.memArrives a.link.val).region (deskBase + 64 * a.group) = .desk a.group := by
    rw [← hregion]
    congr 1
    simp only [alignUnit, deskBase]
    omega
  have hidle : ¬ (s.fresh.slot a.group).running = true := by simp [show s.fresh.slot a.group = s.slot a.group from rfl, hrun]
  have harr := hrep.arrived
  have hserve : exec (.deskRead a.link a.group fin) s = .next ((s.fresh.memArrives a.link.val).serveDesk a.link.val a.group) := by
    show execDeskRead a.link a.group fin s = _
    rw [execDeskRead, if_pos hreach, State.deskRead, if_neg fun ⟨_, _, _, hbusy, _⟩ => hidle hbusy, State.hostRead,
      if_neg (by simp [hacc]), State.read]
    simp only [State.readWait, hshut, hregion', Bool.false_eq_true, if_false]
  have hstatus : (s.fresh.memArrives a.link.val).slotStatus a.group = s.slotStatus a.group := by
    rw [State.slotStatus, State.slotStatus, harr.slot, State.pagesOf, State.pagesOf, harr.groups]
  rw [State.serveDesk, if_pos ((harr.inDesk a.link a.group).trans hdesk), hstatus] at hserve
  exact ⟨_, hserve, harr.service.mem, harr.service.leaves, harr.groups, _,
    List.mem_append_right _ (List.mem_singleton_self _)⟩

/-! ### The obligation -/

/-- Settles O31: a stage or NOP fills the stage, a poisoned write and a read change nothing, and an invalid opcode is refused. -/
theorem slotAccessesActAtOnce : Obligations.SlotAccessesActAtOnce := by
  unfold Obligations.SlotAccessesActAtOnce
  refine ⟨fun s a h => ⟨h.stage false, h.stage true, fun hpath => deskPoisonedWrite_spec h hpath,
    fun hpath fin => deskRead_spec h hpath fin⟩, fun s a op h hseq hop => ?_⟩
  obtain ⟨t, hexec, hmem, hleaves, hgroups⟩ := deskInvalidOpcode_turnedAway h hop
  refine ⟨t, hexec, hmem, hleaves, ?_⟩
  rw [hgroups, Slot.turnedAway, if_pos hseq]

end Sys2Proof.Machine
end

section
/-! PROOFS. An ABORT of a slot that is not running but is still marked as holding a CLAIM (R189, R286). -/
namespace Sys2Proof.Machine

/-- ABORT of slot 3 over the mailbox of link 0, with sequence 0, the one that follows 0xFFFF. -/
def abortSlot3 : DeskArgs := { link := 0, mailbox := true, group := 3, word := 0, operands := 0, enable := 0 }

/-- Link 0 is up with host access open, and slot 3 is OPEN and not running, with the mark of a CLAIM held for a touch. -/
def marked : State :=
  { State.reset with
    ctl := { Control.reset with mode := .online, access := true, recovery := false }
    links := [(0, { Link.reset with state := .l0 })]
    groups := { Groups.reset with slots := [(3, { Slot.reset with state := .opened, touching := true })] } }

theorem marked_accepts : marked.deskAccepts 5 abortSlot3 := by
  unfold State.deskAccepts State.deskTakes
  decide +kernel

/-- Whether a command leaves a slot with the mark of a CLAIM held for a touch. -/
def leavesMark (c : Instr) (s : State) (g : Nat) : Bool :=
  match exec c s with
  | .next t => (t.slot g).touching
  | _ => false

theorem abort_clearsMark : leavesMark (.deskAbort abortSlot3) marked 3 = false := by decide +kernel

/-- Refutes O32: ABORT clears the mark of a CLAIM held for a touch as it begins the rollback, and the statement, which does not ask
that the mark be clear before, has every field that it does not name stay. -/
theorem not_groupCommands : ¬ Obligations.GroupCommands := by
  unfold Obligations.GroupCommands
  rintro ⟨-, -, -, -, habort, -⟩
  obtain ⟨t, ht, -, hgroups⟩ := habort marked abortSlot3 marked_accepts rfl rfl rfl
  have hclear := abort_clearsMark
  rw [leavesMark, ht] at hclear
  have hmark : (t.slot 3).touching = true := by
    rw [State.slot, hgroups]
    rfl
  exact Bool.false_ne_true (hclear.symm.trans hmark)

end Sys2Proof.Machine
end

section
/-! PROOFS. Commands of joint groups that pass their checks (R192, R193, R194). -/
namespace Sys2Proof.Machine

/-! ### An accepted command that its slot admits -/

/-- A command passes the checks of R178 steps 1 and 2: an opcode of Table 8.2, for DECIDE an anchor slot, no JFULL, a state that
admits the opcode, and no reserved bit. -/
theorem wordCheck_of_admits {x : Slot} {opcode : Nat} {a : DeskArgs} (hop : opcode ≠ 0 ∧ opcode ≤ 9)
    (hanchor : opcode = 8 → x.anchor = true) (hjfull : x.jfull = false) (hadmits : admits x opcode = true)
    (hfield : badField opcode a = none) : wordCheck x opcode a = none := by
  obtain ⟨hzero, hnine⟩ := hop
  have h8 : ¬ (opcode = 8 ∧ x.anchor = false) := fun ⟨h, hn⟩ => Bool.false_ne_true (hn.symm.trans (hanchor h))
  rw [wordCheck, if_neg (by omega), if_neg h8, if_neg (by simp [hjfull]), if_neg (by simp [hadmits]), hfield]

/-- The slot has accepted a command (R175, R177). -/
def State.accept (u : State) (opcode : Nat) (a : DeskArgs) : State :=
  u.setSlot a.group ((u.slot a.group).accepted opcode a)

/-- A slot has taken a command's sequence and opcode (R177). -/
def Slot.sequenced (x : Slot) (opcode : Nat) (a : DeskArgs) : Slot := { x with lastSeq := a.seq, lastOpcode := opcode }

/-- A command that passes the checks has its effect and is answered (R178). CLAIM may have to wait, and is left out. -/
theorem State.deskRun_accepted {u : State} {opcode : Nat} {a : DeskArgs} (hrun : (u.slot a.group).running = false)
    (hseq : a.seq = (u.slot a.group).lastSeq + 1) (hclaim : opcode ≠ 2) (hcheck : wordCheck (u.slot a.group) opcode a = none) :
    u.deskRun opcode a
      = ((u.setSlot a.group ((u.slot a.group).sequenced opcode a)).deskEffect opcode a).deskDone a := by
  unfold State.deskRun
  dsimp only
  rw [if_neg (by simp [hrun]), if_neg (not_not.mpr hseq), State.claimWaits_of_ne hclaim, if_neg Bool.false_ne_true, hcheck]
  rfl

/-- A write of such a command takes the stage with it (R175). -/
theorem State.deskWrite_accepted {u : State} {opcode : Nat} {a : DeskArgs} (hin : u.inDesk a.link.val a.group = true)
    (hrun : (u.slot a.group).running = false) (hseq : a.seq = (u.slot a.group).lastSeq + 1) (hclaim : opcode ≠ 2)
    (hzero : opcode ≠ 0) (hcheck : wordCheck { u.slot a.group with stage := 0 } opcode (u.taken a) = none) :
    u.deskWrite opcode a = ((u.accept opcode a).deskEffect opcode (u.taken a)).deskDone (u.taken a) := by
  have hslot := u.slot_setSlot_self a.group { u.slot a.group with stage := 0 }
  have h := State.deskRun_accepted (u := u.setSlot a.group { u.slot a.group with stage := 0 }) (a := u.taken a)
    ((congrArg Slot.running hslot).trans hrun) (hseq.trans (congrArg (·.lastSeq + 1) hslot).symm) hclaim
    ((congrArg (wordCheck · opcode (u.taken a)) hslot).trans hcheck)
  rw [show (u.taken a).group = a.group from rfl, hslot, State.setSlot_setSlot] at h
  rw [State.deskWrite, if_neg (by simp [hin])]
  exact (if_neg hzero).trans h

theorem State.accept_slot (u : State) (opcode : Nat) (a : DeskArgs) :
    (u.accept opcode a).slot a.group = (u.slot a.group).accepted opcode a := State.slot_setSlot_self _ _ _

/-- The result of a command is recorded in its slot beside what the command makes of it. -/
theorem State.setSlot_answer (s : State) (g : Nat) (x : Slot) (res detail : Nat) :
    (s.setSlot g x).answer g res detail = s.setSlot g { x with result := res, detail := detail } := by
  rw [State.answer, State.slot_setSlot_self, State.setSlot_setSlot]

/-- What a joint command that a slot accepts comes to, over either path. -/
theorem State.deskAccepts.command {s : State} {a : DeskArgs} {op : BitVec 8} (h : s.deskAccepts op.toNat a)
    (hop : 3 ≤ op.toNat ∧ op.toNat ≤ 9) (hanchor : op.toNat = 8 → (s.slot a.group).anchor = true)
    (hjfull : (s.slot a.group).jfull = false) (hadmits : admits (s.slot a.group) op.toNat = true) :
    ∃ u t, Arrived s u ∧ s.deskCommand op.toNat true a = .next t
      ∧ ((((u.accept op.toNat a).deskEffect op.toNat (s.taken a)).deskDone (s.taken a)).ingress = u.ingress →
        DeskKept (((u.accept op.toNat a).deskEffect op.toNat (s.taken a)).deskDone (s.taken a)) t) := by
  obtain ⟨htakes, hseq, hfield⟩ := h
  obtain ⟨u, t, harr, hcmd, hkept⟩ := htakes.command (op := op) (by omega)
  obtain ⟨-, -, -, -, -, -, hdesk, -, hrun⟩ := htakes
  have htaken : u.taken a = s.taken a := by rw [State.taken, State.taken, harr.slot]
  have hcheck : wordCheck { u.slot a.group with stage := 0 } op.toNat (u.taken a) = none := by
    rw [harr.slot]
    exact wordCheck_of_admits (by omega) hanchor hjfull hadmits hfield
  have hwrite := State.deskWrite_accepted ((harr.inDesk a.link a.group).trans hdesk) (by rw [harr.slot]; exact hrun)
    (by rw [harr.slot]; exact hseq) (by omega) (by omega) hcheck
  rw [htaken] at hwrite
  rw [hwrite] at hkept
  exact ⟨u, t, harr, hcmd, hkept⟩

/-- A command after which its slot is not running moves no data beside its effect. -/
theorem State.deskAccepts.settled {s : State} {a : DeskArgs} {op : BitVec 8} (h : s.deskAccepts op.toNat a)
    (hop : 3 ≤ op.toNat ∧ op.toNat ≤ 9) (hanchor : op.toNat = 8 → (s.slot a.group).anchor = true)
    (hjfull : (s.slot a.group).jfull = false) (hadmits : admits (s.slot a.group) op.toNat = true) {v : State → State}
    (heffect : ∀ u, Arrived s u → (u.accept op.toNat a).deskEffect op.toNat (s.taken a) = v u
      ∧ ((v u).slot a.group).running = false ∧ (v u).ingress = u.ingress) :
    ∃ u t, Arrived s u ∧ s.deskCommand op.toNat true a = .next t ∧ DeskKept (v u) t := by
  obtain ⟨u, t, harr, hcmd, hkept⟩ := h.command hop hanchor hjfull hadmits
  obtain ⟨hv, hrun, hingress⟩ := heffect u harr
  rw [hv] at hkept
  have hdone : SameButReports (v u) ((v u).deskDone (s.taken a)) := State.deskDone_reports hrun
  exact ⟨u, t, harr, hcmd, hdone.deskKept.trans (hkept (hdone.service.ingress.trans hingress))⟩

/-! ### The checks of joint commands read what an arrival leaves -/

theorem Arrived.trestle {s u : State} (h : Arrived s u) : u.trestle = s.trestle := h.service.trestle

theorem Arrived.clock {s u : State} (h : Arrived s u) : u.clock = s.clock := by
  rw [h.service.1]
  rfl

/-- Entries of the fleet are none that reports or wakes write. -/
theorem Arrived.fleetReg {s u : State} (h : Arrived s u) {idx sub : Nat} (hi : 0x4420 ≤ idx ∧ idx ≤ 0x4801) (hs : sub < 256) :
    u.reg idx sub = s.reg idx sub := by
  refine h.regs idx sub ?_ ?_
  · simp only [reportEntries, key, List.mem_cons, List.not_mem_nil, or_false, not_or]
    omega
  · simp only [windowEntries, key, List.mem_map, List.mem_range, not_exists, not_and]
    omega

theorem Arrived.alive {s u : State} (h : Arrived s u) (m : Nat) : u.alive m = s.alive m := by
  rw [State.alive, State.alive, h.trestle]

theorem Arrived.member {s u : State} (h : Arrived s u) : u.member = s.member := h.fleetReg (by decide) (by decide)

theorem Arrived.rosterHas {s u : State} (h : Arrived s u) (m : Nat) : u.rosterHas m = s.rosterHas m := by
  rw [State.rosterHas, State.rosterHas, h.fleetReg (by decide) (by decide)]

theorem Arrived.inDomain {s u : State} (h : Arrived s u) : u.inDomain = s.inDomain := by
  rw [State.inDomain, State.inDomain, h.rosterHas, h.member, h.fleetReg (by decide) (by decide)]

theorem Arrived.prepareCheck {s u : State} (h : Arrived s u) (a : DeskArgs) : u.prepareCheck a = s.prepareCheck a := by
  simp only [State.prepareCheck, h.inDomain, h.rosterHas, h.alive]

theorem Arrived.beginCheck {s u : State} (h : Arrived s u) (a : DeskArgs) : u.beginCheck a = s.beginCheck a := by
  simp only [State.beginCheck, State.rosterCheck, h.inDomain, h.rosterHas, h.alive, h.member, h.groups]

/-! ### PREPARE (R193) -/

theorem State.deskEffect_prepare {s : State} {a : DeskArgs} (h : s.prepareCheck a = none) : s.deskEffect 7 a = s.prepare a := by
  simp only [State.deskEffect, h]

/-- Without a cached decision the part is PREPARED. -/
theorem State.prepare_of_no_decision {s : State} {a : DeskArgs} (h : ∀ c ∈ s.groups.cache, c.txn ≠ operandTxn a.operands) :
    s.prepare a = s.setSlot a.group { s.slot a.group with
      state := .prepared, part := true, txn := operandTxn a.operands, queryBeat := s.clock.beat, result := 0, detail := 0 } := by
  have hnone : s.groups.cache.find? (fun c => c.txn == operandTxn a.operands) = none :=
    List.find?_eq_none.mpr fun c hc => by simp [h c hc]
  simp only [State.prepare, hnone, State.setSlot_answer]

theorem deskPrepare_spec {s : State} {a : DeskArgs} (h : s.deskAccepts 7 a) (hstate : (s.slot a.group).state = .opened)
    (hanchor : (s.slot a.group).anchor = false) (hjfull : (s.slot a.group).jfull = false)
    (hcheck : s.prepareCheck (s.taken a) = none) (hcache : ∀ c ∈ s.groups.cache, c.txn ≠ operandTxn (s.taken a).operands) :
    ∃ t, exec (.deskPrepare a) s = .next t ∧ t.mem = s.mem ∧ t.leaves = s.leaves
      ∧ t.groups = { s.groups with slots := s.groups.slots.put a.group { (s.slot a.group).accepted 7 a with
          state := .prepared, part := true, txn := operandTxn (s.taken a).operands, queryBeat := s.clock.beat,
          result := 0, detail := 0 } } := by
  obtain ⟨x, hx⟩ : ∃ x, x = { (s.slot a.group).accepted 7 a with
    state := .prepared, part := true, txn := operandTxn (s.taken a).operands, queryBeat := s.clock.beat,
    result := 0, detail := 0 } := ⟨_, rfl⟩
  have hrun : x.running = false := by
    obtain ⟨⟨-, -, -, -, -, -, -, -, hrun⟩, -⟩ := h
    rw [hx]
    exact hrun
  have hadmits : admits (s.slot a.group) 7 = true := by simp [admits, hanchor, hstate]
  obtain ⟨u, t, harr, hcmd, hkept⟩ := State.deskAccepts.settled (op := 7) h (by decide) nofun hjfull hadmits
    (v := fun u => u.setSlot a.group x) fun u harr => by
      refine ⟨?_, (congrArg Slot.running (State.slot_setSlot_self _ _ _)).trans hrun, rfl⟩
      have hslot : (u.accept 7 a).slot a.group = (s.slot a.group).accepted 7 a := by rw [State.accept_slot, harr.slot]
      show (u.accept 7 a).deskEffect 7 (s.taken a) = _
      rw [State.deskEffect_prepare (s := u.accept 7 a) ((harr.prepareCheck _).trans hcheck),
        State.prepare_of_no_decision (by rw [show (u.accept 7 a).groups.cache = u.groups.cache from rfl, harr.groups]; exact hcache),
        show (s.taken a).group = a.group from rfl, hslot, show (u.accept 7 a).clock = u.clock from rfl, harr.clock, ← hx]
      exact State.setSlot_setSlot _ _ _ _
  rw [← hx]
  refine ⟨t, hcmd, hkept.mem.trans harr.service.mem, hkept.leaves.trans harr.service.leaves, hkept.groups.trans ?_⟩
  rw [State.setSlot, harr.groups]

/-! ### BEGIN_JOINT (R192) -/

theorem State.deskEffect_beginJoint {s : State} {a : DeskArgs} (h : s.beginCheck a = none) :
    s.deskEffect 6 a = (s.beginJoint a).answer a.group 0 0 := by
  simp only [State.deskEffect, h]

/-- The anchor slot that a BEGIN_JOINT opens, with its result. -/
def Slot.anchoring (x : Slot) (txn openedAt : Nat) : Slot :=
  { x with
    state := .opened, anchor := true, part := false, jfull := false, restored := false, forced := false, lines := 0,
    discarded := 0, txn := txn, openedAt := openedAt, result := 0, detail := 0 }

/-- The next transaction ID (R192). -/
def State.nextTxn (s : State) : Nat := s.member * 2 ^ 54 + s.reg 0x4420 0 % 2 ^ 54

/-- The UNDECIDED entry of a BEGIN_JOINT (Table 8.12). -/
def State.undecided (s : State) (a : DeskArgs) : Decision :=
  { txn := s.nextTxn, state := 1, roster := rosterOf a, acked := 0, slot := a.group, begunBeat := s.clock.ext, decidedBeat := 0,
    sentBeat := 0, presumed := false }

theorem State.beginJoint_kept (s : State) (a : DeskArgs) (g : Nat) :
    ((s.beginJoint a).answer g 0 0).mem = s.mem ∧ ((s.beginJoint a).answer g 0 0).leaves = s.leaves
      ∧ ((s.beginJoint a).answer g 0 0).ingress = s.ingress := ⟨rfl, rfl, rfl⟩

theorem State.beginJoint_slot (s : State) {a : DeskArgs} {g : Nat} (hg : a.group = g) :
    ((s.beginJoint a).answer g 0 0).slot g = (s.slot g).anchoring s.nextTxn s.groups.nextOpen := by
  subst hg
  rw [State.beginJoint, State.setSlot_answer, State.slot_setSlot_self]
  rfl

theorem State.beginJoint_slot_of_ne (s : State) {a : DeskArgs} {g k : Nat} (hg : a.group = g) (hk : k ≠ g) :
    ((s.beginJoint a).answer g 0 0).slot k = s.slot k := by
  subst hg
  rw [State.beginJoint, State.setSlot_answer]
  exact Map.get_put_of_ne _ _ _ _ _ hk

theorem State.beginJoint_counter (s : State) (a : DeskArgs) (g : Nat) :
    ((s.beginJoint a).answer g 0 0).reg 0x4420 0 = s.reg 0x4420 0 % 2 ^ 54 + 1 := State.reg_setReg_self _ _ _ _

theorem State.beginJoint_decision (s : State) (a : DeskArgs) (g : Nat) :
    ((s.beginJoint a).answer g 0 0).groups.decisions.find? (freeIndex s.groups.decisions) = some (s.undecided a) :=
  Map.find?_put_self _ _ _

theorem Arrived.nextTxn {s u : State} (h : Arrived s u) : u.nextTxn = s.nextTxn := by
  rw [State.nextTxn, State.nextTxn, h.member, h.fleetReg (by decide) (by decide)]

/-- What BEGIN_JOINT makes of the state that a command has arrived in. -/
theorem Arrived.beginJoint {s u v : State} {a : DeskArgs} (h : Arrived s u)
    (hv : v = ((u.accept 6 a).beginJoint (s.taken a)).answer a.group 0 0) :
    v.mem = s.mem ∧ v.leaves = s.leaves ∧ v.ingress = u.ingress
      ∧ v.slot a.group = ((s.slot a.group).accepted 6 a).anchoring s.nextTxn s.groups.nextOpen
      ∧ (∀ k, k ≠ a.group → v.slot k = s.slot k) ∧ v.reg 0x4420 0 = s.reg 0x4420 0 % 2 ^ 54 + 1
      ∧ v.groups.decisions.find? (freeIndex s.groups.decisions) = some (s.undecided (s.taken a)) := by
  have htxn : (u.accept 6 a).nextTxn = s.nextTxn := h.nextTxn
  have hentry : (u.accept 6 a).undecided (s.taken a) = s.undecided (s.taken a) := by
    rw [State.undecided, State.undecided, htxn, show (u.accept 6 a).clock = u.clock from rfl, h.clock]
  have hgroup : (s.taken a).group = a.group := rfl
  obtain ⟨hmem, hleaves, hingress⟩ := (u.accept 6 a).beginJoint_kept (s.taken a) a.group
  rw [← hv] at hmem hleaves hingress
  refine ⟨hmem.trans h.service.mem, hleaves.trans h.service.leaves, hingress, ?_, fun k hk => ?_, ?_, ?_⟩
  · rw [hv, State.beginJoint_slot _ hgroup, State.accept_slot, h.slot, htxn, ← h.groups]
    rfl
  · rw [hv, State.beginJoint_slot_of_ne _ hgroup hk, ← h.slot]
    exact Map.get_put_of_ne _ _ _ _ _ hk
  · have hcounter : u.reg 0x4420 0 = s.reg 0x4420 0 := h.fleetReg (by decide) (by decide)
    rw [hv, State.beginJoint_counter, ← hcounter]
    rfl
  · rw [hv, ← hentry, ← h.groups]
    exact State.beginJoint_decision _ _ _

theorem deskBeginJoint_spec {s : State} {a : DeskArgs} (h : s.deskAccepts 6 a) (hstate : (s.slot a.group).state = .free)
    (hanchor : (s.slot a.group).anchor = false) (hjfull : (s.slot a.group).jfull = false)
    (hcheck : s.beginCheck (s.taken a) = none) :
    ∃ t, exec (.deskBeginJoint a) s = .next t ∧ t.mem = s.mem ∧ t.leaves = s.leaves
      ∧ t.slot a.group = { (s.slot a.group).accepted 6 a with
          state := .opened, anchor := true, part := false, restored := false, forced := false, lines := 0,
          discarded := 0, txn := s.member * 2 ^ 54 + s.reg 0x4420 0 % 2 ^ 54, openedAt := s.groups.nextOpen,
          result := 0, detail := 0 }
      ∧ (∀ h, h ≠ a.group → t.slot h = s.slot h)
      ∧ t.reg 0x4420 0 = s.reg 0x4420 0 % 2 ^ 54 + 1
      ∧ t.groups.decisions.find? (freeIndex s.groups.decisions) = some
          { txn := s.member * 2 ^ 54 + s.reg 0x4420 0 % 2 ^ 54, state := 1, roster := rosterOf (s.taken a), acked := 0,
            slot := a.group, begunBeat := s.clock.ext, decidedBeat := 0, sentBeat := 0, presumed := false } := by
  obtain ⟨⟨-, -, -, -, -, -, -, -, hidle⟩, -⟩ := id h
  have hadmits : admits (s.slot a.group) 6 = true := by simp [admits, hanchor, hstate]
  obtain ⟨u, t, harr, hcmd, hkept⟩ := State.deskAccepts.settled (op := 6) h (by decide) nofun hjfull hadmits
    (v := fun u => ((u.accept 6 a).beginJoint (s.taken a)).answer a.group 0 0) fun u harr => by
      obtain ⟨-, -, hingress, hslot, -⟩ := harr.beginJoint rfl
      exact ⟨State.deskEffect_beginJoint (s := u.accept 6 a) ((harr.beginCheck _).trans hcheck),
        (congrArg Slot.running hslot).trans hidle, hingress⟩
  obtain ⟨hmem, hleaves, -, hslot, hother, hcounter, hentry⟩ := harr.beginJoint rfl
  have hsame : ∀ k, t.slot k = (((u.accept 6 a).beginJoint (s.taken a)).answer a.group 0 0).slot k := fun k => by
    rw [State.slot, hkept.groups]
    rfl
  refine ⟨t, hcmd, hkept.mem.trans hmem, hkept.leaves.trans hleaves, ?_, fun k hk => (hsame k).trans (hother k hk),
    hkept.counter.trans hcounter, ?_⟩
  · rw [hsame, hslot, Slot.anchoring, ← hjfull]
    rfl
  · rw [hkept.groups]
    exact hentry

/-! ### What the parts of a decided transaction keep -/

theorem State.commitGroup_decisions (s : State) (g : Nat) : (s.commitGroup g).groups.decisions = s.groups.decisions := by
  rw [State.commitGroup, State.unclaim, (State.unpin_kept _ _).1]
  rfl

theorem State.startRollback_decisions (s : State) (g : Nat) (after : Option (Nat × Nat)) :
    (s.startRollback g after).groups.decisions = s.groups.decisions :=
  State.foldl_keeps (·.groups.decisions) State.requestTouch (fun t f => congrArg Groups.decisions (t.requestTouch_kept f).1) _ _

/-- Whose anchor slots are, and of which transaction. -/
def State.anchorOfSlot (s : State) (k : Nat) : Bool × Nat := ((s.slot k).anchor, (s.slot k).txn)

/-- A slot that is put back with the same role and transaction. -/
theorem State.anchorOfSlot_of_put {s t : State} {g : Nat} {x : Slot} (h : t.groups.slots = s.groups.slots.put g x)
    (hx : (x.anchor, x.txn) = s.anchorOfSlot g) (k : Nat) : t.anchorOfSlot k = s.anchorOfSlot k := by
  obtain ⟨hself, hother⟩ := State.slot_of_put h
  by_cases hk : k = g
  · rw [hk, State.anchorOfSlot, hself, hx]
  · rw [State.anchorOfSlot, hother k hk, State.anchorOfSlot]

/-- A decision applied to a part leaves the decision table, and what each slot is the anchor or part of. -/
theorem State.resolvePart_keeps (commit forced : Bool) (s : State) (g : Nat) :
    (State.resolvePart commit forced s g).groups.decisions = s.groups.decisions
      ∧ ∀ k, (State.resolvePart commit forced s g).anchorOfSlot k = s.anchorOfSlot k := by
  obtain ⟨y, hy⟩ : ∃ y, y = { s.slot g with
      restored := (s.slot g).restored || decide ((s.slot g).state = SlotState.inDoubt) || forced,
      forced := (s.slot g).forced || forced } := ⟨_, rfl⟩
  have hset : ∀ k, (s.setSlot g y).anchorOfSlot k = s.anchorOfSlot k :=
    State.anchorOfSlot_of_put (s := s) (t := s.setSlot g y) (x := y) rfl (by rw [hy]; rfl)
  have hslot := s.slot_setSlot_self g y
  have signalled : ∀ u : State, u.groups.decisions = s.groups.decisions →
      (∀ k, u.anchorOfSlot k = (s.setSlot g y).anchorOfSlot k) →
      (u.signalGroup g).groups.decisions = s.groups.decisions ∧ ∀ k, (u.signalGroup g).anchorOfSlot k = s.anchorOfSlot k := by
    intro u hdec hanchor
    have hsig : (u.signalGroup g).groups = u.groups := (State.signalOn_reports u _ 7).service.groups
    refine ⟨by rw [hsig, hdec], fun k => ?_⟩
    rw [← hset k, ← hanchor k, State.anchorOfSlot, State.slot, hsig]
    rfl
  unfold State.resolvePart
  dsimp only
  rw [← hy]
  cases commit with
  | true =>
    exact signalled _ (State.commitGroup_decisions _ _)
      (State.anchorOfSlot_of_put (State.commitGroup_kept _ _).1 (by rw [State.anchorOfSlot]))
  | false =>
    exact signalled _ (State.startRollback_decisions _ _ _)
      (State.anchorOfSlot_of_put (State.startRollback_kept _ _ _).1 (by rw [State.anchorOfSlot]))

/-! ### An entry of the decision table whose anchor slot stands -/

theorem Map.sorted_iff_pairwise {α : Type} {m : Map α} : Map.sorted m = true ↔ m.Pairwise fun a b => a.1 < b.1 := by
  induction m with
  | nil => exact ⟨fun _ => .nil, fun _ => rfl⟩
  | cons a m ih =>
    refine ⟨fun h => .cons (Map.sorted_cons h).1 (ih.mp (Map.sorted_cons h).2), fun h => ?_⟩
    obtain ⟨ha, hm⟩ := List.pairwise_cons.mp h
    cases m with
    | nil => rfl
    | cons b m => exact Bool.and_eq_true_iff.mpr ⟨decide_eq_true (ha b (List.mem_cons_self ..)), ih.mpr hm⟩

theorem Map.sorted_put {α : Type} {m : Map α} (h : Map.sorted m = true) (k : Nat) (v : α) : Map.sorted (m.put k v) = true := by
  rw [Map.sorted_iff_pairwise] at h ⊢
  induction m with
  | nil => exact List.pairwise_singleton _ _
  | cons a m ih =>
    obtain ⟨ha, hm⟩ := List.pairwise_cons.mp h
    unfold Map.put
    split_ifs with hlt heq
    · refine .cons (fun b hb => ?_) h
      rcases List.mem_cons.mp hb with rfl | hb
      · exact hlt
      · exact hlt.trans (ha b hb)
    · exact .cons (heq ▸ ha) hm
    · refine .cons (fun b hb => ?_) (ih hm)
      rcases Map.mem_put hb with rfl | hb
      · exact lt_of_le_of_ne (not_lt.mp hlt) (Ne.symm heq)
      · exact ha b hb

theorem Map.sorted_del {α : Type} {m : Map α} (h : Map.sorted m = true) (k : Nat) : Map.sorted (m.del k) = true :=
  Map.sorted_iff_pairwise.mpr ((Map.sorted_iff_pairwise.mp h).filter _)

/-- Entry `d` records the decision of `e`; only its acknowledgements and the time it was sent may differ. -/
def Decision.Records (d e : Decision) : Prop :=
  d.txn = e.txn ∧ d.state = e.state ∧ d.decidedBeat = e.decidedBeat ∧ d.slot = e.slot

/-- The decision table has rising keys, its entry `i` records the decision of `e`, and the anchor slot of `e` stands. -/
structure Anchored (i : Nat) (e : Decision) (t : State) : Prop where
  sorted : Map.sorted t.groups.decisions = true
  entry : ∃ x, t.groups.decisions.find? i = some x ∧ x.Records e
  slot : t.anchorOfSlot e.slot = (true, e.txn)

theorem Anchored.of_eq {i : Nat} {e : Decision} {t u : State} (h : Anchored i e t)
    (hdec : u.groups.decisions = t.groups.decisions) (hslot : u.anchorOfSlot e.slot = t.anchorOfSlot e.slot) :
    Anchored i e u := by
  obtain ⟨hsorted, hentry, hanchor⟩ := h
  exact ⟨by rw [hdec]; exact hsorted, by rw [hdec]; exact hentry, hslot.trans hanchor⟩

theorem Anchored.setDecision {i : Nat} {e : Decision} {t : State} (h : Anchored i e t) {k : Nat} {d : Decision}
    (hd : k = i → d.Records e) : Anchored i e (t.setDecision k d) := by
  obtain ⟨hsorted, hentry, hanchor⟩ := h
  refine ⟨Map.sorted_put hsorted k d, ?_, hanchor⟩
  by_cases hk : k = i
  · exact ⟨d, by rw [← hk]; exact Map.find?_put_self _ _ _, hd hk⟩
  · obtain ⟨x, hx, heq⟩ := hentry
    exact ⟨x, (Map.find?_put_of_ne _ _ _ _ (Ne.symm hk)).trans hx, heq⟩

/-- An entry is not freed while its anchor slot stands (R196). -/
theorem Anchored.forget {i : Nat} {e : Decision} {t : State} (h : Anchored i e t) (k : Nat) : Anchored i e (t.forget k) := by
  obtain ⟨hsorted, ⟨x, hx, heq⟩, hanchor⟩ := id h
  unfold State.forget
  split
  · exact h
  · rename_i d hd
    split
    · rename_i hfree
      obtain ⟨-, -, hgone⟩ := hfree
      have hk : i ≠ k := by
        rintro rfl
        obtain rfl := Option.some.inj (hd.symm.trans hx)
        obtain ⟨htxn, -, -, hslot⟩ := heq
        obtain ⟨hrole, hsame⟩ := Prod.mk.inj hanchor
        rw [hslot, htxn] at hgone
        exact hgone ⟨hrole, hsame⟩
      exact ⟨Map.sorted_del hsorted k, ⟨x, (Map.find?_del_of_ne _ hk).trans hx, heq⟩, hanchor⟩
    · exact h

theorem Anchored.acknowledge {i : Nat} {e : Decision} {t : State} (h : Anchored i e t) (m txn : Nat) :
    Anchored i e (t.acknowledge m txn) := by
  obtain ⟨hsorted, ⟨x, hx, heq⟩, -⟩ := id h
  unfold State.acknowledge
  split
  · exact h
  · rename_i k d hd
    split
    · exact h
    · split
      · exact h
      · refine (h.setDecision fun hk => ?_).forget k
        have hfind := Map.find?_of_mem_sorted hsorted (List.mem_of_find?_eq_some hd)
        obtain rfl : d = x := Option.some.inj ((hk ▸ hfind).symm.trans hx)
        exact heq

theorem Anchored.ackIfDone {i : Nat} {e : Decision} {t : State} (h : Anchored i e t) (txn : Nat) :
    Anchored i e (t.ackIfDone txn) := by
  unfold State.ackIfDone
  split
  · split
    · exact h.acknowledge _ _
    · obtain ⟨tr, hsend⟩ := t.sendTxn_eq false (anchorOf txn) txn
      rw [hsend]
      exact h.of_eq rfl rfl
  · exact h

theorem Anchored.sendDecide {i : Nat} {e : Decision} {t : State} (h : Anchored i e t) (k : Nat) :
    Anchored i e (t.sendDecide k) := by
  obtain ⟨-, ⟨x, hx, heq⟩, -⟩ := id h
  unfold State.sendDecide
  split
  · exact h
  · rename_i d hd
    split
    · exact h
    · refine (h.setDecision (k := k) (d := { d with sentBeat := t.clock.ext.toNat }) fun hk => ?_).of_eq rfl rfl
      obtain rfl : d = x := Option.some.inj ((hk ▸ hd).symm.trans hx)
      exact heq

theorem Anchored.resolveParts {i : Nat} {e : Decision} {t : State} (h : Anchored i e t) (txn : Nat) (commit forced : Bool) :
    Anchored i e (t.resolveParts txn commit forced) :=
  State.foldl_holds (Anchored i e) _ (fun u g hu => hu.of_eq (State.resolvePart_keeps commit forced u g).1
    ((State.resolvePart_keeps commit forced u g).2 _)) _ t h

/-! ### DECIDE (R194) -/

/-- A decision that reaches the parts, or is kept where there is none, leaves a slot in the decided state there. -/
theorem State.slot_resolveParts_decided {s : State} {g : Nat} {commit : Bool} (h : (s.slot g).state = decidedState commit)
    (txn : Nat) (forced : Bool) : ((s.resolveParts txn commit forced).slot g).state = decidedState commit := by
  obtain ⟨hself, hother, -⟩ := State.foldl_resolvePart_spec commit forced (s.partsOf txn) s
  by_cases hg : g ∈ s.partsOf txn
  · exact hself g hg
  · exact (congrArg Slot.state (hother g hg)).trans h

/-- Acknowledgements and DECIDE cells leave slots and ingress. -/
theorem State.ackIfDone_sendDecide_kept (s : State) (txn i : Nat) :
    ((s.ackIfDone txn).sendDecide i).groups.slots = s.groups.slots
      ∧ ((s.ackIfDone txn).sendDecide i).ingress = s.ingress := by
  obtain ⟨ds, tr, hack⟩ := s.ackIfDone_eq txn
  obtain ⟨⟨es, ur, hsend, -⟩, -⟩ := (s.ackIfDone txn).sendDecide_spec i
  rw [hsend, hack]
  exact ⟨rfl, rfl⟩

/-- The entry of a decision taken now (Table 8.12). -/
def State.decided (s : State) (d : Decision) (commit : Bool) : Decision :=
  { d with state := if commit then 2 else 3, decidedBeat := s.clock.ext, presumed := false }

/-- A decision that is recorded at its anchor slot stands there, and nothing in ingress moves. -/
theorem State.decideHere_spec {s : State} {i : Nat} {d : Decision} {commit : Bool}
    (hsorted : Map.sorted s.groups.decisions = true) (hslot : s.anchorOfSlot d.slot = (true, d.txn))
    (hstate : (s.slot d.slot).state = decidedState commit) :
    Anchored i (s.decided d commit) (s.decideHere i d commit false)
      ∧ ((s.decideHere i d commit false).slot d.slot).state = decidedState commit
      ∧ (s.decideHere i d commit false).ingress = s.ingress := by
  have hset : Anchored i (s.decided d commit) (s.setDecision i (s.decided d commit)) :=
    ⟨Map.sorted_put hsorted _ _, ⟨_, Map.find?_put_self _ _ _, rfl, rfl, rfl, rfl⟩, hslot⟩
  have hend : ∀ u : State, Anchored i (s.decided d commit) u → (u.slot d.slot).state = decidedState commit →
      u.ingress = s.ingress → Anchored i (s.decided d commit) ((u.ackIfDone d.txn).sendDecide i)
        ∧ (((u.ackIfDone d.txn).sendDecide i).slot d.slot).state = decidedState commit
        ∧ ((u.ackIfDone d.txn).sendDecide i).ingress = s.ingress := fun u hu hustate huingress => by
    obtain ⟨hslots, hingress⟩ := u.ackIfDone_sendDecide_kept d.txn i
    refine ⟨(hu.ackIfDone _).sendDecide i, ?_, hingress.trans huingress⟩
    rw [State.slot, hslots]
    exact hustate
  by_cases hown : (s.setDecision i (s.decided d commit)).partsOf d.txn = []
  · have hhere : s.decideHere i d commit false
        = ((((s.setDecision i (s.decided d commit)).cacheDecision d.txn commit).ackIfDone d.txn).sendDecide i) :=
      congrArg (fun u : State => (u.ackIfDone d.txn).sendDecide i) (if_pos hown)
    rw [hhere]
    exact hend _ (hset.of_eq rfl rfl) hstate rfl
  · have hhere : s.decideHere i d commit false
        = ((((s.setDecision i (s.decided d commit)).resolveParts d.txn commit false).ackIfDone d.txn).sendDecide i) :=
      congrArg (fun u : State => (u.ackIfDone d.txn).sendDecide i) (if_neg hown)
    rw [hhere]
    exact hend _ (hset.resolveParts _ _ _) (State.slot_resolveParts_decided (s := s.setDecision i (s.decided d commit)) hstate _ _)
      (State.foldl_resolvePart_spec commit false _ _).2.2

/-- The mailbox's answer, or its wait for RUNNING to clear, leaves a slot's state and result, and the decision table. -/
theorem State.deskDone_kept (s : State) (a : DeskArgs) :
    ((s.deskDone a).slot a.group).state = (s.slot a.group).state
      ∧ ((s.deskDone a).slot a.group).result = (s.slot a.group).result
      ∧ (s.deskDone a).groups.decisions = s.groups.decisions ∧ (s.deskDone a).ingress = s.ingress := by
  by_cases hrun : (s.slot a.group).running = true
  · unfold State.deskDone
    dsimp only
    rw [if_pos hrun]
    split
    · exact ⟨rfl, rfl, rfl, rfl⟩
    · rw [State.slot_setSlot_self]
      exact ⟨rfl, rfl, rfl, rfl⟩
  · have hserv := (State.deskDone_reports (a := a) (Bool.eq_false_of_not_eq_true hrun)).service
    refine ⟨?_, ?_, by rw [hserv.groups], hserv.ingress⟩
    all_goals
      rw [State.slot, hserv.groups]
      rfl

/-- DECIDE of an anchor on its UNDECIDED entry. -/
theorem State.deskEffect_decide {s : State} {a : DeskArgs} {i : Nat} {d : Decision}
    (hdec : s.decisionOf (s.slot a.group).txn = some (i, d)) (hstate : d.state = 1) :
    s.deskEffect 8 a = ((s.setSlot a.group { s.slot a.group with state := decidedState a.flag }).decideHere i d a.flag
      false).answer a.group 0 0 := by
  simp only [State.deskEffect, State.decide', hdec, hstate, if_true]
  rfl

/-- What a decision at its anchor slot leaves, once its result is recorded and the command answered. -/
theorem State.decideHere_answered {b v : State} {a : DeskArgs} {i : Nat} {d : Decision} {commit : Bool}
    (hsorted : Map.sorted b.groups.decisions = true) (hslot : b.anchorOfSlot d.slot = (true, d.txn))
    (hstate : (b.slot d.slot).state = decidedState commit) (hgroup : d.slot = a.group)
    (hv : v = ((b.decideHere i d commit false).answer a.group 0 0).deskDone a) :
    v.mem = b.mem ∧ v.ingress = b.ingress ∧ (v.slot a.group).state = decidedState commit ∧ (v.slot a.group).result = 0
      ∧ ∃ e, v.groups.decisions.find? i = some e ∧ e.Records (b.decided d commit) := by
  obtain ⟨⟨-, hentry, -⟩, hdecided, hingress⟩ := State.decideHere_spec (i := i) hsorted hslot hstate
  have hhere := (b.decideHere_frame i d commit false).2.2.1
  generalize b.decideHere i d commit false = u at hv hentry hdecided hingress hhere
  obtain ⟨kstate, kresult, kdecisions, kingress⟩ := (u.answer a.group 0 0).deskDone_kept a
  have kmem := ((u.answer a.group 0 0).deskDone_frame a).2.2.1
  rw [← hv] at kstate kresult kdecisions kingress kmem
  have hanswered := u.slot_setSlot_self a.group { u.slot a.group with result := 0, detail := 0 }
  rw [hgroup] at hdecided
  refine ⟨kmem.trans hhere, kingress.trans hingress, (kstate.trans (congrArg Slot.state hanswered)).trans hdecided,
    kresult.trans (congrArg Slot.result hanswered), ?_⟩
  rw [kdecisions]
  exact hentry

theorem State.txn_of_decisionOf {s : State} {txn i : Nat} {d : Decision} (h : s.decisionOf txn = some (i, d)) :
    d.txn = txn := by
  have hfound := List.find?_some h
  exact beq_iff_eq.mp hfound

theorem deskDecide_spec {s : State} {a : DeskArgs} {i : Nat} {d : Decision} (h : s.deskAccepts 8 a)
    (hstate : (s.slot a.group).state = .opened) (hanchor : (s.slot a.group).anchor = true)
    (hjfull : (s.slot a.group).jfull = false) (hsorted : Map.sorted s.groups.decisions = true)
    (hdec : s.decisionOf (s.slot a.group).txn = some (i, d)) (hopen : d.state = 1) (hslot : d.slot = a.group) :
    ∃ t, exec (.deskDecide a) s = .next t ∧ t.mem = s.mem
      ∧ (t.slot a.group).state = (if a.flag then .committed else .aborted) ∧ (t.slot a.group).result = 0
      ∧ ∃ e, t.groups.decisions.find? i = some e ∧ e.txn = d.txn ∧ e.state = (if a.flag then 2 else 3)
          ∧ e.decidedBeat = s.clock.ext := by
  obtain ⟨u, t, harr, hcmd, hkept⟩ := State.deskAccepts.command (op := 8) h (by decide) (fun _ => hanchor) hjfull
    (by simp [admits, hanchor, hstate])
  have htxn : (s.slot a.group).txn = d.txn := (State.txn_of_decisionOf hdec).symm
  have hgroup : (s.taken a).group = a.group := rfl
  have hdecisions : (u.accept 8 a).groups.decisions = s.groups.decisions := by
    rw [← harr.groups]
    rfl
  have haccept : (u.accept 8 a).slot a.group = (s.slot a.group).accepted 8 a := by rw [State.accept_slot, harr.slot]
  obtain ⟨b, hb⟩ : ∃ b, b = (u.accept 8 a).setSlot a.group { (s.slot a.group).accepted 8 a with
    state := decidedState a.flag } := ⟨_, rfl⟩
  have hbslot : b.slot a.group = { (s.slot a.group).accepted 8 a with state := decidedState a.flag } := by
    rw [hb]
    exact State.slot_setSlot_self _ _ _
  have heffect : (u.accept 8 a).deskEffect 8 (s.taken a) = (b.decideHere i d a.flag false).answer a.group 0 0 := by
    have hfound : (u.accept 8 a).decisionOf ((u.accept 8 a).slot (s.taken a).group).txn = some (i, d) := by
      rw [hgroup, haccept, ← hdec, State.decisionOf, State.decisionOf, hdecisions]
      rfl
    rw [State.deskEffect_decide hfound hopen, hgroup, haccept, hb]
    rfl
  obtain ⟨v, hv⟩ : ∃ v, v = ((b.decideHere i d a.flag false).answer a.group 0 0).deskDone (s.taken a) := ⟨_, rfl⟩
  obtain ⟨hmem, hingress, hvstate, hvresult, e, he, hetxn, hestate, hebeat, -⟩ := State.decideHere_answered
    (by rw [hb]; exact (congrArg Map.sorted hdecisions).trans hsorted)
    (by rw [State.anchorOfSlot, hslot, hbslot]; exact Prod.ext hanchor htxn) (by rw [hslot, hbslot]) hslot hv
  have hkept' : v.ingress = u.ingress → DeskKept v t := by
    rw [hv, ← heffect]
    exact hkept
  have hvt := hkept' (hingress.trans (by rw [hb]; rfl))
  have hsame : t.slot a.group = v.slot a.group := by
    rw [State.slot, hvt.groups]
    rfl
  refine ⟨t, hcmd, ?_, ?_, ?_, e, ?_, hetxn, hestate, hebeat.trans ?_⟩
  · rw [hvt.mem, hmem, hb]
    exact harr.service.mem
  · rw [hsame]
    exact hvstate
  · rw [hsame]
    exact hvresult
  · rw [hvt.groups, he]
  · rw [hb]
    exact congrArg Clock.ext harr.clock

/-! ### The obligation -/

/-- Settles O34: the effect of each command on its accepting slot, which nothing that follows the command moves. -/
theorem jointCommands : Obligations.JointCommands := by
  unfold Obligations.JointCommands
  exact ⟨fun s a => deskBeginJoint_spec, fun s a => deskPrepare_spec, fun s a i d => deskDecide_spec⟩

end Sys2Proof.Machine
end

section
/-! PROOFS. The end of a rollback (R189): pre-images written back, entries dropped, claims released. -/
namespace Sys2Proof.Machine

/-! ### Pre-images over their lines -/

theorem Mem.byte_of_not_listed {m : List Host.Cell} {x : Nat} (h : ∀ c ∈ m, c.1 ≠ x) : Mem.byte m x = 0 := by
  induction m with
  | nil => rfl
  | cons c m ih =>
    rw [Mem.byte, if_neg (h c (List.mem_cons_self ..))]
    exact ih fun d hd => h d (List.mem_cons_of_mem _ hd)

theorem Mem.byte_clear (m : List Host.Cell) (lo len x : Nat) :
    Mem.byte (Mem.clear m lo len) x = if lo ≤ x ∧ x < lo + len then 0 else Mem.byte m x := by
  split_ifs with hin
  · refine Mem.byte_of_not_listed fun c hc heq => ?_
    obtain ⟨-, hout⟩ := List.mem_filter.mp hc
    simp [heq, hin] at hout
  · induction m with
    | nil => rfl
    | cons c m ih =>
      obtain ⟨k, v⟩ := c
      unfold Mem.clear at ih ⊢
      rw [List.filter_cons]
      by_cases hk : k = x
      · rw [if_pos (by simp [hk]; omega), Mem.byte, if_pos hk, Mem.byte, if_pos hk]
      · rw [Mem.byte, if_neg hk, ← ih]
        split
        · rw [Mem.byte, if_neg hk]
        · rfl

/-- An entry's pre-image is in canonical form and lies in its line. -/
def JEntry.fits (e : JEntry) : Prop := Mem.wf e.pre = true ∧ ∀ c ∈ e.pre, c.1 / 256 = e.line

/-- Memory with an entry's pre-image over its line (R189). -/
def JEntry.over (m : List Host.Cell) (e : JEntry) : List Host.Cell := Mem.replace m (e.line * 256) 256 e.pre

theorem JEntry.byte_over {e : JEntry} (he : e.fits) {m : List Host.Cell} (hm : Mem.wf m = true) (x : Nat) :
    Mem.byte (e.over m) x = if x / 256 = e.line then Mem.byte e.pre x else Mem.byte m x := by
  obtain ⟨hwf, hline⟩ := he
  rw [JEntry.over, Mem.replace, Mem.byte_foldl_putCells hwf _ (Mem.wf_clear _ _ _ hm), Mem.byte_clear]
  by_cases hx : x / 256 = e.line
  · rw [if_pos (show e.line * 256 ≤ x ∧ x < e.line * 256 + 256 by omega), if_pos hx]
    split_ifs with hzero
    · exact hzero.symm
    · rfl
  · have hnone : Mem.byte e.pre x = 0 := Mem.byte_of_not_listed fun c hc heq => hx (heq ▸ hline c hc)
    rw [if_neg (show ¬ (e.line * 256 ≤ x ∧ x < e.line * 256 + 256) by omega), if_neg hx, if_pos hnone]

theorem JEntry.wf_over (e : JEntry) {m : List Host.Cell} (hm : Mem.wf m = true) : Mem.wf (e.over m) = true :=
  Mem.wf_replace _ _ _ _ hm

/-- Entries written over memory one by one: a line without an entry is as it was. -/
theorem byte_foldl_over_of_no_entry {es : List JEntry} (hes : ∀ e ∈ es, e.fits) {m : List Host.Cell} (hm : Mem.wf m = true)
    {x : Nat} (hx : ∀ e ∈ es, e.line ≠ x / 256) : Mem.byte (es.foldl JEntry.over m) x = Mem.byte m x := by
  induction es generalizing m with
  | nil => rfl
  | cons e es ih =>
    rw [List.foldl_cons, ih (fun f hf => hes f (List.mem_cons_of_mem _ hf)) (e.wf_over hm)
      (fun f hf => hx f (List.mem_cons_of_mem _ hf)), JEntry.byte_over (hes e (List.mem_cons_self ..)) hm,
      if_neg (Ne.symm (hx e (List.mem_cons_self ..)))]

/-- A line whose entries are all the one entry holds its pre-image. -/
theorem byte_foldl_over_of_entry {es : List JEntry} (hes : ∀ e ∈ es, e.fits) {m : List Host.Cell} (hm : Mem.wf m = true)
    {x : Nat} {e : JEntry} (hline : x / 256 = e.line) (hone : ∀ f ∈ es, f.line = e.line → f = e) (he : e ∈ es) :
    Mem.byte (es.foldl JEntry.over m) x = Mem.byte e.pre x := by
  induction es generalizing m with
  | nil => exact absurd he List.not_mem_nil
  | cons a es ih =>
    have hes' : ∀ f ∈ es, f.fits := fun f hf => hes f (List.mem_cons_of_mem _ hf)
    by_cases hlater : e ∈ es
    · exact ih hes' (a.wf_over hm) (fun f hf => hone f (List.mem_cons_of_mem _ hf)) hlater
    · obtain rfl : e = a := (List.mem_cons.mp he).resolve_right hlater
      have hnone : ∀ f ∈ es, f.line ≠ x / 256 := fun f hf hfl =>
        hlater (hone f (List.mem_cons_of_mem _ hf) (hfl.trans hline) ▸ hf)
      rw [List.foldl_cons, byte_foldl_over_of_no_entry hes' (e.wf_over hm) hnone,
        JEntry.byte_over (hes e (List.mem_cons_self ..)) hm, if_pos hline]

/-! ### The lines of a group -/

/-- What a rollback writes: bytes of DRAM beside the groups and ingress. -/
def State.written (s : State) : List Host.Cell × Groups × Ingress := (s.mem, s.groups, s.ingress)

theorem State.reserveMirror_written (s : State) (leaf : Nat) : (s.reserveMirror leaf).written = s.written := by
  unfold State.reserveMirror
  split <;> rfl

theorem State.mirrorLine_written (s : State) (line : Nat) : (s.mirrorLine line).written = s.written := by
  unfold State.mirrorLine
  dsimp only
  split
  · exact (State.foldl_keeps State.written State.mirrorUnit (fun _ _ => rfl) _ _).trans (s.reserveMirror_written _)
  · exact s.reserveMirror_written _

theorem State.queueLine_written (s : State) (line port own : Nat) (stamp : BitVec 16) (write : Bool) :
    (s.queueLine line port own stamp write).written = s.written := rfl

theorem State.restoreEntry_written (s : State) (e : JEntry) :
    (s.restoreEntry e).written = (e.over s.mem, s.groups, s.ingress) := by
  unfold State.restoreEntry
  dsimp only
  rw [State.foldl_keeps State.written State.unawait (fun _ _ => rfl)]
  rfl

/-- A pre-image written back moves the bytes of its line, and no group and no write in ingress. -/
theorem State.writeBack_written (s : State) (e : JEntry) : (s.writeBack e).written = (e.over s.mem, s.groups, s.ingress) := by
  rw [State.writeBack, State.mirrorLine_written, State.queueLine_written, s.restoreEntry_written e]

/-- Entries written back in turn. -/
theorem State.foldl_writeBack_written (g : State → Nat × JEntry → State) (hg : ∀ t e, (g t e).written
    = (e.2.over t.mem, t.groups, t.ingress)) (l : List (Nat × JEntry)) (s : State) :
    (l.foldl g s).written = ((l.map (·.2)).foldl JEntry.over s.mem, s.groups, s.ingress) := by
  induction l generalizing s with
  | nil => rfl
  | cons e l ih =>
    obtain ⟨hmem, hrest⟩ := Prod.mk.inj (hg s e)
    obtain ⟨hgroups, hingress⟩ := Prod.mk.inj hrest
    rw [List.foldl_cons, ih, hmem, hgroups, hingress]
    rfl

/-- Every pre-image of a group is written over its line, and no group and no write in ingress moves. -/
theorem State.restoreLines_written (s : State) (g : Nat) :
    (s.restoreLines g).written = ((s.entriesOf g).reverse.foldl JEntry.over s.mem, s.groups, s.ingress) := by
  have hentries : (((List.range (s.entriesOf g).length).zip (s.entriesOf g)).reverse).map (·.2) = (s.entriesOf g).reverse := by
    rw [List.map_reverse]
    exact congrArg List.reverse (List.map_snd_zip (by simp))
  rw [← hentries]
  unfold State.restoreLines
  refine State.foldl_writeBack_written _ ?_ _ s
  exact fun t e => State.writeBack_written _ _

/-! ### The end of a rollback -/

/-- The slot as its rollback ends, before the mailbox commands that waited for it are answered (R189). -/
def Slot.rolledBack (x : Slot) : Slot :=
  { x with running := false, after := none,
           result := (match x.after with | some r => r.1 | none => x.result),
           detail := (match x.after with | some r => r.2 | none => x.detail) }

theorem State.unclaim_kept (s : State) (pages : List Nat) :
    (s.unclaim pages).groups = { s.groups with claims := s.groups.claims.filter fun c => !pages.contains c.1 }
      ∧ (s.unclaim pages).ingress = s.ingress ∧ (s.unclaim pages).mem = s.mem :=
  ⟨(State.unpin_kept _ _).1, (State.unpin_kept _ _).2, (s.unclaim_frame pages).2.2.1⟩

/-- A group holds no page once the pages that it held are unclaimed. -/
theorem State.pagesOf_unclaim (s : State) (g : Nat) : (s.unclaim (s.pagesOf g)).pagesOf g = [] := by
  rw [State.pagesOf, (s.unclaim_kept _).1]
  simp only [List.map_eq_nil_iff, List.filter_eq_nil_iff, List.mem_filter]
  rintro c ⟨hc, hfree⟩ hg
  have hin : c.1 ∈ s.pagesOf g := List.mem_map.mpr ⟨c, List.mem_filter.mpr ⟨hc, hg⟩, rfl⟩
  simp [hin] at hfree

/-- The rollback of group `g` of `s` has ended in `t`: its lines are written back, its entries dropped, its slot is no longer
running, and its claims are released unless JFULL stands. -/
structure RolledBack (g : Nat) (s t : State) : Prop where
  mem : t.mem = (s.entriesOf g).reverse.foldl JEntry.over s.mem
  writes : t.ingress.writes = s.ingress.writes
  running : (t.slot g).running = false
  state : (t.slot g).state = (s.slot g).state
  waiting : (t.slot g).waiting = (s.slot g).waiting
  slots : ∀ h, h ≠ g → t.slot h = s.slot h
  entries : t.entriesOf g = []
  pages : (s.slot g).jfull = false → t.pagesOf g = []

/-- Nothing of this moves with what leaves bytes, groups and writes in ingress alone. -/
theorem RolledBack.of_eq {g : Nat} {s t u : State} (h : RolledBack g s t) (hmem : u.mem = t.mem)
    (hwrites : u.ingress.writes = t.ingress.writes) (hgroups : u.groups = t.groups) : RolledBack g s u := by
  have hslot : ∀ k, u.slot k = t.slot k := fun k => by
    rw [State.slot, hgroups]
    rfl
  refine ⟨hmem.trans h.mem, hwrites.trans h.writes, by rw [hslot, h.running], by rw [hslot, h.state],
    by rw [hslot, h.waiting], fun k hk => (hslot k).trans (h.slots k hk), ?_, fun hj => ?_⟩
  · rw [State.entriesOf, hgroups]
    exact h.entries
  · rw [State.pagesOf, hgroups]
    exact h.pages hj

theorem SameButService.rolledBack {g : Nat} {s t u : State} (h : RolledBack g s t) (k : SameButService t u) :
    RolledBack g s u := h.of_eq k.mem (congrArg Ingress.writes k.ingress) k.groups

/-- Nor does it with the slot put back with the same state, RUNNING clear and the same commands behind it. -/
theorem RolledBack.setSlot {g : Nat} {s t : State} (h : RolledBack g s t) {x : Slot} (hrun : x.running = false)
    (hstate : x.state = (t.slot g).state) (hwaiting : x.waiting = (t.slot g).waiting) : RolledBack g s (t.setSlot g x) := by
  obtain ⟨hself, hother⟩ := State.slot_of_put (s := t) (t := t.setSlot g x) rfl
  refine ⟨h.mem, h.writes, by rw [hself, hrun], by rw [hself, hstate, h.state], by rw [hself, hwaiting, h.waiting],
    fun k hk => (hother k hk).trans (h.slots k hk), h.entries, h.pages⟩

theorem RolledBack.ackIfDone {g : Nat} {s t : State} (h : RolledBack g s t) (txn : Nat) :
    RolledBack g s (t.ackIfDone txn) := by
  obtain ⟨ds, tr, hack⟩ := t.ackIfDone_eq txn
  rw [hack]
  exact ⟨h.mem, h.writes, h.running, h.state, h.waiting, h.slots, h.entries, h.pages⟩

theorem RolledBack.mailFlush {g : Nat} {s t : State} (h : RolledBack g s t) : RolledBack g s (t.mailFlush g) := by
  have hset : RolledBack g s (t.setSlot g { t.slot g with mail := [] }) := h.setSlot h.running rfl rfl
  exact (SameButService.foldl (State.mailAnswer g) (fun u i => (State.mail_reports u i _ _ _).service) _ _).rolledBack hset

/-- A state with the group's lines written back as in `r`, its slot and entries as they are at the end of its rollback, and its
claims released where they have to be. -/
theorem RolledBack.of_written {g : Nat} {s r t : State}
    (hr : r.written = ((s.entriesOf g).reverse.foldl JEntry.over s.mem, s.groups, s.ingress)) (hmem : t.mem = r.mem)
    (hingress : t.ingress = r.ingress) (hslots : t.groups.slots = r.groups.slots.put g (s.slot g).rolledBack)
    (hjournal : t.groups.journal = r.groups.journal.filter fun e => e.group != g)
    (hpages : (s.slot g).jfull = false → t.pagesOf g = []) : RolledBack g s t := by
  obtain ⟨kmem, krest⟩ := Prod.mk.inj hr
  obtain ⟨kgroups, kingress⟩ := Prod.mk.inj krest
  rw [kgroups] at hslots hjournal
  obtain ⟨hself, hother⟩ := State.slot_of_put hslots
  refine ⟨hmem.trans kmem, congrArg Ingress.writes (hingress.trans kingress), by rw [hself]; rfl, by rw [hself]; rfl,
    by rw [hself]; rfl, hother, ?_, hpages⟩
  rw [State.entriesOf, hjournal]
  simp

/-- A group whose slot is no longer running, with its claims released unless JFULL stands (R189, R190). -/
def State.released (r : State) (g : Nat) (x : Slot) : State :=
  if x.jfull = true then (r.dropEntries g).setSlot g x.rolledBack
  else ((r.dropEntries g).setSlot g x.rolledBack).unclaim (((r.dropEntries g).setSlot g x.rolledBack).pagesOf g)

theorem State.released_rolledBack {g : Nat} {s r : State}
    (hr : r.written = ((s.entriesOf g).reverse.foldl JEntry.over s.mem, s.groups, s.ingress)) :
    RolledBack g s (r.released g (s.slot g)) := by
  unfold State.released
  split_ifs with hj
  · exact .of_written hr rfl rfl rfl rfl fun hn => absurd (hj.symm.trans hn) Bool.noConfusion
  · obtain ⟨hgroups, hingress, hmem⟩ := State.unclaim_kept ((r.dropEntries g).setSlot g (s.slot g).rolledBack)
      (((r.dropEntries g).setSlot g (s.slot g).rolledBack).pagesOf g)
    exact .of_written hr hmem hingress (congrArg Groups.slots hgroups) (congrArg Groups.journal hgroups)
      fun _ => State.pagesOf_unclaim _ _

theorem State.endRollback_rolledBack (s : State) (g : Nat) : RolledBack g s (s.endRollback g) := by
  have hr := s.restoreLines_written g
  unfold State.endRollback
  generalize s.restoreLines g = r at hr ⊢
  have hslot : (r.dropEntries g).slot g = s.slot g := by
    obtain ⟨-, hrest⟩ := Prod.mk.inj hr
    obtain ⟨hgroups, -⟩ := Prod.mk.inj hrest
    rw [State.slot, State.dropEntries, hgroups]
    rfl
  have hreleased := State.released_rolledBack hr
  dsimp only
  rw [hslot]
  refine RolledBack.mailFlush ?_
  split
  · exact hreleased.ackIfDone _
  · exact hreleased

theorem State.serveDesk_service (s : State) (i g : Nat) : SameButService s (s.serveDesk i g) := by
  unfold State.serveDesk
  split
  · exact (SameButReports.emit _ _).service
  · exact ((State.addReg_service _ _ _ _).trans (State.note_reports _ _ _).service).trans (SameButReports.emit _ _).service

/-- Slot reads that are answered leave ingress, and no more than that. -/
theorem RolledBack.answerReads {g : Nat} {s t : State} (h : RolledBack g s t) : RolledBack g s (t.answerReads g) := by
  have hdrop : RolledBack g s { t with
      ingress := { t.ingress with reads := t.ingress.reads.filter fun r => !(r.ofSlot g && r.ahead == 0) } } :=
    h.of_eq rfl rfl rfl
  have hanswered := SameButService.foldl (fun u (r : HeldRead) => u.serveDesk r.link.val g)
    (fun u r => u.serveDesk_service _ _)
  exact (hanswered _ _).rolledBack hdrop

/-- No command waits behind the rollback. -/
theorem RolledBack.deskResume {g : Nat} {s t : State} (h : RolledBack g s t) (hnone : (s.slot g).waiting = []) :
    RolledBack g s (t.deskResume g) := by
  have hwaiting := h.waiting.trans hnone
  unfold State.deskResume
  dsimp only
  rw [hwaiting, List.foldl_nil]
  exact h.setSlot h.running rfl hwaiting.symm

/-- With no write in ingress and no command behind it, a rollback that ends leaves its group rolled back. -/
theorem State.finishRollback_rolledBack {s : State} {g : Nat} (hwrites : s.ingress.writes = [])
    (hnone : (s.slot g).waiting = []) : RolledBack g s (s.finishRollback g) := by
  have hclosed : RolledBack g s (s.closeRollback g) :=
    (State.cupboard_service _ _ _).rolledBack (((s.endRollback_rolledBack g).answerReads).deskResume hnone)
  exact (State.panicUpdate_service _).rolledBack
    ((State.resumeGroupWrites_service (hclosed.writes.trans hwrites)).rolledBack hclosed)

/-! ### The obligation -/

/-- Settles O33: what a rollback leaves of its group (`RolledBack`), and its pre-images read back over their lines. -/
theorem rollbackRestoresTheLines : Obligations.RollbackRestoresTheLines := by
  unfold Obligations.RollbackRestoresTheLines
  intro s g hready hsave hdormant hbring hwrites hwaiting hwf hfits
  have hstate : (s.slot g).state = .aborted := by
    simp only [State.rollbackReady, Bool.and_eq_true, decide_eq_true_eq] at hready
    obtain ⟨⟨-, haborted⟩, -⟩ := hready
    exact haborted
  have h : RolledBack g s.fresh (s.fresh.finishRollback g) := State.finishRollback_rolledBack hwrites hwaiting
  have hfits' : ∀ e ∈ (s.entriesOf g).reverse, e.fits := fun e he => hfits e (List.mem_reverse.mp he)
  refine ⟨s.fresh.finishRollback g, congrArg Host.Outcome.next (if_pos ⟨hready, hsave, hdormant, hbring⟩), h.running,
    h.state.trans hstate, h.entries, h.pages, h.slots, fun x hx => ?_, fun e he hone x hx => ?_⟩
  · rw [h.mem]
    exact byte_foldl_over_of_no_entry hfits' hwf fun e he => hx e (List.mem_reverse.mp he)
  · rw [h.mem]
    exact byte_foldl_over_of_entry hfits' hwf hx (fun f hf => hone f (List.mem_reverse.mp hf)) (List.mem_reverse.mpr he)

end Sys2Proof.Machine
end

section
/-! PROOFS. The links of the Trestle: training, shutdown, wrap and unwrap (R203, R204, R205, R229, R230). -/
namespace Sys2Proof.Machine

/-! ### A change of the Trestle that is reported -/

@[simp] theorem State.port_setPort_self (s : State) (p : Nat) (x : Port) : (s.setPort p x).port p = x :=
  Map.get_put_self _ _ _ _

theorem State.port_setPort_of_ne (s : State) {p q : Nat} (x : Port) (h : q ≠ p) : (s.setPort p x).port q = s.port q :=
  Map.get_put_of_ne _ _ _ _ _ h

/-- Reports leave the ports. -/
theorem SameButReports.port {s t : State} (h : SameButReports s t) (p : Nat) : t.port p = s.port p := by
  rw [State.port, State.port, h.service.trestle]

/-- No entry of a port is one that reports or wakes write. -/
theorem portEntry_notMem (p : Fin 2) (sub : Fin 6) :
    key (0x4810 + p.val) sub.val ∉ reportEntries ∧ key (0x4810 + p.val) sub.val ∉ windowEntries := by
  revert p sub
  decide

/-- Data that a change leaves as it is stays through the reports that follow. -/
theorem DataKept.reports {s m t : State} (h : DataKept s m) (k : SameButReports m t) : DataKept s t := h.trans k.dataKept

theorem RegsKept.reports {s m t : State} {l : List Nat} (h : RegsKept s m l) (hm : DataKept s m) (k : SameButReports m t) :
    RegsKept s t l := h.trans hm.mode (k.regsKept l)

/-- Ring service changes the port, and the beat from which the service counts (R204). -/
theorem State.enterService_eq (s : State) (p : Nat) :
    ∃ tr, s.enterService p = { s with trestle := tr }
      ∧ tr.ports = s.trestle.ports.put p { s.port p with
          state := .inService, failed := false, turned := false, checkFails := [], lastStart := none } := by
  unfold State.enterService
  dsimp only
  split <;> exact ⟨_, rfl, rfl⟩

theorem State.enterService_dataKept (s : State) (p : Nat) : DataKept s (s.enterService p) := by
  obtain ⟨tr, h, -⟩ := s.enterService_eq p
  rw [h]
  exact ⟨rfl, rfl, rfl, rfl, rfl, rfl⟩

@[simp] theorem State.enterService_regs (s : State) (p : Nat) : (s.enterService p).regs = s.regs := by
  obtain ⟨tr, h, -⟩ := s.enterService_eq p
  rw [h]

@[simp] theorem State.enterService_port_self (s : State) (p : Nat) :
    (s.enterService p).port p
      = { s.port p with state := .inService, failed := false, turned := false, checkFails := [], lastStart := none } := by
  obtain ⟨tr, h, hports⟩ := s.enterService_eq p
  rw [h, State.port, hports, Map.get_put_self]

theorem State.enterService_port_of_ne (s : State) {p q : Nat} (h : q ≠ p) : (s.enterService p).port q = s.port q := by
  obtain ⟨tr, htr, hports⟩ := s.enterService_eq p
  rw [htr, State.port, hports, Map.get_put_of_ne _ _ _ _ _ h]
  rfl

/-! ### Training (R203, R204) -/

/-- A port whose training has completed, with the delay and the partner's hello. -/
def State.upPort (s : State) (p delay : Nat) (hello : Hello) : Port :=
  { s.port p with state := .up, delayNs := delay, hello := some hello, trainedBeat := s.clock.beat }

/-- A port's training completes: the port is UP, and its delay is reported. -/
def State.portUp (s : State) (p delay : Nat) (hello : Hello) : State :=
  (s.setPort p (s.upPort p delay hello)).setReg (0x4810 + p) 3 (delay % 2 ^ 32)

/-- What a port's training leaves, whichever way its hellos send it: its delay, its hello, and everything but that. -/
structure Trained (s : State) (p delay : Nat) (hello : Hello) (state : PortState) (t : State) : Prop where
  data : DataKept s t
  regs : RegsKept s t [key (0x4810 + p) 3]
  delay : t.regs.find? (key (0x4810 + p) 3) = some (delay % 2 ^ 32)
  hello : (t.port p).hello = some hello
  state : (t.port p).state = state
  other : t.port (1 - p) = s.port (1 - p)

theorem State.portUp_trained (s : State) (p : Fin 2) (delay : Nat) (hello : Hello) :
    Trained s p.val delay hello .up (s.portUp p.val delay hello) where
  data := ⟨rfl, rfl, rfl, rfl, rfl, rfl⟩
  regs := (RegsKept.of_regs (t := s) rfl _).put (List.mem_singleton_self _) _ rfl
  delay := Map.find?_put_self _ _ _
  hello := congrArg Port.hello (s.port_setPort_self p.val _)
  state := congrArg Port.state (s.port_setPort_self p.val _)
  other := s.port_setPort_of_ne _ (by omega)

theorem Trained.reports {s t u : State} {p : Fin 2} {delay : Nat} {hello : Hello} {state : PortState}
    (h : Trained s p.val delay hello state t) (k : SameButReports t u) : Trained s p.val delay hello state u where
  data := h.data.reports k
  regs := h.regs.reports h.data k
  delay := (k.regsKept [] _ (portEntry_notMem p 3).1 (fun _ => (portEntry_notMem p 3).2) (by simp)).trans h.delay
  hello := by rw [k.port, h.hello]
  state := by rw [k.port, h.state]
  other := by rw [k.port, h.other]

/-- The port of a trained link takes another state and keeps its hello. -/
theorem Trained.move {s t u : State} {p delay : Nat} {hello : Hello} {state state' : PortState}
    (h : Trained s p delay hello state t) (hdata : DataKept t u) (hregs : u.regs = t.regs)
    (hhello : (u.port p).hello = (t.port p).hello) (hstate : (u.port p).state = state')
    (hother : u.port (1 - p) = t.port (1 - p)) : Trained s p delay hello state' u where
  data := h.data.trans hdata
  regs := h.regs.trans h.data.mode (.of_regs hregs _)
  delay := by rw [hregs, h.delay]
  hello := hhello.trans h.hello
  state := hstate
  other := hother.trans h.other

theorem Trained.enterService {s t : State} {p : Fin 2} {delay : Nat} {hello : Hello} {state : PortState}
    (h : Trained s p.val delay hello state t) : Trained s p.val delay hello .inService (t.enterService p.val) :=
  h.move (t.enterService_dataKept p.val) (t.enterService_regs p.val) (by rw [State.enterService_port_self])
    (by rw [State.enterService_port_self]) (t.enterService_port_of_ne (by omega))

/-- A port that is held out of service is in FAULT, and that is reported (R203). -/
theorem Trained.holdPort {s t : State} {p : Fin 2} {delay : Nat} {hello : Hello} {state : PortState}
    (h : Trained s p.val delay hello state t) : Trained s p.val delay hello .fault (t.holdPort p.val (t.port p.val)) := by
  unfold State.holdPort
  refine Trained.reports (h.move ?_ ?_ ?_ ?_ (t.port_setPort_of_ne _ (by omega))) (State.faultOpen_reports _ _ _)
  · exact ⟨rfl, rfl, rfl, rfl, rfl, rfl⟩
  · rfl
  · rw [State.port_setPort_self]
  · rw [State.port_setPort_self]

/-- Where the hellos send a port that has trained: FAULT, UP or ring service (R203, R204, R230). -/
def State.trainedState (s : State) (p : Nat) (hello : Hello) : PortState :=
  if s.helloAgrees hello = false then .fault
  else if s.inDomain = false ∨ (s.port p).failed = true then .up else .inService

/-- Training brings the port UP, and from there its hellos send it on. -/
theorem State.portTrained_eq (s : State) (p delay : Nat) (hello : Hello) :
    s.portTrained p delay hello =
      if s.helloAgrees hello = false then (s.portUp p delay hello).holdPort p ((s.portUp p delay hello).port p)
      else if s.inDomain = false ∨ (s.port p).failed = true then
        (s.portUp p delay hello).condClear Code.domainMismatch
      else ((s.portUp p delay hello).condClear Code.domainMismatch).enterService p := rfl

theorem State.portTrained_trained (s : State) (p : Fin 2) (delay : Nat) (hello : Hello) :
    Trained s p.val delay hello (s.trainedState p.val hello) (s.portTrained p.val delay hello)
      ∧ (s.helloAgrees hello = false → (s.portTrained p.val delay hello).hasFault Code.domainMismatch = true) := by
  have hup := s.portUp_trained p delay hello
  have hclear := hup.reports ((s.portUp p.val delay hello).condClear_reports Code.domainMismatch)
  rw [s.portTrained_eq, State.trainedState]
  split_ifs with hdisagree hstays
  · exact ⟨hup.holdPort, fun _ => State.faultOpen_hasFault _ _ _⟩
  · exact ⟨hclear, fun h => absurd h hdisagree⟩
  · exact ⟨hclear.enterService, fun h => absurd h hdisagree⟩

/-- TRESTLE_LINK_TRAINED of a link that is not up yet, on an enabled port of a Trestle that runs. -/
theorem exec_trestleLinkTrained {s : State} {port : Fin 2} (delay : Nat) (hello : Hello) (hruns : s.trestleRuns = true)
    (hon : s.reg (0x4810 + port.val) 2 = 1)
    (hstate : (s.port port.val).state = .down ∨ (s.port port.val).state = .training ∨ (s.port port.val).state = .fault) :
    exec (.trestleLinkTrained port delay hello) s
      = .next ((s.fresh.portTrained port.val delay hello).emit (.hello port.val s.ownHello)) :=
  congrArg Host.Outcome.next ((if_neg (by simp [hruns, hon])).trans (if_pos hstate))

theorem trestleLinkTrained_spec (s : State) (port : Fin 2) (delay : Nat) (hello : Hello) (hruns : s.trestleRuns = true)
    (hon : s.reg (0x4810 + port.val) 2 = 1)
    (hstate : (s.port port.val).state = .down ∨ (s.port port.val).state = .training ∨ (s.port port.val).state = .fault) :
    ∃ t, exec (.trestleLinkTrained port delay hello) s = .next t
      ∧ Trained s port.val delay hello (s.trainedState port.val hello) t ∧ Output.hello port.val s.ownHello ∈ t.out
      ∧ (s.helloAgrees hello = false → t.hasFault Code.domainMismatch = true) := by
  obtain ⟨⟨hdata, hregs, hdelay, hhello, hstate', hother⟩, hfault⟩ := s.fresh.portTrained_trained port delay hello
  exact ⟨_, exec_trestleLinkTrained delay hello hruns hon hstate, ⟨hdata, hregs, hdelay, hhello, hstate', hother⟩,
    List.mem_append_right _ (List.mem_singleton_self _), hfault⟩

/-! ### Shutdown (R205) -/

theorem exec_trestleShutdownComplete_disabling {s : State} {port : Fin 2} (h : (s.port port.val).state = .disabling) :
    exec (.trestleShutdownComplete port) s
      = .next (s.fresh.setPort port.val { s.port port.val with state := .down }) := by
  change execTrestleShutdownComplete port s = _
  simp only [execTrestleShutdownComplete, h]

theorem exec_trestleShutdownComplete_pendingStart {s : State} {port : Fin 2}
    (h : (s.port port.val).state = .pendingStart) :
    exec (.trestleShutdownComplete port) s
      = .next (s.fresh.setPort port.val { s.port port.val with state := .training }) := by
  change execTrestleShutdownComplete port s = _
  simp only [execTrestleShutdownComplete, h]

/-! ### Wrap and unwrap (R229, R230) -/

/-- A port that has failed in service: it turns frames back, and keeps the START_TAG that its partner had. -/
def Port.wrapped (x : Port) : Port :=
  { x with state := .fault, failed := true, turned := true, lastTag := x.hello.map (·.startTag) }

theorem State.wrapPort_eq (s : State) (p : Nat) :
    s.wrapPort p = ((s.setPort p (s.port p).wrapped).addReg (0x4810 + p) 5 1).faultOpen Code.trestleWrap true := rfl

theorem State.wrapPort_spec (s : State) (p : Fin 2) :
    DataKept s (s.wrapPort p.val) ∧ (s.wrapPort p.val).port p.val = (s.port p.val).wrapped
      ∧ (s.wrapPort p.val).hasFault Code.trestleWrap = true ∧ Counted s (s.wrapPort p.val) (0x4810 + p.val) 5 1
      ∧ RegsKept s (s.wrapPort p.val) [key (0x4810 + p.val) 5] := by
  have hdata : DataKept s ((s.setPort p.val (s.port p.val).wrapped).addReg (0x4810 + p.val) 5 1) :=
    ⟨rfl, rfl, rfl, rfl, rfl, rfl⟩
  have hcount : Counted s ((s.setPort p.val (s.port p.val).wrapped).addReg (0x4810 + p.val) 5 1) (0x4810 + p.val) 5 1 :=
    (State.addReg_counted (s.setPort p.val (s.port p.val).wrapped) _ _ _).of_reg rfl
  have hregs : RegsKept s ((s.setPort p.val (s.port p.val).wrapped).addReg (0x4810 + p.val) 5 1)
      [key (0x4810 + p.val) 5] := RegsKept.addReg (s.setPort p.val (s.port p.val).wrapped) _ _ _
  obtain ⟨hreport, hwindow⟩ := portEntry_notMem p 5
  have k := ((s.setPort p.val (s.port p.val).wrapped).addReg (0x4810 + p.val) 5 1).faultOpen_reports Code.trestleWrap true
  rw [s.wrapPort_eq]
  exact ⟨hdata.reports k, (k.port _).trans (s.port_setPort_self _ _), State.faultOpen_hasFault _ _ _,
    hcount.reports k hreport hwindow, hregs.reports hdata k⟩

theorem State.unwrapPort_reports (s : State) (p : Nat) : SameButReports (s.enterService p) (s.unwrapPort p) := by
  unfold State.unwrapPort
  dsimp only
  split
  · exact State.note_reports _ _ _
  · exact (State.note_reports _ _ _).trans (State.condClear_reports _ _)

theorem exec_trestleWrap {s : State} {port : Fin 2} (hruns : s.trestleRuns = true) (hserv : s.inService port.val = true) :
    exec (.trestleWrap port) s = .next (s.fresh.wrapPort port.val) := congrArg Host.Outcome.next (if_pos ⟨hruns, hserv⟩)

theorem exec_trestleUnwrap {s : State} {port : Fin 2} (hruns : s.trestleRuns = true) (hmay : s.mayUnwrap port.val = true) :
    exec (.trestleUnwrap port) s = .next (s.fresh.unwrapPort port.val) :=
  congrArg Host.Outcome.next (if_pos ⟨hruns, hmay⟩)

/-! ### The obligation -/

/-- Settles O36: what training leaves by the hellos (`Trained`), and the port as a shutdown, a wrap and an unwrap leave it. -/
theorem trestleLinks : Obligations.TrestleLinks := by
  unfold Obligations.TrestleLinks
  refine ⟨fun s port delay hello hruns hon hstate => ?_, fun s port h => exec_trestleShutdownComplete_disabling h,
    fun s port h => exec_trestleShutdownComplete_pendingStart h, fun s port hruns hserv => ?_,
    fun s port hruns hmay => ?_⟩
  · obtain ⟨t, ht, ⟨hdata, hregs, hdelay, hhello, hto, hother⟩, hout, hfault⟩ :=
      trestleLinkTrained_spec s port delay hello hruns hon hstate
    exact ⟨t, ht, hdata, State.reg_of_find? hdelay, hregs, hhello, hto, hout, hfault, hother⟩
  · obtain ⟨hdata, hport, hfault, hcount, hregs⟩ := s.fresh.wrapPort_spec port
    refine ⟨_, exec_trestleWrap hruns hserv, hdata, ?_, ?_, ?_, hfault, hcount, hregs⟩
    all_goals rw [hport]; rfl
  · have hdata := s.fresh.enterService_dataKept port.val
    have k := s.fresh.unwrapPort_reports port.val
    have hport := (k.port port.val).trans (s.fresh.enterService_port_self port.val)
    refine ⟨_, exec_trestleUnwrap hruns hmay, hdata.reports k, ?_, ?_, ?_,
      (RegsKept.of_regs (s.fresh.enterService_regs port.val) []).reports hdata k⟩
    all_goals rw [hport]

end Sys2Proof.Machine
end

section
/-! PROOFS. A link whose failed checks pass a limit that has been lowered: it fails as the next good frame arrives by it, and the
member's roll-call word in that frame already says so (R209, R229). This refutes the statement that the word is the one of
the state before. -/
namespace Sys2Proof.Machine

/-! ### A link check limit that is lowered -/

/-- A port in ring service. -/
def servedPort : Port := { Port.reset with state := .inService }

/-- Member 5 of domain 7, ONLINE, with an image loaded and both ports in ring service. -/
def bothPortsServed : State :=
  { State.reset with
    ctl := { Control.reset with mode := .online, recovery := false }
    regs := [(key 0x4800 1, 7), (key 0x4800 2, 5), (key 0x4800 3, 1), (key 0x4801 0, 32)]
    trestle := { Trestle.reset with loaded := true, ports := [(0, servedPort), (1, servedPort)] } }

/-- A good frame of the domain, from its master, member 2. -/
def goodFrame : Frame :=
  { domain := 7, wire := 3, generation := 1, master := 2, ringB := false, takeover := false, wrapped := false, hops := 0,
    pathPs := 0, crcGood := true, roll := [], badSpans := [], cells := [], port := 0, lapNs := 2000, arrivalNs := 0 }

/-- A frame before it, two of whose link checks are wrong. -/
def checkedFrame : Frame := { goodFrame with wire := 2, badSpans := [1, 2] }

/-- That frame passes within the default limit, and then the board lowers `link_check_limit` to 1. -/
def lowerTheLimit : List Instr := [.framePass checkedFrame, .registerWrite .board 0x4812 0 1 2]

/-- The state that the two commands reach. -/
def limitLowered : State :=
  lowerTheLimit.foldl (fun s c => match exec c s with | .next t => t | _ => s) bothPortsServed

/-- The checks that failed stand against the port, which is in service still, and pass the limit now. -/
theorem limitLowered_port : (limitLowered.port 0).checkFails = [(0, 2)] ∧ limitLowered.reg 0x4812 0 = 1
    ∧ limitLowered.trestleRuns = true ∧ limitLowered.inService 0 = true := by
  decide +kernel

/-- The next frame is one of the domain, with nothing wrong in it. -/
theorem goodFrame_passes : goodFrame.master ≠ limitLowered.member ∧ limitLowered.inDomain = true
    ∧ goodFrame.domain = limitLowered.reg 0x4800 1 ∧ goodFrame.generation = limitLowered.reg 0x4800 3
    ∧ limitLowered.duplicated goodFrame = false := by
  decide +kernel

/-! ### The roll call of the frame that leaves -/

/-- The roll call of a frame that leaves. -/
def rollOf : Output → Option (Map Nat)
  | .frame f => some f.roll
  | _ => none

/-- The roll calls of the frames that a command sends. -/
def rollsSent (c : Instr) (s : State) : List (Map Nat) :=
  match exec c s with
  | .next t => t.out.filterMap rollOf
  | _ => []

theorem roll_mem_rollsSent {c : Instr} {s t : State} {g : Frame} (ht : exec c s = .next t) (hg : .frame g ∈ t.out) :
    g.roll ∈ rollsSent c s := by
  rw [rollsSent, ht]
  exact List.mem_filterMap.mpr ⟨_, hg, rfl⟩

/-- The one frame that leaves bears a word whose Wrap field says TA_TURNED (Table 9.5), which it did not say before. -/
theorem goodFrame_rollsSent : rollsSent (.framePass goodFrame) limitLowered
    = [goodFrame.roll.put limitLowered.member (limitLowered.ownWord goodFrame.wire + 2 ^ 5)] := by
  decide +kernel

/-- Refutes O37: the second clause asks nothing of the checks that have failed before, and where they pass a limit that has
been lowered the arriving frame fails its link (R229), so that it leaves with another own word than the one of the state
before. -/
theorem not_framesAndMastership : ¬ Obligations.FramesAndMastership := by
  unfold Obligations.FramesAndMastership
  rintro ⟨-, hpass, -⟩
  obtain ⟨-, -, hruns, hserved⟩ := limitLowered_port
  obtain ⟨hmaster, hdomain, hsame, hgeneration, hsingle⟩ := goodFrame_passes
  obtain ⟨t, g, ht, -, -, -, -, -, -, -, hg, -, hroll, -⟩ :=
    hpass limitLowered goodFrame hruns hserved hmaster rfl rfl rfl hdomain hsame hgeneration hsingle
  have hsent := roll_mem_rollsSent ht hg
  rw [goodFrame_rollsSent, hroll, List.mem_singleton] at hsent
  exact absurd hsent (by decide +kernel)

end Sys2Proof.Machine
end

section
/-! PROOFS. Messages of the dictionary that the Bureau takes at once: how a message is opened, counted and answered, for every
operation, and then READ, DESCRIBE, WRITE and requests of other members (R235, R348, R350, R355 to R360, R364). -/
namespace Sys2Proof.Machine

/-! ### A message that is taken, whatever it asks -/

/-- The state in which the Bureau judges a message: its outputs start empty, and a service frame has confirmed the port's
rate (R434). Once the message has been counted it is `State.asked`. -/
def State.opened (s : State) (role : Role) : State :=
  if role = .service then { s.fresh with security := { s.security with svcNext := none } } else s.fresh

theorem State.asked_eq_opened (s : State) (role : Role) : s.asked role = (s.opened role).addReg 0xA032 0 1 := rfl

/-- Judging a message changes nothing but the rate that a service frame confirms. -/
theorem State.opened_eq (s : State) (role : Role) :
    ∃ sec, s.opened role = { s with out := [], security := sec } := by
  unfold State.opened
  split <;> exact ⟨_, rfl⟩

@[simp] theorem State.opened_member (s : State) (role : Role) : (s.opened role).member = s.member := by
  obtain ⟨sec, h⟩ := s.opened_eq role
  rw [h]
  rfl

@[simp] theorem State.opened_link (s : State) (role : Role) (i : Nat) : (s.opened role).link i = s.link i := by
  obtain ⟨sec, h⟩ := s.opened_eq role
  rw [h]
  rfl

/-- A message that is served is judged at once. -/
theorem State.request_served {s : State} (op : DictOp) {m : DictMsg} (hs : s.serves m.role m.link) :
    s.request op m = .next ((s.opened m.role).takeMsg op m) := by
  obtain ⟨hvaux, hrec, hlost, hreload, hup⟩ := hs
  have hlink : ¬ (m.role = .host ∧ (s.link m.link.val).up = false) := fun ⟨hr, hd⟩ => by simp [hup hr] at hd
  have hrec' : s.fresh.ctl.recovery = false := hrec
  have hlost' : s.fresh.bureau.lost = false := hlost
  have hreload' : s.fresh.ctl.bureauReload = false := hreload
  simp only [State.request, State.takeRequest, hvaux, hrec, hrec', hlost', hreload', Bool.true_eq_false,
    Bool.false_eq_true, false_and, or_self, if_neg hlink, if_false]
  rfl

/-- A message that is valid, fits and is for this member is executed. -/
theorem State.takeMsg_of_fits {s t : State} {op : DictOp} {m : DictMsg} (hf : s.fits op m) (ht : t.member = s.member) :
    t.takeMsg op m = t.runMsg op m := by
  obtain ⟨hgood, hreq, hresp, htarget, -⟩ := hf
  have hlimit : ¬ (messageLimit m.role < DictMsg_bytes m ∨ messageLimit m.role < responseBytes op m) := by omega
  have hmine : ¬ (m.target ≠ 0xFFFF ∧ m.target ≠ t.member) := by
    rw [ht]
    tauto
  rw [State.takeMsg, hgood, if_neg Bool.false_ne_true, if_neg hlimit, if_neg hmine]

theorem State.fits.tag {s : State} {op : DictOp} {m : DictMsg} (hf : s.fits op m) : m.tag < 65536 := by
  obtain ⟨-, -, -, -, htag⟩ := hf
  exact htag

theorem State.request_fits {s : State} {op : DictOp} {m : DictMsg} (hs : s.serves m.role m.link) (hf : s.fits op m) :
    s.request op m = .next ((s.opened m.role).runMsg op m) := by
  rw [State.request_served op hs, State.takeMsg_of_fits hf (s.opened_member m.role)]

theorem State.request_malformed {s : State} {op : DictOp} {m : DictMsg} (hs : s.serves m.role m.link)
    (hbad : malformed op m = true) : s.request op m = .next ((s.opened m.role).transportStatus op m 1) := by
  rw [State.request_served op hs, State.takeMsg, if_pos hbad]

theorem State.serves.asked_up {s : State} {role : Role} {link : Fin 4} (hs : s.serves role link) :
    role = .host → ((s.asked role).link link.val).up = true := fun hr => by
  obtain ⟨-, -, -, -, hup⟩ := hs
  rw [State.asked_link, hup hr]

@[simp] theorem State.asked_dict (s : State) (role : Role) : (s.asked role).dict = s.dict := by
  unfold State.asked
  split <;> rfl

@[simp] theorem State.asked_out (s : State) (role : Role) : (s.asked role).out = [] := by
  unfold State.asked
  split <;> rfl

/-! ### A message is counted and moves nothing else -/

/-- A message has been counted; it has moved no data and no entry but the count (R355). -/
structure MessageCounted (s t : State) : Prop where
  data : DataKept s t
  count : Counted s t 0xA032 0 1
  regs : RegsKept s t [key 0xA032 0]

theorem State.asked_counted (s : State) (role : Role) : MessageCounted s (s.asked role) := by
  refine ⟨s.asked_dataKept role, ?_, s.asked_regsKept role⟩
  obtain ⟨sec, h⟩ := s.opened_eq role
  rw [s.asked_eq_opened, h]
  exact (State.addReg_counted { s with out := [], security := sec } _ _ _).of_reg rfl

theorem MessageCounted.reports {s t u : State} (h : MessageCounted s t) (k : SameButReports t u) : MessageCounted s u :=
  ⟨h.data.reports k, h.count.reports k (by decide) (by decide), h.regs.reports h.data k⟩

/-- Cells that wait and messages that wait are neither data nor entries. -/
theorem MessageCounted.queue {s t : State} (h : MessageCounted s t) (tr : Trestle) (d : Dict) :
    MessageCounted s { t with trestle := tr, dict := d } := ⟨h.data, h.count, h.regs⟩

/-- A message that is counted and then answered by its path. -/
theorem State.asked_respond {s : State} (op : DictOp) {role : Role} {link : Fin 4} (hs : s.serves role link) (member : Nat)
    {tag : Nat} (htag : tag < 65536) (status result handle beat : Nat) (items : List RespItem) :
    MessageCounted s ((s.asked role).respond op role link member tag status result handle beat items)
      ∧ Output.dict role link.val tag status result handle beat items
        ∈ ((s.asked role).respond op role link member tag status result handle beat items).out := by
  obtain ⟨u, tr, hu, ht⟩ :=
    (s.asked role).respond_reports op role link member tag status result handle beat items htag hs.asked_up
  rw [ht]
  exact ⟨((s.asked_counted role).reports ((SameButReports.emit _ _).trans hu)).queue tr u.dict,
    hu.mem_out (List.mem_append_right _ (List.mem_singleton_self _))⟩

/-! ### READ (R355, R356) -/

/-- A read of an entry other than `read_record` changes nothing. -/
theorem State.readItem_fst (s : State) (role : Role) {i : Item} (h : ¬ (i.index = 0x7430 ∧ i.sub = 3)) :
    (s.readItem role i).1 = s := by
  unfold State.readItem
  split
  · rfl
  · rw [if_neg h]
    split <;> rfl

/-- Items are then read each on the same state. -/
theorem State.readItems_eq (s : State) (role : Role) {items : List Item}
    (h : ∀ i ∈ items, ¬ (i.index = 0x7430 ∧ i.sub = 3)) :
    State.readItems role items s = (s, items.map fun i => (s.readItem role i).2) := by
  induction items with
  | nil => rfl
  | cons i is ih =>
    rw [State.readItems, s.readItem_fst role (h i (List.mem_cons_self ..)),
      ih fun j hj => h j (List.mem_cons_of_mem _ hj)]
    rfl

/-- What a READ answers for its items, in the state that has counted it. -/
def State.readAnswer (s : State) (m : DictMsg) : List RespItem :=
  m.items.map fun i => ((s.asked m.role).readItem m.role i).2

theorem State.request_read {s : State} {m : DictMsg} (hs : s.serves m.role m.link) (hf : s.fits .read m)
    (hnow : m.snapshot = false) (h : ∀ i ∈ m.items, ¬ (i.index = 0x7430 ∧ i.sub = 3)) :
    s.request .read m
      = .next ((s.asked m.role).respond .read m.role m.link m.member m.tag 0 0 0 0 (s.readAnswer m)) := by
  rw [State.request_fits hs hf, State.runMsg, ← s.asked_eq_opened, hnow, State.readItems_eq _ _ h]
  rfl

theorem State.request_snapshot {s : State} {m : DictMsg} (hs : s.serves m.role m.link) (hf : s.fits .read m)
    (hwait : m.snapshot = true) :
    s.request .read m = .next { s.asked m.role with
      dict := { s.dict with snapshots := s.dict.snapshots ++ [m] } } := by
  rw [State.request_fits hs hf, State.runMsg, ← s.asked_eq_opened, hwait, s.asked_dict]
  rfl

/-! ### A malformed message (Table 14.8) -/

/-- A response moves no entry. -/
theorem State.respond_regs (s : State) (op : DictOp) (role : Role) (link : Fin 4)
    (member tag status result handle beat : Nat) (items : List RespItem) :
    (s.respond op role link member tag status result handle beat items).regs = s.regs := by
  have hhost : ∀ o, (s.respondHost link.val tag o).regs = s.regs := fun o => by
    unfold State.respondHost
    dsimp only
    split
    · rfl
    · split
      · rw [State.signal_sameButLinks]; rfl
      · rw [State.signal_sameButLinks]; rfl
  cases role with
  | host => exact hhost _
  | fleet =>
    obtain ⟨tr, h⟩ := State.sendSegments_eq (s.emit (.dict .fleet link.val tag status result handle beat items)) member tag
      (respBytes op items) (responseImage op tag status result handle beat items)
    rw [State.respond, h]
    rfl
  | board => rfl
  | service => rfl

theorem State.request_malformed_spec {s : State} {op : DictOp} {m : DictMsg} (hs : s.serves m.role m.link)
    (hbad : malformed op m = true) (htag : m.tag < 65536) :
    ∃ t, s.request op m = .next t ∧ DataKept s t ∧ t.regs = s.regs
      ∧ Output.dict m.role m.link.val m.tag 1 0 m.handle 0 [] ∈ t.out := by
  have hup : m.role = .host → ((s.opened m.role).link m.link.val).up = true := fun hr => by
    obtain ⟨-, -, -, -, hup⟩ := hs
    rw [State.opened_link, hup hr]
  obtain ⟨hdata, -, hout⟩ := (s.opened m.role).respond_keeps op m.role m.link m.member m.tag 1 0 m.handle 0 [] htag hup []
  have hregs := (s.opened m.role).respond_regs op m.role m.link m.member m.tag 1 0 m.handle 0 []
  refine ⟨_, State.request_malformed hs hbad, DataKept.trans ?_ hdata, hregs.trans ?_, hout⟩
  all_goals
    obtain ⟨sec, h⟩ := s.opened_eq m.role
    rw [h]
  exact ⟨rfl, rfl, rfl, rfl, rfl, rfl⟩

/-! ### DESCRIBE (R364) -/

/-- Descriptors leave by the path of their request: they are emitted, with nothing more than reports and cells queued. -/
theorem State.runMsg_describe (s : State) (m : DictMsg) :
    ∃ u tr, SameButReports ((s.addReg 0xA032 0 1).emit (.describe m.role m.link.val m.tag 0
        (m.items.map fun i => (s.addReg 0xA032 0 1).describe i.index i.sub))) u
      ∧ s.runMsg .describe m = { u with trestle := tr } := by
  unfold State.runMsg
  dsimp only
  split
  · obtain ⟨tr, h⟩ := State.sendSegments_eq _ m.member m.tag _ _
    exact ⟨_, tr, .refl _, h⟩
  · exact ⟨_, _, State.signal_reports _ m.link.val 0, rfl⟩
  · exact ⟨_, _, .refl _, rfl⟩

theorem State.request_describe {s : State} {m : DictMsg} (hs : s.serves m.role m.link) (hf : s.fits .describe m) :
    ∃ t, s.request .describe m = .next t ∧ MessageCounted s t
      ∧ Output.describe m.role m.link.val m.tag 0 (m.items.map fun i => (s.asked m.role).describe i.index i.sub)
        ∈ t.out := by
  obtain ⟨u, tr, hu, ht⟩ := (s.opened m.role).runMsg_describe m
  refine ⟨_, (State.request_fits hs hf).trans (congrArg _ ht), ?_,
    hu.mem_out (List.mem_append_right _ (List.mem_singleton_self _))⟩
  exact ((s.asked_counted m.role).reports ((SameButReports.emit _ _).trans hu)).queue tr u.dict

/-! ### WRITE of one item (R357) -/

/-- A BEAT entry's write that passes its checks waits for the boundary, with no response yet. -/
theorem State.write_staged (s : State) (role : Role) (link : Fin 4) (member tag : Nat) (i : Item)
    (hcode : s.writeCode role i = 0) (hbeat : beatEntry i.index i.sub = true) :
    ∃ replies next, s.write role link member tag [i] = { s with dict := { s.dict with
      replies := replies, nextReply := next,
      submitted := s.dict.submitted ++
        [{ slot := none, reply := s.dict.nextReply, place := 0, role := role, link := link, member := member, tag := tag,
           items := [(i, s.selNo i.index i.sub)] }] } } := by
  simp only [State.write, State.writeItems, State.writeItem, hcode, hbeat, ne_eq, not_true_eq_false, if_false, if_true,
    decide_true, Bool.and_self, Bool.toNat_true, Nat.zero_add, one_ne_zero]
  exact ⟨_, _, rfl⟩

theorem State.request_write_staged {s : State} {m : DictMsg} {i : Item} (hs : s.serves m.role m.link)
    (hf : s.fits .write m) (hitems : m.items = [i]) (hcode : (s.asked m.role).writeCode m.role i = 0)
    (hbeat : beatEntry i.index i.sub = true) :
    ∃ t, s.request .write m = .next t ∧ MessageCounted s t ∧ t.out = []
      ∧ ∃ u, t.dict.submitted = s.dict.submitted ++ [u] ∧ u.slot = none
        ∧ u.items = [(i, (s.asked m.role).selNo i.index i.sub)] := by
  obtain ⟨replies, next, hwrite⟩ := (s.asked m.role).write_staged m.role m.link m.member m.tag i hcode hbeat
  rw [s.request_write m hs hf, hitems, hwrite, s.asked_dict]
  exact ⟨_, rfl, (s.asked_counted m.role).queue _ _, s.asked_out m.role, _, rfl, rfl, rfl⟩

theorem State.request_write_refused {s : State} {m : DictMsg} {i : Item} (hs : s.serves m.role m.link)
    (hf : s.fits .write m) (hitems : m.items = [i]) (hcode : (s.asked m.role).writeCode m.role i ≠ 0) :
    s.request .write m = .next ((s.asked m.role).respond .write m.role m.link m.member m.tag 0 0 0 0
      [respOf i ((s.asked m.role).writeCode m.role i)]) := by
  rw [s.request_write m hs hf, hitems, State.write_refused _ _ _ _ _ i hcode]

/-! ### Requests of other members (R235, R360) -/

/-- Each segment of a response waits as one cell. -/
theorem State.sendSegments_wait_length (s : State) (member tag bytes image : Nat) :
    (s.sendSegments member tag bytes image).trestle.wait.length = s.trestle.wait.length + ceilDiv bytes 44 := by
  have hcells : ∀ (l : List Nat) (t : State),
      (l.foldl (fun t k => t.queueCell (some member) (.tunnelRsp tag k (ceilDiv bytes 44) (segmentOf image k)))
        t).trestle.wait.length = t.trestle.wait.length + l.length := fun l => by
    induction l with
    | nil => exact fun t => rfl
    | cons k l ih =>
      intro t
      rw [List.foldl_cons, ih, State.queueCell, List.length_append, List.length_cons]
      simp only [List.length_cons, List.length_nil]
      omega
  rw [State.sendSegments, hcells, List.length_range]

theorem exec_tunnelReqReceived {s : State} {source : Nat} (op : DictOp) (m : DictMsg) (hdom : s.inDomain = true)
    (halive : s.ownAlive = true) (hsource : source < 1024) :
    exec (.tunnelReqReceived source op m) s = s.request op { m with role := .fleet, member := source } :=
  if_pos ⟨hdom, halive, hsource⟩

/-! ### The obligation -/

/-- Settles O53: a message that is served is counted, and answered by `State.respond` on the state that has counted it. -/
theorem dictionaryMessages : Obligations.DictionaryMessages := by
  unfold Obligations.DictionaryMessages
  refine ⟨fun s m hs hf hnow h => ?_, fun s m hs hf hwait => State.request_snapshot hs hf hwait,
    fun s m hs hbad htag => State.request_malformed_spec hs hbad htag, fun s m hs hf => ?_,
    fun s m i hs hf hitems hcode => ?_, fun s m i hs hf hitems hcode hbeat => ?_,
    fun s source m m' hdom halive hsource hm' hs hf hnow h => ?_⟩
  · obtain ⟨⟨hdata, hcount, hregs⟩, hout⟩ := State.asked_respond .read hs m.member hf.tag 0 0 0 0 (s.readAnswer m)
    exact ⟨_, State.request_read hs hf hnow h, hdata, hcount, hregs, hout⟩
  · obtain ⟨t, ht, ⟨hdata, hcount, hregs⟩, hout⟩ := State.request_describe hs hf
    exact ⟨t, ht, hdata, hcount, hregs, hout⟩
  · obtain ⟨⟨hdata, hcount, hregs⟩, hout⟩ := State.asked_respond .write hs m.member hf.tag 0 0 0 0
      [respOf i ((s.asked m.role).writeCode m.role i)]
    exact ⟨_, State.request_write_refused hs hf hitems hcode, hdata, hcount, hregs, hout⟩
  · obtain ⟨t, ht, ⟨hdata, hcount, hregs⟩, hwaits⟩ := State.request_write_staged hs hf hitems hcode hbeat
    exact ⟨t, ht, hdata, hcount, hregs, hwaits⟩
  · subst hm'
    obtain ⟨⟨hdata, hcount, hregs⟩, hout⟩ := State.asked_respond .read hs source hf.tag 0 0 0 0
      (s.readAnswer { m with role := .fleet, member := source })
    refine ⟨_, (exec_tunnelReqReceived .read m hdom halive hsource).trans (State.request_read hs hf hnow h), hdata, hcount,
      hregs, hout, ?_⟩
    exact (State.sendSegments_wait_length _ _ _ _ _).trans (by rw [State.emit, State.asked_trestle]; rfl)

end Sys2Proof.Machine
end

section
/-! PROOFS. What the upkeep of the NAND store leaves beside the data: the victim, the count of victims, the wear of erase
units, and what is recorded of failed LUNs and channels (R256, R259 to R262). -/
namespace Sys2Proof.Machine

/-! ### Wear of erase units -/

/-- Two records of an erase unit hold the same cycles, and are both retired or neither. -/
def EraseUnit.SameWear (a b : EraseUnit) : Prop := b.cycles = a.cycles ∧ (b.state = 3 ↔ a.state = 3)

theorem EraseUnit.SameWear.refl (a : EraseUnit) : a.SameWear a := ⟨rfl, .rfl⟩

theorem EraseUnit.SameWear.trans {a b c : EraseUnit} (h : a.SameWear b) (k : b.SameWear c) : a.SameWear c :=
  ⟨k.1.trans h.1, k.2.trans h.2⟩

theorem State.eraseUnit_congr {s t : State} (h : t.nand.units = s.nand.units) (k : Nat) :
    t.eraseUnit k = s.eraseUnit k := by
  unfold State.eraseUnit
  rw [h]

/-- A wear table in which an erase unit has a state, unless it is retired. -/
def State.unitPut (s : State) (state : Nat) (m : Map EraseUnit) (k : Nat) : Map EraseUnit :=
  m.put k { s.eraseUnit k with state := if (s.eraseUnit k).state = 3 then 3 else state }

theorem State.foldl_unitPut_wear (s : State) {state : Nat} (h : state ≠ 3) (ks : List Nat) (m : Map EraseUnit)
    (hm : ∀ q, (s.eraseUnit q).SameWear (m.get q { cycles := 0, state := 0 })) (q : Nat) :
    (s.eraseUnit q).SameWear ((ks.foldl (s.unitPut state) m).get q { cycles := 0, state := 0 }) := by
  induction ks generalizing m with
  | nil => exact hm q
  | cons k ks ih =>
    refine ih _ fun q => ?_
    unfold State.unitPut
    by_cases hq : q = k
    · rw [hq, Map.get_put_self]
      exact ⟨rfl, by by_cases hs : (s.eraseUnit k).state = 3 <;> simp [hs, h]⟩
    · rw [Map.get_put_of_ne _ _ _ _ _ hq]
      exact hm q

/-- Erase units that are opened, filled or freed hold their wear, and a retired one stays so. -/
theorem State.setUnits_wear (s : State) (ks : List Nat) {state : Nat} (h : state ≠ 3) (k : Nat) :
    (s.eraseUnit k).SameWear ((s.setUnits ks state).eraseUnit k) :=
  s.foldl_unitPut_wear h ks s.nand.units (fun _ => .refl _) k

/-! ### What rows, segments and reports leave -/

/-- Entries that upkeep reads back: the count of victims, and the LUN masks, whose sub-index is 2 (R256, R260). -/
def upkeepEntry (k : Nat) : Prop := k = key 0x5021 0 ∨ k % 256 = 2

/-- Between two states rows have been programmed, segments have been opened and closed, and reports have been made: data, the
victim, wear, and what is recorded of failures stay, and a fault that has occurred stays sticky. -/
structure RowsWorked (s t : State) : Prop where
  store : StoreKept [] s t
  victim : t.nand.victim = s.nand.victim
  lunsFailed : t.nand.lunsFailed = s.nand.lunsFailed
  channelsFailed : t.nand.channelsFailed = s.nand.channelsFailed
  unavailable : t.nand.unavailable = s.nand.unavailable
  wear : ∀ k, (s.eraseUnit k).SameWear (t.eraseUnit k)
  entries : ∀ k, upkeepEntry k → t.regs.find? k = s.regs.find? k
  faults : ∀ code, s.hasFault code = true → t.hasFault code = true

theorem RowsWorked.refl (s : State) : RowsWorked s s :=
  ⟨.refl _ s, rfl, rfl, rfl, rfl, fun _ => .refl _, fun _ _ => rfl, fun _ h => h⟩

theorem RowsWorked.trans {s t u : State} (h : RowsWorked s t) (k : RowsWorked t u) : RowsWorked s u :=
  ⟨h.store.trans k.store, k.victim.trans h.victim, k.lunsFailed.trans h.lunsFailed,
    k.channelsFailed.trans h.channelsFailed, k.unavailable.trans h.unavailable,
    fun q => (h.wear q).trans (k.wear q), fun q hq => (k.entries q hq).trans (h.entries q hq),
    fun c hc => k.faults c (h.faults c hc)⟩

theorem RowsWorked.foldl {α : Type} (g : State → α → State) (h : ∀ s a, RowsWorked s (g s a)) (as : List α) (s : State) :
    RowsWorked s (as.foldl g s) :=
  State.foldl_holds (RowsWorked s) g (fun t a ht => ht.trans (h t a)) as s (.refl s)

/-- A LUN mask and the count of victims read the same. -/
theorem RowsWorked.reg {s t : State} (h : RowsWorked s t) {idx sub : Nat} (hk : upkeepEntry (key idx sub)) :
    t.reg idx sub = s.reg idx sub :=
  State.reg_congr h.store.layout h.store.security (h.entries _ hk)

theorem upkeepEntry.not_report {k : Nat} (h : upkeepEntry k) : k ∉ reportEntries ∧ k ∉ windowEntries := by
  unfold upkeepEntry key at h
  constructor
  · simp only [reportEntries, key, List.mem_cons, List.not_mem_nil, or_false]
    omega
  · intro hmem
    obtain ⟨c, -, rfl⟩ := List.mem_map.mp hmem
    unfold key at h
    omega

/-- Reports that clear no sticky bit. -/
theorem SameButReports.rowsWorked {s t : State} (h : SameButReports s t) (hfaults : RecordKept s t) : RowsWorked s t := by
  have hnand : t.nand = s.nand := by rw [h.1]
  obtain ⟨-, -, -, hregs, -⟩ := id h
  exact ⟨h.storeKept [], by rw [hnand], by rw [hnand], by rw [hnand], by rw [hnand],
    fun k => by rw [State.eraseUnit_congr (congrArg Nand.units hnand)]; exact .refl _,
    fun k hk => hregs k hk.not_report.1 fun _ => hk.not_report.2, hfaults.faults⟩

theorem State.note_rowsWorked (s : State) (code : Nat) : RowsWorked s (s.note code) :=
  (s.note_reports code []).rowsWorked (s.record_kept code [] false)

theorem State.faultOpen_rowsWorked (s : State) (code : Nat) (live : Bool) : RowsWorked s (s.faultOpen code live) :=
  (s.faultOpen_reports code live).rowsWorked (s.faultOpen_kept code live)

/-- An entry is stored that neither the store's counters nor upkeep read. -/
theorem RowsWorked.putReg (s : State) {k : Nat} (hcounter : ¬ storeCounter k) (hentry : ¬ upkeepEntry k) (v n : Nat) :
    RowsWorked s { s with regs := s.regs.put k v, free := n } :=
  ⟨.putReg s (fun h => absurd h hcounter) v n, rfl, rfl, rfl, rfl, fun _ => .refl _,
    fun _ hq => Map.find?_put_of_ne _ _ _ _ fun e => hentry (e ▸ hq), fun _ h => h⟩

theorem State.panicUpdate_rowsWorked (s : State) : RowsWorked s s.panicUpdate := by
  have hset : RowsWorked s s.panicSet :=
    ⟨s.panicSet_storeKept [], rfl, rfl, rfl, rfl, fun _ => .refl _, fun _ _ => rfl, fun _ h => h⟩
  have hcount : RowsWorked s (s.panicSet.addReg 0x3010 4 1) :=
    hset.trans (.putReg _ (by unfold storeCounter; decide) (by unfold upkeepEntry; decide) _ _)
  unfold State.panicUpdate
  dsimp only
  split_ifs
  · exact .refl s
  · exact hcount.trans (State.note_rowsWorked _ _)
  · exact hcount
  · exact hset

/-- `t` is `s` but for stripes that form or wait, for rebuilds and retirements that are due, the open metadata segment, and the
accounts of the trickle. -/
def QueuesMoved (s t : State) : Prop :=
  t = { s with
    trickle := t.trickle
    nand := { s.nand with
      forming := t.nand.forming, formedAt := t.nand.formedAt, relocating := t.nand.relocating, retiring := t.nand.retiring,
      rebuild := t.nand.rebuild, rebuildPaused := t.nand.rebuildPaused, openMeta := t.nand.openMeta,
      metaLun := t.nand.metaLun } }

theorem QueuesMoved.rowsWorked {s t : State} (h : QueuesMoved s t) : RowsWorked s t := by
  rw [h]
  exact ⟨.of_eq ⟨rfl, rfl, rfl, rfl, rfl, rfl⟩ rfl rfl rfl rfl rfl rfl, rfl, rfl, rfl, rfl, fun _ => .refl _, fun _ _ => rfl,
    fun _ h => h⟩

/-! ### Segments -/

/-- Segments move, and their erase units with them. -/
theorem SegmentsMoved.rowsWorked {s t : State} (h : SegmentsMoved s t)
    (hwear : ∀ k, (s.eraseUnit k).SameWear (t.eraseUnit k)) : RowsWorked s t :=
  ⟨h.storeKept [], by rw [h], by rw [h], by rw [h], by rw [h], hwear, fun _ _ => by rw [h], fun _ hc => by rw [h]; exact hc⟩

theorem State.newSegment_rowsWorked {s t : State} {lun n : Nat} (h : s.newSegment lun = some (t, n)) : RowsWorked s t := by
  refine (State.newSegment_moved h).rowsWorked ?_
  unfold State.newSegment at h
  split at h
  · cases h
  · cases h
    exact s.setUnits_wear _ (by decide)

theorem State.openSegment_rowsWorked (s : State) (lun : Nat) : RowsWorked s (s.openSegment lun) := by
  refine (s.openSegment_moved lun).rowsWorked ?_
  unfold State.openSegment
  split
  · exact fun _ => .refl _
  next t n h => exact (State.newSegment_rowsWorked h).wear

theorem State.closeSegment_rowsWorked (s : State) (lun : Nat) : RowsWorked s (s.closeSegment lun) := by
  refine (s.closeSegment_moved lun).rowsWorked ?_
  unfold State.closeSegment
  split
  · exact fun _ => .refl _
  next n _ => exact (s.setSegment n { s.segment n with state := 2 }).setUnits_wear _ (by decide)

theorem State.renewSegment_rowsWorked (s : State) (lun : Nat) : RowsWorked s ((s.closeSegment lun).openSegment lun) :=
  (s.closeSegment_rowsWorked lun).trans (State.openSegment_rowsWorked _ lun)

theorem State.leaveSegment_rowsWorked (s : State) (seg : Nat) : RowsWorked s (s.leaveSegment seg) := by
  unfold State.leaveSegment
  dsimp only
  split
  · exact s.renewSegment_rowsWorked _
  · exact .refl s

theorem State.renewOpen_rowsWorked (r : Nat × Nat) (s : State) (lun : Nat) : RowsWorked s (State.renewOpen r s lun) := by
  unfold State.renewOpen
  split
  · split
    · exact s.renewSegment_rowsWorked lun
    · exact .refl s
  · exact .refl s

theorem State.openMetaSegment_rowsWorked (s : State) : RowsWorked s s.openMetaSegment := by
  unfold State.openMetaSegment
  split
  · exact .refl s
  · split
    · exact .refl s
    next h =>
      exact (State.newSegment_rowsWorked h).trans (QueuesMoved.rowsWorked rfl)

theorem State.openAll_rowsWorked (s : State) : RowsWorked s s.openAll := by
  have hmissing : RowsWorked s ((List.range s.nandLuns).foldl State.openMissing s) := by
    refine .foldl _ (fun t lun => ?_) _ s
    unfold State.openMissing
    split
    · exact .refl t
    · exact t.openSegment_rowsWorked lun
  unfold State.openAll
  dsimp only
  split
  · exact hmissing
  · exact hmissing.trans (State.openMetaSegment_rowsWorked _)

/-! ### Rows -/

theorem State.rowCharged_rowsWorked (s : State) (lun seg : Nat) : RowsWorked s (s.rowCharged lun seg) := by
  have hother : ¬ upkeepEntry (key 0x5070 0) := by
    unfold upkeepEntry
    decide
  have hstore := s.rowCharged_storeKept [] lun seg
  obtain ⟨tr, htr⟩ := s.rowCharged_eq lun seg
  rw [htr] at hstore ⊢
  exact ⟨hstore, rfl, rfl, rfl, rfl, fun _ => .refl _,
    fun _ hq => Map.find?_put_of_ne _ _ _ _ fun e => hother (e ▸ hq), fun _ h => h⟩

/-- No row starts without a LUN index that takes it, a store that is there, and a stripe that waits. -/
theorem State.programRow_of_not_ready {s : State}
    (h : s.nextLun = none ∨ s.nand.unavailable = true ∨ s.nand.forming = []) : s.programRow = s := by
  unfold State.programRow
  split
  · rfl
  next lun hlun =>
    split
    · rfl
    · exact if_pos (h.resolve_left (by simp [hlun]))

theorem State.programRow_rowsWorked (s : State) : RowsWorked s s.programRow := by
  by_cases h : s.nextLun = none ∨ s.nand.unavailable = true ∨ s.nand.forming = []
  · rw [State.programRow_of_not_ready h]
    exact .refl s
  · obtain ⟨hindex, hready⟩ := not_or.mp h
    obtain ⟨lun, hlun⟩ := Option.ne_none_iff_exists'.mp hindex
    obtain ⟨seg, hseg⟩ := State.nextLun_open hlun
    rw [State.programRow_eq hlun hseg hready]
    split
    · exact (s.rowCharged_rowsWorked lun seg).trans (State.renewSegment_rowsWorked _ lun)
    · exact s.rowCharged_rowsWorked lun seg

theorem State.programRows_rowsWorked (n : Nat) (s : State) : RowsWorked s (s.programRows n) := by
  induction n generalizing s with
  | zero => exact .refl s
  | succ n ih =>
    unfold State.programRows
    split
    · exact s.programRow_rowsWorked.trans (ih _)
    · exact .refl s

theorem State.form_rowsWorked (s : State) (xs : List Stripe) : RowsWorked s (s.form xs) := by
  have hjoined : RowsWorked s { s with nand := { s.nand with
      forming := s.nand.forming ++ xs, formedAt := if s.nand.forming = [] then s.clock.beat else s.nand.formedAt } } :=
    QueuesMoved.rowsWorked rfl
  exact hjoined.trans (State.programRows_rowsWorked ((s.nand.forming.length + xs.length) / 16) _)

theorem State.startRebuildOf_rowsWorked (s : State) (what : Nat) : RowsWorked s (s.startRebuildOf what) := by
  have hlisted : RowsWorked s { s with nand := { s.nand with
      rebuild := s.nand.rebuild ++ [(what, s.nand.nextOpen)], rebuildPaused := decide (s.ctl.mode = .save) } } :=
    QueuesMoved.rowsWorked rfl
  have hrenewed := fun (luns : List Nat) (t : State) =>
    RowsWorked.foldl (State.renewOpen (what, s.nand.nextOpen)) (State.renewOpen_rowsWorked _) luns t
  unfold State.startRebuildOf
  dsimp only
  split
  · exact hlisted.trans (hrenewed _ _)
  · exact ((hlisted.trans (hrenewed _ _)).trans (State.form_rowsWorked _ _)).trans (State.panicUpdate_rowsWorked _)

/-! ### What upkeep leaves -/

/-- Between two states the store has relocated, retired and rebuilt: data, the victim and the count of victims stay, and the
wear of the erase units but for those of a set. -/
structure UpkeepKept (worn : Set Nat) (s t : State) : Prop where
  store : StoreKept [key 0x5041 0] s t
  victim : t.nand.victim = s.nand.victim
  erased : t.regs.find? (key 0x5021 0) = s.regs.find? (key 0x5021 0)
  wear : ∀ k, k ∉ worn → (s.eraseUnit k).SameWear (t.eraseUnit k)

theorem UpkeepKept.refl (w : Set Nat) (s : State) : UpkeepKept w s s := ⟨.refl _ s, rfl, rfl, fun _ _ => .refl _⟩

theorem UpkeepKept.trans {w : Set Nat} {s t u : State} (h : UpkeepKept w s t) (k : UpkeepKept w t u) : UpkeepKept w s u :=
  ⟨h.store.trans k.store, k.victim.trans h.victim, k.erased.trans h.erased,
    fun q hq => (h.wear q hq).trans (k.wear q hq)⟩

theorem UpkeepKept.mono {w w' : Set Nat} {s t : State} (h : UpkeepKept w s t) (hw : w ⊆ w') : UpkeepKept w' s t :=
  ⟨h.store, h.victim, h.erased, fun k hk => h.wear k fun hm => hk (hw hm)⟩

theorem UpkeepKept.foldl {α : Type} {w : Set Nat} (g : State → α → State) (as : List α)
    (h : ∀ a ∈ as, ∀ s, UpkeepKept w s (g s a)) (s : State) : UpkeepKept w s (as.foldl g s) := by
  induction as generalizing s with
  | nil => exact .refl w s
  | cons a as ih =>
    exact (h a List.mem_cons_self s).trans (ih (fun b hb => h b (List.mem_cons_of_mem a hb)) _)

theorem RowsWorked.upkeep {s t : State} (h : RowsWorked s t) (w : Set Nat) : UpkeepKept w s t :=
  ⟨h.store.mono (List.nil_subset _), h.victim, h.entries _ (.inl rfl), fun k _ => h.wear k⟩

theorem QueuesMoved.upkeep {w : Set Nat} {s t : State} (h : QueuesMoved s t) : UpkeepKept w s t := h.rowsWorked.upkeep w

/-- An entry is stored that is neither the count of victims nor a counter but that of retirements. -/
theorem UpkeepKept.putReg (w : Set Nat) (s : State) {k : Nat} (hcounter : storeCounter k → k ∈ [key 0x5041 0])
    (herased : k ≠ key 0x5021 0) (v n : Nat) : UpkeepKept w s { s with regs := s.regs.put k v, free := n } :=
  ⟨.putReg s hcounter v n, rfl, Map.find?_put_of_ne _ _ _ _ herased.symm, fun _ _ => .refl _⟩

theorem State.addReg_upkeep (w : Set Nat) (s : State) {idx sub : Nat}
    (hcounter : storeCounter (key idx sub) → key idx sub ∈ [key 0x5041 0]) (herased : key idx sub ≠ key 0x5021 0) (n : Nat) :
    UpkeepKept w s (s.addReg idx sub n) := .putReg w s hcounter herased _ _

/-! ### Failures -/

/-- A channel is listed as failed (R262). -/
def State.channelMarked (s : State) (c : Nat) : State :=
  { s with nand := { s.nand with channelsFailed := s.nand.channelsFailed ++ [c],
                                 unavailable := decide (3 ≤ (s.nand.channelsFailed ++ [c]).length) } }

/-- What follows the marking of a failed channel is faults and the start of its rebuild. -/
theorem State.nandChannelFailed_rowsWorked (s : State) (c : Nat) :
    RowsWorked ((s.channelMarked c).faultOpen Code.nandChannelFailed true) (s.nandChannelFailed c) := by
  unfold State.nandChannelFailed
  refine RowsWorked.trans ?_ (State.startRebuildOf_rowsWorked _ _)
  dsimp only
  split_ifs
  · exact State.faultOpen_rowsWorked _ _ _
  · exact State.faultOpen_rowsWorked _ _ _
  · exact .refl _

theorem State.channelMarked_upkeep (w : Set Nat) (s : State) (c : Nat) : UpkeepKept w s (s.channelMarked c) :=
  ⟨.of_eq ⟨rfl, rfl, rfl, rfl, rfl, rfl⟩ rfl rfl rfl rfl rfl rfl, rfl, rfl, fun _ _ => .refl _⟩

theorem State.nandChannelFailed_upkeep (w : Set Nat) (s : State) (c : Nat) : UpkeepKept w s (s.nandChannelFailed c) :=
  (s.channelMarked_upkeep w c).trans
    (((State.faultOpen_rowsWorked _ _ _).trans (s.nandChannelFailed_rowsWorked c)).upkeep w)

/-- A failed LUN is marked, recorded, and its rebuild has started (R260, R261). -/
def State.lunRebuilding (s : State) (c l : Nat) : State :=
  ((s.markLun c l).faultOpen Code.nandLunFailed).startRebuildOf (32 * c + l)

theorem State.lunRebuilding_rowsWorked (s : State) (c l : Nat) :
    RowsWorked ((s.markLun c l).faultOpen Code.nandLunFailed) (s.lunRebuilding c l) :=
  State.startRebuildOf_rowsWorked _ _

/-- A failed LUN takes its channel with it where it was the last. -/
theorem State.lunFailed_eq (s : State) (c l : Nat) : s.lunFailed c l =
    if (s.lunRebuilding c l).channelGone c then (s.lunRebuilding c l).nandChannelFailed c else s.lunRebuilding c l := rfl

theorem State.markLun_upkeep (w : Set Nat) (s : State) (c l : Nat) : UpkeepKept w s (s.markLun c l) :=
  ⟨s.markLun_storeKept _ c l, rfl,
    Map.find?_put_of_ne _ _ _ _ (key_ne_of_index (by omega) (by decide) (by decide)), fun _ _ => .refl _⟩

theorem State.lunFailed_upkeep (w : Set Nat) (s : State) (c l : Nat) : UpkeepKept w s (s.lunFailed c l) := by
  have hstart : UpkeepKept w s (s.lunRebuilding c l) := (s.markLun_upkeep w c l).trans
    (((State.faultOpen_rowsWorked _ _ _).trans (s.lunRebuilding_rowsWorked c l)).upkeep w)
  rw [State.lunFailed_eq]
  split
  · exact hstart.trans (State.nandChannelFailed_upkeep w _ c)
  · exact hstart

/-! ### Erase units that retire -/

theorem State.wearUpdate_upkeep (w : Set Nat) (s : State) : UpkeepKept w s s.wearUpdate :=
  .putReg w s (fun h => absurd h (by unfold storeCounter; decide)) (by decide) _ _

/-- What follows the retirement of an erase unit wears none. -/
theorem State.retireKey_upkeep (w : Set Nat) {s : State} {k : Nat} (hstands : (s.eraseUnit k).state ≠ 3) (lun : Nat) :
    UpkeepKept w (s.unitRetired k) (s.retireKey k lun) := by
  have hnoted : UpkeepKept w (s.unitRetired k)
      ((((s.unitRetired k).addReg 0x5041 0 1).wearUpdate).note Code.eraseUnitRetired) :=
    ((State.addReg_upkeep w _ (fun _ => List.mem_singleton_self _) (by decide) 1).trans
      (State.wearUpdate_upkeep w _)).trans ((State.note_rowsWorked _ _).upkeep w)
  unfold State.retireKey
  dsimp only
  rw [if_neg hstands]
  split
  · exact hnoted.trans (State.lunFailed_upkeep w _ _ lun)
  · exact hnoted

/-- An erase unit that retires holds its cycles, and no other retires with it (R259). -/
theorem State.retireKey_spec (s : State) (k lun : Nat) :
    UpkeepKept {k} s (s.retireKey k lun) ∧ ((s.retireKey k lun).eraseUnit k).cycles = (s.eraseUnit k).cycles := by
  by_cases hstands : (s.eraseUnit k).state = 3
  · have hsame : s.retireKey k lun = s := if_pos hstands
    rw [hsame]
    exact ⟨.refl _ s, rfl⟩
  · have hretired : UpkeepKept {k} s (s.unitRetired k) :=
      ⟨s.unitRetired_storeKept _ k, rfl, rfl, fun q hq => by
        have hunit : (s.unitRetired k).eraseUnit q = s.eraseUnit q := Map.get_put_of_ne _ _ _ _ _ hq
        rw [hunit]
        exact .refl _⟩
    have hown : (s.unitRetired k).eraseUnit k = { s.eraseUnit k with state := 3 } := Map.get_put_self _ _ _ _
    exact ⟨hretired.trans (State.retireKey_upkeep _ hstands lun),
      ((State.retireKey_upkeep ∅ hstands lun).wear k (Set.notMem_empty k)).1.trans
        (by rw [hown])⟩

theorem State.retireEmptied_upkeep (s : State) : UpkeepKept Set.univ s s.retireEmptied := by
  refine .foldl _ _ (fun r _ t => ?_) s
  have hunit : UpkeepKept Set.univ t (t.retireUnit r.1 r.2) := by
    unfold State.retireUnit
    split
    · exact (t.retireKey_spec _ _).1.mono (Set.subset_univ _)
    · exact .refl _ t
  exact hunit.trans (QueuesMoved.upkeep rfl)

end Sys2Proof.Machine
end

section
/-! PROOFS. Checkpoints, garbage collection and failures of the NAND store (R252, R253, R256, R259 to R262). -/
namespace Sys2Proof.Machine

/-! ### Checkpoints -/

/-- The checkpoint that starts, with the segments its stripes go to (R252). -/
def State.nextCheckpoint (s : State) : Checkpoint :=
  { seq := s.reg 0x5070 0, openNo := s.nand.nextOpen, rowId := s.nand.nextRowId,
    stripes := 16 * s.layout.leafMapMiB + Config.free s.free,
    segs := (s.drawn.writeMeta (16 * s.layout.leafMapMiB + Config.free s.free)).2, map := s.nand.copies,
    dGeneration := s.reg 0xA003 0, dValues := s.dValues, crypt := s.cryptOf (metaTweak Config.checkpointBlock 0) }

theorem State.checkpointStart_checkpoint (s : State) : s.checkpointStart.nand.checkpoint = some s.nextCheckpoint := rfl

theorem State.checkpointStart_regs (s : State) : s.checkpointStart.regs
    = s.regs.put (key 0x5070 0) (s.reg 0x5070 0 + 16 * ceilDiv s.nextCheckpoint.stripes 16) := rfl

theorem checkpointStart_spec (s : State) (hruns : s.storeRuns = true) (hnone : s.nand.checkpoint = none)
    (hdue : (s.reg 0x5031 0 ≤ s.clock.beat - s.nand.checkpointBeat ∧ 0 < s.nand.sinceCheckpoint)
      ∨ s.reg 0x5030 0 ≤ s.nand.sinceCheckpoint) :
    ∃ t c, exec .checkpointStart s = .next t ∧ DataKept s t ∧ RegsKept s t [key 0x5070 0]
      ∧ t.nand.checkpoint = some c ∧ c.seq = s.reg 0x5070 0 ∧ c.map = s.nand.copies ∧ c.dGeneration = s.reg 0xA003 0
      ∧ c.dValues = s.dValues ∧ t.reg 0x5070 0 = s.reg 0x5070 0 + 16 * ceilDiv c.stripes 16
      ∧ t.nand.checkpointBeat = s.clock.beat ∧ t.nand.sinceCheckpoint = 0 := by
  have hstep : exec .checkpointStart s = .next s.fresh.checkpointStart :=
    congrArg Host.Outcome.next (if_pos ⟨hruns, hnone, hdue⟩)
  have hregs := s.fresh.checkpointStart_regs
  refine ⟨_, _, hstep, ⟨rfl, rfl, rfl, rfl, rfl, rfl⟩, ?_, s.fresh.checkpointStart_checkpoint, rfl, rfl, rfl, rfl, ?_, rfl, rfl⟩
  · exact (RegsKept.of_regs (s := s) (t := s.fresh) rfl _).put (List.mem_singleton_self _) _ hregs
  · exact State.reg_of_find? (by rw [hregs]; exact Map.find?_put_self _ _ _)

/-- A root record is one sequence further than the one before it (R253). -/
theorem State.writeRoot_head (s : State) (c : Option Checkpoint) (fromRow : Nat) (sealAt : Option (Nat × Nat)) :
    ∃ r, (s.writeRoot c fromRow sealAt).nand.rootRecs.head? = some r ∧ r.checkpoint = c
      ∧ ∀ o ∈ s.nand.rootRecs.head?, r.seq = o.seq + 1 := by
  refine ⟨_, rfl, rfl, fun o ho => ?_⟩
  cases hrecs : s.nand.rootRecs with
  | nil =>
    rw [hrecs] at ho
    cases ho
  | cons r rs =>
    rw [hrecs] at ho
    cases ho
    rfl

/-- The checkpoint is complete, and its root record is written; an older image counts for no save any more. -/
def State.checkpointEnded (s : State) (c : Checkpoint) : State :=
  let t := s.writeRoot (some c) c.rowId none
  { t with nand := { t.nand with checkpoint := none,
                                 image := s.nand.image.map fun (i : SaveImage) => { i with withdrawn := true } } }

theorem checkpointComplete_spec (s : State) (c : Checkpoint) (hwritten : s.nand.checkpoint = some c) :
    ∃ t r, exec .checkpointComplete s = .next t ∧ DataKept s t ∧ t.nand.checkpoint = none ∧ t.reg 0x5032 0 = c.seq
      ∧ t.nand.rootRecs.head? = some r ∧ r.checkpoint = some c ∧ (∀ o ∈ s.nand.rootRecs.head?, r.seq = o.seq + 1)
      ∧ RegsKept s t [key 0x5032 0] := by
  have hstep : exec .checkpointComplete s = .next ((s.fresh.checkpointEnded c).setReg 0x5032 0 c.seq) := by
    simp only [exec, execCheckpointComplete, hwritten]
    rfl
  obtain ⟨r, hhead, hnames, hseq⟩ := s.fresh.writeRoot_head (some c) c.rowId none
  refine ⟨_, r, hstep, ⟨rfl, rfl, rfl, rfl, rfl, rfl⟩, rfl, State.reg_setReg_self _ _ _ _, hhead, hnames, hseq, ?_⟩
  exact (RegsKept.of_regs (s := s) (t := s.fresh.checkpointEnded c) rfl _).put (List.mem_singleton_self _) _ rfl

/-! ### The read pass over a victim -/

theorem State.enterOverdraw_upkeep (w : Set Nat) (s : State) : UpkeepKept w s s.enterOverdraw := by
  have hregime : UpkeepKept w s { s with trickle := { s.trickle with overdrawn := true, drawGained := 0 } } :=
    QueuesMoved.upkeep rfl
  exact hregime.trans (State.addReg_upkeep w _ (fun h => absurd h (by unfold storeCounter; decide)) (by decide) 1)

/-- A relocation joins the stripes that form. -/
theorem State.relocateOne_upkeep (w : Set Nat) (s : State) (x : Stripe) (xs : List Stripe) (tr : Trickle) :
    UpkeepKept w s ({ s with nand := { s.nand with relocating := xs }, trickle := tr }.form [x]) := by
  have htaken : UpkeepKept w s { s with nand := { s.nand with relocating := xs }, trickle := tr } :=
    QueuesMoved.upkeep rfl
  exact htaken.trans ((State.form_rowsWorked _ _).upkeep w)

theorem State.relocate_upkeep (w : Set Nat) (n : Nat) (s : State) : UpkeepKept w s (s.relocate n) := by
  induction n generalizing s with
  | zero => exact .refl w s
  | succ n ih =>
    unfold State.relocate
    split
    · exact .refl w s
    next x xs _ =>
      split
      · exact .refl w s
      · dsimp only
        split
        · split
          · exact s.enterOverdraw_upkeep w
          · exact .refl w s
        · exact (s.relocateOne_upkeep w x xs _).trans (ih _)
        · exact (s.relocateOne_upkeep w x xs _).trans (ih _)

theorem State.scheduleRelocation_upkeep (w : Set Nat) (s : State) (xs : List Stripe) :
    UpkeepKept w s (s.scheduleRelocation xs) := by
  have hjoined : UpkeepKept w s { s with nand := { s.nand with relocating := s.nand.relocating ++ xs } } :=
    QueuesMoved.upkeep rfl
  exact hjoined.trans (State.relocate_upkeep w _ _)

theorem State.scheduleRetire_upkeep (s : State) (seg chan : Nat) : UpkeepKept Set.univ s (s.scheduleRetire seg chan) := by
  have hleft := (s.leaveSegment_rowsWorked seg).upkeep Set.univ
  have hlisted : ∀ (t : State) (rs : List (Nat × Nat)),
      UpkeepKept Set.univ t { t with nand := { t.nand with retiring := rs } } := fun _ _ => QueuesMoved.upkeep rfl
  unfold State.scheduleRetire
  dsimp only
  split
  · exact (hleft.trans (hlisted _ _)).trans (State.retireEmptied_upkeep _)
  · exact ((hleft.trans (hlisted _ _)).trans (State.scheduleRelocation_upkeep _ _ _)).trans (State.retireEmptied_upkeep _)

/-- Corrected codewords and erasures of a channel are counted (R244). -/
theorem State.countReadsOn_upkeep (w : Set Nat) (s : State) (c : Fin 18) {sub : Nat} (h : sub = 3 ∨ sub = 4) :
    UpkeepKept w s (s.addReg (0x5100 + c.val) sub 1) := by
  refine s.addReg_upkeep w (fun hk => absurd hk ?_) ?_ 1
  · simp only [storeCounter, key, List.mem_cons, List.not_mem_nil, or_false]
    omega
  · unfold key
    omega

theorem State.countReads_upkeep (s : State) (seg : Nat) (r : StripeRead) : UpkeepKept Set.univ s (s.countReads seg r) := by
  unfold State.countReads
  refine (((UpkeepKept.foldl _ _ (fun c _ t => ?_) _).trans (.foldl _ _ (fun c _ t => ?_) _)).trans
    (.foldl _ _ (fun c _ t => ?_) _)).trans (.foldl _ _ (fun c _ t => ?_) _)
  · exact t.countReadsOn_upkeep _ c (.inl rfl)
  · exact t.countReadsOn_upkeep _ c (.inr rfl)
  · exact t.scheduleRetire_upkeep seg c.val
  · split
    · exact t.lunFailed_upkeep _ c.val _
    · exact .refl _ t

theorem gcStart_spec (s : State) (v : Nat) (read : StripeRead) (hvictim : s.gcVictim = some v) (hruns : s.storeRuns = true)
    (hreserve : s.segmentsFree < s.reg 0x5020 0) (hnone : s.nand.victim = none) (htoken : s.relocationToken ≠ .no) :
    ∃ t, exec (.gcStart read) s = .next t ∧ DataKept s t ∧ t.nand.victim = some v := by
  have hstep : exec (.gcStart read) s = .next (s.fresh.gcStart v read) := by
    simp only [exec, execGcStart, hvictim]
    exact congrArg Host.Outcome.next (if_pos ⟨hruns, hreserve, hnone, htoken⟩)
  have hread := State.countReads_upkeep { s.fresh with nand := { s.nand with victim := some v } } v read
  have hkept : UpkeepKept Set.univ { s.fresh with nand := { s.nand with victim := some v } } (s.fresh.gcStart v read) :=
    (hread.trans (State.scheduleRelocation_upkeep _ _ _)).trans ((State.panicUpdate_rowsWorked _).upkeep _)
  exact ⟨_, hstep, hkept.store.data, hkept.victim⟩

/-! ### The erase of a victim -/

/-- An erase unit has been erased: it is FREE, one cycle older (R259). -/
def State.unitErased (s : State) (k : Nat) : State :=
  { s with nand := { s.nand with units := s.nand.units.put k { cycles := (s.eraseUnit k).cycles + 1, state := 0 } } }

theorem State.unitErased_upkeep (s : State) (k : Nat) : UpkeepKept {k} s (s.unitErased k) :=
  ⟨.of_eq ⟨rfl, rfl, rfl, rfl, rfl, rfl⟩ rfl rfl rfl rfl rfl rfl, rfl, rfl, fun q hq => by
    have hunit : (s.unitErased k).eraseUnit q = s.eraseUnit q := Map.get_put_of_ne _ _ _ _ _ hq
    rw [hunit]
    exact .refl _⟩

/-- An erase wears its own erase unit, by one cycle where it is not retired. -/
theorem State.eraseKey_spec (s : State) (lun k : Nat) : UpkeepKept {k} s (State.eraseKey lun s k)
    ∧ ((s.eraseUnit k).state ≠ 3 → ((State.eraseKey lun s k).eraseUnit k).cycles = (s.eraseUnit k).cycles + 1) := by
  have hcycles : ((s.unitErased k).eraseUnit k).cycles = (s.eraseUnit k).cycles + 1 :=
    congrArg EraseUnit.cycles (Map.get_put_self _ _ _ _)
  obtain ⟨hretired, hsame⟩ := (s.unitErased k).retireKey_spec k lun
  unfold State.eraseKey
  dsimp only
  split_ifs with hstate hrated
  · exact ⟨.refl _ s, fun h => absurd hstate h⟩
  · exact ⟨(s.unitErased_upkeep k).trans hretired, fun _ => hsame.trans hcycles⟩
  · exact ⟨s.unitErased_upkeep k, fun _ => hcycles⟩

theorem State.foldl_eraseKey_upkeep (lun : Nat) (ks : List Nat) (s : State) :
    UpkeepKept {k | k ∈ ks} s (ks.foldl (State.eraseKey lun) s) :=
  .foldl _ ks (fun k hk t => (t.eraseKey_spec lun k).1.mono (Set.singleton_subset_iff.mpr hk)) s

/-- Each of several erase units that is not retired ages by one cycle. -/
theorem State.foldl_eraseKey_cycles (lun : Nat) {ks : List Nat} (hks : ks.Nodup) (s : State) {k : Nat} (hk : k ∈ ks)
    (hstands : (s.eraseUnit k).state ≠ 3) :
    ((ks.foldl (State.eraseKey lun) s).eraseUnit k).cycles = (s.eraseUnit k).cycles + 1 := by
  induction ks generalizing s with
  | nil => cases hk
  | cons a ks ih =>
    obtain ⟨ha, hks⟩ := List.nodup_cons.mp hks
    obtain ⟨hfirst, hcycles⟩ := s.eraseKey_spec lun a
    rw [List.foldl_cons]
    rcases List.mem_cons.mp hk with rfl | hk
    · exact ((State.foldl_eraseKey_upkeep lun ks _).wear k ha).1.trans (hcycles hstands)
    · have hwear := hfirst.wear k fun e => ha (e ▸ hk)
      rw [ih hks _ hk (mt hwear.2.mp hstands), hwear.1]

/-- The victim is no longer one, and none of its stripes waits to be relocated. -/
def State.victimDropped (s : State) (v : Nat) : State :=
  { s with nand := { s.nand with
    victim := none
    relocating := s.nand.relocating.filter fun (x : Stripe) => match x.source with | some (g, _) => g != v | none => true } }

/-- The erase units of the victim have been erased. -/
def State.victimErased (s : State) (v : Nat) : State :=
  (s.unitsOf v).foldl (State.eraseKey (s.segment v).lun) (s.victimDropped v)

/-- The erased victim is out of every table, and its stripes out of flash. -/
def State.victimGone (s : State) (v : Nat) : State :=
  let t := s.victimErased v
  { t with nand := { t.nand with
    segments := t.nand.segments.del v, flash := t.nand.flash.filter fun e => e.1 / 65536 != v,
    marked := t.nand.marked.filter fun n => n != v, cutErases := t.nand.cutErases.filter fun n => n != v,
    retiring := t.nand.retiring.filter fun r => r.1 != v } }.wearUpdate

theorem State.eraseVictim_eq {s : State} {v : Nat} (h : s.nand.victim = some v) :
    s.eraseVictim v = ((s.victimGone v).addReg 0x5021 0 1).openAll := by
  simp only [State.eraseVictim, if_pos h]
  rfl

theorem gcVictimErased_spec (s : State) (v : Nat) (hvictim : s.nand.victim = some v) (hvalid : (s.segment v).valid = 0)
    (hunits : (s.unitsOf v).Nodup) :
    ∃ t, exec (.gcVictimErased v) s = .next t ∧ t.mem = s.mem ∧ t.leaves = s.leaves ∧ t.groups = s.groups
      ∧ t.ctl.mode = s.ctl.mode ∧ t.nand.victim = none ∧ Counted s t 0x5021 0 1
      ∧ t.nand.flash = s.nand.flash.filter (fun e => e.1 / 65536 != v)
      ∧ (∀ k ∈ s.unitsOf v, (s.eraseUnit k).state ≠ 3 → (t.eraseUnit k).cycles = (s.eraseUnit k).cycles + 1) := by
  have hstep : exec (.gcVictimErased v) s = .next (s.fresh.eraseVictim v) :=
    congrArg Host.Outcome.next (if_pos ⟨.inl hvictim, hvalid⟩)
  rw [State.eraseVictim_eq (s := s.fresh) hvictim] at hstep
  have herased : UpkeepKept _ (s.fresh.victimDropped v) (s.fresh.victimErased v) :=
    State.foldl_eraseKey_upkeep (s.segment v).lun (s.unitsOf v) (s.fresh.victimDropped v)
  have hcycles := fun k hk => State.foldl_eraseKey_cycles (s.segment v).lun hunits (s.fresh.victimDropped v) (k := k) hk
  obtain ⟨⟨hmem, hflash, hleaves, hgroups, hmode, -⟩, hlayout, hsecurity, -⟩ := herased.store
  have hopened := State.openAll_rowsWorked ((s.fresh.victimGone v).addReg 0x5021 0 1)
  obtain ⟨omem, oflash, oleaves, ogroups, omode, -⟩ := hopened.store.data
  have hentry : (s.fresh.victimGone v).regs.find? (key 0x5021 0) = s.regs.find? (key 0x5021 0) :=
    (Map.find?_put_of_ne _ _ _ _ (by decide)).trans herased.erased
  have hbefore : (s.fresh.victimGone v).reg 0x5021 0 = s.reg 0x5021 0 :=
    State.reg_congr (s := s) (t := s.fresh.victimGone v) hlayout hsecurity hentry
  have hcounted : Counted s ((s.fresh.victimGone v).addReg 0x5021 0 1) 0x5021 0 1 :=
    (State.addReg_counted _ 0x5021 0 1).of_reg hbefore
  refine ⟨_, hstep, omem.trans hmem, oleaves.trans hleaves, ogroups.trans hgroups, omode.trans hmode,
    hopened.victim.trans herased.victim, fun hn => (hopened.reg (.inl rfl)).trans (hcounted hn), ?_, fun k hk hstands => ?_⟩
  · exact oflash.trans (congrArg (List.filter fun e : Nat × Stored => e.1 / 65536 != v) hflash)
  · exact (hopened.wear k).1.trans (hcycles k hk hstands)

/-! ### Failures -/

/-- A failed LUN is in the mask of its channel, and stays there if the channel fails with it. -/
theorem State.lunFailed_spec (s : State) (c l : Nat) :
    (s.lunFailed c l).nand.lunsFailed.get c 0 = s.nand.lunsFailed.get c 0 ||| 2 ^ l
      ∧ (s.lunFailed c l).reg (0x5100 + c) 2 = (s.nand.lunsFailed.get c 0 ||| 2 ^ l) % 65536
      ∧ (s.lunFailed c l).hasFault Code.nandLunFailed = true := by
  have hmask : upkeepEntry (key (0x5100 + c) 2) := .inr (by unfold key; omega)
  have hstart := (State.faultOpen_rowsWorked (s.markLun c l) Code.nandLunFailed false).trans (s.lunRebuilding_rowsWorked c l)
  have hluns : (s.lunRebuilding c l).nand.lunsFailed.get c 0 = s.nand.lunsFailed.get c 0 ||| 2 ^ l :=
    (congrArg (Map.get · c 0) hstart.lunsFailed).trans (Map.get_put_self _ _ _ _)
  have hreg : (s.lunRebuilding c l).reg (0x5100 + c) 2 = (s.nand.lunsFailed.get c 0 ||| 2 ^ l) % 65536 :=
    (hstart.reg hmask).trans (State.reg_of_find? (Map.find?_put_self _ _ _))
  have hfault := (s.lunRebuilding_rowsWorked c l).faults _ (State.faultOpen_hasFault _ Code.nandLunFailed false)
  rw [State.lunFailed_eq]
  split
  · have hgone := (State.faultOpen_rowsWorked ((s.lunRebuilding c l).channelMarked c) Code.nandChannelFailed true).trans
      ((s.lunRebuilding c l).nandChannelFailed_rowsWorked c)
    exact ⟨(congrArg (Map.get · c 0) hgone.lunsFailed).trans hluns, (hgone.reg hmask).trans hreg, hgone.faults _ hfault⟩
  · exact ⟨hluns, hreg, hfault⟩

theorem nandLunFailed_spec (s : State) (chan : Fin 18) (lun : Nat) (hstands : s.lunStands chan.val lun = true) :
    ∃ t, exec (.nandLunFailed chan lun) s = .next t ∧ DataKept s t
      ∧ t.nand.lunsFailed.get chan.val 0 = s.nand.lunsFailed.get chan.val 0 ||| 2 ^ lun
      ∧ t.reg (0x5100 + chan.val) 2 = (s.nand.lunsFailed.get chan.val 0 ||| 2 ^ lun) % 65536
      ∧ t.hasFault Code.nandLunFailed = true :=
  ⟨_, congrArg Host.Outcome.next (if_pos hstands), (s.fresh.lunFailed_storeKept [] chan.val lun).data,
    s.fresh.lunFailed_spec chan.val lun⟩

theorem nandRebuildDone_spec (s : State) (r : Nat × Nat) (hrebuild : s.nand.rebuild = [r]) (hleft : s.rebuildLeft r = 0) :
    ∃ t, exec .nandRebuildDone s = .next t
      ∧ SameButReports { s with out := [], nand := { s.nand with rebuild := [] } } t := by
  have hfound : s.nand.rebuild.find? (fun r => s.rebuildLeft r == 0) = some r := by simp [hrebuild, hleft]
  have hrest : s.nand.rebuild.filter (fun x => x != r) = [] := by simp [hrebuild]
  have hstep : exec .nandRebuildDone s
      = .next ({ s.fresh with nand := { s.nand with rebuild := [] } }.note Code.nandRebuildDone) := by
    simp only [exec, execNandRebuildDone, hfound, hrest]
  exact ⟨_, hstep, State.note_reports _ _ _⟩

theorem nandChannelFailed_spec (s : State) (chan : Fin 18) (hfirst : s.nand.channelsFailed.contains chan.val = false) :
    ∃ t, exec (.nandChannelFailed chan) s = .next t ∧ DataKept s t
      ∧ t.nand.channelsFailed = s.nand.channelsFailed ++ [chan.val]
      ∧ t.nand.unavailable = decide (3 ≤ s.nand.channelsFailed.length + 1)
      ∧ t.hasFault Code.nandChannelFailed = true := by
  have hafter := s.fresh.nandChannelFailed_rowsWorked chan.val
  have hfault := State.faultOpen_rowsWorked (s.fresh.channelMarked chan.val) Code.nandChannelFailed true
  refine ⟨_, congrArg Host.Outcome.next (if_neg (ne_true_of_eq_false hfirst)),
    (s.fresh.nandChannelFailed_storeKept [] chan.val).data, (hfault.trans hafter).channelsFailed, ?_,
    hafter.faults _ (State.faultOpen_hasFault _ _ _)⟩
  rw [(hfault.trans hafter).unavailable]
  simp [State.channelMarked, State.fresh]

/-! ### The obligation -/

/-- Settles O40: a checkpoint by what it writes, the read pass and the erase of a victim by what upkeep keeps
(`UpkeepKept`), and a failure by what follows its mark (`RowsWorked`). -/
theorem nandUpkeep : Obligations.NandUpkeep := by
  unfold Obligations.NandUpkeep
  exact ⟨checkpointStart_spec, checkpointComplete_spec, gcStart_spec, gcVictimErased_spec, nandLunFailed_spec,
    nandRebuildDone_spec, nandChannelFailed_spec⟩

end Sys2Proof.Machine
end

section
/-! PROOFS. The rules of the whole machine on the queue and on the form of memory. Each command has its own frame under
Sys2Proof/Laws; here they are joined into one statement about `exec`, which the obligations read off. -/

namespace Sys2Proof.Machine

/-- A command keeps the queue, and the canonical form of the bytes of DRAM and of flash. -/
structure QueueAndFormKept (s t : State) : Prop where
  pending : t.pending = s.pending
  mem : Mem.wf s.mem = true → Mem.wf t.mem = true
  flash : Flash.wf s.nand.flash = true → Flash.wf t.nand.flash = true

namespace QueueAndFormKept

variable {s t : State}

/-- Bytes that stay as they are stay in canonical form. -/
theorem of_bytes (h : t.pending = s.pending ∧ t.mem = s.mem ∧ t.nand.flash = s.nand.flash) : QueueAndFormKept s t := by
  obtain ⟨hpending, hmem, hflash⟩ := h
  exact ⟨hpending, fun hm => hmem ▸ hm, fun hf => hflash ▸ hf⟩

theorem of_frame (h : t.pending = s.pending ∧ t.ctl.mode = s.ctl.mode ∧ t.mem = s.mem ∧ t.nand.flash = s.nand.flash) :
    QueueAndFormKept s t :=
  .of_bytes ⟨h.1, h.2.2⟩

/-- A command that may write DRAM, in canonical form, and no byte of flash. -/
theorem of_flash (h : t.pending = s.pending ∧ t.nand.flash = s.nand.flash)
    (hmem : Mem.wf s.mem = true → Mem.wf t.mem = true) : QueueAndFormKept s t :=
  ⟨h.1, hmem, fun hf => h.2 ▸ hf⟩

theorem of_flash_mode (h : t.pending = s.pending ∧ t.ctl.mode = s.ctl.mode ∧ t.nand.flash = s.nand.flash)
    (hmem : Mem.wf s.mem = true → Mem.wf t.mem = true) : QueueAndFormKept s t :=
  .of_flash ⟨h.1, h.2.2⟩ hmem

/-- A command that may write flash, in canonical form, and no byte of DRAM. -/
theorem of_mem_mode (h : t.pending = s.pending ∧ t.ctl.mode = s.ctl.mode ∧ t.mem = s.mem)
    (hflash : Flash.wf s.nand.flash = true → Flash.wf t.nand.flash = true) : QueueAndFormKept s t :=
  ⟨h.1, fun hm => h.2.2 ▸ hm, hflash⟩

end QueueAndFormKept

/-- Every command keeps the queue and the canonical form, by its own frame. -/
theorem exec_queueAndFormKept (c : Instr) (s t : State) (h : exec c s = .next t) : QueueAndFormKept s t := by
  cases c with
  | beat b => exact ⟨execBeat_frame b s t h, execBeat_wf_mem b s t h, execBeat_wf_flash b s t h⟩
  | hostWrite w => exact .of_flash_mode (execHostWrite_frame w s t h) (execHostWrite_wf_mem w s t h)
  | heldWriteRelease stamp =>
    exact .of_flash_mode (execHeldWriteRelease_frame stamp s t h) (execHeldWriteRelease_wf_mem stamp s t h)
  | journalWaitEnd stamp =>
    exact .of_flash_mode (execJournalWaitEnd_frame stamp s t h) (execJournalWaitEnd_wf_mem stamp s t h)
  | hostRead link dpa stamp => exact .of_frame (execHostRead_frame link dpa stamp s t h)
  | touchRestoreComplete leaf ns read =>
    exact .of_flash_mode (execTouchRestoreComplete_frame leaf ns s read t h) (execTouchRestoreComplete_wf_mem leaf ns s read t h)
  | backgroundRestoreLeaf read =>
    exact .of_flash_mode (execBackgroundRestoreLeaf_frame s read t h) (execBackgroundRestoreLeaf_wf_mem s read t h)
  | restoreComplete => exact .of_bytes (execRestoreComplete_frame s t h)
  | gpfPhase1 link => exact .of_frame (execGpfPhase1_frame link s t h)
  | gpfPhase2 link => exact .of_frame (execGpfPhase2_frame link s t h)
  | linkTrained link partnerRate partnerWidth flit256 =>
    exact .of_frame (execLinkTrained_frame link partnerRate partnerWidth flit256 s t h)
  | linkLoss link => exact .of_frame (execLinkLoss_frame link s t h)
  | hostReset link => exact .of_frame (execHostReset_frame link s t h)
  | flr link => exact .of_frame (execFlr_frame link s t h)
  | linkEnableWrite role link value =>
    exact ⟨execLinkEnableWrite_frame role link value s t h, execLinkEnableWrite_wf_mem role link value s t h, execLinkEnableWrite_wf_flash role link value s t h⟩
  | linkShutdownComplete link => exact .of_frame (execLinkShutdownComplete_frame link s t h)
  | laneFault link lane errors lockLost partnerL0p =>
    exact .of_frame (execLaneFault_frame link lane errors lockLost partnerL0p s t h)
  | msixModerationExpire link vector => exact .of_frame (execMsixModerationExpire_frame link vector s t h)
  | identify link => exact .of_frame (execIdentify_frame link s t h)
  | backgroundOperationStatus link => exact .of_frame (execBackgroundOperationStatus_frame link s t h)
  | getEventRecords link log => exact .of_frame (execGetEventRecords_frame link log s t h)
  | clearEventRecords link log all handles => exact .of_frame (execClearEventRecords_frame link log all handles s t h)
  | getEventInterruptPolicy link => exact .of_frame (execGetEventInterruptPolicy_frame link s t h)
  | setEventInterruptPolicy link vectors => exact .of_frame (execSetEventInterruptPolicy_frame link vectors s t h)
  | getFwInfo link => exact .of_frame (execGetFwInfo_frame link s t h)
  | transferFw link => exact .of_frame (execTransferFw_frame link s t h)
  | activateFw link => exact .of_frame (execActivateFw_frame link s t h)
  | getTimestamp link => exact .of_frame (execGetTimestamp_frame link s t h)
  | setTimestamp link ns => exact .of_frame (execSetTimestamp_frame link ns s t h)
  | getSupportedLogs link => exact .of_frame (execGetSupportedLogs_frame link s t h)
  | getLog link cel => exact .of_frame (execGetLog_frame link cel s t h)
  | identifyMemoryDevice link => exact .of_frame (execIdentifyMemoryDevice_frame link s t h)
  | getPartitionInfo link => exact .of_frame (execGetPartitionInfo_frame link s t h)
  | setPartitionInfo link => exact .of_frame (execSetPartitionInfo_frame link s t h)
  | getLsa link offset length => exact .of_frame (execGetLsa_frame link offset length s t h)
  | setLsa link offset data => exact .of_frame (execSetLsa_frame link offset data s t h)
  | getHealthInfo link => exact .of_frame (execGetHealthInfo_frame link s t h)
  | getAlertConfiguration link => exact .of_frame (execGetAlertConfiguration_frame link s t h)
  | setAlertConfiguration link config => exact .of_frame (execSetAlertConfiguration_frame link config s t h)
  | getShutdownState link => exact .of_frame (execGetShutdownState_frame link s t h)
  | setShutdownState link state => exact .of_frame (execSetShutdownState_frame link state s t h)
  | getPoisonList link dpa length => exact .of_frame (execGetPoisonList_frame link dpa length s t h)
  | injectPoison link dpa stamp =>
    exact .of_flash_mode (execInjectPoison_frame link dpa stamp s t h) (execInjectPoison_wf_mem link dpa stamp s t h)
  | clearPoison link dpa data stamp =>
    exact .of_flash_mode (execClearPoison_frame link dpa data stamp s t h) (execClearPoison_wf_mem link dpa data stamp s t h)
  | scanMediaCapabilities link dpa length => exact .of_frame (execScanMediaCapabilities_frame link dpa length s t h)
  | scanMedia link dpa length => exact .of_frame (execScanMedia_frame link dpa length s t h)
  | getScanMediaResults link => exact .of_frame (execGetScanMediaResults_frame link s t h)
  | scanMediaComplete link => exact .of_frame (execScanMediaComplete_frame link s t h)
  | sanitize link => exact .of_frame (execSanitize_frame link s t h)
  | sanitizeComplete => exact .of_flash_mode (execSanitizeComplete_frame s t h) (execSanitizeComplete_wf_mem s t h)
  | secureErase link => exact .of_frame (execSecureErase_frame link s t h)
  | getSecurityState link => exact .of_frame (execGetSecurityState_frame link s t h)
  | setPassphrase link master current new => exact .of_frame (execSetPassphrase_frame link master current new s t h)
  | disablePassphrase link master current => exact .of_frame (execDisablePassphrase_frame link master current s t h)
  | unlockDevice link passphrase => exact .of_frame (execUnlockDevice_frame link passphrase s t h)
  | freezeSecurityState link => exact .of_frame (execFreezeSecurityState_frame link s t h)
  | passphraseSecureErase link master passphrase =>
    exact .of_flash_mode (execPassphraseSecureErase_frame link master passphrase s t h) (execPassphraseSecureErase_wf_mem link master passphrase s t h)
  | mailboxUnsupported link opcode => exact .of_frame (execMailboxUnsupported_frame link opcode s t h)
  | prepareSleep link wakeNow memNow saveNow =>
    exact .of_frame (execPrepareSleep_frame link wakeNow memNow saveNow s t h)
  | drowseEntry wakeNow => exact .of_bytes (execDrowseEntry_frame wakeNow s t h)
  | wakeTimerFire => exact .of_frame (execWakeTimerFire_frame s t h)
  | storeAlarmRise => exact .of_frame (execStoreAlarmRise_frame s t h)
  | svcFrameStart => exact .of_frame (execSvcFrameStart_frame s t h)
  | wake source link => exact .of_frame (execWake_frame source link s t h)
  | wakeComplete us => exact .of_flash (execWakeComplete_frame us s t h) (execWakeComplete_wf_mem us s t h)
  | deskOperandStage a =>
    exact .of_flash_mode (execDeskOperandStage_frame a s t h) (execDeskOperandStage_wf_mem a s t h)
  | deskPoisonedWrite link group =>
    exact .of_flash_mode (execDeskPoisonedWrite_frame link group s t h) (execDeskPoisonedWrite_wf_mem link group s t h)
  | deskNop a => exact .of_flash_mode (execDeskNop_frame a s t h) (execDeskNop_wf_mem a s t h)
  | deskInvalidOpcode opcode a =>
    exact .of_flash_mode (execDeskInvalidOpcode_frame opcode a s t h) (execDeskInvalidOpcode_wf_mem opcode a s t h)
  | deskOpen a => exact .of_flash_mode (execDeskOpen_frame a s t h) (execDeskOpen_wf_mem a s t h)
  | deskClaim a => exact .of_flash_mode (execDeskClaim_frame a s t h) (execDeskClaim_wf_mem a s t h)
  | deskRelease a => exact .of_flash_mode (execDeskRelease_frame a s t h) (execDeskRelease_wf_mem a s t h)
  | deskCommit a => exact .of_flash_mode (execDeskCommit_frame a s t h) (execDeskCommit_wf_mem a s t h)
  | deskAbort a => exact .of_flash_mode (execDeskAbort_frame a s t h) (execDeskAbort_wf_mem a s t h)
  | rollbackComplete group =>
    exact .of_flash_mode (execRollbackComplete_frame group s t h) (execRollbackComplete_wf_mem group s t h)
  | deskBeginJoint a => exact .of_flash_mode (execDeskBeginJoint_frame a s t h) (execDeskBeginJoint_wf_mem a s t h)
  | deskPrepare a => exact .of_flash_mode (execDeskPrepare_frame a s t h) (execDeskPrepare_wf_mem a s t h)
  | deskDecide a => exact .of_flash_mode (execDeskDecide_frame a s t h) (execDeskDecide_wf_mem a s t h)
  | deskAckTerminal a => exact .of_flash_mode (execDeskAckTerminal_frame a s t h) (execDeskAckTerminal_wf_mem a s t h)
  | deskRead link group canFinish => exact .of_frame (execDeskRead_frame link group canFinish s t h)
  | decideCellReceived source txn commit =>
    exact .of_flash_mode (execDecideCellReceived_frame source txn commit s t h) (execDecideCellReceived_wf_mem source txn commit s t h)
  | ackCellReceived source txns => exact .of_frame (execAckCellReceived_frame source txns s t h)
  | queryCellReceived source txns =>
    exact .of_flash_mode (execQueryCellReceived_frame source txns s t h) (execQueryCellReceived_wf_mem source txns s t h)
  | answerCellReceived source items =>
    exact .of_flash_mode (execAnswerCellReceived_frame source items s t h) (execAnswerCellReceived_wf_mem source items s t h)
  | decideResend => exact .of_frame (execDecideResend_frame s t h)
  | prepareQueryTimer group =>
    exact .of_flash_mode (execPrepareQueryTimer_frame group s t h) (execPrepareQueryTimer_wf_mem group s t h)
  | indoubtQuery group =>
    exact .of_flash_mode (execIndoubtQuery_frame group s t h) (execIndoubtQuery_wf_mem group s t h)
  | decisionCacheExpire txn => exact .of_frame (execDecisionCacheExpire_frame txn s t h)
  | forceOutcomeWrite role value =>
    exact ⟨execForceOutcomeWrite_frame role value s t h, execForceOutcomeWrite_wf_mem role value s t h, execForceOutcomeWrite_wf_flash role value s t h⟩
  | layoutChangeWrite role entry value =>
    exact ⟨execLayoutChangeWrite_frame role entry value s t h, execLayoutChangeWrite_wf_mem role entry value s t h, execLayoutChangeWrite_wf_flash role entry value s t h⟩
  | mirrorArmingComplete window => exact .of_frame (execMirrorArmingComplete_frame window s t h)
  | burstIssue chan sub x_now corrected => exact .of_frame (execBurstIssue_frame chan sub x_now s corrected t h)
  | burstPromoted chan id x_now => exact .of_frame (execBurstPromoted_frame chan id x_now s t h)
  | burstAncient chan id x_now => exact .of_frame (execBurstAncient_frame chan id x_now s t h)
  | class0ShareInterval chan sub => exact .of_frame (execClass0ShareInterval_frame chan sub s t h)
  | refreshDue chan sub bank deviceMax x_now =>
    exact .of_frame (execRefreshDue_frame chan sub bank deviceMax x_now s t h)
  | activationLimit chan sub banks durationNs =>
    exact .of_frame (execActivationLimit_frame chan sub banks durationNs s t h)
  | bankHashWrite role sub value =>
    exact ⟨execBankHashWrite_frame role sub value s t h, execBankHashWrite_wf_mem role sub value s t h, execBankHashWrite_wf_flash role sub value s t h⟩
  | dramTrainingComplete chan rate hottestC passed =>
    exact .of_frame (execDramTrainingComplete_frame chan rate hottestC passed s t h)
  | fastBootComplete chan keyMatches crcGood passed =>
    exact .of_frame (execFastBootComplete_frame chan keyMatches crcGood passed s t h)
  | dqsTrack chan driftPs => exact .of_frame (execDqsTrack_frame chan driftPs s t h)
  | retrainTrigger chan cause => exact .of_frame (execRetrainTrigger_frame chan cause s t h)
  | retrainRequestWrite role value =>
    exact ⟨execRetrainRequestWrite_frame role value s t h, execRetrainRequestWrite_wf_mem role value s t h, execRetrainRequestWrite_wf_flash role value s t h⟩
  | gatherWindowClose chan last => exact .of_frame (execGatherWindowClose_frame chan last s t h)
  | onlineRetrainComplete chan found previousPasses hottestC =>
    exact .of_flash_mode (execOnlineRetrainComplete_frame chan found previousPasses hottestC s t h) (execOnlineRetrainComplete_wf_mem chan found previousPasses hottestC s t h)
  | searchBinComplete chan result =>
    exact .of_flash_mode (execSearchBinComplete_frame chan result s t h) (execSearchBinComplete_wf_mem chan result s t h)
  | rateMaxWrite role chan value =>
    exact ⟨execRateMaxWrite_frame role chan value s t h, execRateMaxWrite_wf_mem role chan value s t h, execRateMaxWrite_wf_flash role chan value s t h⟩
  | uncorrectableRead chan place => exact .of_frame (execUncorrectableRead_frame chan place s t h)
  | patrolScrub chan row corrected again => exact .of_frame (execPatrolScrub_frame chan row corrected again s t h)
  | rowFailed chan row spareRowLeft => exact .of_frame (execRowFailed_frame chan row spareRowLeft s t h)
  | spareRequestWrite role value =>
    exact ⟨execSpareRequestWrite_frame role value s t h, execSpareRequestWrite_wf_mem role value s t h, execSpareRequestWrite_wf_flash role value s t h⟩
  | proactiveCopyComplete => exact .of_frame (execProactiveCopyComplete_frame s t h)
  | channelLost chan cause =>
    exact .of_flash_mode (execChannelLost_frame chan cause s t h) (execChannelLost_wf_mem chan cause s t h)
  | channelRebuildComplete => exact .of_frame (execChannelRebuildComplete_frame s t h)
  | requalifyRequestWrite role value =>
    exact ⟨execRequalifyRequestWrite_frame role value s t h, execRequalifyRequestWrite_wf_mem role value s t h, execRequalifyRequestWrite_wf_flash role value s t h⟩
  | deltaLazyWrite leaf => exact .of_frame (execDeltaLazyWrite_frame leaf s t h)
  | deltaSnapshotStart => exact .of_frame (execDeltaSnapshotStart_frame s t h)
  | deltaSnapshotComplete => exact .of_frame (execDeltaSnapshotComplete_frame s t h)
  | heatDecay => exact .of_frame (execHeatDecay_frame s t h)
  | trickleCandidateRebuild => exact .of_frame (execTrickleCandidateRebuild_frame s t h)
  | trickleSelect => exact .of_flash_mode (execTrickleSelect_frame s t h) (execTrickleSelect_wf_mem s t h)
  | wearRateRecompute => exact .of_frame (execWearRateRecompute_frame s t h)
  | rehearsalDue cause => exact .of_frame (execRehearsalDue_frame cause s t h)
  | rehearsalStart => exact .of_flash_mode (execRehearsalStart_frame s t h) (execRehearsalStart_wf_mem s t h)
  | rehearsalIdleEnd eIdleMj => exact .of_frame (execRehearsalIdleEnd_frame eIdleMj s t h)
  | rehearsalRunEnd eRunMj =>
    exact .of_flash_mode (execRehearsalRunEnd_frame eRunMj s t h) (execRehearsalRunEnd_wf_mem eRunMj s t h)
  | rehearsalOverdue => exact .of_frame (execRehearsalOverdue_frame s t h)
  | drowseTricklePeriod start => exact .of_frame (execDrowseTricklePeriod_frame start s t h)
  | trestleLinkTrained port delayNs hello => exact .of_frame (execTrestleLinkTrained_frame port delayNs hello s t h)
  | trestleLinkEnableWrite role port value =>
    exact ⟨execTrestleLinkEnableWrite_frame role port value s t h, execTrestleLinkEnableWrite_wf_mem role port value s t h, execTrestleLinkEnableWrite_wf_flash role port value s t h⟩
  | trestleShutdownComplete port => exact .of_frame (execTrestleShutdownComplete_frame port s t h)
  | framePass f => exact ⟨execFramePass_frame f s t h, execFramePass_wf_mem f s t h, execFramePass_wf_flash f s t h⟩
  | frameReturn f lapNs =>
    exact ⟨execFrameReturn_frame f lapNs s t h, execFrameReturn_wf_mem f lapNs s t h, execFrameReturn_wf_flash f lapNs s t h⟩
  | cellRetransmitTimeout seq => exact .of_frame (execCellRetransmitTimeout_frame seq s t h)
  | masterTakeover => exact .of_frame (execMasterTakeover_frame s t h)
  | startupFrameTimeout => exact .of_frame (execStartupFrameTimeout_frame s t h)
  | trestleWrap port => exact .of_frame (execTrestleWrap_frame port s t h)
  | trestleUnwrap port => exact .of_frame (execTrestleUnwrap_frame port s t h)
  | timeSyncSend => exact .of_frame (execTimeSyncSend_frame s t h)
  | timeSyncReceived source wire wallNs set delayNs =>
    exact .of_frame (execTimeSyncReceived_frame source wire wallNs set delayNs s t h)
  | wakeCellReceived source reason => exact .of_frame (execWakeCellReceived_frame source reason s t h)
  | tunnelReqReceived source op m =>
    exact ⟨execTunnelReqReceived_frame source op m s t h, execTunnelReqReceived_wf_mem source op m s t h, execTunnelReqReceived_wf_flash source op m s t h⟩
  | tunnelRspReceived source tag status result handle beat items =>
    exact .of_frame (execTunnelRspReceived_frame source tag status result handle beat items s t h)
  | tunnelTimeout tag => exact .of_frame (execTunnelTimeout_frame tag s t h)
  | rowFillTimeout => exact .of_frame (execRowFillTimeout_frame s t h)
  | rowProgramComplete row =>
    exact .of_mem_mode (execRowProgramComplete_frame row s t h) (execRowProgramComplete_wf_flash row s t h)
  | nandProgramFail row slot shards chan => exact .of_frame (execNandProgramFail_frame row slot shards chan s t h)
  | checkpointStart => exact .of_frame (execCheckpointStart_frame s t h)
  | checkpointComplete => exact .of_frame (execCheckpointComplete_frame s t h)
  | gcStart read => exact .of_frame (execGcStart_frame s read t h)
  | gcVictimErased segment =>
    exact .of_mem_mode (execGcVictimErased_frame segment s t h) (execGcVictimErased_wf_flash segment s t h)
  | nandLunFailed chan lun => exact .of_frame (execNandLunFailed_frame chan lun s t h)
  | nandRebuildDone => exact .of_frame (execNandRebuildDone_frame s t h)
  | nandChannelFailed chan => exact .of_frame (execNandChannelFailed_frame chan s t h)
  | powerFailTrip thermalNow =>
    exact .of_flash (execPowerFailTrip_frame thermalNow s t h) (execPowerFailTrip_wf_mem thermalNow s t h)
  | saveBegin => exact .of_bytes (execSaveBegin_frame s t h)
  | saveAndResume role =>
    exact ⟨execSaveAndResume_frame role s t h, execSaveAndResume_wf_mem role s t h, execSaveAndResume_wf_flash role s t h⟩
  | saveAndHalt role =>
    exact ⟨execSaveAndHalt_frame role s t h, execSaveAndHalt_wf_mem role s t h, execSaveAndHalt_wf_flash role s t h⟩
  | saveDrainComplete => exact .of_flash_mode (execSaveDrainComplete_frame s t h) (execSaveDrainComplete_wf_mem s t h)
  | saveGroupSetComplete => exact .of_frame (execSaveGroupSetComplete_frame s t h)
  | saveRowStart => exact .of_frame (execSaveRowStart_frame s t h)
  | saveLeavesComplete => exact .of_frame (execSaveLeavesComplete_frame s t h)
  | saveDeltasComplete => exact .of_frame (execSaveDeltasComplete_frame s t h)
  | saveSealed energyMj => exact .of_frame (execSaveSealed_frame energyMj s t h)
  | saveEnd => exact .of_flash (execSaveEnd_frame s t h) (execSaveEnd_wf_mem s t h)
  | saveWithdrawal =>
    exact ⟨execSaveWithdrawal_frame s t h, execSaveWithdrawal_wf_mem s t h, execSaveWithdrawal_wf_flash s t h⟩
  | inputGood => exact .of_flash (execInputGood_frame s t h) (execInputGood_wf_mem s t h)
  | pfWarnAssert vinMv => exact .of_frame (execPfWarnAssert_frame vinMv s t h)
  | storeCutoff => exact .of_frame (execStoreCutoff_frame s t h)
  | vauxFall => exact .of_bytes (execVauxFall_frame s t h)
  | bringUpComplete b =>
    exact ⟨execBringUpComplete_frame b s t h, execBringUpComplete_wf_mem b s t h, execBringUpComplete_wf_flash b s t h⟩
  | leafMapRebuildComplete => exact .of_frame (execLeafMapRebuildComplete_frame s t h)
  | groupSetLoadComplete ms =>
    exact .of_flash_mode (execGroupSetLoadComplete_frame ms s t h) (execGroupSetLoadComplete_wf_mem ms s t h)
  | stringFailed string => exact .of_frame (execStringFailed_frame string s t h)
  | chargerCvReached => exact .of_frame (execChargerCvReached_frame s t h)
  | prechargeDone => exact .of_frame (execPrechargeDone_frame s t h)
  | chargerFull => exact .of_frame (execChargerFull_frame s t h)
  | chargerRecharge => exact .of_frame (execChargerRecharge_frame s t h)
  | chargeTimeout => exact .of_frame (execChargeTimeout_frame s t h)
  | chargerFaultClear role value =>
    exact ⟨execChargerFaultClear_frame role value s t h, execChargerFaultClear_wf_mem role value s t h, execChargerFaultClear_wf_flash role value s t h⟩
  | chargerFaultRecover => exact .of_frame (execChargerFaultRecover_frame s t h)
  | healthTestDue cause => exact .of_frame (execHealthTestDue_frame cause s t h)
  | healthTestStart => exact .of_flash_mode (execHealthTestStart_frame s t h) (execHealthTestStart_wf_mem s t h)
  | healthTestEnd capMf esrMohm stringCapMf =>
    exact .of_flash_mode (execHealthTestEnd_frame capMf esrMohm stringCapMf s t h) (execHealthTestEnd_wf_mem capMf esrMohm stringCapMf s t h)
  | niuraCalibration largeMove refsDisagree =>
    exact .of_frame (execNiuraCalibration_frame largeMove refsDisagree s t h)
  | niuraShellWatchdog => exact .of_frame (execNiuraShellWatchdog_frame s t h)
  | storeOvervoltage mv => exact .of_frame (execStoreOvervoltage_frame mv s t h)
  | cellOvervoltage cell mv => exact .of_frame (execCellOvervoltage_frame cell mv s t h)
  | busOvervoltage mv => exact .of_frame (execBusOvervoltage_frame mv s t h)
  | holdupOverload us => exact .of_frame (execHoldupOverload_frame us s t h)
  | railStable rail => exact .of_frame (execRailStable_frame rail s t h)
  | railDown => exact .of_bytes (execRailDown_frame s t h)
  | pgGlitch rail => exact .of_bytes (execPgGlitch_frame rail s t h)
  | seqTimeout => exact .of_bytes (execSeqTimeout_frame s t h)
  | seqRetryWaitEnd => exact .of_frame (execSeqRetryWaitEnd_frame s t h)
  | seqRetryRequest role value =>
    exact ⟨execSeqRetryRequest_frame role value s t h, execSeqRetryRequest_wf_mem role value s t h, execSeqRetryRequest_wf_flash role value s t h⟩
  | railFault rail mv => exact .of_flash (execRailFault_frame rail mv s t h) (execRailFault_wf_mem rail mv s t h)
  | railGraceExpire group =>
    exact .of_flash (execRailGraceExpire_frame group s t h) (execRailGraceExpire_wf_mem group s t h)
  | retryRailExpire rail => exact .of_frame (execRetryRailExpire_frame rail s t h)
  | groupEnableWrite role group value =>
    exact ⟨execGroupEnableWrite_frame role group value s t h, execGroupEnableWrite_wf_mem role group value s t h, execGroupEnableWrite_wf_flash role group value s t h⟩
  | powerOnReset => exact .of_flash (execPowerOnReset_frame s t h) (execPowerOnReset_wf_mem s t h)
  | coldReset cause => exact .of_flash (execColdReset_frame cause s t h) (execColdReset_wf_mem cause s t h)
  | coldResetRequest role value =>
    exact ⟨execColdResetRequest_frame role value s t h, execColdResetRequest_wf_mem role value s t h, execColdResetRequest_wf_flash role value s t h⟩
  | bureauResetRequest role value =>
    exact ⟨execBureauResetRequest_frame role value s t h, execBureauResetRequest_wf_mem role value s t h, execBureauResetRequest_wf_flash role value s t h⟩
  | bureauReloadComplete =>
    exact ⟨execBureauReloadComplete_frame s t h, execBureauReloadComplete_wf_mem s t h, execBureauReloadComplete_wf_flash s t h⟩
  | blockResetRequest role value =>
    exact ⟨execBlockResetRequest_frame role value s t h, execBlockResetRequest_wf_mem role value s t h, execBlockResetRequest_wf_flash role value s t h⟩
  | blockResetComplete code =>
    exact .of_flash_mode (execBlockResetComplete_frame code s t h) (execBlockResetComplete_wf_mem code s t h)
  | dictRead m => exact ⟨execDictRead_frame m s t h, execDictRead_wf_mem m s t h, execDictRead_wf_flash m s t h⟩
  | dictWrite m => exact ⟨execDictWrite_frame m s t h, execDictWrite_wf_mem m s t h, execDictWrite_wf_flash m s t h⟩
  | dictDescribe m =>
    exact ⟨execDictDescribe_frame m s t h, execDictDescribe_wf_mem m s t h, execDictDescribe_wf_flash m s t h⟩
  | setOpen m => exact ⟨execSetOpen_frame m s t h, execSetOpen_wf_mem m s t h, execSetOpen_wf_flash m s t h⟩
  | setAdd m => exact ⟨execSetAdd_frame m s t h, execSetAdd_wf_mem m s t h, execSetAdd_wf_flash m s t h⟩
  | setSubmit m => exact ⟨execSetSubmit_frame m s t h, execSetSubmit_wf_mem m s t h, execSetSubmit_wf_flash m s t h⟩
  | setDiscard m =>
    exact ⟨execSetDiscard_frame m s t h, execSetDiscard_wf_mem m s t h, execSetDiscard_wf_flash m s t h⟩
  | setStatus m => exact ⟨execSetStatus_frame m s t h, execSetStatus_wf_mem m s t h, execSetStatus_wf_flash m s t h⟩
  | setIdleTimeout slot => exact .of_frame (execSetIdleTimeout_frame slot s t h)
  | registerWrite role x_index sub value len =>
    exact ⟨execRegisterWrite_frame role x_index sub value len s t h, execRegisterWrite_wf_mem role x_index sub value len s t h, execRegisterWrite_wf_flash role x_index sub value len s t h⟩
  | wallTimeWrite role value =>
    exact ⟨execWallTimeWrite_frame role value s t h, execWallTimeWrite_wf_mem role value s t h, execWallTimeWrite_wf_flash role value s t h⟩
  | faultClear role block value =>
    exact ⟨execFaultClear_frame role block value s t h, execFaultClear_wf_mem role block value s t h, execFaultClear_wf_flash role block value s t h⟩
  | injectedLiveClear block => exact .of_frame (execInjectedLiveClear_frame block s t h)
  | chestEflashSpool => exact .of_frame (execChestEflashSpool_frame s t h)
  | chestRingFailed lost => exact .of_frame (execChestRingFailed_frame lost s t h)
  | chestReadRecord role => exact .of_frame (execChestReadRecord_frame role s t h)
  | injectorFire block => exact .of_flash (execInjectorFire_frame block s t h) (execInjectorFire_wf_mem block s t h)
  | pairFail pair => exact .of_frame (execPairFail_frame pair s t h)
  | pairTakeoverComplete role => exact .of_frame (execPairTakeoverComplete_frame role s t h)
  | spareSelfTest passed => exact .of_frame (execSpareSelfTest_frame passed s t h)
  | sramRepair array column => exact .of_frame (execSramRepair_frame array column s t h)
  | sramUe owner => exact .of_frame (execSramUe_frame owner s t h)
  | irqSourceRaise source => exact .of_frame (execIrqSourceRaise_frame source s t h)
  | irqClaim role => exact .of_frame (execIrqClaim_frame role s t h)
  | irqComplete role source => exact .of_frame (execIrqComplete_frame role source s t h)
  | irqModerationExpire group => exact .of_frame (execIrqModerationExpire_frame group s t h)
  | eflashProgram bank start => exact .of_frame (execEflashProgram_frame bank start s t h)
  | eflashSectorErase bank => exact .of_frame (execEflashSectorErase_frame bank s t h)
  | eflashBankErase bank => exact .of_frame (execEflashBankErase_frame bank s t h)
  | eflashSuspend bank => exact .of_frame (execEflashSuspend_frame bank s t h)
  | eflashResume bank => exact .of_frame (execEflashResume_frame bank s t h)
  | eflashMarginRead bank mode => exact .of_frame (execEflashMarginRead_frame bank mode s t h)
  | eflashReadStatus bank => exact .of_frame (execEflashReadStatus_frame bank s t h)
  | eflashExit bank => exact .of_frame (execEflashExit_frame bank s t h)
  | eflashDataWrite bank offset data => exact .of_frame (execEflashDataWrite_frame bank offset data s t h)
  | eflashBadStore bank => exact .of_frame (execEflashBadStore_frame bank s t h)
  | eflashUnlockTimeout bank => exact .of_frame (execEflashUnlockTimeout_frame bank s t h)
  | eflashRead bank offset debug corrected uncorrectable =>
    exact .of_frame (execEflashRead_frame bank offset debug corrected uncorrectable s t h)
  | eflashOperationComplete bank passed => exact .of_frame (execEflashOperationComplete_frame bank passed s t h)
  | eflashBrownout => exact .of_frame (execEflashBrownout_frame s t h)
  | brownoutRecover => exact .of_frame (execBrownoutRecover_frame s t h)
  | scrubSweep bank sector fails uncorrectable last =>
    exact .of_frame (execScrubSweep_frame bank sector fails uncorrectable last s t h)
  | fullRefresh bank sector uncorrectable last =>
    exact .of_frame (execFullRefresh_frame bank sector uncorrectable last s t h)
  | rdpRaise role value =>
    exact ⟨execRdpRaise_frame role value s t h, execRdpRaise_wf_mem role value s t h, execRdpRaise_wf_flash role value s t h⟩
  | rdpLowerArm role value =>
    exact ⟨execRdpLowerArm_frame role value s t h, execRdpLowerArm_wf_mem role value s t h, execRdpLowerArm_wf_flash role value s t h⟩
  | rdpLower role =>
    exact ⟨execRdpLower_frame role s t h, execRdpLower_wf_mem role s t h, execRdpLower_wf_flash role s t h⟩
  | keyRevokeArm role value =>
    exact ⟨execKeyRevokeArm_frame role value s t h, execKeyRevokeArm_wf_mem role value s t h, execKeyRevokeArm_wf_flash role value s t h⟩
  | keyRevokeRequest role value =>
    exact ⟨execKeyRevokeRequest_frame role value s t h, execKeyRevokeRequest_wf_mem role value s t h, execKeyRevokeRequest_wf_flash role value s t h⟩
  | svcHello seq => exact .of_frame (execSvcHello_frame seq s t h)
  | svcSetRate seq code => exact .of_frame (execSvcSetRate_frame seq code s t h)
  | svcRateFallback => exact .of_frame (execSvcRateFallback_frame s t h)
  | imageBegin seq length => exact .of_frame (execImageBegin_frame seq length s t h)
  | imageData seq offset data => exact .of_frame (execImageData_frame seq offset data s t h)
  | imageEnd seq => exact .of_frame (execImageEnd_frame seq s t h)
  | imageActivate seq x_now =>
    exact .of_flash (execImageActivate_frame seq x_now s t h) (execImageActivate_wf_mem seq x_now s t h)
  | imageAbort seq => exact .of_frame (execImageAbort_frame seq s t h)
  | svcUnknownType seq type => exact .of_frame (execSvcUnknownType_frame seq type s t h)
  | svcFrameBad => exact .of_frame (execSvcFrameBad_frame s t h)
  | spdmGetVersion endpoint => exact .of_frame (execSpdmGetVersion_frame endpoint s t h)
  | spdmGetCapabilities endpoint => exact .of_frame (execSpdmGetCapabilities_frame endpoint s t h)
  | spdmNegotiateAlgorithms endpoint => exact .of_frame (execSpdmNegotiateAlgorithms_frame endpoint s t h)
  | spdmGetDigests endpoint => exact .of_frame (execSpdmGetDigests_frame endpoint s t h)
  | spdmGetCertificate endpoint slot offset length =>
    exact .of_frame (execSpdmGetCertificate_frame endpoint slot offset length s t h)
  | spdmChallenge endpoint slot summary nonce =>
    exact .of_frame (execSpdmChallenge_frame endpoint slot summary nonce s t h)
  | spdmGetMeasurements endpoint x_index sign nonce =>
    exact .of_frame (execSpdmGetMeasurements_frame endpoint x_index sign nonce s t h)
  | spdmChunkSend endpoint seq last chunk => exact .of_frame (execSpdmChunkSend_frame endpoint seq last chunk s t h)
  | spdmChunkGet endpoint seq => exact .of_frame (execSpdmChunkGet_frame endpoint seq s t h)
  | spdmRespondIfReady endpoint => exact .of_frame (execSpdmRespondIfReady_frame endpoint s t h)
  | spdmUnsupported endpoint code => exact .of_frame (execSpdmUnsupported_frame endpoint code s t h)
  | ptRun role value bits errors line =>
    exact ⟨execPtRun_frame role value bits errors line s t h, execPtRun_wf_mem role value bits errors line s t h, execPtRun_wf_flash role value bits errors line s t h⟩
  | marginRun role value =>
    exact ⟨execMarginRun_frame role value s t h, execMarginRun_wf_mem role value s t h, execMarginRun_wf_flash role value s t h⟩
  | marginRunComplete unit firstFailing => exact .of_frame (execMarginRunComplete_frame unit firstFailing s t h)
  | tapExtest => exact .of_frame (execTapExtest_frame s t h)
  | tapIdcode => exact .of_frame (execTapIdcode_frame s t h)
  | tapSamplePreload => exact .of_frame (execTapSamplePreload_frame s t h)
  | tapClamp => exact .of_frame (execTapClamp_frame s t h)
  | tapHighz => exact .of_frame (execTapHighz_frame s t h)
  | tapExtestPulse => exact .of_frame (execTapExtestPulse_frame s t h)
  | tapExtestTrain => exact .of_frame (execTapExtestTrain_frame s t h)
  | tapTestAccess => exact .of_frame (execTapTestAccess_frame s t h)
  | tapBypass => exact .of_frame (execTapBypass_frame s t h)
  | avsCheck guardMv => exact .of_frame (execAvsCheck_frame guardMv s t h)
  | thermalLifeLog => exact .of_frame (execThermalLifeLog_frame s t h)
  | hdmDecoderCommit link decoder dpaBase size ways granularity =>
    exact .of_frame (execHdmDecoderCommit_frame link decoder dpaBase size ways granularity s t h)
  | msixVectorUnmask link vector => exact .of_frame (execMsixVectorUnmask_frame link vector s t h)
  | l0pHostRequest link width => exact .of_frame (execL0pHostRequest_frame link width s t h)
  | doeCdatAccess link table => exact .of_frame (execDoeCdatAccess_frame link table s t h)
  | laneMargining link lane voltage step => exact .of_frame (execLaneMargining_frame link lane voltage step s t h)
  | checkerLock unit => exact .of_frame (execCheckerLock_frame unit s t h)
  | checkerLockLoss unit bits errors => exact .of_frame (execCheckerLockLoss_frame unit bits errors s t h)
  | busBelowHuBusMin mv =>
    exact .of_flash_mode (execBusBelowHuBusMin_frame mv s t h) (execBusBelowHuBusMin_wf_mem mv s t h)
  | ocvCorrection => exact .of_frame (execOcvCorrection_frame s t h)
  | entdaa address => exact .of_frame (execEntdaa_frame address s t h)
  | setdasa x_static address => exact .of_frame (execSetdasa_frame x_static address s t h)

/-- Settles O2: the queue is among what every command keeps. -/
theorem commandsKeepTheQueue : Obligations.CommandsKeepTheQueue := by
  unfold Obligations.CommandsKeepTheQueue
  exact fun c s t h => (exec_queueAndFormKept c s t h).pending

theorem step_eq_exec {s : State} {c : Instr} {rest : List Instr} (h : s.pending = c :: rest) :
    step s = exec c { s with pending := rest } := by
  simp only [step, h]

theorem step_of_pending_nil {s : State} (h : s.pending = []) : step s = .next s := by
  simp only [step, h]

/-- Settles O1: the step is the command's, and the command keeps the rest of the queue. -/
theorem stepTakesFront : Obligations.StepTakesFront := by
  unfold Obligations.StepTakesFront
  refine ⟨fun s c rest hpending => ⟨step_eq_exec hpending, fun t ht => ?_⟩, fun s => step_of_pending_nil⟩
  rw [step_eq_exec hpending] at ht
  exact (exec_queueAndFormKept c { s with pending := rest } t ht).pending

theorem State.memWf_iff (s : State) : s.memWf = true ↔ Mem.wf s.mem = true ∧ Flash.wf s.nand.flash = true := by
  simp only [State.memWf, Bool.and_eq_true]

/-- Settles O3: an idle step answers the same state, and every other step is a command, which keeps the canonical form. -/
theorem memoryStaysCanonical : Obligations.MemoryStaysCanonical := by
  unfold Obligations.MemoryStaysCanonical
  intro s t hwf ht
  obtain ⟨hmem, hflash⟩ := s.memWf_iff.mp hwf
  cases hpending : s.pending with
  | nil =>
    rw [step_of_pending_nil hpending] at ht
    cases ht
    exact hwf
  | cons c rest =>
    rw [step_eq_exec hpending] at ht
    have hkept := exec_queueAndFormKept c { s with pending := rest } t ht
    exact t.memWf_iff.mpr ⟨hkept.mem hmem, hkept.flash hflash⟩

end Sys2Proof.Machine
end

section
/-! PROOFS. Niura: the charger and the store, health tests, and the hard protections (chapter 12). What an alarm and the
charger's FAULT change comes first; each event is then its own update of Niura with the reports that follow. -/

namespace Sys2Proof.Machine

/-! ### Reports and Niura -/

/-- Reports leave Niura. -/
theorem SameButReports.niura {s t : State} (h : SameButReports s t) : t.niura = s.niura := by rw [h.1]

theorem SameButReports.layout {s t : State} (h : SameButReports s t) : t.layout = s.layout := by rw [h.1]

theorem SameButReports.security {s t : State} (h : SameButReports s t) : t.security = s.security := by rw [h.1]

/-- The same change of Niura before reports and after them. -/
theorem SameButReports.niura_both {s t : State} (h : SameButReports s t) (n : Niura) :
    SameButReports { s with niura := n } { t with niura := n } := by
  obtain ⟨h1, h2, h3, h4, h5, h6⟩ := h
  refine ⟨?_, h2, h3, h4, h5, h6⟩
  conv_lhs => rw [h1]

/-- No entry of chapter 12 is one that a wake moves. -/
theorem key_notMem_windowEntries_of_le {idx sub : Nat} (h : 0x4000 ≤ idx) : key idx sub ∉ windowEntries := by
  simp only [windowEntries, key, List.mem_map, List.mem_range, not_exists, not_and]
  omega

/-- Reports leave an entry of chapter 12. -/
theorem SameButReports.niura_reg {s t : State} (h : SameButReports s t) {idx sub : Nat} (hidx : 0x4000 ≤ idx)
    (hk : key idx sub ∉ reportEntries) : t.reg idx sub = s.reg idx sub :=
  h.reg_kept hk (key_notMem_windowEntries_of_le hidx)

theorem State.condition_kept (s : State) (code : Nat) (stands : Bool) (d : Nat) (more : List Nat) :
    RecordKept s (s.condition code stands d more) := by
  unfold State.condition
  split
  · split
    · exact .refl s
    · exact State.fault_kept _ _ _ _ _
  · refine ⟨rfl, fun _ _ _ => rfl, fun c hc => ?_⟩
    rw [State.hasFault, State.faultGroup, State.condClear]
    by_cases hblock : c / 32 = code / 32
    · rw [hblock, Map.get_put_self, ← hblock]
      exact hc
    · rw [Map.get_put_of_ne _ _ _ _ _ hblock]
      exact hc

theorem State.conditionOpen_kept (s : State) (code : Nat) (stands : Bool) : RecordKept s (s.conditionOpen code stands) :=
  RecordKept.trans (t := s.drawn) ⟨rfl, fun _ _ _ => rfl, fun _ h => h⟩ (State.condition_kept _ _ _ _ _)

theorem State.fault_hasFault (s : State) (code d : Nat) (live : Bool) (more : List Nat) :
    (s.fault code d live more).hasFault code = true := by
  refine (State.record_kept _ _ _ _).faults code ?_
  rw [State.occur_hasFault, decide_eq_true rfl, Bool.or_true]

/-! ### The store alarm and the charger's FAULT (R303, R305) -/

/-- The alarm word with a bit set. -/
def alarmed (word n : Nat) : Nat := if word / 2 ^ n % 2 = 1 then word else word + 2 ^ n

theorem alarmed_bit (word n : Nat) : alarmed word n / 2 ^ n % 2 = 1 := by
  unfold alarmed
  split
  · assumption
  · rw [Nat.add_div_right _ (Nat.two_pow_pos n)]
    omega

/-- An alarm sets its bit; what else it does is a wake source that fires. -/
theorem State.alarmBit_reports (s : State) (n : Nat) :
    SameButReports (s.setReg 0x6080 0 (alarmed (s.reg 0x6080 0) n)) (s.alarmBit n) := by
  unfold State.alarmBit
  dsimp only
  split
  · exact State.fire_reports _ _ _
  · exact .refl _

/-- Data, Niura and the entries but one stay, through a write of that entry and reports. -/
structure AlarmSet (s t : State) : Prop where
  data : DataKept s t
  niura : t.niura = s.niura
  regs : RegsKept s t [key 0x6080 0]

theorem AlarmSet.reports {s t u : State} (h : AlarmSet s t) (k : SameButReports t u) : AlarmSet s u :=
  ⟨h.data.reports k, k.niura.trans h.niura, h.regs.reports h.data k⟩

theorem State.alarmBit_alarmSet (s : State) (n : Nat) : AlarmSet s (s.alarmBit n) := by
  have hset : AlarmSet s (s.setReg 0x6080 0 (alarmed (s.reg 0x6080 0) n)) :=
    ⟨⟨rfl, rfl, rfl, rfl, rfl, rfl⟩, rfl, (RegsKept.of_regs rfl _).put (List.mem_singleton_self _) _ rfl⟩
  exact hset.reports (s.alarmBit_reports n)

/-- The bit of an alarm stands after it and after the reports that follow. -/
theorem State.alarmBit_bit {s t : State} {n : Nat} (h : SameButReports (s.alarmBit n) t) :
    t.reg 0x6080 0 / 2 ^ n % 2 = 1 := by
  have hreg := ((s.alarmBit_reports n).trans h).niura_reg (idx := 0x6080) (sub := 0) (by decide) (by decide)
  rw [hreg, State.reg_of_find? (Map.find?_put_self _ _ _)]
  exact alarmed_bit _ n

/-- Niura as the charger's FAULT leaves it. -/
def Niura.faulted (n : Niura) (cause : ChargerCause) : Niura :=
  { n with
    charger := .fault
    faultBeats := 0
    faultTimeout := n.faultTimeout || decide (cause = .timeout)
    faultOver := n.faultOver || decide (cause ≠ .timeout)
    chargeBeats := if n.charger = .fault then n.chargeBeats else 0 }

/-- FAULT is entered with its alarm and its record; in FAULT a further cause only stands beside the first (R302, R303). -/
theorem State.chargerFault_spec (s : State) (cause : ChargerCause) :
    DataKept s (s.chargerFault cause) ∧ (s.chargerFault cause).niura = s.niura.faulted cause
      ∧ RegsKept s (s.chargerFault cause) [key 0x6080 0]
      ∧ (s.niura.charger ≠ .fault → (s.chargerFault cause).reg 0x6080 0 / 8 % 2 = 1
          ∧ (s.chargerFault cause).hasFault Code.chargerFault = true) := by
  unfold State.chargerFault
  dsimp only
  split
  next hin =>
    refine ⟨⟨rfl, rfl, rfl, rfl, rfl, rfl⟩, ?_, .of_regs rfl _, fun h => absurd hin h⟩
    simp only [Niura.faulted, if_pos hin]
  next hout =>
    have hentered : AlarmSet { s with niura := s.niura.faulted cause } _ :=
      (State.alarmBit_alarmSet { s with niura := s.niura.faulted cause } 3).reports
        (State.fault_reports _ Code.chargerFault (Config.chargerCause cause.code) true [])
    have hbit := State.alarmBit_bit (s := { s with niura := s.niura.faulted cause }) (n := 3)
      (State.fault_reports _ Code.chargerFault (Config.chargerCause cause.code) true [])
    simp only [Niura.faulted, if_neg hout] at hentered hbit ⊢
    exact ⟨hentered.data, hentered.niura, hentered.regs, fun _ => ⟨hbit, State.fault_hasFault _ _ _ _ _⟩⟩

/-! ### The charger and the strings (Table 12.4, R301) -/

theorem chargerFull_spec (s : State) (hcv : s.niura.charger = .cv) (hterm : 100 ≤ s.niura.termBeats) :
    ∃ t, exec .chargerFull s = .next t ∧ SameButReports { s with
      out := [], bureau := t.bureau,
      niura := { s.niura with
        charger := .full, termBeats := 0, chargeBeats := 0, firstFull := false,
        healthDue := s.niura.healthDue || s.niura.firstFull } } t
      ∧ (s.niura.firstFull = false → t.bureau = s.bureau) := by
  refine ⟨_, congrArg Host.Outcome.next (if_pos ⟨hcv, hterm⟩), ?_⟩
  by_cases hfirst : s.niura.firstFull = true
  · have hdue : (s.fresh.setCharger .full).niura.firstFull = true := hfirst
    simp only [if_pos hdue, hfirst]
    refine ⟨?_, fun h => nomatch h⟩
    simp only [State.healthFallsDue, State.raiseSource, Bool.or_false, Bool.or_true]
    exact .refl _
  · have hnot : ¬ (s.fresh.setCharger .full).niura.firstFull = true := hfirst
    simp only [if_neg hnot, Bool.not_eq_true _ ▸ hfirst, Bool.or_false]
    exact ⟨.refl _, fun _ => rfl⟩

theorem chargeTimeout_spec (s : State)
    (hcharging : s.niura.charger = .precharge ∨ s.niura.charger = .cc ∨ s.niura.charger = .cv)
    (hlong : s.reg 0x6025 0 * 6000000 < s.niura.chargeBeats) :
    ∃ t, exec .chargeTimeout s = .next t ∧ DataKept s t ∧ t.niura.charger = .fault ∧ t.niura.faultTimeout = true
      ∧ t.reg 0x6080 0 / 8 % 2 = 1 ∧ t.hasFault Code.chargerFault = true ∧ RegsKept s t [key 0x6080 0] := by
  obtain ⟨hdata, hniura, hregs, halarm⟩ := s.fresh.chargerFault_spec .timeout
  have hnot : s.niura.charger ≠ .fault := by
    rintro h
    simp only [h, reduceCtorEq, or_self] at hcharging
  obtain ⟨hbit, hfault⟩ := halarm hnot
  exact ⟨_, congrArg Host.Outcome.next (if_pos ⟨hcharging, hlong⟩), hdata, by rw [hniura]; rfl,
    by rw [hniura]; exact Bool.or_true _, hbit, hfault, hregs⟩

/-- A string's switch has opened. -/
def State.stringOut (s : State) (k : Nat) : State :=
  { s with niura := { s.niura with switchedOut := s.niura.switchedOut ++ [k], share := s.niura.share.del k } }

theorem State.stringFails_reports (s : State) (k : Nat) :
    SameButReports ((s.stringOut k).alarmBit 0) (s.stringFails k) := State.faultOpen_reports _ _ _

theorem stringFailed_spec (s : State) (k : Fin 4) (hin : s.stringsIn.contains k.val = true)
    (hjudged : 10 ≤ s.niura.share.get k.val 0) :
    ∃ t, exec (.stringFailed k) s = .next t ∧ DataKept s t ∧ t.niura.switchedOut = s.niura.switchedOut ++ [k.val]
      ∧ t.reg 0x6080 0 % 2 = 1 ∧ t.hasFault Code.stringFailed = true ∧ RegsKept s t [key 0x6080 0] := by
  have hreports := s.fresh.stringFails_reports k.val
  obtain ⟨hdata, hniura, hregs⟩ := (State.alarmBit_alarmSet (s.fresh.stringOut k.val) 0).reports hreports
  have hbit := State.alarmBit_bit hreports
  rw [pow_zero, Nat.div_one] at hbit
  exact ⟨_, congrArg Host.Outcome.next (if_pos ⟨hin, hjudged⟩), hdata, congrArg Niura.switchedOut hniura, hbit,
    State.faultOpen_hasFault _ _ _, hregs⟩

/-- The store at its cutoff stops the converter, and DRAM loses power (R298). -/
theorem exec_storeCutoff (s : State) (hsupply : s.niura.supply = .holdup) (hlow : s.vOc ≤ s.vCut) :
    exec .storeCutoff s = .next { s with
      out := [], niura := { s.niura with supply := .cutoff },
      ctl := { s.ctl with dramHeld := false, retention := false } } :=
  congrArg Host.Outcome.next (if_pos ⟨hsupply, hlow⟩)

/-- PF_WARN_N is reported as it is asserted, and is not asserted again (R296). -/
theorem State.warn_reports (s : State) :
    SameButReports { s with bureau := s.warn.bureau, niura := { s.niura with pfWarn := true } } s.warn := by
  unfold State.warn
  split
  next hstands =>
    have hsame : { s with niura := { s.niura with pfWarn := true } } = s := by rw [← hstands]
    rw [hsame]
    exact .refl s
  next =>
    have hreports := (State.signalOn_reports ({ s with niura := { s.niura with pfWarn := true } }.raiseSource 48)
      s.upLinks 5).trans (State.note_reports _ Code.pfWarn [])
    have hbureau : (((({ s with niura := { s.niura with pfWarn := true } }.raiseSource 48).signalOn s.upLinks 5).note
        Code.pfWarn).bureau) = ({ s with niura := { s.niura with pfWarn := true } }.raiseSource 48).bureau := by
      rw [hreports.1]
    rw [hbureau]
    exact hreports

/-- Settles O45: each event of the charger is its own update; FAULT and a failed string set the alarm (`alarmBit_alarmSet`). -/
theorem chargerAndStore : Obligations.ChargerAndStore := by
  unfold Obligations.ChargerAndStore
  refine ⟨fun s hpre hcells => ?_, fun s hcc hcharged => ?_, chargerFull_spec, fun s hfull hfallen => ?_, chargeTimeout_spec,
    fun s hfault htime habsent => ?_, stringFailed_spec, exec_storeCutoff, fun s mv hvaux hlow => ?_⟩
  · exact congrArg Host.Outcome.next (if_pos ⟨hpre, hcells⟩)
  · exact congrArg Host.Outcome.next (if_pos ⟨hcc, hcharged⟩)
  · exact congrArg Host.Outcome.next (if_pos ⟨hfull, hfallen⟩)
  · exact ⟨_, congrArg Host.Outcome.next (if_pos ⟨hfault, htime, habsent⟩), State.condClear_reports _ _⟩
  · exact ⟨_, congrArg Host.Outcome.next (if_pos ⟨hvaux, hlow⟩), s.fresh.warn_reports⟩

end Sys2Proof.Machine
end

section
/-! PROOFS. Niura: health tests, the shell, and the hard protections (R306 to R316, R472, R473). A test's end is the return to
INPUT, what its result stores, and the reports that follow. -/

namespace Sys2Proof.Machine

/-! ### Health tests (R306, R307) -/

theorem healthTestDue_spec (s : State) (cause : DueCause)
    (hperiod : cause = .period → s.reg 0x6050 0 ≤ s.reg 0x4040 2 - s.niura.healthHour)
    (hsave : cause = .afterSave → s.niura.firstFull = true ∧ s.niura.charger = .full) :
    ∃ t, exec (.healthTestDue cause) s = .next t ∧ SameButReports { s with
      out := [], bureau := t.bureau,
      niura := { s.niura with
        healthDue := true, healthTrial := s.niura.healthTrial || decide (cause = .request) } } t := by
  have hstep : exec (.healthTestDue cause) s = .next (s.fresh.healthFallsDue (decide (cause = .request))) := by
    refine congrArg Host.Outcome.next (if_pos ?_)
    cases cause with
    | period => exact decide_eq_true (hperiod rfl)
    | afterSave =>
      obtain ⟨hfirst, hfull⟩ := hsave rfl
      simp only [hfirst, hfull, decide_true, Bool.and_self]
    | request => rfl
  exact ⟨_, hstep, .refl _⟩

theorem healthTestStart_spec (s : State) (hdue : s.niura.healthDue = true)
    (hmode : s.ctl.mode = .online ∨ s.ctl.mode = .drowse) (hfull : s.niura.charger = .full)
    (hrehearsal : s.trickle.rehearsal = .none ∨ s.trickle.rehearsal = .due) (hhold : s.holding = false)
    (hinput : s.niura.supply = .input) (hshell : s.niura.shellUp = true) :
    ∃ t, exec .healthTestStart s = .next t ∧ DataKept s t ∧ t.regs = s.regs ∧ t.niura.supply = .test
      ∧ t.niura.isolationOpen = false ∧ t.niura.charger = .paused ∧ t.niura.resume = .full ∧ t.niura.healthDue = false
      ∧ t.niura.healthHour = s.reg 0x4040 2 := by
  refine ⟨_, congrArg Host.Outcome.next (if_pos ⟨hdue, hmode, hfull, hrehearsal, hhold, hinput, hshell⟩),
    ⟨rfl, rfl, rfl, rfl, rfl, rfl⟩, rfl, rfl, rfl, ?_, ?_, rfl, rfl⟩ <;>
    simp only [State.leaveInput, hfull, ne_eq, reduceCtorEq, not_false_eq_true, decide_true, Bool.and_self, if_true]

/-- The strings still switched out once a test has measured some (R301). -/
def Niura.stillOut (n : Niura) (strings : Map Nat) : List Nat :=
  n.switchedOut.filter fun k => !n.healthTrial || (strings.find? k).isNone

theorem Niura.mem_stillOut (n : Niura) (strings : Map Nat) (k : Nat) :
    k ∈ n.stillOut strings ↔ k ∈ n.switchedOut ∧ (n.healthTrial = true → strings.find? k = none) := by
  simp only [Niura.stillOut, List.mem_filter, Bool.or_eq_true, Bool.not_eq_true', Option.isNone_iff_eq_none,
    ← Bool.not_eq_true, ← imp_iff_not_or]

/-- An accepted result as it is stored, before the end of life is judged (R307). -/
def State.healthStored (s : State) (cap esr : Nat) (strings : Map Nat) : State :=
  let t := strings.foldl (fun (u : State) (e : Nat × Nat) => u.setReg (0x6040 + e.1) 2 e.2)
    ((s.setReg 0x6054 0 cap).setReg 0x6055 0 esr)
  { t with niura := { t.niura with accepted := true, switchedOut := t.niura.stillOut strings } }

/-- Capacitances of strings are stored beside the results: no other entry moves, and nothing but entries. -/
theorem State.storeStrings_spec (strings : Map Nat) (s : State) :
    DataKept s (strings.foldl (fun (u : State) (e : Nat × Nat) => u.setReg (0x6040 + e.1) 2 e.2) s)
      ∧ (strings.foldl (fun (u : State) (e : Nat × Nat) => u.setReg (0x6040 + e.1) 2 e.2) s).niura = s.niura
      ∧ ∀ idx, (strings.foldl (fun (u : State) (e : Nat × Nat) => u.setReg (0x6040 + e.1) 2 e.2) s).reg idx 0
          = s.reg idx 0 := by
  induction strings generalizing s with
  | nil => exact ⟨⟨rfl, rfl, rfl, rfl, rfl, rfl⟩, rfl, fun _ => rfl⟩
  | cons e strings ih =>
    obtain ⟨hdata, hniura, hreg⟩ := ih (s.setReg (0x6040 + e.1) 2 e.2)
    refine ⟨DataKept.trans ⟨rfl, rfl, rfl, rfl, rfl, rfl⟩ hdata, hniura, fun idx => (hreg idx).trans ?_⟩
    refine s.reg_setReg_of_ne _ ?_
    unfold key
    omega

theorem State.healthStored_spec (s : State) (cap esr : Nat) (strings : Map Nat) :
    DataKept s (s.healthStored cap esr strings)
      ∧ (s.healthStored cap esr strings).niura
        = { s.niura with accepted := true, switchedOut := s.niura.stillOut strings }
      ∧ (s.healthStored cap esr strings).reg 0x6054 0 = cap ∧ (s.healthStored cap esr strings).reg 0x6055 0 = esr := by
  obtain ⟨hdata, hniura, hreg⟩ := State.storeStrings_spec strings ((s.setReg 0x6054 0 cap).setReg 0x6055 0 esr)
  refine ⟨DataKept.trans ⟨rfl, rfl, rfl, rfl, rfl, rfl⟩ hdata, ?_, (hreg 0x6054).trans ?_, (hreg 0x6055).trans ?_⟩
  · rw [State.healthStored, hniura]
    rfl
  · rw [State.reg_setReg_of_ne _ _ (by decide), State.reg_setReg_self]
  · rw [State.reg_setReg_self]

/-- What follows an accepted result: reports, and at the end of life an alarm (R305, R307). -/
structure ResultJudged (s t : State) : Prop where
  data : DataKept s t
  niura : t.niura = s.niura
  cap : t.reg 0x6054 0 = s.reg 0x6054 0
  esr : t.reg 0x6055 0 = s.reg 0x6055 0

theorem ResultJudged.trans {s t u : State} (h : ResultJudged s t) (k : ResultJudged t u) : ResultJudged s u :=
  ⟨h.data.trans k.data, k.niura.trans h.niura, k.cap.trans h.cap, k.esr.trans h.esr⟩

theorem SameButReports.resultJudged {s t : State} (h : SameButReports s t) : ResultJudged s t :=
  ⟨h.dataKept, h.niura, h.niura_reg (by decide) (by decide), h.niura_reg (by decide) (by decide)⟩

theorem State.alarmBit_resultJudged (s : State) (n : Nat) : ResultJudged s (s.alarmBit n) := by
  have hset : ResultJudged s (s.setReg 0x6080 0 (alarmed (s.reg 0x6080 0) n)) :=
    ⟨⟨rfl, rfl, rfl, rfl, rfl, rfl⟩, rfl, s.reg_setReg_of_ne _ (by decide), s.reg_setReg_of_ne _ (by decide)⟩
  exact hset.trans (s.alarmBit_reports n).resultJudged

theorem State.healthStore_judged (s : State) (cap esr : Nat) (strings : Map Nat) :
    ResultJudged (s.healthStored cap esr strings) (s.healthStore cap esr strings) := by
  have hend : ∀ (t : State) (eol : Bool),
      ResultJudged t ((if eol then t.alarmBit 1 else t).conditionOpen Code.storeEol eol) := fun t eol => by
    refine ResultJudged.trans ?_ (State.conditionOpen_reports _ _ _).resultJudged
    split
    · exact t.alarmBit_resultJudged 1
    · exact (SameButReports.refl t).resultJudged
  have hcleared : ∀ (t : State) (out : List Nat),
      ResultJudged t (if out = [] then t.condClear Code.stringFailed else t) := fun t out => by
    split
    · exact (t.condClear_reports _).resultJudged
    · exact (SameButReports.refl t).resultJudged
  unfold State.healthStore
  exact (hcleared _ _).trans (hend _ _)

theorem healthTestEnd_accepted (s : State) (cap esr : Nat) (strings : Map Nat) (htest : s.niura.supply = .test)
    (hgood : s.healthGood cap esr = true) :
    ∃ t, exec (.healthTestEnd cap esr strings) s = .next t ∧ DataKept s t ∧ t.niura.supply = .input
      ∧ t.niura.accepted = true ∧ t.reg 0x6054 0 = cap ∧ t.reg 0x6055 0 = esr
      ∧ (∀ k, k ∈ t.niura.switchedOut ↔
          k ∈ s.niura.switchedOut ∧ (s.niura.healthTrial = true → strings.find? k = none)) := by
  obtain ⟨hdata, hniura, hcap, hesr⟩ := s.fresh.toInput.healthStored_spec cap esr strings
  obtain ⟨kdata, kniura, kcap, kesr⟩ := s.fresh.toInput.healthStore_judged cap esr strings
  have hall := kniura.trans hniura
  refine ⟨_, congrArg Host.Outcome.next (if_pos htest), ?_⟩
  simp only [hgood, if_true]
  exact ⟨hdata.trans kdata, (congrArg Niura.supply hall).trans rfl, (congrArg Niura.accepted hall).trans rfl,
    kcap.trans hcap, kesr.trans hesr, fun k => (congrArg (k ∈ Niura.switchedOut ·) hall).to_iff.trans
      (s.niura.mem_stillOut strings k)⟩

theorem healthTestEnd_rejected (s : State) (cap esr : Nat) (strings : Map Nat) (htest : s.niura.supply = .test)
    (hbad : s.healthGood cap esr = false) :
    ∃ t, exec (.healthTestEnd cap esr strings) s = .next t ∧ DataKept s t ∧ t.niura.supply = .input
      ∧ t.niura.accepted = s.niura.accepted ∧ RegsKept s t [] := by
  have hnote := State.note_reports s.fresh.toInput Code.healthTestRejected []
  refine ⟨_, congrArg Host.Outcome.next (if_pos htest), ?_⟩
  simp only [hbad, Bool.false_eq_true, if_false]
  exact ⟨hnote.dataKept, congrArg Niura.supply hnote.niura, (congrArg Niura.accepted hnote.niura).trans rfl,
    hnote.regsKept []⟩

/-! ### The shell (R315, R316) -/

theorem niuraCalibration_spec (s : State) (move disagree : Bool) (hshell : s.niura.shellUp = true)
    (htrip : s.niura.tripBeat ≠ some s.clock.beat) :
    ∃ t, exec (.niuraCalibration move disagree) s = .next t
      ∧ SameButReports { s with out := [], niura := { s.niura with refFault := disagree } } t
      ∧ (move = true → t.hasFault Code.niuraCalDrift = true) := by
  refine ⟨_, congrArg Host.Outcome.next (if_pos ⟨hshell, htrip⟩), ?_⟩
  cases move with
  | false => exact ⟨State.conditionOpen_reports _ _ _, fun h => nomatch h⟩
  | true =>
    have hdrift := s.fresh.faultOpen_reports Code.niuraCalDrift false
    have hniura : (s.fresh.faultOpen Code.niuraCalDrift).niura = s.niura := hdrift.niura
    simp only [if_true, hniura]
    exact ⟨(hdrift.niura_both _).trans (State.conditionOpen_reports _ _ _), fun _ =>
      (State.conditionOpen_kept _ _ _).faults _ (s.fresh.faultOpen_hasFault _ _)⟩

/-- The same state of the interrupt controller before reports and after them. -/
theorem SameButReports.bureau_both {s t : State} (h : SameButReports s t) (b : Bureau) :
    SameButReports { s with bureau := b } { t with bureau := b } := by
  obtain ⟨h1, h2, h3, h4, h5, h6⟩ := h
  refine ⟨?_, h2, h3, h4, h5, h6⟩
  conv_lhs => rw [h1]

/-- The level of a source that keeps what was raised. -/
theorem State.irqLevel_of_kept (s : State) {n : Nat} (h : irqDerived n = false) :
    s.irqLevel n = s.bureau.level.contains n := by
  simp only [irqDerived, Bool.or_eq_false_iff, decide_eq_false_iff_not, List.contains_cons, List.contains_nil,
    Bool.or_false, beq_eq_false_iff_ne] at h
  obtain ⟨hlow, h48, h49, h53, h54⟩ := h
  simp only [State.irqLevel, if_neg hlow, if_neg h48, if_neg h49, if_neg h53, if_neg h54]

/-- A source that keeps what was raised is high once it is raised (R396). -/
theorem State.raiseSource_irqLevel (s : State) {n : Nat} (h : irqDerived n = false) :
    (s.raiseSource n).irqLevel n = true := by
  rw [State.irqLevel_of_kept _ h, State.raiseSource]
  simp only [h, Bool.false_eq_true, false_or, List.contains_iff_mem]
  split
  · assumption
  · exact List.mem_append_right _ (List.mem_singleton_self n)

/-- The shell is down since this beat. -/
def State.shellDown (s : State) : State :=
  { s with niura := { s.niura with shellUp := false, shellAt := s.clock.beat } }

theorem niuraShellWatchdog_spec (s : State) (hshell : s.niura.shellUp = true) :
    ∃ t, exec .niuraShellWatchdog s = .next t
      ∧ SameButReports { s with
          out := [], bureau := t.bureau,
          niura := { s.niura with shellUp := false, shellAt := s.clock.beat } } t
      ∧ t.irqLevel 100 = true ∧ t.hasFault Code.niuraShellFault = true := by
  have hreports := State.faultOpen_reports s.fresh.shellDown Code.niuraShellFault true
  exact ⟨_, congrArg Host.Outcome.next (if_pos hshell), hreports.bureau_both _, State.raiseSource_irqLevel _ (by decide),
    State.faultOpen_hasFault _ _ _⟩

/-- Settles O46: a health test by what its result stores (`healthStored_spec`), the rest by the reports that follow. -/
theorem healthTests : Obligations.HealthTests := by
  unfold Obligations.HealthTests
  exact ⟨healthTestDue_spec, healthTestStart_spec, healthTestEnd_accepted, healthTestEnd_rejected, niuraCalibration_spec,
    niuraShellWatchdog_spec, fun _ hprofile hshell hrest =>
      ⟨_, congrArg Host.Outcome.next (if_pos ⟨hprofile, hshell, hrest⟩)⟩⟩

/-! ### Hard protections (R313) -/

theorem storeOvervoltage_spec (s : State) (mv : Nat) (hover : s.chargedMv * 105 < mv * 100 ∨ 62000 < mv) :
    ∃ t, exec (.storeOvervoltage mv) s = .next t ∧ DataKept s t ∧ t.niura.charger = .fault
      ∧ t.niura.faultTimeout = s.niura.faultTimeout ∧ t.niura.faultOver = true
      ∧ (s.niura.charger ≠ .fault → t.reg 0x6080 0 / 8 % 2 = 1 ∧ t.hasFault Code.chargerFault = true)
      ∧ RegsKept s t [key 0x6080 0] := by
  obtain ⟨hdata, hniura, hregs, halarm⟩ := s.fresh.chargerFault_spec .storeOvervoltage
  exact ⟨_, congrArg Host.Outcome.next (if_pos hover), hdata, congrArg Niura.charger hniura,
    (congrArg Niura.faultTimeout hniura).trans (Bool.or_false _), (congrArg Niura.faultOver hniura).trans (Bool.or_true _),
    halarm, hregs⟩

theorem cellOvervoltage_spec (s : State) (cell mv : Nat)
    (hover : s.cellOver (profileMaxMv (s.reg 0x6000 1)) (cell - 1) mv = true) (hfirst : 1 ≤ cell)
    (hlast : cell ≤ s.reg 0x6000 2 * s.reg 0x6000 3) :
    ∃ t, exec (.cellOvervoltage cell mv) s = .next t ∧ DataKept s t ∧ t.niura.charger = .fault
      ∧ cell - 1 ∈ t.niura.bleeding
      ∧ (s.niura.charger ≠ .fault → t.reg 0x6080 0 / 8 % 2 = 1 ∧ t.hasFault Code.chargerFault = true)
      ∧ RegsKept s t [key 0x6080 0] := by
  obtain ⟨hdata, hniura, hregs, halarm⟩ := s.fresh.chargerFault_spec .cellOvervoltage
  refine ⟨_, congrArg Host.Outcome.next (if_pos ⟨hover, hfirst, hlast⟩), hdata, congrArg Niura.charger hniura, ?_, halarm,
    hregs⟩
  by_cases hbled : (s.fresh.chargerFault .cellOvervoltage).niura.bleeding.contains (cell - 1) = true
  · simp only [if_pos hbled]
    exact List.contains_iff_mem.mp hbled
  · simp only [if_neg hbled]
    exact List.mem_cons_self

/-! ### Core voltage and thermal life (R472, R473) -/

/-- A check that moves the setpoint counts its step and notes it. -/
theorem State.avsMove_spec (s : State) (mv : Nat) (guardMv : Int) :
    DataKept s (s.avsMove mv guardMv) ∧ (s.avsMove mv guardMv).reg 0x60A0 2 = s.reg 0x60A0 2
      ∧ (s.avsMove mv guardMv).reg 0x60A0 1 = mv ∧ RegsKept s (s.avsMove mv guardMv) [key 0x60A0 1, key 0x60A0 3] := by
  have hnote := State.note_reports ((s.setReg 0x60A0 1 mv).addReg 0x60A0 3 1) Code.avsStep
    [s.reg 0x60A0 1, mv, s32 guardMv]
  have hdata : DataKept s ((s.setReg 0x60A0 1 mv).addReg 0x60A0 3 1) := ⟨rfl, rfl, rfl, rfl, rfl, rfl⟩
  have hregs : RegsKept s ((s.setReg 0x60A0 1 mv).addReg 0x60A0 3 1) [key 0x60A0 1, key 0x60A0 3] :=
    ((RegsKept.of_regs (t := s) rfl _).put (k := key 0x60A0 1) (v := mv) (by simp) (s.setReg 0x60A0 1 mv) rfl).put
      (k := key 0x60A0 3) (by simp) _ rfl
  refine ⟨hdata.reports hnote, ?_, ?_, hregs.reports hdata hnote⟩
  · rw [State.avsMove, hnote.niura_reg (by decide) (by decide), State.reg_addReg_of_ne _ _ (by decide),
      State.reg_setReg_of_ne _ _ (by decide)]
  · rw [State.avsMove, hnote.niura_reg (by decide) (by decide), State.reg_addReg_of_ne _ _ (by decide),
      State.reg_setReg_self]

/-- The beats for which the guard band has been above 60 mV, after a check (R472). -/
def Niura.avsHigh (n : Niura) (guardMv : Int) : Nat := if 60 < guardMv then n.avsAbove + 100000 else 0

/-- The guard band is reported, with the aging limit where the setpoint has reached its top. -/
def State.avsReported (s : State) (guardMv : Int) : State :=
  ({ s with niura := { s.niura with avsAbove := s.niura.avsHigh guardMv } }.setReg 0x60A0 2 (s32 guardMv)).conditionOpen
    Code.agingLimit (decide (guardMv < 30) && decide (s.reg 0x60A0 1 = 850))

theorem State.avsReported_spec (s : State) (guardMv : Int) :
    DataKept s (s.avsReported guardMv) ∧ (s.avsReported guardMv).reg 0x60A0 2 = s32 guardMv
      ∧ (s.avsReported guardMv).reg 0x60A0 1 = s.reg 0x60A0 1 ∧ RegsKept s (s.avsReported guardMv) [key 0x60A0 2] := by
  have hreports := State.conditionOpen_reports
    ({ s with niura := { s.niura with avsAbove := s.niura.avsHigh guardMv } }.setReg 0x60A0 2 (s32 guardMv)) Code.agingLimit
    (decide (guardMv < 30) && decide (s.reg 0x60A0 1 = 850))
  have hdata : DataKept s
      ({ s with niura := { s.niura with avsAbove := s.niura.avsHigh guardMv } }.setReg 0x60A0 2 (s32 guardMv)) :=
    ⟨rfl, rfl, rfl, rfl, rfl, rfl⟩
  refine ⟨hdata.reports hreports, ?_, ?_, RegsKept.reports ?_ hdata hreports⟩
  · rw [State.avsReported, hreports.niura_reg (by decide) (by decide), State.reg_setReg_self]
  · rw [State.avsReported, hreports.niura_reg (by decide) (by decide), State.reg_setReg_of_ne _ _ (by decide)]
    rfl
  · exact (RegsKept.of_regs (t := s) rfl _).put (List.mem_singleton_self _) _ rfl

/-- A check that moves the setpoint, after its report. -/
theorem State.avsMoved_spec (s : State) (n : Niura) (mv : Nat) (guardMv : Int) :
    DataKept s ({ s.avsReported guardMv with niura := n }.avsMove mv guardMv)
      ∧ ({ s.avsReported guardMv with niura := n }.avsMove mv guardMv).reg 0x60A0 2 = s32 guardMv
      ∧ ({ s.avsReported guardMv with niura := n }.avsMove mv guardMv).reg 0x60A0 1 = mv
      ∧ RegsKept s ({ s.avsReported guardMv with niura := n }.avsMove mv guardMv)
          [key 0x60A0 1, key 0x60A0 2, key 0x60A0 3] := by
  obtain ⟨hdata, hguard, -, hregs⟩ := s.avsReported_spec guardMv
  obtain ⟨kdata, kguard, kset, kregs⟩ := State.avsMove_spec { s.avsReported guardMv with niura := n } mv guardMv
  exact ⟨hdata.trans kdata, kguard.trans hguard, kset,
    (hregs.mono (by simp)).trans hdata.mode (RegsKept.mono kregs (by simp) : RegsKept (s.avsReported guardMv) _ _)⟩

theorem avsCheck_spec (s : State) (guardMv : Int) (hdormant : s.ctl.mode ≠ .dormant) (hbring : s.ctl.mode ≠ .bringUp)
    (hsave : s.ctl.mode ≠ .save) :
    ∃ t, exec (.avsCheck guardMv) s = .next t ∧ DataKept s t ∧ t.reg 0x60A0 2 = s32 guardMv
      ∧ t.reg 0x60A0 1 = (if guardMv < 30 ∧ s.reg 0x60A0 1 + 5 ≤ 850 then s.reg 0x60A0 1 + 5
          else if 60 < guardMv ∧ 8640000 ≤ s.niura.avsAbove + 100000 ∧ 705 ≤ s.reg 0x60A0 1 then s.reg 0x60A0 1 - 5
          else s.reg 0x60A0 1)
      ∧ RegsKept s t [key 0x60A0 1, key 0x60A0 2, key 0x60A0 3] := by
  have hmode : ¬ (s.fresh.ctl.mode = .bringUp ∨ s.fresh.ctl.mode = .save) := not_or.mpr ⟨hbring, hsave⟩
  have hhigh : (8640000 ≤ s.niura.avsHigh guardMv ∧ 705 ≤ s.reg 0x60A0 1)
      ↔ 60 < guardMv ∧ 8640000 ≤ s.niura.avsAbove + 100000 ∧ 705 ≤ s.reg 0x60A0 1 := by
    rw [← and_assoc]
    refine and_congr_left' ?_
    unfold Niura.avsHigh
    split <;> simp_all
  have hcheck : s.fresh.avsCheck guardMv
      = if guardMv < 30 ∧ s.reg 0x60A0 1 + 5 ≤ 850 then (s.fresh.avsReported guardMv).avsMove (s.reg 0x60A0 1 + 5) guardMv
        else if 8640000 ≤ s.niura.avsHigh guardMv ∧ 705 ≤ s.reg 0x60A0 1 then
          { s.fresh.avsReported guardMv with
            niura := { (s.fresh.avsReported guardMv).niura with avsAbove := 0 } }.avsMove (s.reg 0x60A0 1 - 5) guardMv
        else s.fresh.avsReported guardMv := by
    simp only [State.avsCheck, if_neg hmode, decide_eq_true_eq]
    rfl
  refine ⟨_, (congrArg Host.Outcome.next (if_pos hdormant)).trans (congrArg Host.Outcome.next hcheck), ?_⟩
  by_cases hlow : guardMv < 30 ∧ s.reg 0x60A0 1 + 5 ≤ 850
  · simp only [if_pos hlow]
    exact s.fresh.avsMoved_spec (s.fresh.avsReported guardMv).niura _ guardMv
  · by_cases hdown : 8640000 ≤ s.niura.avsHigh guardMv ∧ 705 ≤ s.reg 0x60A0 1
    · simp only [if_neg hlow, if_pos hdown, if_pos (hhigh.mp hdown)]
      exact s.fresh.avsMoved_spec _ _ guardMv
    · obtain ⟨hdata, hguard, hset, hregs⟩ := s.fresh.avsReported_spec guardMv
      simp only [if_neg hlow, if_neg hdown, if_neg (mt hhigh.mpr hdown)]
      exact ⟨hdata, hguard, hset, RegsKept.mono hregs (by simp)⟩

/-- The mean junction temperature since provisioning, with the last hour's (R473). -/
def State.lifeMean (s : State) : Int :=
  (s.ireg 0x60A1 1 * (s.reg 0x60A1 3 : Int) + s.niura.lifeSum * 1000 / (s.niura.lifeBeats : Int))
    / ((s.reg 0x60A1 3 : Int) + 1)

/-- The record of an hour of service, with its sums cleared. -/
def State.lifeLogged (s : State) : State :=
  let t := ((s.setReg 0x60A1 1 (s32 s.lifeMean)).setReg 0x60A1 2 (s.niura.overBeats / 360000000)).addReg 0x60A1 3 1
  { t with niura := { t.niura with lifeSum := 0, lifeBeats := 0 } }

theorem thermalLifeLog_spec (s : State) (hlife : s.niura.lifeBeats ≠ 0) :
    ∃ t, exec .thermalLifeLog s = .next t ∧ DataKept s t ∧ Counted s t 0x60A1 3 1
      ∧ t.reg 0x60A1 2 = s.niura.overBeats / 360000000 ∧ t.niura.lifeBeats = 0 ∧ t.niura.lifeSum = 0
      ∧ RegsKept s t [key 0x60A1 1, key 0x60A1 2, key 0x60A1 3] := by
  have hreports : SameButReports s.fresh.lifeLogged s.fresh.lifeLog := State.conditionOpen_reports _ _ _
  have hdata : DataKept s s.fresh.lifeLogged := ⟨rfl, rfl, rfl, rfl, rfl, rfl⟩
  have hcount : Counted s s.fresh.lifeLogged 0x60A1 3 1 := by
    refine Counted.of_reg (State.addReg_counted _ 0x60A1 3 1) ?_
    rw [State.reg_setReg_of_ne _ _ (by decide), State.reg_setReg_of_ne _ _ (by decide)]
    rfl
  have hhours : s.fresh.lifeLogged.reg 0x60A1 2 = s.niura.overBeats / 360000000 :=
    (State.reg_addReg_of_ne _ 1 (by decide)).trans (State.reg_setReg_self _ _ _ _)
  have hregs : RegsKept s s.fresh.lifeLogged [key 0x60A1 1, key 0x60A1 2, key 0x60A1 3] :=
    (((RegsKept.of_regs (t := s) rfl _).put (k := key 0x60A1 1) (by simp) (s.fresh.setReg 0x60A1 1 _) rfl).put
      (k := key 0x60A1 2) (by simp) (State.setReg _ 0x60A1 2 _) rfl).put (k := key 0x60A1 3) (by simp) _ rfl
  exact ⟨_, congrArg Host.Outcome.next (if_pos hlife), hdata.reports hreports,
    hcount.reports hreports (by decide) (key_notMem_windowEntries_of_le (by decide)),
    (hreports.niura_reg (by decide) (by decide)).trans hhours, congrArg Niura.lifeBeats hreports.niura,
    congrArg Niura.lifeSum hreports.niura, hregs.reports hdata hreports⟩

/-- Settles O47: an overvoltage is the charger's FAULT (`chargerFault_spec`), a check of the core voltage at most one move of
its setpoint (`avsMove_spec`). -/
theorem hardProtections : Obligations.HardProtections := by
  unfold Obligations.HardProtections
  exact ⟨storeOvervoltage_spec, cellOvervoltage_spec, fun _ _ hover => congrArg Host.Outcome.next (if_pos hover),
    fun _ _ hlong hnot hstore => ⟨_, congrArg Host.Outcome.next (if_pos ⟨hlong, hnot, hstore⟩),
      State.faultOpen_reports _ _ _, State.faultOpen_hasFault _ _ _⟩, avsCheck_spec, thermalLifeLog_spec⟩

end Sys2Proof.Machine
end

section
/-! PROOFS. The sequencing of rails and groups (R318 to R320, R326). The sequencer writes the states of rails and groups, its own
state and `State.rails`, and a rail that stands GOOD stays so on the way up; the end of an abort may enter DORMANT besides. -/

namespace Sys2Proof.Machine

/-! ### What the sequencer moves -/

/-- Entries that the sequencer writes: the states of rails and of groups, and its own state. -/
def railEntry (k : Nat) : Prop := k = key 0x6464 0 ∨ (0x6400 * 256 ≤ k ∧ (k % 256 = 7 ∨ k % 256 = 2))

theorem railEntry_rail (r : Nat) : railEntry (key (0x6400 + r) 7) := by
  unfold railEntry key
  omega

theorem railEntry_group (g : Nat) : railEntry (key (0x6440 + g) 2) := by
  unfold railEntry key
  omega

theorem railEntry_seq : railEntry (key 0x6464 0) := .inl rfl

/-- An entry of another sub-index is not one of the sequencer's. -/
theorem not_railEntry {idx sub : Nat} (hseq : idx ≠ 0x6464) (hsub : sub < 256) (h7 : sub ≠ 7) (h2 : sub ≠ 2) :
    ¬ railEntry (key idx sub) := by
  unfold railEntry key
  omega

/-- Nothing but `State.rails` and the sequencer's entries moves. -/
structure RailsMoved (s t : State) : Prop where
  rest : t = { s with regs := t.regs, rails := t.rails }
  regs : ∀ k, ¬ railEntry k → t.regs.find? k = s.regs.find? k

namespace RailsMoved

theorem refl (s : State) : RailsMoved s s := ⟨rfl, fun _ _ => rfl⟩

theorem trans {s t u : State} (h : RailsMoved s t) (k : RailsMoved t u) : RailsMoved s u := by
  obtain ⟨h1, h2⟩ := h
  obtain ⟨k1, k2⟩ := k
  exact ⟨by rw [k1, h1], fun q hq => (k2 q hq).trans (h2 q hq)⟩

theorem setReg (s : State) {idx sub : Nat} (v : Nat) (h : railEntry (key idx sub)) : RailsMoved s (s.setReg idx sub v) :=
  ⟨rfl, fun _ hk => Map.find?_put_of_ne _ _ _ _ fun e => hk (e ▸ h)⟩

theorem rails (s : State) (r : Rails) : RailsMoved s { s with rails := r } := ⟨rfl, fun _ _ => rfl⟩

theorem foldl {α : Type} (g : State → α → State) (h : ∀ s a, RailsMoved s (g s a)) (l : List α) (s : State) :
    RailsMoved s (l.foldl g s) :=
  State.foldl_holds (RailsMoved s) g (fun t a ht => ht.trans (h t a)) l s (.refl s)

variable {s t : State}

theorem dataKept (h : RailsMoved s t) : DataKept s t := by
  rw [h.rest]
  exact ⟨rfl, rfl, rfl, rfl, rfl, rfl⟩

theorem reg (h : RailsMoved s t) {idx sub : Nat} (hk : ¬ railEntry (key idx sub)) : t.reg idx sub = s.reg idx sub :=
  State.reg_congr (by rw [h.rest]) (by rw [h.rest]) (h.regs _ hk)

theorem hasFault (h : RailsMoved s t) (code : Nat) : t.hasFault code = s.hasFault code := by
  rw [h.rest]
  rfl

theorem railGroup (h : RailsMoved s t) (r : Nat) : t.railGroup r = s.railGroup r := by
  refine h.reg ?_
  unfold railEntry key
  omega

theorem railStep (h : RailsMoved s t) (r : Nat) : t.railStep r = s.railStep r := by
  refine h.reg ?_
  unfold railEntry key
  omega

theorem railRole (h : RailsMoved s t) (r : Nat) : t.railRole r = s.railRole r := by
  refine h.reg ?_
  unfold railEntry key
  omega

theorem rails' (h : RailsMoved s t) : t.rails' = s.rails' := by
  simp only [State.rails', h.railRole]

theorem seqRails (h : RailsMoved s t) : t.seqRails = s.seqRails := by
  have henabled : ∀ g, t.reg (0x6440 + g) 1 = s.reg (0x6440 + g) 1 := fun g => h.reg (by unfold railEntry key; omega)
  simp only [State.seqRails, h.rails', h.railGroup, henabled]

end RailsMoved

theorem State.setRail_moved (s : State) (r st : Nat) : RailsMoved s (s.setRail r st) := .setReg s st (railEntry_rail r)

theorem State.setRails_moved (s : State) (rs : List Nat) (st : Nat) : RailsMoved s (s.setRails rs st) :=
  .foldl _ (fun t r => t.setRail_moved r st) rs s

theorem State.setGroup_moved (s : State) (g st : Nat) : RailsMoved s (s.setGroup g st) := .setReg s st (railEntry_group g)

/-! ### States of rails and groups -/

theorem State.railState_setRail_self (s : State) (r st : Nat) : (s.setRail r st).railState r = st :=
  State.reg_setReg_self _ _ _ _

theorem State.railState_setRail_of_ne (s : State) {q r : Nat} (st : Nat) (h : q ≠ r) :
    (s.setRail r st).railState q = s.railState q := by
  refine s.reg_setReg_of_ne _ ?_
  unfold key
  omega

theorem State.railState_setGroup (s : State) (g st r : Nat) : (s.setGroup g st).railState r = s.railState r := by
  refine s.reg_setReg_of_ne _ ?_
  unfold key
  omega

theorem State.groupState_setRail (s : State) (g r st : Nat) : (s.setRail r st).groupState g = s.groupState g := by
  refine s.reg_setReg_of_ne _ ?_
  unfold key
  omega

theorem State.groupState_setGroup_self (s : State) (g st : Nat) : (s.setGroup g st).groupState g = st :=
  State.reg_setReg_self _ _ _ _

/-- Several rails changed: those named, and no other. -/
theorem State.railState_setRails (rs : List Nat) (s : State) (st q : Nat) :
    (s.setRails rs st).railState q = if q ∈ rs then st else s.railState q := by
  induction rs generalizing s with
  | nil => rfl
  | cons r rs ih =>
    have hcons : s.setRails (r :: rs) st = (s.setRail r st).setRails rs st := rfl
    rw [hcons, ih]
    by_cases hq : q ∈ rs
    · simp only [hq, List.mem_cons_of_mem, if_true]
    · by_cases hr : q = r
      · simp only [hr, State.railState_setRail_self, List.mem_cons_self, if_true, ite_self]
      · simp only [hq, List.mem_cons, hr, or_self, if_false, State.railState_setRail_of_ne s st hr]

theorem State.groupState_setRails (rs : List Nat) (s : State) (st g : Nat) :
    (s.setRails rs st).groupState g = s.groupState g :=
  State.foldl_holds (fun t => t.groupState g = s.groupState g) _ (fun t r ht => (t.groupState_setRail g r st).trans ht) rs s rfl

/-- Groups changed leave the states of rails. -/
theorem State.railState_foldl_setGroup (gs : List Nat) (st : Nat) (s : State) (r : Nat) :
    (gs.foldl (fun (t : State) g => t.setGroup g st) s).railState r = s.railState r :=
  State.foldl_holds (fun t => t.railState r = s.railState r) _ (fun t g ht => (t.railState_setGroup g st r).trans ht) gs s rfl

/-! ### The way up -/

/-- The way up: rails that are GOOD stay so. -/
structure RailsRaised (s t : State) : Prop where
  moved : RailsMoved s t
  good : ∀ r, s.railState r = 2 → t.railState r = 2

namespace RailsRaised

theorem trans {s t u : State} (h : RailsRaised s t) (k : RailsRaised t u) : RailsRaised s u :=
  ⟨h.moved.trans k.moved, fun r hr => k.good r (h.good r hr)⟩

/-- Rails that are not GOOD are enabled. -/
theorem enable (s : State) (rs : List Nat) : RailsRaised s (s.setRails (rs.filter fun r => s.railState r != 2) 1) := by
  refine ⟨s.setRails_moved _ _, fun r hr => ?_⟩
  rw [State.railState_setRails, if_neg, hr]
  simp [hr]

theorem setGroup (s : State) (g st : Nat) : RailsRaised s (s.setGroup g st) :=
  ⟨s.setGroup_moved g st, fun r hr => (s.railState_setGroup g st r).trans hr⟩

theorem rails (s : State) (r : Rails) : RailsRaised s { s with rails := r } := ⟨.rails s r, fun _ h => h⟩

theorem seqState (s : State) (v : Nat) : RailsRaised s (s.setReg 0x6464 0 v) := by
  refine ⟨.setReg s v railEntry_seq, fun r hr => (s.reg_setReg_of_ne v ?_).trans hr⟩
  unfold key
  omega

end RailsRaised

/-- The groups whose rails a sequence brought up are UP. -/
def State.groupsUp (s : State) : State :=
  (s.seqRails.map s.railGroup).eraseDups.foldl (fun (t : State) g => t.setGroup g 2) s

theorem State.groupsUp_raised (s : State) : RailsRaised s s.groupsUp :=
  ⟨.foldl _ (fun t g => t.setGroup_moved g 2) _ s, fun r hr => (State.railState_foldl_setGroup _ 2 s r).trans hr⟩

theorem State.seqFinish_raised (s : State) : RailsRaised s s.seqFinish :=
  (s.groupsUp_raised.trans (.rails _ _)).trans (.seqState _ 0)

theorem State.seqFinish_dir (s : State) : s.seqFinish.rails.dir = .idle := rfl

theorem State.seqFinish_state (s : State) : s.seqFinish.reg 0x6464 0 = 0 := State.reg_setReg_self _ _ _ _

/-- A sequence runs on: it raises rails, and its state stays or is idle. -/
theorem State.seqRun_spec (n k : Nat) (s : State) :
    RailsRaised s (State.seqRun n k s)
      ∧ ((State.seqRun n k s).reg 0x6464 0 = s.reg 0x6464 0 ∨ (State.seqRun n k s).reg 0x6464 0 = 0)
      ∧ (State.seqRun n k s).rails.retried = s.rails.retried := by
  have hretried : s.seqFinish.rails.retried = s.rails.retried := by
    have hups : s.groupsUp.rails = s.rails :=
      State.foldl_holds (fun t => t.rails = s.rails) (fun t g => t.setGroup g 2) (fun _ _ ht => ht) _ s rfl
    exact (congrArg Rails.retried hups :)
  induction n generalizing k with
  | zero => exact ⟨s.seqFinish_raised, .inr s.seqFinish_state, hretried⟩
  | succ n ih =>
    unfold State.seqRun
    split
    · exact ⟨s.seqFinish_raised, .inr s.seqFinish_state, hretried⟩
    next i _ =>
      dsimp only
      split
      · exact ih (i + 1)
      · refine ⟨(RailsRaised.enable s _).trans (.rails _ _), .inl ?_, rfl⟩
        refine State.foldl_holds (fun t => t.reg 0x6464 0 = s.reg 0x6464 0) _ (fun t r ht => ?_) _ s rfl
        refine (t.reg_setReg_of_ne 1 ?_).trans ht
        unfold key
        omega

theorem State.seqUp_spec (s : State) :
    RailsRaised s s.seqUp ∧ s.seqUp.reg 0x6464 0 ≤ 1 ∧ s.seqUp.rails.retried = s.rails.retried := by
  obtain ⟨hraised, hstate, hretried⟩ := State.seqRun_spec 33 0
    ({ s with rails := { s.rails with dir := .up, step := 0 } }.setReg 0x6464 0 1)
  refine ⟨((RailsRaised.rails s _).trans (.seqState _ 1)).trans hraised, ?_, hretried⟩
  rw [State.reg_setReg_self] at hstate
  unfold State.seqUp
  omega

theorem State.groupUp_raised (n g k : Nat) (s : State) : RailsRaised s (State.groupUp n g k s) := by
  induction n generalizing k with
  | zero => exact .setGroup s g 2
  | succ n ih =>
    unfold State.groupUp
    split
    · exact .setGroup s g 2
    next i _ =>
      dsimp only
      split
      · exact ih (i + 1)
      · exact (RailsRaised.enable s _).trans (.setGroup _ g 1)

/-! ### A rail that stands GOOD (R318) -/

/-- A rail is GOOD, its retry counted anew, and RAIL_FAULT cleared with the last faulty rail. -/
def State.railStands (s : State) (r : Nat) : State :=
  let again : Map (Nat × Nat) := match s.rails.retries.find? r with
    | some (n, _) => s.rails.retries.put r (n, s.clock.beat)
    | none => s.rails.retries
  let t := { s with rails := { s.rails with retries := again } }.setRail r 2
  if s.railState r = 3 ∧ (s.rails'.any fun q => q != r && s.railState q == 3) = false then t.condClear Code.railFault else t

/-- The rail alone set GOOD, with the retries that `railStands` leaves. -/
def State.railSet (s : State) (r : Nat) : State := { s with rails := (s.railStands r).rails }.setRail r 2

theorem State.railStands_spec (s : State) (r : Nat) :
    (s.railStands r).rails.dir = s.rails.dir ∧ (s.railStands r).rails.step = s.rails.step
      ∧ SameButReports (s.railSet r) (s.railStands r) ∧ (s.railStands r).regs = (s.railSet r).regs := by
  unfold State.railSet State.railStands
  dsimp only
  split
  · exact ⟨rfl, rfl, State.condClear_reports _ _, rfl⟩
  · exact ⟨rfl, rfl, .refl _, rfl⟩

theorem State.railSet_moved (s : State) (r : Nat) : RailsMoved s (s.railSet r) :=
  (RailsMoved.rails s _).trans (State.setRail_moved _ _ _)

theorem State.railGood_eq (s : State) (r : Nat) :
    s.railGood r = if (s.railStands r).rails.dir = .up ∧ (s.railStands r).railStep r = (s.railStands r).rails.step then
        (if ((s.railStands r).atStep (s.railStands r).seqRails (s.railStands r).rails.step).all fun q =>
            (s.railStands r).railState q == 2
          then State.seqRun 33 ((s.railStands r).rails.step + 1) (s.railStands r) else s.railStands r)
      else if (s.railStands r).groupState ((s.railStands r).railGroup r) = 1 then
        State.groupUp 33 ((s.railStands r).railGroup r) 0 (s.railStands r)
      else s.railStands r := rfl

/-- From a step past that of the only rail nothing is left to enable. -/
theorem State.seqRun_past {s : State} {r n : Nat} (hall : s.seqRails = [r]) :
    State.seqRun (n + 1) (s.railStep r + 1) s = s.seqFinish := by
  have hnone : s.stepFrom s.seqRails (s.railStep r + 1) = none := by
    rw [State.stepFrom, List.find?_eq_none]
    intro i _ hi
    simp only [hall, List.any_cons, List.any_nil, Bool.or_false, Bool.and_eq_true, decide_eq_true_eq, beq_iff_eq] at hi
    omega
  unfold State.seqRun
  rw [hnone]

theorem railStable_spec (s : State) (r : Fin 32) (hstate : s.railState r.val = 1 ∨ s.railState r.val = 3) :
    ∃ t, exec (.railStable r) s = .next t ∧ DataKept s t ∧ t.railState r.val = 2
      ∧ (s.rails.dir = .up → s.railStep r.val = s.rails.step → s.seqRails = [r.val] →
          t.rails.dir = .idle ∧ t.reg 0x6464 0 = 0) := by
  obtain ⟨hdir, hstep, hreports, hregs⟩ := s.fresh.railStands_spec r.val
  have hmoved := s.fresh.railSet_moved r.val
  have hreg : ∀ idx sub, (s.fresh.railStands r.val).reg idx sub = (s.fresh.railSet r.val).reg idx sub := fun idx sub =>
    State.reg_congr hreports.layout hreports.security (by rw [hregs])
  have hdata : DataKept s (s.fresh.railStands r.val) := hmoved.dataKept.reports hreports
  have hgood : (s.fresh.railStands r.val).railState r.val = 2 :=
    (hreg _ _).trans (State.railState_setRail_self _ _ _)
  have hraised : RailsRaised (s.fresh.railStands r.val) (s.fresh.railGood r.val) := by
    rw [State.railGood_eq]
    split_ifs
    · exact (State.seqRun_spec _ _ _).1
    · exact ⟨.refl _, fun _ h => h⟩
    · exact State.groupUp_raised _ _ _ _
    · exact ⟨.refl _, fun _ h => h⟩
  refine ⟨_, congrArg Host.Outcome.next (if_pos hstate), hdata.trans hraised.moved.dataKept, hraised.good _ hgood, ?_⟩
  intro hup hlast hall
  have hrole : ∀ q, (s.fresh.railStands r.val).railStep q = s.railStep q := fun q =>
    (hreg _ _).trans (hmoved.railStep q)
  have hseq : (s.fresh.railStands r.val).seqRails = [r.val] := by
    rw [← hall]
    refine Eq.trans ?_ hmoved.seqRails
    simp only [State.seqRails, State.rails', State.railRole, State.railGroup, hreg]
  have hnow : (s.fresh.railStands r.val).rails.dir = .up
      ∧ (s.fresh.railStands r.val).railStep r.val = (s.fresh.railStands r.val).rails.step := by
    rw [hdir, hstep, hrole]
    exact ⟨hup, hlast⟩
  have hdone : s.fresh.railGood r.val = (s.fresh.railStands r.val).seqFinish := by
    rw [State.railGood_eq, if_pos hnow, if_pos, ← hnow.2]
    · exact State.seqRun_past hseq
    · rw [State.atStep, hseq, List.all_eq_true]
      intro q hq
      rw [List.mem_singleton.mp (List.mem_filter.mp hq).1, hgood]
      rfl
  rw [hdone]
  exact ⟨State.seqFinish_dir _, State.seqFinish_state _⟩

/-! ### The way down -/

theorem State.groupsDown_moved (s : State) : RailsMoved s s.groupsDown := .foldl _ (fun t g => t.setGroup_moved g 0) _ s

theorem State.seqIdle_moved (s : State) : RailsMoved s s.seqIdle :=
  (RailsMoved.rails s _).trans (.setReg _ 0 railEntry_seq)

/-- In DORMANT a way down that is no abort goes on step by step, and a rail that is off stays off. -/
theorem State.downStep_dormant {s : State} (hmode : s.ctl.mode = .dormant) :
    RailsMoved s s.downStep ∧ ∀ r, s.railState r = 0 → s.downStep.railState r = 0 := by
  unfold State.downStep
  split
  · have hdone : s.downDone = s.groupsDown.seqIdle := by
      simp only [State.downDone, hmode, ne_eq, not_true_eq_false, and_false, if_false, reduceCtorEq]
    rw [hdone]
    refine ⟨s.groupsDown_moved.trans s.groupsDown.seqIdle_moved, fun r hr => ?_⟩
    have hgroups : s.groupsDown.railState r = s.railState r := State.railState_foldl_setGroup _ 0 s r
    refine (State.reg_setReg_of_ne _ 0 ?_).trans (hgroups.trans hr)
    unfold key
    omega
  next i _ =>
    refine ⟨(s.setRails_moved _ 4).trans (.rails _ _), fun r hr => ?_⟩
    have hnot : r ∉ s.atStep (s.downRails s.rails') i := fun hmem => by
      have hdown := (List.mem_filter.mp (List.mem_filter.mp hmem).1).2
      simp [hr] at hdown
    exact (State.railState_setRails _ s 4 r).trans ((if_neg hnot).trans hr)

theorem railDown_spec (s : State) (r : Nat) (hdir : s.rails.dir = .down) (hmode : s.ctl.mode = .dormant)
    (hr : r ∈ s.rails') (hstate : s.railState r = 4) :
    ∃ t, exec .railDown s = .next t ∧ DataKept s t ∧ t.railState r = 0 := by
  have hany : (s.rails'.any fun q => s.railState q == 4) = true :=
    List.any_eq_true.mpr ⟨r, hr, by rw [hstate]; rfl⟩
  have hoff := s.fresh.setRails_moved (s.rails'.filter fun q => s.railState q == 4) 0
  have hzero : (s.fresh.setRails (s.rails'.filter fun q => s.railState q == 4) 0).railState r = 0 := by
    rw [State.railState_setRails, if_pos]
    exact List.mem_filter.mpr ⟨hr, by rw [hstate]; rfl⟩
  obtain ⟨hmoved, hstays⟩ := State.downStep_dormant (hoff.dataKept.mode.trans hmode)
  have hstep : s.fresh.railsOff = (s.fresh.setRails (s.rails'.filter fun q => s.railState q == 4) 0).downStep :=
    if_pos (.inl hdir)
  refine ⟨_, congrArg Host.Outcome.next (if_pos hany), ?_, ?_⟩
  · rw [hstep]
    exact (hoff.trans hmoved).dataKept
  · rw [hstep]
    exact hstays r hzero

/-! ### An abort (R319, R320) -/

/-- What an abort leaves, DORMANT included: bytes, leaves, groups, fault groups, and the entries but the sequencer's and the
extensions of bounds. -/
structure AbortKept (s t : State) : Prop where
  mem : t.mem = s.mem
  leaves : t.leaves = s.leaves
  groups : t.groups = s.groups
  faults : t.faults = s.faults
  layout : t.layout = s.layout
  security : t.security = s.security
  regs : ∀ k, ¬ railEntry k → k % 256 ≠ 6 → t.regs.find? k = s.regs.find? k

theorem AbortKept.trans {s t u : State} (h : AbortKept s t) (k : AbortKept t u) : AbortKept s u :=
  ⟨k.mem.trans h.mem, k.leaves.trans h.leaves, k.groups.trans h.groups, k.faults.trans h.faults, k.layout.trans h.layout,
    k.security.trans h.security, fun q h1 h2 => (k.regs q h1 h2).trans (h.regs q h1 h2)⟩

theorem RailsMoved.abortKept {s t : State} (h : RailsMoved s t) : AbortKept s t := by
  obtain ⟨h1, h2⟩ := h
  exact ⟨by rw [h1], by rw [h1], by rw [h1], by rw [h1], by rw [h1], by rw [h1], fun k hk _ => h2 k hk⟩

theorem State.toDormant_abortKept (s : State) : AbortKept s s.toDormant := by
  have hgather := State.closeGather_channels (s.setMode .dormant)
  refine ⟨?_, ?_, ?_, ?_, ?_, ?_, fun k _ hk => ?_⟩
  · exact (congrArg State.mem hgather).trans rfl
  · exact (congrArg State.leaves hgather).trans rfl
  · exact (congrArg State.groups hgather).trans rfl
  · exact (congrArg State.faults hgather).trans rfl
  · exact (congrArg State.layout hgather).trans rfl
  · exact (congrArg State.security hgather).trans rfl
  · exact State.closeGather_regs (s.setMode .dormant) hk

theorem State.toDormant_rails (s : State) : s.toDormant.rails = s.rails :=
  (congrArg State.rails (State.closeGather_channels (s.setMode .dormant)) :)

theorem State.abortDone_spec (s : State) : AbortKept s s.abortDone ∧ s.abortDone.rails.dir = .idle := by
  have hidle : ∀ v, AbortKept s ({ s with rails := { s.rails with dir := SeqDir.idle, waitFrom := s.clock.beat } }.setReg
      0x6464 0 v) := fun v => ((RailsMoved.rails s _).trans (.setReg _ v railEntry_seq)).abortKept
  unfold State.abortDone
  dsimp only
  split_ifs
  · exact ⟨(hidle 4).trans (State.toDormant_abortKept _), (congrArg Rails.dir (State.toDormant_rails _) :)⟩
  · exact ⟨hidle 4, rfl⟩
  · exact ⟨hidle 3, rfl⟩

/-- An abort goes on step by step, or ends. -/
theorem State.downStep_abort {s : State} (hdir : s.rails.dir = .abortDown) :
    AbortKept s s.downStep ∧ s.downStep.rails.dir ≠ .up := by
  unfold State.downStep
  split
  · by_cases hmode : s.ctl.mode = .dormant
    · have hdone : s.downDone = s.groupsDown.seqIdle := by
        simp only [State.downDone, hmode, ne_eq, not_true_eq_false, and_false, if_false, reduceCtorEq]
      rw [hdone]
      exact ⟨(s.groupsDown_moved.trans s.groupsDown.seqIdle_moved).abortKept, nofun⟩
    · have hdone : s.downDone = s.groupsDown.abortDone := by
        simp only [State.downDone, hdir, hmode, ne_eq, not_false_eq_true, and_self, if_true]
      obtain ⟨hkept, hidle⟩ := s.groupsDown.abortDone_spec
      rw [hdone]
      exact ⟨s.groupsDown_moved.abortKept.trans hkept, by rw [hidle]; nofun⟩
  · refine ⟨((s.setRails_moved _ 4).trans (.rails _ _)).abortKept, ?_⟩
    show s.rails.dir ≠ .up
    rw [hdir]
    nofun

/-- The sequence as it turns to an abort. -/
def State.aborting (s : State) : State := { s with rails := { s.rails with dir := .abortDown } }.setReg 0x6464 0 2

/-- An aborted sequence is on its way down, or idle. -/
theorem State.seqAbort_spec (s : State) : AbortKept s s.seqAbort ∧ s.seqAbort.rails.dir ≠ .up := by
  have habort : RailsMoved s s.aborting := (RailsMoved.rails s _).trans (.setReg _ 2 railEntry_seq)
  obtain ⟨hkept, hdir⟩ := State.downStep_abort (s := s.aborting) rfl
  exact ⟨habort.abortKept.trans hkept, hdir⟩

/-- A record of why the sequence fails, and the abort. -/
theorem State.reportedAbort_spec {s t : State} (h : SameButReports s t) :
    t.seqAbort.mem = s.mem ∧ t.seqAbort.leaves = s.leaves ∧ t.seqAbort.groups = s.groups
      ∧ t.seqAbort.reg 0x6466 0 = s.reg 0x6466 0 ∧ (∀ code, t.seqAbort.hasFault code = t.hasFault code)
      ∧ t.seqAbort.rails.dir ≠ .up := by
  obtain ⟨hkept, hdir⟩ := t.seqAbort_spec
  obtain ⟨hmem, -, hleaves, hgroups, -⟩ := h.dataKept
  have hentry : ¬ railEntry (key 0x6466 0) := by
    unfold railEntry key
    omega
  refine ⟨hkept.mem.trans hmem, hkept.leaves.trans hleaves, hkept.groups.trans hgroups, ?_, fun code => ?_, hdir⟩
  · exact (State.reg_congr hkept.layout hkept.security (hkept.regs _ hentry (by decide))).trans
      (h.niura_reg (by decide) (by decide))
  · rw [State.hasFault, State.faultGroup, hkept.faults]
    rfl

theorem pgGlitch_aborts (s : State) (r : Fin 32) (hstate : s.railState r.val = 1) (hup : s.rails.dir = .up)
    (hstep : s.railStep r.val = s.rails.step) (hmany : s.reg 0x6461 0 ≤ s.rails.restarts) :
    ∃ t, exec (.pgGlitch r) s = .next t ∧ t.mem = s.mem ∧ t.leaves = s.leaves ∧ t.groups = s.groups
      ∧ t.reg 0x6466 0 = r.val ∧ t.hasFault Code.chatter = true ∧ t.rails.dir ≠ .up := by
  obtain ⟨hmem, hleaves, hgroups, hreg, hfault, hdir⟩ := State.reportedAbort_spec
    (State.fault_reports (s.fresh.setReg 0x6466 0 r.val) Code.chatter r.val false [])
  have hglitch : s.fresh.glitch r.val = ((s.fresh.setReg 0x6466 0 r.val).fault Code.chatter r.val).seqAbort :=
    (if_pos ⟨hup, hstep⟩).trans (if_pos (Nat.lt_succ_of_le hmany))
  refine ⟨_, (congrArg Host.Outcome.next (if_pos hstate)).trans (congrArg Host.Outcome.next hglitch), hmem, hleaves,
    hgroups, hreg.trans (State.reg_setReg_self _ _ _ _), (hfault _).trans (State.fault_hasFault _ _ _ _ _), hdir⟩

theorem seqTimeout_spec (s : State) (hup : s.rails.dir = .up)
    (hlate : s.reg (0x6420 + s.rails.step) 1 ≤ s.clock.beat - s.rails.waitFrom) :
    ∃ t, exec .seqTimeout s = .next t ∧ t.mem = s.mem ∧ t.leaves = s.leaves ∧ t.groups = s.groups
      ∧ t.hasFault Code.seqTimeout = true ∧ t.rails.dir ≠ .up := by
  obtain ⟨hmem, hleaves, hgroups, -, hfault, hdir⟩ := State.reportedAbort_spec (State.faultOpen_reports
    (s.fresh.setReg 0x6466 0 (((s.atStep s.seqRails s.rails.step).find? fun r => s.railState r != 2).getD 0xFF))
    Code.seqTimeout false)
  exact ⟨_, congrArg Host.Outcome.next (if_pos ⟨hup, hlate⟩), hmem, hleaves, hgroups,
    (hfault _).trans (State.faultOpen_hasFault _ _ _), hdir⟩

/-! ### Retries (R320, Table 12.7) -/

theorem seqRetryWaitEnd_spec (s : State) (hwaits : s.reg 0x6464 0 = 3) (hlong : 10000 ≤ s.clock.beat - s.rails.waitFrom)
    (hmode : s.ctl.mode = .bringUp) :
    ∃ t, exec .seqRetryWaitEnd s = .next t ∧ DataKept s t ∧ t.rails.retried = true ∧ t.reg 0x6464 0 ≤ 1 := by
  obtain ⟨hraised, hstate, hretried⟩ :=
    State.seqUp_spec { s.fresh with rails := { s.rails with retried := true } }
  exact ⟨_, congrArg Host.Outcome.next (if_pos ⟨hwaits, hlong, hmode⟩),
    ((RailsMoved.rails s.fresh _).trans hraised.moved).dataKept, hretried, hstate⟩

theorem retryRailExpire_spec (s : State) (r : Fin 32) (n b : Nat) (hretry : s.rails.retries.find? r.val = some (n, b))
    (hoff : s.railState r.val = 0) (hlong : 100 ≤ s.clock.beat - b) :
    ∃ t, exec (.retryRailExpire r) s = .next t ∧ DataKept s t ∧ t.railState r.val = 1
      ∧ RegsKept s t [key (0x6400 + r.val) 7] := by
  refine ⟨s.fresh.setRail r.val 1, ?_, (s.fresh.setRail_moved r.val 1).dataKept, State.railState_setRail_self _ _ _,
    (RegsKept.of_regs (t := s) rfl _).put (List.mem_singleton_self _) _ rfl⟩
  simp only [exec, execRetryRailExpire, hretry, hoff, hlong, and_self, if_true]

/-- Settles O48: the way up raises rails (`RailsRaised`), the way down and the groups move the sequencer's entries only
(`RailsMoved`), and an abort keeps what `AbortKept` says. -/
theorem railSequencing : Obligations.RailSequencing := by
  unfold Obligations.RailSequencing
  refine ⟨railStable_spec, railDown_spec, fun s r hstate hup hstep hfew => ?_, pgGlitch_aborts, seqTimeout_spec,
    seqRetryWaitEnd_spec, retryRailExpire_spec⟩
  refine (congrArg Host.Outcome.next (if_pos hstate)).trans (congrArg Host.Outcome.next ?_)
  exact (if_pos ⟨hup, hstep⟩).trans (if_neg (Nat.not_lt_of_le hfew))

end Sys2Proof.Machine
end

section
/-! PROOFS. Where a save begins and ends, beside a rollback that a slot command waits behind: the drain carries that rollback
to its end and runs the command, before the journal is saved (R270, R481, Table 8.11). -/

namespace Sys2Proof.Machine

/-- Whether a command changes the Group engine. -/
def changesGroups (c : Instr) (s : State) : Bool :=
  match exec c s with
  | .next t => decide (t.groups ≠ s.groups)
  | _ => false

theorem groups_ne_of_changesGroups {c : Instr} {s t : State} (h : changesGroups c s = true) (ht : exec c s = .next t) :
    t.groups ≠ s.groups := by
  rw [changesGroups, ht] at h
  exact of_decide_eq_true h

/-- SAVE drains while slot 3 rolls back with an OPEN behind it. Three NAND channels have failed, so that no segment is opened
and the run stays short. -/
def drainRolls : State :=
  { State.reset with
    ctl := { Control.reset with mode := .save },
    save := { Save.reset with state := .draining },
    nand := { Nand.reset with channelsFailed := [0, 1, 2] },
    groups := { Groups.reset with
      slots := [(3, { Slot.reset with state := .aborted, running := true, waiting := [(1, openSlot3)] })] } }

/-- The drain ends the rollback and opens the slot again. -/
theorem saveDrainComplete_changesGroups : changesGroups .saveDrainComplete drainRolls = true := by decide +kernel

/-- Refutes O41: with ingress empty the drain still ends a rollback that a slot command waits behind, and runs the command. -/
theorem not_saveBegins : ¬ Obligations.SaveBegins := by
  unfold Obligations.SaveBegins
  rintro ⟨-, -, hdrain⟩
  obtain ⟨t, -, ht, -, -, hgroups, -⟩ := hdrain drainRolls rfl (.inr rfl) rfl rfl rfl (by decide +kernel) rfl
  exact groups_ne_of_changesGroups saveDrainComplete_changesGroups ht hgroups

/-- A POWER_FAIL save writes its leaves while slot 3 still rolls back with an OPEN behind it, and the input has returned for
as long as a withdrawal asks. -/
def withdrawalRolls : State :=
  { drainRolls with
    save := { Save.reset with state := .leaves, trigger := .powerFail },
    regs := drainRolls.regs.put (key 0x4015 0) 26214400,
    niura := { Niura.reset with high := true, highBeats := 1000000 },
    nand := { drainRolls.nand with image := some drainRolls.saveHead } }

theorem withdrawalRolls_mayWithdraw : withdrawalRolls.mayWithdraw = true := by decide +kernel

/-- The withdrawal drains ingress, and so opens the slot again. -/
theorem saveWithdrawal_changesGroups : changesGroups .saveWithdrawal withdrawalRolls = true := by decide +kernel

/-- Refutes O43: a save that is withdrawn drains ingress, and with nothing there still ends a rollback that a slot command
waits behind, and runs the command. -/
theorem not_saveEnds : ¬ Obligations.SaveEnds := by
  unfold Obligations.SaveEnds
  rintro ⟨-, -, hwithdrawn⟩
  obtain ⟨t, ht, -, -, hgroups, -⟩ := hwithdrawn withdrawalRolls drainRolls.saveHead rfl (.inl rfl) rfl rfl
    withdrawalRolls_mayWithdraw rfl rfl rfl rfl rfl (by decide +kernel)
  exact groups_ne_of_changesGroups saveWithdrawal_changesGroups ht hgroups

end Sys2Proof.Machine
end

section
/-! PROOFS. The steps of a save from the group set to the seal (R270 to R275): the order of the leaves, the rows that start,
and what the metadata stripes, the delta records and the seal leave. -/

namespace Sys2Proof.Machine

/-! ### Save order (R273) -/

theorem insertBy_perm {α : Type} (f : α → Nat) (x : α) (ys : List α) : (insertBy f x ys).Perm (x :: ys) := by
  induction ys with
  | nil => exact .refl _
  | cons y ys ih =>
    unfold insertBy
    split
    · exact .refl _
    · exact (ih.cons y).trans (.swap x y ys)

theorem insertBy_pairwise {α : Type} (f : α → Nat) (x : α) {ys : List α} (h : ys.Pairwise fun a b => f a ≤ f b) :
    (insertBy f x ys).Pairwise fun a b => f a ≤ f b := by
  induction ys with
  | nil => exact List.pairwise_singleton _ _
  | cons y ys ih =>
    obtain ⟨hy, hys⟩ := List.pairwise_cons.mp h
    unfold insertBy
    split
    next hlt =>
      refine List.pairwise_cons.mpr ⟨fun a ha => ?_, h⟩
      rcases List.mem_cons.mp ha with rfl | ha
      · exact hlt.le
      · exact hlt.le.trans (hy a ha)
    next hle =>
      refine List.pairwise_cons.mpr ⟨fun a ha => ?_, ih hys⟩
      rcases List.mem_cons.mp ((insertBy_perm f x ys).mem_iff.mp ha) with rfl | ha
      · exact not_lt.mp hle
      · exact hy a ha

theorem foldl_insertBy_sorts {α : Type} (f : α → Nat) (xs as : List α) (h : as.Pairwise fun a b => f a ≤ f b) :
    (xs.foldl (fun a x => insertBy f x a) as).Perm (as ++ xs)
      ∧ (xs.foldl (fun a x => insertBy f x a) as).Pairwise fun a b => f a ≤ f b := by
  induction xs generalizing as with
  | nil => exact ⟨by simp, h⟩
  | cons x xs ih =>
    obtain ⟨hperm, hsorted⟩ := ih (insertBy f x as) (insertBy_pairwise f x h)
    exact ⟨hperm.trans (((insertBy_perm f x as).append_right xs).trans List.perm_middle.symm), hsorted⟩

theorem sortBy_perm {α : Type} (f : α → Nat) (xs : List α) : (sortBy f xs).Perm xs :=
  (foldl_insertBy_sorts f xs [] .nil).1

theorem sortBy_pairwise {α : Type} (f : α → Nat) (xs : List α) : (sortBy f xs).Pairwise fun a b => f a ≤ f b :=
  (foldl_insertBy_sorts f xs [] .nil).2

theorem saveGroupSetComplete_spec {s : State} {i : SaveImage} (hmode : s.ctl.mode = .save) (hstate : s.save.state = .groupSet)
    (himage : s.nand.image = some i) :
    ∃ t, exec .saveGroupSetComplete s = .next t ∧ DataKept s t ∧ t.regs = s.regs ∧ t.save.state = .leaves
      ∧ t.nand.image = some { i with groupSetDone := true } ∧ t.save.todo.Perm i.residue
      ∧ t.save.todo.Pairwise fun a b => s.saveOrder a * 2 ^ 32 + a ≤ s.saveOrder b * 2 ^ 32 + b := by
  have hexec : exec .saveGroupSetComplete s = .next s.fresh.groupSetWritten :=
    congrArg Host.Outcome.next (if_pos ⟨hmode, hstate⟩)
  have htodo : s.fresh.groupSetWritten.save.todo = sortBy (fun f => s.saveOrder f * 2 ^ 32 + f) i.residue := by
    show (match s.nand.image with | some i => sortBy (fun f => s.saveOrder f * 2 ^ 32 + f) i.residue | none => []) = _
    rw [himage]
  refine ⟨_, hexec, ⟨rfl, rfl, rfl, rfl, rfl, rfl⟩, rfl, rfl, ?_, ?_, ?_⟩
  · exact congrArg (Option.map fun i => { i with groupSetDone := true }) himage
  · rw [htodo]
    exact sortBy_perm _ _
  · rw [htodo]
    exact sortBy_pairwise _ _

/-! ### A row of leaves (R274) -/

theorem State.foldl_queueLeaf_eq (fs : List Nat) (now : BitVec 16) (s : State) :
    ∃ sc, fs.foldl (fun (t : State) f => t.queueLeaf f 4 4 now false) s = { s with sched := sc } :=
  State.foldl_holds (fun t => ∃ sc, t = { s with sched := sc }) _
    (by
      rintro _ f ⟨sc, rfl⟩
      exact ⟨_, rfl⟩) fs s ⟨_, rfl⟩

theorem State.programRow_save (s : State) : s.programRow.save = s.save := by
  by_cases h : s.nextLun = none ∨ s.nand.unavailable = true ∨ s.nand.forming = []
  · rw [State.programRow_of_not_ready h]
  · obtain ⟨hlun, hready⟩ := not_or.mp h
    obtain ⟨lun, hlun⟩ := Option.ne_none_iff_exists'.mp hlun
    obtain ⟨seg, hseg⟩ := State.nextLun_open hlun
    obtain ⟨tr, htr⟩ := s.rowCharged_eq lun seg
    have hmoved : SegmentsMoved (s.rowCharged lun seg) s.programRow := State.programRow_moved hlun hseg hready
    rw [SegmentsMoved] at hmoved
    rw [hmoved, htr]
    rfl

/-- The leaves of the next row are read and stand in the forming row. -/
def State.rowRead (s : State) : State :=
  let n := 16 - s.nand.forming.length
  let t := (s.save.todo.take n).foldl (fun (t : State) f => t.queueLeaf f 4 4 s.nowStamp false) s
  { t with nand := { t.nand with forming := t.nand.forming ++ (s.save.todo.take n).map fun f => s.stripeOf f 1 },
           save := { t.save with todo := t.save.todo.drop n } }

theorem State.rowRead_eq (s : State) :
    ∃ sc fs, s.rowRead = { s with
      sched := sc, nand := { s.nand with forming := fs },
      save := { s.save with todo := s.save.todo.drop (16 - s.nand.forming.length) } } := by
  obtain ⟨sc, hsc⟩ := s.foldl_queueLeaf_eq (s.save.todo.take (16 - s.nand.forming.length)) s.nowStamp
  unfold State.rowRead
  dsimp only
  rw [hsc]
  exact ⟨_, _, rfl⟩

theorem State.startRow_eq (s : State) : s.startRow = s.rowRead.programRow.chargeWear (16 * 73728) := rfl

theorem State.startRow_spec (s : State) :
    DataKept s s.startRow
      ∧ s.startRow.save = { s.save with todo := s.save.todo.drop (16 - s.nand.forming.length) } := by
  obtain ⟨sc, fs, hread⟩ := s.rowRead_eq
  have hkept : DataKept s s.rowRead := by
    rw [hread]
    exact ⟨rfl, rfl, rfl, rfl, rfl, rfl⟩
  refine ⟨hkept.trans (s.rowRead.programRow_storeKept []).data, ?_⟩
  calc s.startRow.save = s.rowRead.programRow.save := rfl
    _ = s.rowRead.save := s.rowRead.programRow_save
    _ = _ := by rw [hread]

/-! ### Metadata stripes (R272, R275) -/

theorem State.writeMeta_eq (s : State) (n : Nat) :
    ∃ tr segs units k om ml, (s.writeMeta n).1 = { s with
      nand := { s.nand with segments := segs, units := units, nextOpen := k, openMeta := om, metaLun := ml },
      regs := s.regs.put (key 0x5070 0) (s.reg 0x5070 0 + 16 * ceilDiv n 16), trickle := tr } :=
  ⟨_, _, _, _, _, _, rfl⟩

/-- Metadata stripes of a save move no data but the segments and the sequences that they take. -/
theorem State.saveMeta_spec (s : State) (n : Nat) :
    DataKept s (s.saveMeta n) ∧ (s.saveMeta n).save = s.save ∧ (s.saveMeta n).layout = s.layout
      ∧ (s.saveMeta n).security = s.security
      ∧ (s.saveMeta n).regs = s.regs.put (key 0x5070 0) (s.reg 0x5070 0 + 16 * ceilDiv n 16)
      ∧ (s.saveMeta n).nand.image = s.nand.image.map fun i => { i with segs := i.segs ++ (s.writeMeta n).2 } := by
  obtain ⟨tr, segs, units, k, om, ml, h⟩ := s.writeMeta_eq n
  unfold State.saveMeta State.setImage
  dsimp only
  rw [h]
  exact ⟨⟨rfl, rfl, rfl, rfl, rfl, rfl⟩, rfl, rfl, rfl, rfl, rfl⟩

theorem saveDeltasComplete_spec {s : State} (hmode : s.ctl.mode = .save) (hstate : s.save.state = .deltas) :
    ∃ t, exec .saveDeltasComplete s = .next t ∧ DataKept s t ∧ t.save.state = .sealing
      ∧ RegsKept s t [key 0x5070 0]
      ∧ t.reg 0x5070 0 = s.reg 0x5070 0 + 16 * ceilDiv (ceilDiv (8 * s.save.deltas.length) 65536) 16
      ∧ (∀ i, s.nand.image = some i →
          ∃ j, t.nand.image = some j ∧ j.deltas = s.save.deltas ∧ j.residue = i.residue) := by
  have hexec : exec .saveDeltasComplete s = .next s.fresh.deltasWritten :=
    congrArg Host.Outcome.next (if_pos ⟨hmode, hstate⟩)
  obtain ⟨hdata, -, -, -, hregs, himage⟩ := s.fresh.saveMeta_spec (ceilDiv (8 * s.save.deltas.length) 65536)
  refine ⟨_, hexec, hdata, rfl, fun k _ _ hk => ?_, ?_, fun i hi => ?_⟩
  · exact (congrArg (fun m => Map.find? m k) hregs).trans (Map.find?_put_of_ne _ _ _ _ (by simpa using hk))
  · exact State.reg_of_find? ((congrArg (fun m => Map.find? m _) hregs).trans (Map.find?_put_self _ _ _))
  · have hi : s.fresh.nand.image = some i := hi
    have hdeltas : s.fresh.deltasWritten.nand.image = (s.fresh.saveMeta (ceilDiv (8 * s.save.deltas.length) 65536)).nand.image.map
      fun i => { i with deltas := s.save.deltas } := rfl
    rw [hdeltas, himage, hi]
    exact ⟨_, rfl, rfl, rfl⟩

/-! ### The seal (R275) -/

/-- The seal block and its root record stand. -/
theorem State.writeSeal_spec (s : State) :
    DataKept s s.writeSeal ∧ s.writeSeal.save = s.save ∧ s.writeSeal.layout = s.layout ∧ s.writeSeal.security = s.security
      ∧ (∀ k, k ≠ key 0x5070 0 → s.writeSeal.regs.find? k = s.regs.find? k)
      ∧ s.writeSeal.nand.image = s.nand.image.map fun i => { i with segs := i.segs ++ (s.writeMeta 1).2 } := by
  obtain ⟨hdata, hsave, hlayout, hsecurity, hregs, himage⟩ := s.saveMeta_spec 1
  refine ⟨hdata, hsave, hlayout, hsecurity, fun k hk => ?_, himage⟩
  show (s.saveMeta 1).regs.find? k = _
  rw [hregs]
  exact Map.find?_put_of_ne _ _ _ _ hk

theorem State.writeSeal_reg (s : State) {idx sub : Nat} (h : key idx sub ≠ key 0x5070 0) :
    s.writeSeal.reg idx sub = s.reg idx sub := by
  obtain ⟨-, -, hlayout, hsecurity, hregs, -⟩ := s.writeSeal_spec
  exact State.reg_congr hlayout hsecurity (hregs _ h)

theorem State.writeSeal_unsaved (s : State) : s.writeSeal.unsaved = s.unsaved := by
  obtain ⟨-, hsave, -, -, -, himage⟩ := s.writeSeal_spec
  unfold State.unsaved
  rw [himage, hsave]
  cases s.nand.image <;> rfl

/-- The image under its seal, and the delta log with the credits of the save. -/
def State.sealedImage (s : State) (energyMj : Nat) : State :=
  (s.setImage fun i => { i with sealRecord := some (s.sealOf energyMj), credited := s.save.credited }).logCredits

/-- The entries that tell of a sealed save. -/
def State.sealedEntries (s : State) (energyMj : Nat) : State :=
  let r := s.sealOf energyMj
  ((((((s.sealedImage energyMj).setReg 0x5403 0 (if r.complete then 1 else 2)).setReg 0x5404 1 r.saved).setReg 0x5404 2
    r.newlyLost).setReg 0x5404 3 r.bytes).setReg 0x5404 4 (s.clock.devNs - s.save.startNs)).setReg 0x5404 5 energyMj

/-- A save that left leaves out is reported. -/
def State.sealedReport (s : State) (energyMj : Nat) : State :=
  let r := s.sealOf energyMj
  if r.complete then s.sealedEntries energyMj else (s.sealedEntries energyMj).fault Code.saveShort r.newlyLost

theorem State.saveSealed_eq (s : State) (energyMj : Nat) : s.saveSealed energyMj =
    let w := (s.writeSeal.sealedReport energyMj).measureSave energyMj
    { w with save := { w.save with state := .sealed }, ctl := { w.ctl with retention := true, dramHeld := true } } := rfl

theorem State.sealedEntries_reg (s : State) (energyMj : Nat) :
    (s.sealedEntries energyMj).reg 0x5403 0 = (if s.unsaved.isEmpty then 1 else 2)
      ∧ (s.sealedEntries energyMj).reg 0x5404 2 = s.unsaved.length := by
  refine ⟨?_, ?_⟩
  · unfold State.sealedEntries
    dsimp only
    iterate 5 rw [State.reg_setReg_of_ne _ _ (by decide)]
    rw [State.reg_setReg_self]
    rfl
  · unfold State.sealedEntries
    dsimp only
    iterate 3 rw [State.reg_setReg_of_ne _ _ (by decide)]
    rw [State.reg_setReg_self]
    rfl

theorem State.sealedReport_reports (s : State) (energyMj : Nat) :
    SameButReports (s.sealedEntries energyMj) (s.sealedReport energyMj) := by
  unfold State.sealedReport
  dsimp only
  split
  · exact .refl _
  · exact State.fault_reports _ _ _ _ _

/-- The energy per byte that a save measured (R172). -/
def State.measuredEnergy (s : State) (energyMj : Nat) : Nat :=
  if energyMj < s.reg 0x4021 0 then Config.free s.free % 2 ^ 32
  else (energyMj - s.reg 0x4021 0) * 1000000000 / s.save.bytes

/-- That energy is stored. -/
def State.energyStored (s : State) (energyMj : Nat) : State :=
  (if energyMj < s.reg 0x4021 0 then s.drawn else s).setReg 0x4026 0 (s.measuredEnergy energyMj)

/-- Whether that energy takes the place of the one in force. -/
def State.energyRises (s : State) (energyMj : Nat) : Prop :=
  s.reg 0x4021 0 ≤ energyMj ∧ s.reg 0x4020 0 * 110 < s.measuredEnergy energyMj * 100

theorem State.measureSave_of_rises {s : State} {energyMj : Nat} (h : s.energyRises energyMj) :
    s.measureSave energyMj
      = ((s.energyStored energyMj).setReg 0x4020 0 (s.measuredEnergy energyMj)).note Code.eByteRaised := if_pos h

theorem State.measureSave_of_not_rises {s : State} {energyMj : Nat} (h : ¬ s.energyRises energyMj) :
    s.measureSave energyMj = s.energyStored energyMj := if_neg h

/-- `t` is `s` but for the entries of the energy per byte and free values. -/
def EnergyMeasured (s t : State) : Prop :=
  t = { s with regs := t.regs, free := t.free } ∧ ∀ k, k ≠ key 0x4020 0 → k ≠ key 0x4026 0 → t.regs.find? k = s.regs.find? k

theorem State.energyStored_measured (s : State) (energyMj : Nat) : EnergyMeasured s (s.energyStored energyMj) := by
  unfold State.energyStored
  split <;> exact ⟨rfl, fun k _ h => Map.find?_put_of_ne _ _ _ _ h⟩

/-- The measured energy is stored in its entries, and no more than a record follows. -/
theorem State.measureSave_spec (s : State) (energyMj : Nat) :
    ∃ u, EnergyMeasured s u ∧ SameButReports u (s.measureSave energyMj) ∧ RecordKept u (s.measureSave energyMj) := by
  obtain ⟨heq, hregs⟩ := s.energyStored_measured energyMj
  by_cases h : s.energyRises energyMj
  · rw [State.measureSave_of_rises h]
    refine ⟨_, ⟨?_, fun k h1 h2 => (Map.find?_put_of_ne _ _ _ _ h1).trans (hregs k h1 h2)⟩, State.note_reports _ _ _,
      State.record_kept _ _ _ _⟩
    conv_lhs => rw [heq]
    rfl
  · rw [State.measureSave_of_not_rises h]
    exact ⟨_, ⟨heq, hregs⟩, .refl _, .refl _⟩

theorem EnergyMeasured.reg {s t : State} (h : EnergyMeasured s t) {idx sub : Nat} (h1 : key idx sub ≠ key 0x4020 0)
    (h2 : key idx sub ≠ key 0x4026 0) : t.reg idx sub = s.reg idx sub := by
  obtain ⟨heq, hregs⟩ := h
  exact State.reg_congr (by rw [heq]) (by rw [heq]) (hregs _ h1 h2)

theorem EnergyMeasured.dataKept {s t : State} (h : EnergyMeasured s t) : DataKept s t := by
  rw [h.1]
  exact ⟨rfl, rfl, rfl, rfl, rfl, rfl⟩

theorem EnergyMeasured.hasFault {s t : State} (h : EnergyMeasured s t) (code : Nat) : t.hasFault code = s.hasFault code := by
  rw [h.1]
  rfl

theorem EnergyMeasured.nand {s t : State} (h : EnergyMeasured s t) : t.nand = s.nand := by rw [h.1]

theorem State.sealedImage_dataKept (s : State) (energyMj : Nat) : DataKept s (s.sealedImage energyMj) :=
  ⟨rfl, rfl, rfl, rfl, rfl, rfl⟩

theorem State.setReg_dataKept (s : State) (idx sub v : Nat) : DataKept s (s.setReg idx sub v) :=
  ⟨rfl, rfl, rfl, rfl, rfl, rfl⟩

theorem State.sealedEntries_dataKept (s : State) (energyMj : Nat) : DataKept s (s.sealedEntries energyMj) := by
  unfold State.sealedEntries
  dsimp only
  iterate 6 refine DataKept.trans ?_ (State.setReg_dataKept _ _ _ _)
  exact s.sealedImage_dataKept energyMj

theorem State.sealedReport_hasFault {s : State} (energyMj : Nat) (h : s.unsaved ≠ []) :
    (s.sealedReport energyMj).hasFault Code.saveShort = true := by
  have hshort : ¬ (s.sealOf energyMj).complete = true := by
    show ¬ s.unsaved.isEmpty = true
    simpa using h
  unfold State.sealedReport
  dsimp only
  rw [if_neg hshort]
  exact State.fault_hasFault _ _ _ _ _

theorem saveSealed_spec {s : State} (mj : Nat) {i : SaveImage} (hmode : s.ctl.mode = .save) (hstate : s.save.state = .sealing)
    (himage : s.nand.image = some i) :
    ∃ t r, exec (.saveSealed mj) s = .next t ∧ DataKept s t ∧ t.save.state = .sealed ∧ t.ctl.retention = true
      ∧ t.ctl.dramHeld = true
      ∧ (∃ j, t.nand.image = some j
          ∧ j = { i with sealRecord := some r, credited := s.save.credited, segs := j.segs })
      ∧ r.complete = s.unsaved.isEmpty ∧ r.epoch = s.reg 0x5402 0 ∧ r.energyMj = mj
      ∧ t.reg 0x5403 0 = (if s.unsaved = [] then 1 else 2) ∧ t.reg 0x5404 2 = s.unsaved.length
      ∧ (s.unsaved ≠ [] → t.hasFault Code.saveShort = true) := by
  have hexec : exec (.saveSealed mj) s = .next (s.fresh.saveSealed mj) := congrArg Host.Outcome.next (if_pos ⟨hmode, hstate⟩)
  obtain ⟨hwritten, hsave, -, -, -, himages⟩ := s.fresh.writeSeal_spec
  have hunsaved : s.fresh.writeSeal.unsaved = s.unsaved := s.fresh.writeSeal_unsaved
  have hreports := s.fresh.writeSeal.sealedReport_reports mj
  obtain ⟨u, hmeasured, hnote, hkept⟩ := (s.fresh.writeSeal.sealedReport mj).measureSave_spec mj
  have hreg : ∀ idx sub, 0x5000 ≤ idx → key idx sub ∉ reportEntries → key idx sub ≠ key 0x4020 0 → key idx sub ≠ key 0x4026 0 →
      ((s.fresh.writeSeal.sealedReport mj).measureSave mj).reg idx sub = (s.fresh.writeSeal.sealedEntries mj).reg idx sub :=
    fun idx sub hidx hk h1 h2 => (hnote.niura_reg (by omega) hk).trans
      ((hmeasured.reg h1 h2).trans (hreports.niura_reg (by omega) hk))
  have hdata : DataKept s ((s.fresh.writeSeal.sealedReport mj).measureSave mj) :=
    (((hwritten.trans (State.sealedEntries_dataKept _ mj)).trans hreports.dataKept).trans hmeasured.dataKept).trans hnote.dataKept
  have hfinal : ((s.fresh.writeSeal.sealedReport mj).measureSave mj).nand.image = (s.fresh.writeSeal.sealedEntries mj).nand.image := by
    rw [hnote.1, hmeasured.nand, hreports.1]
  have hsealed : (s.fresh.writeSeal.sealedEntries mj).nand.image = s.fresh.writeSeal.nand.image.map fun i =>
    { i with sealRecord := some (s.fresh.writeSeal.sealOf mj), credited := s.fresh.writeSeal.save.credited } := rfl
  obtain ⟨houtcome, hlost⟩ := s.fresh.writeSeal.sealedEntries_reg mj
  refine ⟨_, s.fresh.writeSeal.sealOf mj, hexec, hdata, rfl, rfl, rfl,
    ⟨{ i with
      sealRecord := some (s.fresh.writeSeal.sealOf mj), credited := s.save.credited,
      segs := i.segs ++ (s.fresh.writeMeta 1).2 }, ?_, rfl⟩, ?_, ?_, rfl, ?_, ?_, fun hne => ?_⟩
  · refine hfinal.trans (hsealed.trans ?_)
    rw [himages, hsave]
    show Option.map _ (Option.map _ s.nand.image) = _
    rw [himage]
    rfl
  · exact congrArg List.isEmpty hunsaved
  · exact s.fresh.writeSeal_reg (by decide)
  · refine (hreg 0x5403 0 (by decide) (by decide) (by decide) (by decide)).trans (houtcome.trans ?_)
    rw [hunsaved]
    simp only [List.isEmpty_iff]
  · exact (hreg 0x5404 2 (by decide) (by decide) (by decide) (by decide)).trans (hlost.trans (congrArg List.length hunsaved))
  · refine hkept.faults _ ?_
    rw [hmeasured.hasFault]
    exact State.sealedReport_hasFault mj (by rwa [hunsaved])

/-- Settles O42: each command of the save sequence by its own rule. -/
theorem saveRuns : Obligations.SaveRuns := by
  unfold Obligations.SaveRuns
  refine ⟨fun s i hmode hstate himage => saveGroupSetComplete_spec hmode hstate himage, ?_, ?_, ?_,
    fun s hmode hstate => saveDeltasComplete_spec hmode hstate,
    fun s mj i hmode hstate himage => saveSealed_spec mj hmode hstate himage⟩
  · intro s hmode hstate hgo hleft hshort
    exact congrArg Host.Outcome.next ((if_pos ⟨hmode, hstate, hgo, hleft⟩).trans (if_pos hshort))
  · intro s hmode hstate hgo hleft henergy
    obtain ⟨hdata, hsave⟩ := s.fresh.startRow_spec
    refine ⟨_, congrArg Host.Outcome.next ((if_pos ⟨hmode, hstate, hgo, hleft⟩).trans (if_neg (not_lt.mpr henergy))), hdata,
      ?_, ?_⟩
    · rw [hsave]
      exact hgo
    · rw [hsave]
      rfl
  · intro s hmode hstate hrows hdone
    exact congrArg Host.Outcome.next (if_pos ⟨hmode, hstate, hrows, hdone⟩)

end Sys2Proof.Machine
end

section
/-! PROOFS. Embedded flash (chapter 17). What a change of one bank leaves comes first, then the work on sectors (erase, wear,
rewrite) that commands, the scrub and firmware updates share. -/

namespace Sys2Proof.Machine

/-! ### Banks -/

@[simp] theorem State.bank_setBank_self (s : State) (b : Nat) (x : Bank) : (s.setBank b x).bank b = x :=
  Map.get_put_self _ _ _ _

theorem State.bank_setBank_of_ne (s : State) {b k : Nat} (x : Bank) (h : k ≠ b) : (s.setBank b x).bank k = s.bank k :=
  Map.get_put_of_ne _ _ _ _ _ h

theorem State.setBank_setBank (s : State) (b : Nat) (x y : Bank) : (s.setBank b x).setBank b y = s.setBank b y := by
  unfold State.setBank
  dsimp only
  rw [Map.put_put]

theorem SameButReports.bank {s t : State} (h : SameButReports s t) (b : Nat) : t.bank b = s.bank b := by
  rw [h.1]
  rfl

/-- The entries that count the work of a bank: programs, erases, the most cycles and worn sectors (R408, R409). -/
def wearEntries (b : Nat) : List Nat := [key (0x8000 + b) 4, key (0x8000 + b) 6, key (0x8000 + b) 7]

/-- Between two states a bank has moved and reports have been made: no data, no other bank and no entry but those of `l` differ,
and a fault that has occurred stays sticky. -/
structure FlashMoved (b : Nat) (l : List Nat) (s t : State) : Prop where
  data : DataKept s t
  layout : t.layout = s.layout
  security : t.security = s.security
  eflash : t.eflash = { s.eflash with banks := t.eflash.banks }
  banks : ∀ k, k ≠ b → t.bank k = s.bank k
  regs : RegsKept s t l
  faults : ∀ code, s.hasFault code = true → t.hasFault code = true

namespace FlashMoved

variable {b : Nat} {l : List Nat} {s t u : State}

theorem refl (b : Nat) (l : List Nat) (s : State) : FlashMoved b l s s :=
  ⟨⟨rfl, rfl, rfl, rfl, rfl, rfl⟩, rfl, rfl, rfl, fun _ _ => rfl, fun _ _ _ _ => rfl, fun _ h => h⟩

theorem trans (h : FlashMoved b l s t) (k : FlashMoved b l t u) : FlashMoved b l s u :=
  ⟨h.data.trans k.data, k.layout.trans h.layout, k.security.trans h.security, by rw [k.eflash, h.eflash],
    fun c hc => (k.banks c hc).trans (h.banks c hc), h.regs.trans h.data.mode k.regs, fun c hc => k.faults c (h.faults c hc)⟩

theorem mono {l' : List Nat} (h : FlashMoved b l s t) (hl : l ⊆ l') : FlashMoved b l' s t :=
  { h with regs := h.regs.mono hl }

theorem reports (h : SameButReports s t) (k : RecordKept s t) (b : Nat) (l : List Nat) : FlashMoved b l s t :=
  ⟨h.dataKept, h.layout, h.security, by rw [h.1], fun c _ => h.bank c, h.regsKept l, k.faults⟩

theorem setBank (s : State) (b : Nat) (x : Bank) (l : List Nat) : FlashMoved b l s (s.setBank b x) :=
  ⟨⟨rfl, rfl, rfl, rfl, rfl, rfl⟩, rfl, rfl, rfl, fun _ h => s.bank_setBank_of_ne x h, .of_regs rfl l, fun _ h => h⟩

theorem setReg (s : State) (b : Nat) {idx sub : Nat} (v : Nat) (h : key idx sub ∈ l) : FlashMoved b l s (s.setReg idx sub v) :=
  ⟨⟨rfl, rfl, rfl, rfl, rfl, rfl⟩, rfl, rfl, rfl, fun _ _ => rfl, (RegsKept.of_regs rfl _).put h _ rfl, fun _ h => h⟩

theorem addReg (s : State) (b : Nat) {idx sub : Nat} (n : Nat) (h : key idx sub ∈ l) : FlashMoved b l s (s.addReg idx sub n) :=
  ⟨⟨rfl, rfl, rfl, rfl, rfl, rfl⟩, rfl, rfl, rfl, fun _ _ => rfl, (RegsKept.of_regs rfl _).put h _ rfl, fun _ h => h⟩

theorem chest (s : State) (b : Nat) (l : List Nat) (c : Chest) : FlashMoved b l s { s with chest := c } :=
  ⟨⟨rfl, rfl, rfl, rfl, rfl, rfl⟩, rfl, rfl, rfl, fun _ _ => rfl, .of_regs rfl l, fun _ h => h⟩

theorem drawnBy (s : State) (b : Nat) (l : List Nat) (n : Nat) : FlashMoved b l s { s with free := n } :=
  ⟨⟨rfl, rfl, rfl, rfl, rfl, rfl⟩, rfl, rfl, rfl, fun _ _ => rfl, .of_regs rfl l, fun _ h => h⟩

theorem note (s : State) (b : Nat) (l : List Nat) (code : Nat) (vs : List Nat) : FlashMoved b l s (s.note code vs) :=
  .reports (s.note_reports _ _) (s.record_kept _ _ _) b l

theorem fault (s : State) (b : Nat) (l : List Nat) (code d : Nat) : FlashMoved b l s (s.fault code d) :=
  .reports (s.fault_reports _ _ _ _) (s.fault_kept _ _ _ _) b l

/-- An entry of chapter 4 or later that is not left out reads as before. -/
theorem reg (h : FlashMoved b l s t) {idx sub : Nat} (hidx : 0x4000 ≤ idx) (hr : key idx sub ∉ reportEntries)
    (hl : key idx sub ∉ l) : t.reg idx sub = s.reg idx sub :=
  State.reg_congr h.layout h.security (h.regs _ hr (fun _ => key_notMem_windowEntries_of_le hidx) hl)

theorem counted {idx sub n : Nat} (h : FlashMoved b l t u) (hc : Counted s t idx sub n) (hidx : 0x4000 ≤ idx)
    (hr : key idx sub ∉ reportEntries) (hl : key idx sub ∉ l) : Counted s u idx sub n :=
  fun hn => (h.reg hidx hr hl).trans (hc hn)

theorem counted_of (h : FlashMoved b l s t) {idx sub n : Nat} (hc : Counted t u idx sub n) (hidx : 0x4000 ≤ idx)
    (hr : key idx sub ∉ reportEntries) (hl : key idx sub ∉ l) : Counted s u idx sub n :=
  hc.of_reg (h.reg hidx hr hl)

end FlashMoved

theorem flashKey_notMem_reportEntries (b sub : Nat) : key (0x8000 + b) sub ∉ reportEntries := by
  simp only [reportEntries, key, List.mem_cons, List.not_mem_nil, or_false]
  omega

/-! ### Wear (R409) -/

@[simp] theorem State.bank_addReg (s : State) (idx sub n k : Nat) : (s.addReg idx sub n).bank k = s.bank k := rfl

@[simp] theorem State.bank_maxReg (s : State) (idx sub v k : Nat) : (s.maxReg idx sub v).bank k = s.bank k := rfl

/-- A sector that has reached its endurance is listed, counted and reported. -/
def State.sectorWorn (s : State) (b sector : Nat) : State :=
  ((s.setBank b { s.bank b with worn := (s.bank b).worn ++ [sector] }).addReg (0x8000 + b) 7 1).fault Code.sectorWorn
    (flashDetail b sector)

theorem State.wornCheck_cases (s : State) (b sector : Nat) :
    s.wornCheck b sector = s ∨ s.wornCheck b sector = s.sectorWorn b sector
      ∨ s.wornCheck b sector = (s.sectorWorn b sector).fault Code.regionWorn (flashDetail b sector) := by
  unfold State.wornCheck
  dsimp only
  split
  · exact (ite_eq_or_eq _ _ _).elim (fun h => .inr (.inr h)) fun h => .inr (.inl h)
  · exact .inl rfl

theorem State.sectorWorn_spec (s : State) (b sector : Nat) :
    FlashMoved b [key (0x8000 + b) 7] s (s.sectorWorn b sector)
      ∧ (s.sectorWorn b sector).bank b = { s.bank b with worn := (s.bank b).worn ++ [sector] } := by
  refine ⟨((FlashMoved.setBank s b _ _).trans (.addReg _ b 1 (List.mem_singleton_self _))).trans (.fault _ b _ _ _), ?_⟩
  rw [State.sectorWorn, (State.fault_reports _ _ _ _ _).bank, State.bank_addReg, State.bank_setBank_self]

theorem State.wornCheck_spec (s : State) (b sector : Nat) :
    FlashMoved b [key (0x8000 + b) 7] s (s.wornCheck b sector)
      ∧ ∃ w, (s.wornCheck b sector).bank b = { s.bank b with worn := w } := by
  obtain ⟨hmoved, hbank⟩ := s.sectorWorn_spec b sector
  rcases s.wornCheck_cases b sector with h | h | h <;> rw [h]
  · exact ⟨.refl _ _ s, (s.bank b).worn, rfl⟩
  · exact ⟨hmoved, _, hbank⟩
  · exact ⟨hmoved.trans (.fault _ b _ _ _), _, ((State.fault_reports _ _ _ _ _).bank b).trans hbank⟩

/-! ### Erases and rewrites of a sector (R408, R417) -/

/-- A bank whose sector has been erased. -/
def Bank.erasedAt (x : Bank) (sector : Nat) : Bank :=
  { x with units := x.units.filter fun e => e.1 / 128 != sector, cycles := x.cycles.upd sector 0 (· + 1) }

/-- The cycles of a sector are counted, and its wear is judged. -/
def State.countErase (s : State) (b sector : Nat) : State :=
  ((s.maxReg (0x8000 + b) 6 ((s.bank b).cycles.get sector 0)).addReg (0x8000 + b) 4 1).wornCheck b sector

theorem State.countErase_spec (s : State) (b sector : Nat) :
    FlashMoved b (wearEntries b) s (s.countErase b sector) ∧ Counted s (s.countErase b sector) (0x8000 + b) 4 1
      ∧ ∃ w, (s.countErase b sector).bank b = { s.bank b with worn := w } := by
  obtain ⟨hworn, w, hbank⟩ :=
    ((s.maxReg (0x8000 + b) 6 ((s.bank b).cycles.get sector 0)).addReg (0x8000 + b) 4 1).wornCheck_spec b sector
  have hmax : FlashMoved b (wearEntries b) s (s.maxReg (0x8000 + b) 6 ((s.bank b).cycles.get sector 0)) :=
    .setReg s b _ (by simp [wearEntries])
  refine ⟨(hmax.trans (.addReg _ b 1 (by simp [wearEntries]))).trans (hworn.mono (by simp [wearEntries])), ?_, w, hbank⟩
  refine hworn.counted ?_ (by omega) (flashKey_notMem_reportEntries b 4) (by simp [key])
  exact (State.addReg_counted _ _ _ _).of_reg (State.reg_setReg_of_ne _ _ (key_ne (by decide)))

theorem State.spoolErased_moved (s : State) (b sector : Nat) (l : List Nat) :
    FlashMoved b l s (s.spoolErased b sector) ∧ ∀ k, (s.spoolErased b sector).bank k = s.bank k := by
  unfold State.spoolErased
  split
  · exact ⟨.chest s b l _, fun _ => rfl⟩
  · exact ⟨.refl b l s, fun _ => rfl⟩

theorem State.sectorErased_eq (s : State) (b sector : Nat) :
    s.sectorErased b sector
      = ((s.spoolErased b sector).setBank b ((s.bank b).erasedAt sector)).countErase b sector := rfl

theorem State.sectorErased_spec (s : State) (b sector : Nat) :
    FlashMoved b (wearEntries b) s (s.sectorErased b sector) ∧ Counted s (s.sectorErased b sector) (0x8000 + b) 4 1
      ∧ ∃ w, (s.sectorErased b sector).bank b = { (s.bank b).erasedAt sector with worn := w } := by
  obtain ⟨hspool, -⟩ := s.spoolErased_moved b sector (wearEntries b)
  obtain ⟨hcount, hcounted, w, hbank⟩ :=
    ((s.spoolErased b sector).setBank b ((s.bank b).erasedAt sector)).countErase_spec b sector
  have hset := hspool.trans (.setBank _ b ((s.bank b).erasedAt sector) _)
  rw [State.sectorErased_eq]
  refine ⟨hset.trans hcount, ?_, w, hbank.trans (by rw [State.bank_setBank_self])⟩
  exact ((s.spoolErased_moved b sector []).1.trans (.setBank _ b _ [])).counted_of hcounted (by omega)
    (flashKey_notMem_reportEntries b 4) (by simp)

theorem Map.find?_filter_of_true {α : Type} {m : Map α} {q : Nat} {p : Nat × α → Bool} (h : ∀ v, p (q, v) = true) :
    Map.find? (m.filter p) q = Map.find? m q := by
  induction m with
  | nil => rfl
  | cons e m ih =>
    obtain ⟨k, v⟩ := e
    by_cases hk : k = q
    · subst hk
      rw [List.filter_cons_of_pos (h v)]
      simp [Map.find?]
    · by_cases hp : p (k, v) = true
      · rw [List.filter_cons_of_pos hp]
        simp [Map.find?, hk, ih]
      · rw [List.filter_cons_of_neg hp, ih]
        simp [Map.find?, hk]

theorem Bank.erasedAt_find? (x : Bank) (sector v : Nat) :
    (x.erasedAt sector).units.find? v = if v / 128 = sector then none else x.units.find? v := by
  unfold Bank.erasedAt
  split
  next h => exact Map.find?_filter_of_false fun _ => by simp [h]
  next h => exact Map.find?_filter_of_true fun _ => by simpa using h

/-! ### The erase journal (R413) -/

/-- `y` is `x` but for its journal. -/
def Bank.SameButJournal (x y : Bank) : Prop :=
  y = { x with journal := y.journal, journalRow := y.journalRow, nextJournal := y.nextJournal }

theorem Bank.SameButJournal.trans {x y z : Bank} (h : x.SameButJournal y) (k : y.SameButJournal z) : x.SameButJournal z := by
  unfold Bank.SameButJournal at *
  rw [k, h]

theorem Bank.journalAdd_sameButJournal (x : Bank) (kind sector : Nat) (opened : Bool) (seq : Nat) :
    x.SameButJournal (x.journalAdd kind sector opened seq) := by
  unfold Bank.journalAdd Bank.SameButJournal
  dsimp only
  split <;> rfl

theorem Bank.journalOpen_sameButJournal (x : Bank) (kind sector : Nat) : x.SameButJournal (x.journalOpen kind sector) :=
  (x.journalAdd_sameButJournal kind sector true x.nextJournal).trans rfl

theorem Bank.journalClose_sameButJournal (x : Bank) (kind sector : Nat) : x.SameButJournal (x.journalClose kind sector) := by
  have hfold : ∀ (es : List EraseEntry) (y : Bank), x.SameButJournal y →
      x.SameButJournal (es.foldl (fun z e => z.journalAdd 0x80 sector false e.seq) y) := by
    intro es
    induction es with
    | nil => exact fun _ h => h
    | cons e es ih => exact fun y h => ih _ (h.trans (y.journalAdd_sameButJournal _ _ _ _))
  exact hfold _ _ rfl

theorem Bank.journalOpen_mem (x : Bank) (kind sector : Nat) :
    ∃ e ∈ (x.journalOpen kind sector).journal, e.kind = kind ∧ e.sector = sector ∧ e.opened = true := by
  refine ⟨{ kind := kind, sector := sector, seq := x.nextJournal, opened := true }, ?_, rfl, rfl, rfl⟩
  simp [Bank.journalOpen, Bank.journalAdd]

theorem Bank.ended_spec (x : Bank) (op : FlashOp) :
    ({ x with op := none, nested := false } : Bank).SameButJournal (x.ended op) := by
  unfold Bank.ended
  dsimp only
  split
  · exact Bank.journalClose_sameButJournal _ _ _
  · exact rfl

/-! ### Rewrites of the scrub (R417) -/

/-- The bank of a sector that is rewritten, journalled and closed again. -/
def Bank.rewrittenAt (x : Bank) (sector : Nat) : Bank :=
  let y := x.journalOpen 2 sector
  { y with cycles := y.cycles.upd sector 0 (· + 1) }.journalClose 2 sector

theorem Bank.rewrittenAt_units (x : Bank) (sector : Nat) : (x.rewrittenAt sector).units = x.units := by
  have hopen := x.journalOpen_sameButJournal 2 sector
  have hclose := Bank.journalClose_sameButJournal
    { x.journalOpen 2 sector with cycles := (x.journalOpen 2 sector).cycles.upd sector 0 (· + 1) } 2 sector
  unfold Bank.rewrittenAt
  dsimp only
  rw [hclose, hopen]

/-- A rewrite counted, with its record. -/
def State.rewriteNoted (s : State) (b sector : Nat) : State :=
  (((s.setBank b ((s.bank b).rewrittenAt sector)).countErase b sector).addReg 0x8022 0 1).note Code.scrubRewrite [b, sector]

theorem State.rewrite_eq (s : State) (b sector : Nat) (uncorrectable : Bool) : s.rewrite b sector uncorrectable =
    if uncorrectable then ((s.rewriteNoted b sector).stick b stEccUe).fault Code.eccUe (flashDetail b sector)
    else s.rewriteNoted b sector := rfl

/-- The entries that a rewrite of the scrub moves. -/
def rewriteEntries (b : Nat) : List Nat := key 0x8022 0 :: wearEntries b

theorem State.rewriteNoted_spec (s : State) (b sector : Nat) :
    FlashMoved b (rewriteEntries b) s (s.rewriteNoted b sector)
      ∧ Counted s (s.rewriteNoted b sector) 0x8022 0 1 ∧ ((s.rewriteNoted b sector).bank b).units = (s.bank b).units := by
  obtain ⟨hcount, -, w, hbank⟩ := (s.setBank b ((s.bank b).rewrittenAt sector)).countErase_spec b sector
  have hmoved := (FlashMoved.setBank s b ((s.bank b).rewrittenAt sector) (wearEntries b)).trans hcount
  have hnote := FlashMoved.note (((s.setBank b ((s.bank b).rewrittenAt sector)).countErase b sector).addReg 0x8022 0 1) b
    (rewriteEntries b) Code.scrubRewrite [b, sector]
  refine ⟨((hmoved.mono (List.subset_cons_self _ _)).trans (.addReg _ b 1 (List.mem_cons_self ..))).trans hnote, ?_, ?_⟩
  · refine (FlashMoved.note _ b [] _ _).counted ?_ (by decide) (by decide) (by simp)
    exact (State.addReg_counted _ _ _ _).of_reg (hmoved.reg (by decide) (by decide) (by simp [wearEntries, key]; omega))
  · rw [State.rewriteNoted, (State.note_reports _ _ _).bank, State.bank_addReg, hbank, State.bank_setBank_self]
    exact (s.bank b).rewrittenAt_units sector

theorem State.stick_moved (s : State) (b : Nat) (bits : BitVec 32) (l : List Nat) : FlashMoved b l s (s.stick b bits) :=
  .setBank s b _ l

theorem State.rewrite_spec (s : State) (b sector : Nat) (uncorrectable : Bool) :
    FlashMoved b (rewriteEntries b) s (s.rewrite b sector uncorrectable)
      ∧ Counted s (s.rewrite b sector uncorrectable) 0x8022 0 1
      ∧ ((s.rewrite b sector uncorrectable).bank b).units = (s.bank b).units := by
  obtain ⟨hmoved, hcounted, hunits⟩ := s.rewriteNoted_spec b sector
  have hue : ∀ l, FlashMoved b l (s.rewriteNoted b sector)
      (((s.rewriteNoted b sector).stick b stEccUe).fault Code.eccUe (flashDetail b sector)) :=
    fun l => (State.stick_moved _ b stEccUe l).trans (.fault _ b l _ _)
  rw [State.rewrite_eq]
  split
  · refine ⟨hmoved.trans (hue _), (hue []).counted hcounted (by decide) (by decide) (by simp), ?_⟩
    rw [(State.fault_reports _ _ _ _ _).bank, State.stick, State.bank_setBank_self]
    exact hunits
  · exact ⟨hmoved, hcounted, hunits⟩

end Sys2Proof.Machine
end

section
/-! PROOFS. The sequencer of the embedded flash (R404 to R417): the commands of a bank, its reads, and the ends of its
operations. Most commands are one update of their bank. -/

namespace Sys2Proof.Machine

/-! ### One update of a bank -/

@[simp] theorem State.bank_fresh (s : State) (b : Nat) : s.fresh.bank b = s.bank b := rfl

@[simp] theorem State.eflash_fresh (s : State) : s.fresh.eflash = s.eflash := rfl

@[simp] theorem State.protectedSector_fresh (s : State) (b sector : Nat) :
    s.fresh.protectedSector b sector = s.protectedSector b sector := rfl

@[simp] theorem State.bankActive_fresh (s : State) (b : Nat) : s.fresh.bankActive b = s.bankActive b := rfl

@[simp] theorem State.unlocked_eq (s : State) (b : Nat) :
    s.unlocked b = s.setBank b { s.bank b with sticky := 0, sequence := .none } := rfl

@[simp] theorem State.openSequence_eq (s : State) (b : Nat) (q : FlashSeq) :
    s.openSequence b q = s.setBank b { s.bank b with sequence := q } := rfl

@[simp] theorem State.stick_eq (s : State) (b : Nat) (bits : BitVec 32) :
    s.stick b bits = s.setBank b { s.bank b with sticky := (s.bank b).sticky ||| bits } := rfl

@[simp] theorem State.seqErr_eq (s : State) (b : Nat) : s.seqErr b = s.stick b stSeqErr := rfl

/-- A command that sets its bank changes nothing else. -/
theorem flashOnly_setBank (s : State) (b : Nat) (x : Bank) :
    FlashOnly s (s.fresh.setBank b x) b ∧ (s.fresh.setBank b x).out = [] ∧ (s.fresh.setBank b x).bank b = x :=
  ⟨⟨rfl, fun _ h => s.fresh.bank_setBank_of_ne x h⟩, rfl, s.fresh.bank_setBank_self b x⟩

theorem exists_of_setBank {s : State} {o : Out} {b : Nat} {x : Bank} (h : o = .next (s.fresh.setBank b x)) :
    ∃ t, o = .next t ∧ FlashOnly s t b ∧ t.out = [] ∧ t.bank b = x :=
  ⟨_, h, flashOnly_setBank s b x⟩

theorem exists_of_setBank' {s : State} {o : Out} {b : Nat} {x : Bank} (h : o = .next (s.fresh.setBank b x)) :
    ∃ t, o = .next t ∧ FlashOnly s t b ∧ t.bank b = x :=
  ⟨_, h, ⟨rfl, fun _ h => s.fresh.bank_setBank_of_ne x h⟩, s.fresh.bank_setBank_self b x⟩

theorem Bank.idle_iff {x : Bank} : x.idle = true ↔ x.op = none ∧ x.suspended = none := by
  simp [Bank.idle]

/-! ### Unlocks (R404 to R406, R412) -/

theorem eflashProgram_opens {s : State} {b : Fin 2} (hidle : (s.bank b.val).idle = true) (hup : s.eflash.brownout = false) :
    exec (.eflashProgram b false) s
      = .next (s.fresh.setBank b.val { s.bank b.val with sticky := 0, sequence := .loading [] }) := by
  obtain ⟨hop, hsuspended⟩ := Bank.idle_iff.mp hidle
  show Host.Outcome.next (s.fresh.eflashProgram b.val false) = _
  simp [State.eflashProgram, Bank.idle, hop, hsuspended, hup, State.setBank_setBank]

theorem eflashSectorErase_opens {s : State} {b : Fin 2} (hidle : (s.bank b.val).idle = true) (hup : s.eflash.brownout = false) :
    exec (.eflashSectorErase b) s
      = .next (s.fresh.setBank b.val { s.bank b.val with sticky := 0, sequence := .eraseAddress }) := by
  obtain ⟨hop, hsuspended⟩ := Bank.idle_iff.mp hidle
  show Host.Outcome.next (s.fresh.eflashErase b.val) = _
  simp [State.eflashErase, Bank.idle, hop, hsuspended, hup, State.setBank_setBank]

theorem eflashBankErase_opens {s : State} {b : Fin 2} (hidle : (s.bank b.val).idle = true) (hup : s.eflash.brownout = false)
    (hactive : s.bankActive b.val = false) (hfirst : (s.bank b.val).sequence ≠ .bankConfirm) :
    exec (.eflashBankErase b) s
      = .next (s.fresh.setBank b.val { s.bank b.val with sticky := 0, sequence := .bankConfirm }) := by
  obtain ⟨hop, hsuspended⟩ := Bank.idle_iff.mp hidle
  show Host.Outcome.next (s.fresh.eflashBankErase b.val) = _
  simp [State.eflashBankErase, Bank.idle, hop, hsuspended, hup, hactive, hfirst, State.setBank_setBank]

/-- The bank of a bank erase that has been confirmed. -/
def Bank.erasesAll (x : Bank) (free : Nat) : Bank :=
  { ({ x with sticky := 0, sequence := .none } : Bank).journalOpen 3 allSectors with
    op := some .bankErase, nested := false, lastSector := Config.free free % 4096 }

theorem eflashBankErase_starts {s : State} {b : Fin 2} (hidle : (s.bank b.val).idle = true) (hup : s.eflash.brownout = false)
    (hactive : s.bankActive b.val = false) (hsecond : (s.bank b.val).sequence = .bankConfirm) :
    exec (.eflashBankErase b) s = .next (s.fresh.drawn.setBank b.val ((s.bank b.val).erasesAll s.free)) := by
  obtain ⟨hop, hsuspended⟩ := Bank.idle_iff.mp hidle
  refine congrArg Host.Outcome.next ((if_neg (by simp [hactive])).trans ((if_neg (by simp [Bank.idle, hop, hsuspended])).trans
    ((if_neg (by simp [hup])).trans ((if_pos (by simp [hsecond])).trans ?_))))
  rw [State.unlocked_eq, State.bank_setBank_self]
  exact s.fresh.drawn.setBank_setBank _ _ _

theorem Bank.erasesAll_spec (x : Bank) (free : Nat) :
    (x.erasesAll free).op = some .bankErase ∧ (x.erasesAll free).sequence = .none ∧ (x.erasesAll free).units = x.units
      ∧ ∃ e ∈ (x.erasesAll free).journal, e.kind = 3 ∧ e.opened = true := by
  have h := Bank.journalOpen_sameButJournal { x with sticky := 0, sequence := .none } 3 allSectors
  obtain ⟨e, he, hkind, -, hopened⟩ := Bank.journalOpen_mem { x with sticky := 0, sequence := .none } 3 allSectors
  exact ⟨rfl, (congrArg Bank.sequence h :), (congrArg Bank.units h :), e, he, hkind, hopened⟩

theorem eflashBankErase_protected {s : State} {b : Fin 2} (hactive : s.bankActive b.val = true) :
    exec (.eflashBankErase b) s
      = .next (s.fresh.setBank b.val { s.bank b.val with sticky := stProtected, sequence := .none }) := by
  show Host.Outcome.next (s.fresh.eflashBankErase b.val) = _
  simp [State.eflashBankErase, hactive, State.setBank_setBank]

theorem eflashMarginRead_spec {s : State} {b : Fin 2} {mode : Nat} (hidle : (s.bank b.val).idle = true)
    (hmode : mode = 1 ∨ mode = 2) :
    exec (.eflashMarginRead b mode) s
      = .next (s.fresh.setBank b.val { s.bank b.val with sticky := 0, sequence := .none, margin := mode }) := by
  obtain ⟨hop, hsuspended⟩ := Bank.idle_iff.mp hidle
  have hvalid : ¬ (mode ≠ 1 ∧ mode ≠ 2) := by omega
  show Host.Outcome.next (s.fresh.eflashMargin b.val mode) = _
  simp [State.eflashMargin, Bank.idle, hop, hsuspended, hvalid, State.setBank_setBank]

/-! ### Programs (R406, R407) -/

/-- Values put one for each key of a list. -/
theorem Map.find?_foldl_put {α : Type} (g : Nat → α) (us : List Nat) (m : Map α) (v : Nat) :
    (us.foldl (fun (m : Map α) u => m.put u (g u)) m).find? v = if v ∈ us then some (g v) else m.find? v := by
  induction us generalizing m with
  | nil => simp
  | cons u us ih =>
    rw [List.foldl_cons, ih]
    by_cases hv : v = u
    · subst hv
      simp
    · simp [hv]

/-- The bank while it programs the units of its stores. -/
def Bank.programs (x : Bank) (stores : Map (BitVec 64)) (sector : Nat) : Bank :=
  { x with sequence := .none, nested := false, lastSector := sector,
           op := some (.program ((storeUnits stores).foldl (fun (m : Map (BitVec 256)) u => m.put u (unitData stores u)) [])) }

section Program

variable {s : State} {b : Fin 2} {stores : Map (BitVec 64)} {u : Nat} (hseq : (s.bank b.val).sequence = .loading stores)
  (hidle : (s.bank b.val).idle = true) (hgood : storesGood stores = true) (hfirst : (storeUnits stores).head? = some u)
  (hopen : s.protectedSector b.val (u / 128) = false) (hup : s.eflash.brownout = false)

include hseq hidle hgood hfirst hopen hup

/-- The checks before that of a unit programmed twice let a program pass. -/
theorem eflashProgram_checked : exec (.eflashProgram b true) s = .next
    (if (storeUnits stores).any fun u => ((s.bank b.val).units.find? u).isSome then
        s.fresh.setBank b.val { s.bank b.val with
          sequence := .none, sticky := (s.bank b.val).sticky ||| stProgramErr }
      else s.fresh.setBank b.val ((s.bank b.val).programs stores (u / 128))) := by
  obtain ⟨hop, hsuspended⟩ := Bank.idle_iff.mp hidle
  show Host.Outcome.next (s.fresh.eflashProgram b.val true) = _
  simp [State.eflashProgram, hseq, State.startProgram, hgood, Bank.idle, hop, hsuspended, Bank.heldSector, hfirst, hopen, hup,
    State.setBank_setBank, Bank.programs]

theorem eflashProgram_starts (hfree : ∀ v ∈ storeUnits stores, (s.bank b.val).units.find? v = none) :
    exec (.eflashProgram b true) s = .next (s.fresh.setBank b.val ((s.bank b.val).programs stores (u / 128))) := by
  rw [eflashProgram_checked hseq hidle hgood hfirst hopen hup, if_neg]
  simpa using hfree

theorem eflashProgram_refused (hused : ∃ v ∈ storeUnits stores, (s.bank b.val).units.find? v ≠ none) :
    exec (.eflashProgram b true) s = .next (s.fresh.setBank b.val { s.bank b.val with
      sequence := .none, sticky := (s.bank b.val).sticky ||| stProgramErr }) := by
  rw [eflashProgram_checked hseq hidle hgood hfirst hopen hup, if_pos]
  simpa [Option.isSome_iff_ne_none] using hused

end Program

/-! ### Stores (R404) -/

theorem eflashDataWrite_loads {s : State} {b : Fin 2} {offset : Nat} {data : BitVec 64} {stores : Map (BitVec 64)}
    (hoffset : offset < 0x808000) (hseq : (s.bank b.val).sequence = .loading stores) :
    exec (.eflashDataWrite b offset data) s
      = .next (s.fresh.setBank b.val { s.bank b.val with sequence := .loading (stores.put offset data) }) := by
  refine congrArg Host.Outcome.next ((if_pos hoffset).trans ?_)
  simp [State.eflashStore, hseq]

theorem eflashDataWrite_outOfSequence {s : State} {b : Fin 2} {offset : Nat} {data : BitVec 64}
    (hoffset : offset < 0x808000) (hseq : (s.bank b.val).sequence = .none) :
    exec (.eflashDataWrite b offset data) s
      = .next (s.fresh.setBank b.val { s.bank b.val with sticky := (s.bank b.val).sticky ||| stSeqErr }) := by
  refine congrArg Host.Outcome.next ((if_pos hoffset).trans ?_)
  simp [State.eflashStore, hseq, State.setBank_setBank]

/-- The bank while it erases a sector, its erase journalled. -/
def Bank.erases (x : Bank) (sector : Nat) : Bank :=
  { ({ x with sequence := .none } : Bank).journalOpen 1 sector with op := some (.erase sector), nested := false,
                                                                     lastSector := sector }

theorem eflashDataWrite_erases {s : State} {b : Fin 2} {offset : Nat} (hoffset : offset < 0x808000)
    (hseq : (s.bank b.val).sequence = .eraseAddress) (hidle : (s.bank b.val).idle = true)
    (hopen : s.protectedSector b.val (offset / 4096) = false) (hup : s.eflash.brownout = false) :
    exec (.eflashDataWrite b offset 0) s = .next (s.fresh.setBank b.val ((s.bank b.val).erases (offset / 4096))) := by
  obtain ⟨hop, hsuspended⟩ := Bank.idle_iff.mp hidle
  refine congrArg Host.Outcome.next ((if_pos hoffset).trans ?_)
  simp [State.eflashStore, hseq, State.startErase, Bank.idle, hop, hsuspended, hopen, hup, State.setBank_setBank, Bank.erases]

theorem Bank.erases_spec (x : Bank) (sector : Nat) :
    (x.erases sector).op = some (.erase sector) ∧ (x.erases sector).sequence = .none ∧ (x.erases sector).units = x.units
      ∧ ∃ e ∈ (x.erases sector).journal, e.kind = 1 ∧ e.sector = sector ∧ e.opened = true := by
  have h := Bank.journalOpen_sameButJournal { x with sequence := .none } 1 sector
  obtain ⟨e, he, hspec⟩ := Bank.journalOpen_mem { x with sequence := .none } 1 sector
  exact ⟨rfl, (congrArg Bank.sequence h :), (congrArg Bank.units h :), e, he, hspec⟩

/-! ### SUSPEND and RESUME (R410) -/

theorem eflashSuspend_holds {s : State} {b : Fin 2} {o : FlashOp} (hop : (s.bank b.val).op = some o)
    (hnested : (s.bank b.val).nested = false) :
    exec (.eflashSuspend b) s = .next (s.fresh.setBank b.val { s.bank b.val with op := none, suspended := some o }) := by
  show Host.Outcome.next (s.fresh.eflashSuspend b.val) = _
  simp [State.eflashSuspend, hop, hnested]

theorem eflashSuspend_refused {s : State} {b : Fin 2} (hop : (s.bank b.val).op = none) :
    exec (.eflashSuspend b) s = .next ((s.fresh.setBank b.val { s.bank b.val with
      sticky := (s.bank b.val).sticky ||| stSuspendRefused }).addReg 0x8032 0 1) := by
  show Host.Outcome.next (s.fresh.eflashSuspend b.val) = _
  simp [State.eflashSuspend, hop]

theorem eflashResume_goesOn {s : State} {b : Fin 2} {o : FlashOp} (hsuspended : (s.bank b.val).suspended = some o)
    (hop : (s.bank b.val).op = none) (hup : s.eflash.brownout = false) :
    exec (.eflashResume b) s = .next (s.fresh.setBank b.val { s.bank b.val with
      op := some o, suspended := none, nested := false, lastSector := o.sector (s.bank b.val).lastSector }) := by
  show Host.Outcome.next (s.fresh.eflashResume b.val) = _
  simp [State.eflashResume, hsuspended, hop, hup]

theorem eflashUnlockTimeout_eq (s : State) (b : Fin 2) : exec (.eflashUnlockTimeout b) s
    = .next (s.fresh.setBank b.val { s.bank b.val with sticky := stSeqErr, sequence := .none }) := by
  show Host.Outcome.next ((s.fresh.unlocked b.val).seqErr b.val) = _
  simp [State.setBank_setBank]

/-! ### Reads (Table 17.5) -/

/-- A read that protection admits goes on to its bank's state. -/
theorem State.readAllowed {s : State} {debug : Bool} (h : debug = false ∨ s.eflash.rdpLevel = 0) :
    ¬ (debug = true ∧ s.fresh.eflash.rdpLevel ≠ 0) := by
  rintro ⟨hdebug, hlevel⟩
  rcases h with h | h
  · simp [h] at hdebug
  · exact hlevel h

section Read

variable {s : State} {b : Fin 2} {offset : Nat} {debug c u : Bool} (hoffset : offset < 0x808000)
  (hallowed : debug = false ∨ s.eflash.rdpLevel = 0)

include hoffset

theorem exec_eflashRead : exec (.eflashRead b offset debug c u) s = .next (s.fresh.eflashRead b.val offset debug c u) :=
  congrArg Host.Outcome.next (if_pos hoffset)

theorem eflashRead_locked (hdebug : debug = true) (hlevel : s.eflash.rdpLevel ≠ 0) :
    exec (.eflashRead b offset debug c u) s = .next { s with out := [.busFault 5] } := by
  rw [exec_eflashRead hoffset]
  exact congrArg Host.Outcome.next (if_pos ⟨hdebug, hlevel⟩)

include hallowed

theorem eflashRead_status (hstatus : (s.bank b.val).statusMode = true) :
    exec (.eflashRead b offset debug c u) s
      = .next { s with out := [.busData b.val ((s.bank b.val).status.zeroExtend 64)] } := by
  rw [exec_eflashRead hoffset]
  exact congrArg Host.Outcome.next ((if_neg (State.readAllowed hallowed)).trans (if_pos hstatus))

theorem eflashRead_busy (hstatus : (s.bank b.val).statusMode = false) (hop : (s.bank b.val).op.isSome = true) :
    exec (.eflashRead b offset debug c u) s = .next { s with out := [.busFault 1] } := by
  rw [exec_eflashRead hoffset]
  exact congrArg Host.Outcome.next ((if_neg (State.readAllowed hallowed)).trans
    ((if_neg (by simp [hstatus])).trans (if_pos hop)))

/-- An idle bank in no mode reads its array, as the ECC finds it. -/
theorem eflashRead_array (hstatus : (s.bank b.val).statusMode = false) (hidle : (s.bank b.val).idle = true)
    (hmargin : (s.bank b.val).margin = 0) : exec (.eflashRead b offset debug c u) s = .next
      (if u then ((s.fresh.stick b.val stEccUe).fault Code.eccUe (flashDetail b.val (offset / 4096))).emit (.busFault 4)
      else
        let t := if c then (s.fresh.stick b.val stEccCorrected).addReg (0x8000 + b.val) 5 1 else s.fresh
        t.drawn.emit (.busData b.val (t.flashWord b.val offset))) := by
  obtain ⟨hop, hsuspended⟩ := Bank.idle_iff.mp hidle
  have hblocked : (s.bank b.val).blocked offset = none := by
    unfold Bank.blocked
    rw [hsuspended]
  rw [exec_eflashRead hoffset, State.eflashRead, if_neg (State.readAllowed hallowed)]
  simp only [State.bank_fresh, hstatus, hop, hblocked, hmargin, Option.isSome_none, Bool.false_eq_true, if_false, ne_eq, not_true_eq_false]

end Read

end Sys2Proof.Machine
end

section
/-! PROOFS. How operations of the embedded flash end (R408, R415 to R417), and the chapter's obligation. -/

namespace Sys2Proof.Machine

/-! ### Units that an operation leaves undefined (R414) -/

theorem find?_foldl_put_of_notMem {α β : Type} (k : β → Nat) (g : β → α) (es : List β) (m : Map α) {v : Nat}
    (h : ∀ e ∈ es, k e ≠ v) : (es.foldl (fun (m : Map α) e => m.put (k e) (g e)) m).find? v = m.find? v := by
  induction es generalizing m with
  | nil => rfl
  | cons e es ih =>
    obtain ⟨he, hes⟩ := List.forall_mem_cons.mp h
    rw [List.foldl_cons, ih _ hes, Map.find?_put_of_ne _ _ _ _ he.symm]

theorem State.scramble_spec (s : State) (b : Nat) (us : List Nat) (l : List Nat) :
    FlashMoved b l s (s.scramble b us)
      ∧ ∃ m, (s.scramble b us).bank b = { s.bank b with units := m }
          ∧ ∀ v, v ∉ us → m.find? v = (s.bank b).units.find? v := by
  refine ⟨(FlashMoved.setBank s b _ l).trans (.drawnBy _ b l _), _, s.bank_setBank_self b _, fun v hv => ?_⟩
  refine find?_foldl_put_of_notMem (fun e : Nat × Nat => e.2) (fun e => BitVec.ofNat 256 (Config.free (s.free + e.1))) _ _
    fun e he => ?_
  rintro rfl
  exact hv (List.of_mem_zip he).2

/-- An operation fails: its units are undefined, its sticky bits stand and its fault is raised. -/
theorem State.flashFails_spec (s : State) (b : Nat) (us : List Nat) (bits : BitVec 32) (code d : Nat) (l : List Nat) :
    FlashMoved b l s (((s.scramble b us).stick b bits).fault code d)
      ∧ (((s.scramble b us).stick b bits).fault code d).hasFault code = true
      ∧ ∃ m, (((s.scramble b us).stick b bits).fault code d).bank b
            = { s.bank b with units := m, sticky := (s.bank b).sticky ||| bits }
          ∧ ∀ v, v ∉ us → m.find? v = (s.bank b).units.find? v := by
  obtain ⟨hmoved, m, hbank, hunits⟩ := s.scramble_spec b us l
  refine ⟨(hmoved.trans (State.stick_moved _ b bits l)).trans (.fault _ b l code d), State.fault_hasFault _ _ _ _ _, m, ?_, hunits⟩
  rw [(State.fault_reports _ _ _ _ _).bank, State.stick, State.bank_setBank_self, hbank]

/-! ### Completion (R408) -/

/-- The units of a program over those that a bank holds. -/
theorem find?_foldl_put_sorted {α : Type} {us : Map α} (hsorted : Map.sorted us = true) (m : Map α) (v : Nat) :
    (us.foldl (fun (m : Map α) (e : Nat × α) => m.put e.1 e.2) m).find? v = (us.find? v).or (m.find? v) := by
  induction us generalizing m with
  | nil => rfl
  | cons e us ih =>
    obtain ⟨hrises, hrest⟩ := Map.sorted_cons hsorted
    rw [List.foldl_cons, ih hrest]
    by_cases hv : e.1 = v
    · subst hv
      have hnone : Map.find? us e.1 = none := by
        cases hfind : Map.find? us e.1 with
        | none => rfl
        | some w => exact absurd (hrises _ (Map.mem_of_find? hfind)) (lt_irrefl _)
      simp [hnone, Map.find?]
    · have hskip : Map.find? (e :: us) v = Map.find? us v := if_neg hv
      rw [hskip, Map.find?_put_of_ne _ _ _ _ fun h => hv h.symm]

section Complete

variable {s : State} {b : Fin 2}

theorem exec_eflashOperationComplete {o : FlashOp} (hop : (s.bank b.val).op = some o) (passed : Bool) :
    exec (.eflashOperationComplete b passed) s = .next (s.fresh.flashDone b.val o passed) := by
  show Host.Outcome.next (match (s.bank b.val).op with
    | some op => s.fresh.flashDone b.val op passed
    | none => s.idle) = _
  rw [hop]

/-- A bank whose operation has ended keeps its units, its sticky bits and its cycles. -/
theorem State.ended_bank (s : State) (b : Nat) (o : FlashOp) :
    FlashMoved b [] s (s.setBank b ((s.bank b).ended o)) ∧ ((s.bank b).ended o).op = none
      ∧ ((s.bank b).ended o).units = (s.bank b).units ∧ ((s.bank b).ended o).sticky = (s.bank b).sticky
      ∧ ((s.bank b).ended o).cycles = (s.bank b).cycles := by
  have h := (s.bank b).ended_spec o
  exact ⟨.setBank s b _ [], (congrArg Bank.op h :), (congrArg Bank.units h :), (congrArg Bank.sticky h :),
    (congrArg Bank.cycles h :)⟩

theorem programComplete_passed {us : Map (BitVec 256)} (hop : (s.bank b.val).op = some (.program us))
    (hsorted : Map.sorted us = true) :
    ∃ t, exec (.eflashOperationComplete b true) s = .next t ∧ DataKept s t ∧ (t.bank b.val).op = none
      ∧ Counted s t (0x8000 + b.val) 3 1
      ∧ (∀ v, (t.bank b.val).units.find? v = (us.find? v).or ((s.bank b.val).units.find? v))
      ∧ RegsKept s t [key (0x8000 + b.val) 3] := by
  obtain ⟨hmoved, hnone, hunits, -, -⟩ := s.fresh.ended_bank b.val (.program us)
  have hset := (hmoved.mono (List.nil_subset [key (0x8000 + b.val) 3])).trans (.setBank _ b.val { (s.bank b.val).ended (.program us) with
    units := us.foldl (fun (m : Map (BitVec 256)) e => m.put e.1 e.2) ((s.bank b.val).ended (.program us)).units } _)
  have hdone : s.fresh.flashDone b.val (.program us) true
      = (((s.fresh.setBank b.val ((s.bank b.val).ended (.program us))).setBank b.val { (s.bank b.val).ended (.program us) with
        units := us.foldl (fun (m : Map (BitVec 256)) e => m.put e.1 e.2)
          ((s.bank b.val).ended (.program us)).units }).addReg (0x8000 + b.val) 3 1) := by
    simp [State.flashDone]
  refine ⟨_, (exec_eflashOperationComplete hop true).trans (congrArg _ hdone), ?_, ?_, ?_, fun v => ?_, ?_⟩
  · exact (hset.trans (.addReg _ b.val 1 (List.mem_singleton_self _))).data
  · rw [State.bank_addReg, State.bank_setBank_self]
    exact hnone
  · exact State.addReg_counted _ _ _ _
  · rw [State.bank_addReg, State.bank_setBank_self]
    show (us.foldl (fun (m : Map (BitVec 256)) e => m.put e.1 e.2) ((s.bank b.val).ended (.program us)).units).find? v = _
    rw [find?_foldl_put_sorted hsorted]
    exact congrArg (fun m => (us.find? v).or (Map.find? m v)) hunits
  · exact (hset.trans (.addReg _ b.val 1 (List.mem_singleton_self _))).regs

theorem programComplete_failed {us : Map (BitVec 256)} (hop : (s.bank b.val).op = some (.program us)) :
    ∃ t, exec (.eflashOperationComplete b false) s = .next t ∧ DataKept s t ∧ (t.bank b.val).op = none
      ∧ (t.bank b.val).sticky = (s.bank b.val).sticky ||| (stVerifyFail ||| stProgramErr)
      ∧ t.hasFault Code.programFailed = true
      ∧ (∀ v, (∀ e ∈ us, e.1 ≠ v) → (t.bank b.val).units.find? v = (s.bank b.val).units.find? v) ∧ RegsKept s t [] := by
  obtain ⟨hmoved, hnone, hunits, hsticky, -⟩ := s.fresh.ended_bank b.val (.program us)
  obtain ⟨hfails, hfault, m, hbank, hkept⟩ := (s.fresh.setBank b.val ((s.bank b.val).ended (.program us))).flashFails_spec b.val
    (us.map (·.1)) (stVerifyFail ||| stProgramErr) Code.programFailed
    (flashDetail b.val ((FlashOp.program us).sector (s.bank b.val).lastSector)) []
  rw [State.bank_setBank_self] at hbank hkept
  refine ⟨_, exec_eflashOperationComplete hop false, (hmoved.trans hfails).data, ?_, ?_, hfault, fun v hv => ?_,
    (hmoved.trans hfails).regs⟩
  · exact (congrArg Bank.op hbank).trans hnone
  · exact (congrArg Bank.sticky hbank).trans (congrArg (· ||| (stVerifyFail ||| stProgramErr)) hsticky)
  · have hv' : v ∉ us.map (·.1) := by
      rw [List.mem_map]
      rintro ⟨e, he, rfl⟩
      exact hv e he rfl
    exact (congrArg (fun x : Bank => x.units.find? v) hbank).trans ((hkept v hv').trans (congrArg (Map.find? · v) hunits))

theorem eraseComplete_passed {k : Nat} (hop : (s.bank b.val).op = some (.erase k)) :
    ∃ t, exec (.eflashOperationComplete b true) s = .next t ∧ DataKept s t ∧ (t.bank b.val).op = none
      ∧ Counted s t (0x8000 + b.val) 4 1
      ∧ (∀ v, (t.bank b.val).units.find? v = if v / 128 = k then none else (s.bank b.val).units.find? v)
      ∧ (t.bank b.val).cycles.get k 0 = (s.bank b.val).cycles.get k 0 + 1 ∧ RegsKept s t (wearEntries b.val) := by
  obtain ⟨hmoved, hnone, hunits, -, hcycles⟩ := s.fresh.ended_bank b.val (.erase k)
  obtain ⟨herased, hcounted, w, hbank⟩ := (s.fresh.setBank b.val ((s.bank b.val).ended (.erase k))).sectorErased_spec b.val k
  have hall := (hmoved.mono (List.nil_subset _)).trans herased
  rw [State.bank_setBank_self] at hbank
  refine ⟨_, exec_eflashOperationComplete hop true, hall.data, (congrArg Bank.op hbank).trans hnone, ?_, fun v => ?_, ?_, hall.regs⟩
  · exact hmoved.counted_of hcounted (by omega) (flashKey_notMem_reportEntries b.val 4) (by simp)
  · refine (congrArg (fun x : Bank => x.units.find? v) hbank).trans ((Bank.erasedAt_find? _ k v).trans ?_)
    exact congrArg (fun m => if v / 128 = k then none else Map.find? m v) hunits
  · refine (congrArg (fun x : Bank => x.cycles.get k 0) hbank).trans ((Map.get_put_self _ _ _ _).trans ?_)
    exact congrArg (fun m => Map.get m k 0 + 1) hcycles

theorem eraseComplete_failed {k : Nat} (hop : (s.bank b.val).op = some (.erase k)) :
    ∃ t, exec (.eflashOperationComplete b false) s = .next t ∧ DataKept s t ∧ (t.bank b.val).op = none
      ∧ (t.bank b.val).sticky = (s.bank b.val).sticky ||| (stVerifyFail ||| stEraseErr)
      ∧ t.hasFault Code.eraseFailed = true ∧ RegsKept s t [] := by
  obtain ⟨hmoved, hnone, -, hsticky, -⟩ := s.fresh.ended_bank b.val (.erase k)
  obtain ⟨hfails, hfault, m, hbank, -⟩ := (s.fresh.setBank b.val ((s.bank b.val).ended (.erase k))).flashFails_spec b.val
    ((s.bank b.val).spoilt (.erase k)) (stVerifyFail ||| stEraseErr) Code.eraseFailed (flashDetail b.val k) []
  rw [State.bank_setBank_self] at hbank
  refine ⟨_, exec_eflashOperationComplete hop false, (hmoved.trans hfails).data, ?_, ?_, hfault, (hmoved.trans hfails).regs⟩
  · exact (congrArg Bank.op hbank).trans hnone
  · exact (congrArg Bank.sticky hbank).trans (congrArg (· ||| (stVerifyFail ||| stEraseErr)) hsticky)

end Complete

/-! ### Brown-out (R415) -/

theorem State.brownoutBank_of_op_none {s : State} {b : Nat} (h : (s.bank b).op = none) : s.brownoutBank b = s := by
  unfold State.brownoutBank
  dsimp only
  rw [h]

/-- The operation that runs as the supply falls is gone. -/
def State.opCut (s : State) (b : Nat) (op : FlashOp) : State :=
  (s.setBank b { s.bank b with op := none, nested := false }).scramble b ((s.bank b).spoilt op)

theorem State.brownoutBank_of_op_some {s : State} {b : Nat} {op : FlashOp} (h : (s.bank b).op = some op) :
    s.brownoutBank b = (((s.opCut b op).brownoutBlock b).stick b (if op.isErase then stEraseErr else stProgramErr)).fault
      Code.brownoutAbort (flashDetail b (op.sector (s.bank b).lastSector)) := by
  unfold State.brownoutBank
  dsimp only
  rw [h]
  rfl

theorem State.brownoutBank_spec (s : State) (b : Nat) :
    FlashMoved b [key 0x8031 0] s (s.brownoutBank b) ∧ ((s.brownoutBank b).bank b).op = none
      ∧ ((s.brownoutBank b).bank b).suspended = (s.bank b).suspended
      ∧ ((s.bank b).op ≠ none → (s.brownoutBank b).hasFault Code.brownoutAbort = true) := by
  cases hop : (s.bank b).op with
  | none =>
    rw [State.brownoutBank_of_op_none hop]
    exact ⟨.refl _ _ s, hop, rfl, fun h => absurd rfl h⟩
  | some op =>
    obtain ⟨hscrambled, m, hbank, -⟩ := (s.setBank b { s.bank b with op := none, nested := false }).scramble_spec b
      ((s.bank b).spoilt op) [key 0x8031 0]
    rw [State.bank_setBank_self] at hbank
    have hcut : FlashMoved b [key 0x8031 0] s (s.opCut b op) := (FlashMoved.setBank s b _ _).trans hscrambled
    have hblocked := (hcut.trans (State.stick_moved _ b stBrownout _)).trans
      (.addReg (idx := 0x8031) (sub := 0) _ b 1 (List.mem_singleton_self _))
    have hbits : (s.opCut b op).bank b = { s.bank b with op := none, nested := false, units := m } := hbank
    have hop' : ((s.opCut b op).bank b).op = none := by rw [hbits]
    have hsuspended : ((s.opCut b op).bank b).suspended = (s.bank b).suspended := by rw [hbits]
    rw [State.brownoutBank_of_op_some hop]
    refine ⟨(hblocked.trans (State.stick_moved _ b _ _)).trans (.fault _ b _ _ _), ?_, ?_,
      fun _ => State.fault_hasFault _ _ _ _ _⟩
    · rw [(State.fault_reports _ _ _ _ _).bank]
      simpa [State.brownoutBlock] using hop'
    · rw [(State.fault_reports _ _ _ _ _).bank]
      simpa [State.brownoutBlock] using hsuspended

/-- The supply has fallen below the threshold. -/
def State.supplyLow (s : State) : State := { s.fresh with eflash := { s.eflash with brownout := true } }

theorem eflashBrownout_spec {s : State} (hup : s.eflash.brownout = false) :
    ∃ t, exec .eflashBrownout s = .next t ∧ DataKept s t ∧ t.eflash.brownout = true ∧ (t.bank 0).op = none
      ∧ (t.bank 1).op = none ∧ (t.bank 0).suspended = (s.bank 0).suspended
      ∧ ((s.bank 0).op ≠ none → t.hasFault Code.brownoutAbort = true) ∧ RegsKept s t [key 0x8031 0] := by
  have hexec : exec .eflashBrownout s = .next ((s.supplyLow.brownoutBank 0).brownoutBank 1) :=
    congrArg Host.Outcome.next (if_neg (by simp [hup]))
  obtain ⟨h0, hop0, hsuspended0, hfault0⟩ := s.supplyLow.brownoutBank_spec 0
  obtain ⟨h1, hop1, -, -⟩ := (s.supplyLow.brownoutBank 0).brownoutBank_spec 1
  have hbank0 := h1.banks 0 (by decide)
  refine ⟨_, hexec, h0.data.trans h1.data, ?_, ?_, hop1, ?_, fun h => h1.faults _ (hfault0 h), ?_⟩
  · rw [h1.eflash, h0.eflash]
    rfl
  · rw [hbank0, hop0]
  · rw [hbank0, hsuspended0]
    rfl
  · exact RegsKept.trans h0.data.mode h0.regs h1.regs

/-! ### Refresh scrub (R416, R417) -/

/-- The entries that the scrub moves. -/
def scrubEntries (b : Nat) : List Nat := key 0x8021 0 :: rewriteEntries b

/-- A state after the scrub has worked on a sector, with what it keeps for its next one. -/
theorem FlashMoved.scrubbed {b : Nat} {l : List Nat} {s t : State} (h : FlashMoved b l s t) (e : Eflash) {l' : List Nat} (v : Nat)
    (hl : l ⊆ l') (hv : key 0x8021 0 ∈ l') :
    DataKept s ({ t with eflash := e }.setReg 0x8021 0 v) ∧ RegsKept s ({ t with eflash := e }.setReg 0x8021 0 v) l' :=
  ⟨h.data.trans ⟨rfl, rfl, rfl, rfl, rfl, rfl⟩, (h.regs.mono hl).put hv _ rfl⟩

/-- One sector of a sweep, rewritten where it fails. -/
def State.swept (s : State) (b sector : Nat) (fails uncorrectable : Bool) : State :=
  if fails then s.fresh.rewrite b sector uncorrectable else s.fresh

theorem State.swept_spec (s : State) (b sector : Nat) (fails uncorrectable : Bool) :
    FlashMoved b (rewriteEntries b) s (s.swept b sector fails uncorrectable)
      ∧ ((s.swept b sector fails uncorrectable).bank b).units = (s.bank b).units
      ∧ (fails = true → Counted s (s.swept b sector fails uncorrectable) 0x8022 0 1) := by
  obtain ⟨hmoved, hcounted, hunits⟩ := s.fresh.rewrite_spec b sector uncorrectable
  have hfresh : FlashMoved b (rewriteEntries b) s s.fresh :=
    ⟨⟨rfl, rfl, rfl, rfl, rfl, rfl⟩, rfl, rfl, rfl, fun _ _ => rfl, .of_regs rfl _, fun _ h => h⟩
  unfold State.swept
  cases fails
  · exact ⟨hfresh, rfl, fun h => absurd h (by decide)⟩
  · exact ⟨hfresh.trans hmoved, hunits, fun _ => hcounted⟩

theorem scrubSweep_spec {s : State} {b : Fin 2} {sector : Nat} (fails u last : Bool) (hruns : s.scrubRuns sector = true)
    (hfull : s.reg 0x8021 0 ≠ 3) (hdue : s.reg 0x8021 0 = 1 ∨ 24 * s.reg 0x8020 1 ≤ s.reg 0x4040 2 - s.eflash.scrubAt) :
    ∃ t, exec (.scrubSweep b sector fails u last) s = .next t ∧ DataKept s t
      ∧ t.reg 0x8021 0 = (if last then 0 else 1) ∧ (t.bank b.val).units = (s.bank b.val).units
      ∧ (fails = true → Counted s t 0x8022 0 1) ∧ RegsKept s t (scrubEntries b.val) := by
  obtain ⟨hmoved, hunits, hcounted⟩ := s.swept_spec b.val sector fails u
  have hexec : exec (.scrubSweep b sector fails u last) s = .next (({ s.swept b.val sector fails u with
      eflash := { (s.swept b.val sector fails u).eflash with
        scrubAt := if s.reg 0x8021 0 = 1 then (s.swept b.val sector fails u).eflash.scrubAt else s.reg 0x4040 2 } } : State).setReg
        0x8021 0 (if last then 0 else 1)) :=
    congrArg Host.Outcome.next (if_pos ⟨hruns, hfull, hdue⟩)
  obtain ⟨hdata, hregs⟩ := hmoved.scrubbed _ (l' := scrubEntries b.val) (if last then 0 else 1) (List.subset_cons_self _ _)
    (List.mem_cons_self ..)
  refine ⟨_, hexec, hdata, State.reg_setReg_self _ _ _ _, hunits, fun h => ?_, hregs⟩
  exact fun hn => (State.reg_setReg_of_ne _ _ (by decide)).trans (hcounted h hn)

theorem fullRefresh_spec {s : State} {b : Fin 2} {sector : Nat} (u last : Bool) (hruns : s.scrubRuns sector = true)
    (hsweep : s.reg 0x8021 0 ≠ 1) (hdue : s.reg 0x8021 0 = 3 ∨ 24 * s.reg 0x8020 2 ≤ s.reg 0x4040 2 - s.reg 0x8023 0) :
    ∃ t, exec (.fullRefresh b sector u last) s = .next t ∧ DataKept s t ∧ t.reg 0x8021 0 = (if last then 0 else 3)
      ∧ (t.bank b.val).units = (s.bank b.val).units ∧ Counted s t 0x8022 0 1
      ∧ (last = true → t.reg 0x8023 0 = s.reg 0x4040 2) ∧ RegsKept s t (key 0x8023 0 :: scrubEntries b.val) := by
  obtain ⟨hmoved, hcounted, hunits⟩ := s.fresh.rewrite_spec b.val sector u
  have hexec : exec (.fullRefresh b sector u last) s = .next (if last then
      ((s.fresh.rewrite b.val sector u).setReg 0x8021 0 0).setReg 0x8023 0 (s.reg 0x4040 2)
      else (s.fresh.rewrite b.val sector u).setReg 0x8021 0 3) :=
    congrArg Host.Outcome.next (if_pos ⟨hruns, hsweep, hdue⟩)
  have hkept : RegsKept s (s.fresh.rewrite b.val sector u) (key 0x8023 0 :: scrubEntries b.val) :=
    hmoved.regs.mono fun k hk => List.mem_cons_of_mem _ (List.mem_cons_of_mem _ hk)
  have hstate : key 0x8021 0 ∈ key 0x8023 0 :: scrubEntries b.val := List.mem_cons_of_mem _ (List.mem_cons_self ..)
  refine ⟨_, hexec, ?_⟩
  cases last
  · exact ⟨hmoved.data.trans (State.setReg_dataKept _ _ _ _), State.reg_setReg_self _ _ _ _, hunits,
      fun hn => (State.reg_setReg_of_ne _ _ (by decide)).trans (hcounted hn), fun h => absurd h (by decide),
      hkept.put hstate _ rfl⟩
  · refine ⟨(hmoved.data.trans (State.setReg_dataKept _ _ _ _)).trans (State.setReg_dataKept _ _ _ _), ?_, hunits, fun hn => ?_,
      fun _ => State.reg_setReg_self _ _ _ _,
      (hkept.put (u := (s.fresh.rewrite b.val sector u).setReg 0x8021 0 0) hstate rfl).put (List.mem_cons_self ..) _ rfl⟩
    · exact (State.reg_setReg_of_ne _ _ (by decide)).trans (State.reg_setReg_self _ _ _ _)
    · exact (State.reg_setReg_of_ne _ _ (by decide)).trans ((State.reg_setReg_of_ne _ _ (by decide)).trans (hcounted hn))

/-! ### The obligation -/

/-- Settles O58: each command of the sequencer, each read and each end of an operation by its own rule. -/
theorem embeddedFlashSequencer : Obligations.EmbeddedFlashSequencer := by
  unfold Obligations.EmbeddedFlashSequencer
  refine ⟨fun s b hidle hup => ⟨?_, ?_, fun hactive hfirst => ?_, fun hactive hsecond => ?_, fun mode hmode => ?_⟩,
    fun s b hactive => ?_, fun s b stores u hseq hidle hgood hfirst hopen hup => ⟨fun hfree => ?_, fun hused => ?_⟩,
    fun s b offset data hoffset => ⟨fun stores hseq => ?_, fun hseq hdata hidle hopen hup => ?_, fun hseq => ?_⟩,
    fun s b => ⟨fun o hop hnested => ?_, fun hop => ?_, fun o hsuspended hop hup => ?_, ?_, ?_, ?_, ?_⟩,
    fun s b offset debug c u hoffset => ⟨fun hdebug hlevel => ?_, fun hallowed hstatus => ?_,
      fun hallowed hstatus hop => ?_, fun hallowed hstatus hidle hmargin hu hc => ?_,
      fun hallowed hstatus hidle hmargin hu => ?_⟩,
    fun s b us hop => ⟨fun hsorted => ?_, programComplete_failed hop⟩,
    fun s b k hop => ⟨eraseComplete_passed hop, eraseComplete_failed hop⟩, fun s hup => eflashBrownout_spec hup,
    fun s hdown => ?_, fun s b sector fails u last hruns hfull hdue => ?_, fun s b sector u last hruns hsweep hdue => ?_⟩
  · exact exists_of_setBank (eflashProgram_opens hidle hup)
  · exact exists_of_setBank (eflashSectorErase_opens hidle hup)
  · exact exists_of_setBank (eflashBankErase_opens hidle hup hactive hfirst)
  · refine ⟨_, eflashBankErase_starts hidle hup hactive hsecond, ⟨rfl, fun _ h => State.bank_setBank_of_ne _ _ h⟩, ?_⟩
    rw [State.bank_setBank_self]
    exact (s.bank b.val).erasesAll_spec s.free
  · exact exists_of_setBank (eflashMarginRead_spec hidle hmode)
  · exact exists_of_setBank' (eflashBankErase_protected hactive)
  · obtain ⟨t, ht, honly, hout, hbank⟩ := exists_of_setBank (eflashProgram_starts hseq hidle hgood hfirst hopen hup hfree)
    refine ⟨t, _, ht, honly, hout, hbank, fun v => ?_⟩
    rw [Map.find?_foldl_put]
    rfl
  · exact exists_of_setBank' (eflashProgram_refused hseq hidle hgood hfirst hopen hup hused)
  · exact exists_of_setBank (eflashDataWrite_loads hoffset hseq)
  · subst hdata
    obtain ⟨t, ht, honly, hout, hbank⟩ := exists_of_setBank (eflashDataWrite_erases hoffset hseq hidle hopen hup)
    refine ⟨t, ht, honly, hout, ?_⟩
    rw [hbank]
    exact (s.bank b.val).erases_spec (offset / 4096)
  · exact exists_of_setBank' (eflashDataWrite_outOfSequence hoffset hseq)
  · exact exists_of_setBank' (eflashSuspend_holds hop hnested)
  · have hset := FlashMoved.setBank s.fresh b.val { s.bank b.val with
      sticky := (s.bank b.val).sticky ||| stSuspendRefused } [key 0x8032 0]
    refine ⟨_, eflashSuspend_refused hop, hset.data, State.addReg_counted _ _ _ _, ?_,
      hset.regs.put (List.mem_singleton_self _) _ rfl⟩
    rw [State.bank_addReg, State.bank_setBank_self]
  · exact exists_of_setBank' (eflashResume_goesOn hsuspended hop hup)
  · exact exists_of_setBank rfl
  · exact exists_of_setBank rfl
  · exact exists_of_setBank rfl
  · exact exists_of_setBank (eflashUnlockTimeout_eq s b)
  · exact eflashRead_locked hoffset hdebug hlevel
  · exact eflashRead_status hoffset hallowed hstatus
  · exact eflashRead_busy hoffset hallowed hstatus hop
  · rw [eflashRead_array hoffset hallowed hstatus hidle hmargin, hu, hc]
    rfl
  · have hmoved := (State.stick_moved s.fresh b.val stEccUe []).trans
      (.fault _ b.val [] Code.eccUe (flashDetail b.val (offset / 4096)))
    have hexec := eflashRead_array (c := c) (u := u) hoffset hallowed hstatus hidle hmargin
    rw [if_pos hu] at hexec
    subst hu
    refine ⟨((s.fresh.stick b.val stEccUe).fault Code.eccUe (flashDetail b.val (offset / 4096))).emit (.busFault 4), hexec,
      hmoved.data, State.fault_hasFault _ _ _ _ _, List.mem_append_right _ (List.mem_singleton_self _), ?_,
      hmoved.regs⟩
    refine (congrArg Bank.units ((State.fault_reports _ _ _ _ _).bank b.val)).trans ?_
    rw [State.stick, State.bank_setBank_self]
    rfl
  · obtain ⟨t, ht, hdata, hop', hcounted, hunits, hregs⟩ := programComplete_passed hop hsorted
    refine ⟨t, ht, hdata, hop', hcounted, fun v => ?_, hregs⟩
    rw [hunits]
    cases us.find? v <;> rfl
  · exact congrArg Host.Outcome.next (if_pos hdown)
  · exact scrubSweep_spec fails u last hruns hfull hdue
  · obtain ⟨t, ht, hdata, hreg, hunits, hcounted, hlast, hregs⟩ := fullRefresh_spec u last hruns hsweep hdue
    refine ⟨t, ht, hdata, hreg, hunits, hcounted, hlast, hregs.mono ?_⟩
    simp [scrubEntries, rewriteEntries, wearEntries]

end Sys2Proof.Machine
end

section
/-! PROOFS. The service port and the update flow (R434 to R438). A frame that is no repetition is executed in the state that
has heard it; its answer leaves and is kept. -/

namespace Sys2Proof.Machine

/-! ### Frames and answers -/

/-- The state in which a good frame is executed: its outputs start empty, and a rate in trial stands. -/
def State.heard (s : State) : State := { s.fresh with security := { s.security with svcNext := none } }

theorem State.svc_of_new {s : State} {seq : Nat} (h : s.security.lastSeq ≠ some (seq % 256)) (f : State → State) :
    s.svc seq f = .next (f s.heard) :=
  congrArg Host.Outcome.next (if_neg h)

theorem State.svc_of_repeated {s : State} {seq : Nat} (h : s.security.lastSeq = some (seq % 256)) (f : State → State) :
    s.svc seq f = .next { s with
      out := s.security.lastResponse, security := { s.security with svcNext := none } } :=
  congrArg Host.Outcome.next (if_pos h)

theorem State.svcAnswer_answered (s : State) (seq type status : Nat) (payload : List Nat) :
    SvcAnswered (s.svcAnswer (seq % 256) type status payload) type seq status payload :=
  ⟨List.mem_append_right _ (List.mem_singleton_self _), rfl, rfl⟩

theorem State.heard_dataKept (s : State) : DataKept s s.heard := ⟨rfl, rfl, rfl, rfl, rfl, rfl⟩

theorem DataKept.answered {s t : State} (h : DataKept s t) (q type status : Nat) (payload : List Nat) :
    DataKept s (t.svcAnswer q type status payload) := h.trans ⟨rfl, rfl, rfl, rfl, rfl, rfl⟩

/-- A request that only gets a status. -/
theorem State.svcAnswer_heard (s : State) (seq type status : Nat) (payload : List Nat) :
    DataKept s (s.heard.svcAnswer (seq % 256) type status payload)
      ∧ (s.heard.svcAnswer (seq % 256) type status payload).regs = s.regs
      ∧ SvcAnswered (s.heard.svcAnswer (seq % 256) type status payload) type seq status payload :=
  ⟨s.heard_dataKept.answered _ _ _ _, rfl, State.svcAnswer_answered _ _ _ _ _⟩

/-- The rate in trial after SET_RATE (R434). -/
def State.rateTried (s : State) (q code : Nat) : State :=
  let u := (s.svcAnswer q 3 0 []).setReg 0x8420 0 code
  { u with security := { u.security with svcRate := code, svcNext := some (code, s.clock.beat) } }

theorem svcSetRate_spec {s : State} {seq code : Nat} (hnew : s.security.lastSeq ≠ some (seq % 256)) (hcode : code ≤ 2) :
    ∃ t, exec (.svcSetRate seq code) s = .next t ∧ DataKept s t ∧ SvcAnswered t 3 seq 0 []
      ∧ t.reg 0x8420 0 = code ∧ t.security.svcRate = code ∧ t.security.svcNext = some (code, s.clock.beat)
      ∧ RegsKept s t [key 0x8420 0] := by
  have hexec : exec (.svcSetRate seq code) s = .next (s.heard.rateTried (seq % 256) code) := by
    show execSvcSetRate seq code s = _
    rw [execSvcSetRate, State.svc_of_new hnew]
    exact congrArg Host.Outcome.next (if_pos hcode)
  refine ⟨_, hexec, ⟨rfl, rfl, rfl, rfl, rfl, rfl⟩, ⟨?_, rfl, rfl⟩, State.reg_of_find? (Map.find?_put_self _ _ _), rfl, rfl,
    (RegsKept.of_regs (t := s.heard) rfl _).put (List.mem_singleton_self _) _ rfl⟩
  exact List.mem_append_right _ (List.mem_singleton_self _)

theorem svcSetRate_unknown {s : State} {seq code : Nat} (hnew : s.security.lastSeq ≠ some (seq % 256)) (hcode : 2 < code) :
    ∃ t st, exec (.svcSetRate seq code) s = .next t ∧ DataKept s t ∧ t.regs = s.regs
      ∧ t.security.svcRate = s.security.svcRate ∧ SvcAnswered t 3 seq st [] := by
  have hexec : exec (.svcSetRate seq code) s
      = .next (s.heard.drawn.svcAnswer (seq % 256) 3 (Config.free s.free % 256) []) := by
    show execSvcSetRate seq code s = _
    rw [execSvcSetRate, State.svc_of_new hnew]
    exact congrArg Host.Outcome.next (if_neg (not_le.mpr hcode))
  exact ⟨_, _, hexec, ⟨rfl, rfl, rfl, rfl, rfl, rfl⟩, rfl, rfl, State.svcAnswer_answered _ _ _ _ _⟩

theorem svcRateFallback_spec {s : State} {c b : Nat} (hnext : s.security.svcNext = some (c, b))
    (hlate : 100000 ≤ s.clock.beat - b) :
    ∃ t, exec .svcRateFallback s = .next t ∧ DataKept s t ∧ t.reg 0x8420 0 = 0
      ∧ t.security = { s.security with svcRate := 0, svcNext := none } ∧ RegsKept s t [key 0x8420 0] := by
  have hexec : exec .svcRateFallback s = .next ({ s.fresh.setReg 0x8420 0 0 with
      security := { s.security with svcRate := 0, svcNext := none } }) := by
    show execSvcRateFallback s = _
    unfold execSvcRateFallback
    rw [hnext]
    exact congrArg Host.Outcome.next (if_pos hlate)
  exact ⟨_, hexec, ⟨rfl, rfl, rfl, rfl, rfl, rfl⟩, State.reg_of_find? (Map.find?_put_self _ _ _), rfl,
    (RegsKept.of_regs (t := s.fresh) rfl _).put (List.mem_singleton_self _) _ rfl⟩

/-! ### IMAGE_BEGIN (R437) -/

/-- Sectors erased one after the other read as erased; the others of the bank stay. -/
theorem State.foldl_sectorErased_spec (b : Nat) (ks : List Nat) (s : State) :
    FlashMoved b (wearEntries b) s (ks.foldl (fun u k => u.sectorErased b k) s)
      ∧ ∀ v, ((ks.foldl (fun u k => u.sectorErased b k) s).bank b).units.find? v
          = if v / 128 ∈ ks then none else (s.bank b).units.find? v := by
  induction ks generalizing s with
  | nil => exact ⟨.refl _ _ s, fun v => by simp⟩
  | cons k ks ih =>
    obtain ⟨hmoved, -, w, hbank⟩ := s.sectorErased_spec b k
    obtain ⟨hrest, hunits⟩ := ih (s.sectorErased b k)
    refine ⟨hmoved.trans hrest, fun v => ?_⟩
    have hone : ((s.sectorErased b k).bank b).units.find? v = if v / 128 = k then none else (s.bank b).units.find? v :=
      (congrArg (fun x : Bank => x.units.find? v) hbank).trans (Bank.erasedAt_find? _ k v)
    rw [List.foldl_cons, hunits, hone]
    by_cases hk : v / 128 = k
    · simp [hk]
    · simp [hk]

/-- The target slot is WRITING. -/
def State.slotOpened (s : State) : State := s.setSlotOf s.targetSlot { s.slotOf s.targetSlot with state := 1, fwVersion := 0 }

/-- The sectors of an image are erased. -/
def State.slotErased (s : State) (length : Nat) : State :=
  (List.range (ceilDiv length 4096)).foldl (fun (u : State) k => u.sectorErased s.targetSlot k) s.slotOpened

theorem State.beginImage_eq (s : State) (length : Nat) : s.beginImage length = { s.slotErased length with
    security := { (s.slotErased length).security with updateState := 1, updateLength := length, updateBytes := 0 } } := rfl

theorem imageBegin_spec {s : State} {seq length : Nat} (hnew : s.security.lastSeq ≠ some (seq % 256))
    (hmode : s.ctl.mode ≠ .save) (hidle : s.security.updateState ≠ 1) (hlength : length ≤ imageMax)
    (hup : s.eflash.brownout = false) :
    ∃ t, exec (.imageBegin seq length) s = .next t ∧ DataKept s t ∧ SvcAnswered t 0x10 seq 0 []
      ∧ (t.slotOf s.targetSlot).state = 1 ∧ t.security.updateState = 1 ∧ t.security.updateLength = length
      ∧ t.security.updateBytes = 0
      ∧ (∀ v, v / 128 < ceilDiv length 4096 → (t.bank s.targetSlot).units.find? v = none)
      ∧ (∀ v, ceilDiv length 4096 ≤ v / 128 → (t.bank s.targetSlot).units.find? v = (s.bank s.targetSlot).units.find? v)
      ∧ RegsKept s t (wearEntries s.targetSlot) := by
  have hexec : exec (.imageBegin seq length) s = .next ((s.heard.beginImage length).svcAnswer (seq % 256) 0x10 0 []) := by
    show execImageBegin seq length s = _
    rw [execImageBegin, State.svc_of_new hnew]
    exact congrArg Host.Outcome.next (((if_neg hmode).trans ((if_neg hidle).trans ((if_neg (not_lt.mpr hlength)).trans
      (if_neg (show ¬ s.eflash.brownout = true by simp [hup]))))))
  obtain ⟨hmoved, hunits⟩ := State.foldl_sectorErased_spec s.targetSlot (List.range (ceilDiv length 4096)) s.heard.slotOpened
  have hkept : DataKept s (s.heard.slotErased length) := DataKept.trans (t := s.heard.slotOpened) ⟨rfl, rfl, rfl, rfl, rfl, rfl⟩ hmoved.data
  have hslot : (s.heard.slotErased length).slotOf s.targetSlot
      = { s.slotOf s.targetSlot with state := 1, fwVersion := 0 } := by
    have h := congrArg (fun x : Security => x.slots.get s.targetSlot ImageSlot.reset) hmoved.security
    exact h.trans (Map.get_put_self _ _ _ _)
  refine ⟨_, hexec, hkept, State.svcAnswer_answered _ _ _ _ _, (congrArg ImageSlot.state hslot :), rfl, rfl, rfl,
    fun v hv => ?_, fun v hv => ?_, fun k hr hw hk => hmoved.regs k hr hw hk⟩
  · exact (hunits v).trans (if_pos (List.mem_range.mpr hv))
  · exact (hunits v).trans (if_neg fun h => absurd (List.mem_range.mp h) (not_lt.mpr hv))

/-! ### IMAGE_DATA -/

/-- Bytes joined from the lowest up. -/
def joinBytes (g : Nat → Byte) (n : Nat) : BitVec 256 :=
  (List.range n).foldl (fun (d : BitVec 256) i => d ||| ((g i).zeroExtend 256 <<< (8 * i))) 0

theorem joinBytes_getLsbD (g : Nat → Byte) (n k : Nat) :
    (joinBytes g n).getLsbD k = (decide (k < 8 * n) && decide (k < 256) && (g (k / 8)).getLsbD (k % 8)) := by
  induction n with
  | zero => simp [joinBytes]
  | succ n ih =>
    have hstep : joinBytes g (n + 1) = joinBytes g n ||| ((g n).zeroExtend 256 <<< (8 * n)) := by
      simp [joinBytes, List.range_succ]
    rw [hstep, BitVec.getLsbD_or, ih, BitVec.getLsbD_shiftLeft]
    by_cases hlow : k < 8 * n
    · have : k < 8 * (n + 1) := by omega
      simp [hlow, this]
    · by_cases hbyte : k < 8 * (n + 1)
      · have hdiv : k / 8 = n := by omega
        have hmod : k - 8 * n = k % 8 := by omega
        have hwide : k % 8 < 256 := by omega
        simp [hlow, hbyte, hdiv, hmod, hwide]
      · have hout : (g n).getLsbD (k - 8 * n) = false := BitVec.getLsbD_of_ge _ _ (by omega)
        simp [hlow, hbyte, hout]

theorem joinBytes_extract (g : Nat → Byte) {j : Nat} (hj : j < 32) : (joinBytes g 32).extractLsb' (8 * j) 8 = g j := by
  refine BitVec.eq_of_getLsbD_eq fun i hi => ?_
  rw [BitVec.getLsbD_extractLsb', joinBytes_getLsbD]
  have hdiv : (8 * j + i) / 8 = j := by omega
  have hmod : (8 * j + i) % 8 = i := by omega
  have hlow : 8 * j + i < 256 := by omega
  simp [hi, hdiv, hmod, hlow]

/-- Units put one after the other from a first one on. -/
theorem find?_foldl_put_range {α : Type} (g : Nat → α) (a n : Nat) (m : Map α) {k : Nat} (hk : k < n) :
    ((List.range n).foldl (fun (m : Map α) i => m.put (a + i) (g i)) m).find? (a + k) = some (g k) := by
  induction n with
  | zero => exact absurd hk (Nat.not_lt_zero _)
  | succ n ih =>
    rw [List.range_succ, List.foldl_append]
    by_cases h : k = n
    · subst h
      exact Map.find?_put_self _ _ _
    · exact (Map.find?_put_of_ne _ _ _ _ (by omega)).trans (ih (by omega))

/-- A byte of an image just programmed. -/
theorem imgByte_programmed (data : List Byte) (units : Map (BitVec 256)) {offset i : Nat} (haligned : offset % 32 = 0)
    (hwhole : data.length % 32 = 0) (hi : i < data.length) :
    imgByte ((List.range (data.length / 32)).foldl (fun (m : Map (BitVec 256)) k =>
      m.put (offset / 32 + k) (joinBytes (fun j => (data[32 * k + j]?).getD 0) 32)) units) (offset + i) = data[i].toNat := by
  have hunit : (offset + i) / 32 = offset / 32 + i / 32 := by omega
  have hbyte : (offset + i) % 32 = i % 32 := by omega
  have hplace : 32 * (i / 32) + i % 32 = i := Nat.div_add_mod i 32
  have hlt : i / 32 < data.length / 32 := by omega
  unfold imgByte Map.get
  rw [hunit, hbyte, find?_foldl_put_range (fun k => joinBytes (fun j => (data[32 * k + j]?).getD 0) 32) _ _ _ hlt,
    Option.getD_some, joinBytes_extract _ (Nat.mod_lt _ (by decide)), hplace, List.getElem?_eq_getElem hi, Option.getD_some]

section Data

variable {s : State} {seq offset : Nat} {data : List Byte} (hnew : s.security.lastSeq ≠ some (seq % 256))
  (hmode : s.ctl.mode ≠ .save) (hwriting : s.security.updateState = 1) (haligned : offset % 32 = 0)
  (hwhole : data.length % 32 = 0) (hsome : data ≠ []) (hlength : data.length ≤ 4096)
  (hroom : offset + data.length ≤ s.security.updateLength)

include hnew hmode hwriting haligned hwhole hsome hlength hroom

/-- Data that lies as it should is programmed where its units are erased and the supply stands. -/
theorem imageData_checked : exec (.imageData seq offset data) s = .next
    (if ((List.range (data.length / 32)).any fun k => ((s.bank s.targetSlot).units.find? (offset / 32 + k)).isSome) = true then
        s.heard.svcAnswer (seq % 256) 0x11 4 []
      else if s.eflash.brownout = true then (s.heard.brownoutBlock s.targetSlot).svcAnswer (seq % 256) 0x11 5 []
      else (s.heard.programImage offset data).svcAnswer (seq % 256) 0x11 0 []) := by
  have hgood : ¬ (offset % 32 ≠ 0 ∨ data.length % 32 ≠ 0 ∨ data = [] ∨ 4096 < data.length
      ∨ s.security.updateLength < offset + data.length) := by
    simp only [not_or, not_lt, not_not]
    exact ⟨haligned, hwhole, hsome, hlength, hroom⟩
  show execImageData seq offset data s = _
  rw [execImageData, State.svc_of_new hnew]
  exact congrArg Host.Outcome.next (((if_neg hmode).trans ((if_neg (not_not.mpr hwriting)).trans (if_neg hgood))))

theorem imageData_programs (hup : s.eflash.brownout = false)
    (hfree : ∀ k < data.length / 32, (s.bank s.targetSlot).units.find? (offset / 32 + k) = none) :
    ∃ t, exec (.imageData seq offset data) s = .next t ∧ DataKept s t ∧ SvcAnswered t 0x11 seq 0 []
      ∧ t.security.updateBytes = s.security.updateBytes + data.length
      ∧ (∀ i, (h : i < data.length) → imgByte (t.bank s.targetSlot).units (offset + i) = data[i].toNat)
      ∧ RegsKept s t [key (0x8000 + s.targetSlot) 3] := by
  have hexec := imageData_checked hnew hmode hwriting haligned hwhole hsome hlength hroom
  rw [if_neg (by simpa using hfree), if_neg (by simp [hup])] at hexec
  have hbank : (((s.heard.programImage offset data).svcAnswer (seq % 256) 0x11 0 []).bank s.targetSlot).units
      = (List.range (data.length / 32)).foldl (fun (m : Map (BitVec 256)) k =>
        m.put (offset / 32 + k) (joinBytes (fun j => (data[32 * k + j]?).getD 0) 32)) (s.bank s.targetSlot).units :=
    congrArg Bank.units (Map.get_put_self _ _ _ _)
  refine ⟨_, hexec, ⟨rfl, rfl, rfl, rfl, rfl, rfl⟩, State.svcAnswer_answered _ _ _ _ _, rfl, fun i hi => ?_, ?_⟩
  · rw [hbank]
    exact imgByte_programmed data _ haligned hwhole hi
  · exact (RegsKept.of_regs (t := s.heard) rfl _).put (List.mem_singleton_self _) _ rfl

theorem imageData_refused (hused : ∃ k < data.length / 32, (s.bank s.targetSlot).units.find? (offset / 32 + k) ≠ none) :
    ∃ t, exec (.imageData seq offset data) s = .next t ∧ DataKept s t ∧ t.regs = s.regs ∧ t.eflash = s.eflash
      ∧ SvcAnswered t 0x11 seq 4 [] := by
  have hexec := imageData_checked hnew hmode hwriting haligned hwhole hsome hlength hroom
  rw [if_pos (by simpa [Option.isSome_iff_ne_none] using hused)] at hexec
  obtain ⟨hdata, hregs, hanswered⟩ := s.svcAnswer_heard seq 0x11 4 []
  exact ⟨_, hexec, hdata, hregs, rfl, hanswered⟩

end Data

/-! ### IMAGE_END and what follows (R426, R437) -/

@[simp] theorem State.slotOf_setSlotOf_self (s : State) (b : Nat) (x : ImageSlot) : (s.setSlotOf b x).slotOf b = x :=
  Map.get_put_self _ _ _ _

/-- An image that passes is STAGED. -/
def State.imageStaged (s : State) : State :=
  (s.setSlotOf s.targetSlot { s.slotOf s.targetSlot with
    state := 2, result := 0, fwVersion := imgNum (s.imageUnits s.targetSlot) 60 4 }).setUpdate 2

/-- A slot is EMPTY, and no update is under way. -/
def State.slotEmptied (s : State) (b : Nat) : State :=
  (s.setSlotOf b { s.slotOf b with state := 0, fwVersion := 0 }).setUpdate 0

/-- Emptying a slot changes that slot and the update alone. -/
theorem State.slotEmptied_spec (s : State) (b : Nat) :
    DataKept s (s.slotEmptied b) ∧ (s.slotEmptied b).regs = s.regs ∧ (s.slotEmptied b).faults = s.faults
      ∧ (s.slotEmptied b).slotOf b = { s.slotOf b with state := 0, fwVersion := 0 }
      ∧ (s.slotEmptied b).security.updateState = 0 :=
  ⟨⟨rfl, rfl, rfl, rfl, rfl, rfl⟩, rfl, rfl, Map.get_put_self _ _ _ _, rfl⟩

theorem State.rejectImage_spec (s : State) (b r : Nat) :
    SameButReports (s.setSlotOf b { s.slotOf b with result := r }) (s.rejectImage b r)
      ∧ (s.rejectImage b r).hasFault Code.imageRejected = true
      ∧ (s.rejectImage b r).slotOf b = { s.slotOf b with result := r } := by
  have hreports := (s.setSlotOf b { s.slotOf b with result := r }).fault_reports Code.imageRejected (securityDetail b r) false []
  exact ⟨hreports, State.fault_hasFault _ _ _ _ _,
    (congrArg (fun x : Security => x.slots.get b ImageSlot.reset) hreports.security).trans (Map.get_put_self _ _ _ _)⟩

/-- An image that fails leaves its slot EMPTY, with the result. -/
def State.imageRefused (s : State) (r : Nat) : State := (s.rejectImage s.targetSlot r).slotEmptied s.targetSlot

theorem State.imageRefused_spec (s : State) (r : Nat) :
    DataKept s (s.imageRefused r) ∧ RegsKept s (s.imageRefused r) [] ∧ (s.imageRefused r).hasFault Code.imageRejected = true
      ∧ (s.imageRefused r).slotOf s.targetSlot = { s.slotOf s.targetSlot with result := r, state := 0, fwVersion := 0 }
      ∧ (s.imageRefused r).security.updateState = 0 := by
  obtain ⟨hreports, hfault, hslot⟩ := s.rejectImage_spec s.targetSlot r
  obtain ⟨hdata, hregs, hfaults, hempty, hupdate⟩ := (s.rejectImage s.targetSlot r).slotEmptied_spec s.targetSlot
  have hset : DataKept s (s.setSlotOf s.targetSlot { s.slotOf s.targetSlot with result := r }) := ⟨rfl, rfl, rfl, rfl, rfl, rfl⟩
  refine ⟨(hset.trans hreports.dataKept).trans hdata, ?_, ?_, hempty.trans (by rw [hslot]), hupdate⟩
  · exact (((RegsKept.of_regs rfl []).reports hset hreports)).trans (hset.trans hreports.dataKept).mode (.of_regs hregs [])
  · rw [State.imageRefused, State.hasFault, State.faultGroup, hfaults]
    exact hfault

/-- An answer moves neither entries nor slots. -/
theorem State.svcAnswer_kept (s : State) (q type status : Nat) (payload : List Nat) :
    DataKept s (s.svcAnswer q type status payload) ∧ (s.svcAnswer q type status payload).regs = s.regs
      ∧ (s.svcAnswer q type status payload).faults = s.faults
      ∧ (∀ b, (s.svcAnswer q type status payload).slotOf b = s.slotOf b)
      ∧ (s.svcAnswer q type status payload).security.updateState = s.security.updateState :=
  ⟨⟨rfl, rfl, rfl, rfl, rfl, rfl⟩, rfl, rfl, fun _ => rfl, rfl⟩

theorem imageEnd_spec {s : State} {seq : Nat} (hnew : s.security.lastSeq ≠ some (seq % 256)) (hmode : s.ctl.mode ≠ .save)
    (hwriting : s.security.updateState = 1) :
    exec (.imageEnd seq) s = .next (if s.verify s.targetSlot true = 0 then s.heard.imageStaged.svcAnswer (seq % 256) 0x12 0 [0]
      else (s.heard.imageRefused (s.verify s.targetSlot true)).svcAnswer (seq % 256) 0x12 8 [s.verify s.targetSlot true]) := by
  show execImageEnd seq s = _
  rw [execImageEnd, State.svc_of_new hnew]
  exact congrArg Host.Outcome.next ((if_neg hmode).trans (if_neg (not_not.mpr hwriting)))

theorem imageEnd_ends {s : State} {seq : Nat} (hnew : s.security.lastSeq ≠ some (seq % 256)) (hmode : s.ctl.mode ≠ .save)
    (hwriting : s.security.updateState = 1) {r : Nat} (hr : s.verify s.targetSlot true = r) :
    ∃ t, exec (.imageEnd seq) s = .next t ∧ DataKept s t ∧ (t.slotOf s.targetSlot).result = r ∧ RegsKept s t []
      ∧ (r = 0 → (t.slotOf s.targetSlot).state = 2 ∧ t.security.updateState = 2 ∧ SvcAnswered t 0x12 seq 0 [0])
      ∧ (r ≠ 0 → (t.slotOf s.targetSlot).state = 0 ∧ t.security.updateState = 0 ∧ t.hasFault Code.imageRejected = true
          ∧ SvcAnswered t 0x12 seq 8 [r]) := by
  have hexec := imageEnd_spec hnew hmode hwriting
  rw [hr] at hexec
  by_cases h0 : r = 0
  · rw [if_pos h0] at hexec
    have hslot : (s.heard.imageStaged.svcAnswer (seq % 256) 0x12 0 [0]).slotOf s.targetSlot = { s.slotOf s.targetSlot with
        state := 2, result := 0, fwVersion := imgNum (s.imageUnits s.targetSlot) 60 4 } := Map.get_put_self _ _ _ _
    refine ⟨_, hexec, ⟨rfl, rfl, rfl, rfl, rfl, rfl⟩, ?_, .of_regs rfl _, fun _ => ⟨?_, rfl, State.svcAnswer_answered _ _ _ _ _⟩,
      fun h => absurd h0 h⟩
    · rw [hslot, h0]
    · rw [hslot]
  · rw [if_neg h0] at hexec
    obtain ⟨hdata, hregs, hfault, hslot, hupdate⟩ := s.heard.imageRefused_spec r
    obtain ⟨hkept, hsame, hfaults, hslots, hstate⟩ := (s.heard.imageRefused r).svcAnswer_kept (seq % 256) 0x12 8 [r]
    have hslot' := (hslots s.targetSlot).trans hslot
    refine ⟨_, hexec, (s.heard_dataKept.trans hdata).trans hkept, (congrArg ImageSlot.result hslot' :), fun k hr hw hk => ?_,
      fun h => absurd h h0, fun _ => ⟨(congrArg ImageSlot.state hslot' :), hstate.trans hupdate, ?_,
        State.svcAnswer_answered _ _ _ _ _⟩⟩
    · rw [hsame]
      exact hregs k hr hw hk
    · rw [State.hasFault, State.faultGroup, hfaults]
      exact hfault

theorem imageActivate_pending {s : State} {seq : Nat} (hnew : s.security.lastSeq ≠ some (seq % 256))
    (hmode : s.ctl.mode ≠ .save) (hstaged : s.security.updateState = 2) (hnormal : s.ctl.recovery = false) :
    ∃ t, exec (.imageActivate seq 0) s = .next t ∧ DataKept s t ∧ t.regs = s.regs ∧ (t.slotOf s.targetSlot).state = 3
      ∧ t.security.updateState = 0 ∧ SvcAnswered t 0x13 seq 0 [] := by
  have hexec : exec (.imageActivate seq 0) s = .next (((s.heard.setSlotOf s.targetSlot { s.slotOf s.targetSlot with
      state := 3, trials := 0 }).setUpdate 0).svcAnswer (seq % 256) 0x13 0 []) := by
    show execImageActivate seq 0 s = _
    rw [execImageActivate, State.svc_of_new hnew]
    exact congrArg Host.Outcome.next (((if_neg (by simp [State.heard, State.fresh, hmode])).trans ((if_neg (not_not.mpr hstaged)).trans
      ((if_neg (by decide)).trans ((if_neg (by simp)).trans
        ((if_neg (show ¬ s.ctl.recovery = true by simp [hnormal])).trans (if_neg (by decide))))))))
  exact ⟨_, hexec, ⟨rfl, rfl, rfl, rfl, rfl, rfl⟩, rfl, congrArg ImageSlot.state (Map.get_put_self _ _ _ _), rfl,
    State.svcAnswer_answered _ _ _ _ _⟩

theorem imageAbort_spec {s : State} {seq : Nat} (hnew : s.security.lastSeq ≠ some (seq % 256)) (hmode : s.ctl.mode ≠ .save)
    (hunder : s.security.updateState ≠ 0) :
    ∃ t, exec (.imageAbort seq) s = .next t ∧ DataKept s t ∧ t.regs = s.regs ∧ (t.slotOf s.targetSlot).state = 0
      ∧ t.security.updateState = 0 ∧ SvcAnswered t 0x14 seq 0 [] := by
  have hexec : exec (.imageAbort seq) s = .next (((s.heard.setSlotOf s.targetSlot { s.slotOf s.targetSlot with
      state := 0, fwVersion := 0 }).setUpdate 0).svcAnswer (seq % 256) 0x14 0 []) := by
    show execImageAbort seq s = _
    rw [execImageAbort, State.svc_of_new hnew]
    exact congrArg Host.Outcome.next ((if_neg hmode).trans (if_neg hunder))
  exact ⟨_, hexec, ⟨rfl, rfl, rfl, rfl, rfl, rfl⟩, rfl, congrArg ImageSlot.state (Map.get_put_self _ _ _ _), rfl,
    State.svcAnswer_answered _ _ _ _ _⟩

end Sys2Proof.Machine
end

section
/-! PROOFS. The SPDM responder (R440 to R442), and the obligation on it and the service port. -/

namespace Sys2Proof.Machine

/-! ### Sessions -/

/-- A session put in place is the one that its endpoint has. -/
theorem State.session_putSession (s : State) (x : SpdmSession) :
    (s.putSession x).session x.endpoint = some { x with used := s.clock.beat } := by
  have hothers : ∀ y ∈ s.security.sessions.filter (fun y => y.endpoint != x.endpoint), (y.endpoint == x.endpoint) = false := by
    intro y hy
    simpa using (List.mem_filter.mp hy).2
  have hkept : ∀ l : List SpdmSession, (∀ y ∈ l, (y.endpoint == x.endpoint) = false) →
      (l ++ [{ x with used := s.clock.beat }]).find? (fun y => y.endpoint == x.endpoint) = some { x with used := s.clock.beat } := by
    intro l hl
    rw [List.find?_append, List.find?_eq_none.mpr fun y hy => by simp [hl y hy]]
    simp
  unfold State.session State.putSession
  dsimp only
  split
  · exact hkept _ fun y hy => hothers y (List.mem_of_mem_drop hy)
  · exact hkept _ hothers

theorem State.session_endpoint {s : State} {e : Nat} {x : SpdmSession} (h : s.session e = some x) : x.endpoint = e := by
  simpa using List.find?_some h

/-- What an answer within one message leaves. -/
structure SpdmAnswered (s t : State) (x : SpdmSession) (code : Nat) (payload : List Nat) : Prop where
  data : DataKept s t
  regs : t.regs = s.regs
  out : t.out = [.spdm x.endpoint code payload]
  session : t.session x.endpoint = some { x with used := s.clock.beat }

theorem State.spdmAnswer_answered {s : State} (hout : s.out = []) (x : SpdmSession) (code : Nat) {payload : List Nat}
    (h : payload.length ≤ 4096) : SpdmAnswered s (s.spdmAnswer x code payload) x code payload := by
  rw [State.spdmAnswer, if_neg (not_lt.mpr h)]
  refine ⟨⟨rfl, rfl, rfl, rfl, rfl, rfl⟩, rfl, ?_, s.session_putSession x⟩
  show s.out ++ [_] = _
  rw [hout, List.nil_append]

theorem State.spdmStage_passes {s : State} {e n : Nat} {x : SpdmSession} (hx : s.session e = some x) (hstage : n ≤ x.stage)
    (f : State → SpdmSession → State) : s.spdmStage e n f = .next (f s.fresh x) := by
  unfold State.spdmStage
  rw [hx]
  exact congrArg Host.Outcome.next (if_pos hstage)

/-- A request out of turn gets ERROR UnexpectedRequest. -/
theorem State.spdmStage_refused {s : State} {e n : Nat} (h : ∀ x, s.session e = some x → x.stage < n)
    (f : State → SpdmSession → State) : s.spdmStage e n f = .next { s with out := [.spdm e 0x7F [0x04]] } := by
  unfold State.spdmStage
  cases hx : s.session e with
  | none => rfl
  | some x => exact congrArg Host.Outcome.next (if_neg (not_le.mpr (h x hx)))

/-! ### Requests at their stage -/

section Staged

variable {s : State} {e : Nat} {x : SpdmSession} (hx : s.session e = some x)

include hx

theorem spdmGetCapabilities_spec (hstage : 1 ≤ x.stage) :
    ∃ t, exec (.spdmGetCapabilities e) s = .next t ∧ t.out = [.spdm e 0x61 [spdmCapabilities]] ∧ DataKept s t
      ∧ t.regs = s.regs ∧ t.session e = some { x with endpoint := e, stage := max 2 x.stage, used := s.clock.beat } := by
  obtain rfl := State.session_endpoint hx
  have hexec : exec (.spdmGetCapabilities x.endpoint) s
      = .next (s.fresh.spdmAnswer { x with stage := max 2 x.stage } 0x61 [spdmCapabilities]) := by
    show execSpdmGetCapabilities x.endpoint s = _
    rw [execSpdmGetCapabilities, State.spdmStage_passes hx hstage]
  have h := State.spdmAnswer_answered (s := s.fresh) rfl { x with stage := max 2 x.stage } 0x61 (payload := [spdmCapabilities])
    (by decide)
  exact ⟨_, hexec, h.out, h.data, h.regs, h.session⟩

theorem spdmNegotiateAlgorithms_spec (hstage : 2 ≤ x.stage) :
    ∃ t, exec (.spdmNegotiateAlgorithms e) s = .next t ∧ t.out = [.spdm e 0x63 [0x10, 0x1, 0x2, 0x1]] ∧ DataKept s t
      ∧ t.regs = s.regs ∧ t.session e = some { x with endpoint := e, stage := 3, used := s.clock.beat } := by
  obtain rfl := State.session_endpoint hx
  have hexec : exec (.spdmNegotiateAlgorithms x.endpoint) s
      = .next (s.fresh.spdmAnswer { x with stage := 3 } 0x63 [0x10, 0x1, 0x2, 0x1]) := by
    show execSpdmNegotiateAlgorithms x.endpoint s = _
    rw [execSpdmNegotiateAlgorithms, State.spdmStage_passes hx hstage]
  have h := State.spdmAnswer_answered (s := s.fresh) rfl { x with stage := 3 } 0x63 (payload := [0x10, 0x1, 0x2, 0x1]) (by decide)
  exact ⟨_, hexec, h.out, h.data, h.regs, h.session⟩

variable (hstage : 3 ≤ x.stage)

include hstage

theorem spdmGetDigests_spec : ∃ t, exec (.spdmGetDigests e) s = .next t ∧ DataKept s t ∧ t.regs = s.regs
    ∧ t.out = [.spdm e 0x01 [1, Config.sha256 ((Config.certificate 0).map (BitVec.ofNat 8))]] := by
  obtain rfl := State.session_endpoint hx
  have hexec : exec (.spdmGetDigests x.endpoint) s
      = .next (s.fresh.spdmAnswer x 0x01 [1, Config.sha256 ((Config.certificate 0).map (BitVec.ofNat 8))]) := by
    show execSpdmGetDigests x.endpoint s = _
    rw [execSpdmGetDigests, State.spdmStage_passes hx hstage]
  have h := State.spdmAnswer_answered (s := s.fresh) rfl x 0x01
    (payload := [1, Config.sha256 ((Config.certificate 0).map (BitVec.ofNat 8))]) (by simp)
  exact ⟨_, hexec, h.data, h.regs, h.out⟩

/-- A part of the chain of slot 0 is answered; a part beyond it, or another slot, is not. -/
theorem spdmGetCertificate_eq (slot offset length : Nat) : exec (.spdmGetCertificate e slot offset length) s = .next
    (if slot ≠ 0 ∨ (Config.certificate 0).length ≤ offset then s.fresh.spdmError e 0x01
      else s.fresh.spdmAnswer x 0x02 (((Config.certificate 0).drop offset).take length)) := by
  show execSpdmGetCertificate e slot offset length s = _
  rw [execSpdmGetCertificate, State.spdmStage_passes hx hstage]

theorem spdmGetCertificate_otherSlot {slot : Nat} (offset length : Nat) (hslot : slot ≠ 0) :
    exec (.spdmGetCertificate e slot offset length) s = .next { s with out := [.spdm e 0x7F [0x01]] } := by
  rw [spdmGetCertificate_eq hx hstage, if_pos (.inl hslot)]
  rfl

theorem spdmGetCertificate_spec (offset : Nat) {length : Nat} (hlength : length ≤ 4096) :
    ∃ t, exec (.spdmGetCertificate e 0 offset length) s = .next t ∧ DataKept s t ∧ t.regs = s.regs
      ∧ t.out = (if offset < (Config.certificate 0).length
          then [.spdm e 0x02 (((Config.certificate 0).drop offset).take length)] else [.spdm e 0x7F [0x01]]) := by
  have hexec := spdmGetCertificate_eq hx hstage 0 offset length
  by_cases hin : offset < (Config.certificate 0).length
  · rw [if_neg (by omega)] at hexec
    obtain rfl := State.session_endpoint hx
    have h := State.spdmAnswer_answered (s := s.fresh) rfl x 0x02
      (payload := ((Config.certificate 0).drop offset).take length)
      ((List.length_take_le _ _).trans hlength)
    exact ⟨_, hexec, h.data, h.regs, h.out.trans (if_pos hin).symm⟩
  · rw [if_pos (.inr (not_lt.mp hin))] at hexec
    exact ⟨_, hexec, ⟨rfl, rfl, rfl, rfl, rfl, rfl⟩, rfl, (if_neg hin).symm⟩

omit hstage in
/-- A signed answer is counted. -/
theorem signed_answered (message : List Nat) (code : Nat) {payload : List Nat} (h : payload.length ≤ 4096) :
    DataKept s ((s.fresh.signed message).1.spdmAnswer x code payload)
      ∧ Counted s ((s.fresh.signed message).1.spdmAnswer x code payload) 0x8430 2 1
      ∧ ((s.fresh.signed message).1.spdmAnswer x code payload).out = [.spdm e code payload]
      ∧ RegsKept s ((s.fresh.signed message).1.spdmAnswer x code payload) [key 0x8430 2] := by
  obtain rfl := State.session_endpoint hx
  have h := State.spdmAnswer_answered (s := s.fresh.addReg 0x8430 2 1) rfl x code h
  have hcounted := s.fresh.addReg_counted 0x8430 2 1
  have hkept := RegsKept.addReg s.fresh 0x8430 2 1
  refine ⟨DataKept.trans ⟨rfl, rfl, rfl, rfl, rfl, rfl⟩ h.data, fun hn => ?_, h.out, fun k hr hw hk => ?_⟩
  · obtain ⟨v, hv⟩ : ∃ v, (s.fresh.addReg 0x8430 2 1).regs.find? (key 0x8430 2) = some v := ⟨_, Map.find?_put_self _ _ _⟩
    refine (State.reg_of_find? ((congrArg (Map.find? · _) h.regs).trans hv)).trans ?_
    exact (State.reg_of_find? hv).symm.trans (hcounted hn)
  · exact (congrArg (Map.find? · k) h.regs).trans (hkept k hr hw hk)

theorem spdmChallenge_spec (nonce : Nat) :
    ∃ t sig, exec (.spdmChallenge e 0 1 nonce) s = .next t ∧ DataKept s t ∧ Counted s t 0x8430 2 1
      ∧ t.out = [.spdm e 0x03 [0, Config.sha256 ((Config.certificate 0).map (BitVec.ofNat 8)), nonce, s.measurement 1, sig]]
      ∧ RegsKept s t [key 0x8430 2] := by
  have hexec : exec (.spdmChallenge e 0 1 nonce) s = .next ((s.fresh.signed
      [e, 0, Config.sha256 ((Config.certificate 0).map (BitVec.ofNat 8)), nonce, s.measurement 1]).1.spdmAnswer x 0x03
      [0, Config.sha256 ((Config.certificate 0).map (BitVec.ofNat 8)), nonce, s.measurement 1, Config.sign
        [e, 0, Config.sha256 ((Config.certificate 0).map (BitVec.ofNat 8)), nonce, s.measurement 1]]) := by
    show execSpdmChallenge e 0 1 nonce s = _
    rw [execSpdmChallenge, State.spdmStage_passes hx hstage]
    exact congrArg Host.Outcome.next (if_neg (by decide))
  obtain ⟨hdata, hcounted, hout, hregs⟩ := signed_answered hx
    [e, 0, Config.sha256 ((Config.certificate 0).map (BitVec.ofNat 8)), nonce, s.measurement 1] 0x03
    (payload := [0, Config.sha256 ((Config.certificate 0).map (BitVec.ofNat 8)), nonce, s.measurement 1, Config.sign
      [e, 0, Config.sha256 ((Config.certificate 0).map (BitVec.ofNat 8)), nonce, s.measurement 1]]) (by simp)
  exact ⟨_, _, hexec, hdata, hcounted, hout, hregs⟩

/-- One measurement, signed or not. -/
theorem spdmGetMeasurements_eq {i : Nat} (hlow : 1 ≤ i) (hhigh : i ≤ 8) (sign : Bool) (nonce : Nat) :
    exec (.spdmGetMeasurements e i sign nonce) s = .next
      (if sign then (s.fresh.signed [e, nonce, s.measurement i]).1.spdmAnswer x 0x60
          [s.measurement i, nonce, Config.sign [e, nonce, s.measurement i]]
        else s.fresh.spdmAnswer x 0x60 [s.measurement i]) := by
  have hvalues : (if i = 0 then [8] else if i = 0xFF then (List.range 8).map fun i => s.fresh.measurement (i + 1)
      else [s.fresh.measurement i]) = [s.measurement i] := by
    rw [if_neg (by omega), if_neg (by omega)]
    rfl
  show execSpdmGetMeasurements e i sign nonce s = _
  rw [execSpdmGetMeasurements, State.spdmStage_passes hx hstage]
  dsimp only
  rw [if_neg (by omega), hvalues]
  rfl

theorem spdmGetMeasurements_spec {i : Nat} (hlow : 1 ≤ i) (hhigh : i ≤ 8) (nonce : Nat) :
    (∃ t, exec (.spdmGetMeasurements e i false nonce) s = .next t ∧ DataKept s t ∧ t.regs = s.regs
      ∧ t.out = [.spdm e 0x60 [s.measurement i]])
    ∧ ∃ t sig, exec (.spdmGetMeasurements e i true nonce) s = .next t ∧ DataKept s t ∧ Counted s t 0x8430 2 1
      ∧ t.out = [.spdm e 0x60 [s.measurement i, nonce, sig]] ∧ RegsKept s t [key 0x8430 2] := by
  refine ⟨?_, ?_⟩
  · have hexec := spdmGetMeasurements_eq hx hstage hlow hhigh false nonce
    obtain rfl := State.session_endpoint hx
    have h := State.spdmAnswer_answered (s := s.fresh) rfl x 0x60 (payload := [s.measurement i]) (by simp)
    exact ⟨_, hexec, h.data, h.regs, h.out⟩
  · obtain ⟨hdata, hcounted, hout, hregs⟩ := signed_answered hx [e, nonce, s.measurement i] 0x60
      (payload := [s.measurement i, nonce, Config.sign [e, nonce, s.measurement i]]) (by simp)
    exact ⟨_, _, spdmGetMeasurements_eq hx hstage hlow hhigh true nonce, hdata, hcounted, hout, hregs⟩

theorem spdmChunkSend_spec (seq : Nat) (last : Bool) (chunk : List Byte) :
    ∃ t, exec (.spdmChunkSend e seq last chunk) s = .next t ∧ DataKept s t ∧ t.regs = s.regs ∧ t.out = [.spdm e 0x05 [seq]]
      ∧ t.session e = some { x with
          endpoint := e, used := s.clock.beat,
          request := if last then [] else (if seq = 0 then [] else x.request) ++ chunk } := by
  obtain rfl := State.session_endpoint hx
  have hexec : exec (.spdmChunkSend x.endpoint seq last chunk) s = .next (s.fresh.spdmAnswer { x with
      request := if last then [] else (if seq = 0 then [] else x.request) ++ chunk } 0x05 [seq]) := by
    show execSpdmChunkSend x.endpoint seq last chunk s = _
    rw [execSpdmChunkSend, State.spdmStage_passes hx hstage]
  have h := State.spdmAnswer_answered (s := s.fresh) rfl { x with
    request := if last then [] else (if seq = 0 then [] else x.request) ++ chunk } 0x05 (payload := [seq]) (by simp)
  exact ⟨_, hexec, h.data, h.regs, h.out, h.session⟩

theorem spdmChunkGet_spec {seq : Nat} (hin : seq * 4096 < x.response.length) :
    ∃ t, exec (.spdmChunkGet e seq) s = .next t ∧ DataKept s t ∧ t.regs = s.regs
      ∧ t.out = [.spdm e 0x06 (seq :: (x.response.drop (seq * 4096)).take 4096)] := by
  have hpart : (x.response.drop (seq * 4096)).take 4096 ≠ [] := by
    rw [Ne, ← List.length_eq_zero_iff, List.length_take, List.length_drop]
    omega
  have hexec : exec (.spdmChunkGet e seq) s = .next ((s.fresh.putSession
      (if x.response.length ≤ (seq + 1) * 4096 then { x with response := [] } else x)).emit
      (.spdm e 0x06 (seq :: (x.response.drop (seq * 4096)).take 4096))) := by
    show execSpdmChunkGet e seq s = _
    rw [execSpdmChunkGet, State.spdmStage_passes hx hstage]
    exact congrArg Host.Outcome.next (if_neg hpart)
  exact ⟨_, hexec, ⟨rfl, rfl, rfl, rfl, rfl, rfl⟩, rfl, rfl⟩

end Staged

/-! ### Frames that only get an answer -/

/-- A repeated frame gets the answer kept, whatever it asks. -/
theorem image_repeated {s : State} {seq : Nat} (length : Nat) (hsame : s.security.lastSeq = some (seq % 256)) :
    exec (.imageBegin seq length) s = .next { s with
      out := s.security.lastResponse, security := { s.security with svcNext := none } }
    ∧ exec (.imageEnd seq) s = .next { s with
      out := s.security.lastResponse, security := { s.security with svcNext := none } } := by
  refine ⟨?_, ?_⟩
  · show execImageBegin seq length s = _
    rw [execImageBegin, State.svc_of_repeated hsame]
  · show execImageEnd seq s = _
    rw [execImageEnd, State.svc_of_repeated hsame]

section NewFrame

variable {s : State} {seq : Nat} (hnew : s.security.lastSeq ≠ some (seq % 256))

include hnew

theorem svcHello_spec : ∃ t, exec (.svcHello seq) s = .next t ∧ DataKept s t ∧ t.regs = s.regs ∧ t.security.svcNext = none
    ∧ SvcAnswered t 1 seq 0 [if s.ctl.recovery then 0xFF else s.ctl.mode.code, (s.slotOf 0).fwVersion,
        (s.slotOf 1).fwVersion, (s.slotOf 0).state, (s.slotOf 1).state] := by
  obtain ⟨hdata, hregs, hanswered⟩ := s.svcAnswer_heard seq 1 0 [if s.ctl.recovery then 0xFF else s.ctl.mode.code,
    (s.slotOf 0).fwVersion, (s.slotOf 1).fwVersion, (s.slotOf 0).state, (s.slotOf 1).state]
  refine ⟨_, ?_, hdata, hregs, rfl, hanswered⟩
  show execSvcHello seq s = _
  rw [execSvcHello, State.svc_of_new hnew]
  rfl

/-- In SAVE an update is refused with MODE. -/
theorem image_inSave (length now : Nat) (hsave : s.ctl.mode = .save) :
    (∃ t, exec (.imageBegin seq length) s = .next t ∧ DataKept s t ∧ t.regs = s.regs ∧ t.eflash = s.eflash
      ∧ SvcAnswered t 0x10 seq 2 [])
    ∧ (∃ t, exec (.imageActivate seq now) s = .next t ∧ DataKept s t ∧ t.regs = s.regs ∧ SvcAnswered t 0x13 seq 2 []) := by
  refine ⟨?_, ?_⟩
  · obtain ⟨hdata, hregs, hanswered⟩ := s.svcAnswer_heard seq 0x10 2 []
    refine ⟨_, ?_, hdata, hregs, rfl, hanswered⟩
    show execImageBegin seq length s = _
    rw [execImageBegin, State.svc_of_new hnew]
    exact congrArg Host.Outcome.next (if_pos hsave)
  · obtain ⟨hdata, hregs, hanswered⟩ := s.svcAnswer_heard seq 0x13 2 []
    refine ⟨_, ?_, hdata, hregs, hanswered⟩
    show execImageActivate seq now s = _
    rw [execImageActivate, State.svc_of_new hnew]
    exact congrArg Host.Outcome.next (if_pos (by simp [State.heard, State.fresh, hsave]))

end NewFrame

/-- Before the capabilities are exchanged, algorithms and a challenge are out of turn. -/
theorem spdm_outOfTurn {s : State} {e : Nat} (hearly : ∀ x, s.session e = some x → x.stage < 2) :
    exec (.spdmNegotiateAlgorithms e) s = .next { s with out := [.spdm e 0x7F [0x04]] }
    ∧ ∀ slot summary nonce, exec (.spdmChallenge e slot summary nonce) s = .next { s with out := [.spdm e 0x7F [0x04]] } := by
  refine ⟨?_, fun slot summary nonce => ?_⟩
  · show execSpdmNegotiateAlgorithms e s = _
    rw [execSpdmNegotiateAlgorithms, State.spdmStage_refused hearly]
  · show execSpdmChallenge e slot summary nonce s = _
    rw [execSpdmChallenge, State.spdmStage_refused fun x hx => Nat.lt_succ_of_lt (hearly x hx)]

/-! ### The obligation -/

/-- Settles O59: a frame by whether it repeats the last one, an update by its state, a request by the stage of its session. -/
theorem servicePortAndAttestation : Obligations.ServicePortAndAttestation := by
  unfold Obligations.ServicePortAndAttestation
  refine ⟨fun s seq length hsame => image_repeated length hsame,
    fun s seq type code hnew =>
      ⟨svcHello_spec hnew, svcSetRate_spec hnew, svcSetRate_unknown hnew, svcUnknownType_fresh hnew⟩,
    fun s c b hnext hlate => svcRateFallback_spec hnext hlate, fun s => rfl,
    fun s seq length now hnew hsave => image_inSave hnew length now hsave, fun s seq length b hnew hmode hidle hlength hup hb => ?_,
    fun s seq offset b data hnew hmode hwriting haligned hwhole hsome hlength hroom hup hb => ⟨fun hfree => ?_, fun hused => ?_⟩,
    fun s seq b r hnew hmode hwriting hb hr => ?_, fun s seq b hnew hmode hb => ⟨fun hstaged hnormal => ?_, fun hunder => ?_⟩,
    fun s e => ?_, fun s e hearly => spdm_outOfTurn hearly, fun s e x hx hstage => spdmGetCapabilities_spec hx hstage,
    fun s e x hx hstage => spdmNegotiateAlgorithms_spec hx hstage,
    fun s e x hx hstage => ⟨spdmGetDigests_spec hx hstage,
      fun slot offset length hslot => spdmGetCertificate_otherSlot hx hstage offset length hslot,
      fun offset length hlength => spdmGetCertificate_spec hx hstage offset hlength,
      fun nonce => spdmChallenge_spec hx hstage nonce,
      fun i nonce hlow hhigh => spdmGetMeasurements_spec hx hstage hlow hhigh nonce,
      fun seq last chunk => spdmChunkSend_spec hx hstage seq last chunk, fun seq hin => spdmChunkGet_spec hx hstage hin⟩,
    fun s e code => ⟨rfl, rfl⟩⟩
  · subst hb
    exact imageBegin_spec hnew hmode hidle hlength hup
  · subst hb
    exact imageData_programs hnew hmode hwriting haligned hwhole hsome hlength hroom hup hfree
  · subst hb
    exact imageData_refused hnew hmode hwriting haligned hwhole hsome hlength hroom hused
  · subst hb
    exact imageEnd_ends hnew hmode hwriting hr
  · subst hb
    exact imageActivate_pending hnew hmode hstaged hnormal
  · subst hb
    exact imageAbort_spec hnew hmode hunder
  · have hsession := s.fresh.session_putSession { endpoint := e, stage := 1, used := 0, request := [], response := [] }
    exact ⟨_, rfl, rfl, rfl, hsession⟩

end Sys2Proof.Machine
end

section
/-! PROOFS. The Chest's embedded-flash spool and the failure of its ring (R382 to R385), its read-out, and the injectors
(R375, R454, R455). -/

namespace Sys2Proof.Machine

/-! ### The spool -/

/-- A record moves neither the embedded-flash spool nor what was sent to it. -/
theorem State.record_spool (s : State) (code : Nat) (lead : List Nat) (inj : Bool) :
    (s.record code lead inj).chest.eflash = s.chest.eflash := by
  have hdeliver : ∀ (t : State) (r : ChestRec) (all : Bool), (t.deliver r all).chest = t.chest := fun t r all => by
    rw [t.deliver_sameButLinks r all]
  have hgasp : ∀ (c : Chest) (r : ChestRec), (c.gasp r).1.eflash = c.eflash := fun c r => by
    unfold Chest.gasp
    dsimp only
    split
    · rfl
    · split
      · split <;> rfl
      · rfl
  unfold State.record
  dsimp only
  split
  · rfl
  · split
    · split
      · rw [hdeliver]
        exact hgasp _ _
      · rfl
    · split
      · rfl
      · rw [hdeliver]
        rfl

theorem State.faultOpen_spool (s : State) (code : Nat) (live : Bool) :
    (s.faultOpen code live).chest.eflash = s.chest.eflash := State.record_spool _ _ _ _

theorem FlashMoved.faultOpen (s : State) (b : Nat) (l : List Nat) (code : Nat) (live : Bool) :
    FlashMoved b l s (s.faultOpen code live) := .reports (s.faultOpen_reports _ _) (s.faultOpen_kept _ _) b l

section Spool

variable {s : State} {r : ChestRec} {b : Nat} (hwait : s.chest.eflashWait = [r]) (hb : b = spoolBank s.chest.spoolSector)
  (hidle : (s.bank b).op = none)

include hwait hb hidle

/-- What a spool write that need not wait does (R382, R387, R407). -/
theorem chestEflashSpool_eq : exec .chestEflashSpool s = .next
    (if (s.bank b).suspended.isSome then s.fresh.faultOpen Code.spoolDelayed
      else if s.eflash.brownout then (s.fresh.brownoutBlock b).faultOpen Code.spoolWriteFailed
      else State.spoolRecord { s.fresh with chest := { s.chest with eflashWait := [] } } r) := by
  subst hb
  have hsome : s.chest.eflashWait ≠ [] := by simp [hwait]
  have hop : ¬ (s.bank (spoolBank s.chest.spoolSector)).op.isSome = true := by simp [hidle]
  show execChestEflashSpool s = _
  rw [execChestEflashSpool, if_neg hsome, State.eflashSpool, if_neg hop, hwait]
  rfl

theorem chestEflashSpool_stored (hfree : (s.bank b).suspended = none) (hup : s.eflash.brownout = false)
    (hroom : s.chest.spoolUsed + r.places ≤ 64) :
    ∃ t, exec .chestEflashSpool s = .next t ∧ DataKept s t ∧ Counted s t (0x8000 + b) 3 1
      ∧ t.chest = { s.chest with
          eflashWait := [], eflash := s.chest.eflash ++ [(s.chest.spoolSector, r)],
          spoolUsed := s.chest.spoolUsed + r.places }
      ∧ RegsKept s t [key (0x8000 + b) 3] := by
  have hexec := chestEflashSpool_eq hwait hb hidle
  rw [if_neg (by simp [hfree]), if_neg (by simp [hup]), State.spoolRecord] at hexec
  dsimp only at hexec
  rw [if_pos (by omega)] at hexec
  subst hb
  exact ⟨_, hexec, ⟨rfl, rfl, rfl, rfl, rfl, rfl⟩, s.fresh.addReg_counted _ _ _, rfl,
    (RegsKept.of_regs (t := s.fresh) rfl _).put (List.mem_singleton_self _) _ rfl⟩

theorem chestEflashSpool_delayed (hheld : (s.bank b).suspended ≠ none) :
    ∃ t, exec .chestEflashSpool s = .next t ∧ SameButReports { s with out := [] } t
      ∧ t.hasFault Code.spoolDelayed = true ∧ t.chest.eflash = s.chest.eflash := by
  have hexec := chestEflashSpool_eq hwait hb hidle
  rw [if_pos (Option.isSome_iff_ne_none.mpr hheld)] at hexec
  exact ⟨_, hexec, s.fresh.faultOpen_reports _ _, State.faultOpen_hasFault _ _ _, s.fresh.faultOpen_spool _ _⟩

theorem chestEflashSpool_failed (hfree : (s.bank b).suspended = none) (hlow : s.eflash.brownout = true) :
    ∃ t, exec .chestEflashSpool s = .next t ∧ DataKept s t ∧ Counted s t 0x8031 0 1
      ∧ t.hasFault Code.spoolWriteFailed = true ∧ t.chest.eflash = s.chest.eflash ∧ RegsKept s t [key 0x8031 0] := by
  have hexec := chestEflashSpool_eq hwait hb hidle
  rw [if_neg (by simp [hfree]), if_pos hlow] at hexec
  have hfresh : FlashMoved b [key 0x8031 0] s s.fresh :=
    ⟨⟨rfl, rfl, rfl, rfl, rfl, rfl⟩, rfl, rfl, rfl, fun _ _ => rfl, .of_regs rfl _, fun _ h => h⟩
  have hblock : FlashMoved b [key 0x8031 0] s (s.fresh.brownoutBlock b) :=
    (hfresh.trans (s.fresh.stick_moved b stBrownout _)).trans (.addReg _ b 1 (List.mem_singleton_self _))
  have hfault : ∀ l, FlashMoved b l (s.fresh.brownoutBlock b) ((s.fresh.brownoutBlock b).faultOpen Code.spoolWriteFailed) :=
    fun l => .faultOpen _ b l _ _
  have hcounted : Counted s (s.fresh.brownoutBlock b) 0x8031 0 1 := (s.fresh.stick b stBrownout).addReg_counted _ _ _
  have hmoved := hblock.trans (hfault _)
  exact ⟨_, hexec, hmoved.data, (hfault []).counted hcounted (by decide) (by decide) (List.not_mem_nil),
    State.faultOpen_hasFault _ _ _, State.faultOpen_spool _ _ _, hmoved.regs⟩

end Spool

/-! ### The ring fails (R385) -/

/-- The ring without the records lost with it. -/
def Chest.ringLost (c : Chest) (n : Nat) : Chest :=
  { c with ringFailed := true, unspooled := c.unspooled - n
           ring := c.ring.take (c.ring.length - c.unspooled) ++ c.ring.drop (c.ring.length - c.unspooled + n) }

/-- The state with the failure of the ring counted, before its record is sent. -/
def State.ringOut (s : State) (lost : Nat) : State :=
  { s.drawn with chest := s.chest.ringLost (min lost s.chest.unspooled) }.occur Code.chestRingFailed true false
    (Config.free s.free)

theorem State.ringOut_reports (s : State) (lost : Nat) : SameButReports s (s.ringOut lost) :=
  ((SameButReports.drawn s).trans (.chest _ _)).trans (State.occur_reports _ _ _ _ _)

/-- The last-gasp registers take a record beside everything else in the Chest. -/
theorem Chest.gasp_ring (c : Chest) (r : ChestRec) :
    (c.gasp r).1.ringFailed = c.ringFailed ∧ (c.gasp r).1.unspooled = c.unspooled := by
  unfold Chest.gasp
  dsimp only
  split
  · exact ⟨rfl, rfl⟩
  · split
    · split <;> exact ⟨rfl, rfl⟩
    · exact ⟨rfl, rfl⟩

/-- The record of the failure. -/
def State.ringRecord (s : State) (lost : Nat) : ChestRec :=
  (s.ringOut lost).formRecord Code.chestRingFailed (words2 (Config.free s.free) ++ [lost % 2 ^ 32]) false

/-- The failure is sent, with its record in the last-gasp registers or counted as lost. -/
theorem State.ringFails_cases (s : State) (lost : Nat) : ∃ r : ChestRec,
    s.ringFails lost
        = { s.ringOut lost with chest := ((s.ringOut lost).chest.advance.gasp (s.ringRecord lost)).1 }.deliver r true
      ∨ s.ringFails lost = ((s.ringOut lost).addReg 0x7422 0 1).deliver r true :=
  ⟨{ s.ringRecord lost with fallback := true, values := (s.ringRecord lost).values.take 6 }, ite_eq_or_eq _ _ _⟩

theorem State.ringFails_spec (s : State) (lost : Nat) :
    SameButReports s (s.ringFails lost) ∧ (s.ringFails lost).chest.ringFailed = true
      ∧ (s.ringFails lost).chest.unspooled = s.chest.unspooled - min lost s.chest.unspooled
      ∧ (s.ringFails lost).hasFault Code.chestRingFailed = true := by
  have hfault : (s.ringOut lost).hasFault Code.chestRingFailed = true := by
    rw [State.ringOut, State.occur_hasFault, decide_eq_true rfl, Bool.or_true]
  have hchest : ∀ (t : State) (r : ChestRec), (t.deliver r true).chest = t.chest := fun t r => by
    rw [t.deliver_sameButLinks r true]
  obtain ⟨r, h | h⟩ := s.ringFails_cases lost <;> rw [h]
  · obtain ⟨hfailed, hunspooled⟩ := (s.ringOut lost).chest.advance.gasp_ring (s.ringRecord lost)
    refine ⟨((s.ringOut_reports lost).trans (.chest _ _)).trans (State.deliver_reports _ _ _), ?_, ?_,
      (State.deliver_sameButLinks _ _ _).kept.faults _ hfault⟩
    · rw [hchest]
      exact hfailed
    · rw [hchest]
      exact hunspooled
  · refine ⟨((s.ringOut_reports lost).trans (.addReg _ _ _ _ (by decide))).trans (State.deliver_reports _ _ _), ?_, ?_,
      (State.deliver_sameButLinks _ _ _).kept.faults _ hfault⟩ <;>
      rw [hchest] <;> rfl

/-! ### Read-out (R384) -/

/-- The better of a record found so far and another one. -/
def lowerRecord (mark : Nat) (best : Option ChestRec) (r : ChestRec) : Option ChestRec :=
  if r.seq < mark ∨ r.torn then best
  else match best with
    | none => some r
    | some b => if r.seq < b.seq then some r else some b

theorem lowestRecord_eq (mark : Nat) (rs : List ChestRec) : lowestRecord mark rs = rs.foldl (lowerRecord mark) none := rfl

theorem lowerRecord_spec {mark : Nat} {best : Option ChestRec} (hbest : ∀ x, best = some x → mark ≤ x.seq ∧ x.torn = false)
    (r : ChestRec) : ∀ x, lowerRecord mark best r = some x → mark ≤ x.seq ∧ x.torn = false := by
  intro x hx
  unfold lowerRecord at hx
  split at hx
  · exact hbest x hx
  next hgood =>
    have hr : mark ≤ r.seq ∧ r.torn = false := by simpa using hgood
    split at hx
    · exact Option.some.inj hx ▸ hr
    · split at hx
      · exact Option.some.inj hx ▸ hr
      · exact hbest x hx

/-- The record that a read finds is whole, and its sequence is not below the mark. -/
theorem lowestRecord_spec {mark : Nat} {rs : List ChestRec} {r : ChestRec} (h : lowestRecord mark rs = some r) :
    mark ≤ r.seq ∧ r.torn = false := by
  have hfold : ∀ (l : List ChestRec) (best : Option ChestRec), (∀ x, best = some x → mark ≤ x.seq ∧ x.torn = false) →
      ∀ x, l.foldl (lowerRecord mark) best = some x → mark ≤ x.seq ∧ x.torn = false := by
    intro l
    induction l with
    | nil => exact fun best hbest => hbest
    | cons a l ih => exact fun best hbest => ih _ (lowerRecord_spec hbest a)
  rw [lowestRecord_eq] at h
  exact hfold rs none (fun x hx => by simp at hx) r h

/-- The entries that a read-out moves. -/
def readOutEntries : List Nat := [key 0x7430 4, key 0x7430 5]

/-- The torn records that a read passes over are counted. -/
def State.tornPassed (s : State) : State := if s.recordAt.2 = [] then s else s.addReg 0x7430 5 s.recordAt.2.length

theorem State.tornPassed_spec (s : State) : DataKept s s.tornPassed ∧ s.tornPassed.chest = s.chest
    ∧ s.tornPassed.out = s.out ∧ RegsKept s s.tornPassed readOutEntries := by
  unfold State.tornPassed
  split
  · exact ⟨⟨rfl, rfl, rfl, rfl, rfl, rfl⟩, rfl, rfl, .of_regs rfl _⟩
  · exact ⟨⟨rfl, rfl, rfl, rfl, rfl, rfl⟩, rfl, rfl, (RegsKept.of_regs (t := s) rfl _).put (by simp [readOutEntries]) _ rfl⟩

theorem State.readSpool_sched (s : State) (x : ChestRec) : ∃ q, s.readSpool x = { s with sched := q } := by
  unfold State.readSpool
  dsimp only
  split
  · exact ⟨s.sched, rfl⟩
  · exact ⟨_, rfl⟩

/-- A read-out once its record has been found: the pointer moves, and bursts may go to the Cupboard. -/
def State.readOut (u : State) (pointer : Nat) (q : Sched) (found : Option ChestRec) : State :=
  { u.setReg 0x7430 4 pointer with sched := q }.emit (.chestRecord found)

theorem State.readOut_spec (u : State) (pointer : Nat) (q : Sched) (found : Option ChestRec) :
    DataKept u (u.readOut pointer q found) ∧ (u.readOut pointer q found).chest = u.chest
      ∧ (u.readOut pointer q found).out = u.out ++ [.chestRecord found] ∧ (u.readOut pointer q found).reg 0x7430 4 = pointer
      ∧ RegsKept u (u.readOut pointer q found) readOutEntries :=
  ⟨⟨rfl, rfl, rfl, rfl, rfl, rfl⟩, rfl, rfl, State.reg_of_find? (Map.find?_put_self _ _ _),
    (RegsKept.of_regs (t := u) rfl _).put (by simp [readOutEntries]) _ rfl⟩

theorem State.readRecord_found {s : State} {x : ChestRec} (h : s.recordAt.1 = some x) :
    s.readRecord = ((s.tornPassed.setReg 0x7430 4 (x.seq + 1)).readSpool x, recordValue x, some x) := by
  unfold State.readRecord
  dsimp only
  rw [h]
  rfl

theorem State.readRecord_none {s : State} (h : s.recordAt.1 = none) :
    s.readRecord = (s.tornPassed.setReg 0x7430 4 (s.reg 0x7430 1), 0, none) := by
  unfold State.readRecord
  dsimp only
  rw [h]
  rfl

theorem execChestReadRecord_readOut (s : State) (role : Role) : ∃ q, execChestReadRecord role s = .next
    (s.fresh.tornPassed.readOut ((s.recordAt.1.map fun x => x.seq + 1).getD (s.reg 0x7430 1)) q s.recordAt.1) := by
  have hat : s.fresh.recordAt = s.recordAt := rfl
  unfold execChestReadRecord State.readOut
  dsimp only
  cases hfound : s.recordAt.1 with
  | none =>
    rw [State.readRecord_none (hat ▸ hfound)]
    exact ⟨_, rfl⟩
  | some x =>
    obtain ⟨q, hq⟩ := (s.fresh.tornPassed.setReg 0x7430 4 (x.seq + 1)).readSpool_sched x
    rw [State.readRecord_found (hat ▸ hfound), hq]
    exact ⟨q, rfl⟩

theorem chestReadRecord_spec (s : State) (role : Role) :
    ∃ t, exec (.chestReadRecord role) s = .next t ∧ DataKept s t ∧ t.chest = s.chest
      ∧ RegsKept s t readOutEntries
      ∧ (∀ r, s.recordAt.1 = some r → s.reg 0x7430 1 ≤ r.seq ∧ r.torn = false ∧ t.reg 0x7430 4 = r.seq + 1
          ∧ t.out = [.chestRecord (some r)])
      ∧ (s.recordAt.1 = none → t.reg 0x7430 4 = s.reg 0x7430 1 ∧ t.out = [.chestRecord none]) := by
  obtain ⟨q, hexec⟩ := execChestReadRecord_readOut s role
  obtain ⟨hdata, hchest, hout, hregs⟩ := s.fresh.tornPassed_spec
  obtain ⟨kdata, kchest, kout, kreg, kregs⟩ := s.fresh.tornPassed.readOut_spec
    ((s.recordAt.1.map fun x => x.seq + 1).getD (s.reg 0x7430 1)) q s.recordAt.1
  have hleaves := kout.trans (congrArg (· ++ [Output.chestRecord s.recordAt.1]) hout)
  refine ⟨_, hexec, DataKept.trans (t := s.fresh.tornPassed) hdata kdata, kchest.trans hchest,
    RegsKept.trans (t := s.fresh.tornPassed) hdata.mode hregs kregs, fun r hr => ?_, fun hnone => ?_⟩
  · obtain ⟨hmark, hwhole⟩ := lowestRecord_spec hr
    refine ⟨hmark, hwhole, kreg.trans (by rw [hr]; rfl), hleaves.trans (by rw [hr]; rfl)⟩
  · exact ⟨kreg.trans (by rw [hnone]; rfl), hleaves.trans (by rw [hnone]; rfl)⟩

/-! ### Injectors (R454, R455) -/

/-- What remains of an injector after a firing: it disarms, or waits for its next occurrence. -/
def State.injectorAfter (t : State) (b due left interval : Nat) : State :=
  if left ≤ 1 then { t with test := { t.test with injDue := t.test.injDue.del b } }.setReg (0x9100 + b) 2 0
  else { t with test := { t.test with injDue := t.test.injDue.put b (due + interval, left - 1) } }

theorem injectorKey_notMem_reportEntries (b sub : Nat) : key (0x9100 + b) sub ∉ reportEntries := by
  simp only [reportEntries, key, List.mem_cons, List.not_mem_nil, or_false]
  omega

/-- The end of a firing moves the mode of the injector at most. -/
theorem State.injectorAfter_spec (t : State) (b due left interval : Nat) :
    DataKept t (t.injectorAfter b due left interval) ∧ (t.injectorAfter b due left interval).faults = t.faults
      ∧ RegsKept t (t.injectorAfter b due left interval) [key (0x9100 + b) 2]
      ∧ (∀ sub, sub ≠ 2 → sub < 256 → (t.injectorAfter b due left interval).reg (0x9100 + b) sub = t.reg (0x9100 + b) sub)
      ∧ (left ≤ 1 → (t.injectorAfter b due left interval).test.injDue.find? b = none
          ∧ (t.injectorAfter b due left interval).reg (0x9100 + b) 2 = 0)
      ∧ (1 < left → (t.injectorAfter b due left interval).test.injDue.find? b = some (due + interval, left - 1)) := by
  unfold State.injectorAfter
  split
  next hlast =>
    refine ⟨⟨rfl, rfl, rfl, rfl, rfl, rfl⟩, rfl, (RegsKept.of_regs rfl _).put (List.mem_singleton_self _) _ rfl,
      fun sub hsub hlt => ?_, fun _ => ⟨Map.find?_del_self _ _, State.reg_of_find? (Map.find?_put_self _ _ _)⟩,
      fun h => absurd hlast (not_le.mpr h)⟩
    exact State.reg_setReg_of_ne { t with test := { t.test with injDue := t.test.injDue.del b } } _ (by unfold key; omega)
  next hmore =>
    exact ⟨⟨rfl, rfl, rfl, rfl, rfl, rfl⟩, rfl, .of_regs rfl _, fun _ _ _ => rfl, fun h => absurd h hmore,
      fun _ => Map.find?_put_self _ _ _⟩

/-- The occurrence that a firing reports. -/
def State.injectReported (s : State) (b : Nat) : State :=
  (s.occur (b * 32 + s.reg (0x9100 + b) 1 % 32) true true (s.reg (0x9100 + b) 6)).record
    (b * 32 + s.reg (0x9100 + b) 1 % 32) (words2 (s.reg (0x9100 + b) 6)) true

theorem State.injectReported_spec (s : State) (b : Nat) : SameButReports s (s.injectReported b)
    ∧ (s.injectReported b).hasFault (32 * b + s.reg (0x9100 + b) 1 % 32) = true := by
  refine ⟨(State.occur_reports _ _ _ _ _).trans (State.record_reports _ _ _ _), (State.record_kept _ _ _ _).faults _ ?_⟩
  rw [State.occur_hasFault, Nat.mul_comm 32 b, decide_eq_true rfl, Bool.or_true]

/-- What a firing does before its injector is set anew: it is skipped, or an occurrence is reported and counted (R453, R455). -/
def State.injectorAct (s : State) (b : Nat) : State :=
  if s.injectHeld then s.addReg (0x9100 + b) 8 1 else (s.injectReported b).addReg (0x9100 + b) 7 1

/-- A firing without the real reaction of its code. -/
theorem State.inject_eq {s : State} {b : Nat} (hplain : s.injectHeld = true ∨ s.reg (0x9100 + b) 2 = 1) (due left : Nat) :
    s.inject b due left = (s.injectorAct b).injectorAfter b due left (s.reg (0x9100 + b) 5) := by
  unfold State.inject State.injectorAct State.injectorAfter State.injectReported
  dsimp only
  rcases hplain with hheld | hone
  · rw [if_pos hheld, if_pos hheld]
  · rw [if_neg (show ¬ s.reg (0x9100 + b) 2 = 2 by omega)]

theorem injectorFire_eq {s : State} {b : Fin 17} {due left : Nat} (hdue : s.test.injDue.find? b.val = some (due, left))
    (hcome : due ≤ s.clock.ext.toNat) (harmed : s.reg (0x9100 + b.val) 2 ≠ 0)
    (hplain : s.injectHeld = true ∨ s.reg (0x9100 + b.val) 2 = 1) :
    exec (.injectorFire b) s
      = .next ((s.fresh.injectorAct b.val).injectorAfter b.val due left (s.reg (0x9100 + b.val) 5)) := by
  show execInjectorFire b s = _
  unfold execInjectorFire
  rw [hdue]
  exact congrArg Host.Outcome.next ((if_pos ⟨harmed, hcome⟩).trans (State.inject_eq (s := s.fresh) hplain due left))

/-- The end of a firing keeps what the firing counted. -/
theorem State.injectorAfter_counted {s t : State} {b sub : Nat} (h : Counted s t (0x9100 + b) sub 1) (hsub : sub ≠ 2)
    (hlt : sub < 256) (due left interval : Nat) : Counted s (t.injectorAfter b due left interval) (0x9100 + b) sub 1 :=
  fun hn => by
    obtain ⟨-, -, -, hreg, -⟩ := t.injectorAfter_spec b due left interval
    exact (hreg sub hsub hlt).trans (h hn)

section Fire

variable {s : State} {b : Fin 17} {due left : Nat} (hdue : s.test.injDue.find? b.val = some (due, left))
  (hcome : due ≤ s.clock.ext.toNat)

include hdue hcome

theorem injectorFire_held (harmed : s.reg (0x9100 + b.val) 2 ≠ 0) (hheld : s.injectHeld = true) :
    ∃ t, exec (.injectorFire b) s = .next t ∧ DataKept s t ∧ Counted s t (0x9100 + b.val) 8 1 ∧ t.faults = s.faults
      ∧ RegsKept s t [key (0x9100 + b.val) 8, key (0x9100 + b.val) 2] := by
  have hact : s.fresh.injectorAct b.val = s.fresh.addReg (0x9100 + b.val) 8 1 := if_pos hheld
  have hexec := injectorFire_eq hdue hcome harmed (.inl hheld)
  rw [hact] at hexec
  obtain ⟨hdata, hfaults, hregs, -⟩ :=
    (s.fresh.addReg (0x9100 + b.val) 8 1).injectorAfter_spec b.val due left (s.reg (0x9100 + b.val) 5)
  have hkept : RegsKept s (s.fresh.addReg (0x9100 + b.val) 8 1) [key (0x9100 + b.val) 8, key (0x9100 + b.val) 2] :=
    (RegsKept.of_regs (t := s.fresh) rfl _).put (by simp) _ rfl
  exact ⟨_, hexec, DataKept.trans ⟨rfl, rfl, rfl, rfl, rfl, rfl⟩ hdata,
    State.injectorAfter_counted (s.fresh.addReg_counted _ _ _) (by decide) (by decide) _ _ _, hfaults,
    RegsKept.trans (t := s.fresh.addReg (0x9100 + b.val) 8 1) rfl hkept (hregs.mono (by simp))⟩

theorem injectorFire_reports (hone : s.reg (0x9100 + b.val) 2 = 1) (hopen : s.injectHeld = false) :
    ∃ t, exec (.injectorFire b) s = .next t ∧ DataKept s t ∧ Counted s t (0x9100 + b.val) 7 1
      ∧ t.hasFault (32 * b.val + s.reg (0x9100 + b.val) 1 % 32) = true
      ∧ (left ≤ 1 → t.test.injDue.find? b.val = none ∧ t.reg (0x9100 + b.val) 2 = 0)
      ∧ (1 < left → t.test.injDue.find? b.val = some (due + s.reg (0x9100 + b.val) 5, left - 1))
      ∧ RegsKept s t [key (0x9100 + b.val) 7, key (0x9100 + b.val) 2] := by
  have hact : s.fresh.injectorAct b.val = (s.fresh.injectReported b.val).addReg (0x9100 + b.val) 7 1 :=
    if_neg (show ¬ s.injectHeld = true by simp [hopen])
  have hexec := injectorFire_eq hdue hcome (by omega) (.inr hone)
  rw [hact] at hexec
  obtain ⟨hreports, hfault⟩ := s.fresh.injectReported_spec b.val
  obtain ⟨hdata, hfaults, hregs, -, hlast, hmore⟩ := ((s.fresh.injectReported b.val).addReg (0x9100 + b.val) 7
    1).injectorAfter_spec b.val due left (s.reg (0x9100 + b.val) 5)
  have hreg : (s.fresh.injectReported b.val).reg (0x9100 + b.val) 7 = s.reg (0x9100 + b.val) 7 :=
    hreports.niura_reg (by omega) (injectorKey_notMem_reportEntries _ _)
  have hsum : DataKept s ((s.fresh.injectReported b.val).addReg (0x9100 + b.val) 7 1) :=
    DataKept.trans (t := s.fresh) ⟨rfl, rfl, rfl, rfl, rfl, rfl⟩ (hreports.dataKept.trans ⟨rfl, rfl, rfl, rfl, rfl, rfl⟩)
  have hkept : RegsKept s ((s.fresh.injectReported b.val).addReg (0x9100 + b.val) 7 1)
      [key (0x9100 + b.val) 7, key (0x9100 + b.val) 2] :=
    RegsKept.put (t := s.fresh.injectReported b.val) (hreports.regsKept _) (by simp) _ rfl
  refine ⟨_, hexec, hsum.trans hdata, State.injectorAfter_counted ((State.addReg_counted _ _ _ _).of_reg hreg) (by decide)
    (by decide) _ _ _, ?_, hlast, hmore, RegsKept.trans hsum.mode hkept (hregs.mono (by simp))⟩
  rw [State.hasFault, State.faultGroup, hfaults]
  exact hfault

end Fire

end Sys2Proof.Machine
end

section
/-! PROOFS. The Bureau's core pairs and roles (R391, R393), and the repair and recovery of SRAM (R394, R395). -/

namespace Sys2Proof.Machine

theorem SameButReports.bureau {s t : State} (h : SameButReports s t) : t.bureau = s.bureau := by rw [h.1]

/-! ### Entries and reports -/

/-- Between two states entries of `l` have moved and reports have been made: no data and no other entry differ, and a fault that
has occurred stays sticky. -/
structure EntriesMoved (l : List Nat) (s t : State) : Prop where
  data : DataKept s t
  layout : t.layout = s.layout
  security : t.security = s.security
  regs : RegsKept s t l
  faults : ∀ code, s.hasFault code = true → t.hasFault code = true

namespace EntriesMoved

variable {l : List Nat} {s t u : State}

theorem refl (l : List Nat) (s : State) : EntriesMoved l s s :=
  ⟨⟨rfl, rfl, rfl, rfl, rfl, rfl⟩, rfl, rfl, .of_regs rfl l, fun _ h => h⟩

theorem trans (h : EntriesMoved l s t) (k : EntriesMoved l t u) : EntriesMoved l s u :=
  ⟨h.data.trans k.data, k.layout.trans h.layout, k.security.trans h.security, h.regs.trans h.data.mode k.regs,
    fun c hc => k.faults c (h.faults c hc)⟩

theorem mono {l' : List Nat} (h : EntriesMoved l s t) (hl : l ⊆ l') : EntriesMoved l' s t :=
  { h with regs := h.regs.mono hl }

theorem reports (h : SameButReports s t) (k : RecordKept s t) (l : List Nat) : EntriesMoved l s t :=
  ⟨h.dataKept, h.layout, h.security, h.regsKept l, k.faults⟩

theorem fresh (l : List Nat) (s : State) : EntriesMoved l s s.fresh :=
  ⟨⟨rfl, rfl, rfl, rfl, rfl, rfl⟩, rfl, rfl, .of_regs rfl l, fun _ h => h⟩

theorem bureau (l : List Nat) (s : State) (b : Bureau) : EntriesMoved l s { s with bureau := b } :=
  ⟨⟨rfl, rfl, rfl, rfl, rfl, rfl⟩, rfl, rfl, .of_regs rfl l, fun _ h => h⟩

theorem raiseSource (l : List Nat) (s : State) (n : Nat) : EntriesMoved l s (s.raiseSource n) := .bureau l s _

theorem setReg (s : State) {idx sub : Nat} (v : Nat) (h : key idx sub ∈ l) : EntriesMoved l s (s.setReg idx sub v) :=
  ⟨⟨rfl, rfl, rfl, rfl, rfl, rfl⟩, rfl, rfl, (RegsKept.of_regs rfl _).put h _ rfl, fun _ h => h⟩

theorem addReg (s : State) {idx sub : Nat} (n : Nat) (h : key idx sub ∈ l) : EntriesMoved l s (s.addReg idx sub n) :=
  ⟨⟨rfl, rfl, rfl, rfl, rfl, rfl⟩, rfl, rfl, (RegsKept.of_regs rfl _).put h _ rfl, fun _ h => h⟩

theorem note (l : List Nat) (s : State) (code : Nat) (vs : List Nat) : EntriesMoved l s (s.note code vs) :=
  .reports (s.note_reports _ _) (s.record_kept _ _ _) l

theorem faultOpen (l : List Nat) (s : State) (code : Nat) (live : Bool) : EntriesMoved l s (s.faultOpen code live) :=
  .reports (s.faultOpen_reports _ _) (s.faultOpen_kept _ _) l

/-- An entry of chapter 4 or later that is not left out reads as before. -/
theorem reg (h : EntriesMoved l s t) {idx sub : Nat} (hidx : 0x4000 ≤ idx) (hr : key idx sub ∉ reportEntries)
    (hl : key idx sub ∉ l) : t.reg idx sub = s.reg idx sub :=
  State.reg_congr h.layout h.security (h.regs _ hr (fun _ => key_notMem_windowEntries_of_le hidx) hl)

theorem counted {idx sub n : Nat} (h : EntriesMoved l t u) (hc : Counted s t idx sub n) (hidx : 0x4000 ≤ idx)
    (hr : key idx sub ∉ reportEntries) (hl : key idx sub ∉ l) : Counted s u idx sub n :=
  fun hn => (h.reg hidx hr hl).trans (hc hn)

theorem counted_of (h : EntriesMoved l s t) {idx sub n : Nat} (hc : Counted t u idx sub n) (hidx : 0x4000 ≤ idx)
    (hr : key idx sub ∉ reportEntries) (hl : key idx sub ∉ l) : Counted s u idx sub n :=
  hc.of_reg (h.reg hidx hr hl)

end EntriesMoved

/-! ### States of pairs -/

/-- The entries of a pair that a failure moves. -/
def pairEntries (k : Nat) : List Nat := [key (0x7800 + k) 1, key (0x7800 + k) 3]

theorem pairKey_notMem_reportEntries (k sub : Nat) (hk : k < 5) : key (0x7800 + k) sub ∉ reportEntries := by
  simp only [reportEntries, key, List.mem_cons, List.not_mem_nil, or_false]
  omega

theorem EntriesMoved.pairState {l : List Nat} {s t : State} (h : EntriesMoved l s t) {k : Nat} (hk : k < 5)
    (hl : key (0x7800 + k) 1 ∉ l) : t.pairState k = s.pairState k :=
  h.reg (by omega) (pairKey_notMem_reportEntries k 1 hk) hl

theorem State.pairState_setReg_self (s : State) (k v : Nat) : (s.setReg (0x7800 + k) 1 v).pairState k = v :=
  State.reg_of_find? (Map.find?_put_self _ _ _)

theorem sparePair_spec {s : State} {n : Nat} (h : s.sparePair = some n) : n < 5 ∧ s.pairState n = 3 := by
  refine ⟨?_, by simpa using List.find?_some h⟩
  have hmem : n ∈ pairNos := List.mem_of_find?_eq_some h
  simp only [pairNos, List.mem_cons, List.not_mem_nil, or_false] at hmem
  omega

/-- Which pair is the spare depends on which pairs stand as SPARE. -/
theorem State.sparePair_congr {s t : State} (h : ∀ k < 5, t.pairState k = 3 ↔ s.pairState k = 3) : t.sparePair = s.sparePair := by
  refine List.find?_congr fun k hk => ?_
  have hlt : k < 5 := by
    simp only [pairNos, List.mem_cons, List.not_mem_nil, or_false] at hk
    omega
  exact Bool.eq_iff_iff.mpr (by simpa using h k hlt)

/-- A pair with roles has stopped (R391 step 1). -/
def State.pairStopped (s : State) (k : Nat) : State := ((s.addReg (0x7800 + k) 3 1).setReg (0x7800 + k) 1 2).faultOpen Code.pairMismatch

theorem State.pairStopped_spec (s : State) {k : Nat} (hk : k < 5) :
    EntriesMoved (pairEntries k) s (s.pairStopped k) ∧ (s.pairStopped k).bureau = s.bureau
      ∧ (s.pairStopped k).pairState k = 2 ∧ Counted s (s.pairStopped k) (0x7800 + k) 3 1
      ∧ (s.pairStopped k).hasFault Code.pairMismatch = true := by
  have hset : EntriesMoved (pairEntries k) s ((s.addReg (0x7800 + k) 3 1).setReg (0x7800 + k) 1 2) :=
    (EntriesMoved.addReg s 1 (by simp [pairEntries])).trans (.setReg _ 2 (by simp [pairEntries]))
  have hfault : ∀ l, EntriesMoved l ((s.addReg (0x7800 + k) 3 1).setReg (0x7800 + k) 1 2) (s.pairStopped k) :=
    fun l => .faultOpen l _ _ _
  have hcounted : Counted s ((s.addReg (0x7800 + k) 3 1).setReg (0x7800 + k) 1 2) (0x7800 + k) 3 1 := fun hn =>
    (State.reg_setReg_of_ne _ _ (by unfold key; omega)).trans (s.addReg_counted _ _ _ hn)
  exact ⟨hset.trans (hfault _), (State.faultOpen_reports _ _ _).bureau,
    ((hfault []).pairState hk List.not_mem_nil).trans (State.pairState_setReg_self _ _ _),
    (hfault []).counted hcounted (by omega) (pairKey_notMem_reportEntries k 3 hk) List.not_mem_nil,
    State.faultOpen_hasFault _ _ _⟩

/-- A pair carries no role, and what was active for its roles is pending again (R391 step 2). -/
def State.rolesTaken (s : State) (k mask : Nat) : State :=
  let t := s.unclaimRoles mask
  { t with bureau := { t.bureau with roles := t.bureau.roles.put k 0 } }

theorem State.rolesTaken_spec (s : State) (k mask : Nat) : EntriesMoved [] s (s.rolesTaken k mask)
    ∧ (∀ j, (s.rolesTaken k mask).pairState j = s.pairState j)
    ∧ (∀ idx sub, (s.rolesTaken k mask).reg idx sub = s.reg idx sub)
    ∧ (s.rolesTaken k mask).pairRoles k = 0 ∧ (s.rolesTaken k mask).bureau.level = s.bureau.level :=
  ⟨.bureau _ _ _, fun _ => rfl, fun _ _ => rfl, Map.get_put_self _ _ _ _, rfl⟩

/-- A failed pair before its roles go to another one. -/
def State.pairEmptied (s : State) (k : Nat) : State := (s.pairStopped k).rolesTaken k (s.pairRoles k)

theorem State.pairEmptied_spec (s : State) {k : Nat} (hk : k < 5) :
    EntriesMoved (pairEntries k) s (s.pairEmptied k) ∧ (s.pairEmptied k).pairState k = 2
      ∧ Counted s (s.pairEmptied k) (0x7800 + k) 3 1 ∧ (s.pairEmptied k).hasFault Code.pairMismatch = true
      ∧ (s.pairEmptied k).pairRoles k = 0 ∧ (s.pairEmptied k).bureau.level = s.bureau.level := by
  obtain ⟨hmoved, hbureau, hstate, hcounted, hfault⟩ := s.pairStopped_spec hk
  obtain ⟨kmoved, kstate, kreg, kroles, klevel⟩ := (s.pairStopped k).rolesTaken_spec k (s.pairRoles k)
  exact ⟨hmoved.trans (kmoved.mono (by simp)), (kstate k).trans hstate, fun hn => (kreg _ _).trans (hcounted hn),
    kmoved.faults _ hfault, kroles, klevel.trans (congrArg Bureau.level hbureau)⟩

/-- The other pairs are as they were when a pair is emptied. -/
theorem State.pairEmptied_others (s : State) {k j : Nat} (hk : k < 5) (hj : j < 5) (hne : j ≠ k) :
    (s.pairEmptied k).pairState j = s.pairState j := by
  obtain ⟨hmoved, -⟩ := s.pairEmptied_spec hk
  exact hmoved.pairState hj (by simp only [pairEntries, key, List.mem_cons, List.not_mem_nil, or_false]; omega)

theorem State.pairEmptied_spare (s : State) {k : Nat} (hk : k < 5) (hnot : s.pairState k ≠ 3) :
    (s.pairEmptied k).sparePair = s.sparePair := by
  refine State.sparePair_congr fun j hj => ?_
  by_cases hjk : j = k
  · subst hjk
    have htwo := (s.pairEmptied_spec hk).2.1
    exact ⟨fun h => absurd (htwo.symm.trans h) (by decide), fun h => absurd h hnot⟩
  · rw [s.pairEmptied_others hk hj hjk]

/-! ### Roles move -/

/-- Who carries the roles, and which of them await a takeover. -/
def State.withRoles (s : State) (ro ta : Map Nat) : State := { s with bureau := { s.bureau with roles := ro, takeover := ta } }

theorem State.withRoles_spec (s : State) (ro ta : Map Nat) (l : List Nat) : EntriesMoved l s (s.withRoles ro ta)
    ∧ (∀ idx sub, (s.withRoles ro ta).reg idx sub = s.reg idx sub) ∧ (∀ k, (s.withRoles ro ta).pairRoles k = ro.get k 0)
    ∧ (s.withRoles ro ta).bureau.takeover = ta :=
  ⟨.bureau _ _ _, fun _ _ => rfl, fun _ => rfl, rfl⟩

theorem State.pairRoles_setReg (s : State) (idx sub v k : Nat) : (s.setReg idx sub v).pairRoles k = s.pairRoles k := rfl

/-- Roles that move change only who carries them and what awaits its takeover. -/
theorem State.moveRoles_spec (old new : Nat) (cs : List Nat) (s : State) :
    ∃ ro ta, cs.foldl (fun t c => t.moveRole c old new) s = s.withRoles ro ta
      ∧ (∀ j, j ≠ new → ro.get j 0 = s.pairRoles j)
      ∧ ∀ c, (c ∈ cs → ta.find? c = some (8 * old + new)) ∧ (c ∉ cs → ta.find? c = s.bureau.takeover.find? c) := by
  induction cs generalizing s with
  | nil => exact ⟨s.bureau.roles, s.bureau.takeover, rfl, fun _ _ => rfl, fun c => ⟨fun h => absurd h List.not_mem_nil, fun _ => rfl⟩⟩
  | cons a cs ih =>
    obtain ⟨ro, ta, heq, hroles, htake⟩ := ih (s.moveRole a old new)
    refine ⟨ro, ta, heq, fun j hj => (hroles j hj).trans (Map.get_put_of_ne _ _ _ _ _ hj), fun c => ⟨fun hc => ?_, fun hc => ?_⟩⟩
    · by_cases hmem : c ∈ cs
      · exact (htake c).1 hmem
      · obtain rfl : c = a := (List.mem_cons.mp hc).resolve_right hmem
        exact ((htake c).2 hmem).trans (Map.find?_put_self _ _ _)
    · obtain ⟨hne, hmem⟩ : c ≠ a ∧ c ∉ cs := by simpa using hc
      exact ((htake c).2 hmem).trans (Map.find?_put_of_ne _ _ _ _ hne)

theorem State.pairFails_eq (s : State) (k : Nat) : s.pairFails k = match (s.pairEmptied k).sparePair with
    | some n => (rolesOf (s.pairRoles k)).foldl (fun t c => t.moveRole c k n) ((s.pairEmptied k).setReg (0x7800 + n) 1 0)
    | none =>
      match (s.pairEmptied k).heir k with
      | some n => (rolesOf (s.pairRoles k)).foldl (fun t c => (t.moveRole c k n).faultOpen Code.bureauDegraded true) (s.pairEmptied k)
      | none => (s.pairEmptied k).bureauLost := rfl

/-- The spare takes the roles of a pair that fails. -/
theorem State.pairFails_spare {s : State} {k n : Nat} (hk : k < 5) (hnot : s.pairState k ≠ 3) (hspare : s.sparePair = some n) :
    EntriesMoved [key (0x7800 + k) 1, key (0x7800 + k) 3, key (0x7800 + n) 1] s (s.pairFails k)
      ∧ (s.pairFails k).pairState k = 2 ∧ (s.pairFails k).pairState n = 0 ∧ Counted s (s.pairFails k) (0x7800 + k) 3 1
      ∧ (s.pairFails k).pairRoles k = 0 ∧ (s.pairFails k).hasFault Code.pairMismatch = true
      ∧ ∀ c ∈ rolesOf (s.pairRoles k), (s.pairFails k).bureau.takeover.find? c = some (8 * k + n) := by
  obtain ⟨hn, hthree⟩ := sparePair_spec hspare
  have hne : n ≠ k := fun h => hnot (h ▸ hthree)
  obtain ⟨hmoved, hstate, hcounted, hfault, hroles, -⟩ := s.pairEmptied_spec hk
  obtain ⟨ro, ta, heq, kroles, ktake⟩ :=
    State.moveRoles_spec k n (rolesOf (s.pairRoles k)) ((s.pairEmptied k).setReg (0x7800 + n) 1 0)
  have hpair : s.pairFails k = ((s.pairEmptied k).setReg (0x7800 + n) 1 0).withRoles ro ta := by
    rw [State.pairFails_eq, s.pairEmptied_spare hk hnot, hspare]
    exact heq
  have hset : EntriesMoved [key (0x7800 + k) 1, key (0x7800 + k) 3, key (0x7800 + n) 1] (s.pairEmptied k)
      ((s.pairEmptied k).setReg (0x7800 + n) 1 0) := .setReg _ 0 (by simp)
  obtain ⟨jmoved, jreg, jroles, jtake⟩ := ((s.pairEmptied k).setReg (0x7800 + n) 1 0).withRoles_spec ro ta
    [key (0x7800 + k) 1, key (0x7800 + k) 3, key (0x7800 + n) 1]
  have hkeep : ∀ sub, sub < 256 →
      ((s.pairEmptied k).setReg (0x7800 + n) 1 0).reg (0x7800 + k) sub = (s.pairEmptied k).reg (0x7800 + k) sub := fun sub hsub =>
    State.reg_setReg_of_ne _ _ (by unfold key; omega)
  rw [hpair]
  exact ⟨((hmoved.mono (by simp [pairEntries])).trans hset).trans jmoved,
    (jreg _ _).trans ((hkeep 1 (by decide)).trans hstate), (jreg _ _).trans (State.pairState_setReg_self _ _ _),
    fun hlt => (jreg _ _).trans ((hkeep 3 (by decide)).trans (hcounted hlt)),
    (jroles k).trans ((kroles k hne.symm).trans ((State.pairRoles_setReg _ _ _ _ _).trans hroles)),
    jmoved.faults _ (hset.faults _ hfault), fun c hc => by rw [jtake]; exact (ktake c).1 hc⟩

/-- With no pair left the Bureau is lost. -/
theorem State.pairFails_last {s : State} {k : Nat} (hk : k < 5) (hnot : s.pairState k ≠ 3)
    (hothers : ∀ j < 5, j ≠ k → s.pairState j = 2) : s.pairFails k = (s.pairEmptied k).bureauLost := by
  have hstates : ∀ j ∈ pairNos, s.pairState j ≠ 3 ∧ (j ≠ k → (s.pairEmptied k).pairState j = 2) := fun j hj => by
    have hlt : j < 5 := by
      simp only [pairNos, List.mem_cons, List.not_mem_nil, or_false] at hj
      omega
    refine ⟨fun h3 => ?_, fun hjk => (s.pairEmptied_others hk hlt hjk).trans (hothers j hlt hjk)⟩
    by_cases hjk : j = k
    · exact hnot (hjk ▸ h3)
    · exact absurd ((hothers j hlt hjk).symm.trans h3) (by decide)
  have hspare : s.sparePair = none := List.find?_eq_none.mpr fun j hj => by simpa using (hstates j hj).1
  have hlive : pairNos.filter (fun j => j != k && (s.pairEmptied k).pairState j == 0) = [] :=
    List.filter_eq_nil_iff.mpr fun j hj => by
      by_cases hjk : j = k
      · simp [hjk]
      · simp [(hstates j hj).2 hjk]
  have hheir : (s.pairEmptied k).heir k = none := by
    unfold State.heir
    rw [hlive]
    rfl
  rw [State.pairFails_eq, s.pairEmptied_spare hk hnot, hspare, hheir]

theorem State.bureauLost_spec (s : State) (l : List Nat) : EntriesMoved l s s.bureauLost
    ∧ s.bureauLost.bureau.lost = true ∧ s.bureauLost.hasFault Code.bureauLost = true :=
  ⟨(EntriesMoved.bureau l s _).trans (.faultOpen l _ _ _), (congrArg Bureau.lost (State.faultOpen_reports _ _ _).bureau :),
    State.faultOpen_hasFault _ _ _⟩

/-- Roles that move to a pair that has its own: each is reported (R393). -/
theorem State.moveRoles_degraded (old new : Nat) (l cs : List Nat) (s : State) :
    EntriesMoved l s (cs.foldl (fun t c => (t.moveRole c old new).faultOpen Code.bureauDegraded true) s) := by
  induction cs generalizing s with
  | nil => exact .refl l s
  | cons a cs ih => exact ((EntriesMoved.bureau l s _).trans (.faultOpen l (s.moveRole a old new) _ _)).trans (ih _)

theorem State.spareFails_spec (s : State) {k : Nat} (hk : k < 5) :
    EntriesMoved [key (0x7800 + k) 1] s (s.spareFails k) ∧ (s.spareFails k).pairState k = 2
      ∧ (s.spareFails k).hasFault Code.sparePairFailed = true := by
  have hfault : ∀ l, EntriesMoved l (s.setReg (0x7800 + k) 1 2) (s.spareFails k) := fun l => .faultOpen l _ _ _
  exact ⟨(EntriesMoved.setReg s 2 (by simp)).trans (hfault _),
    ((hfault []).pairState hk List.not_mem_nil).trans (State.pairState_setReg_self _ _ _), State.faultOpen_hasFault _ _ _⟩

/-- Whatever takes its roles, a pair that fails is FAILED, and only entries of pairs move. -/
theorem State.pairFailure_spec (s : State) {k : Nat} (hk : k < 5) :
    EntriesMoved (pairNos.flatMap pairEntries) s (s.pairFailure k) ∧ (s.pairFailure k).pairState k = 2 := by
  have hin : ∀ j < 5, pairEntries j ⊆ pairNos.flatMap pairEntries := by decide
  have hfails : s.pairState k ≠ 3 →
      EntriesMoved (pairNos.flatMap pairEntries) s (s.pairFails k) ∧ (s.pairFails k).pairState k = 2 := fun hnot => by
    obtain ⟨hmoved, hstate, -⟩ := s.pairEmptied_spec hk
    have hrest : EntriesMoved [] (s.pairEmptied k) (s.pairFails k) →
        EntriesMoved (pairNos.flatMap pairEntries) s (s.pairFails k) ∧ (s.pairFails k).pairState k = 2 := fun h =>
      ⟨(hmoved.mono (hin k hk)).trans (h.mono (by simp)), (h.pairState hk List.not_mem_nil).trans hstate⟩
    cases hspare : s.sparePair with
    | some n =>
      obtain ⟨kmoved, kstate, -⟩ := State.pairFails_spare hk hnot hspare
      have hn := (sparePair_spec hspare).1
      refine ⟨kmoved.mono fun q hq => ?_, kstate⟩
      rcases List.mem_cons.mp hq with rfl | hq
      · exact hin k hk (by simp [pairEntries])
      · rcases List.mem_cons.mp hq with rfl | hq
        · exact hin k hk (by simp [pairEntries])
        · obtain rfl := List.mem_singleton.mp hq
          exact hin n hn (by simp [pairEntries])
    | none =>
      have heq := s.pairFails_eq k
      rw [s.pairEmptied_spare hk hnot, hspare] at heq
      cases hheir : (s.pairEmptied k).heir k with
      | some n =>
        rw [hheir] at heq
        exact hrest (heq ▸ State.moveRoles_degraded k n [] _ _)
      | none =>
        rw [hheir] at heq
        exact hrest (heq ▸ ((s.pairEmptied k).bureauLost_spec []).1)
  unfold State.pairFailure
  split
  · obtain ⟨hmoved, hstate, -⟩ := s.spareFails_spec hk
    exact ⟨(hmoved.mono fun q hq => hin k hk (by simp_all [pairEntries])).trans (.raiseSource _ _ _), hstate⟩
  next hnot =>
    obtain ⟨hmoved, hstate⟩ := hfails hnot
    exact ⟨hmoved.trans (.raiseSource _ _ _), hstate⟩

/-! ### Commands about pairs -/

/-- A source that is raised leaves pairs, entries and faults. -/
theorem State.raiseSource_pairs (s : State) (n : Nat) :
    (∀ idx sub, (s.raiseSource n).reg idx sub = s.reg idx sub) ∧ (∀ k, (s.raiseSource n).pairRoles k = s.pairRoles k)
      ∧ (s.raiseSource n).bureau.takeover = s.bureau.takeover ∧ (s.raiseSource n).bureau.lost = s.bureau.lost
      ∧ ∀ c, (s.raiseSource n).hasFault c = s.hasFault c :=
  ⟨fun _ _ => rfl, fun _ => rfl, rfl, rfl, fun _ => rfl⟩

section PairFail

variable {s : State} {k : Fin 5} (hruns : s.pairState k.val ≠ 2) (hroles : s.pairState k.val ≠ 3)

include hruns hroles

theorem pairFail_eq : exec (.pairFail k) s = .next ((s.fresh.pairFails k.val).raiseSource 101) := by
  show execPairFail k s = _
  rw [execPairFail, if_neg hruns, State.pairFailure, if_neg (show ¬ s.fresh.pairState k.val = 3 from hroles)]

theorem pairFail_toSpare {n : Nat} (hspare : s.sparePair = some n) :
    ∃ t, exec (.pairFail k) s = .next t ∧ DataKept s t ∧ t.pairState k.val = 2 ∧ t.pairState n = 0
      ∧ Counted s t (0x7800 + k.val) 3 1 ∧ t.pairRoles k.val = 0 ∧ t.hasFault Code.pairMismatch = true ∧ t.irqLevel 101 = true
      ∧ (∀ c ∈ rolesOf (s.pairRoles k.val), t.bureau.takeover.find? c = some (8 * k.val + n))
      ∧ RegsKept s t [key (0x7800 + k.val) 1, key (0x7800 + k.val) 3, key (0x7800 + n) 1] := by
  obtain ⟨hmoved, hstate, hspares, hcounted, hnone, hfault, htake⟩ := State.pairFails_spare (s := s.fresh) k.isLt hroles hspare
  have hall := ((EntriesMoved.fresh _ s).trans hmoved).trans (.raiseSource _ _ 101)
  obtain ⟨kreg, kroles, ktake, -, kfault⟩ := (s.fresh.pairFails k.val).raiseSource_pairs 101
  exact ⟨_, pairFail_eq hruns hroles, hall.data, (kreg _ _).trans hstate, (kreg _ _).trans hspares,
    fun hn => (kreg _ _).trans (hcounted hn), (kroles _).trans hnone, (kfault _).trans hfault,
    State.raiseSource_irqLevel _ (by decide), fun c hc => by rw [ktake]; exact htake c hc, hall.regs⟩

theorem pairFail_last (hothers : ∀ j < 5, j ≠ k.val → s.pairState j = 2) :
    ∃ t, exec (.pairFail k) s = .next t ∧ DataKept s t ∧ t.pairState k.val = 2 ∧ t.bureau.lost = true
      ∧ t.hasFault Code.bureauLost = true := by
  have hexec := pairFail_eq hruns hroles
  rw [State.pairFails_last (s := s.fresh) k.isLt hroles hothers] at hexec
  obtain ⟨hmoved, hstate, -⟩ := s.fresh.pairEmptied_spec k.isLt
  obtain ⟨kmoved, hlost, hfault⟩ := (s.fresh.pairEmptied k.val).bureauLost_spec []
  obtain ⟨jreg, -, -, jlost, jfault⟩ := (s.fresh.pairEmptied k.val).bureauLost.raiseSource_pairs 101
  have hall := (((EntriesMoved.fresh _ s).trans hmoved).trans (kmoved.mono (by simp))).trans (.raiseSource _ _ 101)
  exact ⟨_, hexec, hall.data, (jreg _ _).trans ((kmoved.pairState k.isLt List.not_mem_nil).trans hstate), jlost.trans hlost,
    (jfault _).trans hfault⟩

end PairFail

/-- A takeover is recorded, and its role awaits none any more. -/
theorem pairTakeoverComplete_spec {s : State} {c : Fin 4} {v : Nat} (htake : s.bureau.takeover.find? c.val = some v) :
    ∃ t, exec (.pairTakeoverComplete c) s = .next t ∧ DataKept s t ∧ Counted s t 0x7805 0 1
      ∧ t.bureau = { s.bureau with takeover := s.bureau.takeover.del c.val, level := t.bureau.level, since := t.bureau.since }
      ∧ t.irqLevel 101 = true ∧ RegsKept s t [key 0x7805 0] := by
  have hexec : exec (.pairTakeoverComplete c) s = .next (((({ s.fresh with
      bureau := { s.bureau with takeover := s.bureau.takeover.del c.val } } : State).addReg 0x7805 0 1).note Code.pairTakeover
        [c.val, v / 8, v % 8]).raiseSource 101) := by
    show execPairTakeoverComplete c s = _
    unfold execPairTakeoverComplete
    rw [htake]
  generalize hu : ({ s.fresh with bureau := { s.bureau with takeover := s.bureau.takeover.del c.val } } : State) = u at hexec
  have hstart : EntriesMoved [key 0x7805 0] s u := hu ▸ (EntriesMoved.fresh _ s).trans (.bureau _ _ _)
  have hnote : ∀ l, EntriesMoved l (u.addReg 0x7805 0 1) ((u.addReg 0x7805 0 1).note Code.pairTakeover [c.val, v / 8, v % 8]) :=
    fun l => .note l _ _ _
  have hcounted := (u.addReg_counted 0x7805 0 1).of_reg (s := s) (hu ▸ rfl)
  have hbureau : ((u.addReg 0x7805 0 1).note Code.pairTakeover [c.val, v / 8, v % 8]).bureau
      = { s.bureau with takeover := s.bureau.takeover.del c.val } :=
    (State.note_reports _ _ _).bureau.trans (hu ▸ rfl)
  have hall := ((hstart.trans (.addReg u 1 (by simp))).trans (hnote _)).trans (.raiseSource _ _ 101)
  refine ⟨_, hexec, hall.data, (hnote []).counted hcounted (by decide) (by decide) List.not_mem_nil, ?_,
    State.raiseSource_irqLevel _ (by decide), hall.regs⟩
  rw [State.raiseSource, hbureau]

theorem spareSelfTest_spec {s : State} {k : Nat} (hspare : s.sparePair = some k) :
    exec (.spareSelfTest true) s = .next { s with out := [] }
    ∧ ∃ t, exec (.spareSelfTest false) s = .next t ∧ DataKept s t ∧ t.pairState k = 2
      ∧ t.hasFault Code.sparePairFailed = true ∧ t.irqLevel 101 = true ∧ RegsKept s t [key (0x7800 + k) 1] := by
  have hexec : ∀ passed, exec (.spareSelfTest passed) s
      = .next (if passed then s.fresh else (s.fresh.spareFails k).raiseSource 101) := fun passed => by
    show execSpareSelfTest passed s = _
    rw [execSpareSelfTest, hspare]
  obtain ⟨hmoved, hstate, hfault⟩ := s.fresh.spareFails_spec (sparePair_spec hspare).1
  have hall := ((EntriesMoved.fresh _ s).trans hmoved).trans (.raiseSource _ _ 101)
  exact ⟨hexec true, _, hexec false, hall.data, hstate, hfault, State.raiseSource_irqLevel _ (by decide), hall.regs⟩

/-! ### SRAM (R394, R395) -/

/-- A repair with a spare left: the row or column is used, counted and noted. -/
def State.sramUsed (s : State) (array : Nat) (column : Bool) : State :=
  if column then
    ({ s with bureau := { s.bureau with sparesCol := s.bureau.sparesCol.put array (s.bureau.sparesCol.get array 0 + 1) } }.addReg
      0x7806 2 1).note Code.sramColumnRepaired [array]
  else
    ({ s with bureau := { s.bureau with sparesRow := s.bureau.sparesRow.put array (s.bureau.sparesRow.get array 0 + 1) } }.addReg
      0x7806 1 1).note Code.sramRowRepaired [array]

theorem State.sramUsed_spec (s : State) (array : Nat) (column : Bool) :
    EntriesMoved [key 0x7806 (if column then 2 else 1)] s (s.sramUsed array column)
      ∧ Counted s (s.sramUsed array column) 0x7806 (if column then 2 else 1) 1
      ∧ (if column then (s.sramUsed array column).bureau.sparesCol.get array 0 = s.bureau.sparesCol.get array 0 + 1
          else (s.sramUsed array column).bureau.sparesRow.get array 0 = s.bureau.sparesRow.get array 0 + 1) := by
  have hused : ∀ (b : Bureau) (sub code : Nat), key 0x7806 sub ∉ reportEntries →
      EntriesMoved [key 0x7806 sub] s ((({ s with bureau := b } : State).addReg 0x7806 sub 1).note code [array])
        ∧ Counted s ((({ s with bureau := b } : State).addReg 0x7806 sub 1).note code [array]) 0x7806 sub 1
        ∧ ((({ s with bureau := b } : State).addReg 0x7806 sub 1).note code [array]).bureau = b := fun b sub code hr => by
    have hnote : ∀ l, EntriesMoved l (({ s with bureau := b } : State).addReg 0x7806 sub 1)
        ((({ s with bureau := b } : State).addReg 0x7806 sub 1).note code [array]) := fun l => .note l _ _ _
    exact ⟨((EntriesMoved.bureau _ s b).trans (.addReg _ 1 (by simp))).trans (hnote _),
      (hnote []).counted (State.addReg_counted _ _ _ _) (by decide) hr List.not_mem_nil, (State.note_reports _ _ _).bureau⟩
  cases column with
  | true =>
    obtain ⟨hmoved, hcounted, hbureau⟩ := hused _ 2 Code.sramColumnRepaired (by decide)
    exact ⟨hmoved, hcounted, (congrArg (fun b : Bureau => b.sparesCol.get array 0) hbureau).trans (Map.get_put_self _ _ _ _)⟩
  | false =>
    obtain ⟨hmoved, hcounted, hbureau⟩ := hused _ 1 Code.sramRowRepaired (by decide)
    exact ⟨hmoved, hcounted, (congrArg (fun b : Bureau => b.sparesRow.get array 0) hbureau).trans (Map.get_put_self _ _ _ _)⟩

theorem State.raiseSource_spares (s : State) (n : Nat) : (s.raiseSource n).bureau.sparesCol = s.bureau.sparesCol
    ∧ (s.raiseSource n).bureau.sparesRow = s.bureau.sparesRow := ⟨rfl, rfl⟩

/-- A repair uses a spare row or column while one is left, and reports when none is. -/
theorem State.sramRepair_eq (s : State) (array : Nat) (column : Bool) : s.sramRepair array column =
    if (if column then 4 else 8) ≤ (if column then s.bureau.sparesCol else s.bureau.sparesRow).get array 0 then
      s.faultOpen Code.sramSparesExhausted true else s.sramUsed array column := by
  unfold State.sramRepair State.sramUsed
  refine if_congr Iff.rfl rfl ?_
  cases column <;> simp only [Bool.false_eq_true, if_false, if_true]

theorem sramRepair_eq {s : State} {array : Nat} (harray : array < 512) (column : Bool) :
    exec (.sramRepair array column) s = .next
      ((if (if column then 4 else 8) ≤ (if column then s.bureau.sparesCol else s.bureau.sparesRow).get array 0 then
        s.fresh.faultOpen Code.sramSparesExhausted true else s.fresh.sramUsed array column).raiseSource 102) := by
  show execSramRepair array column s = _
  rw [execSramRepair, if_pos harray, State.sramRepair_eq]
  rfl

section Repair

variable {s : State} {array : Nat} (harray : array < 512) {column : Bool}

include harray

theorem sramRepair_repaired
    (hspare : if column then s.bureau.sparesCol.get array 0 < 4 else s.bureau.sparesRow.get array 0 < 8) :
    ∃ t, exec (.sramRepair array column) s = .next t ∧ DataKept s t ∧ Counted s t 0x7806 (if column then 2 else 1) 1
      ∧ (if column then t.bureau.sparesCol.get array 0 = s.bureau.sparesCol.get array 0 + 1
          else t.bureau.sparesRow.get array 0 = s.bureau.sparesRow.get array 0 + 1)
      ∧ RegsKept s t [key 0x7806 (if column then 2 else 1)] := by
  have hleft : ¬ (if column then 4 else 8) ≤ (if column then s.bureau.sparesCol else s.bureau.sparesRow).get array 0 := by
    cases column with
    | true => exact not_le.mpr hspare
    | false => exact not_le.mpr hspare
  have hexec := sramRepair_eq (s := s) harray column
  rw [if_neg hleft] at hexec
  obtain ⟨hmoved, hcounted, hspares⟩ := s.fresh.sramUsed_spec array column
  obtain ⟨hcol, hrow⟩ := (s.fresh.sramUsed array column).raiseSource_spares 102
  obtain ⟨hreg, -⟩ := (s.fresh.sramUsed array column).raiseSource_pairs 102
  have hall := ((EntriesMoved.fresh _ s).trans hmoved).trans (.raiseSource _ _ 102)
  refine ⟨_, hexec, hall.data, fun hn => (hreg _ _).trans (hcounted hn), ?_, hall.regs⟩
  rw [hcol, hrow]
  exact hspares

theorem sramRepair_exhausted
    (hnone : if column then 4 ≤ s.bureau.sparesCol.get array 0 else 8 ≤ s.bureau.sparesRow.get array 0) :
    ∃ t, exec (.sramRepair array column) s = .next t ∧ SameButReports { s with out := [], bureau := t.bureau } t
      ∧ t.irqLevel 102 = true ∧ t.hasFault Code.sramSparesExhausted = true := by
  have hused : (if column then 4 else 8) ≤ (if column then s.bureau.sparesCol else s.bureau.sparesRow).get array 0 := by
    cases column with
    | true => exact hnone
    | false => exact hnone
  have hexec := sramRepair_eq (s := s) harray column
  rw [if_pos hused] at hexec
  obtain ⟨-, -, -, -, hfault⟩ := (s.fresh.faultOpen Code.sramSparesExhausted true).raiseSource_pairs 102
  exact ⟨_, hexec, (s.fresh.faultOpen_reports _ _).bureau_both _, State.raiseSource_irqLevel _ (by decide),
    (hfault _).trans (State.faultOpen_hasFault _ _ _)⟩

end Repair

/-- An uncorrectable word has been counted and reported. -/
def State.sramStruck (s : State) : State := (s.fresh.addReg 0x7806 5 1).faultOpen Code.sramUe

theorem exec_sramUe (s : State) (owner : SramOwner) : exec (.sramUe owner) s = .next (s.sramStruck.sramRecover owner) := rfl

theorem State.sramStruck_spec (s : State) : EntriesMoved [key 0x7806 5] s s.sramStruck ∧ Counted s s.sramStruck 0x7806 5 1
    ∧ s.sramStruck.hasFault Code.sramUe = true ∧ SameButReports (s.fresh.addReg 0x7806 5 1) s.sramStruck := by
  have hfault : ∀ l, EntriesMoved l (s.fresh.addReg 0x7806 5 1) s.sramStruck := fun l => .faultOpen l _ _ _
  exact ⟨((EntriesMoved.fresh _ s).trans (.addReg _ 1 (by simp))).trans (hfault _),
    (hfault []).counted (State.addReg_counted _ _ _ _) (by decide) (by decide) List.not_mem_nil,
    State.faultOpen_hasFault _ _ _, State.faultOpen_reports _ _ _⟩

/-- A word whose owner keeps a copy elsewhere is recovered with nothing else moved. -/
theorem sramUe_copied {s : State} {o : SramOwner}
    (ho : o = .groupTable ∨ o = .claimCache ∨ o = .longcaseTables ∨ o = .chestRing) :
    ∃ t, exec (.sramUe o) s = .next t ∧ DataKept s t ∧ Counted s t 0x7806 5 1 ∧ t.hasFault Code.sramUe = true
      ∧ RegsKept s t [key 0x7806 5] := by
  obtain ⟨hmoved, hcounted, hfault, -⟩ := s.sramStruck_spec
  have hrecover : s.sramStruck.sramRecover o = s.sramStruck := by rcases ho with rfl | rfl | rfl | rfl <;> rfl
  exact ⟨_, (exec_sramUe s o).trans (by rw [hrecover]), hmoved.data, hcounted, hfault, hmoved.regs⟩

/-- HEAT of a bundle starts anew. -/
def State.heatCleared (s : State) (b : Nat) : State :=
  { s with heat := Map.put s.heat b { old := false, last := s.nowMs % 32768, heat := 0 } }

theorem State.heatCleared_spec (s : State) (b : Nat) : DataKept s (s.heatCleared b) ∧ (s.heatCleared b).regs = s.regs
    ∧ (∀ idx sub, (s.heatCleared b).reg idx sub = s.reg idx sub) ∧ (∀ c, (s.heatCleared b).hasFault c = s.hasFault c)
    ∧ (s.heatCleared b).heat.find? b = some { old := false, last := s.nowMs % 32768, heat := 0 } :=
  ⟨⟨rfl, rfl, rfl, rfl, rfl, rfl⟩, rfl, fun _ _ => rfl, fun _ => rfl, Map.find?_put_self _ _ _⟩

theorem sramUe_heat (s : State) (b : Nat) :
    ∃ t, exec (.sramUe (.heat [b])) s = .next t ∧ DataKept s t ∧ Counted s t 0x7806 5 1
      ∧ t.hasFault Code.sramUe = true ∧ RegsKept s t [key 0x7806 5]
      ∧ t.heat.find? b = some { old := false, last := s.nowMs % 32768, heat := 0 } := by
  obtain ⟨hmoved, hcounted, hfault, -⟩ := s.sramStruck_spec
  obtain ⟨kdata, kregs, kreg, kfault, kheat⟩ := s.sramStruck.heatCleared_spec b
  obtain ⟨-, -, -, -, -, hclock⟩ := hmoved.data
  have hnow : s.sramStruck.nowMs = s.nowMs := congrArg (fun c : Clock => c.devNs / 1000000) hclock
  rw [hnow] at kheat
  exact ⟨_, exec_sramUe s _, hmoved.data.trans kdata, fun hn => (kreg _ _).trans (hcounted hn), (kfault _).trans hfault,
    fun k hr hw hk => (congrArg (Map.find? · k) kregs).trans (hmoved.regs k hr hw hk), kheat⟩

/-- A leaf's word is loaded again from the delta log (Table 16.2). -/
theorem State.reloadLeaves_congr {s t : State} (hdelta : t.delta = s.delta) (hgroups : t.groups = s.groups) :
    t.reloadLeaves = s.reloadLeaves := by
  unfold State.reloadLeaves
  rw [hdelta, hgroups]

/-- A leaf takes another state in the table. -/
def State.leafReloaded (s : State) (l : Nat) (x : LeafState) : State := { s with leaves := s.leaves.set l x }

theorem State.leafReloaded_spec (s : State) (l : Nat) (x : LeafState) : (s.leafReloaded l x).mem = s.mem
    ∧ (s.leafReloaded l x).groups = s.groups ∧ (s.leafReloaded l x).leaves = s.leaves.set l x
    ∧ (s.leafReloaded l x).regs = s.regs ∧ (∀ idx sub, (s.leafReloaded l x).reg idx sub = s.reg idx sub)
    ∧ ∀ c, (s.leafReloaded l x).hasFault c = s.hasFault c :=
  ⟨rfl, rfl, rfl, rfl, fun _ _ => rfl, fun _ => rfl⟩

theorem State.reloadLeaf_eq {s : State} {l : Nat} (hrestoring : s.leaf l ≠ .restoring) (hcopying : s.leaf l ≠ .copying)
    (t : LeafTable) : s.reloadLeaf t l = s.leafReloaded l (t.get l) := by
  unfold State.reloadLeaf
  rw [if_neg hrestoring, if_neg hcopying]
  rfl

theorem sramUe_leaf {s : State} {l : Nat} (hrestoring : s.leaf l ≠ .restoring) (hcopying : s.leaf l ≠ .copying) :
    ∃ t, exec (.sramUe (.leafTable [l])) s = .next t ∧ t.mem = s.mem ∧ t.groups = s.groups
      ∧ t.leaves = s.leaves.set l (s.reloadLeaves.get l) ∧ Counted s t 0x7806 5 1
      ∧ t.hasFault Code.sramUe = true ∧ RegsKept s t [key 0x7806 5] := by
  obtain ⟨hmoved, hcounted, hfault, hreports⟩ := s.sramStruck_spec
  obtain ⟨hmem, -, hleaves, hgroups, -⟩ := hmoved.data
  have hleaf : s.sramStruck.leaf l = s.leaf l := congrArg (fun t : LeafTable => t.get l) hleaves
  have hdelta : s.sramStruck.delta = s.delta := by
    rw [hreports.1]
    rfl
  have hexec : exec (.sramUe (.leafTable [l])) s = .next (s.sramStruck.leafReloaded l (s.reloadLeaves.get l)) := by
    rw [← State.reloadLeaves_congr hdelta hgroups, ← State.reloadLeaf_eq (hleaf ▸ hrestoring) (hleaf ▸ hcopying)]
    exact exec_sramUe s _
  obtain ⟨kmem, kgroups, kleaves, kregs, kreg, kfault⟩ := s.sramStruck.leafReloaded_spec l (s.reloadLeaves.get l)
  exact ⟨_, hexec, kmem.trans hmem, kgroups.trans hgroups, kleaves.trans (by rw [hleaves]),
    fun hn => (kreg _ _).trans (hcounted hn), (kfault _).trans hfault,
    fun k hr hw hk => (congrArg (Map.find? · k) kregs).trans (hmoved.regs k hr hw hk)⟩

/-- An uncorrectable word of a pair's memory fails the pair. -/
theorem sramUe_bureau {s : State} {k : Fin 5} (hruns : s.pairState k.val ≠ 2) :
    ∃ t, exec (.sramUe (.bureau k)) s = .next t ∧ DataKept s t
      ∧ t.pairState k.val = 2 ∧ Counted s t 0x7806 5 1 ∧ t.hasFault Code.sramUe = true := by
  obtain ⟨hmoved, hcounted, hfault, -⟩ := s.sramStruck_spec
  have hstate : s.sramStruck.pairState k.val = s.pairState k.val :=
    hmoved.pairState k.isLt (by simp only [key, List.mem_singleton]; omega)
  obtain ⟨kmoved, kstate⟩ := s.sramStruck.pairFailure_spec k.isLt
  have hexec : exec (.sramUe (.bureau k)) s = .next (s.sramStruck.pairFailure k.val) :=
    (exec_sramUe s _).trans (congrArg Host.Outcome.next (if_neg (hstate ▸ hruns)))
  exact ⟨_, hexec, hmoved.data.trans kmoved.data, kstate, kmoved.counted hcounted (by decide) (by decide) (by decide),
    kmoved.faults _ hfault⟩

end Sys2Proof.Machine
end

section
/-! PROOFS. The interrupt controller (R396, R397), and the obligation on the Chest, the injectors and the Bureau. -/

namespace Sys2Proof.Machine

/-! ### Lines -/

/-- A pending source of a role raises its line where the pair is idle or the source is at priority 15 (R397). -/
theorem State.irqLine_of_pending {s : State} {n : Nat} (hmem : n ∈ s.irqSources) (hpending : s.irqPending n = true)
    (hnow : s.roleIdle (s.irqRole n) = true ∨ s.irqPriority n = 15) : s.irqLine (s.irqRole n) = true := by
  unfold State.irqLine
  rw [Bool.or_eq_true, List.any_eq_true]
  refine .inr ⟨n, hmem, ?_⟩
  rcases hnow with h | h <;> simp [hpending, h]

/-- A source that a condition derives is one whose level may be high; any other is once it is raised. -/
theorem State.mem_irqSources_of_derived (s : State) {n : Nat} (h : irqDerived n = true) : n ∈ s.irqSources := by
  have hn : n < 17 ∨ n = 48 ∨ n = 49 ∨ n = 53 ∨ n = 54 := by simpa [irqDerived] using h
  unfold State.irqSources
  rcases hn with h | rfl | rfl | rfl | rfl
  · exact List.mem_append_left _ (List.mem_append_left _ (List.mem_range.mpr h))
  all_goals exact List.mem_append_left _ (List.mem_append_right _ (by decide))

theorem State.mem_irqSources_of_level {s : State} {n : Nat} (h : n ∈ s.bureau.level) : n ∈ s.irqSources :=
  List.mem_append_right _ h

theorem State.raiseSource_mem (s : State) {n : Nat} (h : irqDerived n = false) : n ∈ (s.raiseSource n).bureau.level := by
  have hlevel := s.raiseSource_irqLevel h
  rw [State.irqLevel_of_kept _ h] at hlevel
  exact List.contains_iff_mem.mp hlevel

/-- What decides whether a role is idle, and the role and priority of a source, stay as a source is raised. -/
theorem State.raiseSource_idle (s : State) (n : Nat) : (s.raiseSource n).bureau.active = s.bureau.active
    ∧ (∀ c, (s.raiseSource n).roleIdle c = s.roleIdle c) ∧ (∀ m, (s.raiseSource n).irqRole m = s.irqRole m)
    ∧ ∀ m, (s.raiseSource n).irqPriority m = s.irqPriority m :=
  ⟨rfl, fun _ => rfl, fun _ => rfl, fun _ => rfl⟩

theorem irqSourceRaise_spec {s : State} {n : Fin 512} (hreserved : irqReserved n.val = false) :
    ∃ t, exec (.irqSourceRaise n) s = .next t ∧ t = { s with out := [], bureau := t.bureau }
      ∧ (irqDerived n.val = false → n.val ∈ t.bureau.level)
      ∧ t.bureau.active = s.bureau.active
      ∧ (t.irqPending n.val = true → s.roleIdle (s.irqRole n.val) = true ∨ s.irqPriority n.val = 15 →
          t.irqLine (s.irqRole n.val) = true) := by
  have hexec : exec (.irqSourceRaise n) s = .next (s.fresh.raiseSource n.val) :=
    congrArg Host.Outcome.next (if_neg (by simp [hreserved]))
  obtain ⟨hactive, hidle, hrole, hpriority⟩ := s.fresh.raiseSource_idle n.val
  have hmem : n.val ∈ (s.fresh.raiseSource n.val).irqSources := by
    cases hderived : irqDerived n.val with
    | true => exact State.mem_irqSources_of_derived _ hderived
    | false => exact State.mem_irqSources_of_level (s.fresh.raiseSource_mem hderived)
  refine ⟨_, hexec, rfl, s.fresh.raiseSource_mem, hactive, fun hpending hnow => ?_⟩
  have hline := State.irqLine_of_pending hmem hpending (by rw [hrole, hidle, hpriority]; exact hnow)
  rw [hrole] at hline
  exact hline

/-! ### Claims -/

/-- The better of two sources: of higher priority, or of a lower number at the same one. -/
def State.betterSource (s : State) (best : Option Nat) (n : Nat) : Option Nat :=
  match best with
  | none => some n
  | some m => if s.irqPriority m < s.irqPriority n ∨ (s.irqPriority m = s.irqPriority n ∧ n < m) then some n else some m

/-- One source goes before another. -/
def State.goesBefore (s : State) (n m : Nat) : Prop :=
  s.irqPriority m < s.irqPriority n ∨ (s.irqPriority m = s.irqPriority n ∧ n ≤ m)

theorem State.goesBefore_trans {s : State} {a b c : Nat} (h : s.goesBefore a b) (k : s.goesBefore b c) : s.goesBefore a c := by
  unfold State.goesBefore at *
  omega

/-- The better of two sources is one of them and goes before both. -/
theorem State.betterSource_spec (s : State) (best : Option Nat) (n : Nat) :
    ∃ m, s.betterSource best n = some m ∧ (m = n ∨ best = some m) ∧ s.goesBefore m n
      ∧ ∀ b, best = some b → s.goesBefore m b := by
  cases best with
  | none => exact ⟨n, rfl, .inl rfl, .inr ⟨rfl, le_rfl⟩, fun b hb => absurd hb (by simp)⟩
  | some b =>
    unfold State.betterSource
    dsimp only
    split
    next hbetter =>
      refine ⟨n, rfl, .inl rfl, .inr ⟨rfl, le_rfl⟩, fun c hc => ?_⟩
      obtain rfl := Option.some.inj hc
      unfold State.goesBefore
      omega
    next hworse =>
      refine ⟨b, rfl, .inr rfl, ?_, fun c hc => ?_⟩
      · unfold State.goesBefore
        omega
      · obtain rfl := Option.some.inj hc
        exact .inr ⟨rfl, le_rfl⟩

/-- The best of a list is one of it, and goes before all of it. -/
theorem State.foldl_betterSource (s : State) (l : List Nat) (best : Option Nat) {n : Nat}
    (h : l.foldl s.betterSource best = some n) :
    (n ∈ l ∨ best = some n) ∧ (∀ m ∈ l, s.goesBefore n m) ∧ ∀ b, best = some b → s.goesBefore n b := by
  induction l generalizing best with
  | nil =>
    refine ⟨.inr h, fun m hm => absurd hm List.not_mem_nil, fun b hb => ?_⟩
    obtain rfl := Option.some.inj (hb.symm.trans h)
    exact .inr ⟨rfl, le_rfl⟩
  | cons a l ih =>
    obtain ⟨m, hm, hof, hbefore, hbest⟩ := s.betterSource_spec best a
    obtain ⟨hmem, hall, hfirst⟩ := ih (s.betterSource best a) h
    have hnm : s.goesBefore n m := hfirst m hm
    refine ⟨?_, fun x hx => ?_, fun b hb => State.goesBefore_trans hnm (hbest b hb)⟩
    · rcases hmem with hin | heq
      · exact .inl (List.mem_cons_of_mem _ hin)
      · obtain rfl := Option.some.inj (hm.symm.trans heq)
        exact hof.imp (fun e => List.mem_cons.mpr (.inl e)) id
    · rcases List.mem_cons.mp hx with rfl | hin
      · exact State.goesBefore_trans hnm hbefore
      · exact hall x hin

theorem State.claimSource_eq (s : State) (roles : List Nat) : s.claimSource roles = (s.irqSources.filter fun n =>
    s.irqPending n && roles.contains (s.irqRole n) && decide (s.claimThreshold roles < s.irqPriority n)).foldl
      s.betterSource none := rfl

/-- A claim returns the pending source of its roles that goes before the others, from above their threshold. -/
theorem State.claimSource_spec {s : State} {roles : List Nat} {n : Nat} (h : s.claimSource roles = some n) :
    s.irqPending n = true ∧ s.irqRole n ∈ roles ∧ s.claimThreshold roles < s.irqPriority n
      ∧ ∀ m ∈ s.irqSources, s.irqPending m = true → s.irqRole m ∈ roles →
          s.irqPriority m < s.irqPriority n ∨ (s.irqPriority m = s.irqPriority n ∧ n ≤ m) := by
  rw [State.claimSource_eq] at h
  obtain ⟨hmem, hall, -⟩ := s.foldl_betterSource _ none h
  have hn := (List.mem_filter.mp (hmem.resolve_right (by simp))).2
  obtain ⟨⟨hpending, hrole⟩, habove⟩ : (s.irqPending n = true ∧ s.irqRole n ∈ roles)
      ∧ s.claimThreshold roles < s.irqPriority n := by simpa using hn
  refine ⟨hpending, hrole, habove, fun m hm hmp hmr => ?_⟩
  by_cases hlow : s.claimThreshold roles < s.irqPriority m
  · exact hall m (List.mem_filter.mpr ⟨hm, by simp [hmp, hmr, hlow]⟩)
  · exact .inl (by omega)

/-- The state after a claim of a source. -/
def State.claimed (s : State) (c n : Nat) : State :=
  (({ s with bureau := { s.bureau with
      active := s.bureau.active.put n (s.irqRole n), since := s.bureau.since.del n
      line := s.bureau.line.filter fun r => !(s.claimRoles c).contains r } } : State).addReg (0x7821 + c) 2 1).emit
    (.claimed (n + 2 ^ 31))

theorem State.claimed_spec (s : State) (c n : Nat) : DataKept s (s.claimed c n)
    ∧ (s.claimed c n).out = s.out ++ [.claimed (n + 2 ^ 31)] ∧ (s.claimed c n).bureau.active.find? n = some (s.irqRole n)
    ∧ (s.claimed c n).irqPending n = false ∧ Counted s (s.claimed c n) (0x7821 + c) 2 1
    ∧ RegsKept s (s.claimed c n) [key (0x7821 + c) 2] := by
  have hactive : (s.claimed c n).bureau.active.find? n = some (s.irqRole n) := Map.find?_put_self _ _ _
  refine ⟨⟨rfl, rfl, rfl, rfl, rfl, rfl⟩, rfl, hactive, ?_, s.addReg_counted _ _ _,
    (RegsKept.of_regs (t := s) rfl _).put (List.mem_singleton_self _) _ rfl⟩
  rw [State.irqPending, hactive]
  exact Bool.and_false _

theorem irqClaim_none {s : State} {c : Fin 4} (hroles : s.claimRoles c.val ≠ []) (h : s.claimSource (s.claimRoles c.val) = none) :
    exec (.irqClaim c) s = .next { s with out := [.claimed 0] } := by
  show execIrqClaim c s = _
  unfold execIrqClaim
  refine congrArg Host.Outcome.next ((if_neg hroles).trans ?_)
  rw [h]
  rfl

theorem irqClaim_some {s : State} {c : Fin 4} (hroles : s.claimRoles c.val ≠ []) {n : Nat}
    (h : s.claimSource (s.claimRoles c.val) = some n) :
    ∃ t, exec (.irqClaim c) s = .next t ∧ DataKept s t ∧ t.out = [.claimed (n + 2 ^ 31)]
      ∧ t.bureau.active.find? n = some (s.irqRole n) ∧ t.irqPending n = false
      ∧ Counted s t (0x7821 + c.val) 2 1 ∧ RegsKept s t [key (0x7821 + c.val) 2] := by
  have hexec : exec (.irqClaim c) s = .next (s.fresh.claimed c.val n) := by
    show execIrqClaim c s = _
    unfold execIrqClaim
    refine congrArg Host.Outcome.next ((if_neg hroles).trans ?_)
    rw [h]
    rfl
  obtain ⟨hdata, hout, hactive, hpending, hcounted, hregs⟩ := s.fresh.claimed_spec c.val n
  exact ⟨_, hexec, hdata, hout, hactive, hpending, hcounted, hregs⟩

/-! ### Completions -/

/-- The state after a completion: the source is active no more, and its level may have ended. -/
def State.completed (s : State) (n : Nat) : State :=
  { s.fresh.drawn with bureau := { s.bureau with
    active := s.bureau.active.del n, since := s.bureau.since.put n s.clock.beat
    level := if Config.free s.free % 2 = 1 then s.bureau.level.filter fun m => m != n else s.bureau.level } }

theorem irqComplete_spec {s : State} {c : Fin 4} {n r : Nat} (hactive : s.bureau.active.find? n = some r)
    (hrole : r ∈ s.claimRoles c.val) :
    ∃ t, exec (.irqComplete c n) s = .next t ∧ DataKept s t ∧ t.regs = s.regs
      ∧ t.bureau.active = s.bureau.active.del n ∧ (t.irqPending n = true → n ∈ t.irqSources →
          t.roleIdle (t.irqRole n) = true → t.irqLine (t.irqRole n) = true) := by
  have hexec : exec (.irqComplete c n) s = .next (s.completed n) := by
    show execIrqComplete c n s = _
    unfold execIrqComplete
    dsimp only
    rw [hactive]
    exact congrArg Host.Outcome.next (if_pos (List.contains_iff_mem.mpr hrole))
  exact ⟨_, hexec, ⟨rfl, rfl, rfl, rfl, rfl, rfl⟩, rfl, rfl,
    fun hpending hmem hidle => State.irqLine_of_pending hmem hpending (.inl hidle)⟩

/-- A completion of a source that no role of the pair holds is counted as an error. -/
theorem irqComplete_wrong {s : State} {c : Fin 4} {n : Nat}
    (h : ∀ r, s.bureau.active.find? n = some r → r ∉ s.claimRoles c.val) :
    exec (.irqComplete c n) s = .next (({ s with out := [] } : State).addReg (0x7821 + c.val) 4 1) := by
  show execIrqComplete c n s = _
  unfold execIrqComplete
  dsimp only
  cases hactive : s.bureau.active.find? n with
  | none => rfl
  | some r => exact congrArg Host.Outcome.next (if_neg (by simpa using h r hactive))

/-! ### Moderation -/

/-- Lines raised for sources: those raised before stay, and each source's role has one. -/
theorem State.foldl_raiseLine (l : List Nat) (s : State) :
    ∃ line, l.foldl (fun t n => t.raiseLine (t.irqRole n)) s = { s with bureau := { s.bureau with line := line } }
      ∧ (∀ c ∈ s.bureau.line, c ∈ line) ∧ ∀ n ∈ l, s.irqRole n ∈ line := by
  induction l generalizing s with
  | nil => exact ⟨s.bureau.line, rfl, fun _ h => h, fun n hn => absurd hn List.not_mem_nil⟩
  | cons a l ih =>
    obtain ⟨line, heq, hold, hnew⟩ := ih (s.raiseLine (s.irqRole a))
    have hraised : (∀ c ∈ s.bureau.line, c ∈ (s.raiseLine (s.irqRole a)).bureau.line)
        ∧ s.irqRole a ∈ (s.raiseLine (s.irqRole a)).bureau.line := by
      unfold State.raiseLine
      dsimp only
      split
      next hin => exact ⟨fun _ h => h, List.contains_iff_mem.mp hin⟩
      next => exact ⟨fun _ h => List.mem_append_left _ h, List.mem_append_right _ (List.mem_singleton_self _)⟩
    refine ⟨line, heq, fun c hc => hold c (hraised.1 c hc), fun n hn => ?_⟩
    rcases List.mem_cons.mp hn with rfl | hin
    · exact hold _ hraised.2
    · exact hnew n hin

theorem irqModerationExpire_spec {s : State} {g : Fin 32} (hsome : s.groupPending g.val ≠ []) (hover : s.moderated g.val = true) :
    ∃ t, exec (.irqModerationExpire g) s = .next t
      ∧ t = { s with out := [], bureau := { s.bureau with line := t.bureau.line } }
      ∧ ∀ n ∈ s.groupPending g.val, t.irqLine (s.irqRole n) = true := by
  obtain ⟨line, heq, -, hnew⟩ := State.foldl_raiseLine (s.groupPending g.val) s.fresh
  have hexec : exec (.irqModerationExpire g) s = .next { s.fresh with bureau := { s.bureau with line := line } } :=
    congrArg Host.Outcome.next ((if_pos ⟨hsome, hover⟩).trans heq)
  refine ⟨_, hexec, rfl, fun n hn => ?_⟩
  unfold State.irqLine
  rw [Bool.or_eq_true]
  exact .inl (List.contains_iff_mem.mpr (hnew n hn))

/-! ### The obligation -/

/-- Settles O57: the Chest's tiers, the injectors, the pairs, SRAM and the interrupt controller, each by its own lemma. -/
theorem chestInjectorsAndBureau : Obligations.ChestInjectorsAndBureau := by
  unfold Obligations.ChestInjectorsAndBureau
  refine ⟨fun s b hlive hbeat => congrArg Host.Outcome.next (if_pos ⟨hlive, hbeat⟩),
    fun s r b hwait hb hidle => ⟨chestEflashSpool_stored hwait hb hidle, chestEflashSpool_delayed hwait hb hidle,
      chestEflashSpool_failed hwait hb hidle⟩,
    fun s lost hstands => ?_, chestReadRecord_spec,
    fun s b due left hdue hcome harmed => ⟨injectorFire_held hdue hcome harmed,
      fun hopen hone => injectorFire_reports hdue hcome hone hopen⟩,
    fun s k n hruns hroles hspare => pairFail_toSpare hruns hroles hspare,
    fun s k hruns hroles hothers => pairFail_last hruns hroles hothers, fun s c v => pairTakeoverComplete_spec,
    fun s k => spareSelfTest_spec, fun s array column harray => ⟨sramRepair_repaired harray, sramRepair_exhausted harray⟩,
    fun s => ⟨fun o ho => sramUe_copied ho, sramUe_heat s, fun l => sramUe_leaf, fun k => sramUe_bureau⟩,
    fun s n => irqSourceRaise_spec, fun s roles n => State.claimSource_spec,
    fun s c hroles => ⟨irqClaim_none hroles, fun n => irqClaim_some hroles⟩, fun s c n r => irqComplete_spec,
    fun s c n => irqComplete_wrong, fun s g => irqModerationExpire_spec⟩
  obtain ⟨hreports, hfailed, hunspooled, hfault⟩ := s.fresh.ringFails_spec lost
  exact ⟨_, congrArg Host.Outcome.next (if_neg (by simp [hstands])), hreports, hfailed, hunspooled, hfault⟩

end Sys2Proof.Machine
end

section
/-! PROOFS. Change sets (R361 to R363): what each message about a set does with its slot, and how it is answered. -/

namespace Sys2Proof.Machine

/-! ### Answers -/

theorem State.respond_dict (s : State) (op : DictOp) (role : Role) (link : Fin 4)
    (member tag status result handle beat : Nat) (items : List RespItem) :
    (s.respond op role link member tag status result handle beat items).dict = s.dict := by
  have hhost : ∀ o, (s.respondHost link.val tag o).dict = s.dict := fun o => by
    unfold State.respondHost
    dsimp only
    split
    · rfl
    · split
      · rw [State.signal_sameButLinks]; rfl
      · rw [State.signal_sameButLinks]; rfl
  cases role with
  | host => exact hhost _
  | fleet =>
    obtain ⟨tr, h⟩ := State.sendSegments_eq (s.emit (.dict .fleet link.val tag status result handle beat items)) member tag
      (respBytes op items) (responseImage op tag status result handle beat items)
    rw [State.respond, h]
    rfl
  | board => rfl
  | service => rfl

/-- A response moves no data, whether or not it can leave. -/
theorem State.respond_dataKept (s : State) (op : DictOp) (role : Role) (link : Fin 4)
    (member tag status result handle beat : Nat) (items : List RespItem) :
    DataKept s (s.respond op role link member tag status result handle beat items) := by
  have hhost : ∀ o, DataKept s (s.respondHost link.val tag o) := fun o => by
    unfold State.respondHost
    dsimp only
    split
    · exact ⟨rfl, rfl, rfl, rfl, rfl, rfl⟩
    · split
      · rw [State.signal_sameButLinks]; exact ⟨rfl, rfl, rfl, rfl, rfl, rfl⟩
      · rw [State.signal_sameButLinks]; exact ⟨rfl, rfl, rfl, rfl, rfl, rfl⟩
  cases role with
  | host => exact hhost _
  | fleet =>
    obtain ⟨tr, h⟩ := State.sendSegments_eq (s.emit (.dict .fleet link.val tag status result handle beat items)) member tag
      (respBytes op items) (responseImage op tag status result handle beat items)
    rw [State.respond, h]
    exact ⟨rfl, rfl, rfl, rfl, rfl, rfl⟩
  | board => exact ⟨rfl, rfl, rfl, rfl, rfl, rfl⟩
  | service => exact ⟨rfl, rfl, rfl, rfl, rfl, rfl⟩

/-- A message that has been counted is answered, with the sets as they are kept by then. -/
theorem State.answerSet_spec {s x : State} {m : DictMsg} (hs : s.serves m.role m.link) (htag : m.tag < 65536)
    {l : List Nat} (hdata : DataKept s x) (hregs : RegsKept s x l) (hlinks : x.links = s.links) (op : DictOp)
    (result handle : Nat) (items : List RespItem) :
    DataKept s (x.answerSet op m result handle items) ∧ RegsKept s (x.answerSet op m result handle items) l
      ∧ (x.answerSet op m result handle items).dict = x.dict
      ∧ Output.dict m.role m.link.val m.tag 0 result handle 0 items ∈ (x.answerSet op m result handle items).out := by
  have hup : m.role = .host → (x.link m.link.val).up = true := fun hr => by
    obtain ⟨-, -, -, -, hup⟩ := hs
    rw [State.link, hlinks]
    exact hup hr
  obtain ⟨kdata, kregs, kout⟩ := x.respond_keeps op m.role m.link m.member m.tag 0 result handle 0 items htag hup l
  exact ⟨hdata.trans kdata, RegsKept.trans hdata.mode hregs kregs, x.respond_dict _ _ _ _ _ _ _ _ _ _, kout⟩

/-- A counted message that has changed sets only. -/
theorem State.withDict_counted (s : State) (role : Role) (d : Dict) :
    DataKept s { s.asked role with dict := d } ∧ RegsKept s { s.asked role with dict := d } [key 0xA032 0]
      ∧ ({ s.asked role with dict := d } : State).links = s.links := by
  exact ⟨(s.asked_dataKept role).trans ⟨rfl, rfl, rfl, rfl, rfl, rfl⟩,
    fun k hr hw hk => s.asked_regsKept role k hr hw hk, s.asked_links role⟩

/-- A message that is counted, changes sets and is answered. -/
theorem State.answerSet_counted {s : State} {m : DictMsg} (hs : s.serves m.role m.link) (htag : m.tag < 65536) (d : Dict)
    (op : DictOp) (result handle : Nat) (items : List RespItem) {t : State}
    (ht : t = State.answerSet { s.asked m.role with dict := d } op m result handle items) :
    DataKept s t ∧ RegsKept s t [key 0xA032 0] ∧ t.dict = d
      ∧ Output.dict m.role m.link.val m.tag 0 result handle 0 items ∈ t.out := by
  obtain ⟨hdata, hregs, hlinks⟩ := s.withDict_counted m.role d
  rw [ht]
  exact State.answerSet_spec hs htag hdata hregs hlinks op result handle items

/-- An answer leaves a counter that has been moved before it. -/
theorem State.answerSet_counter {s x : State} {m : DictMsg} (hs : s.serves m.role m.link) (htag : m.tag < 65536)
    {idx sub n : Nat} (hcounted : Counted s x idx sub n) (hlinks : x.links = s.links) (hr : key idx sub ∉ reportEntries)
    (hw : key idx sub ∉ windowEntries) (op : DictOp) (result handle : Nat) (items : List RespItem) :
    Counted s (x.answerSet op m result handle items) idx sub n := by
  have hup : m.role = .host → (x.link m.link.val).up = true := fun hrole => by
    obtain ⟨-, -, -, -, hup⟩ := hs
    rw [State.link, hlinks]
    exact hup hrole
  obtain ⟨u, tr, hu, ht⟩ := x.respond_reports op m.role m.link m.member m.tag 0 result handle 0 items htag hup
  rw [State.answerSet, ht]
  have hsent := hcounted.reports ((SameButReports.emit _ _).trans hu) hr hw
  exact fun hn => hsent hn

/-- The counted state with a set's slot free. -/
def State.setDropped (s : State) (role : Role) (k : Nat) : State :=
  { s.asked role with dict := { s.dict with sets := s.dict.sets.del k } }

/-! ### Judging a set in the state that has counted the message -/

@[simp] theorem State.asked_setOf (s : State) (role : Role) (handle : Nat) : (s.asked role).setOf handle = s.setOf handle := by
  unfold State.setOf
  rw [State.asked_dict]

@[simp] theorem State.asked_itemCheck (s : State) (role r : Role) (i : Item) : (s.asked role).itemCheck r i = s.itemCheck r i := by
  unfold State.itemCheck
  rw [State.asked_eflash]

@[simp] theorem State.asked_entryPending (s : State) (role : Role) (idx sub sel : Nat) :
    (s.asked role).entryPending idx sub sel = s.entryPending idx sub sel := by
  unfold State.entryPending
  rw [State.asked_dict]

/-! ### SET_OPEN -/

/-- The sets with a new one in a free slot. -/
def Dict.opened (d : Dict) (k beat : Nat) : Dict :=
  { d with
    sets := d.sets.put k { generation := d.nextGen, submitted := false, failed := false, items := [], lastBeat := beat }
    nextGen := (d.nextGen + 1) % 2 ^ 28 }

theorem State.openSet_free {x : State} {m : DictMsg} {k : Nat}
    (hfree : (List.range 16).find? (fun j => (x.dict.sets.find? j).isNone) = some k) : x.openSet m
      = State.answerSet { x with dict := x.dict.opened k x.clock.beat } .setOpen m 0 (handleOf k x.dict.nextGen) [] := by
  unfold State.openSet
  rw [hfree]
  rfl

section Open

variable {s : State} {m : DictMsg} (hs : s.serves m.role m.link) (hf : s.fits .setOpen m)

include hs hf

theorem setOpen_reserves {k : Nat} (hfree : (List.range 16).find? (fun j => (s.dict.sets.find? j).isNone) = some k) :
    ∃ t, exec (.setOpen m) s = .next t ∧ DataKept s t ∧ RegsKept s t [key 0xA032 0]
      ∧ t.dict.sets.find? k = some { generation := s.dict.nextGen, submitted := false, failed := false, items := [],
                                     lastBeat := s.clock.beat }
      ∧ Output.dict m.role m.link.val m.tag 0 0 (handleOf k s.dict.nextGen) 0 [] ∈ t.out := by
  have hopen := State.openSet_free (x := s.asked m.role) (m := m) (k := k) (by rw [State.asked_dict]; exact hfree)
  have hopen := hopen.trans (congrArg₂ (fun (d : Dict) (b : Nat) =>
    State.answerSet { s.asked m.role with dict := d.opened k b } .setOpen m 0 (handleOf k d.nextGen) [])
    (s.asked_dict m.role) (congrArg Clock.beat (s.asked_clock m.role)))
  obtain ⟨hdata, hregs, hdict, hout⟩ := State.answerSet_counted hs hf.tag _ _ _ _ _ hopen
  refine ⟨_, State.request_fits hs hf, hdata, hregs, ?_, hout⟩
  rw [show ((s.opened m.role).runMsg .setOpen m).dict = _ from hdict]
  exact Map.find?_put_self _ _ _

theorem setOpen_full (hfull : ∀ k < 16, (s.dict.sets.find? k).isSome = true) :
    ∃ t, exec (.setOpen m) s = .next t ∧ DataKept s t ∧ RegsKept s t [key 0xA032 0] ∧ t.dict = s.dict
      ∧ Output.dict m.role m.link.val m.tag 0 10 0 0 [] ∈ t.out := by
  have hnone : (List.range 16).find? (fun k => (s.dict.sets.find? k).isNone) = none :=
    List.find?_eq_none.mpr fun k hk => by
      have hsome := hfull k (List.mem_range.mp hk)
      simp [Option.isSome_iff_ne_none.mp hsome]
  have hopen : (s.asked m.role).openSet m = State.answerSet { s.asked m.role with dict := s.dict } .setOpen m 10 0 [] := by
    unfold State.openSet
    rw [State.asked_dict, hnone]
    exact congrArg (fun d : Dict => State.answerSet { s.asked m.role with dict := d } .setOpen m 10 0 []) (s.asked_dict m.role)
  obtain ⟨hdata, hregs, hdict, hout⟩ := State.answerSet_counted hs hf.tag _ _ _ _ _ hopen
  exact ⟨_, State.request_fits hs hf, hdata, hregs, hdict, hout⟩

end Open

/-! ### SET_ADD -/

theorem State.stageItem_fails {s : State} {role : Role} {i : Item} (h : s.itemCheck role i ≠ 0) (c : ChangeSet) :
    s.stageItem role c i = ({ c with failed := true }, s.itemCheck role i) := by
  unfold State.stageItem
  dsimp only
  rw [if_pos h]

theorem State.stageItem_passes {s : State} {role : Role} {i : Item} (h : s.itemCheck role i = 0) {c : ChangeSet}
    (hnew : ∀ e ∈ c.items, ¬ (e.1.index = i.index ∧ e.1.sub = i.sub)) (hitems : c.items.length < 256)
    (hbytes : c.bytes + i.len ≤ 16384) :
    s.stageItem role c i = ({ c with items := c.items ++ [(i, s.selNo i.index i.sub)] }, 0) := by
  have hsame : (c.items.any fun e => e.1.index == i.index && e.1.sub == i.sub && e.2 == s.selNo i.index i.sub) = false :=
    List.any_eq_false.mpr fun e he => by
      have := hnew e he
      simp only [Bool.and_eq_true, beq_iff_eq]
      tauto
  unfold State.stageItem
  dsimp only
  rw [if_neg (by simp [h]), hsame, if_neg (by decide), if_neg (by omega)]

section Staged

variable {s : State} {m : DictMsg} {i : Item} {k : Nat} {c : ChangeSet} (hs : s.serves m.role m.link) (hf : s.fits .setAdd m)
  (hmode : s.ctl.mode ≠ .save) (hset : s.setOf m.handle = some (k, c)) (hopen : c.submitted = false) (hitem : m.items = [i])

include hs hf hmode hset hopen hitem

/-- An item that is staged in an open set. -/
theorem setAdd_stages {c' : ChangeSet} {code : Nat}
    (hstage : (s.asked m.role).stageItem m.role { c with lastBeat := s.clock.beat } i = (c', code)) :
    ∃ t, exec (.setAdd m) s = .next t ∧ DataKept s t ∧ RegsKept s t [key 0xA032 0] ∧ t.dict.sets.find? k = some c'
      ∧ Output.dict m.role m.link.val m.tag 0 0 m.handle 0 [respOf i code] ∈ t.out := by
  have hadd : (s.asked m.role).addSet m = State.answerSet { s.asked m.role with
      dict := { s.dict with sets := s.dict.sets.put k c' } } .setAdd m 0 m.handle [respOf i code] := by
    unfold State.addSet State.putSet
    rw [State.asked_mode, if_neg hmode, State.asked_setOf, hset]
    dsimp only
    rw [if_neg (by simp [hopen]), hitem, State.stageItems, State.asked_clock, hstage, State.asked_dict]
    rfl
  obtain ⟨hdata, hregs, hdict, hout⟩ := State.answerSet_counted hs hf.tag _ _ _ _ _ hadd
  refine ⟨_, State.request_fits hs hf, hdata, hregs, ?_, hout⟩
  rw [show ((s.opened m.role).runMsg .setAdd m).dict = _ from hdict]
  exact Map.find?_put_self _ _ _

end Staged

/-! ### SET_SUBMIT -/

section Submit

variable {s : State} {m : DictMsg} {k : Nat} {c : ChangeSet} (hs : s.serves m.role m.link) (hf : s.fits .setSubmit m)
  (hmode : s.ctl.mode ≠ .save) (hset : s.setOf m.handle = some (k, c)) (hopen : c.submitted = false)

include hs hf hmode hset hopen

theorem setSubmit_closes (hgood : c.failed = false)
    (hfree : ∀ e ∈ c.items, s.entryPending e.1.index e.1.sub e.2 = false) :
    ∃ t, exec (.setSubmit m) s = .next t ∧ DataKept s t ∧ RegsKept s t [key 0xA032 0] ∧ t.out = []
      ∧ t.dict.sets.find? k = some { c with submitted := true }
      ∧ t.dict.submitted = s.dict.submitted ++ [Submitted.mk (some k) 0 0 m.role m.link m.member m.tag c.items] := by
  have hpending : (c.items.any fun e => s.entryPending e.1.index e.1.sub e.2) = false :=
    List.any_eq_false.mpr fun e he => by simp [hfree e he]
  have hsubmit : (s.asked m.role).submitSet m = { s.asked m.role with dict := { s.dict with
      sets := s.dict.sets.put k { c with submitted := true }
      submitted := s.dict.submitted ++ [Submitted.mk (some k) 0 0 m.role m.link m.member m.tag c.items] } } := by
    unfold State.submitSet State.putSet
    rw [State.asked_mode, if_neg hmode, State.asked_setOf, hset]
    dsimp only
    rw [if_neg (by simp [hopen]), if_neg (by simp [hgood])]
    simp only [State.asked_entryPending, hpending, Bool.false_eq_true, if_false, State.asked_dict]
  obtain ⟨hdata, hregs, -⟩ := s.withDict_counted m.role { s.dict with
      sets := s.dict.sets.put k { c with submitted := true }
      submitted := s.dict.submitted ++ [Submitted.mk (some k) 0 0 m.role m.link m.member m.tag c.items] }
  exact ⟨_, (State.request_fits hs hf).trans (congrArg Host.Outcome.next hsubmit), hdata, hregs, s.asked_out m.role,
    Map.find?_put_self _ _ _, rfl⟩

theorem setSubmit_refused (hfailed : c.failed = true) :
    ∃ t, exec (.setSubmit m) s = .next t ∧ DataKept s t ∧ RegsKept s t [key 0xA032 0, key 0x1202 2]
      ∧ Counted s t 0x1202 2 1 ∧ t.dict.sets.find? k = none ∧ t.dict.submitted = s.dict.submitted
      ∧ Output.dict m.role m.link.val m.tag 0 9 m.handle 0 [] ∈ t.out := by
  have hsubmit : (s.asked m.role).submitSet m = ((s.setDropped m.role k).addReg 0x1202 2 1).answerSet .setSubmit m 9 m.handle [] := by
    unfold State.submitSet State.setDropped State.refuseSubmit State.dropSet
    rw [State.asked_mode, if_neg hmode, State.asked_setOf, hset]
    dsimp only
    rw [if_neg (by simp [hopen]), if_pos hfailed, State.asked_dict]
  obtain ⟨hdata, hregs, hlinks⟩ := s.withDict_counted m.role { s.dict with sets := s.dict.sets.del k }
  have hdropped : DataKept s ((s.setDropped m.role k).addReg 0x1202 2 1) := hdata.trans ⟨rfl, rfl, rfl, rfl, rfl, rfl⟩
  have hentries : RegsKept s ((s.setDropped m.role k).addReg 0x1202 2 1) [key 0xA032 0, key 0x1202 2] :=
    RegsKept.put (t := s.setDropped m.role k) (hregs.mono (by simp)) (by simp) _ rfl
  have hcounted : Counted s ((s.setDropped m.role k).addReg 0x1202 2 1) 0x1202 2 1 :=
    (State.addReg_counted _ _ _ _).of_reg (s.asked_reg m.role (by decide))
  obtain ⟨kdata, kregs, kdict, kout⟩ := State.answerSet_spec hs hf.tag hdropped hentries hlinks .setSubmit 9 m.handle []
  refine ⟨_, (State.request_fits hs hf).trans (congrArg Host.Outcome.next hsubmit), kdata, kregs,
    State.answerSet_counter hs hf.tag hcounted hlinks (by decide) (by decide) .setSubmit 9 m.handle [], ?_, ?_, kout⟩
  · rw [kdict]
    exact Map.find?_del_self _ _
  · rw [kdict]
    rfl

end Submit

/-! ### The end of a set without its being applied -/

section Ends

variable {s : State} {m : DictMsg} (hs : s.serves m.role m.link)

include hs

theorem setDiscard_frees {k : Nat} {c : ChangeSet} (hf : s.fits .setDiscard m) (hset : s.setOf m.handle = some (k, c))
    (hopen : c.submitted = false) :
    ∃ t, exec (.setDiscard m) s = .next t ∧ DataKept s t ∧ RegsKept s t [key 0xA032 0]
      ∧ t.dict = { s.dict with sets := s.dict.sets.del k }
      ∧ Output.dict m.role m.link.val m.tag 0 0 m.handle 0 [] ∈ t.out := by
  have hdiscard : (s.asked m.role).discardSet m = State.answerSet { s.asked m.role with
      dict := { s.dict with sets := s.dict.sets.del k } } .setDiscard m 0 m.handle [] := by
    unfold State.discardSet State.dropSet
    rw [State.asked_setOf, hset]
    dsimp only
    rw [if_neg (by simp [hopen]), State.asked_dict]
  obtain ⟨hdata, hregs, hdict, hout⟩ := State.answerSet_counted hs hf.tag _ _ _ _ _ hdiscard
  exact ⟨_, State.request_fits hs hf, hdata, hregs, hdict, hout⟩

/-- What SET_STATUS answers of a set. -/
def setStatus (found : Option (Nat × ChangeSet)) : Nat :=
  match found with
  | none => 1
  | some (_, c) => if c.submitted then 8 else if c.failed then 9 else 0

theorem setStatus_answers (hf : s.fits .setStatus m) :
    ∃ t, exec (.setStatus m) s = .next t ∧ DataKept s t ∧ RegsKept s t [key 0xA032 0]
      ∧ Output.dict m.role m.link.val m.tag 0 (setStatus (s.setOf m.handle)) m.handle 0 [] ∈ t.out := by
  have hstatus : ∃ d, (s.asked m.role).statusSet m
      = State.answerSet { s.asked m.role with dict := d } .setStatus m (setStatus (s.setOf m.handle)) m.handle [] := by
    unfold State.statusSet
    rw [State.asked_setOf]
    cases s.setOf m.handle with
    | none => exact ⟨(s.asked m.role).dict, rfl⟩
    | some x => exact ⟨_, rfl⟩
  obtain ⟨d, hstatus⟩ := hstatus
  obtain ⟨hdata, hregs, -, hout⟩ := State.answerSet_counted hs hf.tag _ _ _ _ _ hstatus
  exact ⟨_, State.request_fits hs hf, hdata, hregs, hout⟩

end Ends

theorem setIdleTimeout_frees {s : State} {k : Fin 16} {c : ChangeSet} (hset : s.dict.sets.find? k.val = some c)
    (hopen : c.submitted = false) (hlong : s.reg 0xA030 0 ≤ s.clock.beat - c.lastBeat) :
    exec (.setIdleTimeout k) s = .next { s with out := [], dict := { s.dict with sets := s.dict.sets.del k.val } } := by
  show execSetIdleTimeout k s = _
  unfold execSetIdleTimeout
  rw [hset]
  exact congrArg Host.Outcome.next (if_pos ⟨hopen, hlong⟩)

/-! ### A set that fails at step 4 -/

/-- A set that is done, or a part of a WRITE, moves neither data nor entries. -/
theorem State.settle_kept (s : State) (u : Submitted) (result beat : Nat) (fails : List RespItem) :
    DataKept s (s.settle u result beat fails) ∧ (s.settle u result beat fails).regs = s.regs := by
  have hrespond : ∀ (d : Dict) (op : DictOp) (role : Role) (link : Fin 4) (member tag result handle : Nat) (items : List RespItem),
      DataKept s (State.respond { s with dict := d } op role link member tag 0 result handle beat items)
        ∧ (State.respond { s with dict := d } op role link member tag 0 result handle beat items).regs = s.regs :=
    fun d op role link member tag result handle items =>
      ⟨DataKept.trans ⟨rfl, rfl, rfl, rfl, rfl, rfl⟩ (State.respond_dataKept _ _ _ _ _ _ _ _ _ _ _),
        State.respond_regs _ _ _ _ _ _ _ _ _ _ _⟩
  unfold State.settle
  split
  · exact hrespond _ _ _ _ _ _ _ _ _
  · unfold State.settleReply
    split
    · exact ⟨⟨rfl, rfl, rfl, rfl, rfl, rfl⟩, rfl⟩
    · dsimp only
      split
      · exact hrespond _ _ _ _ _ _ _ _ _
      · exact ⟨⟨rfl, rfl, rfl, rfl, rfl, rfl⟩, rfl⟩

theorem State.applySet_refused {s : State} {u : Submitted} (hfails : s.setFails u ≠ []) :
    DataKept s (s.applySet u) ∧ ∀ k, k ≠ key 0x1202 2 → (s.applySet u).regs.find? k = s.regs.find? k := by
  have happly : s.applySet u = (s.addReg 0x1202 2 1).settle u 9 (s.clock.ext.toNat % 2 ^ 32) (s.setFails u) := if_neg hfails
  obtain ⟨hdata, hregs⟩ := (s.addReg 0x1202 2 1).settle_kept u 9 (s.clock.ext.toNat % 2 ^ 32) (s.setFails u)
  rw [happly]
  refine ⟨DataKept.trans ⟨rfl, rfl, rfl, rfl, rfl, rfl⟩ hdata, fun k hk => ?_⟩
  rw [hregs]
  exact Map.find?_put_of_ne _ _ _ _ hk

/-! ### The obligation -/

/-- Settles O56: each message by what it does with its set, and a set that fails at step 4 by its refusal. -/
theorem changeSets : Obligations.ChangeSets := by
  unfold Obligations.ChangeSets
  refine ⟨fun s m k hs hf hfree => setOpen_reserves hs hf hfree, fun s m hs hf hfull => setOpen_full hs hf hfull,
    fun s m i k c hs hf hmode hset hopen hitem => ⟨fun hcode => ?_, fun hcode hnew hitems hbytes => ?_⟩,
    fun s m k c hs hf hmode hset hopen =>
      ⟨setSubmit_closes hs hf hmode hset hopen, setSubmit_refused hs hf hmode hset hopen⟩,
    fun s m k c hs hf hset hopen => setDiscard_frees hs hf hset hopen, fun s m hs hf => ?_,
    fun s k c hset hopen hlong => setIdleTimeout_frees hset hopen hlong, fun s u hfails => State.applySet_refused hfails⟩
  · have hstage := State.stageItem_fails (s := s.asked m.role) (role := m.role) (i := i) (by simpa using hcode)
      { c with lastBeat := s.clock.beat }
    rw [State.asked_itemCheck] at hstage
    exact setAdd_stages hs hf hmode hset hopen hitem hstage
  · exact setAdd_stages hs hf hmode hset hopen hitem
      (State.stageItem_passes (by simpa using hcode) (c := { c with lastBeat := s.clock.beat }) hnew hitems hbytes)
  · exact setStatus_answers hs hf

end Sys2Proof.Machine
end

section
/-! PROOFS. A write of an entry that acts on no selected unit and takes effect at once (R348, R350, R353, R354). -/

namespace Sys2Proof.Machine

/-! ### What the tables of entries say -/

/-- No window has an entry of sub-index 0, and neither has the domain's index 0x4800. -/
theorem one_le_sub_of_followed {idx sub : Nat} {r : Entry} (hr : rowOf idx sub = some r)
    (h : (0x2500 ≤ idx ∧ idx ≤ 0x253F) ∨ idx = 0x4800) : 1 ≤ sub := by
  have hmem := List.mem_of_find?_eq_some hr
  have hhas : r.hasIndex idx = true ∧ r.sub ≤ sub := by
    have := List.find?_some hr
    simp only [Entry.has, Bool.and_eq_true, decide_eq_true_eq] at this
    exact ⟨this.1.1, this.1.2⟩
  rcases h with ⟨hlo, hhi⟩ | rfl
  · have hblock : idx / 256 = 0x25 := by omega
    unfold rowsOf at hmem
    rw [hblock] at hmem
    have hrows : ∀ r ∈ rows25, 1 ≤ r.sub := by decide
    exact (hrows r hmem).trans hhas.2
  · have hrows : ∀ r ∈ rowsOf 0x4800, r.hasIndex 0x4800 = true → 1 ≤ r.sub := by decide
    exact (hrows r hmem hhas.1).trans hhas.2

/-- The generation of D values is written by no message (R353). -/
theorem generation_readOnly {r : Entry} (h : rowOf 0xA003 0 = some r) (role : Role) : r.access role = .ro := by
  have hrow : ∀ r ∈ rowsOf 0xA003, r.has 0xA003 0 = true → ∀ role ∈ [Role.host, .board, .fleet, .service], r.access role = .ro := by
    decide
  have hhas : r.has 0xA003 0 = true := List.find?_some (p := fun r : Entry => r.has 0xA003 0) h
  exact hrow r (List.mem_of_find?_eq_some h) hhas role (by cases role <;> simp)

/-! ### What a stored value brings with it -/

/-- Whether a bank hash awaits a reset (R111). -/
def State.marked (s : State) (b : Bool) : State := { s with ctl := { s.ctl with hashPending := b } }

/-- An entry that applies at once brings nothing with it but the mark of a bank hash. -/
theorem State.follow_atOnce (before s : State) {idx sub : Nat} {r : Entry} (hr : rowOf idx sub = some r)
    (hbeat : beatEntry idx sub = false) : ∃ b, before.follow s [(idx, sub)] = s.marked b := by
  simp only [beatEntry, Bool.or_eq_false_iff, Bool.and_eq_false_iff, decide_eq_false_iff_not, beq_eq_false_iff_ne] at hbeat
  have hwindow : (decide (0x2500 ≤ idx) && decide (idx ≤ 0x253F) && decide (sub ≤ 3)) = false := by
    simp only [Bool.and_eq_false_iff, decide_eq_false_iff_not]
    by_contra h
    have := one_le_sub_of_followed hr (.inl (by omega))
    omega
  have hinjector : (decide (0x9100 ≤ idx) && decide (idx ≤ 0x9110) && sub == 2) = false := by
    simp only [Bool.and_eq_false_iff, decide_eq_false_iff_not, beq_eq_false_iff_ne]
    omega
  have hdomain : (idx == 0x4800 && decide (sub ≤ 3) || idx == 0x4801) = false := by
    simp only [Bool.or_eq_false_iff, Bool.and_eq_false_iff, decide_eq_false_iff_not, beq_eq_false_iff_ne]
    refine ⟨?_, by omega⟩
    by_contra h
    have := one_le_sub_of_followed hr (.inr (by omega))
    omega
  simp only [State.follow, List.filter_cons, List.filter_nil, hwindow, hinjector, hdomain, Bool.false_eq_true, if_false,
    List.map_nil, List.eraseDups_nil, List.foldl_nil, List.any_cons, List.any_nil, Bool.or_false]
  exact ⟨_, rfl⟩

/-! ### The write -/

/-- A REGISTER_WRITE of an entry that applies at once is applied and answered. -/
theorem registerWrite_applied {s : State} {role : Role} {idx sub v : Nat} {r : Entry} (hp : s.writePasses role idx sub v)
    (hidx : idx < 65536) (hsub : sub < 256) (hr : rowOf idx sub = some r) (hbeat : beatEntry idx sub = false) :
    exec (.registerWrite role idx sub v r.size) s = .next (((s.asked role).applyWrite role idx sub
      ((s.asked role).selNo idx sub) (v % 2 ^ (8 * r.size))).answered role s.hostLink (entryItem idx sub v)) := by
  obtain ⟨hs, hcode⟩ := hp
  have hsize : entrySize idx sub = r.size := by rw [entrySize, hr]
  have hitem : Item.mk (idx % 65536) (sub % 256) (v % 2 ^ (8 * r.size)) r.size = entryItem idx sub v := by
    rw [entryItem, hsize, Nat.mod_eq_of_lt hidx, Nat.mod_eq_of_lt hsub]
  have hvalue : (entryItem idx sub v).value = v % 2 ^ (8 * r.size) := by rw [entryItem, hsize]
  have hlen : (entryItem idx sub v).len ≤ 256 := hsize.le.trans (size_le_of_rowOf hr)
  have hbeat' : beatEntry (entryItem idx sub v).index (entryItem idx sub v).sub = false := hbeat
  rw [exec_registerWrite, hitem, s.request_write (s.entryMsg role (entryItem idx sub v)) hs (s.entryMsg_fits role _ hlen), ← hvalue]
  simp only [State.entryMsg, State.write, State.writeItems, State.writeItem, hcode, hbeat', ne_eq, not_true_eq_false,
    if_false, Bool.false_eq_true, Bool.and_false, Bool.toNat_false, Nat.add_zero, if_true]
  rfl

/-- A plain entry's write stores its value, counts the generation of a D entry, and may mark a bank hash. -/
theorem State.applyWrite_stored {s : State} {role : Role} {idx sub v : Nat} {r : Entry} (hr : rowOf idx sub = some r)
    (hclears : r.access role ≠ .w1c) (hbeat : beatEntry idx sub = false) (hselects : s.selection idx sub = none)
    (hacts : s.act idx sub v = none) (sel : Nat) : ∃ b, s.applyWrite role idx sub sel v
      = ((s.setReg idx sub v).kept r).marked b := by
  have hput : s.put idx sub sel v = s.setReg idx sub v := by
    rw [State.put, hselects]
    rfl
  have hstore : s.storeValue role idx sub sel v = (s.setReg idx sub v).kept r := by
    simp only [State.storeValue, hr, if_neg hclears, hacts, hput]
  rw [State.applyWrite, hstore]
  exact State.follow_atOnce s _ hr hbeat

/-- What keeping a value leaves: everything but the generation of D values and the format of P values (R353, R354). -/
theorem State.kept_spec (s : State) (r : Entry) : DataKept s (s.kept r) ∧ (s.kept r).links = s.links
    ∧ (∀ k, k ≠ key 0xA003 0 → (s.kept r).regs.find? k = s.regs.find? k)
    ∧ (r.keep = .d → (s.kept r).regs.find? (key 0xA003 0) = some ((s.reg 0xA003 0 + 1) % 2 ^ 64)) := by
  unfold State.kept
  split
  next => exact ⟨⟨rfl, rfl, rfl, rfl, rfl, rfl⟩, rfl, fun k hk => Map.find?_put_of_ne _ _ _ _ hk, fun _ => Map.find?_put_self _ _ _⟩
  next h => exact ⟨⟨rfl, rfl, rfl, rfl, rfl, rfl⟩, rfl, fun _ _ => rfl, fun hd => absurd (h.symm.trans hd) (by decide)⟩
  next h _ => exact ⟨⟨rfl, rfl, rfl, rfl, rfl, rfl⟩, rfl, fun _ _ => rfl, fun hd => absurd hd h⟩

/-- Settles O55: the value is stored where the write acts on nothing else, and its answer leaves every entry. -/
theorem writesAreStored : Obligations.WritesAreStored := by
  unfold Obligations.WritesAreStored
  intro s role idx sub v r hp hidx hsub hr hclears hbeat hselects hacts
  have hwrites := State.itemCheck_eq_zero (i := entryItem idx sub v) hr
    (State.itemCheck_of_writeCode _ role _ hp.2)
  obtain ⟨-, haccess, -⟩ := hwrites
  have hne : key idx sub ≠ key 0xA003 0 := fun h => by
    obtain ⟨rfl, rfl⟩ : idx = 0xA003 ∧ sub = 0 := by
      unfold key at h
      omega
    exact haccess (generation_readOnly hr role)
  obtain ⟨b, happly⟩ := State.applyWrite_stored hr hclears hbeat hselects hacts ((s.asked role).selNo idx sub)
  obtain ⟨hdata, hlinks, hregs, hgeneration⟩ := ((s.asked role).setReg idx sub (v % 2 ^ (8 * r.size))).kept_spec r
  have hexec := registerWrite_applied hp hidx hsub hr hbeat
  rw [happly] at hexec
  obtain ⟨kdata, -, hout, -⟩ := State.answered_spec (x := (((s.asked role).setReg idx sub (v % 2 ^ (8 * r.size))).kept r).marked b)
    hp.1 (hlinks.trans (s.asked_links role)) (entryItem idx sub v) []
  have hentries : ∀ k, ((((((s.asked role).setReg idx sub (v % 2 ^ (8 * r.size))).kept r).marked b).answered role s.hostLink
      (entryItem idx sub v)).regs.find? k) = (((s.asked role).setReg idx sub (v % 2 ^ (8 * r.size))).kept r).regs.find? k := fun k =>
    congrArg (Map.find? · k) (State.respond_regs _ _ _ _ _ _ _ _ _ _ _)
  have hasked : (s.asked role).reg 0xA003 0 = s.reg 0xA003 0 := s.asked_reg role (by decide)
  have hbefore : ((s.asked role).setReg idx sub (v % 2 ^ (8 * r.size))).reg 0xA003 0 = s.reg 0xA003 0 :=
    (State.reg_setReg_of_ne _ _ hne.symm).trans hasked
  rw [hbefore] at hgeneration
  refine ⟨_, hexec, (((s.asked_dataKept role).trans ⟨rfl, rfl, rfl, rfl, rfl, rfl⟩).trans hdata).trans
    (DataKept.trans ⟨rfl, rfl, rfl, rfl, rfl, rfl⟩ kdata), hout, State.reg_of_find? ?_, fun hd => State.reg_of_find? ?_,
    fun k hreport hwindow hk => ?_⟩
  · exact (hentries _).trans ((hregs _ hne).trans (Map.find?_put_self _ _ _))
  · exact (hentries _).trans (hgeneration hd)
  · simp only [dictEntries, List.mem_cons, List.not_mem_nil, or_false, not_or] at hk
    obtain ⟨hown, hcount, hgen⟩ := hk
    exact (hentries k).trans ((hregs k hgen).trans ((Map.find?_put_of_ne _ _ _ _ hown).trans
      (s.asked_regsKept role k hreport hwindow (by simpa using hcount))))

end Sys2Proof.Machine
end

section
/-! PROOFS. Writes of entries that ask for an action, by B or S: saves, fault groups, read-out protection, keys and the charger
(R267, R302, R373, R419, R420, R427). -/

namespace Sys2Proof.Machine

/-! ### The write of an entry that acts -/

/-- An entry that takes effect at once and brings nothing with it: no window, no domain, no injector. -/
def actsAlone (idx sub : Nat) : Bool :=
  !(decide (0x2500 ≤ idx) && decide (idx ≤ 0x253F)) && idx != 0x4800 && idx != 0x4801
    && !(decide (0x9100 ≤ idx) && decide (idx ≤ 0x9110)) && !beatEntry idx sub && decide (entrySize idx sub ≤ 256)
    && (rowOf idx sub).isSome && [Role.host, .board, .fleet, .service].all fun role => (rowOf idx sub).all fun r => r.access role != .w1c

/-- Such an entry, that B and S alone may write. -/
def boardActs (idx sub : Nat) : Bool :=
  actsAlone idx sub && (rowOf idx sub).all fun r => r.access .host == .ro && r.access .fleet == .ro

/-- What such a write leaves is what its action leaves, with its generation and marks. -/
theorem State.applyWrite_acts {s x : State} {idx sub v : Nat} (h : actsAlone idx sub = true) (hact : s.act idx sub v = some x)
    (role : Role) (sel : Nat) : SameButGeneration x (s.applyWrite role idx sub sel v) := by
  simp only [actsAlone, Bool.and_eq_true, List.all_eq_true, Bool.not_eq_true'] at h
  obtain ⟨⟨⟨⟨⟨⟨⟨hwindow, hdomain⟩, hmember⟩, hinjector⟩, -⟩, -⟩, hrow⟩, hclears⟩ := h
  obtain ⟨r, hr⟩ := Option.isSome_iff_exists.mp hrow
  have hw1c : r.access role ≠ .w1c := by
    have := hclears role (by cases role <;> simp)
    simpa [hr] using this
  have hstore : s.storeValue role idx sub sel v = x.kept r := by
    simp only [State.storeValue, hr, if_neg hw1c, hact]
  obtain ⟨hk, hregs⟩ := x.kept_generation r
  have hfollow : ∃ b, s.follow (x.kept r) [(idx, sub)] = (x.kept r).marked b := by
    simp only [State.follow, List.filter_cons, List.filter_nil, hwindow, hinjector, Bool.false_and, Bool.false_eq_true, if_false,
      List.map_nil, List.eraseDups_nil, List.foldl_nil, List.any_cons, List.any_nil, beq_false_of_ne (bne_iff_ne.mp hdomain),
      beq_false_of_ne (bne_iff_ne.mp hmember), Bool.or_false]
    exact ⟨_, rfl⟩
  obtain ⟨b, hb⟩ := hfollow
  rw [State.applyWrite, hstore, hb]
  exact ⟨by rw [State.marked, hk], hregs⟩

/-- A write that passes acts, and is answered. -/
theorem State.writeEntry_acts {s x : State} {role : Role} {idx sub v : Nat} (hp : s.writePasses role idx sub v)
    (h : actsAlone idx sub = true) (hact : (s.asked role).act idx sub (entryItem idx sub v).value = some x) :
    ∃ y, s.writeEntry role idx sub v = .next (y.answered role s.hostLink (entryItem idx sub v)) ∧ SameButGeneration x y := by
  obtain ⟨hs, hcode⟩ := hp
  have hflags := h
  simp only [actsAlone, Bool.and_eq_true, decide_eq_true_eq, Bool.not_eq_true'] at hflags
  obtain ⟨⟨⟨⟨-, hbeat⟩, hsize⟩, -⟩, -⟩ := hflags
  refine ⟨_, ?_, State.applyWrite_acts h hact role ((s.asked role).selNo idx sub)⟩
  have hbeat' : beatEntry (entryItem idx sub v).index (entryItem idx sub v).sub = false := hbeat
  have hmsg : s.writeEntry role idx sub v = s.request .write (s.entryMsg role (entryItem idx sub v)) := rfl
  rw [hmsg, s.request_write (s.entryMsg role (entryItem idx sub v)) hs (s.entryMsg_fits role _ hsize)]
  simp only [State.entryMsg, State.write, State.writeItems, State.writeItem, hcode, hbeat', ne_eq, not_true_eq_false,
    if_false, Bool.false_eq_true, Bool.and_false, Bool.toNat_false, Nat.add_zero, if_true]
  rfl

/-- A write that passes, of an entry of B and S, leaves what its action leaves, and an answer. -/
theorem State.writeEntry_asks {s x : State} {role : Role} {idx sub v : Nat} (hp : s.writePasses role idx sub v)
    (h : boardActs idx sub = true) (hact : (s.asked role).act idx sub (entryItem idx sub v).value = some x) :
    ∃ t, s.writeEntry role idx sub v = .next t ∧ WriteAnswered s t role idx sub v 0 ∧ Settled x t := by
  simp only [boardActs, Bool.and_eq_true] at h
  obtain ⟨hacts, hro⟩ := h
  obtain ⟨y, hy, hgen, hregs⟩ := State.writeEntry_acts hp hacts hact
  have hrole : role = .board ∨ role = .service := by
    simp only [actsAlone, Bool.and_eq_true] at hacts
    obtain ⟨⟨-, hrow⟩, -⟩ := hacts
    obtain ⟨r, hr⟩ := Option.isSome_iff_exists.mp hrow
    obtain ⟨-, ha, -⟩ := State.itemCheck_eq_zero (i := entryItem idx sub v) hr ((s.asked role).itemCheck_of_writeCode role _ hp.2)
    rw [hr] at hro
    simp only [Option.all_some, Bool.and_eq_true, beq_iff_eq] at hro
    cases role with
    | host => exact absurd hro.1 ha
    | fleet => exact absurd hro.2 ha
    | board => exact .inl rfl
    | service => exact .inr rfl
  have hout : y.answered role s.hostLink (entryItem idx sub v)
      = y.emit (.dict role s.hostLink.val 0 0 0 0 0 [respOf (entryItem idx sub v) 0]) := by
    rcases hrole with rfl | rfl <;> rfl
  refine ⟨_, hy, ?_, ?_, ?_⟩ <;> rw [hout]
  · simp [WriteAnswered, State.emit]
  · rw [hgen]
    rfl
  · exact hregs

/-! ### What such a write leaves of the state before it -/

/-- The entries other than those a message may move are those of the action. -/
theorem Settled.asked {s x t : State} (h : Settled x t) {l : List Nat} {role : Role} (hdata : DataKept (s.asked role) x)
    (hregs : RegsKept (s.asked role) x l) : DataKept s t ∧ RegsKept s t (l ++ dictEntries) := by
  have hasked := s.asked_dataKept role
  have hl : l ⊆ l ++ dictEntries := List.subset_append_left _ _
  have hmode := hasked.mode
  refine ⟨(hasked.trans hdata).trans h.dataKept, fun k hreport hwindow hk => ?_⟩
  rw [List.mem_append, not_or] at hk
  obtain ⟨hnot, hdict⟩ := hk
  simp only [dictEntries, List.mem_cons, List.not_mem_nil, or_false, not_or] at hdict
  exact (h.2 k hdict.2).trans ((hregs k hreport (fun hm => hwindow (hmode ▸ hm)) hnot).trans
    (s.asked_regsKept role k hreport hwindow (by simpa using hdict.1)))

theorem Settled.save {x t : State} (h : Settled x t) : t.save = x.save := by rw [h.1]

theorem Settled.eflash {x t : State} (h : Settled x t) : t.eflash = x.eflash := by rw [h.1]

theorem Settled.niura {x t : State} (h : Settled x t) : t.niura = x.niura := by rw [h.1]

theorem Settled.faults {x t : State} (h : Settled x t) : t.faults = x.faults := by rw [h.1]

@[simp] theorem State.asked_save (s : State) (role : Role) : (s.asked role).save = s.save := by
  unfold State.asked
  split <;> rfl

@[simp] theorem State.asked_niura (s : State) (role : Role) : (s.asked role).niura = s.niura := by
  unfold State.asked
  split <;> rfl

@[simp] theorem State.asked_faults (s : State) (role : Role) : (s.asked role).faults = s.faults := by
  unfold State.asked
  split <;> rfl

@[simp] theorem State.asked_revoked (s : State) (role : Role) : (s.asked role).security.revoked = s.security.revoked := by
  unfold State.asked
  split <;> rfl

/-- The value of an item that fits its entry. -/
theorem entryItem_value_of_lt {idx sub v : Nat} (h : v < 2 ^ (8 * entrySize idx sub)) : (entryItem idx sub v).value = v :=
  Nat.mod_eq_of_lt h

/-! ### Saves (R267) -/

/-- A write of `save_request` arms a save by its trigger for the second boundary. -/
theorem saveRequest_arms {s : State} {role : Role} {v : Nat} (hv : v ≤ 2) (hp : s.writePasses role 0x5410 0 v) :
    ∃ t, s.writeEntry role 0x5410 0 v = .next t ∧ DataKept s t ∧ WriteAnswered s t role 0x5410 0 v 0
      ∧ t.save = { s.save with state := .arming, trigger := if v = 1 then .command else .commandHalt, arm := 2 }
      ∧ RegsKept s t dictEntries := by
  have hvalue : (entryItem 0x5410 0 v).value = v :=
    entryItem_value_of_lt (hv.trans_lt (by decide : 2 < 2 ^ (8 * entrySize 0x5410 0)))
  obtain ⟨t, ht, hout, hsettled⟩ := State.writeEntry_asks (x := (s.asked role).saveRequest v) hp (by decide)
    (by rw [hvalue]; rfl)
  obtain ⟨hdata, hregs⟩ := hsettled.asked (l := []) ⟨rfl, rfl, rfl, rfl, rfl, rfl⟩ (.of_regs rfl _)
  refine ⟨t, ht, hdata, hout, ?_, hregs⟩
  rw [hsettled.save, State.saveRequest, State.armSave, s.asked_save]

/-! ### The charger (R302) -/

/-- A write of `charger_fault_clear` clears a charge timeout; an overvoltage beside it keeps FAULT. -/
theorem chargerFaultClear_clears {s : State} {role : Role} (hp : s.writePasses role 0x6026 0 1)
    (hfault : s.niura.charger = .fault) (htimeout : s.niura.faultTimeout = true) :
    ∃ t, s.writeEntry role 0x6026 0 1 = .next t ∧ DataKept s t ∧ WriteAnswered s t role 0x6026 0 1 0
      ∧ t.niura.charger = (if s.niura.faultOver = true ∧ s.niura.faultBeats < 1000 then .fault else .off)
      ∧ t.niura.faultTimeout = false ∧ RegsKept s t dictEntries := by
  have hclears : (s.asked role).clearCharger = (s.asked role).clearTimeout := if_pos (by simp [hfault, htimeout])
  obtain ⟨t, ht, hout, hsettled⟩ := State.writeEntry_asks (x := (s.asked role).clearTimeout) hp (by decide)
    (congrArg some hclears)
  by_cases hover : s.niura.faultOver = true ∧ s.niura.faultBeats < 1000
  · have hx : (s.asked role).clearTimeout
        = { s.asked role with niura := { (s.asked role).niura with faultTimeout := false } } := if_pos (by simp [hfault, hover])
    rw [hx] at hsettled
    obtain ⟨hdata, hregs⟩ := hsettled.asked (l := []) ⟨rfl, rfl, rfl, rfl, rfl, rfl⟩ (.of_regs rfl _)
    refine ⟨t, ht, hdata, hout, ?_, ?_, hregs⟩
    · rw [hsettled.niura, if_pos hover]
      simpa using hfault
    · rw [hsettled.niura]
  · have hx : (s.asked role).clearTimeout = (s.asked role).chargerOff := if_neg (by simpa [hfault] using hover)
    have hreports := State.condClear_reports
      { s.asked role with niura := { (s.asked role).niura with charger := .off, faultTimeout := false, faultOver := false,
                                                               chargeBeats := 0 } } Code.chargerFault
    rw [hx] at hsettled
    obtain ⟨hdata, hregs⟩ := hsettled.asked (l := []) (.trans ⟨rfl, rfl, rfl, rfl, rfl, rfl⟩ hreports.dataKept) (.of_regs rfl _)
    refine ⟨t, ht, hdata, hout, ?_, ?_, hregs⟩
    · rw [hsettled.niura, if_neg hover]
      rfl
    · rw [hsettled.niura]
      rfl

/-! ### Fault groups (R373) -/

/-- A write of `fault_clear` clears its group. -/
theorem faultClear_clears {s : State} {role : Role} (b : Fin 17) (hp : s.writePasses role (0x7000 + b.val) 10 1) :
    ∃ t, s.writeEntry role (0x7000 + b.val) 10 1 = .next t ∧ DataKept s t ∧ WriteAnswered s t role (0x7000 + b.val) 10 1 0
      ∧ t.faultGroup b.val = (s.faultGroup b.val).clear b.val s.clock.ext ∧ RegsKept s t dictEntries := by
  have hentry : ∀ b : Fin 17, boardActs (0x7000 + b.val) 10 = true ∧ 1 ≤ entrySize (0x7000 + b.val) 10 := by decide
  obtain ⟨hboard, hsize⟩ := hentry b
  have hact : (s.asked role).act (0x7000 + b.val) 10 (entryItem (0x7000 + b.val) 10 1).value
      = some ((s.asked role).clearFaults b.val) := by
    rw [entryItem_value_of_le_one hsize le_rfl]
    fin_cases b <;> rfl
  obtain ⟨t, ht, hout, hsettled⟩ := State.writeEntry_asks hp hboard hact
  obtain ⟨hdata, hregs⟩ := hsettled.asked (l := []) ⟨rfl, rfl, rfl, rfl, rfl, rfl⟩ (.of_regs rfl _)
  refine ⟨t, ht, hdata, hout, ?_, hregs⟩
  rw [State.faultGroup, hsettled.faults, State.clearFaults, State.faultGroup, s.asked_faults, s.asked_clock]
  simp [State.faultGroup]

/-! ### Read-out protection and keys (R419, R420, R427) -/

/-- A write of `rdp_level` above the level raises it. -/
theorem rdpRaise_raises {s : State} {role : Role} {v : Nat} (hp : s.writePasses role 0x8010 0 v) (hrises : s.eflash.rdpLevel < v)
    (hv : v ≤ 2) :
    ∃ t, s.writeEntry role 0x8010 0 v = .next t ∧ DataKept s t ∧ WriteAnswered s t role 0x8010 0 v 0
      ∧ t.eflash.rdpLevel = v ∧ (v = 2 → t.eflash.rdpFuse = true) ∧ RegsKept s t dictEntries := by
  have hvalue : (entryItem 0x8010 0 v).value = v :=
    entryItem_value_of_lt (hv.trans_lt (by decide : 2 < 2 ^ (8 * entrySize 0x8010 0)))
  have hwrite : (s.asked role).rdpWrite v = (s.asked role).rdpRaise v := by
    rw [State.rdpWrite, s.asked_eflash, if_neg hrises.ne', if_pos hrises]
  obtain ⟨t, ht, hout, hsettled⟩ := State.writeEntry_asks (x := (s.asked role).rdpRaise v) hp (by decide)
    (by rw [hvalue]; exact congrArg some hwrite)
  obtain ⟨hdata, hregs⟩ := hsettled.asked (l := []) ⟨rfl, rfl, rfl, rfl, rfl, rfl⟩ (.of_regs rfl _)
  refine ⟨t, ht, hdata, hout, ?_, fun h2 => ?_, hregs⟩ <;> rw [hsettled.eflash]
  · rfl
  · subst h2
    exact Bool.or_true _

/-- A write of `rdp_lower_arm` arms a lowering. -/
theorem rdpLowerArm_arms {s : State} {role : Role} (hp : s.writePasses role 0x8011 0 0x5A5A) :
    ∃ t, s.writeEntry role 0x8011 0 0x5A5A = .next t ∧ DataKept s t ∧ WriteAnswered s t role 0x8011 0 0x5A5A 0
      ∧ t.eflash.lowerArm = some s.clock.beat ∧ RegsKept s t dictEntries := by
  obtain ⟨t, ht, hout, hsettled⟩ := State.writeEntry_asks (x := (s.asked role).armLower 0x5A5A) hp (by decide) rfl
  obtain ⟨hdata, hregs⟩ := hsettled.asked (l := []) ⟨rfl, rfl, rfl, rfl, rfl, rfl⟩ (.of_regs rfl _)
  refine ⟨t, ht, hdata, hout, ?_, hregs⟩
  rw [hsettled.eflash, ← s.asked_clock role]
  rfl

theorem keyRevokeArm_arms {s : State} {role : Role} (hp : s.writePasses role 0x8403 1 0xC0DE) :
    ∃ t, s.writeEntry role 0x8403 1 0xC0DE = .next t ∧ DataKept s t ∧ WriteAnswered s t role 0x8403 1 0xC0DE 0
      ∧ t.security.revokeArm = some s.clock.beat ∧ RegsKept s t dictEntries := by
  obtain ⟨t, ht, hout, hsettled⟩ := State.writeEntry_asks (x := (s.asked role).armRevoke 0xC0DE) hp (by decide) rfl
  obtain ⟨hdata, hregs⟩ := hsettled.asked (l := []) ⟨rfl, rfl, rfl, rfl, rfl, rfl⟩ (.of_regs rfl _)
  refine ⟨t, ht, hdata, hout, ?_, hregs⟩
  rw [hsettled.1, ← s.asked_clock role]
  rfl

/-- A write of `key_revoke_request` blows the fuse of its key. -/
theorem keyRevoke_revokes {s : State} {role : Role} (k : Fin 4) (hp : s.writePasses role 0x8403 0 k.val) :
    ∃ t, s.writeEntry role 0x8403 0 k.val = .next t ∧ DataKept s t ∧ WriteAnswered s t role 0x8403 0 k.val 0
      ∧ t.security.revoked.getLsbD k.val = true ∧ t.security.revokeArm = none ∧ RegsKept s t dictEntries := by
  have hvalue : (entryItem 0x8403 0 k.val).value = k.val :=
    entryItem_value_of_lt (k.isLt.trans (by decide : 4 < 2 ^ (8 * entrySize 0x8403 0)))
  obtain ⟨t, ht, hout, hsettled⟩ := State.writeEntry_asks (x := (s.asked role).revoke k.val) hp (by decide)
    (by rw [hvalue]; rfl)
  obtain ⟨hdata, hregs⟩ := hsettled.asked (l := []) ⟨rfl, rfl, rfl, rfl, rfl, rfl⟩ (.of_regs rfl _)
  have hbit : ∀ k : Fin 4, (BitVec.ofNat 4 (2 ^ k.val)).getLsbD k.val = true := by decide
  refine ⟨t, ht, hdata, hout, ?_, ?_, hregs⟩ <;> rw [hsettled.1]
  · show ((s.asked role).security.revoked ||| BitVec.ofNat 4 (2 ^ k.val)).getLsbD k.val = true
    rw [BitVec.getLsbD_or, hbit k, Bool.or_true]
  · rfl

end Sys2Proof.Machine
end

section
/-! PROOFS. Writes of entries that ask for an action: the rail groups, the sequencer, the wall time, and a COLD reset that is
latched (R280, R320, R326, R367). -/

namespace Sys2Proof.Machine

/-! ### Groups of rails (R326, R327) -/

theorem State.setRails_rails (s : State) (rs : List Nat) (st : Nat) : (s.setRails rs st).rails = s.rails :=
  State.foldl_holds (fun t => t.rails = s.rails) (fun t r => t.setRail r st) (fun _ _ ht => ht) rs s rfl

theorem State.groupDownStep_moved (s : State) (g : Nat) : RailsMoved s (s.groupDownStep g) := by
  unfold State.groupDownStep
  split
  · split
    · exact (State.groupUp_raised 33 g 0 s).moved
    · exact s.setGroup_moved g 0
  · exact s.setRails_moved _ 4

/-- A group that goes down has its step taken down, or is DOWN; its rails' retries and its grace are as they were. -/
theorem State.groupDownStep_disabling {s : State} {g : Nat} (h : s.groupState g = 3) :
    ((s.groupDownStep g).groupState g = 3 ∨ (s.groupDownStep g).groupState g = 0) ∧ (s.groupDownStep g).rails = s.rails := by
  unfold State.groupDownStep
  split
  · rw [if_neg (by omega)]
    exact ⟨.inr (s.groupState_setGroup_self g 0), rfl⟩
  · exact ⟨.inl ((State.groupState_setRails _ s 4 g).trans h), s.setRails_rails _ 4⟩

/-- A group that is shut goes down step by step, and its grace is over; one that goes down already stays as it is. -/
theorem State.groupShut_spec (s : State) (g : Nat) : RailsMoved s (s.groupShut g)
    ∧ (s.groupState g ≠ 3 → s.groupState g ≠ 4 → (s.groupShut g).rails.grace = s.rails.grace.del g
      ∧ ((s.groupShut g).groupState g = 3 ∨ (s.groupShut g).groupState g = 0)) := by
  unfold State.groupShut
  split
  next h => exact ⟨.refl s, fun h3 h4 => absurd h (by omega)⟩
  · have hmoved := (RailsMoved.rails s { s.rails with
      retries := s.rails.retries.filter fun e => s.railGroup e.1 != g, grace := s.rails.grace.del g }).trans (State.setGroup_moved _ g 3)
    obtain ⟨hstate, hrails⟩ := State.groupDownStep_disabling (State.groupState_setGroup_self
      { s with rails := { s.rails with retries := s.rails.retries.filter fun e => s.railGroup e.1 != g, grace := s.rails.grace.del g } }
      g 3)
    exact ⟨hmoved.trans (State.groupDownStep_moved _ g), fun _ _ => ⟨by rw [hrails]; rfl, hstate⟩⟩

/-- A write of `group_enable` stores the value, and moves rails; a group that goes down has its start pend or not. -/
theorem State.groupEnable_spec (s : State) (g v : Nat) : RailsMoved (s.setReg (0x6440 + g) 1 v) (s.groupEnable g v)
    ∧ (v = 1 → s.groupState g = 3 → (s.groupEnable g v).groupState g = 4)
    ∧ (v = 0 → s.groupState g = 4 → (s.groupEnable g v).groupState g = 3) := by
  have hstate : (s.setReg (0x6440 + g) 1 v).groupState g = s.groupState g := by
    refine s.reg_setReg_of_ne v ?_
    unfold key
    omega
  unfold State.groupEnable
  simp only [hstate]
  by_cases hv : v = 0
  · subst hv
    refine ⟨?_, fun h => absurd h (by decide), fun _ h4 => ?_⟩
    · rw [if_pos rfl]
      split_ifs
      · exact State.setGroup_moved _ g 3
      · exact (State.groupShut_spec _ g).1
      · exact .refl _
    · rw [if_pos rfl, if_pos h4]
      exact State.groupState_setGroup_self _ g 3
  · refine ⟨?_, fun _ h3 => ?_, fun h => absurd h hv⟩
    · rw [if_neg hv]
      split_ifs
      · exact State.setGroup_moved _ g 4
      · exact (State.groupUp_raised 33 g 0 _).moved
      · exact .refl _
    · rw [if_neg hv, if_pos h3]
      exact State.groupState_setGroup_self _ g 4

/-- A write of `group_enable` is stored, and sets or takes back a pending start. -/
theorem groupEnable_stores {s : State} {role : Role} (g : Fin 16) {v : Nat} (hp : s.writePasses role (0x6440 + g.val) 1 v)
    (hv : v ≤ 1) :
    ∃ t, s.writeEntry role (0x6440 + g.val) 1 v = .next t ∧ DataKept s t ∧ WriteAnswered s t role (0x6440 + g.val) 1 v 0
      ∧ t.reg (0x6440 + g.val) 1 = v ∧ (v = 1 → s.groupState g.val = 3 → t.groupState g.val = 4)
      ∧ (v = 0 → s.groupState g.val = 4 → t.groupState g.val = 3) := by
  have hentry : ∀ g : Fin 16, boardActs (0x6440 + g.val) 1 = true ∧ 1 ≤ entrySize (0x6440 + g.val) 1 := by decide
  obtain ⟨hboard, hsize⟩ := hentry g
  have hact : (s.asked role).act (0x6440 + g.val) 1 (entryItem (0x6440 + g.val) 1 v).value
      = some ((s.asked role).groupEnable g.val v) := by
    rw [entryItem_value_of_le_one hsize hv]
    fin_cases g <;> rfl
  obtain ⟨t, ht, hout, hsettled⟩ := State.writeEntry_asks hp hboard hact
  obtain ⟨hmoved, hone, hzero⟩ := (s.asked role).groupEnable_spec g.val v
  have hgroup : (s.asked role).groupState g.val = s.groupState g.val := s.asked_reg role (idx := 0x6440 + g.val) (sub := 2) (by unfold key; omega)
  have hreg : ∀ sub < 256, t.reg (0x6440 + g.val) sub = ((s.asked role).groupEnable g.val v).reg (0x6440 + g.val) sub :=
    fun sub hsub => hsettled.reg _ sub (by unfold key; omega)
  rw [hgroup] at hone hzero
  refine ⟨t, ht, ((s.asked_dataKept role).trans hmoved.dataKept).trans hsettled.dataKept, hout, ?_,
    fun h1 h3 => (hreg 2 (by decide)).trans (hone h1 h3), fun h0 h4 => (hreg 2 (by decide)).trans (hzero h0 h4)⟩
  exact (hreg 1 (by decide)).trans ((hmoved.reg (not_railEntry (by omega) (by decide) (by decide) (by decide))).trans
    (State.reg_setReg_self _ _ _ _))

/-! ### The sequencer (R320) -/

/-- HALTED is left; where the input is not good, or DORMANT is not to be left, that is all. -/
theorem seqRetryRequest_stays {s : State} {role : Role} (hp : s.writePasses role 0x6465 0 1) (hhalted : s.reg 0x6464 0 = 4)
    (hstays : s.niura.inputGood = false ∨ s.ctl.mode ≠ .dormant ∨ s.ctl.haltLock = true) :
    ∃ t, s.writeEntry role 0x6465 0 1 = .next t ∧ DataKept s t ∧ WriteAnswered s t role 0x6465 0 1 0
      ∧ t.reg 0x6464 0 = 0 ∧ t.rails.retried = false ∧ RegsKept s t (key 0x6464 0 :: dictEntries) := by
  set u := { s.asked role with rails := { (s.asked role).rails with retried := false } }.setReg 0x6464 0 0 with hu
  have hreg : (s.asked role).reg 0x6464 0 = 4 := (s.asked_reg role (by decide)).trans hhalted
  have hlock : (s.asked role).ctl.haltLock = s.ctl.haltLock := by
    unfold State.asked
    split <;> rfl
  have hx : (s.asked role).seqRetry = u ∨ (s.asked role).seqRetry = { u with niura := { u.niura with inputGood := true } } := by
    rw [State.seqRetry, if_pos hreg, ← hu]
    by_cases hgood : u.niura.inputGood = true
    · refine .inr ((if_pos hgood).trans (if_neg ?_))
      rintro ⟨hmode, hhalt, -⟩
      rcases hstays with h | h | h
      · exact Bool.false_ne_true (h.symm.trans ((congrArg Niura.inputGood (s.asked_niura role)).symm.trans hgood))
      · exact h ((s.asked_mode role).symm.trans hmode)
      · exact Bool.false_ne_true (hhalt.symm.trans (hlock.trans h))
    · exact .inl (if_neg hgood)
  obtain ⟨t, ht, hout, hsettled⟩ := State.writeEntry_asks (x := (s.asked role).seqRetry) hp (by decide) rfl
  have hregs : RegsKept (s.asked role) u [key 0x6464 0] := fun k _ _ hk => Map.find?_put_of_ne _ _ _ _ (by simpa using hk)
  have hspec : DataKept (s.asked role) (s.asked role).seqRetry ∧ RegsKept (s.asked role) (s.asked role).seqRetry [key 0x6464 0]
      ∧ (s.asked role).seqRetry.reg 0x6464 0 = 0 ∧ (s.asked role).seqRetry.rails.retried = false := by
    rcases hx with hx | hx <;> rw [hx]
    · exact ⟨⟨rfl, rfl, rfl, rfl, rfl, rfl⟩, hregs, State.reg_setReg_self _ _ _ _, rfl⟩
    · exact ⟨⟨rfl, rfl, rfl, rfl, rfl, rfl⟩, hregs, State.reg_of_find? (Map.find?_put_self _ _ _), rfl⟩
  obtain ⟨hdata, hkept, hzero, hretried⟩ := hspec
  obtain ⟨hall, hentries⟩ := hsettled.asked hdata hkept
  refine ⟨t, ht, hall, hout, (hsettled.reg _ _ (by decide)).trans hzero, ?_, hentries⟩
  rw [hsettled.1]
  exact hretried

/-! ### A COLD reset that is latched (R280) -/

theorem coldResetRequest_latched {s : State} {role : Role} (hp : s.writePasses role 0x1120 0 1)
    (hbusy : s.ctl.mode = .save ∨ s.save.arm ≠ 0) (hnone : s.ctl.coldPending = none) :
    ∃ t, s.writeEntry role 0x1120 0 1 = .next t ∧ DataKept s t ∧ WriteAnswered s t role 0x1120 0 1 0
      ∧ t.ctl.coldPending = some .command ∧ RegsKept s t dictEntries := by
  have hpending : (s.asked role).ctl.coldPending = none := by
    rw [← hnone]
    unfold State.asked
    split <;> rfl
  have hx : (s.asked role).coldReset .command
      = { s.asked role with ctl := { (s.asked role).ctl with coldPending := some .command } } :=
    (if_pos (by simpa using hbusy)).trans (if_pos hpending)
  obtain ⟨t, ht, hout, hsettled⟩ := State.writeEntry_asks (x := (s.asked role).coldReset .command) hp (by decide) rfl
  rw [hx] at hsettled
  obtain ⟨hdata, hregs⟩ := hsettled.asked (l := []) ⟨rfl, rfl, rfl, rfl, rfl, rfl⟩ (.of_regs rfl _)
  refine ⟨t, ht, hdata, hout, ?_, hregs⟩
  rw [hsettled.1]

/-! ### The wall time (R367) -/

/-- The wall time is set, and no more than the fleet time and the count of backward steps goes with it. -/
structure WallSet (ns : Int) (s t : State) : Prop where
  mem : t.mem = s.mem
  leaves : t.leaves = s.leaves
  groups : t.groups = s.groups
  mode : t.ctl.mode = s.ctl.mode
  clock : t.clock = { s.clock with wallNs := ns, wallSet := true }
  regs : RegsKept s t [key 0x1200 4]
  links : LinksUp s t

theorem WallSet.reports {ns : Int} {s t u : State} (h : WallSet ns s t) (k : SameButReports t u) : WallSet ns s u := by
  obtain ⟨kmem, -, kleaves, kgroups, kmode, kclock⟩ := k.dataKept
  exact ⟨kmem.trans h.mem, kleaves.trans h.leaves, kgroups.trans h.groups, kmode.trans h.mode, kclock.trans h.clock,
    h.regs.trans h.mode (k.regsKept _), fun i hi => k.up (h.links i hi)⟩

theorem State.setWall_wallSet (s : State) (ns : Int) : WallSet ns s (s.setWall ns) := by
  have hcases := s.setWall_cases ns
  split at hcases
  · refine WallSet.reports (t := (s.walled ns).addReg 0x1200 4 1) ⟨rfl, rfl, rfl, rfl, rfl, fun k _ _ hk => ?_, fun _ hi => hi⟩ hcases
    exact Map.find?_put_of_ne _ _ _ _ (by simpa using hk)
  · exact WallSet.reports (t := s.walled ns) ⟨rfl, rfl, rfl, rfl, rfl, .of_regs rfl _, fun _ hi => hi⟩ hcases

theorem SameButGeneration.dataKept {x y : State} (h : SameButGeneration x y) : DataKept x y := by
  rw [h.1]
  exact ⟨rfl, rfl, rfl, rfl, rfl, rfl⟩

/-- A write of the wall time sets it. -/
theorem wallTimeWrite_sets {s : State} {role : Role} {v : Nat} (hp : s.writePasses role 0x1200 2 v) (hv : v < 2 ^ 64) :
    ∃ t, s.writeEntry role 0x1200 2 v = .next t ∧ t.mem = s.mem ∧ t.leaves = s.leaves ∧ t.groups = s.groups
      ∧ WriteAnswered s t role 0x1200 2 v 0 ∧ t.clock = { s.clock with wallNs := ofS64 v, wallSet := true }
      ∧ RegsKept s t (key 0x1200 4 :: dictEntries) := by
  have hvalue : (entryItem 0x1200 2 v).value = v := entryItem_value_of_lt hv
  obtain ⟨y, hy, hgen⟩ := State.writeEntry_acts (x := (s.asked role).setWall (ofS64 v)) hp (by decide) (by rw [hvalue]; rfl)
  have hset := (s.asked role).setWall_wallSet (ofS64 v)
  obtain ⟨⟨-, -, -, -, hup⟩, -⟩ := hp
  have hlink : role = .host → (y.link s.hostLink.val).up = true := fun hr => by
    rw [hgen.1]
    exact hset.links _ ((s.asked_link role _).symm ▸ hup hr)
  obtain ⟨hanswer, hregs, hout⟩ := y.respond_keeps .write role s.hostLink 0 0 0 0 0 0 [respOf (entryItem 0x1200 2 v) 0]
    (by omega) hlink (key 0x1200 4 :: dictEntries)
  obtain ⟨amem, -, aleaves, agroups, amode, aclock⟩ := s.asked_dataKept role
  obtain ⟨ymem, -, yleaves, ygroups, ymode, yclock⟩ := hgen.dataKept
  obtain ⟨tmem, -, tleaves, tgroups, -, tclock⟩ := hanswer
  refine ⟨_, hy, tmem.trans (ymem.trans (hset.mem.trans amem)), tleaves.trans (yleaves.trans (hset.leaves.trans aleaves)),
    tgroups.trans (ygroups.trans (hset.groups.trans agroups)), hout,
    tclock.trans (yclock.trans (hset.clock.trans (by rw [aclock]))),
    RegsKept.trans (t := y) (ymode.trans (hset.mode.trans amode)) (fun k hreport hwindow hk => ?_) hregs⟩
  simp only [dictEntries, List.mem_cons, List.not_mem_nil, or_false, not_or] at hk
  obtain ⟨hstep, hcount, hgeneration⟩ := hk
  exact (hgen.2 k hgeneration).trans ((hset.regs k hreport (fun hm => hwindow (amode ▸ hm)) (by simpa using hstep)).trans
    (s.asked_regsKept role k hreport hwindow (by simpa using hcount)))

end Sys2Proof.Machine
end

section
/-! PROOFS. What a start does beside its resets: the embedded flash, the boot ROM, the core pairs and test hold (R393, R414, R429,
R452) keep data, Niura and the entries of the resets. -/

namespace Sys2Proof.Machine

/-! ### What a start keeps -/

/-- An entry of `last_reset` or of the counts of resets (Table 13.9). -/
def resetEntry (k : Nat) : Prop := 0x1101 * 256 ≤ k ∧ k < 0x1103 * 256 ∧ k % 256 < 6

/-- Entries of another index are none of the resets'. -/
theorem key_not_resetEntry {idx sub : Nat} (h : 0x1103 ≤ idx) : ¬ resetEntry (key idx sub) := by
  unfold resetEntry key
  omega

/-- Reports write none of the resets' entries. -/
theorem SameButReports.resetEntries {s t : State} (h : SameButReports s t) {k : Nat} (hk : resetEntry k) :
    t.regs.find? k = s.regs.find? k := by
  unfold resetEntry at hk
  have hreport : ∀ j ∈ reportEntries, j < 0x1101 * 256 ∨ 0x1103 * 256 ≤ j := by decide
  have hwindow : ∀ j ∈ windowEntries, j < 0x1101 * 256 ∨ 0x1103 * 256 ≤ j := by decide
  refine h.regsKept [] k (fun hm => ?_) (fun _ hm => ?_) List.not_mem_nil
  · have := hreport k hm
    omega
  · have := hwindow k hm
    omega

/-- No data, no state of the store, of Niura or of access and no level of protection differs, and no entry of the resets. -/
structure StartKept (s t : State) : Prop where
  data : DataKept s t
  nand : t.nand = s.nand
  niura : t.niura = s.niura
  access : t.ctl.access = s.ctl.access
  reload : t.ctl.bureauReload = s.ctl.bureauReload
  level : t.eflash.rdpLevel = s.eflash.rdpLevel
  entries : ∀ k, resetEntry k → t.regs.find? k = s.regs.find? k

namespace StartKept

variable {s t u : State}

theorem refl (s : State) : StartKept s s := ⟨⟨rfl, rfl, rfl, rfl, rfl, rfl⟩, rfl, rfl, rfl, rfl, rfl, fun _ _ => rfl⟩

theorem trans (h : StartKept s t) (k : StartKept t u) : StartKept s u :=
  ⟨h.data.trans k.data, k.nand.trans h.nand, k.niura.trans h.niura, k.access.trans h.access, k.reload.trans h.reload,
    k.level.trans h.level, fun e he => (k.entries e he).trans (h.entries e he)⟩

theorem foldl {α : Type} (g : State → α → State) (h : ∀ s a, StartKept s (g s a)) (l : List α) (s : State) :
    StartKept s (l.foldl g s) :=
  State.foldl_holds (StartKept s) g (fun t a ht => ht.trans (h t a)) l s (.refl s)

theorem reports (h : SameButReports s t) : StartKept s t :=
  ⟨h.dataKept, by rw [h.1], by rw [h.1], by rw [h.2.1], by rw [h.2.1], by rw [h.1], fun _ => h.resetEntries⟩

theorem note (s : State) (code : Nat) (vs : List Nat) : StartKept s (s.note code vs) := .reports (s.note_reports _ _)

theorem fault (s : State) (code d : Nat) : StartKept s (s.fault code d) := .reports (s.fault_reports _ _ _ _)

theorem setReg (s : State) {idx sub : Nat} (v : Nat) (h : ¬ resetEntry (key idx sub)) : StartKept s (s.setReg idx sub v) :=
  { StartKept.refl s with entries := fun _ hk => Map.find?_put_of_ne _ _ _ _ fun e => h (e ▸ hk) }

theorem addReg (s : State) {idx sub : Nat} (n : Nat) (h : ¬ resetEntry (key idx sub)) : StartKept s (s.addReg idx sub n) :=
  { StartKept.refl s with entries := fun _ hk => Map.find?_put_of_ne _ _ _ _ fun e => h (e ▸ hk) }

theorem security (s : State) (x : Security) : StartKept s { s with security := x } := { StartKept.refl s with }

theorem setBank (s : State) (b : Nat) (x : Bank) : StartKept s (s.setBank b x) := { StartKept.refl s with }

theorem setSlotOf (s : State) (b : Nat) (x : ImageSlot) : StartKept s (s.setSlotOf b x) := .security s _

end StartKept

/-! ### The boot ROM (R429 to R431) -/

theorem State.dropUpdate_startKept (s : State) : StartKept s s.dropUpdate :=
  .trans (.foldl _ (fun t b => by split <;> [exact .setSlotOf _ _ _; exact .refl _]) _ s) (.security _ _)

theorem State.expireTrials_startKept (s : State) : StartKept s s.expireTrials :=
  .foldl _ (fun t b => by dsimp only; split <;> [exact (StartKept.setSlotOf _ _ _).trans (.fault _ _ _); exact .refl _]) _ s

theorem State.rejectImage_startKept (s : State) (b result : Nat) : StartKept s (s.rejectImage b result) :=
  (StartKept.setSlotOf s b _).trans (.fault _ _ _)

theorem State.trySlot_startKept (s : State) (b result : Nat) : StartKept s (s.trySlot b result) := by
  cases result with
  | zero => exact (StartKept.setSlotOf s b _).trans (.setSlotOf _ b _)
  | succ r => exact ((StartKept.setSlotOf s b _).trans (State.rejectImage_startKept _ b (r + 1))).trans (.setSlotOf _ b _)

theorem StartKept.booted (s : State) (x : Security) (recovery : Bool) :
    StartKept s { s with security := x, ctl := { s.ctl with recovery := recovery } } := { StartKept.refl s with }

theorem State.bootFrom_startKept (s : State) (sequencers : Bool) (tries : List (Nat × Nat)) :
    StartKept s (s.bootFrom sequencers tries) := by
  have htries := StartKept.foldl (fun (u : State) (e : Nat × Nat) => u.trySlot e.1 e.2)
    (fun t e => t.trySlot_startKept e.1 e.2) tries s
  unfold State.bootFrom
  generalize tries.foldl (fun (u : State) (e : Nat × Nat) => u.trySlot e.1 e.2) s = t at htries ⊢
  dsimp only
  split
  · exact htries.trans (.booted t _ false)
  · exact htries.trans (.booted t _ true)

theorem State.bootRom_startKept (s : State) (sequencers : Bool) : StartKept s (s.bootRom sequencers) :=
  (s.dropUpdate_startKept.trans s.dropUpdate.expireTrials_startKept).trans (State.bootFrom_startKept _ _ _)

/-! ### The core pairs and test hold (R393, R452) -/

theorem StartKept.bureau (s : State) (b : Bureau) : StartKept s { s with bureau := b } := { StartKept.refl s with }

theorem State.assignRoles_startKept (s : State) : StartKept s s.assignRoles := by
  unfold State.assignRoles
  exact (StartKept.bureau s _).trans (.foldl _ (fun t k => .setReg t _ (key_not_resetEntry (by omega))) _ _)

theorem State.pairRequalified_startKept (s : State) (k : Nat) : StartKept s
    (if Config.free s.free % 2 = 1 then (s.drawn.setReg (0x7800 + k) 1 3).note Code.pairRequalified [k] else s.drawn) := by
  have hdrawn : StartKept s s.drawn := { StartKept.refl s with }
  split
  · exact (hdrawn.trans (.setReg _ 3 (key_not_resetEntry (by omega)))).trans (.note _ _ _)
  · exact hdrawn

theorem State.requalifyPairs_startKept (s : State) : StartKept s s.requalifyPairs := by
  unfold State.requalifyPairs
  dsimp only
  have hroles := (StartKept.foldl _ State.pairRequalified_startKept (pairNos.filter fun k => s.pairState k == 2) s).trans
    (State.assignRoles_startKept _)
  have hclear := fun (t : State) (c : Nat) => StartKept.reports (t.condClear_reports c)
  split
  · exact hroles.trans (.bureau _ _)
  · exact (((hroles.trans (.bureau _ _)).trans (hclear _ _)).trans (hclear _ _)).trans (hclear _ _)

theorem State.holdTest_startKept (s : State) : StartKept s s.holdTest := by
  unfold State.holdTest
  split_ifs
  · exact { StartKept.refl s with }
  · exact { StartKept.refl s with }
  · exact .trans (t := { s with ctl := { s.ctl with testHold := 2 } }) { StartKept.refl s with } (.reports (State.faultOpen_reports _ _ _))

/-! ### The embedded flash (R414) -/

theorem State.scramble_startKept (s : State) (b : Nat) (us : List Nat) : StartKept s (s.scramble b us) := { StartKept.refl s with }

theorem State.wornCheck_startKept (s : State) (b sector : Nat) : StartKept s (s.wornCheck b sector) := by
  have hworn : StartKept s (s.sectorWorn b sector) :=
    ((StartKept.setBank s b _).trans (.addReg _ 1 (key_not_resetEntry (by omega)))).trans (.fault _ _ _)
  rcases s.wornCheck_cases b sector with h | h | h <;> rw [h]
  · exact .refl s
  · exact hworn
  · exact hworn.trans (.fault _ _ _)

theorem State.spoolErased_startKept (s : State) (b sector : Nat) : StartKept s (s.spoolErased b sector) := by
  unfold State.spoolErased
  split
  · exact { StartKept.refl s with }
  · exact .refl s

theorem State.sectorErased_startKept (s : State) (b sector : Nat) : StartKept s (s.sectorErased b sector) :=
  ((((s.spoolErased_startKept b sector).trans (.setBank _ b _)).trans (.setReg _ _ (key_not_resetEntry (by omega)))).trans
    (.addReg _ 1 (key_not_resetEntry (by omega)))).trans (State.wornCheck_startKept _ b sector)

theorem State.mainErased_startKept (s : State) (b : Nat) : StartKept s (s.mainErased b) :=
  .foldl _ (fun t k => t.sectorErased_startKept b k) _ s

theorem State.reopen_startKept (s : State) (b : Nat) (e : EraseEntry) : StartKept s (s.reopen b e) := by
  unfold State.reopen
  dsimp only
  refine .trans ?_ ((StartKept.addReg _ 1 (key_not_resetEntry (by decide))).trans (.note _ _ _))
  have hclosed := StartKept.setBank s b ((s.bank b).journalClose e.kind e.sector)
  generalize s.setBank b ((s.bank b).journalClose e.kind e.sector) = t at hclosed ⊢
  have hsector := hclosed.trans (t.sectorErased_startKept b e.sector)
  split_ifs
  · exact (hsector.trans (.setBank _ b _)).trans (.setSlotOf _ b _)
  · exact hsector.trans (.setBank _ b _)
  · exact (hclosed.trans (t.mainErased_startKept b)).trans (.setSlotOf _ b _)
  · exact hclosed

theorem State.startBank_startKept (s : State) (b : Nat) : StartKept s (s.startBank b) :=
  ((s.scramble_startKept b _).trans (.setBank _ b _)).trans (.foldl _ (fun t e => t.reopen_startKept b e) _ _)

theorem State.flashStart_startKept (s : State) : StartKept s s.flashStart :=
  (s.startBank_startKept 0).trans (State.startBank_startKept _ 1)

end Sys2Proof.Machine
end

section
/-! PROOFS. Writes that ask for a BUREAU reset or a BLOCK reset (R344, R345). -/

namespace Sys2Proof.Machine

/-! ### The entries of the resets -/

/-- A count of resets reads as it is stored, its Default being the same in every state. -/
theorem State.resetCount_congr {s t : State} {sub : Nat} (h : t.regs.find? (key 0x1102 sub) = s.regs.find? (key 0x1102 sub)) :
    t.reg 0x1102 sub = s.reg 0x1102 sub := by
  unfold State.reg
  rw [h]
  rfl

/-- A reset that is counted stays so while its entry stays. -/
theorem Counted.resetCount {s u t : State} {sub n : Nat} (h : Counted s u 0x1102 sub n)
    (hk : t.regs.find? (key 0x1102 sub) = u.regs.find? (key 0x1102 sub)) : Counted s t 0x1102 sub n :=
  fun hn => (State.resetCount_congr hk).trans (h hn)

theorem key_resetEntry {idx sub : Nat} (hidx : idx = 0x1101 ∨ idx = 0x1102) (hsub : sub < 6) : resetEntry (key idx sub) := by
  unfold resetEntry key
  omega

/-! ### BUREAU reset (R344) -/

/-- A BUREAU reset has been recorded and counted, its reload has begun, and the staged change sets are gone. -/
def State.reloadBegun (s : State) : State :=
  let t := (s.setReg 0x1101 0 4).addReg 0x1102 4 1
  { t with ctl := { t.ctl with bureauReload := true }, dict := { t.dict with sets := t.dict.sets.filter fun e => e.2.submitted } }

theorem State.reloadBegun_spec (s : State) : DataKept s s.reloadBegun ∧ s.reloadBegun.reg 0x1101 0 = 4
    ∧ Counted s s.reloadBegun 0x1102 4 1 := by
  refine ⟨⟨rfl, rfl, rfl, rfl, rfl, rfl⟩, State.reg_of_find? ?_, ?_⟩
  · exact (Map.find?_put_of_ne _ _ _ _ (by decide)).trans (Map.find?_put_self _ _ _)
  · have hcount := ((s.setReg 0x1101 0 4).addReg_counted 0x1102 4 1).of_reg (s.reg_setReg_of_ne 4 (by decide))
    exact hcount.resetCount rfl

/-- Outside BRING-UP the reset only begins, the pairs reload and the interrupt controller restarts. -/
theorem State.bureauReset_spec {s : State} (h : s.ctl.mode ≠ .bringUp) : StartKept s.reloadBegun s.bureauReset
    ∧ s.bureauReset.bureau.active = [] := by
  rw [State.bureauReset, if_neg h]
  exact ⟨((State.bootRom_startKept _ false).trans (State.assignRoles_startKept _)).trans (.bureau _ _), rfl⟩

theorem bureauResetRequest_begins {s : State} {role : Role} (hp : s.writePasses role 0x1121 0 1) (hmode : s.ctl.mode ≠ .bringUp) :
    ∃ t, s.writeEntry role 0x1121 0 1 = .next t ∧ DataKept s t ∧ WriteAnswered s t role 0x1121 0 1 0
      ∧ t.ctl.bureauReload = true ∧ t.reg 0x1101 0 = 4 ∧ Counted s t 0x1102 4 1 ∧ t.bureau.active = [] := by
  obtain ⟨t, ht, hout, hsettled⟩ := State.writeEntry_asks (x := (s.asked role).bureauReset) hp (by decide) rfl
  obtain ⟨hkept, hactive⟩ := State.bureauReset_spec (s := s.asked role) (by simpa using hmode)
  obtain ⟨hdata, hcause, hcount⟩ := (s.asked role).reloadBegun_spec
  have hstays : ∀ k, resetEntry k → t.regs.find? k = (s.asked role).reloadBegun.regs.find? k := fun k hk =>
    (hsettled.2 k fun e => key_not_resetEntry (by decide) (e ▸ hk)).trans (hkept.entries k hk)
  have hfound : (s.asked role).reloadBegun.regs.find? (key 0x1101 0) = some 4 :=
    (Map.find?_put_of_ne _ _ _ _ (by decide)).trans (Map.find?_put_self _ _ _)
  refine ⟨t, ht, ((s.asked_dataKept role).trans (hdata.trans hkept.data)).trans hsettled.dataKept, hout, ?_, ?_, ?_, ?_⟩
  · rw [hsettled.1]
    exact hkept.reload
  · exact State.reg_of_find? ((hstays _ (key_resetEntry (.inl rfl) (by decide))).trans hfound)
  · exact (hcount.of_reg (s.asked_reg role (by decide))).resetCount (hstays _ (key_resetEntry (.inr rfl) (by decide)))
  · rw [hsettled.1]
    exact hactive

/-! ### What the shutdown of a block leaves (Table 13.7) -/

/-- No byte of flash, no leaf, slot or mode differs, and no entry of the resets; nor does a byte of DRAM, unless tests are cut
under test hold. -/
structure ShutKept (cut : Prop) (s t : State) : Prop where
  flash : t.nand.flash = s.nand.flash
  leaves : t.leaves = s.leaves
  groups : t.groups = s.groups
  mode : t.ctl.mode = s.ctl.mode
  hold : t.ctl.testHold = s.ctl.testHold
  mem : ¬ cut ∨ s.ctl.testHold ≠ 1 → t.mem = s.mem
  entries : ∀ k, resetEntry k → t.regs.find? k = s.regs.find? k

theorem bkey_not_resetEntry {u idx sub : Nat} : ¬ resetEntry (bkey u idx sub) := by
  unfold resetEntry bkey
  omega

namespace ShutKept

variable {cut : Prop} {s t u : State}

theorem refl (cut : Prop) (s : State) : ShutKept cut s s := ⟨rfl, rfl, rfl, rfl, rfl, fun _ => rfl, fun _ _ => rfl⟩

theorem trans (h : ShutKept cut s t) (k : ShutKept cut t u) : ShutKept cut s u :=
  ⟨k.flash.trans h.flash, k.leaves.trans h.leaves, k.groups.trans h.groups, k.mode.trans h.mode, k.hold.trans h.hold,
    fun hm => (k.mem (h.hold ▸ hm)).trans (h.mem hm), fun e he => (k.entries e he).trans (h.entries e he)⟩

theorem foldl {α : Type} (g : State → α → State) (h : ∀ s a, ShutKept cut s (g s a)) (l : List α) (s : State) :
    ShutKept cut s (l.foldl g s) :=
  State.foldl_holds (ShutKept cut s) g (fun t a ht => ht.trans (h t a)) l s (.refl cut s)

theorem reports (cut : Prop) (h : SameButReports s t) : ShutKept cut s t := by
  obtain ⟨hmem, hflash, hleaves, hgroups, hmode, -⟩ := h.dataKept
  exact ⟨hflash, hleaves, hgroups, hmode, by rw [h.2.1], fun _ => hmem, fun _ => h.resetEntries⟩

theorem setReg (cut : Prop) (s : State) {idx sub : Nat} (v : Nat) (h : ¬ resetEntry (key idx sub)) :
    ShutKept cut s (s.setReg idx sub v) :=
  { ShutKept.refl cut s with entries := fun _ hk => Map.find?_put_of_ne _ _ _ _ fun e => h (e ▸ hk) }

theorem setBreg (cut : Prop) (s : State) (u idx sub v : Nat) : ShutKept cut s (s.setBreg u idx sub v) :=
  { ShutKept.refl cut s with entries := fun _ hk => Map.find?_put_of_ne _ _ _ _ fun e => bkey_not_resetEntry (e ▸ hk) }

theorem setPort (cut : Prop) (s : State) (p : Nat) (x : Port) : ShutKept cut s (s.setPort p x) := { ShutKept.refl cut s with }

theorem chest (cut : Prop) (s : State) (c : Chest) : ShutKept cut s { s with chest := c } := { ShutKept.refl cut s with }

theorem test (cut : Prop) (s : State) (x : Test) : ShutKept cut s { s with test := x } := { ShutKept.refl cut s with }

end ShutKept

/-! ### Tests that are cut short (R448) -/

theorem State.notePattern_shutKept (cut : Prop) (s : State) (c rows : Nat) : ShutKept cut s (s.notePattern c rows) := by
  unfold State.notePattern
  split
  · exact .refl cut s
  · exact .test cut s _

theorem State.leavePattern_shutKept {cut : Prop} (hcut : cut) (s : State) (c rows : Nat) :
    ShutKept cut s (s.leavePattern c rows) := by
  have hnote := s.notePattern_shutKept cut c rows
  unfold State.leavePattern
  split
  next h => exact { hnote with mem := fun hm => absurd h.1 (hm.resolve_left (not_not_intro hcut)) }
  · exact hnote

theorem State.cutPattern_shutKept {cut : Prop} (hcut : cut) (s : State) (u : Nat) : ShutKept cut s (s.cutPattern u) := by
  unfold State.cutPattern
  split
  · exact .trans (t := s.drawn) { ShutKept.refl cut s with } (State.leavePattern_shutKept hcut _ _ _)
  · exact .refl cut s

theorem State.stopUnit_shutKept (cut : Prop) (s : State) (u st : Nat) : ShutKept cut s (s.stopUnit u st) := by
  unfold State.stopUnit
  split
  · exact ((ShutKept.test cut s _).trans (.setBreg cut _ _ _ _ _)).trans (.setBreg cut _ _ _ _ _)
  · exact .refl cut s

theorem State.resetTest_shutKept {cut : Prop} (hcut : cut) (s : State) : ShutKept cut s s.resetTest := by
  have hstop := ShutKept.foldl (fun (t : State) u => (t.cutPattern u).stopUnit u 3)
    (fun t u => (t.cutPattern_shutKept hcut u).trans (State.stopUnit_shutKept cut _ u 3)) (s.test.running.map (·.1)) s
  refine hstop.trans { ShutKept.refl cut _ with entries := fun k hk => Map.find?_filter_of_true fun v => ?_ }
  unfold resetEntry at hk
  simp only [Bool.and_eq_true, Bool.not_eq_true', Bool.and_eq_false_iff, beq_eq_false_iff_ne, decide_eq_false_iff_not]
  omega

/-! ### The other blocks -/

theorem State.flushRing_shutKept (cut : Prop) (s : State) : ShutKept cut s s.flushRing := by
  unfold State.flushRing
  split
  · exact .refl cut s
  · exact { ShutKept.refl cut s with }

theorem State.ringRepaired_shutKept (cut : Prop) (s : State) : ShutKept cut s s.ringRepaired := by
  unfold State.ringRepaired
  split
  · exact .refl cut s
  · exact (ShutKept.chest cut s _).trans (.reports cut (State.condClear_reports _ _))

theorem State.portEnable_shutKept (cut : Prop) (s : State) (p v : Nat) : ShutKept cut s (s.portEnable p v) := by
  have hstored := ShutKept.setReg cut s (idx := 0x4810 + p) (sub := 2) v (key_not_resetEntry (by omega))
  have hport := fun (x : Port) => hstored.trans (.setPort cut _ p x)
  unfold State.portEnable
  dsimp only
  split
  · exact hstored
  · split
    · split
      · exact hstored
      · exact hport _
    · split
      · exact hport _
      · split
        · exact hport _
        · exact hstored
      · exact hstored

theorem State.resetPort_shutKept (cut : Prop) (s : State) (p : Nat) : ShutKept cut s (s.resetPort p) := by
  unfold State.resetPort
  split
  · exact (s.portEnable_shutKept cut p 0).trans (State.portEnable_shutKept cut _ p 1)
  · exact .refl cut s

theorem State.shutBlock_shutKept (s : State) (c : Nat) : ShutKept (c = 2) s (s.shutBlock c) := by
  unfold State.shutBlock
  split
  · exact ((s.flushRing_shutKept _).trans (State.ringRepaired_shutKept _ _)).trans (.chest _ _ _)
  · exact s.resetTest_shutKept rfl
  · exact { ShutKept.refl _ s with }
  · exact { ShutKept.refl _ s with }
  · exact { ShutKept.refl _ s with }
  · exact s.resetPort_shutKept _ 0
  · exact s.resetPort_shutKept _ 1
  · exact { ShutKept.refl _ s with }
  · exact .refl _ s

/-- A BLOCK reset that is asked of a block at rest is counted, and the block shuts down. -/
theorem blockResetRequest_begins {s : State} {role : Role} {c : Nat} (hp : s.writePasses role 0x1122 2 1)
    (hsel : s.reg 0x1122 1 = c) (hrest : s.ctl.blockBusy.find? c = none) :
    ∃ t, s.writeEntry role 0x1122 2 1 = .next t ∧ (c ≠ 2 ∨ s.ctl.testHold ≠ 1 → t.mem = s.mem)
      ∧ t.nand.flash = s.nand.flash ∧ t.leaves = s.leaves ∧ t.groups = s.groups
      ∧ t.ctl.mode = s.ctl.mode ∧ WriteAnswered s t role 0x1122 2 1 0 ∧ t.ctl.blockBusy.find? c = some 1
      ∧ Counted s t 0x1102 5 1 := by
  have hselected : (s.asked role).reg 0x1122 1 = c := (s.asked_reg role (by decide)).trans hsel
  have hbusy : (s.asked role).ctl.blockBusy = s.ctl.blockBusy := by
    unfold State.asked
    split <;> rfl
  have hact : (s.asked role).blockReset ((s.asked role).reg 0x1122 1) = (s.asked role).beginBlock c := by
    rw [hselected, State.blockReset, hbusy, hrest]
  obtain ⟨t, ht, hout, hsettled⟩ := State.writeEntry_asks (x := (s.asked role).beginBlock c) hp (by decide) (congrArg some hact)
  have hshut := (s.asked role).shutBlock_shutKept c
  obtain ⟨kmem, kflash, kleaves, kgroups, kmode, -⟩ := hsettled.dataKept
  obtain ⟨amem, aflash, aleaves, agroups, amode, -⟩ := s.asked_dataKept role
  have hcount : Counted s ((s.asked role).beginBlock c) 0x1102 5 1 := by
    have hstored : ((s.asked role).shutBlock c).reg 0x1102 5 = s.reg 0x1102 5 :=
      (State.resetCount_congr (hshut.entries _ (key_resetEntry (.inr rfl) (by decide)))).trans (s.asked_reg role (by decide))
    exact ((State.addReg_counted _ 0x1102 5 1).of_reg hstored).resetCount rfl
  refine ⟨t, ht, fun h => kmem.trans ((hshut.mem (by rwa [s.asked_testHold])).trans amem), kflash.trans (hshut.flash.trans aflash), kleaves.trans (hshut.leaves.trans aleaves),
    kgroups.trans (hshut.groups.trans agroups), kmode.trans (hshut.mode.trans amode), hout, ?_, ?_⟩
  · rw [hsettled.1]
    exact Map.find?_put_self _ _ _
  · exact hcount.resetCount (hsettled.2 _ (by decide))

end Sys2Proof.Machine
end

section
/-! PROOFS. The ways into BRING-UP and DORMANT keep data, the store and the entries of the resets (R294, R320, R331). -/

namespace Sys2Proof.Machine

/-! ### What both ways keep -/

/-- No byte, slot or state of the store differs, nor the input, the level of protection or an entry of the resets; host access
does not open. -/
structure WayKept (s t : State) : Prop where
  mem : t.mem = s.mem
  nand : t.nand = s.nand
  groups : t.groups = s.groups
  input : t.niura.inputGood = s.niura.inputGood
  level : t.eflash.rdpLevel = s.eflash.rdpLevel
  access : s.ctl.access = false → t.ctl.access = false
  entries : ∀ k, resetEntry k → t.regs.find? k = s.regs.find? k

namespace WayKept

variable {s t u : State}

theorem refl (s : State) : WayKept s s := ⟨rfl, rfl, rfl, rfl, rfl, id, fun _ _ => rfl⟩

theorem trans (h : WayKept s t) (k : WayKept t u) : WayKept s u :=
  ⟨k.mem.trans h.mem, k.nand.trans h.nand, k.groups.trans h.groups, k.input.trans h.input, k.level.trans h.level,
    fun ha => k.access (h.access ha), fun e he => (k.entries e he).trans (h.entries e he)⟩

theorem of_start (h : StartKept s t) : WayKept s t := by
  obtain ⟨⟨hmem, -, -, hgroups, -, -⟩, hnand, hniura, haccess, -, hlevel, hentries⟩ := h
  exact ⟨hmem, hnand, hgroups, by rw [hniura], hlevel, fun ha => haccess.trans ha, hentries⟩

/-- Moves of rails keep them. -/
theorem of_rails (h : RailsMoved s t) : WayKept s t := by
  refine ⟨by rw [h.rest], by rw [h.rest], by rw [h.rest], by rw [h.rest], by rw [h.rest], fun ha => by rw [h.rest]; exact ha,
    fun k hk => h.regs k fun hrail => ?_⟩
  unfold railEntry key at hrail
  unfold resetEntry at hk
  omega

end WayKept

/-! ### BRING-UP (R331) -/

theorem State.trainLinks_startKept (s : State) : StartKept s s.trainLinks := by
  unfold State.trainLinks
  split
  · exact .refl s
  · exact { StartKept.refl s with }

theorem State.dramStart_startKept (s : State) : StartKept s s.dramStart := by
  have hrate := fun (t : State) (c : Nat) => StartKept.setReg t (idx := 0x3400 + c) (sub := 2) 0 (key_not_resetEntry (by omega))
  have hsearch := fun (t : State) (c : Nat) => StartKept.setReg t (idx := 0x3400 + c) (sub := 5) 3 (key_not_resetEntry (by omega))
  exact .trans (t := { s with dram := { s.dram with ready := [], training := [], verified := [] } }) { StartKept.refl s with }
    ((StartKept.foldl _ hrate _ _).trans (.foldl _ hsearch _ _))

/-- BRING-UP before its links and DRAM train and its rails rise. -/
def State.broughtUp (s : State) : State :=
  let t := s.setMode .bringUp
  { t with
    ctl := { t.ctl with stopped := false, access := false }, ingress := { t.ingress with closed := false },
    niura := { t.niura with alarm := t.niura.alarm && s.ctl.mode != Mode.dormant },
    save := { t.save with startBeat := t.clock.beat, restoreState := 0, loading := 0, state := .idle } }

/-- BRING-UP begins with host access closed. -/
theorem State.startBringUp_spec (s : State) : WayKept s s.startBringUp ∧ s.startBringUp.ctl.mode = .bringUp
    ∧ s.startBringUp.ctl.access = false := by
  have hbegun : WayKept s s.broughtUp := ⟨rfl, rfl, rfl, rfl, rfl, fun _ => rfl, fun _ _ => rfl⟩
  have htrain := (State.trainLinks_startKept s.broughtUp).trans (State.dramStart_startKept _)
  obtain ⟨hraised, -, -⟩ := (s.broughtUp.trainLinks.dramStart).seqUp_spec
  have hway := (WayKept.of_start htrain).trans (.of_rails hraised.moved)
  exact ⟨hbegun.trans hway, hraised.moved.dataKept.mode.trans htrain.data.mode, hway.access rfl⟩

/-- A good input that leaves DORMANT begins BRING-UP, with data kept (R294). -/
theorem State.inputIsGood_dormant {s : State} (hmode : s.ctl.mode = .dormant) (hlock : s.ctl.haltLock = false)
    (hseq : s.seqHalted = false) : s.inputIsGood.mem = s.mem ∧ s.inputIsGood.nand = s.nand ∧ s.inputIsGood.groups = s.groups
    ∧ s.inputIsGood.ctl.mode = .bringUp := by
  have hway : s.inputIsGood
      = ({ s with niura := { s.niura with inputGood := true } }.toInput.trestleRestart).startBringUp :=
    if_pos ⟨hmode, hlock, hseq⟩
  obtain ⟨hkept, hup, -⟩ := ({ s with niura := { s.niura with inputGood := true } }.toInput.trestleRestart).startBringUp_spec
  rw [hway]
  exact ⟨hkept.mem, hkept.nand, hkept.groups, hup⟩

/-- A write that leaves HALTED leaves DORMANT too where the input is good and nothing else holds it (R320). -/
theorem seqRetryRequest_bringsUp {s : State} {role : Role} (hp : s.writePasses role 0x6465 0 1) (hhalted : s.reg 0x6464 0 = 4)
    (hgood : s.niura.inputGood = true) (hmode : s.ctl.mode = .dormant) (hlock : s.ctl.haltLock = false) :
    ∃ t, s.writeEntry role 0x6465 0 1 = .next t ∧ t.mem = s.mem ∧ t.nand.flash = s.nand.flash ∧ t.groups = s.groups
      ∧ t.ctl.mode = .bringUp := by
  set u := { s.asked role with rails := { (s.asked role).rails with retried := false } }.setReg 0x6464 0 0 with hu
  have hlock' : (s.asked role).ctl.haltLock = false := by
    rw [← hlock]
    unfold State.asked
    split <;> rfl
  have hseq : u.seqHalted = false := by
    have hzero : u.reg 0x6464 0 = 0 := State.reg_setReg_self _ _ _ _
    rw [State.seqHalted, hzero]
    rfl
  have hx : (s.asked role).seqRetry = u.inputIsGood := by
    rw [State.seqRetry, if_pos ((s.asked_reg role (by decide)).trans hhalted), ← hu]
    exact if_pos ((congrArg Niura.inputGood (s.asked_niura role)).trans hgood)
  obtain ⟨hmem, hnand, hgroups, hup⟩ := State.inputIsGood_dormant (s := u) ((s.asked_mode role).trans hmode) hlock' hseq
  obtain ⟨t, ht, -, hsettled⟩ := State.writeEntry_asks (x := u.inputIsGood) hp (by decide) (congrArg some hx)
  obtain ⟨kmem, kflash, -, kgroups, kmode, -⟩ := hsettled.dataKept
  obtain ⟨amem, aflash, -, agroups, -, -⟩ := s.asked_dataKept role
  exact ⟨t, ht, kmem.trans (hmem.trans amem), kflash.trans ((congrArg Nand.flash hnand).trans aflash),
    kgroups.trans (hgroups.trans agroups), kmode.trans hup⟩

/-! ### DORMANT (R321) -/

theorem State.toDormant_spec (s : State) : WayKept s s.toDormant ∧ s.toDormant.ctl.mode = .dormant
    ∧ s.toDormant.ctl.access = false := by
  have hgather := State.closeGather_channels (s.setMode .dormant)
  refine ⟨⟨(congrArg State.mem hgather).trans rfl, (congrArg State.nand hgather).trans rfl, (congrArg State.groups hgather).trans rfl,
    (congrArg (fun t => t.niura.inputGood) hgather).trans rfl, (congrArg (fun t => t.eflash.rdpLevel) hgather).trans rfl,
    fun _ => rfl, fun k hk => ?_⟩, (congrArg (fun t => t.ctl.mode) hgather).trans rfl, rfl⟩
  refine State.closeGather_regs (s.setMode .dormant) ?_
  unfold resetEntry at hk
  omega

/-- DORMANT is entered with host access closed. -/
theorem State.enterDormant_spec (s : State) : WayKept s s.enterDormant ∧ s.enterDormant.ctl.mode = .dormant
    ∧ s.enterDormant.ctl.access = false := by
  obtain ⟨hway, hmode, haccess⟩ := s.toDormant_spec
  set u := { s.toDormant with rails := { s.toDormant.rails with dir := .down, grace := [], retries := [] } }.setReg 0x6464 0 2 with hu
  have hfirst : RailsMoved s.toDormant u := (RailsMoved.rails _ _).trans (.setReg _ 2 railEntry_seq)
  obtain ⟨hdown, -⟩ := State.downStep_dormant (s := u) hmode
  have hmoved := hfirst.trans hdown
  exact ⟨hway.trans (.of_rails hmoved), hmoved.dataKept.mode.trans hmode, (WayKept.of_rails hmoved).access haccess⟩

end Sys2Proof.Machine
end

section
/-! PROOFS. What the drain before a COLD reset and the slot commands that run with it keep (R17, R58, R341): Niura, the count of
COLD resets, host access and an armed save. -/

namespace Sys2Proof.Machine

/-- An entry of a later index is stored beside the count of COLD resets. -/
@[simp] theorem find?_put_coldCount (m : Map Nat) {idx : Nat} (sub v : Nat) (h : 0x1103 ≤ idx) :
    (m.put (key idx sub) v).find? (key 0x1102 2) = m.find? (key 0x1102 2) :=
  Map.find?_put_of_ne _ _ _ _ (by unfold key; omega)

/-- Between two states Niura, the count of COLD resets, host access, an armed save, the tests that run and the segments to erase
are the same. Each operation that a drain is made of keeps them; one lemma for each, in the order of the definitions. -/
@[simp] abbrev DrainKept (s t : State) : Prop :=
  t.niura = s.niura ∧ t.regs.find? (key 0x1102 2) = s.regs.find? (key 0x1102 2) ∧ t.ctl.access = s.ctl.access
    ∧ t.save.arm = s.save.arm ∧ t.test.running = s.test.running ∧ t.nand.marked = s.nand.marked

theorem DrainKept.refl (s : State) : DrainKept s s := ⟨rfl, rfl, rfl, rfl, rfl, rfl⟩

theorem DrainKept.trans {s t u : State} (h : DrainKept s t) (k : DrainKept t u) : DrainKept s u := by
  simp_all only [DrainKept, and_self]

/-- Reports keep them. -/
theorem SameButReports.drainKept {s t : State} (h : SameButReports s t) : DrainKept s t :=
  ⟨by rw [h.1], h.resetEntries (key_resetEntry (.inr rfl) (by decide)), by rw [h.2.1], by rw [h.1], by rw [h.1], by rw [h.1]⟩

@[simp] theorem State.foldl_drainKept {α : Type} (g : State → α → State) (l : List α) (s : State)
    (h : ∀ s a, DrainKept s (g s a)) : DrainKept s (l.foldl g s) :=
  State.foldl_holds (DrainKept s) g (fun t a ht => ht.trans (h t a)) l s (.refl s)

@[simp] theorem State.setReg_drainKept (s : State) {idx : Nat} (sub v : Nat) (h : 0x1103 ≤ idx) :
    DrainKept s (s.setReg idx sub v) :=
  ⟨rfl, find?_put_coldCount _ _ _ h, rfl, rfl, rfl, rfl⟩

@[simp] theorem State.addReg_drainKept (s : State) {idx : Nat} (sub n : Nat) (h : 0x1103 ≤ idx) :
    DrainKept s (s.addReg idx sub n) :=
  ⟨rfl, find?_put_coldCount _ _ _ h, rfl, rfl, rfl, rfl⟩

@[simp] theorem State.maxReg_drainKept (s : State) {idx : Nat} (sub v : Nat) (h : 0x1103 ≤ idx) :
    DrainKept s (s.maxReg idx sub v) :=
  ⟨rfl, find?_put_coldCount _ _ _ h, rfl, rfl, rfl, rfl⟩

@[simp] theorem State.setLink_drainKept (s : State) (i : Nat) (l : Link) :
    DrainKept s (s.setLink i l) := ⟨rfl, rfl, rfl, rfl, rfl, rfl⟩

/-! ### Reports -/

@[simp] theorem State.emit_drainKept (s : State) (o : Output) : DrainKept s (s.emit o) := ⟨rfl, rfl, rfl, rfl, rfl, rfl⟩

@[simp] theorem State.signal_drainKept (s : State) (i src : Nat) : DrainKept s (s.signal i src) :=
  (s.signal_reports i src).drainKept

@[simp] theorem State.note_drainKept (s : State) (code : Nat) (values : List Nat) : DrainKept s (s.note code values) :=
  (s.note_reports code values).drainKept

/-! ### Leaves, slots and bursts -/

@[simp] theorem State.uncredit_drainKept (s : State) (leaf : Nat) : DrainKept s (s.uncredit leaf) :=
  ⟨rfl, rfl, rfl, rfl, rfl, rfl⟩

@[simp] theorem State.setLeaf_drainKept (s : State) (leaf : Nat) (st : LeafState) (k : DeltaKind) :
    DrainKept s (s.setLeaf leaf st k) :=
  ⟨rfl, rfl, rfl, rfl, rfl, rfl⟩

@[simp] theorem State.uncopyIf_drainKept (s : State) (p : Nat → Bool) : DrainKept s (s.uncopyIf p) := by simp [State.uncopyIf]

@[simp] theorem State.uncopy_drainKept (s : State) : DrainKept s s.uncopy := by simp [State.uncopy]

@[simp] theorem State.deskViolation_drainKept (s : State) (link : Nat) : DrainKept s (s.deskViolation link) := by
  simp [State.deskViolation]

@[simp] theorem State.setSlot_drainKept (s : State) (g : Nat) (x : Slot) : DrainKept s (s.setSlot g x) :=
  ⟨rfl, rfl, rfl, rfl, rfl, rfl⟩

@[simp] theorem State.mail_drainKept (s : State) (i opcode : Nat) (rc : MailRc) (payload : List Nat) :
    DrainKept s (s.mail i opcode rc payload) :=
  (s.mail_reports i opcode rc payload).drainKept

@[simp] theorem State.mailAnswer_drainKept (g : Nat) (s : State) (i : Nat) : DrainKept s (State.mailAnswer g s i) := by
  simp [State.mailAnswer]

@[simp] theorem State.deskDone_drainKept (s : State) (a : DeskArgs) : DrainKept s (s.deskDone a) := by
  unfold State.deskDone
  dsimp only
  split_ifs <;> simp

@[simp] theorem State.answer_drainKept (s : State) (g res detail : Nat) : DrainKept s (s.answer g res detail) :=
  ⟨rfl, rfl, rfl, rfl, rfl, rfl⟩

@[simp] theorem State.queueAll_drainKept (s : State) (bs : List Burst) : DrainKept s (s.queueAll bs) :=
  ⟨rfl, rfl, rfl, rfl, rfl, rfl⟩

@[simp] theorem State.queueLeaf_drainKept (s : State) (leaf port own : Nat) (stamp : BitVec 16) (write : Bool) :
    DrainKept s (s.queueLeaf leaf port own stamp write) :=
  ⟨rfl, rfl, rfl, rfl, rfl, rfl⟩

@[simp] theorem State.requestTouch_drainKept (s : State) (leaf : Nat) : DrainKept s (s.requestTouch leaf) := by
  unfold State.requestTouch
  split_ifs <;> simp

@[simp] theorem State.reserveMirror_drainKept (s : State) (leaf : Nat) : DrainKept s (s.reserveMirror leaf) := by
  unfold State.reserveMirror
  split <;> simp

@[simp] theorem State.mirrorNew_drainKept (s : State) (leaf : Nat) : DrainKept s (s.mirrorNew leaf) := by
  unfold State.mirrorNew
  dsimp only
  split_ifs <;> simp

@[simp] theorem State.notePoison_drainKept (s : State) : DrainKept s s.notePoison := ⟨rfl, rfl, rfl, rfl, rfl, rfl⟩

@[simp] theorem State.setPoisonIn_drainKept (s : State) (lo len : Nat) (marks : Map PoisonSource) :
    DrainKept s (s.setPoisonIn lo len marks) :=
  ⟨rfl, rfl, rfl, rfl, rfl, rfl⟩

@[simp] theorem State.validate_drainKept (s : State) (leaf : Nat) : DrainKept s (s.validate leaf) := by
  unfold State.validate
  split <;> simp

@[simp] theorem State.pin_drainKept (s : State) (leaf : Nat) : DrainKept s (s.pin leaf) := by
  unfold State.pin
  split_ifs <;> simp

@[simp] theorem State.claimAll_drainKept (s : State) (a : DeskArgs) : DrainKept s (s.claimAll a) := by simp [State.claimAll]

@[simp] theorem State.unpin_drainKept (s : State) (leaves : List Nat) : DrainKept s (s.unpin leaves) := by
  unfold State.unpin
  exact State.foldl_drainKept _ _ _ fun t a => by split <;> simp

@[simp] theorem State.unclaim_drainKept (s : State) (pages : List Nat) : DrainKept s (s.unclaim pages) := by simp [State.unclaim]

@[simp] theorem State.dropEntries_drainKept (s : State) (g : Nat) : DrainKept s (s.dropEntries g) :=
  ⟨rfl, rfl, rfl, rfl, rfl, rfl⟩

@[simp] theorem State.commitGroup_drainKept (s : State) (g : Nat) : DrainKept s (s.commitGroup g) := by simp [State.commitGroup]

@[simp] theorem State.startRollback_drainKept (s : State) (g : Nat) (after : Option (Nat × Nat)) :
    DrainKept s (s.startRollback g after) := by simp [State.startRollback]

/-! ### Joint groups and decisions -/

@[simp] theorem State.setDecision_drainKept (s : State) (i : Nat) (d : Decision) : DrainKept s (s.setDecision i d) :=
  ⟨rfl, rfl, rfl, rfl, rfl, rfl⟩

@[simp] theorem State.beginJoint_drainKept (s : State) (a : DeskArgs) : DrainKept s (s.beginJoint a) := by simp [State.beginJoint]

@[simp] theorem State.fault_drainKept (s : State) (code : Nat) (detail : Nat) (live : Bool) (more : List Nat) :
    DrainKept s (s.fault code detail live more) :=
  (s.fault_reports code detail live more).drainKept

@[simp] theorem State.drawn_drainKept (s : State) : DrainKept s s.drawn := ⟨rfl, rfl, rfl, rfl, rfl, rfl⟩

@[simp] theorem State.faultOpen_drainKept (s : State) (code : Nat) (live : Bool) : DrainKept s (s.faultOpen code live) :=
  (s.faultOpen_reports code live).drainKept

@[simp] theorem State.unprepared_drainKept (s : State) : DrainKept s s.unprepared := by simp [State.unprepared]

@[simp] theorem State.prepare_drainKept (s : State) (a : DeskArgs) : DrainKept s (s.prepare a) := by
  unfold State.prepare
  dsimp only
  repeat' split
  all_goals simp

@[simp] theorem State.cacheDecision_drainKept (s : State) (txn : Nat) (commit : Bool) :
    DrainKept s (s.cacheDecision txn commit) :=
  ⟨rfl, rfl, rfl, rfl, rfl, rfl⟩

@[simp] theorem State.signalOn_drainKept (s : State) (links : List Nat) (src : Nat) : DrainKept s (s.signalOn links src) :=
  (s.signalOn_reports links src).drainKept

@[simp] theorem State.signalGroup_drainKept (s : State) (g : Nat) : DrainKept s (s.signalGroup g) :=
  (s.signalGroup_reports g).drainKept

@[simp] theorem State.resolvePart_drainKept (commit forced : Bool) (s : State) (g : Nat) :
    DrainKept s (State.resolvePart commit forced s g) := by
  unfold State.resolvePart
  split <;> simp

@[simp] theorem State.resolveParts_drainKept (s : State) (txn : Nat) (commit forced : Bool) :
    DrainKept s (s.resolveParts txn commit forced) := by simp [State.resolveParts]

@[simp] theorem State.queueCell_drainKept (s : State) (dest : Option Nat) (body : CellBody) :
    DrainKept s (s.queueCell dest body) :=
  ⟨rfl, rfl, rfl, rfl, rfl, rfl⟩

@[simp] theorem State.sendDecide_drainKept (s : State) (i : Nat) : DrainKept s (s.sendDecide i) := by
  unfold State.sendDecide
  repeat' split
  all_goals simp (disch := omega)

@[simp] theorem State.forget_drainKept (s : State) (i : Nat) : DrainKept s (s.forget i) := by
  unfold State.forget
  dsimp only
  repeat' split
  all_goals simp

@[simp] theorem State.acknowledge_drainKept (s : State) (m txn : Nat) : DrainKept s (s.acknowledge m txn) := by
  unfold State.acknowledge
  repeat' split
  all_goals simp (disch := omega)

@[simp] theorem State.sendTxn_drainKept (s : State) (query : Bool) (dest txn : Nat) : DrainKept s (s.sendTxn query dest txn) := by
  unfold State.sendTxn
  split <;> simp

@[simp] theorem State.ackIfDone_drainKept (s : State) (txn : Nat) : DrainKept s (s.ackIfDone txn) := by
  unfold State.ackIfDone
  split_ifs <;> simp

@[simp] theorem State.decideHere_drainKept (s : State) (i : Nat) (d : Decision) (commit presumed : Bool) :
    DrainKept s (s.decideHere i d commit presumed) := by
  unfold State.decideHere
  dsimp only
  split_ifs <;> simp

@[simp] theorem State.decide'_drainKept (s : State) (a : DeskArgs) : DrainKept s (s.decide' a) := by
  unfold State.decide'
  dsimp only
  repeat' split
  all_goals simp

@[simp] theorem State.ackTerminal_drainKept (s : State) (g : Nat) : DrainKept s (s.ackTerminal g) := by
  unfold State.ackTerminal
  dsimp only
  repeat' split
  all_goals simp

/-! ### Slot commands -/

@[simp] theorem State.deskEffect_drainKept (s : State) (opcode : Nat) (a : DeskArgs) : DrainKept s (s.deskEffect opcode a) := by
  unfold State.deskEffect
  dsimp only
  repeat' split
  all_goals simp

@[simp] theorem State.deskRun_drainKept (s : State) (opcode : Nat) (a : DeskArgs) : DrainKept s (s.deskRun opcode a) := by
  unfold State.deskRun
  dsimp only
  repeat' split
  all_goals simp

@[simp] theorem State.deskWrite_drainKept (s : State) (opcode : Nat) (a : DeskArgs) : DrainKept s (s.deskWrite opcode a) := by
  unfold State.deskWrite
  split_ifs <;> simp

@[simp] theorem State.cupboard_drainKept (s before : State) (stamp : BitVec 16) : DrainKept s (s.cupboard before stamp) :=
  ⟨rfl, rfl, rfl, rfl, rfl, rfl⟩

@[simp] theorem State.dropWrite_drainKept (s : State) (id : Nat) : DrainKept s (s.dropWrite id) := ⟨rfl, rfl, rfl, rfl, rfl, rfl⟩

@[simp] theorem State.completeWrite_drainKept (s : State) (e : IngressWrite) : DrainKept s (s.completeWrite e) := by
  unfold State.completeWrite
  dsimp only
  repeat' split
  all_goals simp

@[simp] theorem State.deskMem_drainKept (s : State) (e : IngressWrite) (g : Nat) : DrainKept s (s.deskMem e g) := by
  unfold State.deskMem
  split_ifs <;> simp

/-! ### Leaves that are restored, and the writes that wait -/

@[simp] theorem State.unawait_drainKept (s : State) (unit : Nat) : DrainKept s (s.unawait unit) := ⟨rfl, rfl, rfl, rfl, rfl, rfl⟩

@[simp] theorem State.restoreEntry_drainKept (s : State) (e : JEntry) : DrainKept s (s.restoreEntry e) := by
  unfold State.restoreEntry
  refine DrainKept.trans ?_ (State.foldl_drainKept _ _ _ State.unawait_drainKept)
  exact ⟨rfl, rfl, rfl, rfl, rfl, rfl⟩

@[simp] theorem State.applyUndo_drainKept (s : State) (leaf : Nat) : DrainKept s (s.applyUndo leaf) := by
  unfold State.applyUndo
  exact State.foldl_drainKept _ _ _ fun t a => by simp

@[simp] theorem State.loadLeaf_drainKept (s : State) (leaf : Nat) : DrainKept s (s.loadLeaf leaf) := by
  unfold State.loadLeaf
  split <;> simp

@[simp] theorem State.armLeaf_drainKept (s : State) (leaf : Nat) : DrainKept s (s.armLeaf leaf) := by
  unfold State.armLeaf
  dsimp only
  split_ifs <;> simp

@[simp] theorem State.restoreLeaf_drainKept (s : State) (leaf : Nat) : DrainKept s (s.restoreLeaf leaf) := by
  unfold State.restoreLeaf
  dsimp only
  split_ifs <;> simp

@[simp] theorem State.setWait_drainKept (s : State) (id : Nat) (w : Wait) : DrainKept s (s.setWait id w) :=
  ⟨rfl, rfl, rfl, rfl, rfl, rfl⟩

@[simp] theorem State.openAwaiting_drainKept (s : State) (w : MemWrite) : DrainKept s (s.openAwaiting w) := by
  unfold State.openAwaiting
  split <;> simp

@[simp] theorem State.markPoison_drainKept (s : State) (unit : Nat) (src : PoisonSource) : DrainKept s (s.markPoison unit src) :=
  ⟨rfl, rfl, rfl, rfl, rfl, rfl⟩

@[simp] theorem State.unmarkPoison_drainKept (s : State) (unit : Nat) : DrainKept s (s.unmarkPoison unit) :=
  ⟨rfl, rfl, rfl, rfl, rfl, rfl⟩

@[simp] theorem State.touchHeat_drainKept (s : State) (leaf : Nat) : DrainKept s (s.touchHeat leaf) :=
  ⟨rfl, rfl, rfl, rfl, rfl, rfl⟩

@[simp] theorem State.mirrorUnit_drainKept (s : State) (u : Nat) : DrainKept s (s.mirrorUnit u) := ⟨rfl, rfl, rfl, rfl, rfl, rfl⟩

@[simp] theorem State.storeWrite_drainKept (s : State) (e : IngressWrite) : DrainKept s (s.storeWrite e) := by
  unfold State.storeWrite
  dsimp only
  repeat' split
  all_goals simp (disch := omega)

@[simp] theorem State.landWrite_drainKept (s : State) (e : IngressWrite) : DrainKept s (s.landWrite e) := by
  simp [State.landWrite]

@[simp] theorem State.plainWrite_drainKept (s : State) (e : IngressWrite) : DrainKept s (s.plainWrite e) := by
  unfold State.plainWrite
  dsimp only
  repeat' split
  all_goals simp (disch := omega)

@[simp] theorem State.mirrorLine_drainKept (s : State) (line : Nat) : DrainKept s (s.mirrorLine line) := by
  unfold State.mirrorLine
  dsimp only
  split_ifs <;> simp

@[simp] theorem State.queueLine_drainKept (s : State) (line port own : Nat) (stamp : BitVec 16) (write : Bool) :
    DrainKept s (s.queueLine line port own stamp write) :=
  ⟨rfl, rfl, rfl, rfl, rfl, rfl⟩

@[simp] theorem State.writeBack_drainKept (s : State) (e : JEntry) : DrainKept s (s.writeBack e) := by simp [State.writeBack]

@[simp] theorem State.discardWrite_drainKept (s : State) (g : Nat) (e : IngressWrite) : DrainKept s (s.discardWrite g e) := by
  simp [State.discardWrite]

@[simp] theorem State.drainRolling_drainKept (s : State) (e : IngressWrite) : DrainKept s (s.drainRolling e) := by
  unfold State.drainRolling
  dsimp only
  split
  · exact s.plainWrite_drainKept e
  next c _ =>
    have hback := State.foldl_drainKept State.writeBack
      ((s.groups.journal.filter fun j => j.group == c.group && j.line == lineOf e.w.dpa).reverse) s State.writeBack_drainKept
    generalize ((s.groups.journal.filter fun j => j.group == c.group && j.line == lineOf e.w.dpa).reverse).foldl
      State.writeBack s = t at hback ⊢
    have hdropped : DrainKept s { t with groups := { t.groups with
        journal := t.groups.journal.filter fun j => !(j.group == c.group && j.line == lineOf e.w.dpa) } } :=
      hback.trans ⟨rfl, rfl, rfl, rfl, rfl, rfl⟩
    split
    · exact hdropped.trans (State.discardWrite_drainKept _ _ e)
    · exact hdropped.trans (State.plainWrite_drainKept _ e)

@[simp] theorem State.abortVictim_drainKept (s : State) (v : Nat) : DrainKept s (s.abortVictim v) := by simp [State.abortVictim]

@[simp] theorem State.journalBlocked_drainKept (s : State) (g : Nat) (e : IngressWrite) : DrainKept s (s.journalBlocked g e) := by
  unfold State.journalBlocked
  dsimp only
  repeat' split
  all_goals simp

@[simp] theorem State.journalLine_drainKept (s : State) (g line : Nat) (stamp : BitVec 16) :
    DrainKept s (s.journalLine g line stamp) :=
  ⟨rfl, rfl, rfl, rfl, rfl, rfl⟩

@[simp] theorem State.landJournalled_drainKept (s : State) (e : IngressWrite) (entry : List Nat) :
    DrainKept s (s.landJournalled e entry) := by
  unfold State.landJournalled
  split <;> simp

@[simp] theorem State.joinWriteWith_drainKept (force : Bool) (s : State) (e : IngressWrite) :
    DrainKept s (State.joinWriteWith force s e) := by
  unfold State.joinWriteWith
  dsimp only
  repeat' split
  all_goals simp

@[simp] theorem State.makeDirty_drainKept (s : State) (leaf : Nat) : DrainKept s (s.makeDirty leaf) := by simp [State.makeDirty]

@[simp] theorem State.drainWrite_drainKept (s : State) (id : Nat) : DrainKept s (s.drainWrite id) := by
  unfold State.drainWrite
  dsimp only
  repeat' split
  all_goals simp

/-! ### Reads and commands that waited, and the ends of rollbacks -/

@[simp] theorem State.readsAdvance_drainKept (s : State) (g : Nat) : DrainKept s (s.readsAdvance g) :=
  ⟨rfl, rfl, rfl, rfl, rfl, rfl⟩

@[simp] theorem State.serveDesk_drainKept (s : State) (i g : Nat) : DrainKept s (s.serveDesk i g) := by
  unfold State.serveDesk
  split
  · exact State.emit_drainKept _ _
  · exact (s.deskViolation_drainKept i).trans (State.emit_drainKept _ _)

@[simp] theorem State.answerReads_drainKept (s : State) (g : Nat) : DrainKept s (s.answerReads g) := by simp [State.answerReads]

@[simp] theorem State.deskNext_drainKept (g : Nat) (s : State) (c : Nat × DeskArgs) : DrainKept s (State.deskNext g s c) := by
  unfold State.deskNext
  dsimp only
  split_ifs <;> simp

@[simp] theorem State.deskResume_drainKept (s : State) (g : Nat) : DrainKept s (s.deskResume g) := by simp [State.deskResume]

@[simp] theorem State.resumeClaims_drainKept (s : State) : DrainKept s s.resumeClaims := by simp [State.resumeClaims]

@[simp] theorem State.drainClaims_drainKept (s : State) : DrainKept s s.drainClaims := by simp [State.drainClaims]

@[simp] theorem State.restoreLines_drainKept (s : State) (g : Nat) : DrainKept s (s.restoreLines g) := by
  unfold State.restoreLines
  exact State.foldl_drainKept _ _ _ fun t a => by simp

@[simp] theorem State.mailFlush_drainKept (s : State) (g : Nat) : DrainKept s (s.mailFlush g) := by simp [State.mailFlush]

@[simp] theorem State.endRollback_drainKept (s : State) (g : Nat) : DrainKept s (s.endRollback g) := by
  unfold State.endRollback
  dsimp only
  split_ifs <;> simp

@[simp] theorem State.closeRollback_drainKept (s : State) (g : Nat) : DrainKept s (s.closeRollback g) := by
  simp [State.closeRollback]

@[simp] theorem State.drainRollback_drainKept (s : State) (g : Nat) : DrainKept s (s.drainRollback g) := by
  simp [State.drainRollback]

@[simp] theorem State.drainCommands_drainKept (n : Nat) (s : State) : DrainKept s (State.drainCommands n s) := by
  induction n generalizing s with
  | zero => exact s.drainClaims_drainKept
  | succ n ih =>
    unfold State.drainCommands
    dsimp only
    split
    · exact s.drainClaims_drainKept
    · exact s.drainClaims_drainKept.trans ((State.foldl_drainKept _ _ _ State.drainRollback_drainKept).trans (ih _))

/-! ### Links, bursts and the hold -/

@[simp] theorem State.flushed_drainKept (s : State) : DrainKept s s.flushed := by
  unfold State.flushed
  exact State.foldl_drainKept _ _ _ fun t a => by split <;> simp

@[simp] theorem State.loads_drainKept (s : State) : DrainKept s s.loads := by
  unfold State.loads
  exact s.flushed_drainKept.trans (State.foldl_drainKept _ _ _ fun t i => by dsimp only; split_ifs <;> simp)

@[simp] theorem State.drained_drainKept (s : State) (id : Nat) : DrainKept s (s.drained id) := by
  unfold State.drained
  split <;> simp

@[simp] theorem State.payCompletions_drainKept (s : State) : DrainKept s s.payCompletions := by simp [State.payCompletions]

@[simp] theorem State.reclass_drainKept (s : State) : DrainKept s s.reclass := ⟨rfl, rfl, rfl, rfl, rfl, rfl⟩

@[simp] theorem State.panicUpdate_drainKept (s : State) : DrainKept s s.panicUpdate := by
  unfold State.panicUpdate
  dsimp only
  split_ifs <;> simp

@[simp] theorem State.issueBurst_drainKept (s : State) (b : Burst) (now : BitVec 16) : DrainKept s (s.issueBurst b now) := by
  unfold State.issueBurst
  dsimp only
  repeat' split
  all_goals simp (disch := omega)

@[simp] theorem State.issueWrites_drainKept (n : Nat) (s : State) : DrainKept s (State.issueWrites n s) := by
  induction n generalizing s with
  | zero => exact .refl s
  | succ n ih =>
    unfold State.issueWrites
    dsimp only
    split
    · exact .refl s
    · refine DrainKept.trans ?_ (ih _)
      split <;> simp

@[simp] theorem State.holdEdges_drainKept (s before : State) : DrainKept s (s.holdEdges before) := by
  unfold State.holdEdges
  refine DrainKept.trans ?_ (State.foldl_drainKept _ _ _ fun t i => by split <;> simp)
  split <;> simp

@[simp] theorem State.endHolds_drainKept (s before : State) : DrainKept s (s.endHolds before) := by
  unfold State.endHolds
  split <;> simp

@[simp] theorem State.drainIngress_drainKept (s : State) : DrainKept s s.drainIngress := by simp [State.drainIngress]

/-! ### Tests, the ring and the slots that are freed -/

@[simp] theorem State.notePattern_drainKept (s : State) (c rows : Nat) : DrainKept s (s.notePattern c rows) := by
  unfold State.notePattern
  split <;> simp

@[simp] theorem State.leavePattern_drainKept (s : State) (c rows : Nat) : DrainKept s (s.leavePattern c rows) := by
  unfold State.leavePattern
  split <;> simp

@[simp] theorem State.cutPattern_drainKept (s : State) (u : Nat) : DrainKept s (s.cutPattern u) := by
  unfold State.cutPattern
  split <;> simp

@[simp] theorem State.cutTests_drainKept (s : State) : DrainKept s s.cutTests := by simp [State.cutTests]

@[simp] theorem State.flushRing_drainKept (s : State) : DrainKept s s.flushRing := by
  unfold State.flushRing
  split <;> simp

@[simp] theorem State.answerSlots_drainKept (s : State) : DrainKept s s.answerSlots := by simp [State.answerSlots]

@[simp] theorem State.afterFree_drainKept (s : State) (old : Map Slot) : DrainKept s (s.afterFree old) := by
  simp [State.afterFree]

end Sys2Proof.Machine
end

section
/-! PROOFS. The COLD reset (R341, R343): what its drain, its stop and its start keep, and where it leads. -/

namespace Sys2Proof.Machine

/-! ### What a COLD reset keeps once its drain is over -/

/-- No byte of DRAM differs, nor do the segments to erase, the media key, the input, the level of protection and the stored count
of COLD resets. -/
structure ColdKept (s t : State) : Prop where
  mem : t.mem = s.mem
  marked : t.nand.marked = s.nand.marked
  mediaKey : t.nand.keyPresent = s.nand.keyPresent
  input : t.niura.inputGood = s.niura.inputGood
  level : t.eflash.rdpLevel = s.eflash.rdpLevel
  count : t.regs.find? (key 0x1102 2) = s.regs.find? (key 0x1102 2)

theorem ColdKept.trans {s t u : State} (h : ColdKept s t) (k : ColdKept t u) : ColdKept s u :=
  ⟨k.mem.trans h.mem, k.marked.trans h.marked, k.mediaKey.trans h.mediaKey, k.input.trans h.input, k.level.trans h.level,
    k.count.trans h.count⟩

theorem WayKept.coldKept {s t : State} (h : WayKept s t) : ColdKept s t :=
  ⟨h.mem, by rw [h.nand], by rw [h.nand], h.input, h.level, h.entries _ (key_resetEntry (sub := 2) (.inr rfl) (by decide))⟩

/-- Access closes, and the logic outside the always-on domain is reset: the count of COLD resets is of class D. -/
theorem State.coldLogic_spec (s : State) : ColdKept s s.coldControl.coldLogic ∧ s.coldControl.coldLogic.ctl.access = false := by
  have hkeeps : keptCold (key 0x1102 2) = true := by decide
  exact ⟨⟨rfl, rfl, rfl, rfl, rfl, Map.find?_filter_of_true fun _ => hkeeps⟩, rfl⟩

theorem State.toInput_wayKept (s : State) : WayKept s s.toInput := ⟨rfl, rfl, rfl, rfl, rfl, id, fun _ _ => rfl⟩

theorem State.clearTimeout_wayKept (s : State) : WayKept s s.clearTimeout := by
  unfold State.clearTimeout
  split
  · exact ⟨rfl, rfl, rfl, rfl, rfl, id, fun _ _ => rfl⟩
  · exact .trans (t := { s with niura := { s.niura with charger := .off, faultTimeout := false, faultOver := false, chargeBeats := 0 } })
      ⟨rfl, rfl, rfl, rfl, rfl, id, fun _ _ => rfl⟩ (.of_start (.reports (State.condClear_reports _ _)))

/-- Niura leaves REHEARSE and TEST, a charge timeout clears, and HALTED is left. -/
theorem State.coldNiura_wayKept (s : State) : WayKept s s.coldNiura := by
  have hsupply : WayKept s (if s.niura.supply = .rehearse then s.toInput
      else if s.niura.supply = .test then { s with niura := { s.niura with healthTrial := false } }.toInput else s) := by
    split_ifs
    · exact s.toInput_wayKept
    · exact ⟨rfl, rfl, rfl, rfl, rfl, id, fun _ _ => rfl⟩
    · exact .refl s
  unfold State.coldNiura
  dsimp only
  generalize (if s.niura.supply = .rehearse then s.toInput
    else if s.niura.supply = .test then { s with niura := { s.niura with healthTrial := false } }.toInput else s) = t at hsupply ⊢
  have hcharger : WayKept s (if t.niura.charger = .fault ∧ t.niura.faultTimeout = true then t.clearTimeout else t) := by
    split
    · exact hsupply.trans t.clearTimeout_wayKept
    · exact hsupply
  generalize (if t.niura.charger = .fault ∧ t.niura.faultTimeout = true then t.clearTimeout else t) = u at hcharger ⊢
  split
  · exact hcharger.trans (.of_start (.setReg u 0 (key_not_resetEntry (by decide))))
  · exact hcharger

/-! ### The start that follows -/

/-- A new media key clears the leaf map, and leaves the segments to erase. -/
theorem State.newKey_spec (s : State) : s.newKey.mem = s.mem ∧ s.newKey.nand.marked = s.nand.marked ∧ s.newKey.nand.copies = []
    ∧ s.newKey.niura = s.niura ∧ s.newKey.eflash = s.eflash ∧ s.newKey.ctl = s.ctl
    ∧ ∀ k, resetEntry k → s.newKey.regs.find? k = s.regs.find? k :=
  ⟨rfl, rfl, rfl, rfl, rfl, rfl, fun _ hk => Map.find?_put_of_ne _ _ _ _ fun e => key_not_resetEntry (idx := 0x5050) (by decide) (e ▸ hk)⟩

/-- What a COLD reset's start leaves: nothing of DRAM, of the segments to erase, of the input or of the entries of the resets
moves, and with no media key the leaf map is empty. -/
structure ColdStarted (s t : State) : Prop where
  mem : t.mem = s.mem
  marked : t.nand.marked = s.nand.marked
  copies : s.nand.keyPresent = false → t.nand.copies = []
  input : t.niura.inputGood = s.niura.inputGood
  level : t.eflash.rdpLevel = s.eflash.rdpLevel
  entries : ∀ k, resetEntry k → t.regs.find? k = s.regs.find? k

theorem ColdStarted.way {s t u : State} (h : ColdStarted s t) (k : WayKept t u) : ColdStarted s u :=
  ⟨k.mem.trans h.mem, (congrArg Nand.marked k.nand).trans h.marked, fun hk => (congrArg Nand.copies k.nand).trans (h.copies hk),
    k.input.trans h.input, k.level.trans h.level, fun e he => (k.entries e he).trans (h.entries e he)⟩

theorem State.startUp_spec (s : State) : ColdStarted s s.startUp := by
  have hstart : StartKept s ((s.flashStart.bootRom true).requalifyPairs).holdTest :=
    ((s.flashStart_startKept.trans (State.bootRom_startKept _ true)).trans (State.requalifyPairs_startKept _)).trans
      (State.holdTest_startKept _)
  unfold State.startUp
  dsimp only
  generalize ((s.flashStart.bootRom true).requalifyPairs).holdTest = t at hstart ⊢
  split
  next hkey =>
    refine ⟨hstart.data.1, by rw [hstart.nand], fun hnone => ?_, by rw [hstart.niura], hstart.level, hstart.entries⟩
    rw [hstart.nand, hnone] at hkey
    exact absurd hkey Bool.false_ne_true
  · obtain ⟨hmem, hmarked, hcopies, hniura, heflash, -, hentries⟩ := t.newKey_spec
    exact ⟨hmem.trans hstart.data.1, hmarked.trans (by rw [hstart.nand]), fun _ => hcopies, by rw [hniura, hstart.niura],
      (congrArg Eflash.rdpLevel heflash).trans hstart.level, fun k hk => (hentries k hk).trans (hstart.entries k hk)⟩

/-- The end of a COLD reset leads to BRING-UP or DORMANT by the input, with host access closed. -/
theorem State.coldEnd_spec (s : State) : WayKept s s.coldEnd
    ∧ s.coldEnd.ctl.mode = (if s.niura.inputGood then .bringUp else .dormant) ∧ s.coldEnd.ctl.access = false := by
  unfold State.coldEnd
  split
  next hgood =>
    have hinput : WayKept s (if s.niura.supply = .holdup then s.toInput else s) := by
      split
      · exact s.toInput_wayKept
      · exact .refl s
    obtain ⟨hway, hmode, haccess⟩ := (if s.niura.supply = .holdup then s.toInput else s).startBringUp_spec
    exact ⟨hinput.trans hway, hmode, haccess⟩
  next => exact s.enterDormant_spec

/-- What follows the count of a COLD reset. -/
def State.coldRest (s : State) : State := ((s.takeRequalify.trestleStart).startUp).coldEnd

theorem State.coldRest_spec (s : State) : ColdStarted s s.coldRest
    ∧ s.coldRest.ctl.mode = (if s.niura.inputGood then .bringUp else .dormant) ∧ s.coldRest.ctl.access = false := by
  unfold State.coldRest
  have hfirst : WayKept s s.takeRequalify.trestleStart :=
    ⟨rfl, rfl, rfl, rfl, rfl, id, fun k hk => Map.find?_put_of_ne _ _ _ _ fun e =>
      key_not_resetEntry (idx := 0x4800) (sub := 4) (by decide) (e ▸ hk)⟩
  have hstart := s.takeRequalify.trestleStart.startUp_spec
  have hbegun : ColdStarted s s.takeRequalify.trestleStart.startUp :=
    ⟨hstart.mem.trans hfirst.mem, hstart.marked.trans (by rw [hfirst.nand]), fun hk => hstart.copies (by rw [hfirst.nand, hk]),
      hstart.input.trans hfirst.input, hstart.level.trans hfirst.level,
      fun k hk => (hstart.entries k hk).trans (hfirst.entries k hk)⟩
  obtain ⟨hway, hmode, haccess⟩ := s.takeRequalify.trestleStart.startUp.coldEnd_spec
  rw [hbegun.input] at hmode
  exact ⟨hbegun.way hway, hmode, haccess⟩

/-! ### The whole reset -/

/-- The reset's cause is recorded, and it is counted. -/
def State.coldCounted (s : State) (cause : ColdCause) : State := (s.setReg 0x1101 0 (coldCode cause)).addReg 0x1102 2 1

/-- The state in which a COLD reset drains: whether a new layout may take effect is noted (R82). -/
def State.coldBegun (s : State) : State :=
  { s with ctl := { s.ctl with layoutOk := if s.ctl.dramHeld then s.groups.slots.all (fun e => e.2.state == .free) && s.groups.decisions.isEmpty
                                           else s.imageFree } }

/-- A COLD reset before its start: drained, stopped, and reset. -/
def State.coldStopped (s : State) : State := s.coldBegun.coldDrain.coldControl.coldLogic.coldNiura

theorem State.coldReset_eq {s : State} (hmode : s.ctl.mode ≠ .save) (harm : s.save.arm = 0) (cause : ColdCause) :
    s.coldReset cause = (s.coldStopped.coldCounted cause).coldRest := by
  simp only [State.coldReset, State.coldRest, State.coldCounted, State.coldStopped, State.coldBegun, hmode, harm, ne_eq,
    not_true_eq_false, or_self, if_false]

/-- The drain keeps the input and the count of COLD resets. -/
theorem State.coldDrain_spec (s : State) : s.coldDrain.niura = s.niura
    ∧ s.coldDrain.regs.find? (key 0x1102 2) = s.regs.find? (key 0x1102 2) := by
  have hdrain : DrainKept s (if s.ctl.access then s.drainIngress.uncopy else s) := by split <;> simp
  have hall : DrainKept s (if s.ctl.access then s.drainIngress.uncopy else s).flushRing.cutTests :=
    hdrain.trans (by simp)
  exact ⟨hall.1, hall.2.1⟩

/-- With host access closed and no test running the drain only flushes the ring and stops the store. -/
theorem State.coldDrain_closed {s : State} (haccess : s.ctl.access = false) (htests : s.test.running = []) :
    ColdKept s s.coldDrain := by
  have hrunning : s.flushRing.test.running = [] := s.flushRing_drainKept.2.2.2.2.1.trans htests
  have hcut : s.flushRing.cutTests = s.flushRing := by rw [State.cutTests, hrunning]; rfl
  have hdrain : s.coldDrain = { s.flushRing with nand := s.flushRing.storeCut } := by
    rw [State.coldDrain, haccess]
    dsimp only
    rw [if_neg Bool.false_ne_true, hcut]
  have hflush : s.flushRing.mem = s.mem ∧ s.flushRing.nand = s.nand ∧ s.flushRing.niura = s.niura
      ∧ s.flushRing.eflash = s.eflash ∧ s.flushRing.regs = s.regs := by
    unfold State.flushRing
    split <;> exact ⟨rfl, rfl, rfl, rfl, rfl⟩
  obtain ⟨hmem, hnand, hniura, heflash, hregs⟩ := hflush
  have hcutStore : s.flushRing.storeCut.marked = s.flushRing.nand.marked
      ∧ s.flushRing.storeCut.keyPresent = s.flushRing.nand.keyPresent := ⟨rfl, rfl⟩
  rw [hnand] at hcutStore
  obtain ⟨hmarked, hkey⟩ := hcutStore
  rw [hdrain]
  exact ⟨hmem, hmarked, hkey, congrArg Niura.inputGood hniura, congrArg Eflash.rdpLevel heflash, congrArg (Map.find? · _) hregs⟩

theorem State.coldStopped_spec (s : State) : s.coldStopped.niura.inputGood = s.niura.inputGood
    ∧ s.coldStopped.regs.find? (key 0x1102 2) = s.regs.find? (key 0x1102 2) := by
  obtain ⟨hniura, hcount⟩ := s.coldBegun.coldDrain_spec
  unfold State.coldStopped
  generalize s.coldBegun.coldDrain = d at hniura hcount ⊢
  obtain ⟨hlogic, -⟩ := d.coldLogic_spec
  have hkept := hlogic.trans d.coldControl.coldLogic.coldNiura_wayKept.coldKept
  exact ⟨hkept.input.trans (congrArg Niura.inputGood hniura), hkept.count.trans hcount⟩

theorem State.coldStopped_closed {s : State} (haccess : s.ctl.access = false) (htests : s.test.running = []) :
    ColdKept s s.coldStopped := by
  have hbegun : ColdKept s s.coldBegun := ⟨rfl, rfl, rfl, rfl, rfl, rfl⟩
  have hdrain := hbegun.trans (State.coldDrain_closed (s := s.coldBegun) haccess htests)
  unfold State.coldStopped
  generalize s.coldBegun.coldDrain = d at hdrain ⊢
  obtain ⟨hlogic, -⟩ := d.coldLogic_spec
  exact (hdrain.trans hlogic).trans d.coldControl.coldLogic.coldNiura_wayKept.coldKept

/-- The count and the start, of whatever has been stopped. -/
theorem State.coldCounted_spec (s : State) (cause : ColdCause) :
    (s.coldCounted cause).regs.find? (key 0x1101 0) = some (coldCode cause) ∧ Counted s (s.coldCounted cause) 0x1102 2 1 := by
  refine ⟨(Map.find?_put_of_ne _ _ _ _ (by decide)).trans (Map.find?_put_self _ _ _), ?_⟩
  have hfirst : (s.setReg 0x1101 0 (coldCode cause)).reg 0x1102 2 = s.reg 0x1102 2 := s.reg_setReg_of_ne _ (by decide)
  exact ((State.addReg_counted _ 0x1102 2 1).of_reg hfirst).resetCount rfl

/-- A COLD reset with no SAVE running or armed records its cause, is counted, closes host access and leads on by the input. -/
theorem State.coldReset_spec {s : State} (hmode : s.ctl.mode ≠ .save) (harm : s.save.arm = 0) (cause : ColdCause) :
    (s.coldReset cause).regs.find? (key 0x1101 0) = some (coldCode cause) ∧ Counted s (s.coldReset cause) 0x1102 2 1
      ∧ (s.coldReset cause).ctl.access = false
      ∧ (s.coldReset cause).ctl.mode = (if s.niura.inputGood then .bringUp else .dormant) := by
  obtain ⟨hinput, hcount⟩ := s.coldStopped_spec
  rw [State.coldReset_eq hmode harm, ← hinput]
  generalize s.coldStopped = u at hcount ⊢
  obtain ⟨hcause, hcounted⟩ := u.coldCounted_spec cause
  obtain ⟨hrest, hway, haccess⟩ := (u.coldCounted cause).coldRest_spec
  exact ⟨(hrest.entries _ (key_resetEntry (sub := 0) (.inl rfl) (by decide))).trans hcause,
    (hcounted.of_reg (State.resetCount_congr hcount)).resetCount
      (hrest.entries _ (key_resetEntry (sub := 2) (.inr rfl) (by decide))), haccess, hway⟩

/-- With host access closed and no test running it keeps DRAM, the segments to erase and the level of protection, and with no
media key the leaf map is empty. -/
theorem State.coldReset_closed {s : State} (hmode : s.ctl.mode ≠ .save) (harm : s.save.arm = 0) (haccess : s.ctl.access = false)
    (htests : s.test.running = []) (cause : ColdCause) :
    (s.coldReset cause).mem = s.mem ∧ (s.coldReset cause).nand.marked = s.nand.marked
      ∧ (s.nand.keyPresent = false → (s.coldReset cause).nand.copies = [])
      ∧ (s.coldReset cause).eflash.rdpLevel = s.eflash.rdpLevel := by
  have hkept := State.coldStopped_closed haccess htests
  rw [State.coldReset_eq hmode harm]
  generalize s.coldStopped = u at hkept ⊢
  obtain ⟨hrest, -⟩ := (u.coldCounted cause).coldRest_spec
  exact ⟨hrest.mem.trans hkept.mem, hrest.marked.trans hkept.marked, fun hkey => hrest.copies (hkept.mediaKey.trans hkey),
    hrest.level.trans hkept.level⟩

end Sys2Proof.Machine
end

section
/-! PROOFS. The erases of a lowering of read-out protection (R264, R420). -/

namespace Sys2Proof.Machine

/-! ### Empty DRAM stays empty -/

theorem State.validate_empty {s : State} (h : s.mem = []) (leaf : Nat) : (s.validate leaf).mem = [] := by
  unfold State.validate
  split
  · exact congrArg (Mem.clear · (leaf * 65536) 65536) h
  · exact h

theorem State.pin_empty {s : State} (h : s.mem = []) (leaf : Nat) : (s.pin leaf).mem = [] := by
  unfold State.pin
  split_ifs <;> simp [h, State.validate_empty]

theorem State.claimAll_empty {s : State} (h : s.mem = []) (a : DeskArgs) : (s.claimAll a).mem = [] :=
  State.foldl_holds (fun t => t.mem = []) _ (fun _ f ht => State.pin_empty ht f) _ _ h

theorem State.deskEffect_empty {s : State} (h : s.mem = []) (opcode : Nat) (a : DeskArgs) : (s.deskEffect opcode a).mem = [] := by
  unfold State.deskEffect
  dsimp only
  repeat' split
  all_goals simp [h, State.claimAll_empty]

/-- A slot command stores nothing. -/
theorem State.deskRun_empty {s : State} (h : s.mem = []) (opcode : Nat) (a : DeskArgs) : (s.deskRun opcode a).mem = [] := by
  unfold State.deskRun
  dsimp only
  repeat' split
  all_goals simp [h, State.deskEffect_empty]

theorem State.deskNext_empty {s : State} (h : s.mem = []) (g : Nat) (c : Nat × DeskArgs) : (State.deskNext g s c).mem = [] := by
  unfold State.deskNext
  dsimp only
  split_ifs <;> simp [h, State.deskRun_empty]

theorem State.deskResume_empty {s : State} (h : s.mem = []) (g : Nat) : (s.deskResume g).mem = [] :=
  State.foldl_holds (fun t => t.mem = []) _ (fun _ c ht => State.deskNext_empty ht g c) _ _ h

theorem State.afterFree_empty {s : State} (h : s.mem = []) (old : Map Slot) : (s.afterFree old).mem = [] := by
  have hrun := State.foldl_holds (fun t : State => t.mem = [])
    (fun t e => (((e.2.mail.foldl (State.mailAnswer e.1) t).answerReads e.1).setSlot e.1
      { ((e.2.mail.foldl (State.mailAnswer e.1) t).answerReads e.1).slot e.1 with waiting := e.2.waiting }).deskResume e.1)
    (fun t e ht => State.deskResume_empty (by simpa using ht) e.1)
    (old.filter fun e => !e.2.mail.isEmpty || !e.2.waiting.isEmpty) s h
  exact ((State.answerSlots_frame _).2.2.1).trans hrun

/-! ### The image is erased -/

theorem State.newSegment_marked {s t : State} {lun n : Nat} (h : s.newSegment lun = some (t, n)) : t.nand.marked = s.nand.marked := by
  unfold State.newSegment at h
  split at h
  · cases h
  · cases h
    rfl

theorem State.openMissing_marked (s : State) (lun : Nat) : (s.openMissing lun).nand.marked = s.nand.marked := by
  unfold State.openMissing State.openSegment
  split
  · rfl
  · split
    · rfl
    next h =>
      have hnew := State.newSegment_marked h
      exact hnew

theorem State.openMetaSegment_marked (s : State) : s.openMetaSegment.nand.marked = s.nand.marked := by
  unfold State.openMetaSegment
  split
  · rfl
  · split
    · rfl
    next h =>
      have hnew := State.newSegment_marked h
      exact hnew

/-- Segments that are opened anew are not among those to erase. -/
theorem State.openAll_marked (s : State) : s.openAll.nand.marked = s.nand.marked := by
  have hfold : ((List.range s.nandLuns).foldl State.openMissing s).nand.marked = s.nand.marked :=
    State.foldl_holds (fun t => t.nand.marked = s.nand.marked) _ (fun t l ht => (t.openMissing_marked l).trans ht) _ s rfl
  unfold State.openAll
  dsimp only
  split
  · exact hfold
  · exact (State.openMetaSegment_marked _).trans hfold

/-- Every segment is left to erase. -/
theorem State.clearStore_marked (s : State) : s.clearStore.nand.marked = s.nand.segments.map (·.1) := by
  unfold State.clearStore
  refine (State.openAll_marked _).trans ?_
  exact List.map_map

/-- Nothing is left in DRAM, and what a drain keeps is kept. -/
theorem State.emptyImage_spec (s : State) : s.emptyImage.mem = [] ∧ DrainKept s s.emptyImage := by
  unfold State.emptyImage
  exact ⟨State.afterFree_empty rfl _, .trans ⟨rfl, rfl, rfl, rfl, rfl, rfl⟩ (State.afterFree_drainKept _ _)⟩

/-! ### A lowering (R420) -/

/-- Host access closes, and the image is erased. -/
def State.imageErased (s : State) : State := { s with ctl := { s.ctl with access := false } }.clearStore.emptyImage

theorem State.imageErased_spec (s : State) : s.imageErased.mem = [] ∧ s.imageErased.ctl.access = false
    ∧ s.imageErased.save.arm = s.save.arm ∧ s.imageErased.test.running = s.test.running
    ∧ s.imageErased.nand.marked = s.nand.segments.map (·.1) ∧ s.imageErased.ctl.mode = s.ctl.mode := by
  have hstore := State.clearStore_sameButNand { s with ctl := { s.ctl with access := false } }
  have hstored := State.clearStore_marked { s with ctl := { s.ctl with access := false } }
  unfold State.imageErased
  generalize { s with ctl := { s.ctl with access := false } }.clearStore = u at hstore hstored ⊢
  obtain ⟨hmem, -, -, haccess, harm, htests, hmarked⟩ := u.emptyImage_spec
  exact ⟨hmem, haccess.trans (by rw [hstore]), harm.trans (by rw [hstore]), htests.trans (by rw [hstore]), hmarked.trans hstored,
    u.emptyImage_frame.2.1.trans (by rw [hstore])⟩

/-- The media key, both banks with the values in them, and the level are erased. -/
def State.keysErased (s : State) : State :=
  let t := { s with nand := { s.nand with keyPresent := false },
                    eflash := { s.eflash with banks := [(0, Bank.reset), (1, Bank.reset)], rdpLevel := 0, lowerArm := none },
                    chest := { s.chest with eflash := [], spoolSector := 0, spoolUsed := 0 },
                    dram := { s.dram with records := [], shared := [], evicted := [] },
                    security := { s.security with slots := [] } }
  ((t.dropClass .p).dropClass .d).setReg 0x2400 3 1

theorem State.rdpErase_eq (s : State) : s.rdpErase = s.imageErased.keysErased := by
  simp only [State.rdpErase, State.imageErased, State.keysErased]

/-- What the erases of a lowering leave for the COLD reset that follows. -/
structure Lowered (s t : State) : Prop where
  mem : t.mem = []
  mediaKey : t.nand.keyPresent = false
  level : t.eflash.rdpLevel = 0
  access : t.ctl.access = false
  arm : t.save.arm = s.save.arm
  tests : t.test.running = s.test.running
  marked : t.nand.marked = s.nand.segments.map (·.1)
  mode : t.ctl.mode = s.ctl.mode

theorem State.rdpErase_lowered (s : State) : Lowered s s.rdpErase := by
  obtain ⟨hmem, haccess, harm, htests, hmarked, hmode⟩ := s.imageErased_spec
  rw [State.rdpErase_eq]
  generalize s.imageErased = u at *
  exact ⟨hmem, rfl, rfl, haccess, harm, htests, hmarked, hmode⟩

theorem Lowered.reports {s t u : State} (h : Lowered s t) (k : SameButReports t u) : Lowered s u := by
  obtain ⟨hmem, hkey, hlevel, haccess, harm, htests, hmarked, hmode⟩ := h
  exact ⟨by rw [k.1]; exact hmem, by rw [k.1]; exact hkey, by rw [k.1]; exact hlevel, by rw [k.2.1]; exact haccess,
    by rw [k.1]; exact harm, by rw [k.1]; exact htests, by rw [k.1]; exact hmarked, k.mode.trans hmode⟩

/-- A write of 0 to `rdp_level` from level 1 erases DRAM, the leaf map and every segment, and ends in a COLD reset. -/
theorem rdpLower_lowers {s : State} {role : Role} (hp : s.writePasses role 0x8010 0 0) (hlevel : s.eflash.rdpLevel = 1)
    (hmode : s.ctl.mode ≠ .save) (harm : s.save.arm = 0) (htests : s.test.running = []) :
    ∃ t, s.writeEntry role 0x8010 0 0 = .next t ∧ WriteAnswered s t role 0x8010 0 0 0 ∧ t.eflash.rdpLevel = 0 ∧ t.mem = []
      ∧ t.nand.copies = [] ∧ (∀ e ∈ s.nand.segments, e.1 ∈ t.nand.marked) ∧ t.reg 0x1101 0 = 6 ∧ t.ctl.access = false := by
  have hlowered := (s.asked role).rdpErase_lowered.reports (State.note_reports _ Code.rdpLowered [])
  have hwrite : (s.asked role).rdpWrite 0 = ((s.asked role).rdpErase.note Code.rdpLowered).coldReset .rdpLowered := by
    rw [State.rdpWrite, s.asked_eflash, hlevel, if_neg (by decide), if_neg (by decide)]
  have hsegments : (s.asked role).nand = s.nand := by
    unfold State.asked
    split <;> rfl
  generalize (s.asked role).rdpErase.note Code.rdpLowered = u at hlowered hwrite
  obtain ⟨hmem, hkey, hzero, haccess, harmed, hrunning, hmarked, hmodes⟩ := hlowered
  have hsave : u.ctl.mode ≠ .save := by rwa [hmodes, s.asked_mode]
  have hidle : u.save.arm = 0 := by rw [harmed, s.asked_save, harm]
  obtain ⟨t, ht, hout, hsettled⟩ := State.writeEntry_asks (x := u.coldReset .rdpLowered) hp (by decide) (congrArg some hwrite)
  obtain ⟨hcause, -, hclosed, -⟩ := State.coldReset_spec hsave hidle .rdpLowered
  obtain ⟨kmem, kmarked, kcopies, klevel⟩ :=
    State.coldReset_closed hsave hidle haccess (by rw [hrunning, s.asked_test, htests]) .rdpLowered
  have hnand : t.nand = (u.coldReset .rdpLowered).nand := by rw [hsettled.1]
  refine ⟨t, ht, hout, ?_, ?_, ?_, fun e he => ?_, ?_, ?_⟩
  · rw [hsettled.eflash, klevel, hzero]
  · rw [hsettled.dataKept.1, kmem, hmem]
  · rw [hnand, kcopies hkey]
  · rw [hnand, kmarked, hmarked, hsegments]
    exact List.mem_map_of_mem he
  · exact State.reg_of_find? ((hsettled.2 _ (by decide)).trans hcause)
  · rw [hsettled.1]
    exact hclosed

/-- A write of `cold_reset_request` with no SAVE running or armed is a COLD reset. -/
theorem coldResetRequest_resets {s : State} {role : Role} (hp : s.writePasses role 0x1120 0 1) (hmode : s.ctl.mode ≠ .save)
    (harm : s.save.arm = 0) :
    ∃ t, s.writeEntry role 0x1120 0 1 = .next t ∧ WriteAnswered s t role 0x1120 0 1 0 ∧ t.reg 0x1101 0 = 2
      ∧ Counted s t 0x1102 2 1 ∧ t.ctl.access = false
      ∧ t.ctl.mode = (if s.niura.inputGood then .bringUp else .dormant) := by
  obtain ⟨t, ht, hout, hsettled⟩ := State.writeEntry_asks (x := (s.asked role).coldReset .command) hp (by decide) rfl
  obtain ⟨hcause, hcount, haccess, hway⟩ := State.coldReset_spec (s := s.asked role) (by rwa [s.asked_mode])
    (by rwa [s.asked_save]) .command
  refine ⟨t, ht, hout, State.reg_of_find? ((hsettled.2 _ (by decide)).trans hcause), ?_, ?_, ?_⟩
  · exact (hcount.of_reg (s.asked_reg role (by decide))).resetCount (hsettled.2 _ (by decide))
  · rw [hsettled.1]
    exact haccess
  · rw [hsettled.dataKept.mode, hway, s.asked_niura]

end Sys2Proof.Machine
end

section
/-! PROOFS. Faults of running rails of role 1 (R322 to R324). -/

namespace Sys2Proof.Machine

/-! ### What a policy keeps -/

/-- No data, no count or voltage of a rail's faults differs, and a fault that has occurred stays sticky. -/
structure PolicyKept (s t : State) : Prop where
  data : DataKept s t
  entries : ∀ r < 32, ∀ sub, sub = 9 ∨ sub = 10 → t.reg (0x6400 + r) sub = s.reg (0x6400 + r) sub
  faults : ∀ code, s.hasFault code = true → t.hasFault code = true

theorem PolicyKept.trans {s t u : State} (h : PolicyKept s t) (k : PolicyKept t u) : PolicyKept s u :=
  ⟨h.data.trans k.data, fun r hr sub hsub => (k.entries r hr sub hsub).trans (h.entries r hr sub hsub),
    fun c hc => k.faults c (h.faults c hc)⟩

theorem RailsMoved.policyKept {s t : State} (h : RailsMoved s t) : PolicyKept s t :=
  ⟨h.dataKept, fun r hr sub hsub => h.reg (not_railEntry (by omega) (by omega) (by omega) (by omega)),
    fun code hc => (h.hasFault code).trans hc⟩

theorem railKey_notMem_reportEntries {r sub : Nat} (hr : r < 32) (hsub : sub < 256) : key (0x6400 + r) sub ∉ reportEntries := by
  simp only [reportEntries, key, List.mem_cons, List.not_mem_nil, or_false]
  omega

/-- PF_WARN_N is asserted: only reports go with it. -/
theorem State.warn_policyKept (s : State) : PolicyKept s s.warn := by
  have h := s.warn_reports
  refine ⟨.trans ⟨rfl, rfl, rfl, rfl, rfl, rfl⟩ h.dataKept,
    fun r hr sub hsub => h.niura_reg (by omega) (railKey_notMem_reportEntries hr (by omega)), fun code hc => ?_⟩
  unfold State.warn
  split
  · exact hc
  · refine (State.record_kept _ _ _ _).faults code ?_
    have hlinks := SameButLinks.foldl (fun (t : State) i => t.signal i 5) (fun t i => t.signal_sameButLinks i 5) s.upLinks
      ({ s with niura := { s.niura with pfWarn := true } }.raiseSource 48)
    exact hlinks.kept.faults code hc

/-- PF_WARN_N leaves the sequencer and the states of rails and groups. -/
theorem State.warn_rails (s : State) : s.warn.rails = s.rails ∧ s.warn.niura.pfWarn = true
    ∧ ∀ r < 32, s.warn.railState r = s.railState r := by
  have h := s.warn_reports
  refine ⟨by rw [h.1], by rw [h.niura], fun r hr => h.niura_reg (by omega) (railKey_notMem_reportEntries hr (by decide))⟩

/-! ### A group's grace (R323) -/

theorem State.beginGrace_policyKept (s : State) (g : Nat) (reset : Bool) : PolicyKept s (s.beginGrace g reset) :=
  s.warn_policyKept.trans (RailsMoved.rails _ _).policyKept

/-- The first fault of a group begins its grace at this beat. -/
theorem State.beginGrace_first {s : State} {g : Nat} (hnone : s.rails.grace.find? g = none) (reset : Bool) :
    (s.beginGrace g reset).rails.grace.find? g = some (s.clock.beat, reset) ∧ (s.beginGrace g reset).niura.pfWarn = true
      ∧ ∀ r < 32, (s.beginGrace g reset).railState r = s.railState r := by
  obtain ⟨-, hwarn, hstate⟩ := s.warn_rails
  refine ⟨?_, hwarn, hstate⟩
  show (s.rails.grace.put g _).find? g = _
  rw [Map.find?_put_self, hnone]
  rfl

/-! ### The policy of a rail of role 1 (R324) -/

/-- The policies of a rail of role 1 outside SAVE (Table 12.7). -/
def State.railPolicyActs (s : State) (r p tries : Nat) : State :=
  match p with
  | 1 => s.raiseSource 50
  | 2 =>
    if tries < 3 then
      { s with rails := { s.rails with retries := s.rails.retries.put r (tries + 1, s.clock.beat) } }.setRail r 0
    else s.beginGrace (s.railGroup r) false
  | 3 => s.warn.groupShut (s.railGroup r)
  | 4 => s.beginGrace (s.railGroup r) true
  | _ => s.beginGrace (s.railGroup r) false

/-- Retries of a rail in the last 1,000,000 beats. -/
def State.railTries (s : State) (r : Nat) : Nat :=
  match s.rails.retries.find? r with
  | some (n, b) => if s.clock.beat < b + 1000000 then n else 0
  | none => 0

theorem State.railPolicy_eq {s : State} {r : Nat} (hrole : s.railRole r = 1) (hmode : s.ctl.mode ≠ .save) :
    s.railPolicy r = s.railPolicyActs r (s.reg (0x6400 + r) 8) (s.railTries r) := by
  have hpolicy : (if s.railRole r = 2 ∧ s.reg (0x6400 + r) 8 ≠ 2 then 4 else s.reg (0x6400 + r) 8) = s.reg (0x6400 + r) 8 :=
    if_neg (by omega)
  unfold State.railPolicy
  dsimp only
  rw [hpolicy, decide_eq_false hmode]
  simp only [Bool.false_eq_true, false_and, if_false]
  rfl

theorem State.railPolicyActs_kept (s : State) (r p tries : Nat) : PolicyKept s (s.railPolicyActs r p tries) := by
  unfold State.railPolicyActs
  split
  · exact ⟨⟨rfl, rfl, rfl, rfl, rfl, rfl⟩, fun _ _ _ _ => rfl, fun _ h => h⟩
  · split
    · exact ((RailsMoved.rails s _).trans (State.setRail_moved _ r 0)).policyKept
    · exact s.beginGrace_policyKept _ _
  · exact s.warn_policyKept.trans (State.groupShut_spec _ _).1.policyKept
  · exact s.beginGrace_policyKept _ _
  · exact s.beginGrace_policyKept _ _

/-! ### The fault of a rail (R322) -/

/-- The fault has been counted and recorded with its voltage. -/
def State.railDetected (s : State) (r mv : Nat) : State :=
  (((s.setReg (0x6400 + r) 10 mv).addReg (0x6400 + r) 9 1).setRail r 3).fault Code.railFault r true

theorem State.railDetected_spec (s : State) {r : Nat} (hr : r < 32) (mv : Nat) : DataKept s (s.railDetected r mv)
    ∧ (s.railDetected r mv).reg (0x6400 + r) 10 = mv ∧ Counted s (s.railDetected r mv) (0x6400 + r) 9 1
    ∧ (s.railDetected r mv).hasFault Code.railFault = true ∧ (s.railDetected r mv).railState r = 3
    ∧ (s.railDetected r mv).rails = s.rails
    ∧ ∀ sub, sub < 7 ∨ sub = 8 → (s.railDetected r mv).reg (0x6400 + r) sub = s.reg (0x6400 + r) sub := by
  set u := ((s.setReg (0x6400 + r) 10 mv).addReg (0x6400 + r) 9 1).setRail r 3 with hu
  have hreports := u.fault_reports Code.railFault r true []
  have hreg : ∀ sub < 256, (u.fault Code.railFault r true).reg (0x6400 + r) sub = u.reg (0x6400 + r) sub := fun sub hsub =>
    hreports.niura_reg (by omega) (railKey_notMem_reportEntries hr hsub)
  have hset : ∀ (t : State) (sub v sub' : Nat), sub' ≠ sub → (t.setReg (0x6400 + r) sub v).reg (0x6400 + r) sub' = t.reg (0x6400 + r) sub' :=
    fun t sub v sub' h => t.reg_setReg_of_ne v (by unfold key; omega)
  have hadd : ∀ (t : State) (sub' : Nat), sub' ≠ 9 → (t.addReg (0x6400 + r) 9 1).reg (0x6400 + r) sub' = t.reg (0x6400 + r) sub' :=
    fun t sub' h => t.reg_addReg_of_ne 1 (by unfold key; omega)
  refine ⟨.trans ⟨rfl, rfl, rfl, rfl, rfl, rfl⟩ hreports.dataKept, ?_, ?_, State.fault_hasFault _ _ _ _ _, ?_, ?_, fun sub hsub => ?_⟩
  · exact (hreg 10 (by decide)).trans ((hset _ 7 3 10 (by decide)).trans ((hadd _ 10 (by decide)).trans (State.reg_setReg_self _ _ _ _)))
  · have hcount := ((s.setReg (0x6400 + r) 10 mv).addReg_counted (0x6400 + r) 9 1).of_reg (hset s 10 mv 9 (by decide))
    exact fun hn => (hreg 9 (by decide)).trans ((hset _ 7 3 9 (by decide)).trans (hcount hn))
  · exact (hreg 7 (by decide)).trans (State.railState_setRail_self _ r 3)
  · exact (congrArg State.rails hreports.1).trans rfl
  · exact (hreg sub (by omega)).trans ((hset _ 7 3 sub (by omega)).trans ((hadd _ sub (by omega)).trans (hset s 10 mv sub (by omega))))

theorem State.railDetected_niura (s : State) (r mv : Nat) : (s.railDetected r mv).niura = s.niura := by
  rw [State.railDetected, (State.fault_reports _ _ _ _ _).niura]
  rfl

/-- A rail of role 1 that fails outside SAVE is detected, and its policy acts. -/
theorem exec_railFault {s : State} {r : Fin 32} {mv : Nat} (hstate : s.railState r.val = 2) (hrole : s.railRole r.val = 1)
    (hmode : s.ctl.mode ≠ .save) : exec (.railFault r mv) s = .next ((s.fresh.railDetected r.val mv).railPolicyActs r.val
      (s.reg (0x6400 + r.val) 8) ((s.fresh.railDetected r.val mv).railTries r.val)) := by
  obtain ⟨hdata, -, -, -, -, -, hreg⟩ := s.fresh.railDetected_spec r.isLt mv
  have hrole' : (s.fresh.railDetected r.val mv).railRole r.val = 1 := (hreg 1 (.inl (by decide))).trans hrole
  have hquiet : (s.fresh.railDetected r.val mv).railRoleFault r.val = s.fresh.railDetected r.val mv := by
    unfold State.railRoleFault
    rw [hrole']
    rfl
  have hpolicy := State.railPolicy_eq hrole' (by rw [hdata.mode]; exact hmode)
  rw [hreg 8 (.inr rfl)] at hpolicy
  refine congrArg Host.Outcome.next ((if_pos ⟨hstate, by omega⟩).trans (.trans ?_ hpolicy))
  exact congrArg (fun t => State.railPolicy t r.val) hquiet

/-- The fault of a GOOD rail of role 1, by its policy. -/
theorem railFault_spec {s : State} {r : Fin 32} (mv : Nat) (hstate : s.railState r.val = 2) (hrole : s.railRole r.val = 1)
    (hmode : s.ctl.mode ≠ .save) :
    ∃ t, exec (.railFault r mv) s = .next t ∧ DataKept s t ∧ t.reg (0x6400 + r.val) 10 = mv
      ∧ Counted s t (0x6400 + r.val) 9 1 ∧ t.hasFault Code.railFault = true
      ∧ (s.reg (0x6400 + r.val) 8 = 1 → t.railState r.val = 3 ∧ t.rails = s.rails)
      ∧ (s.reg (0x6400 + r.val) 8 = 2 → s.rails.retries.find? r.val = none →
          t.railState r.val = 0 ∧ t.rails.retries.find? r.val = some (1, s.clock.beat))
      ∧ (s.reg (0x6400 + r.val) 8 = 0 → s.rails.grace.find? (s.railGroup r.val) = none →
          t.railState r.val = 3 ∧ t.niura.pfWarn = true
          ∧ t.rails.grace.find? (s.railGroup r.val) = some (s.clock.beat, false))
      ∧ (s.reg (0x6400 + r.val) 8 = 4 → s.rails.grace.find? (s.railGroup r.val) = none →
          t.rails.grace.find? (s.railGroup r.val) = some (s.clock.beat, true)) := by
  have hexec := exec_railFault (mv := mv) hstate hrole hmode
  obtain ⟨hdata, hvoltage, hcount, hfault, hfaulty, hrails, hreg⟩ := s.fresh.railDetected_spec r.isLt mv
  generalize s.fresh.railDetected r.val mv = u at *
  have hrailsU : u.rails = s.rails := hrails
  have hgroup : u.railGroup r.val = s.railGroup r.val := hreg 3 (.inl (by decide))
  have hbeat : u.clock.beat = s.clock.beat := by
    obtain ⟨-, -, -, -, -, hclock⟩ := hdata
    rw [hclock]
    rfl
  obtain ⟨kdata, kentries, kfaults⟩ := u.railPolicyActs_kept r.val (s.reg (0x6400 + r.val) 8) (u.railTries r.val)
  refine ⟨_, hexec, .trans ⟨rfl, rfl, rfl, rfl, rfl, rfl⟩ (hdata.trans kdata), (kentries _ r.isLt 10 (.inr rfl)).trans hvoltage,
    fun hn => (kentries _ r.isLt 9 (.inl rfl)).trans (hcount hn), kfaults _ hfault, fun hp => ?_, fun hp hnone => ?_,
    fun hp hnone => ?_, fun hp hnone => ?_⟩ <;> rw [hp]
  · exact ⟨hfaulty, hrailsU⟩
  · have htries : u.railTries r.val = 0 := by rw [State.railTries, hrailsU, hnone]
    rw [htries]
    refine ⟨State.railState_setRail_self _ r.val 0, ?_⟩
    show (u.rails.retries.put r.val (0 + 1, u.clock.beat)).find? r.val = _
    rw [Map.find?_put_self, hbeat]
  · obtain ⟨hgrace, hwarn, hstands⟩ := State.beginGrace_first (s := u) (g := u.railGroup r.val)
      (by rw [hrailsU, hgroup, hnone]) false
    refine ⟨(hstands _ r.isLt).trans hfaulty, hwarn, ?_⟩
    rw [← hgroup, ← hbeat]
    exact hgrace
  · obtain ⟨hgrace, -⟩ := State.beginGrace_first (s := u) (g := u.railGroup r.val) (by rw [hrailsU, hgroup, hnone]) true
    rw [← hgroup, ← hbeat]
    exact hgrace

/-! ### The end of a group's grace -/

/-- An ON group whose grace is over goes down. -/
theorem railGraceExpire_shuts {s : State} {g : Fin 16} {b : Nat} (hgrace : s.rails.grace.find? g.val = some (b, false))
    (hover : s.reg 0x6462 0 ≤ s.clock.beat - b) (hup : s.groupState g.val = 2) :
    ∃ t, exec (.railGraceExpire g) s = .next t ∧ DataKept s t ∧ t.rails.grace.find? g.val = none
      ∧ (t.groupState g.val = 3 ∨ t.groupState g.val = 0) := by
  have hexec : exec (.railGraceExpire g) s = .next (s.fresh.groupShut g.val) := by
    show execRailGraceExpire g s = _
    rw [execRailGraceExpire, hgrace]
    exact congrArg Host.Outcome.next (if_pos hover)
  obtain ⟨hmoved, hshut⟩ := s.fresh.groupShut_spec g.val
  have hup' : s.fresh.groupState g.val = 2 := hup
  obtain ⟨hgone, hstate⟩ := hshut (by omega) (by omega)
  refine ⟨_, hexec, .trans ⟨rfl, rfl, rfl, rfl, rfl, rfl⟩ hmoved.dataKept, ?_, hstate⟩
  rw [hgone]
  exact Map.find?_del_self _ _

/-- Where the grace of a SYSTEM_RESET is over, a COLD reset follows. -/
theorem railGraceExpire_resets {s : State} {g : Fin 16} {b : Nat} (hgrace : s.rails.grace.find? g.val = some (b, true))
    (hover : s.reg 0x6462 0 ≤ s.clock.beat - b) (hmode : s.ctl.mode ≠ .save) (harm : s.save.arm = 0) :
    ∃ t, exec (.railGraceExpire g) s = .next t ∧ t.reg 0x1101 0 = 3 ∧ Counted s t 0x1102 2 1 ∧ t.ctl.access = false
      ∧ t.ctl.mode = (if s.niura.inputGood then .bringUp else .dormant) := by
  have hexec : exec (.railGraceExpire g) s
      = .next ({ s.fresh with rails := { s.rails with grace := s.rails.grace.del g.val } }.coldReset .rail) := by
    show execRailGraceExpire g s = _
    rw [execRailGraceExpire, hgrace]
    exact congrArg Host.Outcome.next (if_pos hover)
  obtain ⟨hcause, hcount, haccess, hway⟩ := State.coldReset_spec
    (s := { s.fresh with rails := { s.rails with grace := s.rails.grace.del g.val } }) hmode harm .rail
  exact ⟨_, hexec, State.reg_of_find? hcause, hcount, haccess, hway⟩

/-- Settles O49: a fault by the policy of its rail, the end of a grace by what was to follow it. -/
theorem railFaultsAct : Obligations.RailFaultsAct := by
  unfold Obligations.RailFaultsAct
  exact ⟨fun s r mv hstate hrole hmode => railFault_spec mv hstate hrole hmode,
    fun s g b hgrace hover hup => railGraceExpire_shuts hgrace hover hup,
    fun s g b hgrace hover hmode harm => railGraceExpire_resets hgrace hover hmode harm⟩

end Sys2Proof.Machine
end

section
/-! PROOFS. The writes that ask for saves, resets, rails, time, faults and protection, together. -/

namespace Sys2Proof.Machine

/-- A write of `save_request` of 1 or 2 arms its save. -/
theorem saveRequest_command {s : State} {role : Role} (hp : s.writePasses role 0x5410 0 1) :
    ∃ t, exec (.saveAndResume role) s = .next t ∧ DataKept s t ∧ WriteAnswered s t role 0x5410 0 1 0
      ∧ t.save = { s.save with state := .arming, trigger := .command, arm := 2 } ∧ RegsKept s t dictEntries :=
  saveRequest_arms (by decide) hp

theorem saveRequest_halt {s : State} {role : Role} (hp : s.writePasses role 0x5410 0 2) :
    ∃ t, exec (.saveAndHalt role) s = .next t ∧ DataKept s t ∧ WriteAnswered s t role 0x5410 0 2 0
      ∧ t.save = { s.save with state := .arming, trigger := .commandHalt, arm := 2 } ∧ RegsKept s t dictEntries :=
  saveRequest_arms (by decide) hp

/-- Settles O52: each write acts and is answered (`State.writeEntry_asks`), and each action by its own lemma; the COLD resets
among them by `State.coldReset_spec`. -/
theorem writesThatAsk : Obligations.WritesThatAsk := by
  unfold Obligations.WritesThatAsk
  exact ⟨fun _ _ hp => saveRequest_command hp, fun _ _ hp => saveRequest_halt hp,
    fun _ _ hp hmode harm => coldResetRequest_resets hp hmode harm,
    fun _ _ hp hbusy hnone => coldResetRequest_latched hp hbusy hnone,
    fun _ _ hp hmode => bureauResetRequest_begins hp hmode,
    fun _ _ _ hp hsel _ _ hrest => blockResetRequest_begins hp hsel hrest,
    fun _ _ hp hfault htimeout => chargerFaultClear_clears hp hfault htimeout,
    fun _ _ hp hhalted hgood hmode hlock => seqRetryRequest_bringsUp hp hhalted hgood hmode hlock,
    fun _ _ hp hhalted hstays => seqRetryRequest_stays hp hhalted hstays,
    fun _ _ g _ hp hv => groupEnable_stores g hp hv,
    fun _ _ _ hp hv => wallTimeWrite_sets hp hv,
    fun _ _ b hp => faultClear_clears b hp,
    fun _ _ _ hp hrises hv => rdpRaise_raises hp hrises hv,
    fun _ _ hp => rdpLowerArm_arms hp,
    fun _ _ hp hlevel hmode harm htests => rdpLower_lowers hp hlevel hmode harm htests,
    fun _ _ hp => keyRevokeArm_arms hp,
    fun _ _ k hp => keyRevoke_revokes k hp⟩

end Sys2Proof.Machine
end
